-- ==== Sys2Proof/Word.lean ====
section
/-! DEFINITION. The words of the block: a byte, and the register word. Everything the spec treats as a number (a count, an
address while it names a place, an index, a field of a register) is a Nat; what it treats as stored bytes is a `Byte`. -/

namespace Sys2Proof

/-- One byte of memory, of a packet or of a data structure. -/
abbrev Byte := BitVec 8

/-- The value of a 64-bit register, or of a 32-bit one in its lower half. -/
abbrev Word := BitVec 64

/-- The value a read answers for what does not exist (R13, R42): all ones in the width of the access. -/
def allOnes (width : Nat) : Nat := 2 ^ (8 * width) - 1

end Sys2Proof
end

