-- ==== Sys2Proof/Syntax.lean ====
section
/-! DEFINITION. The commands of the block as data: who sends an access, the small data the commands carry, and `Instr`, one
constructor for each row of the table of steps (opcode_table.json). An operand is what the block is told from outside: the agent,
address and value of an access, the content of a packet, a frame or a completion, the result the media or a sensor gives. -/

namespace Sys2Proof.Machine

/-- Who reads and writes control space (R11, R12, R41): PF0 through BAR2, a core by its number (01, Cores), and the fault
collector, which submits reset requests (R570). -/
inductive Agent where
  | pf0
  | core (n : Nat)
  | collector
  deriving DecidableEq, Repr

/-- What a disable point disables (R113): a function, one NVMe controller or submission queue, or one Jexash queue. -/
inductive Scope where
  | fn (f : Nat)
  | controller (f : Nat)
  | sq (f sqid : Nat)
  | queue (q : Nat)
  deriving DecidableEq, Repr

/-- How a Translation Request ends (R105, R238). -/
inductive XlatResult where
  | ok (write : Bool)
  | unsupported
  | aborted
  deriving DecidableEq, Repr

/-- How a DMA read ends (R123). -/
inductive DmaStatus where
  | ok | poisoned | unsupported | aborted
  deriving DecidableEq, Repr

/-- One range of a Dataset Management command. -/
structure LbaRange where
  lba : Nat
  len : Nat
  deriving DecidableEq, Repr

/-- A plan entry (R59): START, OP, CLASS, SUSP_OK, EST and DESC. -/
structure PEntry where
  start : Nat
  op : Nat
  cls : Nat
  suspOk : Bool
  est : Nat
  desc : Nat
  deriving DecidableEq, Repr

/-- How the fast or deep decode of one unit ends (R329, R393): verified with a count of corrected bits, failed, converged but
failing DCRC, or blank. -/
inductive UnitResult where
  | verified (corrected : Nat)
  | failed
  | miscorrect
  | blank
  deriving DecidableEq, Repr

/-- What a codeword with an uncorrectable error held (R423). -/
inductive Held where
  /-- staged data of a unit, in channel staging -/
  | staging (place : Nat)
  /-- the window of an engine -/
  | window (engine : Nat)
  /-- a line of the map cache -/
  | line (node l : Nat)
  /-- a page of the DRAM store -/
  | page (node p : Nat)
  /-- the journal buffer -/
  | journal
  /-- write-buffer data, by place -/
  | buffer (place : Nat)
  /-- the private memory of a core -/
  | core (n : Nat)
  /-- a function's queue state (R123) -/
  | queueState (fn : Nat)
  deriving DecidableEq, Repr

/-- What the ROM finds of a die at bring-up (R312, R336, R345, R396): interface mode (0 NV-LPDDR4, 1 JESD230), page size in KiB,
geometry, longest suspend time in µs, cache read, whether it meets the SLC and TLC limits and the QLC limits, its own suspension
limits, the length of its read-retry table and its factory-marked blocks. -/
structure DiePage where
  ifMode : Nat
  pageKib : Nat
  planes : Nat
  wlb : Nat
  blocks : Nat
  suspUs : Nat
  cacheRead : Bool
  slcTlc : Bool
  qlc : Bool
  slimP : Nat
  slimE : Nat
  retry : Nat
  factory : List Nat
  deriving DecidableEq, Repr

/-- What the bring-up of a channel meets (R316, R317): the die at each position, and the rate codes that training passes. -/
structure ChannelPages where
  dies : List (Option DiePage)
  trains : List Nat
  deriving DecidableEq, Repr

/-- A component of an image (R590): type, INTERFACE, version, bytes. -/
structure FwComp where
  type : Nat
  iface : Nat
  version : Nat
  bytes : List Byte
  deriving DecidableEq, Repr

/-- The image in a slot (R595): its number, the SVN, REVISION and FLAGS of its package, the types the package held, and a
component of every type. -/
structure FwSlot where
  slot : Nat
  svn : Nat
  revision : List Byte
  flags : Nat
  given : List Nat
  comps : List FwComp
  deriving DecidableEq, Repr

/-- What the ROM boot and the start-up after it meet (R316, R615 to R619): what bring-up finds of each channel (one not listed is
empty); the copies of image slots that are unreadable or fail a check, as slot and copy 0 (CH00), 1 (CH32) or 2 (CH64); RECOVERY_N
held low; whether the recovery package passes; usable DRAM in MiB; the two times of CHP_BOOT_TIME; and, where the state knows of
no image yet, the images the system area was made with and the slot recorded as running. -/
structure BootFinds where
  chans : List (Nat × ChannelPages)
  failed : List (Nat × Nat)
  recoveryN : Bool
  recoveryOk : Bool
  dramMib : Nat
  replayMs : Nat
  readyMs : Nat
  images : List FwSlot
  running : Nat
  deriving DecidableEq, Repr

end Sys2Proof.Machine

namespace Sys2Proof

open Machine

/-- The commands of the block: one constructor for each row of the table of steps, in the table's order. -/
inductive Instr where
  /-- REGISTER_WRITE (R11). A write to a control-space register that has no row of its own, naturally aligned or discarded, with its own field checks. -/
  | registerWrite (ag : Agent) (off width value : Nat)
  /-- LOWER_HALF_READ (R12). A 32-bit read of the lower half of a 64-bit register latches the upper half in the reading agent's latch. -/
  | lowerHalfRead (ag : Agent) (off : Nat)
  /-- UPPER_HALF_READ (R12). A 32-bit read of the upper half returns the agent's latched value if the latch holds that register, otherwise the current upper half. -/
  | upperHalfRead (ag : Agent) (off : Nat)
  /-- UCB_FAULT_CLEAR (R25). A W1C to a UCB_FAULT bit clears it in the unit and in every descendant whose cause is gone. -/
  | ucbFaultClear (ag : Agent) (win value : Nat)
  /-- UNIT_RESET_REQUEST (R28). A GO to UCB_RESET_REQ is checked under R667 and R35 and becomes PENDING, REFUSED or MERGED. -/
  | unitResetRequest (ag : Agent) (win : Nat) (immediate useTick : Bool)
  /-- UNIT_POWER_REQUEST (R34). A GO to UCB_POWER_REQ is checked and becomes PENDING or ends REFUSED. -/
  | unitPowerRequest (ag : Agent) (win target : Nat) (useTick : Bool)
  /-- RESET_START (R28). A pending unit reset starts RUNNING once its acting tick is reached or its media operations have ended or suspended. -/
  | resetStart (win : Nat)
  /-- RESET_COMPLETE (R28). A unit reset reaches READY, its request ends DONE and UCB_CNT0 increases. -/
  | resetComplete (win : Nat) (chans : List (Nat × ChannelPages))
  /-- REQUEST_TIMEOUT (R30). A reset or power request exceeds its limit, setting UCB_FAULT.TIMEOUT and raising the unit's timeout fault source. -/
  | requestTimeout (win : Nat)
  /-- POWER_CHANGE_START (R666). A power request begins its state change once the work that must end before a lower-power change has ended. -/
  | powerChangeStart (win : Nat)
  /-- POWER_CHANGE_COMPLETE (R666). A power change reaches its target state and the request ends DONE. -/
  | powerChangeComplete (win : Nat) (chans : List (Nat × ChannelPages))
  /-- WAKE_ON_ACCESS (R33). An access to a functional register of a CLOCK_GATED or RETAIN unit wakes it and stalls; an access to an OFF unit reads all ones. -/
  | wakeOnAccess (ag : Agent) (off width : Nat) (write : Option Nat) (stallNs : Nat)
  /-- CHIP_WARM_RESET_REQUEST (R46). A write of WARM_RESET to CHP_CTL requests a chip warm reset, now or at the tick in CHP_CTL_TICK. -/
  | chipWarmResetRequest (ag : Agent) (useTick : Bool)
  /-- CHIP_COLD_RESET_REQUEST (R46). A write of COLD_RESET to CHP_CTL requests a chip cold reset and takes precedence over a warm request in the same write. -/
  | chipColdResetRequest (ag : Agent) (warm useTick : Bool)
  /-- CHIP_RESET (R626). After its flush, a chip warm or cold reset clears its domains and restarts start-up from step 1. -/
  | chipReset 
  /-- TICK_BOUNDARY (R47). A tick boundary increments TK_COUNT, swaps the sealed plan banks and starts the new tick. -/
  | tickBoundary 
  /-- TICK_OVERRUN (R72). A die whose inactive bank is not sealed 2 µs before the boundary runs the safe plan for the next tick. -/
  | tickOverrun (die : Nat)
  /-- PLAN_SEAL (R60). The planner writes and seals a die's plan for the next tick under the class budgets. -/
  | planSeal (die : Nat) (entries : List PEntry)
  /-- AT_TICK_ACTIONS (R78). Actions armed for a tick take effect at its boundary in the fixed order of steps. -/
  | atTickActions 
  /-- TICK_IN_FRAME (R57). A TICK_IN edge and frame are received and judged valid or invalid, with period mismatch detected. -/
  | tickInFrame (edgeNs : Int) (frame : List Bool)
  /-- PTM_EXCHANGE (R50). A PTM exchange on the selected link disciplines the tick boundaries. -/
  | ptmExchange (port link : Nat) (ok : Bool) (masterNs : Nat)
  /-- TICK_LOCK_ACQUIRED (R54). The source reaches its acquisition count and the lock becomes LOCKED, loading TK_COUNT when ADOPT is 1. -/
  | tickLockAcquired 
  /-- TICK_SOURCE_LOST (R51). A LOCKED source meets its loss criterion and the tick enters HOLDOVER. -/
  | tickSourceLost 
  /-- TK_SRC_WRITE (R85). A change of lock source or PTM link takes effect at once and restarts acquisition. -/
  | tkSrcWrite (ag : Agent) (value : Nat)
  /-- TK_NEXT_GO (R76). Writing GO to TK_NEXT arms a period change at TK_NEXT_TICK or refuses it. -/
  | tkNextGo (ag : Agent) (period : Nat)
  /-- TK_CANCEL (R82). Writing a tick to TK_CANCEL cancels every action armed for it, if accepted in time. -/
  | tkCancel (ag : Agent) (tick : Nat)
  /-- TK_SNAP_TAKE (R208). Writing TAKE latches TK_COUNT, TK_PHASE and the calendar time in one reference cycle. -/
  | tkSnapTake (ag : Agent)
  /-- PLANNED_ENTRY_START (R326). The ROM starts a planned call's die command at its START, on placement, or when the die ends the entry before it. -/
  | plannedEntryStart (die : Nat)
  /-- LINK_UP (R88). A link trains and reports DL_Up. -/
  | linkUp (port link speed width : Nat) (flit : Bool)
  /-- LINK_DOWN (R120). A link reports DL_Down and every function of the link is disabled with DL_Down as disable point. -/
  | linkDown (port link : Nat) (hostCaused : Bool)
  /-- PERST_ASSERT (R621). Asserting PERSTp_N takes every link of the port down and holds its PHYs in reset. -/
  | perstAssert (port : Nat)
  /-- PERST_DEASSERT (R622). Deasserting PERSTp_N applies BIFUR and MAX_SPEED and lets each link enter Detect. -/
  | perstDeassert (port : Nat)
  /-- FLR (R113). Initiate FLR disables a function, dropping unplanned commands and suppressing replies. -/
  | flr (fn : Nat)
  /-- VF_DISABLE (R113). Clearing VF Enable disables every VF of the PF under the disable rules. -/
  | vfDisable (fn : Nat)
  /-- D3HOT_ENTRY (R112). A function entering D3hot stops fetch and lets the link enter L1 when idle. -/
  | d3hotEntry (fn : Nat)
  /-- D3HOT_TO_D0_RESET (R112). A D3hot to D0 transition resets the function, treated as a disable. -/
  | d3hotToD0Reset (fn : Nat)
  /-- BUS_MASTER_ENABLE_SET (R458). Bus Master Enable of PF0 going from 0 to 1 grants the Owner role under OPEN policy. -/
  | busMasterEnableSet (fn : Nat)
  /-- BUS_MASTER_ENABLE_CLEAR (R238). Clearing Bus Master Enable puts every enabled Jexash queue of the function into ERROR with RING_FAULT. -/
  | busMasterEnableClear (fn : Nat)
  /-- DISABLE_COMPLETE (R118). A function or queue disable completes once every planned command has reached its media end. -/
  | disableComplete (scope : Scope)
  /-- DISABLE_TIMEOUT (R118). A disable that has not completed in 100 ms sets FLR_TIMEOUT and raises the disable-timeout source. -/
  | disableTimeout (scope : Scope)
  /-- VFALLOC_WRITE (R91). A write to HEp_VFALLOCk assigns a VF range to a PF or is refused with ALLOC_ERR. -/
  | vfallocWrite (ag : Agent) (pf first count : Nat)
  /-- HE_CFG_WRITE (R87). A write of BIFUR or MAX_SPEED is stored and applies at the next PERST deassertion or chip warm reset. -/
  | heCfgWrite (ag : Agent) (port speed bifur : Nat)
  /-- INVALIDATE_REQUEST (R107). An ATS Invalidate Request drops every matching translation at once. -/
  | invalidateRequest (fn addr size tag : Nat)
  /-- INVALIDATION_COMPLETION (R107). The Invalidation Completion is sent once every DMA that used a dropped entry has been sent or completed. -/
  | invalidationCompletion (fn tag : Nat)
  /-- TRANSLATION_COMPLETION (R105). A Translation Completion fills the port ATS cache or puts a ring's queue into RING_FAULT. -/
  | translationCompletion (fn addr size : Nat) (result : XlatResult)
  /-- DMA_READ_COMPLETION (R123). A completion for a J96 DMA read arrives; poisoned, UR or CA completes the command with a data-transfer error. -/
  | dmaReadCompletion (cmd : Nat) (status : DmaStatus) (offset : Nat) (data : List Byte)
  /-- COMPLETION_TIMEOUT (R123). A DMA read times out, the command completes with a data-transfer error and CPL_TIMEOUT is set. -/
  | completionTimeout (cmd : Nat)
  /-- UNDEFINED_BAR_REQUEST (R123). A request to an undefined BAR offset is answered UR or discarded and counted in HEp_CNT_UR. -/
  | undefinedBarRequest (fn bar off : Nat) (posted : Bool)
  /-- L1_ENTRY (R109). A link idle for L1_IDLE µs enters L1, unless Gold rules forbid it. -/
  | l1Entry (port link : Nat)
  /-- L12_ENTRY (R109). A link in L1 for L12_IDLE × 10 µs enters L1.2 where enabled and allowed. -/
  | l12Entry (port link : Nat)
  /-- L0P_NARROW (R109). A link below 25 % utilisation for 100 µs narrows into L0p. -/
  | l0pNarrow (port link width : Nat)
  /-- L1_EXIT (R110). A link leaves L1 or L0p for traffic or for a GOLD_NO_LPM change. -/
  | l1Exit (port link : Nat)
  /-- SQ_TAIL_DOORBELL (R103). A submission queue tail doorbell write exposes new commands. -/
  | sqTailDoorbell (fn sqid tail : Nat)
  /-- CQ_HEAD_DOORBELL (R103). A completion queue head doorbell write frees completion entries. -/
  | cqHeadDoorbell (fn cqid head : Nat)
  /-- COMMAND_FETCH (R130). The controller fetches submission queue entries by arbitration while fewer than 65,536 commands are outstanding. -/
  | commandFetch (fn sqid : Nat) (sqe : List Byte)
  /-- CC_EN_SET (R126). Setting CC.EN enables a controller, which reports CSTS.RDY within CAP.TO. -/
  | ccEnSet (fn cc aqa asq acq : Nat)
  /-- CC_EN_CLEAR (R127). Clearing CC.EN disables the controller under the disable rules. -/
  | ccEnClear (fn : Nat)
  /-- SHUTDOWN_NOTIFICATION (R127). A write of CC.SHN starts a normal or abrupt shutdown notification. -/
  | shutdownNotification (fn : Nat) (abrupt : Bool)
  /-- SHUTDOWN_COMPLETE (R127). CSTS.SHST reports complete once no command of the controller is outstanding. -/
  | shutdownComplete (fn : Nat)
  /-- CREATE_IO_SQ (R135). Create I/O Submission Queue, with PRP queues only. -/
  | createIoSq (cmd : Nat)
  /-- CREATE_IO_CQ (R135). Create I/O Completion Queue, with interrupt vectors 0–2,047. -/
  | createIoCq (cmd : Nat)
  /-- DELETE_IO_SQ (R131). Delete I/O Submission Queue disables the queue's commands and completes after the disable. -/
  | deleteIoSq (cmd : Nat)
  /-- DELETE_IO_CQ (R135). Delete I/O Completion Queue. -/
  | deleteIoCq (cmd : Nat)
  /-- GET_LOG_PAGE (R171). Get Log Page returns a standard log. -/
  | getLogPage (cmd : Nat)
  /-- GET_LOG_ERASE_COUNTS (R172). Get Log Page 0xC0 returns the erase-count summary or a die's per-block counts. -/
  | getLogEraseCounts (cmd : Nat)
  /-- GET_LOG_RECORDER_EXPORT (R173). Get Log Page 0xC1 takes or reads a recorder snapshot and may clear the recorder. -/
  | getLogRecorderExport (cmd : Nat)
  /-- GET_LOG_FAULT_STATUS (R174). Get Log Page 0xC2 returns the status of every fault source. -/
  | getLogFaultStatus (cmd : Nat)
  /-- IDENTIFY (R135). Identify returns controller or namespace data for the supported CNS values. -/
  | identify (cmd : Nat)
  /-- NVME_ABORT (R155). Abort succeeds only for an admitted, unplanned target, posting the target's completion first. -/
  | nvmeAbort (cmd : Nat)
  /-- SET_FEATURES_ARBITRATION (R165). Set Features Arbitration sets weights and burst. -/
  | setFeaturesArbitration (cmd : Nat)
  /-- SET_FEATURES_POWER_MANAGEMENT (R158). Set Features Power Management selects the controller's power state and may start a mode entry. -/
  | setFeaturesPowerManagement (cmd : Nat)
  /-- SET_FEATURES_TEMPERATURE_THRESHOLD (R165). Set Features Temperature Threshold sets composite or sensor thresholds. -/
  | setFeaturesTemperatureThreshold (cmd : Nat)
  /-- SET_FEATURES_ERROR_RECOVERY (R165). Set Features Error Recovery sets TLER, clamped to CMD_MAX. -/
  | setFeaturesErrorRecovery (cmd : Nat)
  /-- SET_FEATURES_NUMBER_OF_QUEUES (R129). Set Features Number of Queues grants I/O queues from the pool. -/
  | setFeaturesNumberOfQueues (cmd : Nat)
  /-- SET_FEATURES_INTERRUPT_CONFIG (R165). Set Features Interrupt Coalescing or Interrupt Vector Configuration. -/
  | setFeaturesInterruptConfig (cmd : Nat)
  /-- SET_FEATURES_ASYNC_EVENT_CONFIG (R165). Set Features Asynchronous Event Configuration, including the Plyn fault event on PF0. -/
  | setFeaturesAsyncEventConfig (cmd : Nat)
  /-- SET_FEATURES_TIMESTAMP (R167). Set Features Timestamp completes with Invalid Field in Command. -/
  | setFeaturesTimestamp (cmd : Nat)
  /-- SET_FEATURES_QUEUE_ATTRIBUTES (R132). Set Features 0xC1 sets class, strictness and deadline of a queue not yet created. -/
  | setFeaturesQueueAttributes (cmd : Nat)
  /-- GET_FEATURES (R165). Get Features returns the value of a supported feature. -/
  | getFeatures (cmd : Nat)
  /-- GET_FEATURES_TIMESTAMP (R167). Get Features Timestamp returns calendar time in ms since 1970. -/
  | getFeaturesTimestamp (cmd : Nat)
  /-- GET_FEATURES_QUEUE_ATTRIBUTES (R132). Get Features 0xC1 returns the attributes of the named SQID. -/
  | getFeaturesQueueAttributes (cmd : Nat)
  /-- ASYNC_EVENT_REQUEST (R135). Asynchronous Event Request is held until an event is sent. -/
  | asyncEventRequest (cmd : Nat)
  /-- NAMESPACE_MANAGEMENT_CREATE (R140). Namespace Management Create makes a plain volume with the chosen granule and compression. -/
  | namespaceManagementCreate (cmd : Nat) (data : List Byte)
  /-- NAMESPACE_MANAGEMENT_DELETE (R142). Namespace Management Delete begins deletion of a node that is in no stack. -/
  | namespaceManagementDelete (cmd : Nat)
  /-- NAMESPACE_ATTACHMENT (R141). Namespace Attachment attaches or detaches a volume or stack node. -/
  | namespaceAttachment (cmd : Nat) (controllers : List Nat)
  /-- FIRMWARE_IMAGE_DOWNLOAD (R598). Firmware Image Download receives package data in 4 KiB units up to 64 MiB. -/
  | firmwareImageDownload (cmd : Nat) (data : List Byte)
  /-- COMMIT_NO_ACTIVATION (R599). Firmware Commit action 0b000 commits the package to a slot without activation. -/
  | commitNoActivation (cmd : Nat)
  /-- COMMIT_ACTIVATE_AT_RESET (R599). Firmware Commit action 0b001 commits and activates at the next chip warm reset. -/
  | commitActivateAtReset (cmd : Nat)
  /-- ACTIVATE_EXISTING_SLOT (R599). Firmware Commit action 0b010 activates an existing slot at the next reset or withdraws a pending one. -/
  | activateExistingSlot (cmd : Nat)
  /-- COMMIT_ACTIVATE_NOW (R599). Firmware Commit action 0b011 commits and arms activation two ticks ahead, or at reset for a reset package. -/
  | commitActivateNow (cmd : Nat)
  /-- COMMIT_ACTIVATE_AT_TICK (R164). Firmware Commit action 0b101 commits and arms activation at the given tick. -/
  | commitActivateAtTick (cmd : Nat)
  /-- FORMAT_NVM (R148). Format NVM journals its start, releases pins and empties, erases or re-keys the named volume. -/
  | formatNvm (cmd : Nat)
  /-- FORMAT_COMPLETE (R149). The work of a Format's SES ends, its completion is journalled and the namespace becomes ready. -/
  | formatComplete (node : Nat)
  /-- SANITIZE_BLOCK_ERASE (R153). Sanitize block erase erases every block of the subsystem and reports SPROG. -/
  | sanitizeBlockErase (cmd : Nat)
  /-- SANITIZE_CRYPTO_ERASE (R153). Sanitize crypto erase destroys every media key and empties the map. -/
  | sanitizeCryptoErase (cmd : Nat)
  /-- SANITIZE_OVERWRITE (R150). Sanitize overwrite completes with Invalid Field in Command. -/
  | sanitizeOverwrite (cmd : Nat)
  /-- SANITIZE_EXIT_FAILURE_MODE (R154). Sanitize Exit Failure Mode recovers from a failed Sanitize. -/
  | sanitizeExitFailureMode (cmd : Nat)
  /-- SANITIZE_COMPLETE (R153). A Sanitize completes or fails once its erase or key work has ended. -/
  | sanitizeComplete (ok : Bool)
  /-- NVME_READ (R138). NVMe Read returns original data after each check value passes. -/
  | nvmeRead (cmd : Nat)
  /-- NVME_WRITE (R138). NVMe Write stores data, read-modify-writing partial granules. -/
  | nvmeWrite (cmd : Nat)
  /-- NVME_FLUSH (R138). Flush completes without media work. -/
  | nvmeFlush (cmd : Nat)
  /-- NVME_WRITE_ZEROES (R253). Write Zeroes deallocates whole granules and writes zeroes into partial ones. -/
  | nvmeWriteZeroes (cmd : Nat)
  /-- NVME_DATASET_MANAGEMENT (R253). Dataset Management Deallocate invalidates whole granules of the range. -/
  | nvmeDatasetManagement (cmd : Nat) (ranges : List LbaRange)
  /-- NVME_VERIFY (R138). Verify reads and checks without transfer. -/
  | nvmeVerify (cmd : Nat)
  /-- MI_READ_DATA_STRUCTURE (R176). NVMe-MI Read NVMe-MI Data Structure out of band. -/
  | miReadDataStructure 
  /-- MI_SUBSYSTEM_HEALTH_POLL (R176). NVMe-MI NVM Subsystem Health Status Poll. -/
  | miSubsystemHealthPoll 
  /-- MI_CONTROLLER_HEALTH_POLL (R176). NVMe-MI Controller Health Status Poll. -/
  | miControllerHealthPoll 
  /-- MI_CONFIGURATION_GET (R176). NVMe-MI Configuration Get of SMBus frequency or MCTP unit size. -/
  | miConfigurationGet (id : Nat)
  /-- MI_CONFIGURATION_SET (R176). NVMe-MI Configuration Set of SMBus frequency or MCTP unit size. -/
  | miConfigurationSet (id value : Nat)
  /-- MI_VPD_READ (R176). NVMe-MI VPD Read. -/
  | miVpdRead (len : Nat)
  /-- MI_VPD_WRITE (R176). NVMe-MI VPD Write is refused. -/
  | miVpdWrite 
  /-- MI_TUNNELED_ADMIN (R176). An Identify, Get Log Page or Get Features tunnelled out of band under PF0's rights. -/
  | miTunneledAdmin (sqe : List Byte)
  /-- BASIC_MANAGEMENT_COMMAND (R175). The NVMe Basic Management Command over SMBus. -/
  | basicManagementCommand 
  /-- PUSH_WINDOW_WRITE (R181). A posted write into a queue's packet slots fills bytes, or is discarded if it hits an invalid offset. -/
  | pushWindowWrite (fn off : Nat) (data : List Byte) (poisoned : Bool)
  /-- PACKET_INTAKE (R182). The J96 takes in the ready head packet of a queue whose SEQ matches, unless intake is held. -/
  | packetIntake (q : Nat)
  /-- READ (R196). Jexash READ delivers stack data to DEST after check values pass. -/
  | read (cmd : Nat)
  /-- READ_UNPACK (R197). Jexash READ_UNPACK decompresses a stream of codec frames and delivers original data. -/
  | readUnpack (cmd : Nat)
  /-- WRITE (R201). Jexash WRITE stores data received through transfer-ready grants in the stack's write target. -/
  | write (cmd : Nat)
  /-- WRITE_PACK (R202). Jexash WRITE_PACK compresses received data into Mumel blocks and stores them. -/
  | writePack (cmd : Nat)
  /-- FLUSH_BLOCK (R203). FLUSH_BLOCK cuts a block of an outstanding WRITE_PACK at a point, or completes TOO_LATE. -/
  | flushBlock (cmd : Nat)
  /-- PIN (R205). PIN preloads and locks the map lines of a range, now or at a tick. -/
  | pin (cmd : Nat)
  /-- UNPIN (R207). UNPIN releases a pin and unlocks its lines. -/
  | unpin (cmd : Nat)
  /-- ABORT (R229). ABORT catches or misses a target tag in one step and posts the replies. -/
  | abort (cmd : Nat)
  /-- FENCE (R232). FENCE holds admission of later packets until earlier packets of its scope have replied. -/
  | fence (cmd : Nat)
  /-- TIME (R208). TIME writes a tick, calendar and phase snapshot to DEST and replies within 3 µs. -/
  | time (cmd : Nat)
  /-- GATHER (R198). GATHER delivers the range, optionally decompressed, to a scatter list held in continuation packets. -/
  | gather (cmd : Nat)
  /-- PACK_ONLY (R204). PACK_ONLY compresses received input into one Mumel block written to DEST without storing it. -/
  | packOnly (cmd : Nat)
  /-- DATA_WINDOW_WRITE (R225). A posted write into the data window fills an open grant, completing it when all blocks are written. -/
  | dataWindowWrite (fn off : Nat) (data : List Byte) (poisoned : Bool)
  /-- GRANT_ISSUE (R224). A transfer-ready grant is issued when buffer, open-grant room and ring space allow. -/
  | grantIssue (cmd woff : Nat)
  /-- GRANT_EXPIRY (R227). An incomplete grant expires, ending its command with XFER_TIMEOUT. -/
  | grantExpiry (cmd grant : Nat)
  /-- REPLY_HEAD_WRITE (R238). A consumer write of REPLY_HEAD frees replies and tags, or puts the queue into ERROR with HEAD. -/
  | replyHeadWrite (q value : Nat)
  /-- XR_HEAD_WRITE (R238). A consumer write of XR_HEAD frees transfer-ready entries, or puts the queue into ERROR with HEAD. -/
  | xrHeadWrite (q value : Nat)
  /-- EVENT_HEAD_WRITE (R234). A write of EVENT_HEAD frees event-ring entries or is ignored with EVT_HEAD_ERR. -/
  | eventHeadWrite (fn value : Nat)
  /-- LATE_NOTICE (R222). A LATE_NOTICE event is posted when a Gold reply is still unposted at the end of its deadline tick. -/
  | lateNotice (cmd : Nat)
  /-- RESERVE_CHANGED (R220). A JQ_FGOLD write takes effect at the next boundary and a RESERVE_CHANGED event is posted. -/
  | reserveChanged (fn : Nat)
  /-- FENCE_COMPLETE (R232). A FENCE's reply is posted once every earlier packet of its scope has replied. -/
  | fenceComplete (cmd : Nat)
  /-- PIN_PRELOAD_COMPLETE (R290). Every line of a PIN is resident and locked, and its reply is posted with a pin ID. -/
  | pinPreloadComplete (cmd : Nat)
  /-- QUEUE_ENABLE (R235). Writing ENABLE to JQ_QCMD enables a DISABLED queue or reports the first failed check. -/
  | queueEnable (ag : Agent) (q : Nat)
  /-- QUEUE_DISABLE (R237). Writing DISABLE to JQ_QCMD disables the queue under the disable rules. -/
  | queueDisable (ag : Agent) (q : Nat)
  /-- QUEUE_DISABLED (R237). A queue disable completes, the queue reads DISABLED and a QUEUE_DISABLED event is posted. -/
  | queueDisabled (q : Nat)
  /-- JQ_FGOLD_WRITE (R218). A write of a function's Gold reserve is accepted within CAP or refused with RES_REFUSED. -/
  | jqFgoldWrite (ag : Agent) (fn slots : Nat)
  /-- EVENT_RING_ENABLE (R234). Setting EVT_EN enables the event ring and resets its phase and counts. -/
  | eventRingEnable (ag : Agent) (fn value : Nat)
  /-- CREATE_STACK (R259). TS command CREATE_STACK creates a stack node with a staged child list and size. -/
  | createStack (ag : Agent)
  /-- SET_CHILDREN (R259). TS command SET_CHILDREN replaces a stack's child list now or at a tick. -/
  | setChildren (ag : Agent) (useTick : Bool)
  /-- DELETE_STACK (R259). TS command DELETE_STACK deletes a stack node now or at a tick. -/
  | deleteStack (ag : Agent) (useTick : Bool)
  /-- SET_WRITABLE (R259). TS command SET_WRITABLE makes a volume writable and drops its dictionary. -/
  | setWritable (ag : Agent)
  /-- CLEAR_WRITABLE (R259). TS command CLEAR_WRITABLE seals a volume read-only. -/
  | clearWritable (ag : Agent)
  /-- GROW (R259). TS command GROW raises the size of a volume or stack node. -/
  | grow (ag : Agent)
  /-- NODE_DELETION_COMPLETE (R269). A deletion completes when no admitted command holds it and its invalidation has finished, freeing the node ID. -/
  | nodeDeletionComplete (node : Nat)
  /-- MAP_MISS_FILL (R275). A map-cache miss fill lands from the DRAM store or a map-page read and serves the waiting lookups. -/
  | mapMissFill (node l : Nat)
  /-- ALLOCATION_GIVE_UP (R278). After 64 map-clock cycles without a victim way, a lookup is served without allocating a line. -/
  | allocationGiveUp (node l : Nat)
  /-- MC_INV (R293). An MC_INV_CMD GO invalidates a node's lines over a range, writing back DIRTY ones. -/
  | mcInv (ag : Agent) (node : Nat)
  /-- INVALIDATION_SWEEP_DONE (R298). A range invalidation sweep ends and reports done once its locked lines are refilled. -/
  | invalidationSweepDone (node : Nat)
  /-- LOCKED_LINE_REFILL (R297). A STALE locked line is refilled in place from its source. -/
  | lockedLineRefill (node l : Nat)
  /-- MAP_CACHE_DISABLE (R302). A write of ENABLE 0 starts a drain when no pin is held, or sets DISABLE_REFUSED. -/
  | mapCacheDisable (ag : Agent)
  /-- MAP_CACHE_ENABLE (R304). A write of ENABLE 1 re-enables a drained map cache. -/
  | mapCacheEnable (ag : Agent)
  /-- DRAIN_COMPLETE (R303). The drain ends once all lines are written back; lines are invalidated and DRAINED is set. -/
  | drainComplete 
  /-- RESET_INVALIDATION_DONE (R301). The reset invalidation of every set finishes and MC_STS.INIT clears. -/
  | resetInvalidationDone 
  /-- MAP_WRITE_BACK (R307). A DIRTY map page is written back and programmed, and its DIR_UPDATE is journalled. -/
  | mapWriteBack (node page : Nat)
  /-- JOURNAL_PAGE_PROGRAM (R387). A journal page holding a record that a step waits on is programmed, padded, by the next tick. -/
  | journalPageProgram 
  /-- READ_CALL (R329). ROM call READ reads units at a read-retry step into staging with fast decode. -/
  | readCall (ag : Agent) (cl slot : Nat) (planned : Bool)
  /-- READ_MARGIN_CALL (R342). ROM call READ_MARGIN reads with shifted levels and counts bits against a limit. -/
  | readMarginCall (ag : Agent) (cl slot : Nat) (planned : Bool)
  /-- PROGRAM_CALL (R335). ROM call PROGRAM writes one whole wordline in every plane. -/
  | programCall (ag : Agent) (cl slot : Nat) (planned : Bool)
  /-- ERASE_CALL (R343). ROM call ERASE erases a block in a mode, increasing its erase count first. -/
  | eraseCall (ag : Agent) (cl slot : Nat) (planned : Bool)
  /-- SUSPEND_CALL (R337). ROM call SUSPEND suspends a program or erase so the die can read within 25 µs. -/
  | suspendCall (ag : Agent) (cl slot : Nat) (planned : Bool)
  /-- RESUME_CALL (R340). ROM call RESUME restarts a suspended program or erase. -/
  | resumeCall (ag : Agent) (cl slot : Nat) (planned : Bool)
  /-- STATUS_CALL (R333). ROM call STATUS returns the die state and the operation in progress. -/
  | statusCall (ag : Agent) (cl slot : Nat) (planned : Bool)
  /-- ERASE_COUNT_CALL (R344). ROM call ERASE_COUNT returns a block's erase count and state. -/
  | eraseCountCall (ag : Agent) (cl slot : Nat) (planned : Bool)
  /-- FEATURE_CALL (R330). ROM call FEATURE reads or sets a permitted die feature. -/
  | featureCall (ag : Agent) (cl slot : Nat) (planned : Bool)
  /-- RETIRE_CALL (R346). ROM call RETIRE retires a block or marks it HALF_ERASED. -/
  | retireCall (ag : Agent) (cl slot : Nat) (planned : Bool)
  /-- MS_CPL_READ (R325). A read of MS_CPLk by its core removes and returns the oldest completion. -/
  | msCplRead (ag : Agent) (cl k : Nat)
  /-- READ_CALL_COMPLETE (R329). A READ ends once its units are in staging and fast-decoded, completing OK, DECODE_FAIL or BLANK. -/
  | readCallComplete (die : Nat) (units : List UnitResult) (busyNs : Nat)
  /-- READ_MARGIN_COMPLETE (R342). A margin read completes OK or MARGIN_FAIL with every unit's count. -/
  | readMarginComplete (die : Nat) (counts : List Nat)
  /-- PROGRAM_CALL_COMPLETE (R331). A PROGRAM ends OK, or with PROGRAM_FAIL, closing its block. -/
  | programCallComplete (die : Nat) (ok : Bool) (busyNs : Nat)
  /-- ERASE_CALL_COMPLETE (R343). An ERASE ends OK or with ERASE_FAIL, retiring the block. -/
  | eraseCallComplete (die : Nat) (ok : Bool) (busyNs : Nat)
  /-- SUSPEND_COMPLETE (R337). A die finishes suspending its operation and the SUSPEND completes. -/
  | suspendComplete (die : Nat)
  /-- SEALED_GATE_VIOLATION (R319). A sequencer access not from sealed ROM code is refused and raises the sealed-gate source. -/
  | sealedGateViolation (core ch : Nat)
  /-- SEALED_TIMEOUT (R320). A core still sealed after 4 µs is halted and raises its core-hang source. -/
  | sealedTimeout (core : Nat)
  /-- MEDIA_OP_TIMEOUT (R341). A program or erase exceeds its array-time limit, the die is reset and the call completes TIMEOUT. -/
  | mediaOpTimeout (die : Nat)
  /-- MEDIA_BROWNOUT_ASSERT (R348). VCCQ or VCORE below threshold asserts media brown-out, refusing program and erase and suspending erases. -/
  | mediaBrownoutAssert (rail : Nat)
  /-- MEDIA_BROWNOUT_DEASSERT (R348). Media brown-out deasserts after both rails stay 20 mV above threshold for 100 µs. -/
  | mediaBrownoutDeassert 
  /-- BAND_OPEN (R359). A band is opened, degraded if one cluster cannot take members, when one is needed and can be opened. -/
  | bandOpen (kind rot : Nat) (dies : List (Option Nat)) (failed : List Nat)
  /-- GC_COPY (R374). GC copies a valid unit of its victim band into an open band of the target kind. -/
  | gcCopy (place : Nat)
  /-- GC_COMMIT (R375). Once the copy's row is parity-complete, its MAP_UPDATE is journalled if the entry still names the source. -/
  | gcCommit (place : Nat)
  /-- RELEASE (R374). Once every valid unit is committed, RELEASE of the victim band is journalled and its blocks become RELEASED. -/
  | release (band : Nat)
  /-- BLOCK_ERASE (R368). A RELEASED or HALF_ERASED block is erased as Lead work once no command or recovery still needs it. -/
  | blockErase (die block mode : Nat)
  /-- HOST_WRITE_ADMISSION (R373). A waiting host write is admitted when its granules fit the tick's throttled quota. -/
  | hostWriteAdmission 
  /-- STATIC_WEAR_LEVELLING (R381). When the erase-count spread reaches SPREAD, GC moves the band holding the least-worn block, at RATE per second. -/
  | staticWearLevelling (band : Nat)
  /-- RESERVE_REFILL (R367). The J96 refills the RESERVED SLC blocks for the hold-up flush ahead of other allocation. -/
  | reserveRefill (die block : Nat)
  /-- LADDER_STEP (R396). The next read-retry step is read and decoded once every decode of the step before has failed. -/
  | ladderStep (place : Nat)
  /-- DEEP_DECODE_START (R395). A deep decoder takes the next job from its cluster queue in class and admission order. -/
  | deepDecodeStart (cl : Nat)
  /-- DEEP_DECODE_DONE (R395). A deep hard or soft decode ends, verified or failed. -/
  | deepDecodeDone (place : Nat) (unit : UnitResult)
  /-- HEDGE_REBUILD (R403). The hedge rebuilds the unit from the first N verified members and checks its DCRC. -/
  | hedgeRebuild (place : Nat) (ok : Bool)
  /-- HEDGE_RETRY (R405). After a failed hedge and an exhausted ladder, the ladder runs on each failed member and the rebuild is tried again. -/
  | hedgeRetry (place : Nat)
  /-- CMD_MAX_EXPIRY (R406). A read still unverified at CMD_MAX completes with a media error and its granules are marked RECOV. -/
  | cmdMaxExpiry (cmd : Nat)
  /-- BACKGROUND_RECOVERY_PASS (R409). A background recovery pass runs full ladders and rebuilds for a granule as Copper work. -/
  | backgroundRecoveryPass (node g stage : Nat) (ended : Option Bool)
  /-- RECOVERY_COMMIT (R410). A recovered granule is rewritten and committed with RECOV = 0, freeing its recovery-table entry. -/
  | recoveryCommit (node g : Nat)
  /-- PATROL_READ (R416). The patrol reads one unit of the next page of a FULL band at step 0 as Lead work. -/
  | patrolRead (unit : UnitResult)
  /-- REFRESH (R418). A band queued for refresh is relocated by the steps of GC as a Lead move. -/
  | refresh (band : Nat)
  /-- CORRECTED_MEMORY_ERROR (R422). A corrected on-chip or DRAM error is written back, counted and logged. -/
  | correctedMemoryError (mem addr bitNo whereIs : Nat)
  /-- UNCORRECTABLE_MEMORY_ERROR (R423). An uncorrectable memory error sets UE, raises its source and is handled by what the codeword held. -/
  | uncorrectableMemoryError (mem addr : Nat) (held : Held)
  /-- SCRUB_READ (R424). The scrubber reads one codeword in an idle cycle and corrects it. -/
  | scrubRead (mem addr : Nat) (error : Option (Nat × Nat)) (lapMs : Option Nat)
  /-- ECC_LOG_CLEAR (R422). Writing LOG_CLEAR empties the memory ECC log. -/
  | eccLogClear (ag : Agent)
  /-- DECOMPRESSION_JOB_START (R427). A decompression engine takes the next job from its cluster queue in class and admission order. -/
  | decompressionJobStart (engine cl : Nat)
  /-- DECOMPRESSION_JOB_DONE (R429). A decompression job ends with its check compared and delivers its output in stream order if it passes. -/
  | decompressionJobDone (engine : Nat)
  /-- COMPRESSION_JOB_START (R428). A compression job starts on the engine with least input queued. -/
  | compressionJobStart (engine cmd : Nat)
  /-- COMPRESSION_JOB_DONE (R450). A compression job ends after its self-check, stored packed, raw or refused NOSHRINK. -/
  | compressionJobDone (engine : Nat) (block : List Byte)
  /-- DICT_LOAD (R453). CX_DICT_CMD LOAD reads a Zstandard dictionary from a read-only volume and binds it. -/
  | dictLoad (ag : Agent) (node units : Nat)
  /-- DICT_DROP (R453). CX_DICT_CMD DROP drops a volume's dictionary binding. -/
  | dictDrop (ag : Agent) (node : Nat)
  /-- DICT_LOAD_DONE (R453). A dictionary load ends and its binding is journalled. -/
  | dictLoadDone (ag : Agent) (valid : Bool)
  /-- GET_INFO (R462). Mailbox GET_INFO returns Owner policy, SEC_MONO, the time floor and counts. -/
  | getInfo (req : List Byte)
  /-- GET_CHALLENGE (R462). Mailbox GET_CHALLENGE returns a single-use nonce valid for 60 s. -/
  | getChallenge (req : List Byte)
  /-- CLAIM_OWNER (R458). Mailbox CLAIM_OWNER grants the Owner role under KEYED policy on a valid signature. -/
  | claimOwner (req : List Byte) (sigOk keyOk : Bool)
  /-- RELEASE_OWNER (R459). Mailbox RELEASE_OWNER gives up the Owner role. -/
  | releaseOwner (req : List Byte)
  /-- LICENCE_INSTALL (R469). Mailbox LICENCE_INSTALL verifies a licence blob, journals it and loads the title key. -/
  | licenceInstall (req : List Byte) (sigOk : Bool)
  /-- LICENCE_REMOVE (R470). Mailbox LICENCE_REMOVE arms removal of a volume's licence at a tick. -/
  | licenceRemove (req : List Byte)
  /-- LICENCE_STATUS (R462). Mailbox LICENCE_STATUS returns the licence record without its key. -/
  | licenceStatus (req : List Byte)
  /-- TIME_ATTEST (R475). Mailbox TIME_ATTEST sets the calendar and makes time trusted on a valid signed nonce. -/
  | timeAttest (req : List Byte) (sigOk keyOk : Bool)
  /-- MONO_ADVANCE (R473). Mailbox MONO_ADVANCE raises SEC_MONO to a signed higher value. -/
  | monoAdvance (req : List Byte) (sigOk keyOk : Bool)
  /-- SET_FIELD (R457). Mailbox SET_FIELD lets the Owner write a locked LK field through the Warden. -/
  | setField (req : List Byte)
  /-- PROTECTION_BATCH_SUBMIT (R480). A GO to SEC_PM_CMD submits a protection batch that is armed or refused within 20 µs. -/
  | protectionBatchSubmit (ag : Agent) (fence : Bool) (count : Nat)
  /-- KEY_DESTRUCTION (R467). A key is destroyed once every command admitted under it has reached its media end. -/
  | keyDestruction (node gen : Nat)
  /-- TIME_FLOOR_RAISE (R474). Every 3,600 s the Warden raises SEC_TIME_FLOOR to the calendar time. -/
  | timeFloorRaise 
  /-- LOCKSTEP_MISMATCH (R39). A lockstep pair's outputs differ, both cores halt and the lockstep source is raised. -/
  | lockstepMismatch (pair : Nat)
  /-- CORE_HANG (R566). A core that retires no instruction for 1 ms outside idle raises its hang source. -/
  | coreHang (core : Nat)
  /-- IDLE_TIMER_EXPIRY (R487). No command has been outstanding for IDLE_US µs, allowing entry toward a quieter demanded mode. -/
  | idleTimerExpiry 
  /-- MODE_ENTRY (R493). Entry into Ready or Retain begins, checking AP1 and stopping background work and reads. -/
  | modeEntry 
  /-- MEDIA_QUIET (R493). The last program or erase ends at AP3, and Retain entry completes or is abandoned. -/
  | mediaQuiet 
  /-- MODE_EXIT (R500). A wake event or demand returns the J96 from Ready or Retain to Run or Throttle. -/
  | modeExit 
  /-- DOMAIN_WAKE (R491). An access wakes one domain held in RETAIN while the chip stays in Retain. -/
  | domainWake (win : Nat)
  /-- DOMAIN_REGATE (R491). A woken domain returns to RETAIN after REGATE_US without an access. -/
  | domainRegate (win : Nat)
  /-- SCALE_CHANGE (R504). A new scale S takes effect at the next boundary, moving between Run and Throttle. -/
  | scaleChange 
  /-- SET_FLOOR (R486). PM_CMD SET_FLOOR sets the lowest mode allowed, now or at a tick. -/
  | setFloor (ag : Agent) (arg : Nat) (useTick : Bool)
  /-- SHUTDOWN (R509). PM_CMD SHUTDOWN flushes on mains, journals a CHECKPOINT, releases MAIN_EN and enters Patrol. -/
  | shutdown (ag : Agent) (useTick : Bool)
  /-- VAUX_RISE (R488). VBAT or VAUX rising takes the J96 from Off to Keep. -/
  | vauxRise (vaux : Bool)
  /-- KEEP_TO_PATROL (R488). VAUX held at or above 2.7 V for 10 ms takes the J96 from Keep to Patrol. -/
  | keepToPatrol 
  /-- VAUX_FALL (R488). VAUX falling below 2.6 V takes the J96 from Patrol to Keep. -/
  | vauxFall 
  /-- VBAT_FALL (R488). VBAT falling below 1.7 V with VAUX absent takes the J96 from Keep to Off. -/
  | vbatFall 
  /-- MAIN_EN_ASSERT (R611). In Patrol, MAIN_EN is asserted 10 ms after VAUX became valid unless a shut-down cause forbids it. -/
  | mainEnAssert 
  /-- PATROL_ROUND (R510). The patrol sequencer wakes each PERIOD, samples the powered masked channels and sleeps. -/
  | patrolRound (samples : List (Option Int))
  /-- PFAIL_N (R535). PFAIL_N held low for 0.5 µs enters Hold-up and starts the flush sequence. -/
  | pfailN 
  /-- SUPPLY_BROWNOUT (R535). A rail or V_BUS below its trip for 1 µs enters Hold-up. -/
  | supplyBrownout (rail : Nat)
  /-- FLUSH_ENERGY_CHECK (R539). Every 100 µs the flush compares energy still needed with E_AVAIL and ends early if short. -/
  | flushEnergyCheck (granules fixedDone eAvail : Nat)
  /-- FLUSH_END (R507). The flush ends, HU_LAST is written and the J96 warm resets or enters Patrol or Keep. -/
  | flushEnd (duration : Nat)
  /-- PRECHARGE_CEILING (R518). The pre-charge stops when its integrated input energy reaches CEIL, or the bank is OVERSIZE. -/
  | prechargeCeiling (v : Nat)
  /-- CHARGER_TOP_UP (R519). V_BANK falling 0.2 V below V_TARGET restarts charging. -/
  | chargerTopUp (v : Nat)
  /-- CHARGE_TIMEOUT (R519). A bank not at V_TARGET 60 s after charging began puts the store in FAULT. -/
  | chargeTimeout 
  /-- BANK_OVERVOLT (R519). V_BANK above V_MAX + 1.0 V stops the charger and puts the store in FAULT. -/
  | bankOvervolt (v : Nat)
  /-- TEST_NOW (R523). Writing TEST_NOW requests a capacitance test. -/
  | testNow (ag : Agent)
  /-- TEST_INTERVAL_DUE (R523). The INTERVAL timer makes a capacitance test due. -/
  | testIntervalDue 
  /-- CAPACITANCE_TEST_START (R524). A due test starts once the dirty buffer fits the lowered allowance and the bank is at V_TARGET. -/
  | capacitanceTestStart 
  /-- CAPACITANCE_TEST_END (R522). The bank falls 2.0 V, C_meas and ESR are set or the store enters FAULT. -/
  | capacitanceTestEnd (dtUs stepMv : Nat)
  /-- HU_E_CEIL_WRITE (R521). A write lowering V_TARGET below V_BANK lowers the allowance and discharges the bank. -/
  | huECeilWrite (ag : Agent) (ceil : Nat)
  /-- HOUSEKEEPING_ROUND (R544). A housekeeping round converts all channels, sets S_T, takes the AVS step and recomputes the allowance. -/
  | housekeepingRound (samples : List (Option Int)) (avsAck : Bool)
  /-- THERMAL_SHUT_DOWN (R548). A junction comparator at SHUT triggers Hold-up, then MAIN_EN release and Patrol. -/
  | thermalShutDown (sensor : Nat)
  /-- HK_TJ_THR_WRITE (R549). A write of junction thresholds is accepted only in order and applies from the next round. -/
  | hkTjThrWrite (ag : Agent) (value : Nat)
  /-- HK_WWIN_WRITE (R550). A write of the flash write window is accepted within fuse limits and applies from the next round. -/
  | hkWwinWrite (ag : Agent) (value : Nat)
  /-- CAL_TRIM_STEP (R556). Every 2^20 crystal cycles TRIM cycles are added to or skipped from the calendar. -/
  | calTrimStep 
  /-- CAL_OSC_STOP (R557). No crystal edge for 2 ms stops the calendar, making it invalid and setting OSC_STOP. -/
  | calOscStop 
  /-- CAL_SET (R558). CAL_CMD.SET loads CAL_SET into the calendar if the writer is allowed. -/
  | calSet (ag : Agent)
  /-- CAL_ALARM (R561). The calendar reaches an armed alarm, which sets ALARMk, clears ENk and raises its source. -/
  | calAlarm (k : Nat)
  /-- CAL_ALARM_ARM (R561). A write of ENk arms an alarm, or disarms it when its value is not in the future. -/
  | calAlarmArm (ag : Agent) (k : Nat)
  /-- CAL_BCD0_READ (R560). A read of CAL_BCD0 latches CAL_BCD1 from the same second. -/
  | calBcd0Read (ag : Agent)
  /-- FAULT_WINDOW_CLOSE (R568). A source's window closes when W ticks have passed, reopening for a level source still present. -/
  | faultWindowClose (src : Nat)
  /-- FC_STICKY_CLEAR (R574). A W1C to FC_STICKY clears STICKY of sources whose cause is gone. -/
  | fcStickyClear (ag : Agent) (g value : Nat)
  /-- FC_UNACK_CLEAR (R574). A W1C to FC_UNACK acknowledges sources and may release ERR_N. -/
  | fcUnackClear (ag : Agent) (g value : Nat)
  /-- FC_SRC_CFG_WRITE (R569). A write changing N or W closes the source's window at once. -/
  | fcSrcCfgWrite (ag : Agent) (window : Bool) (value : Nat)
  /-- ER_FREEZE_WRITE (R585). An agent's FREEZE stops recording while set. -/
  | erFreezeWrite (ag : Agent) (freeze : Bool)
  /-- FREEZE_TIMEOUT (R585). An agent's FREEZE clears by itself after FREEZE_MAX ms. -/
  | freezeTimeout (ag : Agent)
  /-- RECORDER_CLEAR (R586). ER_CTL.CLEAR empties the recorder, or waits as pending while any FREEZE is held. -/
  | recorderClear (ag : Agent)
  /-- RECORDER_CLEAR_PENDING (R586). A pending recorder clear is carried out once no FREEZE is held. -/
  | recorderClearPending 
  /-- HISTOGRAM_CONFIG_WRITE (R587). A write to ER_HCFG, ER_HLOWER or ER_HWIDTH empties the selected histogram. -/
  | histogramConfigWrite (ag : Agent) (reg value : Nat)
  /-- COMMIT_VERIFY_DONE (R596). The Warden ends verification of a package and accepts or refuses it with a status code. -/
  | commitVerifyDone (sigOk deltaOk : Bool)
  /-- SLOT_WRITE_DONE (R597). The slot image is written to all three system-area copies, or the write fails. -/
  | slotWriteDone (ok : Bool)
  /-- MAP_RELOAD_HALF (R603). One half of the MP cores finishes reloading and the other half begins. -/
  | mapReloadHalf 
  /-- CLUSTER_ROLL_PREPARE (R604). A cluster's preparation tick begins once every die outside it is available. -/
  | clusterRollPrepare 
  /-- CLUSTER_OUT_OF_SERVICE (R604). At the next boundary the cluster goes out of service and its MD cores load the new image. -/
  | clusterOutOfService 
  /-- CLUSTER_CORE_READY (R604). An MD core verifies its loaded image and reports ready, or the activation fails. -/
  | clusterCoreReady (core : Nat) (ok : Bool)
  /-- CLUSTER_RETURN (R604). At the next boundary the cluster returns to service and takes its queued completions. -/
  | clusterReturn 
  /-- CLUSTER_WAIT_TIMEOUT (R605). After 1 s of waiting to take a cluster out, source 20 is raised with CLUSTER_WAIT. -/
  | clusterWaitTimeout 
  /-- RELOAD_FAIL (R606). A core not ready within its step reverts the activation to the running slot. -/
  | reloadFail (core : Nat)
  /-- ACTIVATION_RECORD (R607). After the last cluster returns, the slot is recorded as running and SEC_MONO may advance. -/
  | activationRecord 
  /-- MAIN_PG_QUALIFIED (R613). MAIN_PG held asserted for 1 ms starts start-up. -/
  | mainPgQualified (samples : List (Option Int)) (offMs : Nat)
  /-- STARTUP (R615). Start-up runs from PLL lock through boot, training, replay and recovery to first NVMe ready. -/
  | startup (b : BootFinds)
  /-- UNDEFINED_REGISTER_READ (R42). A read of a control-space offset that holds no defined register returns all ones and raises the control-space decode fault source. -/
  | undefinedRegisterRead (ag : Agent) (off width : Nat)
  /-- ATS_ENABLE_CLEAR (R108). Clearing a function's ATS Enable drops every ATS entry of that function. -/
  | atsEnableClear (fn : Nat)
  /-- VF_ENABLE_SET (R92). Setting VF Enable in a PF's SR-IOV capability brings its VFs into existence at pool entries FIRST to FIRST plus NumVFs minus 1. -/
  | vfEnableSet (fn numVfs : Nat)
  /-- CHARGE_TARGET_REACHED (R519). The bank reaches V_TARGET, or 12.0 V in the pre-charge, so the charger stops and the store becomes ready for its test. -/
  | chargeTargetReached (v : Nat)
  /-- BAND_AGE_REFRESH (R417). The calendar shows AGE_DAYS or more since a band's BAND_CLOSE, and the band is queued for refresh. -/
  | bandAgeRefresh (band : Nat)
  /-- MAILBOX_COMMAND_DONE (R462). The Warden finishes a mailbox command, posts its response, updates SEC_MBX_STS and signals the vector. -/
  | mailboxCommandDone (req : List Byte) (dmaOk : Bool)
  /-- MAIN_PG_DEASSERT (R508). MAIN_PG is deasserted, which after a thermal shut-down starts the 100 ms wait before a restart is allowed. -/
  | mainPgDeassert 
  /-- PFAIL_N_DEASSERT (R541). PFAIL_N is deasserted or the rails recover, so the flush ends with a chip warm reset instead of Patrol or Keep. -/
  | pfailNDeassert 
  /-- FRONT_RELOAD_DONE (R603). The FE pairs finish loading the new image and restart fetch, intake, admission and reply posting, ending the FRONT pause. -/
  | frontReloadDone 
  deriving DecidableEq, Repr

end Sys2Proof
end

