-- ==== Sys2Proof/Decode.lean ====
section
/-! DEFINITION. Commands spelled by the bits of the table of steps. The table gives no row any bits: a command reaches the block
as a register access, a packet or an event, never as an instruction word. -/

namespace Sys2Proof

/-- The command a word of `nbits` bits spells by the table's bits: none, for no row of the table has bits (log entry 1). -/
def decodeTableWord (_nbits _w : Nat) : Option Instr := none

end Sys2Proof
end

