-- ==== Sys2Proof/Machine/Sparse.lean ====
section
/-! DEFINITION. Sparse storage in one canonical form: a list of key and value pairs in strictly rising key order in which no
pair holds the value an unlisted key reads as. Equal contents are equal lists. Used for the register fields and for every
addressed memory of the block. -/

namespace Sys2Proof.Machine.Sparse

variable {α : Type} [DecidableEq α] {β : Type} [DecidableEq β]

/-- The order of keys that are numbers. -/
def below (a b : Nat) : Bool := decide (a < b)

/-- What the list holds for a key; `d` is what an unlisted key reads as. -/
def get (d : α → β) (l : List (α × β)) (k : α) : β :=
  match l.lookup k with
  | some v => v
  | none => d k

/-- Places a pair before the first larger key; `lt` orders the keys. -/
def ins (lt : α → α → Bool) (k : α) (v : β) : List (α × β) → List (α × β)
  | [] => [(k, v)]
  | p :: l => if lt k p.1 then (k, v) :: p :: l else p :: ins lt k v l

/-- Stores a value: the old pair of the key goes, and the new one is listed unless it is what an unlisted key reads as. -/
def set (lt : α → α → Bool) (d : α → β) (l : List (α × β)) (k : α) (v : β) : List (α × β) :=
  let rest := l.filter (fun p => p.1 ≠ k)
  if v = d k then rest else ins lt k v rest

/-- The canonical form. -/
def wf (lt : α → α → Bool) (d : α → β) : List (α × β) → Bool
  | [] => true
  | [p] => p.2 ≠ d p.1
  | p :: q :: l => p.2 ≠ d p.1 && lt p.1 q.1 && wf lt d (q :: l)

end Sys2Proof.Machine.Sparse
end

