-- ==== Sys2Proof/Machine/RegName.lean ====
section
/-! DEFINITION. The names of what the block stores: one constructor for every field of a register of the control
space (register name, underscore, field name, as the spec's register tables write them; a register without fields is its own
field), then, from X_ on, one for every scalar the spec gives the machine outside a register; and one name for every register.
The tables of places, widths, access types and reset values over these names are in Sys2Proof/Machine/RegTable.lean. -/

namespace Sys2Proof.Machine

/-- The reset domain of a stored field (R624 to R627): what clears it. -/
inductive Dom where
  | cold | warm | front | cluster | unit | boot | vbat | keep | media | none
  deriving DecidableEq, Repr

/-- Every stored field. -/
inductive Field where
  -- 01_units_and_address_map.md
  | UCB_STATUS_DEGRADED
  | UCB_STATUS_REQ_PENDING
  | UCB_STATUS_POWER
  | UCB_STATUS_RESETTING
  | UCB_STATUS_FAULT
  | UCB_STATUS_READY
  | UCB_FAULT_REFUSED
  | UCB_FAULT_TIMEOUT
  | UCB_FAULT_THRESHOLD
  | UCB_FAULT_FATAL
  | UCB_FAULT_CONTAINED
  | UCB_FAULT_CORRECTED
  | UCB_RESET_REQ_IMMEDIATE
  | UCB_RESET_REQ_USE_TICK
  | UCB_RESET_REQ_GO
  | UCB_POWER_REQ_USE_TICK
  | UCB_POWER_REQ_GO
  | UCB_POWER_REQ_TARGET
  | UCB_REQ_STS_REASON
  | UCB_REQ_STS_KIND
  | UCB_REQ_STS_STATE
  | UCB_CNT0
  | UCB_CNT1
  | UCB_CNT2
  | UCB_CNT3
  | UCB_CNT4
  | UCB_CNT5
  | UCB_CNT6
  | UCB_CNT7
  | CHP_ID_FAMILY
  | CHP_ID_MEMBER
  | CHP_STEP_MAJOR
  | CHP_STEP_MINOR
  | CHP_UID_UID
  | CHP_CAP0_CORES
  | CHP_CAP0_LINKS_PER_PORT
  | CHP_CAP0_PORTS
  | CHP_CAP0_DIES_PER_CH
  | CHP_CAP0_CLUSTERS
  | CHP_CAP0_CHANNELS
  | CHP_CAP1_PFS
  | CHP_CAP1_IOQ_PER_FN
  | CHP_CAP1_VF_POOL
  | CHP_CAP2_JQ_QUEUES
  | CHP_CAP2_NVME_QP
  | CHP_CAP3_COMP_ENG
  | CHP_CAP3_DECOMP_ENG
  | CHP_CAP3_MODES
  | CHP_CAP3_FC_SOURCES
  | CHP_CAP4_DRAM_CH
  | CHP_CAP4_DEEP_DEC
  | CHP_CAP4_STAGING
  | CHP_CAP4_MAP_CACHE
  | CHP_CAP5_G64K
  | CHP_CAP5_G16K
  | CHP_CAP5_G4K
  | CHP_CAP5_OUTSTANDING
  | CHP_CAP5_NODES
  | CHP_CAP6_MAX_RAW
  | CHP_CAP7_TICK_DEF
  | CHP_CAP7_TICK_MAX
  | CHP_CAP7_TICK_MIN
  | CHP_CTL_USE_TICK
  | CHP_CTL_COLD_RESET
  | CHP_CTL_WARM_RESET
  -- 02_tick_and_time.md
  | TK_CTL_FASTPATH
  | TK_CTL_OUT_EN
  | TK_CTL_OUT_FRAME
  | TK_PERIOD_PERIOD
  | TK_NEXT_GO
  | TK_NEXT_NEXT_PERIOD
  | TK_STS_NEXT_STATE
  | TK_STS_JUMPED
  | TK_STS_MISMATCH
  | TK_STS_OVERRUN
  | TK_STS_SRC_LOST
  | TK_STS_LOCK
  | TK_PHASE_PHASE
  | TK_SRC_PTM_LINK
  | TK_SRC_PTM_PORT
  | TK_SRC_ADOPT
  | TK_SRC_SOURCE
  | TK_CUTOFF_PERCENT
  | TK_BUDGET0_GOLD_MAX
  | TK_BUDGET0_LEAD_MIN
  | TK_BUDGET0_SILVER_W
  | TK_BUDGET0_COPPER_W
  | TK_BUDGET1_PE_MAX
  | TK_BUDGET1_GOLD_SLOTS
  | TK_CANCEL_STS_CANCELLED
  | TK_CANCEL_STS_RESULT
  | TK_SNAP_TAKE
  -- 03_pcie_endpoint.md
  | HE_CFG_MAX_SPEED
  | HE_CFG_BIFUR
  | HE_LINK_STS_LPM
  | HE_LINK_STS_L0P_WIDTH
  | HE_LINK_STS_WIDTH
  | HE_LINK_STS_SPEED
  | HE_LINK_STS_FLIT
  | HE_LINK_STS_EXISTS
  | HE_LINK_STS_UP
  | HE_PWR_L12_IDLE
  | HE_PWR_L1_IDLE
  | HE_PWR_L0P_EN
  | HE_VFALLOC_COUNT
  | HE_VFALLOC_FIRST
  | HE_FNATTR_ATS_QUOTA
  | HE_FNATTR_STRICT
  | HE_FNATTR_GOLD_NO_LPM
  | HE_ATS_STS_PENDING_INV
  | HE_ATS_STS_IN_USE
  | HE_EVT_SURPRISE_DOWN
  | HE_EVT_CPL_TIMEOUT
  | HE_EVT_FLR_TIMEOUT
  | HE_EVT_ALLOC_ERR
  | HE_CNT_DISABLE
  | HE_CNT_LDN
  | HE_CNT_INV
  | HE_CNT_CTO
  | HE_CNT_UR
  -- 05_jexash_queues.md
  | JQ_STS_OVERCOMMIT
  | JQ_STS_FROZEN
  | JQ_STS_SANITIZING
  | JQ_GOLD_SUM
  | JQ_GOLD_CAP
  | JQ_QSEL_QUEUE
  | JQ_QCFG_FN
  | JQ_QCFG_SLOT
  | JQ_QCFG_ENTRIES
  | JQ_QCFG_XR_LIFE
  | JQ_QCFG_XR_EN
  | JQ_QCFG_GOLD_OK
  | JQ_QCFG_STRICT
  | JQ_QRING_RPL_LOG
  | JQ_QRING_XR_LOG
  | JQ_QRING_HEAD_EVERY
  | JQ_QRING_XR_MAX
  | JQ_QRING_MAX_OPEN
  | JQ_QCMD_DISABLE
  | JQ_QCMD_ENABLE
  | JQ_QSTS_OUTSTANDING
  | JQ_QSTS_ERR
  | JQ_QSTS_STATE
  | JQ_QIRQ_EN
  | JQ_QIRQ_COALESCE
  | JQ_QIRQ_VECTOR
  | JQ_QSEQ_SEQ
  | JQ_FSEL_FN
  | JQ_FGOLD_RES_SLOTS
  | JQ_FEVT_CFG_EVT_EN
  | JQ_FEVT_CFG_IRQ_EN
  | JQ_FEVT_CFG_VECTOR
  | JQ_FEVT_CFG_EVT_LOG
  | JQ_FSTS_EVT_HEAD_ERR
  | JQ_FSTS_RES_REFUSED
  | JQ_FSTS_EVT_DROP
  | JQ_CNT_DOWNGRADE
  | JQ_CNT_LATE
  | JQ_CNT_CAUGHT
  | JQ_CNT_MISSED
  | JQ_CNT_QERR
  | JQ_CNT_XR_EXPIRED
  -- 06_title_stacks.md
  | TS_CAP_PENDING_MAX
  | TS_CAP_MAX_DEPTH
  | TS_CAP_MAX_LAYERS
  | TS_CAP_MAX_CHILDREN
  | TS_STS_NODES_FREE
  | TS_STS_ARMED
  | TS_NSEL_NODE
  | TS_CMD_GO
  | TS_CMD_USE_TICK
  | TS_CMD_OP
  | TS_ARG_COUNT
  | TS_ARG_NODE
  | TS_RESULT_NODE
  | TS_RESULT_REASON
  | TS_RESULT_STATE
  | TS_STAGE_NODE
  -- 07_translation_and_map_cache.md
  | MC_CTL_ENABLE
  | MC_STS_DISABLE_REFUSED
  | MC_STS_INIT
  | MC_STS_DRAINING
  | MC_STS_DRAINED
  | MC_STS_ENABLED
  | MC_GEOM_LOCK_MAX
  | MC_GEOM_WAYS
  | MC_GEOM_SETS_LOG2
  | MC_GEOM_PORTS
  | MC_LOCKMASK_MASK
  | MC_LFSR_STATE
  | MC_DSTORE_SIZE
  | MC_PIN_LINES_LINES
  | MC_PIN_COUNT_PINS
  | MC_INV_CMD_GO
  | MC_INV_CMD_NODE
  | MC_INV_STS_REASON
  | MC_INV_STS_STATE
  | MC_JNL_CFG_THROTTLE
  | MC_JNL_CFG_LIMIT
  | MC_JNL_STS_THROTTLING
  | MC_JNL_STS_USED
  | MC_CNT_HIT
  | MC_CNT_MISS_DRAM
  | MC_CNT_MISS_FLASH
  | MC_CNT_STALL
  | MC_CNT_EVICT_DIRTY
  | MC_CNT_INV
  | MC_CNT_REFILL
  -- 08_media_service_rom.md
  | MS_STS_CALL_ERR
  | MS_STS_GATE_VIOL
  | MS_STS_BO_SEEN
  | MS_STS_BROWNOUT
  | MS_ROMREV_REV
  | MS_WIN_STS_OUT
  | MS_MARGIN_PROG_LIMIT
  | MS_MARGIN_ERASED_LIMIT
  | MS_SYSUNLOCK_UNLOCK
  | MS_CALL_SLOT
  | MS_CPL_VALID
  | MS_CPL_SLOT
  | MS_CH_IF_TRAINED
  | MS_CH_IF_MODE
  | MS_CH_IF_FALLBACKS
  | MS_CH_IF_MAX_RATE
  | MS_CH_IF_RATE
  | MS_CH_GEO_PLANES
  | MS_CH_GEO_WLB
  | MS_CH_GEO_BLOCKS
  | MS_CH_SENS_MASK
  | MS_CH_SYS_PRESENT
  | MS_CH_SYS_DIE
  | MS_CH_SYS_BLOCKS
  | MS_CH_CNT_READ
  | MS_CH_CNT_PROGRAM
  | MS_CH_CNT_ERASE
  | MS_CH_CNT_SUSPEND
  | MS_CH_CNT_BO
  | MS_CH_CNT_WIN
  | MS_CH_CNT_TIMEOUT
  -- 09_media_management.md
  | MC_GC_MARK0_HIGH
  | MC_GC_MARK0_LOW
  | MC_GC_MARK0_CRIT
  | MC_GC_MARK1_HU_BANDS
  | MC_GC_QMAX_QMAX
  | MC_GC_STS_K
  | MC_GC_STS_STATE
  | MC_GC_MODE_VERIFY_OFFSET
  | MC_GC_MODE_RW_MODE
  | MC_GC_MODE_RO_MODE
  | MC_WL_CFG_SPREAD
  | MC_WL_CFG_RATE
  | MC_REC0_COPIES_KEPT
  | MC_REC0_SOURCES_KEPT
  | MC_REC1_HALF_ERASED
  | MC_REC1_ROWS_SEALED
  | MC_REC2_DISCARDED
  | MC_CNT_HOST_UNITS
  | MC_CNT_GC_UNITS
  | MC_CNT_GC_BANDS
  | MC_CNT_WL_BANDS
  | MC_CNT_RETIRED
  | MC_CNT_SEAL_SHORT
  | MC_CNT_RECON
  | MC_CNT_THROTTLE_TICKS
  | MC_CNT_DEGRADED_BANDS
  -- 10_read_integrity.md
  | MC_RI_CFG_RECOV_PASSES
  | MC_RI_CFG_LADDER_MAX
  | MC_RI_CFG_CMD_MAX
  | MC_RI_STS_TABLE_FULL
  | MC_RI_STS_ACTIVE
  | MC_RT_SEL_INDEX
  | MC_RT_ENT1_VALID
  | MC_RT_ENT1_PHASE
  | MC_RT_ENT1_PASSES
  | MC_PATROL_CFG_ENABLE
  | MC_PATROL_CFG_REFRESH_BITS
  | MC_PATROL_CFG_AGE_DAYS
  | MC_PATROL_RD_READS_MAX
  | MC_PATROL_POS_PERMILLE
  | MC_CNT_FAST_FAIL
  | MC_CNT_MISCORRECT
  | MC_CNT_DEEP_OK
  | MC_CNT_LADDER_READS
  | MC_CNT_LADDER_WON
  | MC_CNT_HEDGE_WON
  | MC_CNT_CMD_MAX
  | MC_CNT_RECOVERED
  | MC_CNT_LOST
  | MC_CNT_REFRESH
  | CHP_ECC_CTL_LOG_CLEAR
  | CHP_ECC_CTL_SCRUB_EN
  | CHP_ECC_STS_UE
  | CHP_ECC_LSEL_ENTRY
  | CHP_ECC_LOGB_VALID
  | CHP_ECC_LOGB_MEM
  | CHP_ECC_LOGB_BIT
  | CHP_ECC_LOGB_COUNT
  -- 11_compression.md
  | CX_CAP_DEC_ENG
  | CX_CAP_COMP_ENG
  | CX_CAP_DICT_MAX
  | CX_CAP_FRAME_LOG2
  | CX_CAP_FORMATS
  | CX_CTL_STEAL
  | CX_CTL_FMT_EN
  | CX_STS_DICTS
  | CX_STS_DEC_BUSY
  | CX_STS_COMP_BUSY
  | CX_DICT_CMD_GO
  | CX_DICT_CMD_OP
  | CX_DICT_CMD_UNITS
  | CX_DICT_CMD_NODE
  | CX_DICT_STS_REASON
  | CX_DICT_STS_STATE
  | CX_DICT_SEL_NODE
  | CX_DICT_INFO_HELD
  | CX_DICT_INFO_SIZE
  | CX_DICT_ID_ID
  | CX_ENG_STS_LAST
  | CX_ENG_STS_CLUSTER
  | CX_ENG_STS_CLASS
  | CX_ENG_STS_FORMAT
  | CX_ENG_STS_STATE
  | CX_CNT_DEC_BLOCKS
  | CX_CNT_DEC_BYTES
  | CX_CNT_CHECK_FAIL
  | CX_CNT_CHECK_MISMATCH
  | CX_CNT_DECODE_ERR
  | CX_CNT_PACK_BLOCKS
  | CX_CNT_NOSHRINK
  | CX_CNT_SELFCHECK
  | CX_CNT_STEAL
  -- 12_content_protection.md
  | SEC_STS_VBAT_LOST
  | SEC_STS_TIME_TRUSTED
  | SEC_STS_KEYED
  | SEC_STS_OWNER
  | SEC_MBX_CMD_GO
  | SEC_MBX_CMD_IRQ_EN
  | SEC_MBX_CMD_VECTOR
  | SEC_MBX_CMD_LEN
  | SEC_MBX_STS_RESULT
  | SEC_MBX_STS_STATE
  | SEC_PM_CMD_GO
  | SEC_PM_CMD_FENCE
  | SEC_PM_CMD_COUNT
  | SEC_PM_RESULT_SKIPPED
  | SEC_PM_RESULT_REASON
  | SEC_PM_RESULT_STATE
  | SEC_PM_STS_ARMED
  | SEC_PM_STS_ENTRIES
  | SEC_PM_QSEL_FN
  | SEC_PM_QSEL_NODE
  | SEC_PM_QRES_OWNER
  | SEC_PM_QRES_SPECIFIC
  | SEC_PM_QRES_RIGHTS
  | SEC_PM_STAGE_RIGHTS
  | SEC_PM_STAGE_ALL_NODES
  | SEC_PM_STAGE_FN
  | SEC_PM_STAGE_NODE
  | SEC_KEY_SEL_NODE
  | SEC_KEY_STS_EXPIRING
  | SEC_KEY_STS_LICENCE
  | SEC_KEY_STS_SOURCE
  | SEC_KEY_STS_LOADED
  | SEC_CNT_DENIED
  | SEC_CNT_REVOKED
  | SEC_CNT_MBX
  | SEC_CNT_LIC_CLOSE
  -- 13_modes_and_domains.md
  | PM_MODE_CAUSE
  | PM_MODE_MOVE
  | PM_MODE_TARGET
  | PM_MODE_MODE
  | PM_CTL_REGATE_US
  | PM_CTL_IDLE_US
  | PM_CTL_FLOOR
  | PM_CTL_IDLE_MODE
  | PM_CMD_GO
  | PM_CMD_USE_TICK
  | PM_CMD_ARG
  | PM_CMD_OP
  | PM_CMD_STS_REASON
  | PM_CMD_STS_STATE
  | PM_THR_CFG_STEP
  | PM_THR_CFG_S_MIN
  | PM_PCAP_BASE
  | PM_PCAP_CAP
  | PM_THR_STS_S
  | PM_THR_STS_S_T
  | PM_THR_STS_S_P
  | PM_PATROL_CFG_PERIOD
  | PM_PATROL_CFG_ERR_EN
  | PM_PATROL_CFG_WAKE_EN
  | PM_PATROL_STS_ROUNDS
  | PM_PATROL_STS_VIOLATIONS
  | PM_PATROL_STS_NEXT
  | PM_LOG_STS_WRAPPED
  | PM_LOG_STS_NEXT
  | PM_CNT_REFUSED
  | PM_CNT_ABORTED
  | PM_CNT_ENTRIES
  | PM_CNT_THROTTLE_TICKS
  -- 14_holdup_energy.md
  | HU_CTL_PRESENT
  | HU_CTL_TSENS
  | HU_CTL_TEST_NOW
  | HU_STS_ZERO_WINDOW
  | HU_STS_ZERO_ENERGY
  | HU_STS_FAULT
  | HU_STS_STATE
  | HU_CHG_CFG_V_MAX
  | HU_CHG_CFG_I_IN_MAX
  | HU_REL_CFG_ETA
  | HU_REL_CFG_V_MIN
  | HU_REL_CFG_I_BANK_MAX
  | HU_E_CEIL_FUSE_MAX
  | HU_E_CEIL_CEIL
  | HU_WIN_CHG_LO
  | HU_WIN_CHG_HI
  | HU_WIN_MARGIN
  | HU_ALLOW_CFG_E_FIXED
  | HU_ALLOW_CFG_E_BYTE
  | HU_TEST_CFG_INTERVAL
  | HU_TEST_CFG_DT
  | HU_TEST_CFG_I_TEST
  | HU_FLUSH_CFG_DIES
  | HU_MEAS0_V_BANK
  | HU_MEAS0_T_BANK
  | HU_MEAS1_C_MEAS
  | HU_MEAS1_ESR
  | HU_MEAS2_E_AVAIL
  | HU_MEAS2_V_TARGET
  | HU_LAST_OUTCOME
  | HU_LAST_TRIGGER
  | HU_LAST_DURATION
  | HU_CNT_HOLDUP
  | HU_CNT_TESTS
  | HU_CNT_FLUSH_BYTES
  | HU_CNT_ACK_PROG
  -- 15_housekeeping_and_calendar.md
  | HK_CFG_PERIOD
  | HK_STS_HOT
  | HK_STS_AVS_FAULT
  | HK_STS_SENSOR_FAULT
  | HK_STS_SHUT_SEEN
  | HK_STS_THROTTLING
  | HK_STS_WARN
  | HK_TJ_THR_HYST
  | HK_TJ_THR_SHUT
  | HK_TJ_THR_THROT
  | HK_TJ_THR_WARN
  | HK_WWIN_FUSE_HI
  | HK_WWIN_FUSE_LO
  | HK_WWIN_HI
  | HK_WWIN_LO
  | HK_AVS_CFG0_F_TARGET
  | HK_AVS_CFG0_DEADBAND
  | HK_AVS_CFG0_EN
  | HK_AVS_CFG1_V_MAX
  | HK_AVS_CFG1_V_MIN
  | HK_AVS_STS_TARGET
  | HK_AVS_STS_F_SLOW
  | HK_RD_CFG_EN
  | HK_RD_CFG_NF
  | HK_VAL_BELOW
  | HK_VAL_ABOVE
  | HK_VAL_VALID
  | HK_VAL_AGE
  | HK_VAL_VALUE
  | HK_WIN_HI
  | HK_WIN_LO
  | HK_CNT_WARN
  | HK_CNT_THR_ROUNDS
  | HK_CNT_OOW
  | HK_CNT_AVS_STEPS
  | CAL_STS_SET_REFUSED
  | CAL_STS_ALARM1
  | CAL_STS_ALARM0
  | CAL_STS_VBAT_LOW
  | CAL_STS_OSC_STOP
  | CAL_STS_VBAT_LOST
  | CAL_STS_WARDEN_SET
  | CAL_STS_VALID
  | CAL_CMD_SET
  | CAL_TRIM_TRIM
  | CAL_BCD0_WEEKDAY
  | CAL_BCD0_HOUR
  | CAL_BCD0_MINUTE
  | CAL_BCD0_SECOND
  | CAL_BCD1_YEAR
  | CAL_BCD1_MONTH
  | CAL_BCD1_DAY
  | CAL_ALM_CTL_WAKE1
  | CAL_ALM_CTL_WAKE0
  | CAL_ALM_CTL_EN1
  | CAL_ALM_CTL_EN0
  -- 16_faults_and_recorder.md
  | FC_CTL_IRQ_EN
  | FC_CTL_VECTOR
  | FC_CTL_ESC_MAX
  | FC_STS_CR_VALID
  | FC_STS_CR_SRC
  | FC_STS_ERR_N
  | FC_COMPAT_STS_FATAL
  | FC_COMPAT_STS_UC
  | FC_COMPAT_STS_CE
  | FC_SEL_SOURCE
  | FC_SRC_CFG_OWNER
  | FC_SRC_CFG_KIND
  | FC_SRC_CFG_CLASS
  | FC_SRC_CFG_ERR_EN
  | FC_SRC_CFG_REACT
  | FC_SRC_CFG_N
  | FC_SRC_WIN_W
  | FC_SRC_STATE_LAST_REACT
  | FC_SRC_STATE_ESCALATED
  | FC_SRC_STATE_HELD
  | FC_SRC_STATE_UNACK
  | FC_SRC_STATE_SEVERE
  | FC_SRC_STATE_STICKY
  | FC_SRC_WCNT_WCNT
  | FC_SRC_DETAIL_UNIT
  | FC_SRC_DETAIL_VALUE
  | FC_CNT_CE
  | FC_CNT_UC
  | FC_CNT_FATAL
  | FC_CNT_ESCALATED
  | FC_CNT_CHIPRESET
  | ER_CTL_CLEAR
  | ER_CTL_FREEZE_MAX
  | ER_CTL_ENABLE
  | ER_STS_CLEAR_PENDING
  | ER_STS_FREEZE_TIMEOUT
  | ER_STS_FROZEN
  | ER_STS_ENABLED
  | ER_FREEZE_FREEZE
  | ER_CURSOR_PAGE
  | ER_HSEL_ID
  | ER_HCFG_EN
  | ER_HCFG_LOG2
  | ER_HCFG_UNIT
  | ER_HLOWER_LOWER
  | ER_HWIDTH_WIDTH
  -- 17_firmware_update.md
  | FW_CAP_PKG_MAX
  | FW_CAP_KEYS
  | FW_CAP_SLOTS
  | FW_STS_WAITING
  | FW_STS_COMMIT_BUSY
  | FW_STS_PENDING_RESET
  | FW_STS_ROLL_CLUSTER
  | FW_STS_ACT_STATE
  | FW_ACTIVE_ARMED
  | FW_ACTIVE_NEXT_RESET
  | FW_ACTIVE_RUNNING
  | FW_SLOT_VALID
  | FW_SLOT_BOOTABLE
  | FW_SLOT_RESET_PKG
  | FW_SLOT_ADVANCE
  | FW_SLOT_CLUSTER_IF
  | FW_LAST_COMPONENT
  | FW_LAST_CLUSTER
  | FW_LAST_SLOT
  | FW_LAST_CODE
  | FW_CNT_COMMITS
  | FW_CNT_ACTIVATIONS
  | FW_CNT_REVERTS
  -- 18_startup_and_reset.md
  | CHP_BOOT_STS_FAILED_COPIES
  | CHP_BOOT_STS_SOURCE
  | CHP_BOOT_STS_SLOT
  | CHP_BOOT_STS_PHASE
  | CHP_BOOT_STS_RESULT
  | CHP_BOOT_TIME_REPLAY_MS
  | CHP_BOOT_TIME_READY_MS
  | CHP_RST_CAUSE_LEVEL
  | CHP_RST_CAUSE_SOURCE
  -- 01_units_and_address_map.md
  | UCB_RESET_TICK
  | UCB_POWER_TICK
  | CHP_CTL_TICK
  -- 10_read_integrity.md
  | CHP_ECC_LOGA
  | CHP_ECC_LOGT
  | CHP_ECC_CE
  | CHP_ECC_LAP
  -- 02_tick_and_time.md
  | TK_NEXT_TICK
  | TK_COUNT
  | TK_PTM_EPOCH
  | TK_BUDGET_EFF0
  | TK_BUDGET_EFF1
  | TK_OVR_CNT
  | TK_OVR_LAST
  | TK_JUMP_FROM
  | TK_CANCEL
  | TK_SNAP_COUNT
  | TK_SNAP_PHASE
  | TK_SNAP_CAL
  -- 05_jexash_queues.md
  | JQ_QRPL_BASE
  | JQ_QXR_BASE
  | JQ_QMIRROR
  | JQ_FEVT_BASE
  -- 06_title_stacks.md
  | TS_ARG_SIZE
  | TS_TICK
  -- 07_translation_and_map_cache.md
  | MC_INV_FIRST
  | MC_INV_COUNT
  | MC_JNL_SEQ
  | MC_JNL_CKPT
  -- 09_media_management.md
  | MC_GC_FREE
  | MC_GC_TOTAL
  | MC_WSEQ
  | MC_WL_RANGE
  -- 10_read_integrity.md
  | MC_RT_ENT0
  | MC_PATROL_LAP
  -- 11_compression.md
  | CX_DICT_LBA
  -- 12_content_protection.md
  | SEC_MBX_REQ
  | SEC_MBX_RSP
  | SEC_MONO
  | SEC_TIME_FLOOR
  | SEC_PM_TICK
  -- 13_modes_and_domains.md
  | PM_CMD_TICK
  | PM_PATROL_MASK
  | PM_REFUSE_LOG_UNIT
  | PM_REFUSE_LOG_TYPE
  | PM_REFUSE_LOG_REASON
  | PM_REFUSE_LOG_AP
  | PM_REFUSE_LOG_ABORTED
  | PM_REFUSE_LOG_TARGET
  | PM_REFUSE_LOG_VALID
  | PM_REFUSE_LOG_FROM
  | PM_REFUSE_LOG_TICK
  | PM_KEEP
  -- 14_holdup_energy.md
  | HU_ALLOW
  | HU_DIRTY
  -- 15_housekeeping_and_calendar.md
  | HK_ROUND
  | CAL_TIME
  | CAL_SET
  | CAL_ALARM
  -- 16_faults_and_recorder.md
  | FC_SRC_WSTART
  | FC_SRC_FIRST
  | FC_SRC_LAST
  | FC_SRC_TOTAL
  | ER_LOST
  | ER_CLEARED
  -- 17_firmware_update.md
  | FW_SLOT_SVN
  -- state outside the registers
  | X_FREE
  | X_ARMSEQ
  | X_CMDSEQ
  | X_DIE_POP
  | X_DIE_FORMER
  | X_DIE_CELLS
  | X_OWN_READY
  | X_PWR_TARGET
  | X_PWR_WAKING
  | X_REQ_IMMEDIATE
  | X_CORE_HALTED
  | X_CHIPRST
  | X_CHIPRST_SRC
  | X_TICK_FRAMES
  | X_SRC_PRESENT
  | X_SRC_UNIT
  | X_SRC_VALUE
  | X_WAKE
  | X_MISSES
  | X_GOLD_USED
  | X_HIST_BIN
  | X_EXT_MIN
  | X_EXT_MINT
  | X_EXT_MAX
  | X_EXT_MAXT
  | X_CAL_TIME_NS
  | X_MODE_POWER
  | X_FN_BME
  | X_FN_D3
  | X_FN_DISABLING
  | X_FN_DISKIND
  | X_FN_VFE
  | X_FN_NUMVFS
  | X_FN_FROZEN
  | X_CC
  | X_CSTS_RDY
  | X_CSTS_CFS
  | X_CSTS_SHST
  | X_AQA
  | X_ASQ
  | X_ACQ
  | X_CTRL_DISABLING
  | X_POOL_HELD
  | X_NSQA
  | X_NCQA
  | X_JQ_S
  | X_JQ_RPOST
  | X_JQ_RHEAD
  | X_JQ_RESV
  | X_JQ_XPOST
  | X_JQ_XHEAD
  | X_JQ_IRQN
  | X_JQ_MCNT
  | X_EV_POST
  | X_EV_HEAD
  | X_EV_LOST
  | X_CL_OOS
  | X_READY
  | X_FEAT_AEC
  | X_PWR_PEND
  | X_PWR_FROM
  | X_PERST
  | X_BIFUR_EFF
  | X_SPEED_EFF
  | X_ATS_SEQ
  | X_TICK_SEEN
  | X_TICK_SRCCNT
  | X_DIE_OP
  | X_DIE_SUSP
  | X_DIE_RD
  | X_DIE_SUSPENDING
  | X_DIE_NSUSP
  | X_DIE_SUSPT
  | X_DIE_OPBLK
  | X_DIE_OPPAGE
  | X_DIE_OPMODE
  | X_DIE_SLIMP
  | X_DIE_SLIME
  | X_DIE_RETRY
  | X_DIE_FEAT
  | X_DIE_HINT
  | X_CH_DENIED
  | X_BLK_STATE
  | X_BLK_CNT
  | X_BLK_MODE
  | X_BLK_WL
  | X_BLK_MM
  | X_BLK_FRESH
  | X_BLK_READS
  | X_BROWNOUT
  | X_WSEQ
  | X_BANDSEQ
  | X_ROT
  | X_NODE_GEN
  | X_JNLSEQ
  | X_QUOTA
  | X_QUOTA_FRESH
  | X_PAGESEQ
  | X_JNL_BYTES
  | X_NSCHG
  | X_BLK_REL
  | X_BLK_RELR
  | X_BLK_BEGUN
  | X_WL_SEC
  | X_CAL_SEC
  | X_HU_COVER
  | X_TS_SEQ
  | X_TS_NEXT
  | X_TS_DEL
  | X_GOLD_FN
  | X_RES_EFF
  | X_RDEF
  | X_TLER
  | X_JOBSEQ
  | X_PAT_BAND
  | X_PAT_POS
  | X_PAT_T0
  | X_MISS_LAST
  | X_FE_PAUSE
  | X_RES_PEND
  | X_FEAT_ARB
  | X_FEAT_PS
  | X_FEAT_LASTOP
  | X_FEAT_TT
  | X_FEAT_IC
  | X_FEAT_IVC
  | X_FEAT_QATTR
  | X_NSFAM
  | X_SAN_ST
  | X_SAN_DW10
  | X_SAN_SPROG
  | X_SAN_GDE
  | X_SAN_CRYPTO
  | X_IDLE
  | X_PM_FROM
  | X_MI_FREQ
  | X_MI_MTU
  | X_KEYSEQ
  | X_SAN_FM
  | X_SAN_FN
  | X_HU_FIRST
  | X_HU_T_TEST
  | X_HU_DUE
  | X_HU_QTR
  | X_HU_TESTV
  | X_HU_PREOK
  | X_HU_DISCH
  | X_HU_TRIG
  | X_FLUSH
  | X_FLUSH_SHORT
  | X_FLUSHED
  | X_SHORT_OWED
  | X_PFAIL
  | X_MAIN_PG
  | X_MAIN_EN
  | X_VAUX
  | X_VBAT
  | X_THERM_LOCK
  | X_PAT_PERIOD
  | X_PAT_ERR
  | X_PAT_WAKE
  | X_PAT_MASK
  | X_PAT_HI
  | X_PAT_LO
  | X_KEEP_CAUSE
  | X_KEEP_MONO
  | X_KEEP_FLOOR
  | X_KEEP_SEQ
  | X_SYS_MONO
  | X_PM_AP
  | X_AVS_HIGH
  | X_AVS_OFF
  | X_AVS_NAK
  | X_TJ_HOT
  | X_MBX_MUTE
  | X_PM_SEQ
  | X_PM_STAGE_RES
  | X_FW_CMD
  | X_FW_WAIT
  | X_FW_ACT
  | X_FW_TGT
  | X_FW_TICK
  | X_FW_WRITING
  | X_FW_PHASE
  | X_FW_AT
  | X_FW_RDY
  | X_FW_MAPHALF
  | X_FW_REV
  | X_FW_COMP
  | X_FW_CLCOMP
  | X_SYS_RUN
  | X_SYS_NEXT
  | X_BOOT_HALT
  | X_KEEP_FAILED
  | X_REQ_OVERDUE
  | X_SRC_AT
  | X_CUTOFF_EFF
  | X_TICK_EXT
  | X_TICK_CUT
  | X_TICK_ALIGNED
  | X_AT_BND
  | X_DIE_NOSUSP
  | X_FN_RO
  | X_FN_IDO
  | X_FN_ATS
  | X_FN_ASPM
  | X_FN_L12
  | X_FN_MPS
  | X_FN_MRRS
  | X_FN_CTOD
  | X_FN_BAR
  | X_AER
  | X_MSIX_EN
  | X_MSIX_FMASK
  | X_MSIX_MASKED
  | X_MSIX_PEND
  | X_MI_ADDR
  | X_SM_RD
  | X_SM_WR
  | X_SM_RDC
  | X_SM_WRC
  | X_SM_ME
  | X_SM_ERR
  | X_SM_PC
  | X_SM_US
  | X_SM_CW
  | X_JQ_RR
  | X_BLK_RKEPT
  | X_NONCE_AGE
  | X_FLUSH_BAND
  | X_HU_NONE
  | X_HU_RAN
  deriving DecidableEq, Repr

/-- Every register of the control space. -/
inductive Reg where
  -- 01_units_and_address_map.md
  | UCB_ID
  | UCB_PARAM
  | UCB_CHILD_COUNT
  | UCB_CHILD
  | UCB_STATUS
  | UCB_FAULT
  | UCB_RESET_REQ
  | UCB_POWER_REQ
  | UCB_REQ_STS
  | UCB_CNT0
  | UCB_CNT1
  | UCB_CNT2
  | UCB_CNT3
  | UCB_CNT4
  | UCB_CNT5
  | UCB_CNT6
  | UCB_CNT7
  | CHP_ID
  | CHP_STEP
  | CHP_UID
  | CHP_CAP0
  | CHP_CAP1
  | CHP_CAP2
  | CHP_CAP3
  | CHP_CAP4
  | CHP_CAP5
  | CHP_CAP6
  | CHP_CAP7
  | CHP_CTL
  -- 02_tick_and_time.md
  | TK_CTL
  | TK_PERIOD
  | TK_NEXT
  | TK_STS
  | TK_PHASE
  | TK_SRC
  | TK_CUTOFF
  | TK_BUDGET0
  | TK_BUDGET1
  | TK_CANCEL_STS
  | TK_SNAP
  -- 03_pcie_endpoint.md
  | HE_CFG
  | HE_LINK_STS
  | HE_PWR
  | HE_VFALLOC
  | HE_FNATTR
  | HE_ATS_STS
  | HE_EVT
  | HE_CNT_DISABLE
  | HE_CNT_LDN
  | HE_CNT_INV
  | HE_CNT_CTO
  | HE_CNT_UR
  -- 05_jexash_queues.md
  | JQ_STS
  | JQ_GOLD
  | JQ_QSEL
  | JQ_QCFG
  | JQ_QRING
  | JQ_QCMD
  | JQ_QSTS
  | JQ_QIRQ
  | JQ_QSEQ
  | JQ_FSEL
  | JQ_FGOLD
  | JQ_FEVT_CFG
  | JQ_FSTS
  | JQ_CNT_DOWNGRADE
  | JQ_CNT_LATE
  | JQ_CNT_CAUGHT
  | JQ_CNT_MISSED
  | JQ_CNT_QERR
  | JQ_CNT_XR_EXPIRED
  -- 06_title_stacks.md
  | TS_CAP
  | TS_STS
  | TS_NSEL
  | TS_NODE
  | TS_NODE_LINKS
  | TS_NODE_CHILD
  | TS_CMD
  | TS_ARG
  | TS_RESULT
  | TS_STAGE
  -- 07_translation_and_map_cache.md
  | MC_CTL
  | MC_STS
  | MC_GEOM
  | MC_LOCKMASK
  | MC_LFSR
  | MC_DSTORE
  | MC_PIN_LINES
  | MC_PIN_COUNT
  | MC_INV_CMD
  | MC_INV_STS
  | MC_JNL_CFG
  | MC_JNL_STS
  | MC_CNT_HIT
  | MC_CNT_MISS_DRAM
  | MC_CNT_MISS_FLASH
  | MC_CNT_STALL
  | MC_CNT_EVICT_DIRTY
  | MC_CNT_INV
  | MC_CNT_REFILL
  -- 08_media_service_rom.md
  | MS_STS
  | MS_ROMREV
  | MS_WIN_STS
  | MS_MARGIN
  | MS_SYSUNLOCK
  | MS_CALL
  | MS_CPL
  | MS_CH_IF
  | MS_CH_GEO
  | MS_CH_SENS
  | MS_CH_SYS
  | MS_CH_DIEST
  | MS_CH_CNT_READ
  | MS_CH_CNT_PROGRAM
  | MS_CH_CNT_ERASE
  | MS_CH_CNT_SUSPEND
  | MS_CH_CNT_BO
  | MS_CH_CNT_WIN
  | MS_CH_CNT_TIMEOUT
  -- 09_media_management.md
  | MC_GC_MARK0
  | MC_GC_MARK1
  | MC_GC_QMAX
  | MC_GC_STS
  | MC_GC_MODE
  | MC_WL_CFG
  | MC_REC0
  | MC_REC1
  | MC_REC2
  | MC_CNT_HOST_UNITS
  | MC_CNT_GC_UNITS
  | MC_CNT_GC_BANDS
  | MC_CNT_WL_BANDS
  | MC_CNT_RETIRED
  | MC_CNT_SEAL_SHORT
  | MC_CNT_RECON
  | MC_CNT_THROTTLE_TICKS
  | MC_CNT_DEGRADED_BANDS
  -- 10_read_integrity.md
  | MC_RI_CFG
  | MC_RI_STS
  | MC_RT_SEL
  | MC_RT_ENT1
  | MC_PATROL_CFG
  | MC_PATROL_RD
  | MC_PATROL_POS
  | MC_CNT_FAST_FAIL
  | MC_CNT_MISCORRECT
  | MC_CNT_DEEP_OK
  | MC_CNT_LADDER_READS
  | MC_CNT_LADDER_WON
  | MC_CNT_HEDGE_WON
  | MC_CNT_CMD_MAX
  | MC_CNT_RECOVERED
  | MC_CNT_LOST
  | MC_CNT_REFRESH
  | CHP_ECC_CTL
  | CHP_ECC_STS
  | CHP_ECC_LSEL
  | CHP_ECC_LOGB
  -- 11_compression.md
  | CX_CAP
  | CX_CTL
  | CX_STS
  | CX_DICT_CMD
  | CX_DICT_STS
  | CX_DICT_SEL
  | CX_DICT_INFO
  | CX_DICT_ID
  | CX_ENG_STS
  | CX_CNT_DEC_BLOCKS
  | CX_CNT_DEC_BYTES
  | CX_CNT_CHECK_FAIL
  | CX_CNT_CHECK_MISMATCH
  | CX_CNT_DECODE_ERR
  | CX_CNT_PACK_BLOCKS
  | CX_CNT_NOSHRINK
  | CX_CNT_SELFCHECK
  | CX_CNT_STEAL
  -- 12_content_protection.md
  | SEC_STS
  | SEC_MBX_CMD
  | SEC_MBX_STS
  | SEC_PM_CMD
  | SEC_PM_RESULT
  | SEC_PM_STS
  | SEC_PM_QSEL
  | SEC_PM_QRES
  | SEC_PM_STAGE
  | SEC_KEY_SEL
  | SEC_KEY_STS
  | SEC_CNT_DENIED
  | SEC_CNT_REVOKED
  | SEC_CNT_MBX
  | SEC_CNT_LIC_CLOSE
  -- 13_modes_and_domains.md
  | PM_MODE
  | PM_CTL
  | PM_CMD
  | PM_CMD_STS
  | PM_THR_CFG
  | PM_PCAP
  | PM_THR_STS
  | PM_PATROL_CFG
  | PM_PATROL_STS
  | PM_LOG_STS
  | PM_CNT_REFUSED
  | PM_CNT_ABORTED
  | PM_CNT_ENTRIES
  | PM_CNT_THROTTLE_TICKS
  -- 14_holdup_energy.md
  | HU_CTL
  | HU_STS
  | HU_CHG_CFG
  | HU_REL_CFG
  | HU_E_CEIL
  | HU_WIN
  | HU_ALLOW_CFG
  | HU_TEST_CFG
  | HU_FLUSH_CFG
  | HU_MEAS0
  | HU_MEAS1
  | HU_MEAS2
  | HU_LAST
  | HU_CNT_HOLDUP
  | HU_CNT_TESTS
  | HU_CNT_FLUSH_BYTES
  | HU_CNT_ACK_PROG
  -- 15_housekeeping_and_calendar.md
  | HK_CFG
  | HK_STS
  | HK_TJ_THR
  | HK_WWIN
  | HK_AVS_CFG0
  | HK_AVS_CFG1
  | HK_AVS_STS
  | HK_RD_CFG
  | HK_VAL
  | HK_WIN
  | HK_CNT_WARN
  | HK_CNT_THR_ROUNDS
  | HK_CNT_OOW
  | HK_CNT_AVS_STEPS
  | CAL_STS
  | CAL_CMD
  | CAL_TRIM
  | CAL_BCD0
  | CAL_BCD1
  | CAL_ALM_CTL
  -- 16_faults_and_recorder.md
  | FC_CTL
  | FC_STS
  | FC_COMPAT_STS
  | FC_STICKY
  | FC_SEVERE
  | FC_UNACK
  | FC_SEL
  | FC_SRC_CFG
  | FC_SRC_WIN
  | FC_SRC_STATE
  | FC_SRC_WCNT
  | FC_SRC_DETAIL
  | FC_CNT_CE
  | FC_CNT_UC
  | FC_CNT_FATAL
  | FC_CNT_ESCALATED
  | FC_CNT_CHIPRESET
  | ER_CTL
  | ER_STS
  | ER_FREEZE
  | ER_CURSOR
  | ER_HSEL
  | ER_HCFG
  | ER_HLOWER
  | ER_HWIDTH
  -- 17_firmware_update.md
  | FW_CAP
  | FW_STS
  | FW_ACTIVE
  | FW_SLOT
  | FW_LAST
  | FW_CNT_COMMITS
  | FW_CNT_ACTIVATIONS
  | FW_CNT_REVERTS
  -- 18_startup_and_reset.md
  | CHP_BOOT_STS
  | CHP_BOOT_TIME
  | CHP_RST_CAUSE
  -- 01_units_and_address_map.md
  | UCB_RESET_TICK
  | UCB_POWER_TICK
  | CHP_CTL_TICK
  -- 10_read_integrity.md
  | CHP_ECC_LOGA
  | CHP_ECC_LOGT
  | CHP_ECC_CE
  | CHP_ECC_LAP
  -- 02_tick_and_time.md
  | TK_NEXT_TICK
  | TK_COUNT
  | TK_PTM_EPOCH
  | TK_BUDGET_EFF0
  | TK_BUDGET_EFF1
  | TK_OVR_CNT
  | TK_OVR_LAST
  | TK_JUMP_FROM
  | TK_CANCEL
  | TK_SNAP_COUNT
  | TK_SNAP_PHASE
  | TK_SNAP_CAL
  -- 05_jexash_queues.md
  | JQ_QRPL_BASE
  | JQ_QXR_BASE
  | JQ_QMIRROR
  | JQ_FEVT_BASE
  -- 06_title_stacks.md
  | TS_NODE_SIZE
  | TS_ARG_SIZE
  | TS_TICK
  -- 07_translation_and_map_cache.md
  | MC_INV_FIRST
  | MC_INV_COUNT
  | MC_JNL_SEQ
  | MC_JNL_CKPT
  -- 09_media_management.md
  | MC_GC_FREE
  | MC_GC_TOTAL
  | MC_WSEQ
  | MC_WL_RANGE
  -- 10_read_integrity.md
  | MC_RT_ENT0
  | MC_PATROL_LAP
  -- 11_compression.md
  | CX_DICT_LBA
  -- 12_content_protection.md
  | SEC_MBX_REQ
  | SEC_MBX_RSP
  | SEC_MONO
  | SEC_TIME_FLOOR
  | SEC_PM_TICK
  -- 13_modes_and_domains.md
  | PM_CMD_TICK
  | PM_PATROL_MASK
  | PM_REFUSE_LOG0
  | PM_REFUSE_LOG1
  | PM_REFUSE_LOG2
  | PM_KEEP
  -- 14_holdup_energy.md
  | HU_ALLOW
  | HU_DIRTY
  -- 15_housekeeping_and_calendar.md
  | HK_ROUND
  | CAL_TIME
  | CAL_SET
  | CAL_ALARM
  -- 16_faults_and_recorder.md
  | FC_SRC_WSTART
  | FC_SRC_FIRST
  | FC_SRC_LAST
  | FC_SRC_TOTAL
  | ER_LOST
  | ER_CLEARED
  | ER_WIN
  -- 17_firmware_update.md
  | FW_SLOT_SVN
  -- 03_pcie_endpoint.md
  | HE_VFATTR
  deriving DecidableEq, Repr

end Sys2Proof.Machine
end

