-- ==== Sys2Proof/Machine/Records.lean ====
section
/-! DEFINITION. The records the state is made of beside the register fields: outstanding commands, queues, grants, plans,
armed actions, nodes, map lines and pages, journal records, stored units, bands, engine jobs, keys, licences, faults in flight,
and what the block has sent. -/

namespace Sys2Proof.Machine

/-- Names one stored field: the field, the instance of its register (a queue, a port, a source, a UCB window, a node ...) and,
for a register that exists once per agent, the agent (0 to 63 a core, 64 PF0). -/
structure RKey where
  f : Field
  i : Nat := 0
  a : Nat := 0
  deriving DecidableEq, Repr

/-- Order of the stored fields: by register field, then instance, then agent. -/
def RKey.lt (x y : RKey) : Bool :=
  if x.f.ctorIdx ≠ y.f.ctorIdx then decide (x.f.ctorIdx < y.f.ctorIdx)
  else if x.i ≠ y.i then decide (x.i < y.i) else decide (x.a < y.a)

/-- What the block sends: answers to accesses, posted writes to host or peer memory, interrupts, link and pin activity, and
orders to units the control space does not reach. Each is appended to `State.out` in the order sent. -/
inductive Out where
  /-- The answer to a control-space read of `width` bytes (R11, R42). -/
  | readData (ag : Agent) (off width value : Nat)
  /-- A 16-byte reply (R209) of a Jexash queue, posted at the ring entry named. -/
  | reply (q entry tag status flags crc ctick info : Nat) (phase : Bool)
  /-- A 32-byte transfer-ready packet (R223). -/
  | grant (q entry tag num credit woff len srcOff expire : Nat) (phase : Bool)
  /-- A 16-byte event (R233) of a function's event ring. -/
  | event (fn entry type slot tag detail tick : Nat) (dropped phase : Bool)
  /-- The head mirror of a queue (R187). -/
  | mirror (q count : Nat)
  /-- A completion queue entry; `sct`, `sc` and `dnr` are the status, `dw0` and `dw1` the two Dwords. -/
  | cqe (fn cqid entry sqid sqhd cid sct sc : Nat) (dnr : Bool) (dw0 dw1 : Nat) (phase : Bool)
  /-- An MSI-X message of a function. -/
  | msix (fn vector : Nat)
  /-- Data written by DMA to an IOVA. -/
  | dma (fn addr : Nat) (data : List Byte) (strict : Bool)
  /-- Data written by DMA through the data pointer of an NVMe command, which the block walks as the standard says. -/
  | dmaPtr (fn sqid cid off : Nat) (data : List Byte) (strict : Bool)
  /-- A DMA read requested for a command. -/
  | dmaRead (fn cmd offset len : Nat)
  /-- An ATS Invalidation Completion (R107). -/
  | invalidated (fn tag : Nat)
  /-- Unsupported Request to a non-posted access, or all ones for a BAR read (R118, R123, R180). -/
  | barAnswer (fn : Nat) (ur : Bool)
  /-- TICK_OUT rises and, when the frame is on, carries these bits (R56). -/
  | tickOut (frame : Option (List Bool))
  /-- An interrupt or NMI to a core (R570). -/
  | coreIrq (core : Nat) (nmi : Bool)
  /-- A level the block drives on a ball: ERR_N, MAIN_EN. -/
  | pin (name : String) (level : Bool)
  /-- The VCORE target written over AVSBus, mV (R551). -/
  | avs (mv : Nat)
  /-- A die command issued by a channel sequencer (R326). -/
  | dieOp (die call : Nat)
  /-- An out-of-band management answer (R175, R176). -/
  | mi (status : Nat) (data : List Byte)
  /-- An asynchronous event sent to a controller: type, information, log page. -/
  | asyncEvent (fn type info lid : Nat)
  /-- A link changes its power state (R109, R110). -/
  | linkPower (link state : Nat)
  /-- The Warden's fetch of a mailbox request (R461), and the response it posts: address, the 16 bytes of its header, and
  what the command returns, as numbers and bytes. -/
  | mbxFetch (addr len : Nat)
  | mbxReply (addr : Nat) (header : List Byte) (fields : List Nat) (data : List Byte)
  /-- The header of the request that follows: function, host address where the block computes it itself (none where it walks a PRP or
  SGL list), strict traffic (R99), Relaxed Ordering and ID-Based Ordering (R100), and whether the address goes out translated (R105). -/
  | tlp (fn : Nat) (addr : Option Nat) (strict ro ido translated : Bool)
  /-- An ATS Translation Request (R105). -/
  | xlatRequest (fn addr len : Nat)
  /-- An error that a function reports through AER: the condition (X_AER), and its class: 0 correctable, 1 non-fatal,
  2 fatal, 3 non-fatal and advisory (R122, R123). -/
  | aer (fn cond cls : Nat)
  deriving DecidableEq, Repr

/-- A request of strict traffic that is not sent yet: it waits for its translation (`ready` false, R105) or for its turn in the order of
fetch (R101). -/
structure Hold where
  /-- the command it belongs to; none for events and head mirrors -/
  cmd : Option Nat
  nvme : Bool
  fn : Nat
  q : Nat
  addr : Option Nat
  len : Nat
  /-- a write of data -/
  data : Bool
  ready : Bool
  out : Out
  deriving DecidableEq, Repr

/-- A DMA read requested and not answered in full (R106, R107): its command, function, address where the block computes it, and the
bytes still to come. -/
structure DmaReq where
  cmd : Nat
  fn : Nat
  addr : Option Nat
  len : Nat
  left : Nat
  deriving DecidableEq, Repr

/-- An Invalidate Request not completed (R107), with the commands whose DMA reads used a dropped entry. -/
structure Inv where
  fn : Nat
  tag : Nat
  reads : List Nat
  deriving DecidableEq, Repr

/-- An entry of the Error Information log (R171): its controller and number, and the queue, command, status, first block and namespace of
the command that failed. -/
structure ErrEntry where
  fn : Nat
  count : Nat
  sqid : Nat
  cid : Nat
  status : Nat
  lba : Nat
  nsid : Nat
  deriving DecidableEq, Repr

/-- How far an outstanding command has come. -/
inductive CmdState where
  /-- fetched or taken in, not yet admitted -/
  | taken
  /-- admitted; its media work is not yet planned -/
  | admitted
  /-- planned: at least one entry of its media work is in a sealed plan or running -/
  | planned
  /-- its media work has ended; only delivery or an event it waits for is left -/
  | ended
  deriving DecidableEq, Repr

/-- Where one 4 KiB unit of a read comes from, as resolved at admission (R249, R265). -/
inductive Src where
  /-- deallocated: zeroes (R250) -/
  | zero
  /-- stored raw at a place -/
  | raw (place : Nat)
  /-- unit `sub` of the original data of the Mumel block stored at some places, in order (R270, R272) -/
  | packed (places : List Nat) (sub : Nat)
  deriving DecidableEq, Repr

/-- One unit a read command still owes: its position in the command, the volume and unit that supply it, its source, and whether
its data has been verified. -/
structure Part where
  pos : Nat
  vol : Nat
  lba : Nat
  src : Src
  done : Bool
  data : List Byte
  /-- the number of the volume's key at admission (R467) -/
  key : Nat
  deriving DecidableEq, Repr

/-- How a command ends: the Jexash STATUS (R213), the NVMe status code type, code and DNR (R161 and NVMe Base), the two
completion Dwords, the reply's CRC and INFO, and its flags RAW, CAUGHT and MISSED (R209). -/
structure Result where
  jx : Nat := 0
  sct : Nat := 0
  sc : Nat := 0
  dnr : Bool := false
  dw0 : Nat := 0
  dw1 : Nat := 0
  crc : Nat := 0
  info : Nat := 0
  raw : Bool := false
  caught : Bool := false
  missed : Bool := false
  deriving DecidableEq, Repr

/-- How a command moves logical blocks (R145): bytes of a block and of its metadata, whether they are one extended block, the type of its
protection information (0 none), PRACT, PRCHK, and the expected reference tag, application tag and mask. -/
structure BlockFmt where
  lb : Nat := 4096
  md : Nat := 0
  ext : Bool := false
  pi : Nat := 0
  pract : Bool := false
  prchk : Nat := 0
  ref : Nat := 0
  tag : Nat := 0
  mask : Nat := 0
  deriving DecidableEq, Repr

/-- An outstanding command of either host protocol. -/
structure Cmd where
  /-- order of fetch or intake, device-wide -/
  id : Nat
  nvme : Bool
  fn : Nat
  /-- SQID (0 for admin) or Jexash queue -/
  q : Nat
  /-- CID or TAG -/
  tag : Nat
  op : Nat
  /-- the 64 bytes of the entry or packet -/
  raw : List Byte
  /-- continuation bytes of a GATHER taken in so far, and how many packets are still to come (R198) -/
  cont : List Byte
  contLeft : Nat
  st : CmdState
  /-- the class it runs in: 0 Gold, 1 Silver, 2 Copper, 3 Lead -/
  cls : Nat
  /-- admitted as Gold (R216) -/
  gold : Bool
  downgraded : Bool
  noticed : Bool
  /-- no reply, completion entry or DMA any more (R113) -/
  mute : Bool
  /-- revoked by a fenced batch: it runs on muted and then has the one reply REVOKED (R483) -/
  revoked : Bool
  /-- the rights its function had on the node it names when it was fetched or taken in (R476, R482) -/
  rights : Nat
  node : Nat
  lba : Nat
  len : Nat
  /-- bytes of the first unit that the range leaves out, and bytes of the range (LBA formats of 512 bytes) -/
  skip : Nat
  bytes : Nat
  /-- tick of fetch or intake and the phase in it, ns, and the Gold deadline tick -/
  tick : Nat
  ph : Nat
  deadline : Int
  /-- read: the units it owes; write: its granules, done once stored -/
  parts : List Part
  /-- stored units of packed blocks verified for it so far -/
  arrived : List Nat
  /-- write: volume written plus 1, and data received in completed grants or DMA reads, by position; unpack: output delivered -/
  target : Nat
  got : List (Nat × List Byte)
  /-- write: it waits for quota or for a band (R359, R373) -/
  waits : Bool
  /-- bytes granted so far, and grants issued (R224) -/
  issued : Nat
  gnum : Nat
  /-- its result, once it has ended and its reply or completion entry only waits to be posted (R186, R211) -/
  res : Option Result
  /-- write: every granule so far is covered by the allowance (R531), its granules that are not, and the write-buffer bytes it still
  holds -/
  covered : Bool
  unc : List Nat
  alloc : Nat
  /-- WRITE_PACK: cut points; READ_UNPACK and GATHER: offset of the next frame; PIN: 1 once its preload has started -/
  aux : List Nat
  /-- READ_UNPACK and GATHER of Zstandard frames: the dictionaries of the volumes it reads, bound at admission (R444) -/
  dicts : List (Nat × List Byte)
  /-- NVMe I/O: how it moves logical blocks (R145) -/
  fmt : BlockFmt
  /-- write: the volumes of its node in order, as at its admission (R265) -/
  order : List Nat
  /-- a write that is cut off and ends with this once what is fully received of it is stored (R106, R227) -/
  cut : Option Result
  deriving DecidableEq, Repr

/-- An NVMe I/O or admin submission queue. -/
structure SubQ where
  fn : Nat
  qid : Nat
  size : Nat
  cqid : Nat
  base : Nat
  head : Nat
  tail : Nat
  prio : Nat
  cls : Nat
  strict : Bool
  deadline : Nat
  frozen : Bool
  deriving DecidableEq, Repr

/-- An NVMe completion queue. -/
structure ComplQ where
  fn : Nat
  qid : Nat
  size : Nat
  base : Nat
  head : Nat
  tail : Nat
  phase : Bool
  irq : Bool
  vector : Nat
  deriving DecidableEq, Repr

/-- An open transfer-ready grant (R223 to R227): window bytes received are in `State.dataWin`. -/
structure Grant where
  cmd : Nat
  q : Nat
  fn : Nat
  num : Nat
  woff : Nat
  len : Nat
  srcOff : Nat
  expire : Nat
  /-- withdrawn by a disable point or a revocation: it takes no more data (R116, R483) -/
  closed : Bool
  /-- tick of issue and the phase in it, ns -/
  tick : Nat
  ph : Nat
  deriving DecidableEq, Repr

/-- The plan table of a die (R59): the bank in force, with its entries still to start, and the bank being written. -/
structure DiePlan where
  die : Nat
  active : List PEntry
  next : List PEntry
  sealed : Bool
  /-- the inactive bank missed its seal and the safe plan is to run (R72) -/
  missed : Bool
  /-- work that waits for the planner: admitted, or given back to be planned again (R63, R74, R669) -/
  back : List PEntry
  /-- work admitted after the cutoff: it waits for the next boundary first (R61) -/
  late : List PEntry
  deriving DecidableEq, Repr

/-- What an action armed for a tick does (R78). -/
inductive Act where
  | chipReset (cold : Bool) (source : Nat)
  | period (us : Nat)
  | protection (agent : Nat) (entries : List Nat) (fence : Bool) (tag : Nat)
  | firmware (slot : Nat)
  | mode (agent op arg : Nat)
  | unitReset (win : Nat) (immediate : Bool)
  | unitPower (win target : Nat)
  | pin (cmd : Nat)
  | stack (agent op node : Nat) (children : List Nat) (tag : Nat)
  | licenceRemove (node : Nat)
  deriving DecidableEq, Repr

/-- An armed action: its tick, its order of acceptance, and what it does. -/
structure Armed where
  tick : Nat
  seq : Nat
  act : Act
  deriving DecidableEq, Repr

/-- A node: a volume or a stack node (R243 to R248). A node ID with no record is FREE. -/
structure Node where
  id : Nat
  isStack : Bool
  deleting : Bool
  size : Nat
  /-- 0 4 KiB, 1 16 KiB, 2 64 KiB -/
  granule : Nat
  /-- 0 none, 1 Mumel -/
  codec : Nat
  lbaf : Nat
  /-- metadata in extended blocks, and the type of the protection information (R145) -/
  ext : Bool
  pi : Nat
  writable : Bool
  /-- key source TITLE (R464) -/
  titleKey : Bool
  children : List Nat
  /-- resolution epoch (R286) -/
  epoch : Nat
  /-- controllers it is attached to -/
  attached : List Nat
  /-- a Format or a deletion invalidation is at work: Namespace Not Ready (R149) -/
  formatting : Option Nat
  deriving DecidableEq, Repr

/-- The state of a map-cache line (R282). -/
inductive LineSt where
  | filling | clean | dirty | stale
  deriving DecidableEq, Repr

/-- A line of the map cache: tag, place, state, pin count, the epoch of a resolution line (R286) and its eight words. A line
that is not listed is INVALID. -/
structure Line where
  node : Nat
  l : Nat
  set : Nat
  way : Nat
  st : LineSt
  pins : Nat
  epoch : Nat
  words : List Nat
  deriving DecidableEq, Repr

/-- A lookup that missed and waits, on one of the map cache's 16 ports (R278 to R280): for the fill of its line, or for a way. -/
structure Lookup where
  port : Nat
  node : Nat
  l : Nat
  deriving DecidableEq, Repr

/-- A map page held in the DRAM store (R273, R274), as the words that are not 0, by entry index; `dirty`: it holds updates not
yet in flash; `used`: order of last use. -/
structure MapPage where
  node : Nat
  page : Nat
  words : List (Nat × Nat)
  dirty : Bool
  used : Nat
  /-- where its flash copy lies: the entry of the map directory (R273); none where it was never programmed -/
  place : Option Nat
  deriving DecidableEq, Repr

/-- A range invalidation at work (R295): its node, its first line and count of lines (for a stack, in resolution lines), and who
waits for it. -/
structure Sweep where
  node : Nat
  first : Nat
  count : Nat
  /-- 0 MC_INV of an agent, 1 deletion, 2 Format, 3 stack change -/
  kind : Nat
  agent : Nat
  /-- it waits for one of the 8 range slots (R295) -/
  waiting : Bool
  /-- stack change: the number of the change in its agent's TS_RESULT -/
  tag : Nat
  deriving DecidableEq, Repr

/-- A pin (R205): holder, ID, and the lines it counts, as node and line number. -/
structure Pin where
  fn : Nat
  id : Nat
  cmd : Nat
  node : Nat
  lines : List (Nat × Nat)
  deriving DecidableEq, Repr

/-- A translation held in a port's ATS cache (R104): function, address, size, order of last use. -/
structure AtsEntry where
  fn : Nat
  addr : Nat
  size : Nat
  used : Nat
  deriving DecidableEq, Repr

/-- A journal record (R306); `prog`: its page has been programmed (R387). -/
structure JRec where
  seq : Nat
  type : Nat
  node : Nat
  a : Nat
  b : Nat
  prog : Bool
  deriving DecidableEq, Repr

/-! ### Media -/

/-- A place of a stored 4 KiB unit as one number: die × 2^36 + UNIT (R270, R314); the die is 16 × channel + die. -/
def placeOf (die unit : Nat) : Nat := die * 2 ^ 36 + unit

/-- The unit record (R362), without its CRC, which covers the other fields. -/
structure URec where
  wseq : Nat
  /-- 1 raw data, 2 packed data, 3 map page, 4 journal page, 5 parity, 6 pad -/
  kind : Nat
  first : Bool
  node : Nat
  len : Nat
  band : Nat
  g : Nat
  ecount : Nat
  /-- the model's own: number of the key the data are encrypted under; 0 for data stored as received (log entry 12) -/
  key : Nat
  deriving DecidableEq, Repr

/-- A stored unit: its record and its 4,096 data bytes. On an encrypted volume the flash holds their ciphertext (log entry 12). -/
structure FUnit where
  rcd : URec
  data : List Byte
  deriving DecidableEq, Repr

/-- A unit in the write buffer (R383, R531): the place it is to be programmed at, its content, the function whose write it is
(none for the J96's own), and whether its PROGRAM has ended. It leaves the buffer when its row is parity-complete. -/
structure WUnit where
  place : Nat
  unit : FUnit
  host : Option Nat
  programmed : Bool
  /-- the command that waits for its programming (R166, R226) -/
  waits : Option Nat
  deriving DecidableEq, Repr

/-- An issued media call (R322, R325): its mailbox slot and its fields; `die` is the global die number. -/
structure Call where
  cl : Nat
  slot : Nat
  call : Nat
  irq : Bool
  sys : Bool
  ch : Nat
  die : Nat
  mode : Nat
  block : Nat
  page : Nat
  first : Nat
  count : Nat
  buf : Nat
  param : Nat
  /-- the plan entry it was issued for; none for the direct path (R326) -/
  entry : Option PEntry
  /-- core the completion is posted to -/
  core : Nat
  deriving DecidableEq, Repr

/-- A unit in channel staging after a READ, at an offset: its place, and whether it is left raw for the deep decoders (R329). -/
structure Staged where
  ch : Nat
  off : Nat
  place : Nat
  raw : Bool
  deriving DecidableEq, Repr

/-- A band (R355 to R361). A member is a die and a block, or ABSENT. -/
structure Band where
  id : Nat
  kind : Nat
  mode : Nat
  rot : Nat
  members : List (Option (Nat × Nat))
  /-- open, or FULL -/
  isOpen : Bool
  /-- the next place of the write order (R358), counted in units from the start of the band -/
  pos : Nat
  /-- wordlines below this are parity-complete by their parity wordlines -/
  parityWl : Nat
  /-- PAGE indexes sealed under R384 -/
  sealedRows : List Nat
  /-- a member is CLOSED (R383) -/
  closed : Bool
  /-- WSEQ at opening, highest WSEQ, calendar second of the close -/
  wseqOpen : Nat
  wseqMax : Nat
  closedAt : Nat
  /-- queued for refresh (R417), chosen by static wear levelling (R381), taken as GC victim -/
  refresh : Bool
  wear : Bool
  victim : Bool
  deriving DecidableEq, Repr

/-- A GC, refresh, wear or recovery copy whose commit is owed (R374, R410): source and target of a granule or packed block. -/
structure Copy where
  src : Nat
  dst : Nat
  len : Nat
  /-- a recovery commit frees its recovery-table entry (R410) -/
  recov : Bool
  deriving DecidableEq, Repr

/-- A read-retry ladder (R396) of a unit that failed at step 0. -/
structure Ladder where
  place : Nat
  cls : Nat
  seq : Nat
  /-- orders run: 0 before the deep decode of the step-0 data; then the number of ladder reads decoded -/
  done : Nat
  /-- a read or decode of the present step is at work -/
  busy : Bool
  /-- a background pass ignores LADDER_MAX (R409) -/
  background : Bool
  exhausted : Bool
  deriving DecidableEq, Repr

/-- How far a member read of a hedge has come. -/
inductive MemberSt where
  | waiting | verified | failed
  deriving DecidableEq, Repr

/-- A reconstruction hedge, or a read planned by reconstruction (R364, R400): the unit, the members read and N. -/
structure Hedge where
  place : Nat
  /-- its class: 0 Gold, 1 Silver, and for a planned reconstruction 2 Copper, 3 Lead -/
  cls : Nat
  need : Nat
  members : List (Nat × MemberSt)
  /-- tick of the failure it was launched at, and the phase in it, ns -/
  tick : Nat
  ph : Nat
  /-- the one more attempt of R405 has been made -/
  retried : Bool
  /-- planned by reconstruction, not beside a ladder (R364) -/
  recon : Bool
  deriving DecidableEq, Repr

/-- A deep-decode job (R395): cluster, unit, mode, class and order; running on one of the cluster's two deep decoders, or queued. -/
structure DeepJob where
  cl : Nat
  place : Nat
  soft : Bool
  cls : Nat
  seq : Nat
  running : Bool
  deriving DecidableEq, Repr

/-- A recovery-table entry (R407, R409). -/
structure Recov where
  node : Nat
  g : Nat
  phase : Nat
  passes : Nat
  /-- a pass is at work, and the stored units it has verified (R409) -/
  going : Bool
  got : List Nat
  deriving DecidableEq, Repr

/-- An entry of the memory ECC log (R422). -/
structure EccEntry where
  mem : Nat
  addr : Nat
  bitNo : Nat
  count : Nat
  last : Nat
  deriving DecidableEq, Repr

/-! ### Engines -/

/-- What an engine job works on. -/
inductive JobKind where
  /-- a packed block read: its stored units (R438) -/
  | block (places : List Nat)
  /-- a frame of a stream at a byte offset of its range (R441) -/
  | frame (off : Nat)
  /-- a block of WRITE_PACK or PACK_ONLY: first unit of the command and units (R449) -/
  | pack (pos len : Nat)
  deriving DecidableEq, Repr

/-- A job of a decompression or compression engine (R427, R428): waiting, or running on an engine. -/
structure EngJob where
  /-- order of queueing -/
  id : Nat
  /-- cluster in whose queue it is; for a running job, the cluster of its engine -/
  cl : Nat
  cmd : Nat
  cls : Nat
  fmt : Nat
  kind : JobKind
  engine : Option Nat
  /-- its check has failed once and its block or frame is read again (R200) -/
  again : Bool
  /-- its input is complete: one read again waits for its units (R415) -/
  ready : Bool
  /-- places whose units it still waits for -/
  need : List Nat
  /-- it runs again on whichever engine of its kind becomes idle first (R447) -/
  roams : Bool
  deriving DecidableEq, Repr

/-- A Zstandard dictionary held (R452). -/
structure Dict where
  node : Nat
  lba : Nat
  units : Nat
  id : Nat
  data : List Byte
  deriving DecidableEq, Repr

/-! ### Warden -/

/-- A protection-map entry of a node for a function (R476): its rights, as the low bits of a staged entry give them. -/
structure Right where
  fn : Nat
  node : Nat
  rights : Nat
  deriving DecidableEq, Repr

/-- A key: its volume, its number, its source (0 DEVICE, 1 TITLE), and whether it is the volume's key or only waits for its
destruction (R467). -/
structure Key where
  node : Nat
  gen : Nat
  source : Nat
  doomed : Bool
  deriving DecidableEq, Repr

/-- A response of the host mailbox that is to be posted (R461, R462). -/
structure MbxResp where
  op : Nat
  result : Nat
  fields : List Nat
  data : List Byte
  deriving DecidableEq, Repr

/-- An installed title licence (R468): its volume, its place in the licence table, its 256-byte blob, and whether it is closed. -/
structure Licence where
  node : Nat
  index : Nat
  blob : List Byte
  closed : Bool
  deriving DecidableEq, Repr

end Sys2Proof.Machine
end

