-- ==== Sys2Proof/Machine/State.lean ====
section
/-! DEFINITION. The state of the block, its faults and refusals, and the state after reset. All of it is plain data. -/

namespace Sys2Proof.Machine

/-- Where a run stops. The spec gives every command of the block an effect, so nothing in this model raises a fault. -/
inductive Fault where
  /-- Raised by no meaning; it keeps the type inhabited. Safe: a stop proves nothing about the hardware. -/
  | none
  deriving DecidableEq, Repr

/-- Why a command is refused. -/
inductive Refusal where
  /-- A row of the table that has no meaning yet, by its mnemonic. Raised by an arm of `exec` only. Safe: the run stops. -/
  | notModelled (mnemonic : String)
  deriving DecidableEq, Repr

/-- The state of the block. -/
structure State where
  /-- The commands that wait, first in, first out (the model's own: a block takes commands from outside). -/
  pending : List Instr
  /-- Every register field and every other scalar (Machine/RegName.lean), in the canonical form of Machine/Sparse.lean; a
  field that is not listed holds its reset value (Machine/RegTable.lean). -/
  regs : List (RKey × Nat)
  /-- What the block has sent, oldest first. -/
  out : List Out
  /-- The half-read latch of an agent (R12): agent number, offset of the 64-bit register, its upper half. -/
  latches : List (Nat × Nat × Nat)
  /-- The fields the Warden has locked (R7, R457): field and instance of its register. -/
  locks : List (Field × Nat)
  /-- Outstanding commands of both host protocols, in order of fetch and intake. -/
  cmds : List Cmd
  sqs : List SubQ
  cqs : List ComplQ
  /-- Asynchronous events that wait for a request: function, type, information, log page (R135, R170). -/
  asyncWaiting : List (Nat × Nat × Nat × Nat)
  /-- Bytes of Jexash packet slots, at queue × 16,384 + offset; an unlisted byte has not been written since intake (R181). -/
  slots : List (Nat × Option Byte)
  /-- Translations held in the ATS caches of both ports (R104). -/
  ats : List AtsEntry
  /-- Invalidate Requests received and not completed, oldest first (R107). -/
  invs : List Inv
  /-- Requests of strict traffic that wait, oldest first (R101, R105). -/
  holds : List Hold
  /-- DMA reads outstanding (R107). -/
  dmaReads : List DmaReq
  /-- Error Information log entries, newest first (R171). -/
  errLog : List ErrEntry
  /-- Blocks whose erase a Format with SES 1 owes: node and block (R148). -/
  eraseOwed : List (Nat × Nat)
  /-- Tags of replies posted and not yet consumed: queue and tag, oldest first. They are in use still (R189). -/
  tags : List (Nat × Nat)
  grants : List Grant
  /-- Bytes received in open grants, at function × 2^26 + BAR4 offset (R225). -/
  dataWin : List (Nat × Option Byte)
  plans : List DiePlan
  armed : List Armed
  nodes : List Node
  lines : List Line
  /-- Lookups that missed and wait (R278, R280). -/
  lookups : List Lookup
  pages : List MapPage
  /-- The map volume: the current flash copy of every map page that has one, by node and page (R273). -/
  mapVol : List MapPage
  /-- Places of superseded map pages that the next CHECKPOINT gives to GC (R307). -/
  oldPages : List Nat
  sweeps : List Sweep
  pins : List Pin
  jnl : List JRec
  /-- Bytes of the descriptor slots of the mailboxes (R322), at cluster × 65,536 + offset in the slot area; an unlisted byte
  is 0 (log entry 9). -/
  desc : List (Nat × Byte)
  /-- Media calls issued and not complete. -/
  calls : List Call
  /-- Completions posted to a core and not read: core and slot, oldest first (MS_CPLk). -/
  cpl : List (Nat × Nat)
  /-- Units in channel staging. -/
  staged : List Staged
  /-- What the dies store, by place; an unlisted place is blank. -/
  flash : List (Nat × Option FUnit)
  /-- The write buffer, in order of allocation. -/
  wbuf : List WUnit
  bands : List Band
  copies : List Copy
  ladders : List Ladder
  hedges : List Hedge
  deepJobs : List DeepJob
  recovs : List Recov
  eccLog : List EccEntry
  engJobs : List EngJob
  dicts : List Dict
  rights : List Right
  keys : List Key
  licences : List Licence
  /-- The latest snapshot of the event recorder for PF0's Recorder Export (R173); empty where none has been taken. -/
  recSnap : List Byte
  /-- The nonce of the latest GET_CHALLENGE, while it is unused (R462); empty where there is none. -/
  nonce : List Byte
  /-- The response of the mailbox command at work (R461); none where none is due. -/
  mbxResp : Option MbxResp
  /-- The package downloaded so far (R598): byte offset and bytes of each piece, latest last. -/
  pkg : List (Nat × List Byte)
  /-- The image slots that hold a complete image, in the system area (R595, R597). -/
  fwSlots : List FwSlot
  /-- The image accepted for the slot that is being written (R597). -/
  fwNew : Option FwSlot
  /-- The configuration record that the latest start-up applied (R592, R594); empty for a device that has none. -/
  cfgRec : List Byte
  deriving DecidableEq, Repr

/-- The block right after a chip cold reset: every field at its reset value, nothing stored, nothing outstanding. -/
def State.reset : State where
  pending := []
  regs := []
  out := []
  latches := []
  locks := []
  cmds := []
  sqs := []
  cqs := []
  asyncWaiting := []
  slots := []
  ats := []
  invs := []
  holds := []
  dmaReads := []
  errLog := []
  eraseOwed := []
  tags := []
  grants := []
  dataWin := []
  plans := []
  armed := []
  nodes := []
  lines := []
  lookups := []
  pages := []
  mapVol := []
  oldPages := []
  sweeps := []
  pins := []
  jnl := []
  desc := []
  calls := []
  cpl := []
  staged := []
  flash := []
  wbuf := []
  bands := []
  copies := []
  ladders := []
  hedges := []
  deepJobs := []
  recovs := []
  eccLog := []
  engJobs := []
  dicts := []
  rights := []
  keys := []
  licences := []
  recSnap := []
  nonce := []
  mbxResp := none
  pkg := []
  fwSlots := []
  fwNew := none
  cfgRec := []

end Sys2Proof.Machine
end

