-- ==== Sys2Proof/Config.lean ====
section
/-! DEFINITION. What the spec leaves to the chip or does not compute: constants without a body, so that no proof can see a value.
Each is named in the assumption log. -/

namespace Sys2Proof.Config

/-- The 128-bit unique ID of the chip, in four 32-bit parts (CHP_UID0 to CHP_UID3: fuses). -/
opaque uid : Nat → Nat

/-- A value the spec leaves open, by a running number the state keeps (`X_FREE`): each use has a number of its own. -/
opaque freeValue : Nat → Nat

/-- Bytes the spec leaves open, by the same running number. -/
opaque freeBytes : Nat → List Byte

/-- The estimates of a Sanitize, in seconds: of a block erase, from the count of blocks and PE_MAX, and of a crypto erase (R154, log
entry 4). -/
opaque eraseEstimate : Nat → Nat → Nat
opaque cryptoEstimate : Nat

/-- How many authority public keys the fuses hold, of at most four (R468). -/
opaque authorityKeys : Nat

/-- What a stored unit decrypts to under a key it was not stored under, by the key's number, the tweak of R465 and the stored bytes:
a title volume's ciphertext, or old data under a new key. The cipher itself is not computed (log entry 12). -/
opaque xtsDecrypt : Nat → Nat → List Byte → List Byte

/-- The default window of process monitor `n` (channel 36 + n), from fuses: highest and lowest value in MHz (R543). -/
opaque monitorWindow : Nat → Nat × Nat

/-- The tick that a 32-bit deadline names for an intake in tick `now`, where both ticks it could name lie 2^31 ticks away, so that R194
names none (log entry 61). -/
opaque farDeadline : Nat → Nat → Int

end Sys2Proof.Config
end

