-- ==== Sys2Proof/Machine/RegTable.lean ====
section
/-! DEFINITION. The register tables of the spec as data: width, reset value and reset domain of every field, and place,
width, access types and fields of every register (R7 to R12, R20, R41 and the register section of every chapter).
A field reset of 0 stands for "boot" (nothing is written before the ROM boot: log entry 5) and for "—". -/

namespace Sys2Proof.Machine

/-- How software may access a field (R7). -/
inductive Acc where
  | ro | rw | w1c | w1s | wo
  deriving DecidableEq, Repr

/-- Width in bits, reset value and reset domain of a field. -/
structure FieldInfo where
  width : Nat
  reset : Nat
  dom : Dom
  deriving DecidableEq, Repr

/-- Where a field stands in its register, and how it is accessed; `lk` is the LK type of R7. -/
structure Slice where
  f : Field
  hi : Nat
  lo : Nat
  acc : Acc
  lk : Bool
  deriving DecidableEq, Repr

/-- A register: offset of its first instance from its block's base, stride and number of instances, whether it is 64 bits
wide, whether each agent has its own copy, and its fields, highest first. -/
structure RegDesc where
  off : Nat
  stride : Nat
  n : Nat
  wide : Bool
  perAgent : Bool
  fields : List Slice
  deriving DecidableEq, Repr

/-- Width, reset value and reset domain of every field. -/
def Field.info : Field → FieldInfo
  | .UCB_STATUS_DEGRADED => ⟨1, 0, .unit⟩
  | .UCB_STATUS_REQ_PENDING => ⟨1, 0, .unit⟩
  | .UCB_STATUS_POWER => ⟨3, 0, .unit⟩
  | .UCB_STATUS_RESETTING => ⟨1, 1, .unit⟩
  | .UCB_STATUS_FAULT => ⟨1, 0, .unit⟩
  | .UCB_STATUS_READY => ⟨1, 0, .unit⟩
  | .UCB_FAULT_REFUSED => ⟨1, 0, .cold⟩
  | .UCB_FAULT_TIMEOUT => ⟨1, 0, .cold⟩
  | .UCB_FAULT_THRESHOLD => ⟨1, 0, .cold⟩
  | .UCB_FAULT_FATAL => ⟨1, 0, .cold⟩
  | .UCB_FAULT_CONTAINED => ⟨1, 0, .cold⟩
  | .UCB_FAULT_CORRECTED => ⟨1, 0, .cold⟩
  | .UCB_RESET_REQ_IMMEDIATE => ⟨1, 0, .warm⟩
  | .UCB_RESET_REQ_USE_TICK => ⟨1, 0, .warm⟩
  | .UCB_RESET_REQ_GO => ⟨1, 0, .warm⟩
  | .UCB_POWER_REQ_USE_TICK => ⟨1, 0, .warm⟩
  | .UCB_POWER_REQ_GO => ⟨1, 0, .warm⟩
  | .UCB_POWER_REQ_TARGET => ⟨3, 0, .warm⟩
  | .UCB_REQ_STS_REASON => ⟨8, 0, .warm⟩
  | .UCB_REQ_STS_KIND => ⟨4, 0, .warm⟩
  | .UCB_REQ_STS_STATE => ⟨4, 0, .warm⟩
  | .UCB_CNT0 => ⟨64, 0, .cold⟩
  | .UCB_CNT1 => ⟨64, 0, .cold⟩
  | .UCB_CNT2 => ⟨64, 0, .cold⟩
  | .UCB_CNT3 => ⟨64, 0, .cold⟩
  | .UCB_CNT4 => ⟨64, 0, .cold⟩
  | .UCB_CNT5 => ⟨64, 0, .cold⟩
  | .UCB_CNT6 => ⟨64, 0, .cold⟩
  | .UCB_CNT7 => ⟨64, 0, .cold⟩
  | .CHP_ID_FAMILY => ⟨8, 80, .cold⟩
  | .CHP_ID_MEMBER => ⟨8, 96, .cold⟩
  | .CHP_STEP_MAJOR => ⟨4, 1, .cold⟩
  | .CHP_STEP_MINOR => ⟨4, 1, .cold⟩
  | .CHP_UID_UID => ⟨32, 0, .cold⟩
  | .CHP_CAP0_CORES => ⟨8, 64, .cold⟩
  | .CHP_CAP0_LINKS_PER_PORT => ⟨4, 4, .cold⟩
  | .CHP_CAP0_PORTS => ⟨3, 2, .cold⟩
  | .CHP_CAP0_DIES_PER_CH => ⟨5, 16, .cold⟩
  | .CHP_CAP0_CLUSTERS => ⟨4, 8, .cold⟩
  | .CHP_CAP0_CHANNELS => ⟨8, 96, .cold⟩
  | .CHP_CAP1_PFS => ⟨4, 8, .cold⟩
  | .CHP_CAP1_IOQ_PER_FN => ⟨12, 128, .cold⟩
  | .CHP_CAP1_VF_POOL => ⟨16, 256, .cold⟩
  | .CHP_CAP2_JQ_QUEUES => ⟨16, 1024, .cold⟩
  | .CHP_CAP2_NVME_QP => ⟨16, 4096, .cold⟩
  | .CHP_CAP3_COMP_ENG => ⟨4, 8, .cold⟩
  | .CHP_CAP3_DECOMP_ENG => ⟨8, 32, .cold⟩
  | .CHP_CAP3_MODES => ⟨4, 8, .cold⟩
  | .CHP_CAP3_FC_SOURCES => ⟨16, 320, .cold⟩
  | .CHP_CAP4_DRAM_CH => ⟨8, 8, .cold⟩
  | .CHP_CAP4_DEEP_DEC => ⟨8, 16, .cold⟩
  | .CHP_CAP4_STAGING => ⟨8, 8, .cold⟩
  | .CHP_CAP4_MAP_CACHE => ⟨8, 32, .cold⟩
  | .CHP_CAP5_G64K => ⟨1, 1, .cold⟩
  | .CHP_CAP5_G16K => ⟨1, 1, .cold⟩
  | .CHP_CAP5_G4K => ⟨1, 1, .cold⟩
  | .CHP_CAP5_OUTSTANDING => ⟨5, 16, .cold⟩
  | .CHP_CAP5_NODES => ⟨16, 4096, .cold⟩
  | .CHP_CAP6_MAX_RAW => ⟨32, 0x100000, .cold⟩
  | .CHP_CAP7_TICK_DEF => ⟨10, 125, .cold⟩
  | .CHP_CAP7_TICK_MAX => ⟨10, 1000, .cold⟩
  | .CHP_CAP7_TICK_MIN => ⟨10, 50, .cold⟩
  | .CHP_CTL_USE_TICK => ⟨1, 0, .cold⟩
  | .CHP_CTL_COLD_RESET => ⟨1, 0, .cold⟩
  | .CHP_CTL_WARM_RESET => ⟨1, 0, .cold⟩
  | .TK_CTL_FASTPATH => ⟨1, 1, .cold⟩
  | .TK_CTL_OUT_EN => ⟨1, 0, .cold⟩
  | .TK_CTL_OUT_FRAME => ⟨1, 1, .cold⟩
  | .TK_PERIOD_PERIOD => ⟨10, 125, .cold⟩
  | .TK_NEXT_GO => ⟨1, 0, .warm⟩
  | .TK_NEXT_NEXT_PERIOD => ⟨10, 0, .warm⟩
  | .TK_STS_NEXT_STATE => ⟨4, 0, .warm⟩
  | .TK_STS_JUMPED => ⟨1, 0, .warm⟩
  | .TK_STS_MISMATCH => ⟨1, 0, .warm⟩
  | .TK_STS_OVERRUN => ⟨1, 0, .warm⟩
  | .TK_STS_SRC_LOST => ⟨1, 0, .warm⟩
  | .TK_STS_LOCK => ⟨3, 0, .cold⟩
  | .TK_PHASE_PHASE => ⟨20, 0, .cold⟩
  | .TK_SRC_PTM_LINK => ⟨2, 0, .cold⟩
  | .TK_SRC_PTM_PORT => ⟨1, 0, .cold⟩
  | .TK_SRC_ADOPT => ⟨1, 1, .cold⟩
  | .TK_SRC_SOURCE => ⟨3, 0, .cold⟩
  | .TK_CUTOFF_PERCENT => ⟨7, 70, .warm⟩
  | .TK_BUDGET0_GOLD_MAX => ⟨8, 60, .warm⟩
  | .TK_BUDGET0_LEAD_MIN => ⟨8, 5, .warm⟩
  | .TK_BUDGET0_SILVER_W => ⟨8, 6, .warm⟩
  | .TK_BUDGET0_COPPER_W => ⟨8, 2, .warm⟩
  | .TK_BUDGET1_PE_MAX => ⟨16, 0, .warm⟩
  | .TK_BUDGET1_GOLD_SLOTS => ⟨3, 1, .warm⟩
  | .TK_CANCEL_STS_CANCELLED => ⟨16, 0, .warm⟩
  | .TK_CANCEL_STS_RESULT => ⟨2, 0, .warm⟩
  | .TK_SNAP_TAKE => ⟨1, 0, .warm⟩
  | .HE_CFG_MAX_SPEED => ⟨3, 0, .cold⟩
  | .HE_CFG_BIFUR => ⟨2, 0, .cold⟩
  | .HE_LINK_STS_LPM => ⟨4, 0, .front⟩
  | .HE_LINK_STS_L0P_WIDTH => ⟨5, 0, .front⟩
  | .HE_LINK_STS_WIDTH => ⟨5, 0, .front⟩
  | .HE_LINK_STS_SPEED => ⟨3, 0, .front⟩
  | .HE_LINK_STS_FLIT => ⟨1, 0, .front⟩
  | .HE_LINK_STS_EXISTS => ⟨1, 0, .front⟩
  | .HE_LINK_STS_UP => ⟨1, 0, .front⟩
  | .HE_PWR_L12_IDLE => ⟨16, 10, .warm⟩
  | .HE_PWR_L1_IDLE => ⟨15, 20, .warm⟩
  | .HE_PWR_L0P_EN => ⟨1, 1, .warm⟩
  | .HE_VFALLOC_COUNT => ⟨9, 0, .warm⟩
  | .HE_VFALLOC_FIRST => ⟨8, 0, .warm⟩
  | .HE_FNATTR_ATS_QUOTA => ⟨7, 16, .warm⟩
  | .HE_FNATTR_STRICT => ⟨1, 0, .warm⟩
  | .HE_FNATTR_GOLD_NO_LPM => ⟨1, 0, .warm⟩
  | .HE_ATS_STS_PENDING_INV => ⟨13, 0, .front⟩
  | .HE_ATS_STS_IN_USE => ⟨13, 0, .front⟩
  | .HE_EVT_SURPRISE_DOWN => ⟨4, 0, .cold⟩
  | .HE_EVT_CPL_TIMEOUT => ⟨1, 0, .cold⟩
  | .HE_EVT_FLR_TIMEOUT => ⟨1, 0, .cold⟩
  | .HE_EVT_ALLOC_ERR => ⟨1, 0, .cold⟩
  | .HE_CNT_DISABLE => ⟨64, 0, .cold⟩
  | .HE_CNT_LDN => ⟨64, 0, .cold⟩
  | .HE_CNT_INV => ⟨64, 0, .cold⟩
  | .HE_CNT_CTO => ⟨64, 0, .cold⟩
  | .HE_CNT_UR => ⟨64, 0, .cold⟩
  | .JQ_STS_OVERCOMMIT => ⟨1, 0, .front⟩
  | .JQ_STS_FROZEN => ⟨1, 0, .front⟩
  | .JQ_STS_SANITIZING => ⟨1, 0, .front⟩
  | .JQ_GOLD_SUM => ⟨16, 0, .front⟩
  | .JQ_GOLD_CAP => ⟨16, 0, .front⟩
  | .JQ_QSEL_QUEUE => ⟨10, 0, .warm⟩
  | .JQ_QCFG_FN => ⟨9, 0, .warm⟩
  | .JQ_QCFG_SLOT => ⟨6, 0, .warm⟩
  | .JQ_QCFG_ENTRIES => ⟨3, 0, .warm⟩
  | .JQ_QCFG_XR_LIFE => ⟨4, 6, .warm⟩
  | .JQ_QCFG_XR_EN => ⟨1, 0, .warm⟩
  | .JQ_QCFG_GOLD_OK => ⟨1, 0, .warm⟩
  | .JQ_QCFG_STRICT => ⟨1, 0, .warm⟩
  | .JQ_QRING_RPL_LOG => ⟨4, 0, .warm⟩
  | .JQ_QRING_XR_LOG => ⟨4, 0, .warm⟩
  | .JQ_QRING_HEAD_EVERY => ⟨8, 16, .warm⟩
  | .JQ_QRING_XR_MAX => ⟨8, 1, .warm⟩
  | .JQ_QRING_MAX_OPEN => ⟨8, 4, .warm⟩
  | .JQ_QCMD_DISABLE => ⟨1, 0, .front⟩
  | .JQ_QCMD_ENABLE => ⟨1, 0, .front⟩
  | .JQ_QSTS_OUTSTANDING => ⟨16, 0, .front⟩
  | .JQ_QSTS_ERR => ⟨4, 0, .front⟩
  | .JQ_QSTS_STATE => ⟨3, 0, .front⟩
  | .JQ_QIRQ_EN => ⟨1, 0, .warm⟩
  | .JQ_QIRQ_COALESCE => ⟨8, 0, .warm⟩
  | .JQ_QIRQ_VECTOR => ⟨11, 0, .warm⟩
  | .JQ_QSEQ_SEQ => ⟨16, 0, .front⟩
  | .JQ_FSEL_FN => ⟨9, 0, .warm⟩
  | .JQ_FGOLD_RES_SLOTS => ⟨13, 0, .warm⟩
  | .JQ_FEVT_CFG_EVT_EN => ⟨1, 0, .warm⟩
  | .JQ_FEVT_CFG_IRQ_EN => ⟨1, 0, .warm⟩
  | .JQ_FEVT_CFG_VECTOR => ⟨11, 0, .warm⟩
  | .JQ_FEVT_CFG_EVT_LOG => ⟨4, 0, .warm⟩
  | .JQ_FSTS_EVT_HEAD_ERR => ⟨1, 0, .warm⟩
  | .JQ_FSTS_RES_REFUSED => ⟨1, 0, .warm⟩
  | .JQ_FSTS_EVT_DROP => ⟨1, 0, .warm⟩
  | .JQ_CNT_DOWNGRADE => ⟨64, 0, .cold⟩
  | .JQ_CNT_LATE => ⟨64, 0, .cold⟩
  | .JQ_CNT_CAUGHT => ⟨64, 0, .cold⟩
  | .JQ_CNT_MISSED => ⟨64, 0, .cold⟩
  | .JQ_CNT_QERR => ⟨64, 0, .cold⟩
  | .JQ_CNT_XR_EXPIRED => ⟨64, 0, .cold⟩
  | .TS_CAP_PENDING_MAX => ⟨8, 64, .cold⟩
  | .TS_CAP_MAX_DEPTH => ⟨8, 8, .cold⟩
  | .TS_CAP_MAX_LAYERS => ⟨8, 32, .cold⟩
  | .TS_CAP_MAX_CHILDREN => ⟨8, 32, .cold⟩
  | .TS_STS_NODES_FREE => ⟨13, 0, .warm⟩
  | .TS_STS_ARMED => ⟨7, 0, .warm⟩
  | .TS_NSEL_NODE => ⟨12, 0, .warm⟩
  | .TS_CMD_GO => ⟨1, 0, .warm⟩
  | .TS_CMD_USE_TICK => ⟨1, 0, .warm⟩
  | .TS_CMD_OP => ⟨4, 0, .warm⟩
  | .TS_ARG_COUNT => ⟨6, 0, .warm⟩
  | .TS_ARG_NODE => ⟨12, 0, .warm⟩
  | .TS_RESULT_NODE => ⟨12, 0, .warm⟩
  | .TS_RESULT_REASON => ⟨8, 0, .warm⟩
  | .TS_RESULT_STATE => ⟨4, 0, .warm⟩
  | .TS_STAGE_NODE => ⟨12, 0, .warm⟩
  | .MC_CTL_ENABLE => ⟨1, 0, .warm⟩
  | .MC_STS_DISABLE_REFUSED => ⟨1, 0, .warm⟩
  | .MC_STS_INIT => ⟨1, 1, .warm⟩
  | .MC_STS_DRAINING => ⟨1, 0, .warm⟩
  | .MC_STS_DRAINED => ⟨1, 0, .warm⟩
  | .MC_STS_ENABLED => ⟨1, 0, .warm⟩
  | .MC_GEOM_LOCK_MAX => ⟨8, 12, .cold⟩
  | .MC_GEOM_WAYS => ⟨8, 16, .cold⟩
  | .MC_GEOM_SETS_LOG2 => ⟨8, 15, .cold⟩
  | .MC_GEOM_PORTS => ⟨8, 16, .cold⟩
  | .MC_LOCKMASK_MASK => ⟨16, 4095, .cold⟩
  | .MC_LFSR_STATE => ⟨16, 0xace1, .warm⟩
  | .MC_DSTORE_SIZE => ⟨17, 0, .warm⟩
  | .MC_PIN_LINES_LINES => ⟨19, 0, .warm⟩
  | .MC_PIN_COUNT_PINS => ⟨17, 0, .warm⟩
  | .MC_INV_CMD_GO => ⟨1, 0, .warm⟩
  | .MC_INV_CMD_NODE => ⟨12, 0, .warm⟩
  | .MC_INV_STS_REASON => ⟨8, 0, .warm⟩
  | .MC_INV_STS_STATE => ⟨4, 0, .warm⟩
  | .MC_JNL_CFG_THROTTLE => ⟨8, 80, .cold⟩
  | .MC_JNL_CFG_LIMIT => ⟨16, 256, .cold⟩
  | .MC_JNL_STS_THROTTLING => ⟨1, 0, .warm⟩
  | .MC_JNL_STS_USED => ⟨16, 0, .warm⟩
  | .MC_CNT_HIT => ⟨64, 0, .cold⟩
  | .MC_CNT_MISS_DRAM => ⟨64, 0, .cold⟩
  | .MC_CNT_MISS_FLASH => ⟨64, 0, .cold⟩
  | .MC_CNT_STALL => ⟨64, 0, .cold⟩
  | .MC_CNT_EVICT_DIRTY => ⟨64, 0, .cold⟩
  | .MC_CNT_INV => ⟨64, 0, .cold⟩
  | .MC_CNT_REFILL => ⟨64, 0, .cold⟩
  | .MS_STS_CALL_ERR => ⟨1, 0, .cluster⟩
  | .MS_STS_GATE_VIOL => ⟨1, 0, .cluster⟩
  | .MS_STS_BO_SEEN => ⟨1, 0, .cold⟩
  | .MS_STS_BROWNOUT => ⟨1, 0, .none⟩
  | .MS_ROMREV_REV => ⟨16, 1, .cold⟩
  | .MS_WIN_STS_OUT => ⟨12, 0, .cluster⟩
  | .MS_MARGIN_PROG_LIMIT => ⟨8, 40, .warm⟩
  | .MS_MARGIN_ERASED_LIMIT => ⟨8, 8, .warm⟩
  | .MS_SYSUNLOCK_UNLOCK => ⟨1, 0, .warm⟩
  | .MS_CALL_SLOT => ⟨11, 0, .none⟩
  | .MS_CPL_VALID => ⟨1, 0, .cluster⟩
  | .MS_CPL_SLOT => ⟨11, 0, .cluster⟩
  | .MS_CH_IF_TRAINED => ⟨1, 0, .unit⟩
  | .MS_CH_IF_MODE => ⟨1, 0, .unit⟩
  | .MS_CH_IF_FALLBACKS => ⟨4, 0, .unit⟩
  | .MS_CH_IF_MAX_RATE => ⟨4, 7, .unit⟩
  | .MS_CH_IF_RATE => ⟨4, 0, .unit⟩
  | .MS_CH_GEO_PLANES => ⟨4, 0, .unit⟩
  | .MS_CH_GEO_WLB => ⟨12, 0, .unit⟩
  | .MS_CH_GEO_BLOCKS => ⟨16, 0, .unit⟩
  | .MS_CH_SENS_MASK => ⟨8, 0, .warm⟩
  | .MS_CH_SYS_PRESENT => ⟨1, 0, .unit⟩
  | .MS_CH_SYS_DIE => ⟨4, 0, .unit⟩
  | .MS_CH_SYS_BLOCKS => ⟨16, 0, .unit⟩
  | .MS_CH_CNT_READ => ⟨64, 0, .cold⟩
  | .MS_CH_CNT_PROGRAM => ⟨64, 0, .cold⟩
  | .MS_CH_CNT_ERASE => ⟨64, 0, .cold⟩
  | .MS_CH_CNT_SUSPEND => ⟨64, 0, .cold⟩
  | .MS_CH_CNT_BO => ⟨64, 0, .cold⟩
  | .MS_CH_CNT_WIN => ⟨64, 0, .cold⟩
  | .MS_CH_CNT_TIMEOUT => ⟨64, 0, .cold⟩
  | .MC_GC_MARK0_HIGH => ⟨10, 40, .warm⟩
  | .MC_GC_MARK0_LOW => ⟨10, 20, .warm⟩
  | .MC_GC_MARK0_CRIT => ⟨10, 5, .warm⟩
  | .MC_GC_MARK1_HU_BANDS => ⟨16, 0, .warm⟩
  | .MC_GC_QMAX_QMAX => ⟨32, 0, .warm⟩
  | .MC_GC_STS_K => ⟨9, 256, .warm⟩
  | .MC_GC_STS_STATE => ⟨3, 0, .warm⟩
  | .MC_GC_MODE_VERIFY_OFFSET => ⟨4, 4, .warm⟩
  | .MC_GC_MODE_RW_MODE => ⟨2, 1, .warm⟩
  | .MC_GC_MODE_RO_MODE => ⟨2, 0, .warm⟩
  | .MC_WL_CFG_SPREAD => ⟨16, 200, .warm⟩
  | .MC_WL_CFG_RATE => ⟨16, 4, .warm⟩
  | .MC_REC0_COPIES_KEPT => ⟨16, 0, .boot⟩
  | .MC_REC0_SOURCES_KEPT => ⟨16, 0, .boot⟩
  | .MC_REC1_HALF_ERASED => ⟨16, 0, .boot⟩
  | .MC_REC1_ROWS_SEALED => ⟨16, 0, .boot⟩
  | .MC_REC2_DISCARDED => ⟨32, 0, .boot⟩
  | .MC_CNT_HOST_UNITS => ⟨64, 0, .cold⟩
  | .MC_CNT_GC_UNITS => ⟨64, 0, .cold⟩
  | .MC_CNT_GC_BANDS => ⟨64, 0, .cold⟩
  | .MC_CNT_WL_BANDS => ⟨64, 0, .cold⟩
  | .MC_CNT_RETIRED => ⟨64, 0, .cold⟩
  | .MC_CNT_SEAL_SHORT => ⟨64, 0, .cold⟩
  | .MC_CNT_RECON => ⟨64, 0, .cold⟩
  | .MC_CNT_THROTTLE_TICKS => ⟨64, 0, .cold⟩
  | .MC_CNT_DEGRADED_BANDS => ⟨64, 0, .cold⟩
  | .MC_RI_CFG_RECOV_PASSES => ⟨4, 3, .warm⟩
  | .MC_RI_CFG_LADDER_MAX => ⟨4, 14, .warm⟩
  | .MC_RI_CFG_CMD_MAX => ⟨10, 80, .warm⟩
  | .MC_RI_STS_TABLE_FULL => ⟨1, 0, .warm⟩
  | .MC_RI_STS_ACTIVE => ⟨13, 0, .warm⟩
  | .MC_RT_SEL_INDEX => ⟨12, 0, .warm⟩
  | .MC_RT_ENT1_VALID => ⟨1, 0, .warm⟩
  | .MC_RT_ENT1_PHASE => ⟨2, 0, .warm⟩
  | .MC_RT_ENT1_PASSES => ⟨4, 0, .warm⟩
  | .MC_PATROL_CFG_ENABLE => ⟨1, 1, .warm⟩
  | .MC_PATROL_CFG_REFRESH_BITS => ⟨8, 80, .warm⟩
  | .MC_PATROL_CFG_AGE_DAYS => ⟨16, 180, .warm⟩
  | .MC_PATROL_RD_READS_MAX => ⟨16, 500, .warm⟩
  | .MC_PATROL_POS_PERMILLE => ⟨10, 0, .warm⟩
  | .MC_CNT_FAST_FAIL => ⟨64, 0, .cold⟩
  | .MC_CNT_MISCORRECT => ⟨64, 0, .cold⟩
  | .MC_CNT_DEEP_OK => ⟨64, 0, .cold⟩
  | .MC_CNT_LADDER_READS => ⟨64, 0, .cold⟩
  | .MC_CNT_LADDER_WON => ⟨64, 0, .cold⟩
  | .MC_CNT_HEDGE_WON => ⟨64, 0, .cold⟩
  | .MC_CNT_CMD_MAX => ⟨64, 0, .cold⟩
  | .MC_CNT_RECOVERED => ⟨64, 0, .cold⟩
  | .MC_CNT_LOST => ⟨64, 0, .cold⟩
  | .MC_CNT_REFRESH => ⟨64, 0, .cold⟩
  | .CHP_ECC_CTL_LOG_CLEAR => ⟨1, 0, .cold⟩
  | .CHP_ECC_CTL_SCRUB_EN => ⟨6, 63, .cold⟩
  | .CHP_ECC_STS_UE => ⟨6, 0, .cold⟩
  | .CHP_ECC_LSEL_ENTRY => ⟨4, 0, .cold⟩
  | .CHP_ECC_LOGB_VALID => ⟨1, 0, .cold⟩
  | .CHP_ECC_LOGB_MEM => ⟨3, 0, .cold⟩
  | .CHP_ECC_LOGB_BIT => ⟨10, 0, .cold⟩
  | .CHP_ECC_LOGB_COUNT => ⟨16, 0, .cold⟩
  | .CX_CAP_DEC_ENG => ⟨8, 32, .cold⟩
  | .CX_CAP_COMP_ENG => ⟨4, 8, .cold⟩
  | .CX_CAP_DICT_MAX => ⟨12, 1024, .cold⟩
  | .CX_CAP_FRAME_LOG2 => ⟨4, 8, .cold⟩
  | .CX_CAP_FORMATS => ⟨4, 15, .cold⟩
  | .CX_CTL_STEAL => ⟨1, 1, .warm⟩
  | .CX_CTL_FMT_EN => ⟨4, 15, .warm⟩
  | .CX_STS_DICTS => ⟨11, 0, .warm⟩
  | .CX_STS_DEC_BUSY => ⟨8, 0, .warm⟩
  | .CX_STS_COMP_BUSY => ⟨4, 0, .warm⟩
  | .CX_DICT_CMD_GO => ⟨1, 0, .warm⟩
  | .CX_DICT_CMD_OP => ⟨2, 0, .warm⟩
  | .CX_DICT_CMD_UNITS => ⟨6, 0, .warm⟩
  | .CX_DICT_CMD_NODE => ⟨12, 0, .warm⟩
  | .CX_DICT_STS_REASON => ⟨8, 0, .warm⟩
  | .CX_DICT_STS_STATE => ⟨4, 0, .warm⟩
  | .CX_DICT_SEL_NODE => ⟨12, 0, .warm⟩
  | .CX_DICT_INFO_HELD => ⟨1, 0, .warm⟩
  | .CX_DICT_INFO_SIZE => ⟨18, 0, .warm⟩
  | .CX_DICT_ID_ID => ⟨32, 0, .warm⟩
  | .CX_ENG_STS_LAST => ⟨4, 0, .unit⟩
  | .CX_ENG_STS_CLUSTER => ⟨4, 0, .unit⟩
  | .CX_ENG_STS_CLASS => ⟨2, 0, .unit⟩
  | .CX_ENG_STS_FORMAT => ⟨4, 0, .unit⟩
  | .CX_ENG_STS_STATE => ⟨4, 0, .unit⟩
  | .CX_CNT_DEC_BLOCKS => ⟨64, 0, .cold⟩
  | .CX_CNT_DEC_BYTES => ⟨64, 0, .cold⟩
  | .CX_CNT_CHECK_FAIL => ⟨64, 0, .cold⟩
  | .CX_CNT_CHECK_MISMATCH => ⟨64, 0, .cold⟩
  | .CX_CNT_DECODE_ERR => ⟨64, 0, .cold⟩
  | .CX_CNT_PACK_BLOCKS => ⟨64, 0, .cold⟩
  | .CX_CNT_NOSHRINK => ⟨64, 0, .cold⟩
  | .CX_CNT_SELFCHECK => ⟨64, 0, .cold⟩
  | .CX_CNT_STEAL => ⟨64, 0, .cold⟩
  | .SEC_STS_VBAT_LOST => ⟨1, 0, .cold⟩
  | .SEC_STS_TIME_TRUSTED => ⟨1, 0, .cold⟩
  | .SEC_STS_KEYED => ⟨1, 0, .cold⟩
  | .SEC_STS_OWNER => ⟨1, 0, .cold⟩
  | .SEC_MBX_CMD_GO => ⟨1, 0, .warm⟩
  | .SEC_MBX_CMD_IRQ_EN => ⟨1, 0, .warm⟩
  | .SEC_MBX_CMD_VECTOR => ⟨11, 0, .warm⟩
  | .SEC_MBX_CMD_LEN => ⟨13, 0, .warm⟩
  | .SEC_MBX_STS_RESULT => ⟨8, 0, .warm⟩
  | .SEC_MBX_STS_STATE => ⟨4, 0, .warm⟩
  | .SEC_PM_CMD_GO => ⟨1, 0, .warm⟩
  | .SEC_PM_CMD_FENCE => ⟨1, 0, .warm⟩
  | .SEC_PM_CMD_COUNT => ⟨7, 0, .warm⟩
  | .SEC_PM_RESULT_SKIPPED => ⟨8, 0, .warm⟩
  | .SEC_PM_RESULT_REASON => ⟨8, 0, .warm⟩
  | .SEC_PM_RESULT_STATE => ⟨4, 0, .warm⟩
  | .SEC_PM_STS_ARMED => ⟨5, 0, .warm⟩
  | .SEC_PM_STS_ENTRIES => ⟨15, 0, .warm⟩
  | .SEC_PM_QSEL_FN => ⟨9, 0, .warm⟩
  | .SEC_PM_QSEL_NODE => ⟨12, 0, .warm⟩
  | .SEC_PM_QRES_OWNER => ⟨1, 0, .warm⟩
  | .SEC_PM_QRES_SPECIFIC => ⟨1, 0, .warm⟩
  | .SEC_PM_QRES_RIGHTS => ⟨4, 0, .warm⟩
  | .SEC_PM_STAGE_RIGHTS => ⟨4, 0, .warm⟩
  | .SEC_PM_STAGE_ALL_NODES => ⟨1, 0, .warm⟩
  | .SEC_PM_STAGE_FN => ⟨9, 0, .warm⟩
  | .SEC_PM_STAGE_NODE => ⟨12, 0, .warm⟩
  | .SEC_KEY_SEL_NODE => ⟨12, 0, .warm⟩
  | .SEC_KEY_STS_EXPIRING => ⟨1, 0, .warm⟩
  | .SEC_KEY_STS_LICENCE => ⟨2, 0, .warm⟩
  | .SEC_KEY_STS_SOURCE => ⟨1, 0, .warm⟩
  | .SEC_KEY_STS_LOADED => ⟨1, 0, .warm⟩
  | .SEC_CNT_DENIED => ⟨64, 0, .cold⟩
  | .SEC_CNT_REVOKED => ⟨64, 0, .cold⟩
  | .SEC_CNT_MBX => ⟨64, 0, .cold⟩
  | .SEC_CNT_LIC_CLOSE => ⟨64, 0, .cold⟩
  | .PM_MODE_CAUSE => ⟨4, 0, .warm⟩
  | .PM_MODE_MOVE => ⟨2, 0, .warm⟩
  | .PM_MODE_TARGET => ⟨3, 4, .warm⟩
  | .PM_MODE_MODE => ⟨3, 4, .warm⟩
  | .PM_CTL_REGATE_US => ⟨8, 100, .warm⟩
  | .PM_CTL_IDLE_US => ⟨12, 1000, .warm⟩
  | .PM_CTL_FLOOR => ⟨3, 3, .warm⟩
  | .PM_CTL_IDLE_MODE => ⟨3, 4, .warm⟩
  | .PM_CMD_GO => ⟨1, 0, .warm⟩
  | .PM_CMD_USE_TICK => ⟨1, 0, .warm⟩
  | .PM_CMD_ARG => ⟨3, 0, .warm⟩
  | .PM_CMD_OP => ⟨4, 0, .warm⟩
  | .PM_CMD_STS_REASON => ⟨8, 0, .warm⟩
  | .PM_CMD_STS_STATE => ⟨4, 0, .warm⟩
  | .PM_THR_CFG_STEP => ⟨8, 32, .warm⟩
  | .PM_THR_CFG_S_MIN => ⟨8, 32, .warm⟩
  | .PM_PCAP_BASE => ⟨8, 20, .warm⟩
  | .PM_PCAP_CAP => ⟨8, 55, .warm⟩
  | .PM_THR_STS_S => ⟨9, 256, .warm⟩
  | .PM_THR_STS_S_T => ⟨9, 256, .warm⟩
  | .PM_THR_STS_S_P => ⟨9, 256, .warm⟩
  | .PM_PATROL_CFG_PERIOD => ⟨10, 100, .cold⟩
  | .PM_PATROL_CFG_ERR_EN => ⟨1, 1, .cold⟩
  | .PM_PATROL_CFG_WAKE_EN => ⟨1, 0, .cold⟩
  | .PM_PATROL_STS_ROUNDS => ⟨16, 0, .boot⟩
  | .PM_PATROL_STS_VIOLATIONS => ⟨8, 0, .boot⟩
  | .PM_PATROL_STS_NEXT => ⟨3, 0, .boot⟩
  | .PM_LOG_STS_WRAPPED => ⟨1, 0, .cold⟩
  | .PM_LOG_STS_NEXT => ⟨4, 0, .cold⟩
  | .PM_CNT_REFUSED => ⟨64, 0, .cold⟩
  | .PM_CNT_ABORTED => ⟨64, 0, .cold⟩
  | .PM_CNT_ENTRIES => ⟨64, 0, .cold⟩
  | .PM_CNT_THROTTLE_TICKS => ⟨64, 0, .cold⟩
  | .HU_CTL_PRESENT => ⟨1, 0, .cold⟩
  | .HU_CTL_TSENS => ⟨3, 0, .cold⟩
  | .HU_CTL_TEST_NOW => ⟨1, 0, .cold⟩
  | .HU_STS_ZERO_WINDOW => ⟨1, 0, .warm⟩
  | .HU_STS_ZERO_ENERGY => ⟨1, 1, .warm⟩
  | .HU_STS_FAULT => ⟨4, 0, .warm⟩
  | .HU_STS_STATE => ⟨4, 0, .warm⟩
  | .HU_CHG_CFG_V_MAX => ⟨9, 380, .cold⟩
  | .HU_CHG_CFG_I_IN_MAX => ⟨12, 1500, .cold⟩
  | .HU_REL_CFG_ETA => ⟨8, 88, .cold⟩
  | .HU_REL_CFG_V_MIN => ⟨10, 100, .cold⟩
  | .HU_REL_CFG_I_BANK_MAX => ⟨10, 400, .cold⟩
  | .HU_E_CEIL_FUSE_MAX => ⟨16, 0x4e20, .cold⟩
  | .HU_E_CEIL_CEIL => ⟨16, 8000, .cold⟩
  | .HU_WIN_CHG_LO => ⟨8, 236, .cold⟩
  | .HU_WIN_CHG_HI => ⟨8, 70, .cold⟩
  | .HU_WIN_MARGIN => ⟨8, 5, .cold⟩
  | .HU_ALLOW_CFG_E_FIXED => ⟨14, 2000, .cold⟩
  | .HU_ALLOW_CFG_E_BYTE => ⟨13, 5000, .cold⟩
  | .HU_TEST_CFG_INTERVAL => ⟨8, 24, .cold⟩
  | .HU_TEST_CFG_DT => ⟨8, 10, .cold⟩
  | .HU_TEST_CFG_I_TEST => ⟨12, 500, .cold⟩
  | .HU_FLUSH_CFG_DIES => ⟨11, 32, .cold⟩
  | .HU_MEAS0_V_BANK => ⟨16, 0, .warm⟩
  | .HU_MEAS0_T_BANK => ⟨8, 0, .warm⟩
  | .HU_MEAS1_C_MEAS => ⟨20, 0, .warm⟩
  | .HU_MEAS1_ESR => ⟨12, 0, .warm⟩
  | .HU_MEAS2_E_AVAIL => ⟨16, 0, .warm⟩
  | .HU_MEAS2_V_TARGET => ⟨9, 0, .warm⟩
  | .HU_LAST_OUTCOME => ⟨4, 0, .boot⟩
  | .HU_LAST_TRIGGER => ⟨4, 0, .boot⟩
  | .HU_LAST_DURATION => ⟨24, 0, .boot⟩
  | .HU_CNT_HOLDUP => ⟨64, 0, .cold⟩
  | .HU_CNT_TESTS => ⟨64, 0, .cold⟩
  | .HU_CNT_FLUSH_BYTES => ⟨64, 0, .cold⟩
  | .HU_CNT_ACK_PROG => ⟨64, 0, .cold⟩
  | .HK_CFG_PERIOD => ⟨8, 8, .warm⟩
  | .HK_STS_HOT => ⟨4, 0, .warm⟩
  | .HK_STS_AVS_FAULT => ⟨1, 0, .warm⟩
  | .HK_STS_SENSOR_FAULT => ⟨1, 0, .warm⟩
  | .HK_STS_SHUT_SEEN => ⟨1, 0, .cold⟩
  | .HK_STS_THROTTLING => ⟨1, 0, .warm⟩
  | .HK_STS_WARN => ⟨1, 0, .warm⟩
  | .HK_TJ_THR_HYST => ⟨4, 4, .cold⟩
  | .HK_TJ_THR_SHUT => ⟨8, 148, .cold⟩
  | .HK_TJ_THR_THROT => ⟨8, 138, .cold⟩
  | .HK_TJ_THR_WARN => ⟨8, 125, .cold⟩
  | .HK_WWIN_FUSE_HI => ⟨8, 95, .cold⟩
  | .HK_WWIN_FUSE_LO => ⟨8, 231, .cold⟩
  | .HK_WWIN_HI => ⟨8, 85, .cold⟩
  | .HK_WWIN_LO => ⟨8, 251, .cold⟩
  | .HK_AVS_CFG0_F_TARGET => ⟨16, 0, .cold⟩
  | .HK_AVS_CFG0_DEADBAND => ⟨8, 20, .cold⟩
  | .HK_AVS_CFG0_EN => ⟨1, 1, .cold⟩
  | .HK_AVS_CFG1_V_MAX => ⟨10, 800, .cold⟩
  | .HK_AVS_CFG1_V_MIN => ⟨10, 650, .cold⟩
  | .HK_AVS_STS_TARGET => ⟨10, 720, .warm⟩
  | .HK_AVS_STS_F_SLOW => ⟨16, 0, .warm⟩
  | .HK_RD_CFG_EN => ⟨1, 0, .cold⟩
  | .HK_RD_CFG_NF => ⟨6, 8, .cold⟩
  | .HK_VAL_BELOW => ⟨1, 0, .warm⟩
  | .HK_VAL_ABOVE => ⟨1, 0, .warm⟩
  | .HK_VAL_VALID => ⟨1, 0, .warm⟩
  | .HK_VAL_AGE => ⟨8, 255, .warm⟩
  | .HK_VAL_VALUE => ⟨16, 0, .warm⟩
  | .HK_WIN_HI => ⟨16, 0, .cold⟩
  | .HK_WIN_LO => ⟨16, 0, .cold⟩
  | .HK_CNT_WARN => ⟨64, 0, .cold⟩
  | .HK_CNT_THR_ROUNDS => ⟨64, 0, .cold⟩
  | .HK_CNT_OOW => ⟨64, 0, .cold⟩
  | .HK_CNT_AVS_STEPS => ⟨64, 0, .cold⟩
  | .CAL_STS_SET_REFUSED => ⟨1, 0, .vbat⟩
  | .CAL_STS_ALARM1 => ⟨1, 0, .vbat⟩
  | .CAL_STS_ALARM0 => ⟨1, 0, .vbat⟩
  | .CAL_STS_VBAT_LOW => ⟨1, 0, .vbat⟩
  | .CAL_STS_OSC_STOP => ⟨1, 0, .vbat⟩
  | .CAL_STS_VBAT_LOST => ⟨1, 1, .vbat⟩
  | .CAL_STS_WARDEN_SET => ⟨1, 0, .vbat⟩
  | .CAL_STS_VALID => ⟨1, 0, .vbat⟩
  | .CAL_CMD_SET => ⟨1, 0, .vbat⟩
  | .CAL_TRIM_TRIM => ⟨9, 0, .vbat⟩
  | .CAL_BCD0_WEEKDAY => ⟨3, 0, .vbat⟩
  | .CAL_BCD0_HOUR => ⟨6, 0, .vbat⟩
  | .CAL_BCD0_MINUTE => ⟨7, 0, .vbat⟩
  | .CAL_BCD0_SECOND => ⟨7, 0, .vbat⟩
  | .CAL_BCD1_YEAR => ⟨16, 0, .vbat⟩
  | .CAL_BCD1_MONTH => ⟨5, 0, .vbat⟩
  | .CAL_BCD1_DAY => ⟨6, 0, .vbat⟩
  | .CAL_ALM_CTL_WAKE1 => ⟨1, 0, .vbat⟩
  | .CAL_ALM_CTL_WAKE0 => ⟨1, 0, .vbat⟩
  | .CAL_ALM_CTL_EN1 => ⟨1, 0, .vbat⟩
  | .CAL_ALM_CTL_EN0 => ⟨1, 0, .vbat⟩
  | .FC_CTL_IRQ_EN => ⟨1, 0, .cold⟩
  | .FC_CTL_VECTOR => ⟨11, 0, .cold⟩
  | .FC_CTL_ESC_MAX => ⟨3, 3, .cold⟩
  | .FC_STS_CR_VALID => ⟨1, 0, .cold⟩
  | .FC_STS_CR_SRC => ⟨9, 0, .cold⟩
  | .FC_STS_ERR_N => ⟨1, 0, .cold⟩
  | .FC_COMPAT_STS_FATAL => ⟨1, 0, .cold⟩
  | .FC_COMPAT_STS_UC => ⟨1, 0, .cold⟩
  | .FC_COMPAT_STS_CE => ⟨1, 0, .cold⟩
  | .FC_SEL_SOURCE => ⟨9, 0, .warm⟩
  | .FC_SRC_CFG_OWNER => ⟨6, 0, .cold⟩
  | .FC_SRC_CFG_KIND => ⟨1, 0, .cold⟩
  | .FC_SRC_CFG_CLASS => ⟨2, 0, .cold⟩
  | .FC_SRC_CFG_ERR_EN => ⟨1, 0, .cold⟩
  | .FC_SRC_CFG_REACT => ⟨3, 0, .cold⟩
  | .FC_SRC_CFG_N => ⟨8, 0, .cold⟩
  | .FC_SRC_WIN_W => ⟨32, 0, .cold⟩
  | .FC_SRC_STATE_LAST_REACT => ⟨3, 0, .warm⟩
  | .FC_SRC_STATE_ESCALATED => ⟨1, 0, .warm⟩
  | .FC_SRC_STATE_HELD => ⟨1, 0, .warm⟩
  | .FC_SRC_STATE_UNACK => ⟨1, 0, .cold⟩
  | .FC_SRC_STATE_SEVERE => ⟨1, 0, .warm⟩
  | .FC_SRC_STATE_STICKY => ⟨1, 0, .cold⟩
  | .FC_SRC_WCNT_WCNT => ⟨32, 0, .warm⟩
  | .FC_SRC_DETAIL_UNIT => ⟨20, 0, .cold⟩
  | .FC_SRC_DETAIL_VALUE => ⟨12, 0, .cold⟩
  | .FC_CNT_CE => ⟨64, 0, .cold⟩
  | .FC_CNT_UC => ⟨64, 0, .cold⟩
  | .FC_CNT_FATAL => ⟨64, 0, .cold⟩
  | .FC_CNT_ESCALATED => ⟨64, 0, .cold⟩
  | .FC_CNT_CHIPRESET => ⟨64, 0, .cold⟩
  | .ER_CTL_CLEAR => ⟨1, 0, .cold⟩
  | .ER_CTL_FREEZE_MAX => ⟨8, 100, .cold⟩
  | .ER_CTL_ENABLE => ⟨1, 1, .cold⟩
  | .ER_STS_CLEAR_PENDING => ⟨1, 0, .warm⟩
  | .ER_STS_FREEZE_TIMEOUT => ⟨1, 0, .warm⟩
  | .ER_STS_FROZEN => ⟨1, 0, .warm⟩
  | .ER_STS_ENABLED => ⟨1, 1, .warm⟩
  | .ER_FREEZE_FREEZE => ⟨1, 0, .warm⟩
  | .ER_CURSOR_PAGE => ⟨3, 0, .warm⟩
  | .ER_HSEL_ID => ⟨6, 0, .warm⟩
  | .ER_HCFG_EN => ⟨1, 0, .cold⟩
  | .ER_HCFG_LOG2 => ⟨1, 0, .cold⟩
  | .ER_HCFG_UNIT => ⟨7, 0, .cold⟩
  | .ER_HLOWER_LOWER => ⟨32, 0, .cold⟩
  | .ER_HWIDTH_WIDTH => ⟨32, 0, .cold⟩
  | .FW_CAP_PKG_MAX => ⟨8, 64, .cold⟩
  | .FW_CAP_KEYS => ⟨8, 2, .cold⟩
  | .FW_CAP_SLOTS => ⟨8, 4, .cold⟩
  | .FW_STS_WAITING => ⟨1, 0, .warm⟩
  | .FW_STS_COMMIT_BUSY => ⟨1, 0, .warm⟩
  | .FW_STS_PENDING_RESET => ⟨1, 0, .warm⟩
  | .FW_STS_ROLL_CLUSTER => ⟨4, 0, .warm⟩
  | .FW_STS_ACT_STATE => ⟨4, 0, .warm⟩
  | .FW_ACTIVE_ARMED => ⟨3, 0, .boot⟩
  | .FW_ACTIVE_NEXT_RESET => ⟨3, 0, .boot⟩
  | .FW_ACTIVE_RUNNING => ⟨3, 0, .boot⟩
  | .FW_SLOT_VALID => ⟨1, 0, .boot⟩
  | .FW_SLOT_BOOTABLE => ⟨1, 0, .boot⟩
  | .FW_SLOT_RESET_PKG => ⟨1, 0, .boot⟩
  | .FW_SLOT_ADVANCE => ⟨1, 0, .boot⟩
  | .FW_SLOT_CLUSTER_IF => ⟨16, 0, .boot⟩
  | .FW_LAST_COMPONENT => ⟨4, 0, .warm⟩
  | .FW_LAST_CLUSTER => ⟨4, 0, .warm⟩
  | .FW_LAST_SLOT => ⟨4, 0, .warm⟩
  | .FW_LAST_CODE => ⟨8, 0, .warm⟩
  | .FW_CNT_COMMITS => ⟨64, 0, .cold⟩
  | .FW_CNT_ACTIVATIONS => ⟨64, 0, .cold⟩
  | .FW_CNT_REVERTS => ⟨64, 0, .cold⟩
  | .CHP_BOOT_STS_FAILED_COPIES => ⟨3, 0, .boot⟩
  | .CHP_BOOT_STS_SOURCE => ⟨4, 0, .boot⟩
  | .CHP_BOOT_STS_SLOT => ⟨4, 0, .boot⟩
  | .CHP_BOOT_STS_PHASE => ⟨4, 0, .boot⟩
  | .CHP_BOOT_STS_RESULT => ⟨4, 0, .boot⟩
  | .CHP_BOOT_TIME_REPLAY_MS => ⟨12, 0, .boot⟩
  | .CHP_BOOT_TIME_READY_MS => ⟨20, 0, .boot⟩
  | .CHP_RST_CAUSE_LEVEL => ⟨4, 0, .boot⟩
  | .CHP_RST_CAUSE_SOURCE => ⟨8, 0, .boot⟩
  | .UCB_RESET_TICK => ⟨64, 0, .warm⟩
  | .UCB_POWER_TICK => ⟨64, 0, .warm⟩
  | .CHP_CTL_TICK => ⟨64, 0, .cold⟩
  | .CHP_ECC_LOGA => ⟨64, 0, .cold⟩
  | .CHP_ECC_LOGT => ⟨64, 0, .cold⟩
  | .CHP_ECC_CE => ⟨64, 0, .cold⟩
  | .CHP_ECC_LAP => ⟨32, 0, .warm⟩
  | .TK_NEXT_TICK => ⟨64, 0, .warm⟩
  | .TK_COUNT => ⟨64, 0, .cold⟩
  | .TK_PTM_EPOCH => ⟨64, 0, .cold⟩
  | .TK_BUDGET_EFF0 => ⟨32, 0x3C050602, .warm⟩
  | .TK_BUDGET_EFF1 => ⟨32, 1, .warm⟩
  | .TK_OVR_CNT => ⟨64, 0, .cold⟩
  | .TK_OVR_LAST => ⟨64, 0, .cold⟩
  | .TK_JUMP_FROM => ⟨64, 0, .cold⟩
  | .TK_CANCEL => ⟨64, 0, .none⟩
  | .TK_SNAP_COUNT => ⟨64, 0, .warm⟩
  | .TK_SNAP_PHASE => ⟨32, 0, .warm⟩
  | .TK_SNAP_CAL => ⟨64, 0, .warm⟩
  | .JQ_QRPL_BASE => ⟨64, 0, .warm⟩
  | .JQ_QXR_BASE => ⟨64, 0, .warm⟩
  | .JQ_QMIRROR => ⟨64, 0, .warm⟩
  | .JQ_FEVT_BASE => ⟨64, 0, .warm⟩
  | .TS_ARG_SIZE => ⟨64, 0, .warm⟩
  | .TS_TICK => ⟨64, 0, .warm⟩
  | .MC_INV_FIRST => ⟨64, 0, .warm⟩
  | .MC_INV_COUNT => ⟨64, 0, .warm⟩
  | .MC_JNL_SEQ => ⟨64, 0, .cold⟩
  | .MC_JNL_CKPT => ⟨64, 0, .cold⟩
  | .MC_GC_FREE => ⟨64, 0, .warm⟩
  | .MC_GC_TOTAL => ⟨64, 0, .warm⟩
  | .MC_WSEQ => ⟨64, 0, .warm⟩
  | .MC_WL_RANGE => ⟨64, 0, .warm⟩
  | .MC_RT_ENT0 => ⟨64, 0, .warm⟩
  | .MC_PATROL_LAP => ⟨64, 0, .warm⟩
  | .CX_DICT_LBA => ⟨64, 0, .warm⟩
  | .SEC_MBX_REQ => ⟨64, 0, .warm⟩
  | .SEC_MBX_RSP => ⟨64, 0, .warm⟩
  | .SEC_MONO => ⟨64, 0, .cold⟩
  | .SEC_TIME_FLOOR => ⟨64, 0, .cold⟩
  | .SEC_PM_TICK => ⟨64, 0, .warm⟩
  | .PM_CMD_TICK => ⟨64, 0, .warm⟩
  | .PM_PATROL_MASK => ⟨64, 0, .cold⟩
  | .PM_REFUSE_LOG_UNIT => ⟨20, 0, .cold⟩
  | .PM_REFUSE_LOG_TYPE => ⟨8, 0, .cold⟩
  | .PM_REFUSE_LOG_REASON => ⟨8, 0, .cold⟩
  | .PM_REFUSE_LOG_AP => ⟨4, 0, .cold⟩
  | .PM_REFUSE_LOG_ABORTED => ⟨1, 0, .cold⟩
  | .PM_REFUSE_LOG_TARGET => ⟨3, 0, .cold⟩
  | .PM_REFUSE_LOG_VALID => ⟨1, 0, .cold⟩
  | .PM_REFUSE_LOG_FROM => ⟨3, 0, .cold⟩
  | .PM_REFUSE_LOG_TICK => ⟨64, 0, .cold⟩
  | .PM_KEEP => ⟨32, 0, .keep⟩
  | .HU_ALLOW => ⟨64, 0, .warm⟩
  | .HU_DIRTY => ⟨64, 0, .warm⟩
  | .HK_ROUND => ⟨64, 0, .cold⟩
  | .CAL_TIME => ⟨64, 0, .vbat⟩
  | .CAL_SET => ⟨64, 0, .vbat⟩
  | .CAL_ALARM => ⟨48, 0, .vbat⟩
  | .FC_SRC_WSTART => ⟨64, 0, .warm⟩
  | .FC_SRC_FIRST => ⟨64, 0, .cold⟩
  | .FC_SRC_LAST => ⟨64, 0, .cold⟩
  | .FC_SRC_TOTAL => ⟨64, 0, .cold⟩
  | .ER_LOST => ⟨64, 0, .warm⟩
  | .ER_CLEARED => ⟨64, 0, .warm⟩
  | .FW_SLOT_SVN => ⟨64, 0, .boot⟩
  | .X_FREE => ⟨64, 0, .none⟩
  | .X_ARMSEQ => ⟨64, 0, .none⟩
  | .X_CMDSEQ => ⟨64, 0, .none⟩
  | .X_DIE_POP => ⟨1, 0, .warm⟩
  | .X_DIE_FORMER => ⟨1, 0, .warm⟩
  | .X_DIE_CELLS => ⟨3, 0, .warm⟩
  | .X_OWN_READY => ⟨1, 0, .warm⟩
  | .X_PWR_TARGET => ⟨3, 0, .warm⟩
  | .X_PWR_WAKING => ⟨1, 0, .warm⟩
  | .X_REQ_IMMEDIATE => ⟨1, 0, .warm⟩
  | .X_CORE_HALTED => ⟨1, 0, .warm⟩
  | .X_CHIPRST => ⟨2, 0, .none⟩
  | .X_CHIPRST_SRC => ⟨8, 0, .none⟩
  | .X_TICK_FRAMES => ⟨8, 0, .cold⟩
  | .X_SRC_PRESENT => ⟨1, 0, .warm⟩
  | .X_SRC_UNIT => ⟨20, 0, .warm⟩
  | .X_SRC_VALUE => ⟨12, 0, .warm⟩
  | .X_WAKE => ⟨16, 0, .none⟩
  | .X_MISSES => ⟨32, 0, .cold⟩
  | .X_GOLD_USED => ⟨16, 0, .warm⟩
  | .X_HIST_BIN => ⟨64, 0, .cold⟩
  | .X_EXT_MIN => ⟨64, 0x7fffffffffffffff, .cold⟩
  | .X_EXT_MINT => ⟨64, 0, .cold⟩
  | .X_EXT_MAX => ⟨64, 0x8000000000000000, .cold⟩
  | .X_EXT_MAXT => ⟨64, 0, .cold⟩
  | .X_CAL_TIME_NS => ⟨64, 0, .vbat⟩
  | .X_MODE_POWER => ⟨3, 0, .none⟩
  | .X_FN_BME => ⟨1, 0, .warm⟩
  | .X_FN_D3 => ⟨1, 0, .warm⟩
  | .X_FN_DISABLING => ⟨1, 0, .warm⟩
  | .X_FN_DISKIND => ⟨3, 0, .warm⟩
  | .X_FN_VFE => ⟨1, 0, .warm⟩
  | .X_FN_NUMVFS => ⟨9, 0, .warm⟩
  | .X_FN_FROZEN => ⟨1, 0, .warm⟩
  | .X_CC => ⟨32, 0, .warm⟩
  | .X_CSTS_RDY => ⟨1, 0, .warm⟩
  | .X_CSTS_CFS => ⟨1, 0, .warm⟩
  | .X_CSTS_SHST => ⟨2, 0, .warm⟩
  | .X_AQA => ⟨32, 0, .warm⟩
  | .X_ASQ => ⟨64, 0, .warm⟩
  | .X_ACQ => ⟨64, 0, .warm⟩
  | .X_CTRL_DISABLING => ⟨1, 0, .warm⟩
  | .X_POOL_HELD => ⟨9, 0, .warm⟩
  | .X_NSQA => ⟨8, 0, .warm⟩
  | .X_NCQA => ⟨8, 0, .warm⟩
  | .X_JQ_S => ⟨64, 0, .front⟩
  | .X_JQ_RPOST => ⟨64, 0, .front⟩
  | .X_JQ_RHEAD => ⟨64, 0, .front⟩
  | .X_JQ_RESV => ⟨17, 0, .front⟩
  | .X_JQ_XPOST => ⟨64, 0, .front⟩
  | .X_JQ_XHEAD => ⟨64, 0, .front⟩
  | .X_JQ_IRQN => ⟨16, 0, .front⟩
  | .X_JQ_MCNT => ⟨8, 0, .front⟩
  | .X_EV_POST => ⟨64, 0, .front⟩
  | .X_EV_HEAD => ⟨64, 0, .front⟩
  | .X_EV_LOST => ⟨1, 0, .front⟩
  | .X_CL_OOS => ⟨1, 0, .warm⟩
  | .X_READY => ⟨1, 0, .none⟩
  | .X_FEAT_AEC => ⟨32, 0, .warm⟩
  | .X_PWR_PEND => ⟨3, 0, .warm⟩
  | .X_PWR_FROM => ⟨3, 0, .warm⟩
  | .X_PERST => ⟨1, 0, .none⟩
  | .X_BIFUR_EFF => ⟨2, 0, .cold⟩
  | .X_SPEED_EFF => ⟨3, 0, .cold⟩
  | .X_ATS_SEQ => ⟨64, 0, .none⟩
  | .X_TICK_SEEN => ⟨1, 0, .cold⟩
  | .X_TICK_SRCCNT => ⟨64, 0, .cold⟩
  | .X_DIE_OP => ⟨2, 0, .warm⟩
  | .X_DIE_SUSP => ⟨1, 0, .warm⟩
  | .X_DIE_RD => ⟨1, 0, .warm⟩
  | .X_DIE_SUSPENDING => ⟨1, 0, .warm⟩
  | .X_DIE_NSUSP => ⟨8, 0, .warm⟩
  | .X_DIE_SUSPT => ⟨8, 0, .warm⟩
  | .X_DIE_OPBLK => ⟨16, 0, .warm⟩
  | .X_DIE_OPPAGE => ⟨16, 0, .warm⟩
  | .X_DIE_OPMODE => ⟨2, 0, .warm⟩
  | .X_DIE_SLIMP => ⟨8, 16, .warm⟩
  | .X_DIE_SLIME => ⟨8, 64, .warm⟩
  | .X_DIE_RETRY => ⟨8, 0, .warm⟩
  | .X_DIE_FEAT => ⟨16, 0, .warm⟩
  | .X_DIE_HINT => ⟨4, 0, .warm⟩
  | .X_CH_DENIED => ⟨1, 1, .warm⟩
  | .X_BLK_STATE => ⟨3, 0, .media⟩
  | .X_BLK_CNT => ⟨32, 0, .media⟩
  | .X_BLK_MODE => ⟨2, 0, .media⟩
  | .X_BLK_WL => ⟨16, 0, .media⟩
  | .X_BLK_MM => ⟨3, 0, .media⟩
  | .X_BLK_FRESH => ⟨1, 0, .warm⟩
  | .X_BLK_READS => ⟨32, 0, .media⟩
  | .X_BROWNOUT => ⟨1, 0, .none⟩
  | .X_WSEQ => ⟨48, 1, .media⟩
  | .X_BANDSEQ => ⟨32, 0, .media⟩
  | .X_ROT => ⟨3, 0, .warm⟩
  | .X_NODE_GEN => ⟨20, 0, .media⟩
  | .X_JNLSEQ => ⟨64, 0, .media⟩
  | .X_QUOTA => ⟨64, 0x10000000000, .warm⟩
  | .X_QUOTA_FRESH => ⟨1, 0, .warm⟩
  | .X_PAGESEQ => ⟨64, 0, .none⟩
  | .X_JNL_BYTES => ⟨64, 0, .warm⟩
  | .X_NSCHG => ⟨1, 0, .warm⟩
  | .X_BLK_REL => ⟨64, 0, .media⟩
  | .X_BLK_RELR => ⟨1, 0, .media⟩
  | .X_BLK_BEGUN => ⟨1, 0, .media⟩
  | .X_WL_SEC => ⟨16, 0, .warm⟩
  | .X_CAL_SEC => ⟨48, 0, .warm⟩
  | .X_HU_COVER => ⟨1, 0, .warm⟩
  | .X_TS_SEQ => ⟨64, 0, .warm⟩
  | .X_TS_NEXT => ⟨64, 0, .warm⟩
  | .X_TS_DEL => ⟨64, 0, .warm⟩
  | .X_GOLD_FN => ⟨16, 0, .warm⟩
  | .X_RES_EFF => ⟨13, 0, .warm⟩
  | .X_RDEF => ⟨4, 0, .media⟩
  | .X_TLER => ⟨16, 0, .warm⟩
  | .X_JOBSEQ => ⟨64, 0, .none⟩
  | .X_PAT_BAND => ⟨32, 0, .warm⟩
  | .X_PAT_POS => ⟨32, 0, .warm⟩
  | .X_PAT_T0 => ⟨64, 0, .warm⟩
  | .X_MISS_LAST => ⟨64, 0, .warm⟩
  | .X_FE_PAUSE => ⟨1, 0, .warm⟩
  | .X_RES_PEND => ⟨2, 0, .warm⟩
  | .X_FEAT_ARB => ⟨32, 0, .warm⟩
  | .X_FEAT_PS => ⟨5, 0, .warm⟩
  | .X_FEAT_LASTOP => ⟨5, 0, .warm⟩
  | .X_FEAT_TT => ⟨16, 398, .warm⟩
  | .X_FEAT_IC => ⟨16, 0, .warm⟩
  | .X_FEAT_IVC => ⟨1, 0, .warm⟩
  | .X_FEAT_QATTR => ⟨28, 0x10000, .warm⟩
  | .X_NSFAM => ⟨2, 0, .boot⟩
  | .X_SAN_ST => ⟨3, 0, .media⟩
  | .X_SAN_DW10 => ⟨32, 0, .media⟩
  | .X_SAN_SPROG => ⟨16, 0xffff, .media⟩
  | .X_SAN_GDE => ⟨1, 0, .media⟩
  | .X_SAN_CRYPTO => ⟨1, 0, .media⟩
  | .X_IDLE => ⟨1, 0, .none⟩
  | .X_PM_FROM => ⟨3, 0, .none⟩
  | .X_MI_FREQ => ⟨2, 1, .warm⟩
  | .X_MI_MTU => ⟨16, 64, .warm⟩
  | .X_KEYSEQ => ⟨64, 0, .media⟩
  | .X_SAN_FM => ⟨1, 0, .media⟩
  | .X_SAN_FN => ⟨9, 0, .media⟩
  | .X_HU_FIRST => ⟨1, 0, .warm⟩
  | .X_HU_T_TEST => ⟨8, 0, .warm⟩
  | .X_HU_DUE => ⟨1, 0, .warm⟩
  | .X_HU_QTR => ⟨1, 0, .warm⟩
  | .X_HU_TESTV => ⟨1, 0, .warm⟩
  | .X_HU_PREOK => ⟨1, 0, .warm⟩
  | .X_HU_DISCH => ⟨1, 0, .warm⟩
  | .X_HU_TRIG => ⟨3, 0, .none⟩
  | .X_FLUSH => ⟨1, 0, .none⟩
  | .X_FLUSH_SHORT => ⟨1, 0, .none⟩
  | .X_FLUSHED => ⟨1, 0, .none⟩
  | .X_SHORT_OWED => ⟨1, 0, .keep⟩
  | .X_PFAIL => ⟨1, 0, .none⟩
  | .X_MAIN_PG => ⟨1, 1, .none⟩
  | .X_MAIN_EN => ⟨1, 1, .none⟩
  | .X_VAUX => ⟨1, 1, .none⟩
  | .X_VBAT => ⟨1, 1, .none⟩
  | .X_THERM_LOCK => ⟨1, 0, .none⟩
  | .X_PAT_PERIOD => ⟨10, 100, .none⟩
  | .X_PAT_ERR => ⟨1, 1, .none⟩
  | .X_PAT_WAKE => ⟨1, 0, .none⟩
  | .X_PAT_MASK => ⟨48, 0, .none⟩
  | .X_PAT_HI => ⟨16, 0, .none⟩
  | .X_PAT_LO => ⟨16, 0, .none⟩
  | .X_KEEP_CAUSE => ⟨4, 0, .keep⟩
  | .X_KEEP_MONO => ⟨64, 0, .keep⟩
  | .X_KEEP_FLOOR => ⟨64, 0, .keep⟩
  | .X_KEEP_SEQ => ⟨64, 0, .keep⟩
  | .X_SYS_MONO => ⟨64, 0, .media⟩
  | .X_PM_AP => ⟨2, 0, .none⟩
  | .X_AVS_HIGH => ⟨3, 0, .warm⟩
  | .X_AVS_OFF => ⟨2, 0, .warm⟩
  | .X_AVS_NAK => ⟨1, 0, .warm⟩
  | .X_TJ_HOT => ⟨1, 0, .warm⟩
  | .X_MBX_MUTE => ⟨1, 0, .warm⟩
  | .X_PM_SEQ => ⟨64, 0, .warm⟩
  | .X_PM_STAGE_RES => ⟨6, 0, .warm⟩
  | .X_FW_CMD => ⟨64, 0, .warm⟩
  | .X_FW_WAIT => ⟨64, 0, .warm⟩
  | .X_FW_ACT => ⟨3, 0, .warm⟩
  | .X_FW_TGT => ⟨3, 0, .warm⟩
  | .X_FW_TICK => ⟨64, 0, .warm⟩
  | .X_FW_WRITING => ⟨1, 0, .warm⟩
  | .X_FW_PHASE => ⟨2, 0, .warm⟩
  | .X_FW_AT => ⟨64, 0, .warm⟩
  | .X_FW_RDY => ⟨6, 0, .warm⟩
  | .X_FW_MAPHALF => ⟨2, 0, .warm⟩
  | .X_FW_REV => ⟨1, 0, .warm⟩
  | .X_FW_COMP => ⟨3, 0, .warm⟩
  | .X_FW_CLCOMP => ⟨3, 0, .warm⟩
  | .X_SYS_RUN => ⟨3, 0, .media⟩
  | .X_SYS_NEXT => ⟨3, 0, .media⟩
  | .X_BOOT_HALT => ⟨1, 0, .warm⟩
  | .X_KEEP_FAILED => ⟨1, 0, .keep⟩
  | .X_REQ_OVERDUE => ⟨1, 0, .warm⟩
  | .X_SRC_AT => ⟨13, 0, .warm⟩
  | .X_CUTOFF_EFF => ⟨7, 70, .warm⟩
  | .X_TICK_EXT => ⟨20, 0, .cold⟩
  | .X_TICK_CUT => ⟨9, 0, .cold⟩
  | .X_TICK_ALIGNED => ⟨1, 0, .cold⟩
  | .X_AT_BND => ⟨1, 0, .cold⟩
  | .X_DIE_NOSUSP => ⟨1, 0, .warm⟩
  | .X_FN_RO => ⟨1, 1, .warm⟩
  | .X_FN_IDO => ⟨1, 0, .warm⟩
  | .X_FN_ATS => ⟨1, 1, .warm⟩
  | .X_FN_ASPM => ⟨2, 2, .warm⟩
  | .X_FN_L12 => ⟨1, 1, .warm⟩
  | .X_FN_MPS => ⟨3, 2, .warm⟩
  | .X_FN_MRRS => ⟨3, 2, .warm⟩
  | .X_FN_CTOD => ⟨1, 0, .warm⟩
  | .X_FN_BAR => ⟨64, 0, .warm⟩
  | .X_AER => ⟨8, 0, .cold⟩
  | .X_MSIX_EN => ⟨1, 1, .warm⟩
  | .X_MSIX_FMASK => ⟨1, 0, .warm⟩
  | .X_MSIX_MASKED => ⟨1, 0, .warm⟩
  | .X_MSIX_PEND => ⟨1, 0, .warm⟩
  | .X_MI_ADDR => ⟨7, 0x1D, .none⟩
  | .X_SM_RD => ⟨64, 0, .media⟩
  | .X_SM_WR => ⟨64, 0, .media⟩
  | .X_SM_RDC => ⟨64, 0, .media⟩
  | .X_SM_WRC => ⟨64, 0, .media⟩
  | .X_SM_ME => ⟨64, 0, .media⟩
  | .X_SM_ERR => ⟨64, 0, .media⟩
  | .X_SM_PC => ⟨64, 0, .media⟩
  | .X_SM_US => ⟨64, 0, .media⟩
  | .X_SM_CW => ⟨8, 0, .warm⟩
  | .X_JQ_RR => ⟨10, 1023, .front⟩
  | .X_BLK_RKEPT => ⟨32, 0, .media⟩
  | .X_NONCE_AGE => ⟨40, 0, .warm⟩
  | .X_FLUSH_BAND => ⟨32, 0, .none⟩
  | .X_HU_NONE => ⟨1, 0, .none⟩
  | .X_HU_RAN => ⟨1, 0, .warm⟩

/-- Every register of the control space, field by field. -/
def Reg.desc : Reg → RegDesc
  | .UCB_ID => ⟨0x0, 0, 1, false, false, []⟩
  | .UCB_PARAM => ⟨0x4, 0, 1, false, false, []⟩
  | .UCB_CHILD_COUNT => ⟨0x8, 0, 1, false, false, []⟩
  | .UCB_CHILD => ⟨0x100, 4, 256, false, false, []⟩
  | .UCB_STATUS => ⟨0x10, 0, 1, false, false, [⟨.UCB_STATUS_DEGRADED, 8, 8, .ro, false⟩,
      ⟨.UCB_STATUS_REQ_PENDING, 7, 7, .ro, false⟩,
      ⟨.UCB_STATUS_POWER, 6, 4, .ro, false⟩,
      ⟨.UCB_STATUS_RESETTING, 2, 2, .ro, false⟩,
      ⟨.UCB_STATUS_FAULT, 1, 1, .ro, false⟩,
      ⟨.UCB_STATUS_READY, 0, 0, .ro, false⟩]⟩
  | .UCB_FAULT => ⟨0x18, 0, 1, false, false, [⟨.UCB_FAULT_REFUSED, 5, 5, .w1c, false⟩,
      ⟨.UCB_FAULT_TIMEOUT, 4, 4, .w1c, false⟩,
      ⟨.UCB_FAULT_THRESHOLD, 3, 3, .w1c, false⟩,
      ⟨.UCB_FAULT_FATAL, 2, 2, .w1c, false⟩,
      ⟨.UCB_FAULT_CONTAINED, 1, 1, .w1c, false⟩,
      ⟨.UCB_FAULT_CORRECTED, 0, 0, .w1c, false⟩]⟩
  | .UCB_RESET_REQ => ⟨0x20, 0, 1, false, false, [⟨.UCB_RESET_REQ_IMMEDIATE, 2, 2, .rw, false⟩,
      ⟨.UCB_RESET_REQ_USE_TICK, 1, 1, .rw, false⟩,
      ⟨.UCB_RESET_REQ_GO, 0, 0, .w1s, false⟩]⟩
  | .UCB_POWER_REQ => ⟨0x30, 0, 1, false, false, [⟨.UCB_POWER_REQ_USE_TICK, 4, 4, .rw, false⟩,
      ⟨.UCB_POWER_REQ_GO, 3, 3, .w1s, false⟩,
      ⟨.UCB_POWER_REQ_TARGET, 2, 0, .rw, false⟩]⟩
  | .UCB_REQ_STS => ⟨0x40, 0, 1, false, false, [⟨.UCB_REQ_STS_REASON, 15, 8, .ro, false⟩,
      ⟨.UCB_REQ_STS_KIND, 7, 4, .ro, false⟩,
      ⟨.UCB_REQ_STS_STATE, 3, 0, .ro, false⟩]⟩
  | .UCB_CNT0 => ⟨0x80, 0, 1, true, false, [⟨.UCB_CNT0, 63, 0, .ro, false⟩]⟩
  | .UCB_CNT1 => ⟨0x88, 0, 1, true, false, [⟨.UCB_CNT1, 63, 0, .ro, false⟩]⟩
  | .UCB_CNT2 => ⟨0x90, 0, 1, true, false, [⟨.UCB_CNT2, 63, 0, .ro, false⟩]⟩
  | .UCB_CNT3 => ⟨0x98, 0, 1, true, false, [⟨.UCB_CNT3, 63, 0, .ro, false⟩]⟩
  | .UCB_CNT4 => ⟨0xA0, 0, 1, true, false, [⟨.UCB_CNT4, 63, 0, .ro, false⟩]⟩
  | .UCB_CNT5 => ⟨0xA8, 0, 1, true, false, [⟨.UCB_CNT5, 63, 0, .ro, false⟩]⟩
  | .UCB_CNT6 => ⟨0xB0, 0, 1, true, false, [⟨.UCB_CNT6, 63, 0, .ro, false⟩]⟩
  | .UCB_CNT7 => ⟨0xB8, 0, 1, true, false, [⟨.UCB_CNT7, 63, 0, .ro, false⟩]⟩
  | .CHP_ID => ⟨0x0, 0, 1, false, false, [⟨.CHP_ID_FAMILY, 31, 24, .ro, false⟩, ⟨.CHP_ID_MEMBER, 23, 16, .ro, false⟩]⟩
  | .CHP_STEP => ⟨0x4, 0, 1, false, false, [⟨.CHP_STEP_MAJOR, 7, 4, .ro, false⟩, ⟨.CHP_STEP_MINOR, 3, 0, .ro, false⟩]⟩
  | .CHP_UID => ⟨0x10, 4, 4, false, false, [⟨.CHP_UID_UID, 31, 0, .ro, false⟩]⟩
  | .CHP_CAP0 => ⟨0x20, 0, 1, false, false, [⟨.CHP_CAP0_CORES, 31, 24, .ro, false⟩,
      ⟨.CHP_CAP0_LINKS_PER_PORT, 23, 20, .ro, false⟩,
      ⟨.CHP_CAP0_PORTS, 19, 17, .ro, false⟩,
      ⟨.CHP_CAP0_DIES_PER_CH, 16, 12, .ro, false⟩,
      ⟨.CHP_CAP0_CLUSTERS, 11, 8, .ro, false⟩,
      ⟨.CHP_CAP0_CHANNELS, 7, 0, .ro, false⟩]⟩
  | .CHP_CAP1 => ⟨0x24, 0, 1, false, false, [⟨.CHP_CAP1_PFS, 31, 28, .ro, false⟩,
      ⟨.CHP_CAP1_IOQ_PER_FN, 27, 16, .ro, false⟩,
      ⟨.CHP_CAP1_VF_POOL, 15, 0, .ro, false⟩]⟩
  | .CHP_CAP2 => ⟨0x28, 0, 1, false, false, [⟨.CHP_CAP2_JQ_QUEUES, 31, 16, .ro, false⟩, ⟨.CHP_CAP2_NVME_QP, 15, 0, .ro, false⟩]⟩
  | .CHP_CAP3 => ⟨0x2C, 0, 1, false, false, [⟨.CHP_CAP3_COMP_ENG, 31, 28, .ro, false⟩,
      ⟨.CHP_CAP3_DECOMP_ENG, 27, 20, .ro, false⟩,
      ⟨.CHP_CAP3_MODES, 19, 16, .ro, false⟩,
      ⟨.CHP_CAP3_FC_SOURCES, 15, 0, .ro, false⟩]⟩
  | .CHP_CAP4 => ⟨0x30, 0, 1, false, false, [⟨.CHP_CAP4_DRAM_CH, 31, 24, .ro, false⟩,
      ⟨.CHP_CAP4_DEEP_DEC, 23, 16, .ro, false⟩,
      ⟨.CHP_CAP4_STAGING, 15, 8, .ro, false⟩,
      ⟨.CHP_CAP4_MAP_CACHE, 7, 0, .ro, false⟩]⟩
  | .CHP_CAP5 => ⟨0x34, 0, 1, false, false, [⟨.CHP_CAP5_G64K, 23, 23, .ro, false⟩,
      ⟨.CHP_CAP5_G16K, 22, 22, .ro, false⟩,
      ⟨.CHP_CAP5_G4K, 21, 21, .ro, false⟩,
      ⟨.CHP_CAP5_OUTSTANDING, 20, 16, .ro, false⟩,
      ⟨.CHP_CAP5_NODES, 15, 0, .ro, false⟩]⟩
  | .CHP_CAP6 => ⟨0x38, 0, 1, false, false, [⟨.CHP_CAP6_MAX_RAW, 31, 0, .ro, false⟩]⟩
  | .CHP_CAP7 => ⟨0x3C, 0, 1, false, false, [⟨.CHP_CAP7_TICK_DEF, 29, 20, .ro, false⟩,
      ⟨.CHP_CAP7_TICK_MAX, 19, 10, .ro, false⟩,
      ⟨.CHP_CAP7_TICK_MIN, 9, 0, .ro, false⟩]⟩
  | .CHP_CTL => ⟨0x40, 0, 1, false, false, [⟨.CHP_CTL_USE_TICK, 2, 2, .rw, true⟩,
      ⟨.CHP_CTL_COLD_RESET, 1, 1, .w1s, true⟩,
      ⟨.CHP_CTL_WARM_RESET, 0, 0, .w1s, true⟩]⟩
  | .TK_CTL => ⟨0x0, 0, 1, false, false, [⟨.TK_CTL_FASTPATH, 3, 3, .rw, false⟩,
      ⟨.TK_CTL_OUT_EN, 2, 2, .rw, false⟩,
      ⟨.TK_CTL_OUT_FRAME, 1, 1, .rw, false⟩]⟩
  | .TK_PERIOD => ⟨0x4, 0, 1, false, false, [⟨.TK_PERIOD_PERIOD, 9, 0, .ro, false⟩]⟩
  | .TK_NEXT => ⟨0x8, 0, 1, false, false, [⟨.TK_NEXT_GO, 10, 10, .w1s, true⟩, ⟨.TK_NEXT_NEXT_PERIOD, 9, 0, .rw, true⟩]⟩
  | .TK_STS => ⟨0x18, 0, 1, false, false, [⟨.TK_STS_NEXT_STATE, 19, 16, .ro, false⟩,
      ⟨.TK_STS_JUMPED, 11, 11, .w1c, false⟩,
      ⟨.TK_STS_MISMATCH, 10, 10, .w1c, false⟩,
      ⟨.TK_STS_OVERRUN, 9, 9, .w1c, false⟩,
      ⟨.TK_STS_SRC_LOST, 8, 8, .w1c, false⟩,
      ⟨.TK_STS_LOCK, 2, 0, .ro, false⟩]⟩
  | .TK_PHASE => ⟨0x28, 0, 1, false, false, [⟨.TK_PHASE_PHASE, 19, 0, .ro, false⟩]⟩
  | .TK_SRC => ⟨0x30, 0, 1, false, false, [⟨.TK_SRC_PTM_LINK, 9, 8, .rw, true⟩,
      ⟨.TK_SRC_PTM_PORT, 7, 7, .rw, true⟩,
      ⟨.TK_SRC_ADOPT, 6, 6, .rw, true⟩,
      ⟨.TK_SRC_SOURCE, 2, 0, .rw, true⟩]⟩
  | .TK_CUTOFF => ⟨0x40, 0, 1, false, false, [⟨.TK_CUTOFF_PERCENT, 6, 0, .rw, true⟩]⟩
  | .TK_BUDGET0 => ⟨0x44, 0, 1, false, false, [⟨.TK_BUDGET0_GOLD_MAX, 31, 24, .rw, true⟩,
      ⟨.TK_BUDGET0_LEAD_MIN, 23, 16, .rw, true⟩,
      ⟨.TK_BUDGET0_SILVER_W, 15, 8, .rw, true⟩,
      ⟨.TK_BUDGET0_COPPER_W, 7, 0, .rw, true⟩]⟩
  | .TK_BUDGET1 => ⟨0x48, 0, 1, false, false, [⟨.TK_BUDGET1_PE_MAX, 31, 16, .rw, true⟩, ⟨.TK_BUDGET1_GOLD_SLOTS, 2, 0, .rw, true⟩]⟩
  | .TK_CANCEL_STS => ⟨0x78, 0, 1, false, false, [⟨.TK_CANCEL_STS_CANCELLED, 31, 16, .ro, false⟩, ⟨.TK_CANCEL_STS_RESULT, 1, 0, .ro, false⟩]⟩
  | .TK_SNAP => ⟨0x80, 0, 1, false, false, [⟨.TK_SNAP_TAKE, 0, 0, .w1s, false⟩]⟩
  | .HE_CFG => ⟨0x0, 0, 1, false, false, [⟨.HE_CFG_MAX_SPEED, 6, 4, .rw, true⟩, ⟨.HE_CFG_BIFUR, 1, 0, .rw, true⟩]⟩
  | .HE_LINK_STS => ⟨0x10, 4, 4, false, false, [⟨.HE_LINK_STS_LPM, 19, 16, .ro, false⟩,
      ⟨.HE_LINK_STS_L0P_WIDTH, 15, 11, .ro, false⟩,
      ⟨.HE_LINK_STS_WIDTH, 10, 6, .ro, false⟩,
      ⟨.HE_LINK_STS_SPEED, 5, 3, .ro, false⟩,
      ⟨.HE_LINK_STS_FLIT, 2, 2, .ro, false⟩,
      ⟨.HE_LINK_STS_EXISTS, 1, 1, .ro, false⟩,
      ⟨.HE_LINK_STS_UP, 0, 0, .ro, false⟩]⟩
  | .HE_PWR => ⟨0x20, 0, 1, false, false, [⟨.HE_PWR_L12_IDLE, 31, 16, .rw, false⟩,
      ⟨.HE_PWR_L1_IDLE, 15, 1, .rw, false⟩,
      ⟨.HE_PWR_L0P_EN, 0, 0, .rw, false⟩]⟩
  | .HE_VFALLOC => ⟨0x30, 4, 4, false, false, [⟨.HE_VFALLOC_COUNT, 24, 16, .rw, false⟩, ⟨.HE_VFALLOC_FIRST, 7, 0, .rw, false⟩]⟩
  | .HE_FNATTR => ⟨0x40, 4, 4, false, false, [⟨.HE_FNATTR_ATS_QUOTA, 14, 8, .rw, false⟩,
      ⟨.HE_FNATTR_STRICT, 1, 1, .rw, false⟩,
      ⟨.HE_FNATTR_GOLD_NO_LPM, 0, 0, .rw, false⟩]⟩
  | .HE_ATS_STS => ⟨0x50, 0, 1, false, false, [⟨.HE_ATS_STS_PENDING_INV, 28, 16, .ro, false⟩, ⟨.HE_ATS_STS_IN_USE, 12, 0, .ro, false⟩]⟩
  | .HE_EVT => ⟨0x60, 0, 1, false, false, [⟨.HE_EVT_SURPRISE_DOWN, 7, 4, .w1c, false⟩,
      ⟨.HE_EVT_CPL_TIMEOUT, 3, 3, .w1c, false⟩,
      ⟨.HE_EVT_FLR_TIMEOUT, 2, 2, .w1c, false⟩,
      ⟨.HE_EVT_ALLOC_ERR, 1, 1, .w1c, false⟩]⟩
  | .HE_CNT_DISABLE => ⟨0x80, 0, 1, true, false, [⟨.HE_CNT_DISABLE, 63, 0, .ro, false⟩]⟩
  | .HE_CNT_LDN => ⟨0x88, 0, 1, true, false, [⟨.HE_CNT_LDN, 63, 0, .ro, false⟩]⟩
  | .HE_CNT_INV => ⟨0x90, 0, 1, true, false, [⟨.HE_CNT_INV, 63, 0, .ro, false⟩]⟩
  | .HE_CNT_CTO => ⟨0x98, 0, 1, true, false, [⟨.HE_CNT_CTO, 63, 0, .ro, false⟩]⟩
  | .HE_CNT_UR => ⟨0xA0, 0, 1, true, false, [⟨.HE_CNT_UR, 63, 0, .ro, false⟩]⟩
  | .JQ_STS => ⟨0x0, 0, 1, false, false, [⟨.JQ_STS_OVERCOMMIT, 2, 2, .ro, false⟩,
      ⟨.JQ_STS_FROZEN, 1, 1, .ro, false⟩,
      ⟨.JQ_STS_SANITIZING, 0, 0, .ro, false⟩]⟩
  | .JQ_GOLD => ⟨0x4, 0, 1, false, false, [⟨.JQ_GOLD_SUM, 31, 16, .ro, false⟩, ⟨.JQ_GOLD_CAP, 15, 0, .ro, false⟩]⟩
  | .JQ_QSEL => ⟨0x10, 0, 1, false, true, [⟨.JQ_QSEL_QUEUE, 9, 0, .rw, false⟩]⟩
  | .JQ_QCFG => ⟨0x20, 0, 1, false, false, [⟨.JQ_QCFG_FN, 31, 23, .rw, false⟩,
      ⟨.JQ_QCFG_SLOT, 22, 17, .rw, false⟩,
      ⟨.JQ_QCFG_ENTRIES, 16, 14, .rw, false⟩,
      ⟨.JQ_QCFG_XR_LIFE, 13, 10, .rw, false⟩,
      ⟨.JQ_QCFG_XR_EN, 9, 9, .rw, false⟩,
      ⟨.JQ_QCFG_GOLD_OK, 8, 8, .rw, false⟩,
      ⟨.JQ_QCFG_STRICT, 7, 7, .rw, false⟩]⟩
  | .JQ_QRING => ⟨0x24, 0, 1, false, false, [⟨.JQ_QRING_RPL_LOG, 31, 28, .rw, false⟩,
      ⟨.JQ_QRING_XR_LOG, 27, 24, .rw, false⟩,
      ⟨.JQ_QRING_HEAD_EVERY, 23, 16, .rw, false⟩,
      ⟨.JQ_QRING_XR_MAX, 15, 8, .rw, false⟩,
      ⟨.JQ_QRING_MAX_OPEN, 7, 0, .rw, false⟩]⟩
  | .JQ_QCMD => ⟨0x40, 0, 1, false, false, [⟨.JQ_QCMD_DISABLE, 1, 1, .w1s, false⟩, ⟨.JQ_QCMD_ENABLE, 0, 0, .w1s, false⟩]⟩
  | .JQ_QSTS => ⟨0x44, 0, 1, false, false, [⟨.JQ_QSTS_OUTSTANDING, 31, 16, .ro, false⟩,
      ⟨.JQ_QSTS_ERR, 11, 8, .ro, false⟩,
      ⟨.JQ_QSTS_STATE, 2, 0, .ro, false⟩]⟩
  | .JQ_QIRQ => ⟨0x48, 0, 1, false, false, [⟨.JQ_QIRQ_EN, 31, 31, .rw, false⟩,
      ⟨.JQ_QIRQ_COALESCE, 23, 16, .rw, false⟩,
      ⟨.JQ_QIRQ_VECTOR, 10, 0, .rw, false⟩]⟩
  | .JQ_QSEQ => ⟨0x4C, 0, 1, false, false, [⟨.JQ_QSEQ_SEQ, 15, 0, .ro, false⟩]⟩
  | .JQ_FSEL => ⟨0x80, 0, 1, false, true, [⟨.JQ_FSEL_FN, 8, 0, .rw, false⟩]⟩
  | .JQ_FGOLD => ⟨0x84, 0, 1, false, false, [⟨.JQ_FGOLD_RES_SLOTS, 12, 0, .rw, false⟩]⟩
  | .JQ_FEVT_CFG => ⟨0x88, 0, 1, false, false, [⟨.JQ_FEVT_CFG_EVT_EN, 31, 31, .rw, false⟩,
      ⟨.JQ_FEVT_CFG_IRQ_EN, 30, 30, .rw, false⟩,
      ⟨.JQ_FEVT_CFG_VECTOR, 26, 16, .rw, false⟩,
      ⟨.JQ_FEVT_CFG_EVT_LOG, 3, 0, .rw, false⟩]⟩
  | .JQ_FSTS => ⟨0x98, 0, 1, false, false, [⟨.JQ_FSTS_EVT_HEAD_ERR, 2, 2, .w1c, false⟩,
      ⟨.JQ_FSTS_RES_REFUSED, 1, 1, .w1c, false⟩,
      ⟨.JQ_FSTS_EVT_DROP, 0, 0, .w1c, false⟩]⟩
  | .JQ_CNT_DOWNGRADE => ⟨0x100, 0, 1, true, false, [⟨.JQ_CNT_DOWNGRADE, 63, 0, .ro, false⟩]⟩
  | .JQ_CNT_LATE => ⟨0x108, 0, 1, true, false, [⟨.JQ_CNT_LATE, 63, 0, .ro, false⟩]⟩
  | .JQ_CNT_CAUGHT => ⟨0x110, 0, 1, true, false, [⟨.JQ_CNT_CAUGHT, 63, 0, .ro, false⟩]⟩
  | .JQ_CNT_MISSED => ⟨0x118, 0, 1, true, false, [⟨.JQ_CNT_MISSED, 63, 0, .ro, false⟩]⟩
  | .JQ_CNT_QERR => ⟨0x120, 0, 1, true, false, [⟨.JQ_CNT_QERR, 63, 0, .ro, false⟩]⟩
  | .JQ_CNT_XR_EXPIRED => ⟨0x128, 0, 1, true, false, [⟨.JQ_CNT_XR_EXPIRED, 63, 0, .ro, false⟩]⟩
  | .TS_CAP => ⟨0x0, 0, 1, false, false, [⟨.TS_CAP_PENDING_MAX, 31, 24, .ro, false⟩,
      ⟨.TS_CAP_MAX_DEPTH, 23, 16, .ro, false⟩,
      ⟨.TS_CAP_MAX_LAYERS, 15, 8, .ro, false⟩,
      ⟨.TS_CAP_MAX_CHILDREN, 7, 0, .ro, false⟩]⟩
  | .TS_STS => ⟨0x4, 0, 1, false, false, [⟨.TS_STS_NODES_FREE, 28, 16, .ro, false⟩, ⟨.TS_STS_ARMED, 6, 0, .ro, false⟩]⟩
  | .TS_NSEL => ⟨0x10, 0, 1, false, true, [⟨.TS_NSEL_NODE, 11, 0, .rw, false⟩]⟩
  | .TS_NODE => ⟨0x14, 0, 1, false, false, []⟩
  | .TS_NODE_LINKS => ⟨0x18, 0, 1, false, false, []⟩
  | .TS_NODE_CHILD => ⟨0x100, 4, 32, false, false, []⟩
  | .TS_CMD => ⟨0x40, 0, 1, false, true, [⟨.TS_CMD_GO, 7, 7, .w1s, false⟩,
      ⟨.TS_CMD_USE_TICK, 6, 6, .rw, false⟩,
      ⟨.TS_CMD_OP, 3, 0, .rw, false⟩]⟩
  | .TS_ARG => ⟨0x44, 0, 1, false, true, [⟨.TS_ARG_COUNT, 21, 16, .rw, false⟩, ⟨.TS_ARG_NODE, 11, 0, .rw, false⟩]⟩
  | .TS_RESULT => ⟨0x58, 0, 1, false, true, [⟨.TS_RESULT_NODE, 27, 16, .ro, false⟩,
      ⟨.TS_RESULT_REASON, 15, 8, .ro, false⟩,
      ⟨.TS_RESULT_STATE, 3, 0, .ro, false⟩]⟩
  | .TS_STAGE => ⟨0x200, 4, 32, false, true, [⟨.TS_STAGE_NODE, 11, 0, .rw, false⟩]⟩
  | .MC_CTL => ⟨0x0, 0, 1, false, false, [⟨.MC_CTL_ENABLE, 0, 0, .rw, true⟩]⟩
  | .MC_STS => ⟨0x4, 0, 1, false, false, [⟨.MC_STS_DISABLE_REFUSED, 4, 4, .w1c, false⟩,
      ⟨.MC_STS_INIT, 3, 3, .ro, false⟩,
      ⟨.MC_STS_DRAINING, 2, 2, .ro, false⟩,
      ⟨.MC_STS_DRAINED, 1, 1, .ro, false⟩,
      ⟨.MC_STS_ENABLED, 0, 0, .ro, false⟩]⟩
  | .MC_GEOM => ⟨0x8, 0, 1, false, false, [⟨.MC_GEOM_LOCK_MAX, 31, 24, .ro, false⟩,
      ⟨.MC_GEOM_WAYS, 23, 16, .ro, false⟩,
      ⟨.MC_GEOM_SETS_LOG2, 15, 8, .ro, false⟩,
      ⟨.MC_GEOM_PORTS, 7, 0, .ro, false⟩]⟩
  | .MC_LOCKMASK => ⟨0xC, 0, 1, false, false, [⟨.MC_LOCKMASK_MASK, 15, 0, .rw, true⟩]⟩
  | .MC_LFSR => ⟨0x10, 0, 1, false, false, [⟨.MC_LFSR_STATE, 15, 0, .rw, false⟩]⟩
  | .MC_DSTORE => ⟨0x14, 0, 1, false, false, [⟨.MC_DSTORE_SIZE, 16, 0, .ro, false⟩]⟩
  | .MC_PIN_LINES => ⟨0x18, 0, 1, false, false, [⟨.MC_PIN_LINES_LINES, 18, 0, .ro, false⟩]⟩
  | .MC_PIN_COUNT => ⟨0x1C, 0, 1, false, false, [⟨.MC_PIN_COUNT_PINS, 16, 0, .ro, false⟩]⟩
  | .MC_INV_CMD => ⟨0x20, 0, 1, false, true, [⟨.MC_INV_CMD_GO, 31, 31, .w1s, false⟩, ⟨.MC_INV_CMD_NODE, 11, 0, .rw, false⟩]⟩
  | .MC_INV_STS => ⟨0x38, 0, 1, false, true, [⟨.MC_INV_STS_REASON, 15, 8, .ro, false⟩, ⟨.MC_INV_STS_STATE, 3, 0, .ro, false⟩]⟩
  | .MC_JNL_CFG => ⟨0x40, 0, 1, false, false, [⟨.MC_JNL_CFG_THROTTLE, 23, 16, .rw, true⟩, ⟨.MC_JNL_CFG_LIMIT, 15, 0, .rw, true⟩]⟩
  | .MC_JNL_STS => ⟨0x44, 0, 1, false, false, [⟨.MC_JNL_STS_THROTTLING, 16, 16, .ro, false⟩, ⟨.MC_JNL_STS_USED, 15, 0, .ro, false⟩]⟩
  | .MC_CNT_HIT => ⟨0x80, 0, 1, true, false, [⟨.MC_CNT_HIT, 63, 0, .ro, false⟩]⟩
  | .MC_CNT_MISS_DRAM => ⟨0x88, 0, 1, true, false, [⟨.MC_CNT_MISS_DRAM, 63, 0, .ro, false⟩]⟩
  | .MC_CNT_MISS_FLASH => ⟨0x90, 0, 1, true, false, [⟨.MC_CNT_MISS_FLASH, 63, 0, .ro, false⟩]⟩
  | .MC_CNT_STALL => ⟨0x98, 0, 1, true, false, [⟨.MC_CNT_STALL, 63, 0, .ro, false⟩]⟩
  | .MC_CNT_EVICT_DIRTY => ⟨0xA0, 0, 1, true, false, [⟨.MC_CNT_EVICT_DIRTY, 63, 0, .ro, false⟩]⟩
  | .MC_CNT_INV => ⟨0xA8, 0, 1, true, false, [⟨.MC_CNT_INV, 63, 0, .ro, false⟩]⟩
  | .MC_CNT_REFILL => ⟨0xB0, 0, 1, true, false, [⟨.MC_CNT_REFILL, 63, 0, .ro, false⟩]⟩
  | .MS_STS => ⟨0x0, 0, 1, false, false, [⟨.MS_STS_CALL_ERR, 3, 3, .w1c, false⟩,
      ⟨.MS_STS_GATE_VIOL, 2, 2, .w1c, false⟩,
      ⟨.MS_STS_BO_SEEN, 1, 1, .w1c, false⟩,
      ⟨.MS_STS_BROWNOUT, 0, 0, .ro, false⟩]⟩
  | .MS_ROMREV => ⟨0x4, 0, 1, false, false, [⟨.MS_ROMREV_REV, 15, 0, .ro, false⟩]⟩
  | .MS_WIN_STS => ⟨0x8, 0, 1, false, false, [⟨.MS_WIN_STS_OUT, 11, 0, .ro, false⟩]⟩
  | .MS_MARGIN => ⟨0xC, 0, 1, false, false, [⟨.MS_MARGIN_PROG_LIMIT, 15, 8, .rw, true⟩, ⟨.MS_MARGIN_ERASED_LIMIT, 7, 0, .rw, true⟩]⟩
  | .MS_SYSUNLOCK => ⟨0x10, 0, 1, false, false, [⟨.MS_SYSUNLOCK_UNLOCK, 0, 0, .rw, true⟩]⟩
  | .MS_CALL => ⟨0x20, 0, 1, false, false, [⟨.MS_CALL_SLOT, 10, 0, .wo, false⟩]⟩
  | .MS_CPL => ⟨0x40, 4, 6, false, false, [⟨.MS_CPL_VALID, 31, 31, .ro, false⟩, ⟨.MS_CPL_SLOT, 10, 0, .ro, false⟩]⟩
  | .MS_CH_IF => ⟨0x0, 0, 1, false, false, [⟨.MS_CH_IF_TRAINED, 31, 31, .ro, false⟩,
      ⟨.MS_CH_IF_MODE, 28, 28, .ro, false⟩,
      ⟨.MS_CH_IF_FALLBACKS, 27, 24, .ro, false⟩,
      ⟨.MS_CH_IF_MAX_RATE, 11, 8, .rw, true⟩,
      ⟨.MS_CH_IF_RATE, 3, 0, .ro, false⟩]⟩
  | .MS_CH_GEO => ⟨0x4, 0, 1, false, false, [⟨.MS_CH_GEO_PLANES, 31, 28, .ro, false⟩,
      ⟨.MS_CH_GEO_WLB, 27, 16, .ro, false⟩,
      ⟨.MS_CH_GEO_BLOCKS, 15, 0, .ro, false⟩]⟩
  | .MS_CH_SENS => ⟨0x8, 0, 1, false, false, [⟨.MS_CH_SENS_MASK, 7, 0, .rw, true⟩]⟩
  | .MS_CH_SYS => ⟨0xC, 0, 1, false, false, [⟨.MS_CH_SYS_PRESENT, 31, 31, .ro, false⟩,
      ⟨.MS_CH_SYS_DIE, 19, 16, .ro, false⟩,
      ⟨.MS_CH_SYS_BLOCKS, 15, 0, .ro, false⟩]⟩
  | .MS_CH_DIEST => ⟨0x10, 0, 1, true, false, []⟩
  | .MS_CH_CNT_READ => ⟨0x40, 0, 1, true, false, [⟨.MS_CH_CNT_READ, 63, 0, .ro, false⟩]⟩
  | .MS_CH_CNT_PROGRAM => ⟨0x48, 0, 1, true, false, [⟨.MS_CH_CNT_PROGRAM, 63, 0, .ro, false⟩]⟩
  | .MS_CH_CNT_ERASE => ⟨0x50, 0, 1, true, false, [⟨.MS_CH_CNT_ERASE, 63, 0, .ro, false⟩]⟩
  | .MS_CH_CNT_SUSPEND => ⟨0x58, 0, 1, true, false, [⟨.MS_CH_CNT_SUSPEND, 63, 0, .ro, false⟩]⟩
  | .MS_CH_CNT_BO => ⟨0x60, 0, 1, true, false, [⟨.MS_CH_CNT_BO, 63, 0, .ro, false⟩]⟩
  | .MS_CH_CNT_WIN => ⟨0x68, 0, 1, true, false, [⟨.MS_CH_CNT_WIN, 63, 0, .ro, false⟩]⟩
  | .MS_CH_CNT_TIMEOUT => ⟨0x70, 0, 1, true, false, [⟨.MS_CH_CNT_TIMEOUT, 63, 0, .ro, false⟩]⟩
  | .MC_GC_MARK0 => ⟨0x100, 0, 1, false, false, [⟨.MC_GC_MARK0_HIGH, 29, 20, .rw, true⟩,
      ⟨.MC_GC_MARK0_LOW, 19, 10, .rw, true⟩,
      ⟨.MC_GC_MARK0_CRIT, 9, 0, .rw, true⟩]⟩
  | .MC_GC_MARK1 => ⟨0x104, 0, 1, false, false, [⟨.MC_GC_MARK1_HU_BANDS, 15, 0, .ro, false⟩]⟩
  | .MC_GC_QMAX => ⟨0x108, 0, 1, false, false, [⟨.MC_GC_QMAX_QMAX, 31, 0, .rw, true⟩]⟩
  | .MC_GC_STS => ⟨0x10C, 0, 1, false, false, [⟨.MC_GC_STS_K, 16, 8, .ro, false⟩, ⟨.MC_GC_STS_STATE, 2, 0, .ro, false⟩]⟩
  | .MC_GC_MODE => ⟨0x110, 0, 1, false, false, [⟨.MC_GC_MODE_VERIFY_OFFSET, 15, 12, .rw, true⟩,
      ⟨.MC_GC_MODE_RW_MODE, 5, 4, .rw, true⟩,
      ⟨.MC_GC_MODE_RO_MODE, 1, 0, .rw, true⟩]⟩
  | .MC_WL_CFG => ⟨0x114, 0, 1, false, false, [⟨.MC_WL_CFG_SPREAD, 31, 16, .rw, true⟩, ⟨.MC_WL_CFG_RATE, 15, 0, .rw, true⟩]⟩
  | .MC_REC0 => ⟨0x140, 0, 1, false, false, [⟨.MC_REC0_COPIES_KEPT, 31, 16, .ro, false⟩, ⟨.MC_REC0_SOURCES_KEPT, 15, 0, .ro, false⟩]⟩
  | .MC_REC1 => ⟨0x144, 0, 1, false, false, [⟨.MC_REC1_HALF_ERASED, 31, 16, .ro, false⟩, ⟨.MC_REC1_ROWS_SEALED, 15, 0, .ro, false⟩]⟩
  | .MC_REC2 => ⟨0x148, 0, 1, false, false, [⟨.MC_REC2_DISCARDED, 31, 0, .ro, false⟩]⟩
  | .MC_CNT_HOST_UNITS => ⟨0x180, 0, 1, true, false, [⟨.MC_CNT_HOST_UNITS, 63, 0, .ro, false⟩]⟩
  | .MC_CNT_GC_UNITS => ⟨0x188, 0, 1, true, false, [⟨.MC_CNT_GC_UNITS, 63, 0, .ro, false⟩]⟩
  | .MC_CNT_GC_BANDS => ⟨0x190, 0, 1, true, false, [⟨.MC_CNT_GC_BANDS, 63, 0, .ro, false⟩]⟩
  | .MC_CNT_WL_BANDS => ⟨0x198, 0, 1, true, false, [⟨.MC_CNT_WL_BANDS, 63, 0, .ro, false⟩]⟩
  | .MC_CNT_RETIRED => ⟨0x1A0, 0, 1, true, false, [⟨.MC_CNT_RETIRED, 63, 0, .ro, false⟩]⟩
  | .MC_CNT_SEAL_SHORT => ⟨0x1A8, 0, 1, true, false, [⟨.MC_CNT_SEAL_SHORT, 63, 0, .ro, false⟩]⟩
  | .MC_CNT_RECON => ⟨0x1B0, 0, 1, true, false, [⟨.MC_CNT_RECON, 63, 0, .ro, false⟩]⟩
  | .MC_CNT_THROTTLE_TICKS => ⟨0x1B8, 0, 1, true, false, [⟨.MC_CNT_THROTTLE_TICKS, 63, 0, .ro, false⟩]⟩
  | .MC_CNT_DEGRADED_BANDS => ⟨0x1C0, 0, 1, true, false, [⟨.MC_CNT_DEGRADED_BANDS, 63, 0, .ro, false⟩]⟩
  | .MC_RI_CFG => ⟨0x200, 0, 1, false, false, [⟨.MC_RI_CFG_RECOV_PASSES, 23, 20, .rw, true⟩,
      ⟨.MC_RI_CFG_LADDER_MAX, 19, 16, .rw, true⟩,
      ⟨.MC_RI_CFG_CMD_MAX, 9, 0, .rw, true⟩]⟩
  | .MC_RI_STS => ⟨0x204, 0, 1, false, false, [⟨.MC_RI_STS_TABLE_FULL, 16, 16, .w1c, false⟩, ⟨.MC_RI_STS_ACTIVE, 12, 0, .ro, false⟩]⟩
  | .MC_RT_SEL => ⟨0x208, 0, 1, false, true, [⟨.MC_RT_SEL_INDEX, 11, 0, .rw, false⟩]⟩
  | .MC_RT_ENT1 => ⟨0x218, 0, 1, false, false, [⟨.MC_RT_ENT1_VALID, 31, 31, .ro, false⟩,
      ⟨.MC_RT_ENT1_PHASE, 25, 24, .ro, false⟩,
      ⟨.MC_RT_ENT1_PASSES, 23, 20, .ro, false⟩]⟩
  | .MC_PATROL_CFG => ⟨0x220, 0, 1, false, false, [⟨.MC_PATROL_CFG_ENABLE, 31, 31, .rw, true⟩,
      ⟨.MC_PATROL_CFG_REFRESH_BITS, 23, 16, .rw, true⟩,
      ⟨.MC_PATROL_CFG_AGE_DAYS, 15, 0, .rw, true⟩]⟩
  | .MC_PATROL_RD => ⟨0x224, 0, 1, false, false, [⟨.MC_PATROL_RD_READS_MAX, 15, 0, .rw, true⟩]⟩
  | .MC_PATROL_POS => ⟨0x230, 0, 1, false, false, [⟨.MC_PATROL_POS_PERMILLE, 9, 0, .ro, false⟩]⟩
  | .MC_CNT_FAST_FAIL => ⟨0x280, 0, 1, true, false, [⟨.MC_CNT_FAST_FAIL, 63, 0, .ro, false⟩]⟩
  | .MC_CNT_MISCORRECT => ⟨0x288, 0, 1, true, false, [⟨.MC_CNT_MISCORRECT, 63, 0, .ro, false⟩]⟩
  | .MC_CNT_DEEP_OK => ⟨0x290, 0, 1, true, false, [⟨.MC_CNT_DEEP_OK, 63, 0, .ro, false⟩]⟩
  | .MC_CNT_LADDER_READS => ⟨0x298, 0, 1, true, false, [⟨.MC_CNT_LADDER_READS, 63, 0, .ro, false⟩]⟩
  | .MC_CNT_LADDER_WON => ⟨0x2A0, 0, 1, true, false, [⟨.MC_CNT_LADDER_WON, 63, 0, .ro, false⟩]⟩
  | .MC_CNT_HEDGE_WON => ⟨0x2A8, 0, 1, true, false, [⟨.MC_CNT_HEDGE_WON, 63, 0, .ro, false⟩]⟩
  | .MC_CNT_CMD_MAX => ⟨0x2B0, 0, 1, true, false, [⟨.MC_CNT_CMD_MAX, 63, 0, .ro, false⟩]⟩
  | .MC_CNT_RECOVERED => ⟨0x2B8, 0, 1, true, false, [⟨.MC_CNT_RECOVERED, 63, 0, .ro, false⟩]⟩
  | .MC_CNT_LOST => ⟨0x2C0, 0, 1, true, false, [⟨.MC_CNT_LOST, 63, 0, .ro, false⟩]⟩
  | .MC_CNT_REFRESH => ⟨0x2C8, 0, 1, true, false, [⟨.MC_CNT_REFRESH, 63, 0, .ro, false⟩]⟩
  | .CHP_ECC_CTL => ⟨0x100, 0, 1, false, false, [⟨.CHP_ECC_CTL_LOG_CLEAR, 8, 8, .w1s, false⟩, ⟨.CHP_ECC_CTL_SCRUB_EN, 5, 0, .rw, true⟩]⟩
  | .CHP_ECC_STS => ⟨0x104, 0, 1, false, false, [⟨.CHP_ECC_STS_UE, 5, 0, .w1c, false⟩]⟩
  | .CHP_ECC_LSEL => ⟨0x108, 0, 1, false, false, [⟨.CHP_ECC_LSEL_ENTRY, 3, 0, .rw, false⟩]⟩
  | .CHP_ECC_LOGB => ⟨0x118, 0, 1, false, false, [⟨.CHP_ECC_LOGB_VALID, 31, 31, .ro, false⟩,
      ⟨.CHP_ECC_LOGB_MEM, 30, 28, .ro, false⟩,
      ⟨.CHP_ECC_LOGB_BIT, 27, 18, .ro, false⟩,
      ⟨.CHP_ECC_LOGB_COUNT, 15, 0, .ro, false⟩]⟩
  | .CX_CAP => ⟨0x0, 0, 1, false, false, [⟨.CX_CAP_DEC_ENG, 31, 24, .ro, false⟩,
      ⟨.CX_CAP_COMP_ENG, 23, 20, .ro, false⟩,
      ⟨.CX_CAP_DICT_MAX, 19, 8, .ro, false⟩,
      ⟨.CX_CAP_FRAME_LOG2, 7, 4, .ro, false⟩,
      ⟨.CX_CAP_FORMATS, 3, 0, .ro, false⟩]⟩
  | .CX_CTL => ⟨0x4, 0, 1, false, false, [⟨.CX_CTL_STEAL, 8, 8, .rw, true⟩, ⟨.CX_CTL_FMT_EN, 3, 0, .rw, true⟩]⟩
  | .CX_STS => ⟨0x8, 0, 1, false, false, [⟨.CX_STS_DICTS, 26, 16, .ro, false⟩,
      ⟨.CX_STS_DEC_BUSY, 15, 8, .ro, false⟩,
      ⟨.CX_STS_COMP_BUSY, 3, 0, .ro, false⟩]⟩
  | .CX_DICT_CMD => ⟨0x40, 0, 1, false, true, [⟨.CX_DICT_CMD_GO, 31, 31, .w1s, false⟩,
      ⟨.CX_DICT_CMD_OP, 27, 26, .rw, false⟩,
      ⟨.CX_DICT_CMD_UNITS, 21, 16, .rw, false⟩,
      ⟨.CX_DICT_CMD_NODE, 11, 0, .rw, false⟩]⟩
  | .CX_DICT_STS => ⟨0x50, 0, 1, false, true, [⟨.CX_DICT_STS_REASON, 15, 8, .ro, false⟩, ⟨.CX_DICT_STS_STATE, 3, 0, .ro, false⟩]⟩
  | .CX_DICT_SEL => ⟨0x58, 0, 1, false, true, [⟨.CX_DICT_SEL_NODE, 11, 0, .rw, false⟩]⟩
  | .CX_DICT_INFO => ⟨0x5C, 0, 1, false, false, [⟨.CX_DICT_INFO_HELD, 31, 31, .ro, false⟩, ⟨.CX_DICT_INFO_SIZE, 17, 0, .ro, false⟩]⟩
  | .CX_DICT_ID => ⟨0x60, 0, 1, false, false, [⟨.CX_DICT_ID_ID, 31, 0, .ro, false⟩]⟩
  | .CX_ENG_STS => ⟨0x100, 4, 40, false, false, [⟨.CX_ENG_STS_LAST, 27, 24, .ro, false⟩,
      ⟨.CX_ENG_STS_CLUSTER, 15, 12, .ro, false⟩,
      ⟨.CX_ENG_STS_CLASS, 11, 10, .ro, false⟩,
      ⟨.CX_ENG_STS_FORMAT, 7, 4, .ro, false⟩,
      ⟨.CX_ENG_STS_STATE, 3, 0, .ro, false⟩]⟩
  | .CX_CNT_DEC_BLOCKS => ⟨0x200, 0, 1, true, false, [⟨.CX_CNT_DEC_BLOCKS, 63, 0, .ro, false⟩]⟩
  | .CX_CNT_DEC_BYTES => ⟨0x208, 0, 1, true, false, [⟨.CX_CNT_DEC_BYTES, 63, 0, .ro, false⟩]⟩
  | .CX_CNT_CHECK_FAIL => ⟨0x210, 0, 1, true, false, [⟨.CX_CNT_CHECK_FAIL, 63, 0, .ro, false⟩]⟩
  | .CX_CNT_CHECK_MISMATCH => ⟨0x218, 0, 1, true, false, [⟨.CX_CNT_CHECK_MISMATCH, 63, 0, .ro, false⟩]⟩
  | .CX_CNT_DECODE_ERR => ⟨0x220, 0, 1, true, false, [⟨.CX_CNT_DECODE_ERR, 63, 0, .ro, false⟩]⟩
  | .CX_CNT_PACK_BLOCKS => ⟨0x228, 0, 1, true, false, [⟨.CX_CNT_PACK_BLOCKS, 63, 0, .ro, false⟩]⟩
  | .CX_CNT_NOSHRINK => ⟨0x230, 0, 1, true, false, [⟨.CX_CNT_NOSHRINK, 63, 0, .ro, false⟩]⟩
  | .CX_CNT_SELFCHECK => ⟨0x238, 0, 1, true, false, [⟨.CX_CNT_SELFCHECK, 63, 0, .ro, false⟩]⟩
  | .CX_CNT_STEAL => ⟨0x240, 0, 1, true, false, [⟨.CX_CNT_STEAL, 63, 0, .ro, false⟩]⟩
  | .SEC_STS => ⟨0x0, 0, 1, false, false, [⟨.SEC_STS_VBAT_LOST, 4, 4, .w1c, false⟩,
      ⟨.SEC_STS_TIME_TRUSTED, 3, 3, .ro, false⟩,
      ⟨.SEC_STS_KEYED, 1, 1, .ro, false⟩,
      ⟨.SEC_STS_OWNER, 0, 0, .ro, false⟩]⟩
  | .SEC_MBX_CMD => ⟨0x20, 0, 1, false, false, [⟨.SEC_MBX_CMD_GO, 31, 31, .w1s, false⟩,
      ⟨.SEC_MBX_CMD_IRQ_EN, 30, 30, .rw, false⟩,
      ⟨.SEC_MBX_CMD_VECTOR, 26, 16, .rw, false⟩,
      ⟨.SEC_MBX_CMD_LEN, 12, 0, .rw, false⟩]⟩
  | .SEC_MBX_STS => ⟨0x24, 0, 1, false, false, [⟨.SEC_MBX_STS_RESULT, 15, 8, .ro, false⟩, ⟨.SEC_MBX_STS_STATE, 3, 0, .ro, false⟩]⟩
  | .SEC_PM_CMD => ⟨0x100, 0, 1, false, true, [⟨.SEC_PM_CMD_GO, 31, 31, .w1s, false⟩,
      ⟨.SEC_PM_CMD_FENCE, 30, 30, .rw, false⟩,
      ⟨.SEC_PM_CMD_COUNT, 6, 0, .rw, false⟩]⟩
  | .SEC_PM_RESULT => ⟨0x110, 0, 1, false, true, [⟨.SEC_PM_RESULT_SKIPPED, 23, 16, .ro, false⟩,
      ⟨.SEC_PM_RESULT_REASON, 15, 8, .ro, false⟩,
      ⟨.SEC_PM_RESULT_STATE, 3, 0, .ro, false⟩]⟩
  | .SEC_PM_STS => ⟨0x118, 0, 1, false, false, [⟨.SEC_PM_STS_ARMED, 20, 16, .ro, false⟩, ⟨.SEC_PM_STS_ENTRIES, 14, 0, .ro, false⟩]⟩
  | .SEC_PM_QSEL => ⟨0x120, 0, 1, false, true, [⟨.SEC_PM_QSEL_FN, 20, 12, .rw, false⟩, ⟨.SEC_PM_QSEL_NODE, 11, 0, .rw, false⟩]⟩
  | .SEC_PM_QRES => ⟨0x124, 0, 1, false, false, [⟨.SEC_PM_QRES_OWNER, 5, 5, .ro, false⟩,
      ⟨.SEC_PM_QRES_SPECIFIC, 4, 4, .ro, false⟩,
      ⟨.SEC_PM_QRES_RIGHTS, 3, 0, .ro, false⟩]⟩
  | .SEC_PM_STAGE => ⟨0x1000, 4, 64, false, true, [⟨.SEC_PM_STAGE_RIGHTS, 29, 26, .rw, false⟩,
      ⟨.SEC_PM_STAGE_ALL_NODES, 25, 25, .rw, false⟩,
      ⟨.SEC_PM_STAGE_FN, 20, 12, .rw, false⟩,
      ⟨.SEC_PM_STAGE_NODE, 11, 0, .rw, false⟩]⟩
  | .SEC_KEY_SEL => ⟨0x200, 0, 1, false, true, [⟨.SEC_KEY_SEL_NODE, 11, 0, .rw, false⟩]⟩
  | .SEC_KEY_STS => ⟨0x204, 0, 1, false, false, [⟨.SEC_KEY_STS_EXPIRING, 5, 5, .ro, false⟩,
      ⟨.SEC_KEY_STS_LICENCE, 4, 3, .ro, false⟩,
      ⟨.SEC_KEY_STS_SOURCE, 2, 2, .ro, false⟩,
      ⟨.SEC_KEY_STS_LOADED, 0, 0, .ro, false⟩]⟩
  | .SEC_CNT_DENIED => ⟨0x300, 0, 1, true, false, [⟨.SEC_CNT_DENIED, 63, 0, .ro, false⟩]⟩
  | .SEC_CNT_REVOKED => ⟨0x308, 0, 1, true, false, [⟨.SEC_CNT_REVOKED, 63, 0, .ro, false⟩]⟩
  | .SEC_CNT_MBX => ⟨0x310, 0, 1, true, false, [⟨.SEC_CNT_MBX, 63, 0, .ro, false⟩]⟩
  | .SEC_CNT_LIC_CLOSE => ⟨0x318, 0, 1, true, false, [⟨.SEC_CNT_LIC_CLOSE, 63, 0, .ro, false⟩]⟩
  | .PM_MODE => ⟨0x0, 0, 1, false, false, [⟨.PM_MODE_CAUSE, 15, 12, .ro, false⟩,
      ⟨.PM_MODE_MOVE, 9, 8, .ro, false⟩,
      ⟨.PM_MODE_TARGET, 6, 4, .ro, false⟩,
      ⟨.PM_MODE_MODE, 2, 0, .ro, false⟩]⟩
  | .PM_CTL => ⟨0x4, 0, 1, false, false, [⟨.PM_CTL_REGATE_US, 31, 24, .rw, true⟩,
      ⟨.PM_CTL_IDLE_US, 23, 12, .rw, true⟩,
      ⟨.PM_CTL_FLOOR, 10, 8, .ro, false⟩,
      ⟨.PM_CTL_IDLE_MODE, 6, 4, .rw, true⟩]⟩
  | .PM_CMD => ⟨0x8, 0, 1, false, true, [⟨.PM_CMD_GO, 31, 31, .w1s, false⟩,
      ⟨.PM_CMD_USE_TICK, 30, 30, .rw, false⟩,
      ⟨.PM_CMD_ARG, 6, 4, .rw, false⟩,
      ⟨.PM_CMD_OP, 3, 0, .rw, false⟩]⟩
  | .PM_CMD_STS => ⟨0x18, 0, 1, false, true, [⟨.PM_CMD_STS_REASON, 15, 8, .ro, false⟩, ⟨.PM_CMD_STS_STATE, 3, 0, .ro, false⟩]⟩
  | .PM_THR_CFG => ⟨0x20, 0, 1, false, false, [⟨.PM_THR_CFG_STEP, 15, 8, .rw, true⟩, ⟨.PM_THR_CFG_S_MIN, 7, 0, .rw, true⟩]⟩
  | .PM_PCAP => ⟨0x24, 0, 1, false, false, [⟨.PM_PCAP_BASE, 15, 8, .rw, true⟩, ⟨.PM_PCAP_CAP, 7, 0, .rw, true⟩]⟩
  | .PM_THR_STS => ⟨0x28, 0, 1, false, false, [⟨.PM_THR_STS_S, 26, 18, .ro, false⟩,
      ⟨.PM_THR_STS_S_T, 17, 9, .ro, false⟩,
      ⟨.PM_THR_STS_S_P, 8, 0, .ro, false⟩]⟩
  | .PM_PATROL_CFG => ⟨0x40, 0, 1, false, false, [⟨.PM_PATROL_CFG_PERIOD, 25, 16, .rw, true⟩,
      ⟨.PM_PATROL_CFG_ERR_EN, 1, 1, .rw, true⟩,
      ⟨.PM_PATROL_CFG_WAKE_EN, 0, 0, .rw, true⟩]⟩
  | .PM_PATROL_STS => ⟨0x50, 0, 1, false, false, [⟨.PM_PATROL_STS_ROUNDS, 31, 16, .ro, false⟩,
      ⟨.PM_PATROL_STS_VIOLATIONS, 15, 8, .ro, false⟩,
      ⟨.PM_PATROL_STS_NEXT, 2, 0, .ro, false⟩]⟩
  | .PM_LOG_STS => ⟨0x60, 0, 1, false, false, [⟨.PM_LOG_STS_WRAPPED, 4, 4, .ro, false⟩, ⟨.PM_LOG_STS_NEXT, 3, 0, .ro, false⟩]⟩
  | .PM_CNT_REFUSED => ⟨0x80, 0, 1, true, false, [⟨.PM_CNT_REFUSED, 63, 0, .ro, false⟩]⟩
  | .PM_CNT_ABORTED => ⟨0x88, 0, 1, true, false, [⟨.PM_CNT_ABORTED, 63, 0, .ro, false⟩]⟩
  | .PM_CNT_ENTRIES => ⟨0x90, 0, 1, true, false, [⟨.PM_CNT_ENTRIES, 63, 0, .ro, false⟩]⟩
  | .PM_CNT_THROTTLE_TICKS => ⟨0x98, 0, 1, true, false, [⟨.PM_CNT_THROTTLE_TICKS, 63, 0, .ro, false⟩]⟩
  | .HU_CTL => ⟨0x0, 0, 1, false, false, [⟨.HU_CTL_PRESENT, 31, 31, .ro, false⟩,
      ⟨.HU_CTL_TSENS, 10, 8, .rw, true⟩,
      ⟨.HU_CTL_TEST_NOW, 0, 0, .w1s, false⟩]⟩
  | .HU_STS => ⟨0x4, 0, 1, false, false, [⟨.HU_STS_ZERO_WINDOW, 10, 10, .ro, false⟩,
      ⟨.HU_STS_ZERO_ENERGY, 9, 9, .ro, false⟩,
      ⟨.HU_STS_FAULT, 7, 4, .ro, false⟩,
      ⟨.HU_STS_STATE, 3, 0, .ro, false⟩]⟩
  | .HU_CHG_CFG => ⟨0x8, 0, 1, false, false, [⟨.HU_CHG_CFG_V_MAX, 20, 12, .rw, true⟩, ⟨.HU_CHG_CFG_I_IN_MAX, 11, 0, .rw, true⟩]⟩
  | .HU_REL_CFG => ⟨0xC, 0, 1, false, false, [⟨.HU_REL_CFG_ETA, 31, 24, .rw, true⟩,
      ⟨.HU_REL_CFG_V_MIN, 21, 12, .rw, true⟩,
      ⟨.HU_REL_CFG_I_BANK_MAX, 9, 0, .rw, true⟩]⟩
  | .HU_E_CEIL => ⟨0x10, 0, 1, false, false, [⟨.HU_E_CEIL_FUSE_MAX, 31, 16, .ro, false⟩, ⟨.HU_E_CEIL_CEIL, 15, 0, .rw, true⟩]⟩
  | .HU_WIN => ⟨0x14, 0, 1, false, false, [⟨.HU_WIN_CHG_LO, 31, 24, .rw, true⟩,
      ⟨.HU_WIN_CHG_HI, 23, 16, .rw, true⟩,
      ⟨.HU_WIN_MARGIN, 7, 0, .rw, true⟩]⟩
  | .HU_ALLOW_CFG => ⟨0x18, 0, 1, false, false, [⟨.HU_ALLOW_CFG_E_FIXED, 31, 18, .rw, true⟩, ⟨.HU_ALLOW_CFG_E_BYTE, 17, 5, .rw, true⟩]⟩
  | .HU_TEST_CFG => ⟨0x1C, 0, 1, false, false, [⟨.HU_TEST_CFG_INTERVAL, 31, 24, .rw, true⟩,
      ⟨.HU_TEST_CFG_DT, 23, 16, .rw, true⟩,
      ⟨.HU_TEST_CFG_I_TEST, 11, 0, .rw, true⟩]⟩
  | .HU_FLUSH_CFG => ⟨0x20, 0, 1, false, false, [⟨.HU_FLUSH_CFG_DIES, 10, 0, .rw, true⟩]⟩
  | .HU_MEAS0 => ⟨0x24, 0, 1, false, false, [⟨.HU_MEAS0_V_BANK, 31, 16, .ro, false⟩, ⟨.HU_MEAS0_T_BANK, 7, 0, .ro, false⟩]⟩
  | .HU_MEAS1 => ⟨0x28, 0, 1, false, false, [⟨.HU_MEAS1_C_MEAS, 31, 12, .ro, false⟩, ⟨.HU_MEAS1_ESR, 11, 0, .ro, false⟩]⟩
  | .HU_MEAS2 => ⟨0x2C, 0, 1, false, false, [⟨.HU_MEAS2_E_AVAIL, 31, 16, .ro, false⟩, ⟨.HU_MEAS2_V_TARGET, 8, 0, .ro, false⟩]⟩
  | .HU_LAST => ⟨0x40, 0, 1, false, false, [⟨.HU_LAST_OUTCOME, 31, 28, .ro, false⟩,
      ⟨.HU_LAST_TRIGGER, 27, 24, .ro, false⟩,
      ⟨.HU_LAST_DURATION, 23, 0, .ro, false⟩]⟩
  | .HU_CNT_HOLDUP => ⟨0x80, 0, 1, true, false, [⟨.HU_CNT_HOLDUP, 63, 0, .ro, false⟩]⟩
  | .HU_CNT_TESTS => ⟨0x88, 0, 1, true, false, [⟨.HU_CNT_TESTS, 63, 0, .ro, false⟩]⟩
  | .HU_CNT_FLUSH_BYTES => ⟨0x90, 0, 1, true, false, [⟨.HU_CNT_FLUSH_BYTES, 63, 0, .ro, false⟩]⟩
  | .HU_CNT_ACK_PROG => ⟨0x98, 0, 1, true, false, [⟨.HU_CNT_ACK_PROG, 63, 0, .ro, false⟩]⟩
  | .HK_CFG => ⟨0x0, 0, 1, false, false, [⟨.HK_CFG_PERIOD, 7, 0, .rw, true⟩]⟩
  | .HK_STS => ⟨0x4, 0, 1, false, false, [⟨.HK_STS_HOT, 19, 16, .ro, false⟩,
      ⟨.HK_STS_AVS_FAULT, 7, 7, .w1c, false⟩,
      ⟨.HK_STS_SENSOR_FAULT, 6, 6, .w1c, false⟩,
      ⟨.HK_STS_SHUT_SEEN, 5, 5, .w1c, false⟩,
      ⟨.HK_STS_THROTTLING, 4, 4, .ro, false⟩,
      ⟨.HK_STS_WARN, 3, 3, .ro, false⟩]⟩
  | .HK_TJ_THR => ⟨0x8, 0, 1, false, false, [⟨.HK_TJ_THR_HYST, 27, 24, .rw, true⟩,
      ⟨.HK_TJ_THR_SHUT, 23, 16, .rw, true⟩,
      ⟨.HK_TJ_THR_THROT, 15, 8, .rw, true⟩,
      ⟨.HK_TJ_THR_WARN, 7, 0, .rw, true⟩]⟩
  | .HK_WWIN => ⟨0xC, 0, 1, false, false, [⟨.HK_WWIN_FUSE_HI, 31, 24, .ro, false⟩,
      ⟨.HK_WWIN_FUSE_LO, 23, 16, .ro, false⟩,
      ⟨.HK_WWIN_HI, 15, 8, .rw, true⟩,
      ⟨.HK_WWIN_LO, 7, 0, .rw, true⟩]⟩
  | .HK_AVS_CFG0 => ⟨0x20, 0, 1, false, false, [⟨.HK_AVS_CFG0_F_TARGET, 31, 16, .rw, true⟩,
      ⟨.HK_AVS_CFG0_DEADBAND, 15, 8, .rw, true⟩,
      ⟨.HK_AVS_CFG0_EN, 0, 0, .rw, true⟩]⟩
  | .HK_AVS_CFG1 => ⟨0x24, 0, 1, false, false, [⟨.HK_AVS_CFG1_V_MAX, 25, 16, .rw, true⟩, ⟨.HK_AVS_CFG1_V_MIN, 9, 0, .rw, true⟩]⟩
  | .HK_AVS_STS => ⟨0x28, 0, 1, false, false, [⟨.HK_AVS_STS_TARGET, 25, 16, .ro, false⟩, ⟨.HK_AVS_STS_F_SLOW, 15, 0, .ro, false⟩]⟩
  | .HK_RD_CFG => ⟨0x40, 4, 8, false, false, [⟨.HK_RD_CFG_EN, 8, 8, .rw, true⟩, ⟨.HK_RD_CFG_NF, 5, 0, .rw, true⟩]⟩
  | .HK_VAL => ⟨0x100, 4, 48, false, false, [⟨.HK_VAL_BELOW, 27, 27, .ro, false⟩,
      ⟨.HK_VAL_ABOVE, 26, 26, .ro, false⟩,
      ⟨.HK_VAL_VALID, 24, 24, .ro, false⟩,
      ⟨.HK_VAL_AGE, 23, 16, .ro, false⟩,
      ⟨.HK_VAL_VALUE, 15, 0, .ro, false⟩]⟩
  | .HK_WIN => ⟨0x200, 4, 48, false, false, [⟨.HK_WIN_HI, 31, 16, .rw, true⟩, ⟨.HK_WIN_LO, 15, 0, .rw, true⟩]⟩
  | .HK_CNT_WARN => ⟨0x300, 0, 1, true, false, [⟨.HK_CNT_WARN, 63, 0, .ro, false⟩]⟩
  | .HK_CNT_THR_ROUNDS => ⟨0x308, 0, 1, true, false, [⟨.HK_CNT_THR_ROUNDS, 63, 0, .ro, false⟩]⟩
  | .HK_CNT_OOW => ⟨0x310, 0, 1, true, false, [⟨.HK_CNT_OOW, 63, 0, .ro, false⟩]⟩
  | .HK_CNT_AVS_STEPS => ⟨0x318, 0, 1, true, false, [⟨.HK_CNT_AVS_STEPS, 63, 0, .ro, false⟩]⟩
  | .CAL_STS => ⟨0x0, 0, 1, false, false, [⟨.CAL_STS_SET_REFUSED, 7, 7, .w1c, false⟩,
      ⟨.CAL_STS_ALARM1, 6, 6, .w1c, false⟩,
      ⟨.CAL_STS_ALARM0, 5, 5, .w1c, false⟩,
      ⟨.CAL_STS_VBAT_LOW, 4, 4, .ro, false⟩,
      ⟨.CAL_STS_OSC_STOP, 3, 3, .w1c, false⟩,
      ⟨.CAL_STS_VBAT_LOST, 2, 2, .w1c, false⟩,
      ⟨.CAL_STS_WARDEN_SET, 1, 1, .ro, false⟩,
      ⟨.CAL_STS_VALID, 0, 0, .ro, false⟩]⟩
  | .CAL_CMD => ⟨0x4, 0, 1, false, false, [⟨.CAL_CMD_SET, 0, 0, .w1s, false⟩]⟩
  | .CAL_TRIM => ⟨0x18, 0, 1, false, false, [⟨.CAL_TRIM_TRIM, 8, 0, .rw, false⟩]⟩
  | .CAL_BCD0 => ⟨0x20, 0, 1, false, false, [⟨.CAL_BCD0_WEEKDAY, 26, 24, .ro, false⟩,
      ⟨.CAL_BCD0_HOUR, 21, 16, .ro, false⟩,
      ⟨.CAL_BCD0_MINUTE, 14, 8, .ro, false⟩,
      ⟨.CAL_BCD0_SECOND, 6, 0, .ro, false⟩]⟩
  | .CAL_BCD1 => ⟨0x24, 0, 1, false, false, [⟨.CAL_BCD1_YEAR, 31, 16, .ro, false⟩,
      ⟨.CAL_BCD1_MONTH, 12, 8, .ro, false⟩,
      ⟨.CAL_BCD1_DAY, 5, 0, .ro, false⟩]⟩
  | .CAL_ALM_CTL => ⟨0x40, 0, 1, false, false, [⟨.CAL_ALM_CTL_WAKE1, 3, 3, .rw, false⟩,
      ⟨.CAL_ALM_CTL_WAKE0, 2, 2, .rw, false⟩,
      ⟨.CAL_ALM_CTL_EN1, 1, 1, .rw, false⟩,
      ⟨.CAL_ALM_CTL_EN0, 0, 0, .rw, false⟩]⟩
  | .FC_CTL => ⟨0x0, 0, 1, false, false, [⟨.FC_CTL_IRQ_EN, 31, 31, .rw, true⟩,
      ⟨.FC_CTL_VECTOR, 26, 16, .rw, true⟩,
      ⟨.FC_CTL_ESC_MAX, 10, 8, .rw, true⟩]⟩
  | .FC_STS => ⟨0x4, 0, 1, false, false, [⟨.FC_STS_CR_VALID, 31, 31, .w1c, false⟩,
      ⟨.FC_STS_CR_SRC, 24, 16, .ro, false⟩,
      ⟨.FC_STS_ERR_N, 0, 0, .ro, false⟩]⟩
  | .FC_COMPAT_STS => ⟨0x8, 0, 1, false, false, [⟨.FC_COMPAT_STS_FATAL, 2, 2, .ro, false⟩,
      ⟨.FC_COMPAT_STS_UC, 1, 1, .ro, false⟩,
      ⟨.FC_COMPAT_STS_CE, 0, 0, .ro, false⟩]⟩
  | .FC_STICKY => ⟨0x100, 4, 10, false, false, []⟩
  | .FC_SEVERE => ⟨0x140, 4, 10, false, false, []⟩
  | .FC_UNACK => ⟨0x180, 4, 10, false, false, []⟩
  | .FC_SEL => ⟨0x200, 0, 1, false, true, [⟨.FC_SEL_SOURCE, 8, 0, .rw, false⟩]⟩
  | .FC_SRC_CFG => ⟨0x204, 0, 1, false, false, [⟨.FC_SRC_CFG_OWNER, 21, 16, .ro, false⟩,
      ⟨.FC_SRC_CFG_KIND, 14, 14, .ro, false⟩,
      ⟨.FC_SRC_CFG_CLASS, 13, 12, .ro, false⟩,
      ⟨.FC_SRC_CFG_ERR_EN, 11, 11, .rw, true⟩,
      ⟨.FC_SRC_CFG_REACT, 10, 8, .rw, true⟩,
      ⟨.FC_SRC_CFG_N, 7, 0, .rw, true⟩]⟩
  | .FC_SRC_WIN => ⟨0x208, 0, 1, false, false, [⟨.FC_SRC_WIN_W, 31, 0, .rw, true⟩]⟩
  | .FC_SRC_STATE => ⟨0x20C, 0, 1, false, false, [⟨.FC_SRC_STATE_LAST_REACT, 10, 8, .ro, false⟩,
      ⟨.FC_SRC_STATE_ESCALATED, 7, 7, .ro, false⟩,
      ⟨.FC_SRC_STATE_HELD, 6, 6, .ro, false⟩,
      ⟨.FC_SRC_STATE_UNACK, 2, 2, .ro, false⟩,
      ⟨.FC_SRC_STATE_SEVERE, 1, 1, .ro, false⟩,
      ⟨.FC_SRC_STATE_STICKY, 0, 0, .ro, false⟩]⟩
  | .FC_SRC_WCNT => ⟨0x210, 0, 1, false, false, [⟨.FC_SRC_WCNT_WCNT, 31, 0, .ro, false⟩]⟩
  | .FC_SRC_DETAIL => ⟨0x214, 0, 1, false, false, [⟨.FC_SRC_DETAIL_UNIT, 31, 12, .ro, false⟩, ⟨.FC_SRC_DETAIL_VALUE, 11, 0, .ro, false⟩]⟩
  | .FC_CNT_CE => ⟨0x300, 0, 1, true, false, [⟨.FC_CNT_CE, 63, 0, .ro, false⟩]⟩
  | .FC_CNT_UC => ⟨0x308, 0, 1, true, false, [⟨.FC_CNT_UC, 63, 0, .ro, false⟩]⟩
  | .FC_CNT_FATAL => ⟨0x310, 0, 1, true, false, [⟨.FC_CNT_FATAL, 63, 0, .ro, false⟩]⟩
  | .FC_CNT_ESCALATED => ⟨0x318, 0, 1, true, false, [⟨.FC_CNT_ESCALATED, 63, 0, .ro, false⟩]⟩
  | .FC_CNT_CHIPRESET => ⟨0x320, 0, 1, true, false, [⟨.FC_CNT_CHIPRESET, 63, 0, .ro, false⟩]⟩
  | .ER_CTL => ⟨0x0, 0, 1, false, false, [⟨.ER_CTL_CLEAR, 31, 31, .w1s, false⟩,
      ⟨.ER_CTL_FREEZE_MAX, 23, 16, .rw, false⟩,
      ⟨.ER_CTL_ENABLE, 0, 0, .rw, false⟩]⟩
  | .ER_STS => ⟨0x4, 0, 1, false, false, [⟨.ER_STS_CLEAR_PENDING, 3, 3, .ro, false⟩,
      ⟨.ER_STS_FREEZE_TIMEOUT, 2, 2, .w1c, false⟩,
      ⟨.ER_STS_FROZEN, 1, 1, .ro, false⟩,
      ⟨.ER_STS_ENABLED, 0, 0, .ro, false⟩]⟩
  | .ER_FREEZE => ⟨0x8, 0, 1, false, true, [⟨.ER_FREEZE_FREEZE, 0, 0, .rw, false⟩]⟩
  | .ER_CURSOR => ⟨0xC, 0, 1, false, true, [⟨.ER_CURSOR_PAGE, 2, 0, .rw, false⟩]⟩
  | .ER_HSEL => ⟨0x10, 0, 1, false, true, [⟨.ER_HSEL_ID, 5, 0, .rw, false⟩]⟩
  | .ER_HCFG => ⟨0x14, 0, 1, false, false, [⟨.ER_HCFG_EN, 31, 31, .rw, false⟩,
      ⟨.ER_HCFG_LOG2, 7, 7, .rw, false⟩,
      ⟨.ER_HCFG_UNIT, 6, 0, .ro, false⟩]⟩
  | .ER_HLOWER => ⟨0x18, 0, 1, false, false, [⟨.ER_HLOWER_LOWER, 31, 0, .rw, false⟩]⟩
  | .ER_HWIDTH => ⟨0x1C, 0, 1, false, false, [⟨.ER_HWIDTH_WIDTH, 31, 0, .rw, false⟩]⟩
  | .FW_CAP => ⟨0x0, 0, 1, false, false, [⟨.FW_CAP_PKG_MAX, 23, 16, .ro, false⟩,
      ⟨.FW_CAP_KEYS, 15, 8, .ro, false⟩,
      ⟨.FW_CAP_SLOTS, 7, 0, .ro, false⟩]⟩
  | .FW_STS => ⟨0x4, 0, 1, false, false, [⟨.FW_STS_WAITING, 11, 11, .ro, false⟩,
      ⟨.FW_STS_COMMIT_BUSY, 10, 10, .ro, false⟩,
      ⟨.FW_STS_PENDING_RESET, 9, 9, .ro, false⟩,
      ⟨.FW_STS_ROLL_CLUSTER, 7, 4, .ro, false⟩,
      ⟨.FW_STS_ACT_STATE, 3, 0, .ro, false⟩]⟩
  | .FW_ACTIVE => ⟨0x8, 0, 1, false, false, [⟨.FW_ACTIVE_ARMED, 10, 8, .ro, false⟩,
      ⟨.FW_ACTIVE_NEXT_RESET, 6, 4, .ro, false⟩,
      ⟨.FW_ACTIVE_RUNNING, 2, 0, .ro, false⟩]⟩
  | .FW_SLOT => ⟨0x10, 4, 4, false, false, [⟨.FW_SLOT_VALID, 31, 31, .ro, false⟩,
      ⟨.FW_SLOT_BOOTABLE, 30, 30, .ro, false⟩,
      ⟨.FW_SLOT_RESET_PKG, 29, 29, .ro, false⟩,
      ⟨.FW_SLOT_ADVANCE, 28, 28, .ro, false⟩,
      ⟨.FW_SLOT_CLUSTER_IF, 15, 0, .ro, false⟩]⟩
  | .FW_LAST => ⟨0x40, 0, 1, false, false, [⟨.FW_LAST_COMPONENT, 19, 16, .ro, false⟩,
      ⟨.FW_LAST_CLUSTER, 15, 12, .ro, false⟩,
      ⟨.FW_LAST_SLOT, 11, 8, .ro, false⟩,
      ⟨.FW_LAST_CODE, 7, 0, .ro, false⟩]⟩
  | .FW_CNT_COMMITS => ⟨0x80, 0, 1, true, false, [⟨.FW_CNT_COMMITS, 63, 0, .ro, false⟩]⟩
  | .FW_CNT_ACTIVATIONS => ⟨0x88, 0, 1, true, false, [⟨.FW_CNT_ACTIVATIONS, 63, 0, .ro, false⟩]⟩
  | .FW_CNT_REVERTS => ⟨0x90, 0, 1, true, false, [⟨.FW_CNT_REVERTS, 63, 0, .ro, false⟩]⟩
  | .CHP_BOOT_STS => ⟨0x200, 0, 1, false, false, [⟨.CHP_BOOT_STS_FAILED_COPIES, 22, 20, .ro, false⟩,
      ⟨.CHP_BOOT_STS_SOURCE, 19, 16, .ro, false⟩,
      ⟨.CHP_BOOT_STS_SLOT, 11, 8, .ro, false⟩,
      ⟨.CHP_BOOT_STS_PHASE, 7, 4, .ro, false⟩,
      ⟨.CHP_BOOT_STS_RESULT, 3, 0, .ro, false⟩]⟩
  | .CHP_BOOT_TIME => ⟨0x204, 0, 1, false, false, [⟨.CHP_BOOT_TIME_REPLAY_MS, 31, 20, .ro, false⟩, ⟨.CHP_BOOT_TIME_READY_MS, 19, 0, .ro, false⟩]⟩
  | .CHP_RST_CAUSE => ⟨0x208, 0, 1, false, false, [⟨.CHP_RST_CAUSE_LEVEL, 11, 8, .ro, false⟩, ⟨.CHP_RST_CAUSE_SOURCE, 7, 0, .ro, false⟩]⟩
  | .UCB_RESET_TICK => ⟨0x28, 0, 1, true, false, [⟨.UCB_RESET_TICK, 63, 0, .rw, false⟩]⟩
  | .UCB_POWER_TICK => ⟨0x38, 0, 1, true, false, [⟨.UCB_POWER_TICK, 63, 0, .rw, false⟩]⟩
  | .CHP_CTL_TICK => ⟨0x48, 0, 1, true, false, [⟨.CHP_CTL_TICK, 63, 0, .rw, true⟩]⟩
  | .CHP_ECC_LOGA => ⟨0x110, 0, 1, true, false, [⟨.CHP_ECC_LOGA, 63, 0, .ro, false⟩]⟩
  | .CHP_ECC_LOGT => ⟨0x120, 0, 1, true, false, [⟨.CHP_ECC_LOGT, 63, 0, .ro, false⟩]⟩
  | .CHP_ECC_CE => ⟨0x140, 8, 6, true, false, [⟨.CHP_ECC_CE, 63, 0, .ro, false⟩]⟩
  | .CHP_ECC_LAP => ⟨0x180, 4, 6, false, false, [⟨.CHP_ECC_LAP, 31, 0, .ro, false⟩]⟩
  | .TK_NEXT_TICK => ⟨0x10, 0, 1, true, false, [⟨.TK_NEXT_TICK, 63, 0, .rw, true⟩]⟩
  | .TK_COUNT => ⟨0x20, 0, 1, true, false, [⟨.TK_COUNT, 63, 0, .ro, false⟩]⟩
  | .TK_PTM_EPOCH => ⟨0x38, 0, 1, true, false, [⟨.TK_PTM_EPOCH, 63, 0, .rw, true⟩]⟩
  | .TK_BUDGET_EFF0 => ⟨0x4C, 0, 1, false, false, [⟨.TK_BUDGET_EFF0, 31, 0, .ro, false⟩]⟩
  | .TK_BUDGET_EFF1 => ⟨0x50, 0, 1, false, false, [⟨.TK_BUDGET_EFF1, 31, 0, .ro, false⟩]⟩
  | .TK_OVR_CNT => ⟨0x58, 0, 1, true, false, [⟨.TK_OVR_CNT, 63, 0, .ro, false⟩]⟩
  | .TK_OVR_LAST => ⟨0x60, 0, 1, true, false, [⟨.TK_OVR_LAST, 63, 0, .ro, false⟩]⟩
  | .TK_JUMP_FROM => ⟨0x68, 0, 1, true, false, [⟨.TK_JUMP_FROM, 63, 0, .ro, false⟩]⟩
  | .TK_CANCEL => ⟨0x70, 0, 1, true, false, [⟨.TK_CANCEL, 63, 0, .wo, true⟩]⟩
  | .TK_SNAP_COUNT => ⟨0x88, 0, 1, true, false, [⟨.TK_SNAP_COUNT, 63, 0, .ro, false⟩]⟩
  | .TK_SNAP_PHASE => ⟨0x90, 0, 1, false, false, [⟨.TK_SNAP_PHASE, 31, 0, .ro, false⟩]⟩
  | .TK_SNAP_CAL => ⟨0x98, 0, 1, true, false, [⟨.TK_SNAP_CAL, 63, 0, .ro, false⟩]⟩
  | .JQ_QRPL_BASE => ⟨0x28, 0, 1, true, false, [⟨.JQ_QRPL_BASE, 63, 0, .rw, false⟩]⟩
  | .JQ_QXR_BASE => ⟨0x30, 0, 1, true, false, [⟨.JQ_QXR_BASE, 63, 0, .rw, false⟩]⟩
  | .JQ_QMIRROR => ⟨0x38, 0, 1, true, false, [⟨.JQ_QMIRROR, 63, 0, .rw, false⟩]⟩
  | .JQ_FEVT_BASE => ⟨0x90, 0, 1, true, false, [⟨.JQ_FEVT_BASE, 63, 0, .rw, false⟩]⟩
  | .TS_NODE_SIZE => ⟨0x20, 0, 1, true, false, []⟩
  | .TS_ARG_SIZE => ⟨0x48, 0, 1, true, true, [⟨.TS_ARG_SIZE, 63, 0, .rw, false⟩]⟩
  | .TS_TICK => ⟨0x50, 0, 1, true, true, [⟨.TS_TICK, 63, 0, .rw, false⟩]⟩
  | .MC_INV_FIRST => ⟨0x28, 0, 1, true, true, [⟨.MC_INV_FIRST, 63, 0, .rw, false⟩]⟩
  | .MC_INV_COUNT => ⟨0x30, 0, 1, true, true, [⟨.MC_INV_COUNT, 63, 0, .rw, false⟩]⟩
  | .MC_JNL_SEQ => ⟨0x48, 0, 1, true, false, [⟨.MC_JNL_SEQ, 63, 0, .ro, false⟩]⟩
  | .MC_JNL_CKPT => ⟨0x50, 0, 1, true, false, [⟨.MC_JNL_CKPT, 63, 0, .ro, false⟩]⟩
  | .MC_GC_FREE => ⟨0x120, 0, 1, true, false, [⟨.MC_GC_FREE, 63, 0, .ro, false⟩]⟩
  | .MC_GC_TOTAL => ⟨0x128, 0, 1, true, false, [⟨.MC_GC_TOTAL, 63, 0, .ro, false⟩]⟩
  | .MC_WSEQ => ⟨0x130, 0, 1, true, false, [⟨.MC_WSEQ, 63, 0, .ro, false⟩]⟩
  | .MC_WL_RANGE => ⟨0x138, 0, 1, true, false, [⟨.MC_WL_RANGE, 63, 0, .ro, false⟩]⟩
  | .MC_RT_ENT0 => ⟨0x210, 0, 1, true, false, [⟨.MC_RT_ENT0, 63, 0, .ro, false⟩]⟩
  | .MC_PATROL_LAP => ⟨0x228, 0, 1, true, false, [⟨.MC_PATROL_LAP, 63, 0, .ro, false⟩]⟩
  | .CX_DICT_LBA => ⟨0x48, 0, 1, true, true, [⟨.CX_DICT_LBA, 63, 0, .rw, false⟩]⟩
  | .SEC_MBX_REQ => ⟨0x10, 0, 1, true, false, [⟨.SEC_MBX_REQ, 63, 0, .rw, false⟩]⟩
  | .SEC_MBX_RSP => ⟨0x18, 0, 1, true, false, [⟨.SEC_MBX_RSP, 63, 0, .rw, false⟩]⟩
  | .SEC_MONO => ⟨0x30, 0, 1, true, false, [⟨.SEC_MONO, 63, 0, .ro, false⟩]⟩
  | .SEC_TIME_FLOOR => ⟨0x38, 0, 1, true, false, [⟨.SEC_TIME_FLOOR, 63, 0, .ro, false⟩]⟩
  | .SEC_PM_TICK => ⟨0x108, 0, 1, true, true, [⟨.SEC_PM_TICK, 63, 0, .rw, false⟩]⟩
  | .PM_CMD_TICK => ⟨0x10, 0, 1, true, true, [⟨.PM_CMD_TICK, 63, 0, .rw, false⟩]⟩
  | .PM_PATROL_MASK => ⟨0x48, 0, 1, true, false, [⟨.PM_PATROL_MASK, 63, 0, .rw, true⟩]⟩
  | .PM_REFUSE_LOG0 => ⟨0x100, 16, 16, false, false, [⟨.PM_REFUSE_LOG_UNIT, 31, 12, .ro, false⟩, ⟨.PM_REFUSE_LOG_TYPE, 7, 0, .ro, false⟩]⟩
  | .PM_REFUSE_LOG1 => ⟨0x104, 16, 16, false, false, [⟨.PM_REFUSE_LOG_REASON, 23, 16, .ro, false⟩,
      ⟨.PM_REFUSE_LOG_AP, 11, 8, .ro, false⟩,
      ⟨.PM_REFUSE_LOG_ABORTED, 7, 7, .ro, false⟩,
      ⟨.PM_REFUSE_LOG_TARGET, 6, 4, .ro, false⟩,
      ⟨.PM_REFUSE_LOG_VALID, 3, 3, .ro, false⟩,
      ⟨.PM_REFUSE_LOG_FROM, 2, 0, .ro, false⟩]⟩
  | .PM_REFUSE_LOG2 => ⟨0x108, 16, 16, true, false, [⟨.PM_REFUSE_LOG_TICK, 63, 0, .ro, false⟩]⟩
  | .PM_KEEP => ⟨0x200, 4, 64, false, false, [⟨.PM_KEEP, 31, 0, .ro, false⟩]⟩
  | .HU_ALLOW => ⟨0x30, 0, 1, true, false, [⟨.HU_ALLOW, 63, 0, .ro, false⟩]⟩
  | .HU_DIRTY => ⟨0x38, 0, 1, true, false, [⟨.HU_DIRTY, 63, 0, .ro, false⟩]⟩
  | .HK_ROUND => ⟨0x10, 0, 1, true, false, [⟨.HK_ROUND, 63, 0, .ro, false⟩]⟩
  | .CAL_TIME => ⟨0x8, 0, 1, true, false, [⟨.CAL_TIME, 63, 0, .ro, false⟩]⟩
  | .CAL_SET => ⟨0x10, 0, 1, true, false, [⟨.CAL_SET, 63, 0, .rw, false⟩]⟩
  | .CAL_ALARM => ⟨0x30, 8, 2, true, false, [⟨.CAL_ALARM, 63, 16, .rw, false⟩]⟩
  | .FC_SRC_WSTART => ⟨0x218, 0, 1, true, false, [⟨.FC_SRC_WSTART, 63, 0, .ro, false⟩]⟩
  | .FC_SRC_FIRST => ⟨0x220, 0, 1, true, false, [⟨.FC_SRC_FIRST, 63, 0, .ro, false⟩]⟩
  | .FC_SRC_LAST => ⟨0x228, 0, 1, true, false, [⟨.FC_SRC_LAST, 63, 0, .ro, false⟩]⟩
  | .FC_SRC_TOTAL => ⟨0x230, 0, 1, true, false, [⟨.FC_SRC_TOTAL, 63, 0, .ro, false⟩]⟩
  | .ER_LOST => ⟨0x20, 0, 1, true, false, [⟨.ER_LOST, 63, 0, .ro, false⟩]⟩
  | .ER_CLEARED => ⟨0x28, 0, 1, true, false, [⟨.ER_CLEARED, 63, 0, .ro, false⟩]⟩
  | .ER_WIN => ⟨0x1000, 4, 1024, false, false, []⟩
  | .FW_SLOT_SVN => ⟨0x20, 8, 4, true, false, [⟨.FW_SLOT_SVN, 63, 0, .ro, false⟩]⟩
  | .HE_VFATTR => ⟨0x1000, 4, 256, false, false, [⟨.HE_FNATTR_ATS_QUOTA, 14, 8, .rw, false⟩,
      ⟨.HE_FNATTR_STRICT, 1, 1, .rw, false⟩,
      ⟨.HE_FNATTR_GOLD_NO_LPM, 0, 0, .rw, false⟩]⟩

/-- The register blocks of R41, the media mailboxes (R41, 08) split into a cluster's and a channel's part. -/
inductive Block where
  | ucb | chp | tk | pm | hk | cal | hu | fc | er | fw | sec | mc | he | jq | ts | ms | msch | cx
  deriving DecidableEq, Repr

/-- The registers of a block. -/
def Block.regs : Block → List Reg
  | .ucb => [.UCB_ID, .UCB_PARAM, .UCB_CHILD_COUNT, .UCB_CHILD, .UCB_STATUS, .UCB_FAULT, .UCB_RESET_REQ, .UCB_POWER_REQ, .UCB_REQ_STS, .UCB_CNT0, .UCB_CNT1, .UCB_CNT2, .UCB_CNT3, .UCB_CNT4, .UCB_CNT5, .UCB_CNT6, .UCB_CNT7, .UCB_RESET_TICK, .UCB_POWER_TICK]
  | .chp => [.CHP_ID, .CHP_STEP, .CHP_UID, .CHP_CAP0, .CHP_CAP1, .CHP_CAP2, .CHP_CAP3, .CHP_CAP4, .CHP_CAP5, .CHP_CAP6, .CHP_CAP7, .CHP_CTL, .CHP_ECC_CTL, .CHP_ECC_STS, .CHP_ECC_LSEL, .CHP_ECC_LOGB, .CHP_BOOT_STS, .CHP_BOOT_TIME, .CHP_RST_CAUSE, .CHP_CTL_TICK, .CHP_ECC_LOGA, .CHP_ECC_LOGT, .CHP_ECC_CE, .CHP_ECC_LAP]
  | .tk => [.TK_CTL, .TK_PERIOD, .TK_NEXT, .TK_STS, .TK_PHASE, .TK_SRC, .TK_CUTOFF, .TK_BUDGET0, .TK_BUDGET1, .TK_CANCEL_STS, .TK_SNAP, .TK_NEXT_TICK, .TK_COUNT, .TK_PTM_EPOCH, .TK_BUDGET_EFF0, .TK_BUDGET_EFF1, .TK_OVR_CNT, .TK_OVR_LAST, .TK_JUMP_FROM, .TK_CANCEL, .TK_SNAP_COUNT, .TK_SNAP_PHASE, .TK_SNAP_CAL]
  | .pm => [.PM_MODE, .PM_CTL, .PM_CMD, .PM_CMD_STS, .PM_THR_CFG, .PM_PCAP, .PM_THR_STS, .PM_PATROL_CFG, .PM_PATROL_STS, .PM_LOG_STS, .PM_CNT_REFUSED, .PM_CNT_ABORTED, .PM_CNT_ENTRIES, .PM_CNT_THROTTLE_TICKS, .PM_CMD_TICK, .PM_PATROL_MASK, .PM_REFUSE_LOG0, .PM_REFUSE_LOG1, .PM_REFUSE_LOG2, .PM_KEEP]
  | .hk => [.HK_CFG, .HK_STS, .HK_TJ_THR, .HK_WWIN, .HK_AVS_CFG0, .HK_AVS_CFG1, .HK_AVS_STS, .HK_RD_CFG, .HK_VAL, .HK_WIN, .HK_CNT_WARN, .HK_CNT_THR_ROUNDS, .HK_CNT_OOW, .HK_CNT_AVS_STEPS, .HK_ROUND]
  | .cal => [.CAL_STS, .CAL_CMD, .CAL_TRIM, .CAL_BCD0, .CAL_BCD1, .CAL_ALM_CTL, .CAL_TIME, .CAL_SET, .CAL_ALARM]
  | .hu => [.HU_CTL, .HU_STS, .HU_CHG_CFG, .HU_REL_CFG, .HU_E_CEIL, .HU_WIN, .HU_ALLOW_CFG, .HU_TEST_CFG, .HU_FLUSH_CFG, .HU_MEAS0, .HU_MEAS1, .HU_MEAS2, .HU_LAST, .HU_CNT_HOLDUP, .HU_CNT_TESTS, .HU_CNT_FLUSH_BYTES, .HU_CNT_ACK_PROG, .HU_ALLOW, .HU_DIRTY]
  | .fc => [.FC_CTL, .FC_STS, .FC_COMPAT_STS, .FC_STICKY, .FC_SEVERE, .FC_UNACK, .FC_SEL, .FC_SRC_CFG, .FC_SRC_WIN, .FC_SRC_STATE, .FC_SRC_WCNT, .FC_SRC_DETAIL, .FC_CNT_CE, .FC_CNT_UC, .FC_CNT_FATAL, .FC_CNT_ESCALATED, .FC_CNT_CHIPRESET, .FC_SRC_WSTART, .FC_SRC_FIRST, .FC_SRC_LAST, .FC_SRC_TOTAL]
  | .er => [.ER_CTL, .ER_STS, .ER_FREEZE, .ER_CURSOR, .ER_HSEL, .ER_HCFG, .ER_HLOWER, .ER_HWIDTH, .ER_LOST, .ER_CLEARED, .ER_WIN]
  | .fw => [.FW_CAP, .FW_STS, .FW_ACTIVE, .FW_SLOT, .FW_LAST, .FW_CNT_COMMITS, .FW_CNT_ACTIVATIONS, .FW_CNT_REVERTS, .FW_SLOT_SVN]
  | .sec => [.SEC_STS, .SEC_MBX_CMD, .SEC_MBX_STS, .SEC_PM_CMD, .SEC_PM_RESULT, .SEC_PM_STS, .SEC_PM_QSEL, .SEC_PM_QRES, .SEC_PM_STAGE, .SEC_KEY_SEL, .SEC_KEY_STS, .SEC_CNT_DENIED, .SEC_CNT_REVOKED, .SEC_CNT_MBX, .SEC_CNT_LIC_CLOSE, .SEC_MBX_REQ, .SEC_MBX_RSP, .SEC_MONO, .SEC_TIME_FLOOR, .SEC_PM_TICK]
  | .mc => [.MC_CTL, .MC_STS, .MC_GEOM, .MC_LOCKMASK, .MC_LFSR, .MC_DSTORE, .MC_PIN_LINES, .MC_PIN_COUNT, .MC_INV_CMD, .MC_INV_STS, .MC_JNL_CFG, .MC_JNL_STS, .MC_CNT_HIT, .MC_CNT_MISS_DRAM, .MC_CNT_MISS_FLASH, .MC_CNT_STALL, .MC_CNT_EVICT_DIRTY, .MC_CNT_INV, .MC_CNT_REFILL, .MC_GC_MARK0, .MC_GC_MARK1, .MC_GC_QMAX, .MC_GC_STS, .MC_GC_MODE, .MC_WL_CFG, .MC_REC0, .MC_REC1, .MC_REC2, .MC_CNT_HOST_UNITS, .MC_CNT_GC_UNITS, .MC_CNT_GC_BANDS, .MC_CNT_WL_BANDS, .MC_CNT_RETIRED, .MC_CNT_SEAL_SHORT, .MC_CNT_RECON, .MC_CNT_THROTTLE_TICKS, .MC_CNT_DEGRADED_BANDS, .MC_RI_CFG, .MC_RI_STS, .MC_RT_SEL, .MC_RT_ENT1, .MC_PATROL_CFG, .MC_PATROL_RD, .MC_PATROL_POS, .MC_CNT_FAST_FAIL, .MC_CNT_MISCORRECT, .MC_CNT_DEEP_OK, .MC_CNT_LADDER_READS, .MC_CNT_LADDER_WON, .MC_CNT_HEDGE_WON, .MC_CNT_CMD_MAX, .MC_CNT_RECOVERED, .MC_CNT_LOST, .MC_CNT_REFRESH, .MC_INV_FIRST, .MC_INV_COUNT, .MC_JNL_SEQ, .MC_JNL_CKPT, .MC_GC_FREE, .MC_GC_TOTAL, .MC_WSEQ, .MC_WL_RANGE, .MC_RT_ENT0, .MC_PATROL_LAP]
  | .he => [.HE_CFG, .HE_LINK_STS, .HE_PWR, .HE_VFALLOC, .HE_FNATTR, .HE_ATS_STS, .HE_EVT, .HE_CNT_DISABLE, .HE_CNT_LDN, .HE_CNT_INV, .HE_CNT_CTO, .HE_CNT_UR, .HE_VFATTR]
  | .jq => [.JQ_STS, .JQ_GOLD, .JQ_QSEL, .JQ_QCFG, .JQ_QRING, .JQ_QCMD, .JQ_QSTS, .JQ_QIRQ, .JQ_QSEQ, .JQ_FSEL, .JQ_FGOLD, .JQ_FEVT_CFG, .JQ_FSTS, .JQ_CNT_DOWNGRADE, .JQ_CNT_LATE, .JQ_CNT_CAUGHT, .JQ_CNT_MISSED, .JQ_CNT_QERR, .JQ_CNT_XR_EXPIRED, .JQ_QRPL_BASE, .JQ_QXR_BASE, .JQ_QMIRROR, .JQ_FEVT_BASE]
  | .ts => [.TS_CAP, .TS_STS, .TS_NSEL, .TS_NODE, .TS_NODE_LINKS, .TS_NODE_CHILD, .TS_CMD, .TS_ARG, .TS_RESULT, .TS_STAGE, .TS_NODE_SIZE, .TS_ARG_SIZE, .TS_TICK]
  | .ms => [.MS_STS, .MS_ROMREV, .MS_WIN_STS, .MS_MARGIN, .MS_SYSUNLOCK, .MS_CALL, .MS_CPL]
  | .msch => [.MS_CH_IF, .MS_CH_GEO, .MS_CH_SENS, .MS_CH_SYS, .MS_CH_DIEST, .MS_CH_CNT_READ, .MS_CH_CNT_PROGRAM, .MS_CH_CNT_ERASE, .MS_CH_CNT_SUSPEND, .MS_CH_CNT_BO, .MS_CH_CNT_WIN, .MS_CH_CNT_TIMEOUT]
  | .cx => [.CX_CAP, .CX_CTL, .CX_STS, .CX_DICT_CMD, .CX_DICT_STS, .CX_DICT_SEL, .CX_DICT_INFO, .CX_DICT_ID, .CX_ENG_STS, .CX_CNT_DEC_BLOCKS, .CX_CNT_DEC_BYTES, .CX_CNT_CHECK_FAIL, .CX_CNT_CHECK_MISMATCH, .CX_CNT_DECODE_ERR, .CX_CNT_PACK_BLOCKS, .CX_CNT_NOSHRINK, .CX_CNT_SELFCHECK, .CX_CNT_STEAL, .CX_DICT_LBA]

end Sys2Proof.Machine
end

