-- ==== Sys2Proof/Machine/Tables.lean ====
section
/-! DEFINITION. The spec's tables that give a field its reset value by instance: the fault sources (R565), the histograms (R581),
the housekeeping channels (R543); and the tables of units (01) and of the UCB windows. -/

namespace Sys2Proof.Machine

/-- One fault source (R565): kind level, class (0 none, 1 CE, 2 UC, 3 FATAL), threshold, window, reaction, ERR_EN, owner. -/
structure SrcRow where
  level : Bool
  cls : Nat
  n : Nat
  w : Nat
  react : Nat
  err : Nat
  owner : Nat
  deriving DecidableEq, Repr

/-- What a reserved source reads as (R578). -/
def SrcRow.none : SrcRow := ⟨false, 0, 0, 0, 0, 0, 0⟩

/-- The cluster sources 160 + 20c + k by k (R565); `md` is the MD core the row names. -/
def clusterSrc (k c : Nat) : SrcRow :=
  let md := 8 + 6 * c
  match k with
  | 0 => ⟨false, 2, 4, 8000, 1, 0, 60⟩
  | 1 => ⟨false, 2, 1, 8000, 2, 0, md⟩
  | 2 => ⟨false, 2, 1, 8000, 3, 0, md⟩
  | 3 => ⟨false, 0, 1, 8000, 0, 0, md⟩
  | 4 => ⟨false, 2, 1, 480000, 1, 0, md⟩
  | 5 => ⟨false, 2, 4, 28800000, 1, 0, md⟩
  | 6 => ⟨false, 1, 8, 691200000, 0, 0, md⟩
  | 7 => ⟨false, 1, 8, 691200000, 0, 0, md⟩
  | 8 => ⟨false, 1, 255, 8000, 0, 0, md⟩
  | 9 => ⟨false, 2, 4, 480000, 1, 0, md⟩
  | 10 => ⟨false, 2, 1, 8000, 1, 0, md⟩
  | 11 => ⟨false, 1, 16, 480000, 0, 0, md⟩
  | 12 => ⟨false, 1, 4, 480000, 0, 0, md⟩
  | 13 => ⟨true, 0, 1, 480000, 0, 0, md⟩
  | _ => SrcRow.none

/-- The table of sources (R565). MP0 is core 56, MP4 core 60, WD0 core 62, FE(2k) core 2k. -/
def srcRow (s : Nat) : SrcRow :=
  if 160 ≤ s then (if s < 320 then clusterSrc ((s - 160) % 20) ((s - 160) / 20) else SrcRow.none)
  else if 128 ≤ s then (if s ≤ 151 then ⟨true, 0, 1, 480000, 0, 0, 56⟩ else SrcRow.none)
  else if 96 ≤ s then
    if s ≤ 119 then ⟨true, 0, 1, 480000, 0, 0, 56⟩
    else match s with
      | 120 => ⟨true, 0, 1, 480000, 1, 0, 56⟩
      | 121 => ⟨false, 3, 1, 8000, 0, 1, 56⟩
      | 122 => ⟨false, 2, 1, 480000, 1, 0, 56⟩
      | 123 => ⟨true, 2, 1, 480000, 1, 0, 56⟩
      | 124 => ⟨false, 0, 1, 8000, 1, 0, 56⟩
      | 125 => ⟨false, 2, 1, 8000, 1, 0, 56⟩
      | 126 => ⟨false, 2, 1, 8000, 1, 1, 56⟩
      | _ => SrcRow.none
  else if 80 ≤ s then
    match s with
    | 80 => ⟨false, 3, 1, 8000, 3, 1, 56⟩
    | 81 => ⟨false, 2, 1, 8000, 3, 0, 56⟩
    | 82 => ⟨false, 0, 8, 480000, 1, 0, 62⟩
    | 83 => ⟨false, 0, 1, 8000, 0, 0, 62⟩
    | 84 => ⟨false, 0, 1, 8000, 1, 0, 62⟩
    | _ => SrcRow.none
  else if 64 ≤ s then
    if s ≤ 69 then ⟨false, 2, 1, 8000, 2, 0, 56 + (s - 64) ^^^ 1⟩
    else match s with
      | 70 => ⟨true, 0, 1, 480000, 1, 0, 56⟩
      | 71 => ⟨true, 0, 1, 480000, 1, 0, 60⟩
      | 72 => ⟨false, 2, 1, 8000, 1, 0, 56⟩
      | 73 => ⟨false, 1, 4, 28800000, 0, 0, 56⟩
      | 74 => ⟨false, 2, 1, 8000, 1, 0, 56⟩
      | _ => SrcRow.none
  else if 32 ≤ s then
    if s ≤ 35 then ⟨false, 3, 1, 8000, 3, 1, 56⟩
    else if s ≤ 39 then ⟨false, 2, 1, 8000, 2, 0, 2 * (s - 36)⟩
    else if s ≤ 47 then ⟨false, 0, 1, 8000, 1, 0, 2 * ((s - 40) % 4)⟩
    else match s with
      | 48 => ⟨true, 2, 1, 480000, 1, 0, 0⟩
      | 49 => ⟨false, 2, 1, 8000, 1, 0, 0⟩
      | 50 => ⟨false, 0, 16, 8000, 0, 0, 0⟩
      | 51 => ⟨false, 0, 16, 8000, 0, 0, 0⟩
      | 52 => ⟨true, 0, 1, 480000, 1, 0, 60⟩
      | 53 => ⟨false, 0, 255, 8000, 0, 0, 0⟩
      | 54 => ⟨false, 0, 255, 8000, 0, 0, 0⟩
      | _ => SrcRow.none
  else if 12 ≤ s ∧ s ≤ 17 then ⟨false, 1, 64, 28800000, 0, 0, 56⟩
  else if 6 ≤ s ∧ s ≤ 11 then ⟨false, 2, 1, 8000, 1, if s = 6 then 1 else 0, 56⟩
  else match s with
    | 0 => ⟨false, 0, 16, 8000, 0, 0, 56⟩
    | 1 => ⟨true, 2, 1, 480000, 1, 0, 60⟩
    | 2 => ⟨false, 0, 1, 8000, 1, 0, 60⟩
    | 3 => ⟨true, 2, 1, 480000, 1, 0, 60⟩
    | 4 => ⟨false, 2, 1, 8000, 2, 0, 60⟩
    | 5 => ⟨true, 2, 1, 480000, 1, 0, 56⟩
    | 18 => ⟨false, 2, 1, 8000, 1, 1, 56⟩
    | 19 => ⟨false, 2, 1, 8000, 1, 0, 56⟩
    | 20 => ⟨false, 2, 1, 8000, 1, 0, 62⟩
    | _ => SrcRow.none

/-- A reserved source never raises an event (R563): it is a row with no threshold. -/
def srcReserved (s : Nat) : Bool := (srcRow s).n == 0

/-- Unit code with the LOG2 bit, LOWER and WIDTH of a histogram at reset (R580, R581). Histogram 10 takes its width from the
boot. -/
def histRow (h : Nat) : Nat × Int × Nat :=
  if h ≤ 6 then (0x82, 0, 4)
  else if h = 7 then (0x03, 1, 1)
  else if h = 8 then (0x04, 0, 1)
  else if h = 9 then (0x02, 0, 4)
  else if h = 10 then (0x02, 0, 0)
  else if h = 11 then (0x0A, 0, 4)
  else if h = 12 then (0x84, 0, 1)
  else if h = 13 then (0x04, 0, 2)
  else if h = 14 then (0x02, 0, 32)
  else if h = 15 then (0x02, 0, 500)
  else if h ≤ 31 then (0x05, -640, 96)
  else if h ≤ 39 then (0x05, -640, 64)
  else if h = 40 then (0x06, 600, 8)
  else if h = 41 then (0x09, 0, 640)
  else if h = 42 then (0x0A, 0, 4)
  else if h = 43 then (0x04, 0, 8)
  else if h = 44 then (0x84, 0, 16)
  else if h = 45 then (0x0B, 0, 32)
  else if h = 46 then (0x04, 0, 4)
  else if h = 47 then (0x04, 0, 8)
  else if h = 48 then (0x84, 0, 1)
  else if h = 49 then (0x82, 0, 4)
  else (0x00, 0, 0)

/-- A signed number as the 2's complement field of `w` bits that holds it. -/
def toField (w : Nat) (v : Int) : Nat := (v % (2 ^ w : Nat)).toNat

/-- The signed value of a field of `w` bits. -/
def ofField (w v : Nat) : Int := if v < 2 ^ (w - 1) then v else (v : Int) - (2 ^ w : Nat)

/-- The default window of a housekeeping channel (R543), in the channel's units: highest and lowest value. Channels 44 to 47 take
theirs from the settings of the hold-up store, which the spec does not compute (log entry 46). -/
def hkWindow (n : Nat) : Int × Int :=
  if n < 16 then (125 * 16, -40 * 16)
  else if n < 24 then (85 * 16, -20 * 16)
  else if n = 24 ∨ n = 34 then (840, 620)
  else if n = 25 then (840, 760)
  else if n = 26 ∨ n = 27 then (1260, 1140)
  else if n = 28 then (525, 475)
  else if n = 29 then (1100, 1000)
  else if n = 30 then (788, 713)
  else if n = 31 then (1260, 1140)
  else if n = 32 then (5500, 2700)
  else if n = 33 then (3600, 2000)
  else if n = 35 then (1890, 1710)
  else ((Config.monitorWindow (n - 36)).1, (Config.monitorWindow (n - 36)).2)

/-- The channels powered in Patrol (R510, R543). -/
def patrolChannels : List Nat := [16, 17, 18, 19, 20, 21, 22, 23, 32, 33, 44, 45, 46, 47]

/-- The reset value of a stored field: fuses that differ by instance, else the one value of the register table. -/
def Field.resetAt (f : Field) (i : Nat) : Nat :=
  match f with
  | .CHP_UID_UID => Config.uid i % 2 ^ 32
  | .FC_SRC_CFG_OWNER => (srcRow i).owner
  | .FC_SRC_CFG_KIND => if (srcRow i).level then 1 else 0
  | .FC_SRC_CFG_CLASS => (srcRow i).cls
  | .FC_SRC_CFG_ERR_EN => (srcRow i).err
  | .FC_SRC_CFG_REACT => (srcRow i).react
  | .FC_SRC_CFG_N => (srcRow i).n
  | .FC_SRC_WIN_W => (srcRow i).w
  | .ER_HCFG_EN => if i < 50 then 1 else 0
  | .ER_HCFG_LOG2 => (histRow i).1 / 128
  | .ER_HCFG_UNIT => (histRow i).1 % 128
  | .ER_HLOWER_LOWER => toField 32 (histRow i).2.1
  | .ER_HWIDTH_WIDTH => (histRow i).2.2
  | .CX_ENG_STS_CLUSTER => if i < 32 then i / 4 else i - 32
  | .X_FEAT_TT => if i % 2 = 1 then 233 else 398
  | _ => f.info.reset

/-- The types of unit (UCB_ID.TYPE, 01). -/
inductive UnitType where
  | chip | front | map | warden | housekeeping | cluster | channel | die | engines
  deriving DecidableEq, Repr

/-- The code of UCB_ID.TYPE. -/
def UnitType.code : UnitType → Nat
  | .chip => 1 | .front => 2 | .map => 3 | .warden => 4 | .housekeeping => 5
  | .cluster => 6 | .channel => 7 | .die => 8 | .engines => 9

/-- A UCB window is named by bits [31:12] of its control-space offset; these are the windows of the J96 (01). -/
def uChip : Nat := 0x100
def uFront : Nat := 0x101
def uMap : Nat := 0x102
def uWarden : Nat := 0x103
def uHousekeeping : Nat := 0x104
def uCluster (c : Nat) : Nat := 0x108 + c
def uEngines (c : Nat) : Nat := 0x110 + c
def uChannel (n : Nat) : Nat := 0x120 + n
def uDie (d : Nat) : Nat := 0x400 + d

/-- The type of the unit a window position is for; none where the J96 places no window. -/
def unitType (w : Nat) : Option UnitType :=
  if w = 0x100 then some .chip
  else if w = 0x101 then some .front
  else if w = 0x102 then some .map
  else if w = 0x103 then some .warden
  else if w = 0x104 then some .housekeeping
  else if 0x108 ≤ w ∧ w < 0x110 then some .cluster
  else if 0x110 ≤ w ∧ w < 0x118 then some .engines
  else if 0x120 ≤ w ∧ w < 0x180 then some .channel
  else if 0x400 ≤ w ∧ w < 0xA00 then some .die
  else none

/-- INSTANCE of UCB_ID: cluster 0 to 7, channel 0 to 95, die 0 to 15 within its channel, otherwise 0. -/
def unitInstance (w : Nat) : Nat :=
  match unitType w with
  | some .cluster => w - 0x108
  | some .channel => w - 0x120
  | some .die => (w - 0x400) % 16
  | _ => 0

/-- The parent's window (unit tree, 01); CHIP has none. -/
def unitParent (w : Nat) : Option Nat :=
  match unitType w with
  | some .front | some .map | some .warden | some .housekeeping | some .cluster => some uChip
  | some .channel => some (uCluster ((w - 0x120) / 12))
  | some .engines => some (uCluster (w - 0x110))
  | some .die => some (uChannel ((w - 0x400) / 16))
  | _ => none

/-- DEPTH of UCB_ID. -/
def unitDepth (w : Nat) : Nat :=
  match unitType w with
  | some .chip => 0
  | some .channel | some .engines => 2
  | some .die => 3
  | _ => 1

/-- The ancestors of a unit, nearest first. The tree is at most three levels below CHIP. -/
def unitAncestors (w : Nat) : List Nat :=
  match unitParent w with
  | none => []
  | some p => p :: (match unitParent p with
    | none => []
    | some q => q :: (match unitParent q with
      | none => []
      | some r => [r]))

/-- The channel of a die, the cluster of a channel, the MD core that serves a channel (01, Cores). -/
def dieChannel (d : Nat) : Nat := d / 16
def channelCluster (ch : Nat) : Nat := ch / 12
def servingCore (ch : Nat) : Nat := 8 + ch / 2

/-- The cluster a unit lies in or is. -/
def unitCluster (w : Nat) : Option Nat :=
  match unitType w with
  | some .cluster => some (w - 0x108)
  | some .engines => some (w - 0x110)
  | some .channel => some (channelCluster (w - 0x120))
  | some .die => some (channelCluster (dieChannel (w - 0x400)))
  | _ => none

end Sys2Proof.Machine
end

