-- ==== Sys2Proof/Machine/Base.lean ====
section
/-! DEFINITION. Reading and writing the stored fields, sending, counters, agents, the tick's cutoff, the unit tree and the
recorder's samples: the operations every family of commands shares. -/

namespace Sys2Proof.Machine

/-- What a field that is not listed holds. -/
def RKey.reset (k : RKey) : Nat := k.f.resetAt k.i

/-- The value of a stored field. -/
def State.get (s : State) (f : Field) (i : Nat := 0) (a : Nat := 0) : Nat :=
  Sparse.get RKey.reset s.regs ⟨f, i, a⟩

/-- Stores a field, in its width. -/
def State.put (s : State) (f : Field) (v : Nat) (i : Nat := 0) (a : Nat := 0) : State :=
  { s with regs := Sparse.set RKey.lt RKey.reset s.regs ⟨f, i, a⟩ (v % 2 ^ f.info.width) }

/-- A one-bit field as a Bool. -/
def State.flag (s : State) (f : Field) (i : Nat := 0) (a : Nat := 0) : Bool := s.get f i a ≠ 0

/-- Stores a one-bit field. -/
def State.putFlag (s : State) (f : Field) (b : Bool) (i : Nat := 0) (a : Nat := 0) : State :=
  s.put f (if b then 1 else 0) i a

/-- Adds to a counter, which saturates at 0x7FFF_FFFF_FFFF_FFFF (R22). -/
def State.add (s : State) (f : Field) (n : Nat) (i : Nat := 0) : State :=
  s.put f (min (s.get f i + n) 0x7FFFFFFFFFFFFFFF) i

/-- Counts one event in a counter (R22). -/
def State.bump (s : State) (f : Field) (i : Nat := 0) : State := s.add f 1 i

/-- Sends. -/
def State.emit (s : State) (o : Out) : State := { s with out := s.out ++ [o] }

/-- Takes the next free value: a value the spec leaves open (log entry 4). -/
def State.takeFree (s : State) : Nat × State := (Config.freeValue (s.get .X_FREE), s.put .X_FREE (s.get .X_FREE + 1))

/-- Takes the next free bytes. -/
def State.takeFreeBytes (s : State) : List Byte × State :=
  (Config.freeBytes (s.get .X_FREE), s.put .X_FREE (s.get .X_FREE + 1))

/-- Applies an operation for each element of a list, in order. -/
def forEach {α : Type} (l : List α) (s : State) (f : α → State → State) : State := l.foldl (fun s a => f a s) s

/-! ### Bytes -/

/-- The number that bytes spell, first byte least significant (R15). -/
def leNat : List Byte → Nat
  | [] => 0
  | b :: l => b.toNat + 256 * leNat l

/-- A number in `n` bytes, least significant first (R15). -/
def natLe : Nat → Nat → List Byte
  | 0, _ => []
  | n + 1, v => BitVec.ofNat 8 v :: natLe n (v / 256)

/-- Bits [hi:lo] of a number. -/
def bits (v hi lo : Nat) : Nat := v / 2 ^ lo % 2 ^ (hi + 1 - lo)

/-- One bit of a number. -/
def bit (v n : Nat) : Bool := v / 2 ^ n % 2 = 1

/-- `n` bytes of a list from an offset, as a number. -/
def fieldAt (l : List Byte) (off n : Nat) : Nat := leNat ((l.drop off).take n)

/-! ### Agents (R12, R41; 01, Cores) -/

/-- The number an agent's own registers are kept under. -/
def Agent.ix : Agent → Nat
  | .pf0 => 64
  | .core n => n
  | .collector => 65

/-- DETAIL of the decode source: function index, or 0x200 + core (R565, source 0). -/
def Agent.detail : Agent → Nat
  | .pf0 => 0
  | .core n => 0x200 + n
  | .collector => 0x2FF

def Agent.isFe : Agent → Bool
  | .core n => n < 8
  | _ => false

def Agent.isMd : Agent → Bool
  | .core n => 8 ≤ n && n < 56
  | _ => false

def Agent.isMp : Agent → Bool
  | .core n => 56 ≤ n && n < 62
  | _ => false

def Agent.isWd : Agent → Bool
  | .core n => 62 ≤ n && n < 64
  | _ => false

/-- PF0 while it holds the Owner role (R458). -/
def State.isOwner (s : State) (ag : Agent) : Bool := ag = .pf0 && s.flag .SEC_STS_OWNER

/-! ### Operating mode (R485) -/

def mOff : Nat := 0
def mKeep : Nat := 1
def mPatrol : Nat := 2
def mRetain : Nat := 3
def mReady : Nat := 4
def mRun : Nat := 5
def mThrottle : Nat := 6
def mHoldup : Nat := 7

/-- The current mode. -/
def State.mode (s : State) : Nat := s.get .PM_MODE_MODE

/-- The main rails are up: every mode above Patrol. -/
def State.powered (s : State) : Bool := 3 ≤ s.mode

/-- Commands are admitted in Run and Throttle (R497), while the FE pairs do not reload (R603). -/
def State.admitting (s : State) : Bool := (s.mode = mRun || s.mode = mThrottle) && !s.flag .X_FE_PAUSE

/-! ### The tick (R47, R61, R76) -/

def State.tick (s : State) : Nat := s.get .TK_COUNT

/-- The cutoff of R61, ns into the tick: PERCENT as it was at the latest boundary (R71). -/
def State.cutoffNs (s : State) : Nat := s.get .X_CUTOFF_EFF * s.get .TK_PERIOD_PERIOD * 10

/-- The length of the current tick, ns, with its correction (R47, R52, R53). -/
def State.tickNs (s : State) : Nat := 1000 * s.get .TK_PERIOD_PERIOD + s.get .X_TICK_EXT - s.get .X_TICK_CUT

/-- TK_PERIOD of a tick to come (R76, R78 step 2): that of a change armed for it or before, unless a chip reset comes first, or Retain
holds the actions back. -/
def State.periodAt (s : State) (t : Nat) : Nat :=
  if s.mode = mRetain || s.armed.any (fun x => decide (x.tick ≤ t) && (match x.act with | .chipReset .. => true | _ => false)) then
    s.get .TK_PERIOD_PERIOD
  else match s.armed.find? (fun x => decide (x.tick ≤ t) && (match x.act with | .period _ => true | _ => false)) with
    | some ⟨_, _, .period us⟩ => us
    | _ => s.get .TK_PERIOD_PERIOD

/-- The test of R76 for an acting tick. -/
def State.armOk (s : State) (t : Nat) : Bool :=
  s.tick + 2 ≤ t || (s.tick + 1 = t && s.get .TK_PHASE_PHASE < s.cutoffNs)

/-- The tick for which work admitted now is planned (R61, R62). -/
def State.planTick (s : State) (gold : Bool) : Nat :=
  if gold || s.get .TK_PHASE_PHASE < s.cutoffNs then s.tick + 1 else s.tick + 2

/-- Arms an action, after every action accepted before it. -/
def State.arm (s : State) (t : Nat) (a : Act) : State :=
  let s' : State := { s with armed := s.armed ++ [{ tick := t, seq := s.get .X_ARMSEQ, act := a }] }
  s'.put .X_ARMSEQ (s.get .X_ARMSEQ + 1)

/-! ### Calendar time as TK_SNAP_CAL shows it: 48-bit seconds and a 16-bit fraction, 0 while invalid -/

/-- The calendar's seconds and fraction, whether or not it is valid. -/
def State.calRaw (s : State) : Nat := s.get .CAL_TIME

/-- The stamp of R582 and R173. -/
def State.calStamp (s : State) : Nat := if s.flag .CAL_STS_VALID then s.calRaw else 0

/-! ### The unit tree -/

/-- A unit exists: every fixed unit, and the dies that are populated (R18). -/
def State.unitExists (s : State) (w : Nat) : Bool :=
  match unitType w with
  | none => false
  | some .die => s.flag .X_DIE_POP (w - 0x400)
  | some _ => true

/-- A window that answers: a unit's, or the former window of a die (R18). -/
def State.windowExists (s : State) (w : Nat) : Bool :=
  s.unitExists w || (unitType w = some .die && s.flag .X_DIE_FORMER (w - 0x400))

/-- The populated dies of a channel, in instance order. -/
def State.channelDies (s : State) (ch : Nat) : List Nat :=
  ((List.range 16).map (16 * ch + ·)).filter fun d => s.flag .X_DIE_POP d

/-- The child windows of a unit, in instance order (R21). -/
def State.children (s : State) (w : Nat) : List Nat :=
  match unitType w with
  | some .chip => [uFront, uMap, uWarden, uHousekeeping] ++ (List.range 8).map uCluster
  | some .cluster => (List.range 12).map (fun i => uChannel (12 * (w - 0x108) + i)) ++ [uEngines (w - 0x108)]
  | some .channel => (s.channelDies (w - 0x120)).map uDie
  | _ => []

/-- A unit and everything below it. -/
def State.subtree (s : State) (w : Nat) : List Nat :=
  let below (l : List Nat) := l.flatMap s.children
  let c1 := s.children w
  let c2 := below c1
  w :: (c1 ++ c2 ++ below c2)

/-- Every populated die. -/
def State.dies (s : State) : List Nat := (List.range 96).flatMap s.channelDies

/-- The power state that power requests give a unit (R32): the lowest among its own TARGET and its ancestors'; 4 while it wakes
(R666). -/
def State.requestPower (s : State) (w : Nat) : Nat :=
  if s.flag .X_PWR_WAKING w then 4
  else (w :: unitAncestors w).foldl (fun p u => max p (s.get .X_PWR_TARGET u)) 0

/-- The effective power state (R32): the operating mode can lower it further. -/
def State.unitPower (s : State) (w : Nat) : Nat :=
  if !s.powered then 3 else max (s.requestPower w) (s.get .X_MODE_POWER w)

/-- READY of a unit (R23): its own logic and every child. A unit that is OFF or wakes is not ready (log entry 48). -/
def State.unitReady (s : State) (w : Nat) : Bool :=
  (s.subtree w).all fun u => s.flag .X_OWN_READY u && s.requestPower u ≠ 3 && s.requestPower u ≠ 4

/-- A unit's own sticky fault bits (UCB_FAULT), as a number. -/
def State.ownFault (s : State) (w : Nat) : Nat :=
  32 * s.get .UCB_FAULT_REFUSED w + 16 * s.get .UCB_FAULT_TIMEOUT w + 8 * s.get .UCB_FAULT_THRESHOLD w
    + 4 * s.get .UCB_FAULT_FATAL w + 2 * s.get .UCB_FAULT_CONTAINED w + s.get .UCB_FAULT_CORRECTED w

/-- UCB_FAULT of a unit: the OR of its own bits and its subtree's (R23). -/
def State.unitFault (s : State) (w : Nat) : Nat := (s.subtree w).foldl (fun v u => v ||| s.ownFault u) 0

/-- A die is populated, ON as far as requests go, and neither resetting nor untrained. A die whose cluster only the operating mode
has gated counts as ON (log entry 45). -/
def State.dieUp (s : State) (d : Nat) : Bool :=
  s.flag .X_DIE_POP d && s.flag .X_OWN_READY (uDie d) && s.requestPower (uDie d) = 0
    && s.get .UCB_STATUS_RESETTING (uDie d) = 0 && s.flag .X_OWN_READY (uChannel (dieChannel d))

/-- A die that can be used now (R364): it is up, and its cluster is in service (R604). -/
def State.dieAvailable (s : State) (d : Nat) : Bool := s.dieUp d && !s.flag .X_CL_OOS (channelCluster (dieChannel d))

/-! ### The event recorder's samples (R579, R582, R583) -/

/-- Some agent holds FREEZE (R585). -/
def State.frozen (s : State) : Bool := (List.range 66).any fun a => s.flag .ER_FREEZE_FREEZE 0 a

/-- The bin of a sample (R579). -/
def histBin (log2 : Bool) (lower : Int) (width : Nat) (v : Int) : Nat :=
  if v < lower + width then 0
  else if width = 0 then 31
  else
    let q := (v - lower).toNat / width
    if log2 then min 31 (Nat.log2 q + 1) else min 31 q

/-- Whole µs since a tick and a phase in it, ns, by the present period. -/
def State.elapsedUs (s : State) (tick ph : Nat) : Int :=
  ((s.tick - tick) * s.get .TK_PERIOD_PERIOD * 1000 + s.get .TK_PHASE_PHASE - ph : Nat) / 1000

/-- Samples a histogram. While recording is frozen the sample is lost and counted (R583). -/
def State.sample (s : State) (h : Nat) (v : Int) : State :=
  if !s.flag .ER_CTL_ENABLE || !s.flag .ER_HCFG_EN h || 50 ≤ h then s
  else if s.frozen then s.bump .ER_LOST
  else
    let b := histBin (s.flag .ER_HCFG_LOG2 h) (ofField 32 (s.get .ER_HLOWER_LOWER h)) (s.get .ER_HWIDTH_WIDTH h) v
    s.bump .X_HIST_BIN (32 * h + b)

/-- Samples an extreme record: a sample below the minimum or above the maximum replaces it, with the calendar time (R582). -/
def State.sampleExt (s : State) (x : Nat) (v : Int) : State :=
  if !s.flag .ER_CTL_ENABLE then s
  else if s.frozen then s.bump .ER_LOST
  else
    let s := if v < ofField 64 (s.get .X_EXT_MIN x) then (s.put .X_EXT_MIN (toField 64 v) x).put .X_EXT_MINT s.calStamp x else s
    if ofField 64 (s.get .X_EXT_MAX x) < v then (s.put .X_EXT_MAX (toField 64 v) x).put .X_EXT_MAXT s.calStamp x else s

/-- One sample of a histogram and of an extreme record: lost, it is lost once (R583). -/
def State.sampleBoth (s : State) (h x : Nat) (v : Int) : State :=
  if s.frozen then (if s.flag .ER_CTL_ENABLE then s.bump .ER_LOST else s) else (s.sample h v).sampleExt x v

end Sys2Proof.Machine
end

