-- ==== Sys2Proof/Machine/Package.lean ====
section
/-! DEFINITION. The package's balls and the states in which the block holds its outputs (R15, R645 to R651, R654). -/

namespace Sys2Proof.Machine

/-! ### Ball names (R15, R645) -/

/-- The 19 letters of a series of rows. -/
def rowLetters : List Char :=
  ['A', 'B', 'C', 'D', 'E', 'F', 'G', 'H', 'J', 'K', 'L', 'M', 'N', 'P', 'T', 'U', 'V', 'W', 'Y']

/-- The name of row `r`, counted from 1 at row A: A to Y, AA to AY, BA to BY, CA to CL. -/
def rowName (r : Nat) : String :=
  let c := rowLetters.getD ((r - 1) % 19) 'A'
  match (r - 1) / 19 with
  | 0 => String.ofList [c]
  | k + 1 => String.ofList [rowLetters.getD k 'A', c]

/-- The name of a ball. -/
def ballName (r c : Nat) : String := rowName r ++ toString c

/-! ### What a ball carries (R646 to R651) -/

/-- Two decimal digits. -/
def two (n : Nat) : String := toString (n / 10) ++ toString (n % 10)

/-- The channel at a ball of a flash region, with the ball's place in its tile. -/
def flashTile (r c : Nat) : Nat × Nat × Nat :=
  let north := decide (r ≤ 18)
  let y := if north then r - 1 else r - 51
  ((if north then 0 else 48) + 16 * (y / 6) + (c - 3) / 4, y % 6, (c - 3) % 4)

/-- The signals of a channel's tile (R647). -/
def flashSignal (i j : Nat) : String :=
  (([["DQ0", "DQ1", "VSS", "DQ2"], ["DQ3", "VCCQ", "DQ4", "DQ5"], ["DQS_DP", "DQS_DN", "VSS", "DQ6"], ["DQ7", "VSS", "RE_DP", "RE_DN"],
     ["WE_N", "CLE", "VCCQ", "ALE"], ["CE_N", "BUSY_N", "VSS", "VCCQ"]].getD i []).getD j "")

/-- The net of the flash I/O supply of a half (R648). -/
def vccqNet (r : Nat) : String := if r ≤ 34 then "VCCQ_N" else "VCCQ_S"

/-- The signals of a DRAM channel's tile (R649). -/
def dramSignal (i j : Nat) : String :=
  (([["DQ0", "DQ1", "DQ2", "DQ3", "VSS", "DQ4", "DQ5", "DQ6", "DQ7", "VSS", "DMI0"],
     ["RDQS0_DP", "RDQS0_DN", "WCK0_DP", "WCK0_DN", "VDDQ", "DQ8", "DQ9", "DQ10", "DQ11", "VSS", "DMI1"],
     ["DQ12", "DQ13", "DQ14", "DQ15", "VDDQ", "RDQS1_DP", "RDQS1_DN", "WCK1_DP", "WCK1_DN", "VSS", "VDD2"],
     ["CA0", "CA1", "CA2", "CA3", "CA4", "CA5", "CA6", "CS0", "CKA_DP", "CKA_DN", "RESET_N"],
     ["CA7", "CA8", "CA9", "CA10", "CA11", "CA12", "CA13", "CS1", "CKB_DP", "CKB_DN", "VDD2"],
     ["DQ16", "DQ17", "DQ18", "DQ19", "VDDQ", "DQ20", "DQ21", "DQ22", "DQ23", "VSS", "DMI2"],
     ["RDQS2_DP", "RDQS2_DN", "WCK2_DP", "WCK2_DN", "VDDQ", "DQ24", "DQ25", "DQ26", "DQ27", "VSS", "DMI3"],
     ["DQ28", "DQ29", "DQ30", "DQ31", "VSS", "RDQS3_DP", "RDQS3_DN", "WCK3_DP", "WCK3_DN", "VSS", "VDDQ"]].getD i []).getD j "")

/-- A supply or ground ball keeps its name; a signal takes its channel's prefix. -/
def prefixed (pre sig : String) : String :=
  if sig = "VSS" ∨ sig = "VCCQ" ∨ sig = "VDDQ" ∨ sig = "VDD2" then sig else pre ++ sig

/-- Ball `c` (1 to 12) of a row of a host port's region, by PE0's columns (R650). -/
def portSignal (p r c : Nat) : String :=
  let n := (r - 19) / 2
  let lane := (r - 19) % 2 = 0
  let pe := "PE" ++ toString p ++ "_"
  if c = 10 then "VPCIE_L"
  else if c = 12 then "VPCIE_H"
  else if r = 20 ∧ c = 4 then pe ++ "REFCLK_DP"
  else if r = 20 ∧ c = 5 then pe ++ "REFCLK_DN"
  else if r = 22 ∧ c = 4 then "PERST" ++ toString p ++ "_N"
  else if r = 24 ∧ c = 4 then pe ++ "CAL"
  else if lane ∧ c = 2 then pe ++ "TX" ++ toString n ++ "_DP"
  else if lane ∧ c = 3 then pe ++ "TX" ++ toString n ++ "_DN"
  else if lane ∧ c = 6 then pe ++ "RX" ++ toString n ++ "_DP"
  else if lane ∧ c = 7 then pe ++ "RX" ++ toString n ++ "_DN"
  else "VSS"

/-- The named balls of the centre (R651): row, first column, signals in consecutive columns. -/
def centreSignals : List (Nat × Nat × List String) :=
  [(27, 30, ["REFCLK_DP", "REFCLK_DN"]), (27, 33, ["XTAL32_IN", "XTAL32_OUT"]), (28, 30, ["TICK_IN", "TICK_OUT"]),
    (28, 33, ["PFAIL_N", "MAIN_EN", "MAIN_PG"]), (29, 30, ["ERR_N", "RECOVERY_N"]), (29, 33, ["SMB_SCL", "SMB_SDA", "SMB_ALERT_N"]),
    (30, 30, ["AVS_CLK", "AVS_MDATA"]), (30, 33, ["AVS_SDATA"]),
    (31, 30, ["XSPI_CLK", "XSPI_CS_N", "XSPI_DQS", "XSPI_IO0", "XSPI_IO1", "XSPI_IO2", "XSPI_IO3", "XSPI_IO4", "XSPI_IO5", "XSPI_IO6",
      "XSPI_IO7"]),
    (32, 30, (List.range 8).flatMap fun j => ["RD" ++ toString j ++ "_DP", "RD" ++ toString j ++ "_DN"]),
    (33, 30, ["HU_CHG_PWM", "HU_REL_PWM", "HU_ICHG_DP", "HU_ICHG_DN", "HU_IBANK_DP", "HU_IBANK_DN", "HU_VBANK", "HU_VBUS"]),
    (34, 30, ["VAUX", "VAUX", "VAUX", "VAUX", "VBAT"]), (35, 30, ["TCK", "TMS", "TDI", "TDO", "TRST_N", "TEST_MODE"]),
    (36, 30, ["LP_ZQ0", "LP_ZQ1"])]

/-- The signal of a centre ball. -/
def centreSignal (r c : Nat) : String :=
  match centreSignals.findSome? fun x => if x.1 = r ∧ x.2.1 ≤ c then x.2.2[c - x.2.1]? else none with
  | some n => n
  | none =>
    if (r + c) % 2 = 0 then "VSS" else if c = 13 ∨ c = 14 ∨ c = 55 ∨ c = 56 then "VSRAM" else "VCORE"

/-- What a ball of the array carries, by row and column from 1 (R646). -/
def ballSignal (r c : Nat) : String :=
  if r ≤ 18 ∨ 51 ≤ r then
    if c = 1 ∨ c = 68 then "VSS"
    else if c = 2 ∨ c = 67 then vccqNet r
    else
      let t := flashTile r c
      let n := flashSignal t.2.1 t.2.2
      if n = "VCCQ" then vccqNet r else prefixed ("CH" ++ two t.1 ++ "_") n
  else if c ≤ 12 then portSignal 0 r c
  else if 57 ≤ c then portSignal 1 r (69 - c)
  else if r ≤ 26 then prefixed ("LP" ++ toString ((c - 13) / 11) ++ "_") (dramSignal (r - 19) ((c - 13) % 11))
  else if 43 ≤ r then prefixed ("LP" ++ toString (4 + (c - 13) / 11) ++ "_") (dramSignal (r - 43) ((c - 13) % 11))
  else centreSignal r c

/-! ### Output states (R654) -/

/-- The groups of outputs. -/
inductive OutGroup where
  | chCe | chOther | pcieTx | dram | tickOut | mainEn | errN | huPwm
  deriving DecidableEq, Repr

/-- How the block holds an output. `driven`: by its own function. -/
inductive PinState where
  | highZ | low | high | parked | electricalIdle | perLink | selfRefresh | driven
  deriving DecidableEq, Repr

/-- The state of a group of outputs: in Patrol, MAIN_EN, ERR_N and the PWM outputs go on by their own rules (R611, R512); before the end of
start-up its steps 1 to 3 hold; PFAIL to step 10 is Hold-up from its step 5. -/
def State.outputs (s : State) (g : OutGroup) : PinState :=
  if s.mode = mOff ∨ s.mode = mKeep then (match g with
    | .dram | .tickOut | .mainEn | .huPwm => .low
    | _ => .highZ)
  else if s.mode = mPatrol then (match g with
    | .dram | .tickOut => .low
    | .mainEn | .errN | .huPwm => .driven
    | _ => .highZ)
  else if s.mode = mHoldup then (match g with
    | .pcieTx => .highZ
    | .tickOut => .low
    | .mainEn => .high
    | _ => .driven)
  else if !s.flag .X_READY then (match g with
    | .chCe => .high
    | .chOther => .parked
    | .pcieTx => .electricalIdle
    | .dram | .tickOut => .low
    | .mainEn => .high
    | _ => .driven)
  else if s.mode = mRetain then (match g with
    | .chCe => .high
    | .chOther => .parked
    | .pcieTx => .perLink
    | .dram => .selfRefresh
    | .mainEn => .high
    | _ => .driven)
  else match g with
    | .pcieTx => .perLink
    | .mainEn => .high
    | _ => .driven

end Sys2Proof.Machine
end

