-- ==== Sys2Proof/Machine/Bits.lean ====
section
/-! DEFINITION. What the decoders of 11 share: CRC-32C, canonical Huffman codes, bitstreams and copies from earlier output. -/

namespace Sys2Proof.Machine

/-! ### CRC-32C (polynomial 0x1EDC6F41, bits reflected) -/

def crcBit (c : Nat) : Nat := if c % 2 = 1 then c / 2 ^^^ 0x82F63B78 else c / 2

def crcByte (c : Nat) (b : Byte) : Nat :=
  crcBit (crcBit (crcBit (crcBit (crcBit (crcBit (crcBit (crcBit (c ^^^ b.toNat))))))))

/-- The CRC-32C of bytes. -/
def crc32c (l : List Byte) : Nat := l.foldl crcByte 0xFFFFFFFF ^^^ 0xFFFFFFFF

/-! ### Canonical codes (RFC 1951 section 3.2.2, which R432 names) and bits, least significant first (R433) -/

/-- Symbols that have a length. -/
def lenCount (lens : List Nat) (k : Nat) : Nat := (lens.filter fun x => x = k).length

/-- The first code of each length, as RFC 1951 section 3.2.2 assigns them. -/
def firstCode (lens : List Nat) : Nat → Nat
  | 0 => 0
  | k + 1 => 2 * (firstCode lens k + if k = 0 then 0 else lenCount lens k)

/-- The `n`-th symbol, in ascending order, that has a length. -/
def nthSym (k : Nat) : List Nat → Nat → Nat → Option Nat
  | [], _, _ => none
  | x :: l, i, n => if x = k then (if n = 0 then some i else nthSym k l (i + 1) (n - 1)) else nthSym k l (i + 1) n

/-- Reads a symbol: bits of a code come most significant first (R433). -/
def readSym (lens : List Nat) : Nat → Nat → Nat → List Bool → Option (Nat × List Bool)
  | 0, _, _, _ => none
  | _ + 1, _, _, [] => none
  | f + 1, k, c, b :: l =>
    let k := k + 1
    let c := 2 * c + if b then 1 else 0
    if firstCode lens k ≤ c ∧ c < firstCode lens k + lenCount lens k then
      (nthSym k lens 0 (c - firstCode lens k)).map fun s => (s, l)
    else readSym lens f k c l

/-- Reads extra bits, least significant first. -/
def readBits : Nat → List Bool → Option (Nat × List Bool)
  | 0, l => some (0, l)
  | _ + 1, [] => none
  | n + 1, b :: l => (readBits n l).map fun r => (2 * r.1 + (if b then 1 else 0), r.2)

/-- Copies `n` bytes from `d` back; overlapping copies are allowed. -/
def copyBack (d orig : Nat) : Nat → List Byte → Option (List Byte)
  | 0, out => some out
  | n + 1, out => if orig ≤ out.length then none else copyBack d orig n (out.getD (d - 1) 0 :: out)

/-- The bits of bytes, least significant bit of each byte first (R433). -/
def byteBits : List Byte → List Bool
  | [] => []
  | b :: l => (List.range 8).map (fun k => b.getLsbD k) ++ byteBits l

end Sys2Proof.Machine
end

