-- ==== Sys2Proof/Machine/Standards.lean ====
section
/-! DEFINITION. The payload formats of R442 that 00_scope.md names by their own documents: raw Deflate (RFC 1951) and the LZ4 block.
What the documents say is PRESUMED, read outside this spec (log entry 15). Output is kept last byte first. -/

namespace Sys2Proof.Machine

/-! ### Raw Deflate (RFC 1951) -/

/-- The order in which the lengths of the code length code are stored. -/
def lengthOrder : List Nat := [16, 17, 18, 0, 8, 7, 9, 6, 10, 5, 11, 4, 12, 3, 13, 2, 14, 1, 15]

/-- Base value and extra bits of the length symbols 257 to 285. -/
def deflateLens : List (Nat × Nat) :=
  [(3, 0), (4, 0), (5, 0), (6, 0), (7, 0), (8, 0), (9, 0), (10, 0), (11, 1), (13, 1), (15, 1), (17, 1), (19, 2), (23, 2), (27, 2), (31, 2),
    (35, 3), (43, 3), (51, 3), (59, 3), (67, 4), (83, 4), (99, 4), (115, 4), (131, 5), (163, 5), (195, 5), (227, 5), (258, 0)]

/-- Base value and extra bits of the distance symbols 0 to 29. -/
def deflateDists : List (Nat × Nat) :=
  [(1, 0), (2, 0), (3, 0), (4, 0), (5, 1), (7, 1), (9, 2), (13, 2), (17, 3), (25, 3), (33, 4), (49, 4), (65, 5), (97, 5), (129, 6), (193, 6),
    (257, 7), (385, 7), (513, 8), (769, 8), (1025, 9), (1537, 9), (2049, 10), (3073, 10), (4097, 11), (6145, 11), (8193, 12), (12289, 12),
    (16385, 13), (24577, 13)]

/-- A complete code, or the incomplete one that has a single code of one bit, or, for distances, none at all. -/
def deflateCode (lens : List Nat) (mayBeEmpty : Bool) : Bool :=
  (((lens.map fun x => if x = 0 then 0 else 2 ^ (15 - x)).foldl (· + ·) 0) = 32768)
    || (lenCount lens 1 = 1 && lenCount lens 0 + 1 = lens.length)
    || (mayBeEmpty && lenCount lens 0 = lens.length)

/-- Reads `n` code lengths, run-length coded. -/
def readLengths (cl : List Nat) : Nat → Nat → List Nat → List Bool → Option (List Nat × List Bool)
  | 0, _, _, _ => none
  | f + 1, n, acc, l =>
    if n ≤ acc.length then if acc.length = n then some (acc, l) else none
    else match readSym cl 7 0 0 l with
      | none => none
      | some (s, l) =>
        if s < 16 then readLengths cl f n (acc ++ [s]) l
        else
          let v := if s = 16 then acc.getLast? else some 0
          match v, readBits (if s = 16 then 2 else if s = 17 then 3 else 7) l with
          | some v, some (k, l) => readLengths cl f n (acc ++ List.replicate (k + if s = 18 then 11 else 3) v) l
          | _, _ => none

/-- Reads `n` numbers of `w` bits. -/
def readMany (w : Nat) : Nat → List Bool → Option (List Nat × List Bool)
  | 0, l => some ([], l)
  | n + 1, l =>
    match readBits w l with
    | none => none
    | some (v, l) => (readMany w n l).map fun r => (v :: r.1, r.2)

/-- The two codes of a block with dynamic codes. -/
def dynamicCodes (l : List Bool) : Option (List Nat × List Nat × List Bool) :=
  match readMany 5 2 l with
  | some ([hlit, hdist], l) =>
    match readBits 4 l with
    | none => none
    | some (hclen, l) =>
      match readMany 3 (hclen + 4) l with
      | none => none
      | some (c, l) =>
        let cl := (List.range 19).map fun s => ((lengthOrder.zip c).lookup s).getD 0
        if 286 < hlit + 257 || 30 < hdist + 1 || !deflateCode cl false then none
        else match readLengths cl 321 (hlit + 257 + hdist + 1) [] l with
          | none => none
          | some (v, l) =>
            let lit := v.take (hlit + 257)
            let dist := v.drop (hlit + 257)
            if deflateCode lit false && deflateCode dist true && lit.getD 256 0 ≠ 0 then some (lit, dist, l) else none
  | _ => none

/-- The codes of a block with fixed codes. -/
def fixedLit : List Nat := List.replicate 144 8 ++ List.replicate 112 9 ++ List.replicate 24 7 ++ List.replicate 8 8
def fixedDist : List Nat := List.replicate 32 5

/-- The symbols of a block, up to its end. -/
def inflateSyms (lit dist : List Nat) (orig : Nat) : Nat → List Byte → List Bool → Option (List Byte × List Bool)
  | 0, _, _ => none
  | f + 1, out, l =>
    match readSym lit 15 0 0 l with
    | none => none
    | some (s, l) =>
      if s < 256 then if orig ≤ out.length then none else inflateSyms lit dist orig f (BitVec.ofNat 8 s :: out) l
      else if s = 256 then some (out, l)
      else match deflateLens[s - 257]? with
        | none => none
        | some (base, ext) =>
          match readBits ext l with
          | none => none
          | some (e, l) =>
            match readSym dist 15 0 0 l with
            | none => none
            | some (d, l) =>
              match deflateDists[d]? with
              | none => none
              | some (dbase, dext) =>
                match readBits dext l with
                | none => none
                | some (x, l) =>
                  if out.length < dbase + x then none
                  else match copyBack (dbase + x) orig (base + e) out with
                    | none => none
                    | some out => inflateSyms lit dist orig f out l

/-- A stored block: it starts at the next byte. -/
def inflateStored (orig : Nat) (out : List Byte) (l : List Bool) : Option (List Byte × List Bool) :=
  match readMany 16 2 (l.drop (l.length % 8)) with
  | some ([n, c], l) =>
    if n + c ≠ 65535 || orig < out.length + n then none
    else (readMany 8 n l).map fun r => ((r.1.map fun b => BitVec.ofNat 8 b).reverse ++ out, r.2)
  | _ => none

/-- The blocks of a stream, up to the last; what stays of the bits is answered with the output. -/
def inflateBlocks (orig : Nat) : Nat → List Byte → List Bool → Option (List Byte × List Bool)
  | 0, _, _ => none
  | f + 1, out, l =>
    match readMany 1 1 l with
    | some ([fin], l) =>
      match readBits 2 l with
      | none => none
      | some (type, l) =>
        let r := if type = 0 then inflateStored orig out l
          else if type = 1 then inflateSyms fixedLit fixedDist orig (orig + 1) out l
          else if type = 2 then (dynamicCodes l).bind fun c => inflateSyms c.1 c.2.1 orig (orig + 1) out c.2.2
          else none
        match r with
        | none => none
        | some (out, l) => if fin = 1 then some (out, l) else inflateBlocks orig f out l
    | _ => none

/-- A raw Deflate stream that takes exactly its payload (R442). -/
def inflate (orig : Nat) (payload : List Byte) : Option (List Byte) :=
  match inflateBlocks orig (8 * payload.length) [] (byteBits payload) with
  | some (out, rest) => if rest.length < 8 then some out.reverse else none
  | none => none

/-! ### The LZ4 block -/

/-- A length that goes on while its bytes are 255. -/
def lz4More : Nat → List Byte → Option (Nat × List Byte)
  | _, [] => none
  | v, b :: l => if b.toNat = 255 then lz4More (v + 255) l else some (v + b.toNat, l)

/-- The length a token nibble gives. -/
def lz4Len (v : Nat) (l : List Byte) : Option (Nat × List Byte) := if v = 15 then lz4More 15 l else some (v, l)

/-- The sequences of a block. R442 enforces no restriction on the end of a block, so it may end behind a match as behind literals. -/
def lz4Sequences (orig : Nat) : Nat → List Byte → List Byte → Option (List Byte)
  | 0, _, _ => none
  | _ + 1, out, [] => some out
  | f + 1, out, t :: l =>
    match lz4Len (t.toNat / 16) l with
    | none => none
    | some (n, l) =>
      if l.length < n || orig < out.length + n then none
      else
        let out := (l.take n).reverse ++ out
        match l.drop n with
        | [] => some out
        | [_] => none
        | b :: c :: l =>
          let d := b.toNat + 256 * c.toNat
          match lz4Len (t.toNat % 16) l with
          | none => none
          | some (m, l) =>
            if d = 0 || out.length < d then none
            else match copyBack d orig (m + 4) out with
              | none => none
              | some out => lz4Sequences orig f out l

/-- An LZ4 block (R442). -/
def lz4Block (orig : Nat) (payload : List Byte) : Option (List Byte) :=
  (lz4Sequences orig (payload.length + 1) [] payload).map fun out => out.reverse

end Sys2Proof.Machine
end

