-- ==== Sys2Proof/Machine/Zstd.lean ====
section
/-! DEFINITION. The Zstandard frame and dictionary (RFC 8878), in the subset of R442 and R452. What the document says is PRESUMED, read
outside this spec (log entry 15). Output is kept last byte first. -/

namespace Sys2Proof.Machine

/-! ### Bitstreams -/

/-- The bits of a stream that is read backward: from the bit below the highest one of its last byte. -/
def backBits (b : List Byte) : Option (List Bool) :=
  match b.getLast? with
  | none => none
  | some x => if x = 0 then none else some (((byteBits b).reverse.dropWhile fun y => !y).drop 1)

/-- Reads a number, most significant bit first. -/
def readHigh : Nat → Nat → List Bool → Option (Nat × List Bool)
  | 0, v, l => some (v, l)
  | _ + 1, _, [] => none
  | n + 1, v, b :: l => readHigh n (2 * v + if b then 1 else 0) l

/-! ### FSE tables (section 4.1) -/

/-- A state of an FSE table: its symbol, the bits its successor reads, and what they are added to. -/
structure FseState where
  sym : Nat
  nb : Nat
  base : Nat
  deriving DecidableEq, Repr

/-- An FSE table: its accuracy and its states. -/
structure FseTable where
  log : Nat
  states : List FseState
  deriving DecidableEq, Repr

/-- Up to three further zero probabilities at a time, as long as the count says three. -/
def zeroRuns : Nat → List Bool → Option (Nat × List Bool)
  | 0, _ => none
  | f + 1, l =>
    match readBits 2 l with
    | none => none
    | some (k, l) => if k = 3 then (zeroRuns f l).map fun r => (3 + r.1, r.2) else some (k, l)

/-- The probabilities of a table description: −1 stands for "less than 1". `left` is what is not yet given out. -/
def readProbs : Nat → Nat → List Int → List Bool → Option (List Int × List Bool)
  | 0, _, _, _ => none
  | f + 1, left, acc, l =>
    if left = 0 then some (acc, l)
    else
      let n := Nat.log2 (left + 1) + 1
      let low := 2 ^ (n - 1)
      let few := 2 ^ n - 1 - (left + 1)
      match readBits (n - 1) l with
      | none => none
      | some (v, rest) =>
        let r := if v < few then some (v, rest)
          else (readBits 1 rest).map fun x => (if x.1 = 1 then v + low - few else v, x.2)
        match r with
        | none => none
        | some (v, rest) =>
          let p : Int := (v : Int) - 1
          let used := if v = 0 then 1 else v - 1
          if left < used then none
          else if v = 1 then
            match zeroRuns 100 rest with
            | none => none
            | some (k, rest) => readProbs f left (acc ++ List.replicate (k + 1) 0) rest
          else readProbs f (left - used) (acc ++ [p]) rest

/-- The cells of a table in the order in which symbols are spread over them. -/
def fseSpread (size high : Nat) : List Nat :=
  ((List.range size).map fun k => k * (size / 2 + size / 8 + 3) % size).filter fun p => decide (p < high)

/-- Builds a table from its probabilities. -/
def fseBuild (log : Nat) (probs : List Int) : FseTable :=
  let size := 2 ^ log
  let syms := List.range probs.length
  let low := syms.filter fun s => probs.getD s 0 = -1
  let high := size - low.length
  let cells := (low.mapIdx fun k s => (size - 1 - k, s))
    ++ (fseSpread size high).zip (syms.flatMap fun s => List.replicate (probs.getD s 0).toNat s)
  let symAt := (List.range size).map fun i => (cells.lookup i).getD 0
  let states := (List.range size).map fun i =>
    let s := symAt.getD i 0
    let p := probs.getD s 0
    let x := (if p = -1 then 1 else p.toNat) + ((symAt.take i).filter fun y => y = s).length
    let nb := log - Nat.log2 x
    { sym := s, nb := nb, base := x * 2 ^ nb - size }
  { log := log, states := states }

/-- A table that always gives one symbol. -/
def fseRle (sym : Nat) : FseTable := { log := 0, states := [⟨sym, 0, 0⟩] }

/-- Reads a table description: at most `maxLog` accuracy and symbols up to `maxSym`; answers the bytes behind it. -/
def fseRead (maxLog maxSym : Nat) (b : List Byte) : Option (FseTable × List Byte) :=
  match readBits 4 (byteBits b) with
  | none => none
  | some (a, l) =>
    let log := a + 5
    if maxLog < log then none
    else match readProbs (maxSym + 2) (2 ^ log) [] l with
      | none => none
      | some (p, rest) => if maxSym + 1 < p.length then none else some (fseBuild log p, b.drop (b.length - rest.length / 8))

/-- The successor of a state. -/
def FseTable.next (t : FseTable) (x : FseState) (l : List Bool) : Option (FseState × List Bool) :=
  match readHigh x.nb 0 l with
  | none => none
  | some (v, l) => (t.states[x.base + v]?).map fun y => (y, l)

/-- The first state. -/
def FseTable.init (t : FseTable) (l : List Bool) : Option (FseState × List Bool) :=
  match readHigh t.log 0 l with
  | none => none
  | some (v, l) => (t.states[v]?).map fun y => (y, l)

/-! ### Huffman tables (section 4.2) -/

/-- A Huffman table: the bits of its longest code, and for each value of so many bits the symbol and the bits of its code. -/
structure HufTable where
  max : Nat
  cells : List (Nat × Nat)
  deriving DecidableEq, Repr

/-- Weights from two interleaved FSE states, until the bits run out; the last symbols are those of both states. -/
def hufWeights (t : FseTable) : Nat → FseState → FseState → List Nat → List Bool → Option (List Nat)
  | 0, _, _, _, _ => none
  | f + 1, x, y, acc, l =>
    match t.next x l with
    | none => some (acc ++ [x.sym, y.sym])
    | some (z, l) => hufWeights t f y z (acc ++ [x.sym]) l

/-- Builds a table from the weights; the last symbol's weight completes the sum to a power of two. -/
def hufBuild (w : List Nat) : Option HufTable :=
  let sum := (w.map fun x => if x = 0 then 0 else 2 ^ (x - 1)).foldl (· + ·) 0
  if sum = 0 || w.any (fun x => decide (12 ≤ x)) || 256 ≤ w.length then none
  else
    let max := Nat.log2 sum + 1
    let left := 2 ^ max - sum
    if 11 < max || left ≠ 2 ^ Nat.log2 left then none
    else
      let w := w ++ [Nat.log2 left + 1]
      some { max := max, cells := (List.range max).flatMap fun k =>
        ((List.range w.length).filter fun s => w.getD s 0 = k + 1).flatMap fun s => List.replicate (2 ^ k) (s, max - k) }

/-- Reads a Huffman tree description. -/
def hufRead (b : List Byte) : Option (HufTable × List Byte) :=
  match b with
  | [] => none
  | h :: b =>
    let n := h.toNat
    if 128 ≤ n then
      let k := n - 127
      if b.length < (k + 1) / 2 then none
      else
        let w := (b.take ((k + 1) / 2)).flatMap fun x => [x.toNat / 16, x.toNat % 16]
        (hufBuild (w.take k)).map fun t => (t, b.drop ((k + 1) / 2))
    else if b.length < n then none
    else
      match fseRead 6 255 (b.take n) with
      | none => none
      | some (t, rest) =>
        match backBits rest with
        | none => none
        | some l =>
          match t.init l with
          | none => none
          | some (x, l) =>
            match t.init l with
            | none => none
            | some (y, l) => ((hufWeights t 256 x y [] l).bind hufBuild).map fun h => (h, b.drop n)

/-- Decodes `n` literals of one stream, which must end with its bits. -/
def hufSyms (t : HufTable) : Nat → List Byte → List Bool → Option (List Byte)
  | 0, acc, l => if l.isEmpty then some acc.reverse else none
  | n + 1, acc, l =>
    let peek := (List.range t.max).foldl (fun v k => 2 * v + if l.getD k false then 1 else 0) 0
    match t.cells[peek]? with
    | none => none
    | some (s, nb) => if l.length < nb then none else hufSyms t n (BitVec.ofNat 8 s :: acc) (l.drop nb)

def hufStream (t : HufTable) (n : Nat) (b : List Byte) : Option (List Byte) := (backBits b).bind fun l => hufSyms t n [] l

/-- One stream, or four behind a jump table. -/
def hufLiterals (t : HufTable) (streams n : Nat) (b : List Byte) : Option (List Byte) :=
  if streams = 1 then hufStream t n b
  else
    let q := (n + 3) / 4
    let a := fieldAt b 0 2
    let c := fieldAt b 2 2
    let d := fieldAt b 4 2
    let r := b.drop 6
    if b.length < 6 || r.length < a + c + d || n < 3 * q then none
    else
      match hufStream t q (r.take a), hufStream t q ((r.drop a).take c), hufStream t q ((r.drop (a + c)).take d),
        hufStream t (n - 3 * q) (r.drop (a + c + d)) with
      | some w, some x, some y, some z => some (w ++ x ++ y ++ z)
      | _, _, _, _ => none

/-! ### Blocks (section 3.1.1.3) -/

/-- What one block leaves to the next: the tables that a later one may repeat, and the last three offsets. -/
structure ZCtx where
  huf : Option HufTable
  ll : Option FseTable
  off : Option FseTable
  ml : Option FseTable
  reps : List Nat
  deriving DecidableEq, Repr

def ZCtx.fresh : ZCtx := ⟨none, none, none, none, [1, 4, 8]⟩

/-- Baselines and extra bits of the literals length codes from 16 and the match length codes from 32. -/
def llCodes : List (Nat × Nat) :=
  [(16, 1), (18, 1), (20, 1), (22, 1), (24, 2), (28, 2), (32, 3), (40, 3), (48, 4), (64, 6), (128, 7), (256, 8), (512, 9), (1024, 10),
    (2048, 11), (4096, 12), (8192, 13), (16384, 14), (32768, 15), (65536, 16)]
def mlCodes : List (Nat × Nat) :=
  [(35, 1), (37, 1), (39, 1), (41, 1), (43, 2), (47, 2), (51, 3), (59, 3), (67, 4), (83, 4), (99, 5), (131, 7), (259, 8), (515, 9),
    (1027, 10), (2051, 11), (4099, 12), (8195, 13), (16387, 14), (32771, 15), (65539, 16)]

def llCode (s : Nat) : Nat × Nat := if s < 16 then (s, 0) else llCodes.getD (s - 16) (0, 0)
def mlCode (s : Nat) : Nat × Nat := if s < 32 then (s + 3, 0) else mlCodes.getD (s - 32) (0, 0)

/-- The predefined distributions. -/
def llProbs : List Int :=
  [4, 3, 2, 2, 2, 2, 2, 2, 2, 2, 2, 2, 2, 1, 1, 1, 2, 2, 2, 2, 2, 2, 2, 2, 2, 3, 2, 1, 1, 1, 1, 1, -1, -1, -1, -1]
def mlProbs : List Int :=
  [1, 4, 3, 2, 2, 2, 2, 2, 2] ++ List.replicate 37 1 ++ List.replicate 7 (-1)
def offProbs : List Int :=
  [1, 1, 1, 1, 1, 1, 2, 2, 2] ++ List.replicate 15 1 ++ List.replicate 5 (-1)

/-- The literals section: literals, the table they leave, and the bytes behind. -/
def zLiterals (ctx : ZCtx) (b : List Byte) : Option (List Byte × Option HufTable × List Byte) :=
  match b with
  | [] => none
  | h :: _ =>
    let type := h.toNat % 4
    let fmt := h.toNat / 4 % 4
    if type < 2 then
      let hs := if fmt % 2 = 0 then 1 else if fmt = 1 then 2 else 3
      let n := fieldAt b 0 hs / (if fmt % 2 = 0 then 8 else 16)
      let r := b.drop hs
      let k := if type = 0 then n else 1
      if b.length < hs || r.length < k || 131072 < n then none
      else some (if type = 0 then r.take n else List.replicate n (r.headD 0), ctx.huf, r.drop k)
    else
      let hs := if fmt < 2 then 3 else fmt + 2
      let w := if fmt < 2 then 10 else if fmt = 2 then 14 else 18
      let v := fieldAt b 0 hs / 16
      let n := v % 2 ^ w
      let size := v / 2 ^ w
      let r := b.drop hs
      if b.length < hs || r.length < size || 131072 < n then none
      else
        let t := if type = 2 then hufRead (r.take size) else ctx.huf.map fun t => (t, r.take size)
        match t with
        | none => none
        | some (t, p) => (hufLiterals t (if fmt = 0 then 1 else 4) n p).map fun l => (l, some t, r.drop size)

/-- One of the three tables of the sequences section, by its mode. -/
def zTable (mode maxLog maxSym log : Nat) (probs : List Int) (held : Option FseTable) (b : List Byte) : Option (FseTable × List Byte) :=
  if mode = 0 then some (fseBuild log probs, b)
  else if mode = 1 then match b with
    | [] => none
    | x :: b => if maxSym < x.toNat then none else some (fseRle x.toNat, b)
  else if mode = 2 then fseRead maxLog maxSym b
  else held.map fun t => (t, b)

/-- The offset that an offset value names, and the three offsets after it. -/
def zOffset (v ll : Nat) (reps : List Nat) : Nat × List Nat :=
  let r (k : Nat) : Nat := reps.getD k 0
  if 3 < v then (v - 3, [v - 3, r 0, r 1])
  else
    match v - 1 + (if ll = 0 then 1 else 0) with
    | 0 => (r 0, reps)
    | 1 => (r 1, [r 1, r 0, r 2])
    | 2 => (r 2, [r 2, r 0, r 1])
    | _ => (r 0 - 1, [r 0 - 1, r 0, r 1])

/-- Executes the sequences: their literals, then their match, within `most` bytes of output. -/
def zExec (ctx : ZCtx) (ll off ml : FseTable) (most : Nat) : Nat → FseState → FseState → FseState → List Byte → List Byte → List Bool →
    Option (List Byte × List Byte × List Nat)
  | 0, _, _, _, _, _, _ => none
  | n + 1, x, y, z, lits, out, l =>
    if 31 < y.sym then none
    else match readHigh y.sym 0 l with
      | none => none
      | some (o, l) =>
        match readHigh (mlCode z.sym).2 0 l with
        | none => none
        | some (m, l) =>
          match readHigh (llCode x.sym).2 0 l with
          | none => none
          | some (k, l) =>
            let lit := (llCode x.sym).1 + k
            let r := zOffset (2 ^ y.sym + o) lit ctx.reps
            if lits.length < lit || most < out.length + lit then none
            else
              let out := (lits.take lit).reverse ++ out
              if r.1 = 0 || out.length < r.1 then none
              else match copyBack r.1 most ((mlCode z.sym).1 + m) out with
                | none => none
                | some out =>
                  if n = 0 then if l.isEmpty then some (out, lits.drop lit, r.2) else none
                  else match ll.next x l with
                    | none => none
                    | some (x, l) => match ml.next z l with
                      | none => none
                      | some (z, l) => match off.next y l with
                        | none => none
                        | some (y, l) => zExec { ctx with reps := r.2 } ll off ml most n x y z (lits.drop lit) out l

/-- The number of sequences and the bytes behind it. -/
def zCount (b : List Byte) : Option (Nat × List Byte) :=
  match b with
  | [] => none
  | x :: b =>
    if x.toNat < 128 then some (x.toNat, b)
    else if x.toNat < 255 then match b with
      | [] => none
      | y :: b => some ((x.toNat - 128) * 256 + y.toNat, b)
    else match b with
      | y :: z :: b => some (y.toNat + 256 * z.toNat + 0x7F00, b)
      | _ => none

/-- A compressed block. -/
def zBlock (ctx : ZCtx) (most : Nat) (out b : List Byte) : Option (List Byte × ZCtx) :=
  match zLiterals ctx b with
  | none => none
  | some (lits, huf, b) =>
    let ctx := { ctx with huf := huf }
    match zCount b with
    | none => none
    | some (0, b) => if b.isEmpty && decide (out.length + lits.length ≤ most) then some (lits.reverse ++ out, ctx) else none
    | some (n, b) => match b with
      | [] => none
      | m :: b =>
        let m := m.toNat
        if m % 4 ≠ 0 then none
        else match zTable (m / 64) 9 35 6 llProbs ctx.ll b with
          | none => none
          | some (ll, b) => match zTable (m / 16 % 4) 8 31 5 offProbs ctx.off b with
            | none => none
            | some (off, b) => match zTable (m / 4 % 4) 9 52 6 mlProbs ctx.ml b with
              | none => none
              | some (ml, b) =>
                let ctx := { ctx with ll := some ll, off := some off, ml := some ml }
                match (backBits b).bind ll.init with
                | none => none
                | some (x, l) => match off.init l with
                  | none => none
                  | some (y, l) => match ml.init l with
                    | none => none
                    | some (z, l) => match zExec ctx ll off ml most n x y z lits out l with
                      | none => none
                      | some (out, rest, reps) =>
                        if out.length + rest.length ≤ most then some (rest.reverse ++ out, { ctx with reps := reps }) else none

/-- The blocks of a frame: the output and the bytes behind the last. `window` is the window of the frame, which with Single_Segment_flag is
its content; no block gives more than it or 128 KiB. -/
def zBlocks (window : Nat) : Nat → ZCtx → List Byte → List Byte → Option (List Byte × List Byte)
  | 0, _, _, _ => none
  | f + 1, ctx, out, b =>
    let h := fieldAt b 0 3
    let type := h / 2 % 4
    let size := h / 8
    let r := b.drop 3
    let k := if type = 1 then 1 else size
    let most := min window 131072
    if b.length < 3 || r.length < k || type = 3 || most < size then none
    else
      let x := if type = 0 then some ((r.take size).reverse ++ out, ctx)
        else if type = 1 then some (List.replicate size (r.headD 0) ++ out, ctx)
        else zBlock ctx (out.length + most) out (r.take size)
      match x with
      | none => none
      | some (out, ctx) => if h % 2 = 1 then some (out, r.drop k) else zBlocks window f ctx out (r.drop k)

/-! ### XXH64, of which a Content_Checksum holds the low 32 bits -/

def xxP1 : Nat := 0x9E3779B185EBCA87
def xxP2 : Nat := 0xC2B2AE3D27D4EB4F
def xxP3 : Nat := 0x165667B19E3779F9
def xxP4 : Nat := 0x85EBCA77C2B2AE63
def xxP5 : Nat := 0x27D4EB2F165667C5

def w64 (v : Nat) : Nat := v % 2 ^ 64
def rotl64 (v k : Nat) : Nat := w64 (v * 2 ^ k) + v / 2 ^ (64 - k)
def xxRound (acc v : Nat) : Nat := w64 (rotl64 (w64 (acc + v * xxP2)) 31 * xxP1)
def xxMerge (acc v : Nat) : Nat := w64 ((acc ^^^ xxRound 0 v) * xxP1 + xxP4)

/-- Whole stripes of 32 bytes. -/
def xxStripes : Nat → Nat → Nat → Nat → Nat → List Byte → Nat × Nat × Nat × Nat × List Byte
  | 0, a, b, c, d, l => (a, b, c, d, l)
  | f + 1, a, b, c, d, l =>
    if l.length < 32 then (a, b, c, d, l)
    else xxStripes f (xxRound a (fieldAt l 0 8)) (xxRound b (fieldAt l 8 8)) (xxRound c (fieldAt l 16 8)) (xxRound d (fieldAt l 24 8)) (l.drop 32)

/-- The bytes behind the stripes. -/
def xxTail : Nat → Nat → List Byte → Nat
  | 0, h, _ => h
  | f + 1, h, l =>
    if 8 ≤ l.length then xxTail f (w64 (rotl64 (h ^^^ xxRound 0 (fieldAt l 0 8)) 27 * xxP1 + xxP4)) (l.drop 8)
    else if 4 ≤ l.length then xxTail f (w64 (rotl64 (h ^^^ w64 (fieldAt l 0 4 * xxP1)) 23 * xxP2 + xxP3)) (l.drop 4)
    else match l with
      | [] => h
      | x :: l => xxTail f (w64 (rotl64 (h ^^^ w64 (x.toNat * xxP5)) 11 * xxP1)) l

/-- XXH64 with seed 0. -/
def xxh64 (b : List Byte) : Nat :=
  let n := b.length
  let r := xxStripes (n / 32) (w64 (xxP1 + xxP2)) xxP2 0 (2 ^ 64 - xxP1) b
  let h := if n < 32 then xxP5
    else xxMerge (xxMerge (xxMerge (xxMerge (w64 (rotl64 r.1 1 + rotl64 r.2.1 7 + rotl64 r.2.2.1 12 + rotl64 r.2.2.2.1 18)) r.1) r.2.1) r.2.2.1)
      r.2.2.2.1
  let h := xxTail n (w64 (h + n)) r.2.2.2.2
  let h := w64 ((h ^^^ h / 2 ^ 33) * xxP2)
  let h := w64 ((h ^^^ h / 2 ^ 29) * xxP3)
  h ^^^ h / 2 ^ 32

/-! ### Dictionaries and frames (sections 5 and 3.1.1) -/

/-- A dictionary: its number, what it gives the first block, and its content, last byte first. -/
structure ZDict where
  id : Nat
  ctx : ZCtx
  content : List Byte
  deriving DecidableEq, Repr

/-- Reads a dictionary (section 5). -/
def zDict (b : List Byte) : Option ZDict :=
  if fieldAt b 0 4 ≠ 0xEC30A437 then none
  else match hufRead (b.drop 8) with
    | none => none
    | some (huf, r) => match fseRead 8 31 r with
      | none => none
      | some (off, r) => match fseRead 9 52 r with
        | none => none
        | some (ml, r) => match fseRead 9 35 r with
          | none => none
          | some (ll, r) =>
            let reps := [fieldAt r 0 4, fieldAt r 4 4, fieldAt r 8 4]
            let content := r.drop 12
            if r.length < 12 || reps.any (fun x => x = 0 || decide (content.length < x)) then none
            else some ⟨fieldAt b 4 4, ⟨some huf, some ll, some off, some ml, reps⟩, content.reverse⟩

/-- One Zstandard frame in the subset of R442 that takes exactly its payload: its content, and whether a Content_Checksum, where there is
one, agrees. -/
def zstdFrame (orig : Nat) (dict : Option (List Byte)) (b : List Byte) : Option (List Byte × Bool) :=
  let d := b.getD 4 0
  let single := d.getLsbD 5
  let ids := [0, 1, 2, 4].getD (d.toNat % 4) 0
  let sizes := [1, 2, 4, 8].getD (d.toNat / 64) 0
  let id := fieldAt b 5 ids
  let size := fieldAt b (5 + ids) sizes + (if sizes = 2 then 256 else 0)
  let held := dict.bind zDict
  if fieldAt b 0 4 ≠ 0xFD2FB528 || !single || d.getLsbD 3 || b.length < 5 + ids + sizes || size ≠ orig then none
  else if dict.isSome && held.isNone then none
  else if id ≠ 0 && held.all (fun x => decide (x.id ≠ id)) then none
  else
    let known := (held.map fun x => x.content).getD []
    match zBlocks orig (orig + b.length) ((held.map fun x => x.ctx).getD ZCtx.fresh) known (b.drop (5 + ids + sizes)) with
    | none => none
    | some (out, rest) =>
      let data := (out.take (out.length - known.length)).reverse
      if d.getLsbD 2 then
        if rest.length ≠ 4 then none else some (data, decide (fieldAt rest 0 4 = xxh64 data % 2 ^ 32))
      else if rest.isEmpty then some (data, true) else none

end Sys2Proof.Machine
end

