-- ==== Sys2Proof/Machine/Codec.lean ====
section
/-! DEFINITION. The Mumel block (11): its header, its three canonical Huffman tables, its bitstream, and decoding; and the frames of a
stream (R441, R442). -/

namespace Sys2Proof.Machine

/-! ### The tables of a Mumel block (R432, R434) -/

/-- The code lengths of a table: symbol 2k in bits [3:0] of byte k, symbol 2k + 1 in bits [7:4]. -/
def codeLens : List Byte → List Nat
  | [] => []
  | b :: l => b.toNat % 16 :: b.toNat / 16 :: codeLens l

/-- A valid table (R432). -/
def tableOk (lens : List Nat) : Bool :=
  lens.all (fun x => decide (x ≤ 12))
    && (((lens.map fun x => if x = 0 then 0 else 2 ^ (12 - x)).foldl (· + ·) 0 = 4096)
      || (lenCount lens 1 = 1 && lenCount lens 0 + 1 = lens.length)
      || lens.all (fun x => decide (x = 0)))

/-- The value of a LEN symbol with its extra bits (R434). -/
def readLen (lens : List Nat) (l : List Bool) : Option (Nat × List Bool) :=
  match readSym lens 12 0 0 l with
  | none => none
  | some (s, l) =>
    if s ≤ 15 then some (s, l) else (readBits (s - 15) l).map fun r => (2 ^ (s - 15) + 14 + r.1, r.2)

/-- The value of an OFF symbol with its extra bits (R434). -/
def readOff (lens : List Nat) (l : List Bool) : Option (Nat × List Bool) :=
  match readSym lens 12 0 0 l with
  | none => none
  | some (s, l) =>
    if s ≤ 3 then some (s + 1, l)
    else (readBits (s / 2 - 1) l).map fun r => ((2 + s % 2) * 2 ^ (s / 2 - 1) + 1 + r.1, r.2)

/-- Emits `n` literals; the output is kept last byte first. -/
def readLits (lens : List Nat) (orig : Nat) : Nat → List Byte → List Bool → Option (List Byte × List Bool)
  | 0, out, l => some (out, l)
  | n + 1, out, l =>
    if orig ≤ out.length then none
    else match readSym lens 12 0 0 l with
      | none => none
      | some (s, l) => readLits lens orig n (BitVec.ofNat 8 s :: out) l

/-- The loop of R435; `fuel` bounds its rounds, each of which emits at least four bytes. -/
def mumelLoop (lit len off : List Nat) (orig : Nat) : Nat → List Byte → List Bool → Option (List Byte × List Bool)
  | 0, _, _ => none
  | fuel + 1, out, l =>
    match readLen len l with
    | none => none
    | some (r, l) =>
      match readLits lit orig r out l with
      | none => none
      | some (out, l) =>
        if out.length = orig then some (out, l)
        else match readLen len l with
          | none => none
          | some (m, l) =>
            match readOff off l with
            | none => none
            | some (d, l) =>
              if out.length < d then none
              else match copyBack d orig (4 + m) out with
                | none => none
                | some out => if out.length = orig then some (out, l) else mumelLoop lit len off orig fuel out l

/-- Decodes a Mumel block, the check value left aside (R431 to R435): its original data, or none where it is not well formed. -/
def mumelDecode (b : List Byte) : Option (List Byte) :=
  let orig := fieldAt b 4 4
  let payload := fieldAt b 8 4
  let lit := codeLens ((b.drop 16).take 128)
  let len := codeLens ((b.drop 144).take 16)
  let off := codeLens ((b.drop 160).take 16)
  if fieldAt b 0 2 = 0x4D4D ∧ fieldAt b 2 1 = 1 ∧ fieldAt b 3 1 = 0 ∧ 1 ≤ orig ∧ orig ≤ 65536 ∧ 161 ≤ payload ∧ payload ≤ 65520
      ∧ 16 + payload ≤ b.length ∧ tableOk lit ∧ tableOk len ∧ tableOk off ∧ len.getD 31 0 = 0 then
    match mumelLoop lit len off orig (orig + 1) [] (byteBits ((b.drop 176).take (payload - 160))) with
    | some (out, rest) => if rest.length < 8 ∧ rest.all (fun x => !x) then some out.reverse else none
    | none => none
  else none

/-- The stored length of a block in bytes: header and payload. -/
def mumelSize (b : List Byte) : Nat := 16 + fieldAt b 8 4

/-- How decoding ends: its output, a failure of format or framing, or a check that fails. -/
inductive Decoded where
  | ok (data : List Byte)
  | malformed
  | badCheck
  deriving DecidableEq, Repr

/-- A block with its check (R438). -/
def mumelChecked (b : List Byte) : Decoded :=
  match mumelDecode b with
  | none => .malformed
  | some d => if crc32c d = fieldAt b 12 4 then .ok d else .badCheck

/-! ### Frames of a stream (R441 to R443) -/

/-- The frame at an offset of a stream. -/
inductive Frame where
  /-- the stream ends here -/
  | stop
  /-- a frame of `size` bytes that would give `orig` bytes -/
  | frame (orig size : Nat)
  | bad
  deriving DecidableEq, Repr

/-- Bytes between a frame and the next multiple of 16 are 0. -/
def padOk (range : List Byte) (upTo : Nat) : Bool :=
  let stop := (upTo + 15) / 16 * 16
  ((range.drop upTo).take (stop - upTo)).all fun b => decide (b = 0)

/-- Reads the frame header at an offset (R431, R441). -/
def frameAt (codec : Nat) (range : List Byte) (off : Nat) : Frame :=
  let f := range.drop off
  if f.length < 4 ∨ fieldAt f 0 4 = 0 then .stop
  else
    let orig := fieldAt f 4 4
    let size := 16 + fieldAt f 8 4
    if f.length < 16 ∨ f.length < size then .bad
    else if codec = 1 then
      if fieldAt f 0 2 = 0x4D4D ∧ fieldAt f 2 1 = 1 ∧ fieldAt f 3 1 = 0 ∧ 1 ≤ orig ∧ orig ≤ 65536 ∧ 177 ≤ size ∧ size ≤ 65536 then
        .frame orig size
      else .bad
    else
      let flags := fieldAt f 3 1
      if fieldAt f 0 2 = 0x5846 ∧ fieldAt f 2 1 = codec ∧ (flags = 0 ∨ (flags = 1 ∧ codec = 2)) ∧ 1 ≤ orig ∧ orig ≤ 262144
          ∧ 17 ≤ size ∧ size ≤ 262160 then .frame orig size
      else .bad

/-- Decodes a payload of the format numbered 2 (Zstandard), 3 (raw Deflate) or 4 (LZ4 block) in the subset of R442: its data, and whether
a check of its own agrees. R5 bounds the formats: single-segment Zstandard frames, so that the window is the frame's own at most 256 KiB,
raw Deflate streams, and LZ4 in its block format. -/
def decodePayload (codec orig : Nat) (dict : Option (List Byte)) (payload : List Byte) : Option (List Byte × Bool) :=
  if codec = 2 then zstdFrame orig dict payload
  else if codec = 3 then (inflate orig payload).map fun d => (d, true)
  else if codec = 4 then (lz4Block orig payload).map fun d => (d, true)
  else none

/-- Decodes the frame at an offset with the dictionary bound for it (R442, R443). -/
def decodeFrame (codec : Nat) (dict : Option (List Byte)) (range : List Byte) (off : Nat) : Decoded :=
  let f := range.drop off
  if codec = 1 then mumelChecked f
  else
    let orig := fieldAt f 4 4
    let payload := (f.drop 16).take (fieldAt f 8 4)
    let wantsDict := fieldAt f 3 1 = 1
    if wantsDict ∧ dict.isNone then .malformed
    else
      match decodePayload codec orig (if wantsDict then dict else none) payload with
      | none => .malformed
      | some (d, own) =>
        if d.length ≠ orig then .malformed
        else if own && crc32c d = fieldAt f 12 4 then .ok d else .badCheck

end Sys2Proof.Machine
end

