-- ==== Sys2Proof/Machine/Traffic.lean ====
section
/-! DEFINITION. What goes out on a link (03): the attributes of a request (R99, R100), the order of strict traffic (R101), translation
(R104, R105), MSI-X (R95), the words of replies, grants and events as they are written to host memory (R209, R223, R233), and what a
function reports through AER (R123). -/

namespace Sys2Proof.Machine

/-! ### Translations (R104, R105) -/

/-- A function caches translations: ATS Enable is set, and its quota is not 0 (HEp_FNATTR). -/
def State.atsOn (s : State) (fn : Nat) : Bool := s.flag .X_FN_ATS fn && s.get .HE_FNATTR_ATS_QUOTA fn ≠ 0

/-- An entry translates a range of its function. -/
def AtsEntry.covers (e : AtsEntry) (fn addr len : Nat) : Bool :=
  e.fn = fn && decide (e.addr ≤ addr) && decide (addr + len ≤ e.addr + e.size)

/-- A range has its translation in the cache. -/
def State.xlatHit (s : State) (fn : Nat) (addr : Option Nat) (len : Nat) : Bool :=
  match addr with
  | some a => s.atsOn fn && s.ats.any fun e => e.covers fn a len
  | none => false

/-- A range would use the cache and is not in it. -/
def State.xlatMiss (s : State) (fn : Nat) (addr : Option Nat) (len : Nat) : Bool :=
  s.atsOn fn && addr.isSome && !s.xlatHit fn addr len

/-- Marks the entries a lookup uses: the least recently used one is replaced (R104). -/
def State.touchAts (s : State) (fn : Nat) (addr : Option Nat) (len : Nat) : State :=
  match addr with
  | some a =>
    if s.xlatHit fn addr len then
      let n := s.get .X_ATS_SEQ
      ({ s with ats := s.ats.map fun e => if e.covers fn a len then { e with used := n } else e } : State).put .X_ATS_SEQ (n + 1)
    else s
  | none => s

/-- Asks the host for the translation of a range that is not in the cache. -/
def State.askXlat (s : State) (fn : Nat) (addr : Option Nat) (len : Nat) : State :=
  match addr with
  | some a => if s.xlatMiss fn addr len then s.emit (.xlatRequest fn a len) else s
  | none => s

/-! ### Sending (R99 to R102) -/

/-- Sends a request. Relaxed Ordering is set on writes of data of normal traffic where the function's enable is set, ID-Based Ordering on
normal traffic where its enable is (R100); strict traffic carries neither (R101). -/
def State.sendTlp (s : State) (fn : Nat) (addr : Option Nat) (len : Nat) (strict data : Bool) (o : Out) : State :=
  let hit := s.xlatHit fn addr len
  ((s.touchAts fn addr len).emit (.tlp fn addr strict (data && !strict && s.flag .X_FN_RO fn) (!strict && s.flag .X_FN_IDO fn) hit)).emit o

/-- An NVMe command that waits for an event, not for work: an Asynchronous Event Request, and a Set Features Power Management that waits
for the entry it started (R160). It holds up nothing (log entry 72). -/
def Cmd.waitsEvent (c : Cmd) : Bool :=
  c.nvme && c.q = 0 && c.st = .admitted && (c.op = 0x0C || (c.op = 0x09 && fieldAt c.raw 40 1 = 0x02))

/-- Lanes of a function's requests that belong to no queue: its events, and the Warden's mailbox (R99). -/
def laneEvents : Nat := 1024
def laneMailbox : Nat := 1025

/-- Requests of some lane: of a queue's commands, or of a function's events and mirrors. -/
def Hold.sameLane (x h : Hold) : Bool := x.nvme = h.nvme && x.fn = h.fn && x.q = h.q && x.cmd.isSome = h.cmd.isSome

/-- No command of a queue fetched before a number is outstanding: the queue's strict requests of that number may go out (R101). -/
def State.laneTurn (s : State) (nvme : Bool) (fn q id : Nat) : Bool :=
  !s.cmds.any fun c => decide (c.id < id) && c.nvme = nvme && c.fn = fn && c.q = q && !c.mute && !c.waitsEvent

/-- Nothing goes out before a strict request, among the commands outstanding and some requests that wait (R101). -/
def State.holdTurn (s : State) (h : Hold) (before : List Hold) : Bool :=
  match h.cmd with
  | none => !before.any h.sameLane
  | some n => s.laneTurn h.nvme h.fn h.q n
      && !(s.holds.any fun x => x.sameLane h && x.cmd.any fun m => decide (m < n))
      && !(before.any fun x => x.sameLane h && x.cmd = h.cmd)

/-- A reply's CTICK is the tick in which it is sent (R212). -/
def Out.stamped (tick : Nat) : Out → Out
  | .reply q e tag st fl crc _ info ph => .reply q e tag st fl crc (tick % 2 ^ 48) info ph
  | o => o

/-- Sends the waiting strict requests whose turn it is, at most `n` of them. -/
def State.flushHolds (s : State) : Nat → State
  | 0 => s
  | n + 1 =>
    match s.holds.find? fun h => h.ready && s.holdTurn h (s.holds.takeWhile fun x => x ≠ h) with
    | some h =>
      (({ s with holds := s.holds.erase h } : State).sendTlp h.fn h.addr h.len true h.data (h.out.stamped s.tick)).flushHolds n
    | none => s

/-- Sends a request, or holds it back: normal traffic goes out at once, untranslated where its translation is missing and asked for
(R105); strict traffic waits for its translation and its turn (R101, R105). -/
def State.send (s : State) (h : Hold) (strict : Bool) : State :=
  let miss := s.xlatMiss h.fn h.addr h.len
  let s := s.askXlat h.fn h.addr h.len
  if strict && (miss || !s.holdTurn h s.holds) then { s with holds := s.holds ++ [{ h with ready := !miss }] }
  else s.sendTlp h.fn h.addr h.len strict h.data h.out

/-- Sends a request of a command. -/
def State.sendFor (s : State) (c : Cmd) (strict : Bool) (addr : Option Nat) (len : Nat) (data : Bool) (o : Out) : State :=
  s.send ⟨some c.id, c.nvme, c.fn, c.q, addr, len, data, true, o⟩ strict

/-- Sends a request of a function that belongs to no command: an event, a head mirror, mailbox traffic. -/
def State.sendFn (s : State) (fn q : Nat) (strict : Bool) (addr len : Nat) (o : Out) : State :=
  s.send ⟨none, false, fn, q, some addr, len, false, true, o⟩ strict

/-- The Warden's fetch of a mailbox request has not gone out yet. -/
def State.fetchHeld (s : State) : Bool :=
  s.holds.any fun h => h.q = laneMailbox && (match h.out with
    | .mbxFetch .. => true
    | _ => false)

/-- Requests of a function that waited for a translation wait no more: those of a range it was asked for, or all of them. -/
def State.releaseHolds (s : State) (sel : Hold → Bool) : State :=
  let t : State := { s with holds := s.holds.map fun h => if sel h then { h with ready := true } else h }
  t.flushHolds t.holds.length

/-- Removes a command and lets the strict requests go out that waited for it. -/
def State.endCmd (s : State) (id : Nat) : State :=
  let t : State := { s with cmds := s.cmds.filter fun x => x.id ≠ id }
  t.flushHolds t.holds.length

/-- The address a data pointer gives an offset, where the block needs no list of the host for it: a PRP in the first page, or PRP Entry 2
where the transfer ends in the second page, and a Data Block descriptor of SGL 1 (R138). -/
def Cmd.ptrAddr (c : Cmd) (off total : Nat) : Option Nat :=
  let first := fieldAt c.raw 24 8
  if fieldAt c.raw 1 1 / 64 ≠ 0 then (if fieldAt c.raw 39 1 = 0 then some (first + off) else none)
  else
    let room := 4096 - first % 4096
    if off < room then some (first + off)
    else if total ≤ room + 4096 then some (fieldAt c.raw 32 8 + (off - room))
    else none

/-! ### MSI-X (R95) -/

/-- Signals an MSI-X vector: it is sent, or stands pending while it is masked. A function being disabled or frozen sends none (R113,
R120). Behind strict requests of the function that wait it waits too. -/
def State.sendMsix (s : State) (fn vector : Nat) : State :=
  if s.flag .X_FN_DISABLING fn || s.flag .X_FN_FROZEN fn || !s.flag .X_MSIX_EN fn then s
  else if s.flag .X_MSIX_FMASK fn || s.flag .X_MSIX_MASKED (fn * 2048 + vector) then s.putFlag .X_MSIX_PEND true (fn * 2048 + vector)
  else match s.holds.reverse.find? fun h => h.fn = fn with
    | some h => { s with holds := s.holds ++ [{ h with addr := none, len := 4, data := false, ready := true, out := .msix fn vector }] }
    | none => s.emit (.msix fn vector)

/-! ### The words written to host memory -/

/-- The 16 bytes of a reply (R209), the 32 of a transfer-ready packet (R223), the 16 of an event (R233), and the 8 of a head mirror
(R187); none for what has no such word. -/
def Out.word : Out → Option (List Byte)
  | .reply _ _ tag st fl crc ct info ph =>
    some (natLe 16 (tag % 2 ^ 16 + 2 ^ 16 * (st % 256) + 2 ^ 24 * (fl % 256) + 2 ^ 32 * (crc % 2 ^ 32) + 2 ^ 64 * (ct % 2 ^ 48)
      + 2 ^ 112 * (info % 2 ^ 15) + 2 ^ 127 * ph.toNat))
  | .grant _ _ tag num credit woff len srcOff ex ph =>
    some (natLe 32 (tag % 2 ^ 16 + 2 ^ 16 * (num % 256) + 2 ^ 24 * (credit % 256) + 2 ^ 32 * (woff % 2 ^ 32) + 2 ^ 64 * (len % 2 ^ 32)
      + 2 ^ 96 * (srcOff % 2 ^ 32) + 2 ^ 128 * (ex % 2 ^ 48) + 2 ^ 255 * ph.toNat))
  | .event _ _ type slot tag detail tick dropped ph =>
    some (natLe 16 (type % 256 + 2 ^ 8 * (slot % 64) + 2 ^ 15 * dropped.toNat + 2 ^ 16 * (tag % 2 ^ 16) + 2 ^ 32 * (detail % 2 ^ 16)
      + 2 ^ 48 * (tick % 2 ^ 48) + 2 ^ 127 * ph.toNat))
  | .mirror _ count => some (natLe 8 (count % 2 ^ 32))
  | _ => none

/-! ### AER (R122, R123) -/

/-- The conditions of R123's table, as the bits of X_AER: 0 receiver error, 1 poisoned posted write, 2 refused or poisoned completion,
3 completion timeout, 4 undefined BAR offset, 5 internal error, 6 surprise down (R122). -/
def aerLink : Nat := 0
def aerPoisoned : Nat := 1
def aerRefused : Nat := 2
def aerTimeout : Nat := 3
def aerUndefined : Nat := 4
def aerInternal : Nat := 5
def aerSurprise : Nat := 6

/-- The class R123 gives a condition; Surprise Down is fatal by the standard (log entry 72). -/
def aerClass (cond : Nat) : Nat :=
  if cond = aerLink then 0
  else if cond = aerPoisoned ∨ cond = aerUndefined then 3
  else if cond = aerInternal ∨ cond = aerSurprise then 2 else 1

/-- A function records a condition in its AER capability and reports it. -/
def State.reportAer (s : State) (fn cond : Nat) : State :=
  (s.put .X_AER (s.get .X_AER fn ||| 2 ^ cond) fn).emit (.aer fn cond (aerClass cond))

end Sys2Proof.Machine
end

