-- ==== Sys2Proof/Machine/Cmds.lean ====
section
/-! DEFINITION. Outstanding commands: finding and changing them, posting NVMe completion entries, releasing pins, and the disable
point (R113 to R117) that FLR, VF disable, link-down, queue and controller disables share. -/

namespace Sys2Proof.Machine

/-! ### Functions and links (R90) -/

/-- The link a function's traffic uses, as 4p + k: a PF's own, and a VF's PF's (R178). A VF belongs to the PF whose range holds
its pool entry (R91). -/
def State.fnPf (s : State) (fn : Nat) : Nat :=
  if fn < 8 then fn
  else ((List.range 8).find? fun pf => decide (s.get .HE_VFALLOC_FIRST pf ≤ fn - 8)
    && decide (fn - 8 < s.get .HE_VFALLOC_FIRST pf + s.get .HE_VFALLOC_COUNT pf)).getD 8

/-- The front core pair that serves a function's link (R89): FE(2k)/FE(2k+1) for PE0.Lk and PE1.Lk. -/
def State.frontPair (s : State) (fn : Nat) : Nat := s.fnPf fn % 4

/-- That pair has halted, so nothing of the link is fetched or taken in. -/
def State.pairHalted (s : State) (fn : Nat) : Bool := s.flag .X_CORE_HALTED (2 * s.frontPair fn)

/-- A function exists: its PF's link exists, and for a VF, VF Enable is set and NumVFs covers it (R90, R92). -/
def State.fnExists (s : State) (fn : Nat) : Bool :=
  let pf := s.fnPf fn
  pf < 8 && s.flag .HE_LINK_STS_EXISTS pf
    && (fn < 8 || (s.flag .X_FN_VFE pf && fn - 8 < s.get .HE_VFALLOC_FIRST pf + s.get .X_FN_NUMVFS pf && fn < 264))

/-- The VFs of a PF that exist. -/
def State.vfsOf (s : State) (pf : Nat) : List Nat :=
  if s.flag .X_FN_VFE pf then (List.range (s.get .X_FN_NUMVFS pf)).map fun i => 8 + s.get .HE_VFALLOC_FIRST pf + i else []

/-- Every function of a link. -/
def State.linkFns (s : State) (link : Nat) : List Nat := link :: s.vfsOf link

/-- Every function of the device. -/
def State.allFns (s : State) : List Nat := (List.range 8).flatMap s.linkFns

/-! ### Commands -/

def State.cmd? (s : State) (id : Nat) : Option Cmd := s.cmds.find? fun c => c.id = id

/-- Replaces the command of the same number. -/
def State.setCmd (s : State) (c : Cmd) : State := { s with cmds := s.cmds.map fun x => if x.id = c.id then c else x }

/-- Commands outstanding in the device, NVMe and Jexash together (R130). -/
def State.outstanding (s : State) : Nat := s.cmds.length

/-- A command stores host data: NVMe Write and Write Zeroes, WRITE, WRITE_PACK. -/
def Cmd.isWrite (c : Cmd) : Bool :=
  if c.nvme then c.q ≠ 0 && (c.op = 0x01 || c.op = 0x08) else c.op = 0x03 || c.op = 0x04

/-- A command reads: NVMe Read and Verify, READ, READ_UNPACK, GATHER. -/
def Cmd.isRead (c : Cmd) : Bool :=
  if c.nvme then c.q ≠ 0 && (c.op = 0x02 || c.op = 0x0C) else c.op = 0x01 || c.op = 0x02 || c.op = 0x0B

/-- The stored units a part reads. -/
def Part.places (p : Part) : List Nat :=
  match p.src with
  | .zero => []
  | .raw q => [q]
  | .packed l _ => l

/-- Places a command still waits for. -/
def Cmd.wants (c : Cmd) : List Nat :=
  ((c.parts.filter fun p => !p.done).flatMap Part.places).filter fun p => !c.arrived.contains p

/-- A read command still needs a place. -/
def Cmd.wantsAt (c : Cmd) (p : Nat) : Bool := c.isRead && (c.st = .admitted || c.st = .planned) && c.wants.contains p

/-- READ_UNPACK, and GATHER with a CODEC. -/
def Cmd.unpacks (c : Cmd) : Bool := !c.nvme && (c.op = 0x02 || c.op = 0x0B) && fieldAt c.raw 6 1 ≠ 0

/-- Output of an unpack delivered so far. -/
def Cmd.output (c : Cmd) : List Byte := c.got.flatMap fun x => x.2

/-- A byte of the data window lies in a grant. -/
def Grant.holds (g : Grant) (k : Nat) : Bool :=
  decide (g.fn * 2 ^ 26 + g.woff ≤ k) && decide (k < g.fn * 2 ^ 26 + g.woff + g.len)

/-- Some data of a command have arrived, in a completed grant or DMA read, or in an open grant's window. -/
def State.hasData (s : State) (c : Cmd) : Bool :=
  !c.got.isEmpty || s.grants.any fun g => g.cmd = c.id && s.dataWin.any fun x => g.holds x.1

/-! ### NVMe completion entries -/

def State.sq? (s : State) (fn qid : Nat) : Option SubQ := s.sqs.find? fun q => q.fn = fn && q.qid = qid
def State.cq? (s : State) (fn qid : Nat) : Option ComplQ := s.cqs.find? fun q => q.fn = fn && q.qid = qid

def State.setSq (s : State) (q : SubQ) : State :=
  { s with sqs := s.sqs.map fun x => if x.fn = q.fn ∧ x.qid = q.qid then q else x }

def State.setCq (s : State) (q : ComplQ) : State :=
  { s with cqs := s.cqs.map fun x => if x.fn = q.fn ∧ x.qid = q.qid then q else x }

/-- A completion queue has a free entry: NVMe leaves one entry unused. -/
def ComplQ.room (q : ComplQ) : Bool := (q.tail + 1) % q.size ≠ q.head

/-- The latency samples of a completed command (R581): in µs from intake or fetch. -/
def State.sampleLatency (s : State) (c : Cmd) : State :=
  let us := s.elapsedUs c.tick c.ph
  if c.isRead then s.sampleBoth c.cls (48 + c.cls) us
  else if c.isWrite then s.sample (if c.cls = 2 then 5 else 4) us
  else if c.nvme && c.q = 0 then s.sample 6 us
  else s

/-- A Jexash read that carries CLASS Gold (R215, R670). -/
def Cmd.asksGold (c : Cmd) : Bool := !c.nvme && c.isRead && fieldAt c.raw 1 1 % 4 = 0

/-- A command has a deadline: a read taken in with CLASS Gold keeps its own whether it is admitted, downgraded (R217) or refused. -/
def Cmd.hasDeadline (c : Cmd) : Bool := c.gold || c.downgraded || c.asksGold

/-- The first word of an I/O completion entry of a Gold queue carries DOWNGRADED and LATE (R134). -/
def State.goldDw0 (s : State) (c : Cmd) (r : Result) : Result :=
  match s.sq? c.fn c.q with
  | some sq =>
    if c.q ≠ 0 && sq.cls = 0 then
      { r with dw0 := (if c.downgraded then 1 else 0) + (if c.hasDeadline && decide (c.deadline < s.tick) then 2 else 0) }
    else r
  | none => r

/-- A queue's traffic is strict (R99, R211). -/
def State.jqStrict (s : State) (q : Nat) : Bool :=
  s.flag .JQ_QCFG_STRICT q || s.flag .HE_FNATTR_STRICT (s.get .JQ_QCFG_FN q)

/-- Traffic of a command is strict (R99). -/
def State.cmdStrict (s : State) (c : Cmd) : Bool :=
  if c.nvme then (c.fn = 0 && c.q = 0) || s.flag .HE_FNATTR_STRICT c.fn || (s.sq? c.fn c.q).any fun q => q.strict
  else s.jqStrict c.q

/-- Writes data of a command to an IOVA. -/
def State.sendDma (s : State) (c : Cmd) (addr : Nat) (data : List Byte) : State :=
  s.sendFor c (s.cmdStrict c) (some addr) data.length true (.dma c.fn addr data (s.cmdStrict c))

/-- Writes data of an NVMe command through its data pointer. -/
def State.sendPtr (s : State) (c : Cmd) (off : Nat) (data : List Byte) : State :=
  s.sendFor c (s.cmdStrict c) (c.ptrAddr off (off + data.length)) data.length true (.dmaPtr c.fn c.q c.tag off data (s.cmdStrict c))

/-- The completion entry of a command waits: for an entry of its completion queue, for FRONT to reload (R603), on strict traffic for the
commands fetched before it (R101), and an Abort for the entry of what it aborted (R156). -/
def State.cqeWaits (s : State) (c : Cmd) (r : Result) (cq : ComplQ) : Bool :=
  !cq.room || s.flag .X_FE_PAUSE || (s.cmdStrict c && !c.waitsEvent && !s.laneTurn true c.fn c.q c.id)
    || (c.q = 0 && c.op = 0x08 && r.dw0 % 2 = 0 && s.cmds.any fun t => t.nvme && t.fn = c.fn && t.q = fieldAt c.raw 40 2
      && t.tag = fieldAt c.raw 42 2 && t.id ≠ c.id && t.res.isSome)

/-- A command that ends in error has an entry in its controller's Error Information log, of 256 (R171), and is counted. -/
def State.logError (s : State) (c : Cmd) (r : Result) : State :=
  if r.sct = 0 && r.sc = 0 then s
  else
    let n := s.get .X_SM_ERR + 1
    let lba := if c.q ≠ 0 && (c.isRead || c.isWrite) then fieldAt c.raw 40 8 else 0
    let e : ErrEntry := ⟨c.fn, n, c.q, c.tag, r.sc + 256 * r.sct + if r.dnr then 2 ^ 14 else 0, lba, fieldAt c.raw 4 4⟩
    let s := if r.sct = 2 && r.sc = 0x81 then s.bump .X_SM_ME else s
    ({ s with errLog := (e :: s.errLog.filter fun x => x.fn = c.fn).take 256 ++ s.errLog.filter fun x => x.fn ≠ c.fn } : State).put .X_SM_ERR n

/-- The host commands and the data, in units of 512 bytes, that SMART / Health counts (R171): NVMe Read and Write. -/
def State.countHost (s : State) (c : Cmd) (r : Result) : State :=
  let ok := r.sct = 0 && r.sc = 0
  if c.q = 0 then s
  else if c.op = 0x02 then (s.bump .X_SM_RDC).put .X_SM_RD (s.get .X_SM_RD + if ok then c.bytes / 512 else 0)
  else if c.op = 0x01 then (s.bump .X_SM_WRC).put .X_SM_WR (s.get .X_SM_WR + if ok then c.bytes / 512 else 0)
  else s

/-- Posts the completion entry of a command and signals its vector; the command is then no longer outstanding. While the entry waits
`res` holds its result. A muted command posts nothing (R113). -/
def State.postCqe (s : State) (c : Cmd) (r : Result) : State :=
  if c.mute then s.endCmd c.id
  else
    match s.sq? c.fn c.q with
    | none => s.endCmd c.id
    | some sq =>
      match s.cq? c.fn sq.cqid with
      | none => s.endCmd c.id
      | some cq =>
        if s.cqeWaits c r cq then s.setCmd { c with res := some r, st := .ended }
        else
          let r := s.goldDw0 c r
          let s := ((s.sampleLatency c).countHost c r).logError c r
          let s := s.sendFor c (s.cmdStrict c) (some (cq.base + 16 * cq.tail)) 16 false
            (.cqe c.fn cq.qid cq.tail c.q sq.head c.tag r.sct r.sc r.dnr r.dw0 r.dw1 cq.phase)
          let s := if cq.irq then s.sendMsix c.fn cq.vector else s
          let wrap := cq.tail + 1 = cq.size
          (s.setCq { cq with tail := if wrap then 0 else cq.tail + 1, phase := if wrap then !cq.phase else cq.phase }).endCmd c.id

/-- Posts, oldest first, the completion entries of a function that waited and need to wait no more: for room, for their turn (R101), or
for the entry of an aborted command (R156). -/
def State.drainFn (s : State) (fn : Nat) : State :=
  forEach (s.cmds.filter fun c => c.nvme && c.fn = fn) s fun c s =>
    match c.res with
    | some r => if c.st = .ended then s.postCqe c r else s
    | none => s

/-- Completion entries go out that waited for room in a completion queue, and then those that waited for them. -/
def State.drainCq (s : State) (fn cqid : Nat) : State :=
  let t := forEach (s.cmds.filter fun c => c.nvme && c.fn = fn) s fun c s =>
    match s.sq? fn c.q, c.res with
    | some sq, some r => if sq.cqid = cqid && c.st = .ended then s.postCqe c r else s
    | _, _ => s
  t.drainFn fn

/-! ### Asynchronous events (R165, R170, R267) -/

/-- Sends an asynchronous event to a controller: it completes the oldest Asynchronous Event Request, or waits for one (one
event of a type and information waits at a time). -/
def State.asyncEvent (s : State) (fn type info lid : Nat) : State :=
  match s.cmds.find? fun c => c.nvme && c.fn = fn && c.q = 0 && c.op = 0x0C && c.st = .admitted with
  | some c => s.postCqe c { dw0 := type + 256 * info + 65536 * lid }
  | none =>
    if s.asyncWaiting.any fun e => e.1 = fn && e.2.1 = type && e.2.2.1 = info then s
    else { s with asyncWaiting := s.asyncWaiting ++ [(fn, type, info, lid)] }

/-! ### Pins (R207, R291) -/

/-- A line loses one pin count; an unlocked line that is STALE or FILLING stays so until its data land (R291). -/
def State.unpinLine (s : State) (node l : Nat) : State :=
  { s with lines := s.lines.map fun x => if x.node = node ∧ x.l = l then { x with pins := x.pins - 1 } else x }

/-- Releases a pin: every line it counts loses one. -/
def State.releasePin (s : State) (p : Pin) : State :=
  let s : State := { s with pins := s.pins.filter fun x => ¬(x.fn = p.fn ∧ x.id = p.id ∧ x.cmd = p.cmd) }
  forEach p.lines s fun x s => s.unpinLine x.1 x.2

/-- Releases every pin of a function, without events (R117). -/
def State.releaseFnPins (s : State) (fn : Nat) : State :=
  forEach (s.pins.filter fun p => p.fn = fn) s fun p s => s.releasePin p

/-! ### The disable point -/

/-- The commands a disable reaches (R113, R127, R131). -/
def Scope.covers (sc : Scope) (c : Cmd) : Bool :=
  match sc with
  | .fn f => c.fn = f
  | .controller f => c.nvme && c.fn = f
  | .sq f q => c.nvme && c.fn = f && c.q = q
  | .queue q => !c.nvme && c.q = q

/-- The waiting requests a disable reaches: none of them is sent after the disable point (R113). -/
def Scope.reaches (sc : Scope) (h : Hold) : Bool :=
  match sc with
  | .fn f => h.fn = f
  | .controller f => h.nvme && h.fn = f
  | .sq f q => h.nvme && h.fn = f && h.q = q
  | .queue q => !h.nvme && h.q = q

/-- The function a scope belongs to. -/
def Scope.fnOf (s : State) : Scope → Nat
  | .fn f | .controller f | .sq f _ => f
  | .queue q => s.get .JQ_QCFG_FN q

/-- A command that runs on to its media end after the disable point: it is planned, or it is a write some of whose data have
arrived (R113, R115). -/
def State.runsOn (s : State) (c : Cmd) : Bool := c.st = .planned || (c.isWrite && s.hasData c && c.st ≠ .taken)

/-- Commands at the disable point (R113): those not planned are dropped, the others run to their media end without DMA, reply
or completion; their open grants are withdrawn (R116), and a dropped command gives its write buffer back (R531). -/
def State.muteCmds (s : State) (sc : Scope) : State :=
  let gone := s.cmds.filter fun c => sc.covers c && !s.runsOn c
  let dead := s.grants.filter fun g => gone.any fun c => c.id = g.cmd
  let alloc := (gone.map fun c => if c.st = .admitted then c.alloc else 0).foldl (· + ·) 0
  ({ s with
    cmds := (s.cmds.filter fun c => !sc.covers c || s.runsOn c).map fun c =>
      if sc.covers c then { c with mute := true, revoked := false, st := .planned } else c
    grants := (s.grants.filter fun g => !gone.any fun c => c.id = g.cmd).map fun g =>
      if s.cmds.any fun c => c.id = g.cmd && sc.covers c then { g with closed := true } else g
    dataWin := s.dataWin.filter fun x => !dead.any fun g => g.holds x.1
    holds := s.holds.filter fun h => !sc.reaches h
    engJobs := s.engJobs.filter fun j => !gone.any fun c => c.id = j.cmd } : State).put .HU_DIRTY (s.get .HU_DIRTY - alloc)

/-- Drops every ATS entry of a function (R108). -/
def State.dropAts (s : State) (fn : Nat) : State := { s with ats := s.ats.filter fun e => e.fn ≠ fn }

/-- The Jexash queues bound to a function that are not DISABLED. -/
def State.fnQueues (s : State) (fn : Nat) : List Nat :=
  (List.range 1024).filter fun q => s.get .JQ_QSTS_STATE q ≠ 0 && s.get .JQ_QCFG_FN q = fn

/-- One queue starts its disable: STATE reads DISABLING until it completes (R237). -/
def State.startQueueDisable (s : State) (q : Nat) : State :=
  (s.put .JQ_QSTS_STATE 2 q).putFlag .JQ_QCMD_DISABLE true q

/-- The disable point of a scope (R113 to R117). `kind` says what disabled a function (X_FN_DISKIND). -/
def State.disablePoint (s : State) (sc : Scope) (kind : Nat := 0) : State :=
  let s := s.muteCmds sc
  match sc with
  | .fn f =>
    let s := (s.dropAts f).releaseFnPins f
    let s := forEach (s.fnQueues f) s fun q s => s.startQueueDisable q
    let s := (s.putFlag .X_FN_DISABLING true f).put .X_FN_DISKIND kind f
    -- PF0 loses the Owner role at its disable (R459), and a mailbox command at work gets no response (R462)
    if f = 0 then (s.putFlag .SEC_STS_OWNER false).putFlag .X_MBX_MUTE (decide (s.get .SEC_MBX_STS_STATE = 1)) else s
  | .controller f => s.putFlag .X_CTRL_DISABLING true f
  | .sq f q => match s.sq? f q with
    | some sq => s.setSq { sq with frozen := true }
    | none => s
  | .queue q => s.startQueueDisable q

/-- No planned command of a scope is left (R118). -/
def State.disableDone (s : State) (sc : Scope) : Bool := !s.cmds.any fun c => sc.covers c && c.st = .planned

/-- A function answers nothing on BAR0 and BAR4: it is being disabled, or its link is down (R118, R120). -/
def State.fnDark (s : State) (fn : Nat) : Bool :=
  s.flag .X_FN_DISABLING fn || s.flag .X_FN_FROZEN fn || !s.fnExists fn

end Sys2Proof.Machine
end

