-- ==== Sys2Proof/Machine/Faults.lean ====
section
/-! DEFINITION. Reset and power requests of units (R28 to R38, R667), chip resets (R46, R625), and the fault collector: events,
windows, severity, reactions, escalation and ERR_N (R564 to R577). Every family raises its faults through `State.raise`. -/

namespace Sys2Proof.Machine

/-! ### Wake events and the demanded mode (R158, R486, R494, R501) -/

/-- A wake event in Retain or Ready, or during an entry into them (R494, R501); the first one stays registered, as the UCB window of
the unit that abandons the entry for it and the reason of R496. -/
def State.wake (s : State) (unit reason : Nat) : State :=
  if (s.mode = mRetain || s.mode = mReady || s.get .PM_MODE_MOVE = 1) && s.get .X_WAKE = 0 then s.put .X_WAKE (unit + 4096 * reason)
  else s

def wakeCmd : Nat := 0x3
def wakeEvent : Nat := 0x9
def wakePreempt : Nat := 0xC

/-- The power states of the controllers with CC.EN = 1; the lowest number is in force (R158). -/
def State.powerState (s : State) : Option Nat :=
  match (List.range 264).filter fun f => s.get .X_CC f % 2 = 1 with
  | [] => none
  | f :: l => some (l.foldl (fun m x => min m (s.get .X_FEAT_PS x)) (s.get .X_FEAT_PS f))

/-- An enabled Jexash queue belongs to a function in D0 (R486). A queue in ERROR is still enabled. -/
def State.queueDemand (s : State) : Bool :=
  s.regs.any fun x => x.1.f = .JQ_QSTS_STATE && (x.2 = 1 || x.2 = 3) && !s.flag .X_FN_D3 (s.get .JQ_QCFG_FN x.1.i)

/-- The demanded mode D (R486). -/
def State.demand (s : State) : Nat :=
  let d := if s.queueDemand then mRun
    else match s.powerState with
      | some p => if p ≤ 2 then mRun else if p = 3 then mReady else mRetain
      | none => s.get .PM_CTL_IDLE_MODE
  let d := max d (s.get .PM_CTL_FLOOR)
  if d = mRun && decide (s.get .PM_THR_STS_S < 256) then mThrottle else d

/-- A change made of a state: if it changed D, that is a wake event (R501). -/
def State.noteDemand (s old : State) : State := if s.demand = old.demand then s else s.wake uChip wakeEvent

/-! ### Chip resets -/

/-- Sheds every host (R537): every function is disabled at once and intake is frozen. -/
def State.shedHosts (s : State) : State :=
  let s := s.putFlag .JQ_STS_FROZEN true
  forEach s.allFns s fun f s => s.disablePoint (.fn f) 7

/-- A chip reset is requested (R46, R625, R627): `source` is its CHP_RST_CAUSE.SOURCE. A cold request turns a pending warm one
into a cold one; several warm requests are one. While start-up has not reached step 9 there is nothing to shed. -/
def State.requestChipReset (s : State) (cold : Bool) (source : Nat) : State :=
  if s.get .X_CHIPRST = 0 then
    let s := (s.put .X_CHIPRST (if cold then 2 else 1)).put .X_CHIPRST_SRC source
    -- FC_STS.CR_VALID: the latest chip warm reset was a reaction
    let s := if source = 6 then s else s.putFlag .FC_STS_CR_VALID false
    if s.flag .X_READY then s.shedHosts else s
  else if cold then s.put .X_CHIPRST 2 else s

/-! ### Unit requests -/

/-- The requesters of R28. A former die's window takes no request (R18), and MAP refuses by type. -/
def resetPermitted (owner : Bool) (ag : Agent) (t : UnitType) : Bool :=
  match t with
  | .die | .engines | .channel | .cluster => owner || ag.isFe || ag.isMp || ag = .collector
  | .housekeeping | .front => ag.isMp || ag = .collector
  | .map => true
  | .warden => ag.isWd || ag = .collector
  | .chip => owner || ag.isMp || ag.isWd || ag = .collector

/-- The first failing check of R667 for a reset request, as its REASON. -/
def State.resetReason (s : State) (ag : Agent) (w : Nat) (useTick : Bool) : Option Nat :=
  match unitType w with
  | none => some 2
  | some t =>
    if !s.unitExists w then some 2
    else if !resetPermitted (s.isOwner ag) ag t then some 1
    else if t = .map then some 2
    else if t = .cluster && s.flag .X_CL_OOS (w - 0x108) && ag ≠ .collector then some 6
    else if useTick && !s.armOk (s.get .UCB_RESET_TICK w) then some 5
    else none

/-- The first failing check of R667 for a power request (R34). -/
def State.powerReason (s : State) (ag : Agent) (w target : Nat) (useTick : Bool) : Option Nat :=
  match unitType w with
  | none => some 2
  | some t =>
    if !s.unitExists w then some 2
    else if !(s.isOwner ag || ag.isFe || ag.isMp) then some 1
    else if !(t = .die || t = .channel || t = .engines || t = .cluster) || 3 < target then some 2
    else if t = .cluster && s.flag .X_CL_OOS (w - 0x108) && target ≠ 0 then some 6
    else if useTick && !s.armOk (s.get .UCB_POWER_TICK w) then some 5
    else none

/-- UCB_REQ_STS of a unit. -/
def State.setReq (s : State) (w state kind reason : Nat) : State :=
  ((s.put .UCB_REQ_STS_STATE state w).put .UCB_REQ_STS_KIND kind w).put .UCB_REQ_STS_REASON reason w

/-- A refusal or an access turned away: UCB_FAULT.REFUSED and UCB_CNT2 (R29, R33, R35). Every refusal does this (R667), also one at a
former die's window, whose counters R18 says hold their last values (DESIGN CHOICE, log entry 68). -/
def State.refuseAt (s : State) (w : Nat) : State := (s.putFlag .UCB_FAULT_REFUSED true w).bump .UCB_CNT2 w

/-- A request of a unit is PENDING or RUNNING. -/
def State.reqBusy (s : State) (w : Nat) : Bool := s.get .UCB_REQ_STS_STATE w = 1 || s.get .UCB_REQ_STS_STATE w = 2

/-- Withdraws what is armed for a unit's request. -/
def State.disarmUnit (s : State) (w : Nat) : State :=
  { s with armed := s.armed.filter fun x => match x.act with
      | .unitReset u _ => u ≠ w
      | .unitPower u _ => u ≠ w
      | _ => true }

/-- Pending power requests end REFUSED with reason MODE when a mode change begins (R37, R78 step 5). -/
def State.refusePower (s : State) : State :=
  let l := (s.regs.filter fun x => x.1.f = .UCB_REQ_STS_STATE && x.2 = 1).map fun x => x.1.i
  forEach (l.filter fun w => s.get .UCB_REQ_STS_KIND w = 2) s fun w s =>
    (((s.disarmUnit w).setReq w 4 2 3).putFlag .UCB_POWER_REQ_GO false w).refuseAt w

/-- A power request is RUNNING: a mode change waits for it (R37). -/
def State.powerRunning (s : State) : Bool :=
  s.regs.any fun x => x.1.f = .UCB_REQ_STS_STATE && x.2 = 2 && s.get .UCB_REQ_STS_KIND x.1.i = 2

/-- The unit and its subtree read RESETTING and not ready (R28, example in 01). -/
def State.markResetting (s : State) (w : Nat) : State :=
  forEach (s.subtree w) s fun u s => (s.putFlag .UCB_STATUS_RESETTING true u).putFlag .X_OWN_READY false u

/-- An accepted reset request becomes PENDING (R667); one without a tick shows at once in UCB_STATUS. -/
def State.acceptReset (s : State) (w : Nat) (immediate useTick : Bool) : State :=
  let s := ((s.setReq w 1 1 0).putFlag .UCB_RESET_REQ_GO true w).putFlag .X_REQ_IMMEDIATE immediate w
  if useTick then
    s.arm (s.get .UCB_RESET_TICK w) (if w = uChip then .chipReset false 5 else .unitReset w immediate)
  else if w = uChip then s else s.markResetting w

/-- A GO to UCB_RESET_REQ (R35, R667). Over a PENDING power request, which then ends REFUSED with reason RESET, the reset is accepted. -/
def State.submitReset (s : State) (ag : Agent) (w : Nat) (immediate useTick : Bool) : State :=
  let reason := s.resetReason ag w useTick
  if s.reqBusy w then
    if s.get .UCB_REQ_STS_KIND w = 2 && s.get .UCB_REQ_STS_STATE w = 1 then
      match reason with
      | none => ((((s.disarmUnit w).setReq w 4 2 4).putFlag .UCB_POWER_REQ_GO false w).refuseAt w).acceptReset w immediate useTick
      | some _ => s.refuseAt w
    else s.bump .UCB_CNT2 w
  else
    match reason with
    | none => s.acceptReset w immediate useTick
    | some r => (s.setReq w 4 1 r).refuseAt w

/-- A GO to UCB_POWER_REQ (R34, R35, R667). -/
def State.submitPower (s : State) (ag : Agent) (w target : Nat) (useTick : Bool) : State :=
  if s.reqBusy w then s.bump .UCB_CNT2 w
  else
    match s.powerReason ag w target useTick with
    | some r => (s.setReq w 4 2 r).refuseAt w
    | none =>
      let s := ((s.setReq w 1 2 0).putFlag .UCB_POWER_REQ_GO true w).put .X_PWR_PEND target w
      if useTick then s.arm (s.get .UCB_POWER_TICK w) (.unitPower w target) else s

/-! ### The fault collector -/

/-- The owner core of a source's event (R565): a cluster source's is the MD core that serves the channel concerned. -/
def srcOwner (src unit : Nat) : Nat :=
  if src < 160 ∨ (src - 160) % 20 = 0 then (srcRow src).owner
  else match unitType unit with
    | some .channel => servingCore (unit - 0x120)
    | some .die => servingCore (dieChannel (unit - 0x400))
    | _ => 8 + 6 * ((src - 160) / 20)

/-- The owner of a source's latest event: that of MEM_UE4 is the core concerned, which its DETAIL names (R565). -/
def State.eventOwner (s : State) (src unit : Nat) : Nat :=
  if src = 10 then s.get .FC_SRC_DETAIL_VALUE 10 else srcOwner src unit

/-- The class bit of UCB_FAULT for a class (R567). -/
def State.setClassBit (s : State) (cls unit : Nat) : State :=
  match cls with
  | 1 => s.putFlag .UCB_FAULT_CORRECTED true unit
  | 2 => s.putFlag .UCB_FAULT_CONTAINED true unit
  | 3 => s.putFlag .UCB_FAULT_FATAL true unit
  | _ => s

/-- Counts an event by class (R577). -/
def State.countClass (s : State) (cls : Nat) : State :=
  match cls with
  | 1 => s.bump .FC_CNT_CE
  | 2 => s.bump .FC_CNT_UC
  | 3 => s.bump .FC_CNT_FATAL
  | _ => s

/-- Some source of a class is unacknowledged (R573). -/
def State.classUnacked (s : State) (cls : Nat) : Bool :=
  (List.range 320).any fun x => (srcRow x).cls = cls && s.flag .FC_SRC_STATE_UNACK x

/-- ERR_N follows the unacknowledged sources with ERR_EN (R576). -/
def State.updateErrN (s : State) : State :=
  let on := (List.range 320).any fun x => s.flag .FC_SRC_STATE_UNACK x && s.flag .FC_SRC_CFG_ERR_EN x
  if on = s.flag .FC_STS_ERR_N then s else (s.putFlag .FC_STS_ERR_N on).emit (.pin "ERR_N" on)

/-- The Plyn fault event to PF0 (R170), when feature 0x0B bit 31 enables it. -/
def State.plynEvent (s : State) : State :=
  if s.get .X_FEAT_AEC 0 / 2 ^ 31 = 1 then s.asyncEvent 0 7 0 0xC2 else s

/-- An NMI; a halted core receives none (R566). -/
def State.nmi (s : State) (core : Nat) : State :=
  if s.flag .X_CORE_HALTED core then s else s.emit (.coreIrq core true)

/-- Carries out a reaction (R570, R571); in Hold-up, reactions 2 to 4 are held back (R572). -/
def State.react (s : State) (src unit r : Nat) : State :=
  let s := if 1 ≤ r then
      let s := if s.flag .FC_CTL_IRQ_EN then s.sendMsix 0 (s.get .FC_CTL_VECTOR) else s
      (s.emit (.coreIrq (s.eventOwner src unit) false)).wake unit wakeEvent
    else s
  if s.mode = mHoldup then s.putFlag .FC_SRC_STATE_HELD (decide (2 ≤ r)) src
  else
    let s := if 2 ≤ r then s.nmi (s.eventOwner src unit) else s
    let s := if 3 ≤ r && unit ≠ uChip && unit ≠ uMap then s.submitReset .collector unit true false else s
    if 4 ≤ r then
      (((s.put .FC_STS_CR_SRC src).putFlag .FC_STS_CR_VALID true).bump .FC_CNT_CHIPRESET).requestChipReset false 6
    else s

/-- A source becomes severe (R568): UNACK, THRESHOLD of the unit, and the reaction after escalation (R573). -/
def State.severe (s : State) (src unit : Nat) : State :=
  let cls := (srcRow src).cls
  let r := s.get .FC_SRC_CFG_REACT src
  let esc := cls ≠ 0 && s.classUnacked cls
  let r' := if esc then max r (min (r + 1) (s.get .FC_CTL_ESC_MAX)) else r
  let s := (s.putFlag .FC_SRC_STATE_SEVERE true src).putFlag .FC_SRC_STATE_UNACK true src
  let s := s.putFlag .UCB_FAULT_THRESHOLD true unit
  let s := ((s.put .FC_SRC_STATE_LAST_REACT r' src).putFlag .FC_SRC_STATE_ESCALATED esc src).putFlag .FC_SRC_STATE_HELD false src
  let s := if esc then s.bump .FC_CNT_ESCALATED else s
  let s := if s.flag .FC_SRC_CFG_ERR_EN src && !s.flag .FC_STS_ERR_N then
      (s.putFlag .FC_STS_ERR_N true).emit (.pin "ERR_N" true) else s
  s.react src unit r'

/-- One event of a source (R564, R568): status bits, DETAIL, counts, the unit's class bit, and the window. -/
def State.event (s : State) (src unit value : Nat) : State :=
  if srcReserved src then s
  else
    let fresh := !s.flag .FC_SRC_STATE_STICKY src
    let wasSevere := s.flag .FC_SRC_STATE_SEVERE src
    let s := s.putFlag .FC_SRC_STATE_STICKY true src
    let s := if fresh then s.put .FC_SRC_FIRST s.tick src else s
    let s := ((s.put .FC_SRC_DETAIL_UNIT unit src).put .FC_SRC_DETAIL_VALUE value src).put .FC_SRC_LAST s.tick src
    let s := (s.bump .FC_SRC_TOTAL src).countClass (srcRow src).cls
    let s := (s.setClassBit (srcRow src).cls unit).bump .UCB_CNT3 unit
    let s := if s.get .FC_SRC_WCNT_WCNT src = 0 then (s.put .FC_SRC_WSTART s.tick src).put .FC_SRC_WCNT_WCNT 1 src
      else s.put .FC_SRC_WCNT_WCNT (min (s.get .FC_SRC_WCNT_WCNT src + 1) 0xFFFFFFFE) src
    let now := !wasSevere && decide (s.get .FC_SRC_CFG_N src ≤ s.get .FC_SRC_WCNT_WCNT src)
    let s := if now then s.severe src unit else s
    if fresh || now then s.plynEvent else s

/-- Where a level source's condition holds: the unit, or for source 48 the function. -/
def levelPlace (src unit value : Nat) : Nat := 4096 * src + (if src = 48 then value else unit) % 4096

/-- A level source's condition holds at a unit, or for source 48 of a function. -/
def State.levelAt (s : State) (src place : Nat) : Bool := s.flag .X_SRC_AT (4096 * src + place)

/-- The condition of a source occurs: an event source raises an event each time, a level source when its condition becomes
present (R567): it may then hold at more places, and is present until it holds at none (DEDUCED, log entry 69). -/
def State.raise (s : State) (src unit value : Nat) : State :=
  if (srcRow src).level then
    let t := s.put .X_SRC_AT (value % 4096 + 1) (levelPlace src unit value)
    if s.flag .X_SRC_PRESENT src then t
    else (((t.putFlag .X_SRC_PRESENT true src).put .X_SRC_UNIT unit src).put .X_SRC_VALUE value src).event src unit value
  else s.event src unit value

/-- Both cores of a lockstep pair halt, and the pair's source is raised (R39): pairs 0 to 3 are the FE pairs, 4 is the Warden's. -/
def State.haltPair (s : State) (pair : Nat) : State :=
  let first := if pair = 4 then 62 else 2 * pair
  let s := (s.putFlag .X_CORE_HALTED true first).putFlag .X_CORE_HALTED true (first + 1)
  if pair = 4 then s.raise 80 uWarden 0 else s.raise (32 + pair) uFront pair

/-- The condition of a level source is gone, wherever it held. -/
def State.clearLevel (s : State) (src : Nat) : State :=
  ({ s with regs := s.regs.filter fun x => !(x.1.f = .X_SRC_AT && x.1.i / 4096 = src) } : State).putFlag .X_SRC_PRESENT false src

/-- The condition of a level source is gone at one place; the source is absent once it holds at no other, and else names one of them. -/
def State.clearLevelAt (s : State) (src place : Nat) : State :=
  if !s.levelAt src place then s
  else
    let s := s.put .X_SRC_AT 0 (4096 * src + place)
    match s.regs.find? fun x => x.1.f = .X_SRC_AT && x.1.i / 4096 = src with
    | none => s.putFlag .X_SRC_PRESENT false src
    | some x => (s.put .X_SRC_UNIT (if src = 48 then uFront else x.1.i % 4096) src).put .X_SRC_VALUE (x.2 - 1) src

/-- A source of a cluster (R565). -/
def cSrc (c k : Nat) : Nat := 160 + 20 * c + k

/-- The control-space decode source (R42, R43, R460). -/
def State.decodeFault (s : State) (ag : Agent) : State := s.raise 0 uChip ag.detail

/-- Closes a source's window (R568, R569). -/
def State.closeWindow (s : State) (src : Nat) : State :=
  ((s.put .FC_SRC_WCNT_WCNT 0 src).putFlag .FC_SRC_STATE_SEVERE false src).put .FC_SRC_WSTART 0 src

end Sys2Proof.Machine
end

