-- ==== Sys2Proof/Machine/Replies.lean ====
section
/-! DEFINITION. How a command ends, in both host protocols: the verdicts (R161, R213), Jexash replies and events (R209 to R212,
R221, R233, R234), strict order, and the latency samples of the recorder. -/

namespace Sys2Proof.Machine

/-! ### Verdicts: one ending, as a Jexash STATUS and as an NVMe status -/

def vSuccess : Result := {}
def vAborted : Result := { jx := 0x01, sct := 0, sc := 0x07, dnr := false }
def vUnknownTag : Result := { jx := 0x02, sct := 0, sc := 0x02, dnr := true }
def vInvalidOpcode : Result := { jx := 0x03, sct := 0, sc := 0x01, dnr := true }
def vInvalidField : Result := { jx := 0x04, sct := 0, sc := 0x02, dnr := true }
def vAccessDenied : Result := { jx := 0x05, sct := 2, sc := 0x86, dnr := true }
def vStale : Result := { jx := 0x06, sct := 0, sc := 0x0B, dnr := true }
def vOutOfRange : Result := { jx := 0x07, sct := 0, sc := 0x80, dnr := true }
def vWriteProtected : Result := { jx := 0x08, sct := 1, sc := 0x20, dnr := true }
def vMediaError : Result := { jx := 0x09, sct := 2, sc := 0x81, dnr := false }
def vRecovering : Result := { jx := 0x0A, sct := 7, sc := 0x82, dnr := false }
def vCheckMismatch : Result := { jx := 0x0B, sct := 7, sc := 0x81, dnr := false }
def vExpectMismatch : Result := { jx := 0x0C }
def vDecodeError : Result := { jx := 0x0D }
def vOverflow : Result := { jx := 0x0E }
def vNoShrink : Result := { jx := 0x0F }
def vLicenceClosed : Result := { jx := 0x10, sct := 7, sc := 0x84, dnr := false }
def vSanitizing : Result := { jx := 0x11, sct := 0, sc := 0x1D, dnr := false }
def vXferTimeout : Result := { jx := 0x12 }
def vDataError : Result := { jx := 0x13, sct := 0, sc := 0x04, dnr := false }
def vFormat : Result := { jx := 0x14, sct := 1, sc := 0x0B, dnr := true }
def vPinLimit : Result := { jx := 0x15 }
def vTooLate : Result := { jx := 0x16 }
def vTickPast : Result := { jx := 0x17, sct := 7, sc := 0x83, dnr := true }
def vRevoked : Result := { jx := 0x18, sct := 2, sc := 0x86, dnr := true }
def vNotReady : Result := { jx := 0x19, sct := 0, sc := 0x82, dnr := false }
def vSequence : Result := { sct := 0, sc := 0x0C, dnr := true }
def vNodeInStack : Result := { sct := 7, sc := 0x80, dnr := true }
def vInvalidLog : Result := { sct := 1, sc := 0x09, dnr := true }
def vInvalidQueue : Result := { sct := 1, sc := 0x01, dnr := true }
def vQueueSize : Result := { sct := 1, sc := 0x02, dnr := true }
def vInvalidVector : Result := { sct := 1, sc := 0x08, dnr := true }
def vCqInvalid : Result := { sct := 1, sc := 0x00, dnr := true }
def vQueueDeletion : Result := { sct := 1, sc := 0x0C, dnr := true }
def vInvalidFormat : Result := { sct := 1, sc := 0x0A, dnr := true }
def vAerLimit : Result := { sct := 1, sc := 0x05, dnr := true }
def vRightsFull : Result := { sct := 7, sc := 0x85, dnr := false }

/-! ### Events (R233, R234) -/

/-- Entries of a function's event ring. -/
def State.evEntries (s : State) (fn : Nat) : Nat := 16 * 2 ^ s.get .JQ_FEVT_CFG_EVT_LOG fn

/-- Posts an event to a function's event ring, or drops it (R234). A function that is being disabled, or is frozen,
gets none (R113, R120). -/
def State.postEvent (s : State) (fn type slot tag detail : Nat) : State :=
  if s.flag .X_FN_DISABLING fn || s.flag .X_FN_FROZEN fn then s
  else
    let posted := s.get .X_EV_POST fn
    if !s.flag .JQ_FEVT_CFG_EVT_EN fn || s.evEntries fn ≤ posted - s.get .X_EV_HEAD fn then
      (s.putFlag .JQ_FSTS_EVT_DROP true fn).putFlag .X_EV_LOST true fn
    else
      let n := s.evEntries fn
      let s := s.sendFn fn laneEvents (s.flag .HE_FNATTR_STRICT fn) (s.get .JQ_FEVT_BASE fn + 16 * (posted % n)) 16
        (.event fn (posted % n) type slot tag detail (s.tick % 2 ^ 48) (s.flag .X_EV_LOST fn) (decide (posted / n % 2 = 0)))
      let s := (s.put .X_EV_POST (posted + 1) fn).putFlag .X_EV_LOST false fn
      if s.flag .JQ_FEVT_CFG_IRQ_EN fn then s.sendMsix fn (s.get .JQ_FEVT_CFG_VECTOR fn) else s

/-! ### Jexash queues -/

def jqDisabled : Nat := 0
def jqEnabled : Nat := 1
def jqDisabling : Nat := 2
def jqError : Nat := 3

/-- The queue of a function's slot that is not DISABLED (R179, R235). -/
def State.slotQueue (s : State) (fn slot : Nat) : Option Nat :=
  (List.range 1024).find? fun q => s.get .JQ_QSTS_STATE q ≠ jqDisabled && s.get .JQ_QCFG_FN q = fn
    && s.get .JQ_QCFG_SLOT q = slot

/-- Entries of a queue's reply ring, of its transfer-ready ring, and its packet slots. -/
def State.rplEntries (s : State) (q : Nat) : Nat := 16 * 2 ^ s.get .JQ_QRING_RPL_LOG q
def State.xrEntries (s : State) (q : Nat) : Nat := 16 * 2 ^ s.get .JQ_QRING_XR_LOG q
def State.slotCount (s : State) (q : Nat) : Nat := 16 * 2 ^ s.get .JQ_QCFG_ENTRIES q

/-- Packets of a queue whose replies are not posted (R186), and OUTSTANDING, which shows them up to the 65,535 it can (log entry 74). -/
def State.putOutstanding (s : State) (q n : Nat) : State := (s.put .X_JQ_RESV n q).put .JQ_QSTS_OUTSTANDING (min n 65535) q

/-- The lowest pin ID a function does not hold. -/
def State.freePin (s : State) (fn : Nat) : Nat :=
  ((List.range 257).map (· + 1)).find? (fun i => !s.pins.any fun p => p.fn = fn && p.id = i) |>.getD 0

/-- The reply of a PIN names its pin (R205): the lowest ID its function does not hold now. -/
def State.namePin (s : State) (c : Cmd) (r : Result) : Result × State :=
  if c.op = 0x06 && r.jx = 0 && s.pins.any fun p => p.cmd = c.id && p.id = 0 then
    let i := s.freePin c.fn
    ({ r with info := i }, { s with pins := s.pins.map fun x => if x.cmd = c.id && x.id = 0 then { x with id := i } else x })
  else (r, s)

/-- Writes the reply of a command into its queue's ring (R209, R221) and signals the vector (JQ_QIRQ); the tag stays in use until
the producer consumes the reply (R189). -/
def State.writeReply (s : State) (c : Cmd) (r : Result) : State :=
  let (r, s) := s.namePin c r
  let q := c.q
  let late := c.hasDeadline && decide (c.deadline < s.tick)
  let posted := s.get .X_JQ_RPOST q
  let n := s.rplEntries q
  let flags := (if late then 1 else 0) + (if r.raw then 2 else 0) + (if c.downgraded then 4 else 0)
    + (if r.caught then 8 else 0) + (if r.missed then 16 else 0)
  let s := s.sendFor c (s.jqStrict q) (some (s.get .JQ_QRPL_BASE q + 16 * (posted % n))) 16 false
    (.reply q (posted % n) c.tag r.jx flags r.crc (s.tick % 2 ^ 48) r.info (decide (posted / n % 2 = 0)))
  let s := ((s.put .X_JQ_RPOST (posted + 1) q).putOutstanding q (s.get .X_JQ_RESV q - 1)).endCmd c.id
  let s := if late then
      ((s.bump .JQ_CNT_LATE).raise 53 uFront c.fn).sampleBoth 7 59 ((s.tick : Int) - c.deadline)
    else s
  let s := s.sampleLatency c
  let s : State := { s with tags := s.tags ++ [(q, c.tag)] }
  if s.flag .JQ_QIRQ_EN q then
    let k := s.get .X_JQ_IRQN q + 1
    if s.get .JQ_QIRQ_COALESCE q + 1 ≤ k || s.get .JQ_QSTS_OUTSTANDING q = 0 then
      (s.sendMsix c.fn (s.get .JQ_QIRQ_VECTOR q)).put .X_JQ_IRQN 0 q
    else s.put .X_JQ_IRQN k q
  else s

/-- Posts the replies of a strict queue that are next in intake order (R211), at most `n` of them. -/
def State.drainStrict (s : State) (q : Nat) : Nat → State
  | 0 => s
  | n + 1 =>
    match s.cmds.find? fun c => !c.nvme && c.q = q with
    | some c => match c.res with
      | some r => if c.st = .ended && !s.flag .X_FE_PAUSE then (s.writeReply c r).drainStrict q n else s
      | none => s
    | none => s

/-- Ends a command with a result: its one reply or completion entry, or none where it is muted (R113, R114, R210). While FRONT reloads,
replies and completion entries wait (R603, R640). A refusal for lack of a right is counted (12, SEC_CNT_DENIED). -/
def State.finish (s : State) (c : Cmd) (r : Result) : State :=
  let s := if r.jx = vAccessDenied.jx then s.bump .SEC_CNT_DENIED else s
  let r := if c.revoked then vRevoked else r
  -- an unpack has delivered what it put out so far, however it ends (R200)
  let r := if c.unpacks then { r with crc := crc32c c.output } else r
  let mute := c.mute && !c.revoked
  let c := { c with mute := mute }
  if mute then s.endCmd c.id
  else if c.nvme then (s.postCqe c r).drainFn c.fn
  else if s.jqStrict c.q || s.flag .X_FE_PAUSE then
    (s.setCmd { c with res := some r, st := .ended }).drainStrict c.q s.cmds.length
  else s.writeReply c r

/-- Replies and completion entries that a pause of FRONT held back are posted, oldest first (R603). -/
def State.postHeld (s : State) : State :=
  forEach (s.cmds.filter fun c => c.st = .ended && c.res.isSome) s fun c s =>
    match s.cmd? c.id, c.res with
    | some c, some r =>
      if c.nvme then s.postCqe c r
      else if s.jqStrict c.q then s.drainStrict c.q s.cmds.length
      else s.writeReply c r
    | _, _ => s

/-- A muted command has reached its end (R113): it goes, or, revoked, has its one reply (R483). -/
def State.endMuted (s : State) (c : Cmd) : State := s.finish c vRevoked

/-- The first command of a queue that FENCE holds back: a FENCE taken in earlier that has not replied holds every later command
of its queue but ABORT and TIME (R232). -/
def State.fenced (s : State) (c : Cmd) : Bool :=
  !c.nvme && c.op ≠ 0x08 && c.op ≠ 0x0A
    && s.cmds.any fun x => !x.nvme && x.q = c.q && x.op = 0x09 && x.id < c.id

/-- A queue enters ERROR (R183, R238): the code, a QUEUE_ERROR event, the count and the JQ_ERROR source. With RING_FAULT and
HEAD the disable rules apply to the commands outstanding; otherwise a GATHER that still waits for continuations is answered (R199). -/
def State.queueError (s : State) (q code tag : Nat) : State :=
  let fn := s.get .JQ_QCFG_FN q
  let s := (s.put .JQ_QSTS_STATE jqError q).put .JQ_QSTS_ERR code q
  let s := if code = 5 || code = 6 then s.muteCmds (.queue q)
    else match s.cmds.find? fun c => !c.nvme && c.q = q && decide (0 < c.contLeft) with
      | some c => s.finish { c with contLeft := 0 } vInvalidField
      | none => s
  let s := (s.postEvent fn 2 (s.get .JQ_QCFG_SLOT q) tag code).bump .JQ_CNT_QERR
  s.raise 51 uFront q

end Sys2Proof.Machine
end

