-- ==== Sys2Proof/Machine/Access.lean ====
section
/-! DEFINITION. Who may write which block of control space (R46, R49, R124, R240, R258, R310, R354, R425, R455, R460, R514, R542,
R562, R578, R588 and the rules of the other register sections), and the lock rule (R7, R43). -/

namespace Sys2Proof.Machine

/-- The groups of writers that the register sections name. -/
inductive Writers where
  /-- PF0 with the Owner role, MP cores, the Warden -/
  | ownerMpWd
  /-- PF0 with the Owner role, FE cores, MP cores -/
  | ownerFeMp
  /-- PF0 with the Owner role, MP cores -/
  | ownerMp
  /-- PF0 with the Owner role, the Warden -/
  | ownerWd
  /-- PF0 with the Owner role, the MP cores, the MD cores of a cluster -/
  | ownerMpMd (cluster : Nat)
  /-- the Warden alone -/
  | wd
  /-- the MD cores of a cluster -/
  | md (cluster : Nat)
  /-- any agent (PF0 with the Owner role or any core) -/
  | any
  /-- PF0, with or without the role (SEC_MBX_) -/
  | pf0
  deriving DecidableEq, Repr

/-- The MD cores of a cluster (01, Cores). -/
def mdOf (c : Nat) (ag : Agent) : Bool := ag.isMd && decide (ag.ix - 8 < 6 * c + 6) && decide (6 * c ≤ ag.ix - 8)

/-- The agent belongs to a group of writers. -/
def State.mayWrite (s : State) (ag : Agent) (g : Writers) : Bool :=
  match g with
  | .ownerMpWd => s.isOwner ag || ag.isMp || ag.isWd
  | .ownerFeMp => s.isOwner ag || ag.isFe || ag.isMp
  | .ownerMp => s.isOwner ag || ag.isMp
  | .ownerWd => s.isOwner ag || ag.isWd
  | .ownerMpMd c => s.isOwner ag || ag.isMp || mdOf c ag
  | .wd => ag.isWd
  | .md c => mdOf c ag
  | .any => true
  | .pf0 => ag = .pf0

/-- A write by `ag` to a register of a group: PF0 without the Owner role is turned away with a decode fault (R460), any other
agent outside the group in silence; otherwise the write is `act`. -/
def State.guardWrite (s : State) (ag : Agent) (g : Writers) (act : State → State) : State :=
  if ag = .pf0 && !s.isOwner ag && g ≠ .pf0 then s.decodeFault ag
  else if s.mayWrite ag g then act s else s

/-- The instance a field is locked under: the fields of FC_SRC_CFG and FC_SRC_WIN are locked at their one offset, whatever source
is selected. -/
def Field.lockIx (f : Field) (i : Nat) : Nat :=
  match f with
  | .FC_SRC_CFG_ERR_EN | .FC_SRC_CFG_REACT | .FC_SRC_CFG_N | .FC_SRC_WIN_W => 0
  | _ => i

/-- A field is locked against an agent (R7): the Warden locked it, and the agent is not the Warden. -/
def State.lockedFor (s : State) (ag : Agent) (f : Field) (i : Nat := 0) : Bool := !ag.isWd && s.locks.contains (f, f.lockIx i)

/-- Writes to LK fields under their locks (R7, R43): `act` runs when no listed field is locked against the agent; a locked one
turns the write away and raises the decode source. -/
def State.unlessLocked (s : State) (ag : Agent) (fs : List Field) (act : State → State) (i : Nat := 0) : State :=
  if fs.any (fun f => s.lockedFor ag f i) then s.decodeFault ag else act s

/-! ### An access and the unit it meets (R33, R491) -/

/-- The units whose registers lie in the power domain of a unit: CORE, FRONT, MAP, WARDEN, or a cluster with what is below it. -/
def State.domainOf (s : State) (w : Nat) : List Nat :=
  match unitCluster w with
  | some c => s.subtree (uCluster c)
  | none => if w = uChip ∨ w = uFront ∨ w = uMap ∨ w = uWarden then [w] else []

/-- The operating mode gives every unit of a list a power state. -/
def State.gateAll (s : State) (l : List Nat) (p : Nat) : State := forEach l s fun u s => s.put .X_MODE_POWER p u

/-- A unit that is CLOCK_GATED or in RETAIN wakes (R33, R491): what was requested of it and of its ancestors, and what the operating
mode gives its domain. -/
def State.wakeUnit (s : State) (w : Nat) : State :=
  let s := forEach (w :: unitAncestors w) s fun u s =>
    if s.get .X_PWR_TARGET u = 1 ∨ s.get .X_PWR_TARGET u = 2 then s.put .X_PWR_TARGET 0 u else s
  s.gateAll (s.domainOf w) 0

/-- What an access meets at its unit (R33): `none` where the unit is OFF and turns the access away; otherwise the state in which it
takes place, after a wake and a stall where the unit was not ON (log entry 51). The stall's length is what the environment gives, else
free. -/
def State.reachUnit (s : State) (w : Nat) (stallNs : Option Nat) : Option State :=
  let p := s.unitPower w
  if p = 0 then some s
  else if p = 3 then none
  else
    let (n, s) := stallNs.elim s.takeFree fun n => (n, s)
    some (((s.wakeUnit w).bump .UCB_CNT4 w).add .UCB_CNT5 n w)

/-- A command that is a write to a functional register of a unit (R33): what the unit lets through has its effect. -/
def State.atUnit (s : State) (w : Nat) (act : State → State) : State :=
  match s.reachUnit w none with
  | none => s.refuseAt w
  | some s => act s

/-- A command that is a read of `width` bytes of a functional register of a unit (R33): one that is OFF answers all ones. -/
def State.readAt (s : State) (w width : Nat) (act : State → Nat × State) : Nat × State :=
  match s.reachUnit w none with
  | none => (2 ^ (8 * width) - 1, s.refuseAt w)
  | some s => act s

/-- A write of a value to a register's RW fields: a locked LK field keeps its value and raises the decode source once for the
write (R7, R43). -/
def State.writeRw (s : State) (ag : Agent) (r : Reg) (v : Nat) (i : Nat := 0) (a : Nat := 0) : State :=
  let rw := r.desc.fields.filter fun x => x.acc = .rw
  let locked (x : Slice) : Bool := x.lk && s.lockedFor ag x.f i
  let s' := forEach (rw.filter fun x => !locked x) s fun x s => s.put x.f (bits v x.hi x.lo) i a
  if rw.any locked then s'.decodeFault ag else s'

end Sys2Proof.Machine
end

