-- ==== Sys2Proof/Machine/Tick.lean ====
section
/-! DEFINITION. The tick's lock sources, its period change, its snapshot, and the plan tables of the dies (02). The boundary, the
at-tick actions, cancelling and the planner's rows are in the files after the media's. -/

namespace Sys2Proof.Machine

/-! ### The count frame (R56, R57) -/

/-- One step of CRC-8 with polynomial 0x07. -/
def crc8Bit (c : Nat) (b : Bool) : Nat :=
  let top := decide (128 ≤ c) != b
  let c := 2 * c % 256
  if top then c ^^^ 0x07 else c

/-- The bits of a number, least significant first. -/
def lsbBits : Nat → Nat → List Bool
  | 0, _ => []
  | n + 1, v => bit v 0 :: lsbBits n (v / 2)

/-- The number that bits spell, least significant first. -/
def bitsNat : List Bool → Nat
  | [] => 0
  | b :: l => (if b then 1 else 0) + 2 * bitsNat l

/-- CRC-8 over bits [79:0] of a frame, initial value 0. R56 does not say in which order they enter it: the model feeds them in the order
sent, least significant first (DESIGN CHOICE, log entry 70). -/
def crc8 (l : List Bool) : Nat := l.foldl crc8Bit 0

/-- The 88 bits of a frame, in the order sent: count, period, reserved bits, CRC. -/
def countFrame (count period : Nat) : List Bool :=
  let body := lsbBits 64 count ++ lsbBits 10 period ++ lsbBits 6 0
  body ++ lsbBits 8 (crc8 body)

/-- A frame carries a correct CRC. -/
def frameOk (f : List Bool) : Bool := f.length = 88 && bitsNat (f.drop 80) = crc8 (f.take 80)

/-! ### Lock (R50 to R55, R58) -/

def lockFree : Nat := 0
def lockAcquiring : Nat := 1
def lockLocked : Nat := 2
def lockHoldover : Nat := 3

/-- A LOCKED source is lost (R51). -/
def State.loseSource (s : State) : State :=
  let s := ((s.put .TK_STS_LOCK lockHoldover).putFlag .TK_STS_SRC_LOST true).put .X_TICK_FRAMES 0
  s.raise 1 uChip (s.get .TK_SRC_SOURCE)

/-- The source's boundaries stand `d` ns after the J96's (R52, R53): while LOCKED the current tick is corrected by at most 500 ns either way;
in ACQUIRING it is lengthened, once, to the next boundary of the source. How much of a phase error one tick takes R52 leaves open: the
model takes all it may (DESIGN CHOICE, log entry 70). -/
def State.correctPhase (s : State) (d : Int) : State :=
  let p : Int := ((1000 * s.get .TK_PERIOD_PERIOD : Nat) : Int)
  let ahead := (d % p).toNat
  if s.get .TK_STS_LOCK = lockAcquiring then
    if s.flag .X_TICK_ALIGNED then s else (s.put .X_TICK_EXT (min ahead 999999)).putFlag .X_TICK_ALIGNED true
  else if s.get .TK_STS_LOCK ≠ lockLocked then s
  else if 2 * ahead ≤ p.toNat then (s.put .X_TICK_EXT (min ahead 500)).put .X_TICK_CUT 0
  else (s.put .X_TICK_EXT 0).put .X_TICK_CUT (min (p.toNat - ahead) 500)

/-- A valid frame of the period (R57): it counts toward acquisition, and its edge corrects the phase. -/
def State.takeFrame (s : State) (edgeNs : Int) (count : Nat) : State :=
  ((((s.clearLevel 3).put .X_TICK_FRAMES (min (s.get .X_TICK_FRAMES + 1) 255)).putFlag .X_TICK_SEEN true).put .X_TICK_SRCCNT
    count).correctPhase edgeNs

/-- TICK_IN_FRAME (R53, R57, R58): an edge is valid within ±2 µs of the expected boundary with a correct CRC. A frame of another period
sets MISMATCH: it prevents lock in ACQUIRING and causes HOLDOVER in LOCKED. In ACQUIRING, before the tick is aligned, the first edge with
a correct frame aligns it, wherever it stands (DEDUCED, log entry 70). -/
def execTickInFrame (edgeNs : Int) (frame : List Bool) (s : State) : Host.Outcome State Fault Refusal :=
  if s.get .TK_SRC_SOURCE ≠ 1 then .next s
  else if decide (-2000 ≤ edgeNs) && decide (edgeNs ≤ 2000) && frameOk frame then
    let period := bitsNat ((frame.drop 64).take 10)
    if period ≠ s.get .TK_PERIOD_PERIOD then
      let s := ((s.putFlag .TK_STS_MISMATCH true).raise 3 uChip period).put .X_TICK_FRAMES 0
      .next (if s.get .TK_STS_LOCK = lockLocked then s.loseSource else s)
    else .next (s.takeFrame edgeNs (bitsNat (frame.take 64)))
  else if frameOk frame && s.get .TK_STS_LOCK = lockAcquiring && !s.flag .X_TICK_ALIGNED
      && bitsNat ((frame.drop 64).take 10) = s.get .TK_PERIOD_PERIOD then .next (s.correctPhase edgeNs)
  else .next (s.bump .UCB_CNT2 uHousekeeping)

/-- How far the J96's phase stands from PTM master time (R50): the boundaries of the source follow the J96's by this. PTM time before
TK_PTM_EPOCH gives count 0: the spec is silent on it (DESIGN CHOICE, log entry 70). -/
def State.ptmOffset (s : State) (masterNs : Nat) : Int :=
  (s.get .TK_PHASE_PHASE : Int) - (((masterNs : Int) - (s.get .TK_PTM_EPOCH : Int)) % ((1000 * s.get .TK_PERIOD_PERIOD : Nat) : Int))

/-- PTM_EXCHANGE (R50): an exchange on the selected link counts toward acquisition, a failed one toward loss. -/
def execPtmExchange (port link : Nat) (ok : Bool) (masterNs : Nat) (s : State) : Host.Outcome State Fault Refusal :=
  if s.get .TK_SRC_SOURCE = 2 && s.get .TK_SRC_PTM_PORT = port && s.get .TK_SRC_PTM_LINK = link then
    if ok then
      .next ((((s.put .X_TICK_FRAMES (min (s.get .X_TICK_FRAMES + 1) 255)).put .X_MISSES 0).put .X_TICK_SRCCNT
        ((masterNs - s.get .TK_PTM_EPOCH) / (1000 * s.get .TK_PERIOD_PERIOD))).correctPhase (s.ptmOffset masterNs))
    else .next ((s.put .X_TICK_FRAMES 0).put .X_MISSES (s.get .X_MISSES + 1))
  else .next s

/-- Calendar time in µs since 2000-01-01. -/
def State.calUs (s : State) : Nat := s.calRaw / 65536 * 1000000 + s.calRaw % 65536 * 1000000 / 65536

/-- The selected source has been seen long enough to lock (R50); the 2 s of the calendar are the sender's to wait. -/
def State.sourceAcquired (s : State) : Bool :=
  match s.get .TK_SRC_SOURCE with
  | 1 => decide (8 ≤ s.get .X_TICK_FRAMES)
  | 2 => decide (4 ≤ s.get .X_TICK_FRAMES)
  | 3 => s.flag .CAL_STS_VALID
  | _ => false

/-- The count the source gives (R50). -/
def State.sourceCount (s : State) : Nat :=
  if s.get .TK_SRC_SOURCE = 3 then s.calUs / s.get .TK_PERIOD_PERIOD else s.get .X_TICK_SRCCNT

/-- A LOCKED source meets its loss criterion (R50). -/
def State.sourceMissed (s : State) : Bool :=
  match s.get .TK_SRC_SOURCE with
  | 1 => decide (3 ≤ s.get .X_MISSES)
  | 2 => decide (4 ≤ s.get .X_MISSES)
  | 3 => !s.flag .CAL_STS_VALID
  | _ => false

/-- TICK_SOURCE_LOST (R51). -/
def execTickSourceLost (s : State) : Host.Outcome State Fault Refusal :=
  .next (if s.get .TK_STS_LOCK = lockLocked && s.sourceMissed then s.loseSource else s)

/-- TK_SRC_WRITE (R85): a change of SOURCE or of the PTM link restarts acquisition; SOURCE 4 to 7 leaves the register unchanged. -/
def State.writeTkSrc (s : State) (ag : Agent) (v : Nat) : State :=
  s.guardWrite ag .ownerMpWd fun s =>
    if 4 ≤ bits v 2 0 then s.unlessLocked ag [.TK_SRC_SOURCE, .TK_SRC_ADOPT, .TK_SRC_PTM_PORT, .TK_SRC_PTM_LINK] fun s => s
    else
      let t := s.writeRw ag .TK_SRC v
      if t.get .TK_SRC_SOURCE = s.get .TK_SRC_SOURCE && t.get .TK_SRC_PTM_LINK = s.get .TK_SRC_PTM_LINK
          && t.get .TK_SRC_PTM_PORT = s.get .TK_SRC_PTM_PORT then t
      else
        ((((t.put .TK_STS_LOCK (if t.get .TK_SRC_SOURCE = 0 then lockFree else lockAcquiring)).put .X_TICK_FRAMES 0).put
          .X_MISSES 0).putFlag .X_TICK_ALIGNED false).clearLevel 1

def execTkSrcWrite (ag : Agent) (value : Nat) (s : State) : Host.Outcome State Fault Refusal :=
  .next (s.atUnit uChip fun s => s.writeTkSrc ag value)

/-! ### Period change and snapshot -/

/-- A GO to TK_NEXT with a period (02, TK_NEXT): an armed change keeps its place, and the new one is REFUSED_BUSY. -/
def State.writeTkNext (s : State) (ag : Agent) (period : Nat) (go : Bool) : State :=
  s.guardWrite ag .ownerMpWd fun s =>
    s.unlessLocked ag [.TK_NEXT_GO, .TK_NEXT_NEXT_PERIOD] fun s =>
      if s.flag .TK_NEXT_GO then (if go then s.put .TK_STS_NEXT_STATE 5 else s)
      else
        let s := s.put .TK_NEXT_NEXT_PERIOD period
        if !go then s
        else if period < s.get .CHP_CAP7_TICK_MIN ∨ s.get .CHP_CAP7_TICK_MAX < period then s.put .TK_STS_NEXT_STATE 3
        else if !s.armOk (s.get .TK_NEXT_TICK) then s.put .TK_STS_NEXT_STATE 4
        else ((s.putFlag .TK_NEXT_GO true).put .TK_STS_NEXT_STATE 1).arm (s.get .TK_NEXT_TICK) (.period period)

/-- TK_NEXT_GO (R76). -/
def execTkNextGo (ag : Agent) (period : Nat) (s : State) : Host.Outcome State Fault Refusal :=
  .next (s.atUnit uChip fun s => s.writeTkNext ag (period % 1024) true)

/-- Latches TK_COUNT, TK_PHASE and the calendar time in one reference cycle. -/
def State.takeSnapshot (s : State) (ag : Agent) : State :=
  s.guardWrite ag .ownerMpWd fun s =>
    ((s.put .TK_SNAP_COUNT s.tick).put .TK_SNAP_PHASE (s.get .TK_PHASE_PHASE)).put .TK_SNAP_CAL s.calStamp

/-- TK_SNAP_TAKE (02, TK_SNAP). -/
def execTkSnapTake (ag : Agent) (s : State) : Host.Outcome State Fault Refusal :=
  .next (s.atUnit uChip fun s => s.takeSnapshot ag)

/-! ### The plan tables (R59 to R64, R72 to R74) -/

def opNop : Nat := 0
def opRead : Nat := 1
def opMargin : Nat := 2
def opProgram : Nat := 3
def opErase : Nat := 4
def opSuspend : Nat := 5
def opResume : Nat := 6
def opStatus : Nat := 7

/-- The plan table of a die. -/
def State.plan (s : State) (d : Nat) : DiePlan := (s.plans.find? fun p => p.die = d).getD ⟨d, [], [], false, false, [], []⟩

def State.setPlan (s : State) (p : DiePlan) : State :=
  { s with plans := p :: s.plans.filter fun x => x.die ≠ p.die }

/-- A plan entry as 64 bits (R59). The model's own operations carry a DESC beyond the 32 bits of a handle; the word holds its low
bits (DESIGN CHOICE, log entry 71). -/
def PEntry.word (e : PEntry) : Nat :=
  e.start % 1024 * 2 ^ 54 + e.op % 16 * 2 ^ 50 + e.cls % 4 * 2 ^ 48 + (if e.suspOk then 2 ^ 47 else 0) + e.est % 1024 * 2 ^ 37 + e.desc % 2 ^ 32

/-- The plan entry that 64 bits spell (R59). -/
def PEntry.ofWord (w : Nat) : PEntry := ⟨bits w 63 54, bits w 53 50, bits w 49 48, bit w 47, bits w 46 37, bits w 31 0⟩

/-- A Gold read of a bank. -/
def PEntry.isGold (e : PEntry) : Bool := e.cls = 0 && e.op = opRead

/-- A Gold read that takes a Gold slot: not a step of a ladder (R398). -/
def PEntry.slot (e : PEntry) : Bool :=
  e.isGold && !(decide (2 ^ 33 ≤ e.desc) && decide (e.desc < 2 ^ 60) && decide ((e.desc - 2 ^ 33) / 8 % 16 ≠ 0))

/-- An entry that starts a program or erase, or goes on with one. -/
def PEntry.isPe (e : PEntry) : Bool := e.op = opProgram || e.op = opErase || e.op = opResume

/-- Gold slots of a die in a tick (R64, R71). -/
def State.goldSlots (s : State) (t : Nat) : Nat := min (s.get .TK_BUDGET_EFF1 % 8) ((s.periodAt t - 25) / 65)

/-- A program or erase is in progress on a die, or the plan in force still has one to start: the next tick may begin with it (R60, R62). -/
def State.opAhead (s : State) (d : Nat) : Bool :=
  (s.get .X_DIE_OP d ≠ 0 && !s.flag .X_DIE_SUSP d) || (s.plan d).active.any PEntry.isPe

/-- Moves the entries that stand before `free` µs later, in order, so that none overlaps the one before it. -/
def shiftLater (free : Nat) : List PEntry → List PEntry
  | [] => []
  | e :: l =>
    let e := if e.start < free then { e with start := free } else e
    e :: shiftLater (e.start + e.est) l

/-- Inserts a Gold read into a bank (R62): after any SUSPEND and the Gold slots there, before every other entry, which move later; a step of a
ladder, which takes no slot, goes behind the other Gold reads (R398). A die with a program or erase in progress needs a SUSPEND at START 0
and a RESUME after the Gold reads (R60). -/
def appendGold (busy : Bool) (desc : Nat) (bank : List PEntry) : List PEntry :=
  let susp := bank.filter fun e => e.op = opSuspend
  let slots := bank.filter PEntry.slot
  let steps := bank.filter fun e => e.isGold && !e.slot
  let rest := bank.filter fun e => e.op ≠ opSuspend && !e.isGold
  let need := busy && susp.isEmpty
  let susp := if need then [⟨0, opSuspend, 0, false, 25, desc⟩] else susp
  let first := if susp.isEmpty then 0 else 25
  let new : PEntry := ⟨first + 65 * slots.length, opRead, 0, false, 65, desc⟩
  let gold := slots ++ shiftLater (first + 65 * slots.length)
    (if new.slot then new :: steps else steps ++ [{ new with start := first + 65 * (slots.length + steps.length) }])
  -- the last Gold read holds the die for its own transfer too (R64)
  let free := (gold.map fun e => e.start + e.est).foldl max 0 + 4
  let rest := if need && !(rest.any fun e => e.op = opResume) then ⟨free, opResume, 1, false, 1, desc⟩ :: rest else rest
  susp ++ gold ++ shiftLater free rest

/-- The latest µs of a tick's plan (R52, R60): 25 µs past the end of the shortest tick, TK_PERIOD − 500 ns. -/
def planLimit (period : Nat) : Nat := period + 24

/-- An entry R63 moves out of a full tick: a non-Gold READ or READ_MARGIN past the limit of R60. -/
def pastLimit (period : Nat) (e : PEntry) : Bool :=
  e.cls ≠ 0 && (e.op = opRead || e.op = opMargin) && decide (planLimit period < e.start + e.est)

/-- The planner works: in Ready, Run and Throttle, and on the way out of Retain (R485, R493, R500, R538). -/
def State.planning (s : State) : Bool :=
  s.mode = mReady || s.mode = mRun || s.mode = mThrottle || (s.mode = mRetain && s.get .PM_MODE_MOVE = 2)

/-- A die whose inactive bank is not sealed 2 µs before the boundary runs the safe plan (R72). -/
def execTickOverrun (die : Nat) (s : State) : Host.Outcome State Fault Refusal :=
  let p := s.plan die
  if s.flag .X_DIE_POP die && s.planning && !p.sealed && !p.missed then
    .next ((s.put .TK_PHASE_PHASE (max (s.get .TK_PHASE_PHASE) (s.tickNs - 2000))).setPlan { p with missed := true })
  else .next s

end Sys2Proof.Machine
end

