-- ==== Sys2Proof/Machine/Rom.lean ====
section
/-! DEFINITION. Flash channels and the ROM media service (08): descriptor slots, the checks of a call, issuing it, its
completion, suspend and resume, brown-out and the sealed gate. What a completed read, program or erase means for the map and the
bands is in Machine/Media.lean and Machine/Integrity.lean. -/

namespace Sys2Proof.Machine

/-! ### Status codes (R331) -/

def stOk : Nat := 0x00
def stDecodeFail : Nat := 0x01
def stBlank : Nat := 0x02
def stEraseSuspendedBlock : Nat := 0x03
def stPageInProgram : Nat := 0x04
def stBrownout : Nat := 0x05
def stWindow : Nat := 0x06
def stProgramFail : Nat := 0x07
def stEraseFail : Nat := 0x08
def stRetired : Nat := 0x09
def stClosed : Nat := 0x0A
def stHalfErased : Nat := 0x0B
def stModeMismatch : Nat := 0x0C
def stOrder : Nat := 0x0D
def stNotSuspended : Nat := 0x0E
def stSuspendLimit : Nat := 0x0F
def stDieBusy : Nat := 0x10
def stNotPlanned : Nat := 0x11
def stBadDesc : Nat := 0x12
def stSystemArea : Nat := 0x13
def stFeatureDenied : Nat := 0x14
def stTimeout : Nat := 0x15
def stMarginFail : Nat := 0x16
def stDieAbsent : Nat := 0x17
def stPending : Nat := 0xFE

def callRead : Nat := 1
def callMargin : Nat := 2
def callProgram : Nat := 3
def callErase : Nat := 4
def callSuspend : Nat := 5
def callResume : Nat := 6
def callStatus : Nat := 7
def callEraseCount : Nat := 8
def callFeature : Nat := 9
def callRetire : Nat := 10

/-! ### Block states (R345) and die states (MS_CH_DIEST) -/

def bsInService : Nat := 0
def bsRetiredErase : Nat := 1
def bsRetiredProgram : Nat := 2
def bsHalfErased : Nat := 3
def bsSystem : Nat := 4
def bsClosed : Nat := 5
def bsErasing : Nat := 6
def bsFactory : Nat := 7

/-- The number a block's fields are kept under. -/
def blkIx (die block : Nat) : Nat := die * 65536 + block

def State.blkState (s : State) (die block : Nat) : Nat := s.get .X_BLK_STATE (blkIx die block)

def dsIdle : Nat := 0
def dsReading : Nat := 1
def dsProgramming : Nat := 2
def dsErasing : Nat := 3
def dsProgSuspended : Nat := 4
def dsEraseSuspended : Nat := 5
def dsUnavailable : Nat := 6
def dsAbsent : Nat := 7

/-- The state of a die (MS_CH_DIEST). -/
def State.dieSt (s : State) (d : Nat) : Nat :=
  if !s.flag .X_DIE_POP d then dsAbsent
  else if !s.dieUp d then dsUnavailable
  else if s.flag .X_DIE_RD d then dsReading
  else match s.get .X_DIE_OP d, s.flag .X_DIE_SUSP d with
    | 1, false => dsProgramming
    | 1, true => dsProgSuspended
    | 2, false => dsErasing
    | 2, true => dsEraseSuspended
    | _, _ => dsIdle

/-- A cell mode is enabled on a die: bit 0 SLC, 1 TLC, 2 QLC (UCB_PARAM of a DIE). -/
def State.dieHasMode (s : State) (d mode : Nat) : Bool := bit (s.get .X_DIE_CELLS d) mode

def bitsPerCell (mode : Nat) : Nat := if mode = 0 then 1 else if mode = 1 then 3 else 4

def State.wlb (s : State) (ch : Nat) : Nat := s.get .MS_CH_GEO_WLB ch
def State.planes (s : State) (ch : Nat) : Nat := s.get .MS_CH_GEO_PLANES ch
def State.blocksPerDie (s : State) (ch : Nat) : Nat := s.get .MS_CH_GEO_BLOCKS ch

/-- The unit address of R314. -/
def State.unitAddr (s : State) (d block page u : Nat) : Nat := 4 * (16 * s.wlb (dieChannel d) * block + page) + u

/-! ### Descriptor slots (R322 to R325) -/

def descGet (s : State) (k : Nat) : Byte := Sparse.get (fun _ => (0 : Byte)) s.desc k

/-- `n` bytes of a slot from an offset, as a number. -/
def State.descNat (s : State) (cl slot off n : Nat) : Nat :=
  leNat ((List.range n).map fun k => descGet s (cl * 65536 + 32 * slot + off + k))

/-- Stores bytes at an offset of a cluster's slot area. -/
def State.descPut (s : State) (k : Nat) : List Byte → State
  | [] => s
  | b :: l =>
    ({ s with desc := Sparse.set Sparse.below (fun _ => (0 : Byte)) s.desc k b } : State).descPut (k + 1) l

/-- A slot that a call holds PENDING. -/
def State.slotPending (s : State) (cl slot : Nat) : Bool := s.descNat cl slot 20 2 = stPending

/-- A 32-bit write into the slot area by an MD core of the cluster; bytes 0 to 19 of a PENDING slot are frozen (R325). -/
def State.writeSlot (s : State) (ag : Agent) (cl off : Nat) (data : List Byte) : State :=
  s.guardWrite ag (.md cl) fun s =>
    if s.slotPending cl (off / 32) && decide (off % 32 < 20) then s else s.descPut (cl * 65536 + off) data

/-- The call a slot describes. -/
def State.callAt (s : State) (cl slot core : Nat) (entry : Option PEntry) : Call :=
  let d := fun off n => s.descNat cl slot off n
  let ch := d 2 1
  { cl := cl, slot := slot, call := d 0 1, irq := bit (d 1 1) 0, sys := bit (d 1 1) 1, ch := ch,
    die := 16 * ch + d 3 1 % 16, mode := bits (d 3 1) 5 4, block := d 4 4, page := d 8 2, first := d 10 1, count := d 11 1,
    buf := d 12 4, param := d 16 4, entry := entry, core := core }

/-- Data a call moves through staging, in bytes: units of a read, pages and unit records of a program (R328). -/
def Call.bytes (c : Call) : Nat :=
  if c.call = callProgram then c.count * 16384 + c.count * 4 * 32
  else if c.call = callRead || c.call = callMargin then c.count * 4096 else 0

/-- Unused fields are 0 and used ones within their limits (R328). -/
def State.descOk (s : State) (c : Call) : Bool :=
  let geo := decide (c.block < s.blocksPerDie c.ch)
  let buf := c.buf % 64 = 0 && decide (c.buf + c.bytes ≤ 0x80000)
  let noPage := c.page = 0 && c.first = 0 && c.count = 0 && c.buf = 0
  match c.call with
  | 1 => c.mode = 0 && geo && decide (c.page < 16 * s.wlb c.ch) && decide (1 ≤ c.count) && decide (c.count ≤ 4)
      && decide (c.first + c.count ≤ 4) && buf && decide (c.param ≤ 14)
  | 2 => c.mode = 0 && geo && decide (c.page < 16 * s.wlb c.ch) && decide (1 ≤ c.count) && decide (c.count ≤ 4)
      && decide (c.first + c.count ≤ 4) && buf && c.param % 16 = 0 && decide (1 ≤ bits c.param 7 4) && decide (c.param < 512)
  | 3 => decide (c.mode < 3) && geo && c.page % 16 = 0 && decide (c.page < 16 * s.wlb c.ch) && c.first = 0
      && c.count = bitsPerCell c.mode * s.planes c.ch && buf && c.param = 0
  | 4 => decide (c.mode < 3) && geo && noPage && c.param = 0
  | 5 | 6 | 7 => c.mode = 0 && c.block = 0 && noPage && c.param = 0
  | 8 => c.mode = 0 && geo && noPage && c.param = 0
  | 9 => c.mode = 0 && c.block = 0 && noPage && decide (bits c.param 15 9 = 0)
  | 10 => c.mode = 0 && geo && noPage && decide (c.param < 256)
  | _ => false

/-- The FLAGS and DIE bytes of a slot have their reserved bits 0. -/
def State.slotReservedOk (s : State) (cl slot : Nat) : Bool :=
  decide (s.descNat cl slot 1 1 < 4) && decide (s.descNat cl slot 3 1 < 64)

/-! ### Refusals (R326, R332, R333, R345, R351) -/

/-- The channel refuses programs and erases (R351): no sensor is named, or a named one keeps it out of the window. -/
def State.chDenied (s : State) (ch : Nat) : Bool := s.get .MS_CH_SENS_MASK ch = 0 || s.flag .X_CH_DENIED ch

/-- The test of R65 on a die: no entry in progress and none of the plan due to start within 70 µs. -/
def State.fastOk (s : State) (d : Nat) : Bool :=
  let st := s.dieSt d
  s.flag .TK_CTL_FASTPATH && (st = dsIdle || st = dsProgSuspended || st = dsEraseSuspended)
    && !(s.plan d).active.any fun e => decide (1000 * e.start < s.get .TK_PHASE_PHASE + 70000)

/-- The suspend limit of the operation of a die (R336, R339). -/
def State.suspLimit (s : State) (d : Nat) : Nat :=
  if s.get .X_DIE_OP d = 1 then s.get .X_DIE_SLIMP d else s.get .X_DIE_SLIME d

/-- The operation of a die may still be suspended (R67, R339). -/
def State.maySuspend (s : State) (d : Nat) : Bool := decide (s.get .X_DIE_NSUSP d < s.suspLimit d)

/-- The planner may have the operation of a die suspended: it was planned with SUSP_OK 1 and its limit is not reached (R59, R67). -/
def State.mayPause (s : State) (d : Nat) : Bool := s.maySuspend d && !s.flag .X_DIE_NOSUSP d

/-- Refusals of group 2 of R332, for a program or erase. -/
def State.blockRefusal (s : State) (c : Call) : Option Nat :=
  if c.call ≠ callProgram ∧ c.call ≠ callErase then none
  else match s.blkState c.die c.block with
    | 4 => if c.sys && s.flag .MS_SYSUNLOCK_UNLOCK c.cl then none else some stSystemArea
    | 1 | 2 | 7 => some stRetired
    | 5 => some stClosed
    | _ => none

/-- Refusals of group 3 of R332: what the state of the die forbids (R333). -/
def State.dieRefusal (s : State) (c : Call) : Option Nat :=
  let st := s.dieSt c.die
  let busy := st = dsReading || st = dsProgramming || st = dsErasing
  let opBlock := s.get .X_DIE_OPBLK c.die = c.block
  match c.call with
  | 1 | 2 =>
    if busy then some stDieBusy
    else if c.entry.isNone && !s.fastOk c.die then some stDieBusy
    else if st = dsEraseSuspended && opBlock then some stEraseSuspendedBlock
    else if st = dsProgSuspended && opBlock && c.page / 16 = s.get .X_DIE_OPPAGE c.die / 16 then some stPageInProgram
    else none
  | 3 | 4 => if st = dsIdle then none else some stDieBusy
  | 5 => if st = dsReading then some stDieBusy else none
  | 6 =>
    if st = dsReading then some stDieBusy
    else if st = dsProgSuspended || st = dsEraseSuspended then none
    else some stNotSuspended
  | 9 => if bit c.param 8 && st ≠ dsIdle then some stDieBusy else none
  | 10 => if s.get .X_DIE_OP c.die ≠ 0 && opBlock then some stDieBusy else none
  | _ => none

/-- Refusals of group 4 of R332, for a program or erase. -/
def State.modeRefusal (s : State) (c : Call) : Option Nat :=
  let b := blkIx c.die c.block
  if c.call = callProgram then
    if s.blkState c.die c.block = bsHalfErased then some stHalfErased
    else if s.get .X_BLK_MODE b ≠ c.mode + 1 || !s.dieHasMode c.die c.mode then some stModeMismatch
    else if s.get .X_BLK_WL b ≠ c.page / 16 then some stOrder
    else none
  else if c.call = callErase && !s.dieHasMode c.die c.mode then some stModeMismatch
  else none

/-- Refusals of group 5 of R332. -/
def State.lateRefusal (s : State) (c : Call) : Option Nat :=
  let st := s.dieSt c.die
  if (c.call = callProgram || c.call = callErase || c.call = callResume) && s.flag .X_BROWNOUT then some stBrownout
  else if (c.call = callProgram || c.call = callErase) && s.chDenied c.ch then some stWindow
  else if c.call = callSuspend && (st = dsProgramming || st = dsErasing) && !s.maySuspend c.die then some stSuspendLimit
  else if c.call = callFeature then
    let sel := c.param % 256
    if sel = 0 || 6 < sel || (bit c.param 8 && (sel = 1 || sel = 4 || sel = 5)) then some stFeatureDenied else none
  else none

/-- A RETIRE that R346 does not allow. -/
def State.retireBad (s : State) (c : Call) : Bool :=
  let st := s.blkState c.die c.block
  !((c.param = 1 && (st = bsInService || st = bsClosed)) || (c.param = 2 && (st = bsInService || st = bsHalfErased)))

/-- The first refusal a call meets (R332); `hw` marks an entry the hardware placed, which has no slot. -/
def State.refusal (s : State) (c : Call) (hw : Bool) : Option Nat :=
  let st := s.dieSt c.die
  let direct := c.entry.isNone && (c.call = callMargin || c.call = callProgram || c.call = callErase || c.call = callSuspend
    || c.call = callResume)
  if !hw && !(s.slotReservedOk c.cl c.slot && s.descOk c && decide (c.ch < 96) && channelCluster c.ch = c.cl
      && servingCore c.ch = c.core) then some stBadDesc
  else if direct then some stNotPlanned
  else if st = dsAbsent || (st = dsUnavailable && c.call ≠ callEraseCount) then some stDieAbsent
  else match s.blockRefusal c with
    | some r => some r
    | none => match s.dieRefusal c with
      | some r => some r
      | none =>
        if c.call = callRetire && s.retireBad c then some stBadDesc
        else match s.modeRefusal c with
          | some r => some r
          | none => s.lateRefusal c

/-! ### Completion -/

/-- Counts the end of a call (MS_CH_CNT_): a READ or PROGRAM that ran counts as completed, a refused one does not. -/
def State.countCall (s : State) (c : Call) (ran : Bool) (status : Nat) : State :=
  let s := if ran && (c.call = callRead || c.call = callMargin) then s.bump .MS_CH_CNT_READ c.ch
    else if ran && c.call = callProgram then s.bump .MS_CH_CNT_PROGRAM c.ch else s
  if status = stBrownout then s.bump .MS_CH_CNT_BO c.ch
  else if status = stWindow then s.bump .MS_CH_CNT_WIN c.ch
  else if status = stTimeout then s.bump .MS_CH_CNT_TIMEOUT c.ch
  else s

/-- An entry the planner takes back, to be planned again (R669). -/
def State.takeBack (s : State) (d : Nat) (e : PEntry) : State :=
  let p := s.plan d
  s.setPlan { p with back := p.back ++ [e] }

/-- Work that is admitted now (R61): before the cutoff, or Gold, it may be planned for the next tick; else for the one after. -/
def State.giveWork (s : State) (d : Nat) (e : PEntry) : State :=
  if s.planTick (e.cls = 0) ≤ s.tick + 1 then s.takeBack d e
  else
    let p := s.plan d
    s.setPlan { p with late := p.late ++ [e] }

/-- The core a completion is posted to (R325): the one that serves the channel named, or the issuing core where CH names none of its
cluster's channels (DEDUCED, log entry 75). -/
def Call.postTo (c : Call) : Nat := if c.ch < 96 ∧ channelCluster c.ch = c.cl then servingCore c.ch else c.core

/-- A call ends (R325): DETAIL, RESULT and STATUS in its slot, its completion posted when IRQ is 1, its counter; a planned call
that had no effect goes back to the planner (R669). -/
def State.endCall (s : State) (c : Call) (ran : Bool) (status detail result : Nat) : State :=
  let s := if c.slot < 1536 then
      s.descPut (c.cl * 65536 + 32 * c.slot + 20) (natLe 2 status ++ natLe 2 detail ++ natLe 8 result)
    else s
  let s := if c.irq && decide (c.slot < 1536) then { s with cpl := s.cpl ++ [(c.postTo, c.slot)] } else s
  let s : State := if ran then
      { s with calls := s.calls.filter fun x => ¬(x.cl = c.cl ∧ x.slot = c.slot ∧ x.die = c.die ∧ x.call = c.call) }
    else s
  let s := if c.ch < 96 then s.countCall c ran status else s
  match c.entry with
  | some e =>
    if status = stDieBusy || status = stDieAbsent || status = stBrownout || status = stWindow then s.takeBack c.die e else s
  | none => s

/-- A call that has run ends. -/
def State.completeCall (s : State) (c : Call) (status detail result : Nat) : State := s.endCall c true status detail result

/-- A call ends with a status for which R328 gives no DETAIL and RESULT: they are free values (log entry 65). `ran` tells a call that a
reset cut off from one that was refused. -/
def State.failCall (s : State) (c : Call) (ran : Bool) (status : Nat) : State :=
  if c.slot < 1536 then
    let (v, s) := s.takeFree
    s.endCall c ran status (v % 65536) (v / 65536 % 2 ^ 64)
  else s.endCall c ran status 0 0

/-- RESULT of SUSPEND and RESUME: block in [31:0], suspensions in [39:32]. -/
def State.suspResult (s : State) (d : Nat) : Nat := s.get .X_DIE_OPBLK d + s.get .X_DIE_NSUSP d * 2 ^ 32

/-- The operation of a die is suspended now; `counted` when it counts under R339. -/
def State.suspendDie (s : State) (d : Nat) (counted : Bool) : State :=
  let s := ((s.putFlag .X_DIE_SUSP true d).putFlag .X_DIE_SUSPENDING false d).put .X_DIE_SUSPT 0 d
  let s := if counted then s.put .X_DIE_NSUSP (s.get .X_DIE_NSUSP d + 1) d else s
  s.bump .MS_CH_CNT_SUSPEND (dieChannel d)

/-- Ends every pending SUSPEND call of a die. -/
def State.endSuspends (s : State) (d detail : Nat) : State :=
  forEach (s.calls.filter fun c => c.die = d && c.call = callSuspend) s fun c s =>
    s.completeCall c stOk detail (s.suspResult d)

/-- The operation of a die has ended or was cut off: the die is idle. -/
def State.clearDieOp (s : State) (d : Nat) : State :=
  ((((s.put .X_DIE_OP 0 d).putFlag .X_DIE_SUSP false d).putFlag .X_DIE_SUSPENDING false d).put .X_DIE_NSUSP 0 d).put .X_DIE_SUSPT 0 d

/-! ### Running an accepted call -/

/-- What a FEATURE call answers (R330). What the die reports for timing mode and temperature is the die's, and the value of a ZQ calibration
is stated nowhere (log entry 65). -/
def State.runFeature (s : State) (c : Call) : State :=
  let sel := c.param % 256
  let ix := c.die * 8 + sel
  if sel = 1 || sel = 5 || sel = 6 then
    let (v, s) := s.takeFree
    s.completeCall c stOk 0 (v % 65536)
  else if bit c.param 8 then (s.put .X_DIE_FEAT (c.param / 65536) ix).completeCall c stOk 0 (c.param / 65536 % 65536)
  else if sel = 4 then s.completeCall c stOk 0 (s.get .X_DIE_RETRY c.die)
  else s.completeCall c stOk 0 (s.get .X_DIE_FEAT ix)

/-- Counts a READ or READ_MARGIN of a block (R419). -/
def State.countBlockRead (s : State) (d block : Nat) : State :=
  s.put .X_BLK_READS (min (s.get .X_BLK_READS (blkIx d block) + 1) 0xFFFFFFFF) (blkIx d block)

/-- First place and number of places of a block. -/
def State.blockPlace (s : State) (d block : Nat) : Nat := placeOf d (s.unitAddr d block 0 0)
def State.blockUnits (s : State) (d : Nat) : Nat := 64 * s.wlb (dieChannel d)

/-- What a block held is gone: its erase has begun. -/
def State.wipeBlock (s : State) (d block : Nat) : State :=
  { s with flash := s.flash.filter fun x =>
      !(decide (s.blockPlace d block ≤ x.1) && decide (x.1 < s.blockPlace d block + s.blockUnits d)) }

/-- An accepted call starts (R328, R333, R343): one that needs the die array holds the die until its completion. -/
def State.runCall (s : State) (c : Call) : State :=
  let b := blkIx c.die c.block
  let hold (s : State) : State := ({ s with calls := s.calls ++ [c] } : State).emit (.dieOp c.die c.call)
  let startOp (s : State) (op : Nat) : State :=
    hold ((((((s.put .X_DIE_OP op c.die).put .X_DIE_OPBLK c.block c.die).put .X_DIE_OPPAGE c.page c.die).put
      .X_DIE_OPMODE c.mode c.die).put .X_DIE_NSUSP 0 c.die).putFlag .X_DIE_NOSUSP (c.entry.any fun e => !e.suspOk) c.die)
  match c.call with
  | 1 | 2 => hold ((s.putFlag .X_DIE_RD true c.die).countBlockRead c.die c.block)
  | 3 => startOp s 1
  | 4 =>
    let s := (s.put .X_BLK_CNT (min (s.get .X_BLK_CNT b + 1) 0xFFFFFFFE) b).put .X_BLK_STATE bsErasing b
    startOp (((s.wipeBlock c.die c.block).put .X_BLK_READS 0 b).bump .MS_CH_CNT_ERASE c.ch) 2
  | 5 =>
    let st := s.dieSt c.die
    if st = dsIdle then
      -- nothing runs: R328 gives RESULT no value
      let (v, s) := s.takeFree
      s.completeCall c stOk 1 (v % 2 ^ 64)
    else if st = dsProgSuspended || st = dsEraseSuspended then s.completeCall c stOk 2 (s.suspResult c.die)
    else hold (s.putFlag .X_DIE_SUSPENDING true c.die)
  | 6 => (((s.putFlag .X_DIE_SUSP false c.die).put .X_DIE_SUSPT 0 c.die).emit (.dieOp c.die c.call)).completeCall c stOk 0 (s.suspResult c.die)
  | 7 =>
    if s.get .X_DIE_OP c.die = 0 then
      -- the block and suspensions of no operation: R328 gives them no value
      let (v, s) := s.takeFree
      s.completeCall c stOk 0 (s.dieSt c.die + v % 2 ^ 40 * 2 ^ 8)
    else s.completeCall c stOk 0 (s.dieSt c.die + s.get .X_DIE_OPBLK c.die * 2 ^ 8 + s.get .X_DIE_NSUSP c.die * 2 ^ 40)
  | 8 => s.completeCall c stOk 0 (s.get .X_BLK_CNT b + s.blkState c.die c.block * 2 ^ 32)
  | 9 => s.runFeature c
  | 10 =>
    let new := if c.param = 1 then bsRetiredProgram else bsHalfErased
    let s := s.put .X_BLK_STATE new b
    let s := if c.param = 1 then s.put .X_BLK_MM 6 b else s.put .X_BLK_MM 4 b
    s.completeCall c stOk 0 (new * 2 ^ 32)
  | _ => s

/-- A call reaches the ROM: refused under R332, or run. -/
def State.takeCall (s : State) (c : Call) (hw : Bool) : State :=
  match s.refusal c hw with
  | some r => s.failCall c false r
  | none => s.runCall c

/-- Issues a slot (R325): a slot still PENDING is not issued twice. -/
def State.issueSlot (s : State) (cl slot core : Nat) (entry : Option PEntry) : State :=
  if s.slotPending cl slot then s.putFlag .MS_STS_CALL_ERR true cl
  else
    let c := s.callAt cl slot core entry
    (s.descPut (cl * 65536 + 32 * slot + 20) (natLe 2 stPending)).takeCall c false

/-- A write to MS_CALL (R323, R324, R326). -/
def State.writeMsCall (s : State) (ag : Agent) (cl handle : Nat) : State :=
  s.guardWrite ag (.md cl) fun s =>
    if 1536 ≤ handle then s.putFlag .MS_STS_CALL_ERR true cl else s.issueSlot cl handle ag.ix none

/-! ### Planned entries (R59, R323, R326) -/

/-- DESC of an entry the hardware placed, outside the 32 bits of a handle: a SUSPEND or RESUME, or a read of units at a place with
a read-retry step. -/
def hwDesc : Nat := 2 ^ 32
def hwRead (place count step : Nat) : Nat := 2 ^ 33 + (place * 16 + step) * 8 + count

/-- DESC of a PROGRAM or ERASE that media management gives the planner itself. -/
def hwBlock (block page mode : Nat) : Nat := 2 ^ 60 + (block * 65536 + page) * 4 + mode

/-- The call of a hardware-placed entry. -/
def State.hwCall (s : State) (d : Nat) (e : PEntry) : Call :=
  let ch := dieChannel d
  let base : Call :=
    { cl := channelCluster ch, slot := 9999, call := e.op, irq := false, sys := false, ch := ch, die := d, mode := 0,
      block := 0, page := 0, first := 0, count := 0, buf := 0, param := 0, entry := some e, core := servingCore ch }
  if 2 ^ 60 ≤ e.desc then
    let v := e.desc - 2 ^ 60
    let mode := v % 4
    { base with mode := mode, block := v / 262144, page := v / 4 % 65536,
                count := if e.op = opProgram then bitsPerCell mode * s.planes ch else 0 }
  else if e.op ≠ opRead then base
  else
    let v := e.desc - 2 ^ 33
    let unit := v / 128 % 2 ^ 36
    let page := unit / 4
    { base with block := page / (16 * s.wlb ch), page := page % (16 * s.wlb ch), first := unit % 4, count := v % 8,
                param := v / 8 % 16 }

/-- The call an entry describes: the hardware's own, or the one its handle names. -/
def State.entryCall (s : State) (d : Nat) (e : PEntry) : Call :=
  if hwDesc ≤ e.desc then s.hwCall d e else s.callAt (channelCluster (dieChannel d)) e.desc (servingCore (dieChannel d)) (some e)

/-- Places that a read the hardware planned reads. -/
def PEntry.hwPlaces (e : PEntry) : List Nat :=
  if e.op = opRead && decide (2 ^ 33 ≤ e.desc) && decide (e.desc < 2 ^ 60) then
    (List.range ((e.desc - 2 ^ 33) % 8)).map fun k => (e.desc - 2 ^ 33) / 128 + k
  else []

/-- A command has started (R211): a read once one of its array reads has, or data of it are at hand; a PIN with its preload; any other
packet with its admission. -/
def State.cmdStarted (s : State) (x : Cmd) : Bool :=
  if x.st = .taken then false
  else if x.isRead then
    x.st = .ended || !x.arrived.isEmpty || (x.parts.any fun p => p.done && p.src ≠ .zero)
      || s.calls.any fun k => k.entry.any fun e => e.hwPlaces.any x.wants.contains
  else x.st = .ended || x.op ≠ 0x06 || !x.aux.isEmpty

/-- Every earlier packet of a strict queue has started (R211). -/
def State.earlierStarted (s : State) (c : Cmd) : Bool :=
  c.nvme || !s.jqStrict c.q || s.cmds.all fun x => x.nvme || x.q ≠ c.q || c.id ≤ x.id || s.cmdStarted x

/-- An array read waits: every command that wants it is on a strict queue and waits for earlier packets to start (R211). -/
def State.strictWaits (s : State) (e : PEntry) : Bool :=
  let who := s.cmds.filter fun c => e.hwPlaces.any c.wantsAt
  !who.isEmpty && who.all fun c => !s.earlierStarted c

/-- The first entry of a die's plan may start: the die has ended the entry before it (or the entry is the SUSPEND of what runs), and
no action that is due is still to be taken (R77). That its START has come is what the command says; the phase moves up to it. -/
def State.entryDue (s : State) (d : Nat) (e : PEntry) : Bool :=
  let st := s.dieSt d
  !(s.flag .X_AT_BND && s.armed.any fun x => decide (x.tick ≤ s.tick)) && !s.strictWaits e
    && (st = dsIdle || st = dsProgSuspended || st = dsEraseSuspended || st = dsUnavailable || st = dsAbsent
      || ((e.op = opSuspend || e.op = opStatus || e.op = opNop) && st ≠ dsReading))

/-- PLANNED_ENTRY_START (R326): the first entry of the die's active bank leaves the plan and its call is issued; an entry with a
reserved OP or a bad handle is a NOP and raises the plan-format source. -/
def State.startEntry (s : State) (d : Nat) : State :=
  let p := s.plan d
  match p.active with
  | [] => s
  | e :: rest =>
    if !s.powered || !s.entryDue d e then s
    else
      let s := (s.put .TK_PHASE_PHASE (max (s.get .TK_PHASE_PHASE) (1000 * e.start))).setPlan { p with active := rest }
      let ch := dieChannel d
      if e.op = opNop then s
      else if 8 ≤ e.op then s.raise 4 (uChannel ch) 0
      else if hwDesc ≤ e.desc then s.takeCall (s.hwCall d e) true
      else if 1536 ≤ e.desc then s.raise 4 (uChannel ch) 0
      else
        let c := s.callAt (channelCluster ch) e.desc (servingCore ch) (some e)
        if s.slotPending c.cl e.desc then s.putFlag .MS_STS_CALL_ERR true c.cl
        else if c.call ≠ e.op || c.die ≠ d then
          ((s.descPut (c.cl * 65536 + 32 * e.desc + 20) (natLe 2 stPending)).failCall c false stBadDesc)
        else s.issueSlot c.cl e.desc c.core (some e)

def execPlannedEntryStart (die : Nat) (s : State) : Host.Outcome State Fault Refusal := .next (s.startEntry die)

/-! ### The calls as commands -/

/-- A call of one kind: written to MS_CALL, or taken from the front of a die's plan. -/
def State.callRow (s : State) (call : Nat) (ag : Agent) (cl slot : Nat) (planned : Bool) : State :=
  if s.descNat cl slot 0 1 ≠ call || decide (8 ≤ cl) then s
  else if planned then
    let d := 16 * s.descNat cl slot 2 1 + s.descNat cl slot 3 1 % 16
    match (s.plan d).active with
    | e :: _ => if e.desc = slot then s.startEntry d else s
    | [] => s
  else s.atUnit (uCluster cl) fun s => s.writeMsCall ag cl slot

def execReadCall (ag : Agent) (cl slot : Nat) (planned : Bool) (s : State) : Host.Outcome State Fault Refusal :=
  .next (s.callRow callRead ag cl slot planned)
def execReadMarginCall (ag : Agent) (cl slot : Nat) (planned : Bool) (s : State) : Host.Outcome State Fault Refusal :=
  .next (s.callRow callMargin ag cl slot planned)
def execProgramCall (ag : Agent) (cl slot : Nat) (planned : Bool) (s : State) : Host.Outcome State Fault Refusal :=
  .next (s.callRow callProgram ag cl slot planned)
def execEraseCall (ag : Agent) (cl slot : Nat) (planned : Bool) (s : State) : Host.Outcome State Fault Refusal :=
  .next (s.callRow callErase ag cl slot planned)
def execSuspendCall (ag : Agent) (cl slot : Nat) (planned : Bool) (s : State) : Host.Outcome State Fault Refusal :=
  .next (s.callRow callSuspend ag cl slot planned)
def execResumeCall (ag : Agent) (cl slot : Nat) (planned : Bool) (s : State) : Host.Outcome State Fault Refusal :=
  .next (s.callRow callResume ag cl slot planned)
def execStatusCall (ag : Agent) (cl slot : Nat) (planned : Bool) (s : State) : Host.Outcome State Fault Refusal :=
  .next (s.callRow callStatus ag cl slot planned)
def execEraseCountCall (ag : Agent) (cl slot : Nat) (planned : Bool) (s : State) : Host.Outcome State Fault Refusal :=
  .next (s.callRow callEraseCount ag cl slot planned)
def execFeatureCall (ag : Agent) (cl slot : Nat) (planned : Bool) (s : State) : Host.Outcome State Fault Refusal :=
  .next (s.callRow callFeature ag cl slot planned)
def execRetireCall (ag : Agent) (cl slot : Nat) (planned : Bool) (s : State) : Host.Outcome State Fault Refusal :=
  .next (s.callRow callRetire ag cl slot planned)

/-- A read of MS_CPLk (R325): the core MD(6c + k) removes the entry it reads. -/
def State.readCpl (s : State) (ag : Agent) (cl k : Nat) : Nat × State :=
  let core := 8 + 6 * cl + k
  match s.cpl.find? fun x => x.1 = core with
  | none => (0, s)
  | some x => (2 ^ 31 + x.2, if ag = .core core then { s with cpl := s.cpl.erase x } else s)

/-- MS_CPL_READ (08, MS_CPLk). -/
def execMsCplRead (ag : Agent) (cl k : Nat) (s : State) : Host.Outcome State Fault Refusal :=
  if 8 ≤ cl ∨ 6 ≤ k then .next s
  else
    let r := s.readAt (uCluster cl) 4 fun s => s.readCpl ag cl k
    .next (r.2.emit (.readData ag (0x200000 + 0x10000 * cl + 0x40 + 4 * k) 4 r.1))

/-- SUSPEND_COMPLETE (R337, R339): the die is suspended and its SUSPEND ends with DETAIL 0. -/
def execSuspendComplete (die : Nat) (s : State) : Host.Outcome State Fault Refusal :=
  if s.flag .X_DIE_SUSPENDING die && s.get .X_DIE_OP die ≠ 0 then .next ((s.suspendDie die true).endSuspends die 0) else .next s

/-- SEALED_GATE_VIOLATION (R319). -/
def execSealedGateViolation (core ch : Nat) (s : State) : Host.Outcome State Fault Refusal :=
  if 96 ≤ ch then .next s
  else
    let c := channelCluster ch
    .next ((s.putFlag .MS_STS_GATE_VIOL true c).raise (cSrc c 1) (uChannel ch) core)

/-- SEALED_TIMEOUT (R320): the core is halted; its hang source is raised. -/
def execSealedTimeout (core : Nat) (s : State) : Host.Outcome State Fault Refusal :=
  if core < 8 ∨ 56 ≤ core then .next s
  else
    let c := (core - 8) / 6
    .next ((s.putFlag .X_CORE_HALTED true core).raise (cSrc c 2) (uCluster c) core)

/-- Media brown-out is deasserted: the level, which no reset changes, and MS_STS.BROWNOUT of every cluster that shows it (R348). -/
def State.endBrownout (s : State) : State :=
  forEach (List.range 8) (s.putFlag .X_BROWNOUT false) fun c s => s.putFlag .MS_STS_BROWNOUT false c

/-- MEDIA_BROWNOUT_ASSERT (R348, R349): erases in progress are suspended, and the suspension counts none. -/
def execMediaBrownoutAssert (rail : Nat) (s : State) : Host.Outcome State Fault Refusal :=
  if s.flag .X_BROWNOUT then .next s
  else
    let s := s.putFlag .X_BROWNOUT true
    let s := forEach (List.range 8) s fun c s => (s.putFlag .MS_STS_BROWNOUT true c).putFlag .MS_STS_BO_SEEN true c
    let s := forEach (s.dies.filter fun d => s.get .X_DIE_OP d = 2 && !s.flag .X_DIE_SUSP d) s fun d s =>
      ((s.suspendDie d false).endSuspends d 0).emit (.dieOp d callSuspend)
    .next (s.raise 19 uChip rail)

/-- MEDIA_BROWNOUT_DEASSERT (R348). -/
def execMediaBrownoutDeassert (s : State) : Host.Outcome State Fault Refusal := .next s.endBrownout

end Sys2Proof.Machine
end

