-- ==== Sys2Proof/Machine/Map.lean ====
section
/-! DEFINITION. Translation (07) and resolution (06): nodes, map entries at their three levels, the map journal, the map cache with
its placement, its locked lines and its invalidations, and the walk of a stack. -/

namespace Sys2Proof.Machine

/-! ### Nodes (R243 to R248) -/

def State.node? (s : State) (id : Nat) : Option Node := s.nodes.find? fun n => n.id = id

def State.setNode (s : State) (n : Node) : State := { s with nodes := s.nodes.map fun x => if x.id = n.id then n else x }

/-- A node that exists and is not being deleted. -/
def State.active (s : State) (id : Nat) : Bool :=
  match s.node? id with
  | some n => !n.deleting
  | none => false

def State.isVolume (s : State) (id : Nat) : Bool :=
  match s.node? id with
  | some n => !n.isStack
  | none => false

/-- 4 KiB units in a granule: 1, 4 or 16. -/
def Node.gUnits (n : Node) : Nat := 4 ^ n.granule

def State.gUnits (s : State) (id : Nat) : Nat :=
  match s.node? id with
  | some n => n.gUnits
  | none => 1

/-- The volumes a node reads from, in order, with repeats, down to a nesting depth (R248). -/
def State.walkNode (s : State) : Nat → Nat → List Nat
  | 0, _ => []
  | k + 1, id =>
    match s.node? id with
    | none => []
    | some n => if n.isStack then n.children.flatMap (s.walkNode k) else [id]

/-- The resolution order of a node (R248): only the first occurrence of a volume is kept. -/
def State.order (s : State) (id : Nat) : List Nat := (s.walkNode 10 id).eraseDups

/-- Nesting depth (R248): 0 for a volume, 1 for a stack of volumes. -/
def State.depth (s : State) : Nat → Nat → Nat
  | 0, _ => 0
  | k + 1, id =>
    match s.node? id with
    | none => 0
    | some n => if n.isStack then 1 + (n.children.map (s.depth k)).foldl max 0 else 0

/-- A node reaches another through children. -/
def State.reaches (s : State) : Nat → Nat → Nat → Bool
  | 0, _, _ => false
  | k + 1, id, target =>
    match s.node? id with
    | none => false
    | some n => n.children.any fun c => c = target || s.reaches k c target

/-- The stack nodes that contain a node, at any depth. -/
def State.stacksOver (s : State) (id : Nat) : List Nat :=
  (s.nodes.filter fun n => n.isStack && s.reaches 12 n.id id).map fun n => n.id

/-- The write target of a node (R251): a volume itself, or the first volume of a stack's order; none when it is read-only. -/
def State.writeTarget (s : State) (id : Nat) : Option Nat :=
  match s.order id with
  | [] => none
  | v :: _ => match s.node? v with
    | some n => if n.writable then some v else none
    | none => none

/-- A stack whose volumes do not share one LBA format (R256). -/
def State.mixed (s : State) (id : Nat) : Bool :=
  match (s.order id).filterMap s.node? with
  | [] => false
  | n :: l => l.any fun x => x.lbaf ≠ n.lbaf

/-! ### Map entries (R270) -/

def eState (w : Nat) : Nat := w / 2 ^ 62
def ePacked (w : Nat) : Bool := bit w 61
def eRecov (w : Nat) : Bool := bit w 60
def eLen (w : Nat) : Nat := bits w 59 55
def eSub (w : Nat) : Nat := bits w 54 51
/-- The place of the first stored unit: channel, die and unit. -/
def ePlace (w : Nat) : Nat := w % 2 ^ 47
/-- A LOST granule names channel 0x7F (R411). -/
def eLost (w : Nat) : Bool := eState w = 1 && eRecov w && bits w 46 40 = 0x7F

def tombstone : Nat := 0x8000000000000000

/-- A MAPPED entry. -/
def mkEntry (packed recov : Bool) (len sub place : Nat) : Nat :=
  2 ^ 62 + (if packed then 2 ^ 61 else 0) + (if recov then 2 ^ 60 else 0) + len * 2 ^ 55 + sub * 2 ^ 51 + place

/-! ### The three levels (R273 to R275) -/

def State.line? (s : State) (node l : Nat) : Option Line := s.lines.find? fun x => x.node = node && x.l = l

def State.setLine (s : State) (x : Line) : State :=
  { s with lines := s.lines.map fun y => if y.node = x.node ∧ y.l = x.l then x else y }

def State.page? (s : State) (node p : Nat) : Option MapPage := s.pages.find? fun x => x.node = node && x.page = p

/-- A word of a page; one never written is 0. -/
def MapPage.word (p : MapPage) (i : Nat) : Nat := (p.words.lookup i).getD 0

/-- The flash copy of a page; one never written reads as unmapped (R270). -/
def State.flashPage (s : State) (node p : Nat) : MapPage :=
  (s.mapVol.find? fun x => x.node = node && x.page = p).getD ⟨node, p, [], false, 0, none⟩

/-- The newest copy of a page below the cache. -/
def State.pageOr (s : State) (node p : Nat) : MapPage := (s.page? node p).getD (s.flashPage node p)

/-- The newest copy of a map entry. -/
def State.mapGet (s : State) (node g : Nat) : Nat :=
  match s.line? node (g / 8) with
  | some x => if x.st = .dirty || x.st = .clean then x.words.getD (g % 8) 0 else (s.pageOr node (g / 2048)).word (g % 2048)
  | none => (s.pageOr node (g / 2048)).word (g % 2048)

/-- The eight entries of a line, from below the cache. -/
def State.lineWords (s : State) (node l : Nat) : List Nat :=
  (List.range 8).map fun k => (s.pageOr node (l / 256)).word ((8 * l + k) % 2048)

/-- A line is locked: pinned, or unpinned while STALE, until its refill lands (R291). -/
def Line.locked (x : Line) : Bool := decide (0 < x.pins) || x.st = .stale

/-- A locked line keeps its page in the DRAM store (R274). -/
def State.pageLocked (s : State) (p : MapPage) : Bool :=
  s.lines.any fun x => x.node = p.node && x.l / 256 = p.page && x.locked && s.isVolume p.node

/-- Pages the DRAM store holds (MC_DSTORE.SIZE in MiB). -/
def State.storePages (s : State) : Nat := 64 * s.get .MC_DSTORE_SIZE

/-- Makes room for a page: the least recently used page that holds no update and no locked line goes (R274). -/
def State.evictPage (s : State) : State :=
  if s.pages.length < s.storePages then s
  else
    let cand := s.pages.filter fun p => !p.dirty && !s.pageLocked p
    match cand with
    | [] => s
    | p :: l =>
      let v := l.foldl (fun m x => if x.used < m.used then x else m) p
      { s with pages := s.pages.filter fun x => ¬(x.node = v.node ∧ x.page = v.page) }

/-- Holds a page in the DRAM store, read from flash if it is absent. -/
def State.loadPage (s : State) (node p : Nat) : State :=
  let t := s.get .X_PAGESEQ
  let s := s.put .X_PAGESEQ (t + 1)
  match s.page? node p with
  | some _ =>
    { s with pages := s.pages.map fun x => if x.node = node ∧ x.page = p then { x with used := t } else x }
  | none =>
    let q := { s.flashPage node p with dirty := false, used := t }
    let s := s.evictPage
    { s with pages := s.pages ++ [q] }

/-- Puts a word into a page's list. -/
def putWord (l : List (Nat × Nat)) (i w : Nat) : List (Nat × Nat) :=
  let r := l.filter fun x => x.1 ≠ i
  if w = 0 then r else (i, w) :: r

/-- Makes a change in a DRAM store page, which is fetched first if it is absent (R283). -/
def State.pagePut (s : State) (node g w : Nat) : State :=
  let s := s.loadPage node (g / 2048)
  { s with pages := s.pages.map fun x =>
      if x.node = node ∧ x.page = g / 2048 then { x with words := putWord x.words (g % 2048) w, dirty := true } else x }

/-- Writes a DIRTY line into its page (R278, R307). -/
def State.writeBackLine (s : State) (x : Line) : State :=
  if x.st ≠ .dirty then s
  else
    let s := forEach (List.range 8) s fun k s => s.pagePut x.node (8 * x.l + k) (x.words.getD k 0)
    s.setLine { x with st := .clean }

/-! ### The journal (R305, R306, R309) -/

/-- USED, THROTTLING and the journal-limit source follow the bytes written. -/
def State.updateJnl (s : State) : State :=
  let mib := s.get .X_JNL_BYTES / 2 ^ 20
  let limit := s.get .MC_JNL_CFG_LIMIT
  let s := (s.put .MC_JNL_STS_USED (min mib 0xFFFF)).putFlag .MC_JNL_STS_THROTTLING
    (decide (s.get .MC_JNL_CFG_THROTTLE * limit ≤ 100 * mib))
  if limit ≤ mib then s.raise 70 uMap (min mib 0xFFF) else s.clearLevel 70

/-- A journal page of up to 512 records is programmed and padded (R308, R387). -/
def State.programJnl (s : State) : State :=
  let l := (s.jnl.filter fun r => !r.prog).take 512
  match l.getLast? with
  | none => s
  | some last =>
    let s : State := { s with jnl := s.jnl.map fun r => if r.seq ≤ last.seq then { r with prog := true } else r }
    (s.put .X_JNL_BYTES (s.get .X_JNL_BYTES + 32 * (512 - l.length))).updateJnl

/-- Journals a record; it is durable once it is in the buffer (R305). The buffer holds at most 16 MiB of records not yet programmed: one
that would exceed it waits for a page to be programmed (R533). -/
def State.journal (s : State) (type node a b : Nat) : State :=
  let s := if 524288 ≤ (s.jnl.filter fun r => !r.prog).length then s.programJnl else s
  let q := s.get .X_JNLSEQ + 1
  let s : State := { s with jnl := s.jnl ++ [⟨q, type, node, a, b, false⟩] }
  let s := (s.put .X_JNLSEQ q).put .MC_JNL_SEQ q
  (s.put .X_JNL_BYTES (s.get .X_JNL_BYTES + 32)).updateJnl

/-! ### Placement (R277, R278, R289) -/

/-- The set of a line (R277). -/
def lineSet (node l : Nat) : Nat :=
  (l % 2 ^ 15 ^^^ l / 2 ^ 15 % 2 ^ 15 ^^^ l / 2 ^ 30 % 2 ^ 15) ^^^ node * 8 % 2 ^ 15

/-- One step of the LFSR (R278). -/
def lfsrStep (x : Nat) : Nat :=
  let f := (bit x 15 != bit x 13) != (bit x 12 != bit x 10)
  (2 * x + if f then 1 else 0) % 65536

/-- The line a way holds. -/
def State.wayLine (s : State) (set way : Nat) : Option Line := s.lines.find? fun x => x.set = set && x.way = way

/-- A way may be taken by an allocation: it is neither locked nor FILLING. -/
def State.wayFree (s : State) (set way : Nat) : Bool :=
  match s.wayLine set way with
  | none => true
  | some x => !x.locked && x.st ≠ .filling

/-- The way an allocation takes, and the LFSR after it; none after 16 steps without a candidate. -/
def State.pickWay (s : State) (set : Nat) : Nat → Nat → Option Nat × Nat
  | 0, x => (none, x)
  | k + 1, x =>
    let x := lfsrStep x
    if s.wayFree set (x % 16) then (some (x % 16), x) else s.pickWay set k x

/-- Empties a way; a DIRTY line is written back first. -/
def State.evictWay (s : State) (set way : Nat) : State :=
  match s.wayLine set way with
  | none => s
  | some x =>
    let s := if x.st = .dirty then (s.writeBackLine x).bump .MC_CNT_EVICT_DIRTY else s
    { s with lines := s.lines.filter fun y => ¬(y.set = set ∧ y.way = way) }

/-- Lines are being allocated. -/
def State.cacheOn (s : State) : Bool :=
  s.flag .MC_STS_ENABLED && !s.flag .MC_STS_DRAINING && !s.flag .MC_STS_INIT

/-- `n` lookups of a page's entries that missed are served from the DRAM store or after a map-page read, and counted (R275, R278, R304);
the page is then in the DRAM store. -/
def State.countMiss (s : State) (node p n : Nat) : State :=
  match s.page? node p with
  | some _ => s.add .MC_CNT_MISS_DRAM n
  | none => (s.add .MC_CNT_MISS_FLASH n).loadPage node p

/-- The lookups that wait for a line. -/
def State.waiters (s : State) (node l : Nat) : List Lookup := s.lookups.filter fun w => w.node = node && w.l = l

/-- Serves the lookups that wait for a line. -/
def State.serve (s : State) (node l : Nat) : State :=
  let n := (s.waiters node l).length
  if n = 0 then s
  else ({ s with lookups := s.lookups.filter fun w => !(w.node = node && w.l = l) } : State).countMiss node (l / 256) n

/-- A lookup waits on its port; behind another miss it stalls the port (R280). -/
def State.waitOn (s : State) (port node l : Nat) : State :=
  let s := if s.lookups.any fun w => w.port = port then s.bump .MC_CNT_STALL else s
  { s with lookups := s.lookups ++ [⟨port, node, l⟩] }

/-- Allocates a FILLING line in the way that at most `n` steps of the LFSR choose, if there is one (R278). -/
def State.allocLine (s : State) (n node l : Nat) : State :=
  let set := lineSet node l
  match s.pickWay set n (s.get .MC_LFSR_STATE) with
  | (none, x) => s.put .MC_LFSR_STATE x
  | (some way, x) =>
    let s := (s.put .MC_LFSR_STATE x).evictWay set way
    { s with lines := s.lines ++ [⟨node, l, set, way, .filling, 0, 0, List.replicate 8 0⟩] }

/-- A lookup of a volume line on a port (R275, R278, R280, R292): a hit; a wait for the refill of a STALE line, which is none of the
counted ways; else a miss, which shares a fill or allocates, and waits for either. -/
def State.touchLine (s : State) (port node l : Nat) : State :=
  match s.line? node l with
  | some x => if x.st = .filling then s.waitOn port node l else if x.st = .stale then s else s.bump .MC_CNT_HIT
  | none => if !s.cacheOn then s.countMiss node (l / 256) 1 else (s.allocLine 16 node l).waitOn port node l

/-! ### Resolution (R249, R284 to R286) -/

/-- The volume that supplies a unit and its entry, or none where the unit reads as deallocated (R249). -/
def State.supply (s : State) (u : Nat) : List Nat → Option (Nat × Nat)
  | [] => none
  | v :: l =>
    match s.node? v with
    | none => s.supply u l
    | some n =>
      if n.size ≤ u then s.supply u l
      else
        let w := s.mapGet v (u / n.gUnits)
        if eState w = 1 then some (v, w) else if eState w = 2 then none else s.supply u l

/-- The volumes a walk of a unit visits (R249). -/
def State.visited (s : State) (u : Nat) : List Nat → List Nat
  | [] => []
  | v :: l =>
    match s.node? v with
    | none => s.visited u l
    | some n =>
      if n.size ≤ u then s.visited u l
      else if eState (s.mapGet v (u / n.gUnits)) = 0 then v :: s.visited u l else [v]

/-- The map lines that hold the entries a read of units consults (R249, R272): volume and line number. -/
def State.linesOf (s : State) (order : List Nat) (u n : Nat) : List (Nat × Nat) :=
  ((List.range n).flatMap fun k => (s.visited (u + k) order).map fun v => (v, (u + k) / s.gUnits v / 8)).eraseDups

/-- The code of a unit in a resolution line (R284). -/
def State.resCode (s : State) (order : List Nat) (u : Nat) : Nat :=
  match s.supply u order with
  | none => 0xFE
  | some (v, _) => order.findIdx fun x => x = v

/-- Replaces byte `k` of a word. -/
def setByte (w k v : Nat) : Nat := w - w / 256 ^ k % 256 * 256 ^ k + v * 256 ^ k

/-- Code `i` (0 to 63) of a resolution line. -/
def Line.code (x : Line) (i : Nat) : Nat := x.words.getD (i / 8) 0 / 256 ^ (i % 8) % 256

def Line.setCode (x : Line) (i v : Nat) : Line :=
  { x with words := (List.range 8).map fun j =>
      if j = i / 8 then setByte (x.words.getD j 0) (i % 8) v else x.words.getD j 0 }

def allUnknown : List Nat := List.replicate 8 0xFFFFFFFFFFFFFFFF

/-- The epoch of a stack node. -/
def State.epochOf (s : State) (id : Nat) : Nat :=
  match s.node? id with
  | some n => n.epoch
  | none => 0

/-- A walk of a stack's unit fills its code in the resolution line, which the first walk of any of its units allocates; a line of an
older epoch is not used (R284, R286). -/
def State.touchRes (s : State) (stack u : Nat) (order : List Nat) : State :=
  let l := u / 64
  let fresh := s.epochOf stack
  match s.line? stack l with
  | some x =>
    if x.epoch ≠ fresh || x.st = .stale then s
    else if x.code (u % 64) ≠ 0xFF then s.bump .MC_CNT_HIT
    else s.setLine (x.setCode (u % 64) (s.resCode order u))
  | none =>
    if !s.cacheOn then s
    else
      let set := lineSet stack l
      match s.pickWay set 16 (s.get .MC_LFSR_STATE) with
      | (none, x) => s.put .MC_LFSR_STATE x
      | (some way, x) =>
        let s := (s.put .MC_LFSR_STATE x).evictWay set way
        let line : Line := ⟨stack, l, set, way, .clean, 0, fresh, allUnknown⟩
        { s with lines := s.lines ++ [line.setCode (u % 64) (s.resCode order u)] }

/-- The lookups of a range of a node on a port: every line its walks consult, and the resolution lines of a stack. -/
def State.touchRange (s : State) (port id u n : Nat) : State :=
  let order := s.order id
  let s := forEach (s.linesOf order u n) s fun x s => s.touchLine port x.1 x.2
  if s.isVolume id then s else forEach (List.range n) s fun k s => s.touchRes id (u + k) order

/-- A line is resident (R292). -/
def State.resident (s : State) (node l : Nat) : Bool :=
  match s.line? node l with
  | some x => x.st = .clean || x.st = .dirty || x.st = .stale
  | none => false

/-! ### Updates (R283, R293, R294) -/

/-- Marks the codes of units unknown in every resolution line of the stacks above a volume; locked lines are recomputed in
place (R294). -/
def State.dropCodes (s : State) (vol u n : Nat) : State :=
  forEach (s.stacksOver vol) s fun st s =>
    let order := s.order st
    { s with lines := s.lines.map fun x =>
        if x.node ≠ st then x
        else (List.range n).foldl (fun x k =>
          if (u + k) / 64 ≠ x.l || x.code ((u + k) % 64) = 0xFF then x
          else x.setCode ((u + k) % 64) (if 0 < x.pins then s.resCode order (u + k) else 0xFF)) x }

/-- The codes of a resolution line, every known one walked again; the codes a pin covers are never unknown (R288, R297). -/
def State.rewalk (s : State) (x : Line) : List Nat :=
  let order := s.order x.node
  (((List.range 64).foldl (fun y i => y.setCode i (s.resCode order (64 * x.l + i))) x)).words

/-- What a line is filled with (R297): the entries of a volume's line, none of them mapped where it is being deleted, or the codes of a
resolution line. -/
def State.fillWords (s : State) (x : Line) : List Nat :=
  if !s.isVolume x.node then s.rewalk x
  else if s.active x.node then s.lineWords x.node x.l
  else List.replicate 8 0

/-- A FILLING or STALE line receives its data (R291, R297), and serves the lookups that wait for it. -/
def State.landLine (s : State) (x : Line) : State :=
  let s := s.serve x.node x.l
  let s := if s.isVolume x.node then s.loadPage x.node (x.l / 256) else s
  s.setLine { x with st := .clean, words := s.fillWords x, epoch := s.epochOf x.node }

/-- The fill of a line lands, if it is FILLING. -/
def State.landFilling (s : State) (node l : Nat) : State :=
  match s.line? node l with
  | some x => if x.st = .filling then s.landLine x else s
  | none => s

/-- A change to a map entry (R283): journalled first, then made in a CLEAN or DIRTY line, else in the DRAM store page; one to a FILLING
line waits for its fill, which lands first. A change of STATE drops the resolution codes of the granule's units (R293). During a drain it
is made in both (R303). -/
def State.mapPut (s : State) (node g w : Nat) : State :=
  let old := s.mapGet node g
  let s := (s.journal 0x01 node g w).landFilling node (g / 8)
  let s := match s.line? node (g / 8) with
    | some x =>
      if x.st = .clean || x.st = .dirty then
        let s := s.setLine { x with st := .dirty, words := x.words.set (g % 8) w }
        if s.flag .MC_STS_DRAINING then s.pagePut node g w else s
      else s.pagePut node g w
    | none => s.pagePut node g w
  if eState old ≠ eState w then s.dropCodes node (g * s.gUnits node) (s.gUnits node) else s

/-- An UNPIN waits for a line that its refill or fill keeps locked (R207, R291). -/
def State.unpinWaits (s : State) (c : Cmd) : Bool :=
  c.aux.any fun x => (s.line? (x % 4096) (x / 4096)).any fun y => y.pins = 0 && (y.st = .stale || y.st = .filling)

/-- Every UNPIN whose lines are unlocked by now is answered (R207). -/
def State.endUnpins (s : State) : State :=
  forEach (s.cmds.filter fun c => !c.nvme && c.op = 0x07 && c.st = .admitted) s fun c s => if s.unpinWaits c then s else s.finish c vSuccess

/-- Every entry of a node is unmapped, at every level (R148, R269, Sanitize); its locked lines hold the empty state (R297, R300). -/
def State.emptyNode (s : State) (node : Nat) : State :=
  ({ s with
    pages := s.pages.filter fun p => p.node ≠ node
    mapVol := s.mapVol.filter fun p => p.node ≠ node
    lines := (s.lines.filter fun x => x.node ≠ node || 0 < x.pins).map fun x =>
      if x.node = node then { x with st := if x.st = .filling then .filling else .clean, words := List.replicate 8 0 } else x } : State).endUnpins

/-! ### Range invalidation (R293 to R299) -/

/-- A line lies in a range. -/
def Sweep.hits (w : Sweep) (x : Line) : Bool := x.node = w.node && decide (w.first ≤ x.l) && decide (x.l < w.first + w.count)

/-- A range takes effect (R295, R297): DIRTY lines are written back (MC_INV), unlocked lines go, locked ones become STALE. -/
def State.applySweep (s : State) (w : Sweep) : State :=
  let s := if w.kind = 0 then forEach (s.lines.filter w.hits) s fun x s => s.writeBackLine x else s
  { s with lines := (s.lines.filter fun x => !(w.hits x && !x.locked)).map fun x => if w.hits x then { x with st := .stale } else x }

/-- Starts a range invalidation; a ninth waits for a free slot (R295). -/
def State.startSweep (s : State) (w : Sweep) : State :=
  let busy := 8 ≤ (s.sweeps.filter fun x => !x.waiting && x.kind ≠ 3).length
  let s : State := { s with sweeps := s.sweeps ++ [{ w with waiting := busy }] }
  if busy then s else s.applySweep w

/-- LOCKED_LINE_REFILL (R297). -/
def execLockedLineRefill (node l : Nat) (s : State) : Host.Outcome State Fault Refusal :=
  match s.line? node l with
  | some x => if x.st = .stale then .next (((s.landLine x).bump .MC_CNT_REFILL).endUnpins) else .next s
  | none => .next s

/-- MAP_MISS_FILL (R275, R278): the fill of a FILLING line lands, from the DRAM store or after a map-page read. -/
def execMapMissFill (node l : Nat) (s : State) : Host.Outcome State Fault Refusal :=
  match s.line? node l with
  | some x =>
    if x.st ≠ .filling then .next s
    else .next ((s.landLine x).endUnpins)
  | none => .next s

/-- ALLOCATION_GIVE_UP (R278): a lookup that found no way has tried in 63 more cycles of 16 steps each. If there is a way by now it waits
for its fill; else every lookup that waits for the line is served without one. -/
def execAllocationGiveUp (node l : Nat) (s : State) : Host.Outcome State Fault Refusal :=
  if (s.line? node l).isSome || (s.waiters node l).isEmpty then .next s
  else
    let t := s.allocLine 1008 node l
    .next (if (t.line? node l).isSome then t else t.serve node l)

/-! ### Pins (R288 to R291, R205) -/

/-- The lines a PIN of a range locks (R288). -/
def State.pinLines (s : State) (id u n : Nat) : List (Nat × Nat) :=
  if s.isVolume id then
    let g := s.gUnits id
    (((List.range n).map fun k => (id, (u + k) / g / 8))).eraseDups
  else
    s.linesOf (s.order id) u n ++ (((List.range n).map fun k => (id, (u + k) / 64))).eraseDups

/-- The way in which a line can be locked (R289). -/
def State.lockWay (s : State) (set : Nat) : Option Nat :=
  let ways := (List.range 16).filter fun w => bit (s.get .MC_LOCKMASK_MASK) w && (match s.wayLine set w with
    | none => true
    | some x => !x.locked)
  match ways.find? fun w => (s.wayLine set w).isNone with
  | some w => some w
  | none => match ways.find? fun w => (s.wayLine set w).any fun x => x.st = .clean || x.st = .dirty with
    | some w => some w
    | none => ways.head?

/-- Locks one line for a pin: a line already locked gains a count; otherwise it takes a lockable way and starts its fill. None when
its set has no way left. -/
def State.lockLine (s : State) (node l : Nat) : Option State :=
  match s.line? node l with
  | some x =>
    if x.locked then some (s.setLine { x with pins := x.pins + 1 })
    else
      -- a resident copy in another way is written back and moves to the way the pin takes
      let s := s.writeBackLine x
      let s : State := { s with lines := s.lines.filter fun y => ¬(y.node = node ∧ y.l = l) }
      match s.lockWay (lineSet node l) with
      | none => none
      | some w =>
        let s := s.evictWay (lineSet node l) w
        some { s with lines := s.lines ++ [⟨node, l, lineSet node l, w, .filling, 1, s.epochOf node, List.replicate 8 0⟩] }
  | none =>
    match s.lockWay (lineSet node l) with
    | none => none
    | some w =>
      let s := s.evictWay (lineSet node l) w
      some { s with lines := s.lines ++ [⟨node, l, lineSet node l, w, .filling, 1, s.epochOf node, List.replicate 8 0⟩] }

/-- Locks every line of a list, or none of them. -/
def State.lockLines (s : State) : List (Nat × Nat) → Option State
  | [] => some s
  | x :: l => match s.lockLine x.1 x.2 with
    | some s => s.lockLines l
    | none => none

/-! ### Registers of the map cache -/

/-- A GO to MC_INV_CMD (R293, R295, 07): refused for a node that is not ACTIVE or a bad range; a GO while BUSY is ignored. -/
def State.submitInv (s : State) (ag : Agent) (node : Nat) : State :=
  s.guardWrite ag .ownerMp fun s =>
    if s.get .MC_INV_STS_STATE 0 ag.ix = 1 then s
    else
      let s := s.put .MC_INV_CMD_NODE node 0 ag.ix
      let first := s.get .MC_INV_FIRST 0 ag.ix
      let count := s.get .MC_INV_COUNT 0 ag.ix
      let refuse (r : Nat) : State := (s.put .MC_INV_STS_STATE 3 0 ag.ix).put .MC_INV_STS_REASON r 0 ag.ix
      match s.node? node with
      | none => refuse 1
      | some n =>
        let per := if n.isStack then 64 else 8
        let entries := if n.isStack then n.size else (n.size + n.gUnits - 1) / n.gUnits
        if n.deleting then refuse 1
        else if count = 0 ∨ entries < first + count then refuse 2
        else
          let s := ((s.put .MC_INV_STS_STATE 1 0 ag.ix).put .MC_INV_STS_REASON 0 0 ag.ix).putFlag .MC_INV_CMD_GO true 0 ag.ix
          s.startSweep ⟨node, first / per, (first + count - 1) / per + 1 - first / per, 0, ag.ix, false, 0⟩

/-- MC_INV (R293). -/
def execMcInv (ag : Agent) (node : Nat) (s : State) : Host.Outcome State Fault Refusal :=
  .next (s.atUnit uMap fun s => s.submitInv ag (node % 4096))

/-- A write of MC_CTL.ENABLE (R302 to R304). -/
def State.writeMcCtl (s : State) (ag : Agent) (enable : Bool) : State :=
  s.guardWrite ag .ownerMp fun s =>
    s.unlessLocked ag [.MC_CTL_ENABLE] fun s =>
      if enable then
        if s.flag .MC_STS_DRAINED then
          ((s.putFlag .MC_CTL_ENABLE true).putFlag .MC_STS_DRAINED false).putFlag .MC_STS_ENABLED true
        else if s.flag .MC_STS_DRAINING then s.bump .UCB_CNT2 uMap
        else s
      else if !s.flag .MC_CTL_ENABLE then s
      else if !s.pins.isEmpty then s.putFlag .MC_STS_DISABLE_REFUSED true
      else (s.putFlag .MC_CTL_ENABLE false).putFlag .MC_STS_DRAINING true

/-- MAP_CACHE_DISABLE (R302, R303). -/
def execMapCacheDisable (ag : Agent) (s : State) : Host.Outcome State Fault Refusal :=
  .next (s.atUnit uMap fun s => s.writeMcCtl ag false)

/-- MAP_CACHE_ENABLE (R304). -/
def execMapCacheEnable (ag : Agent) (s : State) : Host.Outcome State Fault Refusal :=
  .next (s.atUnit uMap fun s => s.writeMcCtl ag true)

/-- DRAIN_COMPLETE (R303): every DIRTY line is written back, every line invalid. -/
def execDrainComplete (s : State) : Host.Outcome State Fault Refusal :=
  if s.flag .MC_STS_DRAINING then
    let s := forEach s.lines s fun x s => s.writeBackLine x
    let s := forEach s.lookups s fun w s => s.serve w.node w.l
    .next ((((({ s with lines := [] } : State).putFlag .MC_STS_DRAINING false).putFlag .MC_STS_DRAINED true).putFlag
      .MC_STS_ENABLED false).endUnpins)
  else .next s

/-- RESET_INVALIDATION_DONE (R301): INIT clears, and lines are allocated from then on where the cache is enabled. -/
def execResetInvalidationDone (s : State) : Host.Outcome State Fault Refusal :=
  if s.flag .MC_STS_INIT then
    .next ((s.putFlag .MC_STS_INIT false).putFlag .MC_STS_ENABLED (s.flag .MC_CTL_ENABLE))
  else .next s

end Sys2Proof.Machine
end

