-- ==== Sys2Proof/Machine/Media.lean ====
section
/-! DEFINITION. Media management (09): bands and their write order, the write buffer, free space and the throttle, closing and
sealing, what the end of a program or erase does, garbage collection, erasing, wear levelling, and map write-back. -/

namespace Sys2Proof.Machine

/-! ### Bands (R355 to R361) -/

def kindRw : Nat := 1
def kindRo : Nat := 2
def kindCache : Nat := 3
def kindMap : Nat := 4

def mmReleased : Nat := 0
def mmOpen : Nat := 1
def mmFull : Nat := 2
def mmErased : Nat := 3
def mmHalfErased : Nat := 4
def mmReserved : Nat := 5
def mmOut : Nat := 6

/-- Data members of a band that are present. -/
def Band.data (b : Band) : List (Nat × Nat) := (b.members.take 14).filterMap fun x => x

/-- The parity members. -/
def Band.parity (b : Band) : List (Nat × Nat) := (b.members.drop 14).filterMap fun x => x

/-- Geometry of a band's members, which they share. -/
def State.bandWlb (s : State) (b : Band) : Nat := ((b.members.filterMap fun x => x).head?).elim 0 fun m => s.wlb (dieChannel m.1)
def State.bandPlanes (s : State) (b : Band) : Nat := ((b.members.filterMap fun x => x).head?).elim 0 fun m => s.planes (dieChannel m.1)

/-- Pages of one wordline on one member. -/
def State.wlPages (s : State) (b : Band) : Nat := bitsPerCell b.mode * s.bandPlanes b

/-- Units a band holds in its data members. -/
def State.bandCap (s : State) (b : Band) : Nat := 4 * b.data.length * s.wlPages b * s.bandWlb b

/-- The PAGE index of the `o`-th page of a member in ascending order (R314). -/
def State.pageIndex (s : State) (b : Band) (o : Nat) : Nat :=
  let n := s.wlPages b
  let pl := s.bandPlanes b
  if n = 0 ∨ pl = 0 then 0 else 16 * (o / n) + 4 * (o % n / pl) + o % pl

/-- The inverse of `pageIndex`. -/
def State.pageOrdinal (s : State) (b : Band) (page : Nat) : Nat :=
  page / 16 * s.wlPages b + page % 16 / 4 * s.bandPlanes b + page % 4

/-- The place of the `n`-th unit of a band in its write order (R358). -/
def State.bandPlace (s : State) (b : Band) (n : Nat) : Nat :=
  let d := b.data
  if d.length = 0 then 0
  else
    let m := d.getD (n / 4 % d.length) (0, 0)
    placeOf m.1 (s.unitAddr m.1 m.2 (s.pageIndex b (n / 4 / d.length)) (n % 4))

/-- Die, block, PAGE and unit in the page of a place. -/
def placeDie (p : Nat) : Nat := p / 2 ^ 36
def placeUnit (p : Nat) : Nat := p % 2 ^ 36
def State.placeBlock (s : State) (p : Nat) : Nat := placeUnit p / 4 / (16 * s.wlb (dieChannel (placeDie p)))
def State.placePage (s : State) (p : Nat) : Nat := placeUnit p / 4 % (16 * s.wlb (dieChannel (placeDie p)))

/-- The band of a block. -/
def State.bandOfBlock (s : State) (d block : Nat) : Option Band := s.bands.find? fun b => b.members.contains (some (d, block))

/-- The band of a place. -/
def State.bandOf (s : State) (p : Nat) : Option Band := s.bandOfBlock (placeDie p) (s.placeBlock p)

/-- Where a place stands in the write order of its band. -/
def State.bandPos (s : State) (b : Band) (p : Nat) : Nat :=
  let i := b.data.findIdx fun m => m = (placeDie p, s.placeBlock p)
  4 * (s.pageOrdinal b (s.placePage p) * b.data.length + i) + placeUnit p % 4

/-- The stored units of a granule or packed block, from its first place (R272). -/
def State.unitSeq (s : State) (p len : Nat) : List Nat :=
  match s.bandOf p with
  | some b => (List.range len).map fun k => s.bandPlace b (s.bandPos b p + k)
  | none => (List.range len).map fun k => p + k

/-- A row of a band is parity-complete (R358). -/
def Band.rowComplete (b : Band) (page : Nat) : Bool := decide (page / 16 < b.parityWl) || b.sealedRows.contains page

def State.setBand (s : State) (b : Band) : State := { s with bands := s.bands.map fun x => if x.id = b.id then b else x }

/-! ### Stored units -/

/-- The newest content of a place: the write buffer, else flash. -/
def State.unitAt (s : State) (p : Nat) : Option FUnit :=
  match s.wbuf.find? fun w => w.place = p with
  | some w => some w.unit
  | none => Sparse.get (fun _ => none) s.flash p

/-- Stores into flash. -/
def State.flashPut (s : State) (p : Nat) (u : FUnit) : State :=
  { s with flash := Sparse.set Sparse.below (fun _ => (none : Option FUnit)) s.flash p (some u) }

def zeroUnit : List Byte := List.replicate 4096 0

def State.unitBytes (s : State) (p : Nat) : List Byte := (s.unitAt p).elim zeroUnit fun u => u.data

/-- The number of a volume's key; 0 where it has none (R464, R466). -/
def State.keyOf (s : State) (node : Nat) : Nat := (s.keys.find? fun k => k.node = node && !k.doomed).elim 0 fun k => k.gen

/-- The `k`-th unit of a stored granule as it decrypts under a key (R465): under the key it was stored under, the data written. -/
def State.plainUnit (s : State) (key k p : Nat) : List Byte :=
  match s.unitAt p with
  | none => zeroUnit
  | some u =>
    if u.rcd.key = key ∨ u.rcd.kind ≠ 1 then u.data
    else
      let d := Config.xtsDecrypt key (u.rcd.g * 16 + k) u.data
      (List.range 4096).map fun i => d.getD i 0

/-- The original data of a packed block, or zeroes where it does not decode (R438). -/
def State.blockData (s : State) (p len : Nat) : List Byte :=
  ((mumelDecode ((s.unitSeq p len).flatMap s.unitBytes)).getD [])

/-- The 4,096 bytes a unit of a volume reads as, from its entry: what a merge or a copy of the J96's own takes. -/
def State.readUnit (s : State) (vol w u : Nat) : List Byte :=
  let g := s.gUnits vol
  if eState w ≠ 1 || eLost w then zeroUnit
  else if ePacked w then
    ((s.blockData (ePlace w) (eLen w)).drop ((eSub w * g + u % g) * 4096)).take 4096
  else s.plainUnit (s.keyOf vol) (u % g) ((s.unitSeq (ePlace w) (eLen w)).getD (u % g) 0)

/-! ### Free space (R365, R366, R371, R372) -/

/-- A block, by its index, that media management counts as free: RELEASED or erased, and neither retired nor in the system area. -/
def State.freeIx (s : State) (i : Nat) : Bool :=
  let m := s.get .X_BLK_MM i
  let st := s.get .X_BLK_STATE i
  (m = mmReleased || m = mmErased || m = mmHalfErased) && (st = bsInService || st = bsHalfErased)

/-- Free blocks of a die: all but those whose stored state says otherwise. -/
def State.dieFree (s : State) (d : Nat) : Nat :=
  let named := (s.regs.filter fun x => (x.1.f = .X_BLK_MM || x.1.f = .X_BLK_STATE) && x.1.i / 65536 = d).map fun x => x.1.i
  s.blocksPerDie (dieChannel d) - (named.eraseDups.filter fun i => !s.freeIx i).length

/-- In-service blocks of a die. -/
def State.dieService (s : State) (d : Nat) : Nat :=
  s.blocksPerDie (dieChannel d) - (s.regs.filter fun x => x.1.f = .X_BLK_STATE && x.1.i / 65536 = d
    && !(x.2 = bsInService || x.2 = bsHalfErased)).length

/-- The dies of a cluster that are ON. -/
def State.clusterDies (s : State) (c : Nat) : List Nat := s.dies.filter fun d => channelCluster (dieChannel d) = c && s.dieAvailable d

/-- Member pairs a cluster can supply (R365). -/
def State.clusterPairs (s : State) (c : Nat) : Nat :=
  let l := (s.clusterDies c).map s.dieFree
  let f := l.foldl (· + ·) 0
  min (f / 2) (f - l.foldl max 0)

/-- F, the free band count (R365): a cluster unavailable as a whole is left out. -/
def State.freeBands (s : State) : Nat :=
  match ((List.range 8).filter fun c => !(s.clusterDies c).isEmpty).map s.clusterPairs with
  | [] => 0
  | x :: l => l.foldl min x

/-- B_tot (R366). -/
def State.totalBands (s : State) : Nat := (s.dies.map s.dieService).foldl (· + ·) 0 / 16

def State.gcHigh (s : State) : Nat := s.get .MC_GC_MARK0_HIGH * s.totalBands / 1000
def State.gcLow (s : State) : Nat := s.get .MC_GC_MARK0_LOW * s.totalBands / 1000
def State.gcCrit (s : State) : Nat := s.get .MC_GC_MARK0_CRIT * s.totalBands / 1000

/-- The GC state (R371): 0 IDLE, 1 BACKGROUND, 2 FOREGROUND, 3 STALLED. -/
def State.gcState (s : State) : Nat :=
  let f := s.freeBands
  if f ≤ s.gcCrit then 3 else if f < s.gcLow then 2 else if f < s.gcHigh then 1 else 0

/-- The throttle factor K of R372. -/
def State.gcFactor (s : State) : Nat :=
  let f := s.freeBands
  if s.gcLow ≤ f then 256 else if f ≤ s.gcCrit then 0 else 256 * (f - s.gcCrit) / (s.gcLow - s.gcCrit)

/-- The journal's factor K_j (R309, R372). -/
def State.jnlFactor (s : State) : Nat :=
  let limit := s.get .MC_JNL_CFG_LIMIT
  let used := s.get .MC_JNL_STS_USED
  if !s.flag .MC_JNL_STS_THROTTLING then 256
  else if limit ≤ used then 0
  else min 256 (256 * 100 * (limit - used) / (limit * (100 - s.get .MC_JNL_CFG_THROTTLE)))

/-- The factor in force. -/
def State.writeFactor (s : State) : Nat := min s.gcFactor s.jnlFactor

/-- The quota of a tick, KiB (R372). -/
def State.quota (s : State) : Nat := s.writeFactor * s.get .MC_GC_QMAX_QMAX * s.periodAt s.tick / 256000

/-- Erase counts of the in-service blocks of populated dies: lowest and highest (MC_WL_RANGE). -/
def State.wearRange (s : State) : Nat × Nat :=
  let listed := s.regs.filter fun x => x.1.f = .X_BLK_CNT && s.flag .X_DIE_POP (x.1.i / 65536)
    && (s.get .X_BLK_STATE x.1.i = bsInService || s.get .X_BLK_STATE x.1.i = bsHalfErased)
  let total := (s.dies.map s.dieService).foldl (· + ·) 0
  let hi := (listed.map Prod.snd).foldl max 0
  if listed.length < total then (0, hi) else ((listed.map Prod.snd).foldl min hi, hi)

/-- MC_GC_FREE, TOTAL, STS, MC_WL_RANGE and the stall source follow the blocks. -/
def State.updateGc (s : State) : State :=
  let st := s.gcState
  let s := (((s.put .MC_GC_FREE s.freeBands).put .MC_GC_TOTAL s.totalBands).put .MC_GC_STS_STATE st).put .MC_GC_STS_K s.writeFactor
  let s := s.put .MC_WL_RANGE (s.wearRange.2 * 2 ^ 32 + s.wearRange.1)
  if st = 3 then s.raise 71 uMap 0 else s.clearLevel 71

/-! ### Journalled media records (R386) -/

def baddr (d block : Nat) : Nat := dieChannel d * 2 ^ 40 + d % 16 * 2 ^ 36 + block

/-- Every record of some sort is durable (R387): while the store cannot cover the journal buffer, only once its page is programmed. -/
def State.durable (s : State) (p : JRec → Bool) : Bool := s.flag .X_HU_COVER || s.jnl.all fun r => r.prog || !p r

/-- BAND_OPEN and the four BAND_MEMBERS of a band are durable, so its PROGRAMs may be issued (R387). -/
def State.bandDurable (s : State) (b : Band) : Bool :=
  s.durable fun r => (r.type = 0x20 && r.a = b.id)
    || (r.type = 0x21 && s.jnl.any fun o => o.type = 0x20 && o.a = b.id && decide (o.seq < r.seq) && decide (r.seq ≤ o.seq + 4))

/-- A member word. -/
def memberWord (i : Nat) : Option (Nat × Nat) → Nat
  | none => 2 ^ 31 + i * 2 ^ 27
  | some (d, b) => i * 2 ^ 27 + dieChannel d * 2 ^ 20 + d % 16 * 2 ^ 16 + b

/-- A block is retired for good: journalled with its reason and counted (R382, R383). -/
def State.journalRetire (s : State) (d block reason : Nat) : State :=
  let s : State := { s with eraseOwed := s.eraseOwed.filter fun x => x.2 ≠ blkIx d block }
  ((s.put .X_BLK_MM mmOut (blkIx d block)).journal 0x27 0 (baddr d block) reason).bump .MC_CNT_RETIRED

/-- Rows holding data of a band: PAGE indexes reached by the write order. -/
def State.dataRows (s : State) (b : Band) : List Nat :=
  if b.data.length = 0 then [] else (List.range ((b.pos / 4 + b.data.length - 1) / b.data.length)).map (s.pageIndex b)

/-- Mask of the members that hold data in a row. -/
def State.rowMask (s : State) (b : Band) (page : Nat) : Nat :=
  ((List.range 14).filter fun i => match b.members.getD i none with
    | some m => (s.unitAt (placeOf m.1 (s.unitAddr m.1 m.2 page 0))).isSome
    | none => false).foldl (fun v i => v + 2 ^ i) 0

/-- Units of rows that have become parity-complete leave the write buffer once they are programmed (R383). -/
def State.dropComplete (s : State) : State :=
  { s with wbuf := s.wbuf.filter fun w => !(w.programmed && (match s.bandOf w.place with
      | some b => b.rowComplete (s.placePage w.place)
      | none => true)) }

/-- Seals every row of a band that holds data and is not parity-complete (R384). -/
def State.sealRows (s : State) (b : Band) : State :=
  let rows := (s.dataRows b).filter fun p => !b.rowComplete p
  let s := forEach rows s fun p s => (s.journal 0x23 0 b.id (s.rowMask b p * 2 ^ 32 + p)).bump .MC_CNT_SEAL_SHORT
  (s.setBand { b with sealedRows := b.sealedRows ++ rows }).dropComplete

/-- Closes a band (R383, R385): its rows are sealed and BAND_CLOSE journalled. -/
def State.closeBand (s : State) (b : Band) : State :=
  if !b.isOpen then s
  else
    let s := s.sealRows b
    match s.bands.find? fun x => x.id = b.id with
    | none => s
    | some b =>
      let s := s.journal 0x22 0 b.id (b.wseqMax * 65536 + (s.dataRows b).length)
      let s := s.setBand { b with isOpen := false, closedAt := if s.flag .CAL_STS_VALID then s.calRaw / 65536 else 0 }
      forEach (b.members.filterMap fun x => x) s fun m s =>
        if s.get .X_BLK_MM (blkIx m.1 m.2) = mmOpen then s.put .X_BLK_MM mmFull (blkIx m.1 m.2) else s

/-! ### Allocation and the write buffer (R358, R363, R531) -/

/-- A band has a member on a die that is unavailable: it takes no further rows (R385). -/
def State.stranded (s : State) (b : Band) : Bool := (b.members.filterMap fun x => x).any fun m => !s.dieAvailable m.1

/-- The open band of a kind with room for some units. -/
def State.openBand (s : State) (kind len : Nat) : Option Band :=
  s.bands.find? fun b => b.isOpen && b.kind = kind && !b.closed && !s.stranded b && decide (b.pos + len ≤ s.bandCap b)

/-- Takes the next units of a band's write order: their places, and the band after it. A band left without room for a packed block is
closed when it is full. -/
def State.allocIn (s : State) (b : Band) (len wseq : Nat) : List Nat × State :=
  let places := (List.range len).map fun k => s.bandPlace b (b.pos + k)
  let b := { b with pos := b.pos + len, wseqMax := max b.wseqMax wseq }
  (places, s.setBand b)

/-- Pairs places with contents into write-buffer units; the first one carries FIRST (R362). -/
def bufUnits (r : URec) (host waits : Option Nat) (first : Bool) : List Nat → List (List Byte) → List WUnit
  | p :: ps, d :: ds => ⟨p, ⟨{ r with first := first }, d⟩, host, false, waits⟩ :: bufUnits r host waits false ps ds
  | _, _ => []

/-- Stores a host's granule or packed block into an open band (R363): a new WSEQ, its units in the write buffer, and the map entries
that `entry` gives for its place. None where no band of the kind is open with room (R359). -/
def State.storeHost (s : State) (kind node g : Nat) (packed : Bool) (units : List (List Byte)) (fn key : Nat) (waits : Option Nat)
    (entries : Nat → List (Nat × Nat)) : Option State :=
  match s.openBand kind units.length with
  | none => none
  | some b =>
    let wseq := s.get .X_WSEQ
    let r := s.allocIn b units.length wseq
    let s := r.2.put .X_WSEQ (wseq + 1)
    let rec' : URec := ⟨wseq, if packed then 2 else 1, true, node, units.length, b.id, g, 0, key⟩
    let s : State := { s with wbuf := s.wbuf ++ bufUnits rec' (some fn) waits true r.1 units }
    let s := (s.add .MC_CNT_HOST_UNITS units.length).putFlag .X_SAN_GDE false
    some (forEach (entries (r.1.headD 0)) s fun e s => s.mapPut node e.1 e.2)

/-- HU_DIRTY counts write buffer that holds unprogrammed data (R531). -/
def State.dirtyAdd (s : State) (n : Nat) : State := s.put .HU_DIRTY (s.get .HU_DIRTY + n)
def State.dirtySub (s : State) (n : Nat) : State := s.put .HU_DIRTY (s.get .HU_DIRTY - n)

/-- Splits bytes into units of 4,096. -/
def chunks : Nat → List Byte → List (List Byte)
  | 0, _ => []
  | n + 1, l => l.take 4096 :: chunks n (l.drop 4096)

/-- A write command whose granules wait for programming completes once none of them is unprogrammed, and, while the store cannot cover
the journal buffer, once its records are programmed too (R166, R387). -/
def State.ackProgrammed (s : State) (cmd : Nat) : State :=
  if s.wbuf.any fun w => w.waits = some cmd && !w.programmed then s
  else if !s.flag .X_HU_COVER && (s.jnl.any fun r => !r.prog) then s
  else match s.cmd? cmd with
    | none => s
    | some c => match c.res with
      | some r => if c.st = .ended && c.covered then s else s.finish c r
      | none => s

/-- Every command that waits for programming. -/
def State.ackAll (s : State) : State :=
  forEach (s.cmds.filter fun c => c.isWrite && !c.covered && c.res.isSome) s fun c s => s.ackProgrammed c.id

/-! ### The end of a PROGRAM (R331, R335, R383) -/

/-- The call of a kind at work on a die. -/
def State.dieCall (s : State) (d call : Nat) : Option Call := s.calls.find? fun c => c.die = d && c.call = call

/-- The pending program or erase of a die ends with a status. -/
def State.endDieOp (s : State) (d status result : Nat) : State :=
  let call := if s.get .X_DIE_OP d = 1 then callProgram else callErase
  let s := match s.dieCall d call with
    | some c => s.completeCall c status 0 result
    | none => s
  let s := if s.flag .X_DIE_SUSPENDING d then s.endSuspends d 1 else s
  s.clearDieOp d

/-- Write-buffer units of a wordline of a block go to flash; units of PAGE 0 carry the erase count (R344, R362). -/
def State.programWl (s : State) (d block wl : Nat) : State :=
  let mine (w : WUnit) : Bool := placeDie w.place = d && s.placeBlock w.place = block && s.placePage w.place / 16 = wl
    && !w.programmed
  let cnt := s.get .X_BLK_CNT (blkIx d block)
  let l := s.wbuf.filter mine
  let s' := forEach l s fun w t =>
    let n := if s.placePage w.place = 0 && decide (placeUnit w.place % 4 < 3) then cnt else 0
    t.flashPut w.place { w.unit with rcd := { w.unit.rcd with ecount := n } }
  let s' : State := { s' with wbuf := s'.wbuf.map fun w => if mine w then { w with programmed := true } else w }
  s'.dirtySub (4096 * (l.filter fun w => w.host.isSome).length)

/-- Both parity members of a band have programmed a wordline: its rows are parity-complete (R358). -/
def State.parityProgress (s : State) (b : Band) : State :=
  match b.parity with
  | [] => s
  | m :: l =>
    let wl := l.foldl (fun v x => min v (s.get .X_BLK_WL (blkIx x.1 x.2))) (s.get .X_BLK_WL (blkIx m.1 m.2))
    (s.setBand { b with parityWl := wl }).dropComplete

/-- Stored units of what a record belongs to: a map page has four (R273, R362). -/
def URec.units (r : URec) : Nat := if r.kind = 3 then 4 else r.len

/-- A map page's flash copy has moved: the directory names the new one and a DIR_UPDATE is journalled (R307). -/
def State.repointPage (s : State) (old new : Nat) : State :=
  match s.mapVol.find? fun x => x.place = some old with
  | none => s
  | some p =>
    let move (x : MapPage) : MapPage := if x.node = p.node ∧ x.page = p.page then { x with place := some new } else x
    ({ s with mapVol := s.mapVol.map move, pages := s.pages.map move } : State).journal 0x02 p.node p.page (mkEntry false false 4 0 new)

/-- A granule or block in the write buffer whose rows are not parity-complete is written again into an open band of the same kind, and
its entries follow it (R383). Without an open band it waits in the buffer. -/
def State.rewrite (s : State) (b : Band) (first : WUnit) : State :=
  let r := first.unit.rcd
  let units := s.wbuf.filter fun w => w.unit.rcd.wseq = r.wseq && w.unit.rcd.node = r.node && w.unit.rcd.g = r.g
    && w.unit.rcd.band = b.id
  match s.bands.find? fun x => x.isOpen && x.kind = b.kind && x.id ≠ b.id && !s.stranded x
      && decide (x.pos + r.units ≤ s.bandCap x) with
  | none => s
  | some t =>
    let a := s.allocIn t r.units r.wseq
    let s := a.2
    let new := bufUnits { r with band := t.id } first.host first.waits true a.1 (units.map fun w => w.unit.data)
    let s : State := { s with wbuf := (s.wbuf.filter fun w => !(units.contains w)) ++ new }
    let lost := units.filter fun w => w.programmed && w.host.isSome
    let s := s.dirtyAdd (4096 * lost.length)
    let p := a.1.headD 0
    let s : State := { s with copies := s.copies.map fun c => if c.dst = first.place then { c with dst := p } else c }
    if r.kind = 1 || r.kind = 2 then
      forEach (List.range 16) s fun k s =>
        let w := s.mapGet r.node (r.g + k)
        if eState w = 1 && ePlace w = first.place && !eLost w then s.mapPut r.node (r.g + k) (w - first.place + p) else s
    else if r.kind = 3 then s.repointPage first.place p
    else s

/-- A band takes no more units: the granules and blocks with a unit at risk are written again, and the band is sealed and closed (R383,
R385). -/
def State.abandonBand (s : State) (b : Band) (risk : WUnit → Bool) : State :=
  let l := s.wbuf.filter risk
  let firsts := s.wbuf.filter fun w => w.unit.rcd.first && (l.any fun x => x.unit.rcd.wseq = w.unit.rcd.wseq
    && x.unit.rcd.node = w.unit.rcd.node && x.unit.rcd.g = w.unit.rcd.g)
  let s := forEach firsts s fun w s => s.rewrite b w
  match s.bands.find? fun x => x.id = b.id with
  | some b => (s.closeBand b).updateGc
  | none => s

/-- A member of a band has failed to program (R383): the units at risk are written again, the band is sealed and closed, and GC takes it
first. -/
def State.programFailed (s : State) (d block : Nat) : State :=
  let s := s.put .X_BLK_STATE bsClosed (blkIx d block)
  match s.bandOfBlock d block with
  | none => s
  | some b =>
    let b := { b with closed := true }
    (s.setBand b).abandonBand b fun w => placeDie w.place = d && s.placeBlock w.place = block

/-- An open band with a member on a die that has become unavailable is sealed and closed (R385). What was still to be programmed on such
a die is written again (DEDUCED, log entry 76). -/
def State.closeStranded (s : State) : State :=
  forEach (s.bands.filter fun b => b.isOpen && s.stranded b) s fun b s =>
    s.abandonBand b fun w => w.unit.rcd.band = b.id && !w.programmed && !s.dieAvailable (placeDie w.place)

/-- The samples of a PROGRAM or ERASE that has ended (R581): its suspensions, and its array time in µs. -/
def State.sampleOp (s : State) (d h busyNs : Nat) : State :=
  (s.sample 13 (s.get .X_DIE_NSUSP d : Nat)).sample h ((busyNs / 1000 : Nat) : Int)

/-- PROGRAM_CALL_COMPLETE (R331, R335, R383). -/
def execProgramCallComplete (die : Nat) (ok : Bool) (busyNs : Nat) (s : State) : Host.Outcome State Fault Refusal :=
  if s.get .X_DIE_OP die ≠ 1 || s.flag .X_DIE_SUSP die then .next s
  else
    let block := s.get .X_DIE_OPBLK die
    let wl := s.get .X_DIE_OPPAGE die / 16
    let s := s.sampleOp die 14 busyNs
    if ok then
      let s := (s.programWl die block wl).put .X_BLK_WL (wl + 1) (blkIx die block)
      let s := match s.bandOfBlock die block with
        | some b => s.parityProgress b
        | none => s
      .next ((s.endDieOp die stOk (busyNs * 2 ^ 32)).ackAll)
    else
      let s := s.endDieOp die stProgramFail (busyNs * 2 ^ 32)
      let s := s.programFailed die block
      .next (s.raise (cSrc (channelCluster (dieChannel die)) 6) (uDie die) 0)

/-! ### The end of an ERASE (R343, R382) -/

/-- Blocks of a die that a Sanitize erases: all but the retired ones and those of the system area, also while an ERASE runs or was cut off;
those of the device; and those of them that have been erased and not given back (R153). -/
def State.dieErasable (s : State) (d : Nat) : Nat :=
  s.blocksPerDie (dieChannel d) - (s.regs.filter fun x => x.1.f = .X_BLK_STATE && x.1.i / 65536 = d
    && (x.2 = bsRetiredErase || x.2 = bsRetiredProgram || x.2 = bsFactory || x.2 = bsSystem)).length
def State.totalErasable (s : State) : Nat := (s.dies.map s.dieErasable).foldl (· + ·) 0
def State.erasedBlocks (s : State) : Nat :=
  (s.regs.filter fun x => x.1.f = .X_BLK_MM && (x.2 = mmErased || x.2 = mmReserved || x.2 = mmOpen || x.2 = mmFull)).length

/-- SPROG of a block erase that is in progress (R153). -/
def State.updateSprog (s : State) : State :=
  if s.get .X_SAN_ST = 2 && !s.flag .X_SAN_CRYPTO then
    s.put .X_SAN_SPROG (min 65534 (s.erasedBlocks * 65536 / s.totalErasable))
  else s

/-- ERASE_CALL_COMPLETE (R343, R382): the block is ERASED and ERASE_DONE journalled, or retired. -/
def execEraseCallComplete (die : Nat) (ok : Bool) (busyNs : Nat) (s : State) : Host.Outcome State Fault Refusal :=
  if s.get .X_DIE_OP die ≠ 2 || s.flag .X_DIE_SUSP die then .next s
  else
    let block := s.get .X_DIE_OPBLK die
    let b := blkIx die block
    let mode := s.get .X_DIE_OPMODE die
    let sys := match s.dieCall die callErase with
      | some c => c.sys
      | none => false
    let cnt := s.get .X_BLK_CNT b
    let s := s.sampleOp die 15 busyNs
    if ok then
      let s := ((s.put .X_BLK_STATE (if sys then bsSystem else bsInService) b).put .X_BLK_MODE (mode + 1) b).put .X_BLK_WL 0 b
      let s := (s.putFlag .X_BLK_FRESH true b).putFlag .X_BLK_BEGUN false b
      let s := if sys then s else (s.put .X_BLK_MM mmErased b).journal 0x26 0 (baddr die block) (cnt * 2 ^ 32 + mode)
      let s : State := { s with eraseOwed := s.eraseOwed.filter fun x => x.2 ≠ b }
      .next (s.endDieOp die stOk cnt).updateSprog
    else
      let s := (s.put .X_BLK_STATE bsRetiredErase b).putFlag .X_BLK_BEGUN false b
      let s := (s.journalRetire die block 1).endDieOp die stEraseFail cnt
      .next (s.updateGc.updateSprog.raise (cSrc (channelCluster (dieChannel die)) 7) (uDie die) 0)

/-- A block whose ERASE was cut off is HALF_ERASED and may be erased anew (R341, R345). -/
def State.halfErase (s : State) (ix : Nat) : State :=
  ((s.put .X_BLK_STATE bsHalfErased ix).put .X_BLK_MM mmHalfErased ix).putFlag .X_BLK_BEGUN false ix

/-- Cuts off what a die runs (R668, R669): a PROGRAM's block is CLOSED, an ERASE's HALF_ERASED, the calls end DIE_ABSENT; only a read is
planned again as it was. -/
def State.cutDie (s : State) (d : Nat) : State :=
  let op := s.get .X_DIE_OP d
  let block := s.get .X_DIE_OPBLK d
  let s := forEach (s.calls.filter fun c => c.die = d) s fun c s =>
    s.failCall { c with entry := c.entry.filter fun e => e.op = opRead || e.op = opMargin } true stDieAbsent
  let s := (s.clearDieOp d).putFlag .X_DIE_RD false d
  if op = 1 then s.programFailed d block
  else if op = 2 then s.halfErase (blkIx d block)
  else s

/-- MEDIA_OP_TIMEOUT (R341, R383): the die is reset; the block is CLOSED or HALF_ERASED. -/
def execMediaOpTimeout (die : Nat) (s : State) : Host.Outcome State Fault Refusal :=
  let op := s.get .X_DIE_OP die
  if op = 0 || s.flag .X_DIE_SUSP die then .next s
  else
    let block := s.get .X_DIE_OPBLK die
    -- a timed-out ERASE reports its count; how long a timed-out PROGRAM kept the die busy is open
    let (v, s) := s.takeFree
    let s := s.endDieOp die stTimeout (if op = 1 then v % 2 ^ 32 * 2 ^ 32 else s.get .X_BLK_CNT (blkIx die block))
    let s := if op = 1 then s.programFailed die block
      else s.halfErase (blkIx die block)
    .next (s.raise (cSrc (channelCluster (dieChannel die)) 5) (uDie die) (if op = 1 then callProgram else callErase))

/-! ### Opening a band (R355, R356, R359, R380, R390) -/

/-- The mode of a kind (R360). -/
def State.kindMode (s : State) (kind : Nat) : Nat :=
  if kind = kindRw then s.get .MC_GC_MODE_RW_MODE else if kind = kindRo then s.get .MC_GC_MODE_RO_MODE else 0

/-- A free block of a die. -/
def State.blockFree (s : State) (d block : Nat) : Bool := s.freeIx (blkIx d block)

/-- The block a band of a kind takes on a die: the lowest erase count, or for RO bands the highest, ties to the lowest number
(R380). The choice is among the blocks ERASED in the band's mode while the die has any (R368, log entry 53). -/
def State.chooseBlock (s : State) (kind d : Nat) : Option Nat :=
  let cnt := fun b => s.get .X_BLK_CNT (blkIx d b)
  let better := fun b c => if kind = kindRo then decide (cnt c < cnt b) else decide (cnt b < cnt c)
  let free := (List.range (s.blocksPerDie (dieChannel d))).filter (s.blockFree d)
  let erased := free.filter fun b => s.get .X_BLK_MM (blkIx d b) = mmErased && s.get .X_BLK_MODE (blkIx d b) = s.kindMode kind + 1
  match if erased.isEmpty then free else erased with
  | [] => none
  | x :: l => some (l.foldl (fun m b => if better b m then b else m) x)

/-- Some die of a cluster could take a member. -/
def State.clusterCan (s : State) (c : Nat) : Bool := decide (1 ≤ s.clusterPairs c)

/-- A cluster has free blocks on no more than one channel. -/
def State.oneChannel (s : State) (c : Nat) : Bool :=
  decide (((((s.clusterDies c).filter fun d => s.dieFree d ≠ 0).map dieChannel).eraseDups).length ≤ 1)

/-- The dies offered for a band form one (R355, R356, R359): two in the cluster of each pair, on different channels where the cluster
has free blocks on two, all different and ON, of one geometry;
members 0 and 1 absent only where their cluster can take none. -/
def State.membersOk (s : State) (rot : Nat) (dies : List (Option Nat)) (mode : Nat) : Bool :=
  let present := dies.filterMap fun x => x
  dies.length = 16 && present.eraseDups.length = present.length && (present.length = 16 || present.length = 14)
    && (present.all fun d => s.dieAvailable d && s.dieHasMode d mode
        && s.wlb (dieChannel d) = s.wlb (dieChannel (present.headD 0))
        && s.planes (dieChannel d) = s.planes (dieChannel (present.headD 0)))
    && ((List.range 16).all fun m => match dies.getD m none with
        | some d => channelCluster (dieChannel d) = (m / 2 + rot) % 8
        | none => decide (m < 2) && !s.clusterCan rot)
    && ((List.range 8).all fun k => match dies.getD (2 * k) none, dies.getD (2 * k + 1) none with
        | some d, some e => dieChannel d ≠ dieChannel e || s.oneChannel ((k + rot) % 8)
        | _, _ => true)

/-- A new open band of a kind on the members given (R355, R358, R361): its records are journalled and its blocks are OPEN. -/
def State.addBand (s : State) (kind mode rot : Nat) (blocks : List (Option (Nat × Nat))) : State :=
  let degraded := (blocks.filterMap fun x => x).length = 14
  let id := s.get .X_BANDSEQ
  let wseq := s.get .X_WSEQ
  let b : Band := { id := id, kind := kind, mode := mode, rot := rot, members := blocks, isOpen := true, pos := 0, parityWl := 0,
                    sealedRows := [], closed := false, wseqOpen := wseq, wseqMax := wseq, closedAt := 0, refresh := false,
                    wear := false, victim := false }
  let s := (s.put .X_BANDSEQ (id + 1)).put .X_ROT ((s.get .X_ROT + (if degraded then 0 else 1)) % 8)
  let s := s.journal 0x20 0 id (wseq * 65536 + rot * 256 + kind * 16 + mode)
  let mw := fun i => memberWord i (blocks.getD i none)
  let s := forEach [0, 1, 2, 3] s fun q s =>
    s.journal 0x21 0 (mw (4 * q) + mw (4 * q + 1) * 2 ^ 32) (mw (4 * q + 2) + mw (4 * q + 3) * 2 ^ 32)
  let s := forEach (blocks.filterMap (fun x => x)) s fun m s => s.put .X_BLK_MM mmOpen (blkIx m.1 m.2)
  let s : State := { s with bands := s.bands ++ [b] }
  (if degraded then s.bump .MC_CNT_DEGRADED_BANDS else s).updateGc

/-- The hold-up reserve is full (R367). -/
def State.reserveHeld (s : State) : Nat := (s.regs.filter fun x => x.1.f = .X_BLK_MM && x.2 = mmReserved).length
def State.reserveFull (s : State) : Bool := decide (16 * s.get .MC_GC_MARK1_HU_BANDS ≤ s.reserveHeld)

/-- A block waits that the reserve takes before any other allocation (R367; log entry 54). -/
def State.refillDue (s : State) : Bool :=
  !s.reserveFull && s.regs.any fun x => x.1.f = .X_BLK_MM && x.2 = mmErased && s.get .X_BLK_MODE x.1.i = 1

/-- Opens a band (R355 to R361, R380, R390): a band of a kind on the dies the J96 chose. A member whose block is not ERASED in the band's
mode keeps it from opening (R368). `failed` lists the dies whose ERASED block from before the latest start-up failed its check: they become
HALF_ERASED and the band is not opened. -/
def State.openNewBand (s : State) (kind rot : Nat) (dies : List (Option Nat)) (failed : List Nat) : State :=
  let mode := s.kindMode kind
  let degraded := (dies.filterMap fun x => x).length = 14
  let blocks := dies.map fun d => d.bind fun d => (s.chooseBlock kind d).map fun b => (d, b)
  let ready := (blocks.filterMap fun x => x).all fun m =>
    s.get .X_BLK_MM (blkIx m.1 m.2) = mmErased && s.get .X_BLK_MODE (blkIx m.1 m.2) = mode + 1
  if kind = 0 ∨ 4 < kind ∨ s.refillDue ∨ 12 ≤ (s.bands.filter fun b => b.isOpen).length ∨ !s.membersOk rot dies mode
      ∨ (!degraded && rot ≠ s.get .X_ROT) ∨ (blocks.filterMap fun x => x).length ≠ (dies.filterMap fun x => x).length ∨ !ready then s
  else
    let stale := (blocks.filterMap fun x => x).filter fun m => failed.contains m.1 && !s.flag .X_BLK_FRESH (blkIx m.1 m.2)
    if !stale.isEmpty then
      (forEach stale s fun m s =>
        ((s.put .X_BLK_STATE bsHalfErased (blkIx m.1 m.2)).put .X_BLK_MM mmHalfErased (blkIx m.1 m.2)).journal 0x28 0
          (baddr m.1 m.2) 3)
    else
      s.addBand kind mode rot blocks

/-! ### Garbage collection (R369 to R379) -/

/-- GC, patrol, refresh, static wear levelling, background recovery and map write-back are planned: not in Ready or Retain nor on the
way there, nor in Hold-up (R493 step 2, R538). -/
def State.bgWork (s : State) : Bool := (s.mode = mRun || s.mode = mThrottle) && s.get .PM_MODE_MOVE ≠ 1

/-- The granules that still name a stored granule or block, by its first place (R369). -/
def State.namers (s : State) (r : URec) (p : Nat) : List Nat :=
  ((List.range (if r.kind = 2 then 16 else 1)).map (r.g + ·)).filter fun g =>
    let w := s.mapGet r.node g
    eState w = 1 && ePlace w = p && !eLost w && ePacked w = (r.kind = 2)

/-- A stored unit is the first one of a granule, block or map page that is valid: the map, or for a map page the directory, still names
it (R307, R369). -/
def State.liveFirst (s : State) (r : URec) (p : Nat) : Bool :=
  r.first && (if r.kind = 3 then s.mapVol.any fun x => x.place = some p else (r.kind = 1 || r.kind = 2) && !(s.namers r p).isEmpty)

/-- First units stored in a band, programmed or still in the write buffer, that are valid, as place and record. -/
def State.validFirsts (s : State) (b : Band) : List (Nat × URec) :=
  ((s.flash.filterMap fun x => x.2.map fun u => (x.1, u.rcd))
    ++ (s.wbuf.filter fun w => !w.programmed).map fun w => (w.place, w.unit.rcd)).filter fun x => x.2.band = b.id && s.liveFirst x.2 x.1

/-- Valid units of a band, a map band's live pages among them. -/
def State.validUnits (s : State) (b : Band) : Nat := ((s.validFirsts b).map fun x => x.2.units).foldl (· + ·) 0

/-- A band GC may take (R369). -/
def Band.reclaimable (b : Band) : Bool := !b.isOpen

/-- A band of kind RW whose valid data belong to read-only volumes (R370, step 4). -/
def State.sealedData (s : State) (b : Band) : Bool :=
  let l := s.validFirsts b
  b.kind = kindRw && !l.isEmpty && l.all fun x => (s.node? x.2.node).any fun n => !n.writable

/-- The band with the fewest valid units, ties to the lowest ID (R370, step 5). -/
def State.fewestValid (s : State) : Option Band :=
  match s.bands.filter Band.reclaimable with
  | [] => none
  | b :: l => some (l.foldl (fun m x => if s.validUnits x < s.validUnits m || (s.validUnits x = s.validUnits m && x.id < m.id)
      then x else m) b)

/-- The victim GC takes next (R370); none while GC is IDLE. -/
def State.gcVictim (s : State) : Option Band :=
  let l := s.bands.filter Band.reclaimable
  let least := s.fewestValid
  let early (b : Band) : Bool := s.gcState ≤ 1 || (least.any fun m => s.validUnits b = s.validUnits m)
  if s.gcState = 0 then none
  else match l.find? fun b => b.closed with
    | some b => some b
    | none => match l.find? fun b => b.kind = kindCache && early b with
      | some b => some b
      | none => match l.find? fun b => b.wear && early b with
        | some b => some b
        | none => match l.find? fun b => s.sealedData b && early b with
          | some b => some b
          | none => least

/-- A band whose data are being moved: one taken before, for GC or for its refresh (R418), or the next victim. -/
def State.moving (s : State) (b : Band) : Bool := !b.isOpen && (b.victim || (s.gcVictim.any fun v => v.id = b.id))

/-- The target kind of a copy (R360). -/
def State.copyKind (s : State) (r : URec) : Nat :=
  if r.kind = 3 then kindMap else if (s.node? r.node).any fun n => n.writable then kindRw else kindRo

/-- A unit of a GC copy still to be committed, or ceasing to be valid. -/
def State.copyPending (s : State) (c : Copy) : Bool :=
  !c.recov && (s.unitAt c.src).any fun u => s.liveFirst u.rcd c.src

/-- R377: a place lies at most 1 wordline past the first one of its member that holds a copied unit neither committed nor invalid, so at
most 2 past the last one before that. -/
def State.copyRoom (s : State) (p : Nat) : Bool :=
  (s.copies.filter s.copyPending).all fun c => (s.unitSeq c.dst c.len).all fun q =>
    !(placeDie q = placeDie p && s.placeBlock q = s.placeBlock p) || decide (s.placePage p / 16 ≤ s.placePage q / 16 + 1)

/-- Copies a stored granule or block into an open band of a kind, with its record under the new band (R363). -/
def State.copyUnit (s : State) (p : Nat) (u : FUnit) (kind : Nat) (recov : Bool) : Option State :=
  match s.openBand kind u.rcd.units with
  | none => none
  | some t =>
    if !((List.range u.rcd.units).all fun k => s.copyRoom (s.bandPlace t (t.pos + k))) then none
    else
      let data := (s.unitSeq p u.rcd.units).map s.unitBytes
      let a := s.allocIn t u.rcd.units u.rcd.wseq
      let s := a.2
      let s : State := { s with
        wbuf := s.wbuf ++ bufUnits { u.rcd with band := t.id } none none true a.1 data
        copies := s.copies ++ [⟨p, a.1.headD 0, u.rcd.units, recov⟩] }
      some s

/-- The lookups of the entries that name a copied granule, on the port of the cluster it lies in (R279). -/
def State.gcLookups (s : State) (r : URec) (p : Nat) : State :=
  if r.kind = 3 then s
  else forEach ((s.namers r p).map (· / 8)).eraseDups s fun l s => s.touchLine (8 + channelCluster (dieChannel (placeDie p))) r.node l

/-- GC_COPY (R370, R374 step 1, R379): a valid granule, block or map page of a band that is moved; not while it is under recovery. -/
def execGcCopy (place : Nat) (s : State) : Host.Outcome State Fault Refusal :=
  match s.bandOf place, s.unitAt place with
  | some b, some u =>
    if !s.bgWork || !s.moving b || !s.liveFirst u.rcd place || (s.copies.any fun c => c.src = place)
        || (u.rcd.kind ≠ 3 && (s.namers u.rcd place).any fun g => eRecov (s.mapGet u.rcd.node g)) then .next s
    else
      match (s.gcLookups u.rcd place).copyUnit place u (s.copyKind u.rcd) false with
      | some t => .next ((t.setBand { b with victim := true }).add .MC_CNT_GC_UNITS u.rcd.units)
      | none => .next s
  | _, _ => .next s

/-- The rows of a copy are parity-complete. -/
def State.copyComplete (s : State) (c : Copy) : Bool :=
  (s.unitSeq c.dst c.len).all fun p => match s.bandOf p with
    | some b => b.rowComplete (s.placePage p)
    | none => true

/-- Points the granules that still name the source to the copy, or the directory where it is a map page (R307, R374, R375); `clear` ends
their recovery. -/
def State.commitCopy (s : State) (c : Copy) (clear : Bool) : State :=
  match s.unitAt c.src with
  | none => s
  | some u =>
    if u.rcd.kind = 3 then s.repointPage c.src c.dst else
    let l := ((List.range (if u.rcd.kind = 2 then 16 else 1)).map (u.rcd.g + ·)).filter fun g =>
      let w := s.mapGet u.rcd.node g
      eState w = 1 && ePlace w = c.src && !eLost w
    forEach l s fun g s =>
      let w := s.mapGet u.rcd.node g
      let w := if clear && eRecov w then w - 2 ^ 60 else w
      s.mapPut u.rcd.node g (w - c.src + c.dst)

/-- GC_COMMIT (R374 step 2, R375). -/
def execGcCommit (place : Nat) (s : State) : Host.Outcome State Fault Refusal :=
  match s.copies.find? fun c => c.src = place && !c.recov with
  | none => .next s
  | some c =>
    if !s.copyComplete c then .next s
    else
      let s := s.commitCopy c false
      .next { s with copies := s.copies.erase c }

/-- What made the granules of a band's units no longer valid is durable (R374, R387). -/
def State.movesDurable (s : State) (b : Band) : Bool :=
  s.durable fun r => (r.type = 0x01 && (s.flash.any fun x => x.2.any fun u => u.rcd.band = b.id && u.rcd.first && u.rcd.node = r.node
      && decide (u.rcd.g ≤ r.a) && decide (r.a < u.rcd.g + 16)))
    || (r.type = 0x02 && b.kind = kindMap)

/-- Write-buffer units of a band that is given back need no programming any more; writes that waited for them are acknowledged. -/
def State.dropBand (s : State) (band : Nat) : State :=
  let l := s.wbuf.filter fun w => w.unit.rcd.band = band
  let s : State := { s with bands := s.bands.filter (fun x => x.id ≠ band), wbuf := s.wbuf.filter fun w => w.unit.rcd.band ≠ band }
  (s.dirtySub (4096 * (l.filter fun w => w.host.isSome && !w.programmed).length)).ackAll

/-- A band is given back (R374, R378, R383): its RELEASE is journalled and its blocks become RELEASED; a CLOSED one is retired. -/
def State.releaseMembers (s : State) (b : Band) : State :=
  forEach (b.members.filterMap fun x => x) (s.journal 0x24 0 b.id 0) fun m s =>
    let ix := blkIx m.1 m.2
    if s.blkState m.1 m.2 = bsClosed then (s.put .X_BLK_STATE bsRetiredProgram ix).journalRetire m.1 m.2 2
    else ((s.put .X_BLK_MM mmReleased ix).put .X_BLK_REL (s.get .X_CMDSEQ) ix).putFlag .X_BLK_RELR (!s.recovs.isEmpty) ix

/-- RELEASE (R307, R374 step 3, R378, R379, R383): every unit of a moved band is committed or no longer valid, durably, and no superseded
map page in it awaits a CHECKPOINT. Its blocks become RELEASED; a CLOSED one is retired. -/
def execRelease (band : Nat) (s : State) : Host.Outcome State Fault Refusal :=
  match s.bands.find? fun b => b.id = band with
  | none => .next s
  | some b =>
    if b.isOpen || !(s.moving b) || !(s.validFirsts b).isEmpty || (s.copies.any fun c => (s.bandOf c.src).any fun x => x.id = band)
        || !s.movesDurable b || (s.oldPages.any fun p => (s.bandOf p).any fun x => x.id = band) then .next s
    else
      let s := (s.releaseMembers b).bump .MC_CNT_GC_BANDS
      let s := if b.wear then s.bump .MC_CNT_WL_BANDS else s
      let s := if b.refresh then s.bump .MC_CNT_REFRESH else s
      .next (s.dropBand band).updateGc

/-- Gives the planner a media operation of the J96's own. -/
def State.planOwn (s : State) (d : Nat) (e : PEntry) : State := s.giveWork d e

/-- RESERVE_REFILL (R367): an ERASED SLC block is held for the hold-up flush while the reserve is short. -/
def execReserveRefill (die block : Nat) (s : State) : Host.Outcome State Fault Refusal :=
  let ix := blkIx die block
  if s.get .X_BLK_MM ix = mmErased && s.get .X_BLK_MODE ix = 1 && !s.reserveFull then
    .next ((s.put .X_BLK_MM mmReserved ix).updateGc)
  else .next s

/-- STATIC_WEAR_LEVELLING (R381): when the spread reaches SPREAD, the FULL band that holds the block with the lowest count is chosen, at
most RATE bands a second. -/
def execStaticWearLevelling (band : Nat) (s : State) : Host.Outcome State Fault Refusal :=
  let r := s.wearRange
  let s := s.put .MC_WL_RANGE (r.2 * 2 ^ 32 + r.1)
  let sec := s.calRaw / 65536
  let used := if s.get .X_CAL_SEC = sec then s.get .X_WL_SEC else 0
  match s.bands.find? fun b => b.id = band with
  | none => .next s
  | some b =>
    if s.bgWork && decide (r.1 + s.get .MC_WL_CFG_SPREAD ≤ r.2) && decide (used < s.get .MC_WL_CFG_RATE) && !b.isOpen && !b.wear
        && ((b.members.filterMap fun x => x).any fun m => s.get .X_BLK_CNT (blkIx m.1 m.2) = r.1) then
      .next (((s.setBand { b with wear := true }).put .X_CAL_SEC sec).put .X_WL_SEC (used + 1))
    else .next s

/-! ### Journal pages and map write-back (R305, R307, R387) -/

/-- A map page in four stored units, as the record and bytes R362 and R273 give. -/
def pageUnits (words : List (Nat × Nat)) : List (List Byte) :=
  (List.range 4).map fun q => (List.range 512).flatMap fun k => natLe 8 ((words.lookup (512 * q + k)).getD 0)

/-- An update whose page has not been written with it (R307): a line or page that holds it is DIRTY, and no later DIR_UPDATE names the
page. -/
def State.unwritten (s : State) (r : JRec) : Bool :=
  r.type = 0x01
    && ((s.pages.any fun p => p.dirty && p.node = r.node && p.page = r.a / 2048)
      || s.lines.any fun x => x.st = .dirty && x.node = r.node && x.l = r.a / 8)
    && !s.jnl.any fun d => d.type = 0x02 && d.node = r.node && d.a = r.a / 2048 && decide (r.seq < d.seq)

/-- Every update with a lower SEQ is in flash (R306, R307). -/
def State.checkBound (s : State) : Nat := (s.jnl.find? s.unwritten).elim (s.get .X_JNLSEQ + 1) fun r => r.seq

/-- The band table's read counts as the latest CHECKPOINT or the hold-up sequence wrote them (R419). -/
def State.keepReads (s : State) : State :=
  let ixs := ((s.regs.filter fun x => x.1.f = .X_BLK_READS || x.1.f = .X_BLK_RKEPT).map fun x => x.1.i).eraseDups
  forEach ixs s fun i s => s.put .X_BLK_RKEPT (s.get .X_BLK_READS i) i

/-- A power loss that the hold-up sequence does not end: the counts made since are lost (R419). -/
def State.loseReads (s : State) : State :=
  let ixs := ((s.regs.filter fun x => x.1.f = .X_BLK_READS || x.1.f = .X_BLK_RKEPT).map fun x => x.1.i).eraseDups
  forEach ixs s fun i s => s.put .X_BLK_READS (s.get .X_BLK_RKEPT i) i

/-- Journals a CHECKPOINT where every page dirtied by records below some SEQ above the latest one has its DIR_UPDATE durable (R307):
journal space below it is freed and the count of journal written starts again. -/
def State.checkpoint (s : State) : State :=
  let bound := s.checkBound
  if bound ≤ s.get .MC_JNL_CKPT || !s.durable (fun r => r.type = 0x02) then s
  else
    let s := s.journal 0x03 0 bound 0
    let s : State := { s with jnl := s.jnl.filter fun r => decide (bound ≤ r.seq) }
    (({ s with oldPages := [] } : State).put .MC_JNL_CKPT bound).put .X_JNL_BYTES 32 |>.updateJnl.keepReads

/-- JOURNAL_PAGE_PROGRAM (R307, R308, R387): a page of records is programmed; writes that waited for it are acknowledged, and a CHECKPOINT
that waited for its records follows. -/
def execJournalPageProgram (s : State) : Host.Outcome State Fault Refusal :=
  if s.jnl.all fun r => r.prog then .next s
  else
    let t := s.programJnl
    .next (if t.bgWork then t.checkpoint else t).ackAll

/-- Programs a page of the DRAM store to a new place and journals its DIR_UPDATE; nothing where no MAP band has room. The copy it
supersedes stays until the next CHECKPOINT (R307). -/
def State.writePage (s : State) (p : MapPage) : State :=
  match s.openBand kindMap 4 with
  | none => s
  | some b =>
    let wseq := s.get .X_WSEQ
    let a := s.allocIn b 4 wseq
    let s := a.2
    let r : URec := ⟨wseq, 3, true, 0, 0, b.id, p.page, 0, 0⟩
    let s : State := { s with
      wbuf := s.wbuf ++ bufUnits r none none true a.1 (pageUnits p.words)
      oldPages := s.oldPages ++ p.place.toList
      pages := s.pages.map fun x => if x.node = p.node ∧ x.page = p.page then { x with dirty := false, place := a.1.head? } else x
      mapVol := { p with dirty := false, place := a.1.head? } :: s.mapVol.filter fun x => ¬(x.node = p.node ∧ x.page = p.page) }
    s.journal 0x02 p.node p.page (mkEntry false false 4 0 (a.1.headD 0))

/-- MAP_WRITE_BACK (R307). -/
def execMapWriteBack (node page : Nat) (s : State) : Host.Outcome State Fault Refusal :=
  if !s.bgWork then .next s else
  let s := forEach (s.lines.filter fun x => x.node = node && x.l / 256 = page && s.isVolume node) s fun x s => s.writeBackLine x
  match s.page? node page with
  | none => .next s
  | some p => .next (if p.dirty then (s.writePage p).checkpoint else s)

end Sys2Proof.Machine
end

