-- ==== Sys2Proof/Machine/Protect.lean ====
section
/-! DEFINITION. Metadata and protection information of logical blocks (R145, R250): how a transfer lays them out, and the guard, application
and reference tags as the NVM Command Set has them (log entry 20). A stored unit of a volume whose format has metadata holds, behind its
4,096 bytes, the metadata of its logical blocks in order (log entry 73). -/

namespace Sys2Proof.Machine

/-- Metadata bytes of a logical block in an LBA format (R145). -/
def lbaMeta (lbaf : Nat) : Nat := if lbaf = 1 ∨ lbaf = 4 then 8 else if lbaf = 2 then 16 else 0

/-! ### Guards -/

/-- One bit of a CRC whose register holds `w` bits, most significant first. -/
def crcMsb (w poly : Nat) (c : Nat) (b : Bool) : Nat :=
  let top := decide (2 ^ (w - 1) ≤ c) != b
  let c := 2 * c % 2 ^ w
  if top then c ^^^ poly else c

/-- The bits of a byte, most significant first. -/
def msbBits (b : Byte) : List Bool := (List.range 8).map fun k => b.getLsbD (7 - k)

/-- The 16-bit guard: CRC-16 with polynomial 0x8BB7, initial value 0. -/
def crc16 (l : List Byte) : Nat := l.foldl (fun c b => (msbBits b).foldl (crcMsb 16 0x8BB7) c) 0

/-- One bit of the reflected CRC-64. -/
def crc64Bit (c : Nat) : Nat := if c % 2 = 1 then c / 2 ^^^ 0x9A6C9329AC4BC9B5 else c / 2

/-- The 64-bit guard: the NVM Command Set's CRC-64, reflected, initial value and final XOR all ones. -/
def crc64 (l : List Byte) : Nat :=
  (l.foldl (fun c b => (List.range 8).foldl (fun c _ => crc64Bit c) (c ^^^ b.toNat)) (2 ^ 64 - 1)) ^^^ (2 ^ 64 - 1)

/-- A number in `n` bytes, most significant first. -/
def natBe (n v : Nat) : List Byte := (natLe n v).reverse

/-- The number bytes spell, most significant first. -/
def beNat (l : List Byte) : Nat := leNat l.reverse

/-! ### A block's protection information -/

/-- Guard, application tag and reference tag of protection information of 8 or 16 bytes. -/
def piGuard (l : List Byte) : Nat := if l.length = 16 then beNat (l.take 8) else beNat (l.take 2)
def piApp (l : List Byte) : Nat := if l.length = 16 then beNat ((l.drop 8).take 2) else beNat ((l.drop 2).take 2)
def piRef (l : List Byte) : Nat := if l.length = 16 then beNat (l.drop 10) else beNat (l.drop 4)

/-- Bits of a reference tag. -/
def refBits (md : Nat) : Nat := if md = 16 then 48 else 32

/-- The guard of a block's data. -/
def guardOf (md : Nat) (data : List Byte) : Nat := if md = 16 then crc64 data else crc16 data

/-- The protection information the J96 inserts for a block (PRACT). -/
def makePi (f : BlockFmt) (k : Nat) (data : List Byte) : List Byte :=
  let ref := (f.ref + (if f.pi = 3 then 0 else k)) % 2 ^ refBits f.md
  if f.md = 16 then natBe 8 (crc64 data) ++ natBe 2 f.tag ++ natBe 6 ref else natBe 2 (crc16 data) ++ natBe 2 f.tag ++ natBe 4 ref

/-- The application and reference tags that switch the checks of a block off. -/
def piOff (f : BlockFmt) (l : List Byte) : Bool :=
  piApp l = 0xFFFF && (f.pi ≠ 3 || piRef l = 2 ^ refBits f.md - 1)

def vGuardCheck : Result := { jx := 0x09, sct := 2, sc := 0x82, dnr := false }
def vAppTagCheck : Result := { jx := 0x09, sct := 2, sc := 0x83, dnr := false }
def vRefTagCheck : Result := { jx := 0x09, sct := 2, sc := 0x84, dnr := false }
def vInvalidPi : Result := { sct := 1, sc := 0x81, dnr := true }

/-- The first check of a block's protection information that fails: guard, application tag, reference tag, as PRCHK asks. -/
def piVerdict (f : BlockFmt) (k : Nat) (data meta' : List Byte) : Option Result :=
  if f.pi = 0 || meta'.length ≠ f.md || piOff f meta' then none
  else if bit f.prchk 2 && piGuard meta' ≠ guardOf f.md data then some vGuardCheck
  else if bit f.prchk 1 && (piApp meta' &&& f.mask) ≠ (f.tag &&& f.mask) then some vAppTagCheck
  else if bit f.prchk 0 && f.pi ≠ 3 && piRef meta' ≠ (f.ref + k) % 2 ^ refBits f.md then some vRefTagCheck
  else none

/-! ### Where a transfer has a byte -/

/-- Metadata bytes that a transfer carries per block: none where the J96 inserts or strips them. -/
def BlockFmt.sent (f : BlockFmt) : Nat := if f.pi ≠ 0 ∧ f.pract then 0 else f.md

/-- The position in a command's transfer of byte `k` of its data. -/
def Cmd.dataPos (c : Cmd) (k : Nat) : Nat := if c.fmt.ext then k / c.fmt.lb * (c.fmt.lb + c.fmt.sent) + k % c.fmt.lb else k

/-- The position of byte `j` of the metadata of its block `b`: in the extended block, or past the data, in the buffer of the metadata
pointer. -/
def Cmd.metaPos (c : Cmd) (b j : Nat) : Nat :=
  if c.fmt.ext then b * (c.fmt.lb + c.fmt.sent) + c.fmt.lb + j else c.bytes + b * c.fmt.sent + j

/-- Logical blocks of a command. -/
def Cmd.blocks (c : Cmd) : Nat := c.bytes / c.fmt.lb

/-- Bytes that the data pointer moves, and the metadata pointer. -/
def Cmd.ptrBytes (c : Cmd) : Nat := if c.fmt.ext then c.bytes + c.blocks * c.fmt.sent else c.bytes
def Cmd.metaBytes (c : Cmd) : Nat := if c.fmt.ext then 0 else c.blocks * c.fmt.sent

/-- The metadata of a deallocated block (R250): 0xFF in every byte where the format has protection information. -/
def blankMeta (f : BlockFmt) : List Byte := List.replicate f.md (if f.pi = 0 then 0 else 0xFF)

/-- The metadata of block `r` of a stored unit. -/
def unitMeta (f : BlockFmt) (unit : List Byte) (r : Nat) : List Byte :=
  let m := (unit.drop (4096 + r * f.md)).take f.md
  if m.length = f.md then m else blankMeta f

end Sys2Proof.Machine
end

