-- ==== Sys2Proof/Machine/Stacks.lean ====
section
/-! DEFINITION. Title stacks and volumes (06): creating nodes, the TS_ commands with the checks of R260 over the armed changes, a change
taking effect, and deletion. -/

namespace Sys2Proof.Machine

/-! ### Node IDs, generations and records (R243, R244, R264) -/

/-- The lowest free node ID (R243). -/
def State.freeNode (s : State) : Option Nat := (List.range 4096).find? fun i => (s.node? i).isNone

/-- The generation after the one an ID last carried (R244). -/
def State.nextGen (s : State) (id : Nat) : Nat :=
  let g := s.get .X_NODE_GEN id
  if g = 0xFFFFF then 1 else g + 1

/-- A of a NODE_CREATE record. -/
def Node.createWord (n : Node) : Nat :=
  n.size + (if n.isStack then 2 else 1) * 2 ^ 40 + n.granule * 2 ^ 42 + n.codec * 2 ^ 44 + n.lbaf * 2 ^ 46
    + (if n.writable then 2 ^ 49 else 0)

/-- Journals a child list in parts of eight (R264). -/
def State.journalChildren (s : State) (id : Nat) (children : List Nat) : State :=
  let parts := max 1 ((children.length + 7) / 8)
  forEach (List.range parts) s fun q s =>
    let c := fun k => children.getD (8 * q + k) 0
    s.journal 0x13 id (children.length + q * 64 + (c 0 + c 1 * 2 ^ 12 + c 2 * 2 ^ 24 + c 3 * 2 ^ 36) * 2 ^ 16)
      (c 4 + c 5 * 2 ^ 12 + c 6 * 2 ^ 24 + c 7 * 2 ^ 36)

/-- Lines that pins still lock under a new node's ID serve it from now on, as empty as it is (R300). -/
def State.adoptLines (s : State) (id : Nat) : State :=
  { s with lines := s.lines.map fun x =>
      if x.node = id then { x with st := .clean, words := s.fillWords x, epoch := s.epochOf id } else x }

/-- Adds a node under the lowest free ID with its next generation, and journals it. -/
def State.addNode (s : State) (n : Node) : State :=
  let g := s.nextGen n.id
  let s := s.put .X_NODE_GEN g n.id
  (({ s with nodes := s.nodes ++ [n] } : State).journal 0x10 n.id n.createWord g).adoptLines n.id

/-- Journals the attributes of a volume. -/
def State.journalAttr (s : State) (n : Node) : State :=
  s.journal 0x11 n.id ((if n.writable then 1 else 0) + n.lbaf * 2 + (if n.titleKey then 16 else 0)) 0

/-- Drops a volume's dictionary (R453). -/
def State.dropDict (s : State) (node : Nat) : State :=
  if s.dicts.any fun d => d.node = node then
    ({ s with dicts := s.dicts.filter fun d => d.node ≠ node } : State).journal 0x18 node 0 0
  else s

/-! ### The checks of R260 -/

/-- A change of the node list. -/
structure Change where
  op : Nat
  node : Nat
  children : List Nat
  size : Nat
  deriving DecidableEq, Repr

def tsCreate : Nat := 1
def tsSet : Nat := 2
def tsDelete : Nat := 3
def tsWritable : Nat := 4
def tsSeal : Nat := 5
def tsGrow : Nat := 6

/-- A new stack node. -/
def newStack (id size : Nat) (children : List Nat) : Node :=
  { id := id, isStack := true, deleting := false, size := size, granule := 0, codec := 0, lbaf := 0, ext := false, pi := 0, writable := false,
    titleKey := false, children := children, epoch := 0, attached := [], formatting := none }

/-- What a change makes of the nodes. -/
def State.withChange (s : State) (c : Change) : State :=
  let upd (f : Node → Node) : State := { s with nodes := s.nodes.map fun n => if n.id = c.node then f n else n }
  if c.op = tsCreate then
    match s.freeNode with
    | some id => { s with nodes := s.nodes ++ [newStack id c.size c.children] }
    | none => s
  else if c.op = tsSet then upd fun n => { n with children := c.children }
  else if c.op = tsDelete then upd fun n => { n with deleting := true, children := [] }
  else if c.op = tsWritable then upd fun n => { n with writable := true }
  else if c.op = tsSeal then upd fun n => { n with writable := false }
  else if c.op = tsGrow then upd fun n => { n with size := c.size }
  else s

/-- Some stack lists a node now. -/
def State.inStack (s : State) (id : Nat) : Bool := s.nodes.any fun n => n.isStack && n.children.contains id

/-- An armed change adds a node to a stack (R262). -/
def State.armedAdds (s : State) (id : Nat) : Bool :=
  s.armed.any fun a => match a.act with
    | .stack _ op _ children _ => op = tsSet && children.contains id
    | _ => false

/-- Depth and layers of every stack are within TS_CAP (R248). -/
def State.shapeOk (s : State) : Bool :=
  s.nodes.all fun n => !n.isStack || (decide (s.depth 12 n.id ≤ s.get .TS_CAP_MAX_DEPTH)
    && decide ((s.order n.id).length ≤ s.get .TS_CAP_MAX_LAYERS))

/-- The stacks a node counts as a child of (R262): those that list it now, and those to which a change that is armed and has not yet
taken effect will add it. -/
def State.parentsOf (s : State) (armed : List Change) (id : Nat) : List Nat :=
  (((s.nodes.filter fun n => n.isStack && n.children.contains id).map fun n => n.id)
    ++ (armed.filter fun c => c.op = tsSet && c.children.contains id).map fun c => c.node).eraseDups

/-- R246: a writable volume is a child of at most one stack. That R262's count of armed changes holds for this check too is DEDUCED from
its words "for R142, R147 and R260" (log entry 74). -/
def State.writersOk (s : State) (armed : List Change) : Bool :=
  s.nodes.all fun v => v.isStack || !v.writable || decide ((s.parentsOf armed v.id).length ≤ 1)

/-- R254: a write target is at least as large as every stack whose write target it is. -/
def State.sizesOk (s : State) : Bool :=
  s.nodes.all fun n => !n.isStack || (match s.writeTarget n.id with
    | some v => (s.node? v).any fun x => decide (n.size ≤ x.size)
    | none => true)

/-- The reason for which a change fails in a state (R260), the first of the table; `armed` are the armed changes that take effect after
it. -/
def State.changeReason (s : State) (c : Change) (armed : List Change) : Option Nat :=
  let named := c.op ≠ tsCreate
  let lists := c.op = tsCreate || c.op = tsSet
  let kids := if lists then c.children else []
  let after := s.withChange c
  if (named && !s.active c.node) || kids.any (fun x => !s.active x) then some 3
  else if (named && (c.op = tsSet || c.op = tsDelete) && s.isVolume c.node)
      || (named && (c.op = tsWritable || c.op = tsSeal) && !s.isVolume c.node) then some 4
  else if c.op = tsSet && kids.any (fun x => x = c.node || s.reaches 12 x c.node) then some 5
  else if decide (s.get .TS_CAP_MAX_CHILDREN < kids.length) || kids.eraseDups.length ≠ kids.length
      || (c.op = tsCreate && s.freeNode.isNone) || !after.shapeOk then some 6
  else if c.op = tsDelete && !(s.parentsOf armed c.node).isEmpty then some 7
  else if c.op = tsDelete && (s.node? c.node).any (fun n => !n.attached.isEmpty) then some 8
  else if !after.writersOk armed then some 9
  else if after.nodes.any (fun n => n.isStack && !n.attached.isEmpty && after.mixed n.id) then some 10
  else if !after.sizesOk || ((c.op = tsGrow || c.op = tsCreate) && (c.size = 0 || decide (2 ^ 40 < c.size)))
      || (c.op = tsGrow && (s.node? c.node).any (fun n => decide (c.size < n.size))) then some 11
  else none

/-- Armed stack changes in order of tick and then of acceptance. -/
def State.armedChanges (s : State) : List (Nat × Change) :=
  let l := s.armed.filterMap fun a => match a.act with
    | .stack _ op node children _ => some (a.tick, (⟨op, node, children, 0⟩ : Change))
    | _ => none
  l.foldr (fun x acc => (acc.takeWhile fun y => decide (y.1 < x.1)) ++ x :: acc.dropWhile fun y => decide (y.1 < x.1)) []

/-- The lower of two reasons. -/
def minReason : Option Nat → Option Nat → Option Nat
  | none, b => b
  | a, none => a
  | some a, some b => some (min a b)

/-- The reasons met when changes take effect one after another. -/
def State.seqReason (s : State) : List Change → Option Nat
  | [] => none
  | c :: l => minReason (s.changeReason c l) ((s.withChange c).seqReason l)

/-- The reasons a change meets in the current state and in each state that the changes before it produce; `later` are those after it. -/
def State.ownReason (s : State) (c : Change) (later : List Change) : List Change → Option Nat
  | [] => s.changeReason c later
  | x :: l => minReason (s.changeReason c (x :: l ++ later)) ((s.withChange x).ownReason c later l)

/-- The first check of R260 that fails for a command placed at a tick (none: at once), for itself or for an armed change. -/
def State.tsReason (s : State) (c : Change) (useTick : Bool) (tick count : Nat) : Option Nat :=
  if c.op = 0 ∨ 6 < c.op ∨ (useTick && c.op ≠ tsSet && c.op ≠ tsDelete) then some 2
  else
    let armed := s.armedChanges
    let before := if useTick then (armed.takeWhile fun x => decide (x.1 ≤ tick)).map Prod.snd else []
    let afterC := if useTick then (armed.dropWhile fun x => decide (x.1 ≤ tick)).map Prod.snd else armed.map Prod.snd
    let own := minReason (s.ownReason c afterC before) (s.seqReason (before ++ c :: afterC))
    let limit := if s.get .TS_CAP_PENDING_MAX ≤ armed.length || 32 < count then some 6 else none
    let late := if useTick && !s.armOk tick then some 12 else none
    minReason (minReason own limit) late

/-! ### A change takes effect (R261, R266, R267) -/

/-- Adds the NSIDs of a changed node and of every stack that contains it to the Changed Namespace Lists, and tells the controllers
(R267). -/
def State.notifyChange (s : State) (id : Nat) : State :=
  let nodes := id :: s.stacksOver id
  forEach s.allFns s fun f s =>
    let mine := nodes.filter fun n => (s.node? n).any fun x => x.attached.contains f
    if mine.isEmpty then s
    else
      let s := forEach mine s fun n s => s.putFlag .X_NSCHG true (f * 4096 + n)
      if bit (s.get .X_FEAT_AEC f) 8 then s.asyncEvent f 2 0 0x04 else s

/-- The epochs of a stack and of every stack that contains it advance; unlocked lines of an older epoch go, locked ones are
STALE until refilled (R286, R296). -/
def State.newEpoch (s : State) (id : Nat) : State :=
  let ids := id :: s.stacksOver id
  let s : State := { s with nodes := s.nodes.map fun n =>
      if n.isStack && ids.contains n.id then { n with epoch := (n.epoch + 1) % 256 } else n }
  { s with lines := (s.lines.filter fun x => !(ids.contains x.node && !s.isVolume x.node && !x.locked)).map fun x =>
      if ids.contains x.node && !s.isVolume x.node then { x with st := .stale } else x }

/-- TS_RESULT of an agent. -/
def State.tsResult (s : State) (a st reason node : Nat) : State :=
  ((s.put .TS_RESULT_STATE st 0 a).put .TS_RESULT_REASON reason 0 a).put .TS_RESULT_NODE node 0 a

/-- Reports DONE for a change in the agent's TS_RESULT, while that still shows it (R263). -/
def State.tsDone (s : State) (a tag st : Nat) : State :=
  if s.get .X_TS_SEQ 0 a = tag && (s.get .TS_RESULT_STATE 0 a = 1 || s.get .TS_RESULT_STATE 0 a = 2) then
    (s.put .TS_RESULT_STATE st 0 a).putFlag .TS_CMD_GO false 0 a
  else s

/-- A deletion begins (R268): the node reads DELETING, a stack lists no child any more, and the node's lines are invalidated. -/
def State.beginDeletion (s : State) (id agent tag : Nat) : State :=
  match s.node? id with
  | none => s
  | some n =>
    let s := (s.journal 0x14 id 0 0).setNode { n with deleting := true, children := [] }
    s.startSweep ⟨id, 0, 2 ^ 60, 1, agent, false, tag⟩

/-- A change of nodes takes effect. It is journalled first (R263). -/
def State.effect (s : State) (a tag : Nat) (c : Change) : State :=
  if c.op = tsCreate then
    match s.freeNode with
    | none => s
    | some id =>
      let s := (s.addNode (newStack id c.size c.children)).journalChildren id c.children
      (s.put .TS_RESULT_NODE id 0 a).tsDone a tag 3
  else if c.op = tsSet then
    let s := (((s.journalChildren c.node c.children).withChange c).newEpoch c.node).notifyChange c.node
    { s with sweeps := s.sweeps ++ [⟨c.node, 0, 2 ^ 60, 3, a, false, tag⟩] }
  else if c.op = tsDelete then ((s.beginDeletion c.node a tag).put .X_TS_DEL tag c.node).notifyChange c.node
  else
    let s := s.withChange c
    let s := match s.node? c.node with
      | some n => if c.op = tsGrow then s.journal 0x12 c.node c.size 0 else s.journalAttr n
      | none => s
    let s := if c.op = tsWritable then s.dropDict c.node else s
    (s.notifyChange c.node).tsDone a tag 3

/-- A GO to TS_CMD (R258 to R261). -/
def State.submitTs (s : State) (ag : Agent) (op : Nat) (useTick : Bool) : State :=
  s.guardWrite ag .ownerFeMp fun s =>
    let a := ag.ix
    if s.get .TS_RESULT_STATE 0 a = 1 then s.bump .UCB_CNT2 uMap
    else
      let s := (s.put .TS_CMD_OP op 0 a).putFlag .TS_CMD_USE_TICK useTick 0 a
      let count := s.get .TS_ARG_COUNT 0 a
      let node := s.get .TS_ARG_NODE 0 a
      let children := if op = tsCreate || op = tsSet then (List.range (min count 32)).map fun i => s.get .TS_STAGE_NODE i a else []
      let c : Change := ⟨op, node, children, s.get .TS_ARG_SIZE 0 a⟩
      let tick := s.get .TS_TICK 0 a
      let tag := s.get .X_TS_NEXT + 1
      let s := (s.put .X_TS_NEXT tag).put .X_TS_SEQ tag 0 a
      match s.tsReason c useTick tick (if op = tsCreate || op = tsSet then count else 0) with
      | some r => s.tsResult a 4 r node
      | none =>
        if useTick then (s.tsResult a 2 0 node).arm tick (.stack a op node children tag)
        else ((s.tsResult a 1 0 node).putFlag .TS_CMD_GO true 0 a).effect a tag c

/-- CREATE_STACK (R259). -/
def execCreateStack (ag : Agent) (s : State) : Host.Outcome State Fault Refusal :=
  .next (s.atUnit uMap fun s => s.submitTs ag tsCreate false)
/-- SET_CHILDREN (R259). -/
def execSetChildren (ag : Agent) (useTick : Bool) (s : State) : Host.Outcome State Fault Refusal :=
  .next (s.atUnit uMap fun s => s.submitTs ag tsSet useTick)
/-- DELETE_STACK (R259). -/
def execDeleteStack (ag : Agent) (useTick : Bool) (s : State) : Host.Outcome State Fault Refusal :=
  .next (s.atUnit uMap fun s => s.submitTs ag tsDelete useTick)
/-- SET_WRITABLE (R259). -/
def execSetWritable (ag : Agent) (s : State) : Host.Outcome State Fault Refusal :=
  .next (s.atUnit uMap fun s => s.submitTs ag tsWritable false)
/-- CLEAR_WRITABLE (R259). -/
def execClearWritable (ag : Agent) (s : State) : Host.Outcome State Fault Refusal :=
  .next (s.atUnit uMap fun s => s.submitTs ag tsSeal false)
/-- GROW (R259). -/
def execGrow (ag : Agent) (s : State) : Host.Outcome State Fault Refusal :=
  .next (s.atUnit uMap fun s => s.submitTs ag tsGrow false)

/-! ### Sweeps end; deletions complete (R269, R298) -/

/-- A locked line that a sweep still waits for. -/
def State.sweepHolds (s : State) (w : Sweep) : Bool :=
  let ids := if w.kind = 3 then w.node :: s.stacksOver w.node else [w.node]
  s.lines.any fun x => ids.contains x.node && x.st = .stale && (w.kind = 3 || w.hits x)

/-- A slot is free: the oldest waiting range is accepted (R295). -/
def State.nextSweep (s : State) : State :=
  match s.sweeps.find? fun x => x.waiting with
  | none => s
  | some w =>
    let s : State := { s with sweeps := s.sweeps.map fun x => if x = w then { x with waiting := false } else x }
    s.applySweep w

/-- INVALIDATION_SWEEP_DONE (R296, R298): the sweep of a node's range has passed every set and its locked lines are refilled. -/
def execInvalidationSweepDone (node : Nat) (s : State) : Host.Outcome State Fault Refusal :=
  match s.sweeps.find? fun w => w.node = node && !w.waiting && !s.sweepHolds w with
  | none => .next s
  | some w =>
    let s := ({ s with sweeps := s.sweeps.erase w } : State).bump .MC_CNT_INV
    let s := if w.kind = 0 then (s.put .MC_INV_STS_STATE 2 0 w.agent).putFlag .MC_INV_CMD_GO false 0 w.agent
      else if w.kind = 3 then s.tsDone w.agent w.tag 3
      else s
    .next (if w.kind = 3 then s else s.nextSweep)

/-- Commands that hold a resolution which includes a node (R265, R269). -/
def State.heldBy (s : State) (node : Nat) : Bool :=
  s.cmds.any fun c => c.st ≠ .taken && c.st ≠ .ended && !(c.nvme && c.q = 0)
    && (c.node = node || c.target = node + 1 || c.order.contains node || c.parts.any fun p => p.vol = node)

/-- The keys of a volume wait for their destruction (R467). -/
def State.doomKeys (s : State) (node : Nat) : State :=
  { s with keys := s.keys.map fun k => if k.node = node then { k with doomed := true } else k }

/-- A volume has a new key of a source (R464); the old one waits for its destruction. A DEVICE key is journalled wrapped, in nine
records (R264): the wrapped bytes are the Warden's own. -/
def State.newKey (s : State) (node source : Nat) : State :=
  let n := s.get .X_KEYSEQ + 1
  let s := (s.put .X_KEYSEQ n).doomKeys node
  let s : State := { s with
    keys := s.keys ++ [⟨node, n, source, false⟩]
    nodes := s.nodes.map fun x => if x.id = node then { x with titleKey := decide (source = 1) } else x }
  if source = 1 then s
  else forEach (List.range 9) s fun p s =>
    let (v, s) := s.takeFree
    s.journal 0x16 node p (v % 2 ^ 64)

/-- A licence closes (R470, R471): counted, and the source of its close raised. -/
def State.countClose (s : State) (node : Nat) : State := (s.bump .SEC_CNT_LIC_CLOSE).raise 83 uWarden node

/-- Removes a volume's licence and dooms its title key (R472). -/
def State.dropLicence (s : State) (node : Nat) : State :=
  match s.licences.find? fun l => l.node = node with
  | none => s
  | some l =>
    let s : State := { s with licences := s.licences.filter (fun x => x.node ≠ node)
                              keys := s.keys.map fun k => if k.node = node && k.source = 1 then { k with doomed := true } else k }
    let s := s.journal 0x17 node l.index 0
    if l.closed then s else s.countClose node

/-- NODE_DELETION_COMPLETE (R269): the node reads FREE; a volume's stored data are garbage from now on. -/
def execNodeDeletionComplete (node : Nat) (s : State) : Host.Outcome State Fault Refusal :=
  match s.node? node with
  | none => .next s
  | some n =>
    if !n.deleting || s.heldBy node || (s.sweeps.any fun w => w.node = node) then .next s
    else
      let s := s.journal 0x14 node 1 0
      let s := if n.isStack then s else ((s.emptyNode node).dropLicence node).dropDict node
      let s : State := { s with nodes := s.nodes.filter (fun x => x.id ≠ node)
                                rights := s.rights.filter (fun r => r.node ≠ node)
                                keys := s.keys.filter (fun k => k.node ≠ node) }
      let s := s.put .SEC_PM_STS_ENTRIES s.rights.length
      let s := forEach (List.range 65) s fun a s => s.tsDone a (s.get .X_TS_DEL node) 3
      match s.cmds.find? fun c => c.nvme && c.q = 0 && c.op = 0x0D && c.st = .admitted && c.node = node with
      | some c => .next (s.finish c vSuccess)
      | none => .next s

end Sys2Proof.Machine
end

