-- ==== Sys2Proof/Machine/Reads.lean ====
section
/-! DEFINITION. Reads of both host protocols from admission to delivery: rights and checks, Gold admission (R216, R217), planning of
their array reads (R61 to R65), reconstruction (R364), the units as they arrive, decompression jobs, and the reply (R196 to R200,
R213, R214). -/

namespace Sys2Proof.Machine

/-! ### Fields of a packet (R190) and of a submission queue entry -/

/-- A 32-bit word of an NVMe submission queue entry. -/
def Cmd.dw (c : Cmd) (k : Nat) : Nat := fieldAt c.raw (4 * k) 4
def Cmd.ctl (c : Cmd) : Nat := fieldAt c.raw 1 1
def Cmd.codec (c : Cmd) : Nat := fieldAt c.raw 6 1
def Cmd.pLba (c : Cmd) : Nat := fieldAt c.raw 8 8
def Cmd.pLen (c : Cmd) : Nat := fieldAt c.raw 16 4
def Cmd.outLen (c : Cmd) : Nat := fieldAt c.raw 20 4
def Cmd.pNode (c : Cmd) : Nat := fieldAt c.raw 24 4 % 4096
def Cmd.pGen (c : Cmd) : Nat := fieldAt c.raw 24 4 / 4096
def Cmd.pDeadline (c : Cmd) : Nat := fieldAt c.raw 28 4
def Cmd.dest (c : Cmd) : Nat := fieldAt c.raw 32 8
def Cmd.expect (c : Cmd) : Nat := fieldAt c.raw 40 4
def Cmd.param (c : Cmd) : Nat := fieldAt c.raw 44 4

/-- The tick that the DEADLINE of a packet taken in in tick `now` names (R194): the one nearest to `now` among those that end in these
32 bits. Near tick 0 it can lie before tick 0. -/
def absTick (now v : Nat) : Int :=
  let d : Nat := (v + 2 ^ 32 - now % 2 ^ 32) % 2 ^ 32
  if d < 2 ^ 31 then (now : Int) + d else if d = 2 ^ 31 then Config.farDeadline now v else (now : Int) + d - 2 ^ 32

/-- The list entries of a GATHER (R198), as address and length, up to the first of length 0. -/
def gatherList (l : List Byte) : List (Nat × Nat) :=
  ((List.range (l.length / 16)).map fun k => (fieldAt l (16 * k) 8, fieldAt l (16 * k + 8) 4)).takeWhile fun e => e.2 ≠ 0

/-! ### Rights and checks (R193, R214, R257, R476, R477) -/

def rightRead : Nat := 0
def rightWrite : Nat := 1
def rightPin : Nat := 2
def rightAdmin : Nat := 3

/-- What the map gives a function on a node: its specific entry, else its default. -/
def State.rightsOf (s : State) (fn node : Nat) : Nat :=
  match s.rights.find? fun r => r.fn = fn && r.node = node with
  | some r => r.rights
  | none => s.get .X_RDEF fn

/-- A volume's title licence is closed (R257): it has a licence that is closed, or, with key source TITLE, none (R470). -/
def State.licenceClosed (s : State) (vol : Nat) : Bool :=
  s.licences.any (fun l => l.node = vol && l.closed)
    || ((s.node? vol).any (fun n => n.titleKey) && !s.licences.any fun l => l.node = vol)

/-- The LBA format of a node: a stack reports its lowest child's (R146). -/
def State.lbafOf (s : State) (id : Nat) : Nat := ((s.order id).getLast?).elim 0 fun v => (s.node? v).elim 0 fun n => n.lbaf

/-- Bytes of a logical block in an LBA format (R145). -/
def lbaBytes (lbaf : Nat) : Nat := if lbaf = 3 ∨ lbaf = 4 then 512 else 4096

/-- A Format or a start-up is still at work on a node (R149). -/
def State.notReady (s : State) (id : Nat) : Bool := (s.node? id).any fun n => n.formatting.isSome

/-- The supplying volume and entry of every unit of a range. -/
def State.supplies (s : State) (id u n : Nat) : List (Option (Nat × Nat)) :=
  (List.range n).map fun k => s.supply (u + k) (s.order id)

/-- The checks of a command on a node and range in the order of R214, from STALE_HANDLE on: the first that fails. -/
def State.rangeVerdict (s : State) (c : Cmd) (node u n right : Nat) : Option Result :=
  if !s.active node || (!c.nvme && c.pGen ≠ s.get .X_NODE_GEN node) then some vStale
  else if !bit c.rights right then some vAccessDenied
  else if (s.node? node).any fun x => decide (x.size < u + n) then some vOutOfRange
  else if !c.nvme && (s.mixed node || s.lbafOf node ≠ 0) then some vFormat
  else if right = rightRead && (s.supplies node u n).any (fun x => x.any fun y => s.licenceClosed y.1) then some vLicenceClosed
  else if right = rightWrite && (s.writeTarget node).any s.licenceClosed then some vLicenceClosed
  else if right = rightWrite && (s.writeTarget node).isNone then some vWriteProtected
  else if s.notReady node then some vNotReady
  else none

/-! ### What a read owes -/

/-- The write buffer holds a place. -/
def State.buffered (s : State) (p : Nat) : Bool := s.wbuf.any fun w => w.place = p

/-- Resolves one unit (R249, R250, R265, R270). -/
def State.resolvePart (s : State) (order : List Nat) (pos u : Nat) : Part :=
  match s.supply u order with
  | none => ⟨pos, 0, u, .zero, true, zeroUnit, 0⟩
  | some (v, w) =>
    let places := s.unitSeq (ePlace w) (eLen w)
    let k := u % s.gUnits v
    if ePacked w then ⟨pos, v, u, .packed places (eSub w * s.gUnits v + k), false, [], s.keyOf v⟩
    else
      let p := places.getD k 0
      let key := s.keyOf v
      if s.buffered p then ⟨pos, v, u, .raw p, true, s.plainUnit key k p, key⟩ else ⟨pos, v, u, .raw p, false, [], key⟩

/-- Flash pages the entries of a command touch (R272). -/
def pagesOf (parts : List Part) : List Nat := ((parts.flatMap Part.places).map (· / 4)).eraseDups

/-! ### Planning array reads (R61 to R65) -/

/-- Starts a read on a die at once. -/
def State.startRead (s : State) (place count step cls : Nat) : State :=
  let d := placeDie place
  let e : PEntry := ⟨s.get .TK_PHASE_PHASE / 1000, opRead, cls, false, 65, hwRead place count step⟩
  s.takeCall (s.hwCall d e) true

/-- Gives a read to the planner (R61). -/
def State.planLater (s : State) (place count step cls : Nat) : State :=
  s.giveWork (placeDie place) ⟨0, opRead, cls, false, 65, hwRead place count step⟩

/-- Appends a Gold read to the next plan of its die (R62); a non-Gold read it pushes past the limit goes back to the planner (R63), and a step
of a ladder that no longer ends within the limit moves to the tick after (R398). -/
def State.appendRead (s : State) (place count step : Nat) : State :=
  let d := placeDie place
  let p := s.plan d
  let l := appendGold (s.opAhead d) (hwRead place count step) p.next
  let period := s.periodAt (s.tick + 1)
  let past := pastLimit period
  let later (e : PEntry) : Bool := e.isGold && !e.slot && decide (planLimit period < e.start + e.est)
  s.setPlan { p with next := l.filter fun e => !past e && !later e, back := p.back ++ l.filter past, late := p.late ++ l.filter later }

/-- A Gold read of a block may run in the next tick of its die (R67, R68): what the die runs may be suspended, and it is no erase of that
block. -/
def State.goldMay (s : State) (d block : Nat) : Bool :=
  (s.get .X_DIE_OP d = 0 || (s.mayPause d && decide (s.get .X_DIE_SUSPT d + 1 < 8)))
    && !(s.get .X_DIE_OP d = 2 && s.get .X_DIE_OPBLK d = block)

/-- A Gold read of a block may be appended to the next plan of its die (R64): a slot is left too. -/
def State.goldRoom (s : State) (d block : Nat) : Bool :=
  decide (((s.plan d).next.filter PEntry.slot).length < s.goldSlots (s.tick + 1)) && s.goldMay d block

/-- The Gold read of a unit may be appended to the next plan of its die. -/
def State.placeRoom (s : State) (p : Nat) : Bool := s.goldRoom (placeDie p) (s.placeBlock p)

/-- Gold work that finds no free slot moves to the tick after the next (R638). -/
def State.planNext (s : State) (place count step : Nat) : State :=
  let d := placeDie place
  let p := s.plan d
  s.setPlan { p with late := p.late ++ [⟨0, opRead, 0, false, 65, hwRead place count step⟩] }

/-! ### Reconstruction (R357, R364) -/

/-- What rebuilds a unit: how many other members its row needs, and their units. None where the row has no parity. -/
def State.rowOthers (s : State) (place : Nat) : Option (Nat × List Nat) :=
  match s.bandOf place with
  | none => none
  | some b =>
    let page := s.placePage place
    let at' (m : Nat × Nat) : Nat := placeOf m.1 (s.unitAddr m.1 m.2 page (placeUnit place % 4))
    if !b.rowComplete page then none
    else
      let data := (b.data.map at').filter fun p => (s.unitAt p).isSome
      some (data.length, (data ++ b.parity.map at').filter fun p => p ≠ place)

/-- Ends every command that waits for a place. -/
def State.failPlace (s : State) (p : Nat) (r : Result) : State :=
  forEach (s.cmds.filter fun c => c.wantsAt p) s fun c s => s.finish c r

/-- Records a hedge or reconstruction and its member reads, still to be issued. -/
def State.addHedge (s : State) (place cls need : Nat) (members : List Nat) (recon : Bool) : State :=
  { s with hedges := s.hedges ++ [⟨place, cls, need, members.map fun m => (m, .waiting), s.tick, s.get .TK_PHASE_PHASE, false, recon⟩] }

/-- Plans a unit by reconstruction (R364), on members whose dies have no planned entry first; a Gold read on members with a free slot first,
and where one it needs has none, the whole read moves to the next tick (R638). Too few available members end the read with a media
error. -/
def State.reconstruct (s : State) (place cls : Nat) : State :=
  if s.hedges.any fun h => h.place = place then s
  else
    match s.rowOthers place with
    | none => s.failPlace place vMediaError
    | some (need, others) =>
      let up := others.filter fun m => s.dieAvailable (placeDie m)
      if up.length < need then s.failPlace place vMediaError
      else
        let free (m : Nat) : Bool := (s.plan (placeDie m)).next.isEmpty && (s.plan (placeDie m)).active.isEmpty
        let order := up.filter free ++ up.filter fun m => !free m
        let use := (if cls = 0 then order.filter s.placeRoom ++ order.filter fun m => !s.placeRoom m else order).take need
        let s := (s.addHedge place cls need use true).bump .MC_CNT_RECON
        let room := use.all s.placeRoom
        forEach use s fun m s => if cls ≠ 0 then s.planLater m 1 0 cls else if room then s.appendRead m 1 0 else s.planNext m 1 0

/-- Plans the read of one flash page for a command: `places` are the units it needs of it. -/
def State.planPage (s : State) (c : Cmd) (page : Nat) (places : List Nat) : State :=
  let first := places.foldl (fun m p => min m (p % 4)) 3
  let last := places.foldl (fun m p => max m (p % 4)) 0
  let place := 4 * page + first
  let n := last + 1 - first
  let d := placeDie place
  if !s.dieAvailable d then forEach places s fun p s => s.reconstruct p c.cls
  else if !c.gold then s.planLater place n 0 c.cls
  else if s.fastOk d && s.earlierStarted c then s.startRead place n 0 0
  else if s.goldRoom d (s.placeBlock place) then (s.appendRead place n 0).put .X_GOLD_USED (s.get .X_GOLD_USED + 1)
  else forEach places s fun p s => s.reconstruct p 0

/-! ### Delivery (R196, R198, R200, R445) -/

/-- Writes output of a GATHER into its list, from an output offset on. -/
def State.scatter (s : State) (c : Cmd) (off : Nat) (data : List Byte) : List (Nat × Nat) → State
  | [] => s
  | (a, n) :: l =>
    if n ≤ off then s.scatter c (off - n) data l
    else
      let piece := data.take (n - off)
      let s := if piece.isEmpty then s else s.sendDma c (a + off) piece
      s.scatter c 0 (data.drop (n - off)) l

/-- Delivers output of a read at an offset. -/
def State.deliver (s : State) (c : Cmd) (off : Nat) (data : List Byte) : State :=
  if c.mute || data.isEmpty then s
  else if c.nvme then
    if c.op = 0x0C then s else s.sendPtr c off data
  else if c.op = 0x0B then s.scatter c off data (gatherList c.cont)
  else s.sendDma c (c.dest + off) data

/-- A read's original data in order, as far as its leading units are verified. -/
def Cmd.readData (c : Cmd) : List Byte :=
  (((c.parts.takeWhile fun p => p.done).flatMap fun p => p.data.take 4096).drop c.skip).take c.bytes

/-- The metadata of block `b` of a read. -/
def Cmd.readMeta (c : Cmd) (b : Nat) : List Byte :=
  let k := c.skip + b * c.fmt.lb
  unitMeta c.fmt ((c.parts[k / 4096]?).elim [] fun p => p.data) (k % 4096 / c.fmt.lb)

/-- Data of block `b` of a read. -/
def Cmd.readBlock (c : Cmd) (b : Nat) : List Byte := (c.readData.drop (b * c.fmt.lb)).take c.fmt.lb

/-- The first check of protection information that a read fails, over the blocks it has (R145). -/
def Cmd.readVerdict (c : Cmd) : Option Result :=
  if c.fmt.pi = 0 then none
  else (List.range (c.readData.length / c.fmt.lb)).findSome? fun b => piVerdict c.fmt b (c.readBlock b) (c.readMeta b)

/-- What a read moves through its data pointer, and through its metadata pointer (R145). -/
def Cmd.readStream (c : Cmd) : List Byte :=
  if c.fmt.ext && c.fmt.sent ≠ 0 then (List.range (c.readData.length / c.fmt.lb)).flatMap fun b => c.readBlock b ++ c.readMeta b
  else c.readData

def Cmd.readMetas (c : Cmd) : List Byte :=
  if !c.fmt.ext && c.fmt.sent ≠ 0 then (List.range (c.readData.length / c.fmt.lb)).flatMap c.readMeta else []

/-- The reply to a read: its CRC over the data delivered, and the comparison with EXPECT (R200). -/
def State.finishRead (s : State) (c : Cmd) (data : List Byte) : State :=
  let crc := crc32c data
  if !c.nvme && bit c.ctl 3 && crc ≠ c.expect then s.finish c { vExpectMismatch with crc := crc }
  else s.finish c { vSuccess with crc := crc }

/-- Delivers the blocks a read has, and their metadata. -/
def State.deliverAll (s : State) (c : Cmd) : State :=
  let t := s.deliver c 0 c.readStream
  if c.mute || c.op = 0x0C || c.readMetas.isEmpty then t else t.sendDma c (fieldAt c.raw 16 8) c.readMetas

/-- Ends a read with an error after delivering what is verified of it. -/
def State.failRead (s : State) (c : Cmd) (r : Result) : State :=
  if c.unpacks then s.finish c { r with crc := crc32c c.output }
  else (s.deliverAll c).finish c { r with crc := crc32c c.readData }

/-! ### Decompression jobs (R427, R438, R441, R444) -/

/-- The cluster of a place. -/
def placeCluster (p : Nat) : Nat := channelCluster (dieChannel (placeDie p))

/-- Queues a job in a cluster; the recorder samples the jobs ahead of it. -/
def State.queueJob (s : State) (cl : Nat) (c : Cmd) (fmt : Nat) (kind : JobKind) : State :=
  let ahead := (s.engJobs.filter fun j => j.cl = cl && j.engine.isNone).length
  let s := s.sample 46 (ahead : Nat)
  let n := s.get .X_JOBSEQ
  ({ s with engJobs := s.engJobs ++ [⟨n, cl, c.id, c.cls, fmt, kind, none, false, true, [], false⟩] } : State).put .X_JOBSEQ (n + 1)

/-- Room left for output (R446). -/
def Cmd.room (c : Cmd) : Nat :=
  if c.op = 0x0B then ((gatherList c.cont).map Prod.snd).foldl (· + ·) 0 else c.outLen

/-- The next frame of an unpack whose range is read: its job is queued, or the command ends (R441, R443, R446). -/
def State.nextFrame (s : State) (c : Cmd) : State :=
  let off := c.aux.headD 0
  let range := c.readData
  match frameAt c.codec range off with
  | .stop => s.finishRead c c.output
  | .bad => (s.bump .CX_CNT_DECODE_ERR).failRead c vDecodeError
  | .frame orig size =>
    if c.room < c.output.length + orig then s.failRead c vOverflow
    else if !padOk range (off + size) then (s.bump .CX_CNT_DECODE_ERR).failRead c vDecodeError
    else
      let cl := match c.parts[off / 4096]? with
        | some p => (p.places.head?).elim 0 placeCluster
        | none => 0
      s.queueJob cl c c.codec (.frame off)

/-- Ends a read whose units are all there, or starts its stream. -/
def State.tryFinish (s : State) (id : Nat) : State :=
  match s.cmd? id with
  | none => s
  | some c =>
    if !c.isRead || c.st = .taken || c.st = .ended || c.parts.any (fun p => !p.done) || s.engJobs.any (fun j => j.cmd = id) then s
    else if c.mute then s.endMuted c
    else if c.unpacks then s.nextFrame c
    else match c.readVerdict with
      | some r => s.finish c r
      | none => (s.deliverAll c).finishRead c c.readData

/-- Queues the job of every block whose stored units have all arrived for a command (R438: once per command). -/
def State.queueBlocks (s : State) (id : Nat) : State :=
  match s.cmd? id with
  | none => s
  | some c =>
    let blocks := ((c.parts.filter fun p => !p.done).filterMap fun p => match p.src with
      | .packed l _ => some l
      | _ => none).eraseDups
    forEach blocks s fun l s =>
      if l.all (fun p => c.arrived.contains p) && !s.engJobs.any (fun j => j.cmd = id && j.kind = .block l) then
        s.queueJob (placeCluster (l.headD 0)) c 1 (.block l)
      else s

/-- A verified unit reaches a command. -/
def State.giveTo (s : State) (c : Cmd) (p : Nat) : Cmd :=
  let packed := c.parts.any fun x => !x.done && (match x.src with
    | .packed l _ => l.contains p
    | _ => false)
  { c with
    parts := c.parts.map fun x => if x.src = .raw p && !x.done then 
        { x with done := true, data := s.plainUnit x.key (x.lba % s.gUnits x.vol) p } else x
    arrived := if packed && !c.arrived.contains p then c.arrived ++ [p] else c.arrived }

/-- A verified unit reaches every command and job that waits for it. -/
def State.giveUnit (s : State) (p : Nat) : State :=
  let ids := (s.cmds.filter fun c => c.wantsAt p).map fun c => c.id
  let s : State := { s with
    cmds := s.cmds.map fun c => if c.wantsAt p then s.giveTo c p else c
    engJobs := s.engJobs.map fun j =>
      if j.need.contains p then { j with need := j.need.erase p, ready := (j.need.erase p).isEmpty } else j }
  forEach ids s fun id s => (s.queueBlocks id).tryFinish id

/-! ### Admission (R216, R217, R265, R408, R411) -/

/-- Gold admission (R216); `resident`: every map line it consults was in the map cache. -/
def State.goldOk (s : State) (c : Cmd) (cost : Nat) (resident : Bool) : Bool :=
  (if c.nvme then true else s.flag .JQ_QCFG_GOLD_OK c.q) && decide (c.len ≤ 64) && (c.nvme || c.op ≠ 0x02 || decide (c.outLen ≤ 262144))
    && resident && decide (cost ≤ 8) && decide (s.get .X_GOLD_FN c.fn + cost ≤ s.get .X_RES_EFF c.fn)
    && (s.mode = mRun || s.mode = mThrottle)

/-- A place is in foreground recovery for another command: a read that meets it joins that recovery (R408). -/
def State.joins (s : State) (c : Cmd) (p : Nat) : Bool :=
  (s.ladders.any (fun l => l.place = p) || s.hedges.any fun h => h.place = p) && s.cmds.any fun x => x.id ≠ c.id && x.wantsAt p

/-- Admits a read that has passed its checks: resolves it, admits it as Gold or not, plans its array reads. -/
def State.admitRead (s : State) (c : Cmd) : State :=
  let order := s.order c.node
  let entries := s.supplies c.node c.lba c.len
  let resident := (s.linesOf order c.lba c.len).all fun x => s.resident x.1 x.2
  let s := s.touchRange (2 * s.frontPair c.fn + 1) c.node c.lba c.len
  if entries.any fun x => x.any fun y => eLost y.2 then s.finish c { vMediaError with dnr := true }
  else if entries.any fun x => x.any fun y => eRecov y.2 then s.finish c vRecovering
  else
    let parts := (List.range c.len).map fun k => s.resolvePart order k (c.lba + k)
    let cost := (pagesOf parts).length
    let asked := c.cls = 0
    let gold := asked && s.goldOk c cost resident
    let s := if gold then s.put .X_GOLD_FN (s.get .X_GOLD_FN c.fn + cost) c.fn else s
    let s := if asked && !gold then (s.bump .JQ_CNT_DOWNGRADE).raise 54 uFront c.fn else s
    let dicts := if c.unpacks && c.codec = 2 then
        (s.dicts.filter fun d => parts.any fun p => p.vol = d.node && p.src ≠ .zero).map fun d => (d.node, d.data)
      else []
    let c := { c with parts := parts, dicts := dicts, gold := gold, downgraded := asked && !gold, cls := if asked && !gold then 1 else c.cls,
                      st := if gold then .planned else .admitted }
    let inBuf := (c.wants.filter s.buffered).eraseDups
    let c := { c with arrived := inBuf }
    let s := s.setCmd c
    let need := c.wants.eraseDups.filter fun p => !s.joins c p
    let s := forEach (need.map (· / 4)).eraseDups s fun pg s => s.planPage c pg (need.filter fun p => p / 4 = pg)
    (s.queueBlocks c.id).tryFinish c.id

/-! ### Jexash reads as packets (R191, R195, R670) -/

/-- All bytes of a part of a packet are 0. -/
def zeroAt (l : List Byte) (off n : Nat) : Bool := fieldAt l off n = 0

/-- What R191 and R670 ask of every packet: reserved bits, CLASS, the reserved tail, and the CTL bits an opcode does not use. -/
def Cmd.packetOk (c : Cmd) : Bool :=
  let reads := c.op = 0x01 || c.op = 0x02 || c.op = 0x0B
  let goldRead := reads && c.ctl % 4 = 0
  c.ctl / 32 = 0 && c.ctl % 4 ≠ 3 && zeroAt c.raw 48 16 && decide (c.codec < 5) && (c.op = 0x0B || zeroAt c.raw 7 1)
    && (reads || c.op = 0x03 || c.op = 0x04 || c.op = 0x06 || c.ctl % 4 = 0) && (goldRead || !bit c.ctl 2) && (reads || !bit c.ctl 3) && (c.op = 0x06 || !bit c.ctl 4)
    && (goldRead || (c.op = 0x06 && bit c.ctl 4) || c.pDeadline = 0) && ((reads && bit c.ctl 3) || c.expect = 0)

/-- The list of a GATHER is well formed (R198, R199). Entries behind the one of length 0 that ends the list are held to the same form: R199 asks
it of every list entry, and whether these are ones R198 does not say (DESIGN CHOICE, log entry 74). -/
def Cmd.gatherOk (c : Cmd) : Bool :=
  let n := fieldAt c.raw 7 1
  let l := gatherList c.cont
  let sum := (l.map Prod.snd).foldl (· + ·) 0
  decide (1 ≤ n) && decide (n ≤ 16)
    && ((List.range (c.cont.length / 16)).all fun k => zeroAt c.cont (16 * k + 12) 4 && decide (fieldAt c.cont (16 * k + 8) 4 ≤ 0x400000))
    && (c.codec ≠ 0 || sum = c.pLen * 4096)

/-- Fields of a read packet are within R195. -/
def Cmd.readFieldsOk (c : Cmd) : Bool :=
  c.packetOk && decide (1 ≤ c.pLen) && decide (c.pLen ≤ 1024) && c.param = 0
    && (match c.op with
      | 0x01 => c.codec = 0 && c.outLen = 0
      | 0x02 => decide (1 ≤ c.codec) && decide (1 ≤ c.outLen) && decide (c.outLen ≤ 0x1000000)
      | _ => c.outLen = 0 && c.aux.isEmpty && c.gatherOk)

/-- The commands of a queue that a packet waits behind: a FENCE (R232), and on a strict queue any packet not yet started (R211). -/
def State.held (s : State) (c : Cmd) : Bool :=
  s.fenced c || (!c.nvme && s.jqStrict c.q && s.cmds.any fun x => !x.nvme && x.q = c.q && decide (x.id < c.id) && x.st = .taken)

/-- A taken-in packet of an opcode that may be looked at now. -/
def State.packet (s : State) (id op : Nat) : Option Cmd :=
  match s.cmd? id with
  | some c => if !c.nvme && c.op = op && c.st = .taken && c.contLeft = 0 && c.res.isNone && !s.held c && s.admitting then some c else none
  | none => none

/-- A read packet: R214's checks in order, then admission. -/
def State.jxRead (s : State) (c : Cmd) : State :=
  if s.flag .JQ_STS_SANITIZING then s.finish c vSanitizing
  else if !c.readFieldsOk then s.finish c vInvalidField
  else
    let node := c.pNode
    match s.rangeVerdict c node c.pLba c.pLen rightRead with
    | some r => s.finish c r
    | none =>
      if c.unpacks && !bit (s.get .CX_CTL_FMT_EN) (c.codec - 1) then
        (s.bump .CX_CNT_DECODE_ERR).finish c vDecodeError
      else
        s.admitRead { c with node := node, lba := c.pLba, len := c.pLen, skip := 0, bytes := 4096 * c.pLen, cls := c.ctl % 4,
                             tick := c.tick, deadline := absTick c.tick c.pDeadline, aux := [0] }

/-- READ (R196). -/
def execRead (cmd : Nat) (s : State) : Host.Outcome State Fault Refusal :=
  match s.packet cmd 0x01 with
  | some c => .next (s.jxRead c)
  | none => .next s

/-- READ_UNPACK (R197). -/
def execReadUnpack (cmd : Nat) (s : State) : Host.Outcome State Fault Refusal :=
  match s.packet cmd 0x02 with
  | some c => .next (s.jxRead c)
  | none => .next s

/-- GATHER (R198, R199): looked at once all its continuations have been taken in. -/
def execGather (cmd : Nat) (s : State) : Host.Outcome State Fault Refusal :=
  match s.packet cmd 0x0B with
  | some c => .next (s.jxRead c)
  | none => .next s

end Sys2Proof.Machine
end

