-- ==== Sys2Proof/Machine/Integrity.lean ====
section
/-! DEFINITION. Error correction, hedged reads and scrubbing (10): what the decode of a unit sets off, the read-retry ladder, hedges,
the deep decoders, background recovery, patrol and refresh, and the ECC of the internal memories. The READ's end itself is a row of
Machine/Modes.lean, because it may abandon a mode's entry. -/

namespace Sys2Proof.Machine

/-! ### Deep decoders (R395) -/

/-- A deep-decode job is queued. -/
def State.queueDeep (s : State) (place cls seq : Nat) (soft : Bool) : State :=
  let cl := placeCluster place
  let ahead := (s.deepJobs.filter fun j => j.cl = cl && !j.running).length
  let s := s.sample 47 (ahead : Nat)
  { s with deepJobs := s.deepJobs ++ [⟨cl, place, soft, cls, seq, false⟩] }

/-- The better of two jobs: lower class, then earlier admission. -/
def DeepJob.before (x y : DeepJob) : Bool := decide (x.cls < y.cls) || (x.cls = y.cls && decide (x.seq < y.seq))

/-- DEEP_DECODE_START (R395): one of a cluster's two deep decoders takes the next job. -/
def execDeepDecodeStart (cl : Nat) (s : State) : Host.Outcome State Fault Refusal :=
  let mine := s.deepJobs.filter fun j => j.cl = cl
  match mine.filter fun j => !j.running with
  | [] => .next s
  | j :: l =>
    if 2 ≤ (mine.filter fun j => j.running).length then .next s
    else
      let j := l.foldl (fun m x => if x.before m then x else m) j
      .next { s with deepJobs := s.deepJobs.map fun x => if x = j then { x with running := true } else x }

/-! ### The ladder (R396 to R399) -/

/-- Cell mode a block was last erased in. -/
def State.placeMode (s : State) (p : Nat) : Nat := s.get .X_BLK_MODE (blkIx (placeDie p) (s.placeBlock p)) - 1

/-- The steps of a ladder in the order they are read, with whether each is soft (R396): the hint step, the other hard steps, the soft
steps. -/
def State.ladderSteps (s : State) (l : Ladder) : List (Nat × Bool) :=
  let d := placeDie l.place
  let t := s.get .X_DIE_RETRY d
  let n := if l.background then min t 14 else min (min t (s.get .MC_RI_CFG_LADDER_MAX)) 14
  let hard := if 8 ≤ n then n - 4 else n
  let hint := s.get .X_DIE_HINT (d * 4 + s.placeMode l.place)
  let hs := (List.range hard).map (· + 1)
  let first := hs.filter fun k => k = hint
  (first ++ hs.filter fun k => k ≠ hint).map (fun k => (k, false))
    ++ ((List.range (n - hard)).map fun k => (hard + 1 + k, true))

def State.ladder? (s : State) (p : Nat) : Option Ladder := s.ladders.find? fun l => l.place = p

def State.setLadder (s : State) (l : Ladder) : State :=
  { s with ladders := s.ladders.map fun x => if x.place = l.place then l else x }

/-- The stored units of a granule under background recovery (R410). -/
def State.recovUnits (s : State) (r : Recov) : List Nat :=
  let w := s.mapGet r.node r.g
  if eState w = 1 && eRecov w && !eLost w then s.unitSeq (ePlace w) (eLen w) else []

/-- Those that its present pass has not verified. -/
def State.recovLeft (s : State) (r : Recov) : List Nat := (s.recovUnits r).filter fun p => !r.got.contains p

/-- A pass of background recovery still has a unit to verify (R409). -/
def State.recovWants (s : State) (p : Nat) : Bool := s.recovs.any fun r => r.going && (s.recovLeft r).contains p

/-- A unit verifies in background recovery. -/
def State.recovVerified (s : State) (p : Nat) : State :=
  if s.recovWants p then
    let mark (r : Recov) : Recov := if r.going && (s.recovLeft r).contains p then { r with got := r.got ++ [p] } else r
    ({ s with recovs := s.recovs.map mark } : State).sample 8 16
  else s

/-- Some command, hedge or background recovery still waits for a place. -/
def State.wanted (s : State) (p : Nat) : Bool :=
  s.cmds.any (fun c => c.wantsAt p) || s.engJobs.any (fun j => j.need.contains p) || s.recovWants p
    || s.hedges.any fun h => h.members.any fun m => m.1 = p && m.2 ≠ .verified

/-- DESC of a SUSPEND or RESUME that the hardware places for the hedge of a unit (R401). -/
def hwSusp (place : Nat) : Nat := 2 ^ 61 + place

/-- Removes plan entries of every bank. -/
def State.dropEntries (s : State) (bad : PEntry → Bool) : State :=
  let keep (l : List PEntry) : List PEntry := l.filter fun e => !bad e
  { s with plans := s.plans.map fun p => { p with active := keep p.active, next := keep p.next, back := keep p.back, late := keep p.late } }

/-- An entry reads a place alone, at any step. -/
def readsAlone (p : Nat) (e : PEntry) : Bool := e.op = opRead && decide ((e.desc - 2 ^ 33) / 128 = p) && (e.desc - 2 ^ 33) % 8 = 1
  && decide (2 ^ 33 ≤ e.desc) && decide (e.desc < 2 ^ 60)

/-- Ends foreground recovery of a place (R404): its ladder and hedge go, with their reads, deep decodes and SUSPENDs that have not
started. -/
def State.closeRecovery (s : State) (p : Nat) : State :=
  let mine := s.hedges.filter fun h => h.place = p
  let s : State := { s with
    ladders := s.ladders.filter fun l => l.place ≠ p
    hedges := s.hedges.filter fun h => h.place ≠ p
    deepJobs := s.deepJobs.filter fun j => j.place ≠ p || j.running }
  let idle := (mine.flatMap fun h => h.members.map Prod.fst).filter fun m => !s.wanted m
  s.dropEntries fun e => e.desc = hwSusp p || (p :: idle).any fun m => readsAlone m e && (m ≠ p || (e.desc - 2 ^ 33) / 8 % 16 ≠ 0)

/-- A unit of a band that verified only after a ladder step or a hedge queues the band for refresh (R417). -/
def State.queueRefresh (s : State) (p : Nat) : State :=
  match s.bandOf p with
  | some b => if b.refresh then s else s.setBand { b with refresh := true }
  | none => s

/-- A unit is verified (R404): whatever recovers it ends, and everything that waits for it has it. -/
def State.unitVerified (s : State) (p : Nat) : State :=
  let s := (s.recovVerified p).closeRecovery p
  let s : State := { s with hedges := s.hedges.map fun h =>
    { h with members := h.members.map fun m => if m.1 = p && m.2 ≠ .verified then (p, .verified) else m } }
  s.giveUnit p

/-- A ladder's unit is verified at an order of R396: 1, or 2 and later with the step read. -/
def State.ladderWon (s : State) (l : Ladder) (step : Nat) (hardStep : Bool) : State :=
  let d := placeDie l.place
  let s := if 1 ≤ step && hardStep then s.put .X_DIE_HINT step (d * 4 + s.placeMode l.place) else s
  let s := if 1 ≤ step then s.bump .MC_CNT_LADDER_WON else s
  ((if l.background then s else s.sample 8 (step : Nat)).queueRefresh l.place).unitVerified l.place

/-! ### Hedges (R400 to R405) -/

/-- Puts entries in front of what a die's plan in force still has to start (R401, R62); what is pushed past the limit goes back (R63). -/
def State.pushFront (s : State) (d : Nat) (l : List PEntry) : State :=
  let p := s.plan d
  let free := (l.map fun e => e.start + e.est).foldl max 0
  let rest := shiftLater free p.active
  let past := pastLimit (s.get .TK_PERIOD_PERIOD)
  s.setPlan { p with active := l ++ rest.filter (fun e => !past e), back := p.back ++ rest.filter past }

/-- Issues the member reads of a Gold hedge (R401). -/
def State.issueGold (s : State) (place need : Nat) (members : List Nat) : State :=
  let us := s.get .TK_PHASE_PHASE / 1000
  let st (m : Nat) := s.dieSt (placeDie m)
  let read (m : Nat) : PEntry := ⟨us, opRead, 0, false, 65, hwRead m 1 0⟩
  let runs (m : Nat) : Bool := st m = dsProgramming || st m = dsErasing
  let starts := members.filter fun m => !runs m
  -- what runs and may still be suspended, fewest suspensions first, then in member order
  let may := members.filter fun m => runs m && s.mayPause (placeDie m) && decide (s.get .X_DIE_SUSPT (placeDie m) < 8)
  let sorted := may.foldr (fun m acc =>
    let k := s.get .X_DIE_NSUSP (placeDie m)
    (acc.takeWhile fun x => decide (s.get .X_DIE_NSUSP (placeDie x) < k)) ++ m ::
      acc.dropWhile fun x => decide (s.get .X_DIE_NSUSP (placeDie x) < k)) []
  let susp := sorted.take (need - starts.length)
  let s := forEach starts s fun m s =>
    if st m = dsReading then s.pushFront (placeDie m) [read m] else s.startRead m 1 0 0
  let s := forEach susp s fun m s =>
    s.pushFront (placeDie m) [⟨us, opSuspend, 0, false, 25, hwSusp place⟩, { read m with start := us + 25 },
      ⟨us + 90, opResume, 0, false, 1, hwSusp place⟩]
  forEach (members.filter fun m => runs m && !susp.contains m) s fun m s => s.pushFront (placeDie m) [read m]

/-- Launches a hedge for a unit read by a Gold or Silver command (R400). -/
def State.launchHedge (s : State) (place cls : Nat) : State :=
  if s.hedges.any fun h => h.place = place then s
  else
    match s.rowOthers place with
    | none => s
    | some (need, others) =>
      let up := others.filter fun m => s.dieAvailable (placeDie m)
      let s := s.addHedge place cls need up false
      if cls = 0 then s.issueGold place need up else forEach up s fun m s => s.planLater m 1 0 cls

/-- A hedge has failed (R405): too few of its members have verified or still may. -/
def Hedge.failed (h : Hedge) : Bool := decide ((h.members.filter fun m => m.2 ≠ .failed).length < h.need)

/-- HEDGE_REBUILD (R357, R394, R403, R404): N members have verified; the unit is rebuilt and its DCRC checked. -/
def execHedgeRebuild (place : Nat) (ok : Bool) (s : State) : Host.Outcome State Fault Refusal :=
  match s.hedges.find? fun h => h.place = place with
  | none => .next s
  | some h =>
    if (h.members.filter fun m => m.2 = .verified).length < h.need then .next s
    else if !ok then
      .next { s with hedges := s.hedges.map fun x =>
        if x.place = place then { x with members := x.members.map fun m => (m.1, .failed) } else x }
    else
      let s := if h.recon then s else (((s.bump .MC_CNT_HEDGE_WON).sample 8 15).sampleBoth 9 53 (s.elapsedUs h.tick h.ph)).queueRefresh place
      .next (s.unitVerified place)

/-- Adds a ladder to a unit that failed; its step-0 raw data wait for a deep decoder (R396, order 1). -/
def State.launchLadder (s : State) (place cls seq : Nat) (background : Bool) : State :=
  if s.ladders.any fun l => l.place = place then s
  else
    let s : State := { s with ladders := s.ladders ++ [⟨place, cls, seq, 0, true, background, false⟩] }
    s.queueDeep place cls seq false

/-- HEDGE_RETRY (R405, R364): the hedge has failed and the unit's own ladder, where it runs one, is exhausted: the ladder of every failed
member is run, once. -/
def execHedgeRetry (place : Nat) (s : State) : Host.Outcome State Fault Refusal :=
  match s.hedges.find? fun h => h.place = place with
  | none => .next s
  | some h =>
    let own := match s.ladder? place with
      | some l => l.exhausted
      | none => h.recon
    if !h.failed || h.retried || !own then .next s
    else
      let bad := (h.members.filter fun m => m.2 = .failed).map Prod.fst
      let s : State := { s with hedges := s.hedges.map fun x =>
        if x.place = place then
          { x with retried := true, members := x.members.map fun m => if m.2 = .failed then (m.1, .waiting) else m }
        else x }
      .next (forEach bad s fun m s => s.launchLadder m h.cls (s.get .X_CMDSEQ) (s.recovWants place))

/-! ### Recovery in the background (R406 to R414) -/

/-- An entry of a LOST granule (R411): LEN, PACKED and SUB unchanged. -/
def lostEntry (w : Nat) : Nat := mkEntry (ePacked w) true (eLen w) (eSub w) (0x7F * 2 ^ 40)

/-- A granule is LOST (R411). -/
def State.markLost (s : State) (node g : Nat) : State :=
  ((s.mapPut node g (lostEntry (s.mapGet node g))).bump .MC_CNT_LOST).raise 18 uChip node

/-- Marks a granule RECOV with a recovery-table entry, or LOST where none is free (R407). -/
def State.markRecov (s : State) (node g : Nat) : State :=
  let w := s.mapGet node g
  if eState w ≠ 1 || eRecov w then s
  else if s.recovs.any fun r => r.node = node && r.g = g then s.mapPut node g (w + 2 ^ 60)
  else if 4096 ≤ s.recovs.length then ((s.markLost node g).putFlag .MC_RI_STS_TABLE_FULL true).raise 72 uMap node
  else
    let s := s.mapPut node g (w + 2 ^ 60)
    { s with recovs := s.recovs ++ [⟨node, g, 0, 0, false, []⟩] }

/-- The granules of a node whose entries name a stored granule or block that starts where entry `w` says: itself, or every granule of
the packed block. -/
def State.blockGranules (s : State) (node g : Nat) : List Nat :=
  let w := s.mapGet node g
  if !ePacked w then [g]
  else ((List.range 31).map fun k => g + k - 15).eraseDups.filter fun x =>
    let y := s.mapGet node x
    eState y = 1 && ePacked y && ePlace y = ePlace w && !eLost y

/-- The unverified units of a command pass to background recovery (R407, R413). -/
def State.toBackground (s : State) (c : Cmd) : State :=
  let l := ((c.parts.filter fun p => !p.done).map fun p => (p.vol, p.lba / s.gUnits p.vol)).eraseDups
  forEach l s fun x s => forEach (s.blockGranules x.1 x.2) s fun g s => s.markRecov x.1 g

/-- Recovery nobody needs any more ends. -/
def State.dropUnwanted (s : State) (ps : List Nat) : State :=
  forEach ps s fun p s => if s.wanted p then s else s.closeRecovery p

/-- Commands of a disabled function that a failing unit holds up end: their units pass to background recovery (R413). -/
def State.muteFail (s : State) (p : Nat) : State :=
  let s := forEach (s.cmds.filter fun c => c.mute && c.wantsAt p) s fun c s => (s.toBackground c).endMuted c
  s

/-- CMD_MAX_EXPIRY (R406, R407): a read with an unverified unit at its limit. -/
def execCmdMaxExpiry (cmd : Nat) (s : State) : Host.Outcome State Fault Refusal :=
  match s.cmd? cmd with
  | none => .next s
  | some c =>
    if !c.isRead || !(c.st = .admitted || c.st = .planned) || c.wants.isEmpty then .next s
    else
      let ps := c.wants
      let s := s.toBackground c
      let s := (s.bump .MC_CNT_CMD_MAX).raise 74 uMap c.node
      let s : State := { s with engJobs := s.engJobs.filter fun j => j.cmd ≠ cmd || j.engine.isSome }
      .next ((s.failRead c vMediaError).dropUnwanted ps)

/-- Replaces a recovery-table entry. -/
def State.setRecov (s : State) (r : Recov) : State :=
  { s with recovs := s.recovs.map fun x => if x.node = r.node ∧ x.g = r.g then r else x }

/-- A unit's own ladder is over in a pass: exhausted, or the unit's die gives no read. -/
def State.ladderOver (s : State) (p : Nat) : Bool := !s.dieAvailable (placeDie p) || (s.ladder? p).any fun l => l.exhausted

/-- A unit cannot be verified in a pass any more: its ladder is over, and its rebuild has failed with the ladder of every failing member run,
or its row allows none (R409). -/
def State.unitGivenUp (s : State) (p : Nat) : Bool :=
  s.ladderOver p && (match s.hedges.find? fun h => h.place = p with
    | some h => h.failed && h.retried
    | none => (s.rowOthers p).isNone)

/-- The rebuild of a unit in a pass: fresh reads of the other members of its row, as Copper work (R409). -/
def State.rebuildInPass (s : State) (p : Nat) : State :=
  if s.hedges.any fun h => h.place = p then s
  else match s.rowOthers p with
    | none => s
    | some (need, others) =>
      let up := others.filter fun m => s.dieAvailable (placeDie m)
      forEach up (s.addHedge p 2 need up true) fun m s => s.planLater m 1 0 2

/-- A pass of background recovery comes to a stage (R409): 1, fresh reads of the granule's units, whose failures run the full ladder; 2, once
those ladders are over, the other members of their rows; 3, a unit has all the members its rebuild needs. -/
def State.passStage (s : State) (r : Recov) (stage : Nat) : State :=
  let left := s.recovLeft r
  if stage = 1 && !r.going then
    let ps := (s.recovUnits r).filter fun p => s.dieAvailable (placeDie p)
    forEach ps (s.setRecov { r with phase := 1, going := true, got := [] }) fun p s => s.planLater p 1 0 2
  else if stage = 2 && r.going && r.phase = 1 && !left.isEmpty && left.all s.ladderOver then
    forEach left (s.setRecov { r with phase := 2 }) fun p s => s.rebuildInPass p
  else if stage = 3 && r.going && r.phase = 2 && (s.hedges.any fun h => left.contains h.place
      && decide (h.need ≤ (h.members.filter fun m => m.2 = .verified).length)) then s.setRecov { r with phase := 3 }
  else s

/-- The recovery of a granule is over: nothing of it is at work any more. -/
def State.endRecov (s : State) (node g : Nat) : State := { s with recovs := s.recovs.filter fun x => ¬(x.node = node ∧ x.g = g) }

/-- A pass has left a unit unverified (R409, R411): the next one may begin, or after the last one the granule is LOST. -/
def State.passFailed (s : State) (r : Recov) : State :=
  let ps := s.recovUnits r
  let n := r.passes + 1
  if s.get .MC_RI_CFG_RECOV_PASSES ≤ n then ((s.endRecov r.node r.g).dropUnwanted ps).markLost r.node r.g
  else (s.setRecov { r with passes := n, phase := 1, going := false, got := [] }).dropUnwanted ps

/-- BACKGROUND_RECOVERY_PASS (R409 to R411): a pass comes to a stage, or ends. When every stored unit has verified, the granule or block is
written into an open band of its kind, and its commit is owed. -/
def execBackgroundRecoveryPass (node g stage : Nat) (ended : Option Bool) (s : State) : Host.Outcome State Fault Refusal :=
  match s.recovs.find? fun r => r.node = node && r.g = g with
  | none => .next s
  | some r =>
    let w := s.mapGet node g
    match ended with
    | none => .next (if s.bgWork then s.passStage r stage else s)
    | some false =>
      let left := s.recovLeft r
      .next (if r.going && !left.isEmpty && left.all s.unitGivenUp then s.passFailed r else s)
    | some true =>
      -- an entry that changed meanwhile: the result is discarded (R412)
      if eState w ≠ 1 || !eRecov w || eLost w then .next (s.endRecov node g)
      else if !r.going || !(s.recovLeft r).isEmpty || (s.copies.any fun c => c.src = ePlace w && c.recov) then .next s
      else
        match s.unitAt (ePlace w) with
        | none => .next s
        | some u => .next ((s.copyUnit (ePlace w) u ((s.bandOf (ePlace w)).elim kindRw fun b => b.kind) true).getD s)

/-- RECOVERY_COMMIT (R410, R412, R375): the copy is parity-complete; the granules that still name the old place move to it, and their
recovery-table entries are freed. -/
def execRecoveryCommit (node g : Nat) (s : State) : Host.Outcome State Fault Refusal :=
  let w := s.mapGet node g
  match s.copies.find? fun c => c.recov && c.src = ePlace w with
  | none => .next s
  | some c =>
    if !s.copyComplete c || eState w ≠ 1 then .next s
    else
      let gs := s.blockGranules node g
      let s := s.commitCopy c true
      let freed := s.recovs.filter fun r => r.node = node && gs.contains r.g
      let s : State := { s with copies := s.copies.erase c
                                recovs := s.recovs.filter fun r => !(r.node = node && gs.contains r.g) }
      .next (s.add .MC_CNT_RECOVERED freed.length)

/-! ### What a decode sets off -/

/-- The best class among the commands that want a place; none where no command does. -/
def State.wantClass (s : State) (p : Nat) : Option (Nat × Nat) :=
  match s.cmds.filter fun c => c.wantsAt p with
  | [] => none
  | c :: l => let c := l.foldl (fun m x => if x.cls < m.cls then x else m) c
    some (c.cls, c.id)

/-- The step-0 read of a unit fails (R393, R396, R400): the ladder starts, beside a hedge for Gold and Silver commands. A member read of a
hedge is an erasure (R403). A blank unit that no map entry led to was read to find the end of what is programmed. -/
def State.unitFailed (s : State) (p cls : Nat) (r : UnitResult) : State :=
  if r = .blank && (s.wantClass p).isNone && !s.hedges.any (fun h => h.members.any fun m => m.1 = p && m.2 = .waiting) then s else
  let s := (s.bump .MC_CNT_FAST_FAIL).raise (cSrc (placeCluster p) 8) (uDie (placeDie p)) 0
  let s := if r = .miscorrect then (s.bump .MC_CNT_MISCORRECT).raise 73 (uDie (placeDie p)) 0 else s
  let member := s.hedges.any fun h => h.members.any fun m => m.1 = p && m.2 = .waiting
  let s : State := { s with hedges := s.hedges.map fun h =>
    { h with members := h.members.map fun m => if m.1 = p && m.2 = .waiting then (p, .failed) else m } }
  let s := s.muteFail p
  match s.wantClass p with
  | some (k, id) =>
    let s := s.launchLadder p k id false
    if k ≤ 1 then s.launchHedge p k else s
  | none => if member then s else s.launchLadder p cls (s.get .X_CMDSEQ) (s.recovWants p)

/-- A ladder has no step left (R399). -/
def State.exhaust (s : State) (l : Ladder) : State :=
  let s := s.raise (cSrc (placeCluster l.place) 9) (uDie (placeDie l.place)) 0
  let s : State := { s with hedges := s.hedges.map fun h =>
    { h with members := h.members.map fun m => if m.1 = l.place && m.2 = .waiting then (l.place, .failed) else m } }
  if s.wanted l.place then s.setLadder { l with busy := false, exhausted := true } else s.closeRecovery l.place

/-- A step of a ladder has failed in every decode the table gives it; the next one may be read. -/
def State.ladderNext (s : State) (l : Ladder) : State :=
  let s := s.muteFail l.place
  let l := { l with done := l.done + 1, busy := false }
  if (s.ladderSteps l).length < l.done then s.exhaust l else s.setLadder l

/-- The ladder's step whose read or decode is at work, 0 for the step-0 data. -/
def State.ladderAt (s : State) (l : Ladder) : Nat × Bool :=
  if l.done = 0 then (0, false) else (s.ladderSteps l).getD (l.done - 1) (0, false)

/-- A ladder READ has been fast-decoded (R396): verified, or its deep decode follows. -/
def State.ladderRead (s : State) (p step : Nat) (r : UnitResult) : State :=
  match s.ladder? p with
  | none => s
  | some l =>
    if !l.busy || (s.ladderAt l).1 ≠ step then s
    else
      let soft := (s.ladderAt l).2
      match r with
      | .verified _ => if soft then s.queueDeep p l.cls l.seq true else s.ladderWon l step true
      | _ =>
        let s := if r = .miscorrect then (s.bump .MC_CNT_MISCORRECT).raise 73 (uDie (placeDie p)) 0 else s
        s.queueDeep p l.cls l.seq soft

/-- LADDER_STEP (R396 to R398): the next read of a unit's ladder, one die read for every ladder of its page at the same step. -/
def execLadderStep (place : Nat) (s : State) : Host.Outcome State Fault Refusal :=
  match s.ladder? place with
  | none => .next s
  | some l =>
    if l.busy || l.exhausted then .next s
    else
      match (s.ladderSteps l)[l.done - 1]? with
      | none => .next (s.exhaust l)
      | some (step, _) =>
        let mates := s.ladders.filter fun x => x.place / 4 = place / 4 && !x.busy && !x.exhausted && x.done = l.done
          && (s.ladderSteps x)[x.done - 1]? = some (step, (s.ladderAt l).2)
        let first := mates.foldl (fun m x => min m (x.place % 4)) (place % 4)
        let last := mates.foldl (fun m x => max m (x.place % 4)) (place % 4)
        let s : State := { s with ladders := s.ladders.map fun x => if mates.contains x then { x with busy := true } else x }
        let s := s.bump .MC_CNT_LADDER_READS
        let p := 4 * (place / 4) + first
        let n := last + 1 - first
        if l.cls = 0 then
          .next (if s.fastOk (placeDie p) then s.startRead p n step 0 else if s.goldMay (placeDie p) (s.placeBlock p) then s.appendRead p n step
            else s.planNext p n step)
        else .next (s.planLater p n step l.cls)

/-- DEEP_DECODE_DONE (R393, R395, R396, R404): verified, and the arbiter takes the result; or failed, and the ladder goes on. -/
def execDeepDecodeDone (place : Nat) (unit : UnitResult) (s : State) : Host.Outcome State Fault Refusal :=
  match s.deepJobs.find? fun j => j.place = place && j.running with
  | none => .next s
  | some j =>
    let s : State := { s with deepJobs := s.deepJobs.erase j
                              staged := s.staged.filter fun x => x.place ≠ place || !x.raw }
    match s.ladder? place with
    | none => .next s
    | some l =>
      match unit with
      | .verified _ =>
        let at' := s.ladderAt l
        .next ((s.bump .MC_CNT_DEEP_OK).ladderWon l at'.1 (!at'.2))
      | .miscorrect => .next (((s.bump .MC_CNT_MISCORRECT).raise 73 (uDie (placeDie place)) 0).ladderNext l)
      | _ => .next (s.ladderNext l)

/-! ### The end of a READ or READ_MARGIN (R325, R329, R342, R419) -/

/-- A bit for each unit of a page whose result meets a test; units are numbered in their page. -/
def unitMask (first : Nat) (t : UnitResult → Bool) : List UnitResult → Nat
  | [] => 0
  | r :: l => (if t r then 2 ^ first else 0) + unitMask (first + 1) t l

/-- Most corrected bits in one codeword. -/
def mostCorrected (l : List UnitResult) : Nat := l.foldl (fun m r => match r with
  | .verified n => max m n
  | _ => m) 0

/-- STATUS of a READ (R329). -/
def readStatus (l : List UnitResult) : Nat :=
  if l.all fun r => r = .blank then stBlank
  else if l.any fun r => r = .failed || r = .miscorrect then stDecodeFail else stOk

/-- READS_MAX of a block queues its band for refresh (R417). -/
def State.checkReads (s : State) (d block : Nat) : State :=
  if s.get .MC_PATROL_RD_READS_MAX * 1000 ≤ s.get .X_BLK_READS (blkIx d block) then s.queueRefresh (s.blockPlace d block) else s

/-- The READ at work on a die ends with the results of its units. -/
def State.readDone (s : State) (d : Nat) (units : List UnitResult) (busyNs : Nat) : State :=
  match s.dieCall d callRead with
  | none => s
  | some c =>
    if units.length ≠ c.count then s
    else
      let bad (r : UnitResult) : Bool := r = .failed || r = .miscorrect
      let detail := unitMask c.first bad units + 16 * unitMask c.first (fun r => r = .blank) units
      let s := (s.putFlag .X_DIE_RD false d).completeCall c (readStatus units) detail
        (min (mostCorrected units) 0xFFFF + busyNs % 2 ^ 32 * 2 ^ 32)
      let s := s.sampleExt (60 + c.cl) ((min (mostCorrected units) 0xFFFF : Nat) : Int)
      let place (k : Nat) : Nat := placeOf d (s.unitAddr d c.block c.page (c.first + k))
      let new := (List.range units.length).map fun k => (⟨c.ch, c.buf + 4096 * k, place k, bad (units.getD k .failed)⟩ : Staged)
      let s : State := { s with staged := (s.staged.filter fun x => !new.any fun y => y.ch = x.ch && y.off = x.off) ++ new }
      let s := s.checkReads d c.block
      let cls := c.entry.elim 3 fun e => e.cls
      forEach (List.range units.length) s fun k s =>
        let r := units.getD k .failed
        if c.param = 0 then
          match r with
          | .verified _ => s.unitVerified (place k)
          | _ => s.unitFailed (place k) cls r
        else s.ladderRead (place k) c.param r

/-- READ_MARGIN_COMPLETE (R342): the counts of the units against the limit of the KIND. -/
def execReadMarginComplete (die : Nat) (counts : List Nat) (s : State) : Host.Outcome State Fault Refusal :=
  match s.dieCall die callMargin with
  | none => .next s
  | some c =>
    if counts.length ≠ c.count then .next s
    else
      let limit := if bit c.param 8 then s.get .MS_MARGIN_ERASED_LIMIT c.cl else s.get .MS_MARGIN_PROG_LIMIT c.cl
      let beyond := (List.range counts.length).filter fun k => decide (limit < counts.getD k 0)
      let detail := (beyond.map fun k => 2 ^ (c.first + k)).foldl (· + ·) 0
      let result := ((List.range counts.length).map fun k => min (counts.getD k 0) 0xFFFF * 2 ^ (16 * k)).foldl (· + ·) 0
      let s := (s.putFlag .X_DIE_RD false die).completeCall c (if beyond.isEmpty then stOk else stMarginFail) detail result
      .next (s.checkReads die c.block)

/-! ### Patrol and refresh (R416 to R418) -/

/-- FULL bands in ascending ID from an ID on. -/
def State.fullFrom (s : State) (id : Nat) : Option Band :=
  match s.bands.filter fun b => !b.isOpen && decide (id ≤ b.id) with
  | [] => none
  | b :: l => some (l.foldl (fun m x => if x.id < m.id then x else m) b)

/-- The patrol's lap ends (R416). -/
def State.endLap (s : State) : State :=
  let laps := s.get .MC_PATROL_LAP / 2 ^ 32
  let secs := min ((s.tick - s.get .X_PAT_T0) * s.get .TK_PERIOD_PERIOD / 1000000) 0x7FFFFFFF
  let s := s.put .MC_PATROL_LAP (min (laps + 1) 0x7FFFFFFF * 2 ^ 32 + secs)
  (((s.put .X_PAT_BAND 0).put .X_PAT_POS 0).put .X_PAT_T0 s.tick).put .MC_PATROL_POS_PERMILLE 0

/-- PATROL_READ (R416, R417): the next page of the patrol, one unit of it, with its result. -/
def execPatrolRead (unit : UnitResult) (s : State) : Host.Outcome State Fault Refusal :=
  if !s.flag .MC_PATROL_CFG_ENABLE || !s.bgWork then .next s
  else
    match s.fullFrom (s.get .X_PAT_BAND) with
    | none => .next (if s.bands.any fun b => !b.isOpen then s.endLap else s)
    | some b =>
      let members := b.members.filterMap fun x => x
      let pos := if b.id = s.get .X_PAT_BAND then s.get .X_PAT_POS else 0
      let row := pos / members.length
      let m := members.getD (pos % members.length) (0, 0)
      let laps := s.get .MC_PATROL_LAP / 2 ^ 32
      let page := s.pageIndex b row
      let p := placeOf m.1 (s.unitAddr m.1 m.2 page ((page + laps) % 4))
      let s := (s.countBlockRead m.1 m.2).checkReads m.1 m.2
      let s := match unit with
        | .verified n => if s.get .MC_PATROL_CFG_REFRESH_BITS ≤ n then s.queueRefresh p else s
        | .blank => s
        | r => (s.queueRefresh p).unitFailed p 3 r
      let pages := s.wlPages b * s.bandWlb b * members.length
      let s := if pages ≤ pos + 1 then (s.put .X_PAT_BAND (b.id + 1)).put .X_PAT_POS 0
        else (s.put .X_PAT_BAND b.id).put .X_PAT_POS (pos + 1)
      let full := s.bands.filter fun x => !x.isOpen
      let past := (full.filter fun x => decide (x.id < s.get .X_PAT_BAND)).length
      let s := s.put .MC_PATROL_POS_PERMILLE ((1000 * past + (if pages ≤ pos + 1 then 0 else 1000 * (pos + 1) / pages)) / full.length)
      .next (if (s.fullFrom (s.get .X_PAT_BAND)).isNone then s.endLap else s)

/-- REFRESH (R418): the move of a band queued for refresh begins. -/
def execRefresh (band : Nat) (s : State) : Host.Outcome State Fault Refusal :=
  match s.bands.find? fun b => b.id = band with
  | none => .next s
  | some b => .next (if s.bgWork && b.refresh && !b.isOpen then s.setBand { b with victim := true } else s)

/-- BAND_AGE_REFRESH (R417): AGE_DAYS or more since BAND_CLOSE, by a valid calendar. -/
def execBandAgeRefresh (band : Nat) (s : State) : Host.Outcome State Fault Refusal :=
  let days := s.get .MC_PATROL_CFG_AGE_DAYS
  match s.bands.find? fun b => b.id = band with
  | none => .next s
  | some b =>
    .next (if days ≠ 0 && s.flag .CAL_STS_VALID && !b.isOpen && !b.refresh && b.closedAt ≠ 0
        && decide (b.closedAt + days * 86400 ≤ s.calRaw / 65536) then s.setBand { b with refresh := true } else s)

/-! ### Internal memories (R420 to R424) -/

/-- The unit a memory's error is charged to (R565): CHIP, or the cluster for memories 2 and 3. -/
def memUnit (mem cl : Nat) : Nat := if mem = 2 ∨ mem = 3 then uCluster cl else uChip

/-- Enters a corrected error in the 16-entry log (R422). -/
def State.logEcc (s : State) (mem addr bitNo : Nat) : State :=
  let new : EccEntry := ⟨mem, addr, bitNo, 1, s.tick⟩
  if s.eccLog.any fun e => e.mem = mem && e.addr = addr then
    { s with eccLog := s.eccLog.map fun e =>
        if e.mem = mem && e.addr = addr then { e with bitNo := bitNo, count := min (e.count + 1) 0xFFFE, last := s.tick } else e }
  else match s.eccLog with
    | [] => { s with eccLog := [new] }
    | e :: l =>
      if s.eccLog.length < 16 then { s with eccLog := s.eccLog ++ [new] }
      else
        let v := l.foldl (fun m x => if x.count < m.count || (x.count = m.count && decide (x.last < m.last)) then x else m) e
        { s with eccLog := s.eccLog.map fun x => if x = v then new else x }

/-- A corrected error of a memory (R422, R565). -/
def State.correctedEcc (s : State) (mem addr bitNo whereIs : Nat) : State :=
  let s := (s.bump .CHP_ECC_CE mem).logEcc mem addr bitNo
  s.raise (12 + mem) (memUnit mem whereIs) (if mem = 4 then whereIs else 0)

/-- CORRECTED_MEMORY_ERROR (R422): `whereIs` is the cluster for memories 2 and 3, the core for memory 4. -/
def execCorrectedMemoryError (mem addr bitNo whereIs : Nat) (s : State) : Host.Outcome State Fault Refusal :=
  .next (if mem < 6 then s.correctedEcc mem addr bitNo whereIs else s)

/-- An uncorrectable error in a core's private memory halts it (R566): an MP or MD core raises its hang source, an FE or Warden core
halts with its pair, which raises the pair's lockstep source. -/
def State.hangCore (s : State) (core : Nat) : State :=
  let ag := Agent.core core
  let halted := s.putFlag .X_CORE_HALTED true core
  if ag.isMp then halted.raise (64 + (core - 56)) uMap core
  else if ag.isMd then halted.raise (cSrc ((core - 8) / 6) 2) (uCluster ((core - 8) / 6)) core
  else if core < 8 then s.haltPair (core / 2)
  else if core < 64 then s.haltPair 4
  else s

/-- Write-buffer data are lost (R423): each granule concerned becomes LOST. -/
def State.loseBuffered (s : State) (p : Nat) : State :=
  match s.wbuf.find? fun w => w.place = p && !w.programmed with
  | none => s
  | some w =>
    let r := w.unit.rcd
    let firsts := (s.wbuf.filter fun x => x.unit.rcd.first && x.unit.rcd.wseq = r.wseq && x.unit.rcd.node = r.node
      && x.unit.rcd.g = r.g).map fun x => x.place
    if r.kind = 1 || r.kind = 2 then
      forEach ((List.range 16).map (r.g + ·)) s fun g s =>
        let e := s.mapGet r.node g
        if eState e = 1 && firsts.contains (ePlace e) && !eLost e then s.markLost r.node g else s
    else s

/-- An engine runs no job: CLASS and FORMAT of its current one read 0. -/
def State.idleEngine (s : State) (e : Nat) : State :=
  ((s.put .CX_ENG_STS_STATE 0 e).put .CX_ENG_STS_CLASS 0 e).put .CX_ENG_STS_FORMAT 0 e

/-- A job whose window or unit is lost is run again from its start (R447). -/
def State.rerunJob (s : State) (engine : Nat) : State :=
  match s.engJobs.find? fun j => j.engine = some engine with
  | none => s
  | some j =>
    let s : State := { s with engJobs := s.engJobs.map fun x => if x.id = j.id then { x with engine := none, roams := true } else x }
    let s := (s.put .CX_ENG_STS_LAST 6 engine).idleEngine engine
    s.raise (cSrc (if engine < 32 then engine / 4 else engine - 32) 12) (uEngines (if engine < 32 then engine / 4 else engine - 32)) engine

/-- UNCORRECTABLE_MEMORY_ERROR (R423, R566, R123): the memory's sticky bit and source, then what the codeword held. -/
def execUncorrectableMemoryError (mem _addr : Nat) (held : Held) (s : State) : Host.Outcome State Fault Refusal :=
  if 6 ≤ mem then .next s
  else
    let s := s.put .CHP_ECC_STS_UE (s.get .CHP_ECC_STS_UE ||| 2 ^ mem)
    let cl := match held with
      | .staging p => placeCluster p
      | .window e => if e < 32 then e / 4 else e - 32
      | _ => 0
    let core := match held with
      | .core n => n
      | _ => 0
    let s := s.raise (6 + mem) (memUnit mem cl) (if mem = 4 then core else 0)
    match held with
    | .staging p =>
      let s : State := { s with staged := s.staged.filter fun x => x.place ≠ p }
      .next (if s.wanted p then s.planLater p 1 0 ((s.wantClass p).elim 3 Prod.fst) else s)
    | .window e => .next (s.rerunJob e)
    | .line node l => match s.line? node l with
      | some x =>
        if x.st = .clean then .next (if 0 < x.pins then s.setLine { x with st := .filling } else
          { s with lines := s.lines.filter fun y => ¬(y.node = node ∧ y.l = l) })
        else .next s
      | none => .next s
    | .page node p => match s.page? node p with
      | some x => .next (if x.dirty then s else { s with pages := s.pages.filter fun y => ¬(y.node = node ∧ y.page = p) })
      | none => .next s
    | .journal => .next s
    | .buffer p => .next (s.loseBuffered p)
    | .core n => .next (s.hangCore n)
    | .queueState fn => .next (((s.disablePoint (.fn fn) 5).raise 49 uFront fn).reportAer fn aerInternal)

/-- SCRUB_READ (R424): one codeword of a memory read by the scrubber, corrected where it has an error: its bit, and the cluster or core whose
memory it is. At the end of a lap its duration is kept. -/
def execScrubRead (mem addr : Nat) (error : Option (Nat × Nat)) (lapMs : Option Nat) (s : State) : Host.Outcome State Fault Refusal :=
  if 6 ≤ mem || !bit (s.get .CHP_ECC_CTL_SCRUB_EN) mem then .next s
  else
    let s := match error with
      | some b => s.correctedEcc mem addr b.1 b.2
      | none => s
    .next (match lapMs with
      | some ms => s.put .CHP_ECC_LAP (min ms 0x7FFFFFFF) mem
      | none => s)

/-- ECC_LOG_CLEAR (R425): LOG_CLEAR of CHP_ECC_CTL. -/
def State.clearEccLog (s : State) (ag : Agent) : State := s.guardWrite ag .ownerMpWd fun s => { s with eccLog := [] }

def execEccLogClear (ag : Agent) (s : State) : Host.Outcome State Fault Refusal :=
  .next (s.atUnit uChip fun s => s.clearEccLog ag)

end Sys2Proof.Machine
end

