-- ==== Sys2Proof/Machine/Pcie.lean ====
section
/-! DEFINITION. Host ports PE0 and PE1 (03): links, functions, VFs, address translation and link power. The completion of a
disable is in Machine/Disable.lean, DMA completions in Machine/Writes.lean. -/

namespace Sys2Proof.Machine

/-- The number of a link: 4p + k. A link past PE1.L3 does not exist, and its number is that of none. -/
def linkIx (port link : Nat) : Nat := if port < 2 ∧ link < 4 then 4 * port + link else 99

/-- Links that exist under a layout (R86). -/
def layoutHas (bifur k : Nat) : Bool := k = 0 || (bifur = 1 && k < 2) || (bifur = 2 && k < 4)

/-- Lanes of a link under a layout (R86). -/
def layoutLanes (bifur : Nat) : Nat := if bifur = 0 then 16 else if bifur = 1 then 8 else 4

/-- Applies BIFUR and MAX_SPEED of a port (R87); a PF whose link goes has COUNT 0 (R93). -/
def State.applyLayout (s : State) (port : Nat) : State :=
  let b := s.get .HE_CFG_BIFUR port
  let s := (s.put .X_BIFUR_EFF b port).put .X_SPEED_EFF (s.get .HE_CFG_MAX_SPEED port) port
  forEach [0, 1, 2, 3] s fun k s =>
    let s := s.putFlag .HE_LINK_STS_EXISTS (layoutHas b k) (linkIx port k)
    if layoutHas b k then s else s.put .HE_VFALLOC_COUNT 0 (linkIx port k)

/-- A link reports DL_Down (R120): every function of it is disabled, and stays frozen until the link is up again. HEp_LINKk_STS then
reads WIDTH and L0P_WIDTH 0 and keeps SPEED and FLIT: the model's choice, for the spec states none (log entry 72). -/
def State.linkDown (s : State) (port link : Nat) : State :=
  let x := linkIx port link
  let s := (((s.putFlag .HE_LINK_STS_UP false x).put .HE_LINK_STS_LPM 6 x).put .HE_LINK_STS_WIDTH 0 x).put .HE_LINK_STS_L0P_WIDTH 0 x
  let s := s.bump .HE_CNT_LDN port
  forEach (s.linkFns x) s fun f s => (s.disablePoint (.fn f) 4).putFlag .X_FN_FROZEN true f

/-- LINK_UP (R88): the link trains up to MAX_SPEED; flit mode at 64 and 128 GT/s and where the partner supports it. -/
def execLinkUp (port link speed width : Nat) (flit : Bool) (s : State) : Host.Outcome State Fault Refusal :=
  let x := linkIx port link
  if s.flag .HE_LINK_STS_EXISTS x && !s.flag .HE_LINK_STS_UP x && !s.flag .X_PERST port
      && decide (speed ≤ s.get .X_SPEED_EFF port) && decide (width ≤ layoutLanes (s.get .X_BIFUR_EFF port)) then
    let s := ((s.putFlag .HE_LINK_STS_UP true x).put .HE_LINK_STS_SPEED speed x).put .HE_LINK_STS_WIDTH width x
    let s := ((s.put .HE_LINK_STS_L0P_WIDTH width x).put .HE_LINK_STS_LPM 0 x).putFlag .HE_LINK_STS_FLIT (decide (5 ≤ speed) || flit) x
    .next (forEach (s.linkFns x) s fun f s => s.putFlag .X_FN_FROZEN false f)
  else .next s

/-- LINK_DOWN (R120, R122): a DL_Down the host did not cause is a surprise. -/
def execLinkDown (port link : Nat) (hostCaused : Bool) (s : State) : Host.Outcome State Fault Refusal :=
  let x := linkIx port link
  if s.flag .HE_LINK_STS_UP x then
    let s := s.linkDown port link
    if hostCaused then .next s
    else .next (((s.put .HE_EVT_SURPRISE_DOWN (s.get .HE_EVT_SURPRISE_DOWN port ||| 2 ^ link) port).raise (40 + x) uFront x).reportAer x
      aerSurprise)
  else .next s

/-- PERST_ASSERT (R621): every link of the port goes down and its PHYs stay in reset. -/
def execPerstAssert (port : Nat) (s : State) : Host.Outcome State Fault Refusal :=
  if 2 ≤ port then .next s
  else
  let s := s.putFlag .X_PERST true port
  .next (forEach [0, 1, 2, 3] s fun k s => if s.flag .HE_LINK_STS_UP (linkIx port k) then s.linkDown port k else s)

/-- PERST_DEASSERT (R622): the port applies BIFUR and MAX_SPEED, and each existing link enters Detect. -/
def execPerstDeassert (port : Nat) (s : State) : Host.Outcome State Fault Refusal :=
  if port < 2 && s.flag .X_PERST port then .next ((s.putFlag .X_PERST false port).applyLayout port) else .next s

/-- Clearing VF Enable disables every VF of the PF (R113). -/
def State.clearVfEnable (s : State) (pf : Nat) : State :=
  (forEach (s.vfsOf pf) s fun f s => s.disablePoint (.fn f) 2).putFlag .X_FN_VFE false pf

/-- FLR (R113): the function is disabled; FLR of a PF clears its VF Enable too. -/
def execFlr (fn : Nat) (s : State) : Host.Outcome State Fault Refusal :=
  if s.fnExists fn && !s.flag .X_FN_DISABLING fn then
    let s := s.disablePoint (.fn fn) 1
    .next (if fn < 8 && s.flag .X_FN_VFE fn then s.clearVfEnable fn else s)
  else .next s

/-- VF_DISABLE (R113): VF Enable of a PF is cleared. -/
def execVfDisable (fn : Nat) (s : State) : Host.Outcome State Fault Refusal :=
  .next (if fn < 8 && s.flag .X_FN_VFE fn then s.clearVfEnable fn else s)

/-- VF_ENABLE_SET (R92): the PF's VFs are pool entries FIRST to FIRST + NumVFs − 1; NumVFs is at most COUNT. -/
def execVfEnableSet (fn numVfs : Nat) (s : State) : Host.Outcome State Fault Refusal :=
  if fn < 8 && s.fnExists fn && !s.flag .X_FN_VFE fn && decide (numVfs ≤ s.get .HE_VFALLOC_COUNT fn) then
    .next ((s.put .X_FN_NUMVFS numVfs fn).putFlag .X_FN_VFE true fn)
  else .next s

/-- D3HOT_ENTRY (R112): fetch stops. -/
def execD3hotEntry (fn : Nat) (s : State) : Host.Outcome State Fault Refusal :=
  .next (if s.fnExists fn then (s.putFlag .X_FN_D3 true fn).noteDemand s else s)

/-- D3HOT_TO_D0_RESET (R112): treated as a disable; a PF's reset clears its VF Enable, as FLR does. -/
def execD3hotToD0Reset (fn : Nat) (s : State) : Host.Outcome State Fault Refusal :=
  .next (if s.fnExists fn && s.flag .X_FN_D3 fn then
      let t := (s.putFlag .X_FN_D3 false fn).disablePoint (.fn fn) 3
      (if fn < 8 && s.flag .X_FN_VFE fn then t.clearVfEnable fn else t).noteDemand s
    else s)

/-- BUS_MASTER_ENABLE_SET (R458): under OPEN, PF0 gains the Owner role. -/
def execBusMasterEnableSet (fn : Nat) (s : State) : Host.Outcome State Fault Refusal :=
  if s.fnExists fn && !s.flag .X_FN_BME fn then
    let s := s.putFlag .X_FN_BME true fn
    .next (if fn = 0 && !s.flag .SEC_STS_KEYED && !s.flag .X_FN_DISABLING 0 then s.putFlag .SEC_STS_OWNER true else s)
  else .next s

/-- BUS_MASTER_ENABLE_CLEAR (R238): every enabled queue of the function enters ERROR with RING_FAULT. -/
def execBusMasterEnableClear (fn : Nat) (s : State) : Host.Outcome State Fault Refusal :=
  if s.flag .X_FN_BME fn then
    let s := s.putFlag .X_FN_BME false fn
    .next (forEach ((s.fnQueues fn).filter fun q => s.get .JQ_QSTS_STATE q = jqEnabled) s fun q s => s.queueError q 5 0)
  else .next s

/-- What a disable in progress is recorded by. -/
def State.disabling (s : State) : Scope → Bool
  | .fn f => s.flag .X_FN_DISABLING f
  | .controller f => s.flag .X_CTRL_DISABLING f
  | .sq f q => match s.sq? f q with
    | some sq => sq.frozen
    | none => false
  | .queue q => s.get .JQ_QSTS_STATE q = jqDisabling

/-- DISABLE_TIMEOUT (R118): FLR_TIMEOUT of the port, and the disable-timeout source. -/
def execDisableTimeout (scope : Scope) (s : State) : Host.Outcome State Fault Refusal :=
  if s.disabling scope then
    let f := scope.fnOf s
    .next ((s.putFlag .HE_EVT_FLR_TIMEOUT true (s.fnPf f / 4)).raise 48 uFront f)
  else .next s

/-- The checks of R91 on a VF range. -/
def State.vfRangeOk (s : State) (pf first count : Nat) : Bool :=
  !s.flag .X_FN_VFE pf && decide (first + count ≤ 256) && (count = 0 || s.flag .HE_LINK_STS_EXISTS pf)
    && (List.range 8).all fun o => o = pf || count = 0 || s.get .HE_VFALLOC_COUNT o = 0
      || decide (first + count ≤ s.get .HE_VFALLOC_FIRST o)
      || decide (s.get .HE_VFALLOC_FIRST o + s.get .HE_VFALLOC_COUNT o ≤ first)

/-- A write of HEp_VFALLOCk (R91): any other write than an allowed one sets ALLOC_ERR. One of PF0 without the Owner role raises the
decode fault besides (R458). -/
def State.writeVfalloc (s : State) (ag : Agent) (pf first count : Nat) : State :=
  if ag = .pf0 && !s.isOwner ag then (s.putFlag .HE_EVT_ALLOC_ERR true (pf / 4)).decodeFault ag
  else if s.mayWrite ag .ownerFeMp && s.vfRangeOk pf first count then
    (s.put .HE_VFALLOC_FIRST first pf).put .HE_VFALLOC_COUNT count pf
  else s.putFlag .HE_EVT_ALLOC_ERR true (pf / 4)

/-- VFALLOC_WRITE (R91). -/
def execVfallocWrite (ag : Agent) (pf first count : Nat) (s : State) : Host.Outcome State Fault Refusal :=
  .next (s.atUnit uFront fun s => s.writeVfalloc ag pf (first % 256) (count % 512))

/-- A write of HEp_CFG (R86, R87): a reserved value leaves the register unchanged; the links keep the old layout until the
deassertion of PERSTp_N or a chip warm reset. -/
def State.writeHeCfg (s : State) (ag : Agent) (port speed bifur : Nat) : State :=
  s.guardWrite ag .ownerFeMp fun s =>
    s.unlessLocked ag [.HE_CFG_MAX_SPEED, .HE_CFG_BIFUR] (i := port) fun s =>
      if speed = 7 ∨ bifur = 3 ∨ 2 ≤ port then s else (s.put .HE_CFG_MAX_SPEED speed port).put .HE_CFG_BIFUR bifur port

/-- HE_CFG_WRITE (R87). -/
def execHeCfgWrite (ag : Agent) (port speed bifur : Nat) (s : State) : Host.Outcome State Fault Refusal :=
  .next (s.atUnit uFront fun s => s.writeHeCfg ag port (speed % 8) (bifur % 4))

/-! ### Address translation (R104 to R108) -/

/-- Two address ranges meet. -/
def rangesMeet (a n b m : Nat) : Bool := decide (a < b + m) && decide (b < a + n)

/-- Drops the least recently used of some entries while there are more than `n` of them. -/
def trimLru (n : Nat) (sel : AtsEntry → Bool) (l : List AtsEntry) : List AtsEntry :=
  let mine := l.filter sel
  if mine.length ≤ n then l
  else
    let oldest := mine.foldl (fun m e => min m e.used) (mine.headD ⟨0, 0, 0, 0⟩).used
    l.filter fun e => !(sel e && e.used = oldest)

/-- A request waits for the translation of a range. -/
def Hold.asked (fn addr size : Nat) (h : Hold) : Bool := h.fn = fn && h.addr.any fun a => rangesMeet a h.len addr size

/-- A ring or mirror of an enabled queue lies in a range (R238). -/
def State.ringAt (s : State) (q addr size : Nat) : Bool :=
  rangesMeet (s.get .JQ_QRPL_BASE q) (16 * s.rplEntries q) addr size || rangesMeet (s.get .JQ_QMIRROR q) 8 addr size
    || (s.flag .JQ_QCFG_XR_EN q && rangesMeet (s.get .JQ_QXR_BASE q) (32 * s.xrEntries q) addr size)

/-- An entry holds at most 1 GiB (R104): of a larger translation, the part from its start. -/
def xlatMax : Nat := 2 ^ 30

/-- Puts a translation into the cache of the function's port: within the function's quota, and within 4,096 entries (R104). -/
def State.cacheXlat (s : State) (fn addr size : Nat) : State :=
  let quota := 64 * s.get .HE_FNATTR_ATS_QUOTA fn
  let port := s.fnPf fn / 4
  let e : AtsEntry := ⟨fn, addr, min size xlatMax, s.get .X_ATS_SEQ⟩
  let l := trimLru (quota - 1) (fun x => x.fn = fn) (s.ats.filter fun x => ¬(x.fn = fn ∧ x.addr = addr))
  let l := trimLru 4095 (fun x => s.fnPf x.fn / 4 = port) l
  ({ s with ats := l ++ [e] } : State).put .X_ATS_SEQ (s.get .X_ATS_SEQ + 1)

/-- TRANSLATION_COMPLETION (R104, R105, R238): a translation fills the port's cache within the function's quota; a refusal, or a
translation without write permission, of a ring's or mirror's address puts the queue into ERROR with RING_FAULT. Strict requests that
waited for it go on (R105); refused, untranslated (log entry 72). -/
def execTranslationCompletion (fn addr size : Nat) (result : XlatResult) (s : State) : Host.Outcome State Fault Refusal :=
  let bad := ((s.fnQueues fn).filter fun q => s.get .JQ_QSTS_STATE q = jqEnabled && s.ringAt q addr size)
  let fault (s : State) := forEach bad s fun q s => s.queueError q 5 0
  match result with
  | .ok write =>
    let s := if !write then fault s else s
    .next ((if s.atsOn fn then s.cacheXlat fn addr size else s).releaseHolds (Hold.asked fn addr size))
  | .unsupported | .aborted => .next ((fault s).releaseHolds (Hold.asked fn addr size))

/-- The DMA reads outstanding that may have used a translation of a range: those of an address in it, and those whose address the block
finds in a PRP or SGL list. -/
def State.readsUsing (s : State) (fn addr size : Nat) : List Nat :=
  (s.dmaReads.filter fun r => r.fn = fn && (match r.addr with
    | some a => rangesMeet a r.len addr size
    | none => true)).map fun r => r.cmd

/-- INVALIDATE_REQUEST (R107): every matching entry is dropped at once; the completion is owed. Posted writes that used an entry have been
sent: the model sends or holds each at once. -/
def execInvalidateRequest (fn addr size tag : Nat) (s : State) : Host.Outcome State Fault Refusal :=
  .next { s with
    ats := s.ats.filter fun e => !(e.fn = fn && rangesMeet e.addr e.size addr size)
    invs := s.invs ++ [⟨fn, tag, s.readsUsing fn addr size⟩] }

/-- No read that used a dropped entry is still waiting for its completion (R107). -/
def State.invDone (s : State) (v : Inv) : Bool := !s.dmaReads.any fun r => r.fn = v.fn && v.reads.contains r.cmd

/-- INVALIDATION_COMPLETION (R107): sent once every read that used a dropped entry has received its completion or timed out. -/
def execInvalidationCompletion (fn tag : Nat) (s : State) : Host.Outcome State Fault Refusal :=
  match s.invs.find? fun v => v.fn = fn && v.tag = tag with
  | some v =>
    .next (if s.invDone v then
        (({ s with invs := s.invs.erase v } : State).emit (.invalidated fn tag)).bump .HE_CNT_INV (s.fnPf fn / 4)
      else s)
  | none => .next s

/-- ATS_ENABLE_CLEAR (R108): every ATS entry of the function is dropped, and its requests go out untranslated. -/
def execAtsEnableClear (fn : Nat) (s : State) : Host.Outcome State Fault Refusal :=
  .next (((s.putFlag .X_FN_ATS false fn).dropAts fn).releaseHolds fun h => h.fn = fn)

/-! ### Errors -/

/-- Counts a request to an undefined BAR offset (R123). -/
def State.undefinedBar (s : State) (fn : Nat) : State := s.bump .HE_CNT_UR (s.fnPf fn / 4)

/-- The regions of BAR0 (R44): the NVMe registers, the doorbells from 0x1000, the MSI-X table from 0x8000, and from 0x10000 the 256 bytes
of the pending-bit array of 2,048 vectors. -/
def bar0Defined (off : Nat) : Bool := decide (off < 0x10100)

/-- The regions of BAR4 (R179): the queue windows up to XR_HEAD, EVENT_HEAD and the data window. -/
def bar4Defined (off : Nat) : Bool :=
  if off < 0x200000 then decide (off % 0x8000 < 0x4008) else decide (off < 0x200004) || (decide (0x400000 ≤ off) && decide (off < 0x4000000))

/-- An offset lies in a defined region of a BAR of the function (R44, R45, R179); BAR2 is PF0's. -/
def barDefined (fn bar off : Nat) : Bool :=
  (bar = 0 && bar0Defined off) || (bar = 2 && fn = 0 && decide (off < 0x2000000)) || (bar = 4 && bar4Defined off)

/-- UNDEFINED_BAR_REQUEST (R123): a posted request is discarded, a non-posted one answered UR and reported; each is counted. A function
being disabled, or whose link is down, discards writes to BAR0 and BAR4 and answers reads of them with all ones (R118), and a read of
BAR4 completes with all ones always (R180): those, and requests to a defined region, are no such request. -/
def execUndefinedBarRequest (fn bar off : Nat) (posted : Bool) (s : State) : Host.Outcome State Fault Refusal :=
  if s.fnDark fn && (bar = 0 || bar = 4) then .next (if posted then s else s.emit (.barAnswer fn false))
  else if bar = 4 && !posted then .next (s.emit (.barAnswer fn false))
  else if barDefined fn bar off then .next s
  else
    let s := s.undefinedBar fn
    .next (if posted then s else (s.reportAer fn aerUndefined).emit (.barAnswer fn true))

/-! ### Link power (R109, R110) -/

/-- A function holds a Gold reserve (R110). -/
def State.holdsReserve (s : State) (fn : Nat) : Bool := s.get .JQ_FGOLD_RES_SLOTS fn ≠ 0

/-- R110 keeps the link out of L1 and L0p: a function of it holds a reserve and opts out, or a Gold command fetched from it is
outstanding while a function of it holds a reserve. -/
def State.goldHoldsLink (s : State) (x : Nat) : Bool :=
  let fs := s.linkFns x
  (fs.any fun f => s.holdsReserve f && s.flag .HE_FNATTR_GOLD_NO_LPM f)
    || ((fs.any s.holdsReserve) && s.cmds.any fun c => c.gold && fs.contains c.fn)

/-- The host lets a link enter L1: ASPM L1 is enabled in its PF, or all its functions are in D3hot (R109, R112). -/
def State.aspmL1 (s : State) (x : Nat) : Bool := bit (s.get .X_FN_ASPM x) 1 || (s.linkFns x).all fun f => s.flag .X_FN_D3 f

/-- L1_ENTRY (R109, R110). -/
def execL1Entry (port link : Nat) (s : State) : Host.Outcome State Fault Refusal :=
  let x := linkIx port link
  if s.flag .HE_LINK_STS_UP x && decide (s.get .HE_LINK_STS_LPM x ≤ 1) && s.aspmL1 x && !s.goldHoldsLink x then
    .next ((s.put .HE_LINK_STS_LPM 2 x).emit (.linkPower x 2))
  else .next s

/-- L12_ENTRY (R109, R110): never while a function of the link holds a reserve. -/
def execL12Entry (port link : Nat) (s : State) : Host.Outcome State Fault Refusal :=
  let x := linkIx port link
  if s.flag .HE_LINK_STS_UP x && (s.get .HE_LINK_STS_LPM x = 2 || s.get .HE_LINK_STS_LPM x = 3)
      && s.flag .X_FN_L12 x && !(s.linkFns x).any s.holdsReserve then
    .next ((s.put .HE_LINK_STS_LPM 4 x).emit (.linkPower x 4))
  else .next s

/-- L0P_NARROW (R109): down to no less than x4, or x2 on a x4 link. -/
def execL0pNarrow (port link width : Nat) (s : State) : Host.Outcome State Fault Refusal :=
  let x := linkIx port link
  let least := if s.get .HE_LINK_STS_WIDTH x ≤ 4 then 2 else 4
  if s.flag .HE_LINK_STS_UP x && s.flag .HE_PWR_L0P_EN port && s.get .HE_LINK_STS_LPM x ≤ 1 && decide (least ≤ width)
      && decide (width < s.get .HE_LINK_STS_L0P_WIDTH x) && !s.goldHoldsLink x then
    .next (((s.put .HE_LINK_STS_L0P_WIDTH width x).put .HE_LINK_STS_LPM 1 x).emit (.linkPower x 1))
  else .next s

/-- Brings a link back to L0 (R110). -/
def State.linkToL0 (s : State) (x : Nat) : State :=
  if s.flag .HE_LINK_STS_UP x && s.get .HE_LINK_STS_LPM x ≠ 0 then
    ((s.put .HE_LINK_STS_LPM 0 x).put .HE_LINK_STS_L0P_WIDTH (s.get .HE_LINK_STS_WIDTH x) x).emit (.linkPower x 0)
  else s

/-- L1_EXIT (R110): for traffic or for a change of GOLD_NO_LPM. -/
def execL1Exit (port link : Nat) (s : State) : Host.Outcome State Fault Refusal := .next (s.linkToL0 (linkIx port link))

end Sys2Proof.Machine
end

