-- ==== Sys2Proof/Machine/Writes.lean ====
section
/-! DEFINITION. Writes of both host protocols (04, 05, R252, R372, R373, R531): admission under the quota, grants and their data, DMA
reads of write data, storing granule by granule, and the acknowledgement. -/

namespace Sys2Proof.Machine

/-! ### Data received -/

def byteAt (l : List (Nat × List Byte)) (k : Nat) : Option Byte :=
  match l.find? fun x => decide (x.1 ≤ k) && decide (k < x.1 + x.2.length) with
  | some x => x.2[k - x.1]?
  | none => none

def winGet (s : State) (fn off : Nat) : Option Byte := Sparse.get (fun _ => none) s.dataWin (fn * 2 ^ 26 + off)

/-- A byte of a command's data, if it has arrived in a completed or open grant or by DMA (R225). -/
def State.cmdByte (s : State) (c : Cmd) (k : Nat) : Option Byte :=
  match byteAt c.got k with
  | some b => some b
  | none =>
    match s.grants.find? fun g => g.cmd = c.id && decide (g.srcOff ≤ k) && decide (k < g.srcOff + g.len) with
    | some g => winGet s c.fn (g.woff + (k - g.srcOff))
    | none => none

/-- `n` bytes of a command's data from a position, if they have all arrived. -/
def State.cmdData (s : State) (c : Cmd) (k n : Nat) : Option (List Byte) :=
  (List.range n).mapM fun i => s.cmdByte c (c.dataPos (k + i))

/-- First byte of a write in its node. -/
def Cmd.start (c : Cmd) : Nat := c.lba * 4096 + c.skip

/-- The volume a write stores to. -/
def Cmd.vol (c : Cmd) : Nat := c.target - 1

/-- Bytes of a granule of the volume written. -/
def State.granBytes (s : State) (c : Cmd) : Nat := 4096 * s.gUnits c.vol

/-- The overlap of a granule with a write, in bytes of the node. -/
def State.overlap (s : State) (c : Cmd) (g : Nat) : Nat × Nat :=
  let n := s.granBytes c
  (max c.start (g * n), min (c.start + c.bytes) ((g + 1) * n))

/-- Unit `i` of a granule as stored now, with its metadata, through the volumes of the node named as at the command's admission (R252,
R265). -/
def State.oldUnit (s : State) (c : Cmd) (g i : Nat) : List Byte :=
  let k := s.gUnits c.vol
  match s.supply (g * k + i) c.order with
  | some (v, w) =>
    -- a title volume keeps its data as received: they are merged so (R464)
    if v = c.vol && (s.node? v).any (fun n => n.titleKey) then
      if eState w ≠ 1 || eLost w then zeroUnit else s.unitBytes ((s.unitSeq (ePlace w) (eLen w)).getD i 0)
    else s.readUnit v w (g * k + i)
  | none => zeroUnit

/-- The data bytes of a granule as stored now. -/
def State.oldGranule (s : State) (c : Cmd) (g : Nat) : List Byte :=
  (List.range (s.gUnits c.vol)).flatMap fun i => (s.oldUnit c g i).take 4096

/-- Puts bytes over others at an offset. -/
def overlay (old new : List Byte) (off : Nat) : List Byte := old.take off ++ new ++ old.drop (off + new.length)

/-- The bytes a write makes of a granule, if its data for it have arrived: its own, or merged into the stored granule (R252). -/
def State.newGranule (s : State) (c : Cmd) (g : Nat) : Option (List Byte) :=
  let n := s.granBytes c
  let r := s.overlap c g
  match s.cmdData c (r.1 - c.start) (r.2 - r.1) with
  | none => none
  | some d => some (if r.2 - r.1 = n then d else overlay (s.oldGranule c g) d (r.1 - g * n))

/-- NVMe Write Zeroes, which stores nothing but zeroes in partial granules (R253). -/
def Cmd.zeroes (c : Cmd) : Bool := c.nvme && c.op = 0x08

/-- The blocks of a command that lie in a granule, counted from its first one. -/
def State.granBlocks (s : State) (c : Cmd) (g : Nat) : List Nat :=
  let r := s.overlap c g
  (List.range ((r.2 - r.1) / c.fmt.lb)).map ((r.1 - c.start) / c.fmt.lb + ·)

/-- The metadata a write gives its block `b`, if they have arrived: sent by the host, inserted (PRACT), or those of a zeroed block. -/
def State.blockMeta (s : State) (c : Cmd) (b : Nat) : Option (List Byte) :=
  let f := c.fmt
  if f.md = 0 then some []
  else if f.pi ≠ 0 && f.pract then (s.cmdData c (b * f.lb) f.lb).map (makePi f b)
  else if c.zeroes then some (blankMeta f)
  else (List.range f.md).mapM fun j => s.cmdByte c (c.metaPos b j)

/-- A granule of a write is fully received, with the metadata of its blocks (R225). -/
def State.granReceived (s : State) (c : Cmd) (g : Nat) : Bool :=
  let r := s.overlap c g
  (s.cmdData c (r.1 - c.start) (r.2 - r.1)).isSome && (c.fmt.md = 0 || (s.granBlocks c g).all fun b => (s.blockMeta c b).isSome)

/-- The first check of protection information that fails in a granule received (R145). -/
def State.granVerdict (s : State) (c : Cmd) (g : Nat) : Option Result :=
  if c.fmt.pi = 0 || c.fmt.pract || c.zeroes then none
  else (s.granBlocks c g).findSome? fun b =>
    piVerdict c.fmt b ((s.cmdData c (b * c.fmt.lb) c.fmt.lb).getD []) ((s.blockMeta c b).getD [])

/-- The metadata of unit `i` of a granule after a write: of the blocks it writes, its own; of the others, those stored. -/
def State.newMeta (s : State) (c : Cmd) (g i : Nat) : List Byte :=
  let per := 4096 / c.fmt.lb
  let first := (g * s.gUnits c.vol + i) * per
  (List.range per).flatMap fun r =>
    let b := first + r - c.start / c.fmt.lb
    if decide (c.start / c.fmt.lb ≤ first + r) && decide (b < c.blocks) then (s.blockMeta c b).getD (blankMeta c.fmt)
    else unitMeta c.fmt (s.oldUnit c g i) r

/-- The units a write makes of a granule, if its data for it have arrived: 4,096 bytes each, and the metadata of its blocks. -/
def State.newUnits (s : State) (c : Cmd) (g : Nat) : Option (List (List Byte)) :=
  if !s.granReceived c g then none
  else (s.newGranule c g).map fun d =>
    let l := chunks (s.gUnits c.vol) d
    if c.fmt.md = 0 then l else (List.range l.length).map fun i => l.getD i [] ++ s.newMeta c g i

/-! ### Storing -/

/-- A granule of a write is not held as covered (R531). -/
def Cmd.uncovered (c : Cmd) (g : Nat) : Bool := c.unc.contains g

/-- The kind of band some granules of a write go to (R360, R531). -/
def Cmd.kind (c : Cmd) (gs : List Nat) : Nat := if gs.any c.uncovered then kindCache else kindRw

/-- The command whose acknowledgement waits for the programming of some of its granules. -/
def Cmd.waiter (c : Cmd) (gs : List Nat) : Option Nat := if gs.any c.uncovered then some c.id else none

/-- Marks granules of a write stored; `src` tells whether a WRITE_PACK stored them raw (.zero) or packed. -/
def Cmd.markDone (c : Cmd) (gs : List Nat) (src : Src) : Cmd :=
  { c with parts := c.parts.map fun p => if gs.contains p.pos then { p with done := true, src := src } else p }

/-- A block of a WRITE_PACK was stored raw (R202). -/
def Cmd.rawFlag (c : Cmd) : Bool := !c.nvme && c.op = 0x04 && c.parts.any fun p => p.done && p.src = .zero

/-- The number of the key a granule of a write is stored under: the volume's at admission (R467). -/
def Cmd.keyAt (c : Cmd) (g : Nat) : Nat := (c.parts.find? fun p => p.pos = g).elim 0 fun p => p.key

/-- Stores the units of a granule raw. A write whose kind has no open band waits (R359). -/
def State.storeUnits (s : State) (id g : Nat) (units : List (List Byte)) : State :=
  match s.cmd? id with
  | none => s
  | some c =>
    let k := s.gUnits c.vol
    match s.storeHost (c.kind [g]) c.vol g false units c.fn (c.keyAt g) (c.waiter [g])
        (fun p => [(g, mkEntry false false k 0 p)]) with
    | none => s
    | some s => s.setCmd (c.markDone [g] .zero)

/-- Stores the data of a granule raw. -/
def State.storeGranule (s : State) (id g : Nat) (data : List Byte) : State :=
  match s.cmd? id with
  | none => s
  | some c => s.storeUnits id g (chunks (s.gUnits c.vol) data)

/-- All the data of a write that have arrived, in order. -/
def State.received (s : State) (c : Cmd) : List Byte := (List.range c.bytes).filterMap fun k => s.cmdByte c k

/-- The CRC-32C a Jexash reply carries for the data received (R200); an NVMe completion entry carries none. -/
def State.receivedCrc (s : State) (c : Cmd) : Nat := if c.nvme then 0 else crc32c (s.received c)

/-- Gives back the write buffer a command took for granules it did not store (R531). -/
def State.releaseAlloc (s : State) (c : Cmd) : State :=
  s.dirtySub (c.alloc - s.granBytes c * (c.parts.filter fun p => p.done).length)

/-- Stores every granule of a write that is fully received and not stored yet (R115, R226, R227); while the write goes on, only what lies in
completed grants, since an open one may still replace it (R225). One whose protection information fails a check ends the command with that
error (R145). -/
def State.commitWhere (s : State) (id : Nat) (sel : State → State) : State :=
  match s.cmd? id with
  | none => s
  | some c =>
    forEach (c.parts.filter fun p => !p.done) s fun p s =>
      match s.cmd? id with
      | none => s
      | some c => match (if (sel s).granReceived c p.pos then s.newUnits c p.pos else none) with
        | some l => match s.granVerdict c p.pos with
          | some r => (s.releaseAlloc c).finish c r
          | none => s.storeUnits id p.pos l
        | none => s

/-- All that is fully received, in open grants too. -/
def State.commitReceived (s : State) (id : Nat) : State := s.commitWhere id fun s => s

/-- All that is fully received in completed grants and DMA reads. -/
def State.commitComplete (s : State) (id : Nat) : State := s.commitWhere id fun s => { s with grants := [] }

/-- Withdraws the grants of a command. -/
def State.dropGrants (s : State) (id : Nat) : State :=
  let mine := s.grants.filter fun g => g.cmd = id
  { s with
    grants := s.grants.filter fun g => g.cmd ≠ id
    dataWin := s.dataWin.filter fun x => !mine.any fun g => g.holds x.1 }

/-- A write all of whose granules are stored is acknowledged, or waits for their programming (R166, R226, R531). -/
def State.ackWrite (s : State) (id : Nat) : State :=
  match s.cmd? id with
  | none => s
  | some c =>
    if !c.isWrite || c.st = .taken || c.st = .ended || c.res.isSome || c.parts.any (fun p => !p.done)
        || s.engJobs.any (fun j => j.cmd = id) then s
    else if c.mute then s.endMuted c
    else
      let r : Result := { vSuccess with crc := s.receivedCrc c, raw := c.rawFlag }
      if c.covered && s.flag .X_HU_COVER then s.finish c r
      else (s.setCmd { c with res := some r, covered := false, st := .planned }).ackProgrammed id

/-- Ends a write before all its data came: what is fully received is stored, the rest keeps its old data (R115, R227). -/
def State.cutWrite (s : State) (id : Nat) (r : Result) : State :=
  let s := if (s.cmd? id).any fun c => c.isWrite then s.commitReceived id else s
  match s.cmd? id with
  | none => s
  | some c =>
    -- a granule that still waits for a band keeps the write open, but it takes no more data (R106, R227, R359)
    if c.isWrite && c.parts.any (fun p => !p.done && s.granReceived c p.pos) then
      let t : State := { s with grants := s.grants.map fun g => if g.cmd = id then { g with closed := true } else g }
      t.setCmd { c with cut := some (c.cut.getD r) }
    else
      let r := { c.cut.getD r with crc := s.receivedCrc c, raw := c.rawFlag }
      let s := if c.isWrite then s.releaseAlloc c else s
      (s.dropGrants id).finish c r

/-- Writes that waited for a band go on. -/
def State.retryWrites (s : State) : State :=
  forEach ((s.cmds.filter fun c => c.isWrite && (c.st = .admitted || c.st = .planned) && c.res.isNone && (c.nvme || c.op = 0x03)).map
    fun c => c.id) s fun id s =>
      match s.cmd? id with
      | none => s
      | some c =>
        if c.revoked then s.cutWrite id vRevoked
        else match c.cut with
          | some r => s.cutWrite id r
          | none => (s.commitComplete id).ackWrite id

/-- BAND_OPEN (R355 to R361, R380, R390). -/
def execBandOpen (kind rot : Nat) (dies : List (Option Nat)) (failed : List Nat) (s : State) : Host.Outcome State Fault Refusal :=
  .next ((s.openNewBand kind rot dies failed).retryWrites)

/-! ### Admission (R201, R359, R372, R373, R412) -/

/-- What remains of the tick's quota, KiB, plus 2^40. -/
def quotaZero : Nat := 2 ^ 40

/-- The granules of a write. -/
def State.writeGranules (s : State) (c : Cmd) : List Nat :=
  let n := s.granBytes c
  let first := c.start / n
  (List.range ((c.start + c.bytes + n - 1) / n - first)).map (first + ·)

/-- The quota admits some KiB of host data now (R373). -/
def State.quotaOk (s : State) (kib : Nat) : Bool :=
  let left := s.get .X_QUOTA
  decide (quotaZero + kib ≤ left) || (s.flag .X_QUOTA_FRESH && decide (quotaZero < left))

/-- The partial granules of a write stand in the way (R412): under recovery, or LOST. -/
def State.partialVerdict (s : State) (c : Cmd) : Option Result :=
  let n := s.granBytes c
  let k := s.gUnits c.vol
  let part := (s.writeGranules c).filter fun g => (s.overlap c g).2 - (s.overlap c g).1 ≠ n
  let entries := part.flatMap fun g => (s.supplies c.node (g * k) k).filterMap fun x => x
  if entries.any fun y => eLost y.2 then some { vMediaError with dnr := true }
  else if entries.any fun y => eRecov y.2 then some vRecovering
  else none

/-- Write buffer for one more granule (R531, R367): it is held as covered only while the dirty buffer with it stays within the allowance
and the reserve is full. -/
def State.allocGranule (s : State) (id g n : Nat) : State :=
  match s.cmd? id with
  | none => s
  | some c =>
    let d := s.get .HU_DIRTY + n
    let c := { c with alloc := c.alloc + n }
    if decide (d ≤ s.get .HU_ALLOW) && s.reserveFull then (s.dirtyAdd n).setCmd c
    else
      let s := if c.covered then s.bump .HU_CNT_ACK_PROG else s
      (s.dirtyAdd n).setCmd { c with covered := false, unc := c.unc ++ [g] }

/-- Allocates write buffer for the granules of a command up to a position. -/
def State.allocTo (s : State) (id upTo : Nat) : State :=
  match s.cmd? id with
  | none => s
  | some c =>
    let n := s.granBytes c
    let more := c.parts.filter fun p => decide (c.alloc / n ≤ c.parts.idxOf p) && decide (p.pos * n < c.start + upTo)
    forEach more s fun p s => s.allocGranule id p.pos n

/-- How many of some granules of a size would be held as covered if they were allocated now. -/
def State.coverable (s : State) (n : Nat) : Nat := if s.reserveFull then (s.get .HU_ALLOW - s.get .HU_DIRTY) / n else 0

/-- The bands a write of some granules needs are open (R359). -/
def State.bandsFor (s : State) (c : Cmd) (k : Nat) : Bool :=
  let n := s.coverable (s.granBytes c)
  (n = 0 || (s.openBand kindRw (s.gUnits c.vol)).isSome) && (decide (k ≤ n) || (s.openBand kindCache (s.gUnits c.vol)).isSome)

/-- A write covers a whole granule. -/
def State.wholeGranule (s : State) (c : Cmd) (g : Nat) : Bool := (s.overlap c g).2 - (s.overlap c g).1 = s.granBytes c

/-- Deallocates the whole granules of a command's range in its write target (R253): a tombstone where another volume follows the target
in the order of the node named, else unmapped. -/
def State.deallocate (s : State) (c : Cmd) : State :=
  let w := if 1 < (s.order c.node).length then tombstone else 0
  forEach ((s.writeGranules c).filter (s.wholeGranule c)) s fun g s => s.mapPut c.vol g w

/-- Requests the data of an NVMe write by DMA (R101, R102), and where its metadata have a buffer of their own, those too: they count as the
bytes of the transfer behind the data (R145). -/
def State.requestData (s : State) (c : Cmd) : State :=
  let a := c.ptrAddr 0 c.ptrBytes
  let t := s.sendFor c (s.cmdStrict c) a c.ptrBytes false (.dmaRead c.fn c.id 0 c.ptrBytes)
  let t : State := { t with dmaReads := t.dmaReads ++ [⟨c.id, c.fn, a, c.ptrBytes, c.ptrBytes⟩] }
  if c.metaBytes = 0 then t
  else
    let m := fieldAt c.raw 16 8
    let t := t.sendFor c (s.cmdStrict c) (some m) c.metaBytes false (.dmaRead c.fn c.id c.bytes c.metaBytes)
    { t with dmaReads := t.dmaReads ++ [⟨c.id, c.fn, some m, c.metaBytes, c.metaBytes⟩] }

/-- Admits a write that has passed its checks, or leaves it waiting in order of arrival (R373). Write Zeroes stores only its partial
granules; with none it stores nothing and waits for nothing. -/
def State.admitWrite (s : State) (c : Cmd) : State :=
  let gs := if c.zeroes then (s.writeGranules c).filter (fun g => !s.wholeGranule c g) else s.writeGranules c
  let kib := gs.length * s.granBytes c / 1024
  let earlier := s.cmds.any fun x => x.waits && decide (x.id < c.id)
  if gs.isEmpty then (s.deallocate c).finish c vSuccess
  else if earlier || !s.quotaOk kib || !s.bandsFor c gs.length then s.setCmd { c with waits := true }
  else
    -- a title volume's data are stored as received (R464)
    let key := if (s.node? c.vol).any (fun n => n.titleKey) then 0 else s.keyOf c.vol
    let parts := gs.map fun g => (⟨g, c.vol, g * s.gUnits c.vol, .raw 0, false, [], key⟩ : Part)
    let s := (s.put .X_QUOTA (s.get .X_QUOTA - kib)).putFlag .X_QUOTA_FRESH false
    let c := { c with order := s.order c.node }
    let s := s.setCmd { c with waits := false, st := .admitted, parts := parts, covered := true, unc := [], alloc := 0 }
    if c.zeroes then
      let c := { c with waits := false, st := .admitted, parts := parts, covered := true, unc := [], alloc := 0,
                        got := gs.map fun g => ((s.overlap c g).1 - c.start, List.replicate ((s.overlap c g).2 - (s.overlap c g).1) 0) }
      let s := ((s.setCmd c).deallocate c).allocTo c.id c.bytes
      (s.commitReceived c.id).ackWrite c.id
    else if c.nvme then (s.allocTo c.id c.bytes).requestData c else s

/-- Fields of a WRITE, WRITE_PACK or PACK_ONLY packet are within R195. -/
def State.writeFieldsOk (s : State) (c : Cmd) : Bool :=
  c.packetOk && decide (1 ≤ c.pLen) && decide (c.pLen ≤ 1024) && c.param = 0 && s.flag .JQ_QCFG_XR_EN c.q
    && (match c.op with
      | 0x03 => c.codec = 0 && c.outLen = 0 && c.dest = 0
      | 0x04 => c.codec = 1 && c.outLen = 0 && c.dest = 0
      | _ => c.codec = 1 && decide (c.pLen ≤ 16) && c.pLba = 0 && c.pNode = 0 && c.pGen = 0)

/-- A WRITE or WRITE_PACK packet (R201, R214). -/
def State.jxWrite (s : State) (c : Cmd) : State :=
  let node := c.pNode
  if s.flag .JQ_STS_SANITIZING then s.finish c vSanitizing
  else if !s.writeFieldsOk c then s.finish c vInvalidField
  else
    -- the checks on the volume are made on a volume named itself, and on the write target of a stack (R195, R201)
    let tv := if s.isVolume node then s.node? node else (s.writeTarget node).bind s.node?
    if c.op = 0x04 && tv.any (fun n => n.codec ≠ 1 || n.titleKey) then s.finish c vInvalidField
    else
      match s.rangeVerdict c node c.pLba c.pLen rightWrite with
      | some r => s.finish c r
      | none =>
        let c := { c with node := node, lba := c.pLba, len := c.pLen, skip := 0, bytes := 4096 * c.pLen,
                          cls := if c.ctl % 4 = 2 then 2 else 1, target := (s.writeTarget node).elim 0 (· + 1) }
        match s.partialVerdict c with
        | some r => s.finish c r
        | none => s.admitWrite c

/-- WRITE (R201). -/
def execWrite (cmd : Nat) (s : State) : Host.Outcome State Fault Refusal :=
  match s.packet cmd 0x03 with
  | some c => .next (if c.waits then s else s.jxWrite c)
  | none => .next s

/-- WRITE_PACK (R201, R202). -/
def execWritePack (cmd : Nat) (s : State) : Host.Outcome State Fault Refusal :=
  match s.packet cmd 0x04 with
  | some c => .next (if c.waits then s else s.jxWrite c)
  | none => .next s

/-- PACK_ONLY (R204): its input comes through grants; it stores nothing. -/
def execPackOnly (cmd : Nat) (s : State) : Host.Outcome State Fault Refusal :=
  match s.packet cmd 0x0C with
  | none => .next s
  | some c =>
    if s.flag .JQ_STS_SANITIZING then .next (s.finish c vSanitizing)
    else if !s.writeFieldsOk c then .next (s.finish c vInvalidField)
    else
      .next (s.setCmd { c with st := .admitted, len := c.pLen, bytes := 4096 * c.pLen, cls := 1 })

/-! ### Grants (R223 to R227) -/

/-- A command that takes data through grants. -/
def Cmd.pushes (c : Cmd) : Bool := !c.nvme && (c.op = 0x03 || c.op = 0x04 || c.op = 0x0C)

/-- Bytes of write buffer in use: of dirty granules, of units programmed and not parity-complete, and of PACK_ONLY input granted. -/
def State.bufferUsed (s : State) : Nat :=
  s.get .HU_DIRTY + 4096 * (s.wbuf.filter fun w => w.programmed).length
    + ((s.cmds.filter fun c => !c.nvme && c.op = 0x0C).map fun c => c.issued).foldl (· + ·) 0

/-- The most the write buffer can hold: the DRAM that MC_DSTORE leaves it, among others (log entry 74). -/
def bufferMax : Nat := 8 * 2 ^ 30

/-- GRANT_ISSUE (R223, R224, R531): the next grant of an admitted command, at a free place of the function's data window. -/
def execGrantIssue (cmd woff : Nat) (s : State) : Host.Outcome State Fault Refusal :=
  match s.cmd? cmd with
  | none => .next s
  | some c =>
    let q := c.q
    let len := min (s.get .JQ_QRING_XR_MAX q * 65536) (c.bytes - c.issued)
    let openQ := (s.grants.filter fun g => g.q = q && !g.closed).length
    let posted := s.get .X_JQ_XPOST q
    let n := s.xrEntries q
    let clash := s.grants.any fun g => g.fn = c.fn && rangesMeet g.woff g.len woff len
    if !c.pushes || c.st ≠ .admitted || c.mute || c.cut.isSome || len = 0 || decide (s.get .JQ_QRING_MAX_OPEN q ≤ openQ)
        || decide (n ≤ posted - s.get .X_JQ_XHEAD q) || woff % 4096 ≠ 0 || decide (woff < 0x400000) || decide (0x4000000 < woff + len)
        || clash || decide (bufferMax < s.bufferUsed + len) || s.get .JQ_QSTS_STATE q = jqDisabling || (s.jqStrict q && !s.laneTurn false c.fn q c.id) then .next s
    else
      let expire := s.tick + 2 ^ s.get .JQ_QCFG_XR_LIFE q
      let s : State := { s with grants := s.grants ++ [⟨cmd, q, c.fn, c.gnum, woff, len, c.issued, expire, false, s.tick, s.get .TK_PHASE_PHASE⟩] }
      let s := s.sendFor c (s.jqStrict q) (some (s.get .JQ_QXR_BASE q + 32 * (posted % n))) 32 false
        (.grant q (posted % n) c.tag c.gnum (openQ + 1) woff len c.issued (expire % 2 ^ 48) (decide (posted / n % 2 = 0)))
      let s := s.put .X_JQ_XPOST (posted + 1) q
      let s := s.setCmd { c with issued := c.issued + len, gnum := c.gnum + 1 }
      .next (if c.isWrite then s.allocTo cmd (c.issued + len) else s)

/-- A grant all of whose bytes have been written is complete (R225): its data belong to the command. -/
def State.completeGrant (s : State) (g : Grant) : State :=
  match s.cmd? g.cmd with
  | none => s
  | some c =>
    match (List.range g.len).mapM fun k => winGet s g.fn (g.woff + k) with
    | none => s
    | some d =>
      let s := s.sample 49 (s.elapsedUs g.tick g.ph)
      let s : State := { s with
        grants := s.grants.erase g
        dataWin := s.dataWin.filter fun x => !g.holds x.1 }
      let s := s.setCmd { c with got := c.got ++ [(g.srcOff, d)] }
      if c.op = 0x03 then (s.commitComplete c.id).ackWrite c.id else s

/-- Puts bytes into the data window where open grants take them. -/
def winPut (grants : List Grant) (fn : Nat) : Nat → List Byte → List (Nat × Option Byte) → List (Nat × Option Byte)
  | _, [], l => l
  | off, b :: bs, l =>
    let l := if grants.any fun g => g.fn = fn && !g.closed && decide (g.woff ≤ off) && decide (off < g.woff + g.len) then
        Sparse.set Sparse.below (fun _ => none) l (fn * 2 ^ 26 + off) (some b)
      else l
    winPut grants fn (off + 1) bs l

/-- GRANT_EXPIRY (R227): a grant expires incomplete at the end of its tick. -/
def execGrantExpiry (cmd grant : Nat) (s : State) : Host.Outcome State Fault Refusal :=
  match s.grants.find? fun g => g.cmd = cmd && g.num = grant && !g.closed with
  | none => .next s
  | some g => .next (if g.expire < s.tick then (s.bump .JQ_CNT_XR_EXPIRED).cutWrite cmd vXferTimeout else s)

/-! ### DMA reads of write data (R106, R123) -/

/-- A DMA read of a command has not gone out yet (R101, R105): nothing answers it. -/
def State.readHeld (s : State) (cmd : Nat) : Bool :=
  s.holds.any fun h => h.cmd = some cmd && (match h.out with
    | .dmaRead .. => true
    | _ => false)

/-- Takes bytes off the DMA reads of a command, oldest first. -/
def takeBytes (cmd : Nat) : Nat → List DmaReq → List DmaReq
  | _, [] => []
  | n, r :: l => if r.cmd = cmd then { r with left := r.left - n } :: takeBytes cmd (n - r.left) l else r :: takeBytes cmd n l

/-- Bytes of a command's DMA read have come; a read answered in full, refused or timed out is outstanding no more (R107). -/
def State.readAnswered (s : State) (cmd n : Nat) : State :=
  { s with dmaReads := (takeBytes cmd n s.dmaReads).filter fun r => 0 < r.left }

/-- DMA_READ_COMPLETION: data of an NVMe write, or a refused or poisoned completion, which ends the command with a data-transfer
error. -/
def execDmaReadCompletion (cmd : Nat) (status : DmaStatus) (offset : Nat) (data : List Byte) (s : State) :
    Host.Outcome State Fault Refusal :=
  if s.readHeld cmd then .next s
  else
  let s := s.readAnswered cmd (if status = .ok then data.length else 2 ^ 64)
  match s.cmd? cmd with
  | none => .next s
  | some c =>
    let s := if status = .ok then s else s.reportAer c.fn aerRefused
    if !c.nvme || c.st = .ended then .next s
    else
      match status with
      | .ok =>
        if c.isWrite && c.st ≠ .taken && !c.mute && c.cut.isNone then
          let s := s.setCmd { c with got := c.got ++ [(offset, data)] }
          .next ((s.commitReceived cmd).ackWrite cmd)
        else .next s
      | _ => .next (if c.isWrite && c.st ≠ .taken then s.cutWrite cmd vDataError else s.finish c vDataError)

/-- COMPLETION_TIMEOUT (R98, R123): none comes while the host disables it; else as a refused completion, and CPL_TIMEOUT of the port is set. -/
def execCompletionTimeout (cmd : Nat) (s : State) : Host.Outcome State Fault Refusal :=
  match s.cmd? cmd with
  | none => .next s
  | some c =>
    if c.st = .ended || s.readHeld cmd || s.flag .X_FN_CTOD c.fn then .next s
    else
      let port := s.fnPf c.fn / 4
      let s := (((s.putFlag .HE_EVT_CPL_TIMEOUT true port).bump .HE_CNT_CTO port).raise 50 uFront c.fn).reportAer c.fn aerTimeout
      let s := s.readAnswered cmd (2 ^ 64)
      .next (if c.isWrite && c.st ≠ .taken then s.cutWrite cmd vDataError else s.finish c vDataError)

end Sys2Proof.Machine
end

