-- ==== Sys2Proof/Machine/Engines.lean ====
section
/-! DEFINITION. The compression and decompression engines (11): jobs of the cluster queues, packing and NOSHRINK, and the Zstandard
dictionaries. -/

namespace Sys2Proof.Machine

/-- The cluster and unit of an engine (R426): 0 to 31 decompress, 32 to 39 compress. -/
def engineCluster (e : Nat) : Nat := if e < 32 then e / 4 else e - 32

/-- An engine may take a job: it is idle and its unit is up. -/
def State.engineIdle (s : State) (e : Nat) : Bool :=
  s.flag .X_OWN_READY (uEngines (engineCluster e)) && s.unitPower (uEngines (engineCluster e)) = 0
    && !s.engJobs.any fun j => j.engine = some e

/-- The parts of a command that hold a frame of its range. -/
def Cmd.frameParts (c : Cmd) (off : Nat) : List Part :=
  let size := 16 + fieldAt (c.readData.drop off) 8 4
  (c.parts.take ((off + size + 4095) / 4096)).drop (off / 4096)

/-- Decompression jobs of a cluster's queue that may be taken: their input is complete. -/
def State.decQueue (s : State) (cl : Nat) : List EngJob :=
  s.engJobs.filter fun j => j.cl = cl && j.engine.isNone && j.ready && (match j.kind with
    | .pack _ _ => false
    | .block _ => true
    | .frame _ => (s.cmd? j.cmd).all fun c => c.parts.all fun p => p.done)

/-- The job taken next: by class, then admission, then order of queueing (R427). -/
def EngJob.before (x y : EngJob) : Bool :=
  decide (x.cls < y.cls) || (x.cls = y.cls && (decide (x.cmd < y.cmd) || (x.cmd = y.cmd && decide (x.id < y.id))))

def nextJob : List EngJob → Option EngJob
  | [] => none
  | j :: l => some (l.foldl (fun m x => if x.before m then x else m) j)

/-- An engine runs a job. -/
def State.runJob (s : State) (e : Nat) (j : EngJob) : State :=
  let s : State := { s with engJobs := s.engJobs.map fun x =>
    if x.id = j.id then { x with engine := some e, cl := engineCluster e, roams := false } else x }
  ((s.put .CX_ENG_STS_STATE 1 e).put .CX_ENG_STS_CLASS j.cls e).put .CX_ENG_STS_FORMAT j.fmt e

/-- DECOMPRESSION_JOB_START (R427, R447): an idle engine takes the next job of its cluster's queue; of another cluster's, one that a reset or a
window error has set free, or with STEAL the next one while all engines of that cluster are busy. -/
def execDecompressionJobStart (engine cl : Nat) (s : State) : Host.Outcome State Fault Refusal :=
  if 32 ≤ engine ∨ 8 ≤ cl ∨ !s.engineIdle engine then .next s
  else
    let full := (List.range 4).all fun k => !s.engineIdle (4 * cl + k)
    let free := nextJob ((s.decQueue cl).filter EngJob.roams)
    match nextJob (s.decQueue cl) with
    | none => .next s
    | some j =>
      if cl = engineCluster engine then .next (s.runJob engine j)
      else match free with
        | some x => .next (s.runJob engine x)
        | none => .next (if s.flag .CX_CTL_STEAL && full then (s.runJob engine j).bump .CX_CNT_STEAL else s)

/-- The engine's job is over with a LAST code. -/
def State.endJob (s : State) (e : Nat) (j : EngJob) (last : Nat) : State :=
  let s : State := { s with engJobs := s.engJobs.filter fun x => x.id ≠ j.id }
  (s.put .CX_ENG_STS_LAST last e).idleEngine e

/-- Units of a command are wanted again. -/
def Cmd.wantAgain (c : Cmd) (need : List Nat) : Cmd :=
  { c with
    parts := c.parts.map fun p => if p.places.any fun x => need.contains x then { p with done := false } else p
    arrived := c.arrived.filter fun p => !need.contains p }

/-- A check has failed for the first time: every stored unit of the block, or of the frame, is read again at step 0 like any read (R200,
R415). -/
def State.rereadJob (s : State) (e : Nat) (j : EngJob) (c : Cmd) (places : List Nat) : State :=
  let s := (s.bump .CX_CNT_CHECK_FAIL).raise (cSrc (engineCluster e) 11) (uEngines (engineCluster e)) e
  let s := (s.put .CX_ENG_STS_LAST 1 e).idleEngine e
  let need := (places.filter fun p => !s.buffered p).eraseDups
  let s : State := { s with engJobs := s.engJobs.map fun x =>
    if x.id = j.id then { x with engine := none, again := true, ready := need.isEmpty, need := need } else x }
  let c := c.wantAgain need
  forEach (need.map (· / 4)).eraseDups (s.setCmd c) fun pg s => s.planPage c pg (need.filter fun p => p / 4 = pg)

/-- Gives the decoded data of a block to the parts of its command. -/
def Cmd.takeBlock (c : Cmd) (places : List Nat) (data : List Byte) : Cmd :=
  { c with parts := c.parts.map fun p => match p.src with
    | .packed l sub => if l = places && !p.done then { p with done := true, data := (data.drop (sub * 4096)).take 4096 } else p
    | _ => p }

/-- The dictionary bound for a frame at admission: that of the volume that supplies the unit of its header (R444). -/
def Cmd.boundDict (c : Cmd) (off : Nat) : Option (List Byte) :=
  match c.parts[off / 4096]? with
  | some p => c.dicts.lookup p.vol
  | none => none

/-- DECOMPRESSION_JOB_DONE (R438, R440, R443, R445, R448): the output is delivered only after its check has passed. -/
def execDecompressionJobDone (engine : Nat) (s : State) : Host.Outcome State Fault Refusal :=
  match s.engJobs.find? fun j => j.engine = some engine with
  | none => .next s
  | some j =>
    match s.cmd? j.cmd with
    | none => .next (s.endJob engine j 5)
    | some c =>
      if c.st = .ended then .next (s.endJob engine j 5)
      else
        match j.kind with
        | .block places =>
          match mumelChecked (places.flatMap s.unitBytes) with
          | .ok d =>
            let s := ((s.bump .CX_CNT_DEC_BLOCKS).add .CX_CNT_DEC_BYTES d.length).endJob engine j (if c.mute then 5 else 0)
            .next ((s.setCmd (c.takeBlock places d)).tryFinish c.id)
          | r =>
            if !j.again then .next (s.rereadJob engine j c places)
            else
              let s := (s.bump .CX_CNT_CHECK_MISMATCH).endJob engine j (if r = .malformed then 2 else 1)
              .next (s.failRead c vCheckMismatch)
        | .frame off =>
          match decodeFrame c.codec (c.boundDict off) c.readData off with
          | .ok d =>
            let s := ((s.bump .CX_CNT_DEC_BLOCKS).add .CX_CNT_DEC_BYTES d.length).endJob engine j (if c.mute then 5 else 0)
            if c.mute then .next (s.endMuted c)
            else
              let s := s.deliver c c.output.length d
              let size := 16 + fieldAt (c.readData.drop off) 8 4
              let c := { c with got := c.got ++ [(c.output.length, d)], aux := [(off + size + 15) / 16 * 16] }
              .next ((s.setCmd c).nextFrame c)
          | .malformed => .next (((s.bump .CX_CNT_DECODE_ERR).endJob engine j 2).failRead c vDecodeError)
          | .badCheck =>
            if !j.again then .next (s.rereadJob engine j c ((c.frameParts off).flatMap Part.places))
            else .next (((s.bump .CX_CNT_CHECK_MISMATCH).endJob engine j 1).failRead c vCheckMismatch)
        | .pack _ _ => .next s

/-! ### Packing (R202, R203, R271, R449 to R451) -/

/-- Where the blocks of a WRITE_PACK start, from one granule on: at a cut point, and every 64 KiB after the latest cut; a cut inside a
granule moves down to its start (R202, R271). -/
def blockStarts (gran cuts : List Nat) (per : Nat) : Nat → List Nat → List Nat
  | _, [] => []
  | n, g :: l => if gran.contains g ∧ (cuts.contains g ∨ n = per) then g :: blockStarts gran cuts per 1 l
    else blockStarts gran cuts per (n + 1) l

/-- The cut points of a WRITE_PACK (R202, R203): those accepted, and those of FLUSH_BLOCKs taken in in time that are still to be answered
and wait for no FENCE. -/
def State.cutsOf (s : State) (c : Cmd) : List Nat :=
  c.aux ++ ((s.cmds.filter fun x => !x.nvme && x.op = 0x05 && x.q = c.q && x.st = .taken && x.param = c.tag && x.aux.isEmpty && x.res.isNone
    && !s.fenced x && decide (c.pLba < x.pLba) && decide (x.pLba < c.pLba + c.pLen)).map Cmd.pLba).take (16 - c.aux.length)

/-- The blocks of a WRITE_PACK, as first granule and count. -/
def State.packBlocks (s : State) (c : Cmd) : List (Nat × Nat) :=
  let gs := s.writeGranules c
  let k := s.gUnits c.vol
  let first := gs.headD 0
  let starts := blockStarts gs (first :: (s.cutsOf c).map (· / k)) (16 / k) 0 gs
  (List.range starts.length).map fun i =>
    let a := starts.getD i 0
    (a, (match starts[i + 1]? with
      | some b => b
      | none => first + gs.length) - a)

/-- The bytes of a block, if its data have arrived. -/
def State.blockInput (s : State) (c : Cmd) (g n : Nat) : Option (List Byte) :=
  -- what an open grant holds may still be replaced (R225)
  let t : State := { s with grants := [] }
  ((List.range n).mapM fun i => t.newGranule c (g + i)).map List.flatten

/-- COMPRESSION_JOB_START (R428, R447): the next block of a command whose data have all arrived is given to a compression engine; a job that is
run again goes first. -/
def execCompressionJobStart (engine cmd : Nat) (s : State) : Host.Outcome State Fault Refusal :=
  match s.cmd? cmd with
  | none => .next s
  | some c =>
    if engine < 32 ∨ 40 ≤ engine ∨ !s.engineIdle engine ∨ c.nvme ∨ (c.op ≠ 0x04 ∧ c.op ≠ 0x0C) ∨ c.st ≠ .admitted then .next s
    else
      let job (kind : JobKind) (s : State) : State :=
        let n := s.get .X_JOBSEQ
        let j : EngJob := ⟨n, engineCluster engine, cmd, c.cls, 1, kind, none, false, true, [], false⟩
        (({ s with engJobs := s.engJobs ++ [j] } : State).put .X_JOBSEQ (n + 1)).runJob engine j
      match s.engJobs.find? fun j => j.cmd = cmd && j.engine.isNone with
      | some j => .next (s.runJob engine j)
      | none =>
      if c.op = 0x0C then
        if (s.cmdData c 0 c.bytes).isSome && !s.engJobs.any (fun j => j.cmd = cmd) then .next (job (.pack 0 0) s) else .next s
      else
        let open' := (s.packBlocks c).filter fun b => (c.parts.any fun p => p.pos = b.1 && !p.done)
          && !s.engJobs.any fun j => j.cmd = cmd && j.kind = .pack b.1 b.2
        match open'.head? with
        | none => .next s
        | some b => if (s.blockInput c b.1 b.2).isSome then .next (job (.pack b.1 b.2) s) else .next s

/-- A compressed block saves space (R449). -/
def saves (block : List Byte) (orig : Nat) : Bool :=
  decide ((mumelSize block + 4095) / 4096 ≤ (orig + 4095) / 4096 - 1) && decide (1 ≤ (orig + 4095) / 4096)

/-- The compressor's self-check (R450): the block decodes again to its input. -/
def selfCheck (block input : List Byte) : Bool := mumelChecked block = .ok input

/-- COMPRESSION_JOB_DONE (R449, R450, R204): `block` is the engine's output. -/
def execCompressionJobDone (engine : Nat) (block : List Byte) (s : State) : Host.Outcome State Fault Refusal :=
  match s.engJobs.find? fun j => j.engine = some engine with
  | none => .next s
  | some j =>
    match j.kind, s.cmd? j.cmd with
    | .pack g n, some c =>
      if c.mute || c.st = .ended then .next (s.endJob engine j 5)
      else
        let bad (s : State) : State := (s.bump .CX_CNT_SELFCHECK).raise (cSrc (engineCluster engine) 10) (uEngines (engineCluster engine)) engine
        if c.op = 0x0C then
          let input := (s.cmdData c 0 c.bytes).getD []
          let s := s.bump .CX_CNT_PACK_BLOCKS
          let size := (mumelSize block + 15) / 16 * 16
          if !saves block c.bytes then
            .next (((s.bump .CX_CNT_NOSHRINK).endJob engine j 4).cutWrite c.id vNoShrink)
          else if !selfCheck block input then
            .next (((bad s).bump .CX_CNT_DECODE_ERR).endJob engine j 1 |>.cutWrite c.id vDecodeError)
          else if c.outLen < size then .next ((s.endJob engine j 3).cutWrite c.id vOverflow)
          else
            let out := block.take (mumelSize block)
            let s := (s.endJob engine j 0).sendDma c c.dest (out ++ List.replicate (size - out.length) 0)
            .next ((s.dropGrants c.id).finish c { vSuccess with crc := crc32c input, info := size / 16 })
        else
          match s.blockInput c g n with
          | none => .next (s.endJob engine j 5)
          | some input =>
            let orig := n * s.granBytes c
            let ok := saves block orig
            let good := ok && selfCheck block input
            let gs := (List.range n).map (g + ·)
            if good then
              let len := (mumelSize block + 4095) / 4096
              let data := chunks len (block.take (mumelSize block) ++ List.replicate (len * 4096 - mumelSize block) 0)
              match s.storeHost (c.kind gs) c.vol g true data c.fn (c.keyAt g) (c.waiter gs)
                  (fun p => (List.range n).map fun i => (g + i, mkEntry true false len i p)) with
              | none => .next s
              | some s =>
                let s := (s.setCmd (c.markDone gs (.packed [] 0))).dirtySub (orig - 4096 * len)
                .next (((s.bump .CX_CNT_PACK_BLOCKS).endJob engine j 0).ackWrite c.id)
            else if gs.any (fun x => (s.openBand (c.kind [x]) (s.gUnits c.vol)).isNone) then .next s
            else
              let s := s.bump .CX_CNT_PACK_BLOCKS
              let s := if ok then bad s else s.bump .CX_CNT_NOSHRINK
              let s := s.endJob engine j (if ok then 1 else 4)
              let s := forEach (List.range n) s fun i s =>
                s.storeGranule c.id (g + i) ((input.drop (i * s.granBytes c)).take (s.granBytes c))
              .next (s.ackWrite c.id)
    | _, _ => .next (s.endJob engine j 5)

/-! ### Dictionaries (R452 to R454) -/

/-- REASON of a LOAD or DROP (R454), up to the checks that come before the content is read. -/
def State.dictReason (s : State) (op node lba units : Nat) : Option Nat :=
  match s.node? node with
  | none => some 1
  | some n =>
    if n.deleting then some 1
    else if n.isStack || n.writable || (op ≠ 1 && op ≠ 2) then some 2
    else if op = 1 then
      if units = 0 ∨ 32 < units ∨ n.size < lba + units then some 3 else none
    else if s.dicts.any fun d => d.node = node then none else some 6

/-- CX_DICT_STS of an agent. -/
def State.dictSts (s : State) (a st reason : Nat) : State :=
  ((s.put .CX_DICT_STS_STATE st 0 a).put .CX_DICT_STS_REASON reason 0 a).putFlag .CX_DICT_CMD_GO (decide (st = 1)) 0 a

/-- A GO to CX_DICT_CMD (R453 to R455): a LOAD that passes its first checks is BUSY until its content has been read. -/
def State.submitDict (s : State) (ag : Agent) (op node units : Nat) : State :=
  s.guardWrite ag .ownerFeMp fun s =>
    let a := ag.ix
    if s.get .CX_DICT_STS_STATE 0 a = 1 then s.bump .UCB_CNT2 uChip
    else
      let s := ((s.put .CX_DICT_CMD_OP op 0 a).put .CX_DICT_CMD_NODE node 0 a).put .CX_DICT_CMD_UNITS units 0 a
      match s.dictReason op node (s.get .CX_DICT_LBA 0 a) units with
      | some r => s.dictSts a 3 r
      | none => if op = 1 then s.dictSts a 1 0 else (s.dropDict node).dictSts a 2 0

/-- DICT_LOAD: GO with OP LOAD; NODE and UNITS are those the agent's register holds. -/
def execDictLoad (ag : Agent) (node units : Nat) (s : State) : Host.Outcome State Fault Refusal :=
  .next (s.atUnit uChip fun s => s.submitDict ag 1 (node % 4096) (units % 64))

/-- DICT_DROP: GO with OP DROP. -/
def execDictDrop (ag : Agent) (node : Nat) (s : State) : Host.Outcome State Fault Refusal :=
  .next (s.atUnit uChip fun s => s.submitDict ag 2 (node % 4096) 0)

/-- A Zstandard dictionary in the format of RFC 8878 section 5 with a Dictionary_ID other than 0 and 0xFFFF_FFFF (R452); `valid` says that
its units could be read. -/
def dictOk (valid : Bool) (content : List Byte) : Bool :=
  valid && (zDict content).any fun d => decide (d.id ≠ 0) && decide (d.id ≠ 0xFFFFFFFF)

/-- DICT_LOAD_DONE (R452 to R454): the volume's own units have been read. -/
def execDictLoadDone (ag : Agent) (valid : Bool) (s : State) : Host.Outcome State Fault Refusal :=
  let a := ag.ix
  if s.get .CX_DICT_STS_STATE 0 a ≠ 1 then .next s
  else
    let node := s.get .CX_DICT_CMD_NODE 0 a
    let lba := s.get .CX_DICT_LBA 0 a
    let units := s.get .CX_DICT_CMD_UNITS 0 a
    match s.dictReason 1 node lba units with
    | some r => .next (s.dictSts a 3 r)
    | none =>
      let content := (List.range units).flatMap fun k => match s.supply (lba + k) [node] with
        | some (v, w) => s.readUnit v w (lba + k)
        | none => zeroUnit
      if !dictOk valid content then .next (s.dictSts a 3 4)
      else if s.dicts.all (fun d => d.node ≠ node) && decide (s.get .CX_CAP_DICT_MAX ≤ s.dicts.length) then .next (s.dictSts a 3 5)
      else
        let s := s.journal 0x18 node lba units
        let d : Dict := ⟨node, lba, units, fieldAt content 4 4, content⟩
        let s : State := { s with dicts := (s.dicts.filter fun x => x.node ≠ node) ++ [d] }
        .next (s.dictSts a 2 0)

end Sys2Proof.Machine
end

