-- ==== Sys2Proof/Machine/Queues.lean ====
section
/-! DEFINITION. Jexash queues (05): the push window and intake, the packets that are neither read nor write, heads, events, and a
queue's life. -/

namespace Sys2Proof.Machine

/-! ### The push window and intake (R180 to R189) -/

def slotByte (s : State) (q k : Nat) : Option Byte := Sparse.get (fun _ => none) s.slots (q * 16384 + k)

/-- Every byte of a packet slot has been written since its last intake (R181). -/
def State.slotReady (s : State) (q i : Nat) : Bool := (List.range 64).all fun k => (slotByte s q (64 * i + k)).isSome

/-- The bytes of a ready slot. -/
def State.slotBytes (s : State) (q i : Nat) : List Byte := (List.range 64).map fun k => (slotByte s q (64 * i + k)).getD 0

/-- Writes bytes into the packet slots of a queue. -/
def slotPut (q : Nat) : Nat → List Byte → List (Nat × Option Byte) → List (Nat × Option Byte)
  | _, [], l => l
  | k, b :: bs, l => slotPut q (k + 1) bs (Sparse.set Sparse.below (fun _ => none) l (q * 16384 + k) (some b))

/-- The enabled queue whose window holds a BAR4 offset, and the offset in it. -/
def State.windowQueue (s : State) (fn off : Nat) : Option (Nat × Nat) :=
  match s.slotQueue fn (off / 0x8000) with
  | some q => if s.get .JQ_QSTS_STATE q = jqEnabled then some (q, off % 0x8000) else none
  | none => none

/-- PUSH_WINDOW_WRITE (R103, R123, R180, R181, R183): bytes of packet slots; a write to a ready slot is OVERFLOW; one that falls outside
the slots of an enabled queue is discarded and counted. -/
def execPushWindowWrite (fn off : Nat) (data : List Byte) (poisoned : Bool) (s : State) : Host.Outcome State Fault Refusal :=
  if s.fnDark fn || data.isEmpty then .next s
  else if poisoned then .next (s.reportAer fn aerPoisoned)
  else
    match (if off < 0x200000 then s.windowQueue fn off else none) with
    | none => .next (s.undefinedBar fn)
    | some (q, o) =>
      if 64 * s.slotCount q < o + data.length then .next (s.undefinedBar fn)
      else
        let touched := (List.range ((o + data.length + 63) / 64 - o / 64)).map (o / 64 + ·)
        if touched.any (s.slotReady q) then .next (s.queueError q 2 0)
        else
          let s : State := { s with slots := slotPut q o data s.slots }
          -- a slot that becomes ready is a wake event (R501)
          .next (if touched.any (s.slotReady q) then s.wake uFront wakeCmd else s)

/-- A command just fetched or taken in. -/
def newCmd (id : Nat) (nvme : Bool) (fn q tag op tick : Nat) (raw : List Byte) : Cmd :=
  { id := id, nvme := nvme, fn := fn, q := q, tag := tag, op := op, raw := raw, cont := [], contLeft := 0, st := .taken, cls := 1,
    gold := false, downgraded := false, noticed := false, mute := false, revoked := false, rights := 0, node := 0, lba := 0, len := 0, skip := 0, bytes := 0,
    tick := tick, ph := 0, deadline := 0, parts := [], arrived := [], target := 0, got := [], waits := false, issued := 0, gnum := 0,
    res := none, covered := false, unc := [], alloc := 0, aux := [], dicts := [], fmt := {}, order := [], cut := none }

/-- Adds a command under the next number, with the rights its function has now on the node it names (R476, R482). -/
def State.addCmd (s : State) (c : Cmd) : State :=
  let node := if c.nvme then c.dw 1 - 1 else c.pNode
  let rights := if c.fn = 0 && s.flag .SEC_STS_OWNER then 15 else s.rightsOf c.fn node
  ({ s with cmds := s.cmds ++ [{ c with rights := rights, ph := s.get .TK_PHASE_PHASE }] } : State).put .X_CMDSEQ (s.get .X_CMDSEQ + 1)

/-- Intake of a queue is held (R185), the reply reservation aside. -/
def State.intakeHeld (s : State) (q : Nat) : Bool :=
  s.get .JQ_QSTS_STATE q ≠ jqEnabled || s.flag .JQ_STS_FROZEN || decide (65536 ≤ s.outstanding) || s.flag .X_FE_PAUSE || !s.powered
    || s.fnDark (s.get .JQ_QCFG_FN q) || s.flag .X_FN_D3 (s.get .JQ_QCFG_FN q) || s.pairHalted (s.get .JQ_QCFG_FN q)

/-- A reply-ring entry may be reserved (R186). -/
def State.replyRoom (s : State) (q : Nat) : Bool :=
  decide (s.get .X_JQ_RPOST q - s.get .X_JQ_RHEAD q + s.get .X_JQ_RESV q < s.rplEntries q)

/-- The head slot of a queue. -/
def State.headSlot (s : State) (q : Nat) : Nat := s.get .X_JQ_S q % s.slotCount q

/-- A packet leaves its slot: S advances, and the head mirror is written when it is due (R182, R187). Whether a mirror written because the
head slot is not ready begins the HEAD_EVERY interval anew R187 does not say; in the model it does (DESIGN CHOICE, log entry 74). -/
def State.takeSlot (s : State) (q : Nat) : State :=
  let i := s.headSlot q
  let s : State := { s with slots := s.slots.filter fun x =>
    !(decide (q * 16384 + 64 * i ≤ x.1) && decide (x.1 < q * 16384 + 64 * i + 64)) }
  let n := s.get .X_JQ_S q + 1
  let s := (s.put .X_JQ_S n q).put .JQ_QSEQ_SEQ (n % 65536) q
  let k := s.get .X_JQ_MCNT q + 1
  if s.get .JQ_QRING_HEAD_EVERY q ≤ k || !s.slotReady q (s.headSlot q) then
    (s.put .X_JQ_MCNT 0 q).sendFn (s.get .JQ_QCFG_FN q) q (s.jqStrict q) (s.get .JQ_QMIRROR q) 8 (.mirror q (n % 2 ^ 32))
  else s.put .X_JQ_MCNT k q

/-- A tag is in use in a queue (R189). -/
def State.tagUsed (s : State) (q tag : Nat) : Bool :=
  s.cmds.any (fun c => !c.nvme && c.q = q && c.tag = tag) || s.tags.contains (q, tag)

/-- The opcodes of R195. -/
def opcodeKnown (op : Nat) : Bool := decide (1 ≤ op) && decide (op ≤ 12)

/-- A continuation packet of a GATHER (R198, R199). -/
def State.takeCont (s : State) (q : Nat) (c : Cmd) (p : List Byte) : State :=
  if fieldAt p 0 1 ≠ 0x8B ∨ fieldAt p 2 2 ≠ c.tag then s.queueError q 4 c.tag
  else
    let bad := fieldAt p 1 1 ≠ 0 || fieldAt p 6 10 ≠ 0
    let c := { c with cont := c.cont ++ p.drop 16, contLeft := c.contLeft - 1, aux := if bad then [1] else c.aux }
    let s := (s.setCmd c).takeSlot q
    if c.contLeft = 0 && c.revoked then s.endMuted c else s

/-- The compressor has consumed data of a WRITE_PACK at or past a unit (R203). -/
def State.consumed (s : State) (c : Cmd) (cut : Nat) : Bool :=
  let k := s.gUnits c.vol
  c.parts.any (fun p => p.done && decide (cut < (p.pos + 1) * k)) || s.engJobs.any fun j => j.cmd = c.id && (match j.kind with
    | .pack g n => decide (cut < (g + n) * k)
    | _ => false)

/-- A FLUSH_BLOCK is taken in too late for its cut (R203): this is judged at its intake. -/
def State.cutLate (s : State) (c : Cmd) : Bool :=
  c.op = 0x05 && s.cmds.any fun t => !t.nvme && t.q = c.q && t.tag = c.param && !t.revoked && t.op = 0x04 && s.consumed t c.pLba

/-- The head packet of a queue may be taken in: it is ready, intake is not held, and a reply-ring entry is free for it, which a continuation
packet does not need (R182, R185, R186). -/
def State.intakeReady (s : State) (q : Nat) : Bool :=
  !s.intakeHeld q && s.slotReady q (s.headSlot q)
    && (s.replyRoom q || s.cmds.any fun c => !c.nvme && c.q = q && decide (0 < c.contLeft))

/-- The queues that are ENABLED, in order of their numbers. -/
def State.enabledQueues (s : State) : List Nat := (s.regs.filter fun x => x.1.f = .JQ_QSTS_STATE && x.2 = jqEnabled).map fun x => x.1.i

/-- The front core pair that serves a queue (R89). -/
def State.queuePair (s : State) (q : Nat) : Nat := s.frontPair (s.get .JQ_QCFG_FN q)

/-- It is a queue's turn on its front core pair (R184): queues with GOLD_OK go first, and within each group they take turns. -/
def State.intakeTurn (s : State) (q : Nat) : Bool :=
  let gold (x : Nat) : Bool := s.flag .JQ_QCFG_GOLD_OK x
  let l := s.enabledQueues.filter fun x => s.queuePair x = s.queuePair q && s.intakeReady x && (gold x || !gold q)
  let mine := l.filter fun x => gold x = gold q
  let last := s.get .X_JQ_RR (2 * s.queuePair q + if gold q then 1 else 0)
  (gold q || !l.any gold) && (match mine.find? fun x => decide (last < x) with
    | some x => x = q
    | none => mine.head? = some q)

/-- Takes in the head packet of a queue (R182 to R189, R194, R195, R199, R239). The continuation packets of a GATHER that is discarded for tag
reuse are no part of a command: R189 says nothing of them, and the model takes each in as a packet of its own (DESIGN CHOICE, log entry 74). -/
def State.takeIn (s : State) (q : Nat) : State :=
  let i := s.headSlot q
  let p := s.slotBytes q i
  let tag := fieldAt p 2 2
  let s := s.put .X_JQ_RR q (2 * s.queuePair q + if s.flag .JQ_QCFG_GOLD_OK q then 1 else 0)
  if fieldAt p 4 2 ≠ s.get .X_JQ_S q % 65536 then s.queueError q 1 tag
  else
    match s.cmds.find? fun c => !c.nvme && c.q = q && decide (0 < c.contLeft) with
    | some c => s.takeCont q c p
    | none =>
      if s.tagUsed q tag then
        (((s.takeSlot q).put .JQ_QSTS_ERR 3 q).postEvent (s.get .JQ_QCFG_FN q) 2 (s.get .JQ_QCFG_SLOT q) tag 3).bump .JQ_CNT_QERR
      else
        let op := fieldAt p 0 1
        let c := newCmd (s.get .X_CMDSEQ) false (s.get .JQ_QCFG_FN q) q tag op s.tick p
        let c := { c with contLeft := if op = 0x0B then fieldAt p 7 1 else 0,
                          deadline := if c.asksGold then absTick c.tick c.pDeadline else 0,
                          aux := if s.cutLate c then [1] else [] }
        let s := (((s.addCmd c).takeSlot q).putFlag .X_IDLE false).wake uFront wakeCmd
        let s := s.putOutstanding q (s.get .X_JQ_RESV q + 1)
        if opcodeKnown op then s
        else s.finish c (if s.flag .JQ_STS_SANITIZING then vSanitizing else vInvalidOpcode)

/-- PACKET_INTAKE (R184, R185): of the queue whose turn it is. -/
def execPacketIntake (q : Nat) (s : State) : Host.Outcome State Fault Refusal :=
  if s.intakeReady q && s.intakeTurn q then .next (s.takeIn q) else .next s

/-- Takes in every packet of a function that may be (R188), at most `n` of them. -/
def State.takeAll (s : State) (fn : Nat) : Nat → State
  | 0 => s
  | n + 1 => match s.enabledQueues.find? fun q => s.get .JQ_QCFG_FN q = fn && s.intakeReady q with
    | some q => (s.takeIn q).takeAll fn n
    | none => s

/-- DATA_WINDOW_WRITE (R123, R188, R225): packets of the function that came before it and may be taken in are taken in first; bytes inside
open grants are kept, all others, and a poisoned write, are discarded. -/
def execDataWindowWrite (fn off : Nat) (data : List Byte) (poisoned : Bool) (s : State) : Host.Outcome State Fault Refusal :=
  if s.fnDark fn || decide (off < 0x400000) then .next s
  else if poisoned then .next (s.reportAer fn aerPoisoned)
  else
    let s := s.takeAll fn s.slots.length
    let s : State := { s with dataWin := winPut s.grants fn off data s.dataWin }
    .next (forEach (s.grants.filter fun g => g.fn = fn && !g.closed) s fun g s => s.completeGrant g)

/-! ### FLUSH_BLOCK, PIN, UNPIN, ABORT, FENCE, TIME -/

/-- Fields an opcode does not use are 0; `lba`, `param` and `dest` say which of these it uses. -/
def Cmd.plainOk (c : Cmd) (lba param dest : Bool) : Bool :=
  c.packetOk && c.codec = 0 && c.pLen = 0 && c.outLen = 0 && c.pNode = 0 && c.pGen = 0 && (lba || c.pLba = 0) && (param || c.param = 0)
    && (dest || c.dest = 0)

/-- A command of a queue outstanding under a tag. -/
def State.tagged (s : State) (q tag : Nat) : Option Cmd := s.cmds.find? fun c => !c.nvme && c.q = q && c.tag = tag && !c.revoked

/-- FLUSH_BLOCK (R203). -/
def execFlushBlock (cmd : Nat) (s : State) : Host.Outcome State Fault Refusal :=
  match s.packet cmd 0x05 with
  | none => .next s
  | some c =>
    if s.flag .JQ_STS_SANITIZING then .next (s.finish c vSanitizing)
    else if !c.plainOk true true false || decide (65536 ≤ c.param) then .next (s.finish c vInvalidField)
    else match s.tagged c.q c.param with
      | none => .next (s.finish c vUnknownTag)
      | some t =>
        if t.op ≠ 0x04 || !(decide (t.pLba < c.pLba) && decide (c.pLba < t.pLba + t.pLen)) || decide (16 ≤ t.aux.length) then
          .next (s.finish c vInvalidField)
        else if !c.aux.isEmpty then .next (s.finish c vTooLate)
        else .next ((s.setCmd { t with aux := t.aux ++ [c.pLba] }).finish c vSuccess)

/-- Pins a function holds (R205): those with an ID, and those whose reply only waits to be posted. -/
def State.pinCount (s : State) (fn : Nat) : Nat :=
  (s.pins.filter fun p => p.fn = fn && (p.id ≠ 0 || s.cmds.any fun c => c.id = p.cmd && c.res.isSome)).length

/-- Starts the preload of a PIN (R205, R288 to R290): every line is locked, or none. -/
def State.startPin (s : State) (c : Cmd) : State :=
  let lines := s.pinLines c.node c.lba c.len
  if !s.cacheOn || decide (256 ≤ s.pinCount c.fn) then s.finish c vPinLimit
  else match s.lockLines lines with
    | none => s.finish c vPinLimit
    | some s =>
      let s : State := { s with pins := s.pins ++ [⟨c.fn, 0, c.id, c.node, lines⟩] }
      s.setCmd { c with st := .planned, aux := [1] }

/-- PIN (R205, R206). -/
def execPin (cmd : Nat) (s : State) : Host.Outcome State Fault Refusal :=
  match s.packet cmd 0x06 with
  | none => .next s
  | some c =>
    if s.flag .JQ_STS_SANITIZING then .next (s.finish c vSanitizing)
    else if !c.packetOk || c.codec ≠ 0 || c.pLen = 0 || c.outLen ≠ 0 || c.dest ≠ 0 || c.param ≠ 0 then .next (s.finish c vInvalidField)
    else match s.rangeVerdict c c.pNode c.pLba c.pLen rightPin with
      | some r => .next (s.finish c r)
      | none =>
        let c := { c with node := c.pNode, lba := c.pLba, len := c.pLen, cls := if c.ctl % 4 = 2 then 2 else 1, st := .admitted }
        if bit c.ctl 4 then
          let t := (absTick c.tick c.pDeadline).toNat
          if s.armOk t then .next ((s.setCmd c).arm t (.pin cmd)) else .next (s.finish c vTickPast)
        else .next ((s.setCmd c).startPin c)

/-- Every line of a pin is resident and locked (R290). -/
def State.pinLoaded (s : State) (p : Pin) : Bool := p.lines.all fun x => (s.line? x.1 x.2).any fun y => y.st = .clean || y.st = .dirty

/-- PIN_PRELOAD_COMPLETE (R205, R290): every line is resident and locked; the reply carries the pin ID. A function that holds 256 pins by
now gets no further one, and the lines are released. -/
def execPinPreloadComplete (cmd : Nat) (s : State) : Host.Outcome State Fault Refusal :=
  match s.cmd? cmd, s.pins.find? fun p => p.cmd = cmd && p.id = 0 with
  | some c, some p =>
    if s.pinLoaded p then
      if c.res.isSome || c.st ≠ .planned then .next s
      else if c.mute && !c.revoked then .next ((s.releasePin p).endMuted c)
      else if 256 ≤ s.pinCount c.fn then .next ((s.releasePin p).finish c vPinLimit)
      else .next (s.finish c vSuccess)
    else .next s
  | _, _ => .next s

/-- UNPIN (R207). -/
def execUnpin (cmd : Nat) (s : State) : Host.Outcome State Fault Refusal :=
  match s.packet cmd 0x07 with
  | none => .next s
  | some c =>
    if s.flag .JQ_STS_SANITIZING then .next (s.finish c vSanitizing)
    else if !c.plainOk false true false || decide (32768 ≤ c.param) then .next (s.finish c vInvalidField)
    else match s.pins.find? fun p => p.fn = c.fn && p.id = c.param && p.id ≠ 0 with
      | some p =>
        -- the reply waits for the lines whose refill still keeps them locked (R291)
        let c := { c with st := .admitted, aux := p.lines.map fun x => x.1 + 4096 * x.2 }
        .next (((s.releasePin p).setCmd c).endUnpins)
      | none => .next (s.finish c vInvalidField)

/-- A FENCE has nothing left to wait for (R232). -/
def State.fenceDone (s : State) (c : Cmd) : Bool :=
  !s.cmds.any fun x => !x.nvme && decide (x.id < c.id) && (if bit c.param 0 then x.fn = c.fn else x.q = c.q)

/-- An ABORT catches a command in its present state (R228). -/
def State.catches (s : State) (t : Cmd) : Bool :=
  if t.isRead then t.st = .admitted
  else if t.isWrite then t.st = .taken || (t.st = .admitted && !(s.writeGranules t).any (s.granReceived t))
  else if t.op = 0x0C then t.st = .taken || (t.st = .admitted && !(List.range t.bytes).any fun k => (s.cmdByte t k).isSome)
  else if t.op = 0x06 then (t.st = .taken || t.st = .admitted) && t.aux.isEmpty
  else t.op = 0x09 && !s.fenceDone t

/-- Reads given to the planner that nothing waits for any more are taken out of it. -/
def State.dropIdleReads (s : State) : State :=
  let stays (e : PEntry) : Bool := !(e.op = opRead && decide (2 ^ 33 ≤ e.desc) && decide (e.desc < 2 ^ 60)
    && (List.range ((e.desc - 2 ^ 33) % 8)).all fun k => !s.wanted ((e.desc - 2 ^ 33) / 128 + k))
  { s with plans := s.plans.map fun p => { p with back := p.back.filter stays, late := p.late.filter stays } }

/-- What a PIN has locked so far is released where it ends without a pin (R205). -/
def State.releaseLoading (s : State) (id : Nat) : State :=
  forEach (s.pins.filter fun p => p.cmd = id && p.id = 0) s fun p s => s.releasePin p

/-- Removes a command that is caught, revoked or cut, with what it holds, and answers it. -/
def State.withdraw (s : State) (t : Cmd) (r : Result) : State :=
  let s : State := { s with armed := s.armed.filter fun a => a.act ≠ .pin t.id }
  let s := if t.isWrite && t.st ≠ .taken then s.releaseAlloc t else s
  let s := s.releaseLoading t.id
  ((s.dropGrants t.id).finish t r).dropIdleReads

/-- ABORT (R228 to R230): caught, the target's reply comes first. -/
def execAbort (cmd : Nat) (s : State) : Host.Outcome State Fault Refusal :=
  match s.packet cmd 0x08 with
  | none => .next s
  | some c =>
    if s.flag .JQ_STS_SANITIZING then .next (s.finish c vSanitizing)
    else if !c.plainOk false true false || decide (65536 ≤ c.param) then .next (s.finish c vInvalidField)
    else match s.tagged c.q c.param with
      | none => .next (s.finish c vUnknownTag)
      | some t =>
        if t.res.isNone && s.catches t then
          .next (((s.withdraw t vAborted).bump .JQ_CNT_CAUGHT).finish c { vSuccess with caught := true })
        else .next ((s.bump .JQ_CNT_MISSED).finish c { vSuccess with missed := true })

/-- Ends a FENCE that waits for nothing any more. -/
def State.tryFence (s : State) (c : Cmd) : State := if s.fenceDone c then s.finish c vSuccess else s

/-- FENCE (R232). -/
def execFence (cmd : Nat) (s : State) : Host.Outcome State Fault Refusal :=
  match s.packet cmd 0x09 with
  | none => .next s
  | some c =>
    if s.flag .JQ_STS_SANITIZING then .next (s.finish c vSanitizing)
    else if !c.plainOk false true false || decide (2 ≤ c.param) then .next (s.finish c vInvalidField)
    else
      let c := { c with st := .admitted }
      .next ((s.setCmd c).tryFence c)

/-- FENCE_COMPLETE (R232). -/
def execFenceComplete (cmd : Nat) (s : State) : Host.Outcome State Fault Refusal :=
  match s.cmd? cmd with
  | some c => .next (if !c.nvme && c.op = 0x09 && c.st = .admitted then s.tryFence c else s)
  | none => .next s

/-- TIME (R208): a snapshot as TK_SNAP takes it, in 32 bytes at DEST. -/
def execTime (cmd : Nat) (s : State) : Host.Outcome State Fault Refusal :=
  match s.packet cmd 0x0A with
  | none => .next s
  | some c =>
    if s.flag .JQ_STS_SANITIZING then .next (s.finish c vSanitizing)
    else if !c.plainOk false false true || c.dest % 8 ≠ 0 then .next (s.finish c vInvalidField)
    else
      let data := natLe 8 s.tick ++ natLe 8 s.calStamp ++ natLe 4 (s.get .TK_PHASE_PHASE) ++ natLe 4 (s.get .TK_PERIOD_PERIOD) ++ natLe 8 0
      -- on strict traffic it waits, so that the reply's CTICK is the count written
      if s.cmdStrict c && (s.xlatMiss c.fn (some c.dest) 32 || !s.laneTurn false c.fn c.q c.id || !s.holds.isEmpty) then
        .next (s.askXlat c.fn (some c.dest) 32)
      else .next ((s.sendDma c c.dest data).finish c vSuccess)

/-! ### Heads (R234, R238) -/

/-- How far a head written modulo 2^32 moves. -/
def headDelta (head value : Nat) : Nat := (value + 2 ^ 32 - head % 2 ^ 32) % 2 ^ 32

/-- Frees the oldest tags of a queue whose replies have been consumed (R189). -/
def dropTags (q : Nat) : Nat → List (Nat × Nat) → List (Nat × Nat)
  | _, [] => []
  | 0, l => l
  | n + 1, x :: l => if x.1 = q then dropTags q n l else x :: dropTags q (n + 1) l

/-- REPLY_HEAD_WRITE (R189, R238). -/
def execReplyHeadWrite (q value : Nat) (s : State) : Host.Outcome State Fault Refusal :=
  if s.get .JQ_QSTS_STATE q ≠ jqEnabled then .next (s.undefinedBar (s.get .JQ_QCFG_FN q))
  else
    let d := headDelta (s.get .X_JQ_RHEAD q) value
    if s.get .X_JQ_RPOST q - s.get .X_JQ_RHEAD q < d then .next (s.queueError q 6 0)
    else .next (({ s with tags := dropTags q d s.tags } : State).put .X_JQ_RHEAD (s.get .X_JQ_RHEAD q + d) q)

/-- XR_HEAD_WRITE (R224, R238). -/
def execXrHeadWrite (q value : Nat) (s : State) : Host.Outcome State Fault Refusal :=
  if s.get .JQ_QSTS_STATE q ≠ jqEnabled then .next (s.undefinedBar (s.get .JQ_QCFG_FN q))
  else
    let d := headDelta (s.get .X_JQ_XHEAD q) value
    if s.get .X_JQ_XPOST q - s.get .X_JQ_XHEAD q < d then .next (s.queueError q 6 0)
    else .next (s.put .X_JQ_XHEAD (s.get .X_JQ_XHEAD q + d) q)

/-- EVENT_HEAD_WRITE (R234): a value outside the range is ignored and sets EVT_HEAD_ERR. -/
def execEventHeadWrite (fn value : Nat) (s : State) : Host.Outcome State Fault Refusal :=
  if s.fnDark fn then .next s
  else
    let d := headDelta (s.get .X_EV_HEAD fn) value
    if s.get .X_EV_POST fn - s.get .X_EV_HEAD fn < d then .next (s.putFlag .JQ_FSTS_EVT_HEAD_ERR true fn)
    else .next (s.put .X_EV_HEAD (s.get .X_EV_HEAD fn + d) fn)

/-! ### Events with a row of their own -/

/-- LATE_NOTICE (R222). -/
def execLateNotice (cmd : Nat) (s : State) : Host.Outcome State Fault Refusal :=
  match s.cmd? cmd with
  | none => .next s
  | some c =>
    if !c.nvme && bit c.ctl 2 && c.hasDeadline && !c.noticed && !c.mute && decide (c.deadline < s.tick) then
      .next ((s.setCmd { c with noticed := true }).postEvent c.fn 1 (s.get .JQ_QCFG_SLOT c.q) c.tag 0)
    else .next s

/-- RESERVE_CHANGED (R220): the event of a JQ_FGOLD write that has taken effect at a boundary. -/
def execReserveChanged (fn : Nat) (s : State) : Host.Outcome State Fault Refusal :=
  if 2 ≤ s.get .X_RES_PEND fn then
    .next ((s.put .X_RES_PEND (s.get .X_RES_PEND fn - 2) fn).postEvent fn 4 0 0 (s.get .X_RES_EFF fn))
  else .next s

/-! ### A queue's life (R235 to R237, R240, R242) -/

/-- The first check of R235 that fails, as its ERR code. -/
def State.enableFault (s : State) (q : Nat) : Option Nat :=
  let fn := s.get .JQ_QCFG_FN q
  let base (v : Nat) : Bool := v ≠ 0 && v % 4096 = 0
  if !s.fnExists fn || !s.flag .X_FN_BME fn || s.flag .X_FN_DISABLING fn then some 8
  else if (s.slotQueue fn (s.get .JQ_QCFG_SLOT q)).isSome then some 9
  else if !base (s.get .JQ_QRPL_BASE q) || (s.flag .JQ_QCFG_XR_EN q && !base (s.get .JQ_QXR_BASE q)) || s.get .JQ_QMIRROR q = 0
      || s.get .JQ_QMIRROR q % 8 ≠ 0 then some 0xA
  else if 4 < s.get .JQ_QCFG_ENTRIES q ∨ 12 < s.get .JQ_QRING_RPL_LOG q ∨ 8 < s.get .JQ_QRING_XR_LOG q
      ∨ s.get .JQ_QRING_HEAD_EVERY q = 0 ∨ s.get .JQ_QRING_XR_MAX q = 0 ∨ 16 < s.get .JQ_QRING_XR_MAX q
      ∨ s.get .JQ_QRING_MAX_OPEN q = 0 ∨ 64 < s.get .JQ_QRING_MAX_OPEN q then some 0xB
  else none

/-- Start values of a queue: S, the rings and their heads, its slots and tags. -/
def State.clearQueue (s : State) (q : Nat) : State :=
  let s : State := { s with slots := s.slots.filter (fun x => x.1 / 16384 ≠ q), tags := s.tags.filter (fun x => x.1 ≠ q) }
  let fs : List Field := [.X_JQ_S, .X_JQ_RPOST, .X_JQ_RHEAD, .X_JQ_RESV, .X_JQ_XPOST, .X_JQ_XHEAD, .X_JQ_IRQN, .X_JQ_MCNT, .JQ_QSEQ_SEQ,
    .JQ_QSTS_OUTSTANDING]
  forEach fs s fun f s => s.put f 0 q

/-- A write of ENABLE to JQ_QCMD. -/
def State.enableQueue (s : State) (ag : Agent) (q : Nat) : State :=
  s.guardWrite ag .ownerFeMp fun s =>
    if s.get .JQ_QSTS_STATE q ≠ jqDisabled then s
    else match s.enableFault q with
      | some e => s.put .JQ_QSTS_ERR e q
      | none => ((s.clearQueue q).put .JQ_QSTS_STATE jqEnabled q).put .JQ_QSTS_ERR 0 q

/-- QUEUE_ENABLE (R235). -/
def execQueueEnable (ag : Agent) (q : Nat) (s : State) : Host.Outcome State Fault Refusal :=
  .next (s.atUnit uFront fun s => (s.enableQueue ag (q % 1024)).noteDemand s)

/-- A write of DISABLE to JQ_QCMD. -/
def State.disableQueue (s : State) (ag : Agent) (q : Nat) : State :=
  s.guardWrite ag .ownerFeMp fun s =>
    let st := s.get .JQ_QSTS_STATE q
    if st = jqEnabled || st = jqError then s.disablePoint (.queue q) else s

/-- QUEUE_DISABLE (R237): the disable point is the moment the write is accepted. -/
def execQueueDisable (ag : Agent) (q : Nat) (s : State) : Host.Outcome State Fault Refusal :=
  .next (s.atUnit uFront fun s => (s.disableQueue ag (q % 1024)).noteDemand s)

/-- The sum of all Gold reserves. -/
def State.reserveSum (s : State) : Nat :=
  ((s.regs.filter fun x => x.1.f = .JQ_FGOLD_RES_SLOTS).map Prod.snd).foldl (· + ·) 0

/-- A write of JQ_FGOLD (R218, R220). CAP is never above 6,144, so more slots than that are refused like any others. -/
def State.writeFgold (s : State) (ag : Agent) (fn slots : Nat) : State :=
  s.guardWrite ag .ownerFeMp fun s =>
    if 264 ≤ fn then s
    else
      let old := s.get .JQ_FGOLD_RES_SLOTS fn
      let sum := s.reserveSum - old + slots
      if 6144 < slots ∨ (s.reserveSum < sum ∧ s.get .JQ_GOLD_CAP < sum) then s.putFlag .JQ_FSTS_RES_REFUSED true fn
      else ((s.put .JQ_FGOLD_RES_SLOTS slots fn).put .JQ_GOLD_SUM sum).put .X_RES_PEND (s.get .X_RES_PEND fn / 2 * 2 + 1) fn

/-- JQ_FGOLD_WRITE (R218, R220). -/
def execJqFgoldWrite (ag : Agent) (fn slots : Nat) (s : State) : Host.Outcome State Fault Refusal :=
  .next (s.atUnit uFront fun s => s.writeFgold ag fn slots)

/-- A write of JQ_FEVT_CFG (05): EVT_LOG above 8 leaves it unchanged and is ignored while EVT_EN is 1; setting EVT_EN starts the ring. -/
def State.writeFevtCfg (s : State) (ag : Agent) (fn v : Nat) : State :=
  s.guardWrite ag .ownerFeMp fun s =>
    if 8 < bits v 3 0 ∨ 264 ≤ fn then s
    else
      let was := s.flag .JQ_FEVT_CFG_EVT_EN fn
      let s := if was then s else s.put .JQ_FEVT_CFG_EVT_LOG (bits v 3 0) fn
      let s := ((s.putFlag .JQ_FEVT_CFG_EVT_EN (bit v 31) fn).putFlag .JQ_FEVT_CFG_IRQ_EN (bit v 30) fn).put .JQ_FEVT_CFG_VECTOR
        (bits v 26 16) fn
      if !was && bit v 31 then (s.put .X_EV_POST 0 fn).put .X_EV_HEAD 0 fn else s

/-- EVENT_RING_ENABLE: EVT_EN is set with the other fields of `value`. -/
def execEventRingEnable (ag : Agent) (fn value : Nat) (s : State) : Host.Outcome State Fault Refusal :=
  .next (s.atUnit uFront fun s => s.writeFevtCfg ag fn (value % 2 ^ 31 + 2 ^ 31))

end Sys2Proof.Machine
end

