-- ==== Sys2Proof/Machine/Nvme.lean ====
section
/-! DEFINITION. NVMe controllers (04): enabling, doorbells, fetch, shutdown, queues, Abort, Asynchronous Event Request, and
the features. Fields and codes that the chapter leaves to NVMe Base 2.1 are that standard's (log entry 20). -/

namespace Sys2Proof.Machine

/-! ### Helpers -/

/-- A fetched command of an opcode that may be looked at now (R497). -/
def State.nvmeCmd (s : State) (id : Nat) (admin : Bool) (op : Nat) : Option Cmd :=
  match s.cmd? id with
  | some c => if c.nvme && (decide (c.q = 0) = admin) && c.op = op && c.st = .taken && c.res.isNone && !c.waits && !c.mute && s.admitting
      then some c else none
  | none => none

/-- Runs a meaning on a fetched admin command of an opcode. -/
def State.onAdmin (s : State) (id op : Nat) (f : Cmd → State) : State :=
  match s.nvmeCmd id true op with
  | some c => f c
  | none => s

/-- Runs a meaning on a fetched I/O command of an opcode. -/
def State.onIo (s : State) (id op : Nat) (f : Cmd → State) : State :=
  match s.nvmeCmd id false op with
  | some c => f c
  | none => s

def vPrpOffset : Result := { sct := 0, sc := 0x13, dnr := true }
def vInternal : Result := { sct := 0, sc := 0x06, dnr := false }
def vSanitizeFailed : Result := { sct := 0, sc := 0x1C, dnr := false }
def vInvalidNs : Result := { sct := 0, sc := 0x0B, dnr := true }
def vBusy : Result := { sct := 0, sc := 0x82, dnr := false }

/-- Data of a command's data pointer to the host. -/
def State.sendData (s : State) (c : Cmd) (off : Nat) (data : List Byte) : State :=
  if c.mute || data.isEmpty then s else s.sendPtr c off data

/-- A command that keeps the block from being idle (R487, R495): every one but Asynchronous Event Requests, and a Set Features Power
Management that waits for the entry it has started (R160). -/
def Cmd.keepsBusy (c : Cmd) : Bool :=
  !(c.nvme && c.q = 0 && ((c.op = 0x0C && c.st = .admitted) || (c.op = 0x09 && c.dw 10 % 256 = 0x02)))

def State.anyBusy (s : State) : Bool := s.cmds.any Cmd.keepsBusy

/-- A Sanitize is in progress (R151). -/
def State.sanitizing (s : State) : Bool := s.get .X_SAN_ST = 2

/-- What an admin command that the standard does not allow during a Sanitize, or an I/O command, ends with (R151, R154). -/
def State.sanVerdict (s : State) : Option Result :=
  if s.sanitizing then some vSanitizing else if s.flag .X_SAN_FM then some vSanitizeFailed else none

/-- A function has the namespace-management family, or the sanitize/format family (R136). -/
def State.hasNsFam (s : State) (fn : Nat) : Bool := bit (s.get .X_NSFAM fn) 0
def State.hasSanFam (s : State) (fn : Nat) : Bool := bit (s.get .X_NSFAM fn) 1

/-- Firmware commands are PF0's while it holds the Owner role (R163). -/
def State.hasFw (s : State) (fn : Nat) : Bool := fn = 0 && s.flag .SEC_STS_OWNER

/-! ### Doorbells and fetch (R103, R112, R130, R159, R497) -/

/-- A controller takes doorbells and fetches. -/
def State.ctrlUp (s : State) (fn : Nat) : Bool :=
  s.flag .X_CSTS_RDY fn && !s.flag .X_CTRL_DISABLING fn && !s.fnDark fn && !s.flag .X_CSTS_CFS fn

/-- An Error asynchronous event of NVMe Base: 0 an invalid doorbell register, 1 an invalid value. -/
def State.doorbellError (s : State) (fn info : Nat) : State := s.asyncEvent fn 0 info 0x01

/-- SQ_TAIL_DOORBELL (R103, R501): the tail moves; a queue made non-empty is a wake event. -/
def execSqTailDoorbell (fn sqid tail : Nat) (s : State) : Host.Outcome State Fault Refusal :=
  if !s.ctrlUp fn then .next s
  else match s.sq? fn sqid with
    | none => .next (s.doorbellError fn 0)
    | some q =>
      if q.size ≤ tail then .next (s.doorbellError fn 1)
      else
        let s := s.setSq { q with tail := tail }
        .next (if tail = q.head then s else s.wake uFront wakeCmd)

/-- A head value frees entries up to the tail, and no further. -/
def ComplQ.headOk (q : ComplQ) (head : Nat) : Bool :=
  decide (head < q.size) && decide ((head + q.size - q.head) % q.size ≤ (q.tail + q.size - q.head) % q.size)

/-- CQ_HEAD_DOORBELL (R103): freed entries take the completion entries that waited for room. -/
def execCqHeadDoorbell (fn cqid head : Nat) (s : State) : Host.Outcome State Fault Refusal :=
  if !s.ctrlUp fn then .next s
  else match s.cq? fn cqid with
    | none => .next (s.doorbellError fn 0)
    | some q =>
      if q.headOk head then .next ((s.setCq { q with head := head }).drainCq fn cqid) else .next (s.doorbellError fn 1)

/-- The admin opcodes of R135, and the I/O opcodes of R138. -/
def adminOps : List Nat := [0x00, 0x01, 0x02, 0x04, 0x05, 0x06, 0x08, 0x09, 0x0A, 0x0C, 0x0D, 0x10, 0x11, 0x15, 0x80, 0x84]
def ioOps : List Nat := [0x00, 0x01, 0x02, 0x08, 0x09, 0x0C]

/-- The features that Set Features takes (R165). -/
def setFids : List Nat := [0x01, 0x02, 0x04, 0x05, 0x07, 0x08, 0x09, 0x0B, 0x0E, 0xC1]

def vSglType : Result := { sct := 0, sc := 0x11, dnr := true }
def vSglSegment : Result := { sct := 0, sc := 0x0D, dnr := true }
def vSglGranularity : Result := { sct := 0, sc := 0x1E, dnr := true }

/-- I/O opcodes that move data or a list of ranges. -/
def Cmd.movesData (c : Cmd) : Bool := c.op = 0x01 || c.op = 0x02 || c.op = 0x09

/-- What is wrong with the data pointer of a command (R138): fused operation and PSDT values the J96 does not support, an SGL descriptor
that is not a Data Block, Segment or Last Segment of the address subtype, and addresses and lengths that are not dword aligned. Admin
commands take PRPs alone. The status codes are those of NVMe Base (log entry 20). -/
def Cmd.ptrVerdict (c : Cmd) : Option Result :=
  let flags := fieldAt c.raw 1 1
  let t := fieldAt c.raw 39 1
  let addr := fieldAt c.raw 24 8
  let len := fieldAt c.raw 32 4
  if flags % 4 ≠ 0 then some vInvalidField
  else if flags / 64 ≠ 0 && (c.q = 0 || flags / 64 ≠ 1) then some vInvalidField
  else if c.q = 0 || !c.movesData then none
  else if flags / 64 = 0 then (if addr % 4 ≠ 0 then some vPrpOffset else none)
  else if t ≠ 0x00 && t ≠ 0x20 && t ≠ 0x30 then some vSglType
  else if t ≠ 0 && (len = 0 || len % 16 ≠ 0) then some vSglSegment
  else if addr % 4 ≠ 0 || len % 4 ≠ 0 then some vSglGranularity
  else none

/-- What ends a command at fetch (R135, R136, R138, R163, R165): an opcode that is not implemented or not the function's, or a selector
inside an opcode that names nothing the J96 has. -/
def State.fetchVerdict (s : State) (c : Cmd) : Option Result :=
  if c.q ≠ 0 then
    if ioOps.contains c.op then (if s.sanitizing then none else c.ptrVerdict) else some (if s.sanitizing then vSanitizing else vInvalidOpcode)
  else if !adminOps.contains c.op then some vInvalidOpcode
  else if ((c.op = 0x0D || c.op = 0x15) && !s.hasNsFam c.fn) || ((c.op = 0x80 || c.op = 0x84) && !s.hasSanFam c.fn)
      || ((c.op = 0x10 || c.op = 0x11) && !s.hasFw c.fn) then some vInvalidOpcode
  else if (c.op = 0x09 && !setFids.contains (c.dw 10 % 256)) || (c.op = 0x0D && decide (1 < c.dw 10 % 16))
      || (c.op = 0x10 && (decide (5 < bits (c.dw 10) 5 3) || bits (c.dw 10) 5 3 = 4))
      || (c.op = 0x84 && (c.dw 10 % 8 = 0 || decide (4 < c.dw 10 % 8))) then some vInvalidField
  else c.ptrVerdict

/-- A controller that fetches a command in Ready or Retain, or during an entry, returns to its last operational power state
(R159, R497). -/
def State.returnPs (s : State) (fn : Nat) : State :=
  if (s.mode = mReady || s.mode = mRetain || s.get .PM_MODE_MOVE = 1) && decide (3 ≤ s.get .X_FEAT_PS fn) then
    s.put .X_FEAT_PS (s.get .X_FEAT_LASTOP fn) fn
  else s

/-- Every Firmware Commit consumes the downloaded package, whatever its outcome; action 0b010 alone takes none (R598, R599). -/
def State.consumePkg (s : State) (c : Cmd) : State :=
  if c.q = 0 && c.op = 0x10 && bits (c.dw 10) 5 3 ≠ 2 then { s with pkg := [] } else s

/-- COMMAND_FETCH (R130, R158, R159, R476): one entry of a submission queue. Arbitration chooses the order, which the command states. -/
def execCommandFetch (fn sqid : Nat) (sqe : List Byte) (s : State) : Host.Outcome State Fault Refusal :=
  match s.sq? fn sqid with
  | none => .next s
  | some q =>
    if !s.ctrlUp fn || !s.flag .X_FN_BME fn || s.flag .X_FN_D3 fn || s.pairHalted fn || !s.powered || s.mode = mHoldup || s.flag .JQ_STS_FROZEN || q.frozen
        || q.head = q.tail || decide (65536 ≤ s.outstanding) || s.flag .X_FE_PAUSE || sqe.length ≠ 64 then .next s
    else
      let c := newCmd (s.get .X_CMDSEQ) true fn sqid (fieldAt sqe 2 2) (fieldAt sqe 0 1) s.tick sqe
      let c := { c with cls := if q.cls = 0 then 1 else q.cls }
      let old := s
      let s := (s.setSq { q with head := (q.head + 1) % q.size }).addCmd c
      let s := if c.keepsBusy then s.putFlag .X_IDLE false else s
      let s := ((s.wake uFront wakeCmd).returnPs fn).noteDemand old
      match s.fetchVerdict c with
      | some r => .next ((s.consumePkg c).finish c r)
      | none => .next s

/-! ### Enabling, disabling and shutdown (R126, R127, R158) -/

/-- CC and AQA hold values that NVMe Base and R126 allow. -/
def ccOk (cc aqa : Nat) : Bool :=
  bits cc 6 4 = 0 && decide (bits cc 10 7 ≤ 4) && decide (bits cc 13 11 ≤ 1) && decide (1 ≤ bits aqa 11 0) && decide (1 ≤ bits aqa 27 16)

/-- CC_EN_SET (R126, R128): the admin queue pair exists and CSTS.RDY reads 1. Values the standard does not allow leave the controller
not ready. -/
def execCcEnSet (fn cc aqa asq acq : Nat) (s : State) : Host.Outcome State Fault Refusal :=
  if s.fnDark fn || s.flag .X_CTRL_DISABLING fn || s.get .X_CC fn % 2 = 1 || cc % 2 = 0 then .next s
  else
    let t := (((s.put .X_CC cc fn).put .X_AQA aqa fn).put .X_ASQ asq fn).put .X_ACQ acq fn
    let t := if ccOk cc aqa then
        let t : State := { t with
          sqs := t.sqs ++ [⟨fn, 0, bits aqa 11 0 + 1, 0, asq, 0, 0, 0, 1, fn = 0, 0, false⟩]
          cqs := t.cqs ++ [⟨fn, 0, bits aqa 27 16 + 1, acq, 0, 0, true, true, 0⟩] }
        t.putFlag .X_CSTS_RDY true fn
      else t
    .next (t.noteDemand s)

/-- CC_EN_CLEAR (R127): the controller is disabled; CSTS.RDY reads 0 once the disable completes. -/
def execCcEnClear (fn : Nat) (s : State) : Host.Outcome State Fault Refusal :=
  if s.fnDark fn || s.get .X_CC fn % 2 = 0 then .next s
  else .next (((s.put .X_CC (s.get .X_CC fn - 1) fn).disablePoint (.controller fn)).noteDemand s)

/-- A controller has a command outstanding. A waiting Asynchronous Event Request is none. -/
def State.ctrlBusy (s : State) (fn : Nat) : Bool := s.cmds.any fun c => c.nvme && c.fn = fn && !(c.q = 0 && c.op = 0x0C && c.st = .admitted)

/-- SHUTDOWN_NOTIFICATION (R127): CC.SHN is written, normal or abrupt; SHST reads in progress. -/
def execShutdownNotification (fn : Nat) (abrupt : Bool) (s : State) : Host.Outcome State Fault Refusal :=
  if s.fnDark fn || s.get .X_CC fn % 2 = 0 then .next s
  else
    let cc := s.get .X_CC fn
    let cc := cc - bits cc 15 14 * 2 ^ 14 + (if abrupt then 2 else 1) * 2 ^ 14
    .next ((s.put .X_CC cc fn).put .X_CSTS_SHST 1 fn)

/-- SHUTDOWN_COMPLETE (R127): nothing is flushed. -/
def execShutdownComplete (fn : Nat) (s : State) : Host.Outcome State Fault Refusal :=
  .next (if s.get .X_CSTS_SHST fn = 1 && !s.ctrlBusy fn then s.put .X_CSTS_SHST 2 fn else s)

/-! ### I/O queues (R128, R131, R132, R135) -/

/-- The size, contiguity and base checks both Create commands make. -/
def Cmd.queueFault (c : Cmd) (granted : Nat) (exists' : Bool) : Option Result :=
  let qid := c.dw 10 % 65536
  if qid = 0 ∨ granted < qid ∨ exists' then some vInvalidQueue
  else if c.dw 10 / 65536 = 0 ∨ 0xFFF < c.dw 10 / 65536 then some vQueueSize
  else if c.dw 11 % 2 = 0 then some vInvalidField
  else if fieldAt c.raw 24 8 % 4096 ≠ 0 then some vPrpOffset
  else none

/-- I/O queues of each kind granted to a function (R129). -/
def State.grantedSq (s : State) (fn : Nat) : Nat := if s.get .X_POOL_HELD fn = 0 then 0 else s.get .X_NSQA fn + 1
def State.grantedCq (s : State) (fn : Nat) : Nat := if s.get .X_POOL_HELD fn = 0 then 0 else s.get .X_NCQA fn + 1

/-- CREATE_IO_SQ (R128, R132, R135): the attributes of feature 0xC1 take effect. -/
def execCreateIoSq (cmd : Nat) (s : State) : Host.Outcome State Fault Refusal :=
  .next (s.onAdmin cmd 0x01 fun c =>
    let qid := c.dw 10 % 65536
    match c.queueFault (s.grantedSq c.fn) (s.sq? c.fn qid).isSome with
    | some r => s.finish c r
    | none =>
      let cqid := c.dw 11 / 65536
      if cqid = 0 ∨ s.grantedCq c.fn < cqid then s.finish c vInvalidQueue
      else if (s.cq? c.fn cqid).isNone then s.finish c vCqInvalid
      else
        let a := s.get .X_FEAT_QATTR (c.fn * 256 + qid)
        let q : SubQ := ⟨c.fn, qid, c.dw 10 / 65536 + 1, cqid, fieldAt c.raw 24 8, 0, 0, bits (c.dw 11) 2 1, bits a 17 16, bit a 18,
          bits a 27 20, false⟩
        ({ s with sqs := s.sqs ++ [q] } : State).finish c vSuccess)

/-- CREATE_IO_CQ (R128, R135): interrupt vectors 0 to 2,047. -/
def execCreateIoCq (cmd : Nat) (s : State) : Host.Outcome State Fault Refusal :=
  .next (s.onAdmin cmd 0x05 fun c =>
    let qid := c.dw 10 % 65536
    match c.queueFault (s.grantedCq c.fn) (s.cq? c.fn qid).isSome with
    | some r => s.finish c r
    | none =>
      let iv := c.dw 11 / 65536
      if 2047 < iv then s.finish c vInvalidVector
      else
        let q : ComplQ := ⟨c.fn, qid, c.dw 10 / 65536 + 1, fieldAt c.raw 24 8, 0, 0, true, bit (c.dw 11) 1, iv⟩
        ({ s with cqs := s.cqs ++ [q] } : State).finish c vSuccess)

/-- DELETE_IO_SQ (R131): the receipt is the disable point; the Delete completes after the disable. -/
def execDeleteIoSq (cmd : Nat) (s : State) : Host.Outcome State Fault Refusal :=
  .next (s.onAdmin cmd 0x00 fun c =>
    let qid := c.dw 10 % 65536
    match s.sq? c.fn qid with
    | none => s.finish c vInvalidQueue
    | some q =>
      if qid = 0 ∨ q.frozen then s.finish c vInvalidQueue
      else (s.setCmd { c with st := .admitted }).disablePoint (.sq c.fn qid))

/-- DELETE_IO_CQ (R135): refused while a submission queue posts to it. -/
def execDeleteIoCq (cmd : Nat) (s : State) : Host.Outcome State Fault Refusal :=
  .next (s.onAdmin cmd 0x04 fun c =>
    let qid := c.dw 10 % 65536
    if qid = 0 ∨ (s.cq? c.fn qid).isNone then s.finish c vInvalidQueue
    else if s.sqs.any fun q => q.fn = c.fn && q.cqid = qid then s.finish c vQueueDeletion
    else ({ s with cqs := s.cqs.filter fun q => ¬(q.fn = c.fn ∧ q.qid = qid) } : State).finish c vSuccess)

/-! ### Abort and asynchronous events (R135, R155, R156) -/

/-- The target of an Abort may be aborted (R155): admitted, not planned, and for a Write no data transfer begun; a Write Zeroes moves no
data. Which admin commands an Abort may end R155 does not say: in the model only a waiting Asynchronous Event Request (DESIGN CHOICE, log
entry 74). -/
def Cmd.abortable (t : Cmd) : Bool :=
  t.st = .admitted && t.res.isNone && !t.mute && (if t.q = 0 then t.op = 0x0C else !t.isWrite || t.op = 0x08)

def vAbortLimit : Result := { sct := 1, sc := 0x03, dnr := true }

/-- Aborts of a function that are outstanding before a command (R135: at most 8). -/
def State.abortsBefore (s : State) (c : Cmd) : Nat :=
  (s.cmds.filter fun x => x.nvme && x.fn = c.fn && x.q = 0 && x.op = 0x08 && decide (x.id < c.id)).length

/-- NVME_ABORT (R155, R156): the target's completion entry comes first. A Write's data transfer begins at its admission (its DMA
read is requested then), so an admitted Write is not aborted; one that waits for quota or a band is not admitted. -/
def execNvmeAbort (cmd : Nat) (s : State) : Host.Outcome State Fault Refusal :=
  .next (s.onAdmin cmd 0x08 fun c =>
    if 8 ≤ s.abortsBefore c then s.finish c vAbortLimit
    else match s.cmds.find? fun t => t.nvme && t.fn = c.fn && t.q = c.dw 10 % 65536 && t.tag = c.dw 10 / 65536 && t.id ≠ c.id with
    | none => s.finish c { vSuccess with dw0 := 1 }
    | some t => if t.abortable then (s.withdraw t vAborted).finish c vSuccess else s.finish c { vSuccess with dw0 := 1 })

/-- ASYNC_EVENT_REQUEST (R135): at most 16 are held; an event that waits completes it at once. -/
def execAsyncEventRequest (cmd : Nat) (s : State) : Host.Outcome State Fault Refusal :=
  .next (s.onAdmin cmd 0x0C fun c =>
    match s.asyncWaiting.find? fun e => e.1 = c.fn with
    | some e =>
      ({ s with asyncWaiting := s.asyncWaiting.erase e } : State).finish c
        { vSuccess with dw0 := e.2.1 + 256 * e.2.2.1 + 65536 * e.2.2.2 }
    | none =>
      if 16 ≤ (s.cmds.filter fun x => x.nvme && x.fn = c.fn && x.q = 0 && x.op = 0x0C && x.st = .admitted).length then
        s.finish c vAerLimit
      else s.setCmd { c with st := .admitted })

/-! ### Features (R129, R132, R158 to R160, R165, R167) -/

/-- Runs a meaning on a Set Features of one of some feature identifiers. -/
def State.onSet (s : State) (id : Nat) (fids : List Nat) (f : Cmd → State) : State :=
  s.onAdmin id 0x09 fun c => if fids.contains (c.dw 10 % 256) then f c else s

/-- SET_FEATURES_ARBITRATION (R165). -/
def execSetFeaturesArbitration (cmd : Nat) (s : State) : Host.Outcome State Fault Refusal :=
  .next (s.onSet cmd [0x01] fun c =>
    let v := c.dw 11
    (s.put .X_FEAT_ARB (v - bits v 7 3 * 8) c.fn).finish c vSuccess)

/-- Posts every Set Features Power Management that waits for an entry to end (R160). -/
def State.answerPm (s : State) : State :=
  forEach (s.cmds.filter fun c => c.nvme && c.q = 0 && c.op = 0x09 && c.dw 10 % 256 = 0x02 && c.st = .admitted) s fun c s => s.finish c vSuccess

/-- A quieter mode than the present one is demanded. -/
def State.quieter (s : State) : Bool := decide (s.demand < s.mode) && (s.demand = mReady || s.demand = mRetain)

/-- SET_FEATURES_POWER_MANAGEMENT (R157 to R160): one that starts an entry waits for its end; any other completes at once. -/
def execSetFeaturesPowerManagement (cmd : Nat) (s : State) : Host.Outcome State Fault Refusal :=
  .next (s.onSet cmd [0x02] fun c =>
    let ps := c.dw 11 % 32
    if 4 < ps then s.finish c vInvalidField
    else
      let t := s.put .X_FEAT_PS ps c.fn
      let t := if ps ≤ 2 then t.put .X_FEAT_LASTOP ps c.fn else t
      let t := t.noteDemand s
      if t.quieter && !t.anyBusy then t.setCmd { c with st := .admitted } else t.finish c vSuccess)

/-- SET_FEATURES_TEMPERATURE_THRESHOLD (R165): composite (0) and sensors 1 to 3; selector 15 sets them all. -/
def execSetFeaturesTemperatureThreshold (cmd : Nat) (s : State) : Host.Outcome State Fault Refusal :=
  .next (s.onSet cmd [0x04] fun c =>
    let v := c.dw 11
    let sel := bits v 19 16
    let th := bits v 21 20
    if (3 < sel ∧ sel ≠ 15) ∨ 1 < th then s.finish c vInvalidField
    else
      let sensors := if sel = 15 then [0, 1, 2, 3] else [sel]
      (forEach sensors s fun k s => s.put .X_FEAT_TT (v % 65536) (c.fn * 8 + k * 2 + th)).finish c vSuccess)

/-- SET_FEATURES_ERROR_RECOVERY (R165): TLER is clamped to CMD_MAX; DULBE is not supported. -/
def execSetFeaturesErrorRecovery (cmd : Nat) (s : State) : Host.Outcome State Fault Refusal :=
  .next (s.onSet cmd [0x05] fun c =>
    if bit (c.dw 11) 16 then s.finish c vInvalidField
    else (s.put .X_TLER (min (c.dw 11 % 65536) (s.get .MC_RI_CFG_CMD_MAX)) c.fn).finish c vSuccess)

/-- Pairs of the pool free to a function (R128): a PF's 128, or what the VFs leave of 3,072. What it holds itself counts as free. -/
def State.poolFree (s : State) (fn : Nat) : Nat :=
  if fn < 8 then 128
  else 3072 - (s.regs.filter fun x => x.1.f = .X_POOL_HELD && decide (8 ≤ x.1.i) && x.1.i ≠ fn).foldl (fun n x => n + x.2) 0

/-- SET_FEATURES_NUMBER_OF_QUEUES (R128, R129): refused once an I/O queue exists, as the standard requires, and where no pair is
free. -/
def execSetFeaturesNumberOfQueues (cmd : Nat) (s : State) : Host.Outcome State Fault Refusal :=
  .next (s.onSet cmd [0x07] fun c =>
    let nsq := c.dw 11 % 65536
    let ncq := c.dw 11 / 65536
    let free := s.poolFree c.fn
    if nsq = 65535 ∨ ncq = 65535 then s.finish c vInvalidField
    else if (s.sqs.any fun q => q.fn = c.fn && q.qid ≠ 0) || s.cqs.any fun q => q.fn = c.fn && q.qid ≠ 0 then s.finish c vSequence
    else if free = 0 then s.finish c vInternal
    else
      let a := min (nsq + 1) (min 128 free) - 1
      let b := min (ncq + 1) (min 128 free) - 1
      (((s.put .X_NSQA a c.fn).put .X_NCQA b c.fn).put .X_POOL_HELD (max a b + 1) c.fn).finish c
        { vSuccess with dw0 := a + 65536 * b })

/-- SET_FEATURES_INTERRUPT_CONFIG (R165): coalescing (0x08), or a vector's configuration (0x09). -/
def execSetFeaturesInterruptConfig (cmd : Nat) (s : State) : Host.Outcome State Fault Refusal :=
  .next (s.onSet cmd [0x08, 0x09] fun c =>
    let v := c.dw 11
    if c.dw 10 % 256 = 0x08 then (s.put .X_FEAT_IC (v % 65536) c.fn).finish c vSuccess
    else if 2047 < v % 65536 then s.finish c vInvalidField
    else (s.putFlag .X_FEAT_IVC (bit v 16) (c.fn * 2048 + v % 65536)).finish c vSuccess)

/-- SET_FEATURES_ASYNC_EVENT_CONFIG (R165, R170): bit 31 is PF0's alone. -/
def execSetFeaturesAsyncEventConfig (cmd : Nat) (s : State) : Host.Outcome State Fault Refusal :=
  .next (s.onSet cmd [0x0B] fun c =>
    (s.put .X_FEAT_AEC (if c.fn = 0 then c.dw 11 else c.dw 11 % 2 ^ 31) c.fn).finish c vSuccess)

/-- SET_FEATURES_TIMESTAMP (R167): Invalid Field in Command. -/
def execSetFeaturesTimestamp (cmd : Nat) (s : State) : Host.Outcome State Fault Refusal :=
  .next (s.onSet cmd [0x0E] fun c => s.finish c vInvalidField)

/-- SET_FEATURES_QUEUE_ATTRIBUTES (R132): for a queue that does not exist. For a reserved bit of CDW11 that is set, a CLASS of 3, or an SQID
outside 1 to 128 R132 names no status: the model gives Invalid Field in Command (DESIGN CHOICE, log entry 74). -/
def execSetFeaturesQueueAttributes (cmd : Nat) (s : State) : Host.Outcome State Fault Refusal :=
  .next (s.onSet cmd [0xC1] fun c =>
    let v := c.dw 11
    let sqid := v % 65536
    if sqid = 0 ∨ 128 < sqid ∨ bits v 17 16 = 3 ∨ bit v 19 ∨ v / 2 ^ 28 ≠ 0 then s.finish c vInvalidField
    else if (s.sq? c.fn sqid).isSome then s.finish c vSequence
    else (s.put .X_FEAT_QATTR (v - sqid) (c.fn * 256 + sqid)).finish c vSuccess)

/-- The value of a feature in completion Dword 0; none for an identifier R165 does not list. -/
def State.featureValue (s : State) (fn fid dw11 : Nat) : Option Nat :=
  match fid with
  | 0x01 => some (s.get .X_FEAT_ARB fn)
  | 0x02 => some (s.get .X_FEAT_PS fn)
  | 0x04 =>
    if 3 < bits dw11 19 16 ∨ 1 < bits dw11 21 20 then none
    else some (s.get .X_FEAT_TT (fn * 8 + bits dw11 19 16 * 2 + bits dw11 21 20))
  | 0x05 => some (s.get .X_TLER fn)
  | 0x07 => some (s.get .X_NSQA fn + 65536 * s.get .X_NCQA fn)
  | 0x08 => some (s.get .X_FEAT_IC fn)
  | 0x09 => if 2047 < dw11 % 65536 then none else some (dw11 % 65536 + 65536 * s.get .X_FEAT_IVC (fn * 2048 + dw11 % 65536))
  | 0x0B => some (s.get .X_FEAT_AEC fn)
  | 0xC1 =>
    if dw11 % 65536 = 0 ∨ 128 < dw11 % 65536 then none
    else some (s.get .X_FEAT_QATTR (fn * 256 + dw11 % 65536) + dw11 % 65536)
  | _ => none

/-- The 8 bytes of Get Features Timestamp (R167): milliseconds since 1970, Synch, Timestamp Origin 0. While the calendar is invalid R167
says only that Synch is 1: the model returns the count at which it stands (DESIGN CHOICE, log entry 74). -/
def State.timestampData (s : State) : List Byte :=
  natLe 6 (s.calUs / 1000 + 946684800000) ++ [if s.flag .CAL_STS_VALID then 0 else 1, 0]

/-- GET_FEATURES (R165): every feature but Timestamp and the queue attributes, which have rows of their own. -/
def execGetFeatures (cmd : Nat) (s : State) : Host.Outcome State Fault Refusal :=
  .next (s.onAdmin cmd 0x0A fun c =>
    let fid := c.dw 10 % 256
    if fid = 0x0E ∨ fid = 0xC1 then s
    else match s.featureValue c.fn fid (c.dw 11) with
      | some v => s.finish c { vSuccess with dw0 := v }
      | none => s.finish c vInvalidField)

/-- GET_FEATURES_TIMESTAMP (R167). -/
def execGetFeaturesTimestamp (cmd : Nat) (s : State) : Host.Outcome State Fault Refusal :=
  .next (s.onAdmin cmd 0x0A fun c =>
    if c.dw 10 % 256 = 0x0E then (s.sendData c 0 s.timestampData).finish c vSuccess else s)

/-- GET_FEATURES_QUEUE_ATTRIBUTES (R132): in completion Dword 0, laid out as CDW11. -/
def execGetFeaturesQueueAttributes (cmd : Nat) (s : State) : Host.Outcome State Fault Refusal :=
  .next (s.onAdmin cmd 0x0A fun c =>
    if c.dw 10 % 256 ≠ 0xC1 then s
    else match s.featureValue c.fn 0xC1 (c.dw 11) with
      | some v => s.finish c { vSuccess with dw0 := v }
      | none => s.finish c vInvalidField)

end Sys2Proof.Machine
end

