-- ==== Sys2Proof/Machine/NvmeIo.lean ====
section
/-! DEFINITION. NVMe I/O commands (R133, R138, R253), and Namespace Management, Attachment, Format NVM and Sanitize (R139 to R154). -/

namespace Sys2Proof.Machine

/-! ### Naming a namespace (R139) -/

/-- What a command that names an NSID ends with where its controller may not use it: no namespace, one being deleted (R268), or one not
attached. -/
def State.nsVerdict (s : State) (fn nsid : Nat) : Option Result :=
  if nsid = 0 ∨ 4096 < nsid then some vInvalidNs
  else match s.node? (nsid - 1) with
    | none => some vInvalidNs
    | some n => if n.deleting then some vInvalidNs else if n.attached.contains fn then none else some vInvalidField

/-- How a command moves logical blocks of a node: the format of its lowest child (R146), and its own protection information fields,
which NVMe lays out (log entry 20). -/
def State.fmtOf (s : State) (c : Cmd) (node : Nat) : BlockFmt :=
  match ((s.order node).getLast?).bind s.node? with
  | none => {}
  | some n =>
    let md := lbaMeta n.lbaf
    { lb := lbaBytes n.lbaf, md := md, ext := n.ext, pi := n.pi, pract := bit (c.dw 12) 29, prchk := bits (c.dw 12) 28 26,
      ref := c.dw 14 + (if md = 16 then 2 ^ 32 * (c.dw 3 % 65536) else 0), tag := c.dw 15 % 65536, mask := c.dw 15 / 65536 }

/-- An I/O command with its node and its range in 4 KiB units, from logical blocks (R145). -/
def State.onRange (s : State) (c : Cmd) (slba n : Nat) : Cmd :=
  let node := c.dw 1 - 1
  let lb := lbaBytes (s.lbafOf node)
  { c with node := node, lba := slba * lb / 4096, skip := slba * lb % 4096, bytes := n * lb,
           len := (slba * lb % 4096 + n * lb + 4095) / 4096, fmt := s.fmtOf c node }

/-- First logical block and count of a Read, Write, Write Zeroes or Verify. -/
def Cmd.slba (c : Cmd) : Nat := fieldAt c.raw 40 8
def Cmd.nlb (c : Cmd) : Nat := c.dw 12 % 65536 + 1

/-- With type 1 the reference tag of the first block is its address: another one is an error before any transfer. -/
def Cmd.refOk (c : Cmd) : Bool :=
  c.fmt.pi ≠ 1 || !bit c.fmt.prchk 0 || c.fmt.ref = c.slba % 2 ^ refBits c.fmt.md

def vSglLength : Result := { sct := 0, sc := 0x0F, dnr := true }

/-- A Data Block descriptor holds what the data pointer moves (R138). -/
def Cmd.sglFits (c : Cmd) : Bool :=
  fieldAt c.raw 1 1 / 64 = 0 || fieldAt c.raw 39 1 ≠ 0 || decide (c.ptrBytes ≤ fieldAt c.raw 32 4)

/-- MDTS is 4 MiB (R138). -/
def mdts : Nat := 4194304

/-- The checks every I/O command makes before its own (R151, R154, R139), then what its range meets in the order of R214. -/
def State.ioVerdict (s : State) (c : Cmd) (limit : Bool) (right : Nat) : Option Result :=
  match s.sanVerdict with
  | some r => some r
  | none => match s.nsVerdict c.fn (c.dw 1) with
    | some r => some r
    | none =>
      if limit && decide (mdts < c.ptrBytes) then some vInvalidField
      else if limit && !c.sglFits then some vSglLength
      else if !c.refOk then some vInvalidPi
      else s.rangeVerdict c c.node c.lba c.len right

/-- A Read or Verify (R133, R138): a Read of a Gold queue is Gold with the queue's deadline; Verify never is. -/
def State.nvmeRead (s : State) (c : Cmd) : State :=
  let c := s.onRange c c.slba c.nlb
  let gold := c.op = 0x02 && (s.sq? c.fn c.q).any fun q => q.cls = 0
  let ticks := (s.sq? c.fn c.q).elim 0 fun q => q.deadline
  match s.ioVerdict c (c.op = 0x02) rightRead with
  | some r => s.finish c r
  | none =>
    if gold && ticks = 0 then s.finish c vInvalidField
    else s.admitRead (if gold then { c with cls := 0, deadline := s.tick + ticks } else c)

/-- NVME_READ (R138). -/
def execNvmeRead (cmd : Nat) (s : State) : Host.Outcome State Fault Refusal := .next (s.onIo cmd 0x02 s.nvmeRead)

/-- NVME_VERIFY (R138). -/
def execNvmeVerify (cmd : Nat) (s : State) : Host.Outcome State Fault Refusal := .next (s.onIo cmd 0x0C s.nvmeRead)

/-- A Write or Write Zeroes (R138, R143, R252, R253). -/
def State.nvmeWrite (s : State) (c : Cmd) : State :=
  let c := s.onRange c c.slba c.nlb
  match s.ioVerdict c (c.op = 0x01) rightWrite with
  | some r => s.finish c r
  | none =>
    let c := { c with target := (s.writeTarget c.node).elim 0 (· + 1) }
    match s.partialVerdict c with
    | some r => s.finish c r
    | none => s.admitWrite c

/-- A waiting write is looked at again, by the checks as they hold now. -/
def State.readmit (s : State) (c : Cmd) : State :=
  let c := { c with waits := false }
  if c.nvme then (s.setCmd c).nvmeWrite c else (s.setCmd c).jxWrite c

/-- HOST_WRITE_ADMISSION (R201, R265, R359, R373): the oldest waiting write is admitted once quota and bands allow, or ended by a check that
fails at its admission. -/
def execHostWriteAdmission (s : State) : Host.Outcome State Fault Refusal :=
  match s.cmds.find? fun c => c.waits with
  | some c => .next (s.readmit c)
  | none => .next s

/-- NVME_WRITE (R138, R252). -/
def execNvmeWrite (cmd : Nat) (s : State) : Host.Outcome State Fault Refusal := .next (s.onIo cmd 0x01 s.nvmeWrite)

/-- NVME_WRITE_ZEROES (R138, R253). -/
def execNvmeWriteZeroes (cmd : Nat) (s : State) : Host.Outcome State Fault Refusal := .next (s.onIo cmd 0x08 s.nvmeWrite)

/-- NVME_FLUSH (R138): completes without media work. It may name every namespace. -/
def execNvmeFlush (cmd : Nat) (s : State) : Host.Outcome State Fault Refusal :=
  .next (s.onIo cmd 0x00 fun c =>
    match s.sanVerdict with
    | some r => s.finish c r
    | none => match (if c.dw 1 = 0xFFFFFFFF then none else s.nsVerdict c.fn (c.dw 1)) with
      | some r => s.finish c r
      | none => if s.notReady (c.dw 1 - 1) then s.finish c vNotReady else s.finish c vSuccess)

/-- NVME_DATASET_MANAGEMENT (R138, R253): Deallocate of whole granules, range by range; the other hints do nothing. A range that fails its
checks ends the command before any range takes effect. -/
def execNvmeDatasetManagement (cmd : Nat) (ranges : List LbaRange) (s : State) : Host.Outcome State Fault Refusal :=
  .next (s.onIo cmd 0x09 fun c =>
    let l := ((ranges.take (c.dw 10 % 256 + 1)).filter fun r => r.len ≠ 0).map fun r => s.onRange c r.lba r.len
    match s.sanVerdict with
    | some r => s.finish c r
    | none => match s.nsVerdict c.fn (c.dw 1) with
      | some r => s.finish c r
      | none =>
        if s.notReady (c.dw 1 - 1) then s.finish c vNotReady
        else if !bit (c.dw 11) 2 then s.finish c vSuccess
        else match l.findSome? fun c => s.rangeVerdict c c.node c.lba c.len rightWrite with
          | some r => s.finish c r
          | none =>
            (forEach l s fun c s => s.deallocate { c with target := (s.writeTarget c.node).elim 0 (· + 1) }).finish c vSuccess)

/-! ### Namespace Management and Attachment (R137, R140 to R142, R146, R256, R478) -/

def vNsCapacity : Result := { sct := 1, sc := 0x15, dnr := true }
def vNsidUnavailable : Result := { sct := 1, sc := 0x16, dnr := true }
def vAlreadyAttached : Result := { sct := 1, sc := 0x18, dnr := true }
def vNotAttached : Result := { sct := 1, sc := 0x1A, dnr := true }
def vThinProvisioning : Result := { sct := 1, sc := 0x1B, dnr := true }
def vControllerList : Result := { sct := 1, sc := 0x1C, dnr := true }

/-- The protection information that DPS or a Format asks for exists: types 1 to 3, in the last bytes of the metadata (R145). -/
def piOk (pi : Nat) (first : Bool) : Bool := decide (pi ≤ 3) && !(first && pi ≠ 0)

/-- An LBA format is allowed for a volume's granule and compression (R145). -/
def lbafOk (lbaf granule codec : Nat) : Bool :=
  lbaf = 0 || ((lbaf = 1 || lbaf = 2) && codec = 0) || ((lbaf = 3 || lbaf = 4) && codec = 0 && granule = 0)

/-- A granule that CHP_CAP5 reports (R140). -/
def State.granuleOffered (s : State) (granule : Nat) : Bool :=
  s.flag (if granule = 0 then .CHP_CAP5_G4K else if granule = 1 then .CHP_CAP5_G16K else .CHP_CAP5_G64K)

/-- A staged protection entry, as SEC_PM_STAGE lays it out. -/
def stageEntry (fn node rights : Nat) (allNodes : Bool) : Nat :=
  rights % 16 * 2 ^ 26 + (if allNodes then 2 ^ 25 else 0) + fn % 512 * 2 ^ 12 + node % 4096

def stageRights (e : Nat) : Nat := bits e 29 26
def stageAll (e : Nat) : Bool := bit e 25
def stageFn (e : Nat) : Nat := bits e 20 12
def stageNode (e : Nat) : Nat := e % 4096

/-- One entry takes effect in the map (R479). -/
def State.applyRight (s : State) (e : Nat) : State :=
  let fn := stageFn e
  if stageAll e then s.put .X_RDEF (stageRights e) fn
  else
    let rest := s.rights.filter fun r => ¬(r.fn = fn ∧ r.node = stageNode e)
    if stageRights e = s.get .X_RDEF fn then { s with rights := rest }
    else { s with rights := rest ++ [⟨fn, stageNode e, stageRights e⟩] }

/-- Armed protection batches in order of tick, then of acceptance. -/
def State.armedBatches (s : State) : List (Nat × List Nat) :=
  let l := s.armed.filterMap fun a => match a.act with
    | .protection _ entries _ _ => some (a.tick, entries)
    | _ => none
  l.foldr (fun x acc => (acc.takeWhile fun y => decide (y.1 < x.1)) ++ x :: acc.dropWhile fun y => decide (y.1 < x.1)) []

/-- The map as every armed batch will leave it (R480). -/
def State.withBatches (s : State) : State := (s.armedBatches.flatMap Prod.snd).foldl State.applyRight s

/-- Specific entries the map holds. -/
def rightsMax : Nat := 16384

/-- NAMESPACE_MANAGEMENT_CREATE (R140, R145, R243, R477, R478): a plain volume under the lowest free ID, with its key and, for a function
other than PF0, a specific entry with all four rights. -/
def execNamespaceManagementCreate (cmd : Nat) (data : List Byte) (s : State) : Host.Outcome State Fault Refusal :=
  .next (s.onAdmin cmd 0x0D fun c =>
    if c.dw 10 % 16 ≠ 0 then s
    else match s.sanVerdict with
    | some r => s.finish c r
    | none =>
      let nsze := fieldAt data 0 8
      let flbas := fieldAt data 26 1
      let lbaf := flbas % 16 + bits flbas 6 5 * 16
      let dps := fieldAt data 29 1
      let granule := fieldAt data 3072 1
      let codec := fieldAt data 3073 1
      let size := (nsze * lbaBytes lbaf + 4095) / 4096
      if 2 < granule ∨ 1 < codec ∨ !s.granuleOffered granule ∨ nsze = 0 ∨ !piOk (dps % 8) (bit dps 3) then
        s.finish c vInvalidField
      else if fieldAt data 8 8 ≠ nsze then s.finish c vThinProvisioning
      else if !lbafOk lbaf granule codec ∨ (dps % 8 ≠ 0 ∧ lbaMeta lbaf = 0) then s.finish c vInvalidFormat
      else if 2 ^ 40 < size then s.finish c vNsCapacity
      else match s.freeNode with
        | none => s.finish c vNsidUnavailable
        | some id =>
          if c.fn ≠ 0 ∧ rightsMax ≤ s.withBatches.rights.length then s.finish c vRightsFull
          else
            let n : Node := { id := id, isStack := false, deleting := false, size := size, granule := granule, codec := codec,
                              lbaf := lbaf, ext := bit flbas 4 && lbaMeta lbaf ≠ 0, pi := dps % 8, writable := true, titleKey := false, children := [], epoch := 0, attached := [],
                              formatting := none }
            let s := (s.addNode n).newKey id 0
            let e := stageEntry c.fn id 15 false
            let s := if c.fn = 0 then s
              else
                let t := (s.applyRight e).journal 0x19 0 (e + 2 ^ 38) s.tick
                t.put .SEC_PM_STS_ENTRIES t.rights.length
            s.finish c { vSuccess with dw0 := id + 1 })

/-- What a command of the namespace-management or format family that needs ADMIN on a node meets first (R137, R142, R147). -/
def State.adminVerdict (s : State) (c : Cmd) : Option Result :=
  let id := c.dw 1 - 1
  if c.dw 1 = 0 ∨ 4096 < c.dw 1 ∨ !s.active id then some vInvalidNs
  else if !bit c.rights rightAdmin then some vAccessDenied
  else none

/-- NAMESPACE_MANAGEMENT_DELETE (R137, R142, R262, R268): the command completes when the deletion does (R269). A stack node in no stack is
no namespace it deletes: R142 names no status, and the model gives Invalid Namespace or Format (DESIGN CHOICE, log entry 74). -/
def execNamespaceManagementDelete (cmd : Nat) (s : State) : Host.Outcome State Fault Refusal :=
  .next (s.onAdmin cmd 0x0D fun c =>
    if c.dw 10 % 16 ≠ 1 then s
    else
      let id := c.dw 1 - 1
      match s.sanVerdict with
      | some r => s.finish c r
      | none => match s.adminVerdict c with
        | some r => s.finish c r
        | none =>
          if s.inStack id || s.armedAdds id then s.finish c vNodeInStack
          else if !s.isVolume id then s.finish c vInvalidNs
          else if s.notReady id then s.finish c vNotReady
          else ((s.setCmd { c with st := .admitted, node := id }).beginDeletion id 65 0).notifyChange id)

/-- NAMESPACE_ATTACHMENT (R137, R141, R146, R256): every controller named is attached or detached, and told of it. -/
def execNamespaceAttachment (cmd : Nat) (controllers : List Nat) (s : State) : Host.Outcome State Fault Refusal :=
  .next (s.onAdmin cmd 0x15 fun c =>
    let id := c.dw 1 - 1
    let attach := c.dw 10 % 16 = 0
    match s.sanVerdict with
    | some r => s.finish c r
    | none => match s.adminVerdict c with
      | some r => s.finish c r
      | none =>
        match s.node? id with
        | none => s.finish c vInvalidNs
        | some n =>
          if 1 < c.dw 10 % 16 then s.finish c vInvalidField
          else if n.formatting.isSome then s.finish c vNotReady
          else if controllers.isEmpty || controllers.any (fun f => !s.fnExists f) || controllers.eraseDups.length ≠ controllers.length then
            s.finish c vControllerList
          else if attach && s.mixed id then s.finish c vInvalidNs
          else if attach && controllers.any n.attached.contains then s.finish c vAlreadyAttached
          else if !attach && controllers.any (fun f => !n.attached.contains f) then s.finish c vNotAttached
          else
            let now := if attach then n.attached ++ controllers else n.attached.filter fun f => !controllers.contains f
            let s := s.setNode { n with attached := now }
            let s := forEach controllers s fun f s =>
              let s := s.journal 0x1B id (f + if attach then 512 else 0) 0
              let s := s.putFlag .X_NSCHG true (f * 4096 + id)
              if bit (s.get .X_FEAT_AEC f) 8 then s.asyncEvent f 2 0 0x04 else s
            s.finish c vSuccess)

/-! ### Format NVM (R147 to R149, R472) -/

/-- Releases pins by the J96's own act, with a PIN_RELEASED event for each that its holder knows (R207). -/
def State.releaseWithEvents (s : State) (which : Pin → Bool) : State :=
  forEach (s.pins.filter which) s fun p s =>
    let s := s.releasePin p
    if p.id = 0 then s else s.postEvent p.fn 3 0 0 p.id

/-- A returns to source DEVICE with a new key, and its licence goes (R464, R472). -/
def State.rekey (s : State) (node : Nat) : State :=
  let t := (s.dropLicence node).newKey node 0
  match s.node? node with
  | some n => if n.titleKey then t.journalAttr { n with titleKey := false } else t
  | none => t

/-- A unit of a volume is stored at a place. -/
def FUnit.of (u : FUnit) (node : Nat) : Bool := u.rcd.node = node && (u.rcd.kind = 1 || u.rcd.kind = 2)

/-- The blocks that hold data of a volume: flash, and the blocks its units in the write buffer are to be programmed in. -/
def State.blocksOf (s : State) (node : Nat) : List Nat :=
  let ps := (s.flash.filter fun x => x.2.any fun u => u.of node).map Prod.fst ++ (s.wbuf.filter fun w => w.unit.of node).map fun w => w.place
  (ps.map fun p => blkIx (placeDie p) (s.placeBlock p)).eraseDups

/-- The bands that hold data of a volume are closed and moved next, so that their blocks are erased (R148, SES 1): the Format owes the erase
of each of those blocks. -/
def State.eraseVolume (s : State) (node : Nat) : State :=
  let s : State := { s with eraseOwed := s.eraseOwed ++ (s.blocksOf node).map fun b => (node, b) }
  let held := fun (b : Band) => (s.flash.any fun x => x.2.any fun u => u.of node && u.rcd.band = b.id)
    || s.wbuf.any fun w => w.unit.of node && w.unit.rcd.band = b.id
  forEach (s.bands.filter held) s fun b s =>
    match (s.closeBand b).bands.find? fun x => x.id = b.id with
    | some x => (s.closeBand b).setBand { x with victim := true }
    | none => s

/-- The PIN commands of a node whose preload is at work end, and what they locked is released (R148): Namespace Not Ready, as every command
that meets the Format (log entry 23). -/
def State.endLoadingPins (s : State) (node : Nat) : State :=
  forEach (s.pins.filter fun p => p.node = node && p.id = 0) s fun p s =>
    let s := s.releasePin p
    match s.cmd? p.cmd with
    | some c => s.finish c vNotReady
    | none => s

/-- FORMAT_NVM (R147 to R149): the start is journalled, pins are released, a licence is removed, the map emptied, and the work of the SES
begun; FORMAT_COMPLETE ends it. -/
def execFormatNvm (cmd : Nat) (s : State) : Host.Outcome State Fault Refusal :=
  .next (s.onAdmin cmd 0x80 fun c =>
    let id := c.dw 1 - 1
    let d := c.dw 10
    let ses := bits d 11 9
    let lbaf := d % 16 + bits d 13 12 * 16
    match s.sanVerdict with
    | some r => s.finish c r
    | none => match s.adminVerdict c with
      | some r => s.finish c r
      | none =>
        match s.node? id with
        | none => s.finish c vInvalidNs
        | some n =>
          if n.isStack then s.finish c vInvalidNs
          else if s.inStack id || s.armedAdds id then s.finish c vNodeInStack
          else if !lbafOk lbaf n.granule n.codec then s.finish c vInvalidFormat
          else if 2 < ses ∨ !piOk (bits d 7 5) (bit d 8) then s.finish c vInvalidField
          else if bits d 7 5 ≠ 0 ∧ lbaMeta lbaf = 0 then s.finish c vInvalidFormat
          else if n.formatting.isSome then s.finish c vNotReady
          else
            let licensed := s.licences.any fun l => l.node = id
            let s := (s.setCmd { c with st := .admitted, node := id }).journal 0x15 id (2 * ses + 8 * lbaf) 0
            let s := (s.releaseWithEvents fun p => p.node = id && p.id ≠ 0).endLoadingPins id
            let s := if licensed || ses = 2 then s.rekey id else s
            let s := (s.dropDict id).emptyNode id
            let s := match s.node? id with
              | some n => s.setNode { n with lbaf := lbaf, ext := bit d 4 && lbaMeta lbaf ≠ 0, pi := bits d 7 5, formatting := some ses }
              | none => s
            let s := s.startSweep ⟨id, 0, 2 ^ 60, 2, 65, false, 0⟩
            if ses = 1 then s.eraseVolume id else s)

/-- The work of a Format is done (R148): its map is empty; under SES 1 every block that held its data has been erased since, or retired,
and nothing of it is stored any more; under SES 2 its old key is destroyed. -/
def State.formatDone (s : State) (node ses : Nat) : Bool :=
  !(s.sweeps.any fun w => w.node = node && w.kind = 2)
    && (ses ≠ 1 || !(s.eraseOwed.any fun x => x.1 = node))
    && (ses ≠ 1 || !((s.flash.any fun x => x.2.any fun u => u.of node) || s.wbuf.any fun w => w.unit.of node))
    && (ses ≠ 2 || !(s.keys.any fun k => k.node = node && k.doomed))

/-- FORMAT_COMPLETE (R148, R149): journalled; the namespace is ready and the command completes. -/
def execFormatComplete (node : Nat) (s : State) : Host.Outcome State Fault Refusal :=
  match s.node? node with
  | none => .next s
  | some n => match n.formatting with
    | none => .next s
    | some ses =>
      if !s.formatDone node ses then .next s
      else
        let s := (s.journal 0x15 node (1 + 2 * ses + 8 * n.lbaf) 0).setNode { n with formatting := none }
        let s := (s.journalAttr n).notifyChange node
        match s.cmds.find? fun c => c.nvme && c.q = 0 && c.op = 0x80 && c.st = .admitted && c.node = node with
        | some c => .next (s.finish c vSuccess)
        | none => .next s

/-! ### Sanitize (R150 to R154) -/

/-- SSTAT of the Sanitize Status log. -/
def State.sstat (s : State) : Nat := s.get .X_SAN_ST + (if s.flag .X_SAN_GDE then 256 else 0)

/-- The estimates ETBE and ETCE (R154): the J96's own, ETBE from the block count and PE_MAX, ETCE at most 2 (log entry 4). -/
def State.etbe (s : State) : Nat := Config.eraseEstimate s.totalErasable (s.get .TK_BUDGET1_PE_MAX) % 2 ^ 32
def etce : Nat := Config.cryptoEstimate % 3

/-- Journals the Sanitize Status (R152, R264). -/
def State.journalSanitize (s : State) : State :=
  s.journal 0x1A 0 (s.sstat + 65536 * s.get .X_SAN_SPROG + 2 ^ 32 * s.get .X_SAN_DW10) (s.etbe + 2 ^ 32 * etce)

/-- Commands that a Sanitize ends at its acceptance (R151): reads and writes that are not planned, and every PIN. -/
def Cmd.endsAtSanitize (c : Cmd) : Bool :=
  (c.isRead || c.isWrite || (!c.nvme && (c.op = 0x06 || c.op = 0x0C)))
    && (c.st = .admitted || c.waits || (!c.nvme && c.op = 0x06 && c.st = .planned)) && !c.mute

/-- A Sanitize is accepted (R151 to R153): the whole subsystem is emptied, and every volume has a new key. Block erase gives every block
back to be erased. -/
def State.startSanitize (s : State) (c : Cmd) (crypto : Bool) : State :=
  let s := ((s.put .X_SAN_ST 2).put .X_SAN_DW10 (c.dw 10)).put .X_SAN_SPROG 0
  let s := ((s.putFlag .X_SAN_FM false).putFlag .X_SAN_CRYPTO crypto).put .X_SAN_FN c.fn
  let s := (s.putFlag .JQ_STS_SANITIZING true).journalSanitize
  let s := s.releaseWithEvents fun _ => true
  let s := forEach (s.cmds.filter fun x => x.endsAtSanitize && x.id ≠ c.id) s fun x s => s.withdraw x vSanitizing
  let s := forEach (s.nodes.filter fun n => !n.isStack) s fun n s => ((s.dropDict n.id).rekey n.id).emptyNode n.id
  let s : State := { s with lines := (s.lines.filter fun x => 0 < x.pins), copies := [], recovs := [] }
  let s := if crypto then s
    else
      let s := (forEach s.bands s fun b s => s.releaseMembers b).put .HU_DIRTY 0
      let s : State := { s with
        bands := []
        oldPages := []
        wbuf := []
        regs := s.regs.filter fun x => !(x.1.f = .X_BLK_MM && (x.2 = mmOpen || x.2 = mmFull || x.2 = mmErased || x.2 = mmReserved)) }
      s.updateGc.ackAll
  s.finish c vSuccess

/-- Receipt of a Sanitize of an action (R136, R150, R151, R476). -/
def State.sanitize (s : State) (c : Cmd) (crypto : Bool) : State :=
  let d := c.dw 10
  if s.sanitizing then s.finish c vSanitizing
  else if s.nodes.any fun n => !n.deleting && !((c.fn = 0 && s.flag .SEC_STS_OWNER) || bit (s.rightsOf c.fn n.id) rightAdmin) then
    s.finish c vAccessDenied
  else if bit d 9 then s.finish c vInvalidField
  else if s.flag .X_SAN_FM && !bit (s.get .X_SAN_DW10) 3 && bit d 3 then s.finish c vSanitizeFailed
  else s.startSanitize c crypto

/-- Runs a meaning on a Sanitize of one action. -/
def State.onSanitize (s : State) (id action : Nat) (f : Cmd → State) : State :=
  s.onAdmin id 0x84 fun c => if c.dw 10 % 8 = action then f c else s

/-- SANITIZE_BLOCK_ERASE (R150 to R153). -/
def execSanitizeBlockErase (cmd : Nat) (s : State) : Host.Outcome State Fault Refusal :=
  .next (s.onSanitize cmd 2 fun c => s.sanitize c false)

/-- SANITIZE_CRYPTO_ERASE (R150 to R153). -/
def execSanitizeCryptoErase (cmd : Nat) (s : State) : Host.Outcome State Fault Refusal :=
  .next (s.onSanitize cmd 4 fun c => s.sanitize c true)

/-- SANITIZE_OVERWRITE (R150): Invalid Field in Command. -/
def execSanitizeOverwrite (cmd : Nat) (s : State) : Host.Outcome State Fault Refusal :=
  .next (s.onSanitize cmd 3 fun c => s.finish c vInvalidField)

/-- SANITIZE_EXIT_FAILURE_MODE (R154): out of a failed unrestricted Sanitize; a failed restricted one is left only by a Sanitize. -/
def execSanitizeExitFailureMode (cmd : Nat) (s : State) : Host.Outcome State Fault Refusal :=
  .next (s.onSanitize cmd 1 fun c =>
    if s.sanitizing then s.finish c vSanitizing
    else if s.flag .X_SAN_FM && !bit (s.get .X_SAN_DW10) 3 then s.finish c vSanitizeFailed
    else (s.putFlag .X_SAN_FM false).finish c vSuccess)

/-- The erase or key work of a Sanitize has ended (R153): every in-service block is erased, or no old key is left. -/
def State.sanitizeWorkDone (s : State) : Bool :=
  if s.flag .X_SAN_CRYPTO then !s.keys.any fun k => k.doomed
  else decide (s.totalErasable ≤ s.erasedBlocks)

/-- SANITIZE_COMPLETE (R152 to R154): completed, with SPROG 65,535, or failed. -/
def execSanitizeComplete (ok : Bool) (s : State) : Host.Outcome State Fault Refusal :=
  if !s.sanitizing || (ok && !s.sanitizeWorkDone) then .next s
  else
    let s := if ok then ((s.put .X_SAN_ST 1).put .X_SAN_SPROG 65535).putFlag .X_SAN_GDE true
      else (s.put .X_SAN_ST 3).putFlag .X_SAN_FM true
    .next (((s.putFlag .JQ_STS_SANITIZING false).journalSanitize).asyncEvent (s.get .X_SAN_FN) 6 1 0x81)

end Sys2Proof.Machine
end

