-- ==== Sys2Proof/Machine/Disable.lean ====
section
/-! DEFINITION. The end of a disable (R113 to R120, R127, R131, R237): of a function, a controller, a submission queue or a Jexash queue. -/

namespace Sys2Proof.Machine

/-- Stores what the muted writes of a scope have fully received (R115). -/
def State.settleWrites (s : State) (sc : Scope) : State :=
  forEach (s.cmds.filter fun c => sc.covers c && c.mute && c.isWrite) s fun c s => s.commitReceived c.id

/-- A command holds up the end of a disable (R118): a read before its media end, or a write with a granule that still waits for a band. -/
def State.holdsDisable (s : State) (c : Cmd) : Bool :=
  c.mute && ((c.isRead && c.st = .planned) || (s.pins.any fun p => p.cmd = c.id && p.id = 0 && c.res.isNone && !s.pinLoaded p) || (c.isWrite && c.parts.any fun p => !p.done && s.granReceived c p.pos))

/-- The muted commands of a scope go, with all they hold. -/
def State.dropMuted (s : State) (sc : Scope) : State :=
  forEach (s.cmds.filter fun c => sc.covers c && c.mute) s fun c s =>
    let s := if c.isWrite then s.releaseAlloc c else s
    let s := (s.dropGrants c.id).releaseLoading c.id
    ({ s with engJobs := s.engJobs.filter (fun j => j.cmd ≠ c.id), armed := s.armed.filter fun a => a.act ≠ .pin c.id } : State).endCmd c.id

/-- A queue reads DISABLED; its tags are free (R116, R237). -/
def State.endQueueDisable (s : State) (q : Nat) : State :=
  let s := ((s.put .JQ_QSTS_STATE jqDisabled q).putFlag .JQ_QCMD_DISABLE false q).put .JQ_QSTS_OUTSTANDING 0 q
  let s : State := { s with tags := s.tags.filter (fun x => x.1 ≠ q), slots := s.slots.filter (fun x => x.1 / 16384 ≠ q) }
  s.put .X_JQ_RESV 0 q

/-- The features of a controller and its grant of queues return to their reset values (R129, R165). -/
def State.resetFeatures (s : State) (f : Nat) : State :=
  { s with regs := s.regs.filter fun x => !(match x.1.f with
      | .X_FEAT_ARB | .X_FEAT_PS | .X_FEAT_LASTOP | .X_FEAT_IC | .X_FEAT_AEC | .X_TLER | .X_NSQA | .X_NCQA | .X_POOL_HELD => decide (x.1.i = f)
      | .X_FEAT_TT => decide (x.1.i / 8 = f)
      | .X_FEAT_IVC => decide (x.1.i / 2048 = f)
      | .X_FEAT_QATTR => decide (x.1.i / 256 = f)
      | _ => false) }

/-- A controller is disabled (R127): its queues, events and features are gone, and CSTS.RDY reads 0. -/
def State.endController (s : State) (f : Nat) : State :=
  let s : State := { s with
    sqs := s.sqs.filter (fun q => q.fn ≠ f)
    cqs := s.cqs.filter (fun q => q.fn ≠ f)
    asyncWaiting := s.asyncWaiting.filter fun e => e.1 ≠ f }
  (((s.putFlag .X_CTRL_DISABLING false f).putFlag .X_CSTS_RDY false f).put .X_CSTS_SHST 0 f).resetFeatures f

/-- What the host configured in a function returns to its reset value (R120; log entry 72). -/
def State.resetConfig (s : State) (f : Nat) : State :=
  { s with regs := s.regs.filter fun x => !(match x.1.f with
      | .X_FN_RO | .X_FN_IDO | .X_FN_ATS | .X_FN_ASPM | .X_FN_L12 | .X_FN_MPS | .X_FN_MRRS | .X_FN_CTOD | .X_MSIX_EN | .X_MSIX_FMASK =>
        decide (x.1.i = f)
      | .X_FN_BAR => decide (x.1.i / 8 = f)
      | .X_MSIX_MASKED | .X_MSIX_PEND => decide (x.1.i / 2048 = f)
      | _ => false) }

/-- A function's configuration state is reset (R120): its controller's registers, Bus Master Enable, ATS, D-state and, for a PF, its VFs. -/
def State.endFunction (s : State) (f : Nat) : State :=
  let kind := s.get .X_FN_DISKIND f
  let s := if 1 ≤ kind && kind ≤ 4 then s.bump .HE_CNT_DISABLE (s.fnPf f / 4) else s
  let s := forEach (s.fnQueues f) s fun q s => s.endQueueDisable q
  let s := s.endController f
  let s := s.resetConfig f
  let zero : List Field := [.X_FN_BME, .X_FN_D3, .X_FN_DISABLING, .X_FN_DISKIND, .X_CC, .X_AQA, .X_ASQ, .X_ACQ, .X_CSTS_CFS]
  let s := forEach zero s fun r s => s.put r 0 f
  let s := if f < 8 && kind = 4 && s.flag .X_FN_VFE f then
      (forEach (s.vfsOf f) s fun v s => s.putFlag .X_FN_FROZEN false v).putFlag .X_FN_VFE false f
    else s
  let s := if f < 8 then s.put .X_FN_NUMVFS 0 f else s
  let s := if kind = 6 then s.putFlag .X_CSTS_CFS true f else s
  s.clearLevelAt 48 f

/-- The disable of a scope ends, once nothing of it holds it up (R118). -/
def State.endDisable (s : State) (sc : Scope) : State :=
  if !s.disabling sc then s
  else
    let t := s.settleWrites sc
    if t.cmds.any fun c => sc.covers c && t.holdsDisable c then t
    else
      let t := t.dropMuted sc
      let t := match sc with
        | .fn f => t.endFunction f
        | .controller f => t.endController f
        | .sq f q =>
          let t : State := { t with sqs := t.sqs.filter fun x => ¬(x.fn = f ∧ x.qid = q) }
          match t.cmds.find? fun (c : Cmd) => c.nvme && c.fn = f && c.q = 0 && c.op = 0x00 && c.st = CmdState.admitted && c.dw 10 % 65536 = q with
          | some c => t.finish c vSuccess
          | none => t
        | .queue q =>
          (t.endQueueDisable q).postEvent (t.get .JQ_QCFG_FN q) 5 (t.get .JQ_QCFG_SLOT q) 0 0
      t.noteDemand s

/-- DISABLE_COMPLETE (R118). -/
def execDisableComplete (scope : Scope) (s : State) : Host.Outcome State Fault Refusal := .next (s.endDisable scope)

/-- QUEUE_DISABLED (R237). -/
def execQueueDisabled (q : Nat) (s : State) : Host.Outcome State Fault Refusal := .next (s.endDisable (.queue q))

end Sys2Proof.Machine
end

