-- ==== Sys2Proof/Machine/Holdup.lean ====
section
/-! DEFINITION. The hold-up store (14): energy, allowances, charging and the capacitance test; entering Hold-up, the flush, and what
follows it (R507, R508, R535 to R541). The flush of a chip reset (R625) is the same. -/

namespace Sys2Proof.Machine

def huDisabled : Nat := 0
def huPrecharge : Nat := 1
def huTesting : Nat := 2
def huCharging : Nat := 3
def huReady : Nat := 4
def huPaused : Nat := 5
def huReleasing : Nat := 6
def huFault : Nat := 7

def State.hu (s : State) : Nat := s.get .HU_STS_STATE

/-! ### Temperatures (R351, R516, R529, R545) -/

/-- The latest value of a remote-diode input in 1/16 °C, if it is fitted, valid and at most 3 rounds old. -/
def State.diode (s : State) (j : Nat) : Option Int :=
  if s.flag .HK_RD_CFG_EN j && s.flag .HK_VAL_VALID (16 + j) && decide (s.get .HK_VAL_AGE (16 + j) ≤ 3) then
    some (ofField 16 (s.get .HK_VAL_VALUE (16 + j)))
  else none

/-- Every sensor that MS_CH_SENS names for a channel lies at least `margin` °C inside the flash write window (R529). -/
def State.insideWindow (s : State) (ch : Nat) (margin : Int) : Bool :=
  let l := (List.range 8).filter fun j => bit (s.get .MS_CH_SENS_MASK ch) j
  !l.isEmpty && l.all fun j => match s.diode j with
    | some t => decide (16 * (ofField 8 (s.get .HK_WWIN_LO) + margin) ≤ t) && decide (t ≤ 16 * (ofField 8 (s.get .HK_WWIN_HI) - margin))
    | none => false

/-- The bank temperature in 1/16 °C; none when it counts as absent (R516). -/
def State.bankTemp (s : State) : Option Int := s.diode (s.get .HU_CTL_TSENS)

/-- T_bank lies in the charging window, `margin` °C inside it (R520). -/
def State.chargeOk (s : State) (margin : Int) : Bool :=
  match s.bankTemp with
  | some t => decide (16 * (ofField 8 (s.get .HU_WIN_CHG_LO) + margin) ≤ t) && decide (t ≤ 16 * (ofField 8 (s.get .HU_WIN_CHG_HI) - margin))
  | none => false

/-! ### Energy and allowance (R517, R527 to R530, R533) -/

/-- V_TARGET for a capacitance, × 0.1 V (R517): the largest value at most V_MAX and at most sqrt(2 × CEIL / C_hi). -/
def State.targetFor (s : State) (uF : Nat) : Nat :=
  (List.range (s.get .HU_CHG_CFG_V_MAX + 1)).foldl (fun m t => if t * t * uF * 103 ≤ 2 * s.get .HU_E_CEIL_CEIL * 10000000 then t else m) 0

/-- v_floor, µV (R527). -/
def State.vFloor (s : State) (esr : Nat) : Nat := s.get .HU_REL_CFG_V_MIN * 100000 + s.get .HU_REL_CFG_I_BANK_MAX * 10 * esr

/-- E_AVAIL in pJ (R527), with the bank `drop` mV below what was measured. -/
def State.energy (s : State) (drop : Nat) : Nat :=
  let v := (min (s.get .HU_MEAS0_V_BANK * 10 - drop) (s.get .HU_MEAS2_V_TARGET * 100) - 200) * 1000
  let f := s.vFloor (s.get .HU_MEAS1_ESR)
  if v ≤ f || s.hu = huDisabled || s.get .HU_STS_FAULT ≠ 0 || !s.flag .X_HU_FIRST then 0
  else s.get .HU_REL_CFG_ETA * 97 * s.get .HU_MEAS1_C_MEAS * (v * v - f * f) / 20000000000

/-- E_FIXED in pJ. -/
def State.eFixed (s : State) : Nat := s.get .HU_ALLOW_CFG_E_FIXED * 1000000000

/-- D_E, bytes (R528). -/
def State.energyAllow (s : State) (drop : Nat) : Nat :=
  (s.energy drop - s.eFixed) / s.get .HU_ALLOW_CFG_E_BYTE / 4096 * 4096

/-- RESERVED blocks of a die. -/
def State.reservedOf (s : State) (d : Nat) : List Nat :=
  (s.regs.filter fun x => x.1.f = .X_BLK_MM && x.2 = mmReserved && x.1.i / 65536 = d).map fun x => x.1.i % 65536

/-- The populated dies of a cluster whose RESERVED blocks count for the flush (R529). -/
def State.countedDies (s : State) (c : Nat) : List Nat :=
  s.dies.filter fun d => channelCluster (dieChannel d) = c
    && s.insideWindow (dieChannel d) (s.get .HU_WIN_MARGIN : Nat) && !(s.reservedOf d).isEmpty

/-- Member pairs a cluster can supply from counted blocks. -/
def State.countedPairs (s : State) (c : Nat) : Nat :=
  let l := (s.countedDies c).map fun d => (s.reservedOf d).length
  let f := l.foldl (· + ·) 0
  min (f / 2) (f - l.foldl max 0)

/-- D_W, bytes (R529). Bands are opened whole until a cluster has no pair left, then degraded until a second has none. -/
def State.windowAllow (s : State) : Nat :=
  let p := (List.range 8).map s.countedPairs
  let least (l : List Nat) : Nat := match l with
    | [] => 0
    | x :: l => l.foldl min x
  let full := least p
  let rest := (p.map (· - full)).filter (fun x => x ≠ 0)
  let degraded := if rest.length = 7 then least rest else 0
  let sizes := (List.range 8).flatMap fun c => (s.countedDies c).map fun d => s.wlb (dieChannel d) * s.planes (dieChannel d) * 16384
  (14 * full + 12 * degraded) * least sizes - 16 * 2 ^ 20

/-- Recomputes the allowance (R530, R524). It keeps its value during a test and a flush. Writes that waited for the journal are
acknowledged once the store covers it (R387). -/
def State.updateAllow (s : State) : State :=
  if s.hu = huTesting || s.flag .X_FLUSH then s
  else
    let drop := if s.flag .X_HU_TESTV then 2000 else 0
    let e := s.energy drop
    let de := s.energyAllow drop
    let dw := s.windowAllow
    let s := ((s.put .HU_MEAS2_E_AVAIL (e / 1000000000)).putFlag .HU_STS_ZERO_ENERGY (decide (de = 0))).putFlag .HU_STS_ZERO_WINDOW
      (decide (dw = 0))
    let s := (s.put .HU_ALLOW (min de dw)).putFlag .X_HU_COVER (decide (0 < e) && decide (s.eFixed ≤ e))
    s.ackAll

/-- The PROGRAM entry of a wordline is already planned or running. -/
def State.programPlanned (s : State) (d desc : Nat) : Bool :=
  let p := s.plan d
  (p.active ++ p.next ++ p.back ++ p.late).any (fun e => e.op = opProgram && e.desc = desc)
    || (s.get .X_DIE_OP d = 1 && s.get .X_DIE_OPBLK d = (desc - 2 ^ 60) / 262144 && s.get .X_DIE_OPPAGE d = (desc - 2 ^ 60) / 4 % 65536)

/-- Plans the programming of what the dirty buffer holds beyond the allowance as Silver work (R532). -/
def State.planExcess (s : State) : State :=
  let n := (s.get .HU_DIRTY - s.get .HU_ALLOW + 4095) / 4096
  let l := (s.wbuf.filter fun w => w.host.isSome && !w.programmed).take n
  forEach l s fun w s =>
    let d := placeDie w.place
    let desc := hwBlock (s.placeBlock w.place) (s.placePage w.place / 16 * 16) (s.placeMode w.place)
    if s.programPlanned d desc then s else s.planOwn d ⟨0, opProgram, 1, true, s.get .TK_PERIOD_PERIOD, desc⟩

/-! ### Charging and the test (R517 to R524) -/

/-- An entry into FAULT: the code, the source and the allowance (R516 to R522). A code met while in FAULT changes nothing. -/
def State.huFail (s : State) (code : Nat) : State :=
  if s.hu = huFault then s
  else
    let s := ((s.put .HU_STS_STATE huFault).put .HU_STS_FAULT code).putFlag .X_HU_TESTV false
    (s.raise 126 uHousekeeping code).updateAllow

/-- Where a store that is neither tested nor in FAULT charges, or is PAUSED (R520). -/
def State.toCharging (s : State) : State :=
  s.put .HU_STS_STATE (if !s.chargeOk 0 then huPaused else if s.flag .X_HU_FIRST then huCharging else huPrecharge)

/-- A changed ceiling, V_MAX or capacitance gives a new V_TARGET; a bank above it is discharged after the allowance fell (R517, R521). -/
def State.newTarget (s : State) : State :=
  if !s.flag .X_HU_FIRST then s
  else
    let t := s.targetFor (s.get .HU_MEAS1_C_MEAS)
    let s := s.put .HU_MEAS2_V_TARGET t
    if t < 120 then s.huFail 1
    else (s.updateAllow).putFlag .X_HU_DISCH (decide (10 * t < s.get .HU_MEAS0_V_BANK))

/-- The bank stands where a test may start (R523): at V_TARGET, or after the pre-charge, or in FAULT, where only a test helps. -/
def State.atTarget (s : State) : Bool :=
  (s.hu = huPrecharge && s.flag .X_HU_PREOK) || s.hu = huFault
    || ((s.hu = huReady || s.hu = huPaused) && s.flag .X_HU_FIRST && decide (10 * s.get .HU_MEAS2_V_TARGET ≤ s.get .HU_MEAS0_V_BANK + 20))
    || (s.hu = huPaused && s.flag .X_HU_PREOK && !s.flag .X_HU_FIRST)

/-- A test is wanted (R523). -/
def State.testDue (s : State) : State := if s.flag .HU_CTL_PRESENT then s.putFlag .X_HU_DUE true else s

/-- TEST_NOW (R523, R542). -/
def State.requestTest (s : State) (ag : Agent) : State :=
  s.guardWrite ag .ownerMpWd fun s => if s.flag .HU_CTL_PRESENT then (s.putFlag .HU_CTL_TEST_NOW true).testDue else s

def execTestNow (ag : Agent) (s : State) : Host.Outcome State Fault Refusal :=
  .next (s.atUnit uHousekeeping fun s => s.requestTest ag)

/-- TEST_INTERVAL_DUE (R523). -/
def execTestIntervalDue (s : State) : Host.Outcome State Fault Refusal := .next s.testDue

/-- CHARGE_TARGET_REACHED (R518, R519): the bank, × 10 mV, is at V_TARGET, or at 12.0 V in the pre-charge. -/
def execChargeTargetReached (v : Nat) (s : State) : Host.Outcome State Fault Refusal :=
  let t := s.put .HU_MEAS0_V_BANK v
  if s.hu = huPrecharge && !s.flag .X_HU_PREOK && decide (1200 ≤ v) then .next (t.putFlag .X_HU_PREOK true).testDue
  else if s.hu = huCharging && decide (10 * s.get .HU_MEAS2_V_TARGET ≤ v) then .next (t.put .HU_STS_STATE huReady).updateAllow
  else .next s

/-- PRECHARGE_CEILING (R518): the charger's energy integral has reached CEIL with the bank at `v` × 10 mV. -/
def execPrechargeCeiling (v : Nat) (s : State) : Host.Outcome State Fault Refusal :=
  if s.hu = huPrecharge && !s.flag .X_HU_PREOK then
    let t := s.put .HU_MEAS0_V_BANK v
    .next (if v < 1200 then t.huFail 1 else (t.putFlag .X_HU_PREOK true).testDue)
  else .next s

/-- CHARGER_TOP_UP (R519). -/
def execChargerTopUp (v : Nat) (s : State) : Host.Outcome State Fault Refusal :=
  if s.hu = huReady && decide (v + 20 ≤ 10 * s.get .HU_MEAS2_V_TARGET) then
    .next ((s.put .HU_MEAS0_V_BANK v).put .HU_STS_STATE (if s.chargeOk 0 then huCharging else huPaused)).updateAllow
  else .next s

/-- CHARGE_TIMEOUT (R519). -/
def execChargeTimeout (s : State) : Host.Outcome State Fault Refusal := .next (if s.hu = huCharging then s.huFail 4 else s)

/-- BANK_OVERVOLT (R519). -/
def execBankOvervolt (v : Nat) (s : State) : Host.Outcome State Fault Refusal :=
  if s.hu ≠ huDisabled && decide (10 * s.get .HU_CHG_CFG_V_MAX + 100 < v) then .next ((s.put .HU_MEAS0_V_BANK v).huFail 5) else .next s

/-- CAPACITANCE_TEST_START (R522 to R524): the allowance falls to its value at V_BANK − 2.0 V, and the test starts once the dirty
buffer fits it. -/
def execCapacitanceTestStart (s : State) : Host.Outcome State Fault Refusal :=
  if !s.flag .X_HU_DUE || !s.powered || s.mode = mHoldup || !s.atTarget then .next s
  else
    let s := (s.putFlag .X_HU_TESTV true).updateAllow
    if s.get .HU_ALLOW < s.get .HU_DIRTY then .next s.planExcess
    else .next ((s.put .HU_STS_STATE huTesting).putFlag .X_HU_QTR false)

/-- A test ends: it is counted, nothing is due, and T_bank is noted. -/
def State.endTest (s : State) : State :=
  let s := ((s.bump .HU_CNT_TESTS).putFlag .X_HU_DUE false).putFlag .HU_CTL_TEST_NOW false
  ((s.putFlag .X_HU_TESTV false).putFlag .X_HU_RAN true).put .X_HU_T_TEST (s.get .HU_MEAS0_T_BANK)

/-- CAPACITANCE_TEST_END (R517, R522): V_BANK fell by 2.0 V in `dtUs` µs, after a step of `stepMv` mV. A test shorter than 10 ms is
repeated once at a quarter of the current. -/
def execCapacitanceTestEnd (dtUs stepMv : Nat) (s : State) : Host.Outcome State Fault Refusal :=
  if s.hu ≠ huTesting then .next s
  else
    let i := s.get .HU_TEST_CFG_I_TEST / (if s.flag .X_HU_QTR then 4 else 1)
    if dtUs < 10000 && !s.flag .X_HU_QTR then .next (s.putFlag .X_HU_QTR true)
    else
      let c := i * dtUs / 2000
      let esr := min 4094 (stepMv * 1000 / i)
      let t := s.targetFor c
      let s := s.endTest
      if dtUs < 10000 then .next (s.huFail 2)
      else if 1000000 < dtUs || t < 120 then .next (s.huFail 1)
      else if (t - 20) * 100000 ≤ s.vFloor esr then .next (s.huFail 3)
      else
        let s := ((s.put .HU_MEAS1_C_MEAS (min c 0xFFFFF)).put .HU_MEAS1_ESR esr).put .HU_MEAS2_V_TARGET t
        let s := ((s.putFlag .X_HU_FIRST true).put .HU_STS_FAULT 0).toCharging
        .next (s.updateAllow.putFlag .X_HU_DISCH (decide (10 * t < s.get .HU_MEAS0_V_BANK)))

/-- HU_E_CEIL_WRITE (R517, R521, R542). -/
def State.writeCeil (s : State) (ag : Agent) (ceil : Nat) : State :=
  s.guardWrite ag .ownerMpWd fun s => s.unlessLocked ag [.HU_E_CEIL_CEIL] fun s =>
    if 1000 ≤ ceil && decide (ceil ≤ s.get .HU_E_CEIL_FUSE_MAX) then (s.put .HU_E_CEIL_CEIL ceil).newTarget else s

def execHuECeilWrite (ag : Agent) (ceil : Nat) (s : State) : Host.Outcome State Fault Refusal :=
  .next (s.atUnit uHousekeeping fun s => s.writeCeil ag (ceil % 65536))

/-! ### What a mode entry leaves in the log (R496) -/

/-- One entry of PM_REFUSE_LOG. -/
def State.logRefusal (s : State) (unit reason ap : Nat) (aborted : Bool) : State :=
  let i := s.get .PM_LOG_STS_NEXT
  let s := if s.flag .PM_REFUSE_LOG_VALID i then s.putFlag .PM_LOG_STS_WRAPPED true else s
  let s := (s.put .PM_REFUSE_LOG_UNIT unit i).put .PM_REFUSE_LOG_TYPE ((unitType unit).elim 0 UnitType.code) i
  let s := ((s.put .PM_REFUSE_LOG_REASON reason i).put .PM_REFUSE_LOG_AP ap i).putFlag .PM_REFUSE_LOG_ABORTED aborted i
  let s := (s.put .PM_REFUSE_LOG_TARGET (s.get .PM_MODE_TARGET) i).put .PM_REFUSE_LOG_FROM (s.get .X_PM_FROM) i
  let s := (s.putFlag .PM_REFUSE_LOG_VALID true i).put .PM_REFUSE_LOG_TICK s.tick i
  (s.put .PM_LOG_STS_NEXT ((i + 1) % 16)).bump (if aborted then .PM_CNT_ABORTED else .PM_CNT_REFUSED)

/-- Every unit follows the operating mode again: what an entry had gated is ON. -/
def State.ungate (s : State) : State := { s with regs := s.regs.filter fun x => x.1.f ≠ .X_MODE_POWER }

/-- An entry is abandoned (R494, R496): the log names the first wake event. -/
def State.abandonEntry (s : State) (ap : Nat) : State :=
  let w := s.get .X_WAKE
  let s := (s.logRefusal (w % 4096) (w / 4096) ap true).ungate
  ((((s.put .PM_MODE_MODE (s.get .X_PM_FROM)).put .PM_MODE_MOVE 0).put .PM_MODE_TARGET (s.get .X_PM_FROM)).put .X_WAKE 0).answerPm

/-! ### Powering down -/

/-- Updates of the map reach the DRAM store's pages, which replay of the journal rebuilds (R308); lines and clean pages are gone. -/
def State.settleMap (s : State) : State :=
  let s := forEach (s.lines.filter fun x => s.isVolume x.node) s fun x s => s.writeBackLine x
  { s with lines := [], pages := s.pages.filter fun p => p.dirty }

/-- A reset domain outlives a chip warm or cold reset (R624). -/
def Dom.survives (cold : Bool) : Dom → Bool
  | .cold => !cold
  | .boot | .vbat | .keep | .media | .none => true
  | .warm | .front | .cluster | .unit => false

/-- Passes of background recovery at work are over; each begins anew after first NVMe ready (R414). -/
def State.restRecovs (s : State) : State :=
  { s with recovs := s.recovs.map fun r => { r with phase := 0, going := false, got := [] } }

/-- Clears what a chip reset clears (R624): the register domains, the states of the units and everything volatile. The ECC log and
the latest recorder contents are in the chip cold domain. -/
def State.clearDomains (s : State) (cold : Bool) : State :=
  let s := s.settleMap.restRecovs
  let s : State := { s with
    regs := s.regs.filter fun x => x.1.f.info.dom.survives cold && x.1.f ≠ .X_MODE_POWER
    latches := [], cmds := [], sqs := [], cqs := [], asyncWaiting := [], slots := [], ats := [], invs := [], holds := [], dmaReads := [], tags := []
    grants := [], dataWin := [], plans := [], armed := [], sweeps := [], pins := [], desc := [], calls := [], cpl := []
    staged := [], wbuf := [], lookups := [], copies := [], ladders := [], hedges := [], deepJobs := [], engJobs := [], recSnap := [], nonce := []
    mbxResp := none, pkg := [], fwNew := none, locks := [], eccLog := if cold then [] else s.eccLog
    errLog := if cold then [] else s.errLog }
  let zero : List Field := [.X_CHIPRST, .X_CHIPRST_SRC, .X_WAKE, .X_IDLE, .X_READY, .X_PM_FROM, .X_PM_AP,
    .X_FLUSH, .X_FLUSH_SHORT, .X_FLUSHED, .X_HU_TRIG, .X_FLUSH_BAND, .X_HU_NONE]
  forEach zero s fun f s => s.put f 0

/-- Sets a level the block drives. -/
def State.setMainEn (s : State) (on : Bool) : State :=
  if s.flag .X_MAIN_EN = on then s else (s.putFlag .X_MAIN_EN on).emit (.pin "MAIN_EN" on)

/-- Leaves the powered modes: registers, SRAM and DRAM are lost (R485), and with them ERR_N. -/
def State.losePower (s : State) (mode cause : Nat) : State :=
  let s := if s.flag .FC_STS_ERR_N then s.emit (.pin "ERR_N" false) else s
  let s := (s.endBrownout.clearDomains true).put .X_KEEP_CAUSE cause
  ((s.put .PM_MODE_CAUSE cause).put .PM_MODE_MODE mode).put .PM_MODE_TARGET mode

/-- The warning windows, PM_PATROL_CFG and PM_PATROL_MASK are copied into the AUX domain (R511). -/
def State.copyAux (s : State) : State :=
  let s := ((s.put .X_PAT_PERIOD (s.get .PM_PATROL_CFG_PERIOD)).put .X_PAT_ERR (s.get .PM_PATROL_CFG_ERR_EN)).put .X_PAT_WAKE
    (s.get .PM_PATROL_CFG_WAKE_EN)
  let s := s.put .X_PAT_MASK (s.get .PM_PATROL_MASK)
  forEach (List.range 48) s fun n s => (s.put .X_PAT_HI (s.get .HK_WIN_HI n) n).put .X_PAT_LO (s.get .HK_WIN_LO n) n

/-- Enters Patrol from a powered mode (R507 to R509, R511). -/
def State.enterPatrol (s : State) (cause : Nat) : State :=
  let s := (s.copyAux).losePower mPatrol cause
  let s := (s.put .PM_PATROL_STS_ROUNDS 0).put .PM_PATROL_STS_VIOLATIONS 0
  -- thermal shut-down and SHUTDOWN release MAIN_EN (R508, R509)
  let s := if cause = 3 || cause = 4 then s.setMainEn false else s
  s.putFlag .X_THERM_LOCK (decide (cause = 3))

/-- The AUX domain is unpowered: MAIN_EN falls and the copies of R511 are gone. -/
def State.dropAux (s : State) : State :=
  { s.setMainEn false with regs := (s.setMainEn false).regs.filter fun x => match x.1.f with
      | .X_PAT_PERIOD | .X_PAT_ERR | .X_PAT_WAKE | .X_PAT_MASK | .X_PAT_HI | .X_PAT_LO => false
      | _ => true }

/-- What follows a Hold-up (R507, R508, R509). -/
def State.afterHoldup (s : State) (trig : Nat) : State :=
  if trig = 3 || trig = 4 then s.enterPatrol trig
  else if !s.flag .X_PFAIL && s.flag .X_MAIN_PG then
    let s := (s.put .X_KEEP_CAUSE trig).put .PM_MODE_CAUSE trig
    ((((s.put .X_CHIPRST 1).put .X_CHIPRST_SRC 7).putFlag .FC_STS_CR_VALID false).putFlag .X_FLUSHED true).putFlag .X_FLUSH false
  else if s.flag .X_VAUX then s.enterPatrol trig
  else (s.losePower mKeep trig).dropAux

/-! ### The flush (R536 to R540) -/

/-- Media stop (R538): suspended programs resume, erases in progress are suspended, every other media work ends. -/
def State.stopMedia (s : State) : State :=
  let s := forEach s.dies s fun d s =>
    let op := s.get .X_DIE_OP d
    let s := if s.flag .X_DIE_RD d then
        (forEach (s.calls.filter fun c => c.die = d && (c.call = callRead || c.call = callMargin)) s fun c s =>
          s.failCall c true stDieAbsent).putFlag .X_DIE_RD false d
      else s
    if op = 1 && s.flag .X_DIE_SUSP d then (s.putFlag .X_DIE_SUSP false d).emit (.dieOp d callResume)
    else if op = 2 && !s.flag .X_DIE_SUSP d then ((s.suspendDie d false).endSuspends d 0).emit (.dieOp d callSuspend)
    else s
  { s.restRecovs with plans := [], ladders := [], hedges := [], deepJobs := [], copies := [], staged := [] }

/-- A program is in progress. -/
def State.programming (s : State) : Bool := s.dies.any fun d => s.get .X_DIE_OP d = 1

/-- Two dies of a cluster with a counted RESERVED block each (R529) on channels the write window admits (R353), of one geometry. -/
def State.flushPair (s : State) (c : Nat) : List (Nat × Nat) :=
  let l := (s.countedDies c).filter fun d => s.dieAvailable d && !s.chDenied (dieChannel d)
  match l with
  | [] => []
  | x :: _ =>
    ((l.filter fun d => s.wlb (dieChannel d) = s.wlb (dieChannel x) && s.planes (dieChannel d) = s.planes (dieChannel x)).take 2).map
      fun d => (d, (s.reservedOf d).headD 0)

/-- Opens an SLC band of a kind from RESERVED blocks (R529, R536, R359): none when two clusters can take no member. -/
def State.openFlushBand (s : State) (kind : Nat) : Option State :=
  match (List.range 8).filter fun c => (s.flushPair c).length < 2 with
  | [] => let rot := s.get .X_ROT
    some (s.addBand kind 0 rot ((List.range 16).map fun m => (s.flushPair ((m / 2 + rot) % 8))[m % 2]?))
  | [rot] => some (s.addBand kind 0 rot ((List.range 16).map fun m =>
      if m < 2 then none else (s.flushPair ((m / 2 + rot) % 8))[m % 2]?))
  | _ => none

/-- The oldest dirty granule or packed block of the write buffer, in WSEQ order (R536, step 6). -/
def State.oldestDirty (s : State) : Option WUnit :=
  match s.wbuf.filter fun w => w.host.isSome && !w.programmed && w.unit.rcd.first with
  | [] => none
  | w :: l => some (l.foldl (fun m x => if x.unit.rcd.wseq < m.unit.rcd.wseq then x else m) w)

/-- The write window denies the channel of no member of a band. -/
def State.undenied (s : State) (b : Band) : Bool := b.members.all fun m => m.all fun x => !s.chDenied (dieChannel x.1)

/-- A band with room for a flushed granule: a CACHE band that the flush opened, without a member the write window denies, or a new one
from counted RESERVED blocks (R536, R541). -/
def State.flushBand (s : State) (len : Nat) : Option (Band × State) :=
  match s.bands.find? fun b => b.isOpen && b.kind = kindCache && decide (s.get .X_FLUSH_BAND ≤ b.id) && !b.closed
      && decide (b.pos + len ≤ s.bandCap b) && s.undenied b with
  | some b => some (b, s)
  | none => (s.openFlushBand kindCache).bind fun t => (t.bands.getLast?).bind fun b =>
      if b.pos + len ≤ t.bandCap b then some (b, t) else none

/-- Programs one dirty granule or block into a CACHE band, and its entries follow it (R536, step 6). -/
def State.flushOne (s : State) (w : WUnit) : Option State :=
  let r := w.unit.rcd
  let units := s.wbuf.filter fun x => x.unit.rcd.wseq = r.wseq && x.unit.rcd.node = r.node && x.unit.rcd.g = r.g
    && x.unit.rcd.band = r.band
  match s.flushBand r.len with
  | none => none
  | some (b, s) =>
    let a := s.allocIn b r.len r.wseq
    let s := a.2
    let new := bufUnits { r with band := b.id } w.host none true a.1 (units.map fun x => x.unit.data)
    let s := forEach new s fun x s => s.flashPut x.place x.unit
    let s : State := { s with wbuf := (s.wbuf.filter fun x => !units.contains x) ++ new.map fun x => { x with programmed := true } }
    let dirty := 4096 * (units.filter fun x => !x.programmed).length
    let s := (s.dirtySub dirty).add .HU_CNT_FLUSH_BYTES dirty
    let p := a.1.headD 0
    some (forEach (List.range (if r.kind = 2 then 16 else 1)) s fun k s =>
      let e := s.mapGet r.node (r.g + k)
      if eState e = 1 && ePlace e = w.place && !eLost e then s.mapPut r.node (r.g + k) (e - w.place + p) else s)

/-- Flushes at most `n` dirty granules. -/
def State.flushSome (s : State) : Nat → State
  | 0 => s
  | n + 1 => match s.oldestDirty with
    | none => s
    | some w => match s.flushOne w with
      | some t => t.flushSome n
      | none => s

/-- The word an entry had before the records that name a place not programmed: the last journalled one that names another, else the
flash copy's (R539). -/
def State.oldWord (s : State) (node g : Nat) (lost : Nat → Bool) : Nat :=
  match (s.jnl.filter fun r => r.type = 0x01 && r.node = node && r.a = g && !lost r.b).getLast? with
  | some r => r.b
  | none =>
    let q := s.flashPage node (g / 2048)
    if lost (q.word (g % 2048)) then 0 else q.word (g % 2048)

/-- Changes an entry in the line that holds it, if there is one. -/
def State.setWord (s : State) (node g e : Nat) : State :=
  match s.line? node (g / 8) with
  | some x => s.setLine { x with words := x.words.set (g % 8) e }
  | none => s

/-- Dirty granules that were not programmed read their old data (R539, R540): their records are not written, and they leave the
write buffer. -/
def State.loseDirty (s : State) : State :=
  let gone := s.wbuf.filter fun w => w.host.isSome && !w.programmed
  let lost (e : Nat) : Bool := eState e = 1 && gone.any fun w => w.place = ePlace e
  let s := forEach (gone.filter fun w => w.unit.rcd.first) s fun w s =>
    let r := w.unit.rcd
    forEach (List.range (if r.kind = 2 then 16 else 1)) s fun k s =>
      let e := s.mapGet r.node (r.g + k)
      if lost e then
        let old := s.oldWord r.node (r.g + k) lost
        (s.pagePut r.node (r.g + k) old).setWord r.node (r.g + k) old
      else s
  { s with
    jnl := s.jnl.filter fun r => !(r.type = 0x01 && !r.prog && lost r.b)
    wbuf := s.wbuf.filter fun w => !gone.contains w }

/-- The J96's own map pages in the write buffer are programmed with the tables (R536, step 9). -/
def State.programTables (s : State) : State :=
  let mine (w : WUnit) : Bool := w.unit.rcd.kind = 3 && !w.programmed
  let t := forEach (s.wbuf.filter mine) s fun w t => t.flashPut w.place w.unit
  { t with wbuf := t.wbuf.map fun w => if mine w then { w with programmed := true } else w }

/-- Every dirty page of the map is written, into MAP bands of RESERVED blocks where none is open, and CHECKPOINT journalled (R509). -/
def State.checkpointAll (s : State) : State :=
  let s := s.settleMap
  let s := forEach s.pages s fun p s =>
    let s := if (s.openBand kindMap 4).isNone then (s.openFlushBand kindMap).getD s else s
    s.writePage p
  s.checkpoint

/-- Steps 7 to 9 of R536: open rows are sealed, the journal is programmed, SEC_TIME_FLOOR and the keep memory are written. Under media
brown-out step 7 is passed over (R541). -/
def State.sealAndWrite (s : State) : State :=
  let opened := if s.flag .X_BROWNOUT then [] else (s.bands.filter fun b => b.isOpen).map fun b => b.id
  let s := forEach opened s.programTables fun id s =>
    match s.bands.find? fun b => b.id = id with
    | some b => s.sealRows b
    | none => s
  let s := ({ s with jnl := s.jnl.map fun r => { r with prog := true } } : State).keepReads
  let s := if s.flag .CAL_STS_VALID && decide (s.get .SEC_TIME_FLOOR < s.calRaw / 65536) then s.put .SEC_TIME_FLOOR (s.calRaw / 65536) else s
  ((s.put .X_KEEP_FLOOR (s.get .SEC_TIME_FLOOR)).put .X_KEEP_MONO (s.get .SEC_MONO)).put .X_KEEP_SEQ (s.get .X_JNLSEQ)

/-- The store can give nothing to a flush: it was DISABLED or in FAULT when Hold-up was entered (R540). A FAULT met later stops no release
(R520). -/
def State.noStore (s : State) : Bool := s.flag .X_HU_NONE

/-- A granule of a write is received and not yet stored. -/
def State.granOwed (s : State) (c : Cmd) : Bool := c.parts.any fun p => !p.done && s.granReceived c p.pos

/-- Every write that has received a granule puts it into the write buffer; then no command is left (R115, R537). The bands opened from
here on are those of the flush. -/
def State.dropAllCommands (s : State) : State :=
  let s := s.put .X_FLUSH_BAND (s.get .X_BANDSEQ)
  let s := forEach ((s.cmds.filter fun c => c.isWrite && (c.st = .admitted || c.st = .planned)).map fun c => c.id) s fun id s =>
    let s := match s.cmd? id with
      | some c => s.setCmd { c with covered := false, unc := c.parts.map fun (p : Part) => p.pos }
      | none => s
    let s := if (s.cmd? id).any s.granOwed && (s.openBand kindCache 16).isNone then (s.openFlushBand kindCache).getD s else s
    let s := s.commitReceived id
    match s.cmd? id with
    | some c => s.releaseAlloc c
    | none => s
  { s with cmds := [], holds := [], grants := [], dataWin := [], engJobs := [], armed := s.armed.filter fun a => match a.act with
      | .pin _ => false
      | _ => true }

/-- A loss of power before every controller in use was shut down, which SMART counts (R171). -/
def State.unsafeLoss (s : State) (trig : Nat) : Bool :=
  decide (trig ≤ 2) && (List.range 264).any fun f => s.flag .X_CSTS_RDY f && s.get .X_CSTS_SHST f ≠ 2

/-- Hold-up is entered (R37, R507, R535 to R538, R541). During start-up it ends it without a flush (R620); a second trigger, or one without
main rails, changes nothing. Pending power requests are refused; a RUNNING one is not waited for, since R488 gives 2 µs (DEDUCED, log
entry 68). -/
def State.enterHoldup (s : State) (trig : Nat) : State :=
  if !s.powered || s.mode = mHoldup then s
  else if !s.flag .X_READY then s.loseReads.afterHoldup trig
  else
    let s := if s.unsafeLoss trig then s.bump .X_SM_US else s
    let s := s.refusePower
    let s := if s.get .PM_MODE_MOVE = 1 then
        (s.wake uHousekeeping wakePreempt).abandonEntry (s.get .X_PM_AP)
      else s.ungate
    let s := ((s.put .PM_MODE_MODE mHoldup).put .PM_MODE_MOVE 0).put .PM_MODE_TARGET mHoldup
    let s := (s.put .X_HU_TRIG trig).bump .HU_CNT_HOLDUP
    let testing := s.hu = huTesting
    let s := s.putFlag .X_HU_NONE (s.hu = huDisabled || s.get .HU_STS_FAULT ≠ 0)
    let s := if s.hu = huDisabled || s.get .HU_STS_FAULT ≠ 0 then s.put .HU_STS_STATE (if s.hu = huDisabled then huDisabled else huFault)
      else s.put .HU_STS_STATE huReleasing
    -- the allowance keeps the value computed for a test that ends here (R524)
    let s := if testing then s.putFlag .HU_CTL_TEST_NOW false else s
    (((s.putFlag .X_FLUSH true).putFlag .X_FLUSH_SHORT false).shedHosts.stopMedia).dropAllCommands

/-- PFAIL_N (R535). -/
def execPfailN (s : State) : Host.Outcome State Fault Refusal := .next ((s.putFlag .X_PFAIL true).enterHoldup 1)

/-- PFAIL_N_DEASSERT (R541): what it changes is where the sequence ends (R507). -/
def execPfailNDeassert (s : State) : Host.Outcome State Fault Refusal := .next (s.putFlag .X_PFAIL false)

/-- SUPPLY_BROWNOUT (R535). Which rail fell makes no difference here. -/
def execSupplyBrownout (_rail : Nat) (s : State) : Host.Outcome State Fault Refusal := .next (s.enterHoldup 2)

/-- FLUSH_ENERGY_CHECK (R539): since the check before, so many granules have been programmed; `fixedDone` mJ of the fixed work are done,
and the bank has `eAvail` mJ. -/
def execFlushEnergyCheck (granules fixedDone eAvail : Nat) (s : State) : Host.Outcome State Fault Refusal :=
  if s.mode ≠ mHoldup || !s.flag .X_FLUSH || s.flag .X_FLUSH_SHORT || s.noStore || s.flag .X_BROWNOUT then .next s
  else
    let s := s.flushSome granules
    let need := (s.get .HU_ALLOW_CFG_E_FIXED - fixedDone) * 1000000000 + s.get .HU_ALLOW_CFG_E_BYTE * s.get .HU_DIRTY
    .next (if eAvail * 1000000000 < need then s.putFlag .X_FLUSH_SHORT true else s)

/-- The flush to its end: what is left is programmed, unless the step ended early, the store gave nothing or media brown-out forbids
it. Answers whether a dirty granule was lost. -/
def State.finishFlush (s : State) (mains : Bool) : Bool × State :=
  let s := if s.flag .X_FLUSH_SHORT || (!mains && s.noStore) || s.flag .X_BROWNOUT then s else s.flushSome s.wbuf.length
  let lost := s.wbuf.any fun w => w.host.isSome && !w.programmed
  (lost, ((s.loseDirty).sealAndWrite).put .HU_DIRTY 0)

/-- FLUSH_END (R507, R536 step 10, R539, R540): `duration` × 10 µs after the trigger. Every program has ended by then. -/
def execFlushEnd (duration : Nat) (s : State) : Host.Outcome State Fault Refusal :=
  if s.mode ≠ mHoldup || !s.flag .X_FLUSH || s.programming then .next s
  else
    let trig := s.get .X_HU_TRIG
    let none := s.noStore
    let r := s.finishFlush false
    let short := r.1 && !none
    -- SHUTDOWN journals a CHECKPOINT (R509)
    let s := if trig = 4 then r.2.checkpointAll.sealAndWrite else r.2
    let s := ((s.put .HU_LAST_OUTCOME (if none then 3 else if short then 2 else 1)).put .HU_LAST_TRIGGER trig).put .HU_LAST_DURATION
      (min duration 0xFFFFFE)
    let s := if short then s.putFlag .X_SHORT_OWED true else s
    .next (s.afterHoldup trig)

end Sys2Proof.Machine
end

