-- ==== Sys2Proof/Machine/Housekeeping.lean ====
section
/-! DEFINITION. Housekeeping rounds, junction temperature, adaptive voltage, and the calendar clock (15; R503, R516, R520, R523,
R547 to R553, R554 to R561). -/

namespace Sys2Proof.Machine

/-! ### Windows of the channels (R543, R545, R546) -/

/-- The out-of-window source of a channel (R565). -/
def oowSrc (n : Nat) : Nat := if n < 24 then 96 + n else 104 + n

/-- A conversion of a channel succeeds: value, age and window flags; leaving the window is an event (R546). -/
def State.sampleChannel (s : State) (n : Nat) (v : Int) : State :=
  let above := decide (ofField 16 (s.get .HK_WIN_HI n) < v)
  let below := decide (v < ofField 16 (s.get .HK_WIN_LO n))
  let was := s.flag .HK_VAL_ABOVE n || s.flag .HK_VAL_BELOW n
  let s := ((s.put .HK_VAL_VALUE (toField 16 v) n).putFlag .HK_VAL_VALID true n).put .HK_VAL_AGE 0 n
  let s := (s.putFlag .HK_VAL_ABOVE above n).putFlag .HK_VAL_BELOW below n
  if above || below then (if was then s else (s.bump .HK_CNT_OOW).raise (oowSrc n) uHousekeeping n)
  else s.clearLevel (oowSrc n)

/-- A round passes without a successful conversion of a channel. -/
def State.ageChannel (s : State) (n : Nat) : State := s.put .HK_VAL_AGE (min (s.get .HK_VAL_AGE n + 1) 255) n

/-- A conversion of a channel fails (R545). -/
def State.failChannel (s : State) (n : Nat) : State := ((s.ageChannel n).putFlag .HK_STS_SENSOR_FAULT true).raise 122 uHousekeeping n

/-- One channel of a round. A remote-diode input that is not fitted is not converted and reads VALID 0. -/
def State.roundChannel (s : State) (n : Nat) (v : Option Int) : State :=
  if 16 ≤ n && decide (n < 24) && !s.flag .HK_RD_CFG_EN (n - 16) then (s.ageChannel n).putFlag .HK_VAL_VALID false n
  else match v with
    | some v => s.sampleChannel n v
    | none => s.failChannel n

/-- The value of a channel, signed. -/
def State.hkVal (s : State) (n : Nat) : Int := ofField 16 (s.get .HK_VAL_VALUE n)

/-! ### Junction temperature (R503, R547) -/

/-- The junction sensors the rules act on. -/
def State.tjSensors (s : State) : List Nat :=
  (List.range 16).filter fun n => s.flag .HK_VAL_VALID n && decide (s.get .HK_VAL_AGE n ≤ 3)

/-- The hottest of some sensors. -/
def State.hottest (s : State) : List Nat → Nat
  | [] => 0
  | x :: l => l.foldl (fun m n => if s.hkVal m < s.hkVal n then n else m) x

/-- Tj in 1/16 °C and the sensor it comes from; with fewer than 12 sensors Tj stands at the throttle threshold (R547). -/
def State.junction (s : State) : Int × Nat :=
  let l := s.tjSensors
  let h := s.hottest l
  if l.length < 12 then ((16 * s.get .HK_TJ_THR_THROT : Nat), h) else (s.hkVal h, h)

/-- WARN, S_T and what follows from them (R503, R547, R501). -/
def State.junctionRules (s : State) : State :=
  let few := decide (s.tjSensors.length < 12)
  let j := s.junction
  let deg (f : Field) : Int := (16 * s.get f : Nat)
  let hyst := deg .HK_TJ_THR_HYST
  let s := s.put .HK_STS_HOT j.2
  let s := if few then (s.putFlag .HK_STS_SENSOR_FAULT true).raise 122 uHousekeeping
      (((List.range 16).find? fun n => !s.tjSensors.contains n).getD 0)
    else s
  let s := if deg .HK_TJ_THR_WARN ≤ j.1 then
      if s.flag .HK_STS_WARN then s
      else (((s.putFlag .HK_STS_WARN true).bump .HK_CNT_WARN).raise 120 uHousekeeping j.2).wake uHousekeeping wakeEvent
    else if j.1 ≤ deg .HK_TJ_THR_WARN - hyst then (s.putFlag .HK_STS_WARN false).clearLevel 120
    else s
  let hot := decide (deg .HK_TJ_THR_THROT ≤ j.1)
  let s := if hot && !s.flag .X_TJ_HOT then s.wake uHousekeeping wakeEvent else s
  let s := s.putFlag .X_TJ_HOT hot
  let t := s.get .PM_THR_STS_S_T
  let step := s.get .PM_THR_CFG_STEP
  let t := if hot then max (s.get .PM_THR_CFG_S_MIN) (t - step)
    else if j.1 ≤ deg .HK_TJ_THR_THROT - hyst then min 256 (t + step) else t
  let s := (s.put .PM_THR_STS_S_T t).putFlag .HK_STS_THROTTLING (decide (t < 256))
  if t < 256 then s.bump .HK_CNT_THR_ROUNDS else s

/-- Thermal shut-down (R508, R547, R548): SHUT_SEEN, its source, and Hold-up. -/
def State.thermalShut (s : State) (sensor : Nat) : State :=
  ((s.putFlag .HK_STS_SHUT_SEEN true).raise 121 uHousekeeping sensor).enterHoldup 3

/-- THERMAL_SHUT_DOWN (R548): a comparator trips. -/
def execThermalShutDown (sensor : Nat) (s : State) : Host.Outcome State Fault Refusal :=
  .next (if s.powered then s.thermalShut (sensor % 16) else s)

/-! ### Adaptive core voltage (R551 to R553) -/

/-- The slowest VALID process monitor, MHz. -/
def State.slowest (s : State) : Option Nat :=
  match (List.range 8).filter fun k => s.flag .HK_VAL_VALID (36 + k) with
  | [] => none
  | x :: l => some (l.foldl (fun m k => min m (s.get .HK_VAL_VALUE (36 + k))) (s.get .HK_VAL_VALUE (36 + x)))

/-- A new target is written over AVSBus (R551, R553). -/
def State.avsWrite (s : State) (mv : Nat) (ack : Bool) : State :=
  if mv = s.get .HK_AVS_STS_TARGET then s
  else (((s.put .HK_AVS_STS_TARGET mv).bump .HK_CNT_AVS_STEPS).emit (.avs mv)).putFlag .X_AVS_NAK (!ack)

/-- What a round takes as the next target (R551): up at once, down after 4 rounds running in which the monitors were fast, which each
further such round repeats; no step down while AVS_FAULT is set (R553). In a mode without AVS, and with EN = 0, the target is held. -/
def State.avsTarget (s : State) (ack : Bool) : State :=
  match s.slowest with
  | none => s
  | some f =>
    let s := s.put .HK_AVS_STS_F_SLOW f
    if !s.flag .HK_AVS_CFG0_EN || !(s.mode = mReady || s.mode = mRun || s.mode = mThrottle) then s.put .X_AVS_HIGH 0
    else
      let t := s.get .HK_AVS_STS_TARGET
      let want := s.get .HK_AVS_CFG0_F_TARGET
      let band := s.get .HK_AVS_CFG0_DEADBAND
      let high := decide (want + band < f)
      let s := s.put .X_AVS_HIGH (if high then min 4 (s.get .X_AVS_HIGH + 1) else 0)
      if f + band < want then s.avsWrite (min (t + 5) (s.get .HK_AVS_CFG1_V_MAX)) ack
      else if s.get .X_AVS_HIGH = 4 && !s.flag .HK_STS_AVS_FAULT then s.avsWrite (max (t - 5) (s.get .HK_AVS_CFG1_V_MIN)) ack
      else s

/-- The AVS step of a round (R551, R553): VCORE is held against the target in force, and the target follows the slowest monitor. -/
def State.avsStep (s : State) (ack : Bool) : State :=
  let off := s.flag .HK_VAL_VALID 24 && decide (25 < (s.hkVal 24 - (s.get .HK_AVS_STS_TARGET : Int)).natAbs)
  let s := (s.put .X_AVS_OFF (if off then min 3 (s.get .X_AVS_OFF + 1) else 0)).avsTarget ack
  if s.flag .X_AVS_NAK || s.get .X_AVS_OFF = 3 then (s.putFlag .HK_STS_AVS_FAULT true).raise 123 uHousekeeping 0
  else s.clearLevel 123

/-! ### The write window and the hold-up store in a round (R351, R516, R520, R523) -/

/-- Which channels the write window refuses from this round on (R351): one refused before is admitted 2 °C inside. -/
def State.updateWindow (s : State) : State :=
  forEach (List.range 96) s fun ch s =>
    if s.get .MS_CH_SENS_MASK ch = 0 then s
    else
      let ok := s.insideWindow ch (if s.flag .X_CH_DENIED ch then 2 else 0)
      let s := s.putFlag .X_CH_DENIED (!ok) ch
      if ok then s.clearLevel (cSrc (channelCluster ch) 13) else s.raise (cSrc (channelCluster ch) 13) (uChannel ch) 0

/-- The store in a round: measurements, SENSOR, the charging window, the retest on temperature, the end of a discharge. -/
def State.roundStore (s : State) : State :=
  if !s.flag .HU_CTL_PRESENT then s
  else
    let s := if s.flag .HK_VAL_VALID 44 then s.put .HU_MEAS0_V_BANK (s.get .HK_VAL_VALUE 44) else s
    match s.bankTemp with
    | none => s.huFail 6
    | some t =>
      let deg := t / 16
      let s := s.put .HU_MEAS0_T_BANK (toField 8 deg)
      let s := if (s.hu = huPrecharge || s.hu = huCharging || s.hu = huReady) && !s.chargeOk 0 then s.put .HU_STS_STATE huPaused
        else if s.hu = huPaused && s.chargeOk 2 then s.toCharging else s
      let s := if s.flag .X_HU_RAN && decide ((s.get .HU_TEST_CFG_DT : Int) ≤ ((deg - ofField 8 (s.get .X_HU_T_TEST)).natAbs : Int))
        then s.testDue else s
      if s.flag .X_HU_DISCH && decide (s.get .HU_MEAS0_V_BANK ≤ 10 * s.get .HU_MEAS2_V_TARGET) then s.putFlag .X_HU_DISCH false else s

/-! ### Health (R165, R168, R169) -/

/-- A temperature in 1/16 °C as whole kelvin; 0 where there is none. -/
def kelvin (t : Option Int) : Nat := t.elim 0 fun t => ((t + 273 * 16) / 16).toNat

/-- Sensor 2: the hottest flash remote diode. The input HU_CTL.TSENS names is the bank's and guards no channel (R543). -/
def State.hottestFlash (s : State) : Option Int :=
  (List.range 8).foldl (fun m j =>
    if s.get .HU_CTL_TSENS = j || !(List.range 96).any fun c => bit (s.get .MS_CH_SENS_MASK c) j then m
    else match m, s.diode j with
      | some a, some b => some (max a b)
      | none, x => x
      | x, none => x) none

/-- Sensor 1: the hottest junction sensor that has a value (R168). -/
def State.hottestJunction (s : State) : Option Int :=
  match s.tjSensors with
  | [] => none
  | l => some (s.hkVal (s.hottest l))

/-- The three sensors in kelvin. -/
def State.sensorK (s : State) : List Nat :=
  [kelvin s.hottestJunction, kelvin s.hottestFlash, if s.flag .HU_CTL_PRESENT then kelvin s.bankTemp else 0]

/-- Critical warning bit 1: a temperature at or over its over threshold, or at or under its under threshold (R165). -/
def State.tempWarning (s : State) (fn : Nat) : Bool :=
  let t := s.sensorK
  (List.range 4).any fun k =>
    let v := t.getD (k - 1) 0
    v ≠ 0 && (decide (s.get .X_FEAT_TT (fn * 8 + k * 2) ≤ v) || decide (v ≤ s.get .X_FEAT_TT (fn * 8 + k * 2 + 1)))

/-- Critical warning bit 4 (R169). -/
def State.backupWarning (s : State) : Bool := s.hu = huFault || s.hu = huPaused

/-- The critical warnings of a controller that the model has: bits 1 and 4. -/
def State.criticalWarning (s : State) (fn : Nat) : Nat := (if s.tempWarning fn then 2 else 0) + (if s.backupWarning then 16 else 0)

/-- A warning that has come on is a SMART / Health event of type 1 where the controller asks for it (R165, feature 0x0B): information 1 for
temperature, 0 for the backup; it names log 0x02. -/
def State.smartEvents (s : State) : State :=
  forEach (s.allFns.filter fun f => s.flag .X_CSTS_RDY f) s fun f s =>
    let old := s.get .X_SM_CW f
    let now := s.criticalWarning f
    let on (k : Nat) : Bool := bit now k && !bit old k && bit (s.get .X_FEAT_AEC f) k
    let s := s.put .X_SM_CW now f
    let s := if on 1 then s.asyncEvent f 1 1 0x02 else s
    if on 4 then s.asyncEvent f 1 0 0x02 else s

/-- What the recorder samples at a round (R581, R582). -/
def State.roundSamples (s : State) : State :=
  let s := forEach ((List.range 48).filter fun n => s.flag .HK_VAL_VALID n) s fun n s =>
    if n ≤ 24 then s.sampleBoth (n + 16) n (s.hkVal n) else s.sampleExt n (s.hkVal n)
  let e : Int := s.get .HU_MEAS2_E_AVAIL
  let dirty := s.get .HU_DIRTY
  let allow := s.get .HU_ALLOW
  let share := if allow = 0 then (if dirty = 0 then 0 else 100) else 100 * dirty / allow
  let s := (s.sampleBoth 41 54 e).sample 42 (share : Nat)
  let s := s.sampleExt 55 (dirty : Nat)
  let s := s.sampleBoth 44 56 (s.get .MC_GC_FREE : Nat)
  let s := s.sampleBoth 45 57 (s.get .MC_JNL_STS_USED : Nat)
  s.sampleExt 58 (s.get .HK_AVS_STS_TARGET : Nat)

/-- HOUSEKEEPING_ROUND (R544): `samples` holds what each channel converts to, none where a conversion fails; `avsAck` says whether the
regulator acknowledges an AVSBus write. The round runs in Retain and above, and in Hold-up. -/
def execHousekeepingRound (samples : List (Option Int)) (avsAck : Bool) (s : State) : Host.Outcome State Fault Refusal :=
  if !s.powered then .next s
  else
    let conv (l : List Nat) (s : State) : State := forEach l s fun n s => s.roundChannel n (samples.getD n none)
    let s := (conv (List.range 16) s).junctionRules
    let s := (conv ((List.range 28).map (16 + ·)) s).avsStep avsAck
    let s := ((conv [44, 45, 46, 47] s).updateWindow).roundStore
    let s := ((s.updateAllow.planExcess).smartEvents).roundSamples
    let s := s.bump .HK_ROUND
    let j := s.junction
    .next (if ((16 * s.get .HK_TJ_THR_SHUT : Nat) : Int) ≤ j.1 then s.thermalShut j.2 else s)

/-! ### Threshold and window writes (R549, R550, R562) -/

/-- A write of HK_TJ_THR. -/
def State.writeTjThr (s : State) (ag : Agent) (v : Nat) : State :=
  s.guardWrite ag .ownerMpWd fun s =>
    let hyst := bits v 27 24
    let shut := bits v 23 16
    let throt := bits v 15 8
    let warn := bits v 7 0
    if 1 ≤ hyst && decide (130 ≤ shut) && decide (shut ≤ 150) && decide (100 ≤ throt) && decide (throt ≤ 149)
        && decide (85 ≤ warn) && decide (warn ≤ 148) && decide (warn < throt) && decide (throt < shut) then s.writeRw ag .HK_TJ_THR v
    else s.unlessLocked ag [.HK_TJ_THR_HYST, .HK_TJ_THR_SHUT, .HK_TJ_THR_THROT, .HK_TJ_THR_WARN] fun s => s

def execHkTjThrWrite (ag : Agent) (value : Nat) (s : State) : Host.Outcome State Fault Refusal :=
  .next (s.atUnit uHousekeeping fun s => s.writeTjThr ag value)

/-- A write of HK_WWIN. -/
def State.writeWwin (s : State) (ag : Agent) (v : Nat) : State :=
  s.guardWrite ag .ownerMpWd fun s =>
    let hi := ofField 8 (bits v 15 8)
    let lo := ofField 8 (bits v 7 0)
    if ofField 8 (s.get .HK_WWIN_FUSE_LO) ≤ lo && decide (hi ≤ ofField 8 (s.get .HK_WWIN_FUSE_HI)) && decide (lo + 10 ≤ hi) then
      (s.writeRw ag .HK_WWIN v).updateAllow
    else s.unlessLocked ag [.HK_WWIN_HI, .HK_WWIN_LO] fun s => s

def execHkWwinWrite (ag : Agent) (value : Nat) (s : State) : Host.Outcome State Fault Refusal :=
  .next (s.atUnit uHousekeeping fun s => s.writeWwin ag value)

/-! ### The calendar (R554 to R561, R474) -/

/-- Seconds the calendar reads. -/
def State.calSec (s : State) : Nat := s.calRaw / 65536

/-- TIME_TRUSTED falls when the calendar is invalid or below SEC_TIME_FLOOR (R474). -/
def State.checkTrust (s : State) : State :=
  if !s.flag .CAL_STS_VALID || decide (s.calSec < s.get .SEC_TIME_FLOOR) then s.putFlag .SEC_STS_TIME_TRUSTED false else s

/-- The calendar counts `n` crystal cycles, and `trim` more or fewer (R554, R556). While it is invalid it does not count (R557). -/
def State.calAdvance (s : State) (n : Nat) (trim : Int) : State :=
  if s.flag .CAL_STS_VALID then s.put .CAL_TIME (((s.calRaw : Int) + 2 * ((n : Int) + trim)).toNat) else s

/-- TRIM, signed. -/
def State.trim (s : State) : Int := ofField 9 (s.get .CAL_TRIM_TRIM)

/-- CAL_TRIM_STEP (R556). While no tick runs, in Patrol and Keep, the step carries the 2^20 cycles themselves. -/
def execCalTrimStep (s : State) : Host.Outcome State Fault Refusal :=
  if s.mode = mOff then .next s else .next (s.calAdvance (if s.powered then 0 else 1048576) s.trim)

/-- CAL_OSC_STOP (R557, R474). -/
def execCalOscStop (s : State) : Host.Outcome State Fault Refusal :=
  if s.mode = mOff then .next s
  else
    let s := (s.putFlag .CAL_STS_VALID false).putFlag .CAL_STS_OSC_STOP true
    .next (if s.powered then s.checkTrust.raise 125 uHousekeeping 0 else s)

def almEn (k : Nat) : Field := if k = 0 then .CAL_ALM_CTL_EN0 else .CAL_ALM_CTL_EN1
def almWake (k : Nat) : Field := if k = 0 then .CAL_ALM_CTL_WAKE0 else .CAL_ALM_CTL_WAKE1
def almSts (k : Nat) : Field := if k = 0 then .CAL_STS_ALARM0 else .CAL_STS_ALARM1

/-- Seconds of an alarm. -/
def State.almSec (s : State) (k : Nat) : Nat := s.get .CAL_ALARM k

/-- An armed alarm that is not above the calendar is disarmed (R561). -/
def State.disarm (s : State) (k : Nat) : State :=
  if s.flag (almEn k) && decide (s.almSec k ≤ s.calSec) then s.putFlag (almEn k) false else s

/-- Both alarms, after a set or a write of the alarms' control. -/
def State.disarmPast (s : State) : State := (s.disarm 0).disarm 1

/-- Loads a time into the calendar (R558, R559, R561): the tick block, locked to the calendar, loses its source. -/
def State.loadCalendar (s : State) (time : Nat) (warden : Bool) : State :=
  let s := (s.put .CAL_TIME (time / 2 * 2)).put .X_CAL_TIME_NS 0
  let s := ((s.putFlag .CAL_STS_VALID true).putFlag .CAL_STS_OSC_STOP false).putFlag .CAL_STS_WARDEN_SET warden
  let s := if s.get .TK_SRC_SOURCE = 3 && s.get .TK_STS_LOCK = lockLocked then s.loseSource else s
  s.disarmPast.checkTrust

/-- CAL_CMD.SET (R558). -/
def State.setCalendar (s : State) (ag : Agent) : State :=
  s.guardWrite ag .ownerMpWd fun s =>
    if ag.isWd || !s.flag .SEC_STS_TIME_TRUSTED then s.loadCalendar (s.get .CAL_SET) ag.isWd
    else s.putFlag .CAL_STS_SET_REFUSED true

def execCalSet (ag : Agent) (s : State) : Host.Outcome State Fault Refusal :=
  .next (s.atUnit uHousekeeping fun s => s.setCalendar ag)

/-- CAL_ALARM (R561): in Patrol the alarm may assert MAIN_EN; in Keep it is only latched. -/
def execCalAlarm (k : Nat) (s : State) : Host.Outcome State Fault Refusal :=
  if 2 ≤ k ∨ s.mode = mOff ∨ !s.flag .CAL_STS_VALID ∨ !s.flag (almEn k) ∨ s.calSec < s.almSec k then .next s
  else
    let s := (s.putFlag (almSts k) true).putFlag (almEn k) false
    if s.powered then .next (s.raise 124 uHousekeeping k)
    else if s.mode = mPatrol && s.flag (almWake k) then .next (s.setMainEn true)
    else .next s

/-- A write of CAL_ALM_CTL (R561): an alarm written armed with a value not in the future is disarmed. -/
def State.writeAlmCtl (s : State) (ag : Agent) (v : Nat) : State :=
  s.guardWrite ag .ownerMpWd fun s => (s.writeRw ag .CAL_ALM_CTL v).disarmPast

/-- CAL_ALARM_ARM (R561): a write that sets ENk and leaves the other fields as they are. -/
def execCalAlarmArm (ag : Agent) (k : Nat) (s : State) : Host.Outcome State Fault Refusal :=
  if 2 ≤ k then .next s
  else .next (s.atUnit uHousekeeping fun s => s.guardWrite ag .ownerMpWd fun s => (s.putFlag (almEn k) true).disarm k)

/-! ### The calendar in BCD (R560) -/

/-- Two decimal digits. -/
def bcd2 (n : Nat) : Nat := n / 10 % 10 * 16 + n % 10

/-- Year, month and day of a count of days since 2000-01-01. -/
def civil (days : Nat) : Nat × Nat × Nat :=
  let z := days + 730425
  let era := z / 146097
  let doe := z % 146097
  let yoe := (doe - doe / 1460 + doe / 36524 - doe / 146096) / 365
  let doy := doe - (365 * yoe + yoe / 4 - yoe / 100)
  let mp := (5 * doy + 2) / 153
  let d := doy - (153 * mp + 2) / 5 + 1
  let m := if mp < 10 then mp + 3 else mp - 9
  (yoe + 400 * era + (if m ≤ 2 then 1 else 0), m, d)

/-- The calendar is shown in BCD: it is valid and not past the year 9999. -/
def State.bcdShown (s : State) : Bool := s.flag .CAL_STS_VALID && decide (s.calSec / 86400 < 2921940)

/-- CAL_BCD0. -/
def State.bcd0 (s : State) : Nat :=
  let t := s.calSec % 86400
  if s.bcdShown then (s.calSec / 86400 + 6) % 7 * 2 ^ 24 + bcd2 (t / 3600) * 65536 + bcd2 (t / 60 % 60) * 256 + bcd2 (t % 60) else 0

/-- CAL_BCD1. -/
def State.bcd1 (s : State) : Nat :=
  let c := civil (s.calSec / 86400)
  if s.bcdShown then (bcd2 (c.1 / 100) * 256 + bcd2 c.1) * 65536 + bcd2 c.2.1 * 256 + bcd2 c.2.2 else 0

/-- A read of CAL_BCD0 latches CAL_BCD1 (R560). -/
def State.latchBcd (s : State) : State :=
  let v := s.bcd1
  ((s.put .CAL_BCD1_YEAR (v / 65536)).put .CAL_BCD1_MONTH (v / 256 % 32)).put .CAL_BCD1_DAY (v % 64)

/-- CAL_BCD0_READ (R560). -/
def execCalBcd0Read (ag : Agent) (s : State) : Host.Outcome State Fault Refusal :=
  let r := s.readAt uHousekeeping 4 fun s => (s.bcd0, s.latchBcd)
  .next (r.2.emit (.readData ag 0x38020 4 r.1))

end Sys2Proof.Machine
end

