-- ==== Sys2Proof/Machine/Recorder.lean ====
section
/-! DEFINITION. The fault collector's windows, acknowledgement and configuration, and the event recorder's freeze, clear, configuration
and image (16; R173). Events and reactions themselves are in Machine/Faults.lean. -/

namespace Sys2Proof.Machine

/-! ### The fault collector (R568, R569, R574, R576) -/

/-- FAULT_WINDOW_CLOSE (R568): at a boundary W ticks after it opened; a level source still present opens a new one with a full event. -/
def execFaultWindowClose (src : Nat) (s : State) : Host.Outcome State Fault Refusal :=
  if s.get .FC_SRC_WCNT_WCNT src = 0 || decide (s.tick < s.get .FC_SRC_WSTART src + s.get .FC_SRC_WIN_W src) then .next s
  else
    let s := s.closeWindow src
    .next (if (srcRow src).level && s.flag .X_SRC_PRESENT src then s.event src (s.get .X_SRC_UNIT src) (s.get .X_SRC_VALUE src) else s)

/-- The sources of a group that a write names, reserved ones left out. -/
def groupSources (g v : Nat) : List Nat :=
  ((List.range 32).filter fun i => bit v i && decide (g < 10) && !srcReserved (32 * g + i)).map (32 * g + ·)

/-- A W1C to FC_STICKY (R574): a level source whose condition holds keeps its bit. -/
def State.clearSticky (s : State) (ag : Agent) (g v : Nat) : State :=
  s.guardWrite ag .ownerMpWd fun s => forEach (groupSources g v) s fun src s =>
    if (srcRow src).level && s.flag .X_SRC_PRESENT src then s else s.putFlag .FC_SRC_STATE_STICKY false src

def execFcStickyClear (ag : Agent) (g value : Nat) (s : State) : Host.Outcome State Fault Refusal :=
  .next (s.atUnit uChip fun s => s.clearSticky ag g value)

/-- A W1C to FC_UNACK (R574, R576). -/
def State.acknowledge (s : State) (ag : Agent) (g v : Nat) : State :=
  s.guardWrite ag .ownerMpWd fun s =>
    (forEach (groupSources g v) s fun src s => s.putFlag .FC_SRC_STATE_UNACK false src).updateErrN

def execFcUnackClear (ag : Agent) (g value : Nat) (s : State) : Host.Outcome State Fault Refusal :=
  .next (s.atUnit uChip fun s => s.acknowledge ag g value)

/-- The source an agent has selected. -/
def State.selSource (s : State) (ag : Agent) : Nat := s.get .FC_SEL_SOURCE 0 ag.ix

/-- A write of FC_SRC_CFG (R569, R578): N changed closes the window; ERR_EN acts on ERR_N. -/
def State.writeSrcCfg (s : State) (ag : Agent) (v : Nat) : State :=
  s.guardWrite ag .ownerMpWd fun s =>
    let src := s.selSource ag
    if srcReserved src then s
    else if decide (4 < bits v 10 8) || bits v 7 0 = 0 then
      s.unlessLocked ag [.FC_SRC_CFG_ERR_EN, .FC_SRC_CFG_REACT, .FC_SRC_CFG_N] (fun s => s) src
    else
      let t := s.writeRw ag .FC_SRC_CFG v src
      (if t.get .FC_SRC_CFG_N src = s.get .FC_SRC_CFG_N src then t else t.closeWindow src).updateErrN

/-- A write of FC_SRC_WIN (R569, R578). -/
def State.writeSrcWin (s : State) (ag : Agent) (v : Nat) : State :=
  s.guardWrite ag .ownerMpWd fun s =>
    let src := s.selSource ag
    let w := v % 2 ^ 32
    if srcReserved src then s
    else if w = 0 || w = 0xFFFFFFFF then s.unlessLocked ag [.FC_SRC_WIN_W] (fun s => s) src
    else
      let t := s.writeRw ag .FC_SRC_WIN v src
      if t.get .FC_SRC_WIN_W src = s.get .FC_SRC_WIN_W src then t else t.closeWindow src

/-- FC_SRC_CFG_WRITE (R569): of FC_SRC_CFG, or of FC_SRC_WIN. -/
def execFcSrcCfgWrite (ag : Agent) (window : Bool) (value : Nat) (s : State) : Host.Outcome State Fault Refusal :=
  .next (s.atUnit uChip fun s => if window then s.writeSrcWin ag value else s.writeSrcCfg ag value)

/-! ### Freezing and clearing the recorder (R585, R586) -/

/-- A write of an agent's ER_FREEZE. -/
def State.writeFreeze (s : State) (ag : Agent) (freeze : Bool) : State :=
  s.guardWrite ag .ownerMpWd fun s => s.putFlag .ER_FREEZE_FREEZE freeze 0 ag.ix

def execErFreezeWrite (ag : Agent) (freeze : Bool) (s : State) : Host.Outcome State Fault Refusal :=
  .next (s.atUnit uChip fun s => s.writeFreeze ag freeze)

/-- FREEZE_TIMEOUT (R585): FREEZE_MAX ms have passed since the agent's FREEZE was set. -/
def execFreezeTimeout (ag : Agent) (s : State) : Host.Outcome State Fault Refusal :=
  .next (if s.flag .ER_FREEZE_FREEZE 0 ag.ix then (s.putFlag .ER_FREEZE_FREEZE false 0 ag.ix).putFlag .ER_STS_FREEZE_TIMEOUT true else s)

/-- Empties the recorder (R586): bins, extremes and ER_LOST; ER_CLEARED takes the tick. -/
def State.emptyRecorder (s : State) : State :=
  let t : State := { s with regs := s.regs.filter fun x => match x.1.f with
    | .X_HIST_BIN | .X_EXT_MIN | .X_EXT_MINT | .X_EXT_MAX | .X_EXT_MAXT => false
    | _ => true }
  (((t.put .ER_LOST 0).put .ER_CLEARED s.tick).putFlag .ER_STS_CLEAR_PENDING false).putFlag .ER_CTL_CLEAR false

/-- A clear: at once, or pending while any FREEZE is held (R586). -/
def State.clearRecorder (s : State) : State :=
  if s.frozen then (s.putFlag .ER_STS_CLEAR_PENDING true).putFlag .ER_CTL_CLEAR true else s.emptyRecorder

/-- RECORDER_CLEAR (R586): PF0 holding the Owner role, or the Warden. -/
def execRecorderClear (ag : Agent) (s : State) : Host.Outcome State Fault Refusal :=
  .next (s.atUnit uChip fun s => s.guardWrite ag .ownerWd fun s => s.clearRecorder)

/-- RECORDER_CLEAR_PENDING (R586). -/
def execRecorderClearPending (s : State) : Host.Outcome State Fault Refusal :=
  .next (if s.flag .ER_STS_CLEAR_PENDING && !s.frozen then s.emptyRecorder else s)

/-! ### Histogram configuration (R581, R587, R588) -/

/-- Empties a histogram. -/
def State.emptyHist (s : State) (h : Nat) : State :=
  { s with regs := s.regs.filter fun x => !(x.1.f = .X_HIST_BIN && x.1.i / 32 = h) }

/-- A write of ER_HCFG, ER_HLOWER or ER_HWIDTH for the histogram an agent has selected; an unused histogram's are ignored. -/
def State.writeHist (s : State) (ag : Agent) (r : Reg) (v : Nat) : State :=
  s.guardWrite ag .ownerMpWd fun s =>
    let h := s.get .ER_HSEL_ID 0 ag.ix
    if 50 ≤ h || (r = .ER_HWIDTH && (v % 2 ^ 32 = 0 || decide (0x7FFFFFFF < v % 2 ^ 32))) then s
    else (s.writeRw ag r v h).emptyHist h

/-- HISTOGRAM_CONFIG_WRITE (R587): register 0 is ER_HCFG, 1 ER_HLOWER, 2 ER_HWIDTH. -/
def execHistogramConfigWrite (ag : Agent) (reg value : Nat) (s : State) : Host.Outcome State Fault Refusal :=
  .next (s.atUnit uChip fun s => match reg with
    | 0 => s.writeHist ag .ER_HCFG value
    | 1 => s.writeHist ag .ER_HLOWER value
    | 2 => s.writeHist ag .ER_HWIDTH value
    | _ => s)

/-! ### The recorder image (R173, R584) -/

/-- A histogram in the image: an unused one has ID 0xFFFF. -/
def State.histImage (s : State) (h : Nat) : List Byte :=
  if 50 ≤ h then natLe 2 0xFFFF ++ List.replicate 270 0
  else
    natLe 2 h ++ natLe 1 (s.get .ER_HCFG_LOG2 h * 128 + s.get .ER_HCFG_UNIT h) ++ natLe 1 0 ++ natLe 4 (s.get .ER_HLOWER_LOWER h)
      ++ natLe 4 (s.get .ER_HWIDTH_WIDTH h) ++ natLe 4 0 ++ (List.range 32).flatMap fun b => natLe 8 (s.get .X_HIST_BIN (32 * h + b))

/-- An extreme record in the image. -/
def State.extImage (s : State) (x : Nat) : List Byte :=
  natLe 2 (if x < 68 then x else 0xFFFF) ++ natLe 6 0 ++ natLe 8 (s.get .X_EXT_MIN x) ++ natLe 8 (s.get .X_EXT_MINT x)
    ++ natLe 8 (s.get .X_EXT_MAX x) ++ natLe 8 (s.get .X_EXT_MAXT x) ++ natLe 8 0

/-- The 23,616 bytes of the image, with the time of the read in its header. -/
def State.recImage (s : State) : List Byte :=
  natLe 4 1 ++ natLe 2 64 ++ natLe 2 128 ++ natLe 8 s.calStamp ++ natLe 8 s.tick ++ List.replicate 40 0
    ++ (List.range 64).flatMap s.histImage ++ (List.range 128).flatMap s.extImage

end Sys2Proof.Machine
end

