-- ==== Sys2Proof/Machine/Security.lean ====
section
/-! DEFINITION. The Warden (12): the host mailbox, licences, attested time and the monotonic counter, protection batches, the destruction
of keys, and the lockstep and hang monitors of the cores. -/

namespace Sys2Proof.Machine

/-- The Warden runs: neither halted nor resetting (R456). -/
def State.wardenUp (s : State) : Bool :=
  !s.flag .X_CORE_HALTED 62 && !s.flag .X_CORE_HALTED 63 && s.get .UCB_STATUS_RESETTING uWarden = 0

/-! ### The host mailbox (R461 to R463) -/

def mbOk : Nat := 0x00
def mbBadCmd : Nat := 0x01
def mbBadLen : Nat := 0x02
def mbSignature : Nat := 0x03
def mbNotOwner : Nat := 0x04
def mbNoNode : Nat := 0x05
def mbState : Nat := 0x06
def mbCounter : Nat := 0x07
def mbExpired : Nat := 0x08
def mbTimeUntrusted : Nat := 0x09
def mbTickPast : Nat := 0x0A
def mbLimit : Nat := 0x0B
def mbDma : Nat := 0x0C
def mbNonce : Nat := 0x0D

/-- Payload length of a command (R462). -/
def mbxPayload (op : Nat) : Nat :=
  match op with
  | 3 => 96
  | 5 => 260
  | 6 => 12
  | 7 => 4
  | 8 | 9 => 160
  | 10 => 12
  | _ => 0

/-- The reserved bytes of a request are 0: of its header, and bytes 57 to 63 of the payload of TIME_ATTEST and MONO_ADVANCE (R461, R462). -/
def reservedZero (req : List Byte) (op : Nat) : Bool :=
  fieldAt req 1 3 = 0 && fieldAt req 8 8 = 0 && !((op = 8 || op = 9) && fieldAt req (16 + 57) 7 ≠ 0)

/-- The checks every command makes first: reserved bytes, lengths, and the Owner role (R461, R463). -/
def State.mbxVerdict (s : State) (req : List Byte) (op : Nat) (owner : Bool) : Option Nat :=
  if !reservedZero req op then some mbBadCmd
  else if fieldAt req 4 4 + 16 ≠ s.get .SEC_MBX_CMD_LEN ∨ fieldAt req 4 4 ≠ mbxPayload op then some mbBadLen
  else if owner && !s.flag .SEC_STS_OWNER then some mbNotOwner
  else none

/-- The mailbox holds a request the Warden may act on: BUSY, nothing answered yet, and the request of the length written (R456, R462). -/
def State.mbxDue (s : State) (req : List Byte) : Bool :=
  s.get .SEC_MBX_STS_STATE = 1 && s.mbxResp.isNone && s.wardenUp && !s.fetchHeld && req.length = s.get .SEC_MBX_CMD_LEN

/-- The response of the command at work is settled; a signature that does not verify raises its source. -/
def State.answerMbx (s : State) (op result : Nat) (fields : List Nat := []) (data : List Byte := []) : State :=
  let s : State := { s with mbxResp := some ⟨op, result, fields, data⟩ }
  if result = mbSignature then s.raise 82 uWarden op else s

/-- The Warden acts on a request of one opcode: `act` runs once the first checks pass. -/
def State.onMbx (s : State) (req : List Byte) (op : Nat) (owner : Bool) (act : State) : State :=
  if !s.mbxDue req || fieldAt req 0 1 ≠ op then s
  else match s.mbxVerdict req op owner with
    | some r => s.answerMbx op r
    | none => act

/-- Authority key `k` is among those the fuses hold (R468). -/
def authorityKnown (k : Nat) : Bool := decide (k < min 4 Config.authorityKeys)

/-- GET_INFO (R462). -/
def execGetInfo (req : List Byte) (s : State) : Host.Outcome State Fault Refusal :=
  .next (s.onMbx req 1 false
    (s.answerMbx 1 mbOk [s.get .SEC_STS_KEYED, s.get .SEC_MONO, s.get .SEC_TIME_FLOOR, min 4 Config.authorityKeys, s.licences.length]))

/-- What X_NONCE_AGE counts from, and the 60 s that a nonce is valid (R462), in ns. -/
def nonceZero : Nat := 2 ^ 36
def nonceLife : Nat := 60000000000

/-- The latest nonce is unused and at most 60 s old (R462). -/
def State.nonceFresh (s : State) : Bool :=
  !s.nonce.isEmpty && decide (s.get .X_NONCE_AGE + s.get .TK_PHASE_PHASE ≤ nonceZero + nonceLife)

/-- A tick of `ns` ends: the nonce is older by it. -/
def State.ageNonce (s : State) (ns : Nat) : State :=
  if s.nonce.isEmpty then s else s.put .X_NONCE_AGE (min (s.get .X_NONCE_AGE + ns) (2 * nonceZero))

/-- GET_CHALLENGE (R462): a nonce of 48 bytes, in place of any earlier one. -/
def State.newNonce (s : State) : State :=
  let (b, s) := s.takeFreeBytes
  let n := (List.range 48).map fun k => b.getD k 0
  (({ s with nonce := n } : State).put .X_NONCE_AGE (nonceZero - s.get .TK_PHASE_PHASE)).answerMbx 2 mbOk [] n

def execGetChallenge (req : List Byte) (s : State) : Host.Outcome State Fault Refusal := .next (s.onMbx req 2 false s.newNonce)

/-- The effect of CLAIM_OWNER (R458), and whether its signature is the owner's. Under OPEN there is no owner key to verify with. -/
def State.claimOwner (s : State) (sigOk : Bool) : State :=
  if !s.flag .SEC_STS_KEYED then s.answerMbx 3 mbSignature
  else if !s.nonceFresh then s.answerMbx 3 mbNonce
  else
    let s : State := { s with nonce := [] }
    if !sigOk then s.answerMbx 3 mbSignature else (s.putFlag .SEC_STS_OWNER true).answerMbx 3 mbOk

/-- CLAIM_OWNER (R458): `sigOk`, the signature verifies; `keyOk`, with the key whose hash the configuration record holds. -/
def execClaimOwner (req : List Byte) (sigOk keyOk : Bool) (s : State) : Host.Outcome State Fault Refusal :=
  .next (s.onMbx req 3 false (s.claimOwner (sigOk && keyOk)))

/-- RELEASE_OWNER (R459). -/
def execReleaseOwner (req : List Byte) (s : State) : Host.Outcome State Fault Refusal :=
  .next (s.onMbx req 4 true ((s.putFlag .SEC_STS_OWNER false).answerMbx 4 mbOk))

/-! ### Licences (R468 to R472) -/

def licExpire (blob : List Byte) : Nat := fieldAt blob 40 8
def licRevokeAt (blob : List Byte) : Nat := fieldAt blob 48 8

/-- The 128-bit unique ID, as a number (CHP_UID0 to CHP_UID3). -/
def uidNat : Nat := (List.range 4).foldr (fun k v => Config.uid k % 2 ^ 32 + 2 ^ 32 * v) 0

/-- A blob is laid out as R468 says, and bound to this device or to any (R469). -/
def blobOk (blob : List Byte) : Bool :=
  fieldAt blob 0 2 = 1 && authorityKnown (fieldAt blob 2 1) && decide (fieldAt blob 3 1 < 16) && fieldAt blob 4 4 = 0
    && fieldAt blob 128 32 = 0 && (fieldAt blob 24 16 = 0 || fieldAt blob 24 16 = uidNat)

/-- The conditions under which a licence is open (R470). -/
def State.licenceHolds (s : State) (blob : List Byte) : Bool :=
  decide (s.get .SEC_MONO < licRevokeAt blob)
    && (licExpire blob = 0 || (s.flag .SEC_STS_TIME_TRUSTED && decide (s.calSec < licExpire blob)))

/-- Some granule of a volume is MAPPED: every entry its pages or lines may hold. -/
def State.anyMapped (s : State) (node : Nat) : Bool :=
  let held (l : List MapPage) : List Nat := (l.filter fun p => p.node = node).flatMap fun p => p.words.map fun w => 2048 * p.page + w.1
  let inLines := (s.lines.filter fun x => x.node = node).flatMap fun x => (List.range 8).map fun k => 8 * x.l + k
  (held s.pages ++ held s.mapVol ++ inLines).any fun g => eState (s.mapGet node g) = 1

/-- The lowest free place of the licence table. -/
def State.freeLicence (s : State) : Nat := ((List.range 1024).find? fun i => !s.licences.any fun l => l.index = i).getD 0

/-- What an install meets, in the order of R469. -/
def State.installVerdict (s : State) (node : Nat) (blob : List Byte) (sigOk : Bool) : Option Nat :=
  if !s.isVolume node then some mbNoNode
  else if !((s.node? node).any fun n => n.writable) || s.anyMapped node then some mbState
  else if !sigOk || !blobOk blob then some mbSignature
  else if licRevokeAt blob ≤ s.get .SEC_MONO then some mbCounter
  else if 1024 ≤ s.licences.length then some mbLimit
  else if licExpire blob ≠ 0 && !s.flag .SEC_STS_TIME_TRUSTED then some mbTimeUntrusted
  else if licExpire blob ≠ 0 && decide (licExpire blob ≤ s.calSec) then some mbExpired
  else none

/-- An accepted licence is journalled, its key unwrapped into the slot, and it is open (R464, R469). -/
def State.install (s : State) (node : Nat) (blob : List Byte) : State :=
  let s := s.dropLicence node
  let i := s.freeLicence
  let s : State := { s with licences := s.licences ++ [⟨node, i, blob, false⟩] }
  let s := (s.newKey node 1).journal 0x17 node (i + 1024) 0
  match s.node? node with
  | some n => s.journalAttr n
  | none => s

def State.licenceInstall (s : State) (req : List Byte) (sigOk : Bool) : State :=
  let node := fieldAt req 16 4
  let blob := req.drop 20
  match s.installVerdict node blob sigOk with
  | some r => s.answerMbx 5 r
  | none => (s.install node blob).answerMbx 5 mbOk

/-- LICENCE_INSTALL (R463, R469). -/
def execLicenceInstall (req : List Byte) (sigOk : Bool) (s : State) : Host.Outcome State Fault Refusal :=
  .next (s.onMbx req 5 true (s.licenceInstall req sigOk))

def State.licenceRemove (s : State) (req : List Byte) : State :=
  let node := fieldAt req 16 4
  let tick := fieldAt req 20 8
  if !s.isVolume node then s.answerMbx 6 mbNoNode
  else if !s.licences.any fun l => l.node = node then s.answerMbx 6 mbState
  else if !s.armOk tick then s.answerMbx 6 mbTickPast
  else (s.arm tick (.licenceRemove node)).answerMbx 6 mbOk

/-- LICENCE_REMOVE (R463, R470): the removal is armed for its tick. -/
def execLicenceRemove (req : List Byte) (s : State) : Host.Outcome State Fault Refusal :=
  .next (s.onMbx req 6 true (s.licenceRemove req))

/-- The record of a volume's licence, without its wrapped key (R462). What the command answers for a volume without one is open. -/
def State.licenceStatus (s : State) (req : List Byte) : State :=
  let node := fieldAt req 16 4
  if !s.isVolume node then s.answerMbx 7 mbNoNode
  else match s.licences.find? fun l => l.node = node with
    | some l => s.answerMbx 7 mbOk [l.index, if l.closed then 1 else 0] (l.blob.take 56 ++ l.blob.drop 128)
    | none =>
      let (v, s) := s.takeFree
      s.answerMbx 7 (v % 256)

/-- LICENCE_STATUS (R462). -/
def execLicenceStatus (req : List Byte) (s : State) : Host.Outcome State Fault Refusal :=
  .next (s.onMbx req 7 false (s.licenceStatus req))

/-! ### Time and the monotonic counter (R473 to R475) -/

/-- The nonce of a request is the latest one, unused and fresh (R462, R463). -/
def State.nonceOk (s : State) (req : List Byte) : Bool := s.nonceFresh && ((req.drop 24).take 48 = s.nonce)

/-- The time floor takes a value. -/
def State.setTimeFloor (s : State) (sec : Nat) : State := (s.put .SEC_TIME_FLOOR (sec % 2 ^ 48)).put .X_KEEP_FLOOR (sec % 2 ^ 48)

/-- The effect of TIME_ATTEST (R475). Which RESULT a time below the floor gets is open; it is not OK. -/
def State.timeAttest (s : State) (req : List Byte) (sigOk : Bool) : State :=
  let sec := fieldAt req 16 8
  if !sigOk || !authorityKnown (fieldAt req 72 1) then s.answerMbx 8 mbSignature
  else if !s.nonceOk req then s.answerMbx 8 mbNonce
  else
    let s : State := { s with nonce := [] }
    if sec < s.get .SEC_TIME_FLOOR then
      let (v, s) := s.takeFree
      s.answerMbx 8 (1 + v % 255)
    else
      let s := s.setTimeFloor sec
      ((s.loadCalendar (sec * 65536) true).putFlag .SEC_STS_TIME_TRUSTED true).answerMbx 8 mbOk

/-- TIME_ATTEST (R463, R475): `sigOk`, the signature verifies; `keyOk`, with the authority key the fuses hold under its index. -/
def execTimeAttest (req : List Byte) (sigOk keyOk : Bool) (s : State) : Host.Outcome State Fault Refusal :=
  .next (s.onMbx req 8 false (s.timeAttest req (sigOk && keyOk)))

/-- The monotonic counter takes a value, in both places the Warden keeps it (R473). -/
def State.setMono (s : State) (v : Nat) : State := ((s.put .SEC_MONO v).put .X_KEEP_MONO v).put .X_SYS_MONO v

def State.monoAdvance (s : State) (req : List Byte) (sigOk : Bool) : State :=
  let v := fieldAt req 16 8
  if !sigOk || !authorityKnown (fieldAt req 72 1) then s.answerMbx 9 mbSignature
  else if !s.nonceOk req then s.answerMbx 9 mbNonce
  else
    let s : State := { s with nonce := [] }
    if v ≤ s.get .SEC_MONO ∨ v = 0xFFFFFFFFFFFFFFFF then s.answerMbx 9 mbCounter
    else (s.setMono v).answerMbx 9 mbOk

/-- MONO_ADVANCE (R463, R473): `sigOk` and `keyOk` as for TIME_ATTEST. -/
def execMonoAdvance (req : List Byte) (sigOk keyOk : Bool) (s : State) : Host.Outcome State Fault Refusal :=
  .next (s.onMbx req 9 (s.flag .SEC_STS_KEYED) (s.monoAdvance req (sigOk && keyOk)))

/-- TIME_FLOOR_RAISE (R474). -/
def execTimeFloorRaise (s : State) : Host.Outcome State Fault Refusal :=
  .next (if s.wardenUp && s.flag .CAL_STS_VALID && decide (s.get .SEC_TIME_FLOOR < s.calSec) then s.setTimeFloor s.calSec else s)

/-- The header of a response (R461). -/
def mbxHeader (op result len : Nat) : List Byte := natLe 1 op ++ natLe 1 result ++ natLe 2 0 ++ natLe 4 len ++ natLe 8 0

/-- The mailbox reports the end of a command: the response, unless PF0 was disabled meanwhile, then the status, then the vector. -/
def State.endMbx (s : State) (r : MbxResp) : State :=
  let quiet := s.flag .X_MBX_MUTE
  let s := if quiet || r.result = mbDma then s
    else
      -- where the payload holds fields whose layout R462 leaves open, so is its length
      let (v, s) := if r.fields.isEmpty then (r.data.length, s) else s.takeFree
      s.sendFn 0 laneMailbox true (s.get .SEC_MBX_RSP) 64
        (.mbxReply (s.get .SEC_MBX_RSP) (mbxHeader r.op r.result (v % 4081)) r.fields r.data)
  let s : State := { s with mbxResp := none }
  let s := ((s.put .SEC_MBX_STS_STATE 2).put .SEC_MBX_STS_RESULT r.result).putFlag .SEC_MBX_CMD_GO false
  let s := (s.bump .SEC_CNT_MBX).putFlag .X_MBX_MUTE false
  if s.flag .SEC_MBX_CMD_IRQ_EN && !quiet then s.sendMsix 0 (s.get .SEC_MBX_CMD_VECTOR) else s

/-- MAILBOX_COMMAND_DONE (R461 to R463): `dmaOk`, no fetch or response write failed. A request of an unknown opcode ends here. -/
def execMailboxCommandDone (req : List Byte) (dmaOk : Bool) (s : State) : Host.Outcome State Fault Refusal :=
  if s.get .SEC_MBX_STS_STATE ≠ 1 ∨ !s.wardenUp ∨ s.fetchHeld then .next s
  else
    let op := fieldAt req 0 1
    match s.mbxResp with
    | some r => .next (s.endMbx (if dmaOk then r else { r with result := mbDma }))
    | none =>
      if !dmaOk then .next (s.endMbx ⟨op, mbDma, [], []⟩)
      else if req.length = s.get .SEC_MBX_CMD_LEN ∧ (op = 0 ∨ 10 < op) then .next (s.endMbx ⟨op, mbBadCmd, [], []⟩)
      else .next s

/-! ### Protection batches (R479 to R484) -/

/-- A staged entry as its register holds it, reserved bits included. -/
def State.staged32 (s : State) (a i : Nat) : Nat :=
  stageEntry (s.get .SEC_PM_STAGE_FN i a) (s.get .SEC_PM_STAGE_NODE i a) (s.get .SEC_PM_STAGE_RIGHTS i a)
    (s.flag .SEC_PM_STAGE_ALL_NODES i a)

/-- The result of an agent's latest batch (SEC_PM_RESULT). -/
def State.pmResult (s : State) (a st reason skipped : Nat) : State :=
  ((s.put .SEC_PM_RESULT_STATE st 0 a).put .SEC_PM_RESULT_REASON reason 0 a).put .SEC_PM_RESULT_SKIPPED skipped 0 a

/-- The first check of R480 that a batch fails, after the writer's. -/
def State.batchReason (s : State) (a count : Nat) (entries : List Nat) : Option Nat :=
  let tick := s.get .SEC_PM_TICK 0 a
  if !s.wardenUp then some 6
  else if count = 0 ∨ 64 < count ∨ entries.any (fun e => decide (264 ≤ stageFn e))
      ∨ (List.range count).any (fun i => s.get .X_PM_STAGE_RES i a ≠ 0) then some 2
  else if rightsMax < (s.arm tick (.protection a entries false 0)).withBatches.rights.length then some 3
  else if 16 ≤ s.armedBatches.length then some 4
  else if !s.armOk tick then some 5
  else none

/-- A GO to SEC_PM_CMD (R460, R480): the batch is armed or refused. -/
def State.submitBatch (s : State) (ag : Agent) (fence : Bool) (count : Nat) : State :=
  let a := ag.ix
  if ag = .pf0 && !s.isOwner ag then s.decodeFault ag
  else if !s.mayWrite ag .ownerWd then s.pmResult a 4 1 0
  else
    let s := (s.putFlag .SEC_PM_CMD_FENCE fence 0 a).put .SEC_PM_CMD_COUNT count 0 a
    let s := s.put .X_PM_SEQ (s.get .X_PM_SEQ 0 a + 1) 0 a
    let entries := (List.range count).map (s.staged32 a)
    match s.batchReason a count entries with
    | some r => s.pmResult a 4 r 0
    | none => (s.pmResult a 2 0 0).arm (s.get .SEC_PM_TICK 0 a) (.protection a entries fence (s.get .X_PM_SEQ 0 a))

/-- PROTECTION_BATCH_SUBMIT (R480). -/
def execProtectionBatchSubmit (ag : Agent) (fence : Bool) (count : Nat) (s : State) : Host.Outcome State Fault Refusal :=
  .next (s.atUnit uWarden fun s => s.submitBatch ag fence (count % 128))

/-- Commands a fenced batch never revokes (R483). -/
def Cmd.exempt (c : Cmd) : Bool := !c.nvme && [0x05, 0x07, 0x08, 0x09, 0x0A].contains c.op

/-- One outstanding command is revoked (R483): dropped and answered, or muted until its media end and answered then. -/
def State.revoke (s : State) (c : Cmd) : State :=
  let s := s.bump .SEC_CNT_REVOKED
  let late : State := s.setCmd { c with revoked := true, mute := true }
  if c.res.isSome then s.setCmd { c with revoked := true, res := some vRevoked }
  else if 0 < c.contLeft then late
  else if c.isWrite && c.st ≠ .taken then
    let s : State := { s with grants := s.grants.map fun g => if g.cmd = c.id then { g with closed := true } else g }
    (s.setCmd { c with revoked := true }).cutWrite c.id vRevoked
  else if s.runsOn c && !(!c.nvme && c.op = 0x06) then late
  else s.withdraw c vRevoked

/-- Revokes every outstanding command of some functions but the exempt ones (R483). -/
def State.fenceRevoke (s : State) (fns : List Nat) : State :=
  forEach (s.cmds.filter fun c => fns.contains c.fn && !c.mute && !c.revoked && !c.exempt) s fun c s =>
    -- an earlier one of the same step may have taken it along
    match s.cmd? c.id with
    | some c => s.revoke c
    | none => s

/-- The journal records of a batch (R264), in order. -/
def State.journalBatch (s : State) (entries : List Nat) (fence : Bool) (tick : Nat) : State :=
  forEach (List.range entries.length) s fun i s =>
    s.journal 0x19 0 (entries.getD i 0 + i * 2 ^ 32 + entries.length * 2 ^ 38 + if fence then 2 ^ 45 else 0) tick

/-- An entry that names a node which is not ACTIVE (R481). -/
def State.skips (s : State) (e : Nat) : Bool := !stageAll e && !s.active (stageNode e)

/-- A batch takes effect in one step (R481 to R484). -/
def State.batchEffect (s : State) (a : Nat) (entries : List Nat) (fence : Bool) (tag tick : Nat) : State :=
  let before := s
  let s := s.journalBatch entries fence tick
  let live := entries.filter fun e => !before.skips e
  let s := live.foldl State.applyRight s
  let s := s.put .SEC_PM_STS_ENTRIES s.rights.length
  let s := if s.get .X_PM_SEQ 0 a = tag then s.pmResult a 3 0 (entries.length - live.length) else s
  if !fence then s
  else
    let fns := (entries.map stageFn).eraseDups
    let s := s.fenceRevoke fns
    let now := s
    s.releaseWithEvents fun p =>
      fns.contains p.fn && bit (before.rightsOf p.fn p.node) rightPin && !bit (now.rightsOf p.fn p.node) rightPin
        && !(p.fn = 0 && now.flag .SEC_STS_OWNER)

/-! ### Keys, lockstep and hangs -/

/-- A command admitted under a key is still before its media end (R467). -/
def State.keyUsed (s : State) (gen : Nat) : Bool := s.cmds.any fun c => c.parts.any fun p => p.key = gen && !p.done

/-- A crypto-erase Sanitize is in progress. -/
def State.cryptoSanitize (s : State) : Bool := s.get .X_SAN_ST = 2 && s.flag .X_SAN_CRYPTO

/-- KEY_DESTRUCTION (R153, R467): a key goes once no command admitted under it is still before its media end. In a crypto-erase Sanitize
every old key goes in one step, once that holds of all of them. -/
def execKeyDestruction (node gen : Nat) (s : State) : Host.Outcome State Fault Refusal :=
  let due := s.keys.any fun k => k.node = node && k.gen = gen && k.doomed
  if s.cryptoSanitize then
    if !due || s.keys.any fun k => k.doomed && s.keyUsed k.gen then .next s
    else .next (({ s with keys := s.keys.filter fun k => !k.doomed } : State).put .X_SAN_SPROG 32768)
  else if !due || s.keyUsed gen then .next s
  else .next { s with keys := s.keys.filter fun k => !(k.node = node && k.gen = gen) }

/-- LOCKSTEP_MISMATCH (R39): pairs 0 to 3 are the FE pairs, 4 is the Warden's; both cores halt. -/
def execLockstepMismatch (pair : Nat) (s : State) : Host.Outcome State Fault Refusal :=
  if 4 < pair ∨ !s.powered then .next s else .next (s.haltPair pair)

/-- CORE_HANG (R566): the source of the kind of core; FE cores by pair, MD cores by cluster. -/
def execCoreHang (core : Nat) (s : State) : Host.Outcome State Fault Refusal :=
  if 64 ≤ core ∨ !s.powered then .next s
  else .next (
    if core < 8 then s.raise (36 + core / 2) uFront core
    else if core < 56 then s.raise (cSrc ((core - 8) / 6) 2) (uCluster ((core - 8) / 6)) core
    else if core < 62 then s.raise (64 + (core - 56)) uMap core
    else s.raise 81 uWarden core)

end Sys2Proof.Machine
end

