-- ==== Sys2Proof/Machine/Locate.lean ====
section
/-! DEFINITION. Which register stands at an offset of control space (R20, R41, R42): the blocks, their registers, and the fields a lock
entry names (R592, R594). -/

namespace Sys2Proof.Machine

/-- A place in control space: its block, which of the block's copies (port, cluster, channel, UCB window), the register, its place in
an array, and whether it is the upper half of a 64-bit register. -/
structure Loc where
  blk : Block
  b : Nat
  reg : Reg
  k : Nat
  upper : Bool
  deriving DecidableEq, Repr

/-- The register's place at an offset of its block. -/
def RegDesc.at (d : RegDesc) (rel : Nat) : Option (Nat × Bool) :=
  if rel < d.off then none
  else
    let x := rel - d.off
    let k := if d.stride = 0 then 0 else x / d.stride
    let r := x - k * d.stride
    if k < d.n && (r = 0 || (d.wide && r = 4)) then some (k, r = 4) else none

/-- The block of an offset, which copy, and the offset within it. -/
def blockAt (off : Nat) : Option (Block × Nat × Nat) :=
  if 0x2000000 ≤ off then none
  else if 0x400000 ≤ off ∧ off < 0xA00000 then some (.ucb, off / 4096, off % 4096)
  else if 0x300000 ≤ off ∧ off < 0x400000 then some (.cx, 0, off - 0x300000)
  else if 0x200000 ≤ off ∧ off < 0x280000 then
    let c := (off - 0x200000) / 65536
    let rel := off % 65536
    if rel < 0x1000 then some (.ms, c, rel)
    else if rel < 0x1000 + 0x100 * 12 then some (.msch, 12 * c + (rel - 0x1000) / 256, rel % 256)
    else none
  else if 0x100000 ≤ off ∧ off < 0x200000 then some (.ucb, off / 4096, off % 4096)
  else
    let rel := off % 65536
    match off / 65536 with
    | 0 => some (.chp, 0, rel)
    | 1 => some (.tk, 0, rel)
    | 2 => some (.pm, 0, rel)
    | 3 => if rel < 0x8000 then some (.hk, 0, rel) else some (.cal, 0, rel - 0x8000)
    | 4 => some (.hu, 0, rel)
    | 5 => some (.fc, 0, rel)
    | 6 => some (.er, 0, rel)
    | 7 => some (.fw, 0, rel)
    | 8 => some (.sec, 0, rel)
    | 9 => some (.mc, 0, rel)
    | 10 => some (.he, 0, rel)
    | 11 => some (.he, 1, rel)
    | 12 => some (.jq, 0, rel)
    | 13 => some (.ts, 0, rel)
    | _ => none

/-- The defined register at a 4-byte-aligned offset. HE1_ has no VF table (03). -/
def locate (off : Nat) : Option Loc :=
  match blockAt off with
  | none => none
  | some (blk, b, rel) => blk.regs.findSome? fun r =>
      match r.desc.at rel with
      | some (k, up) => if r = .HE_VFATTR ∧ b = 1 then none else some ⟨blk, b, r, k, up⟩
      | none => none

/-- The instance that the fields of a register at a place are kept under, for registers that no selector chooses. -/
def Loc.inst (l : Loc) : Nat :=
  match l.blk with
  | .ucb | .ms | .msch => l.b
  | .he => if l.reg = .HE_VFATTR then 8 + l.k else if l.reg.desc.n = 4 then 4 * l.b + l.k else l.b
  | _ => l.k

/-- The offset of the first half of the register at a place. -/
def Loc.start (off : Nat) (l : Loc) : Nat := if l.upper then off - 4 else off

/-- The LK fields of the register at an offset, with the instance they are locked under. -/
def lockFields (off : Nat) : List (Field × Nat) :=
  if off % 4 ≠ 0 then []
  else match locate off with
    | some l => if l.upper then [] else (l.reg.desc.fields.filter fun x => x.lk).map fun x => (x.f, l.inst)
    | none => []

end Sys2Proof.Machine
end

