-- ==== Sys2Proof/Machine/Firmware.lean ====
section
/-! DEFINITION. Packages, the configuration record, commits to a slot, and live activation (17). -/

namespace Sys2Proof.Machine

/-! ### The configuration record (R592 to R594) -/

/-- Group `g` of a record is given. A device without a record has no bytes, and no group. -/
def cfgGroup (r : List Byte) (g : Nat) : Bool := bit (fieldAt r 8 4) g

/-- A value of a group, or its default (R593). -/
def cfgVal (r : List Byte) (g off n default : Nat) : Nat := if cfgGroup r g then fieldAt r off n else default

/-- Remote-diode inputs fitted, and the inputs that guard a channel. -/
def cfgFitted (r : List Byte) : Nat := cfgVal r 4 112 1 0xFF
def cfgSens (r : List Byte) (n : Nat) : Nat := cfgVal r 4 (128 + n) 1 (2 ^ (n / 12))

/-- BIFUR and MAX_SPEED of a port. -/
def cfgPort (r : List Byte) (p : Nat) : Nat := cfgVal r 5 (224 + p) 1 0x60

/-- FIRST and COUNT of the VF range of a PF. -/
def cfgVf (r : List Byte) (k : Nat) : Nat :=
  cfgVal r 5 (240 + 4 * k) 4 (if k = 0 then 128 * 65536 else if k = 4 then 128 + 128 * 65536 else 0)

/-- The entries of the lock list, up to the first 0. -/
def cfgLocks (r : List Byte) : List Nat :=
  if cfgGroup r 7 then ((List.range 128).map fun i => fieldAt r (1536 + 4 * i) 4).takeWhile fun x => x ≠ 0 else []

/-- Bytes of a record that no field takes, and the bytes of each group (R592). -/
def cfgReserved : List (Nat × Nat) :=
  [(6, 2), (12, 4), (17, 15), (85, 11), (102, 10), (113, 15), (226, 14), (272, 240), (1040, 496), (2048, 2048)]
def cfgBytes (g : Nat) : List (Nat × Nat) :=
  match g with
  | 0 => [(16, 1), (32, 48)]
  | 1 => [(80, 4)]
  | 2 => [(84, 1)]
  | 3 => [(96, 6)]
  | 4 => [(112, 1), (128, 96)]
  | 5 => [(224, 2), (240, 32)]
  | 6 => [(512, 528)]
  | _ => [(1536, 512)]

/-- Every field of a given group lies within its range (R592). -/
def cfgRanges (r : List Byte) : Bool :=
  let v := fieldAt r
  (!cfgGroup r 0 || (decide (v 16 1 ≤ 1) && decide (v 16 1 = 1 ↔ v 32 48 ≠ 0)))
    && (!cfgGroup r 2 || (decide (0x08 ≤ v 84 1) && decide (v 84 1 ≤ 0x77)))
    && (!cfgGroup r 3 || (decide (v 96 1 ≤ 1) && decide (v 97 1 ≤ 7) && (v 96 1 = 1 || v 97 1 = 0) && decide (5000 ≤ v 98 2)
      && decide (v 98 2 ≤ 13200) && decide (3000 ≤ v 100 2) && decide (v 100 2 + 500 ≤ v 98 2)))
    && (!cfgGroup r 5 || ((List.range 2).all (fun p => v (224 + p) 1 % 16 < 3 && decide (v (224 + p) 1 / 16 ≤ 6))
      && (List.range 8).all fun k => bits (v (240 + 4 * k) 4) 15 8 = 0 && decide (v (240 + 4 * k) 4 / 65536 ≤ 256)))
    && (!cfgGroup r 6 || (List.range 264).all fun f => decide (v (512 + 2 * f) 1 < 4) && decide (v (513 + 2 * f) 1 < 16))

/-- The VF ranges overlap nowhere, end in the pool, and belong to links that the layout creates (R594). -/
def cfgVfOk (r : List Byte) : Bool :=
  let first (k : Nat) := cfgVf r k % 256
  let count (k : Nat) := bits (cfgVf r k) 24 16
  (List.range 8).all fun k =>
    decide (first k + count k ≤ 256) && (count k = 0 || layoutHas (cfgPort r (k / 4) % 4) (k % 4))
      && (List.range 8).all fun j => j = k || count j = 0 || count k = 0 || decide (first j + count j ≤ first k)
        || decide (first k + count k ≤ first j)

/-- The checks of R594 on a CONFIG component. -/
def cfgOk (r : List Byte) : Bool :=
  let zero (l : List (Nat × Nat)) : Bool := l.all fun x => fieldAt r x.1 x.2 = 0
  let sens := (List.range 96).map (cfgSens r)
  let bank := cfgVal r 3 96 1 0 = 1
  let tsens := cfgVal r 3 97 1 0
  r.length = 4096 && fieldAt r 0 4 = 0x52474643 && fieldAt r 4 2 = 1 && decide (fieldAt r 8 4 < 256) && zero cfgReserved
    && (List.range 8).all (fun g => cfgGroup r g || zero (cfgBytes g)) && cfgRanges r
    && sens.all (fun m => m ≠ 0 && m &&& cfgFitted r = m)
    && (!bank || (bit (cfgFitted r) tsens && !sens.any fun m => bit m tsens))
    && cfgVfOk r && (cfgLocks r).all (fun o => !(lockFields o).isEmpty) && (cfgLocks r).eraseDups.length = (cfgLocks r).length

/-! ### Packages (R589 to R591) -/

/-- The byte of the downloaded package at an offset: the latest piece that holds it. -/
def State.pkgByte (s : State) (k : Nat) : Option Byte :=
  s.pkg.reverse.findSome? fun x => if x.1 ≤ k then x.2[k - x.1]? else none

/-- Bytes of the package from its start; none where some of them were not downloaded. -/
def State.pkgTake (s : State) (n : Nat) : Option (List Byte) := (List.range n).mapM s.pkgByte

/-- Directory entry `i` of a package. -/
structure DirEntry where
  type : Nat
  delta : Bool
  iface : Nat
  offset : Nat
  length : Nat
  version : Nat
  base : Nat
  ok : Bool
  deriving DecidableEq, Repr

def dirEntry (p : List Byte) (i : Nat) : DirEntry :=
  let v := fun off n => fieldAt p (64 + 80 * i + off) n
  { type := v 0 1, delta := bit (v 1 1) 0, iface := v 2 2, offset := v 4 4, length := v 8 4, version := v 12 4, base := v 16 4,
    ok := decide (v 1 1 < 2) && v 20 12 = 0 }

def dirEntries (p : List Byte) : List DirEntry := (List.range (fieldAt p 12 4)).map (dirEntry p)

/-- Bytes of a component in its package. -/
def DirEntry.bytes (e : DirEntry) (p : List Byte) : List Byte := (p.drop e.offset).take e.length

/-- Component types that only a restart loads (R590). -/
def resetType (t : Nat) : Bool := t = 1 || t = 2 || t = 8

/-- The header and directory of a package hold what R589 and R590 say. -/
def headerOk (p : List Byte) : Bool :=
  let l := dirEntries p
  let len := fieldAt p 40 8
  fieldAt p 0 4 = 0x50445242 && fieldAt p 4 2 = 1 && decide (fieldAt p 7 1 < 4) && decide (1 ≤ fieldAt p 12 4)
    && decide (fieldAt p 12 4 ≤ 16) && fieldAt p 56 8 = 0 && decide (1440 ≤ len) && decide (len ≤ 67108864)
    && (List.range 16).all (fun i => decide (i < fieldAt p 12 4) || fieldAt p (64 + 80 * i) 80 = 0)
    && l.all (fun e => e.ok && decide (1 ≤ e.type) && decide (e.type ≤ 8) && e.offset % 16 = 0 && decide (1440 ≤ e.offset)
      && decide (e.offset + e.length ≤ len) && e.delta = (e.type = 6 || e.type = 7) && (e.delta || e.base = 0))
    && (l.map fun e => e.type).eraseDups.length = l.length
    && bit (fieldAt p 7 1) 1 = l.any fun e => resetType e.type

/-- The CONFIG component of a package, where it has one, is a record that the Warden accepts (R594). -/
def configOk (p : List Byte) : Bool := (dirEntries p).all fun e => e.type ≠ 8 || cfgOk (e.bytes p)

/-- Applies the records of a delta component to its base image (R591): COPY and INSERT in order, and END exactly at the end. -/
def applyDelta (base : List Byte) : Nat → List Byte → Option (List Byte)
  | 0, _ => none
  | n + 1, l =>
    match l with
    | [] => none
    | k :: rest =>
      if k.toNat = 0 then (if rest.isEmpty then some [] else none)
      else if k.toNat = 1 then
        let off := fieldAt rest 0 4
        let len := fieldAt rest 4 4
        if rest.length < 8 ∨ base.length < off + len then none
        else (applyDelta base n (rest.drop 8)).map fun out => (base.drop off).take len ++ out
      else if k.toNat = 2 then
        let len := fieldAt rest 0 4
        if rest.length < 4 + len then none
        else (applyDelta base n (rest.drop (4 + len))).map fun out => (rest.drop 4).take len ++ out
      else none

/-- The slot of a number, the running slot, and a component of an image. -/
def State.slot? (s : State) (k : Nat) : Option FwSlot := s.fwSlots.find? fun x => x.slot = k
def State.runningSlot (s : State) : Option FwSlot := s.slot? (s.get .FW_ACTIVE_RUNNING)
def FwSlot.comp? (x : FwSlot) (t : Nat) : Option FwComp := x.comps.find? fun c => c.type = t
def State.runningComp (s : State) (t : Nat) : Option FwComp := s.runningSlot.bind fun x => x.comp? t

/-- A slot may be started: its SVN is not below SEC_MONO (R597). -/
def State.bootable (s : State) (k : Nat) : Bool := (s.slot? k).any fun x => decide (s.get .SEC_MONO ≤ x.svn)

/-- The image a directory entry gives (R595): a full component, or a delta applied to the running slot's. -/
def State.component (s : State) (p : List Byte) (e : DirEntry) : Option FwComp :=
  if !e.delta then some ⟨e.type, e.iface, e.version, e.bytes p⟩
  else match s.runningComp e.type with
    | none => none
    | some c =>
      if c.version ≠ e.base then none
      else (applyDelta c.bytes (e.length + 1) ((e.bytes p).drop 48)).map fun b => ⟨e.type, e.iface, e.version, b⟩

/-! ### Outcomes (R596, R600, R609) -/

def fwOk : Nat := 0x00
def fwSignature : Nat := 0x01
def fwBinding : Nat := 0x02
def fwRollback : Nat := 0x03
def fwRomrev : Nat := 0x04
def fwFormat : Nat := 0x05
def fwDeltaBase : Nat := 0x06
def fwInterface : Nat := 0x07
def fwSlotActive : Nat := 0x08
def fwWriteFail : Nat := 0x09
def fwReloadFail : Nat := 0x0A
def fwReverted : Nat := 0x0B
def fwTickPast : Nat := 0x0C
def fwBusy : Nat := 0x0D
def fwClusterWait : Nat := 0x0E

def vInvalidSlot : Result := { sct := 1, sc := 0x06, dnr := true }
def vInvalidImage : Result := { sct := 1, sc := 0x07, dnr := true }
def vNeedsReset : Result := { sct := 1, sc := 0x0B, dnr := true }
def vProhibited : Result := { sct := 1, sc := 0x13, dnr := true }

/-- The NVMe status of an outcome (R600). -/
def fwVerdict (code : Nat) : Result :=
  if code = fwOk then vSuccess
  else if code = fwFormat ∨ code = fwSignature ∨ code = fwBinding ∨ code = fwRomrev ∨ code = fwDeltaBase then vInvalidImage
  else if code = fwRollback ∨ code = fwInterface ∨ code = fwBusy then vProhibited
  else if code = fwSlotActive then vInvalidSlot
  else if code = fwTickPast then vTickPast
  else vInternal

/-- Reports an outcome: FW_LAST, and source 20 for any but OK (R609). -/
def State.fwReport (s : State) (code slot comp cluster : Nat) : State :=
  let s := (((s.put .FW_LAST_CODE code).put .FW_LAST_SLOT slot).put .FW_LAST_COMPONENT comp).put .FW_LAST_CLUSTER cluster
  if code = fwOk then s else s.raise 20 uChip code

/-- The Firmware Commit at work (X_FW_CMD), or the one that waits for its activation (X_FW_WAIT), has its completion, where its controller
still waits for it. -/
def State.fwAnswer (s : State) (which : Field) (r : Result) : State :=
  let id := s.get which
  let s := s.put which 0
  match if id = 0 then none else s.cmd? (id - 1) with
  | some c => s.finish c r
  | none => s

/-- A commit ends with an outcome. -/
def State.endCommit (s : State) (code comp : Nat) (r : Result) : State :=
  let s := (s.putFlag .FW_STS_COMMIT_BUSY false).putFlag .X_FW_WRITING false
  (({ s with fwNew := none } : State).fwReport code (s.get .X_FW_TGT) comp 0).fwAnswer .X_FW_CMD r

/-- An activation is armed or in progress. -/
def State.fwActive (s : State) : Bool := decide (1 ≤ s.get .FW_STS_ACT_STATE) && decide (s.get .FW_STS_ACT_STATE ≤ 4)

/-- A slot that a commit may write (R596): neither running nor named by an armed or pending activation. -/
def State.slotFree (s : State) (k : Nat) : Bool :=
  k ≠ s.get .FW_ACTIVE_RUNNING && k ≠ s.get .FW_ACTIVE_ARMED && k ≠ s.get .FW_ACTIVE_NEXT_RESET

/-- The slot of a commit: FS, or the lowest allowed one for FS 0 (R599). -/
def State.targetSlot (s : State) (fs : Nat) : Nat := if fs = 0 then ([1, 2, 3, 4].find? s.slotFree).getD 0 else fs

/-! ### The commands (R163, R164, R598, R599) -/

/-- FIRMWARE_IMAGE_DOWNLOAD (R163, R598): whole units of 4 KiB, up to 64 MiB. -/
def execFirmwareImageDownload (cmd : Nat) (data : List Byte) (s : State) : Host.Outcome State Fault Refusal :=
  .next (s.onAdmin cmd 0x11 fun c =>
    let off := 4 * c.dw 11
    let len := 4 * (c.dw 10 + 1)
    match s.sanVerdict with
    | some r => s.finish c r
    | none =>
      if off % 4096 ≠ 0 ∨ len % 4096 ≠ 0 ∨ 67108864 < off + len ∨ data.length ≠ len then s.finish c vInvalidField
      else ({ s with pkg := s.pkg ++ [(off, data)] } : State).finish c vSuccess)

/-- Runs a meaning on a Firmware Commit of one action; one commit is at work at a time. -/
def State.onCommit (s : State) (id action : Nat) (f : Cmd → State) : State :=
  s.onAdmin id 0x10 fun c =>
    if bits (c.dw 10) 5 3 ≠ action ∨ s.flag .FW_STS_COMMIT_BUSY ∨ c.st ≠ .taken then s
    else match s.sanVerdict with
      | some r => (s.consumePkg c).finish c r
      | none => if 4 < c.dw 10 % 8 then (s.consumePkg c).finish c vInvalidSlot else f c

/-- A commit begins (R597): the Warden verifies the package; COMMIT_VERIFY_DONE ends that. -/
def State.beginCommit (s : State) (c : Cmd) (action : Nat) : State :=
  let s := ((s.put .X_FW_CMD (c.id + 1)).put .X_FW_ACT action).put .X_FW_TGT (c.dw 10 % 8)
  ((s.put .X_FW_TICK (fieldAt c.raw 48 8)).putFlag .FW_STS_COMMIT_BUSY true).setCmd { c with st := .admitted }

/-- COMMIT_NO_ACTIVATION (R599, action 0b000). -/
def execCommitNoActivation (cmd : Nat) (s : State) : Host.Outcome State Fault Refusal :=
  .next (s.onCommit cmd 0 fun c => s.beginCommit c 0)

/-- COMMIT_ACTIVATE_AT_RESET (R599, action 0b001). -/
def execCommitActivateAtReset (cmd : Nat) (s : State) : Host.Outcome State Fault Refusal :=
  .next (s.onCommit cmd 1 fun c => s.beginCommit c 1)

/-- COMMIT_ACTIVATE_NOW (R599, action 0b011). While an earlier one waits for the end of its activation, the commit cannot pass (R596). -/
def execCommitActivateNow (cmd : Nat) (s : State) : Host.Outcome State Fault Refusal :=
  .next (s.onCommit cmd 3 fun c => s.beginCommit c 3)

/-- COMMIT_ACTIVATE_AT_TICK (R164, action 0b101). -/
def execCommitActivateAtTick (cmd : Nat) (s : State) : Host.Outcome State Fault Refusal :=
  .next (s.onCommit cmd 5 fun c => s.beginCommit c 5)

/-- Marks a slot as the next to start, or none (R608). -/
def State.setNextReset (s : State) (k : Nat) : State :=
  ((s.put .FW_ACTIVE_NEXT_RESET k).putFlag .FW_STS_PENDING_RESET (decide (k ≠ 0))).put .X_SYS_NEXT k

/-- ACTIVATE_EXISTING_SLOT (R599, action 0b010): the running slot withdraws a pending reset activation; a slot that holds no image or
whose SVN is too low may not be named (R597). -/
def execActivateExistingSlot (cmd : Nat) (s : State) : Host.Outcome State Fault Refusal :=
  .next (s.onCommit cmd 2 fun c =>
    let k := s.targetSlot (c.dw 10 % 8)
    let done (s : State) (code : Nat) : State := (s.fwReport code k 0 0).finish c (fwVerdict code)
    if k = s.get .FW_ACTIVE_RUNNING then done (s.setNextReset 0) fwOk
    else if (s.slot? k).isNone then done s fwSlotActive
    else if !s.bootable k then done s fwRollback
    else if k = s.get .FW_ACTIVE_ARMED then done s fwSlotActive
    else if s.fwActive then done s fwBusy
    else done (s.setNextReset k) fwOk)

/-! ### Verification and the slot write (R595 to R597) -/

/-- The first check of R596 that a package fails, with the type of the component concerned, or the image it makes. `sigOk`: the signature
and every digest verify; `deltaOk`: so does the digest of every delta's result. -/
def State.verify (s : State) (sigOk deltaOk : Bool) : Except (Nat × Nat) FwSlot :=
  match s.pkgTake 1440 with
  | none => .error (fwFormat, 0)
  | some h =>
    if 67108864 < fieldAt h 40 8 then .error (fwFormat, 0)
    else match s.pkgTake (fieldAt h 40 8) with
      | none => .error (fwFormat, 0)
      | some p => verifyRest p
where
  verifyRest (p : List Byte) : Except (Nat × Nat) FwSlot :=
    let l := dirEntries p
    let k := s.targetSlot (s.get .X_FW_TGT)
    let live := !bit (fieldAt p 7 1) 1
    let bind := fieldAt p 16 16
    let badDelta := l.find? fun e => e.delta && (s.component p e).isNone
    let badIface := l.find? fun e => live && (e.type = 3 || e.type = 4 || e.type = 5)
      && !((s.runningComp e.type).any fun c => c.iface = e.iface)
    if !headerOk p then .error (fwFormat, 0)
    else if !configOk p then .error (fwFormat, 8)
    else if !(sigOk && decide (fieldAt p 6 1 < s.get .FW_CAP_KEYS)) then .error (fwSignature, 0)
    else if fieldAt p 8 1 ≠ s.get .CHP_ID_FAMILY ∨ fieldAt p 9 1 ≠ s.get .CHP_ID_MEMBER ∨ (bind ≠ 0 ∧ bind ≠ uidNat) then
      .error (fwBinding, 0)
    else if s.get .MS_ROMREV_REV < fieldAt p 10 2 then .error (fwRomrev, 0)
    else if fieldAt p 32 8 < s.get .SEC_MONO then .error (fwRollback, 0)
    else match badDelta with
      | some e => .error (fwDeltaBase, e.type)
      | none =>
        if !deltaOk && l.any (fun e => e.delta) then .error (fwDeltaBase, ((l.find? fun e => e.delta).elim 0 fun e => e.type))
        else match badIface with
          | some e => .error (fwInterface, e.type)
          | none =>
            if k = 0 ∨ !s.slotFree k then .error (fwSlotActive, 0)
            else if s.fwActive then .error (fwBusy, 0)
            else
              let given := l.map fun e => e.type
              let kept := (s.runningSlot.elim [] fun x => x.comps).filter fun c => !given.contains c.type
              .ok ⟨k, fieldAt p 32 8, (p.drop 48).take 8, fieldAt p 7 1, given, l.filterMap (s.component p) ++ kept⟩

/-- MS_SYSUNLOCK of every cluster that holds a system-area copy (R347): CH00, CH32 and CH64. -/
def State.setSysUnlock (s : State) (on : Bool) : State := forEach [0, 2, 5] s fun c s => s.putFlag .MS_SYSUNLOCK_UNLOCK on c

/-- COMMIT_VERIFY_DONE (R595 to R597, R600): the package is consumed; an accepted image is written next. -/
def execCommitVerifyDone (sigOk deltaOk : Bool) (s : State) : Host.Outcome State Fault Refusal :=
  if !s.flag .FW_STS_COMMIT_BUSY || s.flag .X_FW_WRITING || !s.wardenUp then .next s
  else
    match s.verify sigOk deltaOk with
    | .error (code, comp) =>
      let s := s.put .X_FW_TGT (s.targetSlot (s.get .X_FW_TGT))
      .next (({ s with pkg := [] } : State).endCommit code comp (fwVerdict code))
    | .ok x =>
      let s : State := { s with pkg := [], fwNew := some x, fwSlots := s.fwSlots.filter fun y => y.slot ≠ x.slot }
      .next (((s.put .X_FW_TGT x.slot).putFlag .X_FW_WRITING true).setSysUnlock true)

/-- Arms a live activation (R601). -/
def State.armFirmware (s : State) (slot tick : Nat) : State :=
  ((s.put .FW_STS_ACT_STATE 1).put .FW_ACTIVE_ARMED slot).arm tick (.firmware slot)

/-- What a commit does once its slot is written (R599, R600). -/
def State.committed (s : State) (x : FwSlot) : State :=
  let act := s.get .X_FW_ACT
  let live := !bit x.flags 1
  if act = 0 then s.endCommit fwOk 0 vSuccess
  else if act = 1 then (s.setNextReset x.slot).endCommit fwOk 0 vSuccess
  else if !live then (s.setNextReset x.slot).endCommit fwOk 0 vNeedsReset
  else if act = 3 then
    let id := s.get .X_FW_CMD
    -- the command completes with its activation, so the end of the commit answers nothing yet
    (((s.put .X_FW_CMD 0).endCommit fwOk 0 vSuccess).put .X_FW_WAIT id).armFirmware x.slot (s.tick + 2)
  else if s.armOk (s.get .X_FW_TICK) then (s.armFirmware x.slot (s.get .X_FW_TICK)).endCommit fwOk 0 vSuccess
  else s.endCommit fwTickPast 0 vTickPast

/-- SLOT_WRITE_DONE (R597): all three copies written, or two of them failed and the slot reads VALID 0. -/
def execSlotWriteDone (ok : Bool) (s : State) : Host.Outcome State Fault Refusal :=
  if !s.flag .X_FW_WRITING then .next s
  else
    let s := s.setSysUnlock false
    match s.fwNew with
    | none => .next (s.endCommit fwWriteFail 0 vInternal)
    | some x =>
      if !ok then .next (s.endCommit fwWriteFail 0 vInternal)
      else .next ((({ s with fwSlots := s.fwSlots ++ [x] } : State).bump .FW_CNT_COMMITS).committed x)

/-! ### Live activation (R601 to R607) -/

def fwFrontMap : Nat := 2
def fwClusters : Nat := 3
def fwRecording : Nat := 4

/-- The slot whose images the activation at work loads: the new one, or, while it is reverted, the running one. -/
def State.fwLoads (s : State) : Nat := if s.flag .X_FW_REV then s.get .FW_ACTIVE_RUNNING else s.get .FW_ACTIVE_ARMED

/-- The package of the activation at work held a component of a type. -/
def State.fwGiven (s : State) (t : Nat) : Bool := (s.slot? (s.get .FW_ACTIVE_ARMED)).any fun x => x.given.contains t

/-- A channel table of a type switches to a slot's (R602). -/
def State.switchTables (s : State) (slot : Nat) : State :=
  forEach [6, 7] s fun t s => if s.fwGiven t then s.put .X_FW_COMP slot t else s

/-- An armed live activation takes effect (R602, R603). -/
def State.startActivation (s : State) (slot : Nat) : State :=
  if s.mode = mHoldup || s.get .FW_STS_ACT_STATE ≠ 1 then s
  else
    let s := ((s.put .FW_STS_ACT_STATE fwFrontMap).putFlag .X_FW_REV false).switchTables slot
    let s := if s.fwGiven 3 then s.putFlag .X_FE_PAUSE true else s
    if s.fwGiven 4 then s.put .X_FW_MAPHALF 1 else s

/-- The activation reaches the clusters, or, with no CLUSTER component, its recording (R603, step 4); a revert ends (R606). -/
def State.fwBoundary (s : State) : State :=
  if s.get .FW_STS_ACT_STATE ≠ fwFrontMap || s.flag .X_FE_PAUSE || s.get .X_FW_MAPHALF ≠ 0 then s
  else if s.flag .X_FW_REV then
    let s := s.switchTables (s.get .FW_ACTIVE_RUNNING)
    let slot := s.get .FW_ACTIVE_ARMED
    let s := ((s.put .FW_STS_ACT_STATE 6).put .FW_ACTIVE_ARMED 0).putFlag .X_FW_REV false
    ((s.bump .FW_CNT_REVERTS).fwReport fwReverted slot 0 0).fwAnswer .X_FW_WAIT vInternal
  else if s.fwGiven 5 then
    (((s.put .FW_STS_ACT_STATE fwClusters).put .FW_STS_ROLL_CLUSTER 0).put .X_FW_PHASE 0).putFlag .FW_STS_WAITING false
  else s.put .FW_STS_ACT_STATE fwRecording

/-- FRONT_RELOAD_DONE (R603, step 1): the pause ends. -/
def execFrontReloadDone (s : State) : Host.Outcome State Fault Refusal :=
  if s.get .FW_STS_ACT_STATE ≠ fwFrontMap || !s.flag .X_FE_PAUSE then .next s
  else .next ((s.putFlag .X_FE_PAUSE false).put .X_FW_COMP s.fwLoads 3).postHeld

/-- MAP_RELOAD_HALF (R603, steps 2 and 3): the half at work is ready, and the other one begins; a revert goes the other way round. -/
def execMapReloadHalf (s : State) : Host.Outcome State Fault Refusal :=
  let h := s.get .X_FW_MAPHALF
  if s.get .FW_STS_ACT_STATE ≠ fwFrontMap || h = 0 then .next s
  else if s.flag .X_FW_REV then .next (if h = 2 then s.put .X_FW_MAPHALF 1 else (s.put .X_FW_MAPHALF 0).put .X_FW_COMP s.fwLoads 4)
  else .next (if h = 1 then s.put .X_FW_MAPHALF 2 else (s.put .X_FW_MAPHALF 0).put .X_FW_COMP s.fwLoads 4)

/-- Every populated die outside a cluster is available (R605). -/
def State.outsideAvailable (s : State) (c : Nat) : Bool := s.dies.all fun d => channelCluster (dieChannel d) = c || s.dieAvailable d

/-- The preparation tick of the cluster at hand begins, or its start waits (R604, R605). -/
def State.prepareRoll (s : State) : State :=
  if s.get .FW_STS_ACT_STATE ≠ fwClusters || s.get .X_FW_PHASE ≠ 0 then s
  else if s.outsideAvailable (s.get .FW_STS_ROLL_CLUSTER) then
    ((s.put .X_FW_PHASE 1).put .X_FW_AT s.tick).putFlag .FW_STS_WAITING false
  else s.putFlag .FW_STS_WAITING true

/-- CLUSTER_ROLL_PREPARE (R604, R605). -/
def execClusterRollPrepare (s : State) : Host.Outcome State Fault Refusal := .next s.prepareRoll

/-- CLUSTER_OUT_OF_SERVICE (R604, step 2). -/
def execClusterOutOfService (s : State) : Host.Outcome State Fault Refusal :=
  if s.get .FW_STS_ACT_STATE ≠ fwClusters || s.get .X_FW_PHASE ≠ 1 || s.tick ≤ s.get .X_FW_AT then .next s
  else
    let s := ((s.put .X_FW_PHASE 2).put .X_FW_RDY 0).put .X_FW_AT s.tick
    .next (s.putFlag .X_CL_OOS true (s.get .FW_STS_ROLL_CLUSTER))

/-- The activation fails and is reverted in reverse order (R606): a cluster out of service reloads the running slot's image, then the
clusters below it, then the MAP halves and FRONT. -/
def State.revertActivation (s : State) (comp : Nat) : State :=
  let cl := s.get .FW_STS_ROLL_CLUSTER
  let inRoll := s.get .FW_STS_ACT_STATE = fwClusters
  let s := s.fwReport fwReloadFail (s.get .FW_ACTIVE_ARMED) comp (if inRoll then cl else 0)
  let s := s.putFlag .X_FW_REV true
  if inRoll then (s.put .X_FW_RDY 0).put .X_FW_AT s.tick
  else
    let s := if s.fwGiven 3 then s.putFlag .X_FE_PAUSE true else s
    if s.fwGiven 4 then s.put .X_FW_MAPHALF (if s.get .X_FW_MAPHALF = 1 then 1 else 2) else s

/-- RELOAD_FAIL (R606): a core of a component at work is not ready within its step. -/
def execReloadFail (core : Nat) (s : State) : Host.Outcome State Fault Refusal :=
  let ag := Agent.core core
  let st := s.get .FW_STS_ACT_STATE
  if s.flag .X_FW_REV then .next s
  else if st = fwFrontMap ∧ ag.isFe ∧ s.flag .X_FE_PAUSE then .next (s.revertActivation 3)
  else if st = fwFrontMap ∧ ag.isMp ∧ s.get .X_FW_MAPHALF ≠ 0 then .next (s.revertActivation 4)
  else if st = fwClusters ∧ s.get .X_FW_PHASE = 2 ∧ mdOf (s.get .FW_STS_ROLL_CLUSTER) ag then .next (s.revertActivation 5)
  else .next s

/-- CLUSTER_CORE_READY (R604, step 3, R606): an MD core of the cluster out of service reports ready, or fails its check. -/
def execClusterCoreReady (core : Nat) (ok : Bool) (s : State) : Host.Outcome State Fault Refusal :=
  let c := s.get .FW_STS_ROLL_CLUSTER
  if s.get .FW_STS_ACT_STATE ≠ fwClusters || s.get .X_FW_PHASE ≠ 2 || !mdOf c (.core core) then .next s
  else if !ok then .next (if s.flag .X_FW_REV then s else s.revertActivation 5)
  else
    let s := s.put .X_FW_RDY (s.get .X_FW_RDY ||| 2 ^ (core - 8 - 6 * c))
    .next (if s.get .X_FW_RDY = 63 then (s.put .X_FW_PHASE 3).put .X_FW_AT s.tick else s)

/-- The next cluster of the roll, in its order, or what follows the last one. -/
def State.nextCluster (s : State) : State :=
  let c := s.get .FW_STS_ROLL_CLUSTER
  let s := s.put .X_FW_PHASE 0
  if s.flag .X_FW_REV then
    if c = 0 then
      let s := s.put .FW_STS_ACT_STATE fwFrontMap
      let s := if s.fwGiven 3 then s.putFlag .X_FE_PAUSE true else s
      if s.fwGiven 4 then s.put .X_FW_MAPHALF 2 else s
    else (s.put .FW_STS_ROLL_CLUSTER (c - 1)).prepareRoll
  else if 7 ≤ c then (s.put .FW_STS_ACT_STATE fwRecording).put .FW_STS_ROLL_CLUSTER 0
  else (s.put .FW_STS_ROLL_CLUSTER (c + 1)).prepareRoll

/-- CLUSTER_RETURN (R604, step 4): back in service; the tick is the preparation tick of the next one. -/
def execClusterReturn (s : State) : Host.Outcome State Fault Refusal :=
  let c := s.get .FW_STS_ROLL_CLUSTER
  if s.get .FW_STS_ACT_STATE ≠ fwClusters || s.get .X_FW_PHASE ≠ 3 || s.tick ≤ s.get .X_FW_AT then .next s
  else .next (((s.putFlag .X_CL_OOS false c).put .X_FW_CLCOMP s.fwLoads c).nextCluster)

/-- CLUSTER_WAIT_TIMEOUT (R605): the roll goes on waiting. -/
def execClusterWaitTimeout (s : State) : Host.Outcome State Fault Refusal :=
  .next (if s.flag .FW_STS_WAITING then
    s.fwReport fwClusterWait (s.get .FW_ACTIVE_ARMED) 5 (s.get .FW_STS_ROLL_CLUSTER)
  else s)

/-- The Warden records a slot as running and raises SEC_MONO where its package says so (R607, steps 1 and 2). -/
def State.recordRunning (s : State) (x : FwSlot) : State :=
  let s := s.put .X_SYS_RUN x.slot
  if bit x.flags 0 && decide (s.get .SEC_MONO < x.svn) then s.setMono x.svn else s

/-- ACTIVATION_RECORD (R607): after the last cluster returned, the new slot is recorded, and the activation is DONE. -/
def execActivationRecord (s : State) : Host.Outcome State Fault Refusal :=
  if s.get .FW_STS_ACT_STATE ≠ fwRecording || !s.wardenUp then .next s
  else match s.slot? (s.get .FW_ACTIVE_ARMED) with
    | none => .next s
    | some x =>
      let s := (s.recordRunning x).put .FW_ACTIVE_RUNNING x.slot
      let s := ((s.put .FW_STS_ACT_STATE 5).put .FW_ACTIVE_ARMED 0).bump .FW_CNT_ACTIVATIONS
      .next ((s.fwReport fwOk x.slot 0 0).fwAnswer .X_FW_WAIT vSuccess)

/-- An armed activation is cancelled (R601). Its command, where one still waits, is aborted (log entry 33). -/
def State.cancelFirmware (s : State) : State :=
  ((s.put .FW_STS_ACT_STATE 7).put .FW_ACTIVE_ARMED 0).fwAnswer .X_FW_WAIT vAborted

end Sys2Proof.Machine
end

