-- ==== Sys2Proof/Machine/Modes.lean ====
section
/-! DEFINITION. Operating modes and power domains (13): entry into Ready and Retain and the way back, the scale of Throttle, the
commands of PM_CMD, the supply transitions below Retain, and the patrol sequencer. Hold-up is in Machine/Holdup.lean. -/

namespace Sys2Proof.Machine

/-! ### Domains (R490, R491) -/

/-- Every cluster whose dies run no program and no erase becomes CLOCK_GATED (R493, step 4). -/
def State.gateIdle (s : State) : State :=
  forEach (List.range 8) s fun c s =>
    if s.dies.any fun d => channelCluster (dieChannel d) = c && s.get .X_DIE_OP d ≠ 0 then s
    else s.gateAll (s.subtree (uCluster c)) 1

/-- DOMAIN_WAKE (R491): an access wakes the domain of a unit that Retain holds in RETAIN, and no other. -/
def execDomainWake (win : Nat) (s : State) : Host.Outcome State Fault Refusal :=
  .next (if s.mode = mRetain then s.gateAll (s.domainOf win) 0 else s)

/-- DOMAIN_REGATE (R491): REGATE_US without an access, while the J96 does not leave Retain. -/
def execDomainRegate (win : Nat) (s : State) : Host.Outcome State Fault Refusal :=
  .next (if s.mode = mRetain && s.get .PM_MODE_MOVE = 0 then s.gateAll (s.domainOf win) 2 else s)

/-! ### Entering Ready and Retain (R493 to R496) -/

/-- IDLE_TIMER_EXPIRY (R487): no command has been outstanding for IDLE_US; a command fetched or taken in starts the time anew. -/
def execIdleTimerExpiry (s : State) : Host.Outcome State Fault Refusal :=
  .next (if s.anyBusy then s else s.putFlag .X_IDLE true)

/-- The first condition of R495 that refuses an entry: the refuser and the reason. The cluster roll counts as an image being
written (R609); a store that is absent is not waited for (log entry 47). -/
def State.entryRefusal (s : State) (target : Nat) : Option (Nat × Nat) :=
  if s.anyBusy then some (uFront, 0x01)
  else if (List.range 264).any fun f => s.get .JQ_FGOLD_RES_SLOTS f ≠ 0 then some (uFront, 0x02)
  else if !s.sweeps.isEmpty || (s.pins.any fun p => p.id = 0) || s.flag .MC_STS_DRAINING || s.flag .MC_STS_INIT then some (uMap, 0x04)
  else if s.sanitizing then some (uMap, 0x0D)
  else match s.regs.find? fun x => x.1.f = .UCB_REQ_STS_STATE && x.2 = 2 with
    | some x => some (x.1.i, 0x05)
    | none =>
      if s.get .SEC_MBX_STS_STATE = 1 then some (uWarden, 0x06)
      else if target = mRetain && s.hu ≠ huReady && s.hu ≠ huDisabled then some (uHousekeeping, 0x07)
      else if s.flag .FW_STS_COMMIT_BUSY || s.get .FW_STS_ACT_STATE = fwClusters then some (uChip, 0x0B)
      else none

/-- Lead entries not yet started are withdrawn from the plans and go back to the planner (R493, step 3). -/
def State.withdrawLead (s : State) : State :=
  { s with plans := s.plans.map fun p =>
      let lead (e : PEntry) : Bool := e.cls = 3 && (e.op = opRead || e.op = opMargin || e.op = opProgram || e.op = opErase)
      { p with
        active := p.active.filter fun e => !lead e
        next := p.next.filter fun e => !lead e
        back := p.back ++ (p.active ++ p.next).filter lead } }

/-- The mode sought is reached: the entry is over and counted. -/
def State.completeEntry (s : State) (m : Nat) : State :=
  ((((s.put .PM_MODE_MODE m).put .PM_MODE_MOVE 0).put .PM_MODE_TARGET m).bump .PM_CNT_ENTRIES).answerPm

/-- AP2 (R493, R494): a wake event abandons the entry; otherwise PM_MODE reads Ready, idle clusters gate, and an entry into Ready is
complete. -/
def State.passAp2 (s : State) : State :=
  if s.get .X_WAKE ≠ 0 then s.abandonEntry 2
  else
    let s := ((s.put .X_PM_AP 2).put .PM_MODE_MODE mReady).gateIdle
    if s.get .PM_MODE_TARGET = mReady then s.completeEntry mReady else s

/-- An entry waits at AP2 for the reads in progress. -/
def State.ap2Due (s : State) : Bool :=
  s.get .PM_MODE_MOVE = 1 && s.get .X_PM_AP = 1 && decide (mRun ≤ s.mode) && !s.dies.any fun d => s.flag .X_DIE_RD d

/-- MODE_ENTRY (R487, R493 to R496): the entry toward the demanded mode begins, or is refused at AP1. -/
def execModeEntry (s : State) : Host.Outcome State Fault Refusal :=
  let from' := s.mode
  if s.get .PM_MODE_MOVE ≠ 0 || !s.flag .X_IDLE || !s.quieter || !(from' = mReady || from' = mRun || from' = mThrottle)
      || (from' = mReady && s.get .X_WAKE ≠ 0) then .next s
  else
    let target := s.demand
    let s := (s.put .X_PM_FROM from').put .PM_MODE_TARGET target
    match s.entryRefusal target with
    | some (unit, reason) => .next (((s.logRefusal unit reason 1 false).put .PM_MODE_TARGET from').answerPm)
    | none =>
      let s := (((s.refusePower).put .PM_MODE_MOVE 1).put .X_WAKE 0).put .X_PM_AP 1
      let s := s.withdrawLead
      .next (if s.ap2Due then s.passAp2 else s)

/-- READ_CALL_COMPLETE (R329, R494): the READ at work on a die ends with the results of its units; the last read of an entry
brings AP2. -/
def execReadCallComplete (die : Nat) (units : List UnitResult) (busyNs : Nat) (s : State) : Host.Outcome State Fault Refusal :=
  let s := s.readDone die units busyNs
  .next (if s.ap2Due then s.passAp2 else s)

/-- MEDIA_QUIET (R493, R494): no die runs or suspends a program or erase. The clusters that were still busy gate; an entry into
Retain is at AP3, which completes or abandons it. -/
def execMediaQuiet (s : State) : Host.Outcome State Fault Refusal :=
  if s.dies.any fun d => s.get .X_DIE_OP d ≠ 0 then .next s
  else
    let s := if s.ap2Due then s.passAp2 else s
    if s.mode ≠ mReady && s.get .PM_MODE_MOVE ≠ 1 then .next s
    else
      let s := if s.mode = mReady then s.gateIdle else s
      if s.get .PM_MODE_MOVE = 1 && s.get .PM_MODE_TARGET = mRetain && (s.mode = mReady) then
        if s.get .X_WAKE ≠ 0 then
          let s := s.abandonEntry 3
          .next (if s.mode = mReady then s.gateIdle else s)
        else
          let s := s.gateAll ([uChip, uFront, uMap, uWarden] ++ (List.range 8).flatMap fun c => s.subtree (uCluster c)) 2
          .next (s.completeEntry mRetain)
      else .next s

/-! ### Leaving Ready and Retain (R497 to R502) -/

/-- The mode an exit leads to: the demanded one, or Run or Throttle for a wake event that leaves work to do. -/
def State.exitTarget (s : State) : Nat :=
  if decide (s.mode < s.demand) && (!s.anyBusy || mRun ≤ s.demand) then s.demand
  else if s.get .PM_THR_STS_S < 256 then mThrottle else mRun

/-- The mode changes to Ready, Run or Throttle, out of Ready or Retain. -/
def State.leaveFor (s : State) (m : Nat) : State :=
  let s := (((s.ungate).put .PM_MODE_MODE m).put .PM_MODE_TARGET m).put .X_WAKE 0
  (if m = mReady then s.gateIdle else s).putFlag .X_IDLE false

/-- Retain is being left (R500): its domains are restored, and PM_MODE reads the mode left for at the next boundary. -/
def State.startExit (s : State) (m : Nat) : State := (((s.ungate).put .PM_MODE_MOVE 2).put .PM_MODE_TARGET m).put .X_WAKE 0

/-- The boundary at which an exit from Retain is complete (R500, step 4). A wake event since then is still to be served in Ready. -/
def State.finishExit (s : State) : State :=
  if s.mode = mRetain && s.get .PM_MODE_MOVE = 2 then
    let m := s.get .PM_MODE_TARGET
    let t := (s.leaveFor m).put .PM_MODE_MOVE 0
    if m = mReady then t.put .X_WAKE (s.get .X_WAKE) else t
  else s

/-- MODE_EXIT (R37, R488, R499 to R501): a wake event or a higher demand ends a stay in Ready or begins the way out of Retain. Pending power
requests are refused, and the change waits for one that is RUNNING. -/
def execModeExit (s : State) : Host.Outcome State Fault Refusal :=
  if (s.mode = mReady || s.mode = mRetain) && s.get .PM_MODE_MOVE = 0
      && (s.get .X_WAKE ≠ 0 || decide (s.mode < s.demand)) then
    let t := s.refusePower
    .next (if t.powerRunning then t else if s.mode = mRetain then t.startExit s.exitTarget else t.leaveFor s.exitTarget)
  else .next s

/-! ### Throttle (R503 to R505) -/

/-- The power cap C (R504): PM_PCAP.CAP, or the cap of the operational power state in force where that is lower. -/
def State.powerCap (s : State) : Nat :=
  min (s.get .PM_PCAP_CAP) (match s.powerState with
    | some 1 => 40
    | some 2 => 25
    | _ => 55)

/-- The power scale S_P (R504). -/
def State.powerScale (s : State) : Nat :=
  let c := s.powerCap
  let base := s.get .PM_PCAP_BASE
  if 55 ≤ c then 256 else max (s.get .PM_THR_CFG_S_MIN) (256 * (c - base) / (55 - base))

/-- A weight scaled: one that is not 0 never falls below 1. -/
def scaled (w num den : Nat) : Nat := if w = 0 then 0 else max 1 (w * num / den)

/-- The budgets in force are published (R70, R71, R505). -/
def State.publishBudgets (s : State) : State :=
  let t := s.mode = mThrottle
  let sc := s.get .PM_THR_STS_S
  let silver := if t then scaled (s.get .TK_BUDGET0_SILVER_W) sc 256 else s.get .TK_BUDGET0_SILVER_W
  let copper := if t then scaled (s.get .TK_BUDGET0_COPPER_W) (sc * sc) 65536 else s.get .TK_BUDGET0_COPPER_W
  let pe := if t then max 1 (s.get .TK_BUDGET1_PE_MAX * sc / 256) else s.get .TK_BUDGET1_PE_MAX
  let s := s.put .X_CUTOFF_EFF (s.get .TK_CUTOFF_PERCENT)
  (s.put .TK_BUDGET_EFF0 (s.get .TK_BUDGET0_GOLD_MAX * 2 ^ 24 + s.get .TK_BUDGET0_LEAD_MIN * 2 ^ 16 + silver * 256 + copper)).put
    .TK_BUDGET_EFF1 (pe * 2 ^ 16 + s.get .TK_BUDGET1_GOLD_SLOTS)

/-- Run becomes Throttle, or Throttle Run, under R37: pending power requests are refused, and the change waits for one that is
RUNNING. -/
def State.scaleTo (s : State) (m : Nat) : State :=
  let s := s.refusePower
  if s.powerRunning then s
  else
    let s := s.put .PM_MODE_MODE m
    if s.get .PM_MODE_MOVE = 0 then s.put .PM_MODE_TARGET m else s

/-- SCALE_CHANGE (R37, R488, R504, R505): at a boundary S becomes the smaller of S_T and S_P, and Run and Throttle follow it. -/
def execScaleChange (s : State) : Host.Outcome State Fault Refusal :=
  if !s.powered then .next s
  else
    let sp := s.powerScale
    let sc := min (s.get .PM_THR_STS_S_T) sp
    let s := (s.put .PM_THR_STS_S_P sp).put .PM_THR_STS_S sc
    let s := if s.mode = mRun && decide (sc < 256) then s.scaleTo mThrottle
      else if s.mode = mThrottle && sc = 256 then s.scaleTo mRun
      else s
    .next s.publishBudgets

/-! ### PM_CMD (R489, R509) -/

def pmSetFloor : Nat := 1
def pmShutdown : Nat := 2

/-- Some controller has CC.EN = 1, or some Jexash queue is enabled (R509). -/
def State.hostsActive (s : State) : Bool :=
  s.powerState.isSome || s.regs.any fun x => x.1.f = .JQ_QSTS_STATE && (x.2 = 1 || x.2 = 3)

/-- PM_CMD_STS of an agent; GO reads 1 while its command is ARMED. -/
def State.pmSts (s : State) (a st reason : Nat) : State :=
  (s.put .PM_CMD_STS_STATE st 0 a).put .PM_CMD_STS_REASON reason 0 a

/-- A command of PM_CMD takes effect (R37, R78 step 5, R486, R509). A SHUTDOWN that meets a RUNNING power request waits for it, armed for
the next tick (DEDUCED, log entry 68). -/
def State.pmEffect (s : State) (a op arg : Nat) : State :=
  if op = pmSetFloor then
    let s := s.putFlag .PM_CMD_GO false 0 a
    ((s.put .PM_CTL_FLOOR arg).noteDemand s).pmSts a 3 0
  else if s.hostsActive then (s.putFlag .PM_CMD_GO false 0 a).pmSts a 4 0x05
  else
    let s := s.refusePower
    if s.powerRunning then ((s.putFlag .PM_CMD_GO true 0 a).pmSts a 2 0).arm (s.tick + 1) (.mode a op arg)
    else ((s.putFlag .PM_CMD_GO false 0 a).pmSts a 3 0).enterHoldup 4

/-- The first check a command of PM_CMD fails (R489, R76, R509). -/
def State.pmReason (s : State) (a op arg : Nat) (useTick : Bool) : Option Nat :=
  let okArg := (op = pmSetFloor && decide (3 ≤ arg) && decide (arg ≤ 5))
    || (op = pmShutdown && (s.mode = mReady || s.mode = mRun || s.mode = mThrottle))
  if !okArg then some 0x02
  else if useTick && !s.armOk (s.get .PM_CMD_TICK 0 a) then some 0x03
  else if s.flag .PM_CMD_GO 0 a then some 0x04
  else if op = pmShutdown && s.hostsActive then some 0x05
  else none

/-- A GO to PM_CMD with OP, ARG and USE_TICK. -/
def State.submitPm (s : State) (ag : Agent) (op arg : Nat) (useTick : Bool) : State :=
  s.guardWrite ag .ownerMpWd fun s =>
    let a := ag.ix
    let s := ((s.put .PM_CMD_OP op 0 a).put .PM_CMD_ARG arg 0 a).putFlag .PM_CMD_USE_TICK useTick 0 a
    match s.pmReason a op arg useTick with
    | some r => s.pmSts a 4 r
    | none =>
      if useTick then ((s.putFlag .PM_CMD_GO true 0 a).pmSts a 2 0).arm (s.get .PM_CMD_TICK 0 a) (.mode a op arg)
      else s.pmEffect a op arg

/-- SET_FLOOR (R486). -/
def execSetFloor (ag : Agent) (arg : Nat) (useTick : Bool) (s : State) : Host.Outcome State Fault Refusal :=
  .next (s.atUnit uChip fun s => s.submitPm ag pmSetFloor (arg % 8) useTick)

/-- SHUTDOWN (R509). -/
def execShutdown (ag : Agent) (useTick : Bool) (s : State) : Host.Outcome State Fault Refusal :=
  .next (s.atUnit uChip fun s => s.submitPm ag pmShutdown 0 useTick)

/-! ### Off, Keep and Patrol (R488, R507, R511, R611) -/

/-- VAUX_RISE (R488, R555, R557): a supply of the VBAT domain rises, VAUX or VBAT. From Off the J96 comes to Keep, with a calendar that
has lost its time. -/
def execVauxRise (vaux : Bool) (s : State) : Host.Outcome State Fault Refusal :=
  let s := if vaux then s.putFlag .X_VAUX true else s.putFlag .X_VBAT true
  if s.mode ≠ mOff then .next s
  else
    let s := (s.putFlag .CAL_STS_VBAT_LOST true).putFlag .CAL_STS_VALID false
    .next ((s.put .PM_MODE_MODE mKeep).put .PM_MODE_TARGET mKeep)

/-- The fuse defaults that Patrol uses without copies (R511). What the windows of channels 44 to 47 are is open. -/
def State.auxDefaults (s : State) : State :=
  let s := ((s.put .X_PAT_PERIOD 100).put .X_PAT_ERR 1).put .X_PAT_WAKE 0
  let s := s.put .X_PAT_MASK ((patrolChannels.map fun n => 2 ^ n).foldl (· + ·) 0)
  forEach patrolChannels s fun n s =>
    if n < 44 then (s.put .X_PAT_HI (toField 16 (hkWindow n).1) n).put .X_PAT_LO (toField 16 (hkWindow n).2) n
    else
      let (hi, s) := s.takeFree
      let (lo, s) := s.takeFree
      (s.put .X_PAT_HI hi n).put .X_PAT_LO lo n

/-- KEEP_TO_PATROL (R488, R511). -/
def execKeepToPatrol (s : State) : Host.Outcome State Fault Refusal :=
  if s.mode ≠ mKeep then .next s
  else
    let s := (s.putFlag .X_VAUX true).auxDefaults
    let s := (s.put .PM_PATROL_STS_ROUNDS 0).put .PM_PATROL_STS_VIOLATIONS 0
    .next (((s.put .PM_MODE_MODE mPatrol).put .PM_MODE_TARGET mPatrol).put .PM_MODE_CAUSE (s.get .X_KEEP_CAUSE))

/-- Every supply of the VBAT domain is gone (R485): nothing is kept but what flash holds. -/
def State.toOff (s : State) : State :=
  let s : State := { s with regs := s.regs.filter fun x => match x.1.f.info.dom with
      | .keep | .vbat | .boot => false
      | _ => true }
  (s.put .PM_MODE_MODE mOff).put .PM_MODE_TARGET mOff

/-- VAUX_FALL (R488): the AUX domain loses its supply. Without VBAT the VBAT domain is gone with it. -/
def execVauxFall (s : State) : Host.Outcome State Fault Refusal :=
  let s := s.putFlag .X_VAUX false
  let s := if s.mode = mPatrol then ((s.dropAux).put .PM_MODE_MODE mKeep).put .PM_MODE_TARGET mKeep else s
  .next (if s.mode = mKeep && !s.flag .X_VBAT then s.toOff else s)

/-- VBAT_FALL (R488): from Keep without VAUX the J96 is Off. -/
def execVbatFall (s : State) : Host.Outcome State Fault Refusal :=
  let s := s.putFlag .X_VBAT false
  .next (if s.mode = mKeep && !s.flag .X_VAUX then s.toOff else s)

/-- MAIN_EN_ASSERT (R611): not after thermal shut-down or SHUTDOWN, which wait for a wake or for the MAIN_PG cycle of R508. -/
def execMainEnAssert (s : State) : Host.Outcome State Fault Refusal :=
  .next (if s.mode = mPatrol && s.flag .X_VAUX && s.get .X_KEEP_CAUSE ≠ 3 && s.get .X_KEEP_CAUSE ≠ 4 then s.setMainEn true else s)

/-! ### The patrol sequencer (R510, R512, R513) -/

/-- Writes a sample to the next entry of the patrol log in keep memory (R513). -/
def State.logPatrol (s : State) (n : Nat) (v : Int) (above : Bool) : State :=
  let i := s.get .PM_PATROL_STS_NEXT
  let w := n + (if above then 1 else 2) * 256 + toField 16 v * 65536
  let s := (s.put .PM_KEEP w (16 + 2 * i)).put .PM_KEEP (s.calStamp / 65536 % 2 ^ 32) (17 + 2 * i)
  s.put .PM_PATROL_STS_NEXT ((i + 1) % 8)

/-- One channel of a patrol round: a sample outside its window is a violation (R512). -/
def State.patrolSample (s : State) (n : Nat) (v : Int) : State :=
  let hi := ofField 16 (s.get .X_PAT_HI n)
  let lo := ofField 16 (s.get .X_PAT_LO n)
  if decide (lo ≤ v) && decide (v ≤ hi) then s
  else
    let s := s.logPatrol n v (decide (hi < v))
    let s := s.put .PM_PATROL_STS_VIOLATIONS (min (s.get .PM_PATROL_STS_VIOLATIONS + 1) 0xFE)
    let s := if s.flag .X_PAT_ERR && !s.flag .FC_STS_ERR_N then (s.putFlag .FC_STS_ERR_N true).emit (.pin "ERR_N" true) else s
    if s.flag .X_PAT_WAKE then s.setMainEn true else s

/-- PATROL_ROUND (R510, R512): `samples` holds what each channel converts to, none where a conversion fails. -/
def execPatrolRound (samples : List (Option Int)) (s : State) : Host.Outcome State Fault Refusal :=
  if s.mode ≠ mPatrol then .next s
  else
    let s := forEach (patrolChannels.filter fun n => bit (s.get .X_PAT_MASK) n) s fun n s =>
      match samples.getD n none with
      | some v => s.patrolSample n v
      | none => s
    .next (s.put .PM_PATROL_STS_ROUNDS (min (s.get .PM_PATROL_STS_ROUNDS + 1) 0xFFFE))

end Sys2Proof.Machine
end

