-- ==== Sys2Proof/Machine/Units.lean ====
section
/-! DEFINITION. Resets and power changes of units (R25 to R38, R666 to R668), the bring-up of a channel (R312 to R317), and the
requests for chip resets (R46). -/

namespace Sys2Proof.Machine

/-! ### UCB_FAULT (R25, R26) -/

/-- A level source's condition holds at a unit. -/
def State.levelHolds (s : State) (x u : Nat) : Bool :=
  (srcRow x).level && (if x = 48 then u = uFront && s.flag .X_SRC_PRESENT 48 else s.levelAt x u)

/-- The cause of a bit of a unit's UCB_FAULT is still present: that of TIMEOUT is the unit's own overdue request (R30), that of a class
bit or of THRESHOLD a level source whose condition holds at the unit. -/
def State.causeHolds (s : State) (u b : Nat) : Bool :=
  match b with
  | 0 | 1 | 2 => (List.range 320).any fun x => s.levelHolds x u && (srcRow x).cls = b + 1
  | 3 => (List.range 320).any fun x => s.levelHolds x u && s.flag .FC_SRC_STATE_SEVERE x
  | 4 => s.flag .X_REQ_OVERDUE u
  | _ => false

/-- The bits of UCB_FAULT. -/
def faultBits : List (Nat × Field) :=
  [(0, .UCB_FAULT_CORRECTED), (1, .UCB_FAULT_CONTAINED), (2, .UCB_FAULT_FATAL), (3, .UCB_FAULT_THRESHOLD), (4, .UCB_FAULT_TIMEOUT),
    (5, .UCB_FAULT_REFUSED)]

/-- A write of ones to UCB_FAULT: each bit clears in the unit and in every descendant whose cause is gone. -/
def State.clearUnitFault (s : State) (ag : Agent) (win value : Nat) : State :=
  s.guardWrite ag .any fun s =>
    forEach (faultBits.filter fun b => bit value b.1) s fun b s =>
      forEach ((s.subtree win).filter fun u => s.get b.2 u ≠ 0 && !s.causeHolds u b.1) s fun u s => s.put b.2 0 u

/-- UCB_FAULT_CLEAR (R25). -/
def execUcbFaultClear (ag : Agent) (win value : Nat) (s : State) : Host.Outcome State Fault Refusal :=
  .next (if s.windowExists win then s.clearUnitFault ag win value else s.decodeFault ag)

/-! ### Requests (R28 to R35, R667) -/

/-- A write of UCB_RESET_REQ with GO. -/
def State.writeReset (s : State) (ag : Agent) (win : Nat) (immediate useTick : Bool) : State :=
  s.guardWrite ag .any fun s =>
    let s := (s.putFlag .UCB_RESET_REQ_IMMEDIATE immediate win).putFlag .UCB_RESET_REQ_USE_TICK useTick win
    s.submitReset ag win immediate useTick

/-- UNIT_RESET_REQUEST (R28). -/
def execUnitResetRequest (ag : Agent) (win : Nat) (immediate useTick : Bool) (s : State) : Host.Outcome State Fault Refusal :=
  .next (if s.windowExists win then s.writeReset ag win immediate useTick else s.decodeFault ag)

/-- A write of UCB_POWER_REQ with GO. -/
def State.writePower (s : State) (ag : Agent) (win target : Nat) (useTick : Bool) : State :=
  s.guardWrite ag .any fun s =>
    let s := (s.put .UCB_POWER_REQ_TARGET target win).putFlag .UCB_POWER_REQ_USE_TICK useTick win
    s.submitPower ag win target useTick

/-- UNIT_POWER_REQUEST (R34). -/
def execUnitPowerRequest (ag : Agent) (win target : Nat) (useTick : Bool) (s : State) : Host.Outcome State Fault Refusal :=
  .next (if s.windowExists win then s.writePower ag win (target % 8) useTick else s.decodeFault ag)

/-! ### Bring-up of a channel (R312 to R317) -/

/-- The parameter page meets R312, by itself and beside the first admitted die of its channel. -/
def DiePage.admissible (p : DiePage) (mode : Nat) (first : Option DiePage) : Bool :=
  p.ifMode = mode && p.pageKib = 16 && (p.planes = 2 || p.planes = 4) && decide (p.suspUs ≤ 20) && p.cacheRead && p.slcTlc
    && (match first with
      | some f => p.planes = f.planes && p.wlb = f.wlb && p.blocks = f.blocks
      | none => true)

/-- Raw capacity in KiB, in the densest enabled mode (R313). -/
def rawKib (blocks wlb planes cells : Nat) : Nat := blocks * wlb * planes * 16 * (if bit cells 2 then 4 else 3)

/-- Enabled cell modes of an admitted die: bit 0 SLC, 1 TLC, 2 QLC. -/
def DiePage.cells (p : DiePage) : Nat := if p.qlc then 7 else 3

/-- Raw capacity admitted outside a channel, KiB. -/
def State.rawOutside (s : State) (ch : Nat) : Nat :=
  ((s.dies.filter fun d => dieChannel d ≠ ch).map fun d =>
    rawKib (s.blocksPerDie (dieChannel d)) (s.wlb (dieChannel d)) (s.planes (dieChannel d)) (s.get .X_DIE_CELLS d)).foldl (· + ·) 0

/-- The admission of the dies of a channel, in order: positions admitted, and positions refused for capacity. Once a die would raise
the sum above MAX_RAW, no later die is admitted (R313). -/
def admitDies (mode max : Nat) : Nat → Option DiePage → Bool → List (Nat × Option DiePage) → List (Nat × DiePage) × List Nat
  | _, _, _, [] => ([], [])
  | sum, first, full, (_, none) :: l => admitDies mode max sum first full l
  | sum, first, full, (k, some p) :: l =>
    if !p.admissible mode first then admitDies mode max sum first full l
    else
      let raw := rawKib p.blocks p.wlb p.planes p.cells
      if full || decide (max < sum + raw) then
        let r := admitDies mode max sum first true l
        (r.1, k :: r.2)
      else
        let r := admitDies mode max (sum + raw) (first.orElse fun _ => some p) full l
        ((k, p) :: r.1, r.2)

/-- The overdue request of a unit is over (R30). -/
def State.endTimeout (s : State) (w : Nat) : State := (s.putFlag .X_REQ_OVERDUE false w).clearLevelAt 5 w

/-- A request of a unit ends MERGED with an ancestor's reset (R36). -/
def State.mergeReq (s : State) (w : Nat) : State :=
  (((s.disarmUnit w).setReq w 5 1 0).putFlag .UCB_RESET_REQ_GO false w).endTimeout w

/-- The request of a die that leaves ends (DEDUCED, log entry 68): its reset with the bring-up's own reset, which covers it (R36), and a
power request REFUSED with reason TYPE, as R667 ends a request at a window that is no unit's. -/
def State.endLeaving (s : State) (w : Nat) : State :=
  if !s.reqBusy w then s
  else if s.get .UCB_REQ_STS_KIND w = 1 then s.mergeReq w
  else ((((s.disarmUnit w).setReq w 4 2 2).putFlag .UCB_POWER_REQ_GO false w).refuseAt w).endTimeout w

/-- A die leaves the population (R18): its former window answers on, and no request of it is left. -/
def State.dropDie (s : State) (d : Nat) : State :=
  if s.flag .X_DIE_POP d then
    (((s.putFlag .X_DIE_POP false d).putFlag .X_DIE_FORMER true d).putFlag .X_OWN_READY false (uDie d)).endLeaving (uDie d)
  else s

/-- An admitted die joins the population, or stays in it, with what its parameter page gives (R312, R336, R396). Factory marks are
found at the first bring-up, while the J96 has never erased the block (R345). -/
def State.admitDie (s : State) (d : Nat) (p : DiePage) : State :=
  let s := ((s.putFlag .X_DIE_POP true d).putFlag .X_DIE_FORMER false d).put .X_DIE_CELLS p.cells d
  let s := ((s.put .X_DIE_RETRY p.retry d).put .X_DIE_SLIMP (min 16 p.slimP) d).put .X_DIE_SLIME (min 64 p.slimE) d
  forEach (p.factory.filter fun b => s.blkState d b = 0 && s.get .X_BLK_CNT (blkIx d b) = 0) s fun b s =>
    s.put .X_BLK_STATE bsFactory (blkIx d b)

/-- The highest rate code at most MAX_RATE that training passes (R315, R317). -/
def trainedRate (maxRate : Nat) (trains : List Nat) : Option Nat :=
  ((List.range (maxRate + 1)).reverse).find? fun r => trains.contains r

/-- Step 8 (R345, R347): what was ERASING at bring-up is HALF_ERASED, and the system area is blocks 0 to 7 of the lowest die of
CH00, CH32 and CH64. -/
def State.loadBlocks (s : State) (ch : Nat) : State :=
  let l := (s.regs.filter fun x => x.1.f = .X_BLK_STATE && x.2 = bsErasing && dieChannel (x.1.i / 65536) = ch).map fun x => x.1.i
  let s := forEach l s fun i s => s.halfErase i
  if ch = 0 || ch = 32 || ch = 64 then
    match s.channelDies ch with
    | [] => s.putFlag .MS_CH_SYS_PRESENT false ch
    | d :: _ =>
      let s := ((s.putFlag .MS_CH_SYS_PRESENT true ch).put .MS_CH_SYS_DIE (d % 16) ch).put .MS_CH_SYS_BLOCKS 8 ch
      forEach (List.range 8) s fun b s => s.put .X_BLK_STATE bsSystem (blkIx d b)
  else s

/-- Steps 4 to 7 (R315, R317): the channel trains at the highest rate that passes; one that fails at 800 MT/s is not ready and
raises the training source. A channel without dies has nothing to train: it is ready (log entry 52). -/
def State.trainChannel (s : State) (ch : Nat) (trains : List Nat) : State :=
  let top := s.get .MS_CH_IF_MAX_RATE ch
  if (s.channelDies ch).isEmpty then
    ((s.put .MS_CH_IF_RATE 0 ch).putFlag .MS_CH_IF_TRAINED false ch).putFlag .X_OWN_READY true (uChannel ch)
  else match trainedRate top trains with
  | some r =>
    let s := ((s.put .MS_CH_IF_RATE r ch).put .MS_CH_IF_FALLBACKS (top - r) ch).putFlag .MS_CH_IF_TRAINED true ch
    forEach (uChannel ch :: (s.channelDies ch).map uDie) s fun u s => s.putFlag .X_OWN_READY true u
  | none =>
    let s := ((s.put .MS_CH_IF_RATE 0 ch).put .MS_CH_IF_FALLBACKS top ch).putFlag .MS_CH_IF_TRAINED false ch
    let s := forEach (uChannel ch :: (s.channelDies ch).map uDie) s fun u s => s.putFlag .X_OWN_READY false u
    s.raise (cSrc (channelCluster ch) 4) (uChannel ch) 0

/-- The features and the hints of a die are gone (R330, R397). -/
def State.resetDie (s : State) (d : Nat) (hints : Bool) : State :=
  { s with regs := s.regs.filter fun x => !((x.1.f = .X_DIE_FEAT && x.1.i / 8 = d) || (hints && x.1.f = .X_DIE_HINT && x.1.i / 4 = d)) }

/-- The bring-up of R316 on a channel: the ROM admits its dies, trains it and loads its block states. -/
def State.bringUp (s : State) (ch : Nat) (f : ChannelPages) : State :=
  let mode := (f.dies.find? fun p => p.isSome).elim 0 fun p => p.elim 0 fun p => p.ifMode
  let pos := (List.range 16).map fun k => (k, f.dies.getD k none)
  let (new, refused) := admitDies mode (s.get .CHP_CAP6_MAX_RAW * 2 ^ 20) (s.rawOutside ch) none false pos
  let s := forEach ((List.range 16).filter fun k => !new.any fun x => x.1 = k) s fun k s => s.dropDie (16 * ch + k)
  let s := match new with
    | [] => s
    | (_, p) :: _ =>
      ((s.put .MS_CH_GEO_PLANES p.planes ch).put .MS_CH_GEO_WLB p.wlb ch).put .MS_CH_GEO_BLOCKS p.blocks ch
  let s := s.put .MS_CH_IF_MODE mode ch
  let s := forEach new s fun x s => (s.admitDie (16 * ch + x.1) x.2).resetDie (16 * ch + x.1) true
  let s := forEach refused s fun k s => s.raise (cSrc (channelCluster ch) 3) (uChannel ch) k
  (s.trainChannel ch f.trains).loadBlocks ch

/-- The bring-up of a channel that the command lists; one it does not list comes back as it was. -/
def State.bringBack (s : State) (chans : List (Nat × ChannelPages)) (ch : Nat) : State :=
  match chans.lookup ch with
  | some f => s.bringUp ch f
  | none =>
    let s := forEach (s.channelDies ch) s fun d s => s.resetDie d true
    (s.trainChannel ch (List.range 8)).loadBlocks ch

/-! ### A reset runs (R28, R36, R316, R447, R624, R668) -/

/-- The tick an armed request of a unit waits for. -/
def State.reqTick (s : State) (w : Nat) : Option Nat :=
  (s.armed.find? fun x => match x.act with
    | .unitReset u _ => u = w
    | .unitPower u _ => u = w
    | .chipReset _ source => w = uChip && source = 5
    | _ => false).map fun x => x.tick

/-- An ancestor's reset covers a unit's (R36): it is RUNNING, or PENDING with an acting tick no later than the unit's own. -/
def State.covered (s : State) (w : Nat) : Bool :=
  (unitAncestors w).any fun u => s.get .UCB_REQ_STS_KIND u = 1
    && (s.get .UCB_REQ_STS_STATE u = 2 || (s.get .UCB_REQ_STS_STATE u = 1
      && (match s.reqTick u, s.reqTick w with
        | none, _ => true
        | some t, some t' => decide (t ≤ t')
        | some _, none => false)))

/-- The dies below a unit, or the unit itself. -/
def State.diesOf (s : State) (w : Nat) : List Nat := ((s.subtree w).filter fun u => unitType u = some .die).map (· - 0x400)

/-- The engines of a cluster: four that decompress and one that compresses. -/
def enginesOf (c : Nat) : List Nat := [4 * c, 4 * c + 1, 4 * c + 2, 4 * c + 3, 32 + c]

/-- The engines of a cluster lose what they run (R447): their jobs run again, with those that wait, on whichever engines become idle first; deep
decodes on the cluster's own decoders. -/
def State.dropEngines (s : State) (c : Nat) : State :=
  let s := forEach (enginesOf c) s fun e s => s.rerunJob e
  { s with
    engJobs := s.engJobs.map fun j => if j.cl = c && j.engine.isNone then { j with roams := true } else j
    deepJobs := s.deepJobs.map fun j => if j.cl = c then { j with running := false } else j }

/-- A core that was halted runs again. -/
def State.startCores (s : State) (cores : List Nat) : State := forEach cores s fun c s => s.putFlag .X_CORE_HALTED false c

/-- What a channel's reset clears beside its dies (R624): its unit-domain registers with a fixed reset value. -/
def State.clearChannel (s : State) (ch : Nat) : State :=
  ((((s.put .MS_CH_IF_TRAINED 0 ch).put .MS_CH_IF_MODE 0 ch).put .MS_CH_IF_FALLBACKS 0 ch).put .MS_CH_IF_MAX_RATE 7 ch).put .MS_CH_IF_RATE 0 ch

/-- What a cluster's reset clears (R624): staging, plan tables, completions, its status; its operations go back to the planner. -/
def State.clearCluster (s : State) (c : Nat) : State :=
  let mine (ch : Nat) : Bool := channelCluster ch = c
  let s : State := { s with
    staged := s.staged.filter fun x => !mine x.ch
    cpl := s.cpl.filter fun x => !mdOf c (.core x.1)
    calls := s.calls.filter fun x => x.cl ≠ c
    plans := s.plans.map fun p =>
      if mine (dieChannel p.die) then { p with active := [], next := [], sealed := false, back := p.back ++ p.active ++ p.next } else p }
  let s := (s.put .MS_STS_CALL_ERR 0 c).put .MS_STS_GATE_VIOL 0 c
  forEach ((List.range 12).map (12 * c + ·)) s fun ch s => s.clearChannel ch

/-- What FRONT's reset clears (R624): every function is disabled with the reset as disable point, the ATS caches are empty, and the
front domain is clear. The links stay up, and what a disable still needs stays until it ends. -/
def State.clearFront (s : State) : State :=
  let s := forEach s.allFns s fun f s => s.disablePoint (.fn f) 6
  { s with
    ats := []
    slots := []
    regs := s.regs.filter fun x => x.1.f.info.dom ≠ .front || (match x.1.f with
      | .HE_LINK_STS_LPM | .HE_LINK_STS_L0P_WIDTH | .HE_LINK_STS_WIDTH | .HE_LINK_STS_SPEED | .HE_LINK_STS_FLIT | .HE_LINK_STS_EXISTS
      | .HE_LINK_STS_UP | .JQ_QSTS_STATE | .JQ_QSTS_OUTSTANDING | .JQ_QCMD_DISABLE | .X_JQ_RESV | .JQ_STS_SANITIZING => true
      | _ => false) }

/-- What starts when a unit's reset starts, dies apart. -/
def State.resetUnit (s : State) (w : Nat) : State :=
  match unitType w with
  | some .engines => s.dropEngines (w - 0x110)
  | some .channel => s.clearChannel (w - 0x120)
  | some .cluster => (s.dropEngines (w - 0x108)).clearCluster (w - 0x108)
  | some .front => s.clearFront
  | some .chip => s.requestChipReset false 5
  | _ => s

/-- The media work below a unit stands where a reset that is not IMMEDIATE may start (R28, R668): no read runs, and no program but a
suspended one. -/
def State.mediaAtRest (s : State) (w : Nat) : Bool :=
  (s.diesOf w).all fun d => !s.flag .X_DIE_RD d && (s.get .X_DIE_OP d ≠ 1 || s.flag .X_DIE_SUSP d)

/-- RESET_START (R28, R36, R605, R668): a pending reset whose tick has come, or that has none, starts RUNNING. -/
def execResetStart (win : Nat) (s : State) : Host.Outcome State Fault Refusal :=
  let imm := s.flag .X_REQ_IMMEDIATE win
  if s.get .UCB_REQ_STS_KIND win ≠ 1 || s.get .UCB_REQ_STS_STATE win ≠ 1 || (s.reqTick win).isSome || s.covered win
      || (!imm && !s.mediaAtRest win) || (unitType win = some .cluster && s.flag .X_CL_OOS (win - 0x108)) then .next s
  else
    let s := (s.setReq win 2 1 0).markResetting win
    let s := forEach (s.diesOf win) s fun d s =>
      let s := if !imm && s.get .X_DIE_OP d = 2 && !s.flag .X_DIE_SUSP d then s.suspendDie d false else s
      s.cutDie d
    .next (s.resetUnit win)

/-- The cores a unit's reset starts anew. -/
def coresOf (w : Nat) : List Nat :=
  match unitType w with
  | some .cluster => (List.range 6).map (8 + 6 * (w - 0x108) + ·)
  | some .front => List.range 8
  | some .warden => [62, 63]
  | _ => []

/-- The channels a unit's reset brings up. -/
def channelsOf (w : Nat) : List Nat :=
  match unitType w with
  | some .cluster => (List.range 12).map (12 * (w - 0x108) + ·)
  | some .channel => [w - 0x120]
  | _ => []


/-- Requests of a unit's descendants that its reset covered end MERGED (R36). -/
def State.mergeBelow (s : State) (w : Nat) : State :=
  forEach (((s.subtree w).drop 1).filter fun u => s.get .UCB_REQ_STS_KIND u = 1 && s.reqBusy u) s fun u s => s.mergeReq u

/-- RESET_COMPLETE (R28, R36, R316): `chans` says what the bring-up of each channel met. CHIP's own reset ends in CHIP_RESET. -/
def execResetComplete (win : Nat) (chans : List (Nat × ChannelPages)) (s : State) : Host.Outcome State Fault Refusal :=
  if s.get .UCB_REQ_STS_KIND win ≠ 1 || s.get .UCB_REQ_STS_STATE win ≠ 2 || s.covered win || win = uChip then .next s
  else
    let s := forEach (s.subtree win) s fun u s => (s.putFlag .X_OWN_READY true u).putFlag .UCB_STATUS_RESETTING false u
    let s := forEach (s.diesOf win) s fun d s => s.resetDie d false
    let s := forEach (channelsOf win) s fun ch s => s.bringBack chans ch
    let s := forEach (s.diesOf win) s fun d s => s.putFlag .UCB_STATUS_RESETTING false (uDie d)
    let s := ((s.startCores (coresOf win)).mergeBelow win)
    let s := forEach (s.subtree win) s fun u s => s.bump .UCB_CNT0 u
    let s := (((s.setReq win 3 1 0).putFlag .UCB_RESET_REQ_GO false win).endTimeout win)
    .next s.updateGc

/-- REQUEST_TIMEOUT (R30): a RUNNING request exceeds its limit. -/
def execRequestTimeout (win : Nat) (s : State) : Host.Outcome State Fault Refusal :=
  if s.get .UCB_REQ_STS_STATE win = 2 then
    .next (((s.putFlag .UCB_FAULT_TIMEOUT true win).putFlag .X_REQ_OVERDUE true win).raise 5 win (s.get .UCB_REQ_STS_KIND win))
  else .next s

/-! ### Power changes (R32, R666) -/

/-- Work of a unit's subtree that must end before a change toward a lower-power state: a media operation in progress or suspended,
an engine job. -/
def State.workBelow (s : State) (w : Nat) : Bool :=
  (s.diesOf w).any (fun d => s.flag .X_DIE_RD d || s.get .X_DIE_OP d ≠ 0)
    || (s.subtree w).any fun u => unitType u = some .engines
      && (s.engJobs.any (fun j => j.engine.any fun e => (enginesOf (u - 0x110)).contains e)
        || s.deepJobs.any fun j => j.cl = u - 0x110 && j.running)

/-- POWER_CHANGE_START (R666). -/
def execPowerChangeStart (win : Nat) (s : State) : Host.Outcome State Fault Refusal :=
  let lower := decide (s.get .X_PWR_TARGET win < s.get .X_PWR_PEND win)
  if s.get .UCB_REQ_STS_KIND win ≠ 2 || s.get .UCB_REQ_STS_STATE win ≠ 1 || (s.reqTick win).isSome || (lower && s.workBelow win) then .next s
  else
    let s := (s.setReq win 2 2 0).put .X_PWR_FROM (s.get .X_PWR_TARGET win) win
    .next (if s.get .X_PWR_PEND win < s.get .X_PWR_TARGET win then s.putFlag .X_PWR_WAKING true win else s)

/-- POWER_CHANGE_COMPLETE (R666): TARGET is in force. From OFF, dies are reset and trained again, without a new admission. -/
def execPowerChangeComplete (win : Nat) (chans : List (Nat × ChannelPages)) (s : State) : Host.Outcome State Fault Refusal :=
  if s.get .UCB_REQ_STS_KIND win ≠ 2 || s.get .UCB_REQ_STS_STATE win ≠ 2 then .next s
  else
    let fromOff := s.get .X_PWR_FROM win = 3 && s.get .X_PWR_PEND win ≠ 3
    let s := (s.put .X_PWR_TARGET (s.get .X_PWR_PEND win) win).putFlag .X_PWR_WAKING false win
    let s := if fromOff then
        let s := forEach (s.diesOf win) s fun d s => s.resetDie d false
        forEach (channelsOf win) s fun ch s => s.trainChannel ch ((chans.lookup ch).elim (List.range 8) fun f => f.trains)
      else s
    let s := ((s.setReq win 3 2 0).putFlag .UCB_POWER_REQ_GO false win).bump .UCB_CNT1 win
    .next (s.endTimeout win).updateGc

/-! ### Chip resets (R46) -/

/-- The SOURCE of CHP_RST_CAUSE for a writer of CHP_CTL. -/
def Agent.resetSource : Agent → Nat
  | .pf0 => 2
  | ag => if ag.isWd then 4 else 3

/-- A write of WARM_RESET or COLD_RESET to CHP_CTL; a tick that fails the test of R76 refuses it. -/
def State.submitChipReset (s : State) (ag : Agent) (cold warm useTick : Bool) : State :=
  s.guardWrite ag .ownerMpWd fun s =>
    let s := if cold && warm && s.lockedFor ag .CHP_CTL_WARM_RESET then s.decodeFault ag else s
    s.unlessLocked ag [if cold then .CHP_CTL_COLD_RESET else .CHP_CTL_WARM_RESET] fun s =>
      let s := if s.lockedFor ag .CHP_CTL_USE_TICK then s.decodeFault ag else s.putFlag .CHP_CTL_USE_TICK useTick
      if s.flag .CHP_CTL_USE_TICK then
        if s.armOk (s.get .CHP_CTL_TICK) then s.arm (s.get .CHP_CTL_TICK) (.chipReset cold ag.resetSource) else s
      else s.requestChipReset cold ag.resetSource

/-- CHIP_WARM_RESET_REQUEST (R46). -/
def execChipWarmResetRequest (ag : Agent) (useTick : Bool) (s : State) : Host.Outcome State Fault Refusal :=
  .next (s.atUnit uChip fun s => s.submitChipReset ag false true useTick)

/-- CHIP_COLD_RESET_REQUEST (R46): with WARM_RESET written as 1 too, the cold reset is the one performed. -/
def execChipColdResetRequest (ag : Agent) (warm useTick : Bool) (s : State) : Host.Outcome State Fault Refusal :=
  .next (s.atUnit uChip fun s => s.submitChipReset ag true warm useTick)

end Sys2Proof.Machine
end

