-- ==== Sys2Proof/Machine/Boundary.lean ====
section
/-! DEFINITION. The tick boundary and what happens at it, the actions armed for a tick and their cancelling, the lock, and the
sealing of plans (02). -/

namespace Sys2Proof.Machine

/-! ### Cancelling (R82) -/

/-- An armed action is cancelled and reports it as its block's chapter says. -/
def State.cancelAct (s : State) (a : Act) : State :=
  match a with
  | .chipReset _ source =>
    if source = 5 then ((s.setReq uChip 4 1 5).putFlag .UCB_RESET_REQ_GO false uChip).refuseAt uChip else s
  | .period _ => (s.put .TK_STS_NEXT_STATE 6).putFlag .TK_NEXT_GO false
  | .protection a _ _ tag => if s.get .X_PM_SEQ 0 a = tag then s.pmResult a 5 0 0 else s
  | .firmware _ => s.cancelFirmware
  | .mode a _ _ => (s.pmSts a 5 0).putFlag .PM_CMD_GO false 0 a
  | .unitReset w _ => ((s.setReq w 4 1 5).putFlag .UCB_RESET_REQ_GO false w).refuseAt w
  | .unitPower w _ => ((s.setReq w 4 2 5).putFlag .UCB_POWER_REQ_GO false w).refuseAt w
  | .pin cmd => match s.cmd? cmd with
    | some c => s.finish c vAborted
    | none => s
  | .stack a _ _ _ tag =>
    if s.get .X_TS_SEQ 0 a = tag then (s.put .TS_RESULT_STATE 5 0 a).putFlag .TS_CMD_GO false 0 a else s
  | .licenceRemove _ => s

/-- Cancels the armed actions that a test names, in order of acceptance. -/
def State.cancelWhere (s : State) (p : Armed → Bool) : State :=
  let gone := s.armed.filter p
  let s : State := { s with armed := s.armed.filter fun x => !p x }
  forEach gone s fun x s => s.cancelAct x.act

/-- A write of a tick to TK_CANCEL, at its upper half. -/
def State.writeCancel (s : State) (ag : Agent) (t : Nat) : State :=
  s.guardWrite ag .ownerMpWd fun s =>
    s.unlessLocked ag [.TK_CANCEL] fun s =>
      if !s.armOk t then (s.put .TK_CANCEL_STS_RESULT 2).put .TK_CANCEL_STS_CANCELLED 0
      else
        let n := (s.armed.filter fun x => x.tick = t).length
        let s := s.cancelWhere fun x => x.tick = t
        (s.put .TK_CANCEL_STS_RESULT (if n = 0 then 0 else 1)).put .TK_CANCEL_STS_CANCELLED (min n 0xFFFF)

/-- TK_CANCEL (R82). -/
def execTkCancel (ag : Agent) (t : Nat) (s : State) : Host.Outcome State Fault Refusal :=
  .next (s.atUnit uChip fun s => s.writeCancel ag (t % 2 ^ 64))

/-! ### Lock (R50, R51, R54, R55) -/

/-- TICK_LOCK_ACQUIRED (R51, R54, R55): the source has been seen long enough. From ACQUIRING with ADOPT the count is loaded; a jump
forward cancels what was armed for the ticks it skips. -/
def execTickLockAcquired (s : State) : Host.Outcome State Fault Refusal :=
  let lock := s.get .TK_STS_LOCK
  if !s.sourceAcquired || !(lock = lockAcquiring || lock = lockHoldover) then .next s
  else
    let t := (((s.put .TK_STS_LOCK lockLocked).put .X_MISSES 0).clearLevel 1)
    let old := s.tick
    let new := s.sourceCount
    if lock = lockHoldover || !s.flag .TK_SRC_ADOPT || new = old then .next t
    else
      let t := ((t.put .TK_COUNT new).putFlag .TK_STS_JUMPED true).put .TK_JUMP_FROM old
      let t := t.cancelWhere fun x => decide (old < x.tick) && decide (x.tick < new)
      .next (t.raise 2 uChip 0)

/-! ### The boundary (R47, R56, R72 to R75, R218 to R220, R372, R470) -/

/-- Serves a planned read by reconstruction (R364, R669): each unit it was to read that is still wanted, whether the hardware or the
firmware placed it. -/
def State.entryByRecon (s : State) (d : Nat) (e : PEntry) : State :=
  if e.op = opRead then
    let c := s.entryCall d e
    let u := placeOf d (s.unitAddr d c.block c.page c.first)
    forEach (((List.range c.count).map (u + ·)).filter s.wanted) s fun p s => s.reconstruct p e.cls
  else s.takeBack d e

/-- The safe plan of a die (R73): the reads, margin reads, status and suspend entries already in the unsealed bank, with the Gold
reads; everything else goes back to the planner (R74). -/
def State.safePlan (s : State) (p : DiePlan) : State :=
  let d := p.die
  let op := s.get .X_DIE_OP d
  let susp := s.flag .X_DIE_SUSP d
  let gold := p.next.filter PEntry.isGold
  let may := s.mayPause d && decide (s.get .X_DIE_SUSPT d < 8)
  let other := p.next.filter fun e => !e.isGold && (e.op = opRead || e.op = opMargin || e.op = opStatus)
  let suspends := p.next.filter fun e => e.op = opSuspend
  let dropped := p.next.filter fun e => !e.isGold && !(e.op = opRead || e.op = opMargin || e.op = opStatus || e.op = opSuspend || e.op = opNop
    || e.op = opResume)
  let resume : PEntry := ⟨0, opResume, 1, false, 1, hwDesc⟩
  -- Gold reads run beside a running operation that may be suspended, or on a die that runs none, or while it stays suspended
  let runGold := op = 0 || (if susp then may else may)
  let first : List PEntry :=
    if op ≠ 0 && !susp && !gold.isEmpty && may then (if suspends.isEmpty then [⟨0, opSuspend, 0, false, 25, hwDesc⟩] else suspends.take 1)
    else if susp && (gold.isEmpty || !may) then [resume]
    else []
  let s := s.setPlan { p with
    active := first ++ (if runGold then gold else []) ++ other
    next := [], sealed := false, missed := false, back := p.back ++ p.active ++ dropped }
  let s := if runGold then s else forEach gold s fun e s => s.entryByRecon d e
  let s := ((s.bump .TK_OVR_CNT).put .TK_OVR_LAST s.tick).putFlag .TK_STS_OVERRUN true
  s.raise (cSrc (channelCluster (dieChannel d)) 0) (uDie d) 0

/-- A die's banks at a boundary (R72, R74): a bank sealed in time is swapped in, any other die runs the safe plan; where the planner does
not work (log entry 49) the banks swap as they are. What the tick that ends did not start goes back to the planner, and so does the work
admitted after its cutoff (R61). -/
def State.swapPlan (s : State) (p : DiePlan) : State :=
  let p := { p with back := p.back ++ p.late, late := [] }
  if s.planning && (p.missed || !p.sealed) then s.safePlan p
  else s.setPlan { p with active := p.next, next := [], sealed := false, missed := false, back := p.back ++ p.active }

/-- A die is ON (R32) and takes reads: what CAP counts (R218). -/
def State.dieOn (s : State) (d : Nat) : Bool := s.dieUp d && s.unitPower (uDie d) = 0

/-- The Gold capacity of the present tick (R218), with the period it has (R78 step 2), and OVERCOMMIT with its source (R219). -/
def State.updateGold (s : State) : State :=
  let pop := s.dies
  let slots := (pop.filter fun d => s.dieOn d).length * s.goldSlots s.tick
  let share := s.get .TK_BUDGET_EFF0 / 2 ^ 24 * pop.length * s.periodAt s.tick / 6500
  let s := (s.put .JQ_GOLD_CAP (min (min slots share) 0xFFFF)).put .JQ_GOLD_SUM s.reserveSum
  if s.get .JQ_GOLD_CAP < s.reserveSum then (s.putFlag .JQ_STS_OVERCOMMIT true).raise 52 uFront 0
  else (s.putFlag .JQ_STS_OVERCOMMIT false).clearLevel 52

/-- Reserves written in the tick that ends are in force, and their events are owed (R220); the slots of the tick are all free. -/
def State.updateReserves (s : State) : State :=
  let s := forEach (List.range 264) s fun f s =>
    -- an event of an earlier write that is still owed goes out first
    let s := if s.get .X_RES_PEND f = 3 then s.postEvent f 4 0 0 (s.get .X_RES_EFF f) else s
    let s := if s.get .X_RES_EFF f = s.get .JQ_FGOLD_RES_SLOTS f then s else s.put .X_RES_EFF (s.get .JQ_FGOLD_RES_SLOTS f) f
    let s := if s.get .X_RES_PEND f % 2 = 1 then s.put .X_RES_PEND 2 f else s
    if s.get .X_GOLD_FN f = 0 then s else s.put .X_GOLD_FN 0 f
  s.put .X_GOLD_USED 0

/-- The host-write quota of a new tick (R372): what the tick that ends overdrew is taken off it. -/
def State.newQuota (s : State) : State :=
  let spent := quotaZero - s.get .X_QUOTA
  (s.put .X_QUOTA (quotaZero + s.quota - spent)).putFlag .X_QUOTA_FRESH true

/-- The Warden evaluates every licence (R470): one that fails closes, and one that holds again reopens. A Warden that is halted or resets
opens none, and keys in force remain (R456). -/
def State.evalLicences (s : State) : State :=
  if !s.wardenUp then s else
  forEach s.licences s fun l s =>
    let ok := s.licenceHolds l.blob
    if ok = !l.closed then s
    else
      let s : State := { s with licences := s.licences.map fun x => if x.node = l.node then { x with closed := !ok } else x }
      if ok then s else s.countClose l.node

/-- The calendar's crystal runs through a tick of `ns` (R554): its cycles, with what is left of one. As the lock source it corrects the
phase (R52, R53). -/
def State.tickCalendar (s : State) (ns : Nat) : State :=
  let acc := s.get .X_CAL_TIME_NS + ns * 32768
  let s := ((s.put .X_CAL_TIME_NS (acc % 1000000000)).calAdvance (acc / 1000000000) 0).checkTrust
  if s.get .TK_SRC_SOURCE = 3 && s.flag .CAL_STS_VALID then
    s.correctPhase (-((1000 * (s.calUs % s.get .TK_PERIOD_PERIOD) : Nat) : Int))
  else s

/-- Mean share of the populated dies' time that the plans of the new tick take, in percent (R581). -/
def State.busyShare (s : State) : Nat :=
  let est := ((s.plans.flatMap fun p => p.active).map fun e => e.est).foldl (· + ·) 0
  min 100 (100 * est / (s.dies.length * s.periodAt s.tick))

/-- Map-cache misses so far. -/
def State.misses (s : State) : Nat := s.get .MC_CNT_MISS_DRAM + s.get .MC_CNT_MISS_FLASH

/-- What the recorder samples at a boundary (R581). -/
def State.tickSamples (s : State) (goldUsed : Nat) : State :=
  let miss := s.misses - s.get .X_MISS_LAST
  let s := if s.dies.isEmpty then s else s.sample 11 s.busyShare
  let s := ((s.sample 12 goldUsed).sample 43 (s.get .MC_GC_STS_K)).sample 48 miss
  s.put .X_MISS_LAST s.misses

/-- The source's part of a boundary (R50): an edge and frame that did not come are missed. -/
def State.tickSource (s : State) : State :=
  if s.get .TK_SRC_SOURCE ≠ 1 then s
  else if s.flag .X_TICK_SEEN then (s.put .X_MISSES 0).putFlag .X_TICK_SEEN false
  else (s.put .X_MISSES (min (s.get .X_MISSES + 1) 0xFFFFFFFF)).put .X_TICK_FRAMES 0

/-- TICK_OUT at a boundary (R56), where it is not held low (R654): the frame carries the period of the tick that begins, a change due at it included (R78 step 2). -/
def State.tickOut (s : State) : State :=
  if s.flag .TK_CTL_OUT_EN && s.outputs .tickOut = .driven then
    s.emit (.tickOut (if s.flag .TK_CTL_OUT_FRAME then some (countFrame s.tick (s.periodAt s.tick)) else none))
  else s

/-- Dies whose operation stays suspended over a boundary (R67). -/
def State.countSuspended (s : State) : State :=
  forEach (s.dies.filter fun d => s.flag .X_DIE_SUSP d) s fun d s => s.put .X_DIE_SUSPT (min (s.get .X_DIE_SUSPT d + 1) 255) d

/-- The dies with planned work in the new tick (UCB_CNT6). -/
def State.countPlanned (s : State) : State :=
  forEach (s.plans.filter fun p => !p.active.isEmpty) s fun p s => s.bump .UCB_CNT6 (uDie p.die)

/-- An action that falls due in Ready or Retain, or during an entry, is a wake event (R79, R501). -/
def State.wakeDue (s : State) : State :=
  if s.armed.any fun x => decide (x.tick ≤ s.tick) then s.wake uChip wakeEvent else s

/-- A tick ends: its correction is over, and the boundary is one at which due actions take effect, but in Retain (R77, R79). -/
def State.endTick (s : State) : State :=
  ((s.put .X_TICK_EXT 0).put .X_TICK_CUT 0).putFlag .X_AT_BND (s.mode ≠ mRetain)

/-- TICK_BOUNDARY (R47): the count advances, the banks swap, and what the boundary brings takes effect. -/
def execTickBoundary (s : State) : Host.Outcome State Fault Refusal :=
  if !s.powered then .next s
  else
    let used := s.get .X_GOLD_USED
    let s := if s.mode = mThrottle then s.bump .PM_CNT_THROTTLE_TICKS else s
    let s := if s.writeFactor < 256 then s.bump .MC_CNT_THROTTLE_TICKS else s
    let ns := s.tickNs
    let s := s.closeStranded.finishExit
    let s := ((s.put .TK_COUNT (s.tick + 1)).put .TK_PHASE_PHASE 0).endTick.tickSource.tickOut
    let s := forEach s.dies s.countSuspended fun d s => s.swapPlan (s.plan d)
    let s := s.countPlanned.publishBudgets.updateGold.updateReserves
    let s := (((s.updateGc.newQuota.tickCalendar ns).ageNonce ns).evalLicences.fwBoundary).wakeDue
    .next (s.tickSamples used)

/-! ### Actions at a tick (R77 to R81) -/

/-- The step of R78 in which an action acts. -/
def Act.order : Act → Nat
  | .chipReset .. => 1
  | .period _ => 2
  | .protection .. | .licenceRemove _ => 3
  | .firmware _ => 4
  | .mode .. => 5
  | .unitReset .. => 6
  | .unitPower .. => 7
  | .pin _ | .stack .. => 8

/-- An action takes effect. A unit's request starts by its own step: RESET_START, POWER_CHANGE_START. -/
def State.takeAct (s : State) (x : Act) : State :=
  match x with
  | .chipReset cold source => (if source = 5 then s.setReq uChip 2 1 0 else s).requestChipReset cold source
  | .period us => ((s.put .TK_PERIOD_PERIOD us).put .TK_STS_NEXT_STATE 2).putFlag .TK_NEXT_GO false
  | .protection a entries fence tag => s.batchEffect a entries fence tag s.tick
  | .licenceRemove node => s.dropLicence node
  | .firmware slot => s.startActivation slot
  | .mode a op arg => s.pmEffect a op arg
  | .unitReset w _ => if s.get .UCB_REQ_STS_STATE w = 1 then s.markResetting w else s
  | .unitPower _ _ => s
  | .pin cmd => match s.cmd? cmd with
    | some c => s.startPin c
    | none => s
  | .stack a op node children tag => s.effect a tag ⟨op, node, children, 0⟩

/-- AT_TICK_ACTIONS (R77 to R79): everything due acts, in the order of R78 and, within a step, of acceptance: once a boundary, at which
the block is not in Retain. A chip reset cancels the others. -/
def execAtTickActions (s : State) : Host.Outcome State Fault Refusal :=
  let due := s.armed.filter fun x => decide (x.tick ≤ s.tick)
  if !s.powered || s.mode = mRetain || !s.flag .X_AT_BND || due.isEmpty then .next s
  else
    let s := s.putFlag .X_AT_BND false
    let s : State := { s with armed := s.armed.filter fun x => !decide (x.tick ≤ s.tick) }
    let step (k : Nat) : List Armed := due.filter fun x => x.act.order = k
    if (step 1).isEmpty then
      .next (forEach ([2, 3, 4, 5, 6, 7, 8].flatMap step) s fun x s => s.takeAct x.act)
    else
      let s := forEach (step 1) s fun x s => s.takeAct x.act
      .next (forEach ([2, 3, 4, 5, 6, 7, 8].flatMap step) s fun x s => s.cancelAct x.act)

/-! ### Sealing a plan (R59 to R64, R66 to R69, R364) -/

/-- Puts an entry in its place by START. -/
def insertEntry (e : PEntry) : List PEntry → List PEntry
  | [] => [e]
  | f :: l => if e.start < f.start then e :: f :: l else f :: insertEntry e l

/-- A plan's entries by START. -/
def sortPlan (l : List PEntry) : List PEntry := l.foldl (fun acc e => insertEntry e acc) []

/-- Entries, by START, do not overlap (R60). -/
def disjoint : List PEntry → Bool
  | [] => true
  | [_] => true
  | e :: f :: l => decide (e.start + e.est ≤ f.start) && disjoint (f :: l)

/-- No entry keeps the die busy later than 25 µs after the next boundary, the tick being 500 ns short, but a PROGRAM or ERASE that may
be suspended (R52, R60). -/
def inTick (period : Nat) (e : PEntry) : Bool :=
  decide (e.start < period) && ((e.suspOk && (e.op = opProgram || e.op = opErase)) || decide (e.start + e.est ≤ planLimit period))

/-- Gold reads: no more than the die's slots, and slot k in time (R64). -/
def goldInTime (slots : Nat) (l : List PEntry) : Bool :=
  let g := l.filter PEntry.slot
  decide (g.length ≤ slots) && (List.range g.length).all fun k => (g[k]?).all fun e => decide (e.start ≤ 25 + 65 * k)

/-- With a program or erase in progress and Gold entries: a SUSPEND at START 0, then the Gold entries, then a RESUME (R60). -/
def goldShape (l : List PEntry) : Bool :=
  match l with
  | [] => true
  | e :: rest => e.op = opSuspend && e.start = 0
    && ((rest.dropWhile fun x => x.cls = 0 && x.op ≠ opResume).head?).any fun x => x.op = opResume

/-- A die takes no new planned work in the tick to come (R34, R604, R666, R76 and the example of 01): it is not up or not ON, it is out of
service, or on it or on what is above it a change toward a lower-power state has been accepted, or a reset that acts by that tick. -/
def State.planClosed (s : State) (d : Nat) : Bool :=
  !s.dieAvailable d || s.unitPower (uDie d) ≠ 0 || (uDie d :: unitAncestors (uDie d)).any fun u => s.reqBusy u
    && (if s.get .UCB_REQ_STS_KIND u = 1 then (s.reqTick u).all fun t => decide (t ≤ s.tick + 1)
      else decide (s.get .X_PWR_TARGET u < s.get .X_PWR_PEND u))

/-- A die's cluster prepares to leave service (R604, step 1). -/
def State.rollPrep (s : State) (d : Nat) : Bool :=
  s.get .FW_STS_ACT_STATE = fwClusters && s.get .X_FW_PHASE = 1 && s.get .FW_STS_ROLL_CLUSTER = channelCluster (dieChannel d)

/-- New programs and erases are not planned in Ready and on the way into it (R493), nor on a cluster that prepares to leave service;
there no SUSPEND is either (R604). -/
def State.quietDie (s : State) (d : Nat) (e : PEntry) : Bool :=
  let pe := e.op = opProgram || e.op = opErase
  let mode := s.mode = mReady || s.get .PM_MODE_MOVE = 1
  (mode && pe) || (s.rollPrep d && (pe || e.op = opSuspend))

/-- On a cluster that prepares to leave service a RESUME is planned for a suspended operation (R604, step 1). -/
def State.rollResumes (s : State) (d : Nat) (l : List PEntry) : Bool :=
  !s.rollPrep d || s.get .X_DIE_OP d = 0 || !s.flag .X_DIE_SUSP d || l.any fun e => e.op = opResume

/-- Dies that run a program or erase, or would by their plan in force or their next one, another die apart (R69). -/
def State.peOthers (s : State) (d : Nat) : Nat :=
  (s.dies.filter fun x => x ≠ d && ((s.get .X_DIE_OP x ≠ 0 && !s.flag .X_DIE_SUSP x)
    || ((s.plan x).active ++ (s.plan x).next).any PEntry.isPe)).length

/-- PE_MAX holds with this plan (R69). -/
def State.peOk (s : State) (d : Nat) (l : List PEntry) : Bool :=
  !(l.any PEntry.isPe) || decide (s.peOthers d + 1 ≤ s.get .TK_BUDGET_EFF1 / 2 ^ 16)

/-- Time of a class's entries in a plan, and the same without the last of them. -/
def classTime (l : List PEntry) (cls : Nat) : Nat := ((l.filter fun e => e.cls = cls).map fun e => e.est).foldl (· + ·) 0
def classTimeButLast (l : List PEntry) (cls : Nat) : Nat :=
  ((((l.filter fun e => e.cls = cls).reverse.drop 1)).map fun e => e.est).foldl (· + ·) 0

/-- The time of the Silver and Copper entries of a plan but the last of them. -/
def bulkTimeButLast (l : List PEntry) : Nat :=
  ((((l.filter fun e => e.cls = 1 || e.cls = 2).reverse.drop 1)).map fun e => e.est).foldl (· + ·) 0

/-- The shares of the classes (R69, R505): no class is past its share by more than its last entry, or has an entry at all where its share
is 0, while another class that is still below its own has work pending in `left`. In Throttle, Silver and Copper together never pass their
scaled share by more than one entry (the whole entries of R69; DEDUCED, log entry 77). -/
def State.sharesOk (s : State) (l left : List PEntry) : Bool :=
  let period := s.periodAt (s.tick + 1)
  let eff := s.get .TK_BUDGET_EFF0
  let pending (cls : Nat) : Bool := left.any fun e => e.cls = cls
  let lead := period * (eff / 2 ^ 16 % 256) / 100
  let rest := period - classTime l 0 - (if pending 3 || decide (0 < classTime l 3) then lead else 0)
  let rest := if s.mode = mThrottle then rest * s.get .PM_THR_STS_S / 256 else rest
  let ws := eff / 256 % 256
  let wc := eff % 256
  let silver := rest * ws / (ws + wc)
  let copper := rest * wc / (ws + wc)
  let past (cls share : Nat) : Bool := decide (0 < classTime l cls) && decide (0 < classTimeButLast l cls ∨ share = 0)
    && decide (share ≤ classTimeButLast l cls)
  !(past 1 silver && pending 2 && decide (classTime l 2 < copper)) && !(past 2 copper && pending 1 && decide (classTime l 1 < silver))
    && !(decide (rest ≤ bulkTimeButLast l) && decide (0 < classTime l 1 + classTime l 2)
      && (s.mode = mThrottle || (pending 3 && decide (classTime l 3 < lead))))

/-- The planner's waiting work that a plan uses. -/
def takenFrom (l back : List PEntry) : List PEntry :=
  l.foldl (fun b e => match b.find? fun x => x.op = e.op && x.desc = e.desc && x.cls = e.cls with
    | some x => b.erase x
    | none => b) back

/-- All pages of a wordline of a member are filled; of a parity member, those of all data members are (R358). -/
def State.wordlineFilled (s : State) (b : Band) (m : Nat × Nat) (wl : Nat) : Bool :=
  let n := s.wlPages b
  let k := b.data.length
  if b.parity.contains m then decide (4 * k * n * (wl + 1) ≤ b.pos)
  else decide (4 * (k * (n * (wl + 1) - 1) + b.data.findIdx (fun x => x = m) + 1) ≤ b.pos)

/-- The next wordline of a member of a band, filled, or in a closed band with units still to be programmed: media management may always
give it to the planner (R358, R383). -/
def State.openWordline (s : State) (d : Nat) (e : PEntry) : Bool :=
  let c := s.hwCall d e
  decide (2 ^ 60 ≤ e.desc) && e.op = opProgram && c.page = 16 * s.get .X_BLK_WL (blkIx d c.block)
    && c.mode + 1 = s.get .X_BLK_MODE (blkIx d c.block)
    && (match s.bandOfBlock d c.block with
        | some b => if b.isOpen then s.wordlineFilled b (d, c.block) (c.page / 16)
          else s.wbuf.any fun w => placeDie w.place = d && s.placeBlock w.place = c.block && s.placePage w.place / 16 = c.page / 16 && !w.programmed
        | none => false)

/-- A PROGRAM waits for its band's records (R387). -/
def State.programMay (s : State) (d : Nat) (e : PEntry) : Bool :=
  e.op ≠ opProgram || decide (e.desc < 2 ^ 33) || (s.bandOfBlock d (s.hwCall d e).block).all s.bandDurable

/-- Every operation of the J96's own in a plan is work that waits in the planner, a Gold read appended before (R62, R74), or the PROGRAM of
an open band's next wordline. -/
def State.knownWork (s : State) (d : Nat) (l back next : List PEntry) : Bool :=
  l.all fun e => decide (e.desc < 2 ^ 33) || s.openWordline d e || back.any (fun x => x.op = e.op && x.desc = e.desc && x.cls = e.cls)
    || next.any fun x => x.op = e.op && x.desc = e.desc && x.cls = e.cls

/-- Blocks of a die whose erase is in progress, suspended or still to start in the plan in force. -/
def State.erasing (s : State) (d : Nat) : List Nat :=
  (if s.get .X_DIE_OP d = 2 then [s.get .X_DIE_OPBLK d] else [])
    ++ (((s.plan d).active.filter fun e => e.op = opErase).map fun e => (s.entryCall d e).block)

/-- A plan reads a block whose erase is suspended, or which the plan itself suspends (R68). -/
def State.readsErasing (s : State) (d : Nat) (l : List PEntry) : Bool :=
  (s.flag .X_DIE_SUSP d || l.any fun e => e.op = opSuspend)
    && l.any fun e => (e.op = opRead || e.op = opMargin) && (s.erasing d).contains (s.entryCall d e).block

/-- The operation of a die may stay suspended through the tick to come (R59, R67, R339). -/
def State.mayStay (s : State) (d : Nat) : Bool := s.mayPause d && decide (s.get .X_DIE_SUSPT d + 1 < 8)

/-- An operation that may not be suspended, or no longer, runs through the tick (R67): no SUSPEND and no Gold read, and one suspended now
goes on at START 0. -/
def State.suspOk (s : State) (d : Nat) (l : List PEntry) : Bool :=
  s.get .X_DIE_OP d = 0 || s.mayStay d
    || (!(l.any fun e => e.op = opSuspend || e.isGold)
      && (!s.flag .X_DIE_SUSP d || (l.head?).any fun e => e.op = opResume && e.start = 0))

/-- The rules a sealed plan obeys, its entries by START. Gold reads appended earlier stay in it. -/
def State.planOk (s : State) (d : Nat) (l : List PEntry) : Bool :=
  let p := s.plan d
  decide (l.length ≤ 32) && disjoint l && l.all (inTick (s.periodAt (s.tick + 1))) && goldInTime (s.goldSlots (s.tick + 1)) l
    && (!(l.any fun e => e.cls = 0) || !s.opAhead d || goldShape l)
    && (p.next.filter PEntry.isGold).all (fun e => l.any fun x => x.op = e.op && x.desc = e.desc)
    && s.knownWork d l p.back p.next && l.all (s.programMay d) && !(l.any fun e => s.quietDie d e) && s.rollResumes d l && s.suspOk d l
    && !s.readsErasing d l && s.peOk d l && s.sharesOk l (takenFrom l p.back)

/-- The plan of a die that takes no new work (R666): what was appended to it before, and the RESUME of an operation that stands suspended
while a change toward a lower-power state waits for its end. -/
def State.closedPlan (s : State) (d : Nat) (l : List PEntry) : List PEntry :=
  if s.get .X_DIE_OP d = 0 || !s.flag .X_DIE_SUSP d || l.any (fun e => e.op = opResume) then l
  else l ++ [⟨(l.map fun e => e.start + e.est).foldl max 0, opResume, 1, false, 1, hwDesc⟩]

/-- A bank may still be sealed: not after a tick overrun, nor in the last 2 µs of the tick (R72). -/
def State.sealInTime (s : State) (p : DiePlan) : Bool := !p.missed && decide (s.get .TK_PHASE_PHASE + 2000 ≤ s.tickNs)

/-- PLAN_SEAL (R60, R364, R666): a plan that obeys the rules is written, and sealed where there is still time (R72). Reads that wait for a
die that takes no work now are served by reconstruction while it is unavailable. The planner stands still in Retain and Hold-up (R493,
R538). -/
def execPlanSeal (die : Nat) (entries : List PEntry) (s : State) : Host.Outcome State Fault Refusal :=
  if !s.flag .X_DIE_POP die || !s.planning then .next s
  else
    let p := s.plan die
    let inTime := s.sealInTime p
    if s.planClosed die then
      if s.dieAvailable die then .next (s.setPlan { p with next := s.closedPlan die p.next, sealed := inTime })
      else
        let reads := (p.back ++ p.next).filter fun e => e.op = opRead
        let keep := (p.back ++ p.next).filter fun e => e.op ≠ opRead
        let s := s.setPlan { p with next := [], sealed := inTime, back := keep }
        .next (forEach reads s fun e s => s.entryByRecon die e)
    else
      let l := sortPlan entries
      if !s.planOk die l then .next s
      else
        let slack : Int := ((s.tickNs - s.get .TK_PHASE_PHASE) / 1000 : Nat)
        let rest := takenFrom l p.back ++ p.next.filter fun e => !l.any fun x => x.op = e.op && x.desc = e.desc && x.cls = e.cls
        let s := s.setPlan { p with next := l, sealed := inTime, back := rest }
        .next (if inTime then s.sampleBoth 10 52 slack else s)

end Sys2Proof.Machine
end

