-- ==== Sys2Proof/Machine/Erase.lean ====
section
/-! DEFINITION. Erasing released blocks (R368, R378): in which mode and class, and when it may start. -/

namespace Sys2Proof.Machine

/-- R378: no command admitted before the release still reads, and no recovery that was at work then is. -/
def State.eraseAllowed (s : State) (d block : Nat) : Bool :=
  let ix := blkIx d block
  (s.cmds.all fun c => decide (s.get .X_BLK_REL ix ≤ c.id) || c.st = .ended || c.st = .taken)
    && (!s.flag .X_BLK_RELR ix || s.recovs.isEmpty)

/-- An ERASE of a block is planned or at work. -/
def State.eraseUnderway (s : State) (d block : Nat) : Bool :=
  let p := s.plan d
  (p.active ++ p.next ++ p.back ++ p.late).any (fun e => e.op = opErase && decide (2 ^ 33 ≤ e.desc) && (s.hwCall d e).block = block)
    || (s.get .X_DIE_OP d = 2 && s.get .X_DIE_OPBLK d = block)

/-! ### Modes and classes of erases (R368) -/

/-- Blocks ERASED in a mode. -/
def State.erasedIn (s : State) (mode : Nat) : Nat :=
  (s.regs.filter fun x => x.1.f = .X_BLK_MM && x.2 = mmErased && s.get .X_BLK_MODE x.1.i = mode + 1).length

/-- A mode is that of the band kind that is shortest of erased blocks. -/
def State.shortestMode (s : State) (mode : Nat) : Bool :=
  let modes := [kindRw, kindRo, kindCache, kindMap].map s.kindMode
  modes.contains mode && modes.all fun m => decide (s.erasedIn mode ≤ s.erasedIn m)

/-- The kinds of open band that a write waits for, if it waits for one. -/
def State.writeNeeds (s : State) (c : Cmd) : List Nat :=
  if !c.isWrite || c.st = .ended then []
  else if c.waits then
    let n := s.coverable (s.granBytes c)
    (if n = 0 then [] else [kindRw]) ++ (if (s.writeGranules c).length ≤ n then [] else [kindCache])
  else (c.parts.filter fun p => !p.done).map fun p => c.kind [p.pos]

/-- Work that waits for a band of a kind to be opened, each with the class it runs in: host writes, the copies of GC and of wear levelling
(R371), and map write-back (R307). -/
def State.openers (s : State) : List (Nat × Nat) :=
  let gc := if 2 ≤ s.gcState then 2 else 3
  let host := s.cmds.flatMap fun c => (s.writeNeeds c).map fun k => (k, c.cls)
  let copy := (s.bands.filter s.moving).flatMap fun b => (s.validFirsts b).map fun x => (s.copyKind x.2, gc)
  let map := if s.pages.any fun p => p.dirty then [(kindMap, 3)] else []
  (host ++ copy ++ map).filter fun x => (s.openBand x.1 16).isNone

/-- A cluster has too few dies with a block ERASED in a mode for its two members of a band. -/
def State.fewErased (s : State) (cl mode : Nat) : Bool :=
  decide (((s.clusterDies cl).filter fun d => s.regs.any fun x => x.1.f = .X_BLK_MM && x.1.i / 65536 = d && x.2 = mmErased
    && s.get .X_BLK_MODE x.1.i = mode + 1).length < 2)

/-- The class of an ERASE in a mode on a cluster, if one is due (R368): that of the most urgent work whose band opening finds too few
ERASED blocks, else Lead, in the mode that is shortest of erased blocks or that the hold-up reserve waits for (R367). -/
def State.eraseClass (s : State) (cl mode : Nat) : Option Nat :=
  match (s.openers.filter fun x => s.kindMode x.1 = mode && s.fewErased cl mode).map Prod.snd with
  | x :: l => some (l.foldl min x)
  | [] => if s.shortestMode mode || (mode = 0 && !s.reserveFull) then some 3 else none

/-- BLOCK_ERASE (R368, R374 step 4, R378, R387): once its RELEASE is durable, ERASE_BEGIN is journalled; once that is durable, the ERASE
goes to the planner. -/
def execBlockErase (die block mode : Nat) (s : State) : Host.Outcome State Fault Refusal :=
  let ix := blkIx die block
  let m := s.get .X_BLK_MM ix
  if s.flag .X_DIE_POP die && decide (block < s.blocksPerDie (dieChannel die)) && (m = mmReleased || m = mmHalfErased)
      && (s.blkState die block = bsInService || s.blkState die block = bsHalfErased) && s.dieHasMode die mode
      && !s.eraseUnderway die block && s.eraseAllowed die block && s.durable (fun r => r.type = 0x24) then
    match s.eraseClass (channelCluster (dieChannel die)) mode with
    | none => .next s
    | some cls =>
      let s := if s.flag .X_BLK_BEGUN ix then s
        else (s.journal 0x25 0 (baddr die block) (s.get .X_BLK_CNT ix * 2 ^ 32 + mode)).putFlag .X_BLK_BEGUN true ix
      if s.durable (fun r => r.type = 0x25 && r.a = baddr die block) then
        .next (s.planOwn die ⟨0, opErase, cls, true, s.get .TK_PERIOD_PERIOD, hwBlock block 0 mode⟩)
      else .next s
  else .next s

end Sys2Proof.Machine
end

