-- ==== Sys2Proof/Machine/Startup.lean ====
section
/-! DEFINITION. Start-up and chip resets (18): MAIN_PG, the choice of a slot, what the ROM boot writes, recovery after power loss
(R388, R389), first NVMe ready, and the flush and the clearing of a chip reset. -/

namespace Sys2Proof.Machine

/-! ### MAIN_PG (R508, R611, R613, R664) -/

/-- The rail channels that start-up checks (R613). -/
def railChannels : List Nat := [24, 25, 26, 27, 28, 29, 30, 31, 34, 35]

/-- Rail channels outside their default windows in the first round, with their samples. -/
def badRails (samples : List (Option Int)) : List (Nat × Int) :=
  railChannels.filterMap fun n => match samples.getD n none with
    | some v => if decide ((hkWindow n).2 ≤ v) && decide (v ≤ (hkWindow n).1) then none else some (n, v)
    | none => none

/-- MAIN_PG_QUALIFIED (R508, R611, R613): MAIN_PG has been asserted for 1 ms after `offMs` ms without it; `samples` are what the first
housekeeping round converts, by channel. In other modes than Patrol it changes nothing but the level. -/
def execMainPgQualified (samples : List (Option Int)) (offMs : Nat) (s : State) : Host.Outcome State Fault Refusal :=
  let t := s.putFlag .X_MAIN_PG true
  if s.mode ≠ mPatrol then .next t
  else if s.flag .X_THERM_LOCK && (s.flag .X_MAIN_PG || decide (offMs < 100)) then .next t
  else
    let t := (t.putFlag .X_THERM_LOCK false).setMainEn true
    match badRails samples with
    | [] =>
      let t := ((t.put .PM_MODE_MODE mReady).put .PM_MODE_TARGET mReady).put .CHP_RST_CAUSE_LEVEL 2
      .next (t.put .CHP_RST_CAUSE_SOURCE (if s.get .X_KEEP_CAUSE = 3 then 8 else 1))
    | bad => .next ((forEach bad t fun x t => t.logPatrol x.1 x.2 (decide ((hkWindow x.1).1 < x.2))).setMainEn false)

/-- MAIN_PG_DEASSERT (R508, R664): the level is noted; it matters to a restart and to the end of Hold-up only. -/
def execMainPgDeassert (s : State) : Host.Outcome State Fault Refusal := .next (s.putFlag .X_MAIN_PG false)

/-! ### The choice of a slot (R617, R618) -/

/-- Slots from the highest SVN down. -/
def bySvn (l : List FwSlot) : List FwSlot :=
  l.foldl (fun acc x => acc.takeWhile (fun y => decide (x.svn ≤ y.svn)) ++ x :: acc.dropWhile (fun y => decide (x.svn ≤ y.svn))) []

/-- The slots the ROM tries, in order, each once: valid and bootable. -/
def State.bootOrder (s : State) : List Nat :=
  (([s.get .X_SYS_NEXT, s.get .X_SYS_RUN] ++ (bySvn s.fwSlots).map fun x => x.slot).eraseDups).filter s.bootable

/-- The first copy of a slot that passes. -/
def BootFinds.copyOf (b : BootFinds) (slot : Nat) : Option Nat := [0, 1, 2].find? fun c => !b.failed.contains (slot, c)

/-- The first slot with a copy that passes. -/
def BootFinds.slotOf (b : BootFinds) (order : List Nat) : Option (Nat × Nat) :=
  order.findSome? fun k => (b.copyOf k).map fun c => (k, c)

/-! ### What the ROM boot writes (R21, R94, R315, R422, R457, R518, R534, R593, R624) -/

/-- A field of a register that the reset cleared: one of the chip cold domain keeps its value over a chip warm reset, unless a new
configuration record came (R594, R624). -/
def State.bootPut (s : State) (all : Bool) (f : Field) (v : Nat) (i : Nat := 0) : State :=
  if all || f.info.dom ≠ .cold then s.put f v i else s

/-- The fields that the configuration record gives, and the locks (R457, R592, R593). -/
def State.applyRecord (s : State) (r : List Byte) (cold : Bool) : State :=
  let all := cold || s.cfgRec ≠ r
  let s := s.bootPut all .SEC_STS_KEYED (cfgVal r 0 16 1 0)
  let s := (s.bootPut all .HU_CTL_PRESENT (cfgVal r 3 96 1 0)).bootPut all .HU_CTL_TSENS (cfgVal r 3 97 1 0)
  let s := s.put .X_MI_ADDR (cfgVal r 2 84 1 0x1D)
  let s := forEach (List.range 8) s fun j s => s.bootPut all .HK_RD_CFG_EN (bits (cfgFitted r) j j) j
  let s := forEach (List.range 96) s fun n s => s.bootPut all .MS_CH_SENS_MASK (cfgSens r n) n
  let s := forEach [0, 1] s fun p s =>
    (s.bootPut all .HE_CFG_BIFUR (cfgPort r p % 4) p).bootPut all .HE_CFG_MAX_SPEED (cfgPort r p / 16) p
  let s := forEach (List.range 8) s fun k s =>
    (s.bootPut all .HE_VFALLOC_FIRST (cfgVf r k % 256) k).bootPut all .HE_VFALLOC_COUNT (bits (cfgVf r k) 24 16) k
  let s := forEach (List.range 264) s fun f s =>
    let s := s.put .X_NSFAM (cfgVal r 6 (512 + 2 * f) 1 (if f = 0 then 3 else 0)) f
    -- the map is journalled, defaults set by batches among it (R479, R481)
    if s.cfgRec = r then s else s.put .X_RDEF (cfgVal r 6 (513 + 2 * f) 1 0) f
  { s with cfgRec := r, locks := (cfgLocks r).flatMap lockFields }

/-- Bytes that an SLC band of 14 data members holds, by the smallest geometry populated. -/
def State.slcBandBytes (s : State) : Nat :=
  match s.dies.map fun d => s.wlb (dieChannel d) * s.planes (dieChannel d) * 16384 with
  | [] => 0
  | x :: l => 14 * l.foldl min x

/-- HU_BANDS (R534). Without a die there is no band to reserve. -/
def State.huBands (s : State) : Nat :=
  let need := (s.get .HU_REL_CFG_ETA * s.get .HU_E_CEIL_CEIL - 100 * s.get .HU_ALLOW_CFG_E_FIXED) * 10000000 / s.get .HU_ALLOW_CFG_E_BYTE
    + 16 * 2 ^ 20
  let b := s.slcBandBytes
  if b = 0 then 0 else (need + b - 1) / b + 1

/-- The boot value of PE_MAX (TK_BUDGET1). -/
def State.bootPeMax (s : State) : Nat :=
  let base := s.get .PM_PCAP_BASE
  min s.dies.length (814 * (s.get .PM_PCAP_CAP - base) / (55 - base))

/-- Boot values that fuses, sizes and tables give, and the housekeeping windows. What the fuses hold for the windows of channels 44
to 47 and for F_TARGET is open. -/
def State.bootValues (s : State) (b : BootFinds) (cold : Bool) : State :=
  let s := (s.bootPut cold .TK_PERIOD_PERIOD (s.get .CHP_CAP7_TICK_DEF)).put .TK_BUDGET1_PE_MAX s.bootPeMax
  let s := s.put .MC_GC_QMAX_QMAX (195312 * s.bootPeMax / 814)
  let s := s.put .MC_GC_MODE_RO_MODE (if s.dies.all fun d => bit (s.get .X_DIE_CELLS d) 2 then 2 else 1)
  let s := (s.put .MC_GC_MARK1_HU_BANDS s.huBands).put .MC_DSTORE_SIZE (min 98304 (b.dramMib - 8192))
  let s := ((s.putFlag .MC_CTL_ENABLE true).putFlag .MC_STS_INIT false).putFlag .MC_STS_ENABLED true
  let s := forEach (List.range 4) s fun k s => s.put .CHP_UID_UID (Config.uid k) k
  let s := s.bootPut cold .PM_PATROL_MASK ((patrolChannels.map fun n => 2 ^ n).foldl (· + ·) 0)
  let s := if !cold then s else
    let s := forEach (List.range 44) s fun n s =>
      (s.put .HK_WIN_HI (toField 16 (hkWindow n).1) n).put .HK_WIN_LO (toField 16 (hkWindow n).2) n
    let s := forEach [44, 45, 46, 47] s fun n s =>
      let (hi, s) := s.takeFree
      let (lo, s) := s.takeFree
      (s.put .HK_WIN_HI hi n).put .HK_WIN_LO lo n
    let (f, s) := s.takeFree
    let s := s.put .HK_AVS_CFG0_F_TARGET (100 + f % 9901)
    s.put .ER_HWIDTH_WIDTH ((s.get .TK_PERIOD_PERIOD + 31) / 32) 10
  s.put .HU_STS_STATE (if s.flag .HU_CTL_PRESENT then huPrecharge else huDisabled)

/-- What keep memory and the system area give back: SEC_MONO (R473), the time floor, the cause of the last stay below Retain. -/
def State.bootKeep (s : State) : State :=
  let s := s.put .SEC_MONO (max (s.get .X_KEEP_MONO) (s.get .X_SYS_MONO))
  let s := (s.put .SEC_TIME_FLOOR (max (s.get .SEC_TIME_FLOOR) (s.get .X_KEEP_FLOOR))).put .PM_MODE_CAUSE (s.get .X_KEEP_CAUSE)
  if s.flag .CAL_STS_VBAT_LOST then s.putFlag .SEC_STS_VBAT_LOST true else s

/-- The slot that started: it runs, and a reset activation is recorded (R602, R607, R608). -/
def State.bootSlot (s : State) (slot : Nat) : State :=
  let s := (s.put .FW_ACTIVE_RUNNING slot).put .FW_ACTIVE_ARMED 0
  let s := forEach (List.range 8) s fun t s => (s.put .X_FW_COMP slot (t + 1)).put .X_FW_CLCOMP slot t
  let s := s.setNextReset (s.get .X_SYS_NEXT)
  match s.slot? slot with
  | none => s
  | some x =>
    if slot = s.get .X_SYS_NEXT then (((s.recordRunning x).setNextReset 0).bump .FW_CNT_ACTIVATIONS).fwReport fwOk slot 0 0
    else if slot = s.get .X_SYS_RUN then s.recordRunning x
    else s

/-- The ROM writes how it started (R617 to R619). -/
def State.bootStatus (s : State) (failedCopies source slot phase result : Nat) : State :=
  let s := ((s.put .CHP_BOOT_STS_FAILED_COPIES failedCopies).put .CHP_BOOT_STS_SOURCE source).put .CHP_BOOT_STS_SLOT slot
  (s.put .CHP_BOOT_STS_PHASE phase).put .CHP_BOOT_STS_RESULT result

/-! ### Recovery after power loss (R388, R389) -/

/-- Blocks that are made HALF_ERASED: found ERASING, or with an ERASE_BEGIN and no later ERASE_DONE (R388, steps 1 and 2). Each with
its detection. A block the ROM reports retired is journalled as such. -/
def State.halfErased (s : State) (erasing : List Nat) : State :=
  let begun := ((s.regs.filter fun x => x.1.f = .X_BLK_BEGUN && x.2 = 1).map fun x => x.1.i).filter fun i => !erasing.contains i
  let mark (det i : Nat) (s : State) : State :=
    if s.get .X_BLK_STATE i = bsRetiredErase then (s.putFlag .X_BLK_BEGUN false i).journalRetire (i / 65536) (i % 65536) 1
    else
      let s := ((s.put .X_BLK_STATE bsHalfErased i).put .X_BLK_MM mmHalfErased i).putFlag .X_BLK_BEGUN false i
      let s := s.journal 0x28 0 (baddr (i / 65536) (i % 65536)) det
      s.put .MC_REC1_HALF_ERASED (min 0xFFFE (s.get .MC_REC1_HALF_ERASED + 1))
  forEach begun (forEach erasing s (mark 2)) (mark 1)

/-- Units in the last three programmed wordlines of the members of a band (R388, step 3). -/
def State.tailUnits (s : State) (b : Band) : List URec :=
  s.flash.filterMap fun x => match x.2 with
    | some u =>
      if u.rcd.band = b.id
          && decide (s.get .X_BLK_WL (blkIx (placeDie x.1) (s.placeBlock x.1)) ≤ s.placePage x.1 / 16 + 3) then some u.rcd
      else none
    | none => none

/-- Units stored under one record, but for FIRST: they belong to one granule, block or map page. -/
def URec.same (r x : URec) : Bool := r.kind = x.kind && r.node = x.node && r.g = x.g && r.wseq = x.wseq && r.band = x.band

/-- What one record's units in the tail of an open band are (R389): kept, a duplicate to be settled, or `n` units of garbage. -/
def State.settleUnits (s : State) (r : URec) (n : Nat) : State :=
  let garbage := s.put .MC_REC2_DISCARDED (min 0xFFFFFFFE (s.get .MC_REC2_DISCARDED + n))
  match s.flash.find? fun x => x.2.any fun u => u.rcd.first && u.rcd.same r with
  | none => garbage
  | some (p, _) =>
    if s.liveFirst { r with first := true } p then s
    else
      let src (g : Nat) : Option Nat :=
        let w := s.mapGet r.node g
        if eState w = 1 && !eLost w then
          match s.unitAt (ePlace w) with
          | some u => if u.rcd.node = r.node && u.rcd.g = r.g && u.rcd.wseq = r.wseq then some (ePlace w) else none
          | none => none
        else none
      match if r.kind = 3 then none else ((List.range (if r.kind = 2 then 16 else 1)).map (r.g + ·)).findSome? src with
      | none => garbage
      | some q =>
        if s.copyComplete ⟨q, p, r.len, false⟩ then
          (s.commitCopy ⟨q, p, r.len, false⟩ false).put .MC_REC0_COPIES_KEPT (min 0xFFFE (s.get .MC_REC0_COPIES_KEPT + 1))
        else s.put .MC_REC0_SOURCES_KEPT (min 0xFFFE (s.get .MC_REC0_SOURCES_KEPT + 1))

/-- One record of each granule, block or map page among some. -/
def oneEach : List URec → List URec
  | [] => []
  | r :: l => if l.any r.same then oneEach l else r :: oneEach l

/-- One band with BAND_OPEN and no BAND_CLOSE (R388, steps 3 and 4). -/
def State.recoverBand (s : State) (id : Nat) : State :=
  match s.bands.find? fun b => b.id = id with
  | none => s
  | some b =>
    let tail := s.tailUnits b
    let s := forEach (oneEach tail) s fun r s => s.settleUnits r (tail.filter r.same).length
    let rows := ((s.dataRows b).filter fun p => !b.rowComplete p).length
    (s.closeBand b).put .MC_REC1_ROWS_SEALED (min 0xFFFE (s.get .MC_REC1_ROWS_SEALED + rows))

/-- Media recovery (R388); its results are in MC_REC0 to MC_REC2. -/
def State.recoverMedia (s : State) (erasing : List Nat) : State :=
  let zero : List Field := [.MC_REC0_COPIES_KEPT, .MC_REC0_SOURCES_KEPT, .MC_REC1_HALF_ERASED, .MC_REC1_ROWS_SEALED, .MC_REC2_DISCARDED]
  let s := (forEach zero s fun f s => s.put f 0).halfErased erasing
  forEach ((s.bands.filter fun b => b.isOpen).map fun b => b.id) s fun id s => s.recoverBand id

/-! ### Start-up (R615 to R620, R623) -/

/-- The ROM halts with ERR_N asserted and RESULT FAILED in keep memory (R619). -/
def State.bootHalt (s : State) : State :=
  let s := if s.flag .FC_STS_ERR_N then s else (s.putFlag .FC_STS_ERR_N true).emit (.pin "ERR_N" true)
  (s.putFlag .X_KEEP_FAILED true).putFlag .X_BOOT_HALT true

/-- Steps 4 to 9 of R615, from a slot that passed. -/
def State.bootRest (s : State) (b : BootFinds) (slot : Nat) (cold : Bool) : State :=
  let erasing := (s.regs.filter fun x => x.1.f = .X_BLK_STATE && x.2 = bsErasing).map fun x => x.1.i
  let fixed := [uChip, uFront, uMap, uWarden, uHousekeeping] ++ (List.range 8).map uCluster ++ (List.range 8).map uEngines
  let s := forEach fixed s fun u s => s.putFlag .X_OWN_READY true u
  let s := forEach (List.range 96) s fun ch s => s.bringUp ch ((b.chans.lookup ch).getD ⟨[], []⟩)
  let s := forEach (s.subtree uChip) s fun u s => (s.putFlag .UCB_STATUS_RESETTING false u).bump .UCB_CNT0 u
  let s := s.bootSlot slot
  let s := s.applyRecord ((s.runningComp 8).elim [] fun c => c.bytes) cold
  let s := (s.bootValues b cold).recoverMedia erasing
  let s := forEach [0, 1] s fun p s => s.applyLayout p
  let s := (s.put .SEC_PM_STS_ENTRIES s.rights.length).evalLicences
  let s := s.updateErrN
  let s := if s.flag .X_SHORT_OWED then (s.raise 126 uHousekeeping 0xF).putFlag .X_SHORT_OWED false else s
  let s := (s.put .CHP_BOOT_TIME_REPLAY_MS (min 0xFFE b.replayMs)).put .CHP_BOOT_TIME_READY_MS (min 0xFFFFE b.readyMs)
  let s := ((s.newQuota.publishBudgets).updateGc).updateAllow
  -- a Sanitize that was in progress goes on (R151, R152)
  let s := s.putFlag .JQ_STS_SANITIZING (decide (s.get .X_SAN_ST = 2))
  s.putFlag .X_READY true

/-- STARTUP (R615): from power-up or a chip reset to first NVMe ready. A reset that is requested before step 9, or a ROM that has
halted, leaves nothing to start. -/
def execStartup (b : BootFinds) (s : State) : Host.Outcome State Fault Refusal :=
  if !s.powered || s.mode = mHoldup || s.flag .X_READY || s.get .X_CHIPRST ≠ 0 || s.flag .X_BOOT_HALT then .next s
  else
    -- a start that no reset asked for follows power-up: SMART counts it (R171)
    let s := if s.get .CHP_RST_CAUSE_LEVEL = 0 then ((s.put .CHP_RST_CAUSE_LEVEL 2).put .CHP_RST_CAUSE_SOURCE 1).bump .X_SM_PC else s
    let cold := s.get .CHP_RST_CAUSE_LEVEL = 2
    let s := if s.fwSlots.isEmpty then ({ s with fwSlots := b.images } : State).put .X_SYS_RUN b.running else s
    let s := s.bootKeep
    let order := s.bootOrder
    match if b.recoveryN then none else b.slotOf order with
    | some (slot, copy) =>
      let r := if order.head? = some slot then 0 else 1
      .next ((s.bootRest b slot cold).bootStatus (2 ^ copy - 1) (copy + 1) slot 9 r)
    | none => .next (if b.recoveryOk then s.bootStatus 0 4 0 3 2 else s.bootHalt)

/-! ### Chip resets (R624 to R627) -/

/-- The flush of R625 on mains power; none where the reset follows a Hold-up or comes before step 9 of start-up. -/
def State.resetFlush (s : State) : State := if s.flag .X_FLUSHED || !s.flag .X_READY then s else (s.dropAllCommands.finishFlush true).2

/-- The links that are up go down (R120). -/
def State.dropLinks (s : State) : State :=
  forEach (List.range 8) s fun x s => if s.flag .HE_LINK_STS_UP x then s.linkDown (x / 4) (x % 4) else s

/-- What a chip reset leaves: its domains cleared and its cause; start-up is next. -/
def State.afterReset (s : State) : State :=
  let cold := s.get .X_CHIPRST = 2
  let source := s.get .X_CHIPRST_SRC
  let s := (s.clearDomains cold).putFlag .SEC_STS_OWNER false
  ((s.put .CHP_RST_CAUSE_LEVEL (if cold then 2 else 1)).put .CHP_RST_CAUSE_SOURCE source).put .FW_ACTIVE_ARMED 0

/-- CHIP_RESET (R36, R81, R459, R624 to R627): a chip reset that was requested. Its flush first lets every program end; while one still
runs the reset waits. -/
def execChipReset (s : State) : Host.Outcome State Fault Refusal :=
  if s.get .X_CHIPRST = 0 || !s.powered || (s.mode = mHoldup && s.flag .X_FLUSH) then .next s
  else
    let flush := s.flag .X_READY && !s.flag .X_FLUSHED
    let s := if flush then s.stopMedia else s
    if flush && s.programming then .next s else .next s.resetFlush.dropLinks.afterReset

end Sys2Proof.Machine
end

