-- ==== Sys2Proof/Machine/Logs.lean ====
section
/-! DEFINITION. Log pages (R171 to R174), Identify (R125, R135, R139, R144 to R146, R255) and the out-of-band management endpoint (R175 to
R177). Bytes of these structures that the spec gives no value are free values (log entries 4 and 20). -/

namespace Sys2Proof.Machine

/-! ### Structures laid over free bytes -/

/-- A structure of `n` bytes: the fields given, each by offset, over bytes that are open. -/
def layOver (free : List Byte) (n : Nat) (fields : List (Nat × List Byte)) : List Byte :=
  (List.range n).map fun k =>
    (fields.findSome? fun f => if f.1 ≤ k then f.2[k - f.1]? else none).getD (free.getD k 0)

/-- Some bits of a byte, by mask, over a free one. -/
def overBits (free : List Byte) (off mask v : Nat) : Nat × List Byte :=
  (off, [BitVec.ofNat 8 v ||| ((free.getD off 0) &&& ~~~(BitVec.ofNat 8 mask))])

/-- The part of a structure that a read at an offset returns. Bytes past its end are open. -/
def slice (data free : List Byte) (off len : Nat) : List Byte := (List.range len).map fun k => data.getD (off + k) (free.getD k 0)

/-! ### SMART / Health (R168, R169) -/

/-- The SMART / Health log: temperatures, warnings and the counts the model keeps (R168, R169, R171). -/
def State.smartLog (s : State) (fn : Nat) (free : List Byte) : List Byte :=
  let t := s.sensorK
  layOver free 512 [overBits free 0 0x12 (s.criticalWarning fn),
    (1, natLe 2 (t.getD 0 0)), (32, natLe 16 ((s.get .X_SM_RD + 999) / 1000)), (48, natLe 16 ((s.get .X_SM_WR + 999) / 1000)),
    (64, natLe 16 (s.get .X_SM_RDC)), (80, natLe 16 (s.get .X_SM_WRC)), (112, natLe 16 (s.get .X_SM_PC)), (144, natLe 16 (s.get .X_SM_US)),
    (160, natLe 16 (s.get .X_SM_ME)), (176, natLe 16 (s.get .X_SM_ERR)), (200, natLe 2 (t.getD 0 0)), (202, natLe 2 (t.getD 1 0)), (204, natLe 2 (t.getD 2 0)), (206, List.replicate 10 0)]

/-! ### The other standard logs (R152, R171) -/

/-- The revision of a slot's package; zeroes for a slot that holds none. -/
def State.slotRevision (s : State) (k : Nat) : List Byte := (s.slot? k).elim (List.replicate 8 0) fun x => x.revision

def State.firmwareLog (s : State) : List Byte :=
  layOver [] 512 [(0, natLe 1 (s.get .FW_ACTIVE_RUNNING + 16 * s.get .FW_ACTIVE_NEXT_RESET)),
    (8, [1, 2, 3, 4].flatMap s.slotRevision)]

/-- Namespaces of a controller that changed since it last read the list. -/
def State.changedNs (s : State) (fn : Nat) : List Nat :=
  ((List.range 4096).filter fun n => s.flag .X_NSCHG (fn * 4096 + n)).map (· + 1)

def State.changedLog (s : State) (fn : Nat) : List Byte :=
  let l := s.changedNs fn
  layOver [] 4096 [(0, if 1024 < l.length then natLe 4 0xFFFFFFFF else l.flatMap (natLe 4))]

/-- An admin opcode is the function's (R136, R163). -/
def State.adminSupported (s : State) (fn op : Nat) : Bool :=
  adminOps.contains op && !((op = 0x0D || op = 0x15) && !s.hasNsFam fn) && !((op = 0x80 || op = 0x84) && !s.hasSanFam fn)
    && !((op = 0x10 || op = 0x11) && !s.hasFw fn)

/-- Commands Supported and Effects: bit 0 of an entry; a command that is not supported has an empty entry. -/
def State.effectsLog (s : State) (fn : Nat) (free : List Byte) : List Byte :=
  let entry (base : Nat) (ok : Nat → Bool) (op : Nat) : List (Nat × List Byte) :=
    if ok op then [overBits free (base + 4 * op) 1 1] else [(base + 4 * op, [0, 0, 0, 0])]
  layOver free 4096 ((List.range 256).flatMap (entry 0 (s.adminSupported fn)) ++ (List.range 256).flatMap (entry 1024 ioOps.contains)
    ++ [(2048, List.replicate 2048 0)])

/-- Sanitize Status (R152, R154). -/
def State.sanitizeLog (s : State) (free : List Byte) : List Byte :=
  layOver free 512 [(0, natLe 2 (s.get .X_SAN_SPROG)), (2, natLe 2 s.sstat), (4, natLe 4 (s.get .X_SAN_DW10)),
    (12, natLe 4 s.etbe), (16, natLe 4 etce), (32, List.replicate 480 0)]

/-! ### Erase Counts (R172) -/

/-- The state byte of a block. -/
def State.eraseState (s : State) (d b : Nat) : Nat :=
  let st := s.blkState d b
  if st = bsRetiredErase ∨ st = bsFactory then 1 else if st = bsRetiredProgram then 2 else if st = bsHalfErased then 3
  else if st = bsSystem then 4 else 0

def State.eraseCounts (s : State) (d : Nat) : List Nat := (List.range (s.blocksPerDie (dieChannel d))).map fun b => s.get .X_BLK_CNT (blkIx d b)

/-- The record of a die in the summary. -/
def State.eraseRecord (s : State) (d : Nat) : List Byte :=
  let l := s.eraseCounts d
  let states := (List.range l.length).map (s.eraseState d)
  natLe 2 d ++ natLe 2 0 ++ natLe 4 l.length ++ natLe 4 (l.foldl min (l.headD 0)) ++ natLe 4 (l.foldl max 0)
    ++ natLe 4 (l.foldl (· + ·) 0 / l.length) ++ natLe 4 (states.filter fun x => x = 1 || x = 2).length
    ++ natLe 4 (states.filter fun x => x = 3).length ++ natLe 4 0

def State.eraseSummary (s : State) : List Byte :=
  natLe 4 1 ++ natLe 4 s.dies.length ++ natLe 8 ((s.dies.flatMap s.eraseCounts).foldl (· + ·) 0) ++ List.replicate 48 0
    ++ s.dies.flatMap s.eraseRecord

def State.eraseDie (s : State) (d : Nat) : List Byte :=
  let l := s.eraseCounts d
  natLe 2 d ++ natLe 2 0 ++ natLe 4 l.length ++ List.replicate 24 0
    ++ (List.range l.length).flatMap fun b => natLe 4 (l.getD b 0) ++ natLe 1 (s.eraseState d b) ++ List.replicate 3 0

/-! ### Fault Status (R174) -/

def State.faultEntry (s : State) (x : Nat) : List Byte :=
  let bits := s.get .FC_SRC_STATE_STICKY x + 2 * s.get .FC_SRC_STATE_SEVERE x + 4 * (srcRow x).cls + 16 * s.get .FC_SRC_STATE_UNACK x
  natLe 2 x ++ natLe 1 bits ++ natLe 1 (s.get .FC_SRC_CFG_REACT x) ++ natLe 4 (s.get .FC_SRC_WCNT_WCNT x) ++ natLe 8 (s.get .FC_SRC_TOTAL x)

def State.faultLog (s : State) : List Byte :=
  let count (f : Field) : Nat := ((List.range 320).filter fun x => s.flag f x).length
  natLe 4 1 ++ natLe 2 320 ++ natLe 1 (s.get .FC_STS_ERR_N) ++ natLe 1 0 ++ natLe 2 (count .FC_SRC_STATE_STICKY)
    ++ natLe 2 (count .FC_SRC_STATE_SEVERE) ++ List.replicate 52 0 ++ (List.range 320).flatMap s.faultEntry

/-! ### Get Log Page -/

/-- Fields of a Get Log Page: identifier, specific parameter, Retain Asynchronous Event, length, specific identifier, offset. -/
def Cmd.lid (c : Cmd) : Nat := c.dw 10 % 256
def Cmd.lsp (c : Cmd) : Nat := bits (c.dw 10) 14 8
def Cmd.rae (c : Cmd) : Bool := bit (c.dw 10) 15
def Cmd.logLen (c : Cmd) : Nat := 4 * (c.dw 10 / 65536 + 65536 * (c.dw 11 % 65536) + 1)
def Cmd.lsi (c : Cmd) : Nat := c.dw 11 / 65536
def Cmd.logOff (c : Cmd) : Nat := fieldAt c.raw 48 8

/-- An entry of the Error Information log (R171): what the model keeps of it, over open bytes. -/
def ErrEntry.bytes (e : ErrEntry) (free : List Byte) : List Byte :=
  layOver free 64 [(0, natLe 8 e.count ++ natLe 2 e.sqid ++ natLe 2 e.cid ++ natLe 2 (2 * e.status)), (16, natLe 8 e.lba ++ natLe 4 e.nsid)]

/-- The Error Information log: 256 entries, newest first; one that is not used is zeroes. -/
def State.errorLog (s : State) (fn : Nat) (free : List Byte) : List Byte :=
  let l := (s.errLog.filter fun e => e.fn = fn).flatMap fun e => e.bytes free
  l ++ List.replicate (16384 - l.length) 0

/-- The standard logs there are (R171). -/
def standardLids : List Nat := [0x01, 0x02, 0x03, 0x04, 0x05, 0x81]

/-- The logs that a Sanitize leaves readable (R151; NVMe Base's list, log entry 20). -/
def sanitizeLids : List Nat := [0x01, 0x02, 0x04, 0x81]

/-- A standard log's content, and the state that reading it leaves. -/
def State.standardLog (s : State) (c : Cmd) (free : List Byte) : Option (List Byte × State) :=
  match c.lid with
  | 0x01 => some (s.errorLog c.fn free, s)
  | 0x02 => some (s.smartLog c.fn free, s)
  | 0x03 => some (s.firmwareLog, s)
  | 0x04 =>
    let t : State := { s with regs := s.regs.filter fun x => !(x.1.f = .X_NSCHG && x.1.i / 4096 = c.fn) }
    some (s.changedLog c.fn, if c.rae then s else t)
  | 0x05 => some (s.effectsLog c.fn free, s)
  | 0x81 => some (s.sanitizeLog free, s)
  | _ => none

/-- A log read: an answer with data, or a status. Lengths and offsets are dword aligned, and a length keeps within MDTS. -/
def State.logRead (s : State) (c : Cmd) (content : List Byte → State → Except Result (List Byte × State)) : Except Result (List Byte × State) :=
  if c.logOff % 4 ≠ 0 ∨ mdts < c.logLen then .error vInvalidField
  else
    let (free, s) := s.takeFreeBytes
    match content free s with
    | .error r => .error r
    | .ok (data, s) => if data.length < c.logOff then .error vInvalidField else .ok (slice data free c.logOff c.logLen, s)

/-- Standard logs; SMART has controller scope only. Any other identifier is an Invalid Log Page. -/
def State.readStandard (s : State) (c : Cmd) : Except Result (List Byte × State) :=
  if !standardLids.contains c.lid then .error vInvalidLog
  else if c.lid = 0x02 ∧ c.dw 1 ≠ 0 ∧ c.dw 1 ≠ 0xFFFFFFFF then .error vInvalidField
  else s.logRead c fun free s => (s.standardLog c free).elim (.error vInvalidLog) .ok

/-- Erase Counts: functions with the namespace-management family. -/
def State.readErase (s : State) (c : Cmd) : Except Result (List Byte × State) :=
  if !s.hasNsFam c.fn then .error vInvalidLog
  else s.logRead c fun _ s =>
    if c.lsi = 0xFFFF then .ok (s.eraseSummary, s)
    else if s.flag .X_DIE_POP c.lsi then .ok (s.eraseDie c.lsi, s)
    else .error vInvalidField

/-- Recorder Export: PF0. Offset 0 takes a snapshot, and Log Specific Parameter bit 0 then clears the recorder. -/
def State.readRecorder (s : State) (c : Cmd) : Except Result (List Byte × State) :=
  let clear := bit c.lsp 0
  if c.fn ≠ 0 then .error vInvalidLog
  else if clear && !(c.logOff = 0 && s.flag .SEC_STS_OWNER) then .error vInvalidField
  else s.logRead c fun _ s =>
    if c.logOff = 0 then
      let t : State := { s with recSnap := s.recImage }
      .ok (s.recImage, if clear then t.clearRecorder else t)
    else .ok (if s.recSnap.isEmpty then List.replicate 23616 0 else s.recSnap, s)

/-- Fault Status: PF0. -/
def State.readFaults (s : State) (c : Cmd) : Except Result (List Byte × State) :=
  if c.fn ≠ 0 then .error vInvalidLog else s.logRead c fun _ s => .ok (s.faultLog, s)

/-- Any log, by its identifier. -/
def State.readLog (s : State) (c : Cmd) : Except Result (List Byte × State) :=
  if s.sanVerdict.isSome && !sanitizeLids.contains c.lid then .error (s.sanVerdict.getD vSanitizing)
  else match c.lid with
  | 0xC0 => s.readErase c
  | 0xC1 => s.readRecorder c
  | 0xC2 => s.readFaults c
  | _ => s.readStandard c

/-- Sends a structure to a command's data pointer and completes it, or completes it with a status. -/
def State.answer (s : State) (c : Cmd) (r : Except Result (List Byte × State)) : State :=
  match r with
  | .error v => s.finish c v
  | .ok (data, t) => (t.sendData c 0 data).finish c vSuccess

/-- GET_LOG_PAGE (R171): the standard logs, and identifiers that name none. -/
def execGetLogPage (cmd : Nat) (s : State) : Host.Outcome State Fault Refusal :=
  .next (s.onAdmin cmd 0x02 fun c => if 0xC0 ≤ c.lid ∧ c.lid ≤ 0xC2 then s else s.answer c (s.readLog c))

/-- GET_LOG_ERASE_COUNTS (R172). -/
def execGetLogEraseCounts (cmd : Nat) (s : State) : Host.Outcome State Fault Refusal :=
  .next (s.onAdmin cmd 0x02 fun c => if c.lid = 0xC0 then s.answer c (s.readLog c) else s)

/-- GET_LOG_RECORDER_EXPORT (R173). -/
def execGetLogRecorderExport (cmd : Nat) (s : State) : Host.Outcome State Fault Refusal :=
  .next (s.onAdmin cmd 0x02 fun c => if c.lid = 0xC1 then s.answer c (s.readLog c) else s)

/-- GET_LOG_FAULT_STATUS (R174). -/
def execGetLogFaultStatus (cmd : Nat) (s : State) : Host.Outcome State Fault Refusal :=
  .next (s.onAdmin cmd 0x02 fun c => if c.lid = 0xC2 then s.answer c (s.readLog c) else s)

/-! ### Identify (R125, R129, R135 to R141, R144 to R147, R154, R157, R163, R168, R255, R598) -/

/-- ASCII text. -/
def ascii (t : String) : List Byte := t.toList.map fun c => BitVec.ofNat 8 c.toNat

/-- A hexadecimal digit, lower case. -/
def hexDigit (n : Nat) : Byte := BitVec.ofNat 8 (if n < 10 then 48 + n else 87 + n)

/-- The subsystem NQN (R125). -/
def subNqn : List Byte :=
  ascii "nqn.2019-04.com.gwetansilicon:plyn-j96:" ++ (List.range 32).map fun k => hexDigit (uidNat / 16 ^ (31 - k) % 16)

/-- A power state descriptor (R157): power in 0.01 W, non-operational, latencies in µs. -/
def psd (free : List Byte) (k : Nat) (cw : Nat) (nonOp : Bool) (en ex : Nat) : List (Nat × List Byte) :=
  let o := 2048 + 32 * k
  [(o, natLe 2 cw), overBits free (o + 3) 3 (if nonOp then 2 else 0), (o + 4, natLe 4 en), (o + 8, natLe 4 ex)]

/-- Identify Controller (CNS 0x01). -/
def State.identifyCtrl (s : State) (fn : Nat) (free : List Byte) : List Byte :=
  let oacs := (if s.hasSanFam fn then 2 else 0) + (if s.hasFw fn then 4 else 0) + (if s.hasNsFam fn then 8 else 0)
  let sub := cfgVal s.cfgRec 1 80 4 0x50961FC7
  layOver free 4096 ([(0, natLe 2 0x1FC7), (2, natLe 2 (sub % 65536)), (64, s.slotRevision (s.get .FW_ACTIVE_RUNNING)), overBits free 76 8 0, (77, [10]),
    (78, natLe 2 fn), (80, natLe 4 0x20100), overBits free 93 8 0, overBits free 96 2 0, (256, natLe 2 oacs), (258, [7]), (259, [15]), (260, [0x18]), overBits free 261 7 6,
    (262, [255]), (263, [4]), (265, [0]), (266, natLe 2 398), (268, natLe 2 411), (270, natLe 2 1), (319, [1]), (320, natLe 2 0),
    (328, natLe 4 (if s.hasSanFam fn then 3 + 2 ^ 29 + 2 * 2 ^ 30 else 0)), (512, [0x66]), (513, [0x44]), (516, natLe 4 4096),
    overBits free 520 0xBF 0x8C, (521, [0]), overBits free 524 7 4, overBits free 525 1 0, overBits free 536 7 2, overBits free 538 9 0, (540, natLe 4 4096),
    (768, subNqn ++ List.replicate (256 - subNqn.length) 0)]
    ++ psd free 0 5500 false 0 0 ++ psd free 1 4000 false 125 125 ++ psd free 2 2500 false 125 125 ++ psd free 3 1100 true 200 300
    ++ psd free 4 90 true 2000 3000)

/-- An LBA format as Identify Namespace shows it (R145). -/
def lbafDesc (free : List Byte) (k ms ds : Nat) : List (Nat × List Byte) :=
  [(128 + 4 * k, natLe 2 ms ++ natLe 1 ds), overBits free (131 + 4 * k) 0xFC 0]

/-- The granule that Identify reports for a node, in 4 KiB units (R144, R255). -/
def State.granuleShown (s : State) (id : Nat) : Nat :=
  if s.isVolume id then s.gUnits id
  else match s.writeTarget id with
    | some v => s.gUnits v
    | none => (s.order id).foldl (fun m v => max m (s.gUnits v)) 1

/-- What Identify Namespace says of every namespace (R141, R144, R145, R250). -/
def nsCommon (free : List Byte) : List (Nat × List Byte) :=
  [overBits free 24 0x12 0x12, (25, [4]), (27, [3]), (28, [0x17]), overBits free 30 1 1, overBits free 33 0x0F 0x09, (92, natLe 4 0)]
    ++ lbafDesc free 0 0 12 ++ lbafDesc free 1 8 12 ++ lbafDesc free 2 16 12 ++ lbafDesc free 3 0 9 ++ lbafDesc free 4 8 9

/-- Identify Namespace of a node. -/
def State.identifyNs (s : State) (n : Node) (free : List Byte) : List Byte :=
  let lbaf := s.lbafOf n.id
  let per := 4096 / lbaBytes lbaf
  let g := s.granuleShown n.id * per - 1
  let f := s.fmtOf (newCmd 0 true 0 0 0 0 0 []) n.id
  let used := if n.isStack then [(16, natLe 8 (n.size * per))] else []
  layOver free 4096 ([(0, natLe 8 (n.size * per)), (8, natLe 8 (n.size * per)), (34, natLe 2 g), (36, natLe 2 g),
    overBits free 26 0x1F (lbaf + if f.ext then 16 else 0), (29, [BitVec.ofNat 8 f.pi]), (64, natLe 2 g), (66, natLe 2 g)] ++ used ++ nsCommon free)

/-- A list of namespace IDs above a given one: at most 1,024, ascending, then zeroes. -/
def nsList (ids : List Nat) (above : Nat) : List Byte :=
  let l := ((ids.map (· + 1)).filter fun n => decide (above < n)).take 1024
  layOver [] 4096 [(0, l.flatMap (natLe 4))]

/-- A controller list: their number, then the IDs from a given one on. -/
def ctrlList (ids : List Nat) (first : Nat) : List Byte :=
  let l := (ids.filter fun n => decide (first ≤ n)).take 2047
  layOver [] 4096 [(0, natLe 2 l.length), (2, l.flatMap (natLe 2))]

/-- Node IDs that exist, ascending, of those that satisfy a test. -/
def State.nodeIds (s : State) (p : Node → Bool) : List Nat :=
  (List.range 4096).filter fun id => (s.node? id).any fun n => !n.deleting && p n

/-- Identify: the data of a CNS value, or a status. A namespace that is not there gives zeroes. -/
def State.identifyData (s : State) (c : Cmd) (free : List Byte) : Except Result (List Byte) :=
  let nsid := c.dw 1
  let zeroes : List Byte := List.replicate 4096 0
  let node := s.node? (nsid - 1)
  let valid := decide (1 ≤ nsid) && decide (nsid ≤ 4096)
  match c.dw 10 % 256 with
  | 0x00 =>
    if nsid = 0xFFFFFFFF ∧ s.hasNsFam c.fn then .ok (layOver free 4096 (nsCommon free))
    else if !valid then .error vInvalidNs
    else .ok (match node with
      | some n => if n.attached.contains c.fn && !n.deleting then s.identifyNs n free else zeroes
      | none => zeroes)
  | 0x01 => .ok (s.identifyCtrl c.fn free)
  | 0x02 =>
    if 0xFFFFFFFE ≤ nsid then .error vInvalidNs else .ok (nsList (s.nodeIds fun n => n.attached.contains c.fn) nsid)
  | 0x03 =>
    if valid && node.any (fun n => n.attached.contains c.fn && !n.deleting) then .ok (layOver free 4096 []) else .error vInvalidNs
  | 0x10 => if 0xFFFFFFFE ≤ nsid then .error vInvalidNs else .ok (nsList (s.nodeIds fun _ => true) nsid)
  | 0x11 =>
    if !valid then .error vInvalidNs
    else .ok (match node with
      | some n => if n.deleting then zeroes else s.identifyNs n free
      | none => zeroes)
  | 0x12 =>
    if !valid then .error vInvalidNs
    else .ok (ctrlList ((List.range 264).filter fun f => node.any fun n => !n.deleting && n.attached.contains f) (c.dw 10 / 65536))
  | 0x13 => .ok (ctrlList ((List.range 264).filter s.fnExists) (c.dw 10 / 65536))
  | _ => .error vInvalidField

/-- Runs Identify. -/
def State.identify (s : State) (c : Cmd) : Except Result (List Byte × State) :=
  let (free, s) := s.takeFreeBytes
  match s.identifyData c free with
  | .error r => .error r
  | .ok data => .ok (data, s)

/-- IDENTIFY (R135). -/
def execIdentify (cmd : Nat) (s : State) : Host.Outcome State Fault Refusal := .next (s.onAdmin cmd 0x06 fun c => s.answer c (s.identify c))

/-! ### Out of band (R175 to R177) -/

/-- Management statuses of NVMe-MI (log entry 20). -/
def miOk : Nat := 0x00
def miInvalidOpcode : Nat := 0x03
def miInvalidParameter : Nat := 0x04

/-- The endpoint answers in Retain, Ready, Run and Throttle; in Retain an access wakes FRONT. In other modes it does not acknowledge
its address. -/
def State.onMi (s : State) (f : State → State) : State :=
  if s.powered && s.mode ≠ mHoldup then f (if s.mode = mRetain then s.gateAll (s.domainOf uFront) 0 else s) else s

/-- Answers with data that NVMe-MI lays down and this spec does not. -/
def State.miFree (s : State) : State :=
  let (l, s) := s.takeFreeBytes
  s.emit (.mi miOk l)

/-- MI_READ_DATA_STRUCTURE (R176). -/
def execMiReadDataStructure (s : State) : Host.Outcome State Fault Refusal := .next (s.onMi State.miFree)

/-- The critical warnings with their bits inverted, as the management answers carry them: the two the model has, over open bits. -/
def State.smartInverted (s : State) (free : List Byte) (off : Nat) : Nat × List Byte := overBits free off 0x12 (0x12 - s.criticalWarning 0)

/-- The composite temperature in °C as one byte of the management answers: up to 0x7E as it stands; a value from below 0 down to -60, two's
complement; 0x80 where there is none (log entry 20). -/
def tempByte (k : Nat) : Byte :=
  if k = 0 then 0x80 else if 399 ≤ k then 0x7F else if 273 ≤ k then BitVec.ofNat 8 (k - 273) else if 213 ≤ k then BitVec.ofNat 8 (256 + k - 273) else 0xC4

/-- MI_SUBSYSTEM_HEALTH_POLL (R176): warnings and temperature; the rest of the structure is open. -/
def execMiSubsystemHealthPoll (s : State) : Host.Outcome State Fault Refusal :=
  .next (s.onMi fun s =>
    let (l, s) := s.takeFreeBytes
    s.emit (.mi miOk (layOver l 8 [s.smartInverted l 1, (2, [tempByte (s.sensorK.getD 0 0)])])))

/-- What the controller health poll says of a controller: its ID, CSTS with the bits RDY, CFS and SHST, its temperature and its critical
warnings, in 16 bytes. -/
def State.miController (s : State) (free : List Byte) (fn : Nat) : List Byte :=
  layOver free 16 [(0, natLe 2 fn), overBits free 2 0x0F (s.get .X_CSTS_RDY fn + 2 * s.get .X_CSTS_CFS fn + 4 * s.get .X_CSTS_SHST fn),
    (4, natLe 2 (s.sensorK.getD 0 0)), overBits free 8 0x12 (s.criticalWarning fn)]

/-- MI_CONTROLLER_HEALTH_POLL (R176): one entry for every controller that exists. -/
def execMiControllerHealthPoll (s : State) : Host.Outcome State Fault Refusal :=
  .next (s.onMi fun s =>
    let (l, s) := s.takeFreeBytes
    s.emit (.mi miOk (((List.range 264).filter s.fnExists).flatMap (s.miController l))))

/-- MI_CONFIGURATION_GET (R175, R176): identifier 1 is the SMBus frequency, 3 the MCTP unit size. -/
def execMiConfigurationGet (id : Nat) (s : State) : Host.Outcome State Fault Refusal :=
  .next (s.onMi fun s => s.emit (match id with
    | 1 => .mi miOk (natLe 3 (s.get .X_MI_FREQ))
    | 3 => .mi miOk (natLe 3 (s.get .X_MI_MTU))
    | _ => .mi miInvalidParameter []))

/-- MI_CONFIGURATION_SET (R175, R176): a frequency of 100 kHz (1), 400 kHz (2) or 1 MHz (3); a unit size of at least 64 bytes. -/
def execMiConfigurationSet (id value : Nat) (s : State) : Host.Outcome State Fault Refusal :=
  .next (s.onMi fun s =>
    if id = 1 ∧ 1 ≤ value ∧ value ≤ 3 then (s.put .X_MI_FREQ value).emit (.mi miOk [])
    else if id = 3 ∧ 64 ≤ value ∧ value < 65536 then (s.put .X_MI_MTU value).emit (.mi miOk [])
    else s.emit (.mi miInvalidParameter []))

/-- MI_VPD_READ (R176): what the VPD holds is open. -/
def execMiVpdRead (len : Nat) (s : State) : Host.Outcome State Fault Refusal :=
  .next (s.onMi fun s =>
    let (l, s) := s.takeFreeBytes
    s.emit (.mi miOk (layOver l len [])))

/-- MI_VPD_WRITE (R176): refused; the status of the refusal is open, but it is not success. -/
def execMiVpdWrite (s : State) : Host.Outcome State Fault Refusal :=
  .next (s.onMi fun s =>
    let (v, s) := s.takeFree
    s.emit (.mi (v % 255 + 1) []))

/-- MI_TUNNELED_ADMIN (R176): Identify, Get Log Page and Get Features under PF0's rights; the answer holds the NVMe status, as type × 256
+ code, and the data, for Get Features its value. -/
def execMiTunneledAdmin (sqe : List Byte) (s : State) : Host.Outcome State Fault Refusal :=
  .next (s.onMi fun s =>
    let c := newCmd 0 true 0 0 0 (fieldAt sqe 0 1) s.tick sqe
    let reply (r : Except Result (List Byte × State)) : State := match r with
      | .error v => s.emit (.mi (v.sct * 256 + v.sc) [])
      | .ok (data, t) => t.emit (.mi 0 data)
    match c.op with
    | 0x02 => reply (s.readLog c)
    | 0x06 => reply (s.identify c)
    | 0x0A =>
      if c.dw 10 % 256 = 0x0E then reply (.ok (s.timestampData, s))
      else match s.featureValue 0 (c.dw 10 % 256) (c.dw 11) with
        | some v => reply (.ok (natLe 4 v, s))
        | none => reply (.error vInvalidField)
    | _ => s.emit (.mi miInvalidOpcode []))

/-- BASIC_MANAGEMENT_COMMAND (R175): what it returns is the standard's: lengths, warnings, temperature and vendor ID, over open bytes. -/
def execBasicManagementCommand (s : State) : Host.Outcome State Fault Refusal :=
  .next (s.onMi fun s =>
    let (l, s) := s.takeFreeBytes
    s.emit (.mi miOk (layOver l 32 [(0, [6]), s.smartInverted l 2, (3, [tempByte (s.sensorK.getD 0 0)]), (8, [22, 0x1F, 0xC7])])))

end Sys2Proof.Machine
end

