-- ==== Sys2Proof/Machine/ConfigSpace.lean ====
section
/-! DEFINITION. What a host reads of a function outside the control space: its configuration header (R94, R44, R45), its capabilities (R92,
R95, R96, R98) and its NVMe registers VS, CAP and CSTS (R126). No row of the table reads them: they are values of the state. -/

namespace Sys2Proof.Machine

/-- The fields of a configuration header that R94 names, and the six BAR registers. -/
structure CfgHeader where
  vendorId : Nat
  deviceId : Nat
  revisionId : Nat
  classCode : Nat
  subVendorId : Nat
  subsystemId : Nat
  headerType : Nat
  interruptPin : Nat
  bars : List Nat
  deriving DecidableEq, Repr

/-- The two registers of a 64-bit BAR: the address the host assigned (X_FN_BAR) at a multiple of its size, and the type bits of the
standard: memory, 64-bit, prefetchable or not. -/
def State.bar64 (s : State) (fn bar size : Nat) (prefetch : Bool) : List Nat :=
  let a := s.get .X_FN_BAR (8 * fn + bar) / size * size
  [a % 2 ^ 32 + (if prefetch then 12 else 4), a / 2 ^ 32]

/-- The sizes of BAR0, BAR2 and BAR4 (R44). -/
def bar0Size : Nat := 128 * 1024
def bar2Size : Nat := 32 * 2 ^ 20
def bar4Size : Nat := 64 * 2 ^ 20

/-- The BAR registers: on a function other than PF0 those of BAR2 read 0 (R45); a VF's BARs lie in its PF's SR-IOV capability (R94). -/
def State.barRegs (s : State) (fn : Nat) : List Nat :=
  if 8 ≤ fn then List.replicate 6 0
  else s.bar64 fn 0 bar0Size false ++ (if fn = 0 then s.bar64 fn 2 bar2Size false else [0, 0]) ++ s.bar64 fn 4 bar4Size true

/-- The configuration header of a function (R94). -/
def State.cfgHeader (s : State) (fn : Nat) : CfgHeader where
  vendorId := if fn < 8 then 0x1FC7 else 0xFFFF
  deviceId := if fn < 8 then 0x5096 else 0xFFFF
  revisionId := 16 * s.get .CHP_STEP_MAJOR + s.get .CHP_STEP_MINOR
  classCode := 0x010802
  subVendorId := cfgVal s.cfgRec 1 80 2 0x1FC7
  subsystemId := cfgVal s.cfgRec 1 82 2 0x5096
  headerType := 0
  interruptPin := 0
  bars := s.barRegs fn

/-- The capabilities of R96. -/
inductive Capability where
  | powerManagement | pciExpress | msix | aer | serialNumber | ari | sriov | ats | ptm | l1Substates | physicalLayer
  deriving DecidableEq, Repr

/-- The capabilities that a PF, and a VF, has (R96). -/
def capsOf (fn : Nat) : List Capability :=
  if fn < 8 then
    [.powerManagement, .pciExpress, .msix, .aer, .serialNumber, .ari, .sriov, .ats, .ptm, .l1Substates, .physicalLayer]
  else [.powerManagement, .pciExpress, .msix, .aer, .ari, .ats]

/-- The values R92 and R95 to R98 give the capabilities: MSI-X Table Size less 1, PME_Support, Max_Payload_Size Supported and
Max_Read_Request_Size as 128 bytes × 2^n, L0s support, the serial number, the ATS Invalidate Queue Depth (0 stands for 32), the
outstanding requests of a link, and the Completion Timeout ranges A to D with their Disable. -/
def msixTableSize : Nat := 2047
def pmeSupport : Nat := 0
def mpsSupported : Nat := 2
def mrrsMax : Nat := 5
def l0sSupported : Bool := false
def serialNumber : Nat := uidNat % 2 ^ 64
def atsQueueDepth : Nat := 0
def linkRequestsMax : Nat := 1024
def ctoRanges : Nat := 15
def ctoDisableSupported : Bool := true

/-- The SR-IOV capability of a PF (R92, R94). -/
structure SriovCap where
  totalVfs : Nat
  initialVfs : Nat
  numVfs : Nat
  vfEnable : Bool
  firstVfOffset : Nat
  vfStride : Nat
  vfDeviceId : Nat
  deriving DecidableEq, Repr

def State.sriovCap (s : State) (pf : Nat) : SriovCap :=
  ⟨s.get .HE_VFALLOC_COUNT pf, s.get .HE_VFALLOC_COUNT pf, s.get .X_FN_NUMVFS pf, s.flag .X_FN_VFE pf, 1, 1, 0x5097⟩

/-- VS of a controller (R126). -/
def nvmeVs : Nat := 0x00020100

/-- CAP of a controller (R126), each field where NVMe Base has it (log entry 20): MQES, CQR, AMS, TO, CSS and MPSMAX; DSTRD, NSSRS, BPS,
MPSMIN, PMRS and CMBS are 0. -/
def nvmeCap : Nat := 0x0FFF + 2 ^ 16 * 1 + 2 ^ 17 * 1 + 2 ^ 24 * 2 + 2 ^ 37 * 1 + 2 ^ 52 * 4

/-- CSTS of a controller: RDY, CFS and SHST (R127). -/
def State.csts (s : State) (fn : Nat) : Nat :=
  s.get .X_CSTS_RDY fn + 2 * s.get .X_CSTS_CFS fn + 4 * s.get .X_CSTS_SHST fn

end Sys2Proof.Machine
end

