-- ==== Sys2Proof/Machine/Registers.lean ====
section
/-! DEFINITION. Access to control space (R7 to R13, R33, R41 to R43, R457): what each register reads as, what a write to it does, the
half-read latch, the wake of a gated unit, and the mailbox command SET_FIELD. Registers whose writes have rows of their own act here as
those rows do. -/

namespace Sys2Proof.Machine

/-! ### Where the fields of a register are kept -/

/-- The instance and the agent that the fields a register shows are kept under: the selector of the accessing agent gives the instance
of a per-queue, per-function, per-source or per-histogram register (R241). -/
def State.regIx (s : State) (ag : Agent) (l : Loc) : Nat × Nat :=
  match l.reg with
  | .JQ_QCFG | .JQ_QRING | .JQ_QRPL_BASE | .JQ_QXR_BASE | .JQ_QMIRROR | .JQ_QCMD | .JQ_QSTS | .JQ_QIRQ | .JQ_QSEQ =>
    (s.get .JQ_QSEL_QUEUE 0 ag.ix, 0)
  | .JQ_FGOLD | .JQ_FEVT_CFG | .JQ_FEVT_BASE | .JQ_FSTS => (s.get .JQ_FSEL_FN 0 ag.ix, 0)
  | .FC_SRC_CFG | .FC_SRC_WIN | .FC_SRC_STATE | .FC_SRC_WCNT | .FC_SRC_DETAIL | .FC_SRC_WSTART | .FC_SRC_FIRST | .FC_SRC_LAST
  | .FC_SRC_TOTAL => (s.selSource ag, 0)
  | .ER_HCFG | .ER_HLOWER | .ER_HWIDTH => (s.get .ER_HSEL_ID 0 ag.ix, 0)
  | r => (l.inst, if r.desc.perAgent then ag.ix else 0)

/-- The value of a register's stored fields; a WO field reads 0 (R7). -/
def State.stored (s : State) (r : Reg) (i a : Nat) : Nat :=
  r.desc.fields.foldl (fun v x => if x.acc = .wo then v else v + s.get x.f i a * 2 ^ x.lo) 0

/-! ### What a register reads as -/

/-- UCB_PARAM (01). -/
def State.ucbParam (s : State) (w : Nat) : Nat :=
  match unitType w with
  | some .cluster => 0x0201040C
  | some .engines => 0x02010400
  | some .channel => (w - 0x120) / 2 * 65536 + 16 * 256 + (s.channelDies (w - 0x120)).length
  | some .die => s.get .X_DIE_CELLS (w - 0x400) * 256 + (w - 0x400) % 16
  | _ => 0

/-- UCB_STATUS (01, R18, R23). -/
def State.ucbStatus (s : State) (w : Nat) : Nat :=
  if !s.unitExists w then 3 * 16
  else
    let ready := s.unitReady w
    let group := !(s.children w).isEmpty
    let own := s.flag .X_OWN_READY w && s.requestPower w ≠ 3 && s.requestPower w ≠ 4
    (if group && own && !ready then 256 else 0) + (if s.reqBusy w then 128 else 0) + s.unitPower w * 16
      + s.get .UCB_STATUS_RESETTING w * 4 + (if s.unitFault w ≠ 0 then 2 else 0) + (if ready then 1 else 0)

/-- A register of a UCB window (R18, R20, R21). -/
def State.ucbView (s : State) (w : Nat) (r : Reg) (k : Nat) : Nat :=
  match r with
  | .UCB_ID => (unitType w).elim 0 fun t => t.code * 2 ^ 24 + unitInstance w * 4096 + unitDepth w * 256 + 1
  | .UCB_PARAM => s.ucbParam w
  | .UCB_CHILD_COUNT => (s.children w).length
  | .UCB_CHILD => ((s.children w)[k]?).elim 0 fun c => c * 4096 + (unitType c).elim 0 UnitType.code
  | .UCB_STATUS => s.ucbStatus w
  | .UCB_FAULT => if s.unitExists w then s.unitFault w else s.ownFault w
  | r => s.stored r w 0

/-- The entry of the ECC log that CHP_ECC_LSEL names (R422). -/
def State.eccEntry (s : State) : Option EccEntry := s.eccLog[s.get .CHP_ECC_LSEL_ENTRY]?

/-- A register of the TS_ block; the selected node is the accessing agent's (06). -/
def State.tsView (s : State) (ag : Agent) (r : Reg) (k i a : Nat) : Nat :=
  let id := s.get .TS_NSEL_NODE 0 ag.ix
  match r with
  | .TS_STS => (4096 - s.nodes.length) * 65536 + s.armedChanges.length
  | .TS_NODE =>
    s.get .X_NODE_GEN id * 4096 + (match s.node? id with
      | none => 0
      | some n => (if n.deleting then 2 else 1) * 1024 + (if n.isStack && s.mixed id then 512 else 0)
          + (if s.inStack id || s.armedAdds id then 256 else 0)
          + (if n.isStack then 2 else (if n.writable then 128 else 0) + n.granule * 16 + n.codec * 4 + 1))
  | .TS_NODE_LINKS =>
    (s.node? id).elim 0 (fun n => n.children.length * 65536)
      + (s.nodes.filter fun n => n.isStack && n.children.contains id).length % 4096
  | .TS_NODE_SIZE => (s.node? id).elim 0 fun n => n.size
  | .TS_NODE_CHILD => ((s.node? id).bind fun n => n.children[k]?).elim 0 fun c => 2 ^ 31 + c
  | r => s.stored r i a

/-- A register of the MC_ block that shows more than stored fields (07, 09, 10). -/
def State.mcView (s : State) (ag : Agent) (r : Reg) (i a : Nat) : Nat :=
  let entry := s.recovs[s.get .MC_RT_SEL_INDEX 0 ag.ix]?
  match r with
  | .MC_PIN_LINES => (s.lines.filter Line.locked).length
  | .MC_PIN_COUNT => (s.pins.filter fun p => p.id ≠ 0).length
  | .MC_WSEQ => s.get .X_WSEQ
  | .MC_RI_STS => s.stored .MC_RI_STS 0 0 + s.recovs.length
  | .MC_RT_ENT0 => entry.elim 0 fun x => x.node * 2 ^ 52 + x.g
  | .MC_RT_ENT1 => entry.elim 0 fun x => 2 ^ 31 + x.phase * 2 ^ 24 + x.passes * 2 ^ 20
  | r => s.stored r i a

/-- A register of the CX_ block (11). -/
def State.cxView (s : State) (ag : Agent) (r : Reg) (i a : Nat) : Nat :=
  let dict := s.dicts.find? fun d => d.node = s.get .CX_DICT_SEL_NODE 0 ag.ix
  let busy (l : List Nat) : Nat := (l.filter fun e => s.get .CX_ENG_STS_STATE e = 1).length
  match r with
  | .CX_STS => s.dicts.length * 65536 + busy (List.range 32) * 256 + busy ((List.range 8).map (32 + ·))
  | .CX_DICT_INFO => dict.elim 0 fun d => 2 ^ 31 + d.data.length
  | .CX_DICT_ID => dict.elim 0 fun d => d.id
  | .CX_ENG_STS =>
    -- STATE is RESETTING or OFF while the engine's unit is
    let u := uEngines (engineCluster i)
    let w := s.stored .CX_ENG_STS i a
    if s.flag .UCB_STATUS_RESETTING u then w / 16 * 16 + 2 else if s.unitPower u = 3 then w / 16 * 16 + 3 else w
  | r => s.stored r i a

/-- A register of the SEC_ block (12). -/
def State.secView (s : State) (ag : Agent) (r : Reg) (i a : Nat) : Nat :=
  match r with
  | .SEC_PM_STS => s.armedBatches.length * 65536 + s.stored .SEC_PM_STS 0 0
  | .SEC_PM_QRES =>
    let fn := s.get .SEC_PM_QSEL_FN 0 ag.ix
    let node := s.get .SEC_PM_QSEL_NODE 0 ag.ix
    (if fn = 0 && s.flag .SEC_STS_OWNER then 32 else 0) + (if s.rights.any fun x => x.fn = fn && x.node = node then 16 else 0)
      + s.rightsOf fn node
  | .SEC_KEY_STS =>
    let node := s.get .SEC_KEY_SEL_NODE 0 ag.ix
    let lic := s.licences.find? fun x => x.node = node
    (if lic.any fun x => licExpire x.blob ≠ 0 then 32 else 0) + lic.elim 0 (fun x => if x.closed then 16 else 8)
      + (if (s.node? node).any fun n => n.titleKey then 4 else 0)
      + (if s.active node && s.isVolume node && !s.licenceClosed node then 1 else 0)
  | r => s.stored r i a

/-- Some source of a class has STICKY set (FC_COMPAT_STS). -/
def State.classSticky (s : State) (cls : Nat) : Bool :=
  (List.range 320).any fun x => (srcRow x).cls = cls && !srcReserved x && s.flag .FC_SRC_STATE_STICKY x

/-- One bit of each of the 32 sources of a group. -/
def State.fcWord (s : State) (f : Field) (g : Nat) : Nat :=
  (List.range 32).foldl (fun v k => v + s.get f (32 * g + k) * 2 ^ k) 0

/-- A register of the FC_ block (16): a reserved source reads 0. -/
def State.fcView (s : State) (r : Reg) (k i a : Nat) : Nat :=
  match r with
  | .FC_COMPAT_STS => (List.range 3).foldl (fun v c => v + if s.classSticky (c + 1) then 2 ^ c else 0) 0
  | .FC_STICKY => s.fcWord .FC_SRC_STATE_STICKY k
  | .FC_SEVERE => s.fcWord .FC_SRC_STATE_SEVERE k
  | .FC_UNACK => s.fcWord .FC_SRC_STATE_UNACK k
  | .FC_SRC_CFG | .FC_SRC_WIN | .FC_SRC_STATE | .FC_SRC_WCNT | .FC_SRC_DETAIL | .FC_SRC_WSTART | .FC_SRC_FIRST | .FC_SRC_LAST
  | .FC_SRC_TOTAL => if srcReserved i then 0 else s.stored r i 0
  | r => s.stored r i a

/-- The CLUSTER component's type, and FLAGS of a package (R589, R590). -/
def compCluster : Nat := 5

/-- A register of the FW_ block (17). -/
def State.fwView (s : State) (r : Reg) (k i a : Nat) : Nat :=
  match r with
  | .FW_SLOT => (s.slot? (k + 1)).elim 0 fun x =>
      2 ^ 31 + (if s.get .SEC_MONO ≤ x.svn then 2 ^ 30 else 0) + (if bit x.flags 1 then 2 ^ 29 else 0)
        + (if bit x.flags 0 then 2 ^ 28 else 0) + (x.comp? compCluster).elim 0 (fun c => c.iface)
  | .FW_SLOT_SVN => (s.slot? (k + 1)).elim 0 fun x => x.svn
  | r => s.stored r i a

/-- What a register reads as, its whole 64 bits if it is 64 bits wide. -/
def State.view (s : State) (ag : Agent) (l : Loc) : Nat :=
  let (i, a) := s.regIx ag l
  match l.blk, l.reg with
  | .ucb, r => s.ucbView l.b r l.k
  | .ts, r => s.tsView ag r l.k i a
  | .mc, r => s.mcView ag r i a
  | .cx, r => s.cxView ag r i a
  | .sec, r => s.secView ag r i a
  | .fc, r => s.fcView r l.k i a
  | .fw, r => s.fwView r l.k i a
  | .chp, .CHP_ECC_LOGA => s.eccEntry.elim 0 fun x => x.addr
  | .chp, .CHP_ECC_LOGB => s.eccEntry.elim 0 fun x => 2 ^ 31 + x.mem * 2 ^ 28 + x.bitNo * 2 ^ 18 + min x.count 0xFFFE
  | .chp, .CHP_ECC_LOGT => s.eccEntry.elim 0 fun x => x.last
  | .he, .HE_ATS_STS =>
    (s.invs.filter fun x => s.fnPf x.fn / 4 = l.b).length * 65536 + (s.ats.filter fun x => s.fnPf x.fn / 4 = l.b).length
  | .ms, .MS_WIN_STS => (List.range 12).foldl (fun v k => v + if s.chDenied (12 * l.b + k) then 2 ^ k else 0) 0
  | .msch, .MS_CH_DIEST => (List.range 16).foldl (fun v d => v + s.dieSt (16 * l.b + d) * 16 ^ d) 0
  | .cal, .CAL_STS => s.stored .CAL_STS 0 0 + s.get .HK_VAL_BELOW 33 * 16
  | .cal, .CAL_TIME => s.calStamp
  | .cal, .CAL_BCD0 => s.bcd0
  | .cal, .CAL_BCD1 => if s.bcdShown then s.stored .CAL_BCD1 0 0 else 0
  | .er, .ER_STS =>
    s.get .ER_STS_CLEAR_PENDING * 8 + s.get .ER_STS_FREEZE_TIMEOUT * 4 + (if s.frozen then 2 else 0) + s.get .ER_CTL_ENABLE
  | .er, .ER_WIN => fieldAt s.recImage (4096 * s.get .ER_CURSOR_PAGE 0 ag.ix + 4 * l.k) 4
  | _, r => s.stored r i a

/-- Reads a register: its value, and what the read changes. MS_CPLk removes the entry read (R325), CAL_BCD0 latches CAL_BCD1 (R560),
and the Warden's words of keep memory, whose layout R513 does not give, show a free value to the Warden and 0 to others. -/
def State.readReg (s : State) (ag : Agent) (l : Loc) : Nat × State :=
  match l.reg with
  | .MS_CPL => s.readCpl ag l.b l.k
  | .CAL_BCD0 => (s.bcd0, s.latchBcd)
  | .PM_KEEP =>
    if 16 ≤ l.k then (s.get .PM_KEEP l.k, s)
    else if ag.isWd then let (v, t) := s.takeFree; (v % 2 ^ 32, t) else (0, s)
  | _ => (s.view ag l, s)

/-! ### What a write does -/

/-- The cause of a sticky status is still present (R9). -/
def State.causePresent (s : State) (f : Field) (i : Nat) : Bool :=
  match f with
  | .TK_STS_SRC_LOST => s.flag .X_SRC_PRESENT 1
  | .HK_STS_SENSOR_FAULT => decide (s.tjSensors.length < 12)
  | .HK_STS_AVS_FAULT => s.flag .X_SRC_PRESENT 123
  | .MS_STS_BO_SEEN => s.get .MS_STS_BROWNOUT i ≠ 0
  | .TK_STS_MISMATCH => s.flag .X_SRC_PRESENT 3
  | .HE_EVT_FLR_TIMEOUT => s.regs.any fun x => x.1.f = .X_SRC_AT && x.1.i / 4096 = 48 && s.fnPf (x.1.i % 4096) / 4 = i
  | _ => false

/-- A write of ones to the W1C fields of a register (R7, R9). -/
def State.writeW1c (s : State) (r : Reg) (v i a : Nat) : State :=
  forEach (r.desc.fields.filter fun x => x.acc = .w1c) s fun x s =>
    let old := s.get x.f i a
    if s.causePresent x.f i then s else s.put x.f (old - (old &&& bits v x.hi x.lo)) i a

/-- What a field of a register would hold after a write: a locked field keeps its value. -/
def State.afterWrite (s : State) (ag : Agent) (r : Reg) (v i a : Nat) (f : Field) : Nat :=
  match r.desc.fields.find? fun x => x.f = f with
  | some x => if x.lk && s.lockedFor ag f i then s.get f i a else bits v x.hi x.lo
  | none => 0

/-- A write that leaves the whole register unchanged when the fields it would give do not fit. -/
def State.writeIf (s : State) (ag : Agent) (r : Reg) (v i a : Nat) (ok : (Field → Nat) → Bool) : State :=
  if ok (s.afterWrite ag r v i a) then s.writeRw ag r v i a
  else if r.desc.fields.any fun x => x.acc = .rw && x.lk && s.lockedFor ag x.f i then s.decodeFault ag
  else s

/-- A write whose chapter does not say what a value outside a field's range does: that field takes a free value (log entry 50). -/
def State.writeRanged (s : State) (ag : Agent) (r : Reg) (v i a : Nat) (ranges : List (Field × Nat × Nat)) : State :=
  let s := s.writeRw ag r v i a
  forEach (ranges.filter fun x => !s.lockedFor ag x.1 i && !(decide (x.2.1 ≤ s.get x.1 i a) && decide (s.get x.1 i a ≤ x.2.2))) s
    fun x s => let (n, t) := s.takeFree; t.put x.1 n i a

def within (n lo hi : Nat) : Bool := decide (lo ≤ n) && decide (n ≤ hi)

/-- A signed field lies in a range. -/
def withinInt (w n : Nat) (lo hi : Int) : Bool := decide (lo ≤ ofField w n) && decide (ofField w n ≤ hi)

/-- UCB registers (R20, R25, R28, R32). -/
def State.writeUcb (s : State) (ag : Agent) (w : Nat) (r : Reg) (v : Nat) : State :=
  match r with
  | .UCB_FAULT => s.clearUnitFault ag w v
  | .UCB_RESET_REQ =>
    if bit v 0 then s.writeReset ag w (bit v 2) (bit v 1) else s.guardWrite ag .any fun s => s.writeRw ag r v w
  | .UCB_POWER_REQ =>
    if bit v 3 then s.writePower ag w (v % 8) (bit v 4) else s.guardWrite ag .any fun s => s.writeRw ag r v w
  | _ => s.guardWrite ag .any fun s => s.writeRw ag r v w

/-- CHP_ registers (R46, R425, R628). -/
def State.writeChp (s : State) (ag : Agent) (r : Reg) (v : Nat) : State :=
  match r with
  | .CHP_CTL =>
    if bit v 0 || bit v 1 then s.submitChipReset ag (bit v 1) (bit v 0) (bit v 2)
    else s.guardWrite ag .ownerMpWd fun s => s.writeRw ag r v
  | .CHP_ECC_CTL =>
    let s := s.guardWrite ag .ownerMpWd fun s => s.writeRw ag r v
    if bit v 8 && s.mayWrite ag .ownerMpWd then s.clearEccLog ag else s
  | .CHP_BOOT_STS | .CHP_BOOT_TIME | .CHP_RST_CAUSE => s.decodeFault ag
  | r => s.guardWrite ag .ownerMpWd fun s => (s.writeRw ag r v).writeW1c r v 0 0

/-- TK_ registers (R49, 02). -/
def State.writeTk (s : State) (ag : Agent) (r : Reg) (v : Nat) : State :=
  match r with
  | .TK_NEXT => s.writeTkNext ag (v % 1024) (bit v 10)
  | .TK_NEXT_TICK => s.guardWrite ag .ownerMpWd fun s =>
      if s.flag .TK_NEXT_GO then s.unlessLocked ag [.TK_NEXT_TICK] fun s => s else s.writeRw ag r v
  | .TK_SRC => s.writeTkSrc ag v
  | .TK_SNAP => if bit v 0 then s.takeSnapshot ag else s.guardWrite ag .ownerMpWd fun s => s
  | .TK_CUTOFF => s.guardWrite ag .ownerMpWd fun s => s.writeIf ag r v 0 0 fun g => within (g .TK_CUTOFF_PERCENT) 50 90
  | .TK_BUDGET0 => s.guardWrite ag .ownerMpWd fun s => s.writeIf ag r v 0 0 fun g =>
      within (g .TK_BUDGET0_GOLD_MAX) 10 90 && within (g .TK_BUDGET0_LEAD_MIN) 0 30
        && (g .TK_BUDGET0_SILVER_W ≠ 0 || g .TK_BUDGET0_COPPER_W ≠ 0)
  | .TK_BUDGET1 => s.guardWrite ag .ownerMpWd fun s => s.writeIf ag r v 0 0 fun g =>
      within (g .TK_BUDGET1_PE_MAX) 1 1536 && within (g .TK_BUDGET1_GOLD_SLOTS) 1 4
  | r => s.guardWrite ag .ownerMpWd fun s => (s.writeRw ag r v).writeW1c r v 0 0

/-- PM_ registers (R513, R514, 13). -/
def State.writePm (s : State) (ag : Agent) (r : Reg) (v k i a : Nat) : State :=
  match r with
  | .PM_CMD =>
    if bit v 31 then s.submitPm ag (bits v 3 0) (bits v 6 4) (bit v 30) else s.guardWrite ag .ownerMpWd fun s => s.writeRw ag r v i a
  | .PM_CTL => (s.guardWrite ag .ownerMpWd fun s => s.writeIf ag r v i a fun g =>
      (g .PM_CTL_IDLE_MODE = 3 || g .PM_CTL_IDLE_MODE = 4) && within (g .PM_CTL_REGATE_US) 1 255).noteDemand s
  | .PM_THR_CFG => s.guardWrite ag .ownerMpWd fun s => s.writeIf ag r v i a fun g =>
      within (g .PM_THR_CFG_STEP) 1 128 && within (g .PM_THR_CFG_S_MIN) 16 255
  | .PM_PCAP => s.guardWrite ag .ownerMpWd fun s => s.writeIf ag r v i a fun g =>
      within (g .PM_PCAP_BASE) 0 50 && within (g .PM_PCAP_CAP) 10 55 && decide (g .PM_PCAP_BASE < g .PM_PCAP_CAP)
  | .PM_PATROL_CFG => s.guardWrite ag .ownerMpWd fun s => s.writeIf ag r v i a fun g => within (g .PM_PATROL_CFG_PERIOD) 1 1000
  | .PM_KEEP => s.guardWrite ag .ownerMpWd fun s => if 32 ≤ k then s.put .PM_KEEP v k else s
  | r => s.guardWrite ag .ownerMpWd fun s => s.writeRw ag r v i a

/-- HK_ registers (R562, 15). -/
def State.writeHk (s : State) (ag : Agent) (r : Reg) (v i : Nat) : State :=
  match r with
  | .HK_TJ_THR => s.writeTjThr ag v
  | .HK_WWIN => s.writeWwin ag v
  | .HK_CFG => s.guardWrite ag .ownerMpWd fun s => s.writeIf ag r v i 0 fun g => within (g .HK_CFG_PERIOD) 2 64
  | .HK_AVS_CFG0 => s.guardWrite ag .ownerMpWd fun s => s.writeIf ag r v i 0 fun g =>
      within (g .HK_AVS_CFG0_F_TARGET) 100 10000 && within (g .HK_AVS_CFG0_DEADBAND) 1 255
  | .HK_AVS_CFG1 => s.guardWrite ag .ownerMpWd fun s => s.writeIf ag r v i 0 fun g =>
      within (g .HK_AVS_CFG1_V_MIN) 650 800 && within (g .HK_AVS_CFG1_V_MAX) 650 800
        && decide (g .HK_AVS_CFG1_V_MIN ≤ g .HK_AVS_CFG1_V_MAX)
  | .HK_WIN => s.guardWrite ag .ownerMpWd fun s => s.writeIf ag r v i 0 fun g =>
      decide (ofField 16 (g .HK_WIN_LO) < ofField 16 (g .HK_WIN_HI))
  -- an input that is not fitted reads VALID 0 (R545)
  | .HK_RD_CFG => s.guardWrite ag .ownerMpWd fun s =>
      let s := s.writeRw ag r v i
      if s.flag .HK_RD_CFG_EN i then s else s.putFlag .HK_VAL_VALID false (16 + i)
  | r => s.guardWrite ag .ownerMpWd fun s => (s.writeRw ag r v i).writeW1c r v i 0

/-- CAL_ registers (R558 to R562). -/
def State.writeCal (s : State) (ag : Agent) (r : Reg) (v i : Nat) : State :=
  match r with
  | .CAL_CMD => if bit v 0 then s.setCalendar ag else s.guardWrite ag .ownerMpWd fun s => s
  | .CAL_TRIM => s.guardWrite ag .ownerMpWd fun s => if v % 512 = 256 then s else s.writeRw ag r v i
  | .CAL_ALM_CTL => s.writeAlmCtl ag v
  | r => s.guardWrite ag .ownerMpWd fun s => (s.writeRw ag r v i).writeW1c r v i 0

/-- HU_ registers (R542, 14): the allowance follows each write. -/
def State.writeHu (s : State) (ag : Agent) (r : Reg) (v : Nat) : State :=
  match r with
  | .HU_CTL =>
    let s := s.guardWrite ag .ownerMpWd fun s => (s.writeRw ag r v).updateAllow
    if bit v 0 && s.mayWrite ag .ownerMpWd then s.requestTest ag else s
  | .HU_E_CEIL => (s.writeCeil ag (v % 65536)).updateAllow
  | .HU_CHG_CFG => s.guardWrite ag .ownerMpWd fun s =>
      let t := s.writeIf ag r v 0 0 fun g => within (g .HU_CHG_CFG_V_MAX) 120 380 && within (g .HU_CHG_CFG_I_IN_MAX) 100 3000
      (if t.get .HU_CHG_CFG_V_MAX = s.get .HU_CHG_CFG_V_MAX then t else t.newTarget).updateAllow
  | .HU_REL_CFG => s.guardWrite ag .ownerMpWd fun s => (s.writeIf ag r v 0 0 fun g =>
      within (g .HU_REL_CFG_ETA) 50 99 && within (g .HU_REL_CFG_V_MIN) 60 200 && within (g .HU_REL_CFG_I_BANK_MAX) 50 1000).updateAllow
  | .HU_WIN => s.guardWrite ag .ownerMpWd fun s => (s.writeIf ag r v 0 0 fun g =>
      withinInt 8 (g .HU_WIN_CHG_LO) (-40) 20 && withinInt 8 (g .HU_WIN_CHG_HI) 30 85
        && decide (ofField 8 (g .HU_WIN_CHG_LO) + 10 ≤ ofField 8 (g .HU_WIN_CHG_HI)) && within (g .HU_WIN_MARGIN) 1 20).updateAllow
  | .HU_ALLOW_CFG => s.guardWrite ag .ownerMpWd fun s => (s.writeIf ag r v 0 0 fun g =>
      within (g .HU_ALLOW_CFG_E_FIXED) 500 16383 && within (g .HU_ALLOW_CFG_E_BYTE) 1000 8191).updateAllow
  | .HU_TEST_CFG => s.guardWrite ag .ownerMpWd fun s => (s.writeIf ag r v 0 0 fun g =>
      within (g .HU_TEST_CFG_INTERVAL) 1 168 && within (g .HU_TEST_CFG_DT) 2 50 && within (g .HU_TEST_CFG_I_TEST) 100 2000).updateAllow
  | .HU_FLUSH_CFG => s.guardWrite ag .ownerMpWd fun s =>
      (s.writeIf ag r v 0 0 fun g => within (g .HU_FLUSH_CFG_DIES) 16 1536).updateAllow
  | r => s.guardWrite ag .ownerMpWd fun s => s.writeRw ag r v

/-- FC_ registers (R574, R578, 16). -/
def State.writeFc (s : State) (ag : Agent) (r : Reg) (v k i a : Nat) : State :=
  match r with
  | .FC_STICKY => s.clearSticky ag k v
  | .FC_UNACK => s.acknowledge ag k v
  | .FC_SRC_CFG => s.writeSrcCfg ag v
  | .FC_SRC_WIN => s.writeSrcWin ag v
  | .FC_CTL => s.guardWrite ag .ownerMpWd fun s => s.writeIf ag r v i a fun g => within (g .FC_CTL_ESC_MAX) 1 4
  | .FC_SEL => s.guardWrite ag .ownerMpWd fun s => s.writeIf ag r v i a fun g => within (g .FC_SEL_SOURCE) 0 319
  | r => s.guardWrite ag .ownerMpWd fun s => (s.writeRw ag r v i a).writeW1c r v i a

/-- ER_ registers (R585, R586, R588). -/
def State.writeEr (s : State) (ag : Agent) (r : Reg) (v i a : Nat) : State :=
  match r with
  | .ER_CTL => s.guardWrite ag .ownerMpWd fun s =>
      if within (bits v 23 16) 1 255 then
        let t := s.writeRw ag r v
        if bit v 31 && t.mayWrite ag .ownerWd then t.clearRecorder else t
      else s
  | .ER_FREEZE => s.writeFreeze ag (bit v 0)
  | .ER_CURSOR => s.guardWrite ag .ownerMpWd fun s => s.writeIf ag r v i a fun g => within (g .ER_CURSOR_PAGE) 0 5
  | .ER_HCFG | .ER_HLOWER | .ER_HWIDTH => s.writeHist ag r v
  | .ER_WIN => s.decodeFault ag
  | r => s.guardWrite ag .ownerMpWd fun s => (s.writeRw ag r v i a).writeW1c r v i a

/-- A write of SEC_MBX_CMD (12): a GO starts the request of SEC_MBX_REQ, unless one is BUSY. -/
def State.writeMbx (s : State) (ag : Agent) (v : Nat) : State :=
  s.guardWrite ag .pf0 fun s =>
    if bit v 31 then
      if s.get .SEC_MBX_STS_STATE = 1 then s
      else
        let s := (s.writeRw ag .SEC_MBX_CMD v).putFlag .SEC_MBX_CMD_GO true
        ((s.put .SEC_MBX_STS_STATE 1).sendFn 0 laneMailbox true (s.get .SEC_MBX_REQ) (s.get .SEC_MBX_CMD_LEN) (.mbxFetch (s.get .SEC_MBX_REQ) (s.get .SEC_MBX_CMD_LEN))).wake uWarden wakeEvent
    else s.writeRw ag .SEC_MBX_CMD v

/-- SEC_ registers (R460, R480, 12). -/
def State.writeSec (s : State) (ag : Agent) (r : Reg) (v i a : Nat) : State :=
  match r with
  | .SEC_MBX_CMD => s.writeMbx ag v
  | .SEC_MBX_REQ | .SEC_MBX_RSP => s.guardWrite ag .pf0 fun s => s.writeRw ag r (v / 4096 * 4096)
  | .SEC_PM_CMD =>
    if bit v 31 then s.submitBatch ag (bit v 30) (v % 128) else s.guardWrite ag .ownerWd fun s => s.writeRw ag r v i a
  | .SEC_PM_STAGE => s.guardWrite ag .ownerWd fun s => (s.writeRw ag r v i a).put .X_PM_STAGE_RES (bits v 31 30 * 16 + bits v 24 21) i a
  | .SEC_PM_TICK => s.guardWrite ag .ownerWd fun s => s.writeRw ag r v i a
  | .SEC_PM_QSEL => s.guardWrite ag .any fun s => s.writeRanged ag r v i a [(.SEC_PM_QSEL_FN, 0, 263)]
  | .SEC_KEY_SEL => s.guardWrite ag .any fun s => s.writeRw ag r v i a
  | r => s.guardWrite ag .ownerWd fun s => s.writeW1c r v i a

/-- The number of ones among the low 16 bits. -/
def ones16 (v : Nat) : Nat := ((List.range 16).filter fun k => bit v k).length

/-- MC_ registers (R310, 07, 09, 10). -/
def State.writeMc (s : State) (ag : Agent) (r : Reg) (v i a : Nat) : State :=
  match r with
  | .MC_CTL => s.writeMcCtl ag (bit v 0)
  | .MC_INV_CMD => if bit v 31 then s.submitInv ag (v % 4096) else s.guardWrite ag .ownerMp fun s => s.writeRw ag r v i a
  | .MC_LOCKMASK => s.guardWrite ag .ownerMp fun s => s.unlessLocked ag [.MC_LOCKMASK_MASK] fun s =>
      if !(s.lines.any Line.locked) && decide (ones16 v ≤ s.get .MC_GEOM_LOCK_MAX) then s.writeRw ag r v i a
      else s.bump .UCB_CNT2 uMap
  | .MC_LFSR => s.guardWrite ag .ownerMp fun s => if v % 65536 = 0 then s else s.writeRw ag r v i a
  | .MC_JNL_CFG => s.guardWrite ag .ownerMp fun s =>
      (s.writeIf ag r v i a fun g => within (g .MC_JNL_CFG_THROTTLE) 50 95 && within (g .MC_JNL_CFG_LIMIT) 64 1024).updateJnl
  | .MC_GC_MARK0 => s.guardWrite ag .ownerMp fun s => (s.writeIf ag r v i a fun g =>
      decide (g .MC_GC_MARK0_CRIT < g .MC_GC_MARK0_LOW) && decide (g .MC_GC_MARK0_LOW < g .MC_GC_MARK0_HIGH)
        && decide (g .MC_GC_MARK0_HIGH ≤ 1000)).updateGc
  | .MC_GC_QMAX => s.guardWrite ag .ownerMp fun s => s.writeIf ag r v i a fun g => within (g .MC_GC_QMAX_QMAX) 1024 4194304
  | .MC_GC_MODE => s.guardWrite ag .ownerMp fun s =>
      s.writeIf ag r v i a fun g => within (g .MC_GC_MODE_VERIFY_OFFSET) 1 15 && within (g .MC_GC_MODE_RW_MODE) 1 2 && within (g .MC_GC_MODE_RO_MODE) 1 2
        && ((g .MC_GC_MODE_RW_MODE ≠ 2 && g .MC_GC_MODE_RO_MODE ≠ 2) || s.dies.all fun d => s.dieHasMode d 2)
  | .MC_WL_CFG => s.guardWrite ag .ownerMp fun s =>
      s.writeIf ag r v i a fun g => within (g .MC_WL_CFG_SPREAD) 10 65535 && within (g .MC_WL_CFG_RATE) 0 1000
  | .MC_RI_CFG => s.guardWrite ag .ownerMp fun s =>
      s.writeIf ag r v i a fun g => within (g .MC_RI_CFG_RECOV_PASSES) 1 15 && within (g .MC_RI_CFG_LADDER_MAX) 0 14 && within (g .MC_RI_CFG_CMD_MAX) 1 600
  | .MC_PATROL_CFG => s.guardWrite ag .ownerMp fun s =>
      s.writeIf ag r v i a fun g => within (g .MC_PATROL_CFG_REFRESH_BITS) 8 255 && within (g .MC_PATROL_CFG_AGE_DAYS) 0 3650
  | .MC_PATROL_RD => s.guardWrite ag .ownerMp fun s => s.writeIf ag r v i a fun g => within (g .MC_PATROL_RD_READS_MAX) 1 65535
  | r => s.guardWrite ag .ownerMp fun s => (s.writeRw ag r v i a).writeW1c r v i a

/-- Keeps the `n` latest of some translations. -/
def keepLatest (sel : AtsEntry → Bool) (n : Nat) (l : List AtsEntry) : List AtsEntry :=
  (l.foldr (fun e acc => if sel e then (if acc.1 = 0 then acc else (acc.1 - 1, e :: acc.2)) else (acc.1, e :: acc.2)) (n, [])).2

/-- HEp_ registers (R124, 03). A lowered ATS quota drops the function's least recently used entries (R104). -/
def State.writeHe (s : State) (ag : Agent) (r : Reg) (v b i : Nat) : State :=
  match r with
  | .HE_CFG => s.writeHeCfg ag b (bits v 6 4) (v % 4)
  | .HE_VFALLOC => s.writeVfalloc ag i (v % 256) (bits v 24 16)
  | .HE_FNATTR | .HE_VFATTR => s.guardWrite ag .ownerFeMp fun s =>
      if 64 < bits v 14 8 then s
      else
        -- replies that waited on strict queues of the function wait no more where STRICT is cleared (R210)
        let s := (s.writeRw ag r v i).postHeld
        { s with ats := keepLatest (fun e => e.fn = i) (64 * s.get .HE_FNATTR_ATS_QUOTA i) s.ats }
  | .HE_PWR => s.guardWrite ag .ownerFeMp fun s => s.writeIf ag r v i 0 fun g => within (g .HE_PWR_L12_IDLE) 1 65535 && within (g .HE_PWR_L1_IDLE) 2 32767
  | r => s.guardWrite ag .ownerFeMp fun s => (s.writeRw ag r v i).writeW1c r v i 0

/-- JQ_ registers (R240 to R242, 05). JQ_FSEL holds what is written, also 264 to 511, which name no function: the per-function registers then
ignore writes (DESIGN CHOICE, log entry 50). -/
def State.writeJq (s : State) (ag : Agent) (r : Reg) (v i a : Nat) : State :=
  match r with
  | .JQ_QCFG | .JQ_QRING | .JQ_QRPL_BASE | .JQ_QXR_BASE | .JQ_QMIRROR => s.guardWrite ag .ownerFeMp fun s =>
      if s.get .JQ_QSTS_STATE i = jqDisabled then s.writeRw ag r v i a else s.bump .UCB_CNT2 uFront
  | .JQ_QCMD => (if bit v 1 then s.disableQueue ag i else if bit v 0 then s.enableQueue ag i else s.guardWrite ag .ownerFeMp fun s => s)
      |>.noteDemand s
  | .JQ_FGOLD => s.writeFgold ag i (v % 8192)
  | .JQ_FEVT_CFG => s.writeFevtCfg ag i v
  | .JQ_FEVT_BASE => s.guardWrite ag .ownerFeMp fun s =>
      if s.flag .JQ_FEVT_CFG_EVT_EN i || decide (264 ≤ i) then s else s.writeRw ag r v i a
  | .JQ_FSTS => s.guardWrite ag .ownerFeMp fun s => if 264 ≤ i then s else s.writeW1c r v i a
  | r => s.guardWrite ag .ownerFeMp fun s => s.writeRw ag r v i a

/-- TS_ registers (R258, 06). -/
def State.writeTs (s : State) (ag : Agent) (r : Reg) (v i a : Nat) : State :=
  match r with
  | .TS_CMD => if bit v 7 then s.submitTs ag (v % 16) (bit v 6) else s.guardWrite ag .ownerFeMp fun s => s.writeRw ag r v i a
  | r => s.guardWrite ag .ownerFeMp fun s => s.writeRw ag r v i a

/-- MS_ registers of a cluster and of a channel (R354, 08). -/
def State.writeMs (s : State) (ag : Agent) (cl : Nat) (r : Reg) (v i : Nat) : State :=
  match r with
  | .MS_CALL => s.writeMsCall ag cl v
  | .MS_SYSUNLOCK => s.guardWrite ag .wd fun s => s.writeRw ag r v i
  | .MS_MARGIN => s.guardWrite ag (.ownerMpMd cl) fun s => s.writeIf ag r v i 0 fun g => within (g .MS_MARGIN_PROG_LIMIT) 1 255
  | .MS_CH_IF => s.guardWrite ag (.ownerMpMd cl) fun s => s.writeIf ag r v i 0 fun g => within (g .MS_CH_IF_MAX_RATE) 0 7
  | r => s.guardWrite ag (.ownerMpMd cl) fun s => (s.writeRw ag r v i).writeW1c r v i 0

/-- CX_ registers (R455, 11); Mumel stays enabled. -/
def State.writeCx (s : State) (ag : Agent) (r : Reg) (v i a : Nat) : State :=
  match r with
  | .CX_CTL => s.guardWrite ag .ownerFeMp fun s => s.writeRw ag r (v / 2 * 2 + 1) i a
  | .CX_DICT_CMD =>
    if bit v 31 then s.submitDict ag (bits v 27 26) (v % 4096) (bits v 21 16)
    else s.guardWrite ag .ownerFeMp fun s => s.writeRw ag r v i a
  | r => s.guardWrite ag .ownerFeMp fun s => s.writeRw ag r v i a

/-- A write of a whole register. -/
def State.writeReg (s : State) (ag : Agent) (l : Loc) (v : Nat) : State :=
  let (i, a) := s.regIx ag l
  match l.blk with
  | .ucb => s.writeUcb ag l.b l.reg v
  | .chp => s.writeChp ag l.reg v
  | .tk => s.writeTk ag l.reg v
  | .pm => s.writePm ag l.reg v l.k i a
  | .hk => s.writeHk ag l.reg v i
  | .cal => s.writeCal ag l.reg v i
  | .hu => s.writeHu ag l.reg v
  | .fc => s.writeFc ag l.reg v l.k i a
  | .er => s.writeEr ag l.reg v i a
  | .fw => s.decodeFault ag
  | .sec => s.writeSec ag l.reg v i a
  | .mc => s.writeMc ag l.reg v i a
  | .he => s.writeHe ag l.reg v l.b i
  | .jq => s.writeJq ag l.reg v i a
  | .ts => s.writeTs ag l.reg v i a
  | .ms => s.writeMs ag l.b l.reg v i
  | .msch => s.writeMs ag (channelCluster l.b) l.reg v i
  | .cx => s.writeCx ag l.reg v i a

/-- A 32-bit write of a register's half: the other half of a 64-bit register keeps its value. TK_CANCEL acts on its upper half. -/
def State.writeHalf (s : State) (ag : Agent) (l : Loc) (v : Nat) : State :=
  if !l.reg.desc.wide then s.writeReg ag l v
  else
    let (i, a) := s.regIx ag l
    let old := l.reg.desc.fields.foldl (fun n x => n + s.get x.f i a * 2 ^ x.lo) 0
    let v := if l.upper then v * 2 ^ 32 + old % 2 ^ 32 else old / 2 ^ 32 * 2 ^ 32 + v
    if l.reg = .TK_CANCEL then
      if l.upper then s.writeCancel ag v
      else s.guardWrite ag .ownerMpWd fun s => s.unlessLocked ag [.TK_CANCEL] fun s => s.put .TK_CANCEL v
    else s.writeReg ag l v

/-! ### The unit a register belongs to (R33, R491) -/

/-- Where an offset leads. -/
inductive Target where
  /-- a defined register -/
  | reg (l : Loc)
  /-- a descriptor slot word: cluster, and offset in its slot area (R322) -/
  | slot (cl off : Nat)
  /-- an offset of an existing unit's window that R20 does not name (R42) -/
  | blank
  | undefined
  deriving DecidableEq, Repr

/-- What stands at a 4-byte-aligned offset (R18, R41, R42). -/
def State.target (s : State) (off : Nat) : Target :=
  if 0x200000 ≤ off && decide (off < 0x280000) && decide (0x4000 ≤ off % 65536) then
    .slot ((off - 0x200000) / 65536) (off % 65536 - 0x4000)
  else match blockAt off with
    | some (.ucb, w, _) =>
      if s.windowExists w then (match locate off with | some l => .reg l | none => .blank) else .undefined
    | _ => match locate off with | some l => .reg l | none => .undefined

/-- The unit whose functional register stands at a target; none for a UCB window, which never waits (R19), and for an undefined
offset. -/
def Target.unit : Target → Option Nat
  | .slot cl _ => some (uCluster cl)
  | .blank | .undefined => none
  | .reg l => match l.blk with
    | .ucb => none
    | .hk | .cal | .hu => some uHousekeeping
    | .sec => some uWarden
    | .mc | .ts => some uMap
    | .he | .jq => some uFront
    | .ms => some (uCluster l.b)
    | .msch => some (uChannel l.b)
    | .cx => if l.reg = .CX_ENG_STS then some (uEngines (engineCluster l.k)) else some uChip
    | .chp | .tk | .pm | .fc | .er | .fw => some uChip

/-- What an access meets at the unit its target belongs to (R33). -/
def State.reach (s : State) (t : Target) (stallNs : Option Nat) : Option State := t.unit.elim (some s) fun w => s.reachUnit w stallNs

/-- An access turned away by a unit that is OFF is counted there, and is an access refused (R33; UCB_FAULT.REFUSED). -/
def State.turnAway (s : State) (t : Target) : State := t.unit.elim s fun w => s.refuseAt w

/-! ### Accesses -/

/-- The half-read latch of an agent (R12): it holds one register's upper half. -/
def State.setLatch (s : State) (ag : Agent) (off upper : Nat) : State :=
  { s with latches := (ag.ix, off, upper) :: s.latches.filter fun x => x.1 ≠ ag.ix }

/-- A 32-bit read that its unit lets through (R12, R42). -/
def State.read32 (s : State) (ag : Agent) (off : Nat) (t : Target) : Nat × State :=
  match t with
  | .undefined => (0xFFFFFFFF, s.decodeFault ag)
  | .blank => (0, s)
  | .slot cl o => (s.descNat cl (o / 32) (o % 32) 4, s)
  | .reg l =>
    if !l.reg.desc.wide then s.readReg ag l
    else if !l.upper then
      let (v, s) := s.readReg ag l
      (v % 2 ^ 32, s.setLatch ag off (v / 2 ^ 32))
    else match s.latches.find? fun x => x.1 = ag.ix && x.2.1 = Loc.start off l with
      | some x => (x.2.2, s)
      | none =>
        let (v, s) := s.readReg ag l
        (v / 2 ^ 32, s)

/-- A 32-bit write that its unit lets through. -/
def State.write32 (s : State) (ag : Agent) (t : Target) (v : Nat) : State :=
  match t with
  | .undefined => s.decodeFault ag
  | .blank => s.guardWrite ag .any fun s => s
  | .slot cl o => s.writeSlot ag cl o (natLe 4 v)
  | .reg l => s.writeHalf ag l v

/-- A 32-bit read at an aligned offset. -/
def State.access32 (s : State) (ag : Agent) (off : Nat) (stallNs : Option Nat) : Nat × State :=
  let t := s.target off
  match s.reach t stallNs with
  | none => (0xFFFFFFFF, s.turnAway t)
  | some s => s.read32 ag off t

/-- A 32-bit write at an aligned offset. -/
def State.store32 (s : State) (ag : Agent) (off v : Nat) (stallNs : Option Nat) : State :=
  let t := s.target off
  match s.reach t stallNs with
  | none => s.turnAway t
  | some s => s.write32 ag t v

/-- The register whose whole 64 bits stand at an offset. -/
def State.wideAt (s : State) (off : Nat) : Option Loc :=
  match s.target off with
  | .reg l => if l.reg.desc.wide && !l.upper then some l else none
  | _ => none

/-- An access's width and alignment are valid (R11). -/
def wellFormedAccess (off width : Nat) : Bool := (width = 4 && off % 4 = 0) || (width = 8 && off % 8 = 0)

/-- A read of `width` bytes (R11): the answer, and the state after. -/
def State.readAccess (s : State) (ag : Agent) (off width : Nat) (stallNs : Option Nat) : Nat × State :=
  if !wellFormedAccess off width then (2 ^ (8 * width) - 1, s)
  else if width = 4 then s.access32 ag off stallNs
  else match s.wideAt off with
    | some l =>
      (match s.reach (.reg l) stallNs with
        | none => (2 ^ 64 - 1, s.turnAway (.reg l))
        | some s => s.readReg ag l)
    | none =>
      let (lo, s) := s.access32 ag off stallNs
      let (hi, s) := s.access32 ag (off + 4) stallNs
      (lo + hi * 2 ^ 32, s)

/-- A write of `width` bytes (R11). -/
def State.writeAccess (s : State) (ag : Agent) (off width v : Nat) (stallNs : Option Nat) : State :=
  if !wellFormedAccess off width then s
  else if width = 4 then s.store32 ag off (v % 2 ^ 32) stallNs
  else match s.wideAt off with
    | some l =>
      (match s.reach (.reg l) stallNs with
        | none => s.turnAway (.reg l)
        | some s =>
          if l.reg = .TK_CANCEL then s.writeCancel ag (v % 2 ^ 64) else s.writeReg ag l (v % 2 ^ 64))
    | none => (s.store32 ag off (v % 2 ^ 32) stallNs).store32 ag (off + 4) (v / 2 ^ 32 % 2 ^ 32) stallNs

/-- Answers a read. -/
def State.answerRead (ag : Agent) (off width : Nat) (r : Nat × State) : State := r.2.emit (.readData ag off width r.1)

/-- REGISTER_WRITE (R7 to R11, R42, R43). -/
def execRegisterWrite (ag : Agent) (off width value : Nat) (s : State) : Host.Outcome State Fault Refusal :=
  .next (s.writeAccess ag off width value none)

/-- LOWER_HALF_READ (R12): a 32-bit read at an offset; that of a 64-bit register's lower half loads the agent's latch. -/
def execLowerHalfRead (ag : Agent) (off : Nat) (s : State) : Host.Outcome State Fault Refusal :=
  .next (State.answerRead ag off 4 (s.readAccess ag off 4 none))

/-- UPPER_HALF_READ (R12): an offset that is no upper half of a 64-bit register is not this event. -/
def execUpperHalfRead (ag : Agent) (off : Nat) (s : State) : Host.Outcome State Fault Refusal :=
  match s.target off with
  | .reg l =>
    if l.upper && off % 4 = 0 then .next (State.answerRead ag off 4 (s.readAccess ag off 4 none)) else .next s
  | _ => .next s

/-- UNDEFINED_REGISTER_READ (R11, R42): a read of another width or alignment, or of an offset that holds no register. -/
def execUndefinedRegisterRead (ag : Agent) (off width : Nat) (s : State) : Host.Outcome State Fault Refusal :=
  if !wellFormedAccess off width || s.target off = .undefined then
    .next (State.answerRead ag off width (s.readAccess ag off width none))
  else .next s

/-- WAKE_ON_ACCESS (R33, R491): an access, a read or a write, that may meet a unit which is not ON. -/
def execWakeOnAccess (ag : Agent) (off width : Nat) (write : Option Nat) (stallNs : Nat) (s : State) :
    Host.Outcome State Fault Refusal :=
  match write with
  | some v => .next (s.writeAccess ag off width v (some stallNs))
  | none => .next (State.answerRead ag off width (s.readAccess ag off width (some stallNs)))

/-! ### SET_FIELD (R457, R463) -/

/-- The bits of a register's 32-bit half that some of its fields cover. -/
def Reg.mask (r : Reg) (upper : Bool) (p : Slice → Bool) : Nat :=
  let m := (r.desc.fields.filter p).foldl (fun n x => n ||| (2 ^ (x.hi + 1) - 2 ^ x.lo)) 0
  if upper then m / 2 ^ 32 else m % 2 ^ 32

/-- Writes the LK fields that a mask names at an offset, as the Warden does: no lock stops it. -/
def State.setField (s : State) (l : Loc) (mask value : Nat) : State :=
  let ag : Agent := if l.reg = .MS_SYSUNLOCK then .core 62 else .pf0
  let (i, a) := s.regIx ag l
  let now := l.reg.desc.fields.foldl (fun n x => if x.acc = .rw then n + s.get x.f i a * 2 ^ x.lo else n) 0
  let now := if l.upper then now / 2 ^ 32 else now % 2 ^ 32
  let m := mask &&& l.reg.mask l.upper fun x => x.lk
  let t : State := { s with locks := [] }
  { t.writeHalf ag l (now - (now &&& m) + (value % 2 ^ 32 &&& m)) with locks := s.locks }

/-- SET_FIELD (R457). -/
def execSetField (req : List Byte) (s : State) : Host.Outcome State Fault Refusal :=
  let off := fieldAt req 16 4
  let done : State := match (if off % 4 = 0 then locate off else none) with
    | some l =>
      if l.reg.desc.fields.any (fun x => x.lk) then (s.setField l (fieldAt req 20 4) (fieldAt req 24 4)).answerMbx 0x0A mbOk
      else s.answerMbx 0x0A mbLimit
    | none => s.answerMbx 0x0A mbLimit
  .next (s.onMbx req 0x0A true done)

end Sys2Proof.Machine
end

