-- ==== Sys2Proof/Machine/Dispatch.lean ====
section
/-! DEFINITION. The meaning of every command: one arm for each row of the table of steps, each a direct call of the row's own
meaning, on a state from whose queue the command has been taken (Sys2Proof/Machine/Step.lean). -/

namespace Sys2Proof.Machine

def exec (i : Instr) (s : State) : Host.Outcome State Fault Refusal :=
  match i with
  | .registerWrite ag off width value => Sys2Proof.Machine.execRegisterWrite ag off width value s
  | .lowerHalfRead ag off => Sys2Proof.Machine.execLowerHalfRead ag off s
  | .upperHalfRead ag off => Sys2Proof.Machine.execUpperHalfRead ag off s
  | .ucbFaultClear ag win value => Sys2Proof.Machine.execUcbFaultClear ag win value s
  | .unitResetRequest ag win immediate useTick => Sys2Proof.Machine.execUnitResetRequest ag win immediate useTick s
  | .unitPowerRequest ag win target useTick => Sys2Proof.Machine.execUnitPowerRequest ag win target useTick s
  | .resetStart win => Sys2Proof.Machine.execResetStart win s
  | .resetComplete win chans => Sys2Proof.Machine.execResetComplete win chans s
  | .requestTimeout win => Sys2Proof.Machine.execRequestTimeout win s
  | .powerChangeStart win => Sys2Proof.Machine.execPowerChangeStart win s
  | .powerChangeComplete win chans => Sys2Proof.Machine.execPowerChangeComplete win chans s
  | .wakeOnAccess ag off width write stallNs => Sys2Proof.Machine.execWakeOnAccess ag off width write stallNs s
  | .chipWarmResetRequest ag useTick => Sys2Proof.Machine.execChipWarmResetRequest ag useTick s
  | .chipColdResetRequest ag warm useTick => Sys2Proof.Machine.execChipColdResetRequest ag warm useTick s
  | .chipReset => Sys2Proof.Machine.execChipReset s
  | .tickBoundary => Sys2Proof.Machine.execTickBoundary s
  | .tickOverrun die => Sys2Proof.Machine.execTickOverrun die s
  | .planSeal die entries => Sys2Proof.Machine.execPlanSeal die entries s
  | .atTickActions => Sys2Proof.Machine.execAtTickActions s
  | .tickInFrame edgeNs frame => Sys2Proof.Machine.execTickInFrame edgeNs frame s
  | .ptmExchange port link ok masterNs => Sys2Proof.Machine.execPtmExchange port link ok masterNs s
  | .tickLockAcquired => Sys2Proof.Machine.execTickLockAcquired s
  | .tickSourceLost => Sys2Proof.Machine.execTickSourceLost s
  | .tkSrcWrite ag value => Sys2Proof.Machine.execTkSrcWrite ag value s
  | .tkNextGo ag period => Sys2Proof.Machine.execTkNextGo ag period s
  | .tkCancel ag tick => Sys2Proof.Machine.execTkCancel ag tick s
  | .tkSnapTake ag => Sys2Proof.Machine.execTkSnapTake ag s
  | .plannedEntryStart die => Sys2Proof.Machine.execPlannedEntryStart die s
  | .linkUp port link speed width flit => Sys2Proof.Machine.execLinkUp port link speed width flit s
  | .linkDown port link hostCaused => Sys2Proof.Machine.execLinkDown port link hostCaused s
  | .perstAssert port => Sys2Proof.Machine.execPerstAssert port s
  | .perstDeassert port => Sys2Proof.Machine.execPerstDeassert port s
  | .flr fn => Sys2Proof.Machine.execFlr fn s
  | .vfDisable fn => Sys2Proof.Machine.execVfDisable fn s
  | .d3hotEntry fn => Sys2Proof.Machine.execD3hotEntry fn s
  | .d3hotToD0Reset fn => Sys2Proof.Machine.execD3hotToD0Reset fn s
  | .busMasterEnableSet fn => Sys2Proof.Machine.execBusMasterEnableSet fn s
  | .busMasterEnableClear fn => Sys2Proof.Machine.execBusMasterEnableClear fn s
  | .disableComplete scope => Sys2Proof.Machine.execDisableComplete scope s
  | .disableTimeout scope => Sys2Proof.Machine.execDisableTimeout scope s
  | .vfallocWrite ag pf first count => Sys2Proof.Machine.execVfallocWrite ag pf first count s
  | .heCfgWrite ag port speed bifur => Sys2Proof.Machine.execHeCfgWrite ag port speed bifur s
  | .invalidateRequest fn addr size tag => Sys2Proof.Machine.execInvalidateRequest fn addr size tag s
  | .invalidationCompletion fn tag => Sys2Proof.Machine.execInvalidationCompletion fn tag s
  | .translationCompletion fn addr size result => Sys2Proof.Machine.execTranslationCompletion fn addr size result s
  | .dmaReadCompletion cmd status offset data => Sys2Proof.Machine.execDmaReadCompletion cmd status offset data s
  | .completionTimeout cmd => Sys2Proof.Machine.execCompletionTimeout cmd s
  | .undefinedBarRequest fn bar off posted => Sys2Proof.Machine.execUndefinedBarRequest fn bar off posted s
  | .l1Entry port link => Sys2Proof.Machine.execL1Entry port link s
  | .l12Entry port link => Sys2Proof.Machine.execL12Entry port link s
  | .l0pNarrow port link width => Sys2Proof.Machine.execL0pNarrow port link width s
  | .l1Exit port link => Sys2Proof.Machine.execL1Exit port link s
  | .sqTailDoorbell fn sqid tail => Sys2Proof.Machine.execSqTailDoorbell fn sqid tail s
  | .cqHeadDoorbell fn cqid head => Sys2Proof.Machine.execCqHeadDoorbell fn cqid head s
  | .commandFetch fn sqid sqe => Sys2Proof.Machine.execCommandFetch fn sqid sqe s
  | .ccEnSet fn cc aqa asq acq => Sys2Proof.Machine.execCcEnSet fn cc aqa asq acq s
  | .ccEnClear fn => Sys2Proof.Machine.execCcEnClear fn s
  | .shutdownNotification fn abrupt => Sys2Proof.Machine.execShutdownNotification fn abrupt s
  | .shutdownComplete fn => Sys2Proof.Machine.execShutdownComplete fn s
  | .createIoSq cmd => Sys2Proof.Machine.execCreateIoSq cmd s
  | .createIoCq cmd => Sys2Proof.Machine.execCreateIoCq cmd s
  | .deleteIoSq cmd => Sys2Proof.Machine.execDeleteIoSq cmd s
  | .deleteIoCq cmd => Sys2Proof.Machine.execDeleteIoCq cmd s
  | .getLogPage cmd => Sys2Proof.Machine.execGetLogPage cmd s
  | .getLogEraseCounts cmd => Sys2Proof.Machine.execGetLogEraseCounts cmd s
  | .getLogRecorderExport cmd => Sys2Proof.Machine.execGetLogRecorderExport cmd s
  | .getLogFaultStatus cmd => Sys2Proof.Machine.execGetLogFaultStatus cmd s
  | .identify cmd => Sys2Proof.Machine.execIdentify cmd s
  | .nvmeAbort cmd => Sys2Proof.Machine.execNvmeAbort cmd s
  | .setFeaturesArbitration cmd => Sys2Proof.Machine.execSetFeaturesArbitration cmd s
  | .setFeaturesPowerManagement cmd => Sys2Proof.Machine.execSetFeaturesPowerManagement cmd s
  | .setFeaturesTemperatureThreshold cmd => Sys2Proof.Machine.execSetFeaturesTemperatureThreshold cmd s
  | .setFeaturesErrorRecovery cmd => Sys2Proof.Machine.execSetFeaturesErrorRecovery cmd s
  | .setFeaturesNumberOfQueues cmd => Sys2Proof.Machine.execSetFeaturesNumberOfQueues cmd s
  | .setFeaturesInterruptConfig cmd => Sys2Proof.Machine.execSetFeaturesInterruptConfig cmd s
  | .setFeaturesAsyncEventConfig cmd => Sys2Proof.Machine.execSetFeaturesAsyncEventConfig cmd s
  | .setFeaturesTimestamp cmd => Sys2Proof.Machine.execSetFeaturesTimestamp cmd s
  | .setFeaturesQueueAttributes cmd => Sys2Proof.Machine.execSetFeaturesQueueAttributes cmd s
  | .getFeatures cmd => Sys2Proof.Machine.execGetFeatures cmd s
  | .getFeaturesTimestamp cmd => Sys2Proof.Machine.execGetFeaturesTimestamp cmd s
  | .getFeaturesQueueAttributes cmd => Sys2Proof.Machine.execGetFeaturesQueueAttributes cmd s
  | .asyncEventRequest cmd => Sys2Proof.Machine.execAsyncEventRequest cmd s
  | .namespaceManagementCreate cmd data => Sys2Proof.Machine.execNamespaceManagementCreate cmd data s
  | .namespaceManagementDelete cmd => Sys2Proof.Machine.execNamespaceManagementDelete cmd s
  | .namespaceAttachment cmd controllers => Sys2Proof.Machine.execNamespaceAttachment cmd controllers s
  | .firmwareImageDownload cmd data => Sys2Proof.Machine.execFirmwareImageDownload cmd data s
  | .commitNoActivation cmd => Sys2Proof.Machine.execCommitNoActivation cmd s
  | .commitActivateAtReset cmd => Sys2Proof.Machine.execCommitActivateAtReset cmd s
  | .activateExistingSlot cmd => Sys2Proof.Machine.execActivateExistingSlot cmd s
  | .commitActivateNow cmd => Sys2Proof.Machine.execCommitActivateNow cmd s
  | .commitActivateAtTick cmd => Sys2Proof.Machine.execCommitActivateAtTick cmd s
  | .formatNvm cmd => Sys2Proof.Machine.execFormatNvm cmd s
  | .formatComplete node => Sys2Proof.Machine.execFormatComplete node s
  | .sanitizeBlockErase cmd => Sys2Proof.Machine.execSanitizeBlockErase cmd s
  | .sanitizeCryptoErase cmd => Sys2Proof.Machine.execSanitizeCryptoErase cmd s
  | .sanitizeOverwrite cmd => Sys2Proof.Machine.execSanitizeOverwrite cmd s
  | .sanitizeExitFailureMode cmd => Sys2Proof.Machine.execSanitizeExitFailureMode cmd s
  | .sanitizeComplete ok => Sys2Proof.Machine.execSanitizeComplete ok s
  | .nvmeRead cmd => Sys2Proof.Machine.execNvmeRead cmd s
  | .nvmeWrite cmd => Sys2Proof.Machine.execNvmeWrite cmd s
  | .nvmeFlush cmd => Sys2Proof.Machine.execNvmeFlush cmd s
  | .nvmeWriteZeroes cmd => Sys2Proof.Machine.execNvmeWriteZeroes cmd s
  | .nvmeDatasetManagement cmd ranges => Sys2Proof.Machine.execNvmeDatasetManagement cmd ranges s
  | .nvmeVerify cmd => Sys2Proof.Machine.execNvmeVerify cmd s
  | .miReadDataStructure => Sys2Proof.Machine.execMiReadDataStructure s
  | .miSubsystemHealthPoll => Sys2Proof.Machine.execMiSubsystemHealthPoll s
  | .miControllerHealthPoll => Sys2Proof.Machine.execMiControllerHealthPoll s
  | .miConfigurationGet id => Sys2Proof.Machine.execMiConfigurationGet id s
  | .miConfigurationSet id value => Sys2Proof.Machine.execMiConfigurationSet id value s
  | .miVpdRead len => Sys2Proof.Machine.execMiVpdRead len s
  | .miVpdWrite => Sys2Proof.Machine.execMiVpdWrite s
  | .miTunneledAdmin sqe => Sys2Proof.Machine.execMiTunneledAdmin sqe s
  | .basicManagementCommand => Sys2Proof.Machine.execBasicManagementCommand s
  | .pushWindowWrite fn off data poisoned => Sys2Proof.Machine.execPushWindowWrite fn off data poisoned s
  | .packetIntake q => Sys2Proof.Machine.execPacketIntake q s
  | .read cmd => Sys2Proof.Machine.execRead cmd s
  | .readUnpack cmd => Sys2Proof.Machine.execReadUnpack cmd s
  | .write cmd => Sys2Proof.Machine.execWrite cmd s
  | .writePack cmd => Sys2Proof.Machine.execWritePack cmd s
  | .flushBlock cmd => Sys2Proof.Machine.execFlushBlock cmd s
  | .pin cmd => Sys2Proof.Machine.execPin cmd s
  | .unpin cmd => Sys2Proof.Machine.execUnpin cmd s
  | .abort cmd => Sys2Proof.Machine.execAbort cmd s
  | .fence cmd => Sys2Proof.Machine.execFence cmd s
  | .time cmd => Sys2Proof.Machine.execTime cmd s
  | .gather cmd => Sys2Proof.Machine.execGather cmd s
  | .packOnly cmd => Sys2Proof.Machine.execPackOnly cmd s
  | .dataWindowWrite fn off data poisoned => Sys2Proof.Machine.execDataWindowWrite fn off data poisoned s
  | .grantIssue cmd woff => Sys2Proof.Machine.execGrantIssue cmd woff s
  | .grantExpiry cmd grant => Sys2Proof.Machine.execGrantExpiry cmd grant s
  | .replyHeadWrite q value => Sys2Proof.Machine.execReplyHeadWrite q value s
  | .xrHeadWrite q value => Sys2Proof.Machine.execXrHeadWrite q value s
  | .eventHeadWrite fn value => Sys2Proof.Machine.execEventHeadWrite fn value s
  | .lateNotice cmd => Sys2Proof.Machine.execLateNotice cmd s
  | .reserveChanged fn => Sys2Proof.Machine.execReserveChanged fn s
  | .fenceComplete cmd => Sys2Proof.Machine.execFenceComplete cmd s
  | .pinPreloadComplete cmd => Sys2Proof.Machine.execPinPreloadComplete cmd s
  | .queueEnable ag q => Sys2Proof.Machine.execQueueEnable ag q s
  | .queueDisable ag q => Sys2Proof.Machine.execQueueDisable ag q s
  | .queueDisabled q => Sys2Proof.Machine.execQueueDisabled q s
  | .jqFgoldWrite ag fn slots => Sys2Proof.Machine.execJqFgoldWrite ag fn slots s
  | .eventRingEnable ag fn value => Sys2Proof.Machine.execEventRingEnable ag fn value s
  | .createStack ag => Sys2Proof.Machine.execCreateStack ag s
  | .setChildren ag useTick => Sys2Proof.Machine.execSetChildren ag useTick s
  | .deleteStack ag useTick => Sys2Proof.Machine.execDeleteStack ag useTick s
  | .setWritable ag => Sys2Proof.Machine.execSetWritable ag s
  | .clearWritable ag => Sys2Proof.Machine.execClearWritable ag s
  | .grow ag => Sys2Proof.Machine.execGrow ag s
  | .nodeDeletionComplete node => Sys2Proof.Machine.execNodeDeletionComplete node s
  | .mapMissFill node l => Sys2Proof.Machine.execMapMissFill node l s
  | .allocationGiveUp node l => Sys2Proof.Machine.execAllocationGiveUp node l s
  | .mcInv ag node => Sys2Proof.Machine.execMcInv ag node s
  | .invalidationSweepDone node => Sys2Proof.Machine.execInvalidationSweepDone node s
  | .lockedLineRefill node l => Sys2Proof.Machine.execLockedLineRefill node l s
  | .mapCacheDisable ag => Sys2Proof.Machine.execMapCacheDisable ag s
  | .mapCacheEnable ag => Sys2Proof.Machine.execMapCacheEnable ag s
  | .drainComplete => Sys2Proof.Machine.execDrainComplete s
  | .resetInvalidationDone => Sys2Proof.Machine.execResetInvalidationDone s
  | .mapWriteBack node page => Sys2Proof.Machine.execMapWriteBack node page s
  | .journalPageProgram => Sys2Proof.Machine.execJournalPageProgram s
  | .readCall ag cl slot planned => Sys2Proof.Machine.execReadCall ag cl slot planned s
  | .readMarginCall ag cl slot planned => Sys2Proof.Machine.execReadMarginCall ag cl slot planned s
  | .programCall ag cl slot planned => Sys2Proof.Machine.execProgramCall ag cl slot planned s
  | .eraseCall ag cl slot planned => Sys2Proof.Machine.execEraseCall ag cl slot planned s
  | .suspendCall ag cl slot planned => Sys2Proof.Machine.execSuspendCall ag cl slot planned s
  | .resumeCall ag cl slot planned => Sys2Proof.Machine.execResumeCall ag cl slot planned s
  | .statusCall ag cl slot planned => Sys2Proof.Machine.execStatusCall ag cl slot planned s
  | .eraseCountCall ag cl slot planned => Sys2Proof.Machine.execEraseCountCall ag cl slot planned s
  | .featureCall ag cl slot planned => Sys2Proof.Machine.execFeatureCall ag cl slot planned s
  | .retireCall ag cl slot planned => Sys2Proof.Machine.execRetireCall ag cl slot planned s
  | .msCplRead ag cl k => Sys2Proof.Machine.execMsCplRead ag cl k s
  | .readCallComplete die units busyNs => Sys2Proof.Machine.execReadCallComplete die units busyNs s
  | .readMarginComplete die counts => Sys2Proof.Machine.execReadMarginComplete die counts s
  | .programCallComplete die ok busyNs => Sys2Proof.Machine.execProgramCallComplete die ok busyNs s
  | .eraseCallComplete die ok busyNs => Sys2Proof.Machine.execEraseCallComplete die ok busyNs s
  | .suspendComplete die => Sys2Proof.Machine.execSuspendComplete die s
  | .sealedGateViolation core ch => Sys2Proof.Machine.execSealedGateViolation core ch s
  | .sealedTimeout core => Sys2Proof.Machine.execSealedTimeout core s
  | .mediaOpTimeout die => Sys2Proof.Machine.execMediaOpTimeout die s
  | .mediaBrownoutAssert rail => Sys2Proof.Machine.execMediaBrownoutAssert rail s
  | .mediaBrownoutDeassert => Sys2Proof.Machine.execMediaBrownoutDeassert s
  | .bandOpen kind rot dies failed => Sys2Proof.Machine.execBandOpen kind rot dies failed s
  | .gcCopy place => Sys2Proof.Machine.execGcCopy place s
  | .gcCommit place => Sys2Proof.Machine.execGcCommit place s
  | .release band => Sys2Proof.Machine.execRelease band s
  | .blockErase die block mode => Sys2Proof.Machine.execBlockErase die block mode s
  | .hostWriteAdmission => Sys2Proof.Machine.execHostWriteAdmission s
  | .staticWearLevelling band => Sys2Proof.Machine.execStaticWearLevelling band s
  | .reserveRefill die block => Sys2Proof.Machine.execReserveRefill die block s
  | .ladderStep place => Sys2Proof.Machine.execLadderStep place s
  | .deepDecodeStart cl => Sys2Proof.Machine.execDeepDecodeStart cl s
  | .deepDecodeDone place unit => Sys2Proof.Machine.execDeepDecodeDone place unit s
  | .hedgeRebuild place ok => Sys2Proof.Machine.execHedgeRebuild place ok s
  | .hedgeRetry place => Sys2Proof.Machine.execHedgeRetry place s
  | .cmdMaxExpiry cmd => Sys2Proof.Machine.execCmdMaxExpiry cmd s
  | .backgroundRecoveryPass node g stage ended => Sys2Proof.Machine.execBackgroundRecoveryPass node g stage ended s
  | .recoveryCommit node g => Sys2Proof.Machine.execRecoveryCommit node g s
  | .patrolRead unit => Sys2Proof.Machine.execPatrolRead unit s
  | .refresh band => Sys2Proof.Machine.execRefresh band s
  | .correctedMemoryError mem addr bitNo whereIs => Sys2Proof.Machine.execCorrectedMemoryError mem addr bitNo whereIs s
  | .uncorrectableMemoryError mem addr held => Sys2Proof.Machine.execUncorrectableMemoryError mem addr held s
  | .scrubRead mem addr error lapMs => Sys2Proof.Machine.execScrubRead mem addr error lapMs s
  | .eccLogClear ag => Sys2Proof.Machine.execEccLogClear ag s
  | .decompressionJobStart engine cl => Sys2Proof.Machine.execDecompressionJobStart engine cl s
  | .decompressionJobDone engine => Sys2Proof.Machine.execDecompressionJobDone engine s
  | .compressionJobStart engine cmd => Sys2Proof.Machine.execCompressionJobStart engine cmd s
  | .compressionJobDone engine block => Sys2Proof.Machine.execCompressionJobDone engine block s
  | .dictLoad ag node units => Sys2Proof.Machine.execDictLoad ag node units s
  | .dictDrop ag node => Sys2Proof.Machine.execDictDrop ag node s
  | .dictLoadDone ag valid => Sys2Proof.Machine.execDictLoadDone ag valid s
  | .getInfo req => Sys2Proof.Machine.execGetInfo req s
  | .getChallenge req => Sys2Proof.Machine.execGetChallenge req s
  | .claimOwner req sigOk keyOk => Sys2Proof.Machine.execClaimOwner req sigOk keyOk s
  | .releaseOwner req => Sys2Proof.Machine.execReleaseOwner req s
  | .licenceInstall req sigOk => Sys2Proof.Machine.execLicenceInstall req sigOk s
  | .licenceRemove req => Sys2Proof.Machine.execLicenceRemove req s
  | .licenceStatus req => Sys2Proof.Machine.execLicenceStatus req s
  | .timeAttest req sigOk keyOk => Sys2Proof.Machine.execTimeAttest req sigOk keyOk s
  | .monoAdvance req sigOk keyOk => Sys2Proof.Machine.execMonoAdvance req sigOk keyOk s
  | .setField req => Sys2Proof.Machine.execSetField req s
  | .protectionBatchSubmit ag fence count => Sys2Proof.Machine.execProtectionBatchSubmit ag fence count s
  | .keyDestruction node gen => Sys2Proof.Machine.execKeyDestruction node gen s
  | .timeFloorRaise => Sys2Proof.Machine.execTimeFloorRaise s
  | .lockstepMismatch pair => Sys2Proof.Machine.execLockstepMismatch pair s
  | .coreHang core => Sys2Proof.Machine.execCoreHang core s
  | .idleTimerExpiry => Sys2Proof.Machine.execIdleTimerExpiry s
  | .modeEntry => Sys2Proof.Machine.execModeEntry s
  | .mediaQuiet => Sys2Proof.Machine.execMediaQuiet s
  | .modeExit => Sys2Proof.Machine.execModeExit s
  | .domainWake win => Sys2Proof.Machine.execDomainWake win s
  | .domainRegate win => Sys2Proof.Machine.execDomainRegate win s
  | .scaleChange => Sys2Proof.Machine.execScaleChange s
  | .setFloor ag arg useTick => Sys2Proof.Machine.execSetFloor ag arg useTick s
  | .shutdown ag useTick => Sys2Proof.Machine.execShutdown ag useTick s
  | .vauxRise vaux => Sys2Proof.Machine.execVauxRise vaux s
  | .keepToPatrol => Sys2Proof.Machine.execKeepToPatrol s
  | .vauxFall => Sys2Proof.Machine.execVauxFall s
  | .vbatFall => Sys2Proof.Machine.execVbatFall s
  | .mainEnAssert => Sys2Proof.Machine.execMainEnAssert s
  | .patrolRound samples => Sys2Proof.Machine.execPatrolRound samples s
  | .pfailN => Sys2Proof.Machine.execPfailN s
  | .supplyBrownout rail => Sys2Proof.Machine.execSupplyBrownout rail s
  | .flushEnergyCheck granules fixedDone eAvail => Sys2Proof.Machine.execFlushEnergyCheck granules fixedDone eAvail s
  | .flushEnd duration => Sys2Proof.Machine.execFlushEnd duration s
  | .prechargeCeiling v => Sys2Proof.Machine.execPrechargeCeiling v s
  | .chargerTopUp v => Sys2Proof.Machine.execChargerTopUp v s
  | .chargeTimeout => Sys2Proof.Machine.execChargeTimeout s
  | .bankOvervolt v => Sys2Proof.Machine.execBankOvervolt v s
  | .testNow ag => Sys2Proof.Machine.execTestNow ag s
  | .testIntervalDue => Sys2Proof.Machine.execTestIntervalDue s
  | .capacitanceTestStart => Sys2Proof.Machine.execCapacitanceTestStart s
  | .capacitanceTestEnd dtUs stepMv => Sys2Proof.Machine.execCapacitanceTestEnd dtUs stepMv s
  | .huECeilWrite ag ceil => Sys2Proof.Machine.execHuECeilWrite ag ceil s
  | .housekeepingRound samples avsAck => Sys2Proof.Machine.execHousekeepingRound samples avsAck s
  | .thermalShutDown sensor => Sys2Proof.Machine.execThermalShutDown sensor s
  | .hkTjThrWrite ag value => Sys2Proof.Machine.execHkTjThrWrite ag value s
  | .hkWwinWrite ag value => Sys2Proof.Machine.execHkWwinWrite ag value s
  | .calTrimStep => Sys2Proof.Machine.execCalTrimStep s
  | .calOscStop => Sys2Proof.Machine.execCalOscStop s
  | .calSet ag => Sys2Proof.Machine.execCalSet ag s
  | .calAlarm k => Sys2Proof.Machine.execCalAlarm k s
  | .calAlarmArm ag k => Sys2Proof.Machine.execCalAlarmArm ag k s
  | .calBcd0Read ag => Sys2Proof.Machine.execCalBcd0Read ag s
  | .faultWindowClose src => Sys2Proof.Machine.execFaultWindowClose src s
  | .fcStickyClear ag g value => Sys2Proof.Machine.execFcStickyClear ag g value s
  | .fcUnackClear ag g value => Sys2Proof.Machine.execFcUnackClear ag g value s
  | .fcSrcCfgWrite ag window value => Sys2Proof.Machine.execFcSrcCfgWrite ag window value s
  | .erFreezeWrite ag freeze => Sys2Proof.Machine.execErFreezeWrite ag freeze s
  | .freezeTimeout ag => Sys2Proof.Machine.execFreezeTimeout ag s
  | .recorderClear ag => Sys2Proof.Machine.execRecorderClear ag s
  | .recorderClearPending => Sys2Proof.Machine.execRecorderClearPending s
  | .histogramConfigWrite ag reg value => Sys2Proof.Machine.execHistogramConfigWrite ag reg value s
  | .commitVerifyDone sigOk deltaOk => Sys2Proof.Machine.execCommitVerifyDone sigOk deltaOk s
  | .slotWriteDone ok => Sys2Proof.Machine.execSlotWriteDone ok s
  | .mapReloadHalf => Sys2Proof.Machine.execMapReloadHalf s
  | .clusterRollPrepare => Sys2Proof.Machine.execClusterRollPrepare s
  | .clusterOutOfService => Sys2Proof.Machine.execClusterOutOfService s
  | .clusterCoreReady core ok => Sys2Proof.Machine.execClusterCoreReady core ok s
  | .clusterReturn => Sys2Proof.Machine.execClusterReturn s
  | .clusterWaitTimeout => Sys2Proof.Machine.execClusterWaitTimeout s
  | .reloadFail core => Sys2Proof.Machine.execReloadFail core s
  | .activationRecord => Sys2Proof.Machine.execActivationRecord s
  | .mainPgQualified samples offMs => Sys2Proof.Machine.execMainPgQualified samples offMs s
  | .startup b => Sys2Proof.Machine.execStartup b s
  | .undefinedRegisterRead ag off width => Sys2Proof.Machine.execUndefinedRegisterRead ag off width s
  | .atsEnableClear fn => Sys2Proof.Machine.execAtsEnableClear fn s
  | .vfEnableSet fn numVfs => Sys2Proof.Machine.execVfEnableSet fn numVfs s
  | .chargeTargetReached v => Sys2Proof.Machine.execChargeTargetReached v s
  | .bandAgeRefresh band => Sys2Proof.Machine.execBandAgeRefresh band s
  | .mailboxCommandDone req dmaOk => Sys2Proof.Machine.execMailboxCommandDone req dmaOk s
  | .mainPgDeassert => Sys2Proof.Machine.execMainPgDeassert s
  | .pfailNDeassert => Sys2Proof.Machine.execPfailNDeassert s
  | .frontReloadDone => Sys2Proof.Machine.execFrontReloadDone s

end Sys2Proof.Machine
end

