-- ==== Sys2Proof/Machine/Idle.lean ====
section
/-! DEFINITION. What the block does when no command waits. -/

namespace Sys2Proof.Machine

/-- One cycle of the 100 MHz reference passes (R47): TK_PHASE grows by 10 ns, up to the end of the tick, corrected as R52 and R53 say,
which the command TICK_BOUNDARY brings (log entry 2). The register's range ends at 999,999. -/
def idle (s : State) : State :=
  s.put .TK_PHASE_PHASE (min (s.get .TK_PHASE_PHASE + 10) (min s.tickNs 999999))

end Sys2Proof.Machine
end

