-- ==== Sys2Proof/Machine/Step.lean ====
section
/-! DEFINITION. One step of the block: the command at the front of the queue, or one idle reference cycle. -/

namespace Sys2Proof.Machine

/-- Takes the command at the front of the queue and runs it on the state that holds the rest; on an empty queue one cycle of
the 100 MHz reference passes (log entry 2). -/
def step (s : State) : Host.Outcome State Fault Refusal :=
  match s.pending with
  | [] => .next (Sys2Proof.Machine.idle s)
  | c :: rest => exec c { s with pending := rest }

/-- The host's probe: puts the command a word spells at the front of the queue. No row of the table gives bits, so no word
spells a command and the state stays as it is (log entry 1). -/
def State.withFetchWord (s : State) (nbits w : Nat) : State :=
  match decodeTableWord nbits w with
  | some c => { s with pending := c :: s.pending }
  | none => s

end Sys2Proof.Machine
end

