-- ==== Sys2Proof/WellFormed.lean ====
section
/-! DEFINITION. Which commands are well formed: every operand within the range the spec gives its field. A command that is not well
formed stands for nothing the outside world can send or meet; `exec` is total on them all the same. -/

namespace Sys2Proof.Machine

/-- The agent is PF0, the collector or one of the cores (01, Cores). -/
def Agent.wf : Agent → Bool
  | .core n => decide (n < 64)
  | .pf0 | .collector => true

/-- A disable point names a function of at most 264, a controller's queue or one of 1,024 Jexash queues. -/
def Scope.wf : Scope → Bool
  | .fn f | .controller f => decide (f < 264)
  | .sq f sqid => decide (f < 264) && decide (sqid < 65536)
  | .queue q => decide (q < 1024)

/-- An offset of the 32 MiB control space (R41). -/
def offWf (off : Nat) : Bool := decide (off < 2 ^ 25)

/-- An access is of 1, 2, 4 or 8 bytes; all but 4 and 8 are discarded (R11). -/
def widthWf (w : Nat) : Bool := w = 1 || w = 2 || w = 4 || w = 8

/-- A link is 1, 2, 4, 8 or 16 lanes wide. -/
def linkWidthWf (w : Nat) : Bool := w = 1 || w = 2 || w = 4 || w = 8 || w = 16

/-- A plan entry's fields have the widths of R59; DESC is a handle of 32 bits or names one of the model's own operations (log entry 71). -/
def PEntry.wf (e : PEntry) : Bool :=
  decide (e.start < 1024) && decide (e.op < 16) && decide (e.cls < 4) && decide (e.est < 1024) && decide (e.desc < 2 ^ 96)

/-- What bring-up finds concerns channels of the 96 and at most 16 dies on each. -/
def chansWf (l : List (Nat × ChannelPages)) : Bool := l.all fun x => decide (x.1 < 96) && decide (x.2.dies.length ≤ 16)

/-- A Dataset Management command carries at most 256 ranges. -/
def rangesWf (l : List LbaRange) : Bool := decide (l.length ≤ 256) && l.all fun r => decide (r.lba < 2 ^ 64) && decide (r.len < 2 ^ 32)

/-- What a boot finds concerns channels of the device and slots of the system area. -/
def BootFinds.wf (b : BootFinds) : Bool := chansWf b.chans && decide (b.running ≤ 4) && b.images.all fun i => decide (1 ≤ i.slot) && decide (i.slot ≤ 4)

end Sys2Proof.Machine

namespace Sys2Proof

open Machine

/-- A command is well formed. -/
def Instr.wf : Instr → Bool
  | .registerWrite ag off width value => ag.wf && offWf off && widthWf width && decide (value < 256 ^ width)
  | .lowerHalfRead ag off => ag.wf && offWf off
  | .upperHalfRead ag off => ag.wf && offWf off
  | .ucbFaultClear ag win value => ag.wf && decide (win < 2560) && decide (value < 2 ^ 64)
  | .unitResetRequest ag win _ _ => ag.wf && decide (win < 2560)
  | .unitPowerRequest ag win target _ => ag.wf && decide (win < 2560) && decide (target < 8)
  | .resetStart win => decide (win < 2560)
  | .resetComplete win chans => decide (win < 2560) && chansWf chans
  | .requestTimeout win => decide (win < 2560)
  | .powerChangeStart win => decide (win < 2560)
  | .powerChangeComplete win chans => decide (win < 2560) && chansWf chans
  | .wakeOnAccess ag off width _ _ => ag.wf && offWf off && widthWf width
  | .chipWarmResetRequest ag _ => ag.wf
  | .chipColdResetRequest ag _ _ => ag.wf
  | .chipReset => true
  | .tickBoundary => true
  | .tickOverrun die => decide (die < 1536)
  | .planSeal die entries => decide (die < 1536) && entries.all PEntry.wf
  | .atTickActions => true
  | .tickInFrame _ frame => decide (frame.length ≤ 128)
  | .ptmExchange port link _ masterNs => decide (port < 2) && decide (link < 4) && decide (masterNs < 2 ^ 64)
  | .tickLockAcquired => true
  | .tickSourceLost => true
  | .tkSrcWrite ag value => ag.wf && decide (value < 2 ^ 64)
  | .tkNextGo ag period => ag.wf && decide (period < 2 ^ 32)
  | .tkCancel ag tick => ag.wf && decide (tick < 2 ^ 64)
  | .tkSnapTake ag => ag.wf
  | .plannedEntryStart die => decide (die < 1536)
  | .linkUp port link speed width _ => decide (port < 2) && decide (link < 4) && decide (speed < 8) && linkWidthWf width
  | .linkDown port link _ => decide (port < 2) && decide (link < 4)
  | .perstAssert port => decide (port < 2)
  | .perstDeassert port => decide (port < 2)
  | .flr fn => decide (fn < 264)
  | .vfDisable fn => decide (fn < 264)
  | .d3hotEntry fn => decide (fn < 264)
  | .d3hotToD0Reset fn => decide (fn < 264)
  | .busMasterEnableSet fn => decide (fn < 264)
  | .busMasterEnableClear fn => decide (fn < 264)
  | .disableComplete scope => scope.wf
  | .disableTimeout scope => scope.wf
  | .vfallocWrite ag pf first count => ag.wf && decide (pf < 8) && decide (first < 256) && decide (count < 512)
  | .heCfgWrite ag port speed bifur => ag.wf && decide (port < 2) && decide (speed < 8) && decide (bifur < 4)
  | .invalidateRequest fn addr size tag => decide (fn < 264) && decide (addr < 2 ^ 64) && decide (size < 2 ^ 64) && decide (tag < 256)
  | .invalidationCompletion fn tag => decide (fn < 264) && decide (tag < 256)
  | .translationCompletion fn addr size _ => decide (fn < 264) && decide (addr < 2 ^ 64) && decide (size < 2 ^ 64)
  | .dmaReadCompletion _ _ offset _ => decide (offset < 2 ^ 32)
  | .completionTimeout _ => true
  | .undefinedBarRequest fn bar off _ => decide (fn < 264) && decide (bar < 6) && decide (off < 2 ^ 26)
  | .l1Entry port link => decide (port < 2) && decide (link < 4)
  | .l12Entry port link => decide (port < 2) && decide (link < 4)
  | .l0pNarrow port link width => decide (port < 2) && decide (link < 4) && linkWidthWf width
  | .l1Exit port link => decide (port < 2) && decide (link < 4)
  | .sqTailDoorbell fn sqid tail => decide (fn < 264) && decide (sqid < 65536) && decide (tail < 65536)
  | .cqHeadDoorbell fn cqid head => decide (fn < 264) && decide (cqid < 65536) && decide (head < 65536)
  | .commandFetch fn sqid sqe => decide (fn < 264) && decide (sqid < 65536) && decide (sqe.length = 64)
  | .ccEnSet fn cc aqa asq acq => decide (fn < 264) && decide (cc < 2 ^ 32) && decide (aqa < 2 ^ 32) && decide (asq < 2 ^ 64) && decide (acq < 2 ^ 64)
  | .ccEnClear fn => decide (fn < 264)
  | .shutdownNotification fn _ => decide (fn < 264)
  | .shutdownComplete fn => decide (fn < 264)
  | .createIoSq _ => true
  | .createIoCq _ => true
  | .deleteIoSq _ => true
  | .deleteIoCq _ => true
  | .getLogPage _ => true
  | .getLogEraseCounts _ => true
  | .getLogRecorderExport _ => true
  | .getLogFaultStatus _ => true
  | .identify _ => true
  | .nvmeAbort _ => true
  | .setFeaturesArbitration _ => true
  | .setFeaturesPowerManagement _ => true
  | .setFeaturesTemperatureThreshold _ => true
  | .setFeaturesErrorRecovery _ => true
  | .setFeaturesNumberOfQueues _ => true
  | .setFeaturesInterruptConfig _ => true
  | .setFeaturesAsyncEventConfig _ => true
  | .setFeaturesTimestamp _ => true
  | .setFeaturesQueueAttributes _ => true
  | .getFeatures _ => true
  | .getFeaturesTimestamp _ => true
  | .getFeaturesQueueAttributes _ => true
  | .asyncEventRequest _ => true
  | .namespaceManagementCreate _ _ => true
  | .namespaceManagementDelete _ => true
  | .namespaceAttachment _ _ => true
  | .firmwareImageDownload _ _ => true
  | .commitNoActivation _ => true
  | .commitActivateAtReset _ => true
  | .activateExistingSlot _ => true
  | .commitActivateNow _ => true
  | .commitActivateAtTick _ => true
  | .formatNvm _ => true
  | .formatComplete node => decide (node < 4096)
  | .sanitizeBlockErase _ => true
  | .sanitizeCryptoErase _ => true
  | .sanitizeOverwrite _ => true
  | .sanitizeExitFailureMode _ => true
  | .sanitizeComplete _ => true
  | .nvmeRead _ => true
  | .nvmeWrite _ => true
  | .nvmeFlush _ => true
  | .nvmeWriteZeroes _ => true
  | .nvmeDatasetManagement _ ranges => rangesWf ranges
  | .nvmeVerify _ => true
  | .miReadDataStructure => true
  | .miSubsystemHealthPoll => true
  | .miControllerHealthPoll => true
  | .miConfigurationGet id => decide (id < 256)
  | .miConfigurationSet id value => decide (id < 256) && decide (value < 2 ^ 64)
  | .miVpdRead _ => true
  | .miVpdWrite => true
  | .miTunneledAdmin sqe => decide (sqe.length = 64)
  | .basicManagementCommand => true
  | .pushWindowWrite fn off _ _ => decide (fn < 264) && decide (off < 2 ^ 26)
  | .packetIntake q => decide (q < 1024)
  | .read _ => true
  | .readUnpack _ => true
  | .write _ => true
  | .writePack _ => true
  | .flushBlock _ => true
  | .pin _ => true
  | .unpin _ => true
  | .abort _ => true
  | .fence _ => true
  | .time _ => true
  | .gather _ => true
  | .packOnly _ => true
  | .dataWindowWrite fn off _ _ => decide (fn < 264) && decide (off < 2 ^ 26)
  | .grantIssue _ woff => decide (woff < 2 ^ 26)
  | .grantExpiry _ grant => decide (grant < 256)
  | .replyHeadWrite q value => decide (q < 1024) && decide (value < 2 ^ 64)
  | .xrHeadWrite q value => decide (q < 1024) && decide (value < 2 ^ 64)
  | .eventHeadWrite fn value => decide (fn < 264) && decide (value < 2 ^ 64)
  | .lateNotice _ => true
  | .reserveChanged fn => decide (fn < 264)
  | .fenceComplete _ => true
  | .pinPreloadComplete _ => true
  | .queueEnable ag q => ag.wf && decide (q < 1024)
  | .queueDisable ag q => ag.wf && decide (q < 1024)
  | .queueDisabled q => decide (q < 1024)
  | .jqFgoldWrite ag fn slots => ag.wf && decide (fn < 264) && decide (slots < 65536)
  | .eventRingEnable ag fn value => ag.wf && decide (fn < 264) && decide (value < 2 ^ 64)
  | .createStack ag => ag.wf
  | .setChildren ag _ => ag.wf
  | .deleteStack ag _ => ag.wf
  | .setWritable ag => ag.wf
  | .clearWritable ag => ag.wf
  | .grow ag => ag.wf
  | .nodeDeletionComplete node => decide (node < 4096)
  | .mapMissFill node l => decide (node < 4096) && decide (l < 2 ^ 48)
  | .allocationGiveUp node l => decide (node < 4096) && decide (l < 2 ^ 48)
  | .mcInv ag node => ag.wf && decide (node < 4096)
  | .invalidationSweepDone node => decide (node < 4096)
  | .lockedLineRefill node l => decide (node < 4096) && decide (l < 2 ^ 48)
  | .mapCacheDisable ag => ag.wf
  | .mapCacheEnable ag => ag.wf
  | .drainComplete => true
  | .resetInvalidationDone => true
  | .mapWriteBack node page => decide (node < 4096) && decide (page < 2 ^ 48)
  | .journalPageProgram => true
  | .readCall ag cl slot _ => ag.wf && decide (cl < 8) && decide (slot < 1536)
  | .readMarginCall ag cl slot _ => ag.wf && decide (cl < 8) && decide (slot < 1536)
  | .programCall ag cl slot _ => ag.wf && decide (cl < 8) && decide (slot < 1536)
  | .eraseCall ag cl slot _ => ag.wf && decide (cl < 8) && decide (slot < 1536)
  | .suspendCall ag cl slot _ => ag.wf && decide (cl < 8) && decide (slot < 1536)
  | .resumeCall ag cl slot _ => ag.wf && decide (cl < 8) && decide (slot < 1536)
  | .statusCall ag cl slot _ => ag.wf && decide (cl < 8) && decide (slot < 1536)
  | .eraseCountCall ag cl slot _ => ag.wf && decide (cl < 8) && decide (slot < 1536)
  | .featureCall ag cl slot _ => ag.wf && decide (cl < 8) && decide (slot < 1536)
  | .retireCall ag cl slot _ => ag.wf && decide (cl < 8) && decide (slot < 1536)
  | .msCplRead ag cl k => ag.wf && decide (cl < 8) && decide (k < 6)
  | .readCallComplete die units _ => decide (die < 1536) && decide (units.length ≤ 4)
  | .readMarginComplete die _ => decide (die < 1536)
  | .programCallComplete die _ _ => decide (die < 1536)
  | .eraseCallComplete die _ _ => decide (die < 1536)
  | .suspendComplete die => decide (die < 1536)
  | .sealedGateViolation core ch => decide (core < 64) && decide (ch < 96)
  | .sealedTimeout core => decide (core < 64)
  | .mediaOpTimeout die => decide (die < 1536)
  | .mediaBrownoutAssert rail => decide (rail < 8)
  | .mediaBrownoutDeassert => true
  | .bandOpen kind rot dies _ => decide (1 ≤ kind) && decide (kind < 5) && decide (rot < 8) && decide (dies.length = 16)
  | .gcCopy place => decide (place < 2 ^ 48)
  | .gcCommit place => decide (place < 2 ^ 48)
  | .release _ => true
  | .blockErase die block mode => decide (die < 1536) && decide (block < 65536) && decide (mode < 3)
  | .hostWriteAdmission => true
  | .staticWearLevelling _ => true
  | .reserveRefill die block => decide (die < 1536) && decide (block < 65536)
  | .ladderStep place => decide (place < 2 ^ 48)
  | .deepDecodeStart cl => decide (cl < 8)
  | .deepDecodeDone place _ => decide (place < 2 ^ 48)
  | .hedgeRebuild place _ => decide (place < 2 ^ 48)
  | .hedgeRetry place => decide (place < 2 ^ 48)
  | .cmdMaxExpiry _ => true
  | .backgroundRecoveryPass node g stage _ => decide (node < 4096) && decide (g < 2 ^ 48) && decide (stage < 4)
  | .recoveryCommit node g => decide (node < 4096) && decide (g < 2 ^ 48)
  | .patrolRead _ => true
  | .refresh _ => true
  | .correctedMemoryError mem addr bitNo whereIs => decide (mem < 6) && decide (addr < 2 ^ 64) && decide (bitNo < 1024) && decide (whereIs < 2 ^ 32)
  | .uncorrectableMemoryError mem addr _ => decide (mem < 6) && decide (addr < 2 ^ 64)
  | .scrubRead mem addr _ _ => decide (mem < 6) && decide (addr < 2 ^ 64)
  | .eccLogClear ag => ag.wf
  | .decompressionJobStart engine cl => decide (engine < 32) && decide (cl < 8)
  | .decompressionJobDone engine => decide (engine < 32)
  | .compressionJobStart engine _ => decide (32 ≤ engine) && decide (engine < 40)
  | .compressionJobDone engine _ => decide (32 ≤ engine) && decide (engine < 40)
  | .dictLoad ag node _ => ag.wf && decide (node < 4096)
  | .dictDrop ag node => ag.wf && decide (node < 4096)
  | .dictLoadDone ag _ => ag.wf
  | .getInfo req => decide (req.length ≤ 65536)
  | .getChallenge req => decide (req.length ≤ 65536)
  | .claimOwner req _ _ => decide (req.length ≤ 65536)
  | .releaseOwner req => decide (req.length ≤ 65536)
  | .licenceInstall req _ => decide (req.length ≤ 65536)
  | .licenceRemove req => decide (req.length ≤ 65536)
  | .licenceStatus req => decide (req.length ≤ 65536)
  | .timeAttest req _ _ => decide (req.length ≤ 65536)
  | .monoAdvance req _ _ => decide (req.length ≤ 65536)
  | .setField req => decide (req.length ≤ 65536)
  | .protectionBatchSubmit ag _ count => ag.wf && decide (count < 2 ^ 16)
  | .keyDestruction node gen => decide (node < 4096) && decide (gen < 2 ^ 20)
  | .timeFloorRaise => true
  | .lockstepMismatch pair => decide (pair < 5)
  | .coreHang core => decide (core < 64)
  | .idleTimerExpiry => true
  | .modeEntry => true
  | .mediaQuiet => true
  | .modeExit => true
  | .domainWake win => decide (win < 2560)
  | .domainRegate win => decide (win < 2560)
  | .scaleChange => true
  | .setFloor ag arg _ => ag.wf && decide (arg < 256)
  | .shutdown ag _ => ag.wf
  | .vauxRise _ => true
  | .keepToPatrol => true
  | .vauxFall => true
  | .vbatFall => true
  | .mainEnAssert => true
  | .patrolRound samples => decide (samples.length ≤ 48)
  | .pfailN => true
  | .supplyBrownout rail => decide (rail < 8)
  | .flushEnergyCheck _ _ _ => true
  | .flushEnd _ => true
  | .prechargeCeiling _ => true
  | .chargerTopUp _ => true
  | .chargeTimeout => true
  | .bankOvervolt _ => true
  | .testNow ag => ag.wf
  | .testIntervalDue => true
  | .capacitanceTestStart => true
  | .capacitanceTestEnd _ _ => true
  | .huECeilWrite ag ceil => ag.wf && decide (ceil < 2 ^ 16)
  | .housekeepingRound samples _ => decide (samples.length ≤ 48)
  | .thermalShutDown sensor => decide (sensor < 48)
  | .hkTjThrWrite ag value => ag.wf && decide (value < 2 ^ 64)
  | .hkWwinWrite ag value => ag.wf && decide (value < 2 ^ 64)
  | .calTrimStep => true
  | .calOscStop => true
  | .calSet ag => ag.wf
  | .calAlarm k => decide (k < 2)
  | .calAlarmArm ag k => ag.wf && decide (k < 2)
  | .calBcd0Read ag => ag.wf
  | .faultWindowClose src => decide (src < 320)
  | .fcStickyClear ag g value => ag.wf && decide (g < 2 ^ 48) && decide (value < 2 ^ 64)
  | .fcUnackClear ag g value => ag.wf && decide (g < 2 ^ 48) && decide (value < 2 ^ 64)
  | .fcSrcCfgWrite ag _ value => ag.wf && decide (value < 2 ^ 64)
  | .erFreezeWrite ag _ => ag.wf
  | .freezeTimeout ag => ag.wf
  | .recorderClear ag => ag.wf
  | .recorderClearPending => true
  | .histogramConfigWrite ag reg value => ag.wf && decide (reg < 3) && decide (value < 2 ^ 64)
  | .commitVerifyDone _ _ => true
  | .slotWriteDone _ => true
  | .mapReloadHalf => true
  | .clusterRollPrepare => true
  | .clusterOutOfService => true
  | .clusterCoreReady core _ => decide (core < 64)
  | .clusterReturn => true
  | .clusterWaitTimeout => true
  | .reloadFail core => decide (core < 64)
  | .activationRecord => true
  | .mainPgQualified samples _ => decide (samples.length ≤ 48)
  | .startup b => b.wf
  | .undefinedRegisterRead ag off width => ag.wf && offWf off && widthWf width
  | .atsEnableClear fn => decide (fn < 264)
  | .vfEnableSet fn numVfs => decide (fn < 264) && decide (numVfs < 65536)
  | .chargeTargetReached _ => true
  | .bandAgeRefresh _ => true
  | .mailboxCommandDone req _ => decide (req.length ≤ 65536)
  | .mainPgDeassert => true
  | .pfailNDeassert => true
  | .frontReloadDone => true

end Sys2Proof
end

