-- ==== Sys2Proof/Safety.lean ====
section
/-! DEFINITION. What counts as a sound state of the block, in the terms the statements use: every sparse store of the state is in its
canonical form, and no register field holds more than its width. -/

namespace Sys2Proof.Machine

/-- The register fields are in canonical form. -/
def State.regsWf (s : State) : Bool := Sparse.wf RKey.lt RKey.reset s.regs

/-- Every listed register field holds a value of its width. -/
def State.regsFit (s : State) : Bool := s.regs.all fun x => decide (x.2 < 2 ^ x.1.f.info.width)

/-- The byte stores of packet slots, grants and descriptor slots are in canonical form, and so is what the dies store. -/
def State.storesWf (s : State) : Bool :=
  Sparse.wf Sparse.below (fun _ => none) s.slots && Sparse.wf Sparse.below (fun _ => none) s.dataWin && Sparse.wf Sparse.below (fun _ => 0) s.desc
    && Sparse.wf Sparse.below (fun _ => none) s.flash

/-- The state of the block is sound. -/
def State.sound (s : State) : Bool := s.regsWf && s.regsFit && s.storesWf

/-- A run is safe from a state when its steps stop nowhere. -/
def safeFor : Nat → State → Bool
  | 0, _ => true
  | n + 1, s => match step s with
    | .next t => safeFor n t
    | .fault _ | .refused _ => false

end Sys2Proof.Machine
end

