-- ==== Sys2Proof/Certificates/Slice0/Obligations.lean ====
section
/-! DEFINITION. The statements about the model, for the provers. -/

section

open Sys2Proof Sys2Proof.Machine

/-- For every command c, every queue rest q and every state s whose queue is c followed by q, step of s is exec of c on s with the
queue q: no command is skipped, doubled or taken out of order. The queue is the model's own (a block takes commands from outside,
log entry 1). -/
def Obligations.StepTakesTheFrontCommand : Prop :=
  ∀ (c : Instr) (q : List Instr) (s : State), s.pending = c :: q → step s = exec c { s with pending := q }

/-- With no command waiting, step answers a next state in which TK_PHASE has advanced by 10 ns, up to the length the current tick
has with its corrections and at most to 999,999, and every other field and every other part of the state is as before. That time
passes in steps of one reference cycle is the model's choice (log entry 2). -/
def Obligations.EmptyQueueLetsOneReferenceCyclePass : Prop :=
  ∀ s : State, s.pending = [] → ∃ t, step s = .next t ∧ t.get .TK_PHASE_PHASE = min (s.get .TK_PHASE_PHASE + 10) (min s.tickNs 999999)
    ∧ t.out = s.out ∧ t.cmds = s.cmds ∧ t.flash = s.flash ∧ t.pending = []
    ∧ ∀ f i a, f ≠ .TK_PHASE_PHASE → t.get f i a = s.get f i a

/-- Whatever command runs in whatever state, the queue of waiting commands after exec is the queue before it. The queue is the
model's own (log entry 60). -/
def Obligations.CommandsLeaveTheQueue : Prop :=
  ∀ (c : Instr) (s t : State), exec c s = .next t → t.pending = s.pending

/-- Every command of the table, with any operands, in any state, is answered with a next state: exec neither faults nor refuses.
-/
def Obligations.EveryCommandHasAnEffect : Prop :=
  ∀ (c : Instr) (s : State), ∃ t, exec c s = .next t

/-- The state after reset is sound: its register fields, slots, windows, descriptor bytes and dies are in canonical form and no
field holds more than its width. -/
def Obligations.ResetStateIsSound : Prop :=
  State.reset.sound = true

/-- From every sound state, whatever command waits at the front of the queue and on an empty queue, a step that answers a next
state answers a sound one. Sound means that every sparse store (register fields, packet slots, data window, descriptor slots,
dies) is in canonical form and that no register field ever holds a value wider than the field. -/
def Obligations.EveryStepKeepsTheStateSound : Prop :=
  ∀ s t : State, s.sound = true → step s = .next t → t.sound = true

/-- For an aligned offset at which a register stands that has no unit or whose unit is ON. REGISTER_WRITE of 4 bytes writes the
value's low 32 bits to the register, or to that half of a 64-bit one; of 8 bytes to a 64-bit register all 64, TK_CANCEL acting; of
8 bytes where no 64-bit register stands it is the two 4-byte writes, the lower first; to a descriptor slot word of a cluster that
is ON it writes the four bytes. A read of 4 bytes of a 32-bit register sends what the register reads as. LOWER_HALF_READ of a
64-bit register sends the low half of its value and loads the agent's latch with the upper half, and UPPER_HALF_READ sends the
latched half, or, with no latch of that register, the upper half of its value. Every read ends by sending its answer to the agent
that asked. A TS_TICK written in 8 bytes by an agent that may write it holds the value for that agent, and its two halves read
back as written. -/
def Obligations.WritesOfPlainRegistersReadBack : Prop :=
  (∀ (s : State) ag off v l, off % 4 = 0 → s.target off = .reg l → (∀ w, (Target.reg l).unit = some w → s.unitPower w = 0) →
      exec (.registerWrite ag off 4 v) s = .next (s.writeHalf ag l (v % 2 ^ 32))
        ∧ (l.reg.desc.wide = false → s.writeHalf ag l (v % 2 ^ 32) = s.writeReg ag l (v % 2 ^ 32)))
    ∧ (∀ (s : State) ag off v l, off % 8 = 0 → s.target off = .reg l → l.reg.desc.wide = true → l.upper = false →
      (∀ w, (Target.reg l).unit = some w → s.unitPower w = 0) → exec (.registerWrite ag off 8 v) s
        = .next (if l.reg = .TK_CANCEL then s.writeCancel ag (v % 2 ^ 64) else s.writeReg ag l (v % 2 ^ 64)))
    ∧ (∀ (s : State) ag off v, off % 8 = 0 → s.wideAt off = none → ∃ t, exec (.registerWrite ag off 4 v) s = .next t
      ∧ exec (.registerWrite ag off 8 v) s = exec (.registerWrite ag (off + 4) 4 (v / 2 ^ 32)) t)
    ∧ (∀ (s : State) ag off v cl o, off % 4 = 0 → s.target off = .slot cl o → s.unitPower (uCluster cl) = 0 →
      exec (.registerWrite ag off 4 v) s = .next (s.writeSlot ag cl o (natLe 4 (v % 2 ^ 32)))
        ∧ exec (.lowerHalfRead ag off) s = .next (s.emit (.readData ag off 4 (s.descNat cl (o / 32) (o % 32) 4))))
    ∧ (∀ (s : State) ag off l, off % 4 = 0 → s.target off = .reg l → l.reg.desc.wide = false →
      (∀ w, (Target.reg l).unit = some w → s.unitPower w = 0) →
      exec (.lowerHalfRead ag off) s = .next ((s.readReg ag l).2.emit (.readData ag off 4 (s.readReg ag l).1)))
    ∧ (∀ (s : State) ag off l, off % 4 = 0 → s.target off = .reg l → l.reg.desc.wide = true → l.upper = false →
      (∀ w, (Target.reg l).unit = some w → s.unitPower w = 0) → ∃ t, exec (.lowerHalfRead ag off) s = .next t
        ∧ t.out = (s.readReg ag l).2.out ++ [.readData ag off 4 ((s.readReg ag l).1 % 2 ^ 32)]
        ∧ (ag.ix, off, (s.readReg ag l).1 / 2 ^ 32) ∈ t.latches ∧ t.regs = (s.readReg ag l).2.regs)
    ∧ (∀ (s : State) ag off l, off % 4 = 0 → s.target off = .reg l → l.upper = true → l.reg.desc.wide = true →
      (∀ w, (Target.reg l).unit = some w → s.unitPower w = 0) → exec (.upperHalfRead ag off) s
        = .next (match s.latches.find? fun y => y.1 = ag.ix && y.2.1 = Loc.start off l with
          | some x => s.emit (.readData ag off 4 x.2.2)
          | none => (s.readReg ag l).2.emit (.readData ag off 4 ((s.readReg ag l).1 / 2 ^ 32))))
    ∧ (∀ (s : State) ag v, s.unitPower uMap = 0 → s.mayWrite ag .ownerFeMp = true → v < 2 ^ 64 → ∃ t u w : State,
      exec (.registerWrite ag 0xD0050 8 v) s = .next t ∧ t.get .TS_TICK 0 ag.ix = v ∧ t.out = s.out
        ∧ exec (.lowerHalfRead ag 0xD0050) t = .next u ∧ u.out = t.out ++ [.readData ag 0xD0050 4 (v % 2 ^ 32)]
        ∧ exec (.upperHalfRead ag 0xD0054) u = .next w ∧ w.out = u.out ++ [.readData ag 0xD0054 4 (v / 2 ^ 32)])

/-- A read of another width or alignment than R11 allows sends all ones of its width and changes nothing else; a write of one
leaves the state as it was. A 4-byte read at an aligned offset that holds nothing sends 0xFFFF_FFFF after raising the decode
source, and a 4-byte write there raises the decode source. An access to a functional register of a unit in CLOCK_GATED, RETAIN or
while it wakes (power state 1, 2 or 4) takes place after the unit has been woken, the stall counted in UCB_CNT4 and its length
added to UCB_CNT5. A read then answers what the register reads as. An access to a unit that is OFF sets UCB_FAULT.REFUSED and is
counted in UCB_CNT2; a read of it sends all ones. -/
def Obligations.AccessesThatReachNoRegister : Prop :=
  (∀ (s : State) ag off w, wellFormedAccess off w = false →
      exec (.undefinedRegisterRead ag off w) s = .next (s.emit (.readData ag off w (2 ^ (8 * w) - 1))))
    ∧ (∀ (s : State) ag off w v, wellFormedAccess off w = false → exec (.registerWrite ag off w v) s = .next s)
    ∧ (∀ (s : State) ag off, off % 4 = 0 → s.target off = .undefined →
      exec (.undefinedRegisterRead ag off 4) s = .next ((s.decodeFault ag).emit (.readData ag off 4 0xFFFFFFFF)))
    ∧ (∀ (s : State) ag off v, off % 4 = 0 → s.target off = .undefined → exec (.registerWrite ag off 4 v) s = .next (s.decodeFault ag))
    ∧ (∀ (s : State) ag off v ns l w, off % 4 = 0 → s.target off = .reg l → (Target.reg l).unit = some w → s.unitPower w ≠ 0 →
      s.unitPower w ≠ 3 → exec (.wakeOnAccess ag off 4 (some v) ns) s
        = .next ((((s.wakeUnit w).bump .UCB_CNT4 w).add .UCB_CNT5 ns w).writeHalf ag l (v % 2 ^ 32)))
    ∧ (∀ (s : State) ag off v ns l w, off % 4 = 0 → s.target off = .reg l → (Target.reg l).unit = some w → s.unitPower w = 3 →
      exec (.wakeOnAccess ag off 4 (some v) ns) s = .next ((s.putFlag .UCB_FAULT_REFUSED true w).bump .UCB_CNT2 w))
    ∧ (∀ (s : State) ag off ns l w, off % 4 = 0 → s.target off = .reg l → (Target.reg l).unit = some w → s.unitPower w = 3 →
      exec (.wakeOnAccess ag off 4 none ns) s = .next (((s.putFlag .UCB_FAULT_REFUSED true w).bump .UCB_CNT2 w).emit (.readData ag off 4 0xFFFFFFFF)))
    ∧ (∀ (s t : State) ag off ns l w, off % 4 = 0 → s.target off = .reg l → l.reg.desc.wide = false → (Target.reg l).unit = some w → s.unitPower w ≠ 0 →
      s.unitPower w ≠ 3 → t = (((s.wakeUnit w).bump .UCB_CNT4 w).add .UCB_CNT5 ns w) → exec (.wakeOnAccess ag off 4 none ns) s
        = .next ((t.readReg ag l).2.emit (.readData ag off 4 (t.readReg ag l).1)))

/-- After a field is stored, reading it answers the value stored modulo two to its width, and reading any field of another name,
instance or agent answers what it answered before. -/
def Obligations.FieldWritesObeyWidthAndOthersStay : Prop :=
  ∀ (s : State) (f : Field) (v i a : Nat), (s.put f v i a).get f i a = v % 2 ^ f.info.width
    ∧ ∀ g j b, ¬(g = f ∧ j = i ∧ b = a) → (s.put f v i a).get g j b = s.get g j b

/-- Counting an event in a counter of 64 bits adds one to it, up to 0x7FFF_FFFF_FFFF_FFFF, where it stays, and changes no other
field. -/
def Obligations.CountersSaturate : Prop :=
  ∀ (s : State) (f : Field) (i : Nat), f.info.width = 64 → (s.bump f i).get f i = min (s.get f i + 1) 0x7FFFFFFFFFFFFFFF
    ∧ ∀ g j b, g ≠ f → (s.bump f i).get g j b = s.get g j b

/-- With source TICK_IN, a frame built as R56 says from a count and the block's own period, whose edge is within 2 µs, counts
toward acquisition and its count is the source's; an edge outside 2 µs is counted as bad, but for the first good frame in
ACQUIRING, whose edge aligns the tick (log entry 70). On the selected link a PTM exchange counts and clears the misses, a failed
one clears the count and adds a miss. TICK_SOURCE_LOST in LOCKED after the misses of R50 gives HOLDOVER with SRC_LOST and raises
source 1; with the source still there it changes nothing. Written by an MP core, CHIP being ON and no field locked. TK_SRC with a
SOURCE of 4 to 7 leaves everything unchanged; with another source than before, TK_STS.LOCK is FREE for source 0 and ACQUIRING for
another, with frames and misses cleared, the tick not yet aligned and source 1 no longer present. A GO to TK_NEXT while one is
armed is REFUSED_BUSY; with an allowed period and a tick far enough ahead, it is ARMED and the change is armed for TK_NEXT_TICK.
TK_SNAP latches the count, phase and calendar. TICK_OVERRUN of a populated die whose bank is unsealed, while the planner works,
sets its plan to run over. -/
def Obligations.TickSourcesAndTickCommands : Prop :=
  (∀ (s : State) e n, s.get .TK_SRC_SOURCE = 1 → -2000 ≤ e → e ≤ 2000 → n < 2 ^ 64 → s.get .TK_PERIOD_PERIOD < 1024 →
      ∃ t, exec (.tickInFrame e (countFrame n (s.get .TK_PERIOD_PERIOD))) s = .next t ∧ t.get .X_TICK_SRCCNT = n
        ∧ t.get .X_TICK_FRAMES = min (s.get .X_TICK_FRAMES + 1) 255 ∧ t.out = s.out)
    ∧ (∀ (s : State) e f, s.get .TK_SRC_SOURCE = 1 → e < -2000 ∨ 2000 < e → (s.get .TK_STS_LOCK ≠ 1 ∨ s.flag .X_TICK_ALIGNED = true ∨ frameOk f = false) →
      exec (.tickInFrame e f) s = .next (s.bump .UCB_CNT2 uHousekeeping))
    ∧ (∀ (s : State) e n, s.get .TK_SRC_SOURCE = 1 → 2000 < e → e < 1000 * (s.get .TK_PERIOD_PERIOD : Int) → s.get .TK_PERIOD_PERIOD < 1000 →
      s.get .TK_STS_LOCK = 1 → s.flag .X_TICK_ALIGNED = false → n < 2 ^ 64 → ∃ t, exec (.tickInFrame e (countFrame n (s.get .TK_PERIOD_PERIOD))) s = .next t
        ∧ t.flag .X_TICK_ALIGNED = true ∧ (t.get .X_TICK_EXT : Int) = e ∧ t.get .X_TICK_FRAMES = s.get .X_TICK_FRAMES)
    ∧ (∀ (s : State) m, s.get .TK_SRC_SOURCE = 2 → ∃ t,
      exec (.ptmExchange (s.get .TK_SRC_PTM_PORT) (s.get .TK_SRC_PTM_LINK) true m) s = .next t
        ∧ t.get .X_TICK_FRAMES = min (s.get .X_TICK_FRAMES + 1) 255 ∧ t.get .X_MISSES = 0)
    ∧ (∀ (s : State) m, s.get .TK_SRC_SOURCE = 2 → exec (.ptmExchange (s.get .TK_SRC_PTM_PORT) (s.get .TK_SRC_PTM_LINK) false m) s
        = .next ((s.put .X_TICK_FRAMES 0).put .X_MISSES (s.get .X_MISSES + 1)))
    ∧ (∀ s : State, exec .tickSourceLost s = .next (if s.get .TK_STS_LOCK = 2 && s.sourceMissed then
        (((s.put .TK_STS_LOCK 3).putFlag .TK_STS_SRC_LOST true).put .X_TICK_FRAMES 0).raise 1 uChip (s.get .TK_SRC_SOURCE) else s))
    ∧ (∀ (s : State) c v, (Agent.core c).isMp = true → s.unitPower uChip = 0 → s.locks = [] → 4 ≤ v % 8 → exec (.tkSrcWrite (.core c) v) s = .next s)
    ∧ (∀ (s : State) c v, (Agent.core c).isMp = true → s.unitPower uChip = 0 → v % 8 < 4 → v % 8 ≠ s.get .TK_SRC_SOURCE → s.locks = [] →
      exec (.tkSrcWrite (.core c) v) s
        = .next ((((((s.writeRw (.core c) .TK_SRC v).put .TK_STS_LOCK (if v % 8 = 0 then 0 else 1)).put .X_TICK_FRAMES 0).put .X_MISSES 0).putFlag
          .X_TICK_ALIGNED false).clearLevel 1))
    ∧ (∀ (s : State) c p, (Agent.core c).isMp = true → s.unitPower uChip = 0 → s.locks = [] → s.flag .TK_NEXT_GO = true →
      exec (.tkNextGo (.core c) p) s = .next (s.put .TK_STS_NEXT_STATE 5))
    ∧ (∀ (s : State) c p, (Agent.core c).isMp = true → s.unitPower uChip = 0 → s.locks = [] → s.flag .TK_NEXT_GO = false → p < 1024 →
      s.get .CHP_CAP7_TICK_MIN ≤ p → p ≤ s.get .CHP_CAP7_TICK_MAX → s.tick + 2 ≤ s.get .TK_NEXT_TICK → ∃ t,
      exec (.tkNextGo (.core c) p) s = .next t ∧ t.get .TK_STS_NEXT_STATE = 1 ∧ t.flag .TK_NEXT_GO = true ∧ t.get .TK_NEXT_NEXT_PERIOD = p
        ∧ (∃ k, t.armed = s.armed ++ [⟨s.get .TK_NEXT_TICK, k, .period p⟩]) ∧ t.get .TK_PERIOD_PERIOD = s.get .TK_PERIOD_PERIOD)
    ∧ (∀ (s : State) c, (Agent.core c).isMp = true → s.unitPower uChip = 0 → exec (.tkSnapTake (.core c)) s
        = .next (((s.put .TK_SNAP_COUNT s.tick).put .TK_SNAP_PHASE (s.get .TK_PHASE_PHASE)).put .TK_SNAP_CAL s.calStamp))
    ∧ (∀ (s : State) d, s.flag .X_DIE_POP d = true → s.planning = true → (s.plan d).sealed = false → (s.plan d).missed = false → ∃ t,
      exec (.tickOverrun d) s = .next t ∧ (t.plan d).missed = true ∧ t.flash = s.flash ∧ t.calls = s.calls)

/-- A GO of any agent but PF0 without the Owner role to the reset or power request of a unit whose window exists and whose earlier
request is over. If a check of R667 fails, UCB_REQ_STS shows REFUSED (4), the kind and the reason, UCB_FAULT.REFUSED is set and
UCB_CNT2 counts. If none fails, UCB_REQ_STS shows PENDING (1), the kind and reason 0, and with USE_TICK the request is armed for
its tick, else nothing is armed. A reset request over a PENDING power request that passes its checks becomes PENDING itself and
the refusal of the power request is counted. UCB_FAULT_CLEAR of a window that does not exist raises the decode source, and on a
unit without descendants it clears exactly the named bits whose cause is gone. -/
def Obligations.UnitRequestsAreRecordedOrRefused : Prop :=
  (∀ (s : State) ag w imm ut r, (ag = .pf0 → s.isOwner ag = true) → s.windowExists w = true → s.reqBusy w = false →
      s.resetReason ag w ut = some r → ∃ t,
      exec (.unitResetRequest ag w imm ut) s = .next t ∧ t.get .UCB_REQ_STS_STATE w = 4 ∧ t.get .UCB_REQ_STS_KIND w = 1
        ∧ t.get .UCB_REQ_STS_REASON w = r % 256 ∧ t.flag .UCB_FAULT_REFUSED w = true ∧ t.get .UCB_CNT2 w = min (s.get .UCB_CNT2 w + 1) 0x7FFFFFFFFFFFFFFF
        ∧ t.cmds = s.cmds ∧ t.armed = s.armed)
    ∧ (∀ (s : State) ag w imm ut, (ag = .pf0 → s.isOwner ag = true) → s.windowExists w = true → s.reqBusy w = false →
      s.resetReason ag w ut = none → ∃ t,
      exec (.unitResetRequest ag w imm ut) s = .next t ∧ t.get .UCB_REQ_STS_STATE w = 1 ∧ t.get .UCB_REQ_STS_KIND w = 1
        ∧ t.get .UCB_REQ_STS_REASON w = 0 ∧ t.flag .UCB_RESET_REQ_GO w = true ∧ t.flag .X_REQ_IMMEDIATE w = imm ∧ t.cmds = s.cmds
        ∧ t.armed = s.armed ++ (if ut then [⟨s.get .UCB_RESET_TICK w, s.get .X_ARMSEQ,
            if w = uChip then .chipReset false 5 else .unitReset w imm⟩] else []))
    ∧ (∀ (s : State) ag w p ut r, (ag = .pf0 → s.isOwner ag = true) → s.windowExists w = true → s.reqBusy w = false →
      s.powerReason ag w (p % 8) ut = some r → ∃ t,
      exec (.unitPowerRequest ag w p ut) s = .next t ∧ t.get .UCB_REQ_STS_STATE w = 4 ∧ t.get .UCB_REQ_STS_KIND w = 2
        ∧ t.get .UCB_REQ_STS_REASON w = r % 256 ∧ t.flag .UCB_FAULT_REFUSED w = true ∧ t.cmds = s.cmds ∧ t.armed = s.armed)
    ∧ (∀ (s : State) ag w p ut, (ag = .pf0 → s.isOwner ag = true) → s.windowExists w = true → s.reqBusy w = false →
      s.powerReason ag w (p % 8) ut = none → ∃ t,
      exec (.unitPowerRequest ag w p ut) s = .next t ∧ t.get .UCB_REQ_STS_STATE w = 1 ∧ t.get .UCB_REQ_STS_KIND w = 2
        ∧ t.get .X_PWR_PEND w = p % 8 ∧ t.get .X_PWR_TARGET w = s.get .X_PWR_TARGET w ∧ t.cmds = s.cmds
        ∧ t.armed = s.armed ++ (if ut then [⟨s.get .UCB_POWER_TICK w, s.get .X_ARMSEQ, .unitPower w (p % 8)⟩] else []))
    ∧ (∀ (s : State) ag w imm, (ag = .pf0 → s.isOwner ag = true) → s.windowExists w = true → s.get .UCB_REQ_STS_STATE w = 1 →
      s.get .UCB_REQ_STS_KIND w = 2 → s.resetReason ag w false = none → ∃ t, exec (.unitResetRequest ag w imm false) s = .next t
        ∧ t.get .UCB_REQ_STS_STATE w = 1 ∧ t.get .UCB_REQ_STS_KIND w = 1 ∧ t.flag .UCB_POWER_REQ_GO w = false ∧ t.flag .UCB_FAULT_REFUSED w = true
        ∧ t.get .UCB_CNT2 w = min (s.get .UCB_CNT2 w + 1) 0x7FFFFFFFFFFFFFFF)
    ∧ (∀ (s : State) ag w v, s.windowExists w = false → exec (.ucbFaultClear ag w v) s = .next (s.decodeFault ag))
    ∧ (∀ (s : State) c w, s.windowExists w = true → s.subtree w = [w] → s.flag .UCB_FAULT_CORRECTED w = true → s.causeHolds w 0 = false →
      exec (.ucbFaultClear (.core c) w 1) s = .next (s.put .UCB_FAULT_CORRECTED 0 w))

/-- A pending reset without a tick, not covered by an ancestor's, whose media work rests or that is IMMEDIATE, of a unit that is
no cluster out of service for an activation, starts RUNNING: the unit and its subtree read RESETTING, what each die below it runs
is cut off (an erase is suspended first when the reset is not IMMEDIATE), and the unit loses what R624 says. A running, uncovered
one of a unit other than CHIP completes: the subtree is ready, the dies are reset, the channels brought up, the cores run, covered
requests below end MERGED, every unit of the subtree counts a reset, and UCB_REQ_STS shows DONE. REQUEST_TIMEOUT of a running
request sets UCB_FAULT.TIMEOUT and raises source 5. -/
def Obligations.UnitResetsRunAndEnd : Prop :=
  (∀ (s : State) w, s.get .UCB_REQ_STS_KIND w = 1 → s.get .UCB_REQ_STS_STATE w = 1 → s.reqTick w = none → s.covered w = false →
      (s.flag .X_REQ_IMMEDIATE w = true ∨ s.mediaAtRest w = true) → (unitType w = some .cluster → s.flag .X_CL_OOS (w - 0x108) = false) →
      exec (.resetStart w) s = .next ((forEach (((s.setReq w 2 1 0).markResetting w).diesOf w) ((s.setReq w 2 1 0).markResetting w) fun d u =>
        (if !s.flag .X_REQ_IMMEDIATE w && u.get .X_DIE_OP d = 2 && !u.flag .X_DIE_SUSP d then u.suspendDie d false else u).cutDie d).resetUnit w))
    ∧ (∀ (s : State) w chans, s.get .UCB_REQ_STS_KIND w = 1 → s.get .UCB_REQ_STS_STATE w = 2 → s.covered w = false → w ≠ uChip →
      exec (.resetComplete w chans) s = .next (
        let a := forEach (s.subtree w) s fun u x => (x.putFlag .X_OWN_READY true u).putFlag .UCB_STATUS_RESETTING false u
        let a := forEach (a.diesOf w) a fun d x => x.resetDie d false
        let a := forEach (channelsOf w) a fun ch x => x.bringBack chans ch
        let a := forEach (a.diesOf w) a fun d x => x.putFlag .UCB_STATUS_RESETTING false (uDie d)
        let a := (a.startCores (coresOf w)).mergeBelow w
        let a := forEach (a.subtree w) a fun u x => x.bump .UCB_CNT0 u
        (((a.setReq w 3 1 0).putFlag .UCB_RESET_REQ_GO false w).endTimeout w).updateGc))
    ∧ (∀ (s : State) w, s.get .UCB_REQ_STS_STATE w = 2 → exec (.requestTimeout w) s
        = .next (((s.putFlag .UCB_FAULT_TIMEOUT true w).putFlag .X_REQ_OVERDUE true w).raise 5 w (s.get .UCB_REQ_STS_KIND w)))
    ∧ (∀ (s : State) w, s.get .UCB_REQ_STS_STATE w ≠ 2 → exec (.requestTimeout w) s = .next s)

/-- A pending power request without a tick: while work below the unit goes on and the target is a lower-power state,
POWER_CHANGE_START changes nothing; otherwise UCB_REQ_STS shows RUNNING, and a unit on its way to a higher state wakes.
POWER_CHANGE_COMPLETE of a running one puts the target in force, shows DONE, drops GO and counts in UCB_CNT1; on the way from OFF
the dies are reset and their channels trained first. -/
def Obligations.PowerChangesRunAndEnd : Prop :=
  (∀ (s : State) w, s.get .UCB_REQ_STS_KIND w = 2 → s.get .UCB_REQ_STS_STATE w = 1 → s.reqTick w = none →
      s.get .X_PWR_TARGET w < s.get .X_PWR_PEND w → s.workBelow w = true → exec (.powerChangeStart w) s = .next s)
    ∧ (∀ (s : State) w, s.get .UCB_REQ_STS_KIND w = 2 → s.get .UCB_REQ_STS_STATE w = 1 → s.reqTick w = none →
      (s.get .X_PWR_PEND w ≤ s.get .X_PWR_TARGET w ∨ s.workBelow w = false) → ∃ t, exec (.powerChangeStart w) s = .next t
        ∧ t.get .UCB_REQ_STS_STATE w = 2 ∧ t.get .UCB_REQ_STS_KIND w = 2 ∧ t.get .UCB_REQ_STS_REASON w = 0
        ∧ t.get .X_PWR_FROM w = s.get .X_PWR_TARGET w % 8 ∧ t.get .X_PWR_TARGET w = s.get .X_PWR_TARGET w ∧ t.cmds = s.cmds ∧ t.calls = s.calls)
    ∧ (∀ (s : State) w chans, s.get .UCB_REQ_STS_KIND w = 2 → s.get .UCB_REQ_STS_STATE w = 2 →
      exec (.powerChangeComplete w chans) s = .next (
        let a := (s.put .X_PWR_TARGET (s.get .X_PWR_PEND w) w).putFlag .X_PWR_WAKING false w
        let b := if s.get .X_PWR_FROM w = 3 ∧ s.get .X_PWR_PEND w ≠ 3 then
            forEach (channelsOf w) (forEach (a.diesOf w) a fun d x => x.resetDie d false) fun ch x =>
              x.trainChannel ch ((chans.lookup ch).elim (List.range 8) fun f => f.trains)
          else a
        ((((b.setReq w 3 2 0).putFlag .UCB_POWER_REQ_GO false w).bump .UCB_CNT1 w).endTimeout w).updateGc))

/-- A request for a warm or cold chip reset by an MP core without a tick and without locks, CHIP being ON, is a request with
SOURCE 3. With a tick that passes R76 it is armed. A chip reset that is requested, outside a Hold-up flush, takes the links down
and leaves the reset's state; where a flush is due it first stops the media work, and while a program still runs it goes no
further. While none is requested CHIP_RESET changes nothing. -/
def Obligations.ChipResetCommands : Prop :=
  (∀ (s : State) c, (Agent.core c).isMp = true → s.unitPower uChip = 0 → s.locks = [] →
      exec (.chipWarmResetRequest (.core c) false) s = .next ((s.putFlag .CHP_CTL_USE_TICK false).requestChipReset false 3))
    ∧ (∀ (s : State) c w, (Agent.core c).isMp = true → s.unitPower uChip = 0 → s.locks = [] →
      exec (.chipColdResetRequest (.core c) w false) s = .next ((s.putFlag .CHP_CTL_USE_TICK false).requestChipReset true 3))
    ∧ (∀ (s : State) c, (Agent.core c).isMp = true → s.unitPower uChip = 0 → s.locks = [] → s.tick + 2 ≤ s.get .CHP_CTL_TICK →
      exec (.chipWarmResetRequest (.core c) true) s
        = .next ((s.putFlag .CHP_CTL_USE_TICK true).arm (s.get .CHP_CTL_TICK) (.chipReset false 3))
        ∧ ∀ w, exec (.chipColdResetRequest (.core c) w true) s
          = .next ((s.putFlag .CHP_CTL_USE_TICK true).arm (s.get .CHP_CTL_TICK) (.chipReset true 3)))
    ∧ (∀ s : State, s.get .X_CHIPRST = 0 → exec .chipReset s = .next s)
    ∧ (∀ s : State, s.get .X_CHIPRST ≠ 0 → s.powered = true → (s.mode = mHoldup → s.flag .X_FLUSH = false) →
      (s.flag .X_READY = false ∨ s.flag .X_FLUSHED = true → exec .chipReset s = .next s.dropLinks.afterReset)
      ∧ (s.flag .X_READY = true → s.flag .X_FLUSHED = false → exec .chipReset s
        = .next (if s.stopMedia.programming then s.stopMedia else s.stopMedia.resetFlush.dropLinks.afterReset)))

/-- With the rails down a boundary changes nothing; otherwise, after the throttle counters and an exit from Retain that ends, the
count advances by one, the phase is 0, every die's banks swap, and budgets, Gold capacity, reserves, quota, calendar and licences
of the new tick take effect in that order. Actions that are due act once a boundary in the order of R78; with a chip reset among
them the later steps are cancelled. A period change alone is then in force. A source seen long enough in HOLDOVER, or in ACQUIRING
without ADOPT, locks and leaves the count; in ACQUIRING with ADOPT another count is loaded, JUMPED and JUMP_FROM show it and what
was armed for the ticks between is cancelled. TK_CANCEL of an allowed tick cancels what is armed for it and counts it. While the
planner works, a plan that obeys R59 to R69 for a die that takes work is stored, sealed where there is still time; one that does
not changes nothing, and a die that takes no work but is available keeps what its closed plan holds. Otherwise nothing is sealed.
-/
def Obligations.TickBoundaryAndPlans : Prop :=
  (∀ s : State, s.powered = false → exec .tickBoundary s = .next s)
    ∧ (∀ s : State, s.powered = true → exec .tickBoundary s = .next (
        let a := if s.mode = mThrottle then s.bump .PM_CNT_THROTTLE_TICKS else s
        let a := if a.writeFactor < 256 then a.bump .MC_CNT_THROTTLE_TICKS else a
        let ns := a.tickNs
        let a := a.closeStranded.finishExit
        let a := ((a.put .TK_COUNT (a.tick + 1)).put .TK_PHASE_PHASE 0).endTick.tickSource.tickOut
        let a := forEach a.dies a.countSuspended fun d x => x.swapPlan (x.plan d)
        let a := a.countPlanned.publishBudgets.updateGold.updateReserves
        let a := (((a.updateGc.newQuota.tickCalendar ns).ageNonce ns).evalLicences.fwBoundary).wakeDue
        a.tickSamples (s.get .X_GOLD_USED)))
    ∧ (∀ (s t : State), s.powered = true → s.mode ≠ mRetain → s.flag .X_AT_BND = true → (∃ x ∈ s.armed, x.tick ≤ s.tick) →
      t = ({ s.putFlag .X_AT_BND false with armed := s.armed.filter fun x => !decide (x.tick ≤ s.tick) } : State) →
      ((∀ x ∈ s.armed, x.tick ≤ s.tick → x.act.order ≠ 1) → exec .atTickActions s
        = .next (forEach ([2, 3, 4, 5, 6, 7, 8].flatMap fun k => s.armed.filter fun x => decide (x.tick ≤ s.tick) && decide (x.act.order = k)) t
          fun x u => u.takeAct x.act))
      ∧ ((∃ x ∈ s.armed, x.tick ≤ s.tick ∧ x.act.order = 1) → exec .atTickActions s
        = .next (forEach ([2, 3, 4, 5, 6, 7, 8].flatMap fun k => s.armed.filter fun x => decide (x.tick ≤ s.tick) && decide (x.act.order = k))
          (forEach (s.armed.filter fun x => decide (x.tick ≤ s.tick) && decide (x.act.order = 1)) t fun x u => u.takeAct x.act)
          fun x u => u.cancelAct x.act)))
    ∧ (∀ (s : State) k q us, s.powered = true → s.mode ≠ mRetain → s.flag .X_AT_BND = true → s.armed = [⟨k, q, .period us⟩] → k ≤ s.tick → us < 1024 →
      ∃ t, exec .atTickActions s = .next t ∧ t.get .TK_PERIOD_PERIOD = us ∧ t.get .TK_STS_NEXT_STATE = 2 ∧ t.flag .TK_NEXT_GO = false
        ∧ t.armed = [] ∧ t.cmds = s.cmds ∧ t.out = s.out)
    ∧ (∀ s : State, s.sourceAcquired = true → (s.get .TK_STS_LOCK = 3 ∨ s.get .TK_STS_LOCK = 1 ∧ s.flag .TK_SRC_ADOPT = false) →
      ∃ t, exec .tickLockAcquired s = .next t ∧ t.get .TK_STS_LOCK = 2
        ∧ t.get .X_MISSES = 0 ∧ t.flag .X_SRC_PRESENT 1 = false ∧ t.get .TK_COUNT = s.get .TK_COUNT ∧ t.armed = s.armed)
    ∧ (∀ s : State, s.sourceAcquired = true → s.get .TK_STS_LOCK = 1 → s.flag .TK_SRC_ADOPT = true → s.sourceCount ≠ s.tick →
      ∃ u : State, exec .tickLockAcquired s = .next ((u.cancelWhere fun x => decide (s.tick < x.tick) && decide (x.tick < s.sourceCount)).raise 2 uChip 0)
        ∧ u.get .TK_STS_LOCK = 2 ∧ u.get .TK_COUNT = s.sourceCount % 2 ^ 64 ∧ u.flag .TK_STS_JUMPED = true ∧ u.get .TK_JUMP_FROM = s.tick % 2 ^ 64
        ∧ u.armed = s.armed)
    ∧ (∀ (s : State) c k, (Agent.core c).isMp = true → s.unitPower uChip = 0 → s.locks = [] → k < 2 ^ 64 → s.armOk k = true →
      (s.armed.all fun x => x.tick ≠ k) = true →
      exec (.tkCancel (.core c) k) s = .next ((s.put .TK_CANCEL_STS_RESULT 0).put .TK_CANCEL_STS_CANCELLED 0))
    ∧ (∀ (s : State) c k, (Agent.core c).isMp = true → s.unitPower uChip = 0 → s.locks = [] → k < 2 ^ 64 → s.armOk k = true →
      (∃ x ∈ s.armed, x.tick = k) → exec (.tkCancel (.core c) k) s
        = .next ((((forEach (s.armed.filter fun x => x.tick = k) ({ s with armed := s.armed.filter fun x => x.tick ≠ k } : State) fun x u => u.cancelAct x.act).put
          .TK_CANCEL_STS_RESULT 1).put .TK_CANCEL_STS_CANCELLED (min (s.armed.filter fun x => x.tick = k).length 0xFFFF))))
    ∧ (∀ (s : State) c k, (Agent.core c).isMp = true → s.unitPower uChip = 0 → s.locks = [] → k < 2 ^ 64 → s.armOk k = false →
      exec (.tkCancel (.core c) k) s = .next ((s.put .TK_CANCEL_STS_RESULT 2).put .TK_CANCEL_STS_CANCELLED 0))
    ∧ (∀ (s : State) d l, s.flag .X_DIE_POP d = true → s.planning = true → s.planClosed d = false → s.planOk d (sortPlan l) = true →
      ∃ t, exec (.planSeal d l) s = .next t ∧ (t.plan d).next = sortPlan l ∧ (t.plan d).sealed = s.sealInTime (s.plan d)
        ∧ (t.plan d).active = (s.plan d).active ∧ t.calls = s.calls ∧ t.flash = s.flash ∧ t.cmds = s.cmds)
    ∧ (∀ (s : State) d l, s.flag .X_DIE_POP d = true → s.planning = true → s.planClosed d = true → s.dieAvailable d = true →
      ∃ t, exec (.planSeal d l) s = .next t ∧ (t.plan d).next = s.closedPlan d (s.plan d).next ∧ (t.plan d).sealed = s.sealInTime (s.plan d)
        ∧ (t.plan d).active = (s.plan d).active ∧ t.regs = s.regs ∧ t.out = s.out)
    ∧ (∀ (s : State) d l, s.planClosed d = false → s.planOk d (sortPlan l) = false → exec (.planSeal d l) s = .next s)
    ∧ (∀ (s : State) d l, s.flag .X_DIE_POP d = false ∨ s.planning = false → exec (.planSeal d l) s = .next s)

/-- A link that exists, is down, whose port is out of PERST, at a speed and width within the port's limits, comes up with that
speed and width in L0 and unfreezes its functions. One that is up goes down with every function of it disabled; a DL_Down the host
did not cause also sets its SURPRISE_DOWN bit, raises its source and is reported. PERST takes every link of the port down and its
release applies BIFUR and MAX_SPEED. A write of HEp_CFG by an MP core without locks, FRONT being ON, stores the two values and
leaves the layout in force. -/
def Obligations.LinksTrainAndGoDown : Prop :=
  (∀ (s : State) p k sp w fl, p < 2 → k < 4 → s.flag .HE_LINK_STS_EXISTS (4 * p + k) = true → s.flag .HE_LINK_STS_UP (4 * p + k) = false →
      s.flag .X_PERST p = false → sp ≤ s.get .X_SPEED_EFF p → w ≤ layoutLanes (s.get .X_BIFUR_EFF p) → sp < 8 → w < 32 → ∃ t,
      exec (.linkUp p k sp w fl) s = .next t ∧ t.flag .HE_LINK_STS_UP (4 * p + k) = true ∧ t.get .HE_LINK_STS_SPEED (4 * p + k) = sp
        ∧ t.get .HE_LINK_STS_WIDTH (4 * p + k) = w ∧ t.get .HE_LINK_STS_LPM (4 * p + k) = 0
        ∧ t.flag .HE_LINK_STS_FLIT (4 * p + k) = (decide (5 ≤ sp) || fl) ∧ t.out = s.out ∧ t.cmds = s.cmds)
    ∧ (∀ (s : State) p k, p < 2 → k < 4 → s.flag .HE_LINK_STS_UP (4 * p + k) = true →
      exec (.linkDown p k true) s = .next (s.linkDown p k))
    ∧ (∀ (s : State) p k, p < 2 → k < 4 → s.flag .HE_LINK_STS_UP (4 * p + k) = true → exec (.linkDown p k false) s
      = .next ((((s.linkDown p k).put .HE_EVT_SURPRISE_DOWN ((s.linkDown p k).get .HE_EVT_SURPRISE_DOWN p ||| 2 ^ k) p).raise
        (40 + (4 * p + k)) uFront (4 * p + k)).reportAer (4 * p + k) aerSurprise))
    ∧ (∀ (s : State) p k h, p < 2 → k < 4 → s.flag .HE_LINK_STS_UP (4 * p + k) = false → exec (.linkDown p k h) s = .next s)
    ∧ (∀ (s : State) p, p < 2 → exec (.perstAssert p) s = .next (forEach [0, 1, 2, 3] (s.putFlag .X_PERST true p) fun k t =>
        if t.flag .HE_LINK_STS_UP (4 * p + k) then t.linkDown p k else t))
    ∧ (∀ (s : State) p, p < 2 → s.flag .X_PERST p = true → ∃ t, exec (.perstDeassert p) s = .next t ∧ t.flag .X_PERST p = false
        ∧ t.get .X_BIFUR_EFF p = s.get .HE_CFG_BIFUR p % 4 ∧ t.get .X_SPEED_EFF p = s.get .HE_CFG_MAX_SPEED p % 8 ∧ t.cmds = s.cmds)
    ∧ (∀ (s : State) c p sp b, (Agent.core c).isMp = true → s.unitPower uFront = 0 → s.locks = [] → p < 2 → sp < 7 → b < 3 →
      exec (.heCfgWrite (.core c) p sp b) s = .next ((s.put .HE_CFG_MAX_SPEED sp p).put .HE_CFG_BIFUR b p))

/-- VF Enable of an existing PF with NumVFs within COUNT stores both; clearing it disables each VF. A VF range that R91 allows is
stored by an agent that may write it, FRONT being ON, any other sets ALLOC_ERR. FLR of a function is its disable point, and of a
PF with VF Enable it clears that too. D3hot stops fetch, its end is a disable. Bus Master Enable of an existing function is set,
and of PF0 in an OPEN device gives it the Owner role; clearing it puts the function's enabled queues into ERROR with code 5. A
disable in progress that times out sets FLR_TIMEOUT of the port and raises source 48. -/
def Obligations.FunctionsVfsAndDisables : Prop :=
  (∀ (s : State) f n, f < 8 → s.fnExists f = true → s.flag .X_FN_VFE f = false → n ≤ s.get .HE_VFALLOC_COUNT f →
      exec (.vfEnableSet f n) s = .next ((s.put .X_FN_NUMVFS n f).putFlag .X_FN_VFE true f))
    ∧ (∀ (s : State) f, f < 8 → s.flag .X_FN_VFE f = true → exec (.vfDisable f) s
      = .next ((forEach (s.vfsOf f) s fun v t => t.disablePoint (.fn v) 2).putFlag .X_FN_VFE false f))
    ∧ (∀ (s : State) ag pf first count, s.mayWrite ag .ownerFeMp = true → s.unitPower uFront = 0 → first < 256 → count < 512 →
      exec (.vfallocWrite ag pf first count) s = .next (if s.vfRangeOk pf first count then (s.put .HE_VFALLOC_FIRST first pf).put .HE_VFALLOC_COUNT count pf
          else s.putFlag .HE_EVT_ALLOC_ERR true (pf / 4)))
    ∧ (∀ (s t : State) f, s.fnExists f = true → s.flag .X_FN_DISABLING f = false → t = s.disablePoint (.fn f) 1 →
      exec (.flr f) s = .next (if f < 8 && t.flag .X_FN_VFE f then t.clearVfEnable f else t))
    ∧ (∀ (s : State) f, s.fnExists f = true → exec (.d3hotEntry f) s = .next ((s.putFlag .X_FN_D3 true f).noteDemand s))
    ∧ (∀ (s t : State) f, s.fnExists f = true → s.flag .X_FN_D3 f = true → t = (s.putFlag .X_FN_D3 false f).disablePoint (.fn f) 3 →
      exec (.d3hotToD0Reset f) s = .next ((if f < 8 && s.flag .X_FN_VFE f then t.clearVfEnable f else t).noteDemand s))
    ∧ (∀ (s : State) f, s.fnExists f = true → f ≠ 0 → s.flag .X_FN_BME f = false →
      exec (.busMasterEnableSet f) s = .next (s.putFlag .X_FN_BME true f))
    ∧ (∀ s : State, s.fnExists 0 = true → s.flag .X_FN_BME = false → s.flag .X_FN_DISABLING = false → ∃ t,
      exec (.busMasterEnableSet 0) s = .next t ∧ t.flag .X_FN_BME = true ∧ (s.flag .SEC_STS_KEYED = false → t.flag .SEC_STS_OWNER = true)
        ∧ (s.flag .SEC_STS_KEYED = true → t.flag .SEC_STS_OWNER = s.flag .SEC_STS_OWNER) ∧ t.cmds = s.cmds)
    ∧ (∀ (s : State) f, s.flag .X_FN_BME f = true → exec (.busMasterEnableClear f) s
      = .next (forEach (((s.putFlag .X_FN_BME false f).fnQueues f).filter fun q => (s.putFlag .X_FN_BME false f).get .JQ_QSTS_STATE q = 1)
          (s.putFlag .X_FN_BME false f) fun q t => t.queueError q 5 0))
    ∧ (∀ (s : State) sc, s.disabling sc = true → exec (.disableTimeout sc) s
      = .next ((s.putFlag .HE_EVT_FLR_TIMEOUT true (s.fnPf (sc.fnOf s) / 4)).raise 48 uFront (sc.fnOf s)))
    ∧ (∀ (s : State) sc, s.disabling sc = false → exec (.disableTimeout sc) s = .next s)

/-- A translation with write permission of a function with ATS enabled and a quota is held as that function's latest entry, at
most 1 GiB long, and one of a function without is not held; strict requests that waited for it go on. A refused translation, or
one without write permission, of a ring's address puts each enabled queue there into ERROR with code 5. An Invalidate Request
drops every entry of the function that meets the range at once and is owed a completion; its completion is sent and counted once,
when every read that used a dropped entry is over, and not before. Clearing ATS Enable drops the function's entries and no
other's, and its requests wait no more. A request to an undefined BAR offset is counted, and only a non-posted one is answered and
reported; a read of BAR4 is no such request, and a function being disabled answers reads of BAR0 with all ones. -/
def Obligations.AddressTranslationCaches : Prop :=
  (∀ (s : State) f a n, s.atsOn f = true → ⟨f, a, min n xlatMax, s.get .X_ATS_SEQ⟩ ∈ (s.cacheXlat f a n).ats
      ∧ (s.cacheXlat f a n).out = s.out ∧ (s.cacheXlat f a n).cmds = s.cmds
      ∧ exec (.translationCompletion f a n (.ok true)) s = .next ((s.cacheXlat f a n).releaseHolds (Hold.asked f a n)))
    ∧ (∀ (s : State) f a n, s.atsOn f = false → exec (.translationCompletion f a n (.ok true)) s = .next (s.releaseHolds (Hold.asked f a n)))
    ∧ (∀ (s : State) sel, s.holds = [] → s.releaseHolds sel = s)
    ∧ (∀ (s : State) f a n, exec (.translationCompletion f a n .unsupported) s
      = .next ((forEach ((s.fnQueues f).filter fun q => s.get .JQ_QSTS_STATE q = 1 && s.ringAt q a n) s fun q t => t.queueError q 5 0).releaseHolds
        (Hold.asked f a n)))
    ∧ (∀ (s : State) f a n tag, ∃ t, exec (.invalidateRequest f a n tag) s = .next t ∧ t.invs = s.invs ++ [⟨f, tag, s.readsUsing f a n⟩]
        ∧ (∀ e ∈ t.ats, e ∈ s.ats ∧ (e.fn = f → rangesMeet e.addr e.size a n = false)) ∧ t.regs = s.regs ∧ t.out = s.out)
    ∧ (∀ (s : State) f tag v, (s.invs.find? fun v => v.fn = f && v.tag = tag) = some v →
      (s.invDone v = true → ∃ t, exec (.invalidationCompletion f tag) s = .next t ∧ t.invs = s.invs.erase v
        ∧ t.out = s.out ++ [.invalidated f tag] ∧ t.get .HE_CNT_INV (s.fnPf f / 4) = min (s.get .HE_CNT_INV (s.fnPf f / 4) + 1) 0x7FFFFFFFFFFFFFFF)
      ∧ (s.invDone v = false → exec (.invalidationCompletion f tag) s = .next s))
    ∧ (∀ (s t : State) f, t = (s.putFlag .X_FN_ATS false f).dropAts f → (∀ e, e ∈ t.ats ↔ e ∈ s.ats ∧ e.fn ≠ f)
      ∧ exec (.atsEnableClear f) s = .next (t.releaseHolds fun h => h.fn = f))
    ∧ (∀ (s : State) f off, exec (.undefinedBarRequest f 4 off false) s = .next (s.emit (.barAnswer f false)))
    ∧ (∀ (s : State) f off, s.fnDark f = true → exec (.undefinedBarRequest f 0 off false) s = .next (s.emit (.barAnswer f false)))
    ∧ (∀ (s : State) f off, s.fnDark f = false → barDefined f 0 off = false → exec (.undefinedBarRequest f 0 off false) s
      = .next (((s.bump .HE_CNT_UR (s.fnPf f / 4)).reportAer f aerUndefined).emit (.barAnswer f true)))
    ∧ (∀ (s : State) f b off, s.fnDark f = false → barDefined f b off = false →
      exec (.undefinedBarRequest f b off true) s = .next (s.bump .HE_CNT_UR (s.fnPf f / 4)))

/-- An up link in L0 or L0p enters L1 when the host allows L1 (or all its functions are in D3hot) and R110 does not hold it, and
stays where it is otherwise. From L1 or L1.1 it enters L1.2 when the host has enabled it and no function of it holds a Gold
reserve, and stays when one does. With L0p enabled it narrows to a smaller width of at least 4 lanes, or 2 on a link of at most 4.
L1_EXIT of an up link outside L0 brings it back to L0 and its full width. -/
def Obligations.LinkPowerRespectsGoldReserves : Prop :=
  (∀ (s : State) p k, p < 2 → k < 4 → s.flag .HE_LINK_STS_UP (4 * p + k) = true → s.get .HE_LINK_STS_LPM (4 * p + k) ≤ 1 →
      exec (.l1Entry p k) s = .next (if s.aspmL1 (4 * p + k) = false ∨ s.goldHoldsLink (4 * p + k) = true then s
        else (s.put .HE_LINK_STS_LPM 2 (4 * p + k)).emit (.linkPower (4 * p + k) 2)))
    ∧ (∀ (s : State) p k, p < 2 → k < 4 → s.flag .HE_LINK_STS_UP (4 * p + k) = true →
      (s.get .HE_LINK_STS_LPM (4 * p + k) = 2 ∨ s.get .HE_LINK_STS_LPM (4 * p + k) = 3) → s.flag .X_FN_L12 (4 * p + k) = true →
      exec (.l12Entry p k) s = .next (if (s.linkFns (4 * p + k)).any s.holdsReserve then s
        else (s.put .HE_LINK_STS_LPM 4 (4 * p + k)).emit (.linkPower (4 * p + k) 4)))
    ∧ (∀ (s : State) p k w, p < 2 → k < 4 → s.flag .HE_LINK_STS_UP (4 * p + k) = true → s.flag .HE_PWR_L0P_EN p = true →
      s.get .HE_LINK_STS_LPM (4 * p + k) ≤ 1 → (4 ≤ w ∨ w ≥ 2 ∧ s.get .HE_LINK_STS_WIDTH (4 * p + k) ≤ 4) →
      w < s.get .HE_LINK_STS_L0P_WIDTH (4 * p + k) → s.goldHoldsLink (4 * p + k) = false →
      exec (.l0pNarrow p k w) s = .next (((s.put .HE_LINK_STS_L0P_WIDTH w (4 * p + k)).put .HE_LINK_STS_LPM 1 (4 * p + k)).emit
        (.linkPower (4 * p + k) 1)))
    ∧ (∀ (s : State) p k, p < 2 → k < 4 → s.flag .HE_LINK_STS_UP (4 * p + k) = true → s.get .HE_LINK_STS_LPM (4 * p + k) ≠ 0 →
      exec (.l1Exit p k) s = .next (((s.put .HE_LINK_STS_LPM 0 (4 * p + k)).put .HE_LINK_STS_L0P_WIDTH
        (s.get .HE_LINK_STS_WIDTH (4 * p + k)) (4 * p + k)).emit (.linkPower (4 * p + k) 0)))

/-- Bytes written into the slots of an enabled queue that are not ready are stored; a write to a ready slot is OVERFLOW (ERROR,
code 2); a write of a dark function is discarded. A poisoned write is reported and stores nothing. Intake that is held, whose head
slot is not ready, or whose turn it is not, takes nothing. A packet whose sequence is not S is code 1. A packet of a known opcode
with a free tag, in sequence and with reply room becomes an outstanding command of the queue's function with its tag and opcode,
its slot is free and S advances. FRONT being ON, ENABLE stores the first failing check of R235 as ERR, or starts the queue
ENABLED; DISABLE of an enabled queue is its disable point. -/
def Obligations.PacketsAreTakenIn : Prop :=
  (∀ (s : State) f off l q o, s.fnDark f = false → l ≠ [] → off < 0x200000 → s.windowQueue f off = some (q, o) →
      o + l.length ≤ 64 * s.slotCount q → (((List.range ((o + l.length + 63) / 64 - o / 64)).map (o / 64 + ·)).any (s.slotReady q)) = false → ∃ t,
      exec (.pushWindowWrite f off l false) s = .next t ∧ t.slots = slotPut q o l s.slots ∧ t.cmds = s.cmds ∧ t.out = s.out)
    ∧ (∀ (s : State) f off l p, s.fnDark f = true → exec (.pushWindowWrite f off l p) s = .next s)
    ∧ (∀ (s : State) f off l, s.fnDark f = false → l ≠ [] → exec (.pushWindowWrite f off l true) s = .next (s.reportAer f aerPoisoned))
    ∧ (∀ (s : State) f off l q o, s.fnDark f = false → l ≠ [] → off < 0x200000 → s.windowQueue f off = some (q, o) →
      o + l.length ≤ 64 * s.slotCount q → (((List.range ((o + l.length + 63) / 64 - o / 64)).map (o / 64 + ·)).any (s.slotReady q)) = true →
      exec (.pushWindowWrite f off l false) s = .next (s.queueError q 2 0))
    ∧ (∀ (s : State) q, s.intakeHeld q = true → exec (.packetIntake q) s = .next s)
    ∧ (∀ (s : State) q, s.slotReady q (s.headSlot q) = false → exec (.packetIntake q) s = .next s)
    ∧ (∀ (s : State) q, s.intakeTurn q = false → exec (.packetIntake q) s = .next s)
    ∧ (∀ (s : State) q, s.intakeHeld q = false → s.slotReady q (s.headSlot q) = true → s.replyRoom q = true → s.intakeTurn q = true →
      fieldAt (s.slotBytes q (s.headSlot q)) 4 2 ≠ s.get .X_JQ_S q % 65536 →
      exec (.packetIntake q) s = .next ((s.put .X_JQ_RR q (2 * s.queuePair q + if s.flag .JQ_QCFG_GOLD_OK q then 1 else 0)).queueError q 1
        (fieldAt (s.slotBytes q (s.headSlot q)) 2 2)))
    ∧ (∀ (s : State) q, s.intakeHeld q = false → s.slotReady q (s.headSlot q) = true → s.intakeTurn q = true →
      fieldAt (s.slotBytes q (s.headSlot q)) 4 2 = s.get .X_JQ_S q % 65536 →
      (s.cmds.find? fun c => !c.nvme && c.q = q && decide (0 < c.contLeft)) = none → s.replyRoom q = true →
      s.tagUsed q (fieldAt (s.slotBytes q (s.headSlot q)) 2 2) = false → opcodeKnown (fieldAt (s.slotBytes q (s.headSlot q)) 0 1) = true → ∃ t c,
      exec (.packetIntake q) s = .next t ∧ t.cmds = s.cmds ++ [c] ∧ c.nvme = false ∧ c.q = q ∧ c.fn = s.get .JQ_QCFG_FN q
        ∧ c.tag = fieldAt (s.slotBytes q (s.headSlot q)) 2 2 ∧ c.op = fieldAt (s.slotBytes q (s.headSlot q)) 0 1
        ∧ c.raw = s.slotBytes q (s.headSlot q) ∧ c.st = .taken ∧ t.get .X_JQ_S q = (s.get .X_JQ_S q + 1) % 2 ^ 64)
    ∧ (∀ (s : State) c q e, (Agent.core c).isMp = true → s.unitPower uFront = 0 → q < 1024 → s.get .JQ_QSTS_STATE q = 0 → s.enableFault q = some e →
      exec (.queueEnable (.core c) q) s = .next ((s.put .JQ_QSTS_ERR e q).noteDemand s))
    ∧ (∀ (s : State) c q, (Agent.core c).isMp = true → s.unitPower uFront = 0 → q < 1024 → s.get .JQ_QSTS_STATE q = 0 → s.enableFault q = none →
      exec (.queueEnable (.core c) q) s = .next ((((s.clearQueue q).put .JQ_QSTS_STATE 1 q).put .JQ_QSTS_ERR 0 q).noteDemand s))
    ∧ (∀ (s : State) c q, (Agent.core c).isMp = true → s.unitPower uFront = 0 → q < 1024 → s.get .JQ_QSTS_STATE q = 1 →
      exec (.queueDisable (.core c) q) s = .next ((s.disablePoint (.queue q)).noteDemand s))

/-- Of a packet taken in, outside a Sanitize, with the fields it does not use at 0. FLUSH_BLOCK of an outstanding WRITE_PACK whose
cut lies inside its range and was not yet consumed at the packet's intake records the cut and ends Success. A PIN that its
function may make, without USE_TICK, is admitted and its preload starts. The end of a preload with every line resident gives the
pin the lowest free ID, which is the reply's INFO. UNPIN of a pin the function holds releases it, and replies once none of its
lines is still locked by a refill. ABORT of a command that it catches ends that command ABORTED before its own CAUGHT reply, of
one that it does not catch replies MISSED, and of an unknown tag ends UNKNOWN_TAG. A FENCE ends when nothing earlier is left. TIME
stores tick, calendar, phase and period at DEST and ends Success; on strict traffic only when it is its queue's turn, with its
translation held. While a Sanitize runs each ends SANITIZING. -/
def Obligations.ControlPacketsOfJexash : Prop :=
  (∀ (s : State) n c, (s.flag .JQ_STS_SANITIZING = true) →
      (s.packet n 0x05 = some c → exec (.flushBlock n) s = .next (s.finish c vSanitizing))
      ∧ (s.packet n 0x06 = some c → exec (.pin n) s = .next (s.finish c vSanitizing))
      ∧ (s.packet n 0x07 = some c → exec (.unpin n) s = .next (s.finish c vSanitizing))
      ∧ (s.packet n 0x08 = some c → exec (.abort n) s = .next (s.finish c vSanitizing))
      ∧ (s.packet n 0x09 = some c → exec (.fence n) s = .next (s.finish c vSanitizing))
      ∧ (s.packet n 0x0A = some c → exec (.time n) s = .next (s.finish c vSanitizing)))
    ∧ (∀ (s : State) n c t, s.flag .JQ_STS_SANITIZING = false → s.packet n 0x05 = some c → c.plainOk true true false = true → c.param < 65536 →
      s.tagged c.q c.param = some t → t.op = 0x04 → t.pLba < c.pLba → c.pLba < t.pLba + t.pLen → t.aux.length < 16 → c.aux = [] →
      exec (.flushBlock n) s = .next ((s.setCmd { t with aux := t.aux ++ [c.pLba] }).finish c vSuccess))
    ∧ (∀ (s : State) n c, s.flag .JQ_STS_SANITIZING = false → s.packet n 0x06 = some c → c.packetOk = true → c.codec = 0 → c.pLen ≠ 0 →
      c.outLen = 0 → c.dest = 0 → c.param = 0 → s.rangeVerdict c c.pNode c.pLba c.pLen rightPin = none → bit c.ctl 4 = false → ∃ d,
      exec (.pin n) s = .next ((s.setCmd d).startPin d) ∧ d.id = c.id ∧ d.st = .admitted ∧ d.node = c.pNode ∧ d.lba = c.pLba ∧ d.len = c.pLen)
    ∧ (∀ (s : State) n c p, s.cmd? n = some c → (s.pins.find? fun p => p.cmd = n && p.id = 0) = some p → c.st = .planned → c.res = none → c.mute = false →
      (p.lines.all fun x => (s.line? x.1 x.2).any fun y => y.st = .clean || y.st = .dirty) = true → s.pinCount c.fn < 256 →
      exec (.pinPreloadComplete n) s = .next (s.finish c vSuccess))
    ∧ (∀ (s : State) c p, c.op = 0x06 → (s.pins.find? fun p => p.cmd = c.id && p.id = 0) = some p → ∃ u : State, s.namePin c vSuccess = ({ vSuccess with info := s.freePin c.fn }, u)
      ∧ u.pins.length = s.pins.length ∧ u.cmds = s.cmds ∧ u.regs = s.regs ∧ s.writeReply c vSuccess = u.writeReply c { vSuccess with info := s.freePin c.fn })
    ∧ (∀ (s : State) n c p, s.flag .JQ_STS_SANITIZING = false → s.packet n 0x07 = some c → c.plainOk false true false = true → c.param < 32768 →
      (s.pins.find? fun p => p.fn = c.fn && p.id = c.param && p.id ≠ 0) = some p →
      exec (.unpin n) s = .next (((s.releasePin p).setCmd { c with st := .admitted, aux := p.lines.map fun x => x.1 + 4096 * x.2 }).endUnpins))
    ∧ (∀ (s : State) n c, s.flag .JQ_STS_SANITIZING = false → s.packet n 0x08 = some c → c.plainOk false true false = true → c.param < 65536 →
      exec (.abort n) s = .next (match s.tagged c.q c.param with
        | none => s.finish c vUnknownTag
        | some t => if t.res.isNone && s.catches t then ((s.withdraw t vAborted).bump .JQ_CNT_CAUGHT).finish c { vSuccess with caught := true }
            else (s.bump .JQ_CNT_MISSED).finish c { vSuccess with missed := true }))
    ∧ (∀ (s : State) n c, s.flag .JQ_STS_SANITIZING = false → s.packet n 0x09 = some c → c.plainOk false true false = true → c.param < 2 →
      exec (.fence n) s = .next ((s.setCmd { c with st := .admitted }).tryFence { c with st := .admitted }))
    ∧ (∀ (s : State) n c, s.cmd? n = some c → c.nvme = false → c.op = 0x09 → c.st = .admitted → s.fenceDone c = true →
      exec (.fenceComplete n) s = .next (s.finish c vSuccess))
    ∧ (∀ (s : State) n c, s.flag .JQ_STS_SANITIZING = false → s.packet n 0x0A = some c → c.plainOk false false true = true → c.dest % 8 = 0 →
      exec (.time n) s = .next (if s.cmdStrict c ∧ (s.xlatMiss c.fn (some c.dest) 32 = true ∨ s.laneTurn false c.fn c.q c.id = false ∨ s.holds ≠ []) then
          s.askXlat c.fn (some c.dest) 32
        else (s.sendDma c c.dest (natLe 8 s.tick ++ natLe 8 s.calStamp ++ natLe 4 (s.get .TK_PHASE_PHASE)
          ++ natLe 4 (s.get .TK_PERIOD_PERIOD) ++ natLe 8 0)).finish c vSuccess))

/-- A reply head or transfer-ready head of an enabled queue that moves within what has been posted is taken; past it the queue
enters ERROR with code 6; on a queue that is not enabled the write is counted as undefined. An event head within what has been
posted is taken and outside it sets EVT_HEAD_ERR. A late Gold read that asks for a notice has one LATE event, once. FRONT being
ON, a reserve of at most 6,144 slots written with a sum within the Gold capacity by an MP core is stored and owed an event, which
RESERVE_CHANGED sends with the reserve once it is in force; a larger one sets RES_REFUSED. EVENT_RING_ENABLE sets EVT_EN with its
vector and starts an unused ring at 0. -/
def Obligations.HeadsEventsAndReserves : Prop :=
  (∀ (s : State) q v, s.get .JQ_QSTS_STATE q = 1 → headDelta (s.get .X_JQ_RHEAD q) v ≤ s.get .X_JQ_RPOST q - s.get .X_JQ_RHEAD q → ∃ t,
      exec (.replyHeadWrite q v) s = .next t ∧ t.get .X_JQ_RHEAD q = (s.get .X_JQ_RHEAD q + headDelta (s.get .X_JQ_RHEAD q) v) % 2 ^ 64
        ∧ t.tags = dropTags q (headDelta (s.get .X_JQ_RHEAD q) v) s.tags ∧ t.cmds = s.cmds)
    ∧ (∀ (s : State) q v, s.get .JQ_QSTS_STATE q = 1 → s.get .X_JQ_RPOST q - s.get .X_JQ_RHEAD q < headDelta (s.get .X_JQ_RHEAD q) v →
      exec (.replyHeadWrite q v) s = .next (s.queueError q 6 0))
    ∧ (∀ (s : State) q v, s.get .JQ_QSTS_STATE q ≠ 1 → exec (.replyHeadWrite q v) s = .next (s.undefinedBar (s.get .JQ_QCFG_FN q)))
    ∧ (∀ (s : State) q v, s.get .JQ_QSTS_STATE q = 1 → headDelta (s.get .X_JQ_XHEAD q) v ≤ s.get .X_JQ_XPOST q - s.get .X_JQ_XHEAD q →
      exec (.xrHeadWrite q v) s = .next (s.put .X_JQ_XHEAD (s.get .X_JQ_XHEAD q + headDelta (s.get .X_JQ_XHEAD q) v) q))
    ∧ (∀ (s : State) f v, s.fnDark f = false → exec (.eventHeadWrite f v) s
      = .next (if s.get .X_EV_POST f - s.get .X_EV_HEAD f < headDelta (s.get .X_EV_HEAD f) v then s.putFlag .JQ_FSTS_EVT_HEAD_ERR true f
          else s.put .X_EV_HEAD (s.get .X_EV_HEAD f + headDelta (s.get .X_EV_HEAD f) v) f))
    ∧ (∀ (s : State) n c, s.cmd? n = some c → c.nvme = false → bit c.ctl 2 = true → c.hasDeadline = true → c.noticed = false → c.mute = false →
      c.deadline < s.tick → exec (.lateNotice n) s
        = .next ((s.setCmd { c with noticed := true }).postEvent c.fn 1 ((s.setCmd { c with noticed := true }).get .JQ_QCFG_SLOT c.q) c.tag 0))
    ∧ (∀ (s : State) n c, s.cmd? n = some c → c.noticed = true → exec (.lateNotice n) s = .next s)
    ∧ (∀ (s : State) f, 2 ≤ s.get .X_RES_PEND f → exec (.reserveChanged f) s
      = .next ((s.put .X_RES_PEND (s.get .X_RES_PEND f - 2) f).postEvent f 4 0 0 (s.get .X_RES_EFF f)))
    ∧ (∀ (s : State) f, s.get .X_RES_PEND f < 2 → exec (.reserveChanged f) s = .next s)
    ∧ (∀ (s : State) c f n, (Agent.core c).isMp = true → s.unitPower uFront = 0 → f < 264 → exec (.jqFgoldWrite (.core c) f n) s
      = .next (let sum := s.reserveSum - s.get .JQ_FGOLD_RES_SLOTS f + n
          if 6144 < n ∨ s.reserveSum < sum ∧ s.get .JQ_GOLD_CAP < sum then s.putFlag .JQ_FSTS_RES_REFUSED true f
          else ((s.put .JQ_FGOLD_RES_SLOTS n f).put .JQ_GOLD_SUM sum).put .X_RES_PEND (s.get .X_RES_PEND f / 2 * 2 + 1) f))
    ∧ (∀ (s : State) c f v, (Agent.core c).isMp = true → s.unitPower uFront = 0 → f < 264 → v % 16 ≤ 8 → s.flag .JQ_FEVT_CFG_EVT_EN f = false → ∃ t,
      exec (.eventRingEnable (.core c) f v) s = .next t ∧ t.flag .JQ_FEVT_CFG_EVT_EN f = true ∧ t.get .JQ_FEVT_CFG_EVT_LOG f = v % 16
        ∧ t.get .JQ_FEVT_CFG_VECTOR f = v / 65536 % 2048 ∧ t.get .X_EV_POST f = 0 ∧ t.get .X_EV_HEAD f = 0 ∧ t.cmds = s.cmds)

/-- CC.EN with values NVMe allows, on a controller that is down, answers nothing else than an admin queue pair of the sizes AQA
gives and CSTS.RDY. Clearing it starts the controller's disable. A shutdown notification shows SHST 1, and SHUTDOWN_COMPLETE with
nothing outstanding SHST 2. A tail doorbell of an existing queue stores a tail below its size and sends an Error event otherwise;
a valid head frees entries, and posts completion entries that waited. A fetch from a non-empty queue of a running controller
advances its head by one and makes the entry an outstanding command with its opcode and identifier; nothing is fetched from an
empty or frozen queue, in D3hot, or for a link whose core pair has halted. -/
def Obligations.ControllersDoorbellsAndFetch : Prop :=
  (∀ (s : State) f cc aqa asq acq, s.fnDark f = false → s.flag .X_CTRL_DISABLING f = false → s.get .X_CC f % 2 = 0 → cc % 2 = 1 →
      ccOk cc aqa = true → ∃ t : State, exec (.ccEnSet f cc aqa asq acq) s = .next (t.noteDemand s) ∧ t.flag .X_CSTS_RDY f = true
        ∧ t.get .X_CC f = cc % 2 ^ 32 ∧ t.sqs = s.sqs ++ [⟨f, 0, bits aqa 11 0 + 1, 0, asq, 0, 0, 0, 1, f = 0, 0, false⟩]
        ∧ t.cqs = s.cqs ++ [⟨f, 0, bits aqa 27 16 + 1, acq, 0, 0, true, true, 0⟩] ∧ t.cmds = s.cmds ∧ t.out = s.out)
    ∧ (∀ (s : State) f, s.fnDark f = false → s.get .X_CC f % 2 = 1 → exec (.ccEnClear f) s
      = .next (((s.put .X_CC (s.get .X_CC f - 1) f).disablePoint (.controller f)).noteDemand s))
    ∧ (∀ (s : State) f a, s.fnDark f = false → s.get .X_CC f % 2 = 1 → ∃ t, exec (.shutdownNotification f a) s = .next t
        ∧ t.get .X_CSTS_SHST f = 1 ∧ t.cmds = s.cmds ∧ t.flash = s.flash)
    ∧ (∀ (s : State) f, exec (.shutdownComplete f) s = .next (if s.get .X_CSTS_SHST f = 1 ∧ s.ctrlBusy f = false then s.put .X_CSTS_SHST 2 f else s))
    ∧ (∀ (s : State) f q sq v, s.ctrlUp f = true → s.sq? f q = some sq → exec (.sqTailDoorbell f q v) s
      = .next (if sq.size ≤ v then s.doorbellError f 1 else if v = sq.head then s.setSq { sq with tail := v }
          else (s.setSq { sq with tail := v }).wake uFront wakeCmd))
    ∧ (∀ (s : State) f q v, s.ctrlUp f = true → s.sq? f q = none → exec (.sqTailDoorbell f q v) s = .next (s.doorbellError f 0))
    ∧ (∀ (s : State) f q cq v, s.ctrlUp f = true → s.cq? f q = some cq → exec (.cqHeadDoorbell f q v) s
      = .next (if cq.headOk v then (s.setCq { cq with head := v }).drainCq f q else s.doorbellError f 1))
    ∧ (∀ (s : State) f q sq b, s.sq? f q = some sq → (sq.head = sq.tail ∨ sq.frozen = true ∨ s.flag .X_FN_D3 f = true ∨ s.pairHalted f = true) →
      exec (.commandFetch f q b) s = .next s)
    ∧ (∀ (s : State) f q sq b, s.sq? f q = some sq → s.ctrlUp f = true → s.flag .X_FN_BME f = true → s.flag .X_FN_D3 f = false →
      s.powered = true → s.mode ≠ mHoldup → s.flag .JQ_STS_FROZEN = false → sq.frozen = false → sq.head ≠ sq.tail → s.outstanding < 65536 →
      s.flag .X_FE_PAUSE = false → s.pairHalted f = false → b.length = 64 → ∃ (c : Cmd) (t u : State), c.nvme = true ∧ c.fn = f ∧ c.q = q ∧ c.tag = fieldAt b 2 2 ∧ c.op = fieldAt b 0 1
        ∧ c.raw = b ∧ c.id = s.get .X_CMDSEQ ∧ t = (s.setSq { sq with head := (sq.head + 1) % sq.size }).addCmd c
        ∧ u = (((if c.keepsBusy then t.putFlag .X_IDLE false else t).wake uFront wakeCmd).returnPs f).noteDemand s
        ∧ exec (.commandFetch f q b) s = .next (match u.fetchVerdict c with | some r => (u.consumePkg c).finish c r | none => u))

/-- Of a fetched admin command. A Create that fails its checks ends with their status. A Create I/O Submission Queue within the
grant whose completion queue exists adds the queue with the size, completion queue, priority and the attributes of feature 0xC1,
empty, and ends Success. A Create I/O Completion Queue with a vector up to 2,047 adds it with phase 1. A Delete of a submission
queue starts that queue's disable and the command waits; a Delete of a completion queue that a submission queue posts to is
refused, otherwise the queue is gone. -/
def Obligations.IoQueuesAreCreatedAndDeleted : Prop :=
  (∀ (s : State) n c r, s.nvmeCmd n true 0x01 = some c → c.queueFault (s.grantedSq c.fn) (s.sq? c.fn (c.dw 10 % 65536)).isSome = some r →
      exec (.createIoSq n) s = .next (s.finish c r))
    ∧ (∀ (s : State) n c, s.nvmeCmd n true 0x01 = some c → c.queueFault (s.grantedSq c.fn) (s.sq? c.fn (c.dw 10 % 65536)).isSome = none →
      c.dw 11 / 65536 ≠ 0 → c.dw 11 / 65536 ≤ s.grantedCq c.fn → (s.cq? c.fn (c.dw 11 / 65536)).isSome = true → ∃ q,
      exec (.createIoSq n) s = .next (({ s with sqs := s.sqs ++ [q] } : State).finish c vSuccess) ∧ q.fn = c.fn ∧ q.qid = c.dw 10 % 65536
        ∧ q.size = c.dw 10 / 65536 + 1 ∧ q.cqid = c.dw 11 / 65536 ∧ q.head = 0 ∧ q.tail = 0 ∧ q.prio = c.dw 11 / 2 % 4
        ∧ q.cls = s.get .X_FEAT_QATTR (c.fn * 256 + c.dw 10 % 65536) / 65536 % 4)
    ∧ (∀ (s : State) n c, s.nvmeCmd n true 0x05 = some c → c.queueFault (s.grantedCq c.fn) (s.cq? c.fn (c.dw 10 % 65536)).isSome = none →
      exec (.createIoCq n) s = .next (if 2047 < c.dw 11 / 65536 then s.finish c vInvalidVector
        else ({ s with cqs := s.cqs ++ [⟨c.fn, c.dw 10 % 65536, c.dw 10 / 65536 + 1, fieldAt c.raw 24 8, 0, 0, true, bit (c.dw 11) 1,
          c.dw 11 / 65536⟩] } : State).finish c vSuccess))
    ∧ (∀ (s : State) n c q, s.nvmeCmd n true 0x00 = some c → s.sq? c.fn (c.dw 10 % 65536) = some q → c.dw 10 % 65536 ≠ 0 → q.frozen = false →
      exec (.deleteIoSq n) s = .next ((s.setCmd { c with st := .admitted }).disablePoint (.sq c.fn (c.dw 10 % 65536))))
    ∧ (∀ (s : State) n c, s.nvmeCmd n true 0x00 = some c → s.sq? c.fn (c.dw 10 % 65536) = none →
      exec (.deleteIoSq n) s = .next (s.finish c vInvalidQueue))
    ∧ (∀ (s : State) n c, s.nvmeCmd n true 0x04 = some c → c.dw 10 % 65536 ≠ 0 → (s.cq? c.fn (c.dw 10 % 65536)).isSome = true →
      exec (.deleteIoCq n) s = .next (if s.sqs.any fun q => q.fn = c.fn && q.cqid = c.dw 10 % 65536 then s.finish c vQueueDeletion
        else ({ s with cqs := s.cqs.filter fun q => ¬(q.fn = c.fn ∧ q.qid = c.dw 10 % 65536) } : State).finish c vSuccess))

/-- An Abort behind 8 others ends Abort Command Limit Exceeded; one that names no command, or one that may not be aborted,
completes with bit 0 of Dword 0 set; one that names an admitted read of its function ends that command first and completes with it
clear. An Asynchronous Event Request takes an event that waits at once, is refused when 16 are held, and is held otherwise. Get
Features of an identifier of R165 completes with the stored value in Dword 0 and changes no feature; of one that names nothing it
ends Invalid Field. Timestamp sends its 8 bytes to the data pointer, unless the command may send no more. Queue attributes answer
the value stored for the queue. -/
def Obligations.AbortEventsAndGetFeatures : Prop :=
  (∀ (s : State) n c, s.nvmeCmd n true 0x08 = some c → 8 ≤ s.abortsBefore c → exec (.nvmeAbort n) s = .next (s.finish c vAbortLimit))
    ∧ (∀ (s : State) n c, s.nvmeCmd n true 0x08 = some c → s.abortsBefore c < 8 →
      (s.cmds.find? fun t => t.nvme && t.fn = c.fn && t.q = c.dw 10 % 65536 && t.tag = c.dw 10 / 65536 && t.id ≠ c.id) = none →
      exec (.nvmeAbort n) s = .next (s.finish c { vSuccess with dw0 := 1 }))
    ∧ (∀ (s : State) n c t, s.nvmeCmd n true 0x08 = some c → s.abortsBefore c < 8 →
      (s.cmds.find? fun t => t.nvme && t.fn = c.fn && t.q = c.dw 10 % 65536 && t.tag = c.dw 10 / 65536 && t.id ≠ c.id) = some t →
      exec (.nvmeAbort n) s = .next (if t.abortable then (s.withdraw t vAborted).finish c vSuccess else s.finish c { vSuccess with dw0 := 1 }))
    ∧ (∀ (s : State) n c e, s.nvmeCmd n true 0x0C = some c → (s.asyncWaiting.find? fun e => e.1 = c.fn) = some e →
      exec (.asyncEventRequest n) s = .next (({ s with asyncWaiting := s.asyncWaiting.erase e } : State).finish c
        { vSuccess with dw0 := e.2.1 + 256 * e.2.2.1 + 65536 * e.2.2.2 }))
    ∧ (∀ (s : State) n c, s.nvmeCmd n true 0x0C = some c → (s.asyncWaiting.find? fun e => e.1 = c.fn) = none →
      exec (.asyncEventRequest n) s
        = .next (if 16 ≤ (s.cmds.filter fun x => x.nvme && x.fn = c.fn && x.q = 0 && x.op = 0x0C && x.st = .admitted).length then
            s.finish c vAerLimit else s.setCmd { c with st := .admitted }))
    ∧ (∀ (s : State) n c v, s.nvmeCmd n true 0x0A = some c → c.dw 10 % 256 ≠ 0x0E → c.dw 10 % 256 ≠ 0xC1 →
      s.featureValue c.fn (c.dw 10 % 256) (c.dw 11) = some v → exec (.getFeatures n) s = .next (s.finish c { vSuccess with dw0 := v }))
    ∧ (∀ (s : State) n c, s.nvmeCmd n true 0x0A = some c → c.dw 10 % 256 ≠ 0x0E → c.dw 10 % 256 ≠ 0xC1 →
      s.featureValue c.fn (c.dw 10 % 256) (c.dw 11) = none → exec (.getFeatures n) s = .next (s.finish c vInvalidField))
    ∧ (∀ (s : State) n c, s.nvmeCmd n true 0x0A = some c → c.dw 10 % 256 = 0x0E →
      exec (.getFeaturesTimestamp n) s = .next ((s.sendData c 0 s.timestampData).finish c vSuccess))
    ∧ (∀ (s : State) c b, s.sendData c 0 b = if c.mute || b.isEmpty then s else s.sendPtr c 0 b)
    ∧ (∀ (s : State) n c v, s.nvmeCmd n true 0x0A = some c → c.dw 10 % 256 = 0xC1 → s.featureValue c.fn 0xC1 (c.dw 11) = some v →
      exec (.getFeaturesQueueAttributes n) s = .next (s.finish c { vSuccess with dw0 := v }))

/-- Of a fetched Set Features by its feature identifier. Arbitration, Error Recovery (clamped to CMD_MAX), Interrupt Coalescing,
Asynchronous Event Configuration (bit 31 for PF0 only) store their value and end Success. A power state above 4 is Invalid Field;
one from 0 to 2 with every controller busy is stored with the last operational one and ends Success. A temperature threshold is
stored under its type for the sensor it names, or for all with selector 15; a selector that names none is Invalid Field. Number of
Queues once I/O queues exist is Command Sequence Error, otherwise grants at most what is asked, 128 and what is free. Timestamp is
Invalid Field. Queue attributes of a queue that exists are Command Sequence Error, otherwise stored. -/
def Obligations.SetFeaturesStoreTheirValues : Prop :=
  (∀ (s : State) n c, s.nvmeCmd n true 0x09 = some c →
      (c.dw 10 % 256 = 0x01 → exec (.setFeaturesArbitration n) s
        = .next ((s.put .X_FEAT_ARB (c.dw 11 - c.dw 11 / 8 % 32 * 8) c.fn).finish c vSuccess))
      ∧ (c.dw 10 % 256 = 0x02 → 4 < c.dw 11 % 32 → exec (.setFeaturesPowerManagement n) s = .next (s.finish c vInvalidField))
      ∧ (c.dw 10 % 256 = 0x02 → c.dw 11 % 32 ≤ 2 →
        (((s.put .X_FEAT_PS (c.dw 11 % 32) c.fn).put .X_FEAT_LASTOP (c.dw 11 % 32) c.fn).noteDemand s).anyBusy = true →
        exec (.setFeaturesPowerManagement n) s
          = .next ((((s.put .X_FEAT_PS (c.dw 11 % 32) c.fn).put .X_FEAT_LASTOP (c.dw 11 % 32) c.fn).noteDemand s).finish c vSuccess))
      ∧ (c.dw 10 % 256 = 0x04 → c.dw 11 / 65536 % 16 ≤ 3 → c.dw 11 / 2 ^ 20 % 4 ≤ 1 → exec (.setFeaturesTemperatureThreshold n) s
        = .next ((s.put .X_FEAT_TT (c.dw 11 % 65536) (c.fn * 8 + c.dw 11 / 65536 % 16 * 2 + c.dw 11 / 2 ^ 20 % 4)).finish c vSuccess))
      ∧ (c.dw 10 % 256 = 0x04 → c.dw 11 / 65536 % 16 = 15 → c.dw 11 / 2 ^ 20 % 4 ≤ 1 → exec (.setFeaturesTemperatureThreshold n) s
        = .next ((forEach [0, 1, 2, 3] s fun k t => t.put .X_FEAT_TT (c.dw 11 % 65536) (c.fn * 8 + k * 2 + c.dw 11 / 2 ^ 20 % 4)).finish c vSuccess))
      ∧ (c.dw 10 % 256 = 0x04 → 3 < c.dw 11 / 65536 % 16 → c.dw 11 / 65536 % 16 ≠ 15 →
        exec (.setFeaturesTemperatureThreshold n) s = .next (s.finish c vInvalidField))
      ∧ (c.dw 10 % 256 = 0x04 → 1 < c.dw 11 / 2 ^ 20 % 4 → exec (.setFeaturesTemperatureThreshold n) s = .next (s.finish c vInvalidField))
      ∧ (c.dw 10 % 256 = 0x05 → exec (.setFeaturesErrorRecovery n) s = .next (if bit (c.dw 11) 16 then s.finish c vInvalidField
        else (s.put .X_TLER (min (c.dw 11 % 65536) (s.get .MC_RI_CFG_CMD_MAX)) c.fn).finish c vSuccess))
      ∧ (c.dw 10 % 256 = 0x07 → (s.sqs.any fun q => q.fn = c.fn && q.qid ≠ 0) = true → c.dw 11 % 65536 ≠ 65535 → c.dw 11 / 65536 ≠ 65535 →
        exec (.setFeaturesNumberOfQueues n) s = .next (s.finish c vSequence))
      ∧ (c.dw 10 % 256 = 0x08 → exec (.setFeaturesInterruptConfig n) s
        = .next ((s.put .X_FEAT_IC (c.dw 11 % 65536) c.fn).finish c vSuccess))
      ∧ (c.dw 10 % 256 = 0x09 → exec (.setFeaturesInterruptConfig n) s = .next (if 2047 < c.dw 11 % 65536 then s.finish c vInvalidField
        else (s.putFlag .X_FEAT_IVC (bit (c.dw 11) 16) (c.fn * 2048 + c.dw 11 % 65536)).finish c vSuccess))
      ∧ (c.dw 10 % 256 = 0x0B → exec (.setFeaturesAsyncEventConfig n) s
        = .next ((s.put .X_FEAT_AEC (if c.fn = 0 then c.dw 11 else c.dw 11 % 2 ^ 31) c.fn).finish c vSuccess))
      ∧ (c.dw 10 % 256 = 0x0E → exec (.setFeaturesTimestamp n) s = .next (s.finish c vInvalidField))
      ∧ (c.dw 10 % 256 = 0xC1 → (c.dw 11 % 65536 = 0 ∨ 128 < c.dw 11 % 65536) →
        exec (.setFeaturesQueueAttributes n) s = .next (s.finish c vInvalidField)))
    ∧ (∀ (s : State) n c, s.nvmeCmd n true 0x09 = some c → c.dw 10 % 256 = 0x07 → c.dw 11 % 65536 ≠ 65535 → c.dw 11 / 65536 ≠ 65535 →
      (s.sqs.any fun q => q.fn = c.fn && q.qid ≠ 0) = false → (s.cqs.any fun q => q.fn = c.fn && q.qid ≠ 0) = false → s.poolFree c.fn ≠ 0 → ∃ a b,
      a + 1 = min (c.dw 11 % 65536 + 1) (min 128 (s.poolFree c.fn)) ∧ b + 1 = min (c.dw 11 / 65536 + 1) (min 128 (s.poolFree c.fn))
        ∧ exec (.setFeaturesNumberOfQueues n) s = .next ((((s.put .X_NSQA a c.fn).put .X_NCQA b c.fn).put .X_POOL_HELD (max a b + 1) c.fn).finish c
          { vSuccess with dw0 := a + 65536 * b }))
    ∧ (∀ (s : State) n c, s.nvmeCmd n true 0x09 = some c → c.dw 10 % 256 = 0xC1 → c.dw 11 % 65536 ≠ 0 → c.dw 11 % 65536 ≤ 128 →
      c.dw 11 / 65536 % 4 ≠ 3 → bit (c.dw 11) 19 = false → c.dw 11 / 2 ^ 28 = 0 → exec (.setFeaturesQueueAttributes n) s
      = .next (if (s.sq? c.fn (c.dw 11 % 65536)).isSome then s.finish c vSequence
        else (s.put .X_FEAT_QATTR (c.dw 11 - c.dw 11 % 65536) (c.fn * 256 + c.dw 11 % 65536)).finish c vSuccess))

/-- Of a fetched I/O command. Read and Verify, and Write and Write Zeroes, run the read and the write of their range. During a
Sanitize Flush and Dataset Management end with its status, and during a Format of their namespace Namespace Not Ready. Otherwise a
Flush of every namespace or of a ready attached one completes at once; Dataset Management without Deallocate on a ready namespace
completes and changes nothing else. -/
def Obligations.NvmeIoCommands : Prop :=
  (∀ (s : State) n c, s.nvmeCmd n false 0x02 = some c → exec (.nvmeRead n) s = .next (s.nvmeRead c))
    ∧ (∀ (s : State) n c, s.nvmeCmd n false 0x0C = some c → exec (.nvmeVerify n) s = .next (s.nvmeRead c))
    ∧ (∀ (s : State) n c, s.nvmeCmd n false 0x01 = some c → exec (.nvmeWrite n) s = .next (s.nvmeWrite c))
    ∧ (∀ (s : State) n c, s.nvmeCmd n false 0x08 = some c → exec (.nvmeWriteZeroes n) s = .next (s.nvmeWrite c))
    ∧ (∀ (s : State) c r, s.ioVerdict (s.onRange c c.slba c.nlb) (c.op = 0x01) rightWrite = some r →
      s.nvmeWrite c = s.finish (s.onRange c c.slba c.nlb) r)
    ∧ (∀ (s : State) n c r, s.nvmeCmd n false 0x00 = some c → s.sanVerdict = some r → exec (.nvmeFlush n) s = .next (s.finish c r))
    ∧ (∀ (s : State) n c, s.nvmeCmd n false 0x00 = some c → s.sanVerdict = none → (c.dw 1 = 0xFFFFFFFF ∨ s.nsVerdict c.fn (c.dw 1) = none) →
      exec (.nvmeFlush n) s = .next (s.finish c (if s.notReady (c.dw 1 - 1) then vNotReady else vSuccess)))
    ∧ (∀ (s : State) n c l, s.nvmeCmd n false 0x09 = some c → s.sanVerdict = none → s.nsVerdict c.fn (c.dw 1) = none → s.notReady (c.dw 1 - 1) = true →
      exec (.nvmeDatasetManagement n l) s = .next (s.finish c vNotReady))
    ∧ (∀ (s : State) n c l, s.nvmeCmd n false 0x09 = some c → s.sanVerdict = none → s.nsVerdict c.fn (c.dw 1) = none →
      s.notReady (c.dw 1 - 1) = false → bit (c.dw 11) 2 = false →
      exec (.nvmeDatasetManagement n l) s = .next (s.finish c vSuccess))
    ∧ (∀ (s : State) n c l r, s.nvmeCmd n false 0x09 = some c → s.sanVerdict = some r → exec (.nvmeDatasetManagement n l) s = .next (s.finish c r))
    ∧ (∀ (s : State) n c l, s.nvmeCmd n false 0x09 = some c → s.sanVerdict = none → s.nsVerdict c.fn (c.dw 1) = none → s.notReady (c.dw 1 - 1) = false → bit (c.dw 11) 2 = true →
      (((l.take (c.dw 10 % 256 + 1)).filter fun r : LbaRange => r.len ≠ 0).map fun r => s.onRange c r.lba r.len).findSome?
        (fun d => s.rangeVerdict d d.node d.lba d.len rightWrite) = none → exec (.nvmeDatasetManagement n l) s
        = .next ((forEach (((l.take (c.dw 10 % 256 + 1)).filter fun r : LbaRange => r.len ≠ 0).map fun r => s.onRange c r.lba r.len) s fun d t =>
          t.deallocate { d with target := (t.writeTarget d.node).elim 0 (· + 1) }).finish c vSuccess))

/-- Of a fetched admin command with no Sanitize at work. Create of PF0 with a granule the block offers, a codec, an LBA format and
protection information that R145 allows together, a size of at least one block and thin provisioning not asked for creates the
volume under the lowest free node, unattached and writable, gives it a new key and answers its namespace ID in Dword 0. Create
with NCAP other than NSZE ends Thin Provisioning Not Supported. Delete of a volume in no stack, with ADMIN, begins its deletion,
and the command waits; of a volume in a stack it is refused. Attach of one existing controller not yet attached adds it to the
node's list, journals it and tells it; detach of an attached one removes it likewise, of another it ends Namespace Not Attached.
During a Format the node is Namespace Not Ready. -/
def Obligations.NamespacesAreCreatedDeletedAttached : Prop :=
  (∀ (s : State) n c data id f dps size, s.nvmeCmd n true 0x0D = some c → c.dw 10 % 16 = 0 → s.sanVerdict = none → c.fn = 0 → fieldAt data 0 8 ≠ 0 →
      fieldAt data 8 8 = fieldAt data 0 8 → f = fieldAt data 26 1 % 16 + bits (fieldAt data 26 1) 6 5 * 16 → dps = fieldAt data 29 1 →
      piOk (dps % 8) (bit dps 3) = true → (dps % 8 = 0 ∨ lbaMeta f ≠ 0) → fieldAt data 3072 1 ≤ 2 → s.granuleOffered (fieldAt data 3072 1) = true →
      fieldAt data 3073 1 ≤ 1 → lbafOk f (fieldAt data 3072 1) (fieldAt data 3073 1) = true → size = (fieldAt data 0 8 * lbaBytes f + 4095) / 4096 →
      size ≤ 2 ^ 40 → s.freeNode = some id → exec (.namespaceManagementCreate n data) s
        = .next (((s.addNode ⟨id, false, false, size, fieldAt data 3072 1, fieldAt data 3073 1, f, bit (fieldAt data 26 1) 4 && lbaMeta f ≠ 0, dps % 8,
          true, false, [], 0, [], none⟩).newKey id 0).finish c { vSuccess with dw0 := id + 1 }))
    ∧ (∀ (s : State) n c data, s.nvmeCmd n true 0x0D = some c → c.dw 10 % 16 = 0 → s.sanVerdict = none → fieldAt data 0 8 ≠ 0 →
      piOk (fieldAt data 29 1 % 8) (bit (fieldAt data 29 1) 3) = true →
      fieldAt data 8 8 ≠ fieldAt data 0 8 → fieldAt data 3072 1 ≤ 2 → s.granuleOffered (fieldAt data 3072 1) = true →
      fieldAt data 3073 1 ≤ 1 → exec (.namespaceManagementCreate n data) s = .next (s.finish c vThinProvisioning))
    ∧ (∀ (s : State) n c, s.nvmeCmd n true 0x0D = some c → c.dw 10 % 16 = 1 → s.sanVerdict = none → s.adminVerdict c = none →
      ((s.inStack (c.dw 1 - 1) || s.armedAdds (c.dw 1 - 1)) = false → s.isVolume (c.dw 1 - 1) = true ∧ s.notReady (c.dw 1 - 1) = false) →
      exec (.namespaceManagementDelete n) s
        = .next (if s.inStack (c.dw 1 - 1) || s.armedAdds (c.dw 1 - 1) then s.finish c vNodeInStack
          else ((s.setCmd { c with st := .admitted, node := c.dw 1 - 1 }).beginDeletion (c.dw 1 - 1) 65 0).notifyChange (c.dw 1 - 1)))
    ∧ (∀ (s : State) n c v, s.nvmeCmd n true 0x0D = some c → c.dw 10 % 16 = 1 → s.sanVerdict = none → s.adminVerdict c = some v →
      exec (.namespaceManagementDelete n) s = .next (s.finish c v))
    ∧ (∀ (s : State) n c x f, s.nvmeCmd n true 0x15 = some c → s.sanVerdict = none → s.adminVerdict c = none → s.node? (c.dw 1 - 1) = some x →
      x.formatting = none → s.fnExists f = true → c.dw 10 % 16 = 0 → s.mixed (c.dw 1 - 1) = false → x.attached.contains f = false → ∃ t u : State,
        t = (s.setNode { x with attached := x.attached ++ [f] }).journal 0x1B (c.dw 1 - 1) (f + 512) 0
        ∧ u = t.putFlag .X_NSCHG true (f * 4096 + (c.dw 1 - 1))
        ∧ exec (.namespaceAttachment n [f]) s = .next ((if bit (u.get .X_FEAT_AEC f) 8 then u.asyncEvent f 2 0 0x04 else u).finish c vSuccess))
    ∧ (∀ (s : State) n c x f, s.nvmeCmd n true 0x15 = some c → s.sanVerdict = none → s.adminVerdict c = none → s.node? (c.dw 1 - 1) = some x →
      x.formatting = none → s.fnExists f = true → c.dw 10 % 16 = 1 → x.attached.contains f = false → exec (.namespaceAttachment n [f]) s
        = .next (s.finish c vNotAttached))
    ∧ (∀ (s : State) n c x f, s.nvmeCmd n true 0x15 = some c → s.sanVerdict = none → s.adminVerdict c = none → s.node? (c.dw 1 - 1) = some x →
      x.formatting = none → s.fnExists f = true → c.dw 10 % 16 = 1 → x.attached.contains f = true → ∃ t u : State,
        t = (s.setNode { x with attached := x.attached.filter fun g => !([f].contains g) }).journal 0x1B (c.dw 1 - 1) f 0
        ∧ u = t.putFlag .X_NSCHG true (f * 4096 + (c.dw 1 - 1))
        ∧ exec (.namespaceAttachment n [f]) s = .next ((if bit (u.get .X_FEAT_AEC f) 8 then u.asyncEvent f 2 0 0x04 else u).finish c vSuccess))
    ∧ (∀ (s : State) n c x l, s.nvmeCmd n true 0x15 = some c → s.sanVerdict = none → s.adminVerdict c = none → s.node? (c.dw 1 - 1) = some x →
      c.dw 10 % 16 ≤ 1 → x.formatting.isSome = true → exec (.namespaceAttachment n l) s = .next (s.finish c vNotReady))

/-- A fetched Format NVM with no Sanitize at work and with ADMIN, on a volume in no stack and not being formatted, with an LBA
format and protection information the volume allows and SES 0 to 2, journals its start, releases the volume's pins, gives it a new
key if it was licensed or SES is 2, empties its map, marks it as being formatted with the new format, begins to erase its blocks
if SES is 1, and waits. A value of SES above 2 ends Invalid Field, a volume in a stack is refused. Once its work is done
FORMAT_COMPLETE journals the end, makes the namespace ready and completes the waiting command; before that it does nothing. -/
def Obligations.FormatsRunAndEnd : Prop :=
  (∀ (s : State) n c x, s.nvmeCmd n true 0x80 = some c → s.sanVerdict = none → s.adminVerdict c = none → s.node? (c.dw 1 - 1) = some x →
      x.isStack = false → (s.inStack (c.dw 1 - 1) || s.armedAdds (c.dw 1 - 1)) = false →
      lbafOk (c.dw 10 % 16 + bits (c.dw 10) 13 12 * 16) x.granule x.codec = true → bits (c.dw 10) 11 9 ≤ 2 →
      piOk (bits (c.dw 10) 7 5) (bit (c.dw 10) 8) = true → (bits (c.dw 10) 7 5 = 0 ∨ lbaMeta (c.dw 10 % 16 + bits (c.dw 10) 13 12 * 16) ≠ 0) →
      x.formatting = none → ∃ (f ses : Nat) (t u v w : State), f = c.dw 10 % 16 + bits (c.dw 10) 13 12 * 16 ∧ ses = bits (c.dw 10) 11 9
        ∧ t = (((s.setCmd { c with st := .admitted, node := c.dw 1 - 1 }).journal 0x15 (c.dw 1 - 1) (2 * ses + 8 * f) 0).releaseWithEvents
            (fun p => p.node = c.dw 1 - 1 && p.id ≠ 0)).endLoadingPins (c.dw 1 - 1)
        ∧ u = (if (s.licences.any fun l => l.node = c.dw 1 - 1) ∨ ses = 2 then t.rekey (c.dw 1 - 1) else t)
        ∧ v = (u.dropDict (c.dw 1 - 1)).emptyNode (c.dw 1 - 1)
        ∧ w = (match v.node? (c.dw 1 - 1) with
            | some y => v.setNode { y with lbaf := f, ext := bit (c.dw 10) 4 && lbaMeta f ≠ 0, pi := bits (c.dw 10) 7 5, formatting := some ses }
            | none => v).startSweep ⟨c.dw 1 - 1, 0, 2 ^ 60, 2, 65, false, 0⟩
        ∧ exec (.formatNvm n) s = .next (if ses = 1 then w.eraseVolume (c.dw 1 - 1) else w))
    ∧ (∀ (s : State) n c x, s.nvmeCmd n true 0x80 = some c → s.sanVerdict = none → s.adminVerdict c = none → s.node? (c.dw 1 - 1) = some x →
      x.isStack = false → (s.inStack (c.dw 1 - 1) || s.armedAdds (c.dw 1 - 1)) = false → c.dw 10 % 16 = 0 → bits (c.dw 10) 13 12 = 0 →
      2 < bits (c.dw 10) 11 9 → exec (.formatNvm n) s = .next (s.finish c vInvalidField))
    ∧ (∀ (s : State) n c x, s.nvmeCmd n true 0x80 = some c → s.sanVerdict = none → s.adminVerdict c = none → s.node? (c.dw 1 - 1) = some x →
      x.isStack = false → (s.inStack (c.dw 1 - 1) || s.armedAdds (c.dw 1 - 1)) = true → exec (.formatNvm n) s = .next (s.finish c vNodeInStack))
    ∧ (∀ (s : State) node x ses, s.node? node = some x → x.formatting = some ses → s.formatDone node ses = true → ∃ t : State,
      t = (((s.journal 0x15 node (1 + 2 * ses + 8 * x.lbaf) 0).setNode { x with formatting := none }).journalAttr x).notifyChange node
      ∧ exec (.formatComplete node) s
        = .next (match t.cmds.find? fun c => c.nvme && c.q = 0 && c.op = 0x80 && c.st = .admitted && c.node = node with
            | some c => t.finish c vSuccess
            | none => t))
    ∧ (∀ (s : State) node x, s.node? node = some x → (x.formatting = none ∨ ∃ ses, x.formatting = some ses ∧ s.formatDone node ses = false) →
      exec (.formatComplete node) s = .next s)

/-- Of a fetched Sanitize by its action. Block Erase and Crypto Erase by a function with ADMIN on every node, with neither a
Sanitize at work nor failure mode nor a No-Deallocate request, start the Sanitize; while one is at work they end Sanitize In
Progress, and without ADMIN they are denied. Overwrite ends Invalid Field. Exit Failure Mode leaves the failure of an unrestricted
Sanitize and is refused for a restricted one. SANITIZE_COMPLETE of a Sanitize whose work is done shows SSTAT 1, SPROG 65,535 and
Global Data Erased; a failed one shows SSTAT 3 and failure mode; both end JQ_STS.SANITIZING. With none at work nothing happens. -/
def Obligations.SanitizeActions : Prop :=
  (∀ (s : State) n c, s.nvmeCmd n true 0x84 = some c →
      (c.dw 10 % 8 = 2 → s.sanitizing = false → (∀ x ∈ s.nodes, bit (s.rightsOf c.fn x.id) rightAdmin = true) → bit (c.dw 10) 9 = false →
        s.flag .X_SAN_FM = false → exec (.sanitizeBlockErase n) s = .next (s.startSanitize c false))
      ∧ (c.dw 10 % 8 = 4 → s.sanitizing = false → (∀ x ∈ s.nodes, bit (s.rightsOf c.fn x.id) rightAdmin = true) → bit (c.dw 10) 9 = false →
        s.flag .X_SAN_FM = false → exec (.sanitizeCryptoErase n) s = .next (s.startSanitize c true))
      ∧ (c.dw 10 % 8 = 2 → s.sanitizing = true → exec (.sanitizeBlockErase n) s = .next (s.finish c vSanitizing))
      ∧ (c.dw 10 % 8 = 4 → s.sanitizing = true → exec (.sanitizeCryptoErase n) s = .next (s.finish c vSanitizing))
      ∧ (c.dw 10 % 8 = 4 → s.sanitizing = false → (∃ x ∈ s.nodes, x.deleting = false ∧ bit (s.rightsOf c.fn x.id) rightAdmin = false) → c.fn ≠ 0 →
        exec (.sanitizeCryptoErase n) s = .next (s.finish c vAccessDenied))
      ∧ (c.dw 10 % 8 = 3 → exec (.sanitizeOverwrite n) s = .next (s.finish c vInvalidField))
      ∧ (c.dw 10 % 8 = 1 → s.sanitizing = false → exec (.sanitizeExitFailureMode n) s
        = .next (if s.flag .X_SAN_FM && !bit (s.get .X_SAN_DW10) 3 then s.finish c vSanitizeFailed else (s.putFlag .X_SAN_FM false).finish c vSuccess)))
    ∧ (∀ (s t : State) c crypto, s.startSanitize c crypto = t → t.get .X_SAN_ST = 2 ∧ t.get .X_SAN_SPROG = 0 ∧ t.flag .JQ_STS_SANITIZING = true
      ∧ t.flag .X_SAN_CRYPTO = crypto ∧ t.get .X_SAN_FN = c.fn % 2 ^ 9 ∧ t.copies = [] ∧ t.recovs = [] ∧ (crypto = false → t.wbuf = []))
    ∧ (∀ (s : State), s.sanitizing = true → s.sanitizeWorkDone = true → ∃ t : State, t.get .X_SAN_ST = 1 ∧ t.get .X_SAN_SPROG = 65535
      ∧ t.flag .X_SAN_GDE = true ∧ t.flag .JQ_STS_SANITIZING = false ∧ t.flag .X_SAN_FM = s.flag .X_SAN_FM ∧ t.flash = s.flash
      ∧ exec (.sanitizeComplete true) s = .next (t.asyncEvent (s.get .X_SAN_FN) 6 1 0x81))
    ∧ (∀ (s : State), s.sanitizing = true → ∃ t : State, t.get .X_SAN_ST = 3 ∧ t.flag .X_SAN_FM = true ∧ t.flag .JQ_STS_SANITIZING = false
      ∧ t.get .X_SAN_SPROG = s.get .X_SAN_SPROG ∧ t.flag .X_SAN_GDE = s.flag .X_SAN_GDE ∧ t.flash = s.flash
      ∧ exec (.sanitizeComplete false) s = .next (t.asyncEvent (s.get .X_SAN_FN) 6 1 0x81))
    ∧ (∀ (s : State) ok, s.sanitizing = false → exec (.sanitizeComplete ok) s = .next s)

/-- Of a fetched command. With no Sanitize at work a standard log read at an aligned offset inside it within MDTS is sent from the
offset and the command completes Success; an identifier that names no log ends Invalid Log Page; during a Sanitize a log that
stays not readable ends with its status. Erase Counts of a function without the namespace-management family, and Recorder Export
or Fault Status of a function other than PF0, end Invalid Log Page; PF0's Fault Status sends the 320 source states. Recorder
Export at offset 0 takes a snapshot and sends it. Identify of a CNS that has data sends them; of a namespace list it sends the IDs
above the one given; an unknown CNS ends Invalid Field. -/
def Obligations.LogPagesAndIdentifyAnswer : Prop :=
  (∀ (s : State) n c, s.nvmeCmd n true 0x02 = some c → c.logOff % 4 = 0 → c.logLen ≤ mdts → s.sanVerdict = none → ∃ t : State,
      t = s.put .X_FREE (s.get .X_FREE + 1) ∧
      (∀ (l : List Byte) (u : State), t.standardLog c (Config.freeBytes (s.get .X_FREE)) = some (l, u) → (c.lid = 0x02 → c.dw 1 = 0 ∨ c.dw 1 = 0xFFFFFFFF) →
        c.logOff ≤ l.length → exec (.getLogPage n) s
          = .next ((u.sendData c 0 (slice l (Config.freeBytes (s.get .X_FREE)) c.logOff c.logLen)).finish c vSuccess))
      ∧ (c.lid = 0x03 → t.standardLog c (Config.freeBytes (s.get .X_FREE)) = some (t.firmwareLog, t))
      ∧ (c.lid = 0x81 → t.standardLog c (Config.freeBytes (s.get .X_FREE)) = some (t.sanitizeLog (Config.freeBytes (s.get .X_FREE)), t))
      ∧ (c.lid = 0 → exec (.getLogPage n) s = .next (s.finish c vInvalidLog))
      ∧ (c.lid = 0xC0 → s.hasNsFam c.fn = false → exec (.getLogEraseCounts n) s = .next (s.finish c vInvalidLog))
      ∧ (c.lid = 0xC0 → s.hasNsFam c.fn = true → c.lsi = 0xFFFF → c.logOff ≤ t.eraseSummary.length → exec (.getLogEraseCounts n) s
        = .next ((t.sendData c 0 (slice t.eraseSummary (Config.freeBytes (s.get .X_FREE)) c.logOff c.logLen)).finish c vSuccess))
      ∧ (c.lid = 0xC1 → c.fn ≠ 0 → exec (.getLogRecorderExport n) s = .next (s.finish c vInvalidLog))
      ∧ (c.lid = 0xC1 → c.fn = 0 → bit c.lsp 0 = false → c.logOff = 0 → exec (.getLogRecorderExport n) s
        = .next ((({ t with recSnap := t.recImage } : State).sendData c 0 (slice t.recImage (Config.freeBytes (s.get .X_FREE)) 0 c.logLen)).finish c vSuccess))
      ∧ (c.lid = 0xC2 → c.fn ≠ 0 → exec (.getLogFaultStatus n) s = .next (s.finish c vInvalidLog))
      ∧ (c.lid = 0xC2 → c.fn = 0 → c.logOff ≤ t.faultLog.length → exec (.getLogFaultStatus n) s
        = .next ((t.sendData c 0 (slice t.faultLog (Config.freeBytes (s.get .X_FREE)) c.logOff c.logLen)).finish c vSuccess)))
    ∧ (∀ (s : State) n c r, s.nvmeCmd n true 0x02 = some c → s.sanVerdict = some r → c.lid ∉ [0x01, 0x02, 0x04, 0x81] → (c.lid < 0xC0 ∨ 0xC2 < c.lid) →
      exec (.getLogPage n) s = .next (s.finish c r))
    ∧ (∀ (s : State) n c, s.nvmeCmd n true 0x06 = some c → ∃ t : State, t = s.put .X_FREE (s.get .X_FREE + 1) ∧
      (c.dw 10 % 256 = 0x02 → c.dw 1 < 0xFFFFFFFE → exec (.identify n) s
        = .next ((t.sendData c 0 (nsList (t.nodeIds fun x => x.attached.contains c.fn) (c.dw 1))).finish c vSuccess))
      ∧ (c.dw 10 % 256 = 0x01 → exec (.identify n) s
        = .next ((t.sendData c 0 (t.identifyCtrl c.fn (Config.freeBytes (s.get .X_FREE)))).finish c vSuccess))
      ∧ (∀ l : List Byte, t.identifyData c (Config.freeBytes (s.get .X_FREE)) = .ok l → exec (.identify n) s = .next ((t.sendData c 0 l).finish c vSuccess))
      ∧ (c.dw 10 % 256 = 0x20 → exec (.identify n) s = .next (s.finish c vInvalidField)))

/-- In Ready each management command appends one answer. The health polls answer success with the warnings and temperature of the
subsystem, or one entry for each controller; the Basic Management Command with its length, warnings, temperature and vendor ID;
Read NVMe-MI Data Structure and VPD Read with bytes the spec leaves open; VPD Write is refused. Configuration Get answers the
SMBus frequency and the MCTP unit size; Configuration Set stores a frequency of 1 to 3 or a unit size of at least 64 and refuses
other values. A tunneled Get Features answers the stored value, and a tunneled opcode other than Identify, Get Log Page and Get
Features is refused. Unpowered or in Holdup nothing is answered. -/
def Obligations.ManagementEndpointAnswers : Prop :=
  (∀ (s : State), s.powered = true → s.mode = mReady → ∃ t : State, t = s.put .X_FREE (s.get .X_FREE + 1) ∧
      exec .miReadDataStructure s = .next (t.emit (.mi miOk (Config.freeBytes (s.get .X_FREE))))
      ∧ exec .miSubsystemHealthPoll s = .next (t.emit (.mi miOk (layOver (Config.freeBytes (s.get .X_FREE)) 8
        [t.smartInverted (Config.freeBytes (s.get .X_FREE)) 1, (2, [tempByte (t.sensorK.getD 0 0)])])))
      ∧ exec .miControllerHealthPoll s = .next (t.emit (.mi miOk (((List.range 264).filter t.fnExists).flatMap
        (t.miController (Config.freeBytes (s.get .X_FREE))))))
      ∧ (∀ len, ∃ b : List Byte, b.length = len ∧ exec (.miVpdRead len) s = .next (t.emit (.mi miOk b)))
      ∧ (∃ v, 1 ≤ v ∧ v ≤ 255 ∧ exec .miVpdWrite s = .next (t.emit (.mi v [])))
      ∧ (∃ b : List Byte, b.length = 32 ∧ b[0]? = some 6 ∧ b[3]? = some (tempByte (t.sensorK.getD 0 0)) ∧ b[9]? = some 0x1F ∧ b[10]? = some 0xC7
        ∧ exec .basicManagementCommand s = .next (t.emit (.mi miOk b))))
    ∧ (∀ (s : State), s.powered = true → s.mode = mReady →
      exec (.miConfigurationGet 1) s = .next (s.emit (.mi miOk (natLe 3 (s.get .X_MI_FREQ))))
      ∧ exec (.miConfigurationGet 3) s = .next (s.emit (.mi miOk (natLe 3 (s.get .X_MI_MTU))))
      ∧ exec (.miConfigurationGet 2) s = .next (s.emit (.mi miInvalidParameter []))
      ∧ (∀ v, 1 ≤ v → v ≤ 3 → ∃ t : State, exec (.miConfigurationSet 1 v) s = .next t ∧ t.get .X_MI_FREQ = v ∧ t.get .X_MI_MTU = s.get .X_MI_MTU
        ∧ t.out = s.out ++ [.mi miOk []] ∧ t.cmds = s.cmds)
      ∧ (∀ v, 64 ≤ v → v < 65536 → ∃ t : State, exec (.miConfigurationSet 3 v) s = .next t ∧ t.get .X_MI_MTU = v ∧ t.get .X_MI_FREQ = s.get .X_MI_FREQ
        ∧ t.out = s.out ++ [.mi miOk []] ∧ t.cmds = s.cmds)
      ∧ (∀ i v, (i ≠ 1 ∧ i ≠ 3 ∨ i = 1 ∧ (v = 0 ∨ 3 < v) ∨ i = 3 ∧ v < 64) →
        exec (.miConfigurationSet i v) s = .next (s.emit (.mi miInvalidParameter []))))
    ∧ (∀ (s : State) b c v, s.powered = true → s.mode = mReady → c = newCmd 0 true 0 0 0 (fieldAt b 0 1) s.tick b → c.op = 0x0A → c.dw 10 % 256 ≠ 0x0E →
      s.featureValue 0 (c.dw 10 % 256) (c.dw 11) = some v → exec (.miTunneledAdmin b) s = .next (s.emit (.mi 0 (natLe 4 v))))
    ∧ (∀ (s : State) b c, s.powered = true → s.mode = mReady → c = newCmd 0 true 0 0 0 (fieldAt b 0 1) s.tick b → c.op ≠ 0x0A → c.op ≠ 0x02 → c.op ≠ 0x06 →
      exec (.miTunneledAdmin b) s = .next (s.emit (.mi miInvalidOpcode [])))
    ∧ (∀ (s : State) i v b, (s.powered = false ∨ s.mode = mHoldup) → exec .miReadDataStructure s = .next s
      ∧ exec (.miConfigurationSet i v) s = .next s ∧ exec (.miTunneledAdmin b) s = .next s ∧ exec .basicManagementCommand s = .next s)

/-- A fetched Firmware Image Download of whole 4 KiB units within 64 MiB, with no Sanitize at work, adds its piece to the package
and ends Success; other offsets end Invalid Field. A fetched Firmware Commit of a slot from 0 to 4, with no commit at work and no
Sanitize, becomes the commit at work: COMMIT_BUSY is set, its action, slot and tick are kept, its command is admitted, nothing is
answered and no activation is armed. Activate Existing Slot of the running slot withdraws a pending reset activation and succeeds;
a bootable slot that is neither armed nor running becomes the next to start; a slot without an image is an Invalid Firmware Slot.
-/
def Obligations.FirmwareCommandsAreTaken : Prop :=
  (∀ (s : State) n c b, s.nvmeCmd n true 0x11 = some c → s.sanVerdict = none → c.dw 11 % 1024 = 0 → (c.dw 10 + 1) % 1024 = 0 →
      4 * c.dw 11 + 4 * (c.dw 10 + 1) ≤ 67108864 → b.length = 4 * (c.dw 10 + 1) → exec (.firmwareImageDownload n b) s
        = .next (({ s with pkg := s.pkg ++ [(4 * c.dw 11, b)] } : State).finish c vSuccess))
    ∧ (∀ (s : State) n c b, s.nvmeCmd n true 0x11 = some c → s.sanVerdict = none → c.dw 11 % 1024 ≠ 0 → exec (.firmwareImageDownload n b) s
        = .next (s.finish c vInvalidField))
    ∧ (∀ (s : State) n c, s.nvmeCmd n true 0x10 = some c → s.sanVerdict = none → s.flag .FW_STS_COMMIT_BUSY = false → c.st = .taken → c.dw 10 % 8 ≤ 4 →
      ∃ t : Nat → State, (∀ a < 8, (t a).flag .FW_STS_COMMIT_BUSY = true ∧ (t a).get .X_FW_ACT = a ∧ (t a).get .X_FW_TGT = c.dw 10 % 8
          ∧ (t a).get .X_FW_TICK = fieldAt c.raw 48 8 % 2 ^ 64 ∧ (t a).out = s.out ∧ (t a).pkg = s.pkg ∧ (t a).fwSlots = s.fwSlots
          ∧ (t a).armed = s.armed ∧ (t a).get .FW_STS_ACT_STATE = s.get .FW_STS_ACT_STATE ∧ (t a).get .FW_ACTIVE_NEXT_RESET = s.get .FW_ACTIVE_NEXT_RESET
          ∧ (t a).cmds = (s.setCmd { c with st := .admitted }).cmds)
        ∧ (bits (c.dw 10) 5 3 = 0 → exec (.commitNoActivation n) s = .next (t 0)) ∧ (bits (c.dw 10) 5 3 = 1 → exec (.commitActivateAtReset n) s = .next (t 1))
        ∧ (bits (c.dw 10) 5 3 = 3 → exec (.commitActivateNow n) s = .next (t 3)) ∧ (bits (c.dw 10) 5 3 = 5 → exec (.commitActivateAtTick n) s = .next (t 5)))
    ∧ (∀ (s : State) n c k, s.nvmeCmd n true 0x10 = some c → s.sanVerdict = none → s.flag .FW_STS_COMMIT_BUSY = false → c.st = .taken → c.dw 10 % 8 ≤ 4 →
      bits (c.dw 10) 5 3 = 2 → s.targetSlot (c.dw 10 % 8) = k →
      (k = s.get .FW_ACTIVE_RUNNING → exec (.activateExistingSlot n) s = .next (((s.setNextReset 0).fwReport fwOk k 0 0).finish c vSuccess))
      ∧ (k ≠ s.get .FW_ACTIVE_RUNNING → s.slot? k = none → exec (.activateExistingSlot n) s = .next ((s.fwReport fwSlotActive k 0 0).finish c vInvalidSlot))
      ∧ (k ≠ s.get .FW_ACTIVE_RUNNING → s.bootable k = true → k ≠ s.get .FW_ACTIVE_ARMED → s.fwActive = false →
        exec (.activateExistingSlot n) s = .next (((s.setNextReset k).fwReport fwOk k 0 0).finish c vSuccess)))
    ∧ (∀ (s : State) k, k < 8 → (s.setNextReset k).get .FW_ACTIVE_NEXT_RESET = k ∧ (s.setNextReset k).flag .FW_STS_PENDING_RESET = decide (k ≠ 0)
      ∧ (s.setNextReset k).get .FW_ACTIVE_RUNNING = s.get .FW_ACTIVE_RUNNING)

/-- With a commit at work and not yet written: a package that fails a check ends the commit with the code and component of the
check, and none passes with a signature that does not verify; one that passes empties its slot, keeps the image to be written, and
unlocks the system area. The end of the write locks it again; a failed write ends WRITE_FAIL with the slot empty; a good one
stores the image and counts it. Then action 0 ends OK; action 1 marks the slot as next to start; a package that needs a reset does
the same for the other actions and answers so; action 3 arms two ticks ahead and answers at the end of the activation; action 5
arms its tick, or ends TICK_PAST where the tick cannot be armed. -/
def Obligations.CommitsAreVerifiedWrittenAndActivated : Prop :=
  (∀ (s : State) g d e k, s.flag .FW_STS_COMMIT_BUSY = true → s.flag .X_FW_WRITING = false → s.wardenUp = true → s.verify g d = .error (e, k) →
      exec (.commitVerifyDone g d) s
        = .next (({ s.put .X_FW_TGT (s.targetSlot (s.get .X_FW_TGT)) with pkg := [] } : State).endCommit e k (fwVerdict e)))
    ∧ (∀ (s : State) g d x, s.flag .FW_STS_COMMIT_BUSY = true → s.flag .X_FW_WRITING = false → s.wardenUp = true → s.verify g d = .ok x →
      ∃ t : State, exec (.commitVerifyDone g d) s = .next t ∧ t.pkg = [] ∧ t.fwNew = some x ∧ t.fwSlots = s.fwSlots.filter (fun y => y.slot ≠ x.slot)
        ∧ t.flag .X_FW_WRITING = true ∧ t.flag .FW_STS_COMMIT_BUSY = true ∧ t.out = s.out ∧ t.cmds = s.cmds
        ∧ (∀ c, t.flag .MS_SYSUNLOCK_UNLOCK c = (decide (c = 0 ∨ c = 2 ∨ c = 5) || s.flag .MS_SYSUNLOCK_UNLOCK c)))
    ∧ (∀ (s : State) g d, s.verify false d ≠ .ok g)
    ∧ (∀ (s : State) ok, s.flag .X_FW_WRITING = false → exec (.slotWriteDone ok) s = .next s)
    ∧ (∀ (s : State), s.flag .X_FW_WRITING = true → exec (.slotWriteDone false) s = .next ((s.setSysUnlock false).endCommit fwWriteFail 0 vInternal))
    ∧ (∀ (s : State) x, s.flag .X_FW_WRITING = true → s.fwNew = some x → ∃ t : State, t = ({ s.setSysUnlock false with fwSlots := s.fwSlots ++ [x] } : State).bump .FW_CNT_COMMITS
        ∧ t.flag .MS_SYSUNLOCK_UNLOCK 0 = false ∧ t.flag .MS_SYSUNLOCK_UNLOCK 2 = false ∧ t.flag .MS_SYSUNLOCK_UNLOCK 5 = false ∧
        (s.get .X_FW_ACT = 0 → exec (.slotWriteDone true) s = .next (t.endCommit fwOk 0 vSuccess))
        ∧ (s.get .X_FW_ACT = 1 → exec (.slotWriteDone true) s = .next ((t.setNextReset x.slot).endCommit fwOk 0 vSuccess))
        ∧ ((s.get .X_FW_ACT = 3 ∨ s.get .X_FW_ACT = 5) → bit x.flags 1 = true →
          exec (.slotWriteDone true) s = .next ((t.setNextReset x.slot).endCommit fwOk 0 vNeedsReset))
        ∧ (s.get .X_FW_ACT = 3 → bit x.flags 1 = false → ∃ u : State, exec (.slotWriteDone true) s = .next u ∧ u.out = s.out ∧ u.cmds = s.cmds
          ∧ u.get .FW_STS_ACT_STATE = 1 ∧ u.get .FW_ACTIVE_ARMED = x.slot % 8 ∧ u.flag .FW_STS_COMMIT_BUSY = false ∧ u.get .FW_LAST_CODE = fwOk
          ∧ (∃ q, u.armed = s.armed ++ [⟨s.tick + 2, q, .firmware x.slot⟩]))
        ∧ (s.get .X_FW_ACT = 5 → bit x.flags 1 = false → t.armOk (s.get .X_FW_TICK) = true →
          exec (.slotWriteDone true) s = .next ((t.armFirmware x.slot (s.get .X_FW_TICK)).endCommit fwOk 0 vSuccess))
        ∧ (s.get .X_FW_ACT = 5 → bit x.flags 1 = false → t.armOk (s.get .X_FW_TICK) = false →
          exec (.slotWriteDone true) s = .next (t.endCommit fwTickPast 0 vTickPast)))

/-- While an activation loads FRONT, the end of the reload ends the pause, FRONT runs the slot loaded, and replies held back are
posted; the first MAP half is followed by the second, and the second ends the MAP. In the roll a cluster starts when every die
outside it is available, otherwise it waits; it goes out of service after its preparation tick; its cores report ready one by one,
and the sixth lets it return, after which the next cluster begins, or after cluster 7 the recording. A wait that lasts reports
CLUSTER_WAIT and goes on. A core that fails its check, or RELOAD_FAIL, reports RELOAD_FAIL and begins the revert. The record makes
the slot the running one, shows DONE and counts the activation. -/
def Obligations.LiveActivationsRollTheClusters : Prop :=
  (∀ (s : State), s.get .FW_STS_ACT_STATE = fwFrontMap → s.flag .X_FE_PAUSE = true → ∃ t : State, exec .frontReloadDone s = .next t.postHeld
        ∧ t.flag .X_FE_PAUSE = false ∧ t.get .X_FW_COMP 3 = s.fwLoads % 8 ∧ t.get .FW_STS_ACT_STATE = fwFrontMap ∧ t.cmds = s.cmds ∧ t.out = s.out)
    ∧ (∀ (s : State), s.get .FW_STS_ACT_STATE = fwFrontMap → s.flag .X_FW_REV = false → s.get .X_FW_MAPHALF = 1 → ∃ t : State,
      exec .mapReloadHalf s = .next t ∧ t.get .X_FW_MAPHALF = 2 ∧ t.get .X_FW_COMP 4 = s.get .X_FW_COMP 4 ∧ t.out = s.out)
    ∧ (∀ (s : State), s.get .FW_STS_ACT_STATE = fwFrontMap → s.flag .X_FW_REV = false → s.get .X_FW_MAPHALF = 2 → ∃ t : State,
      exec .mapReloadHalf s = .next t ∧ t.get .X_FW_MAPHALF = 0 ∧ t.get .X_FW_COMP 4 = s.fwLoads % 8 ∧ t.out = s.out)
    ∧ (∀ (s : State) c, s.get .FW_STS_ACT_STATE = fwClusters → s.get .FW_STS_ROLL_CLUSTER = c →
      (s.get .X_FW_PHASE = 0 → ∃ t : State, exec .clusterRollPrepare s = .next t ∧ t.get .X_FW_PHASE = (if s.outsideAvailable c then 1 else 0)
        ∧ t.flag .FW_STS_WAITING = !s.outsideAvailable c ∧ t.get .FW_STS_ROLL_CLUSTER = c ∧ t.out = s.out)
      ∧ (s.get .X_FW_PHASE = 1 → s.get .X_FW_AT < s.tick → ∃ t : State, exec .clusterOutOfService s = .next t ∧ t.get .X_FW_PHASE = 2
        ∧ t.get .X_FW_RDY = 0 ∧ t.flag .X_CL_OOS c = true ∧ (∀ d, d ≠ c → t.flag .X_CL_OOS d = s.flag .X_CL_OOS d) ∧ t.cmds = s.cmds)
      ∧ (s.get .X_FW_PHASE = 1 → s.tick ≤ s.get .X_FW_AT → exec .clusterOutOfService s = .next s)
      ∧ (∀ k, k < 6 → c < 8 → s.get .X_FW_PHASE = 2 → s.get .X_FW_RDY ||| 2 ^ k ≠ 63 → ∃ t : State, exec (.clusterCoreReady (8 + 6 * c + k) true) s = .next t
        ∧ t.get .X_FW_RDY = s.get .X_FW_RDY ||| 2 ^ k ∧ t.get .X_FW_PHASE = 2 ∧ t.out = s.out)
      ∧ (∀ k, k < 6 → c < 8 → s.get .X_FW_PHASE = 2 → s.get .X_FW_RDY ||| 2 ^ k = 63 → ∃ t : State, exec (.clusterCoreReady (8 + 6 * c + k) true) s = .next t
        ∧ t.get .X_FW_PHASE = 3 ∧ t.flag .X_CL_OOS c = s.flag .X_CL_OOS c ∧ t.out = s.out)
      ∧ (∀ k, k < 6 → c < 8 → s.get .X_FW_PHASE = 2 → s.flag .X_FW_REV = false →
        exec (.clusterCoreReady (8 + 6 * c + k) false) s = .next (s.revertActivation 5) ∧ exec (.reloadFail (8 + 6 * c + k)) s = .next (s.revertActivation 5))
      ∧ (s.get .X_FW_PHASE = 3 → s.get .X_FW_AT < s.tick → exec .clusterReturn s
        = .next ((s.putFlag .X_CL_OOS false c).put .X_FW_CLCOMP s.fwLoads c).nextCluster)
      ∧ (s.flag .X_FW_REV = false → c = 7 → s.nextCluster.get .FW_STS_ACT_STATE = fwRecording)
      ∧ (s.flag .X_FW_REV = false → c < 7 → s.nextCluster.get .FW_STS_ROLL_CLUSTER = c + 1 ∧ s.nextCluster.get .FW_STS_ACT_STATE = fwClusters)
      ∧ (s.flag .FW_STS_WAITING = true → exec .clusterWaitTimeout s = .next (s.fwReport fwClusterWait (s.get .FW_ACTIVE_ARMED) 5 c)))
    ∧ (∀ (s : State) x, s.get .FW_STS_ACT_STATE = fwRecording → s.wardenUp = true → s.slot? (s.get .FW_ACTIVE_ARMED) = some x → ∃ t : State,
      t.get .FW_ACTIVE_RUNNING = x.slot % 8 ∧ t.get .FW_STS_ACT_STATE = 5 ∧ t.get .FW_ACTIVE_ARMED = 0 ∧ t.cmds = s.cmds ∧ t.out = s.out ∧ t.fwSlots = s.fwSlots
        ∧ (t.get .SEC_MONO = if bit x.flags 0 && decide (s.get .SEC_MONO < x.svn) then x.svn % 2 ^ 64 else s.get .SEC_MONO)
        ∧ exec .activationRecord s = .next ((t.fwReport fwOk x.slot 0 0).fwAnswer .X_FW_WAIT vSuccess))

/-- A READ, READ_UNPACK or GATHER packet that may be looked at ends SANITIZING during a Sanitize, INVALID_FIELD when a field is
outside its bounds, and otherwise with the status its range meets first; a READ_UNPACK of a format that is not enabled counts a
decode error and ends so. A packet that passes is admitted with its node, range, class and deadline. A READ of one deallocated
unit through a stack or volume is answered at once with 4,096 zero bytes at DEST. -/
def Obligations.ReadPacketsAreCheckedAndAdmitted : Prop :=
  (∀ (s : State) n c, s.packet n 0x01 = some c → s.flag .JQ_STS_SANITIZING = true → exec (.read n) s = .next (s.finish c vSanitizing))
    ∧ (∀ (s : State) n c, s.packet n 0x02 = some c → s.flag .JQ_STS_SANITIZING = false → c.readFieldsOk = false →
      exec (.readUnpack n) s = .next (s.finish c vInvalidField))
    ∧ (∀ (s : State) n c v, s.packet n 0x0B = some c → s.flag .JQ_STS_SANITIZING = false → c.readFieldsOk = true →
      s.rangeVerdict c c.pNode c.pLba c.pLen rightRead = some v → exec (.gather n) s = .next (s.finish c v))
    ∧ (∀ (s : State) n c d, s.flag .JQ_STS_SANITIZING = false → c.readFieldsOk = true → s.rangeVerdict c c.pNode c.pLba c.pLen rightRead = none →
      d = { c with node := c.pNode, lba := c.pLba, len := c.pLen, skip := 0, bytes := 4096 * c.pLen, cls := c.ctl % 4, deadline := absTick c.tick c.pDeadline, aux := [0] } →
      (s.packet n 0x01 = some c → exec (.read n) s = .next (s.admitRead d))
      ∧ (s.packet n 0x02 = some c → bit (s.get .CX_CTL_FMT_EN) (c.codec - 1) = true → exec (.readUnpack n) s = .next (s.admitRead d))
      ∧ (s.packet n 0x02 = some c → bit (s.get .CX_CTL_FMT_EN) (c.codec - 1) = false →
        exec (.readUnpack n) s = .next ((s.bump .CX_CNT_DECODE_ERR).finish c vDecodeError))
      ∧ (s.packet n 0x0B = some c → c.codec = 0 → exec (.gather n) s = .next (s.admitRead d)))
    ∧ (∀ (s : State) c t, c.nvme = false → c.op = 0x01 → c.cls = 1 → c.len = 1 → c.skip = 0 → c.bytes = 4096 → c.codec = 0 → c.mute = false → c.arrived = [] → c.dicts = [] → c.fmt = {} →
      s.cmd? c.id = some c → s.supply c.lba (s.order c.node) = none → (s.engJobs.any fun j => j.cmd = c.id) = false → ∀ d : Cmd,
      d = { c with parts := [⟨0, 0, c.lba, .zero, true, zeroUnit, 0⟩], gold := false, downgraded := false, st := .admitted } →
      t = (s.touchRange (2 * s.frontPair c.fn + 1) c.node c.lba 1).setCmd d → s.admitRead c = (t.sendDma d d.dest zeroUnit).finishRead d zeroUnit)

/-- A WRITE or WRITE_PACK packet that may be looked at ends SANITIZING during a Sanitize, INVALID_FIELD for fields outside their
bounds, a WRITE_PACK to a volume that is not compressed or holds title data too, and otherwise with the status its range meets
first; one that passes is admitted, or waits in order of arrival while quota or bands are short, and HOST_WRITE_ADMISSION makes
the oldest that waits pass its checks again and admits it. An admitted write takes its KiB from the tick's quota and owes one
granule each. PACK_ONLY is admitted without a range. -/
def Obligations.WritePacketsAreCheckedAndAdmitted : Prop :=
  (∀ (s : State) n c, s.packet n 0x03 = some c → c.waits = false → s.flag .JQ_STS_SANITIZING = true → exec (.write n) s = .next (s.finish c vSanitizing))
    ∧ (∀ (s : State) n c, s.packet n 0x04 = some c → c.waits = false → s.flag .JQ_STS_SANITIZING = false → s.writeFieldsOk c = false →
      exec (.writePack n) s = .next (s.finish c vInvalidField))
    ∧ (∀ (s : State) n c x, s.packet n 0x04 = some c → c.waits = false → c.op = 0x04 → s.flag .JQ_STS_SANITIZING = false →
      (if s.isVolume c.pNode then s.node? c.pNode else (s.writeTarget c.pNode).bind s.node?) = some x → (x.codec ≠ 1 ∨ x.titleKey = true) → exec (.writePack n) s = .next (s.finish c vInvalidField))
    ∧ (∀ (s : State) n c v, s.packet n 0x03 = some c → c.op = 0x03 → c.waits = false → s.flag .JQ_STS_SANITIZING = false → s.writeFieldsOk c = true →
      s.rangeVerdict c c.pNode c.pLba c.pLen rightWrite = some v → exec (.write n) s = .next (s.finish c v))
    ∧ (∀ (s : State) n c d, c.waits = false → s.flag .JQ_STS_SANITIZING = false → s.writeFieldsOk c = true →
      s.rangeVerdict c c.pNode c.pLba c.pLen rightWrite = none →
      d = { c with node := c.pNode, lba := c.pLba, len := c.pLen, skip := 0, bytes := 4096 * c.pLen, cls := if c.ctl % 4 = 2 then 2 else 1, target := (s.writeTarget c.pNode).elim 0 (· + 1) } → s.partialVerdict d = none →
      (s.packet n 0x03 = some c → c.op = 0x03 → exec (.write n) s = .next (s.admitWrite d))
      ∧ (s.packet n 0x04 = some c → (∀ x, (if s.isVolume c.pNode then s.node? c.pNode else (s.writeTarget c.pNode).bind s.node?) = some x → x.codec = 1 ∧ x.titleKey = false) →
        exec (.writePack n) s = .next (s.admitWrite d)))
    ∧ (∀ (s : State) c, c.nvme = false → c.zeroes = false → s.writeGranules c ≠ [] → (s.cmds.any fun x => x.waits && decide (x.id < c.id)) = false →
      (s.quotaOk ((s.writeGranules c).length * s.granBytes c / 1024) = false → s.admitWrite c = s.setCmd { c with waits := true })
      ∧ (s.quotaOk ((s.writeGranules c).length * s.granBytes c / 1024) = true → s.bandsFor c (s.writeGranules c).length = true → s.get .X_QUOTA < 2 ^ 63 →
        ∃ (t : State) (d : Cmd), s.admitWrite c = t.setCmd d ∧ d.id = c.id ∧ d.st = .admitted ∧ d.waits = false ∧ d.parts.length = (s.writeGranules c).length
          ∧ (d.parts.all fun p => !p.done) = true ∧ t.cmds = s.cmds ∧ t.out = s.out ∧ t.flag .X_QUOTA_FRESH = false
          ∧ t.get .X_QUOTA = s.get .X_QUOTA - (s.writeGranules c).length * s.granBytes c / 1024))
    ∧ (∀ (s : State) c d, (s.cmds.find? fun c => c.waits) = some c → d = { c with waits := false } → exec .hostWriteAdmission s
      = .next (if c.nvme then (s.setCmd d).nvmeWrite d else (s.setCmd d).jxWrite d))
    ∧ (∀ (s : State), (s.cmds.find? fun c => c.waits) = none → exec .hostWriteAdmission s = .next s)
    ∧ (∀ (s : State) n c, s.packet n 0x0C = some c → s.flag .JQ_STS_SANITIZING = false → exec (.packOnly n) s
      = .next (if s.writeFieldsOk c then s.setCmd { c with st := .admitted, len := c.pLen, bytes := 4096 * c.pLen, cls := 1 } else s.finish c vInvalidField))

/-- A grant is issued for an admitted write that still needs bytes when fewer than MAX_OPEN are open, the ring has room, the
buffer has room, the window range is free and a strict queue's turn has come: it names the next number, offset and length and
expires 2^XR_LIFE ticks later; otherwise nothing happens. Packets that came before the data are taken in first; data outside open
grants and for a dark function are discarded, and poisoned data are reported and discarded. A grant past its tick is counted and
ends its command XFER_TIMEOUT. A DMA completion adds its data to a write and stores what is received; a refused one, and a
completion timeout, end the command with a data-transfer error and are reported, the timeout, unless the host disables it, with
its port's CPL_TIMEOUT, its counter and source 50. -/
def Obligations.GrantsAndDmaBringWriteData : Prop :=
  (∀ (s : State) n c len w, s.cmd? n = some c → c.pushes = true → c.st = .admitted → c.mute = false → len = min (s.get .JQ_QRING_XR_MAX c.q * 65536) (c.bytes - c.issued) →
      len ≠ 0 → (s.grants.filter fun g => g.q = c.q && !g.closed).length < s.get .JQ_QRING_MAX_OPEN c.q →
      s.get .X_JQ_XPOST c.q - s.get .X_JQ_XHEAD c.q < s.xrEntries c.q → w % 4096 = 0 → 0x400000 ≤ w → w + len ≤ 0x4000000 →
      (s.grants.any fun g => g.fn = c.fn && rangesMeet g.woff g.len w len) = false → s.get .JQ_QSTS_STATE c.q ≠ jqDisabling →
      c.cut = none → s.bufferUsed + len ≤ bufferMax → (s.jqStrict c.q = true → s.laneTurn false c.fn c.q c.id = true) → ∃ t u : State,
        u = ({ s with grants := s.grants ++ [⟨n, c.q, c.fn, c.gnum, w, len, c.issued, s.tick + 2 ^ s.get .JQ_QCFG_XR_LIFE c.q, false, s.tick,
            s.get .TK_PHASE_PHASE⟩] } : State).sendFor c (s.jqStrict c.q)
          (some (s.get .JQ_QXR_BASE c.q + 32 * (s.get .X_JQ_XPOST c.q % s.xrEntries c.q))) 32 false
          (.grant c.q (s.get .X_JQ_XPOST c.q % s.xrEntries c.q) c.tag c.gnum ((s.grants.filter fun g => g.q = c.q && !g.closed).length + 1) w len
            c.issued ((s.tick + 2 ^ s.get .JQ_QCFG_XR_LIFE c.q) % 2 ^ 48) (decide (s.get .X_JQ_XPOST c.q / s.xrEntries c.q % 2 = 0)))
        ∧ t = (u.put .X_JQ_XPOST (s.get .X_JQ_XPOST c.q + 1) c.q).setCmd { c with issued := c.issued + len, gnum := c.gnum + 1 }
        ∧ exec (.grantIssue n w) s = .next (if c.isWrite then t.allocTo n (c.issued + len) else t))
    ∧ (∀ (s : State) n c w, s.cmd? n = some c → (c.cut.isSome = true ∨ s.get .JQ_QRING_MAX_OPEN c.q ≤ (s.grants.filter fun g => g.q = c.q && !g.closed).length ∨ w < 0x400000 ∨ w % 4096 ≠ 0
      ∨ c.bytes ≤ c.issued) → exec (.grantIssue n w) s = .next s)
    ∧ (∀ (s : State) f o b, s.fnDark f = false → 0x400000 ≤ o → exec (.dataWindowWrite f o b true) s = .next (s.reportAer f aerPoisoned))
    ∧ (∀ (s : State) f o b p, s.fnDark f = true → exec (.dataWindowWrite f o b p) s = .next s)
    ∧ (∀ (s : State) f o b, s.fnDark f = false → 0x400000 ≤ o → (∀ g ∈ s.grants, g.fn ≠ f) → s.slots = [] → exec (.dataWindowWrite f o b false) s = .next s)
    ∧ (∀ (s t : State) f o b, s.fnDark f = false → 0x400000 ≤ o → t = s.takeAll f s.slots.length → exec (.dataWindowWrite f o b false) s
      = .next (forEach (t.grants.filter fun g => g.fn = f && !g.closed) ({ t with dataWin := winPut t.grants f o b t.dataWin } : State) fun g u => u.completeGrant g))
    ∧ (∀ (s : State) n k g, (s.grants.find? fun g => g.cmd = n && g.num = k && !g.closed) = some g → exec (.grantExpiry n k) s
      = .next (if g.expire < s.tick then (s.bump .JQ_CNT_XR_EXPIRED).cutWrite n vXferTimeout else s))
    ∧ (∀ (s t : State) n c o b, s.readHeld n = false → t = s.readAnswered n b.length → t.cmd? n = some c → c.nvme = true → c.isWrite = true →
      (c.st = .admitted ∨ c.st = .planned) → c.mute = false → c.cut = none →
      exec (.dmaReadCompletion n .ok o b) s = .next (((t.setCmd { c with got := c.got ++ [(o, b)] }).commitReceived n).ackWrite n))
    ∧ (∀ (s t : State) n c d o b, s.readHeld n = false → t = s.readAnswered n (2 ^ 64) → t.cmd? n = some c → c.nvme = true → c.isWrite = true →
      (c.st = .admitted ∨ c.st = .planned) → d ≠ .ok → exec (.dmaReadCompletion n d o b) s = .next ((t.reportAer c.fn aerRefused).cutWrite n vDataError))
    ∧ (∀ (s t : State) n c, s.cmd? n = some c → c.st ≠ .ended → s.readHeld n = false → s.flag .X_FN_CTOD c.fn = false →
      t = ((((s.putFlag .HE_EVT_CPL_TIMEOUT true (s.fnPf c.fn / 4)).bump .HE_CNT_CTO (s.fnPf c.fn / 4)).raise 50 uFront c.fn).reportAer c.fn aerTimeout).readAnswered
        n (2 ^ 64) → exec (.completionTimeout n) s = .next (if c.isWrite ∧ c.st ≠ .taken then t.cutWrite n vDataError else t.finish c vDataError))

/-- A scope that is not being disabled, or of which a muted command is still held up, does not end its disable. With no command in
its scope a controller's disable leaves it without queues and without events, RDY 0, and its features at their reset values; a
Jexash queue's disable leaves it DISABLED with no outstanding packet and its tags free, and posts the queue's event. -/
def Obligations.DisablesEndWhenNothingHoldsThem : Prop :=
  (∀ (s : State) c, s.disabling c = false → exec (.disableComplete c) s = .next s)
    ∧ (∀ (s : State) q, s.disabling (.queue q) = false → exec (.queueDisabled q) s = .next s)
    ∧ (∀ (s t : State) c, s.disabling c = true → t = s.settleWrites c → (t.cmds.any fun x => c.covers x && t.holdsDisable x) = true →
      exec (.disableComplete c) s = .next t)
    ∧ (∀ (s : State) f, s.disabling (.controller f) = true → s.cmds = [] → ∃ t : State, exec (.disableComplete (.controller f)) s = .next (t.noteDemand s)
      ∧ t.flag .X_CSTS_RDY f = false ∧ t.flag .X_CTRL_DISABLING f = false ∧ t.get .X_CSTS_SHST f = 0 ∧ t.sqs = s.sqs.filter (fun q => q.fn ≠ f)
      ∧ t.cqs = s.cqs.filter (fun q => q.fn ≠ f) ∧ t.asyncWaiting = s.asyncWaiting.filter (fun e => e.1 ≠ f)
      ∧ t.get .X_FEAT_PS f = Field.resetAt .X_FEAT_PS f ∧ t.get .X_NSQA f = Field.resetAt .X_NSQA f ∧ t.flash = s.flash ∧ t.out = s.out
      ∧ (∀ g, g ≠ f → t.flag .X_CSTS_RDY g = s.flag .X_CSTS_RDY g ∧ t.get .X_FEAT_PS g = s.get .X_FEAT_PS g))
    ∧ (∀ (s : State) q, s.disabling (.queue q) = true → s.cmds = [] → ∃ t : State,
      exec (.queueDisabled q) s = .next ((t.postEvent (t.get .JQ_QCFG_FN q) 5 (t.get .JQ_QCFG_SLOT q) 0 0).noteDemand s)
      ∧ t.get .JQ_QSTS_STATE q = jqDisabled ∧ t.get .JQ_QSTS_OUTSTANDING q = 0 ∧ t.tags = s.tags.filter (fun x => x.1 ≠ q)
      ∧ t.slots = s.slots.filter (fun x => x.1 / 16384 ≠ q) ∧ t.out = s.out ∧ t.grants = s.grants)

/-- MAP being ON, each stack command of an agent that may give it and whose TS_RESULT is not BUSY records its operation; a failing
check shows REFUSED with the reason and node and changes no node. With USE_TICK a passing change shows ARMED and is armed for
TS_TICK; otherwise it shows BUSY and takes effect: a new stack under the lowest free node, the children replaced, the node
deleting, writable set or cleared, or the new size, for that node alone. A GO while BUSY is only counted. -/
def Obligations.StackCommandsAreCheckedAndTakeEffect : Prop :=
  (∀ (s t : State) (ag : Agent) op ut (c : Change), s.mayWrite ag .ownerFeMp = true → s.unitPower uMap = 0 → s.get .TS_RESULT_STATE 0 ag.ix ≠ 1 →
      t = ((((s.put .TS_CMD_OP op 0 ag.ix).putFlag .TS_CMD_USE_TICK ut 0 ag.ix).put .X_TS_NEXT (s.get .X_TS_NEXT + 1)).put .X_TS_SEQ (s.get .X_TS_NEXT + 1) 0 ag.ix) →
      c = ⟨op, s.get .TS_ARG_NODE 0 ag.ix, if op = tsCreate || op = tsSet then (List.range (min (s.get .TS_ARG_COUNT 0 ag.ix) 32)).map (fun i => s.get .TS_STAGE_NODE i ag.ix) else [],
        s.get .TS_ARG_SIZE 0 ag.ix⟩ → ∃ r u : State, (∀ x, t.tsReason c ut (s.get .TS_TICK 0 ag.ix) (if op = tsCreate || op = tsSet then s.get .TS_ARG_COUNT 0 ag.ix else 0) = some x →
          r = t.tsResult ag.ix 4 x c.node ∧ r.nodes = s.nodes) ∧
        (t.tsReason c ut (s.get .TS_TICK 0 ag.ix) (if op = tsCreate || op = tsSet then s.get .TS_ARG_COUNT 0 ag.ix else 0) = none → ut = true →
          r = (t.tsResult ag.ix 2 0 c.node).arm (s.get .TS_TICK 0 ag.ix) (.stack ag.ix op c.node c.children (s.get .X_TS_NEXT + 1)) ∧ r.nodes = s.nodes) ∧
        (t.tsReason c ut (s.get .TS_TICK 0 ag.ix) (if op = tsCreate || op = tsSet then s.get .TS_ARG_COUNT 0 ag.ix else 0) = none → ut = false →
          u = (t.tsResult ag.ix 1 0 c.node).putFlag .TS_CMD_GO true 0 ag.ix ∧ u.nodes = s.nodes ∧ r = u.effect ag.ix (s.get .X_TS_NEXT + 1) c) ∧
        (op = tsCreate → ut = false → exec (.createStack ag) s = .next r) ∧ (op = tsSet → exec (.setChildren ag ut) s = .next r)
        ∧ (op = tsDelete → exec (.deleteStack ag ut) s = .next r) ∧ (op = tsWritable → ut = false → exec (.setWritable ag) s = .next r)
        ∧ (op = tsSeal → ut = false → exec (.clearWritable ag) s = .next r) ∧ (op = tsGrow → ut = false → exec (.grow ag) s = .next r))
    ∧ (∀ (s : State) ag, s.mayWrite ag .ownerFeMp = true → s.unitPower uMap = 0 → s.get .TS_RESULT_STATE 0 ag.ix = 1 → exec (.grow ag) s = .next (s.bump .UCB_CNT2 uMap)
      ∧ exec (.createStack ag) s = .next (s.bump .UCB_CNT2 uMap))
    ∧ (∀ (s : State) a tag c id, c.op = tsCreate → s.freeNode = some id → (s.effect a tag c).nodes = s.nodes ++ [newStack id c.size c.children])
    ∧ (∀ (s : State) a tag c, c.op = tsGrow → (s.effect a tag c).nodes = s.nodes.map fun n => if n.id = c.node then { n with size := c.size } else n)
    ∧ (∀ (s : State) a tag c, c.op = tsWritable → (s.effect a tag c).nodes = s.nodes.map fun n => if n.id = c.node then { n with writable := true } else n)
    ∧ (∀ (s : State) a tag c, c.op = tsSeal → (s.effect a tag c).nodes = s.nodes.map fun n => if n.id = c.node then { n with writable := false } else n)
    ∧ (∀ (s : State) a tag c, c.op = tsDelete → s.node? c.node ≠ none → ((s.effect a tag c).nodes.map fun n => (n.id, n.deleting))
      = s.nodes.map fun n => (n.id, if n.id = c.node then true else n.deleting))
    ∧ (∀ (s : State) a tag c, c.op = tsSet → ((s.effect a tag c).nodes.map fun n => (n.id, n.children))
      = s.nodes.map fun n => (n.id, if n.id = c.node then c.children else n.children))

/-- A node that is not being deleted, that a command still holds, or whose invalidation is at work stays. A deleting node that
nothing holds is journalled and goes, with its rights and keys, a volume also with its map, licence and dictionary; a waiting
Namespace Management delete then completes. An invalidation of a range with no stale locked line left ends and is counted; one of
MC_INV shows DONE and clears its GO, one of a changed stack shows its change done; with such a line nothing happens. -/
def Obligations.NodesGoWhenTheirDeletionCompletes : Prop :=
  (∀ (s : State) n x, s.node? n = some x → (x.deleting = false ∨ s.heldBy n = true ∨ (s.sweeps.any fun w => w.node = n) = true) →
      exec (.nodeDeletionComplete n) s = .next s)
    ∧ (∀ (s : State) n x, s.node? n = some x → x.deleting = true → s.heldBy n = false → (s.sweeps.any fun w => w.node = n) = false → x.isStack = true → ∃ t : State,
      t.nodes = s.nodes.filter (fun x => x.id ≠ n) ∧ t.rights = s.rights.filter (fun r => r.node ≠ n) ∧ t.keys = s.keys.filter (fun k => k.node ≠ n)
      ∧ t.jnl = (s.journal 0x14 n 1 0).jnl ∧ t.flash = s.flash
      ∧ exec (.nodeDeletionComplete n) s = .next (match t.cmds.find? fun c => c.nvme && c.q = 0 && c.op = 0x0D && c.st = .admitted && c.node = n with
          | some c => t.finish c vSuccess
          | none => t))
    ∧ (∀ (s u v t : State) n x, s.node? n = some x → x.deleting = true → s.heldBy n = false → (s.sweeps.any fun w => w.node = n) = false → x.isStack = false →
      u = (((s.journal 0x14 n 1 0).emptyNode n).dropLicence n).dropDict n →
      v = ({ u with nodes := u.nodes.filter (fun x => x.id ≠ n), rights := u.rights.filter (fun r => r.node ≠ n), keys := u.keys.filter (fun k => k.node ≠ n) } : State) →
      t = forEach (List.range 65) (v.put .SEC_PM_STS_ENTRIES v.rights.length) (fun a t => t.tsDone a (t.get .X_TS_DEL n) 3) →
      exec (.nodeDeletionComplete n) s = .next (match t.cmds.find? fun c => c.nvme && c.q = 0 && c.op = 0x0D && c.st = .admitted && c.node = n with
          | some c => t.finish c vSuccess
          | none => t))
    ∧ (∀ (s : State) n w, (s.sweeps.find? fun w => w.node = n && !w.waiting && !s.sweepHolds w) = some w → w.kind = 0 → ∃ t : State,
      t = ({ s with sweeps := s.sweeps.erase w } : State).bump .MC_CNT_INV
      ∧ exec (.invalidationSweepDone n) s = .next ((t.put .MC_INV_STS_STATE 2 0 w.agent).putFlag .MC_INV_CMD_GO false 0 w.agent).nextSweep)
    ∧ (∀ (s t : State) n w, (s.sweeps.find? fun w => w.node = n && !w.waiting && !s.sweepHolds w) = some w → w.kind ≠ 0 →
      t = ({ s with sweeps := s.sweeps.erase w } : State).bump .MC_CNT_INV →
      exec (.invalidationSweepDone n) s = .next (if w.kind = 3 then t.tsDone w.agent w.tag 3 else t.nextSweep))
    ∧ (∀ (s : State) n, (∀ w ∈ s.sweeps, w.node = n → w.waiting = false → s.sweepHolds w = true) → exec (.invalidationSweepDone n) s = .next s)

/-- A FILLING line lands and becomes CLEAN, with the miss of each lookup that waits for it counted; a STALE locked line is
refilled and counted, and UNPINs that waited for it are answered; a lookup that waits without a line takes a way if it finds one
in 1,008 steps and is served without one otherwise; a line in another state stays. MC_INV of a node that does not exist or is
being deleted is refused with reason 1, of an empty or overlong range with reason 2; otherwise it shows BUSY and sweeps the range.
A GO while BUSY is ignored. -/
def Obligations.MapLinesFillAndInvalidate : Prop :=
  (∀ (s : State) n l x, s.line? n l = some x → x.st = .filling → exec (.mapMissFill n l) s = .next ((s.landLine x).endUnpins))
    ∧ (∀ (s : State) n l x, s.line? n l = some x → x.st ≠ .filling → exec (.mapMissFill n l) s = .next s)
    ∧ (∀ (s : State) x y, s.isVolume x.node = false → y ∈ (s.landLine x).lines → y.node = x.node → y.l = x.l → s.line? x.node x.l = some x → y.st = .clean)
    ∧ (∀ (s : State) n l x, s.line? n l = some x → exec (.lockedLineRefill n l) s
      = .next (if x.st = .stale then ((s.landLine x).bump .MC_CNT_REFILL).endUnpins else s))
    ∧ (∀ (s t : State) n l, s.line? n l = none → s.waiters n l ≠ [] → t = s.allocLine 1008 n l →
      exec (.allocationGiveUp n l) s = .next (if (t.line? n l).isSome then t else t.serve n l))
    ∧ (∀ (s : State) n l, (s.line? n l ≠ none ∨ s.waiters n l = []) → exec (.allocationGiveUp n l) s = .next s)
    ∧ (∀ (s : State) n l p, s.page? n (l / 256) = some p → s.waiters n l ≠ [] → s.serve n l
      = ({ s with lookups := s.lookups.filter fun w => !(w.node = n && w.l = l) } : State).add .MC_CNT_MISS_DRAM (s.waiters n l).length)
    ∧ (∀ (s : State) n l, s.page? n (l / 256) = none → s.waiters n l ≠ [] → s.serve n l
      = (({ s with lookups := s.lookups.filter fun w => !(w.node = n && w.l = l) } : State).add .MC_CNT_MISS_FLASH (s.waiters n l).length).loadPage n (l / 256))
    ∧ (∀ (s : State) ag n, s.mayWrite ag .ownerMp = true → s.unitPower uMap = 0 → s.get .MC_INV_STS_STATE 0 ag.ix = 1 → exec (.mcInv ag n) s = .next s)
    ∧ (∀ (s : State) ag n, n < 4096 → s.mayWrite ag .ownerMp = true → s.unitPower uMap = 0 → s.get .MC_INV_STS_STATE 0 ag.ix ≠ 1 → s.node? n = none → ∃ t : State,
      exec (.mcInv ag n) s = .next t ∧ t.get .MC_INV_STS_STATE 0 ag.ix = 3 ∧ t.get .MC_INV_STS_REASON 0 ag.ix = 1 ∧ t.lines = s.lines ∧ t.sweeps = s.sweeps)
    ∧ (∀ (s : State) ag n x, n < 4096 → s.mayWrite ag .ownerMp = true → s.unitPower uMap = 0 → s.get .MC_INV_STS_STATE 0 ag.ix ≠ 1 → s.node? n = some x → x.deleting = false →
      s.get .MC_INV_COUNT 0 ag.ix = 0 → ∃ t : State, exec (.mcInv ag n) s = .next t ∧ t.get .MC_INV_STS_STATE 0 ag.ix = 3 ∧ t.get .MC_INV_STS_REASON 0 ag.ix = 2
        ∧ t.lines = s.lines ∧ t.sweeps = s.sweeps)
    ∧ (∀ (s : State) ag n x, n < 4096 → s.mayWrite ag .ownerMp = true → s.unitPower uMap = 0 → s.get .MC_INV_STS_STATE 0 ag.ix ≠ 1 → s.node? n = some x → x.deleting = false → x.isStack = true →
      s.get .MC_INV_COUNT 0 ag.ix ≠ 0 → s.get .MC_INV_FIRST 0 ag.ix + s.get .MC_INV_COUNT 0 ag.ix ≤ x.size → ∃ t : State, exec (.mcInv ag n) s
        = .next (t.startSweep ⟨n, s.get .MC_INV_FIRST 0 ag.ix / 64, (s.get .MC_INV_FIRST 0 ag.ix + s.get .MC_INV_COUNT 0 ag.ix - 1) / 64 + 1
            - s.get .MC_INV_FIRST 0 ag.ix / 64, 0, ag.ix, false, 0⟩)
        ∧ t.get .MC_INV_STS_STATE 0 ag.ix = 1 ∧ t.flag .MC_INV_CMD_GO 0 ag.ix = true ∧ t.lines = s.lines ∧ t.sweeps = s.sweeps)
    ∧ (∀ (s : State) w, (s.sweeps.filter fun x => !x.waiting && x.kind ≠ 3).length < 8 → w.kind ≠ 0 → (∀ x ∈ (s.startSweep w).lines, w.hits x = true →
      x.st = .stale ∧ ∃ y ∈ s.lines, y.locked = true ∧ y.node = x.node ∧ y.l = x.l))

/-- Of an agent that may write, MAP being ON and the field unlocked. A disable of an enabled cache without pins clears ENABLE and
starts draining; of a disabled one it does nothing. The end of the drain leaves no line, DRAINED set and ENABLED clear, and UNPINs
that waited are answered. An enable of a drained cache sets ENABLE and ENABLED; while it drains it is only counted. The end of the
reset invalidation clears INIT and shows ENABLED where ENABLE is set. -/
def Obligations.MapCacheEnableDisableAndDrain : Prop :=
  (∀ (s : State) ag, s.mayWrite ag .ownerMp = true → s.unitPower uMap = 0 → s.lockedFor ag .MC_CTL_ENABLE = false →
      (s.flag .MC_CTL_ENABLE = true → s.pins = [] → ∃ t : State, exec (.mapCacheDisable ag) s = .next t
        ∧ t.flag .MC_CTL_ENABLE = false ∧ t.flag .MC_STS_DRAINING = true ∧ t.flag .MC_STS_ENABLED = s.flag .MC_STS_ENABLED ∧ t.lines = s.lines)
      ∧ (s.flag .MC_CTL_ENABLE = false → exec (.mapCacheDisable ag) s = .next s)
      ∧ (s.flag .MC_STS_DRAINED = true → ∃ t : State, exec (.mapCacheEnable ag) s = .next t ∧ t.flag .MC_CTL_ENABLE = true
        ∧ t.flag .MC_STS_DRAINED = false ∧ t.flag .MC_STS_ENABLED = true ∧ t.lines = s.lines)
      ∧ (s.flag .MC_STS_DRAINED = false → s.flag .MC_STS_DRAINING = true → exec (.mapCacheEnable ag) s = .next (s.bump .UCB_CNT2 uMap)))
    ∧ (∀ (s : State), s.flag .MC_STS_DRAINING = true → ∃ t : State, exec .drainComplete s = .next t.endUnpins ∧ t.lines = [] ∧ t.flag .MC_STS_DRAINING = false
      ∧ t.flag .MC_STS_DRAINED = true ∧ t.flag .MC_STS_ENABLED = false ∧ t.flash = s.flash)
    ∧ (∀ (s : State), s.flag .MC_STS_DRAINING = false → exec .drainComplete s = .next s)
    ∧ (∀ (s : State), s.flag .MC_STS_INIT = true → ∃ t : State, exec .resetInvalidationDone s = .next t ∧ t.flag .MC_STS_INIT = false
      ∧ t.flag .MC_STS_ENABLED = s.flag .MC_CTL_ENABLE ∧ t.lines = s.lines ∧ t.out = s.out)
    ∧ (∀ (s : State), s.flag .MC_STS_INIT = false → exec .resetInvalidationDone s = .next s)

/-- With records not yet programmed JOURNAL_PAGE_PROGRAM marks the first 512 of them, counts the page's padding, tries the
checkpoint that waited and lets the writes that waited go; with none it does nothing. MAP_WRITE_BACK does nothing outside Run and
Throttle or on the way out of them; there it first returns the dirty lines of the page to it; a page that is clean then stays, and
a dirty one is programmed where a MAP band has room, after which a checkpoint is tried. -/
def Obligations.JournalPagesAndMapPagesAreWritten : Prop :=
  (∀ (s : State), (∀ r ∈ s.jnl, r.prog = true) → exec .journalPageProgram s = .next s)
    ∧ (∀ (s : State) x, ((s.jnl.filter fun r => !r.prog).take 512).getLast? = some x → ∃ t : State,
      t.jnl = (s.jnl.map fun r => if r.seq ≤ x.seq then { r with prog := true } else r)
      ∧ t.get .X_JNL_BYTES = (s.get .X_JNL_BYTES + 32 * (512 - ((s.jnl.filter fun r => !r.prog).take 512).length)) % 2 ^ 64
      ∧ t.flash = s.flash ∧ exec .journalPageProgram s = .next (if t.bgWork then t.checkpoint else t).ackAll)
    ∧ (∀ (s : State) n p, ((s.mode ≠ mRun ∧ s.mode ≠ mThrottle) ∨ s.get .PM_MODE_MOVE = 1) → exec (.mapWriteBack n p) s = .next s)
    ∧ (∀ (s t : State) n p, (s.mode = mRun ∨ s.mode = mThrottle) → s.get .PM_MODE_MOVE ≠ 1 →
      t = forEach (s.lines.filter fun x => x.node = n && x.l / 256 = p && s.isVolume n) s (fun x t => t.writeBackLine x) →
      (t.page? n p = none → exec (.mapWriteBack n p) s = .next t)
      ∧ (∀ x, t.page? n p = some x → x.dirty = false → exec (.mapWriteBack n p) s = .next t)
      ∧ (∀ x, t.page? n p = some x → x.dirty = true → exec (.mapWriteBack n p) s = .next (t.writePage x).checkpoint)
      ∧ (∀ x, t.openBand kindMap 4 = none → t.writePage x = t)
      ∧ (∀ x b, t.openBand kindMap 4 = some b → ((t.writePage x).pages.map fun y => (y.node, y.page, y.words))
          = t.pages.map fun y => (y.node, y.page, y.words)))

/-- The cluster being ON, a call written by an MD core of it to a slot that is not PENDING makes it PENDING; the first refusal it
meets is its completion. One that is not refused runs: READ holds its die and counts a read of the block, STATUS, ERASE_COUNT,
FEATURE and RETIRE complete at once with the die's state, the erase count and state, the feature, and the block retired.
READ_MARGIN, PROGRAM, ERASE, SUSPEND and RESUME with a good descriptor are NOT_PLANNED on this path. A PENDING slot is not issued
twice and a slot number from 1,536 up only sets CALL_ERR. -/
def Obligations.MediaCallsAreRefusedOrRun : Prop :=
  (∀ (s t : State) ag cl slot c, cl < 8 → slot < 1536 → s.mayWrite ag (.md cl) = true → s.unitPower (uCluster cl) = 0 → s.slotPending cl slot = false → c = s.callAt cl slot ag.ix none →
      t = s.descPut (cl * 65536 + 32 * slot + 20) (natLe 2 stPending) →
      (c.call = callRead → t.refusal c false = none → ∃ u : State, exec (.readCall ag cl slot false) s = .next (u.emit (.dieOp c.die callRead))
        ∧ u.calls = s.calls ++ [c] ∧ u.flag .X_DIE_RD c.die = true ∧ u.flash = s.flash ∧ u.out = s.out ∧ u.desc = t.desc
        ∧ u.get .X_BLK_READS (blkIx c.die c.block) = min (s.get .X_BLK_READS (blkIx c.die c.block) + 1) 0xFFFFFFFF)
      ∧ (c.call = callStatus → t.refusal c false = none → t.get .X_DIE_OP c.die ≠ 0 → exec (.statusCall ag cl slot false) s
        = .next (t.completeCall c stOk 0 (t.dieSt c.die + t.get .X_DIE_OPBLK c.die * 2 ^ 8 + t.get .X_DIE_NSUSP c.die * 2 ^ 40)))
      ∧ (∀ (v : Nat) (w : State), (v, w) = t.takeFree → c.call = callStatus → t.refusal c false = none → t.get .X_DIE_OP c.die = 0 →
        exec (.statusCall ag cl slot false) s = .next (w.completeCall c stOk 0 (w.dieSt c.die + v % 2 ^ 40 * 2 ^ 8)))
      ∧ (c.call = callEraseCount → t.refusal c false = none → exec (.eraseCountCall ag cl slot false) s
        = .next (t.completeCall c stOk 0 (s.get .X_BLK_CNT (blkIx c.die c.block) + s.get .X_BLK_STATE (blkIx c.die c.block) * 2 ^ 32)))
      ∧ (c.call = callFeature → t.refusal c false = none → c.param % 256 = 2 → bit c.param 8 = false → exec (.featureCall ag cl slot false) s
        = .next (t.completeCall c stOk 0 (s.get .X_DIE_FEAT (c.die * 8 + 2))))
      ∧ (c.call = callFeature → t.refusal c false = none → c.param % 256 = 2 → bit c.param 8 = true → exec (.featureCall ag cl slot false) s
        = .next ((t.put .X_DIE_FEAT (c.param / 65536) (c.die * 8 + 2)).completeCall c stOk 0 (c.param / 65536 % 65536)))
      ∧ (c.call = callFeature → t.refusal c false = none → exec (.featureCall ag cl slot false) s = .next (t.runFeature c))
      ∧ (c.call = callRetire → t.refusal c false = none → c.param ≠ 1 → exec (.retireCall ag cl slot false) s
        = .next (((t.put .X_BLK_STATE bsHalfErased (blkIx c.die c.block)).put .X_BLK_MM 4 (blkIx c.die c.block)).completeCall c stOk 0 (bsHalfErased * 2 ^ 32)))
      ∧ (c.call = callRetire → t.refusal c false = none → c.param = 1 → exec (.retireCall ag cl slot false) s
        = .next (((t.put .X_BLK_STATE bsRetiredProgram (blkIx c.die c.block)).put .X_BLK_MM 6 (blkIx c.die c.block)).completeCall c stOk 0 (bsRetiredProgram * 2 ^ 32)))
      ∧ (∀ r, t.refusal c false = some r → (c.call = callRead → exec (.readCall ag cl slot false) s = .next (t.failCall c false r))
        ∧ (c.call = callMargin → exec (.readMarginCall ag cl slot false) s = .next (t.failCall c false r))
        ∧ (c.call = callProgram → exec (.programCall ag cl slot false) s = .next (t.failCall c false r))
        ∧ (c.call = callErase → exec (.eraseCall ag cl slot false) s = .next (t.failCall c false r))
        ∧ (c.call = callSuspend → exec (.suspendCall ag cl slot false) s = .next (t.failCall c false r))
        ∧ (c.call = callResume → exec (.resumeCall ag cl slot false) s = .next (t.failCall c false r)))
      ∧ ((c.call = callMargin ∨ c.call = callProgram ∨ c.call = callErase ∨ c.call = callSuspend ∨ c.call = callResume) →
        t.refusal c false = some stNotPlanned ∨ t.refusal c false = some stBadDesc))
    ∧ (∀ (s : State) ag cl slot, cl < 8 → slot < 1536 → s.mayWrite ag (.md cl) = true → s.unitPower (uCluster cl) = 0 → s.slotPending cl slot = true → s.descNat cl slot 0 1 = callRead →
      exec (.readCall ag cl slot false) s = .next (s.putFlag .MS_STS_CALL_ERR true cl))
    ∧ (∀ (s : State) ag cl slot, cl < 8 → 1536 ≤ slot → s.mayWrite ag (.md cl) = true → s.unitPower (uCluster cl) = 0 → s.descNat cl slot 0 1 = callRead →
      exec (.readCall ag cl slot false) s = .next (s.putFlag .MS_STS_CALL_ERR true cl))

/-- Of the first entry of a die's active bank, due, whose handle names a slot of the die that describes a call of the entry's kind
and is not PENDING. The entry leaves the plan, the slot becomes PENDING, and a call that is not refused runs: READ_MARGIN holds
the die; PROGRAM makes the die program its block and page; ERASE wipes the block, counts one more erase and shows ERASING; SUSPEND
of a running operation leaves it suspending; RESUME lets it run on. An entry of a reserved OP, or with a bad handle, raises source
4 and has no other effect; an empty plan does nothing. -/
def Obligations.PlannedCallsStart : Prop :=
  (∀ (s t : State) d e rest c k u i, e.desc < 1536 → s.powered = true → (s.plan d).active = e :: rest → s.entryDue d e = true →
      t = (s.put .TK_PHASE_PHASE (max (s.get .TK_PHASE_PHASE) (1000 * e.start))).setPlan { s.plan d with active := rest } →
      c = t.callAt (channelCluster (dieChannel d)) e.desc (servingCore (dieChannel d)) (some e) → c.die = d → c.call = e.op → t.slotPending c.cl e.desc = false →
      c.cl < 8 → t.descNat c.cl e.desc 2 1 = d / 16 → t.descNat c.cl e.desc 3 1 % 16 = d % 16 →
      (k = callMargin ∧ u = 1 ∧ i = .readMarginCall .pf0 c.cl e.desc true ∨ k = callProgram ∧ u = 2 ∧ i = .programCall .pf0 c.cl e.desc true
        ∨ k = callErase ∧ u = 3 ∧ i = .eraseCall .pf0 c.cl e.desc true ∨ k = callProgram ∧ u = 2 ∧ i = .plannedEntryStart d) →
      e.op = k → (t.descPut (c.cl * 65536 + 32 * e.desc + 20) (natLe 2 stPending)).refusal c false = none → ∃ v : State,
        exec i s = .next (v.emit (.dieOp d k)) ∧ v.calls = s.calls ++ [c] ∧ v.out = s.out ∧ v.plan d = { s.plan d with active := rest }
        ∧ (u = 1 → v.flag .X_DIE_RD d = true) ∧ (u = 2 → v.get .X_DIE_OP d = 1 ∧ v.get .X_DIE_OPBLK d = c.block % 2 ^ 16 ∧ v.get .X_DIE_OPPAGE d = c.page % 2 ^ 16)
        ∧ (u = 3 → v.get .X_DIE_OP d = 2 ∧ v.get .X_BLK_STATE (blkIx d c.block) = bsErasing ∧ v.get .X_BLK_READS (blkIx d c.block) = 0
          ∧ v.get .X_BLK_CNT (blkIx d c.block) = min (s.get .X_BLK_CNT (blkIx d c.block) + 1) 0xFFFFFFFE) ∧ (u ≠ 3 → v.flash = s.flash))
    ∧ (∀ (s t : State) d e rest c u, e.desc < 1536 → s.powered = true → (s.plan d).active = e :: rest → s.entryDue d e = true →
      t = (s.put .TK_PHASE_PHASE (max (s.get .TK_PHASE_PHASE) (1000 * e.start))).setPlan { s.plan d with active := rest } →
      c = t.callAt (channelCluster (dieChannel d)) e.desc (servingCore (dieChannel d)) (some e) → c.die = d → c.call = e.op → t.slotPending c.cl e.desc = false →
      c.cl < 8 → t.descNat c.cl e.desc 2 1 = d / 16 → t.descNat c.cl e.desc 3 1 % 16 = d % 16 →
      u = t.descPut (c.cl * 65536 + 32 * e.desc + 20) (natLe 2 stPending) → u.refusal c false = none →
      (e.op = callSuspend → (u.dieSt d = dsProgramming ∨ u.dieSt d = dsErasing) → ∃ v : State, exec (.suspendCall .pf0 c.cl e.desc true) s = .next (v.emit (.dieOp d callSuspend))
        ∧ v.flag .X_DIE_SUSPENDING d = true ∧ v.calls = s.calls ++ [c] ∧ v.get .X_DIE_OP d = s.get .X_DIE_OP d)
      ∧ (e.op = callResume → exec (.resumeCall .pf0 c.cl e.desc true) s
        = .next ((((u.putFlag .X_DIE_SUSP false d).put .X_DIE_SUSPT 0 d).emit (.dieOp d callResume)).completeCall c stOk 0 (u.suspResult d))))
    ∧ (∀ (s : State) d, (s.plan d).active = [] → exec (.plannedEntryStart d) s = .next s)
    ∧ (∀ (s : State) d e rest, s.powered = true → (s.plan d).active = e :: rest → s.entryDue d e = true → (8 ≤ e.op ∨ e.op ≠ opNop ∧ 1536 ≤ e.desc ∧ e.desc < hwDesc) →
      exec (.plannedEntryStart d) s = .next (((s.put .TK_PHASE_PHASE (max (s.get .TK_PHASE_PHASE) (1000 * e.start))).setPlan { s.plan d with active := rest }).raise 4
        (uChannel (dieChannel d)) 0))

/-- An end that no running operation meets does nothing. A READ ends with the results of its units; READ_MARGIN with MARGIN_FAIL
where a unit is over the limit, else OK. A PROGRAM that ends well puts its wordline into flash, moves the block on by one wordline
and brings its band's parity on; one that fails seals the band and raises source 6 of the cluster. An ERASE that ends well leaves
the block erased in its mode, journalled; one that fails retires it and raises source 7. A SUSPEND ends with the operation
suspended and counted. A timeout leaves the die idle and the block CLOSED or HALF_ERASED and raises source 5. -/
def Obligations.MediaCallsComplete : Prop :=
  (∀ (s : State) d k l n, s.dieCall d callRead = none → s.readDone d l n = s ∧ (s.get .X_DIE_OP d ≠ 1 → exec (.programCallComplete d k n) s = .next s)
      ∧ (s.get .X_DIE_OP d ≠ 2 → exec (.eraseCallComplete d k n) s = .next s) ∧ (s.get .X_DIE_OP d = 0 → exec (.mediaOpTimeout d) s = .next s)
      ∧ (s.flag .X_DIE_SUSPENDING d = false → exec (.suspendComplete d) s = .next s) ∧ (s.dieCall d callMargin = none → ∀ x, exec (.readMarginComplete d x) s = .next s))
    ∧ (∀ (s : State) d l n, exec (.readCallComplete d l n) s = .next (if (s.readDone d l n).ap2Due then (s.readDone d l n).passAp2 else s.readDone d l n))
    ∧ (∀ (s : State) d c x, s.dieCall d callMargin = some c → c.count = 1 → ∃ lim, lim = (if bit c.param 8 then s.get .MS_MARGIN_ERASED_LIMIT c.cl else s.get .MS_MARGIN_PROG_LIMIT c.cl)
      ∧ exec (.readMarginComplete d [x]) s = .next (((s.putFlag .X_DIE_RD false d).completeCall c (if lim < x then stMarginFail else stOk)
        (if lim < x then 2 ^ c.first else 0) (min x 0xFFFF)).checkReads d c.block))
    ∧ (∀ (s : State) d c l, s.dieCall d callMargin = some c → l.length = c.count → ∃ (lim : Nat) (k : List Nat),
      lim = (if bit c.param 8 then s.get .MS_MARGIN_ERASED_LIMIT c.cl else s.get .MS_MARGIN_PROG_LIMIT c.cl)
      ∧ k = (List.range l.length).filter (fun i => decide (lim < l.getD i 0)) ∧ exec (.readMarginComplete d l) s
        = .next (((s.putFlag .X_DIE_RD false d).completeCall c (if k = [] then stOk else stMarginFail) ((k.map fun i => 2 ^ (c.first + i)).foldl (· + ·) 0)
          (((List.range l.length).map fun i => min (l.getD i 0) 0xFFFF * 2 ^ (16 * i)).foldl (· + ·) 0)).checkReads d c.block))
    ∧ (∀ (s : State) d n b w, s.get .X_DIE_OP d = 1 → s.flag .X_DIE_SUSP d = false → s.get .X_DIE_OPBLK d = b → s.get .X_DIE_OPPAGE d / 16 = w → ∃ t : State,
      t = ((s.sampleOp d 14 n).programWl d b w).put .X_BLK_WL (w + 1) (blkIx d b) ∧ t.get .X_BLK_WL (blkIx d b) = (w + 1) % 2 ^ 16
        ∧ exec (.programCallComplete d true n) s = .next ((match t.bandOfBlock d b with
          | some x => t.parityProgress x
          | none => t).endDieOp d stOk (n * 2 ^ 32)).ackAll)
    ∧ (∀ (s : State) d n, s.get .X_DIE_OP d = 1 → s.flag .X_DIE_SUSP d = false → exec (.programCallComplete d false n) s
      = .next ((((s.sampleOp d 14 n).endDieOp d stProgramFail (n * 2 ^ 32)).programFailed d (s.get .X_DIE_OPBLK d)).raise
        (cSrc (channelCluster (dieChannel d)) 6) (uDie d) 0))
    ∧ (∀ (s : State) d n b c, s.get .X_DIE_OP d = 2 → s.flag .X_DIE_SUSP d = false → s.get .X_DIE_OPBLK d = b → s.dieCall d callErase = some c → c.sys = false → ∃ t : State,
      t.get .X_BLK_STATE (blkIx d b) = bsInService ∧ t.get .X_BLK_MODE (blkIx d b) = (s.get .X_DIE_OPMODE d + 1) % 4 ∧ t.get .X_BLK_WL (blkIx d b) = 0
        ∧ t.get .X_BLK_MM (blkIx d b) = mmErased ∧ t.flag .X_BLK_BEGUN (blkIx d b) = false ∧ t.flash = s.flash ∧ exec (.eraseCallComplete d true n) s
        = .next (({ t.journal 0x26 0 (baddr d b) (s.get .X_BLK_CNT (blkIx d b) * 2 ^ 32 + s.get .X_DIE_OPMODE d) with
            eraseOwed := t.eraseOwed.filter fun x => x.2 ≠ blkIx d b } : State).endDieOp d stOk (s.get .X_BLK_CNT (blkIx d b))).updateSprog)
    ∧ (∀ (s : State) d n b, s.get .X_DIE_OP d = 2 → s.flag .X_DIE_SUSP d = false → s.get .X_DIE_OPBLK d = b → ∃ t : State, t.get .X_BLK_STATE (blkIx d b) = bsRetiredErase
      ∧ exec (.eraseCallComplete d false n) s = .next (((t.journalRetire d b 1).endDieOp d stEraseFail (s.get .X_BLK_CNT (blkIx d b))).updateGc.updateSprog.raise
        (cSrc (channelCluster (dieChannel d)) 7) (uDie d) 0))
    ∧ (∀ (s : State) d, s.flag .X_DIE_SUSPENDING d = true → s.get .X_DIE_OP d ≠ 0 → s.get .X_DIE_NSUSP d < 255 → ∃ t : State, exec (.suspendComplete d) s = .next (t.endSuspends d 0)
      ∧ t.flag .X_DIE_SUSP d = true ∧ t.flag .X_DIE_SUSPENDING d = false ∧ t.get .X_DIE_NSUSP d = s.get .X_DIE_NSUSP d + 1 ∧ t.get .X_DIE_OP d = s.get .X_DIE_OP d
      ∧ t.calls = s.calls)
    ∧ (∀ (s t : State) d b v, (v, t) = s.takeFree → s.flag .X_DIE_SUSP d = false → s.get .X_DIE_OPBLK d = b →
      (s.get .X_DIE_OP d = 1 → exec (.mediaOpTimeout d) s
        = .next (((t.endDieOp d stTimeout (v % 2 ^ 32 * 2 ^ 32)).programFailed d b).raise (cSrc (channelCluster (dieChannel d)) 5) (uDie d) callProgram))
      ∧ (s.get .X_DIE_OP d = 2 → exec (.mediaOpTimeout d) s
        = .next (((t.endDieOp d stTimeout (s.get .X_BLK_CNT (blkIx d b))).halfErase (blkIx d b)).raise
          (cSrc (channelCluster (dieChannel d)) 5) (uDie d) callErase)))
    ∧ (∀ (s : State) ix, (s.halfErase ix).get .X_BLK_STATE ix = bsHalfErased ∧ (s.halfErase ix).get .X_BLK_MM ix = mmHalfErased ∧ (s.halfErase ix).flag .X_BLK_BEGUN ix = false)
    ∧ (∀ (s : State) d, (s.clearDieOp d).get .X_DIE_OP d = 0 ∧ (s.clearDieOp d).flag .X_DIE_SUSP d = false)

/-- A read of MS_CPL by its core answers the oldest completion with its VALID bit and removes it; another agent sees it without
removing it; with none it answers 0, and with the cluster OFF all ones. A gate violation sets GATE_VIOL of the channel's cluster
and raises its source; a sealed timeout of an MD core halts it and raises its source, of another core nothing happens. A brown-out
shows in every cluster, suspends running erases and raises source 19, once; its end clears the bit that shows it and leaves the
one that keeps it. -/
def Obligations.CompletionsSealedCallsAndBrownout : Prop :=
  (∀ (s : State) cl k x, cl < 8 → k < 6 → s.unitPower (uCluster cl) = 0 → (s.cpl.find? fun x => x.1 = 8 + 6 * cl + k) = some x →
      exec (.msCplRead (.core (8 + 6 * cl + k)) cl k) s = .next (({ s with cpl := s.cpl.erase x } : State).emit
        (.readData (.core (8 + 6 * cl + k)) (0x200000 + 0x10000 * cl + 0x40 + 4 * k) 4 (2 ^ 31 + x.2)))
      ∧ exec (.msCplRead .pf0 cl k) s = .next (s.emit (.readData .pf0 (0x200000 + 0x10000 * cl + 0x40 + 4 * k) 4 (2 ^ 31 + x.2))))
    ∧ (∀ (s : State) ag cl k, cl < 8 → k < 6 → s.unitPower (uCluster cl) = 0 → (s.cpl.find? fun x => x.1 = 8 + 6 * cl + k) = none →
      exec (.msCplRead ag cl k) s = .next (s.emit (.readData ag (0x200000 + 0x10000 * cl + 0x40 + 4 * k) 4 0)))
    ∧ (∀ (s : State) ag cl k, cl < 8 → k < 6 → s.unitPower (uCluster cl) = 3 → exec (.msCplRead ag cl k) s
      = .next ((s.refuseAt (uCluster cl)).emit (.readData ag (0x200000 + 0x10000 * cl + 0x40 + 4 * k) 4 (2 ^ 32 - 1))))
    ∧ (∀ (s : State) core ch, ch < 96 → exec (.sealedGateViolation core ch) s
      = .next ((s.putFlag .MS_STS_GATE_VIOL true (channelCluster ch)).raise (cSrc (channelCluster ch) 1) (uChannel ch) core))
    ∧ (∀ (s : State) core, 8 ≤ core → core < 56 → exec (.sealedTimeout core) s
      = .next ((s.putFlag .X_CORE_HALTED true core).raise (cSrc ((core - 8) / 6) 2) (uCluster ((core - 8) / 6)) core))
    ∧ (∀ (s : State) core, core < 8 ∨ 56 ≤ core → exec (.sealedTimeout core) s = .next s)
    ∧ (∀ (s : State) r, s.flag .X_BROWNOUT = true → exec (.mediaBrownoutAssert r) s = .next s)
    ∧ (∀ (s : State) r, s.flag .X_BROWNOUT = false → ∃ t : State, exec (.mediaBrownoutAssert r) s
        = .next ((forEach (t.dies.filter fun d => t.get .X_DIE_OP d = 2 && !t.flag .X_DIE_SUSP d) t fun d u =>
          ((u.suspendDie d false).endSuspends d 0).emit (.dieOp d callSuspend)).raise 19 uChip r)
      ∧ t.flag .X_BROWNOUT = true ∧ (∀ c, c < 8 → t.flag .MS_STS_BROWNOUT c = true ∧ t.flag .MS_STS_BO_SEEN c = true) ∧ t.out = s.out ∧ t.calls = s.calls)
    ∧ (∀ (s : State), ∃ t : State, exec .mediaBrownoutDeassert s = .next t ∧ t.flag .X_BROWNOUT = false ∧ (∀ c, c < 8 → t.flag .MS_STS_BROWNOUT c = false)
      ∧ (∀ c, t.flag .MS_STS_BO_SEEN c = s.flag .MS_STS_BO_SEEN c) ∧ t.out = s.out ∧ t.calls = s.calls)

/-- BAND_OPEN of no known kind, or with dies that do not form a band, opens none; with free erased blocks in the band's mode it
adds the band, and writes that waited are tried again. GC_COPY of the first unit of a valid granule, block or map page of a moved
band writes it to the band of its kind and counts its units; without room, outside Run and Throttle and on the way out of them
nothing happens. GC_COMMIT of a parity-complete copy moves the map and drops the copy. RELEASE of a moved band with nothing valid,
no copy owed, no superseded map page waiting for a checkpoint and its moves durable journals it, releases its blocks and removes
it. BLOCK_ERASE of a released or half-erased block that may be erased, is not being erased and whose mode is wanted journals
ERASE_BEGIN once and, when that is durable, gives the planner the ERASE in the class of the work that wants it; RESERVE_REFILL
holds an erased SLC block while the reserve is short; static wear levelling chooses the FULL band that holds the lowest count once
the spread is reached. -/
def Obligations.BandsAreOpenedMovedAndReleased : Prop :=
  (∀ (s : State) k r l f, (k = 0 ∨ 4 < k ∨ s.membersOk r l (s.kindMode k) = false) → exec (.bandOpen k r l f) s = .next s.retryWrites)
    ∧ (∀ (s : State) k r l b, 1 ≤ k → k ≤ 4 → s.refillDue = false → (s.bands.filter fun b => b.isOpen).length < 12 → s.membersOk r l (s.kindMode k) = true → r = s.get .X_ROT →
      b = l.map (fun d => d.bind fun d => (s.chooseBlock k d).map fun b => (d, b)) → (b.filterMap fun x => x).length = (l.filterMap fun x => x).length →
      (∀ m ∈ b.filterMap (fun x => x), s.get .X_BLK_MM (blkIx m.1 m.2) = mmErased ∧ s.get .X_BLK_MODE (blkIx m.1 m.2) = s.kindMode k + 1) →
      exec (.bandOpen k r l []) s = .next (s.addBand k (s.kindMode k) r b).retryWrites
        ∧ (s.addBand k (s.kindMode k) r b).bands.length = s.bands.length + 1)
    ∧ (∀ (s t : State) p b u, s.bgWork = true → s.bandOf p = some b → s.unitAt p = some u → s.moving b = true → s.liveFirst u.rcd p = true → (∀ c ∈ s.copies, c.src ≠ p) →
      (u.rcd.kind = 3 ∨ ∀ g ∈ s.namers u.rcd p, eRecov (s.mapGet u.rcd.node g) = false) →
      ((s.gcLookups u.rcd p).copyUnit p u (s.copyKind u.rcd) false = none → exec (.gcCopy p) s = .next s)
      ∧ ((s.gcLookups u.rcd p).copyUnit p u (s.copyKind u.rcd) false = some t → exec (.gcCopy p) s = .next ((t.setBand { b with victim := true }).add .MC_CNT_GC_UNITS u.rcd.units)))
    ∧ (∀ (s : State) p, s.bgWork = false → exec (.gcCopy p) s = .next s)
    ∧ (∀ (s : State) p c, (s.copies.find? fun c => c.src = p && !c.recov) = some c → exec (.gcCommit p) s
      = .next (if s.copyComplete c then ({ s.commitCopy c false with copies := (s.commitCopy c false).copies.erase c } : State) else s))
    ∧ (∀ (s : State) i b, (s.bands.find? fun b => b.id = i) = some b → b.isOpen = false → s.moving b = true → s.validFirsts b = [] →
      (∀ c ∈ s.copies, ∀ x, s.bandOf c.src = some x → x.id ≠ i) → (∀ m, some m ∈ b.members → s.blkState m.1 m.2 ≠ bsClosed) → s.movesDurable b = true →
      (∀ p ∈ s.oldPages, ∀ x, s.bandOf p = some x → x.id ≠ i) → ∃ t : State,
        exec (.release i) s = .next (t.dropBand i).updateGc ∧ (s.cmds = [] → (t.dropBand i).bands = s.bands.filter (fun x => x.id ≠ i)) ∧ t.bands = s.bands ∧ t.jnl = (s.journal 0x24 0 i 0).jnl ∧ t.flash = s.flash ∧ t.copies = s.copies
        ∧ (∀ m, some m ∈ b.members → t.get .X_BLK_MM (blkIx m.1 m.2) = mmReleased))
    ∧ (∀ (s : State) i b, (s.bands.find? fun b => b.id = i) = some b → (b.isOpen = true ∨ s.validFirsts b ≠ [] ∨ s.movesDurable b = false
      ∨ (s.oldPages.any fun p => (s.bandOf p).any fun x => x.id = i) = true) → exec (.release i) s = .next s)
    ∧ (∀ (s t : State) d b m cls, s.flag .X_DIE_POP d = true → b < s.blocksPerDie (dieChannel d) →
      (s.get .X_BLK_MM (blkIx d b) = mmReleased ∨ s.get .X_BLK_MM (blkIx d b) = mmHalfErased) → (s.blkState d b = bsInService ∨ s.blkState d b = bsHalfErased) →
      s.dieHasMode d m = true → s.eraseUnderway d b = false → s.eraseAllowed d b = true → s.durable (fun r => r.type = 0x24) = true →
      s.eraseClass (channelCluster (dieChannel d)) m = some cls →
      t = (if s.flag .X_BLK_BEGUN (blkIx d b) then s
        else (s.journal 0x25 0 (baddr d b) (s.get .X_BLK_CNT (blkIx d b) * 2 ^ 32 + m)).putFlag .X_BLK_BEGUN true (blkIx d b)) →
      exec (.blockErase d b m) s = .next (if t.durable (fun r => r.type = 0x25 && r.a = baddr d b)
        then t.planOwn d ⟨0, opErase, cls, true, t.get .TK_PERIOD_PERIOD, hwBlock b 0 m⟩ else t))
    ∧ (∀ (s : State) d b m, (s.eraseUnderway d b = true ∨ s.get .X_BLK_MM (blkIx d b) ≠ mmReleased ∧ s.get .X_BLK_MM (blkIx d b) ≠ mmHalfErased ∨ s.eraseAllowed d b = false
      ∨ s.eraseClass (channelCluster (dieChannel d)) m = none) →
      exec (.blockErase d b m) s = .next s)
    ∧ (∀ (s : State) d b, exec (.reserveRefill d b) s = .next (if s.get .X_BLK_MM (blkIx d b) = mmErased ∧ s.get .X_BLK_MODE (blkIx d b) = 1 ∧ s.reserveFull = false
        then (s.put .X_BLK_MM mmReserved (blkIx d b)).updateGc else s))
    ∧ (∀ (s : State) i, (s.bands.find? fun b => b.id = i) = none → exec (.staticWearLevelling i) s = .next (s.put .MC_WL_RANGE (s.wearRange.2 * 2 ^ 32 + s.wearRange.1)))
    ∧ (∀ (s : State) i b m, (s.bands.find? fun b => b.id = i) = some b → s.wearRange.1 + s.get .MC_WL_CFG_SPREAD ≤ s.wearRange.2 → b.isOpen = false → b.wear = false →
      some m ∈ b.members → s.get .X_BLK_CNT (blkIx m.1 m.2) = s.wearRange.1 → s.get .X_CAL_SEC ≠ s.calRaw / 65536 → 0 < s.get .MC_WL_CFG_RATE → s.bgWork = true → ∃ t : State,
        exec (.staticWearLevelling i) s = .next t ∧ t.bands = (s.setBand { b with wear := true }).bands ∧ t.get .X_WL_SEC = 1 ∧ t.flash = s.flash)

/-- A deep decoder takes the best waiting job of its cluster while fewer than two run; its end wins the ladder or moves it to its
next step. A ladder's next step issues its read, and a ladder without a step left is exhausted. A hedge with enough members
verified rebuilds its unit, or fails all members; one that failed runs its members' ladders once. A read at CMD_MAX passes its
units to background recovery, is counted, raises source 74 and ends with a media error. A recovery pass in Run or Throttle, and
not on the way out of them, comes to a stage: it reads the granule's units, then the rest of their rows; with a unit given up it
is repeated, and after the last pass the granule is LOST; verified, the granule is written anew, and a parity-complete copy is
committed and counted. The patrol reads the next page of its FULL band with what the result asks for and moves on; it does nothing
while disabled or outside Run and Throttle and ends its lap past the last FULL band; a refresh or age limit marks the band. -/
def Obligations.FailedUnitsAreRecovered : Prop :=
  (∀ (s : State) k j, (s.deepJobs.filter fun j => j.cl = k) = [j] → j.running = false → exec (.deepDecodeStart k) s
      = .next { s with deepJobs := s.deepJobs.map fun x => if x = j then { x with running := true } else x })
    ∧ (∀ (s : State) k, 2 ≤ ((s.deepJobs.filter fun j => j.cl = k).filter fun j => j.running).length → exec (.deepDecodeStart k) s = .next s)
    ∧ (∀ (s t : State) p j l n, (s.deepJobs.find? fun j => j.place = p && j.running) = some j →
      t = { s with deepJobs := s.deepJobs.erase j, staged := s.staged.filter fun x => x.place ≠ p || !x.raw } → s.ladder? p = some l →
      exec (.deepDecodeDone p (.verified n)) s = .next ((t.bump .MC_CNT_DEEP_OK).ladderWon l (t.ladderAt l).1 (!(t.ladderAt l).2))
      ∧ exec (.deepDecodeDone p .failed) s = .next (t.ladderNext l))
    ∧ (∀ (s : State) p l, s.ladder? p = some l → l.busy = false → l.exhausted = false → (s.ladderSteps l)[l.done - 1]? = none → exec (.ladderStep p) s = .next (s.exhaust l))
    ∧ (∀ (s : State) p l k b, s.ladder? p = some l → l.busy = false → l.exhausted = false → (s.ladderSteps l)[l.done - 1]? = some (k, b) → s.ladders = [l] →
      s.ladderAt l = (k, b) → ∃ t : State, exec (.ladderStep p) s = .next (if l.cls = 0 then
          (if t.fastOk (placeDie p) then t.startRead p 1 k 0 else if t.goldMay (placeDie p) (t.placeBlock p) then t.appendRead p 1 k else t.planNext p 1 k)
        else t.planLater p 1 k l.cls) ∧ t.ladders = [{ l with busy := true }] ∧ t.plans = s.plans
        ∧ t.get .MC_CNT_LADDER_READS = (s.bump .MC_CNT_LADDER_READS).get .MC_CNT_LADDER_READS)
    ∧ (∀ (s : State) p h, (s.hedges.find? fun h => h.place = p) = some h → h.need ≤ (h.members.filter fun m => m.2 = .verified).length →
      exec (.hedgeRebuild p true) s = .next ((if h.recon then s else (((s.bump .MC_CNT_HEDGE_WON).sample 8 15).sampleBoth 9 53
        (s.elapsedUs h.tick h.ph)).queueRefresh p).unitVerified p)
      ∧ exec (.hedgeRebuild p false) s = .next { s with hedges := s.hedges.map fun x =>
          if x.place = p then { x with members := x.members.map fun m => (m.1, .failed) } else x })
    ∧ (∀ (s : State) p h, (s.hedges.find? fun h => h.place = p) = some h → (h.members.filter fun m => m.2 = .verified).length < h.need → ∀ ok,
      exec (.hedgeRebuild p ok) s = .next s)
    ∧ (∀ (s : State) p h, (s.hedges.find? fun h => h.place = p) = some h → (h.failed = false ∨ h.retried = true) → exec (.hedgeRetry p) s = .next s)
    ∧ (∀ (s : State) p h, (s.hedges.find? fun h => h.place = p) = some h → h.failed = true → h.retried = false →
      ((s.ladder? p).elim h.recon fun l => l.exhausted) = true → ∃ t : State,
      t.hedges = s.hedges.map (fun x => if x.place = p then
        { x with retried := true, members := x.members.map fun m => if m.2 = .failed then (m.1, .waiting) else m } else x) ∧ t.get .X_CMDSEQ = s.get .X_CMDSEQ
      ∧ exec (.hedgeRetry p) s = .next (forEach ((h.members.filter fun m => m.2 = .failed).map Prod.fst) t fun m u =>
          u.launchLadder m h.cls (u.get .X_CMDSEQ) (u.recovWants p)))
    ∧ (∀ (s t : State) n c, s.cmd? n = some c → c.isRead = true → c.st = .planned → c.wants ≠ [] → t = ((s.toBackground c).bump .MC_CNT_CMD_MAX).raise 74 uMap c.node →
      exec (.cmdMaxExpiry n) s = .next ((({ t with engJobs := t.engJobs.filter fun j => j.cmd ≠ n || j.engine.isSome } : State).failRead c vMediaError).dropUnwanted c.wants))
    ∧ (∀ (s : State) n g r, (s.recovs.find? fun r => r.node = n && r.g = g) = some r →
      (∀ k, exec (.backgroundRecoveryPass n g k none) s = .next (if s.bgWork then s.passStage r k else s))
      ∧ (r.going = false → s.passStage r 1 = forEach ((s.recovUnits r).filter fun p => s.dieAvailable (placeDie p))
          (s.setRecov { r with phase := 1, going := true, got := [] }) fun p t => t.planLater p 1 0 2)
      ∧ (r.going = true → r.phase = 1 → s.recovLeft r ≠ [] → (s.recovLeft r).all s.ladderOver = true →
        s.passStage r 2 = forEach (s.recovLeft r) (s.setRecov { r with phase := 2 }) fun p t => t.rebuildInPass p)
      ∧ (∀ k, r.going = true → s.recovLeft r ≠ [] → (s.recovLeft r).all s.unitGivenUp = true → exec (.backgroundRecoveryPass n g k (some false)) s
        = .next (if s.get .MC_RI_CFG_RECOV_PASSES ≤ r.passes + 1 then ((s.endRecov r.node r.g).dropUnwanted (s.recovUnits r)).markLost r.node r.g
          else (s.setRecov { r with passes := r.passes + 1, phase := 1, going := false, got := [] }).dropUnwanted (s.recovUnits r)))
      ∧ (∀ k, (r.going = false ∨ s.recovLeft r = []) → exec (.backgroundRecoveryPass n g k (some false)) s = .next s)
      ∧ (∀ k, (eState (s.mapGet n g) ≠ 1 ∨ eRecov (s.mapGet n g) = false) → exec (.backgroundRecoveryPass n g k (some true)) s = .next (s.endRecov n g))
      ∧ (∀ (t : State) k u b, eState (s.mapGet n g) = 1 → eRecov (s.mapGet n g) = true → eLost (s.mapGet n g) = false → r.going = true → s.recovLeft r = [] →
        (∀ c ∈ s.copies, c.src ≠ ePlace (s.mapGet n g)) → s.unitAt (ePlace (s.mapGet n g)) = some u → s.bandOf (ePlace (s.mapGet n g)) = some b →
        s.copyUnit (ePlace (s.mapGet n g)) u b.kind true = some t → exec (.backgroundRecoveryPass n g k (some true)) s = .next t))
    ∧ (∀ (s t : State) n g c, (s.copies.find? fun c => c.recov && c.src = ePlace (s.mapGet n g)) = some c → s.copyComplete c = true → eState (s.mapGet n g) = 1 →
      t = s.commitCopy c true → exec (.recoveryCommit n g) s = .next (({ t with copies := t.copies.erase c, recovs := t.recovs.filter fun r => !(r.node = n && (s.blockGranules n g).contains r.g) } : State).add .MC_CNT_RECOVERED
          (t.recovs.filter fun r => r.node = n && (s.blockGranules n g).contains r.g).length))
    ∧ (∀ (s : State) u, (s.flag .MC_PATROL_CFG_ENABLE = false ∨ s.bgWork = false) → exec (.patrolRead u) s = .next s)
    ∧ (∀ (s : State) u, s.flag .MC_PATROL_CFG_ENABLE = true → s.bgWork = true → s.fullFrom (s.get .X_PAT_BAND) = none → (s.bands.any fun b => !b.isOpen) = true →
      exec (.patrolRead u) s = .next s.endLap)
    ∧ (∀ (s t u w : State) x b pos m p n, s.flag .MC_PATROL_CFG_ENABLE = true → s.bgWork = true → s.fullFrom (s.get .X_PAT_BAND) = some b →
      n = (b.members.filterMap fun x => x).length → pos = (if b.id = s.get .X_PAT_BAND then s.get .X_PAT_POS else 0) →
      m = (b.members.filterMap fun x => x).getD (pos % n) (0, 0) →
      p = placeOf m.1 (s.unitAddr m.1 m.2 (s.pageIndex b (pos / n)) ((s.pageIndex b (pos / n) + s.get .MC_PATROL_LAP / 2 ^ 32) % 4)) →
      t = (s.countBlockRead m.1 m.2).checkReads m.1 m.2 →
      u = (match x with
        | .verified k => if t.get .MC_PATROL_CFG_REFRESH_BITS ≤ k then t.queueRefresh p else t
        | .blank => t
        | r => (t.queueRefresh p).unitFailed p 3 r) →
      w = (if u.wlPages b * u.bandWlb b * n ≤ pos + 1 then (u.put .X_PAT_BAND (b.id + 1)).put .X_PAT_POS 0
        else (u.put .X_PAT_BAND b.id).put .X_PAT_POS (pos + 1)) → ∃ (k : Nat) (v : State), v = w.put .MC_PATROL_POS_PERMILLE k
        ∧ exec (.patrolRead x) s = .next (if (v.fullFrom (v.get .X_PAT_BAND)).isNone then v.endLap else v))
    ∧ (∀ (s : State), s.endLap.get .X_PAT_BAND = 0 ∧ s.endLap.get .X_PAT_POS = 0 ∧ s.endLap.get .MC_PATROL_POS_PERMILLE = 0)
    ∧ (∀ (s : State) i b, (s.bands.find? fun b => b.id = i) = some b → b.isOpen = false → (b.refresh = true → s.bgWork = true → exec (.refresh i) s = .next (s.setBand { b with victim := true }))
      ∧ ((b.refresh = false ∨ s.bgWork = false) → exec (.refresh i) s = .next s) ∧ (b.refresh = false → s.get .MC_PATROL_CFG_AGE_DAYS ≠ 0 → s.flag .CAL_STS_VALID = true → b.closedAt ≠ 0 →
        b.closedAt + s.get .MC_PATROL_CFG_AGE_DAYS * 86400 ≤ s.calRaw / 65536 → exec (.bandAgeRefresh i) s = .next (s.setBand { b with refresh := true })))

/-- An idle decompression engine takes the next job of its cluster; a busy one none. The end of a block whose check passes
delivers it and frees the engine; a first failed check reads the block again. A compression engine takes a PACK_ONLY command, or
the next block of a WRITE_PACK, whose data have arrived; the block of a PACK_ONLY that saves space and decodes again is sent to
the host, one that saves nothing ends it NO_SHRINK, and the block of a WRITE_PACK that saves space is stored. A dictionary LOAD or
DROP of a node that is not there shows REFUSED reason 1; a good LOAD is BUSY, its end holds the dictionary and shows DONE, and a
DROP lets it go. A corrected memory error is counted, logged and raises its source; an uncorrectable one sets its bit and source
and does what R423 says for what it held; a scrub with SCRUB_EN clear does nothing, otherwise it corrects what it finds; LOG_CLEAR
empties the log. -/
def Obligations.EnginesDictionariesAndMemories : Prop :=
  (∀ (s : State) e j, e < 32 → s.engineIdle e = true → nextJob (s.decQueue (e / 4)) = some j → exec (.decompressionJobStart e (e / 4)) s = .next (s.runJob e j)
      ∧ (s.runJob e j).get .CX_ENG_STS_STATE e = 1)
    ∧ (∀ (s : State) e k j x, e < 32 → k < 8 → k ≠ e / 4 → s.engineIdle e = true → nextJob (s.decQueue k) = some j →
      nextJob ((s.decQueue k).filter EngJob.roams) = some x → exec (.decompressionJobStart e k) s = .next (s.runJob e x))
    ∧ (∀ (s : State) e k, s.engineIdle e = false → exec (.decompressionJobStart e k) s = .next s)
    ∧ (∀ (s : State) e j c l d, (s.engJobs.find? fun j => j.engine = some e) = some j → s.cmd? j.cmd = some c → c.st = .planned → j.kind = .block l → c.mute = false →
      (mumelChecked (l.flatMap s.unitBytes) = .ok d → exec (.decompressionJobDone e) s
        = .next (((((s.bump .CX_CNT_DEC_BLOCKS).add .CX_CNT_DEC_BYTES d.length).endJob e j 0).setCmd (c.takeBlock l d)).tryFinish c.id))
      ∧ (mumelChecked (l.flatMap s.unitBytes) = .badCheck → j.again = false → exec (.decompressionJobDone e) s = .next (s.rereadJob e j c l)))
    ∧ (∀ (s : State) e n c, 32 ≤ e → e < 40 → s.cmd? n = some c → s.engineIdle e = true → c.nvme = false → c.op = 0x0C → c.st = .admitted →
      (s.cmdData c 0 c.bytes).isSome = true → (∀ j ∈ s.engJobs, j.cmd ≠ n) → ∃ (t : State) (j : EngJob), exec (.compressionJobStart e n) s = .next (t.runJob e j)
        ∧ j = ⟨s.get .X_JOBSEQ, e - 32, n, c.cls, 1, .pack 0 0, none, false, true, [], false⟩ ∧ t.engJobs = s.engJobs ++ [j] ∧ t.cmds = s.cmds)
    ∧ (∀ (s : State) e n c b, 32 ≤ e → e < 40 → s.cmd? n = some c → s.engineIdle e = true → c.nvme = false → c.op = 0x04 → c.st = .admitted →
      (∀ j ∈ s.engJobs, j.cmd ≠ n) → ((s.packBlocks c).filter fun b => c.parts.any fun p => p.pos = b.1 && !p.done).head? = some b →
      (s.blockInput c b.1 b.2).isSome = true → ∃ (t : State) (j : EngJob), exec (.compressionJobStart e n) s = .next (t.runJob e j)
        ∧ j = ⟨s.get .X_JOBSEQ, e - 32, n, c.cls, 1, .pack b.1 b.2, none, false, true, [], false⟩ ∧ t.engJobs = s.engJobs ++ [j] ∧ t.cmds = s.cmds)
    ∧ (∀ (s : State) e n c j, 32 ≤ e → e < 40 → s.cmd? n = some c → s.engineIdle e = true → c.nvme = false → (c.op = 0x04 ∨ c.op = 0x0C) → c.st = .admitted →
      (s.engJobs.find? fun j => j.cmd = n && j.engine.isNone) = some j → exec (.compressionJobStart e n) s = .next (s.runJob e j))
    ∧ (∀ (s t : State) e j c g n b i size, (s.engJobs.find? fun j => j.engine = some e) = some j → j.kind = .pack g n → s.cmd? j.cmd = some c → c.mute = false →
      c.st = .admitted → c.op = 0x0C → s.cmdData c 0 c.bytes = some i → saves b c.bytes = true → selfCheck b i = true →
      size = (mumelSize b + 15) / 16 * 16 → size ≤ c.outLen →
      t = ((s.bump .CX_CNT_PACK_BLOCKS).endJob e j 0).sendDma c c.dest (b.take (mumelSize b) ++ List.replicate (size - (b.take (mumelSize b)).length) 0) →
      exec (.compressionJobDone e b) s = .next ((t.dropGrants c.id).finish c { vSuccess with crc := crc32c i, info := size / 16 }))
    ∧ (∀ (s t : State) e j c g n b i k, (s.engJobs.find? fun j => j.engine = some e) = some j → j.kind = .pack g n → s.cmd? j.cmd = some c → c.mute = false →
      c.st = .admitted → c.op = 0x04 → s.blockInput c g n = some i → saves b (n * s.granBytes c) = true → selfCheck b i = true → k = (mumelSize b + 4095) / 4096 →
      s.storeHost (c.kind ((List.range n).map (g + ·))) c.vol g true
        (chunks k (b.take (mumelSize b) ++ List.replicate (k * 4096 - mumelSize b) 0)) c.fn (c.keyAt g) (c.waiter ((List.range n).map (g + ·)))
        (fun p => (List.range n).map fun i => (g + i, mkEntry true false k i p)) = some t →
      exec (.compressionJobDone e b) s = .next (((((t.setCmd (c.markDone ((List.range n).map (g + ·)) (.packed [] 0))).dirtySub
        (n * s.granBytes c - 4096 * k)).bump .CX_CNT_PACK_BLOCKS).endJob e j 0).ackWrite c.id))
    ∧ (∀ (s : State) e j c g n b, (s.engJobs.find? fun j => j.engine = some e) = some j → j.kind = .pack g n → s.cmd? j.cmd = some c → c.mute = false → c.st = .admitted → c.op = 0x0C →
      saves b c.bytes = false → exec (.compressionJobDone e b) s
        = .next ((((s.bump .CX_CNT_PACK_BLOCKS).bump .CX_CNT_NOSHRINK).endJob e j 4).cutWrite c.id vNoShrink))
    ∧ (∀ (s : State) ag n k, n < 4096 → k < 64 → s.mayWrite ag .ownerFeMp = true → s.unitPower uChip = 0 → s.get .CX_DICT_STS_STATE 0 ag.ix ≠ 1 →
      (s.node? n = none → ∃ t : State, exec (.dictLoad ag n k) s = .next t ∧ t.get .CX_DICT_STS_STATE 0 ag.ix = 3 ∧ t.get .CX_DICT_STS_REASON 0 ag.ix = 1 ∧ t.dicts = s.dicts)
      ∧ (∀ x, s.node? n = some x → x.deleting = false → x.isStack = false → x.writable = false → 1 ≤ k → k ≤ 32 → s.get .CX_DICT_LBA 0 ag.ix + k ≤ x.size → ∃ t : State,
        exec (.dictLoad ag n k) s = .next t ∧ t.get .CX_DICT_STS_STATE 0 ag.ix = 1 ∧ t.flag .CX_DICT_CMD_GO 0 ag.ix = true ∧ t.get .CX_DICT_CMD_NODE 0 ag.ix = n
          ∧ t.get .CX_DICT_CMD_UNITS 0 ag.ix = k ∧ t.dicts = s.dicts)
      ∧ (∀ x, s.node? n = some x → x.deleting = false → x.isStack = false → x.writable = false → (s.dicts.any fun d => d.node = n) = true → ∃ t : State,
        exec (.dictDrop ag n) s = .next t ∧ t.get .CX_DICT_STS_STATE 0 ag.ix = 2 ∧ t.dicts = s.dicts.filter (fun d => d.node ≠ n)))
    ∧ (∀ (s : State) ag k a u b, s.get .CX_DICT_STS_STATE 0 ag.ix = 1 → s.get .CX_DICT_CMD_NODE 0 ag.ix = k → s.get .CX_DICT_LBA 0 ag.ix = a → s.get .CX_DICT_CMD_UNITS 0 ag.ix = u →
      s.dictReason 1 k a u = none → b = ((List.range u).flatMap fun i => match s.supply (a + i) [k] with
        | some (v, w) => s.readUnit v w (a + i)
        | none => zeroUnit) →
      (dictOk true b = true → s.dicts.length < s.get .CX_CAP_DICT_MAX → exec (.dictLoadDone ag true) s
        = .next (({ s.journal 0x18 k a u with dicts := ((s.journal 0x18 k a u).dicts.filter fun x => x.node ≠ k) ++ [⟨k, a, u, fieldAt b 4 4, b⟩] } : State).dictSts ag.ix 2 0))
      ∧ exec (.dictLoadDone ag false) s = .next (s.dictSts ag.ix 3 4))
    ∧ (∀ (s : State) m a b w, m < 6 → exec (.correctedMemoryError m a b w) s
      = .next (((s.bump .CHP_ECC_CE m).logEcc m a b).raise (12 + m) (memUnit m w) (if m = 4 then w else 0)))
    ∧ (∀ (s : State) m a b, (s.logEcc m a b).eccLog.length ≤ max 16 s.eccLog.length ∧ (s.logEcc m a b).regs = s.regs)
    ∧ (∀ (s t : State) m a n l x, m < 6 → t = (s.put .CHP_ECC_STS_UE (s.get .CHP_ECC_STS_UE ||| 2 ^ m)).raise (6 + m) (memUnit m 0) 0 →
      t.line? n l = some x → x.st = .clean → x.pins = 0 → exec (.uncorrectableMemoryError m a (.line n l)) s
        = .next { t with lines := t.lines.filter fun y => ¬(y.node = n ∧ y.l = l) })
    ∧ (∀ (s t : State) m a, m < 6 → t = (s.put .CHP_ECC_STS_UE (s.get .CHP_ECC_STS_UE ||| 2 ^ m)).raise (6 + m) (memUnit m 0) 0 →
      exec (.uncorrectableMemoryError m a .journal) s = .next t ∧ (∀ p, exec (.uncorrectableMemoryError m a (.buffer p)) s = .next (t.loseBuffered p))
      ∧ (∀ f, exec (.uncorrectableMemoryError m a (.queueState f)) s = .next (((t.disablePoint (.fn f) 5).raise 49 uFront f).reportAer f aerInternal))
      ∧ (∀ n p x, t.page? n p = some x → x.dirty = false → exec (.uncorrectableMemoryError m a (.page n p)) s
        = .next { t with pages := t.pages.filter fun y => ¬(y.node = n ∧ y.page = p) })
      ∧ (∀ n l x, t.line? n l = some x → x.st = .clean → 0 < x.pins → exec (.uncorrectableMemoryError m a (.line n l)) s = .next (t.setLine { x with st := .filling })))
    ∧ (∀ (s t : State) m a p, m < 6 → t = (s.put .CHP_ECC_STS_UE (s.get .CHP_ECC_STS_UE ||| 2 ^ m)).raise (6 + m) (memUnit m (placeCluster p)) 0 →
      t.wanted p = false → exec (.uncorrectableMemoryError m a (.staging p)) s = .next { t with staged := t.staged.filter fun x => x.place ≠ p })
    ∧ (∀ (s t : State) m a e, m < 6 → t = (s.put .CHP_ECC_STS_UE (s.get .CHP_ECC_STS_UE ||| 2 ^ m)).raise (6 + m)
        (memUnit m (if e < 32 then e / 4 else e - 32)) 0 → exec (.uncorrectableMemoryError m a (.window e)) s = .next (t.rerunJob e))
    ∧ (∀ (s t : State) m a n, m < 6 → t = (s.put .CHP_ECC_STS_UE (s.get .CHP_ECC_STS_UE ||| 2 ^ m)).raise (6 + m) (memUnit m 0) (if m = 4 then n else 0) →
      exec (.uncorrectableMemoryError m a (.core n)) s = .next (t.hangCore n))
    ∧ (∀ (s : State) m a e ms, (6 ≤ m ∨ bit (s.get .CHP_ECC_CTL_SCRUB_EN) m = false) → exec (.scrubRead m a e ms) s = .next s)
    ∧ (∀ (s : State) m a w b, m < 6 → bit (s.get .CHP_ECC_CTL_SCRUB_EN) m = true → exec (.scrubRead m a none none) s = .next s
      ∧ exec (.scrubRead m a (some (b, w)) none) s = .next (((s.bump .CHP_ECC_CE m).logEcc m a b).raise (12 + m) (memUnit m w) (if m = 4 then w else 0)))
    ∧ (∀ (s : State) m a ms, m < 6 → bit (s.get .CHP_ECC_CTL_SCRUB_EN) m = true → exec (.scrubRead m a none (some ms)) s = .next (s.put .CHP_ECC_LAP (min ms 0x7FFFFFFF) m))
    ∧ (∀ (s : State) ag, s.mayWrite ag .ownerMpWd = true → s.unitPower uChip = 0 → exec (.eccLogClear ag) s = .next { s with eccLog := [] })

/-- Of a request that is due. One that fails its first checks is answered with their RESULT and nothing else; otherwise each
opcode settles its response. GET_INFO gives its five values, GET_CHALLENGE a new nonce of 48 bytes. CLAIM_OWNER under KEYED with a
fresh nonce and a good signature sets OWNER and uses the nonce; under OPEN it fails. RELEASE_OWNER clears it. A licence is
installed when its checks pass, and the request is answered with the RESULT of the first that fails; a removal is armed for its
tick; LICENCE_STATUS gives the record. Signed with a good nonce by an authority key the part holds, TIME_ATTEST not below the
floor raises the floor and trusts the time, and MONO_ADVANCE of a higher value stores it; an authority key it does not hold fails
the signature. The end writes the response with its header as one strict request, where nothing holds it back, shows DONE with its
RESULT, clears GO and counts; nothing happens while the mailbox is not BUSY. -/
def Obligations.MailboxCommandsAreAnswered : Prop :=
  (∀ (s : State) b r, s.mbxDue b = true →
      (fieldAt b 0 1 = 1 → s.mbxVerdict b 1 false = some r → exec (.getInfo b) s = .next (s.answerMbx 1 r))
      ∧ (fieldAt b 0 1 = 2 → s.mbxVerdict b 2 false = some r → exec (.getChallenge b) s = .next (s.answerMbx 2 r))
      ∧ (fieldAt b 0 1 = 4 → s.mbxVerdict b 4 true = some r → exec (.releaseOwner b) s = .next (s.answerMbx 4 r))
      ∧ (fieldAt b 0 1 = 5 → s.mbxVerdict b 5 true = some r → ∀ g, exec (.licenceInstall b g) s = .next (s.answerMbx 5 r)))
    ∧ (∀ (s : State) b, s.mbxDue b = true →
      (fieldAt b 0 1 = 1 → s.mbxVerdict b 1 false = none → exec (.getInfo b) s = .next { s with mbxResp := some ⟨1, mbOk, [s.get .SEC_STS_KEYED, s.get .SEC_MONO, s.get .SEC_TIME_FLOOR, min 4 Config.authorityKeys, s.licences.length], []⟩ })
      ∧ (fieldAt b 0 1 = 2 → s.mbxVerdict b 2 false = none → ∃ t : State, exec (.getChallenge b) s = .next t ∧ t.nonce.length = 48
        ∧ t.mbxResp = some ⟨2, mbOk, [], t.nonce⟩ ∧ t.out = s.out ∧ t.flag .SEC_STS_OWNER = s.flag .SEC_STS_OWNER)
      ∧ (fieldAt b 0 1 = 3 → s.mbxVerdict b 3 false = none → s.flag .SEC_STS_KEYED = true → s.nonceFresh = true → ∃ t : State, exec (.claimOwner b true true) s = .next t
        ∧ t.flag .SEC_STS_OWNER = true ∧ t.nonce = [] ∧ t.mbxResp = some ⟨3, mbOk, [], []⟩ ∧ t.out = s.out ∧ t.locks = s.locks)
      ∧ (fieldAt b 0 1 = 3 → s.mbxVerdict b 3 false = none → s.flag .SEC_STS_KEYED = false → ∀ g k, exec (.claimOwner b g k) s = .next (s.answerMbx 3 mbSignature))
      ∧ (fieldAt b 0 1 = 4 → s.mbxVerdict b 4 true = none → ∃ t : State, exec (.releaseOwner b) s = .next t ∧ t.flag .SEC_STS_OWNER = false
        ∧ t.mbxResp = some ⟨4, mbOk, [], []⟩ ∧ t.nonce = s.nonce ∧ t.out = s.out)
      ∧ (∀ g, fieldAt b 0 1 = 5 → s.mbxVerdict b 5 true = none → exec (.licenceInstall b g) s
        = .next (match s.installVerdict (fieldAt b 16 4) (b.drop 20) g with
          | none => (s.install (fieldAt b 16 4) (b.drop 20)).answerMbx 5 mbOk
          | some v => s.answerMbx 5 v))
      ∧ (fieldAt b 0 1 = 6 → s.mbxVerdict b 6 true = none → s.isVolume (fieldAt b 16 4) = true → (s.licences.any fun l => l.node = fieldAt b 16 4) = true →
        exec (.licenceRemove b) s = .next (if s.armOk (fieldAt b 20 8) then (s.arm (fieldAt b 20 8) (.licenceRemove (fieldAt b 16 4))).answerMbx 6 mbOk
          else s.answerMbx 6 mbTickPast))
      ∧ (∀ l, fieldAt b 0 1 = 7 → s.mbxVerdict b 7 false = none → s.isVolume (fieldAt b 16 4) = true → (s.licences.find? fun l => l.node = fieldAt b 16 4) = some l →
        exec (.licenceStatus b) s = .next (s.answerMbx 7 mbOk [l.index, if l.closed then 1 else 0] (l.blob.take 56 ++ l.blob.drop 128)))
      ∧ (fieldAt b 0 1 = 8 → s.mbxVerdict b 8 false = none → s.nonceOk b = true → s.get .SEC_TIME_FLOOR ≤ fieldAt b 16 8 → ∃ t : State, exec (.timeAttest b true true) s = .next t
        ∧ if authorityKnown (fieldAt b 72 1) = false then t = s.answerMbx 8 mbSignature else t.flag .SEC_STS_TIME_TRUSTED = true ∧ t.get .SEC_TIME_FLOOR = fieldAt b 16 8 % 2 ^ 48 ∧ t.nonce = []
          ∧ t.mbxResp = some ⟨8, mbOk, [], []⟩)
      ∧ (fieldAt b 0 1 = 9 → s.mbxVerdict b 9 (s.flag .SEC_STS_KEYED) = none → s.nonceOk b = true →
        s.get .SEC_MONO < fieldAt b 16 8 → fieldAt b 16 8 < 2 ^ 64 - 1 → ∃ t : State, exec (.monoAdvance b true true) s = .next t ∧ if authorityKnown (fieldAt b 72 1) = false then t = s.answerMbx 9 mbSignature else t.get .SEC_MONO = fieldAt b 16 8
          ∧ t.nonce = [] ∧ t.mbxResp = some ⟨9, mbOk, [], []⟩ ∧ t.licences = s.licences)
      ∧ (fieldAt b 0 1 = 9 → s.mbxVerdict b 9 (s.flag .SEC_STS_KEYED) = none → ∀ g, exec (.monoAdvance b false g) s = .next (s.answerMbx 9 mbSignature)
        ∧ exec (.monoAdvance b g false) s = .next (s.answerMbx 9 mbSignature)))
    ∧ (∀ (s : State) b r, s.get .SEC_MBX_STS_STATE = 1 → s.wardenUp = true → s.fetchHeld = false → s.holds = [] → s.xlatMiss 0 (some (s.get .SEC_MBX_RSP)) 64 = false → s.mbxResp = some r → s.flag .X_MBX_MUTE = false → s.flag .SEC_MBX_CMD_IRQ_EN = false → r.result ≠ mbDma →
      r.result < 256 → ∃ (t : State) (h : List Byte), exec (.mailboxCommandDone b true) s = .next t ∧ t.get .SEC_MBX_STS_STATE = 2 ∧ t.get .SEC_MBX_STS_RESULT = r.result ∧ t.flag .SEC_MBX_CMD_GO = false
        ∧ t.mbxResp = none ∧ (r.fields = [] → h = mbxHeader r.op r.result (r.data.length % 4081))
        ∧ t.out = s.out ++ [.tlp 0 (some (s.get .SEC_MBX_RSP)) true false false (s.xlatHit 0 (some (s.get .SEC_MBX_RSP)) 64), .mbxReply (s.get .SEC_MBX_RSP) h r.fields r.data] ∧ t.flag .SEC_STS_OWNER = s.flag .SEC_STS_OWNER)
    ∧ (∀ (s : State) b ok, s.get .SEC_MBX_STS_STATE ≠ 1 → exec (.mailboxCommandDone b ok) s = .next s ∧ exec (.getInfo b) s = .next s)

/-- With the Warden ON: a batch of the Owner or Warden that passes its checks shows ARMED and is armed for its tick with its
entries; one that fails shows REFUSED with the first reason and is not armed; neither changes the map; another writer than PF0 is
refused with reason 1. A doomed key that no outstanding command uses goes, any other stays; in a crypto-erase Sanitize all doomed
keys go in one step, once none is used, and the progress shows 32,768. The time floor rises to a later valid calendar and never
falls. A lockstep mismatch halts both cores of its pair and raises the pair's source; a core hang raises the source of its kind;
an unpowered block or a pair that is not there does nothing. -/
def Obligations.ProtectionKeysAndCoreMonitors : Prop :=
  (∀ (s t : State) ag fence n, n < 128 → s.unitPower uWarden = 0 → s.mayWrite ag .ownerWd = true →
      t = (((s.putFlag .SEC_PM_CMD_FENCE fence 0 ag.ix).put .SEC_PM_CMD_COUNT n 0 ag.ix).put .X_PM_SEQ (s.get .X_PM_SEQ 0 ag.ix + 1) 0 ag.ix) → t.rights = s.rights ∧
      (∀ r, t.batchReason ag.ix n ((List.range n).map (t.staged32 ag.ix)) = some r → exec (.protectionBatchSubmit ag fence n) s = .next (t.pmResult ag.ix 4 r 0))
      ∧ (t.batchReason ag.ix n ((List.range n).map (t.staged32 ag.ix)) = none → exec (.protectionBatchSubmit ag fence n) s
        = .next ((t.pmResult ag.ix 2 0 0).arm (s.get .SEC_PM_TICK 0 ag.ix) (.protection ag.ix ((List.range n).map (t.staged32 ag.ix)) fence
            (t.get .X_PM_SEQ 0 ag.ix)))))
    ∧ (∀ (s : State) k fence n, s.unitPower uWarden = 0 → s.mayWrite (.core k) .ownerWd = false → exec (.protectionBatchSubmit (.core k) fence n) s = .next (s.pmResult (Agent.core k).ix 4 1 0))
    ∧ (∀ (s : State) a x r k, (s.pmResult a x r k).rights = s.rights ∧ (s.pmResult a x r k).armed = s.armed ∧ (s.pmResult a x r k).get .SEC_PM_RESULT_STATE 0 a = x % 2 ^ 4)
    ∧ (∀ (s : State) n g, (s.keys.any fun k => k.node = n && k.gen = g && k.doomed) = true → (s.cmds.any fun c => c.parts.any fun p => p.key = g && !p.done) = false →
      s.get .X_SAN_ST ≠ 2 → exec (.keyDestruction n g) s = .next { s with keys := s.keys.filter fun k => !(k.node = n && k.gen = g) })
    ∧ (∀ (s : State) n g, (s.keys.any fun k => k.node = n && k.gen = g && k.doomed) = true → s.cryptoSanitize = true →
      exec (.keyDestruction n g) s = .next (if (s.keys.any fun k => k.doomed && s.keyUsed k.gen) = true then s
        else ({ s with keys := s.keys.filter fun k => !k.doomed } : State).put .X_SAN_SPROG 32768))
    ∧ (∀ (s : State) n g, ((s.keys.any fun k => k.node = n && k.gen = g && k.doomed) = false ∨ (s.cmds.any fun c => c.parts.any fun p => p.key = g && !p.done) = true) →
      exec (.keyDestruction n g) s = .next s)
    ∧ (∀ (s : State), s.wardenUp = true → s.flag .CAL_STS_VALID = true → s.get .SEC_TIME_FLOOR < s.calSec → s.calSec < 2 ^ 48 → ∃ t : State, exec .timeFloorRaise s = .next t
      ∧ t.get .SEC_TIME_FLOOR = s.calSec ∧ t.get .X_KEEP_FLOOR = s.calSec ∧ t.out = s.out ∧ t.get .SEC_MONO = s.get .SEC_MONO)
    ∧ (∀ (s : State), (s.wardenUp = false ∨ s.flag .CAL_STS_VALID = false ∨ s.calSec ≤ s.get .SEC_TIME_FLOOR) → exec .timeFloorRaise s = .next s)
    ∧ (∀ (s : State) p, p < 4 → s.powered = true → exec (.lockstepMismatch p) s
      = .next (((s.putFlag .X_CORE_HALTED true (2 * p)).putFlag .X_CORE_HALTED true (2 * p + 1)).raise (32 + p) uFront p))
    ∧ (∀ (s : State), s.powered = true → exec (.lockstepMismatch 4) s
      = .next (((s.putFlag .X_CORE_HALTED true 62).putFlag .X_CORE_HALTED true 63).raise 80 uWarden 0))
    ∧ (∀ (s : State) p, 4 < p → exec (.lockstepMismatch p) s = .next s)
    ∧ (∀ (s : State) k, s.powered = true → (k < 8 → exec (.coreHang k) s = .next (s.raise (36 + k / 2) uFront k))
      ∧ (8 ≤ k → k < 56 → exec (.coreHang k) s = .next (s.raise (cSrc ((k - 8) / 6) 2) (uCluster ((k - 8) / 6)) k))
      ∧ (56 ≤ k → k < 62 → exec (.coreHang k) s = .next (s.raise (64 + (k - 56)) uMap k))
      ∧ (62 ≤ k → k < 64 → exec (.coreHang k) s = .next (s.raise 81 uWarden k)))
    ∧ (∀ (s : State) k, 64 ≤ k ∨ s.powered = false → exec (.coreHang k) s = .next s)

/-- IDLE_TIMER_EXPIRY sets idle when no command is busy. In Retain a domain wakes to ON and, no exit under way, regates to RETAIN;
other units keep their state. An entry that a condition refuses leaves the mode and is logged with its reason at AP1; one that
none refuses goes on to its AP2 check. MEDIA_QUIET completes an entry into Retain without a wake event, else abandons it at AP3.
MODE_EXIT refuses pending power requests and waits for a RUNNING one; else it leads from Ready to the mode R501 gives with nothing
gated, and from Retain it ungates and the mode changes at the boundary. SCALE_CHANGE sets S to the smaller of S_T and S_P and, no
power request RUNNING, moves between Run and Throttle. PM_CMD, the chip ON: SET_FLOOR 3 to 5 is taken, other values end with
reason 2; SHUTDOWN ends with reason 5 while hosts are active and else enters Hold-up with trigger 4. VAUX, VBAT: Off to Keep, Keep
to Patrol, Patrol to Keep or Off, Keep to Off. MAIN_EN is asserted from Patrol unless it waits for a wake. A round converts the
channels of the mask and is counted; a sample outside its window is a violation. -/
def Obligations.ModesFollowDemandSuppliesAndPatrol : Prop :=
  (∀ s : State, exec .idleTimerExpiry s = .next (if s.anyBusy then s else s.putFlag .X_IDLE true))
    ∧ (∀ (s : State) w, s.mode = mRetain → (∃ t : State, exec (.domainWake w) s = .next t ∧ t.mode = mRetain
        ∧ (∀ u ∈ s.domainOf w, t.get .X_MODE_POWER u = 0) ∧ ∀ u, u ∉ s.domainOf w → t.get .X_MODE_POWER u = s.get .X_MODE_POWER u)
      ∧ (s.get .PM_MODE_MOVE = 0 → ∃ t : State, exec (.domainRegate w) s = .next t ∧ t.mode = mRetain
        ∧ (∀ u ∈ s.domainOf w, t.get .X_MODE_POWER u = 2) ∧ ∀ u, u ∉ s.domainOf w → t.get .X_MODE_POWER u = s.get .X_MODE_POWER u))
    ∧ (∀ (s : State) w, s.mode ≠ mRetain → exec (.domainWake w) s = .next s ∧ exec (.domainRegate w) s = .next s)
    ∧ (∀ (s : State) w, s.get .PM_MODE_MOVE ≠ 0 → exec (.domainRegate w) s = .next s)
    ∧ (∀ (s u : State), s.get .PM_MODE_MOVE = 0 → s.flag .X_IDLE = true → s.quieter = true → s.mode = mRun ∨ s.mode = mThrottle →
      u = (s.put .X_PM_FROM s.mode).put .PM_MODE_TARGET s.demand →
      (∀ x r, u.entryRefusal s.demand = some (x, r) → ∃ t : State, exec .modeEntry s = .next t ∧ t.mode = s.mode
        ∧ t.get .PM_MODE_TARGET = s.mode ∧ t.get .PM_REFUSE_LOG_REASON (s.get .PM_LOG_STS_NEXT) = r % 256
        ∧ t.get .PM_REFUSE_LOG_AP (s.get .PM_LOG_STS_NEXT) = 1 ∧ t.get .PM_MODE_MOVE = 0 ∧ t.flash = s.flash)
      ∧ (u.entryRefusal s.demand = none → ∃ v : State,
        v = (((u.refusePower.put .PM_MODE_MOVE 1).put .X_WAKE 0).put .X_PM_AP 1).withdrawLead
          ∧ exec .modeEntry s = .next (if v.ap2Due then v.passAp2 else v)))
    ∧ (∀ s : State, s.get .PM_MODE_MOVE ≠ 0 ∨ s.flag .X_IDLE = false ∨ s.quieter = false → exec .modeEntry s = .next s)
    ∧ (∀ s : State, (∃ d ∈ s.dies, s.get .X_DIE_OP d ≠ 0) → exec .mediaQuiet s = .next s)
    ∧ (∀ s : State, (∀ d ∈ s.dies, s.get .X_DIE_OP d = 0) → s.mode = mReady → s.get .PM_MODE_MOVE = 1 → s.get .PM_MODE_TARGET = mRetain →
      (s.get .X_WAKE = 0 → ∃ t : State, exec .mediaQuiet s = .next t ∧ t.mode = mRetain ∧ t.get .PM_MODE_MOVE = 0
        ∧ t.get .X_MODE_POWER uFront = 2 ∧ t.get .X_MODE_POWER uMap = 2 ∧ t.flash = s.flash)
      ∧ (s.get .X_WAKE ≠ 0 → ∃ v : State, v = s.gateIdle.abandonEntry 3 ∧ exec .mediaQuiet s = .next (if v.mode = mReady then v.gateIdle else v)))
    ∧ (∀ s : State, s.mode = mReady ∨ s.mode = mRetain → s.get .PM_MODE_MOVE = 0 → s.get .X_WAKE ≠ 0 ∨ s.mode < s.demand →
      (s.refusePower.powerRunning = true → exec .modeExit s = .next s.refusePower)
      ∧ (s.mode = mReady → s.refusePower.powerRunning = false → ∃ t : State, exec .modeExit s = .next t ∧ t.mode = s.exitTarget % 8
        ∧ t.get .X_WAKE = 0 ∧ t.flag .X_IDLE = false ∧ (s.exitTarget ≠ mReady → ∀ u, t.get .X_MODE_POWER u = 0) ∧ t.cmds = s.cmds ∧ t.out = s.out)
      ∧ (s.mode = mRetain → s.refusePower.powerRunning = false → ∃ t : State, exec .modeExit s = .next t ∧ t.mode = mRetain
        ∧ t.get .PM_MODE_MOVE = 2 ∧ t.get .PM_MODE_TARGET = s.exitTarget % 8 ∧ t.get .X_WAKE = 0 ∧ (∀ u, t.get .X_MODE_POWER u = 0)
        ∧ t.cmds = s.cmds ∧ t.out = s.out))
    ∧ (∀ s : State, s.mode = mRetain → s.get .PM_MODE_MOVE = 2 → s.finishExit.mode = s.get .PM_MODE_TARGET % 8 ∧ s.finishExit.get .PM_MODE_MOVE = 0
      ∧ (s.get .PM_MODE_TARGET ≠ mReady → s.finishExit.get .X_WAKE = 0) ∧ s.finishExit.cmds = s.cmds)
    ∧ (∀ s : State, (s.mode ≠ mReady ∧ s.mode ≠ mRetain) ∨ s.get .PM_MODE_MOVE ≠ 0 → exec .modeExit s = .next s)
    ∧ (∀ s : State, s.powered = false → exec .scaleChange s = .next s)
    ∧ (∀ (s : State) m, s.powered = true → m = min (s.get .PM_THR_STS_S_T) s.powerScale → ∃ t : State, exec .scaleChange s = .next t
      ∧ t.get .PM_THR_STS_S_P = s.powerScale % 512 ∧ t.get .PM_THR_STS_S = m % 512
      ∧ t.mode = (if s.refusePower.powerRunning = true then s.mode else if s.mode = mRun ∧ m < 256 then mThrottle
        else if s.mode = mThrottle ∧ m = 256 then mRun else s.mode)
      ∧ t.cmds = s.cmds ∧ t.out = s.out)
    ∧ (∀ (s : State) c arg, s.unitPower uChip = 0 → s.mayWrite (.core c) .ownerMpWd = true → s.flag .PM_CMD_GO 0 c = false →
      (3 ≤ arg → arg ≤ 5 → ∃ t : State, exec (.setFloor (.core c) arg false) s = .next t ∧ t.get .PM_CTL_FLOOR = arg
        ∧ t.get .PM_CMD_STS_STATE 0 c = 3 ∧ t.get .PM_CMD_STS_REASON 0 c = 0 ∧ t.mode = s.mode)
      ∧ (arg < 3 → ∃ t : State, exec (.setFloor (.core c) arg false) s = .next t ∧ t.get .PM_CTL_FLOOR = s.get .PM_CTL_FLOOR
        ∧ t.get .PM_CMD_STS_STATE 0 c = 4 ∧ t.get .PM_CMD_STS_REASON 0 c = 2 ∧ t.mode = s.mode)
      ∧ (s.mode = mReady ∨ s.mode = mRun ∨ s.mode = mThrottle → s.hostsActive = true →
        ∃ t : State, exec (.shutdown (.core c) false) s = .next t ∧ t.get .PM_CMD_STS_STATE 0 c = 4 ∧ t.get .PM_CMD_STS_REASON 0 c = 5
          ∧ t.mode = s.mode)
      ∧ (s.mode = mReady ∨ s.mode = mRun ∨ s.mode = mThrottle → s.hostsActive = false → s.flag .X_READY = true → s.refusePower.powerRunning = false →
        ∃ t : State, exec (.shutdown (.core c) false) s = .next t ∧ t.mode = mHoldup ∧ t.get .X_HU_TRIG = 4 ∧ t.cmds = []))
    ∧ (∀ s : State, s.mode = mOff → ∃ t : State, exec (.vauxRise true) s = .next t ∧ t.mode = mKeep ∧ t.flag .X_VAUX = true
      ∧ t.flag .CAL_STS_VALID = false ∧ t.flag .CAL_STS_VBAT_LOST = true)
    ∧ (∀ s : State, s.mode ≠ mOff → exec (.vauxRise true) s = .next (s.putFlag .X_VAUX true) ∧ exec (.vauxRise false) s = .next (s.putFlag .X_VBAT true))
    ∧ (∀ s : State, s.mode = mKeep → ∃ t : State, exec .keepToPatrol s = .next t ∧ t.mode = mPatrol ∧ t.flag .X_VAUX = true
      ∧ t.get .PM_MODE_CAUSE = s.get .X_KEEP_CAUSE % 16 ∧ t.get .PM_PATROL_STS_ROUNDS = 0 ∧ t.get .PM_PATROL_STS_VIOLATIONS = 0 ∧ t.get .X_PAT_PERIOD = 100)
    ∧ (∀ s : State, s.mode ≠ mKeep → exec .keepToPatrol s = .next s)
    ∧ (∀ s : State, s.mode ≠ mPatrol → s.mode ≠ mKeep ∨ s.flag .X_VBAT = true → exec .vauxFall s = .next (s.putFlag .X_VAUX false))
    ∧ (∀ s : State, s.mode = mKeep → s.flag .X_VBAT = false → ∃ t : State, exec .vauxFall s = .next t ∧ t.mode = mOff ∧ t.flash = s.flash)
    ∧ (∀ s : State, s.mode = mPatrol → ∃ t : State, exec .vauxFall s = .next t ∧ t.mode = (if s.flag .X_VBAT then mKeep else mOff) ∧ t.flag .X_VAUX = false)
    ∧ (∀ s : State, s.mode = mKeep → s.flag .X_VAUX = false → ∃ t : State, exec .vbatFall s = .next t ∧ t.mode = mOff ∧ t.flash = s.flash)
    ∧ (∀ s : State, s.mode ≠ mKeep ∨ s.flag .X_VAUX = true → exec .vbatFall s = .next (s.putFlag .X_VBAT false))
    ∧ (∀ s : State, s.mode = mPatrol → s.flag .X_VAUX = true → s.flag .X_MAIN_EN = false → s.get .X_KEEP_CAUSE ≠ 3 → s.get .X_KEEP_CAUSE ≠ 4 →
      exec .mainEnAssert s = .next ((s.putFlag .X_MAIN_EN true).emit (.pin "MAIN_EN" true)))
    ∧ (∀ s : State, s.mode ≠ mPatrol ∨ s.flag .X_VAUX = false ∨ s.get .X_KEEP_CAUSE = 3 ∨ s.get .X_KEEP_CAUSE = 4 → exec .mainEnAssert s = .next s)
    ∧ (∀ (s : State) l, s.mode ≠ mPatrol → exec (.patrolRound l) s = .next s)
    ∧ (∀ (s : State) l, s.mode = mPatrol → ∃ t : State, exec (.patrolRound l) s = .next t ∧ t.mode = mPatrol
      ∧ t.get .PM_PATROL_STS_ROUNDS = min (s.get .PM_PATROL_STS_ROUNDS + 1) 0xFFFE
      ∧ ((∀ n ∈ patrolChannels, bit (s.get .X_PAT_MASK) n = true → ∀ v, l.getD n none = some v →
          ofField 16 (s.get .X_PAT_LO n) ≤ v ∧ v ≤ ofField 16 (s.get .X_PAT_HI n)) →
        t.get .PM_PATROL_STS_VIOLATIONS = s.get .PM_PATROL_STS_VIOLATIONS ∧ t.out = s.out))
    ∧ (∀ (s : State) n v, v < ofField 16 (s.get .X_PAT_LO n) ∨ ofField 16 (s.get .X_PAT_HI n) < v →
      (s.patrolSample n v).get .PM_PATROL_STS_VIOLATIONS = min (s.get .PM_PATROL_STS_VIOLATIONS + 1) 0xFE)

/-- PFAIL_N and a brown-out enter Hold-up from a powered mode after first ready, with their trigger, a count and no command left;
in Hold-up or without main rails they change nothing else. While the flush runs the energy check programs the granules it is given
and ends the step early when the energy left is too small; FLUSH_END waits for a program in progress; it notes outcome (complete,
short, or no store), trigger and duration, a SHUTDOWN journals a CHECKPOINT, a short flush is owed its fault, and then Hold-up
ends. The pre-charge ends in a due test or in FAULT 1; CHARGING ends at the target, or in FAULT 4; a top-up, an overvoltage (FAULT
5), TEST_NOW and the interval act as stated. A test starts once the dirty buffer fits the allowance; its end gives C_MEAS, ESR and
V_TARGET, a repeat at a quarter of the current, or FAULT 2 or 1. A ceiling in range is stored. MAIN_PG qualified in Patrol with
good rails leads to Ready with a cold cause; with bad ones MAIN_EN falls. STARTUP runs the first slot with a good copy to PHASE 9,
else the recovery image at PHASE 3. -/
def Obligations.HoldUpChargesTestsFlushesAndRestarts : Prop :=
  (∀ (s : State) r, s.powered = true → s.mode ≠ mHoldup → s.flag .X_READY = true →
      (∃ t : State, exec .pfailN s = .next t ∧ t.mode = mHoldup ∧ t.get .X_HU_TRIG = 1 ∧ t.flag .X_PFAIL = true ∧ t.flag .X_FLUSH = true
        ∧ t.get .HU_CNT_HOLDUP = min (s.get .HU_CNT_HOLDUP + 1) 0x7FFFFFFFFFFFFFFF ∧ t.cmds = [] ∧ t.grants = [])
      ∧ ∃ t : State, exec (.supplyBrownout r) s = .next t ∧ t.mode = mHoldup ∧ t.get .X_HU_TRIG = 2 ∧ t.flag .X_FLUSH = true ∧ t.cmds = [])
    ∧ (∀ (s : State) r, s.powered = false ∨ s.mode = mHoldup → exec .pfailN s = .next (s.putFlag .X_PFAIL true) ∧ exec (.supplyBrownout r) s = .next s)
    ∧ (∀ s : State, exec .pfailNDeassert s = .next (s.putFlag .X_PFAIL false) ∧ exec .mainPgDeassert s = .next (s.putFlag .X_MAIN_PG false))
    ∧ (∀ (s : State) n x e, s.mode ≠ mHoldup ∨ s.flag .X_FLUSH = false → exec (.flushEnergyCheck n x e) s = .next s ∧ exec (.flushEnd n) s = .next s)
    ∧ (∀ (s : State) n x e, s.mode = mHoldup → s.flag .X_FLUSH = true → s.flag .X_FLUSH_SHORT = false → s.noStore = false → s.flag .X_BROWNOUT = false →
      exec (.flushEnergyCheck n x e) s = .next (if e * 1000000000 < ((s.flushSome n).get .HU_ALLOW_CFG_E_FIXED - x) * 1000000000
          + (s.flushSome n).get .HU_ALLOW_CFG_E_BYTE * (s.flushSome n).get .HU_DIRTY then (s.flushSome n).putFlag .X_FLUSH_SHORT true else s.flushSome n))
    ∧ (∀ (s : State) n, s.programming = true → exec (.flushEnd n) s = .next s)
    ∧ (∀ (s u v : State) b n, s.mode = mHoldup → s.flag .X_FLUSH = true → s.programming = false → s.finishFlush false = (b, u) →
      v = (((if s.get .X_HU_TRIG = 4 then u.checkpointAll.sealAndWrite else u).put .HU_LAST_OUTCOME (if s.noStore then 3 else if b then 2 else 1)).put
        .HU_LAST_TRIGGER (s.get .X_HU_TRIG)).put .HU_LAST_DURATION (min n 0xFFFFFE) →
      (s.noStore = true ∨ b = false → exec (.flushEnd n) s = .next (v.afterHoldup (s.get .X_HU_TRIG)))
      ∧ (s.noStore = false → b = true → exec (.flushEnd n) s = .next ((v.putFlag .X_SHORT_OWED true).afterHoldup (s.get .X_HU_TRIG))))
    ∧ (∀ (s : State) v, s.hu = huPrecharge → s.flag .X_HU_PREOK = false →
      (v < 1200 → ∃ t : State, exec (.prechargeCeiling v) s = .next t ∧ t.hu = huFault ∧ t.get .HU_STS_FAULT = 1)
      ∧ (1200 ≤ v → s.flag .HU_CTL_PRESENT = true → exec (.prechargeCeiling v) s = exec (.chargeTargetReached v) s
        ∧ ∃ t : State, exec (.prechargeCeiling v) s = .next t ∧ t.hu = huPrecharge ∧ t.flag .X_HU_PREOK = true ∧ t.flag .X_HU_DUE = true))
    ∧ (∀ (s : State) v, s.hu ≠ huPrecharge ∨ s.flag .X_HU_PREOK = true → exec (.prechargeCeiling v) s = .next s)
    ∧ (∀ (s : State) v, s.hu = huCharging →
      (10 * s.get .HU_MEAS2_V_TARGET ≤ v → ∃ t : State, exec (.chargeTargetReached v) s = .next t ∧ t.hu = huReady ∧ t.get .HU_MEAS0_V_BANK = v % 65536)
      ∧ (v < 10 * s.get .HU_MEAS2_V_TARGET → exec (.chargeTargetReached v) s = .next s)
      ∧ ∃ t : State, exec .chargeTimeout s = .next t ∧ t.hu = huFault ∧ t.get .HU_STS_FAULT = 4)
    ∧ (∀ s : State, s.hu ≠ huCharging → exec .chargeTimeout s = .next s)
    ∧ (∀ (s : State) v, s.hu = huReady → v + 20 ≤ 10 * s.get .HU_MEAS2_V_TARGET → ∃ t : State, exec (.chargerTopUp v) s = .next t
      ∧ t.hu = (if s.chargeOk 0 then huCharging else huPaused))
    ∧ (∀ (s : State) v, s.hu ≠ huReady ∨ 10 * s.get .HU_MEAS2_V_TARGET < v + 20 → exec (.chargerTopUp v) s = .next s)
    ∧ (∀ (s : State) v, s.hu ≠ huDisabled → s.hu ≠ huFault → 10 * s.get .HU_CHG_CFG_V_MAX + 100 < v → ∃ t : State, exec (.bankOvervolt v) s = .next t
      ∧ t.hu = huFault ∧ t.get .HU_STS_FAULT = 5)
    ∧ (∀ (s : State) v, s.hu = huDisabled ∨ v ≤ 10 * s.get .HU_CHG_CFG_V_MAX + 100 → exec (.bankOvervolt v) s = .next s)
    ∧ (∀ (s : State) c, s.unitPower uHousekeeping = 0 → s.flag .HU_CTL_PRESENT = true → s.mayWrite (.core c) .ownerMpWd = true →
      exec (.testNow (.core c)) s = .next ((s.putFlag .HU_CTL_TEST_NOW true).putFlag .X_HU_DUE true)
      ∧ exec .testIntervalDue s = .next (s.putFlag .X_HU_DUE true))
    ∧ (∀ s : State, s.flag .X_HU_DUE = false ∨ s.powered = false ∨ s.mode = mHoldup ∨ s.atTarget = false → exec .capacitanceTestStart s = .next s)
    ∧ (∀ (s u : State), s.flag .X_HU_DUE = true → s.powered = true → s.mode ≠ mHoldup → s.atTarget = true →
      u = (s.putFlag .X_HU_TESTV true).updateAllow → (u.get .HU_ALLOW < u.get .HU_DIRTY → exec .capacitanceTestStart s = .next u.planExcess)
      ∧ (u.get .HU_DIRTY ≤ u.get .HU_ALLOW → ∃ t : State, exec .capacitanceTestStart s = .next t ∧ t.hu = huTesting ∧ t.get .HU_ALLOW = u.get .HU_ALLOW))
    ∧ (∀ (s : State) d m, s.hu ≠ huTesting → exec (.capacitanceTestEnd d m) s = .next s)
    ∧ (∀ (s : State) d m i, s.hu = huTesting → i = s.get .HU_TEST_CFG_I_TEST / (if s.flag .X_HU_QTR then 4 else 1) →
      (d < 10000 → s.flag .X_HU_QTR = false → exec (.capacitanceTestEnd d m) s = .next (s.putFlag .X_HU_QTR true))
      ∧ (d < 10000 → s.flag .X_HU_QTR = true → ∃ t : State, exec (.capacitanceTestEnd d m) s = .next t ∧ t.hu = huFault ∧ t.get .HU_STS_FAULT = 2)
      ∧ (1000000 < d → ∃ t : State, exec (.capacitanceTestEnd d m) s = .next t ∧ t.hu = huFault ∧ t.get .HU_STS_FAULT = 1
        ∧ t.get .HU_CNT_TESTS = min (s.get .HU_CNT_TESTS + 1) 0x7FFFFFFFFFFFFFFF)
      ∧ (10000 ≤ d → d ≤ 1000000 → 120 ≤ s.targetFor (i * d / 2000) →
        s.vFloor (min 4094 (m * 1000 / i)) < (s.targetFor (i * d / 2000) - 20) * 100000 → ∃ t : State, exec (.capacitanceTestEnd d m) s = .next t
        ∧ t.get .HU_MEAS1_C_MEAS = min (i * d / 2000) 0xFFFFF ∧ t.get .HU_MEAS1_ESR = min 4094 (m * 1000 / i)
        ∧ t.get .HU_MEAS2_V_TARGET = s.targetFor (i * d / 2000) % 512 ∧ t.get .HU_STS_FAULT = 0
        ∧ t.hu = (if s.chargeOk 0 then huCharging else huPaused)))
    ∧ (∀ (s : State) c v, s.unitPower uHousekeeping = 0 → s.mayWrite (.core c) .ownerMpWd = true → s.lockedFor (.core c) .HU_E_CEIL_CEIL = false → v < 65536 →
      (1000 ≤ v → v ≤ s.get .HU_E_CEIL_FUSE_MAX → ∃ t : State, exec (.huECeilWrite (.core c) v) s = .next t ∧ t.get .HU_E_CEIL_CEIL = v)
      ∧ (v < 1000 ∨ s.get .HU_E_CEIL_FUSE_MAX < v → exec (.huECeilWrite (.core c) v) s = .next s))
    ∧ (∀ (s : State) l ms, s.mode ≠ mPatrol → exec (.mainPgQualified l ms) s = .next (s.putFlag .X_MAIN_PG true))
    ∧ (∀ (s : State) l ms, s.mode = mPatrol → s.flag .X_THERM_LOCK = false → badRails l = [] → ∃ t : State, exec (.mainPgQualified l ms) s = .next t
      ∧ t.mode = mReady ∧ t.get .CHP_RST_CAUSE_LEVEL = 2 ∧ t.get .CHP_RST_CAUSE_SOURCE = (if s.get .X_KEEP_CAUSE = 3 then 8 else 1)
      ∧ t.flag .X_MAIN_EN = true ∧ t.flag .X_MAIN_PG = true)
    ∧ (∀ (s : State) l ms, s.mode = mPatrol → s.flag .X_THERM_LOCK = false → badRails l ≠ [] → ∃ t : State, exec (.mainPgQualified l ms) s = .next t
      ∧ t.mode = mPatrol ∧ t.flag .X_MAIN_EN = false)
    ∧ (∀ (s : State) b, s.powered = false ∨ s.mode = mHoldup ∨ s.flag .X_READY = true ∨ s.get .X_CHIPRST ≠ 0 ∨ s.flag .X_BOOT_HALT = true →
      exec (.startup b) s = .next s)
    ∧ (∀ (s : State) b, s.powered = true → s.mode ≠ mHoldup → s.flag .X_READY = false → s.get .X_CHIPRST = 0 → s.flag .X_BOOT_HALT = false →
      s.get .CHP_RST_CAUSE_LEVEL ≠ 0 → s.fwSlots ≠ [] →
      (∀ k c, b.recoveryN = false → b.slotOf s.bootKeep.bootOrder = some (k, c) → ∃ t : State, exec (.startup b) s = .next t ∧ t.flag .X_READY = true
        ∧ t.get .CHP_BOOT_STS_PHASE = 9 ∧ t.get .CHP_BOOT_STS_SLOT = k % 16 ∧ t.get .CHP_BOOT_STS_SOURCE = (c + 1) % 16
        ∧ t.get .CHP_BOOT_STS_RESULT = (if s.bootKeep.bootOrder.head? = some k then 0 else 1))
      ∧ (b.recoveryN = true → b.recoveryOk = true → exec (.startup b) s = .next (s.bootKeep.bootStatus 0 4 0 3 2))
      ∧ (b.recoveryN = true → b.recoveryOk = false → exec (.startup b) s = .next s.bootKeep.bootHalt))

/-- A round of a powered chip is counted; a channel that converts holds the value, VALID and AGE 0; it ends in thermal shut-down
where the junction is at the threshold. THERMAL_SHUT_DOWN sets SHUT_SEEN and enters Hold-up with trigger 3. With the block ON and
nothing locked, HK_TJ_THR and HK_WWIN are written when the values are in range and ordered, else ignored. The calendar's trim step
adds twice TRIM in a powered mode, and the 2^20 cycles too where no tick runs; an invalid calendar does not count. A stopped
crystal clears VALID and the trust. CAL_SET loads the even part of the value when the writer is the Warden or the time is not
trusted, else it sets SET_REFUSED. An alarm that is due is latched and disarmed, and raised, or asserts MAIN_EN in Patrol; arming
one that is not in the future leaves it disarmed. A read of CAL_BCD0 latches CAL_BCD1 and answers the BCD time. -/
def Obligations.RoundsThresholdsAndTheCalendar : Prop :=
  (∀ (s : State) l a, s.powered = false → exec (.housekeepingRound l a) s = .next s)
    ∧ (∀ (s : State) l a, s.powered = true → ∃ u : State, u.get .HK_ROUND = min (s.get .HK_ROUND + 1) 0x7FFFFFFFFFFFFFFF
      ∧ (∀ n v, n < 48 → (16 ≤ n → n < 24 → s.flag .HK_RD_CFG_EN (n - 16) = true) → l.getD n none = some v →
        u.get .HK_VAL_VALUE n = toField 16 v % 65536 ∧ u.flag .HK_VAL_VALID n = true ∧ u.get .HK_VAL_AGE n = 0)
      ∧ exec (.housekeepingRound l a) s
        = .next (if ((16 * u.get .HK_TJ_THR_SHUT : Nat) : Int) ≤ u.junction.1 then u.thermalShut u.junction.2 else u))
    ∧ (∀ (s : State) n, s.powered = false → exec (.thermalShutDown n) s = .next s)
    ∧ (∀ (s : State) n, s.powered = true → s.mode ≠ mHoldup → s.flag .X_READY = true → ∃ t : State, exec (.thermalShutDown n) s = .next t
      ∧ t.mode = mHoldup ∧ t.get .X_HU_TRIG = 3 ∧ t.flag .HK_STS_SHUT_SEEN = true ∧ t.cmds = [])
    ∧ (∀ (s : State) c v, s.unitPower uHousekeeping = 0 → s.locks = [] → s.mayWrite (.core c) .ownerMpWd = true →
      (1 ≤ bits v 27 24 → 130 ≤ bits v 23 16 → bits v 23 16 ≤ 150 → 100 ≤ bits v 15 8 → bits v 15 8 ≤ 149 → 85 ≤ bits v 7 0 →
        bits v 7 0 < bits v 15 8 → bits v 15 8 < bits v 23 16 → exec (.hkTjThrWrite (.core c) v) s = .next (s.writeRw (.core c) .HK_TJ_THR v))
      ∧ (bits v 15 8 ≤ bits v 7 0 ∨ bits v 23 16 ≤ bits v 15 8 ∨ bits v 23 16 < 130 ∨ 150 < bits v 23 16 ∨ bits v 27 24 = 0 →
        exec (.hkTjThrWrite (.core c) v) s = .next s)
      ∧ (ofField 8 (s.get .HK_WWIN_FUSE_LO) ≤ ofField 8 (bits v 7 0) → ofField 8 (bits v 15 8) ≤ ofField 8 (s.get .HK_WWIN_FUSE_HI) →
        ofField 8 (bits v 7 0) + 10 ≤ ofField 8 (bits v 15 8) →
        exec (.hkWwinWrite (.core c) v) s = .next (s.writeRw (.core c) .HK_WWIN v).updateAllow)
      ∧ (ofField 8 (bits v 15 8) < ofField 8 (bits v 7 0) + 10 → exec (.hkWwinWrite (.core c) v) s = .next s))
    ∧ (∀ s : State, s.mode = mOff → exec .calTrimStep s = .next s ∧ exec .calOscStop s = .next s)
    ∧ (∀ s : State, s.flag .CAL_STS_VALID = false → exec .calTrimStep s = .next s)
    ∧ (∀ s : State, s.flag .CAL_STS_VALID = true → s.powered = true →
      exec .calTrimStep s = .next (s.put .CAL_TIME ((s.get .CAL_TIME : Int) + 2 * s.trim).toNat))
    ∧ (∀ s : State, s.flag .CAL_STS_VALID = true → s.powered = false → s.mode ≠ mOff →
      exec .calTrimStep s = .next (s.put .CAL_TIME ((s.get .CAL_TIME : Int) + 2 * (1048576 + s.trim)).toNat))
    ∧ (∀ s : State, s.mode ≠ mOff → ∃ t : State, exec .calOscStop s = .next t ∧ t.flag .CAL_STS_VALID = false ∧ t.flag .CAL_STS_OSC_STOP = true
      ∧ (s.powered = true → t.flag .SEC_STS_TIME_TRUSTED = false))
    ∧ (∀ (s : State) c, s.unitPower uHousekeeping = 0 → s.mayWrite (.core c) .ownerMpWd = true →
      ((Agent.core c).isWd = true ∨ s.flag .SEC_STS_TIME_TRUSTED = false → ∃ t : State, exec (.calSet (.core c)) s = .next t
        ∧ t.get .CAL_TIME = s.get .CAL_SET / 2 * 2 % 2 ^ 64 ∧ t.flag .CAL_STS_VALID = true ∧ t.flag .CAL_STS_OSC_STOP = false
        ∧ t.flag .CAL_STS_WARDEN_SET = (Agent.core c).isWd)
      ∧ ((Agent.core c).isWd = false → s.flag .SEC_STS_TIME_TRUSTED = true → exec (.calSet (.core c)) s = .next (s.putFlag .CAL_STS_SET_REFUSED true)))
    ∧ (∀ (s : State) k, 2 ≤ k ∨ s.mode = mOff ∨ s.flag .CAL_STS_VALID = false ∨ s.flag (almEn k) = false ∨ s.calSec < s.almSec k →
      exec (.calAlarm k) s = .next s)
    ∧ (∀ (s : State) k, k < 2 → s.flag .CAL_STS_VALID = true → s.flag (almEn k) = true → s.almSec k ≤ s.calSec →
      (s.powered = true → exec (.calAlarm k) s = .next (((s.putFlag (almSts k) true).putFlag (almEn k) false).raise 124 uHousekeeping k))
      ∧ (s.mode = mPatrol → s.flag (almWake k) = true → exec (.calAlarm k) s
        = .next (((s.putFlag (almSts k) true).putFlag (almEn k) false).setMainEn true))
      ∧ (s.mode = mKeep → exec (.calAlarm k) s = .next ((s.putFlag (almSts k) true).putFlag (almEn k) false)))
    ∧ (∀ (s : State) c k, s.unitPower uHousekeeping = 0 → s.mayWrite (.core c) .ownerMpWd = true → k < 2 → ∃ t : State, exec (.calAlarmArm (.core c) k) s = .next t
      ∧ t.flag (almEn k) = decide (s.calSec < s.almSec k) ∧ t.out = s.out ∧ t.cmds = s.cmds)
    ∧ (∀ (s : State) ag, s.unitPower uHousekeeping = 0 → ∃ t : State, exec (.calBcd0Read ag) s = .next t ∧ t.out = s.out ++ [.readData ag 0x38020 4 s.bcd0]
      ∧ t.get .CAL_BCD1_YEAR = s.bcd1 / 65536 % 65536 ∧ t.get .CAL_BCD1_MONTH = s.bcd1 / 256 % 32 ∧ t.get .CAL_BCD1_DAY = s.bcd1 % 64)

/-- A window closes W ticks after it opened, a level source still present opens a new one. With the block ON: a write of ones to
FC_STICKY clears the named sources but for level sources still present, one to FC_UNACK acknowledges them, others keep theirs.
FC_SRC_CFG with N of 0 or an undefined reaction, and FC_SRC_WIN of 0 or all ones, are ignored (nothing being locked), as is a
write for a reserved source; other values are stored. FREEZE follows the write, its timeout clears it and sets FREEZE_TIMEOUT. A
clear empties the bins and ER_LOST and takes the tick, or waits while an agent holds FREEZE. Histogram registers of a used
histogram are stored and its bins emptied. SET_FIELD changes the register named when it has lockable fields and answers OK, else
LIMIT, and leaves the locks. -/
def Obligations.FaultSourcesRecorderAndLockedFields : Prop :=
  (∀ (s : State) n, s.get .FC_SRC_WCNT_WCNT n = 0 ∨ s.tick < s.get .FC_SRC_WSTART n + s.get .FC_SRC_WIN_W n → exec (.faultWindowClose n) s = .next s)
    ∧ (∀ (s : State) n, s.get .FC_SRC_WCNT_WCNT n ≠ 0 → s.get .FC_SRC_WSTART n + s.get .FC_SRC_WIN_W n ≤ s.tick →
      exec (.faultWindowClose n) s = .next (if (srcRow n).level && s.flag .X_SRC_PRESENT n then
        (s.closeWindow n).event n (s.get .X_SRC_UNIT n) (s.get .X_SRC_VALUE n) else s.closeWindow n))
    ∧ (∀ (s : State) c g v, s.unitPower uChip = 0 → s.mayWrite (.core c) .ownerMpWd = true → (∃ t : State, exec (.fcStickyClear (.core c) g v) s = .next t
        ∧ (∀ n, t.flag .FC_SRC_STATE_STICKY n = (s.flag .FC_SRC_STATE_STICKY n
          && !((groupSources g v).contains n && !((srcRow n).level && s.flag .X_SRC_PRESENT n))))
        ∧ t.out = s.out ∧ t.cmds = s.cmds)
      ∧ ∃ t : State, exec (.fcUnackClear (.core c) g v) s = .next t ∧ t.cmds = s.cmds
        ∧ (∀ n, t.flag .FC_SRC_STATE_UNACK n = (s.flag .FC_SRC_STATE_UNACK n && !(groupSources g v).contains n))
        ∧ t.flag .FC_STS_ERR_N = (List.range 320).any fun x => t.flag .FC_SRC_STATE_UNACK x && t.flag .FC_SRC_CFG_ERR_EN x)
    ∧ (∀ (s : State) c v, s.unitPower uChip = 0 → s.mayWrite (.core c) .ownerMpWd = true →
      (∀ w, srcReserved (s.selSource (.core c)) = true → exec (.fcSrcCfgWrite (.core c) w v) s = .next s)
      ∧ (s.locks = [] → 4 < bits v 10 8 ∨ bits v 7 0 = 0 → exec (.fcSrcCfgWrite (.core c) false v) s = .next s)
      ∧ (srcReserved (s.selSource (.core c)) = false → bits v 10 8 ≤ 4 → bits v 7 0 ≠ 0 → s.locks = [] →
        ∃ t : State, exec (.fcSrcCfgWrite (.core c) false v) s = .next t ∧ t.get .FC_SRC_CFG_N (s.selSource (.core c)) = bits v 7 0
          ∧ t.get .FC_SRC_CFG_REACT (s.selSource (.core c)) = bits v 10 8)
      ∧ (s.locks = [] → v % 2 ^ 32 = 0 ∨ v % 2 ^ 32 = 0xFFFFFFFF → exec (.fcSrcCfgWrite (.core c) true v) s = .next s)
      ∧ (srcReserved (s.selSource (.core c)) = false → v % 2 ^ 32 ≠ 0 → v % 2 ^ 32 ≠ 0xFFFFFFFF → s.locks = [] →
        ∃ t : State, exec (.fcSrcCfgWrite (.core c) true v) s = .next t ∧ t.get .FC_SRC_WIN_W (s.selSource (.core c)) = v % 2 ^ 32
          ∧ t.out = s.out))
    ∧ (∀ (s : State) c b, s.unitPower uChip = 0 → s.mayWrite (.core c) .ownerMpWd = true → exec (.erFreezeWrite (.core c) b) s = .next (s.putFlag .ER_FREEZE_FREEZE b 0 c))
    ∧ (∀ (s : State) ag, exec (.freezeTimeout ag) s = .next (if s.flag .ER_FREEZE_FREEZE 0 ag.ix then
        (s.putFlag .ER_FREEZE_FREEZE false 0 ag.ix).putFlag .ER_STS_FREEZE_TIMEOUT true else s))
    ∧ (∀ (s : State) c, s.unitPower uChip = 0 → s.mayWrite (.core c) .ownerWd = true → s.frozen = true →
      exec (.recorderClear (.core c)) s = .next ((s.putFlag .ER_STS_CLEAR_PENDING true).putFlag .ER_CTL_CLEAR true))
    ∧ (∀ (s : State) c, s.unitPower uChip = 0 → s.mayWrite (.core c) .ownerWd = true → s.frozen = false → ∃ t : State, exec (.recorderClear (.core c)) s = .next t
      ∧ t.get .ER_CLEARED = s.tick % 2 ^ 64 ∧ t.get .ER_LOST = 0 ∧ (∀ i, t.get .X_HIST_BIN i = 0) ∧ t.flag .ER_STS_CLEAR_PENDING = false ∧ t.out = s.out)
    ∧ (∀ (s : State) c, s.unitPower uChip = 0 → s.mayWrite (.core c) .ownerWd = true → s.flag .ER_STS_CLEAR_PENDING = true → s.frozen = false →
      exec .recorderClearPending s = exec (.recorderClear (.core c)) s)
    ∧ (∀ s : State, s.flag .ER_STS_CLEAR_PENDING = false ∨ s.frozen = true → exec .recorderClearPending s = .next s)
    ∧ (∀ (s : State) c r v, s.unitPower uChip = 0 → s.mayWrite (.core c) .ownerMpWd = true → 50 ≤ s.get .ER_HSEL_ID 0 c ∨ 3 ≤ r → exec (.histogramConfigWrite (.core c) r v) s = .next s)
    ∧ (∀ (s : State) c v, s.unitPower uChip = 0 → s.mayWrite (.core c) .ownerMpWd = true → s.get .ER_HSEL_ID 0 c < 50 → ∃ t : State,
      exec (.histogramConfigWrite (.core c) 1 v) s = .next t ∧ t.get .ER_HLOWER_LOWER (s.get .ER_HSEL_ID 0 c) = v % 2 ^ 32
        ∧ ∀ i, t.get .X_HIST_BIN i = (if i / 32 = s.get .ER_HSEL_ID 0 c then 0 else s.get .X_HIST_BIN i))
    ∧ (∀ (s : State) q, ∃ t : State, exec (.setField q) s = .next t ∧ t.locks = s.locks)
    ∧ (∀ (s : State) q, s.mbxDue q = false ∨ fieldAt q 0 1 ≠ 0x0A → exec (.setField q) s = .next s)
    ∧ (∀ (s : State) q r, s.mbxDue q = true → fieldAt q 0 1 = 0x0A → s.mbxVerdict q 0x0A true = some r → exec (.setField q) s = .next (s.answerMbx 0x0A r))
    ∧ (∀ (s : State) q, s.mbxDue q = true → fieldAt q 0 1 = 0x0A → s.mbxVerdict q 0x0A true = none →
      (fieldAt q 16 4 % 4 ≠ 0 ∨ locate (fieldAt q 16 4) = none → exec (.setField q) s = .next (s.answerMbx 0x0A mbLimit))
      ∧ (∀ l, fieldAt q 16 4 % 4 = 0 → locate (fieldAt q 16 4) = some l → l.reg.desc.fields.any (fun x => x.lk) = true →
        exec (.setField q) s = .next ((s.setField l (fieldAt q 20 4) (fieldAt q 24 4)).answerMbx 0x0A mbOk)))

/-- By an agent that may write, with the field unlocked and ENABLE at 1: while MC_PIN_COUNT shows a pin, a write of 0 that reaches
the block (it is not OFF) sets MC_STS.DISABLE_REFUSED, ENABLE stays 1 and no drain starts; with the block ON no other field
changes. Where the write takes ENABLE to 0, MC_PIN_COUNT read 0. -/
def Obligations.ADisableIsRefusedWhilePinsAreHeld : Prop :=
  ∀ (s : State) ag, s.mayWrite ag .ownerMp = true → s.lockedFor ag .MC_CTL_ENABLE = false → s.flag .MC_CTL_ENABLE = true →
    (s.mcView ag .MC_PIN_COUNT 0 0 ≠ 0 → s.unitPower uMap ≠ 3 → ∃ t : State, exec (.mapCacheDisable ag) s = .next t
      ∧ t.flag .MC_CTL_ENABLE = true ∧ t.flag .MC_STS_DISABLE_REFUSED = true ∧ t.get .MC_STS_DRAINING = s.get .MC_STS_DRAINING ∧ t.lines = s.lines ∧ t.pins = s.pins
      ∧ (s.unitPower uMap = 0 → (∀ f i a, f ≠ .MC_STS_DISABLE_REFUSED → t.get f i a = s.get f i a) ∧ t.out = s.out))
    ∧ (∀ t : State, exec (.mapCacheDisable ag) s = .next t → t.flag .MC_CTL_ENABLE = false → s.mcView ag .MC_PIN_COUNT 0 0 = 0)

/-- For every tick of intake and every 32-bit DEADLINE that some tick less than 2^31 away matches, the tick the model takes is
that one and no other tick is: it is DEADLINE modulo 2^32, and less than 2^31 away. A READ that passes its checks is admitted with
this tick, counted from TK_COUNT at its intake, which a packet taken in keeps. (Where DEADLINE lies exactly 2^31 ticks away R194
names none, and nothing is stated.) -/
def Obligations.DeadlinesNameTheNearestTick : Prop :=
  (∀ (now v : Nat) (t : Int), v < 2 ^ 32 → t % 2 ^ 32 = v → t - now < 2 ^ 31 → now - t < 2 ^ 31 → absTick now v = t)
    ∧ (∀ (now v : Nat), v < 2 ^ 32 → (v + 2 ^ 31) % 2 ^ 32 ≠ now % 2 ^ 32 →
      absTick now v % 2 ^ 32 = v ∧ absTick now v - now < 2 ^ 31 ∧ now - absTick now v < 2 ^ 31)
    ∧ (∀ (s : State) n c, s.packet n 0x01 = some c → s.flag .JQ_STS_SANITIZING = false → c.readFieldsOk = true →
      s.rangeVerdict c c.pNode c.pLba c.pLen rightRead = none → c.unpacks = false → ∃ d : Cmd, d.id = c.id ∧ d.tick = c.tick
        ∧ d.deadline = absTick c.tick c.pDeadline ∧ exec (.read n) s = .next (s.admitRead d))
    ∧ (∀ (s : State) q, s.intakeHeld q = false → s.intakeTurn q = true → s.slotReady q (s.headSlot q) = true →
      fieldAt (s.slotBytes q (s.headSlot q)) 4 2 = s.get .X_JQ_S q % 65536 →
      (s.cmds.find? fun c => !c.nvme && c.q = q && decide (0 < c.contLeft)) = none → s.replyRoom q = true →
      s.tagUsed q (fieldAt (s.slotBytes q (s.headSlot q)) 2 2) = false → opcodeKnown (fieldAt (s.slotBytes q (s.headSlot q)) 0 1) = true → ∃ t c,
      exec (.packetIntake q) s = .next t ∧ t.cmds = s.cmds ++ [c] ∧ c.tick = s.get .TK_COUNT ∧ c.pDeadline = fieldAt (s.slotBytes q (s.headSlot q)) 28 4)

end
end

