-- ==== Sys2Proof/Laws/Exec.lean ====
section
/-! SUPPORT. What `exec` does with each command: the meaning of its name. -/

namespace Sys2Proof.Machine

variable {s : State}

@[simp] theorem exec_registerWrite {ag off width value} : exec (.registerWrite ag off width value) s = execRegisterWrite ag off width value s := rfl
@[simp] theorem exec_lowerHalfRead {ag off} : exec (.lowerHalfRead ag off) s = execLowerHalfRead ag off s := rfl
@[simp] theorem exec_upperHalfRead {ag off} : exec (.upperHalfRead ag off) s = execUpperHalfRead ag off s := rfl
@[simp] theorem exec_ucbFaultClear {ag win value} : exec (.ucbFaultClear ag win value) s = execUcbFaultClear ag win value s := rfl
@[simp] theorem exec_unitResetRequest {ag win immediate useTick} : exec (.unitResetRequest ag win immediate useTick) s = execUnitResetRequest ag win immediate useTick s := rfl
@[simp] theorem exec_unitPowerRequest {ag win target useTick} : exec (.unitPowerRequest ag win target useTick) s = execUnitPowerRequest ag win target useTick s := rfl
@[simp] theorem exec_resetStart {win} : exec (.resetStart win) s = execResetStart win s := rfl
@[simp] theorem exec_resetComplete {win chans} : exec (.resetComplete win chans) s = execResetComplete win chans s := rfl
@[simp] theorem exec_requestTimeout {win} : exec (.requestTimeout win) s = execRequestTimeout win s := rfl
@[simp] theorem exec_powerChangeStart {win} : exec (.powerChangeStart win) s = execPowerChangeStart win s := rfl
@[simp] theorem exec_powerChangeComplete {win chans} : exec (.powerChangeComplete win chans) s = execPowerChangeComplete win chans s := rfl
@[simp] theorem exec_wakeOnAccess {ag off width write stallNs} : exec (.wakeOnAccess ag off width write stallNs) s = execWakeOnAccess ag off width write stallNs s := rfl
@[simp] theorem exec_chipWarmResetRequest {ag useTick} : exec (.chipWarmResetRequest ag useTick) s = execChipWarmResetRequest ag useTick s := rfl
@[simp] theorem exec_chipColdResetRequest {ag warm useTick} : exec (.chipColdResetRequest ag warm useTick) s = execChipColdResetRequest ag warm useTick s := rfl
@[simp] theorem exec_chipReset : exec (.chipReset) s = execChipReset s := rfl
@[simp] theorem exec_tickBoundary : exec (.tickBoundary) s = execTickBoundary s := rfl
@[simp] theorem exec_tickOverrun {die} : exec (.tickOverrun die) s = execTickOverrun die s := rfl
@[simp] theorem exec_planSeal {die entries} : exec (.planSeal die entries) s = execPlanSeal die entries s := rfl
@[simp] theorem exec_atTickActions : exec (.atTickActions) s = execAtTickActions s := rfl
@[simp] theorem exec_tickInFrame {edgeNs frame} : exec (.tickInFrame edgeNs frame) s = execTickInFrame edgeNs frame s := rfl
@[simp] theorem exec_ptmExchange {port link ok masterNs} : exec (.ptmExchange port link ok masterNs) s = execPtmExchange port link ok masterNs s := rfl
@[simp] theorem exec_tickLockAcquired : exec (.tickLockAcquired) s = execTickLockAcquired s := rfl
@[simp] theorem exec_tickSourceLost : exec (.tickSourceLost) s = execTickSourceLost s := rfl
@[simp] theorem exec_tkSrcWrite {ag value} : exec (.tkSrcWrite ag value) s = execTkSrcWrite ag value s := rfl
@[simp] theorem exec_tkNextGo {ag period} : exec (.tkNextGo ag period) s = execTkNextGo ag period s := rfl
@[simp] theorem exec_tkCancel {ag tick} : exec (.tkCancel ag tick) s = execTkCancel ag tick s := rfl
@[simp] theorem exec_tkSnapTake {ag} : exec (.tkSnapTake ag) s = execTkSnapTake ag s := rfl
@[simp] theorem exec_plannedEntryStart {die} : exec (.plannedEntryStart die) s = execPlannedEntryStart die s := rfl
@[simp] theorem exec_linkUp {port link speed width flit} : exec (.linkUp port link speed width flit) s = execLinkUp port link speed width flit s := rfl
@[simp] theorem exec_linkDown {port link hostCaused} : exec (.linkDown port link hostCaused) s = execLinkDown port link hostCaused s := rfl
@[simp] theorem exec_perstAssert {port} : exec (.perstAssert port) s = execPerstAssert port s := rfl
@[simp] theorem exec_perstDeassert {port} : exec (.perstDeassert port) s = execPerstDeassert port s := rfl
@[simp] theorem exec_flr {fn} : exec (.flr fn) s = execFlr fn s := rfl
@[simp] theorem exec_vfDisable {fn} : exec (.vfDisable fn) s = execVfDisable fn s := rfl
@[simp] theorem exec_d3hotEntry {fn} : exec (.d3hotEntry fn) s = execD3hotEntry fn s := rfl
@[simp] theorem exec_d3hotToD0Reset {fn} : exec (.d3hotToD0Reset fn) s = execD3hotToD0Reset fn s := rfl
@[simp] theorem exec_busMasterEnableSet {fn} : exec (.busMasterEnableSet fn) s = execBusMasterEnableSet fn s := rfl
@[simp] theorem exec_busMasterEnableClear {fn} : exec (.busMasterEnableClear fn) s = execBusMasterEnableClear fn s := rfl
@[simp] theorem exec_disableComplete {scope} : exec (.disableComplete scope) s = execDisableComplete scope s := rfl
@[simp] theorem exec_disableTimeout {scope} : exec (.disableTimeout scope) s = execDisableTimeout scope s := rfl
@[simp] theorem exec_vfallocWrite {ag pf first count} : exec (.vfallocWrite ag pf first count) s = execVfallocWrite ag pf first count s := rfl
@[simp] theorem exec_heCfgWrite {ag port speed bifur} : exec (.heCfgWrite ag port speed bifur) s = execHeCfgWrite ag port speed bifur s := rfl
@[simp] theorem exec_invalidateRequest {fn addr size tag} : exec (.invalidateRequest fn addr size tag) s = execInvalidateRequest fn addr size tag s := rfl
@[simp] theorem exec_invalidationCompletion {fn tag} : exec (.invalidationCompletion fn tag) s = execInvalidationCompletion fn tag s := rfl
@[simp] theorem exec_translationCompletion {fn addr size result} : exec (.translationCompletion fn addr size result) s = execTranslationCompletion fn addr size result s := rfl
@[simp] theorem exec_dmaReadCompletion {cmd status offset data} : exec (.dmaReadCompletion cmd status offset data) s = execDmaReadCompletion cmd status offset data s := rfl
@[simp] theorem exec_completionTimeout {cmd} : exec (.completionTimeout cmd) s = execCompletionTimeout cmd s := rfl
@[simp] theorem exec_undefinedBarRequest {fn bar off posted} : exec (.undefinedBarRequest fn bar off posted) s = execUndefinedBarRequest fn bar off posted s := rfl
@[simp] theorem exec_l1Entry {port link} : exec (.l1Entry port link) s = execL1Entry port link s := rfl
@[simp] theorem exec_l12Entry {port link} : exec (.l12Entry port link) s = execL12Entry port link s := rfl
@[simp] theorem exec_l0pNarrow {port link width} : exec (.l0pNarrow port link width) s = execL0pNarrow port link width s := rfl
@[simp] theorem exec_l1Exit {port link} : exec (.l1Exit port link) s = execL1Exit port link s := rfl
@[simp] theorem exec_sqTailDoorbell {fn sqid tail} : exec (.sqTailDoorbell fn sqid tail) s = execSqTailDoorbell fn sqid tail s := rfl
@[simp] theorem exec_cqHeadDoorbell {fn cqid head} : exec (.cqHeadDoorbell fn cqid head) s = execCqHeadDoorbell fn cqid head s := rfl
@[simp] theorem exec_commandFetch {fn sqid sqe} : exec (.commandFetch fn sqid sqe) s = execCommandFetch fn sqid sqe s := rfl
@[simp] theorem exec_ccEnSet {fn cc aqa asq acq} : exec (.ccEnSet fn cc aqa asq acq) s = execCcEnSet fn cc aqa asq acq s := rfl
@[simp] theorem exec_ccEnClear {fn} : exec (.ccEnClear fn) s = execCcEnClear fn s := rfl
@[simp] theorem exec_shutdownNotification {fn abrupt} : exec (.shutdownNotification fn abrupt) s = execShutdownNotification fn abrupt s := rfl
@[simp] theorem exec_shutdownComplete {fn} : exec (.shutdownComplete fn) s = execShutdownComplete fn s := rfl
@[simp] theorem exec_createIoSq {cmd} : exec (.createIoSq cmd) s = execCreateIoSq cmd s := rfl
@[simp] theorem exec_createIoCq {cmd} : exec (.createIoCq cmd) s = execCreateIoCq cmd s := rfl
@[simp] theorem exec_deleteIoSq {cmd} : exec (.deleteIoSq cmd) s = execDeleteIoSq cmd s := rfl
@[simp] theorem exec_deleteIoCq {cmd} : exec (.deleteIoCq cmd) s = execDeleteIoCq cmd s := rfl
@[simp] theorem exec_getLogPage {cmd} : exec (.getLogPage cmd) s = execGetLogPage cmd s := rfl
@[simp] theorem exec_getLogEraseCounts {cmd} : exec (.getLogEraseCounts cmd) s = execGetLogEraseCounts cmd s := rfl
@[simp] theorem exec_getLogRecorderExport {cmd} : exec (.getLogRecorderExport cmd) s = execGetLogRecorderExport cmd s := rfl
@[simp] theorem exec_getLogFaultStatus {cmd} : exec (.getLogFaultStatus cmd) s = execGetLogFaultStatus cmd s := rfl
@[simp] theorem exec_identify {cmd} : exec (.identify cmd) s = execIdentify cmd s := rfl
@[simp] theorem exec_nvmeAbort {cmd} : exec (.nvmeAbort cmd) s = execNvmeAbort cmd s := rfl
@[simp] theorem exec_setFeaturesArbitration {cmd} : exec (.setFeaturesArbitration cmd) s = execSetFeaturesArbitration cmd s := rfl
@[simp] theorem exec_setFeaturesPowerManagement {cmd} : exec (.setFeaturesPowerManagement cmd) s = execSetFeaturesPowerManagement cmd s := rfl
@[simp] theorem exec_setFeaturesTemperatureThreshold {cmd} : exec (.setFeaturesTemperatureThreshold cmd) s = execSetFeaturesTemperatureThreshold cmd s := rfl
@[simp] theorem exec_setFeaturesErrorRecovery {cmd} : exec (.setFeaturesErrorRecovery cmd) s = execSetFeaturesErrorRecovery cmd s := rfl
@[simp] theorem exec_setFeaturesNumberOfQueues {cmd} : exec (.setFeaturesNumberOfQueues cmd) s = execSetFeaturesNumberOfQueues cmd s := rfl
@[simp] theorem exec_setFeaturesInterruptConfig {cmd} : exec (.setFeaturesInterruptConfig cmd) s = execSetFeaturesInterruptConfig cmd s := rfl
@[simp] theorem exec_setFeaturesAsyncEventConfig {cmd} : exec (.setFeaturesAsyncEventConfig cmd) s = execSetFeaturesAsyncEventConfig cmd s := rfl
@[simp] theorem exec_setFeaturesTimestamp {cmd} : exec (.setFeaturesTimestamp cmd) s = execSetFeaturesTimestamp cmd s := rfl
@[simp] theorem exec_setFeaturesQueueAttributes {cmd} : exec (.setFeaturesQueueAttributes cmd) s = execSetFeaturesQueueAttributes cmd s := rfl
@[simp] theorem exec_getFeatures {cmd} : exec (.getFeatures cmd) s = execGetFeatures cmd s := rfl
@[simp] theorem exec_getFeaturesTimestamp {cmd} : exec (.getFeaturesTimestamp cmd) s = execGetFeaturesTimestamp cmd s := rfl
@[simp] theorem exec_getFeaturesQueueAttributes {cmd} : exec (.getFeaturesQueueAttributes cmd) s = execGetFeaturesQueueAttributes cmd s := rfl
@[simp] theorem exec_asyncEventRequest {cmd} : exec (.asyncEventRequest cmd) s = execAsyncEventRequest cmd s := rfl
@[simp] theorem exec_namespaceManagementCreate {cmd data} : exec (.namespaceManagementCreate cmd data) s = execNamespaceManagementCreate cmd data s := rfl
@[simp] theorem exec_namespaceManagementDelete {cmd} : exec (.namespaceManagementDelete cmd) s = execNamespaceManagementDelete cmd s := rfl
@[simp] theorem exec_namespaceAttachment {cmd controllers} : exec (.namespaceAttachment cmd controllers) s = execNamespaceAttachment cmd controllers s := rfl
@[simp] theorem exec_firmwareImageDownload {cmd data} : exec (.firmwareImageDownload cmd data) s = execFirmwareImageDownload cmd data s := rfl
@[simp] theorem exec_commitNoActivation {cmd} : exec (.commitNoActivation cmd) s = execCommitNoActivation cmd s := rfl
@[simp] theorem exec_commitActivateAtReset {cmd} : exec (.commitActivateAtReset cmd) s = execCommitActivateAtReset cmd s := rfl
@[simp] theorem exec_activateExistingSlot {cmd} : exec (.activateExistingSlot cmd) s = execActivateExistingSlot cmd s := rfl
@[simp] theorem exec_commitActivateNow {cmd} : exec (.commitActivateNow cmd) s = execCommitActivateNow cmd s := rfl
@[simp] theorem exec_commitActivateAtTick {cmd} : exec (.commitActivateAtTick cmd) s = execCommitActivateAtTick cmd s := rfl
@[simp] theorem exec_formatNvm {cmd} : exec (.formatNvm cmd) s = execFormatNvm cmd s := rfl
@[simp] theorem exec_formatComplete {node} : exec (.formatComplete node) s = execFormatComplete node s := rfl
@[simp] theorem exec_sanitizeBlockErase {cmd} : exec (.sanitizeBlockErase cmd) s = execSanitizeBlockErase cmd s := rfl
@[simp] theorem exec_sanitizeCryptoErase {cmd} : exec (.sanitizeCryptoErase cmd) s = execSanitizeCryptoErase cmd s := rfl
@[simp] theorem exec_sanitizeOverwrite {cmd} : exec (.sanitizeOverwrite cmd) s = execSanitizeOverwrite cmd s := rfl
@[simp] theorem exec_sanitizeExitFailureMode {cmd} : exec (.sanitizeExitFailureMode cmd) s = execSanitizeExitFailureMode cmd s := rfl
@[simp] theorem exec_sanitizeComplete {ok} : exec (.sanitizeComplete ok) s = execSanitizeComplete ok s := rfl
@[simp] theorem exec_nvmeRead {cmd} : exec (.nvmeRead cmd) s = execNvmeRead cmd s := rfl
@[simp] theorem exec_nvmeWrite {cmd} : exec (.nvmeWrite cmd) s = execNvmeWrite cmd s := rfl
@[simp] theorem exec_nvmeFlush {cmd} : exec (.nvmeFlush cmd) s = execNvmeFlush cmd s := rfl
@[simp] theorem exec_nvmeWriteZeroes {cmd} : exec (.nvmeWriteZeroes cmd) s = execNvmeWriteZeroes cmd s := rfl
@[simp] theorem exec_nvmeDatasetManagement {cmd ranges} : exec (.nvmeDatasetManagement cmd ranges) s = execNvmeDatasetManagement cmd ranges s := rfl
@[simp] theorem exec_nvmeVerify {cmd} : exec (.nvmeVerify cmd) s = execNvmeVerify cmd s := rfl
@[simp] theorem exec_miReadDataStructure : exec (.miReadDataStructure) s = execMiReadDataStructure s := rfl
@[simp] theorem exec_miSubsystemHealthPoll : exec (.miSubsystemHealthPoll) s = execMiSubsystemHealthPoll s := rfl
@[simp] theorem exec_miControllerHealthPoll : exec (.miControllerHealthPoll) s = execMiControllerHealthPoll s := rfl
@[simp] theorem exec_miConfigurationGet {id} : exec (.miConfigurationGet id) s = execMiConfigurationGet id s := rfl
@[simp] theorem exec_miConfigurationSet {id value} : exec (.miConfigurationSet id value) s = execMiConfigurationSet id value s := rfl
@[simp] theorem exec_miVpdRead {len} : exec (.miVpdRead len) s = execMiVpdRead len s := rfl
@[simp] theorem exec_miVpdWrite : exec (.miVpdWrite) s = execMiVpdWrite s := rfl
@[simp] theorem exec_miTunneledAdmin {sqe} : exec (.miTunneledAdmin sqe) s = execMiTunneledAdmin sqe s := rfl
@[simp] theorem exec_basicManagementCommand : exec (.basicManagementCommand) s = execBasicManagementCommand s := rfl
@[simp] theorem exec_pushWindowWrite {fn off data poisoned} : exec (.pushWindowWrite fn off data poisoned) s = execPushWindowWrite fn off data poisoned s := rfl
@[simp] theorem exec_packetIntake {q} : exec (.packetIntake q) s = execPacketIntake q s := rfl
@[simp] theorem exec_read {cmd} : exec (.read cmd) s = execRead cmd s := rfl
@[simp] theorem exec_readUnpack {cmd} : exec (.readUnpack cmd) s = execReadUnpack cmd s := rfl
@[simp] theorem exec_write {cmd} : exec (.write cmd) s = execWrite cmd s := rfl
@[simp] theorem exec_writePack {cmd} : exec (.writePack cmd) s = execWritePack cmd s := rfl
@[simp] theorem exec_flushBlock {cmd} : exec (.flushBlock cmd) s = execFlushBlock cmd s := rfl
@[simp] theorem exec_pin {cmd} : exec (.pin cmd) s = execPin cmd s := rfl
@[simp] theorem exec_unpin {cmd} : exec (.unpin cmd) s = execUnpin cmd s := rfl
@[simp] theorem exec_abort {cmd} : exec (.abort cmd) s = execAbort cmd s := rfl
@[simp] theorem exec_fence {cmd} : exec (.fence cmd) s = execFence cmd s := rfl
@[simp] theorem exec_time {cmd} : exec (.time cmd) s = execTime cmd s := rfl
@[simp] theorem exec_gather {cmd} : exec (.gather cmd) s = execGather cmd s := rfl
@[simp] theorem exec_packOnly {cmd} : exec (.packOnly cmd) s = execPackOnly cmd s := rfl
@[simp] theorem exec_dataWindowWrite {fn off data poisoned} : exec (.dataWindowWrite fn off data poisoned) s = execDataWindowWrite fn off data poisoned s := rfl
@[simp] theorem exec_grantIssue {cmd woff} : exec (.grantIssue cmd woff) s = execGrantIssue cmd woff s := rfl
@[simp] theorem exec_grantExpiry {cmd grant} : exec (.grantExpiry cmd grant) s = execGrantExpiry cmd grant s := rfl
@[simp] theorem exec_replyHeadWrite {q value} : exec (.replyHeadWrite q value) s = execReplyHeadWrite q value s := rfl
@[simp] theorem exec_xrHeadWrite {q value} : exec (.xrHeadWrite q value) s = execXrHeadWrite q value s := rfl
@[simp] theorem exec_eventHeadWrite {fn value} : exec (.eventHeadWrite fn value) s = execEventHeadWrite fn value s := rfl
@[simp] theorem exec_lateNotice {cmd} : exec (.lateNotice cmd) s = execLateNotice cmd s := rfl
@[simp] theorem exec_reserveChanged {fn} : exec (.reserveChanged fn) s = execReserveChanged fn s := rfl
@[simp] theorem exec_fenceComplete {cmd} : exec (.fenceComplete cmd) s = execFenceComplete cmd s := rfl
@[simp] theorem exec_pinPreloadComplete {cmd} : exec (.pinPreloadComplete cmd) s = execPinPreloadComplete cmd s := rfl
@[simp] theorem exec_queueEnable {ag q} : exec (.queueEnable ag q) s = execQueueEnable ag q s := rfl
@[simp] theorem exec_queueDisable {ag q} : exec (.queueDisable ag q) s = execQueueDisable ag q s := rfl
@[simp] theorem exec_queueDisabled {q} : exec (.queueDisabled q) s = execQueueDisabled q s := rfl
@[simp] theorem exec_jqFgoldWrite {ag fn slots} : exec (.jqFgoldWrite ag fn slots) s = execJqFgoldWrite ag fn slots s := rfl
@[simp] theorem exec_eventRingEnable {ag fn value} : exec (.eventRingEnable ag fn value) s = execEventRingEnable ag fn value s := rfl
@[simp] theorem exec_createStack {ag} : exec (.createStack ag) s = execCreateStack ag s := rfl
@[simp] theorem exec_setChildren {ag useTick} : exec (.setChildren ag useTick) s = execSetChildren ag useTick s := rfl
@[simp] theorem exec_deleteStack {ag useTick} : exec (.deleteStack ag useTick) s = execDeleteStack ag useTick s := rfl
@[simp] theorem exec_setWritable {ag} : exec (.setWritable ag) s = execSetWritable ag s := rfl
@[simp] theorem exec_clearWritable {ag} : exec (.clearWritable ag) s = execClearWritable ag s := rfl
@[simp] theorem exec_grow {ag} : exec (.grow ag) s = execGrow ag s := rfl
@[simp] theorem exec_nodeDeletionComplete {node} : exec (.nodeDeletionComplete node) s = execNodeDeletionComplete node s := rfl
@[simp] theorem exec_mapMissFill {node l} : exec (.mapMissFill node l) s = execMapMissFill node l s := rfl
@[simp] theorem exec_allocationGiveUp {node l} : exec (.allocationGiveUp node l) s = execAllocationGiveUp node l s := rfl
@[simp] theorem exec_mcInv {ag node} : exec (.mcInv ag node) s = execMcInv ag node s := rfl
@[simp] theorem exec_invalidationSweepDone {node} : exec (.invalidationSweepDone node) s = execInvalidationSweepDone node s := rfl
@[simp] theorem exec_lockedLineRefill {node l} : exec (.lockedLineRefill node l) s = execLockedLineRefill node l s := rfl
@[simp] theorem exec_mapCacheDisable {ag} : exec (.mapCacheDisable ag) s = execMapCacheDisable ag s := rfl
@[simp] theorem exec_mapCacheEnable {ag} : exec (.mapCacheEnable ag) s = execMapCacheEnable ag s := rfl
@[simp] theorem exec_drainComplete : exec (.drainComplete) s = execDrainComplete s := rfl
@[simp] theorem exec_resetInvalidationDone : exec (.resetInvalidationDone) s = execResetInvalidationDone s := rfl
@[simp] theorem exec_mapWriteBack {node page} : exec (.mapWriteBack node page) s = execMapWriteBack node page s := rfl
@[simp] theorem exec_journalPageProgram : exec (.journalPageProgram) s = execJournalPageProgram s := rfl
@[simp] theorem exec_readCall {ag cl slot planned} : exec (.readCall ag cl slot planned) s = execReadCall ag cl slot planned s := rfl
@[simp] theorem exec_readMarginCall {ag cl slot planned} : exec (.readMarginCall ag cl slot planned) s = execReadMarginCall ag cl slot planned s := rfl
@[simp] theorem exec_programCall {ag cl slot planned} : exec (.programCall ag cl slot planned) s = execProgramCall ag cl slot planned s := rfl
@[simp] theorem exec_eraseCall {ag cl slot planned} : exec (.eraseCall ag cl slot planned) s = execEraseCall ag cl slot planned s := rfl
@[simp] theorem exec_suspendCall {ag cl slot planned} : exec (.suspendCall ag cl slot planned) s = execSuspendCall ag cl slot planned s := rfl
@[simp] theorem exec_resumeCall {ag cl slot planned} : exec (.resumeCall ag cl slot planned) s = execResumeCall ag cl slot planned s := rfl
@[simp] theorem exec_statusCall {ag cl slot planned} : exec (.statusCall ag cl slot planned) s = execStatusCall ag cl slot planned s := rfl
@[simp] theorem exec_eraseCountCall {ag cl slot planned} : exec (.eraseCountCall ag cl slot planned) s = execEraseCountCall ag cl slot planned s := rfl
@[simp] theorem exec_featureCall {ag cl slot planned} : exec (.featureCall ag cl slot planned) s = execFeatureCall ag cl slot planned s := rfl
@[simp] theorem exec_retireCall {ag cl slot planned} : exec (.retireCall ag cl slot planned) s = execRetireCall ag cl slot planned s := rfl
@[simp] theorem exec_msCplRead {ag cl k} : exec (.msCplRead ag cl k) s = execMsCplRead ag cl k s := rfl
@[simp] theorem exec_readCallComplete {die units busyNs} : exec (.readCallComplete die units busyNs) s = execReadCallComplete die units busyNs s := rfl
@[simp] theorem exec_readMarginComplete {die counts} : exec (.readMarginComplete die counts) s = execReadMarginComplete die counts s := rfl
@[simp] theorem exec_programCallComplete {die ok busyNs} : exec (.programCallComplete die ok busyNs) s = execProgramCallComplete die ok busyNs s := rfl
@[simp] theorem exec_eraseCallComplete {die ok busyNs} : exec (.eraseCallComplete die ok busyNs) s = execEraseCallComplete die ok busyNs s := rfl
@[simp] theorem exec_suspendComplete {die} : exec (.suspendComplete die) s = execSuspendComplete die s := rfl
@[simp] theorem exec_sealedGateViolation {core ch} : exec (.sealedGateViolation core ch) s = execSealedGateViolation core ch s := rfl
@[simp] theorem exec_sealedTimeout {core} : exec (.sealedTimeout core) s = execSealedTimeout core s := rfl
@[simp] theorem exec_mediaOpTimeout {die} : exec (.mediaOpTimeout die) s = execMediaOpTimeout die s := rfl
@[simp] theorem exec_mediaBrownoutAssert {rail} : exec (.mediaBrownoutAssert rail) s = execMediaBrownoutAssert rail s := rfl
@[simp] theorem exec_mediaBrownoutDeassert : exec (.mediaBrownoutDeassert) s = execMediaBrownoutDeassert s := rfl
@[simp] theorem exec_bandOpen {kind rot dies failed} : exec (.bandOpen kind rot dies failed) s = execBandOpen kind rot dies failed s := rfl
@[simp] theorem exec_gcCopy {place} : exec (.gcCopy place) s = execGcCopy place s := rfl
@[simp] theorem exec_gcCommit {place} : exec (.gcCommit place) s = execGcCommit place s := rfl
@[simp] theorem exec_release {band} : exec (.release band) s = execRelease band s := rfl
@[simp] theorem exec_blockErase {die block mode} : exec (.blockErase die block mode) s = execBlockErase die block mode s := rfl
@[simp] theorem exec_hostWriteAdmission : exec (.hostWriteAdmission) s = execHostWriteAdmission s := rfl
@[simp] theorem exec_staticWearLevelling {band} : exec (.staticWearLevelling band) s = execStaticWearLevelling band s := rfl
@[simp] theorem exec_reserveRefill {die block} : exec (.reserveRefill die block) s = execReserveRefill die block s := rfl
@[simp] theorem exec_ladderStep {place} : exec (.ladderStep place) s = execLadderStep place s := rfl
@[simp] theorem exec_deepDecodeStart {cl} : exec (.deepDecodeStart cl) s = execDeepDecodeStart cl s := rfl
@[simp] theorem exec_deepDecodeDone {place unit} : exec (.deepDecodeDone place unit) s = execDeepDecodeDone place unit s := rfl
@[simp] theorem exec_hedgeRebuild {place ok} : exec (.hedgeRebuild place ok) s = execHedgeRebuild place ok s := rfl
@[simp] theorem exec_hedgeRetry {place} : exec (.hedgeRetry place) s = execHedgeRetry place s := rfl
@[simp] theorem exec_cmdMaxExpiry {cmd} : exec (.cmdMaxExpiry cmd) s = execCmdMaxExpiry cmd s := rfl
@[simp] theorem exec_backgroundRecoveryPass {node g stage ended} : exec (.backgroundRecoveryPass node g stage ended) s = execBackgroundRecoveryPass node g stage ended s := rfl
@[simp] theorem exec_recoveryCommit {node g} : exec (.recoveryCommit node g) s = execRecoveryCommit node g s := rfl
@[simp] theorem exec_patrolRead {unit} : exec (.patrolRead unit) s = execPatrolRead unit s := rfl
@[simp] theorem exec_refresh {band} : exec (.refresh band) s = execRefresh band s := rfl
@[simp] theorem exec_correctedMemoryError {mem addr bitNo whereIs} : exec (.correctedMemoryError mem addr bitNo whereIs) s = execCorrectedMemoryError mem addr bitNo whereIs s := rfl
@[simp] theorem exec_uncorrectableMemoryError {mem addr held} : exec (.uncorrectableMemoryError mem addr held) s = execUncorrectableMemoryError mem addr held s := rfl
@[simp] theorem exec_scrubRead {mem addr error lapMs} : exec (.scrubRead mem addr error lapMs) s = execScrubRead mem addr error lapMs s := rfl
@[simp] theorem exec_eccLogClear {ag} : exec (.eccLogClear ag) s = execEccLogClear ag s := rfl
@[simp] theorem exec_decompressionJobStart {engine cl} : exec (.decompressionJobStart engine cl) s = execDecompressionJobStart engine cl s := rfl
@[simp] theorem exec_decompressionJobDone {engine} : exec (.decompressionJobDone engine) s = execDecompressionJobDone engine s := rfl
@[simp] theorem exec_compressionJobStart {engine cmd} : exec (.compressionJobStart engine cmd) s = execCompressionJobStart engine cmd s := rfl
@[simp] theorem exec_compressionJobDone {engine block} : exec (.compressionJobDone engine block) s = execCompressionJobDone engine block s := rfl
@[simp] theorem exec_dictLoad {ag node units} : exec (.dictLoad ag node units) s = execDictLoad ag node units s := rfl
@[simp] theorem exec_dictDrop {ag node} : exec (.dictDrop ag node) s = execDictDrop ag node s := rfl
@[simp] theorem exec_dictLoadDone {ag valid} : exec (.dictLoadDone ag valid) s = execDictLoadDone ag valid s := rfl
@[simp] theorem exec_getInfo {req} : exec (.getInfo req) s = execGetInfo req s := rfl
@[simp] theorem exec_getChallenge {req} : exec (.getChallenge req) s = execGetChallenge req s := rfl
@[simp] theorem exec_claimOwner {req sigOk keyOk} : exec (.claimOwner req sigOk keyOk) s = execClaimOwner req sigOk keyOk s := rfl
@[simp] theorem exec_releaseOwner {req} : exec (.releaseOwner req) s = execReleaseOwner req s := rfl
@[simp] theorem exec_licenceInstall {req sigOk} : exec (.licenceInstall req sigOk) s = execLicenceInstall req sigOk s := rfl
@[simp] theorem exec_licenceRemove {req} : exec (.licenceRemove req) s = execLicenceRemove req s := rfl
@[simp] theorem exec_licenceStatus {req} : exec (.licenceStatus req) s = execLicenceStatus req s := rfl
@[simp] theorem exec_timeAttest {req sigOk keyOk} : exec (.timeAttest req sigOk keyOk) s = execTimeAttest req sigOk keyOk s := rfl
@[simp] theorem exec_monoAdvance {req sigOk keyOk} : exec (.monoAdvance req sigOk keyOk) s = execMonoAdvance req sigOk keyOk s := rfl
@[simp] theorem exec_setField {req} : exec (.setField req) s = execSetField req s := rfl
@[simp] theorem exec_protectionBatchSubmit {ag fence count} : exec (.protectionBatchSubmit ag fence count) s = execProtectionBatchSubmit ag fence count s := rfl
@[simp] theorem exec_keyDestruction {node gen} : exec (.keyDestruction node gen) s = execKeyDestruction node gen s := rfl
@[simp] theorem exec_timeFloorRaise : exec (.timeFloorRaise) s = execTimeFloorRaise s := rfl
@[simp] theorem exec_lockstepMismatch {pair} : exec (.lockstepMismatch pair) s = execLockstepMismatch pair s := rfl
@[simp] theorem exec_coreHang {core} : exec (.coreHang core) s = execCoreHang core s := rfl
@[simp] theorem exec_idleTimerExpiry : exec (.idleTimerExpiry) s = execIdleTimerExpiry s := rfl
@[simp] theorem exec_modeEntry : exec (.modeEntry) s = execModeEntry s := rfl
@[simp] theorem exec_mediaQuiet : exec (.mediaQuiet) s = execMediaQuiet s := rfl
@[simp] theorem exec_modeExit : exec (.modeExit) s = execModeExit s := rfl
@[simp] theorem exec_domainWake {win} : exec (.domainWake win) s = execDomainWake win s := rfl
@[simp] theorem exec_domainRegate {win} : exec (.domainRegate win) s = execDomainRegate win s := rfl
@[simp] theorem exec_scaleChange : exec (.scaleChange) s = execScaleChange s := rfl
@[simp] theorem exec_setFloor {ag arg useTick} : exec (.setFloor ag arg useTick) s = execSetFloor ag arg useTick s := rfl
@[simp] theorem exec_shutdown {ag useTick} : exec (.shutdown ag useTick) s = execShutdown ag useTick s := rfl
@[simp] theorem exec_vauxRise {vaux} : exec (.vauxRise vaux) s = execVauxRise vaux s := rfl
@[simp] theorem exec_keepToPatrol : exec (.keepToPatrol) s = execKeepToPatrol s := rfl
@[simp] theorem exec_vauxFall : exec (.vauxFall) s = execVauxFall s := rfl
@[simp] theorem exec_vbatFall : exec (.vbatFall) s = execVbatFall s := rfl
@[simp] theorem exec_mainEnAssert : exec (.mainEnAssert) s = execMainEnAssert s := rfl
@[simp] theorem exec_patrolRound {samples} : exec (.patrolRound samples) s = execPatrolRound samples s := rfl
@[simp] theorem exec_pfailN : exec (.pfailN) s = execPfailN s := rfl
@[simp] theorem exec_supplyBrownout {rail} : exec (.supplyBrownout rail) s = execSupplyBrownout rail s := rfl
@[simp] theorem exec_flushEnergyCheck {granules fixedDone eAvail} : exec (.flushEnergyCheck granules fixedDone eAvail) s = execFlushEnergyCheck granules fixedDone eAvail s := rfl
@[simp] theorem exec_flushEnd {duration} : exec (.flushEnd duration) s = execFlushEnd duration s := rfl
@[simp] theorem exec_prechargeCeiling {v} : exec (.prechargeCeiling v) s = execPrechargeCeiling v s := rfl
@[simp] theorem exec_chargerTopUp {v} : exec (.chargerTopUp v) s = execChargerTopUp v s := rfl
@[simp] theorem exec_chargeTimeout : exec (.chargeTimeout) s = execChargeTimeout s := rfl
@[simp] theorem exec_bankOvervolt {v} : exec (.bankOvervolt v) s = execBankOvervolt v s := rfl
@[simp] theorem exec_testNow {ag} : exec (.testNow ag) s = execTestNow ag s := rfl
@[simp] theorem exec_testIntervalDue : exec (.testIntervalDue) s = execTestIntervalDue s := rfl
@[simp] theorem exec_capacitanceTestStart : exec (.capacitanceTestStart) s = execCapacitanceTestStart s := rfl
@[simp] theorem exec_capacitanceTestEnd {dtUs stepMv} : exec (.capacitanceTestEnd dtUs stepMv) s = execCapacitanceTestEnd dtUs stepMv s := rfl
@[simp] theorem exec_huECeilWrite {ag ceil} : exec (.huECeilWrite ag ceil) s = execHuECeilWrite ag ceil s := rfl
@[simp] theorem exec_housekeepingRound {samples avsAck} : exec (.housekeepingRound samples avsAck) s = execHousekeepingRound samples avsAck s := rfl
@[simp] theorem exec_thermalShutDown {sensor} : exec (.thermalShutDown sensor) s = execThermalShutDown sensor s := rfl
@[simp] theorem exec_hkTjThrWrite {ag value} : exec (.hkTjThrWrite ag value) s = execHkTjThrWrite ag value s := rfl
@[simp] theorem exec_hkWwinWrite {ag value} : exec (.hkWwinWrite ag value) s = execHkWwinWrite ag value s := rfl
@[simp] theorem exec_calTrimStep : exec (.calTrimStep) s = execCalTrimStep s := rfl
@[simp] theorem exec_calOscStop : exec (.calOscStop) s = execCalOscStop s := rfl
@[simp] theorem exec_calSet {ag} : exec (.calSet ag) s = execCalSet ag s := rfl
@[simp] theorem exec_calAlarm {k} : exec (.calAlarm k) s = execCalAlarm k s := rfl
@[simp] theorem exec_calAlarmArm {ag k} : exec (.calAlarmArm ag k) s = execCalAlarmArm ag k s := rfl
@[simp] theorem exec_calBcd0Read {ag} : exec (.calBcd0Read ag) s = execCalBcd0Read ag s := rfl
@[simp] theorem exec_faultWindowClose {src} : exec (.faultWindowClose src) s = execFaultWindowClose src s := rfl
@[simp] theorem exec_fcStickyClear {ag g value} : exec (.fcStickyClear ag g value) s = execFcStickyClear ag g value s := rfl
@[simp] theorem exec_fcUnackClear {ag g value} : exec (.fcUnackClear ag g value) s = execFcUnackClear ag g value s := rfl
@[simp] theorem exec_fcSrcCfgWrite {ag window value} : exec (.fcSrcCfgWrite ag window value) s = execFcSrcCfgWrite ag window value s := rfl
@[simp] theorem exec_erFreezeWrite {ag freeze} : exec (.erFreezeWrite ag freeze) s = execErFreezeWrite ag freeze s := rfl
@[simp] theorem exec_freezeTimeout {ag} : exec (.freezeTimeout ag) s = execFreezeTimeout ag s := rfl
@[simp] theorem exec_recorderClear {ag} : exec (.recorderClear ag) s = execRecorderClear ag s := rfl
@[simp] theorem exec_recorderClearPending : exec (.recorderClearPending) s = execRecorderClearPending s := rfl
@[simp] theorem exec_histogramConfigWrite {ag reg value} : exec (.histogramConfigWrite ag reg value) s = execHistogramConfigWrite ag reg value s := rfl
@[simp] theorem exec_commitVerifyDone {sigOk deltaOk} : exec (.commitVerifyDone sigOk deltaOk) s = execCommitVerifyDone sigOk deltaOk s := rfl
@[simp] theorem exec_slotWriteDone {ok} : exec (.slotWriteDone ok) s = execSlotWriteDone ok s := rfl
@[simp] theorem exec_mapReloadHalf : exec (.mapReloadHalf) s = execMapReloadHalf s := rfl
@[simp] theorem exec_clusterRollPrepare : exec (.clusterRollPrepare) s = execClusterRollPrepare s := rfl
@[simp] theorem exec_clusterOutOfService : exec (.clusterOutOfService) s = execClusterOutOfService s := rfl
@[simp] theorem exec_clusterCoreReady {core ok} : exec (.clusterCoreReady core ok) s = execClusterCoreReady core ok s := rfl
@[simp] theorem exec_clusterReturn : exec (.clusterReturn) s = execClusterReturn s := rfl
@[simp] theorem exec_clusterWaitTimeout : exec (.clusterWaitTimeout) s = execClusterWaitTimeout s := rfl
@[simp] theorem exec_reloadFail {core} : exec (.reloadFail core) s = execReloadFail core s := rfl
@[simp] theorem exec_activationRecord : exec (.activationRecord) s = execActivationRecord s := rfl
@[simp] theorem exec_mainPgQualified {samples offMs} : exec (.mainPgQualified samples offMs) s = execMainPgQualified samples offMs s := rfl
@[simp] theorem exec_startup {b} : exec (.startup b) s = execStartup b s := rfl
@[simp] theorem exec_undefinedRegisterRead {ag off width} : exec (.undefinedRegisterRead ag off width) s = execUndefinedRegisterRead ag off width s := rfl
@[simp] theorem exec_atsEnableClear {fn} : exec (.atsEnableClear fn) s = execAtsEnableClear fn s := rfl
@[simp] theorem exec_vfEnableSet {fn numVfs} : exec (.vfEnableSet fn numVfs) s = execVfEnableSet fn numVfs s := rfl
@[simp] theorem exec_chargeTargetReached {v} : exec (.chargeTargetReached v) s = execChargeTargetReached v s := rfl
@[simp] theorem exec_bandAgeRefresh {band} : exec (.bandAgeRefresh band) s = execBandAgeRefresh band s := rfl
@[simp] theorem exec_mailboxCommandDone {req dmaOk} : exec (.mailboxCommandDone req dmaOk) s = execMailboxCommandDone req dmaOk s := rfl
@[simp] theorem exec_mainPgDeassert : exec (.mainPgDeassert) s = execMainPgDeassert s := rfl
@[simp] theorem exec_pfailNDeassert : exec (.pfailNDeassert) s = execPfailNDeassert s := rfl
@[simp] theorem exec_frontReloadDone : exec (.frontReloadDone) s = execFrontReloadDone s := rfl

end Sys2Proof.Machine
end

