-- ==== Sys2Proof/Laws/Sparse.lean ====
section
/-! SUPPORT. Laws of sparse storage: a read after a write, and that every operation keeps the canonical form. -/

namespace Sys2Proof.Machine.Sparse

set_option linter.unusedSectionVars false

variable {α : Type} [DecidableEq α] {β : Type} [DecidableEq β]

/-- What an order of keys must be: irreflexive, transitive, and deciding any two different keys. -/
structure Order (lt : α → α → Bool) : Prop where
  irrefl : ∀ a, lt a a = false
  trans : ∀ a b c, lt a b = true → lt b c = true → lt a c = true
  connex : ∀ a b, lt a b = false → a ≠ b → lt b a = true

/-- The order of numbers. -/
theorem below_order : Order below where
  irrefl a := by simp [below]
  trans a b c := by simp only [below, decide_eq_true_eq]; omega
  connex a b := by simp only [below, decide_eq_false_iff_not, decide_eq_true_eq]; omega

variable {lt : α → α → Bool} {d : α → β}

/-- The canonical form says: keys rise strictly, and no pair holds what an unlisted key reads as. -/
theorem wf_iff (o : Order lt) (l : List (α × β)) :
    wf lt d l = true ↔ l.Pairwise (fun x y => lt x.1 y.1 = true) ∧ ∀ x ∈ l, x.2 ≠ d x.1 := by
  induction l with
  | nil => simp [wf]
  | cons p l ih =>
    cases l with
    | nil => simp [wf]
    | cons q l =>
      simp only [wf, Bool.and_eq_true, ih, decide_eq_true_eq]
      constructor
      · rintro ⟨⟨h1, h2⟩, h3, h4⟩
        refine ⟨List.pairwise_cons.2 ⟨?_, h3⟩, by simpa using ⟨h1, by simpa using h4⟩⟩
        intro x hx
        rcases List.mem_cons.1 hx with rfl | hx
        · exact h2
        · exact o.trans _ _ _ h2 ((List.pairwise_cons.1 h3).1 x hx)
      · rintro ⟨h1, h2⟩
        have h1' := List.pairwise_cons.1 h1
        exact ⟨⟨h2 p (by simp), h1'.1 q (by simp)⟩, h1'.2, fun x hx => h2 x (List.mem_cons_of_mem _ hx)⟩

/-- Taking entries away keeps the canonical form. -/
theorem wf_filter (o : Order lt) {l : List (α × β)} (f : α × β → Bool) (h : wf lt d l = true) : wf lt d (l.filter f) = true := by
  rw [wf_iff o] at *
  exact ⟨h.1.filter f, fun x hx => h.2 x (List.mem_of_mem_filter hx)⟩

/-- The members of a list after an insertion. -/
theorem mem_ins {k : α} {v : β} {x : α × β} : ∀ {l : List (α × β)}, x ∈ ins lt k v l ↔ x = (k, v) ∨ x ∈ l
  | [] => by simp [ins]
  | p :: l => by
    unfold ins
    split
    · simp
    · simp only [List.mem_cons, mem_ins]; tauto

/-- Inserting a new key in its place keeps the keys rising. -/
theorem pairwise_ins (o : Order lt) {k : α} {v : β} : ∀ {l : List (α × β)},
    l.Pairwise (fun x y => lt x.1 y.1 = true) → (∀ x ∈ l, x.1 ≠ k) → (ins lt k v l).Pairwise fun x y => lt x.1 y.1 = true
  | [], _, _ => by simp [ins]
  | p :: l, h, hk => by
    have h' := List.pairwise_cons.1 h
    unfold ins
    split
    · rename_i hlt
      refine List.pairwise_cons.2 ⟨?_, h⟩
      intro x hx
      rcases List.mem_cons.1 hx with rfl | hx
      · exact hlt
      · exact o.trans _ _ _ hlt (h'.1 x hx)
    · rename_i hlt
      refine List.pairwise_cons.2 ⟨?_, pairwise_ins o h'.2 fun x hx => hk x (List.mem_cons_of_mem _ hx)⟩
      intro x hx
      rcases mem_ins.1 hx with rfl | hx
      · exact o.connex _ _ (by simpa using hlt) (fun e => hk p (by simp) e.symm)
      · exact h'.1 x hx

/-- A write keeps the canonical form. -/
theorem wf_set (o : Order lt) {l : List (α × β)} (k : α) (v : β) (h : wf lt d l = true) : wf lt d (set lt d l k v) = true := by
  have h0 := wf_filter o (fun p => p.1 ≠ k) h
  unfold set
  simp only
  split
  · exact h0
  · rename_i hv
    rw [wf_iff o] at *
    refine ⟨pairwise_ins o h0.1 fun x hx => by simpa using (List.mem_filter.1 hx).2, ?_⟩
    intro x hx
    rcases mem_ins.1 hx with rfl | hx
    · exact hv
    · exact h0.2 x hx

/-- Writes touch one key's entries only: the members after a write. -/
theorem mem_set {l : List (α × β)} {k : α} {v : β} {x : α × β} (h : x ∈ set lt d l k v) : x = (k, v) ∨ x ∈ l := by
  unfold set at h
  simp only at h
  split at h
  · exact Or.inr (List.mem_of_mem_filter h)
  · rcases mem_ins.1 h with h | h
    · exact Or.inl h
    · exact Or.inr (List.mem_of_mem_filter h)

theorem lookup_filter_self (l : List (α × β)) (k : α) : (l.filter fun p => p.1 ≠ k).lookup k = none := by
  rw [List.lookup_eq_none_iff]
  intro p hp
  have := (List.mem_filter.1 hp).2
  simp only [ne_eq, decide_eq_true_eq] at this
  simpa using fun e => this e.symm

theorem lookup_filter_ne (l : List (α × β)) {k j : α} (h : j ≠ k) : (l.filter fun p => p.1 ≠ k).lookup j = l.lookup j := by
  induction l with
  | nil => rfl
  | cons p l ih =>
    rw [List.filter_cons]
    split
    · simp only [List.lookup]; split
      · rfl
      · exact ih
    · rename_i hp
      have hp : p.1 = k := by simpa using hp
      have : (j == p.1) = false := by simpa [hp] using h
      simp only [List.lookup, this]; exact ih

theorem lookup_ins_self (o : Order lt) {k : α} {v : β} : ∀ {l : List (α × β)}, l.lookup k = none → (ins lt k v l).lookup k = some v
  | [], _ => by simp [ins]
  | p :: l, h => by
    unfold ins
    split
    · simp
    · by_cases hp : (k == p.1) = true
      · simp [List.lookup, hp] at h
      · simp only [Bool.not_eq_true] at hp
        simp only [List.lookup, hp] at h ⊢
        exact lookup_ins_self o h

theorem lookup_ins_ne {k j : α} {v : β} (h : j ≠ k) : ∀ {l : List (α × β)}, (ins lt k v l).lookup j = l.lookup j
  | [] => by
    have : (j == k) = false := by simpa using h
    simp [ins, List.lookup, this]
  | p :: l => by
    have hjk : (j == k) = false := by simpa using h
    unfold ins
    split
    · simp [List.lookup, hjk]
    · simp only [List.lookup]
      by_cases hp : (j == p.1) = true
      · simp [hp]
      · simp only [Bool.not_eq_true] at hp; simp only [hp]; exact lookup_ins_ne h

/-- What a read answers, by the lookup. -/
theorem get_eq (l : List (α × β)) (k : α) : get d l k = (l.lookup k).getD (d k) := by
  unfold get; cases l.lookup k <;> rfl

/-- A read of the key just written answers the value written. -/
theorem get_set_self (o : Order lt) (l : List (α × β)) (k : α) (v : β) : get d (set lt d l k v) k = v := by
  rw [get_eq]
  unfold set
  simp only
  split
  · rename_i hv; rw [lookup_filter_self, hv]; rfl
  · rw [lookup_ins_self o (lookup_filter_self l k)]; rfl

/-- A write leaves every other key alone. -/
theorem get_set_ne (l : List (α × β)) {k j : α} (v : β) (h : j ≠ k) : get d (set lt d l k v) j = get d l j := by
  rw [get_eq, get_eq]
  unfold set
  simp only
  split
  · rw [lookup_filter_ne l h]
  · rw [lookup_ins_ne h, lookup_filter_ne l h]

end Sys2Proof.Machine.Sparse
end

