-- ==== Sys2Proof/Laws/State.lean ====
section
/-! SUPPORT. The small laws of the state: what a read of a register field answers after a write, and that each of the three basic
updates (a field, an emission, an armed action) leaves every other part of the state alone. -/

namespace Sys2Proof.Machine

variable (s : State) (f g : Field) (v i j a b : Nat) (o : Out)

/-- The order of register keys is that of field, instance and agent. -/
theorem RKey.lt_iff (a b : RKey) : RKey.lt a b = true ↔ a.f.ctorIdx < b.f.ctorIdx ∨ (a.f.ctorIdx = b.f.ctorIdx
    ∧ (a.i < b.i ∨ (a.i = b.i ∧ a.a < b.a))) := by
  unfold RKey.lt
  split
  · simp only [decide_eq_true_eq]; omega
  · split <;> simp only [decide_eq_true_eq] <;> omega

/-- Keys of the register fields are ordered. -/
theorem RKey.lt_order : Sparse.Order RKey.lt where
  irrefl a := by rw [Bool.eq_false_iff, ne_eq, RKey.lt_iff]; omega
  trans a b c := by simp only [RKey.lt_iff]; omega
  connex a b := by
    rw [Bool.eq_false_iff, ne_eq, RKey.lt_iff, RKey.lt_iff]
    intro h hne
    by_contra k
    have hf : a.f.ctorIdx = b.f.ctorIdx := by omega
    have hff : a.f = b.f := by rw [← Field.ofNat_ctorIdx a.f, ← Field.ofNat_ctorIdx b.f, hf]
    have hi : a.i = b.i := by omega
    have ha : a.a = b.a := by omega
    exact hne (by cases a; cases b; simp_all)

/-- A field reads back what was stored in it, in its width. -/
@[simp] theorem State.get_put_self : (s.put f v i a).get f i a = v % 2 ^ f.info.width :=
  Sparse.get_set_self RKey.lt_order _ _ _

/-- Storing one field leaves every other field alone. -/
theorem State.get_put_ne (h : ¬(g = f ∧ j = i ∧ b = a)) : (s.put f v i a).get g j b = s.get g j b :=
  Sparse.get_set_ne _ _ fun e => h ⟨congrArg RKey.f e, congrArg RKey.i e, congrArg RKey.a e⟩

/-- Storing a field leaves every field of another name alone. -/
@[simp] theorem State.get_put_field (h : g ≠ f) : (s.put f v i a).get g j b = s.get g j b :=
  State.get_put_ne s f g v i j a b fun e => h e.1

/-- A read depends on the register fields only. -/
theorem State.get_congr {s t : State} (h : t.regs = s.regs) : t.get f i a = s.get f i a := by
  unfold State.get; rw [h]

@[simp] theorem State.get_emit : (s.emit o).get f i a = s.get f i a := rfl
@[simp] theorem State.flag_emit : (s.emit o).flag f i a = s.flag f i a := rfl

/-- A one-bit field reads back as it was stored. -/
theorem State.flag_putFlag_self (c : Bool) (h : f.info.width = 1) : (s.putFlag f c i a).flag f i a = c := by
  cases c <;> simp [State.flag, State.putFlag, h]

theorem State.flag_put_field (h : g ≠ f) : (s.put f v i a).flag g j b = s.flag g j b := by
  simp [State.flag, h]
theorem State.get_putFlag_field (c : Bool) (h : g ≠ f) : (s.putFlag f c i a).get g j b = s.get g j b := by
  simp [State.putFlag, h]
theorem State.flag_putFlag_field (c : Bool) (h : g ≠ f) : (s.putFlag f c i a).flag g j b = s.flag g j b := by
  simp [State.putFlag, State.flag, h]

@[simp] theorem State.put_pending : (s.put f v i a).pending = s.pending := rfl
@[simp] theorem State.putFlag_pending (c : Bool) : (s.putFlag f c i a).pending = s.pending := rfl
@[simp] theorem State.add_pending : (s.add f v i).pending = s.pending := rfl
@[simp] theorem State.bump_pending : (s.bump f i).pending = s.pending := rfl
@[simp] theorem State.emit_pending : (s.emit o).pending = s.pending := rfl
@[simp] theorem State.arm_pending (c : Act) : (s.arm v c).pending = s.pending := rfl
@[simp] theorem State.emit_regs : (s.emit o).regs = s.regs := rfl
@[simp] theorem State.put_out : (s.put f v i a).out = s.out := rfl
@[simp] theorem State.putFlag_out (c : Bool) : (s.putFlag f c i a).out = s.out := rfl
@[simp] theorem State.add_out : (s.add f v i).out = s.out := rfl
@[simp] theorem State.bump_out : (s.bump f i).out = s.out := rfl
@[simp] theorem State.arm_out (c : Act) : (s.arm v c).out = s.out := rfl
@[simp] theorem State.put_latches : (s.put f v i a).latches = s.latches := rfl
@[simp] theorem State.putFlag_latches (c : Bool) : (s.putFlag f c i a).latches = s.latches := rfl
@[simp] theorem State.add_latches : (s.add f v i).latches = s.latches := rfl
@[simp] theorem State.bump_latches : (s.bump f i).latches = s.latches := rfl
@[simp] theorem State.emit_latches : (s.emit o).latches = s.latches := rfl
@[simp] theorem State.arm_latches (c : Act) : (s.arm v c).latches = s.latches := rfl
@[simp] theorem State.put_locks : (s.put f v i a).locks = s.locks := rfl
@[simp] theorem State.putFlag_locks (c : Bool) : (s.putFlag f c i a).locks = s.locks := rfl
@[simp] theorem State.add_locks : (s.add f v i).locks = s.locks := rfl
@[simp] theorem State.bump_locks : (s.bump f i).locks = s.locks := rfl
@[simp] theorem State.emit_locks : (s.emit o).locks = s.locks := rfl
@[simp] theorem State.arm_locks (c : Act) : (s.arm v c).locks = s.locks := rfl
@[simp] theorem State.put_cmds : (s.put f v i a).cmds = s.cmds := rfl
@[simp] theorem State.putFlag_cmds (c : Bool) : (s.putFlag f c i a).cmds = s.cmds := rfl
@[simp] theorem State.add_cmds : (s.add f v i).cmds = s.cmds := rfl
@[simp] theorem State.bump_cmds : (s.bump f i).cmds = s.cmds := rfl
@[simp] theorem State.emit_cmds : (s.emit o).cmds = s.cmds := rfl
@[simp] theorem State.arm_cmds (c : Act) : (s.arm v c).cmds = s.cmds := rfl
@[simp] theorem State.put_sqs : (s.put f v i a).sqs = s.sqs := rfl
@[simp] theorem State.putFlag_sqs (c : Bool) : (s.putFlag f c i a).sqs = s.sqs := rfl
@[simp] theorem State.add_sqs : (s.add f v i).sqs = s.sqs := rfl
@[simp] theorem State.bump_sqs : (s.bump f i).sqs = s.sqs := rfl
@[simp] theorem State.emit_sqs : (s.emit o).sqs = s.sqs := rfl
@[simp] theorem State.arm_sqs (c : Act) : (s.arm v c).sqs = s.sqs := rfl
@[simp] theorem State.put_cqs : (s.put f v i a).cqs = s.cqs := rfl
@[simp] theorem State.putFlag_cqs (c : Bool) : (s.putFlag f c i a).cqs = s.cqs := rfl
@[simp] theorem State.add_cqs : (s.add f v i).cqs = s.cqs := rfl
@[simp] theorem State.bump_cqs : (s.bump f i).cqs = s.cqs := rfl
@[simp] theorem State.emit_cqs : (s.emit o).cqs = s.cqs := rfl
@[simp] theorem State.arm_cqs (c : Act) : (s.arm v c).cqs = s.cqs := rfl
@[simp] theorem State.put_asyncWaiting : (s.put f v i a).asyncWaiting = s.asyncWaiting := rfl
@[simp] theorem State.putFlag_asyncWaiting (c : Bool) : (s.putFlag f c i a).asyncWaiting = s.asyncWaiting := rfl
@[simp] theorem State.add_asyncWaiting : (s.add f v i).asyncWaiting = s.asyncWaiting := rfl
@[simp] theorem State.bump_asyncWaiting : (s.bump f i).asyncWaiting = s.asyncWaiting := rfl
@[simp] theorem State.emit_asyncWaiting : (s.emit o).asyncWaiting = s.asyncWaiting := rfl
@[simp] theorem State.arm_asyncWaiting (c : Act) : (s.arm v c).asyncWaiting = s.asyncWaiting := rfl
@[simp] theorem State.put_slots : (s.put f v i a).slots = s.slots := rfl
@[simp] theorem State.putFlag_slots (c : Bool) : (s.putFlag f c i a).slots = s.slots := rfl
@[simp] theorem State.add_slots : (s.add f v i).slots = s.slots := rfl
@[simp] theorem State.bump_slots : (s.bump f i).slots = s.slots := rfl
@[simp] theorem State.emit_slots : (s.emit o).slots = s.slots := rfl
@[simp] theorem State.arm_slots (c : Act) : (s.arm v c).slots = s.slots := rfl
@[simp] theorem State.put_ats : (s.put f v i a).ats = s.ats := rfl
@[simp] theorem State.putFlag_ats (c : Bool) : (s.putFlag f c i a).ats = s.ats := rfl
@[simp] theorem State.add_ats : (s.add f v i).ats = s.ats := rfl
@[simp] theorem State.bump_ats : (s.bump f i).ats = s.ats := rfl
@[simp] theorem State.emit_ats : (s.emit o).ats = s.ats := rfl
@[simp] theorem State.arm_ats (c : Act) : (s.arm v c).ats = s.ats := rfl
@[simp] theorem State.put_invs : (s.put f v i a).invs = s.invs := rfl
@[simp] theorem State.putFlag_invs (c : Bool) : (s.putFlag f c i a).invs = s.invs := rfl
@[simp] theorem State.add_invs : (s.add f v i).invs = s.invs := rfl
@[simp] theorem State.bump_invs : (s.bump f i).invs = s.invs := rfl
@[simp] theorem State.emit_invs : (s.emit o).invs = s.invs := rfl
@[simp] theorem State.arm_invs (c : Act) : (s.arm v c).invs = s.invs := rfl
@[simp] theorem State.put_holds : (s.put f v i a).holds = s.holds := rfl
@[simp] theorem State.putFlag_holds (c : Bool) : (s.putFlag f c i a).holds = s.holds := rfl
@[simp] theorem State.add_holds : (s.add f v i).holds = s.holds := rfl
@[simp] theorem State.bump_holds : (s.bump f i).holds = s.holds := rfl
@[simp] theorem State.emit_holds : (s.emit o).holds = s.holds := rfl
@[simp] theorem State.arm_holds (c : Act) : (s.arm v c).holds = s.holds := rfl
@[simp] theorem State.put_dmaReads : (s.put f v i a).dmaReads = s.dmaReads := rfl
@[simp] theorem State.putFlag_dmaReads (c : Bool) : (s.putFlag f c i a).dmaReads = s.dmaReads := rfl
@[simp] theorem State.add_dmaReads : (s.add f v i).dmaReads = s.dmaReads := rfl
@[simp] theorem State.bump_dmaReads : (s.bump f i).dmaReads = s.dmaReads := rfl
@[simp] theorem State.emit_dmaReads : (s.emit o).dmaReads = s.dmaReads := rfl
@[simp] theorem State.arm_dmaReads (c : Act) : (s.arm v c).dmaReads = s.dmaReads := rfl
@[simp] theorem State.put_errLog : (s.put f v i a).errLog = s.errLog := rfl
@[simp] theorem State.putFlag_errLog (c : Bool) : (s.putFlag f c i a).errLog = s.errLog := rfl
@[simp] theorem State.add_errLog : (s.add f v i).errLog = s.errLog := rfl
@[simp] theorem State.bump_errLog : (s.bump f i).errLog = s.errLog := rfl
@[simp] theorem State.emit_errLog : (s.emit o).errLog = s.errLog := rfl
@[simp] theorem State.arm_errLog (c : Act) : (s.arm v c).errLog = s.errLog := rfl
@[simp] theorem State.put_eraseOwed : (s.put f v i a).eraseOwed = s.eraseOwed := rfl
@[simp] theorem State.putFlag_eraseOwed (c : Bool) : (s.putFlag f c i a).eraseOwed = s.eraseOwed := rfl
@[simp] theorem State.add_eraseOwed : (s.add f v i).eraseOwed = s.eraseOwed := rfl
@[simp] theorem State.bump_eraseOwed : (s.bump f i).eraseOwed = s.eraseOwed := rfl
@[simp] theorem State.emit_eraseOwed : (s.emit o).eraseOwed = s.eraseOwed := rfl
@[simp] theorem State.arm_eraseOwed (c : Act) : (s.arm v c).eraseOwed = s.eraseOwed := rfl
@[simp] theorem State.put_tags : (s.put f v i a).tags = s.tags := rfl
@[simp] theorem State.putFlag_tags (c : Bool) : (s.putFlag f c i a).tags = s.tags := rfl
@[simp] theorem State.add_tags : (s.add f v i).tags = s.tags := rfl
@[simp] theorem State.bump_tags : (s.bump f i).tags = s.tags := rfl
@[simp] theorem State.emit_tags : (s.emit o).tags = s.tags := rfl
@[simp] theorem State.arm_tags (c : Act) : (s.arm v c).tags = s.tags := rfl
@[simp] theorem State.put_grants : (s.put f v i a).grants = s.grants := rfl
@[simp] theorem State.putFlag_grants (c : Bool) : (s.putFlag f c i a).grants = s.grants := rfl
@[simp] theorem State.add_grants : (s.add f v i).grants = s.grants := rfl
@[simp] theorem State.bump_grants : (s.bump f i).grants = s.grants := rfl
@[simp] theorem State.emit_grants : (s.emit o).grants = s.grants := rfl
@[simp] theorem State.arm_grants (c : Act) : (s.arm v c).grants = s.grants := rfl
@[simp] theorem State.put_dataWin : (s.put f v i a).dataWin = s.dataWin := rfl
@[simp] theorem State.putFlag_dataWin (c : Bool) : (s.putFlag f c i a).dataWin = s.dataWin := rfl
@[simp] theorem State.add_dataWin : (s.add f v i).dataWin = s.dataWin := rfl
@[simp] theorem State.bump_dataWin : (s.bump f i).dataWin = s.dataWin := rfl
@[simp] theorem State.emit_dataWin : (s.emit o).dataWin = s.dataWin := rfl
@[simp] theorem State.arm_dataWin (c : Act) : (s.arm v c).dataWin = s.dataWin := rfl
@[simp] theorem State.put_plans : (s.put f v i a).plans = s.plans := rfl
@[simp] theorem State.putFlag_plans (c : Bool) : (s.putFlag f c i a).plans = s.plans := rfl
@[simp] theorem State.add_plans : (s.add f v i).plans = s.plans := rfl
@[simp] theorem State.bump_plans : (s.bump f i).plans = s.plans := rfl
@[simp] theorem State.emit_plans : (s.emit o).plans = s.plans := rfl
@[simp] theorem State.arm_plans (c : Act) : (s.arm v c).plans = s.plans := rfl
@[simp] theorem State.put_armed : (s.put f v i a).armed = s.armed := rfl
@[simp] theorem State.putFlag_armed (c : Bool) : (s.putFlag f c i a).armed = s.armed := rfl
@[simp] theorem State.add_armed : (s.add f v i).armed = s.armed := rfl
@[simp] theorem State.bump_armed : (s.bump f i).armed = s.armed := rfl
@[simp] theorem State.emit_armed : (s.emit o).armed = s.armed := rfl
@[simp] theorem State.put_nodes : (s.put f v i a).nodes = s.nodes := rfl
@[simp] theorem State.putFlag_nodes (c : Bool) : (s.putFlag f c i a).nodes = s.nodes := rfl
@[simp] theorem State.add_nodes : (s.add f v i).nodes = s.nodes := rfl
@[simp] theorem State.bump_nodes : (s.bump f i).nodes = s.nodes := rfl
@[simp] theorem State.emit_nodes : (s.emit o).nodes = s.nodes := rfl
@[simp] theorem State.arm_nodes (c : Act) : (s.arm v c).nodes = s.nodes := rfl
@[simp] theorem State.put_lines : (s.put f v i a).lines = s.lines := rfl
@[simp] theorem State.putFlag_lines (c : Bool) : (s.putFlag f c i a).lines = s.lines := rfl
@[simp] theorem State.add_lines : (s.add f v i).lines = s.lines := rfl
@[simp] theorem State.bump_lines : (s.bump f i).lines = s.lines := rfl
@[simp] theorem State.emit_lines : (s.emit o).lines = s.lines := rfl
@[simp] theorem State.arm_lines (c : Act) : (s.arm v c).lines = s.lines := rfl
@[simp] theorem State.put_lookups : (s.put f v i a).lookups = s.lookups := rfl
@[simp] theorem State.putFlag_lookups (c : Bool) : (s.putFlag f c i a).lookups = s.lookups := rfl
@[simp] theorem State.add_lookups : (s.add f v i).lookups = s.lookups := rfl
@[simp] theorem State.bump_lookups : (s.bump f i).lookups = s.lookups := rfl
@[simp] theorem State.emit_lookups : (s.emit o).lookups = s.lookups := rfl
@[simp] theorem State.arm_lookups (c : Act) : (s.arm v c).lookups = s.lookups := rfl
@[simp] theorem State.put_pages : (s.put f v i a).pages = s.pages := rfl
@[simp] theorem State.putFlag_pages (c : Bool) : (s.putFlag f c i a).pages = s.pages := rfl
@[simp] theorem State.add_pages : (s.add f v i).pages = s.pages := rfl
@[simp] theorem State.bump_pages : (s.bump f i).pages = s.pages := rfl
@[simp] theorem State.emit_pages : (s.emit o).pages = s.pages := rfl
@[simp] theorem State.arm_pages (c : Act) : (s.arm v c).pages = s.pages := rfl
@[simp] theorem State.put_mapVol : (s.put f v i a).mapVol = s.mapVol := rfl
@[simp] theorem State.putFlag_mapVol (c : Bool) : (s.putFlag f c i a).mapVol = s.mapVol := rfl
@[simp] theorem State.add_mapVol : (s.add f v i).mapVol = s.mapVol := rfl
@[simp] theorem State.bump_mapVol : (s.bump f i).mapVol = s.mapVol := rfl
@[simp] theorem State.emit_mapVol : (s.emit o).mapVol = s.mapVol := rfl
@[simp] theorem State.arm_mapVol (c : Act) : (s.arm v c).mapVol = s.mapVol := rfl
@[simp] theorem State.put_oldPages : (s.put f v i a).oldPages = s.oldPages := rfl
@[simp] theorem State.putFlag_oldPages (c : Bool) : (s.putFlag f c i a).oldPages = s.oldPages := rfl
@[simp] theorem State.add_oldPages : (s.add f v i).oldPages = s.oldPages := rfl
@[simp] theorem State.bump_oldPages : (s.bump f i).oldPages = s.oldPages := rfl
@[simp] theorem State.emit_oldPages : (s.emit o).oldPages = s.oldPages := rfl
@[simp] theorem State.arm_oldPages (c : Act) : (s.arm v c).oldPages = s.oldPages := rfl
@[simp] theorem State.put_sweeps : (s.put f v i a).sweeps = s.sweeps := rfl
@[simp] theorem State.putFlag_sweeps (c : Bool) : (s.putFlag f c i a).sweeps = s.sweeps := rfl
@[simp] theorem State.add_sweeps : (s.add f v i).sweeps = s.sweeps := rfl
@[simp] theorem State.bump_sweeps : (s.bump f i).sweeps = s.sweeps := rfl
@[simp] theorem State.emit_sweeps : (s.emit o).sweeps = s.sweeps := rfl
@[simp] theorem State.arm_sweeps (c : Act) : (s.arm v c).sweeps = s.sweeps := rfl
@[simp] theorem State.put_pins : (s.put f v i a).pins = s.pins := rfl
@[simp] theorem State.putFlag_pins (c : Bool) : (s.putFlag f c i a).pins = s.pins := rfl
@[simp] theorem State.add_pins : (s.add f v i).pins = s.pins := rfl
@[simp] theorem State.bump_pins : (s.bump f i).pins = s.pins := rfl
@[simp] theorem State.emit_pins : (s.emit o).pins = s.pins := rfl
@[simp] theorem State.arm_pins (c : Act) : (s.arm v c).pins = s.pins := rfl
@[simp] theorem State.put_jnl : (s.put f v i a).jnl = s.jnl := rfl
@[simp] theorem State.putFlag_jnl (c : Bool) : (s.putFlag f c i a).jnl = s.jnl := rfl
@[simp] theorem State.add_jnl : (s.add f v i).jnl = s.jnl := rfl
@[simp] theorem State.bump_jnl : (s.bump f i).jnl = s.jnl := rfl
@[simp] theorem State.emit_jnl : (s.emit o).jnl = s.jnl := rfl
@[simp] theorem State.arm_jnl (c : Act) : (s.arm v c).jnl = s.jnl := rfl
@[simp] theorem State.put_desc : (s.put f v i a).desc = s.desc := rfl
@[simp] theorem State.putFlag_desc (c : Bool) : (s.putFlag f c i a).desc = s.desc := rfl
@[simp] theorem State.add_desc : (s.add f v i).desc = s.desc := rfl
@[simp] theorem State.bump_desc : (s.bump f i).desc = s.desc := rfl
@[simp] theorem State.emit_desc : (s.emit o).desc = s.desc := rfl
@[simp] theorem State.arm_desc (c : Act) : (s.arm v c).desc = s.desc := rfl
@[simp] theorem State.put_calls : (s.put f v i a).calls = s.calls := rfl
@[simp] theorem State.putFlag_calls (c : Bool) : (s.putFlag f c i a).calls = s.calls := rfl
@[simp] theorem State.add_calls : (s.add f v i).calls = s.calls := rfl
@[simp] theorem State.bump_calls : (s.bump f i).calls = s.calls := rfl
@[simp] theorem State.emit_calls : (s.emit o).calls = s.calls := rfl
@[simp] theorem State.arm_calls (c : Act) : (s.arm v c).calls = s.calls := rfl
@[simp] theorem State.put_cpl : (s.put f v i a).cpl = s.cpl := rfl
@[simp] theorem State.putFlag_cpl (c : Bool) : (s.putFlag f c i a).cpl = s.cpl := rfl
@[simp] theorem State.add_cpl : (s.add f v i).cpl = s.cpl := rfl
@[simp] theorem State.bump_cpl : (s.bump f i).cpl = s.cpl := rfl
@[simp] theorem State.emit_cpl : (s.emit o).cpl = s.cpl := rfl
@[simp] theorem State.arm_cpl (c : Act) : (s.arm v c).cpl = s.cpl := rfl
@[simp] theorem State.put_staged : (s.put f v i a).staged = s.staged := rfl
@[simp] theorem State.putFlag_staged (c : Bool) : (s.putFlag f c i a).staged = s.staged := rfl
@[simp] theorem State.add_staged : (s.add f v i).staged = s.staged := rfl
@[simp] theorem State.bump_staged : (s.bump f i).staged = s.staged := rfl
@[simp] theorem State.emit_staged : (s.emit o).staged = s.staged := rfl
@[simp] theorem State.arm_staged (c : Act) : (s.arm v c).staged = s.staged := rfl
@[simp] theorem State.put_flash : (s.put f v i a).flash = s.flash := rfl
@[simp] theorem State.putFlag_flash (c : Bool) : (s.putFlag f c i a).flash = s.flash := rfl
@[simp] theorem State.add_flash : (s.add f v i).flash = s.flash := rfl
@[simp] theorem State.bump_flash : (s.bump f i).flash = s.flash := rfl
@[simp] theorem State.emit_flash : (s.emit o).flash = s.flash := rfl
@[simp] theorem State.arm_flash (c : Act) : (s.arm v c).flash = s.flash := rfl
@[simp] theorem State.put_wbuf : (s.put f v i a).wbuf = s.wbuf := rfl
@[simp] theorem State.putFlag_wbuf (c : Bool) : (s.putFlag f c i a).wbuf = s.wbuf := rfl
@[simp] theorem State.add_wbuf : (s.add f v i).wbuf = s.wbuf := rfl
@[simp] theorem State.bump_wbuf : (s.bump f i).wbuf = s.wbuf := rfl
@[simp] theorem State.emit_wbuf : (s.emit o).wbuf = s.wbuf := rfl
@[simp] theorem State.arm_wbuf (c : Act) : (s.arm v c).wbuf = s.wbuf := rfl
@[simp] theorem State.put_bands : (s.put f v i a).bands = s.bands := rfl
@[simp] theorem State.putFlag_bands (c : Bool) : (s.putFlag f c i a).bands = s.bands := rfl
@[simp] theorem State.add_bands : (s.add f v i).bands = s.bands := rfl
@[simp] theorem State.bump_bands : (s.bump f i).bands = s.bands := rfl
@[simp] theorem State.emit_bands : (s.emit o).bands = s.bands := rfl
@[simp] theorem State.arm_bands (c : Act) : (s.arm v c).bands = s.bands := rfl
@[simp] theorem State.put_copies : (s.put f v i a).copies = s.copies := rfl
@[simp] theorem State.putFlag_copies (c : Bool) : (s.putFlag f c i a).copies = s.copies := rfl
@[simp] theorem State.add_copies : (s.add f v i).copies = s.copies := rfl
@[simp] theorem State.bump_copies : (s.bump f i).copies = s.copies := rfl
@[simp] theorem State.emit_copies : (s.emit o).copies = s.copies := rfl
@[simp] theorem State.arm_copies (c : Act) : (s.arm v c).copies = s.copies := rfl
@[simp] theorem State.put_ladders : (s.put f v i a).ladders = s.ladders := rfl
@[simp] theorem State.putFlag_ladders (c : Bool) : (s.putFlag f c i a).ladders = s.ladders := rfl
@[simp] theorem State.add_ladders : (s.add f v i).ladders = s.ladders := rfl
@[simp] theorem State.bump_ladders : (s.bump f i).ladders = s.ladders := rfl
@[simp] theorem State.emit_ladders : (s.emit o).ladders = s.ladders := rfl
@[simp] theorem State.arm_ladders (c : Act) : (s.arm v c).ladders = s.ladders := rfl
@[simp] theorem State.put_hedges : (s.put f v i a).hedges = s.hedges := rfl
@[simp] theorem State.putFlag_hedges (c : Bool) : (s.putFlag f c i a).hedges = s.hedges := rfl
@[simp] theorem State.add_hedges : (s.add f v i).hedges = s.hedges := rfl
@[simp] theorem State.bump_hedges : (s.bump f i).hedges = s.hedges := rfl
@[simp] theorem State.emit_hedges : (s.emit o).hedges = s.hedges := rfl
@[simp] theorem State.arm_hedges (c : Act) : (s.arm v c).hedges = s.hedges := rfl
@[simp] theorem State.put_deepJobs : (s.put f v i a).deepJobs = s.deepJobs := rfl
@[simp] theorem State.putFlag_deepJobs (c : Bool) : (s.putFlag f c i a).deepJobs = s.deepJobs := rfl
@[simp] theorem State.add_deepJobs : (s.add f v i).deepJobs = s.deepJobs := rfl
@[simp] theorem State.bump_deepJobs : (s.bump f i).deepJobs = s.deepJobs := rfl
@[simp] theorem State.emit_deepJobs : (s.emit o).deepJobs = s.deepJobs := rfl
@[simp] theorem State.arm_deepJobs (c : Act) : (s.arm v c).deepJobs = s.deepJobs := rfl
@[simp] theorem State.put_recovs : (s.put f v i a).recovs = s.recovs := rfl
@[simp] theorem State.putFlag_recovs (c : Bool) : (s.putFlag f c i a).recovs = s.recovs := rfl
@[simp] theorem State.add_recovs : (s.add f v i).recovs = s.recovs := rfl
@[simp] theorem State.bump_recovs : (s.bump f i).recovs = s.recovs := rfl
@[simp] theorem State.emit_recovs : (s.emit o).recovs = s.recovs := rfl
@[simp] theorem State.arm_recovs (c : Act) : (s.arm v c).recovs = s.recovs := rfl
@[simp] theorem State.put_eccLog : (s.put f v i a).eccLog = s.eccLog := rfl
@[simp] theorem State.putFlag_eccLog (c : Bool) : (s.putFlag f c i a).eccLog = s.eccLog := rfl
@[simp] theorem State.add_eccLog : (s.add f v i).eccLog = s.eccLog := rfl
@[simp] theorem State.bump_eccLog : (s.bump f i).eccLog = s.eccLog := rfl
@[simp] theorem State.emit_eccLog : (s.emit o).eccLog = s.eccLog := rfl
@[simp] theorem State.arm_eccLog (c : Act) : (s.arm v c).eccLog = s.eccLog := rfl
@[simp] theorem State.put_engJobs : (s.put f v i a).engJobs = s.engJobs := rfl
@[simp] theorem State.putFlag_engJobs (c : Bool) : (s.putFlag f c i a).engJobs = s.engJobs := rfl
@[simp] theorem State.add_engJobs : (s.add f v i).engJobs = s.engJobs := rfl
@[simp] theorem State.bump_engJobs : (s.bump f i).engJobs = s.engJobs := rfl
@[simp] theorem State.emit_engJobs : (s.emit o).engJobs = s.engJobs := rfl
@[simp] theorem State.arm_engJobs (c : Act) : (s.arm v c).engJobs = s.engJobs := rfl
@[simp] theorem State.put_dicts : (s.put f v i a).dicts = s.dicts := rfl
@[simp] theorem State.putFlag_dicts (c : Bool) : (s.putFlag f c i a).dicts = s.dicts := rfl
@[simp] theorem State.add_dicts : (s.add f v i).dicts = s.dicts := rfl
@[simp] theorem State.bump_dicts : (s.bump f i).dicts = s.dicts := rfl
@[simp] theorem State.emit_dicts : (s.emit o).dicts = s.dicts := rfl
@[simp] theorem State.arm_dicts (c : Act) : (s.arm v c).dicts = s.dicts := rfl
@[simp] theorem State.put_rights : (s.put f v i a).rights = s.rights := rfl
@[simp] theorem State.putFlag_rights (c : Bool) : (s.putFlag f c i a).rights = s.rights := rfl
@[simp] theorem State.add_rights : (s.add f v i).rights = s.rights := rfl
@[simp] theorem State.bump_rights : (s.bump f i).rights = s.rights := rfl
@[simp] theorem State.emit_rights : (s.emit o).rights = s.rights := rfl
@[simp] theorem State.arm_rights (c : Act) : (s.arm v c).rights = s.rights := rfl
@[simp] theorem State.put_keys : (s.put f v i a).keys = s.keys := rfl
@[simp] theorem State.putFlag_keys (c : Bool) : (s.putFlag f c i a).keys = s.keys := rfl
@[simp] theorem State.add_keys : (s.add f v i).keys = s.keys := rfl
@[simp] theorem State.bump_keys : (s.bump f i).keys = s.keys := rfl
@[simp] theorem State.emit_keys : (s.emit o).keys = s.keys := rfl
@[simp] theorem State.arm_keys (c : Act) : (s.arm v c).keys = s.keys := rfl
@[simp] theorem State.put_licences : (s.put f v i a).licences = s.licences := rfl
@[simp] theorem State.putFlag_licences (c : Bool) : (s.putFlag f c i a).licences = s.licences := rfl
@[simp] theorem State.add_licences : (s.add f v i).licences = s.licences := rfl
@[simp] theorem State.bump_licences : (s.bump f i).licences = s.licences := rfl
@[simp] theorem State.emit_licences : (s.emit o).licences = s.licences := rfl
@[simp] theorem State.arm_licences (c : Act) : (s.arm v c).licences = s.licences := rfl
@[simp] theorem State.put_recSnap : (s.put f v i a).recSnap = s.recSnap := rfl
@[simp] theorem State.putFlag_recSnap (c : Bool) : (s.putFlag f c i a).recSnap = s.recSnap := rfl
@[simp] theorem State.add_recSnap : (s.add f v i).recSnap = s.recSnap := rfl
@[simp] theorem State.bump_recSnap : (s.bump f i).recSnap = s.recSnap := rfl
@[simp] theorem State.emit_recSnap : (s.emit o).recSnap = s.recSnap := rfl
@[simp] theorem State.arm_recSnap (c : Act) : (s.arm v c).recSnap = s.recSnap := rfl
@[simp] theorem State.put_nonce : (s.put f v i a).nonce = s.nonce := rfl
@[simp] theorem State.putFlag_nonce (c : Bool) : (s.putFlag f c i a).nonce = s.nonce := rfl
@[simp] theorem State.add_nonce : (s.add f v i).nonce = s.nonce := rfl
@[simp] theorem State.bump_nonce : (s.bump f i).nonce = s.nonce := rfl
@[simp] theorem State.emit_nonce : (s.emit o).nonce = s.nonce := rfl
@[simp] theorem State.arm_nonce (c : Act) : (s.arm v c).nonce = s.nonce := rfl
@[simp] theorem State.put_mbxResp : (s.put f v i a).mbxResp = s.mbxResp := rfl
@[simp] theorem State.putFlag_mbxResp (c : Bool) : (s.putFlag f c i a).mbxResp = s.mbxResp := rfl
@[simp] theorem State.add_mbxResp : (s.add f v i).mbxResp = s.mbxResp := rfl
@[simp] theorem State.bump_mbxResp : (s.bump f i).mbxResp = s.mbxResp := rfl
@[simp] theorem State.emit_mbxResp : (s.emit o).mbxResp = s.mbxResp := rfl
@[simp] theorem State.arm_mbxResp (c : Act) : (s.arm v c).mbxResp = s.mbxResp := rfl
@[simp] theorem State.put_pkg : (s.put f v i a).pkg = s.pkg := rfl
@[simp] theorem State.putFlag_pkg (c : Bool) : (s.putFlag f c i a).pkg = s.pkg := rfl
@[simp] theorem State.add_pkg : (s.add f v i).pkg = s.pkg := rfl
@[simp] theorem State.bump_pkg : (s.bump f i).pkg = s.pkg := rfl
@[simp] theorem State.emit_pkg : (s.emit o).pkg = s.pkg := rfl
@[simp] theorem State.arm_pkg (c : Act) : (s.arm v c).pkg = s.pkg := rfl
@[simp] theorem State.put_fwSlots : (s.put f v i a).fwSlots = s.fwSlots := rfl
@[simp] theorem State.putFlag_fwSlots (c : Bool) : (s.putFlag f c i a).fwSlots = s.fwSlots := rfl
@[simp] theorem State.add_fwSlots : (s.add f v i).fwSlots = s.fwSlots := rfl
@[simp] theorem State.bump_fwSlots : (s.bump f i).fwSlots = s.fwSlots := rfl
@[simp] theorem State.emit_fwSlots : (s.emit o).fwSlots = s.fwSlots := rfl
@[simp] theorem State.arm_fwSlots (c : Act) : (s.arm v c).fwSlots = s.fwSlots := rfl
@[simp] theorem State.put_fwNew : (s.put f v i a).fwNew = s.fwNew := rfl
@[simp] theorem State.putFlag_fwNew (c : Bool) : (s.putFlag f c i a).fwNew = s.fwNew := rfl
@[simp] theorem State.add_fwNew : (s.add f v i).fwNew = s.fwNew := rfl
@[simp] theorem State.bump_fwNew : (s.bump f i).fwNew = s.fwNew := rfl
@[simp] theorem State.emit_fwNew : (s.emit o).fwNew = s.fwNew := rfl
@[simp] theorem State.arm_fwNew (c : Act) : (s.arm v c).fwNew = s.fwNew := rfl
@[simp] theorem State.put_cfgRec : (s.put f v i a).cfgRec = s.cfgRec := rfl
@[simp] theorem State.putFlag_cfgRec (c : Bool) : (s.putFlag f c i a).cfgRec = s.cfgRec := rfl
@[simp] theorem State.add_cfgRec : (s.add f v i).cfgRec = s.cfgRec := rfl
@[simp] theorem State.bump_cfgRec : (s.bump f i).cfgRec = s.cfgRec := rfl
@[simp] theorem State.emit_cfgRec : (s.emit o).cfgRec = s.cfgRec := rfl
@[simp] theorem State.arm_cfgRec (c : Act) : (s.arm v c).cfgRec = s.cfgRec := rfl
@[simp] theorem State.emit_out : (s.emit o).out = s.out ++ [o] := rfl

/-- What a step of `forEach` leaves alone, the whole leaves alone. -/
theorem forEach_same {α β : Type} (p : State → β) {l : List α} {s : State} {k : α → State → State} (h : ∀ c t, p (k c t) = p t) :
    p (forEach l s k) = p s := by
  unfold forEach
  induction l generalizing s with
  | nil => rfl
  | cons c l ih => rw [List.foldl_cons, ih, h]

@[simp] theorem forEach_nil {α : Type} {s : State} {k : α → State → State} : forEach [] s k = s := rfl
@[simp] theorem forEach_cons {α : Type} {c : α} {l : List α} {s : State} {k : α → State → State} :
    forEach (c :: l) s k = forEach l (k c s) k := rfl

end Sys2Proof.Machine
end

