-- ==== Sys2Proof/Laws/Kept.lean ====
section
/-! SUPPORT. What every operation of the model keeps: the queue of waiting commands is untouched, and a sound state stays sound. `Kept`
is that relation; the files Kept<Module>.lean state it once for each operation and each meaning. -/

namespace Sys2Proof.Machine

/-- From `s`, the state `t` has the same queue and is sound if `s` is. -/
structure Kept (s t : State) : Prop where
  queue : t.pending = s.pending
  sound : s.sound = true → t.sound = true

/-- `Kept` for the second part of a pair. -/
structure KeptP {α : Type} (s : State) (p : α × State) : Prop where
  snd : Kept s p.2

/-- `Kept` for an optional state. -/
structure KeptO (s : State) (o : Option State) : Prop where
  of : ∀ t, o = some t → Kept s t

/-- `Kept` for an optional pair. -/
structure KeptOP {α : Type} (s : State) (o : Option (α × State)) : Prop where
  of : ∀ p, o = some p → Kept s p.2

/-- `Kept` for an outcome that is a next state. -/
structure KeptN (s : State) (o : Host.Outcome State Fault Refusal) : Prop where
  of : ∀ t, o = .next t → Kept s t

/-- `Kept` for a result that is an error or a pair. -/
structure KeptE {ε α : Type} (s : State) (o : Except ε (α × State)) : Prop where
  of : ∀ p, o = .ok p → Kept s p.2

variable {s0 s t : State}

theorem Kept.refl : Kept s s := ⟨rfl, id⟩

theorem Kept.trans {u : State} (h : Kept s t) (k : Kept t u) : Kept s u :=
  ⟨k.queue.trans h.queue, fun x => k.sound (h.sound x)⟩

theorem KeptN.next (h : Kept s0 t) : KeptN s0 (.next t) := ⟨fun u e => by cases e; exact h⟩
theorem KeptN.refused (r : Refusal) : KeptN s0 (.refused r) := ⟨fun u e => by cases e⟩
theorem KeptN.fault (r : Fault) : KeptN s0 (.fault r) := ⟨fun u e => by cases e⟩
theorem KeptO.none : KeptO s0 none := ⟨fun u e => by cases e⟩
theorem KeptO.some (h : Kept s0 t) : KeptO s0 (some t) := ⟨fun u e => by cases e; exact h⟩
theorem KeptOP.none {α : Type} : KeptOP (α := α) s0 none := ⟨fun u e => by cases e⟩
theorem KeptOP.some {α : Type} {p : α × State} (h : KeptP s0 p) : KeptOP s0 (some p) := ⟨fun u e => by cases e; exact h.snd⟩
theorem KeptP.mk' {α : Type} {a : α} (h : Kept s0 t) : KeptP s0 (a, t) := ⟨h⟩
theorem KeptP.out {α : Type} {p : α × State} (h : KeptP s0 p) : Kept s0 p.2 := h.snd
theorem KeptO.out {o : Option State} (e : o = Option.some t) (h : KeptO s0 o) : Kept s0 t := h.of t e
theorem KeptOP.out {α : Type} {o : Option (α × State)} {p : α × State} (e : o = Option.some p) (h : KeptOP s0 o) : Kept s0 p.2 := h.of p e
theorem KeptOP.outP {α : Type} {o : Option (α × State)} {p : α × State} (e : o = Option.some p) (h : KeptOP s0 o) : KeptP s0 p := ⟨h.of p e⟩
theorem KeptOP.outM {α : Type} {o : Option (α × State)} {a : α} (e : o = Option.some (a, t)) (h : KeptOP s0 o) : Kept s0 t := h.of _ e
theorem KeptP.eq {α : Type} {p : α × State} {a : α} (e : p = (a, t)) (h : KeptP s0 p) : Kept s0 t := by subst e; exact h.snd

theorem KeptE.ok {ε α : Type} {p : α × State} (h : KeptP s0 p) : KeptE (ε := ε) s0 (.ok p) := ⟨fun u e => by cases e; exact h.snd⟩
theorem KeptE.error {ε α : Type} {e : ε} : KeptE (α := α) s0 (.error e) := ⟨fun u h => by cases h⟩
theorem KeptE.outP {ε α : Type} {o : Except ε (α × State)} {p : α × State} (e : o = .ok p) (h : KeptE s0 o) : KeptP s0 p := ⟨h.of p e⟩
theorem KeptE.outM {ε α : Type} {o : Except ε (α × State)} {a : α} (e : o = .ok (a, t)) (h : KeptE s0 o) : Kept s0 t := h.of _ e

/-- A case on an optional value. -/
theorem Kept.elim {α : Type} {o : Option α} {f : α → State} (h : Kept s0 s) (k : ∀ a, Kept s0 (f a)) : Kept s0 (o.elim s f) := by
  cases o with
  | none => exact h
  | some a => exact k a
theorem KeptP.elim {α β : Type} {o : Option α} {p : β × State} {f : α → β × State} (h : KeptP s0 p) (k : ∀ a, KeptP s0 (f a)) :
    KeptP s0 (o.elim p f) := by
  cases o with
  | none => exact h
  | some a => exact k a

/-- An optional state with a default. -/
theorem KeptO.getD {o : Option State} (h : KeptO s0 o) (k : Kept s0 t) : Kept s0 (o.getD t) := by
  cases o with
  | none => exact k
  | some u => exact h.of u rfl

/-- A fold whose every step keeps. -/
theorem Kept.foldl {α : Type} {f : State → α → State} : ∀ {l : List α} {s : State}, Kept s0 s → (∀ t a, Kept s0 t → Kept s0 (f t a)) →
    Kept s0 (l.foldl f s)
  | [], _, h, _ => h
  | a :: l, s, h, hf => Kept.foldl (l := l) (hf s a h) hf

/-- A fold over a pair whose every step keeps. -/
theorem KeptP.foldl {α β : Type} {f : β × State → α → β × State} : ∀ {l : List α} {p : β × State}, KeptP s0 p →
    (∀ p a, KeptP s0 p → KeptP s0 (f p a)) → KeptP s0 (l.foldl f p)
  | [], _, h, _ => h
  | a :: l, p, h, hf => KeptP.foldl (l := l) (hf p a h) hf

theorem State.sound_iff : s.sound = true ↔ s.regsWf = true ∧ s.regsFit = true ∧ s.storesWf = true := by
  simp [State.sound, and_assoc]

/-- Storing a field keeps. -/
theorem State.put_kept {f : Field} {v i a : Nat} (h : Kept s0 s) : Kept s0 (s.put f v i a) := by
  refine ⟨h.queue, fun x => ?_⟩
  have k := State.sound_iff.1 (h.sound x)
  refine State.sound_iff.2 ⟨Sparse.wf_set RKey.lt_order _ _ k.1, ?_, k.2.2⟩
  have k2 := k.2.1
  simp only [State.regsFit, List.all_eq_true, decide_eq_true_eq] at k2 ⊢
  intro y hy
  rcases Sparse.mem_set hy with rfl | hy
  · exact Nat.mod_lt _ (Nat.two_pow_pos _)
  · exact k2 y hy

/-- A store holds some of the entries of another. -/
def Sub {α : Type} (l' l : List α) : Prop := ∃ f : α → Bool, l' = l.filter f

theorem Sub.rfl' {α : Type} {l : List α} : Sub l l := ⟨fun _ => true, by simp⟩
theorem Sub.nil {α : Type} {l : List α} : Sub [] l := ⟨fun _ => false, by simp⟩
theorem Sub.filter {α : Type} {l : List α} {f : α → Bool} : Sub (l.filter f) l := ⟨f, rfl⟩

theorem Sub.wf {α β : Type} [DecidableEq α] [DecidableEq β] {lt : α → α → Bool} {d : α → β} {l' l : List (α × β)}
    (o : Sparse.Order lt) (h : Sub l' l) (k : Sparse.wf lt d l = true) : Sparse.wf lt d l' = true := by
  obtain ⟨f, rfl⟩ := h
  exact Sparse.wf_filter o f k

/-- An update that leaves the queue and at most takes entries out of the sparse stores. -/
theorem Kept.same (h : Kept s0 s) (hp : t.pending = s.pending) (hr : Sub t.regs s.regs) (hs : Sub t.slots s.slots)
    (hw : Sub t.dataWin s.dataWin) (hd : Sub t.desc s.desc) (hf : Sub t.flash s.flash) : Kept s0 t := by
  refine ⟨hp.trans h.queue, fun x => ?_⟩
  have k := State.sound_iff.1 (h.sound x)
  refine State.sound_iff.2 ⟨hr.wf RKey.lt_order k.1, ?_, ?_⟩
  · obtain ⟨f, e⟩ := hr
    have k2 := k.2.1
    simp only [State.regsFit, e, List.all_eq_true, decide_eq_true_eq] at k2 ⊢
    exact fun y hy => k2 y (List.mem_of_mem_filter hy)
  · have k3 := k.2.2
    simp only [State.storesWf, Bool.and_eq_true] at k3 ⊢
    exact ⟨⟨⟨hs.wf Sparse.below_order k3.1.1.1, hw.wf Sparse.below_order k3.1.1.2⟩, hd.wf Sparse.below_order k3.1.2⟩,
      hf.wf Sparse.below_order k3.2⟩

/-- A new value of the sparse stores in canonical form keeps. -/
theorem Kept.stores (h : Kept s0 s) (hp : t.pending = s.pending) (hr : t.regs = s.regs)
    (hst : s.storesWf = true → t.storesWf = true) : Kept s0 t := by
  refine ⟨hp.trans h.queue, fun x => ?_⟩
  have k := State.sound_iff.1 (h.sound x)
  refine State.sound_iff.2 ⟨?_, ?_, hst k.2.2⟩
  · simpa only [State.regsWf, hr] using k.1
  · simpa only [State.regsFit, hr] using k.2.1

end Sys2Proof.Machine
end

