-- ==== Sys2Proof/Laws/KeptBase.lean ====
section
/-! SUPPORT. What the operations of Machine/Base.lean keep (`Kept`): one lemma each. -/

set_option linter.unusedVariables false

namespace Sys2Proof.Machine

theorem State.add_kept {s0 x0 : State} {x1 : Field} {x2 x3 : Nat} (h0 : Kept s0 x0) :
    Kept s0 (@State.add x0 x1 x2 x3) := by
  unfold State.add
  apply State.put_kept
  with_reducible assumption

theorem State.arm_kept {s0 x0 : State} {x1 : Nat} {x2 : Act} (h0 : Kept s0 x0) :
    Kept s0 (@State.arm x0 x1 x2) := by
  unfold State.arm
  extract_lets +onlyGivenNames v1
  have h1 : Kept s0 v1 := by
    unfold v1
    refine Kept.same (s := x0) ?_ rfl Sub.rfl' Sub.rfl' Sub.rfl' Sub.rfl' Sub.rfl'
    with_reducible assumption
  clear_value v1
  apply State.put_kept
  with_reducible assumption

theorem State.bump_kept {s0 x0 : State} {x1 : Field} {x2 : Nat} (h0 : Kept s0 x0) :
    Kept s0 (@State.bump x0 x1 x2) := by
  unfold State.bump
  apply State.add_kept
  with_reducible assumption

theorem State.emit_kept {s0 x0 : State} {x1 : Out} (h0 : Kept s0 x0) :
    Kept s0 (@State.emit x0 x1) := by
  unfold State.emit
  refine Kept.same (s := x0) ?_ rfl Sub.rfl' Sub.rfl' Sub.rfl' Sub.rfl' Sub.rfl'
  with_reducible assumption

theorem State.putFlag_kept {s0 x0 : State} {x1 : Field} {x2 : Bool} {x3 x4 : Nat} (h0 : Kept s0 x0) :
    Kept s0 (@State.putFlag x0 x1 x2 x3 x4) := by
  unfold State.putFlag
  apply State.put_kept
  with_reducible assumption

theorem State.sample_kept {s0 x0 : State} {x1 : Nat} {x2 : Int} (h0 : Kept s0 x0) :
    Kept s0 (@State.sample x0 x1 x2) := by
  unfold State.sample
  split
  · with_reducible assumption
  · split
    · apply State.bump_kept
      with_reducible assumption
    · extract_lets +onlyGivenNames v1
      clear_value v1
      apply State.bump_kept
      with_reducible assumption

theorem State.sampleExt_kept {s0 x0 : State} {x1 : Nat} {x2 : Int} (h0 : Kept s0 x0) :
    Kept s0 (@State.sampleExt x0 x1 x2) := by
  unfold State.sampleExt
  split
  · with_reducible assumption
  · split
    · apply State.bump_kept
      with_reducible assumption
    · extract_lets +onlyGivenNames v1
      have h1 : Kept s0 v1 := by
        unfold v1
        split
        · apply State.put_kept
          apply State.put_kept
          with_reducible assumption
        · with_reducible assumption
      clear_value v1
      split
      · apply State.put_kept
        apply State.put_kept
        with_reducible assumption
      · with_reducible assumption

theorem State.sampleBoth_kept {s0 x0 : State} {x1 x2 : Nat} {x3 : Int} (h0 : Kept s0 x0) :
    Kept s0 (@State.sampleBoth x0 x1 x2 x3) := by
  unfold State.sampleBoth
  split
  · split
    · apply State.bump_kept
      with_reducible assumption
    · with_reducible assumption
  · apply State.sampleExt_kept
    apply State.sample_kept
    with_reducible assumption

theorem State.takeFree_kept {s0 x0 : State} (h0 : Kept s0 x0) :
    KeptP s0 (@State.takeFree x0) := by
  unfold State.takeFree
  apply KeptP.mk'
  apply State.put_kept
  with_reducible assumption

theorem State.takeFreeBytes_kept {s0 x0 : State} (h0 : Kept s0 x0) :
    KeptP s0 (@State.takeFreeBytes x0) := by
  unfold State.takeFreeBytes
  apply KeptP.mk'
  apply State.put_kept
  with_reducible assumption

theorem forEach_kept {s0 : State} {x0 : Type} {x1 : List x0} {x2 : State} {x3 : x0 → State → State} (h0 : Kept s0 x2) (h1 : ∀ y0 y1, Kept s0 y1 →
    Kept s0 (x3 y0 y1)) :
    Kept s0 (@forEach x0 x1 x2 x3) := by
  unfold forEach
  apply Kept.foldl
  · with_reducible assumption
  · intro k1 k2 k3
    apply h1
    with_reducible assumption

end Sys2Proof.Machine
end

