-- ==== Sys2Proof/Laws/KeptTraffic.lean ====
section
/-! SUPPORT. What the operations of Machine/Traffic.lean keep (`Kept`): one lemma each. -/

set_option linter.unusedVariables false

namespace Sys2Proof.Machine

theorem State.askXlat_kept {s0 x0 : State} {x1 : Nat} {x2 : Option Nat} {x3 : Nat} (h0 : Kept s0 x0) :
    Kept s0 (@State.askXlat x0 x1 x2 x3) := by
  unfold State.askXlat
  split
  · split
    · apply State.emit_kept
      with_reducible assumption
    · with_reducible assumption
  · with_reducible assumption

theorem State.touchAts_kept {s0 x0 : State} {x1 : Nat} {x2 : Option Nat} {x3 : Nat} (h0 : Kept s0 x0) :
    Kept s0 (@State.touchAts x0 x1 x2 x3) := by
  unfold State.touchAts
  split
  · split
    · extract_lets +onlyGivenNames v1
      clear_value v1
      apply State.put_kept
      refine Kept.same (s := x0) ?_ rfl Sub.rfl' Sub.rfl' Sub.rfl' Sub.rfl' Sub.rfl'
      with_reducible assumption
    · with_reducible assumption
  · with_reducible assumption

theorem State.sendTlp_kept {s0 x0 : State} {x1 : Nat} {x2 : Option Nat} {x3 : Nat} {x4 x5 : Bool} {x6 : Out} (h0 : Kept s0 x0) :
    Kept s0 (@State.sendTlp x0 x1 x2 x3 x4 x5 x6) := by
  unfold State.sendTlp
  extract_lets +onlyGivenNames v1
  clear_value v1
  apply State.emit_kept
  apply State.emit_kept
  apply State.touchAts_kept
  with_reducible assumption

theorem State.flushHolds_kept {s0 x0 : State} {x1 : Nat} (h0 : Kept s0 x0) :
    Kept s0 (@State.flushHolds x0 x1) := by
  induction x1 generalizing x0 with
  | zero => exact h0
  | succ n ih =>
    unfold State.flushHolds
    split
    · exact ih (State.sendTlp_kept (Kept.same h0 rfl Sub.rfl' Sub.rfl' Sub.rfl' Sub.rfl' Sub.rfl'))
    · exact h0

theorem State.endCmd_kept {s0 x0 : State} {x1 : Nat} (h0 : Kept s0 x0) :
    Kept s0 (@State.endCmd x0 x1) := by
  unfold State.endCmd
  extract_lets +onlyGivenNames v1
  have h1 : Kept s0 v1 := by
    unfold v1
    refine Kept.same (s := x0) ?_ rfl Sub.rfl' Sub.rfl' Sub.rfl' Sub.rfl' Sub.rfl'
    with_reducible assumption
  clear_value v1
  apply State.flushHolds_kept
  with_reducible assumption

theorem State.releaseHolds_kept {s0 x0 : State} {x1 : Hold → Bool} (h0 : Kept s0 x0) :
    Kept s0 (@State.releaseHolds x0 x1) := by
  unfold State.releaseHolds
  extract_lets +onlyGivenNames v1
  have h1 : Kept s0 v1 := by
    unfold v1
    refine Kept.same (s := x0) ?_ rfl Sub.rfl' Sub.rfl' Sub.rfl' Sub.rfl' Sub.rfl'
    with_reducible assumption
  clear_value v1
  apply State.flushHolds_kept
  with_reducible assumption

theorem State.reportAer_kept {s0 x0 : State} {x1 x2 : Nat} (h0 : Kept s0 x0) :
    Kept s0 (@State.reportAer x0 x1 x2) := by
  unfold State.reportAer
  apply State.emit_kept
  apply State.put_kept
  with_reducible assumption

theorem State.send_kept {s0 x0 : State} {x1 : Hold} {x2 : Bool} (h0 : Kept s0 x0) :
    Kept s0 (@State.send x0 x1 x2) := by
  unfold State.send
  extract_lets +onlyGivenNames v1
  clear_value v1
  extract_lets +onlyGivenNames v2
  have h2 : Kept s0 v2 := by
    unfold v2
    apply State.askXlat_kept
    with_reducible assumption
  clear_value v2
  split
  · refine Kept.same (s := v2) ?_ rfl Sub.rfl' Sub.rfl' Sub.rfl' Sub.rfl' Sub.rfl'
    with_reducible assumption
  · apply State.sendTlp_kept
    with_reducible assumption

theorem State.sendFn_kept {s0 x0 : State} {x1 x2 : Nat} {x3 : Bool} {x4 x5 : Nat} {x6 : Out} (h0 : Kept s0 x0) :
    Kept s0 (@State.sendFn x0 x1 x2 x3 x4 x5 x6) := by
  unfold State.sendFn
  apply State.send_kept
  with_reducible assumption

theorem State.sendFor_kept {s0 x0 : State} {x1 : Cmd} {x2 : Bool} {x3 : Option Nat} {x4 : Nat} {x5 : Bool} {x6 : Out} (h0 : Kept s0 x0) :
    Kept s0 (@State.sendFor x0 x1 x2 x3 x4 x5 x6) := by
  unfold State.sendFor
  apply State.send_kept
  with_reducible assumption

theorem State.sendMsix_kept {s0 x0 : State} {x1 x2 : Nat} (h0 : Kept s0 x0) :
    Kept s0 (@State.sendMsix x0 x1 x2) := by
  unfold State.sendMsix
  split
  · with_reducible assumption
  · split
    · apply State.putFlag_kept
      with_reducible assumption
    · split
      · refine Kept.same (s := x0) ?_ rfl Sub.rfl' Sub.rfl' Sub.rfl' Sub.rfl' Sub.rfl'
        with_reducible assumption
      · apply State.emit_kept
        with_reducible assumption

end Sys2Proof.Machine
end

