-- ==== Sys2Proof/Laws/KeptCmds.lean ====
section
/-! SUPPORT. What the operations of Machine/Cmds.lean keep (`Kept`): one lemma each. -/

set_option linter.unusedVariables false

namespace Sys2Proof.Machine

theorem State.setCmd_kept {s0 x0 : State} {x1 : Cmd} (h0 : Kept s0 x0) :
    Kept s0 (@State.setCmd x0 x1) := by
  unfold State.setCmd
  refine Kept.same (s := x0) ?_ rfl Sub.rfl' Sub.rfl' Sub.rfl' Sub.rfl' Sub.rfl'
  with_reducible assumption

theorem State.logError_kept {s0 x0 : State} {x1 : Cmd} {x2 : Result} (h0 : Kept s0 x0) :
    Kept s0 (@State.logError x0 x1 x2) := by
  unfold State.logError
  split
  · with_reducible assumption
  · extract_lets +onlyGivenNames v1
    clear_value v1
    extract_lets +onlyGivenNames v2
    clear_value v2
    extract_lets +onlyGivenNames v3
    clear_value v3
    extract_lets +onlyGivenNames v4
    have h4 : Kept s0 v4 := by
      unfold v4
      split
      · apply State.bump_kept
        with_reducible assumption
      · with_reducible assumption
    clear_value v4
    apply State.put_kept
    refine Kept.same (s := v4) ?_ rfl Sub.rfl' Sub.rfl' Sub.rfl' Sub.rfl' Sub.rfl'
    with_reducible assumption

theorem State.countHost_kept {s0 x0 : State} {x1 : Cmd} {x2 : Result} (h0 : Kept s0 x0) :
    Kept s0 (@State.countHost x0 x1 x2) := by
  unfold State.countHost
  extract_lets +onlyGivenNames v1
  clear_value v1
  split
  · with_reducible assumption
  · split
    · apply State.put_kept
      apply State.bump_kept
      with_reducible assumption
    · split
      · apply State.put_kept
        apply State.bump_kept
        with_reducible assumption
      · with_reducible assumption

theorem State.sampleLatency_kept {s0 x0 : State} {x1 : Cmd} (h0 : Kept s0 x0) :
    Kept s0 (@State.sampleLatency x0 x1) := by
  unfold State.sampleLatency
  extract_lets +onlyGivenNames v1
  clear_value v1
  split
  · apply State.sampleBoth_kept
    with_reducible assumption
  · split
    · apply State.sample_kept
      with_reducible assumption
    · split
      · apply State.sample_kept
        with_reducible assumption
      · with_reducible assumption

theorem State.setCq_kept {s0 x0 : State} {x1 : ComplQ} (h0 : Kept s0 x0) :
    Kept s0 (@State.setCq x0 x1) := by
  unfold State.setCq
  refine Kept.same (s := x0) ?_ rfl Sub.rfl' Sub.rfl' Sub.rfl' Sub.rfl' Sub.rfl'
  with_reducible assumption

theorem State.postCqe_kept {s0 x0 : State} {x1 : Cmd} {x2 : Result} (h0 : Kept s0 x0) :
    Kept s0 (@State.postCqe x0 x1 x2) := by
  unfold State.postCqe
  split
  · apply State.endCmd_kept
    with_reducible assumption
  · split
    · apply State.endCmd_kept
      with_reducible assumption
    · split
      · apply State.endCmd_kept
        with_reducible assumption
      · split
        · apply State.setCmd_kept
          with_reducible assumption
        · extract_lets +onlyGivenNames v1
          clear_value v1
          extract_lets +onlyGivenNames v2
          have h2 : Kept s0 v2 := by
            unfold v2
            apply State.logError_kept
            apply State.countHost_kept
            apply State.sampleLatency_kept
            with_reducible assumption
          clear_value v2
          extract_lets +onlyGivenNames v3
          have h3 : Kept s0 v3 := by
            unfold v3
            apply State.sendFor_kept
            with_reducible assumption
          clear_value v3
          extract_lets +onlyGivenNames v4
          have h4 : Kept s0 v4 := by
            unfold v4
            split
            · apply State.sendMsix_kept
              with_reducible assumption
            · with_reducible assumption
          clear_value v4
          extract_lets +onlyGivenNames v5
          apply State.endCmd_kept
          apply State.setCq_kept
          with_reducible assumption

theorem State.asyncEvent_kept {s0 x0 : State} {x1 x2 x3 x4 : Nat} (h0 : Kept s0 x0) :
    Kept s0 (@State.asyncEvent x0 x1 x2 x3 x4) := by
  unfold State.asyncEvent
  split
  · apply State.postCqe_kept
    with_reducible assumption
  · split
    · with_reducible assumption
    · refine Kept.same (s := x0) ?_ rfl Sub.rfl' Sub.rfl' Sub.rfl' Sub.rfl' Sub.rfl'
      with_reducible assumption

theorem State.muteCmds_kept {s0 x0 : State} {x1 : Scope} (h0 : Kept s0 x0) :
    Kept s0 (@State.muteCmds x0 x1) := by
  unfold State.muteCmds
  extract_lets +onlyGivenNames v1
  clear_value v1
  extract_lets +onlyGivenNames v2
  clear_value v2
  extract_lets +onlyGivenNames v3
  clear_value v3
  apply State.put_kept
  refine Kept.same (s := x0) ?_ rfl Sub.rfl' Sub.rfl' Sub.filter Sub.rfl' Sub.rfl'
  with_reducible assumption

theorem State.unpinLine_kept {s0 x0 : State} {x1 x2 : Nat} (h0 : Kept s0 x0) :
    Kept s0 (@State.unpinLine x0 x1 x2) := by
  unfold State.unpinLine
  refine Kept.same (s := x0) ?_ rfl Sub.rfl' Sub.rfl' Sub.rfl' Sub.rfl' Sub.rfl'
  with_reducible assumption

theorem State.releasePin_kept {s0 x0 : State} {x1 : Pin} (h0 : Kept s0 x0) :
    Kept s0 (@State.releasePin x0 x1) := by
  unfold State.releasePin
  extract_lets +onlyGivenNames v1
  have h1 : Kept s0 v1 := by
    unfold v1
    refine Kept.same (s := x0) ?_ rfl Sub.rfl' Sub.rfl' Sub.rfl' Sub.rfl' Sub.rfl'
    with_reducible assumption
  clear_value v1
  apply forEach_kept
  · with_reducible assumption
  · intro k2 k3 k4
    apply State.unpinLine_kept
    with_reducible assumption

theorem State.releaseFnPins_kept {s0 x0 : State} {x1 : Nat} (h0 : Kept s0 x0) :
    Kept s0 (@State.releaseFnPins x0 x1) := by
  unfold State.releaseFnPins
  apply forEach_kept
  · with_reducible assumption
  · intro k1 k2 k3
    apply State.releasePin_kept
    with_reducible assumption

theorem State.dropAts_kept {s0 x0 : State} {x1 : Nat} (h0 : Kept s0 x0) :
    Kept s0 (@State.dropAts x0 x1) := by
  unfold State.dropAts
  refine Kept.same (s := x0) ?_ rfl Sub.rfl' Sub.rfl' Sub.rfl' Sub.rfl' Sub.rfl'
  with_reducible assumption

theorem State.startQueueDisable_kept {s0 x0 : State} {x1 : Nat} (h0 : Kept s0 x0) :
    Kept s0 (@State.startQueueDisable x0 x1) := by
  unfold State.startQueueDisable
  apply State.putFlag_kept
  apply State.put_kept
  with_reducible assumption

theorem State.setSq_kept {s0 x0 : State} {x1 : SubQ} (h0 : Kept s0 x0) :
    Kept s0 (@State.setSq x0 x1) := by
  unfold State.setSq
  refine Kept.same (s := x0) ?_ rfl Sub.rfl' Sub.rfl' Sub.rfl' Sub.rfl' Sub.rfl'
  with_reducible assumption

theorem State.disablePoint_kept {s0 x0 : State} {x1 : Scope} {x2 : Nat} (h0 : Kept s0 x0) :
    Kept s0 (@State.disablePoint x0 x1 x2) := by
  unfold State.disablePoint
  extract_lets +onlyGivenNames v1
  have h1 : Kept s0 v1 := by
    unfold v1
    apply State.muteCmds_kept
    with_reducible assumption
  clear_value v1
  split
  · extract_lets +onlyGivenNames v2
    have h2 : Kept s0 v2 := by
      unfold v2
      apply State.releaseFnPins_kept
      apply State.dropAts_kept
      with_reducible assumption
    clear_value v2
    extract_lets +onlyGivenNames v3
    have h3 : Kept s0 v3 := by
      unfold v3
      apply forEach_kept
      · with_reducible assumption
      · intro k4 k5 k6
        apply State.startQueueDisable_kept
        with_reducible assumption
    clear_value v3
    extract_lets +onlyGivenNames v7
    have h7 : Kept s0 v7 := by
      unfold v7
      apply State.put_kept
      apply State.putFlag_kept
      with_reducible assumption
    clear_value v7
    split
    · apply State.putFlag_kept
      apply State.putFlag_kept
      with_reducible assumption
    · with_reducible assumption
  · apply State.putFlag_kept
    with_reducible assumption
  · split
    · apply State.setSq_kept
      with_reducible assumption
    · with_reducible assumption
  · apply State.startQueueDisable_kept
    with_reducible assumption

theorem State.drainFn_kept {s0 x0 : State} {x1 : Nat} (h0 : Kept s0 x0) :
    Kept s0 (@State.drainFn x0 x1) := by
  unfold State.drainFn
  apply forEach_kept
  · with_reducible assumption
  · intro k1 k2 k3
    split
    · split
      · apply State.postCqe_kept
        with_reducible assumption
      · with_reducible assumption
    · with_reducible assumption

theorem State.drainCq_kept {s0 x0 : State} {x1 x2 : Nat} (h0 : Kept s0 x0) :
    Kept s0 (@State.drainCq x0 x1 x2) := by
  unfold State.drainCq
  extract_lets +onlyGivenNames v1
  have h1 : Kept s0 v1 := by
    unfold v1
    apply forEach_kept
    · with_reducible assumption
    · intro k2 k3 k4
      split
      · split
        · apply State.postCqe_kept
          with_reducible assumption
        · with_reducible assumption
      · with_reducible assumption
  clear_value v1
  apply State.drainFn_kept
  with_reducible assumption

theorem State.sendDma_kept {s0 x0 : State} {x1 : Cmd} {x2 : Nat} {x3 : List Byte} (h0 : Kept s0 x0) :
    Kept s0 (@State.sendDma x0 x1 x2 x3) := by
  unfold State.sendDma
  apply State.sendFor_kept
  with_reducible assumption

theorem State.sendPtr_kept {s0 x0 : State} {x1 : Cmd} {x2 : Nat} {x3 : List Byte} (h0 : Kept s0 x0) :
    Kept s0 (@State.sendPtr x0 x1 x2 x3) := by
  unfold State.sendPtr
  apply State.sendFor_kept
  with_reducible assumption

end Sys2Proof.Machine
end

