-- ==== Sys2Proof/Laws/KeptFaults.lean ====
section
/-! SUPPORT. What the operations of Machine/Faults.lean keep (`Kept`): one lemma each. -/

set_option linter.unusedVariables false

namespace Sys2Proof.Machine

theorem State.setReq_kept {s0 x0 : State} {x1 x2 x3 x4 : Nat} (h0 : Kept s0 x0) :
    Kept s0 (@State.setReq x0 x1 x2 x3 x4) := by
  unfold State.setReq
  apply State.put_kept
  apply State.put_kept
  apply State.put_kept
  with_reducible assumption

theorem State.markResetting_kept {s0 x0 : State} {x1 : Nat} (h0 : Kept s0 x0) :
    Kept s0 (@State.markResetting x0 x1) := by
  unfold State.markResetting
  apply forEach_kept
  · with_reducible assumption
  · intro k1 k2 k3
    apply State.putFlag_kept
    apply State.putFlag_kept
    with_reducible assumption

theorem State.acceptReset_kept {s0 x0 : State} {x1 : Nat} {x2 x3 : Bool} (h0 : Kept s0 x0) :
    Kept s0 (@State.acceptReset x0 x1 x2 x3) := by
  unfold State.acceptReset
  extract_lets +onlyGivenNames v1
  have h1 : Kept s0 v1 := by
    unfold v1
    apply State.putFlag_kept
    apply State.putFlag_kept
    apply State.setReq_kept
    with_reducible assumption
  clear_value v1
  split
  · apply State.arm_kept
    with_reducible assumption
  · split
    · with_reducible assumption
    · apply State.markResetting_kept
      with_reducible assumption

theorem State.clearLevel_kept {s0 x0 : State} {x1 : Nat} (h0 : Kept s0 x0) :
    Kept s0 (@State.clearLevel x0 x1) := by
  unfold State.clearLevel
  apply State.putFlag_kept
  refine Kept.same (s := x0) ?_ rfl Sub.filter Sub.rfl' Sub.rfl' Sub.rfl' Sub.rfl'
  with_reducible assumption

theorem State.clearLevelAt_kept {s0 x0 : State} {x1 x2 : Nat} (h0 : Kept s0 x0) :
    Kept s0 (@State.clearLevelAt x0 x1 x2) := by
  unfold State.clearLevelAt
  split
  · with_reducible assumption
  · extract_lets +onlyGivenNames v1
    have h1 : Kept s0 v1 := by
      unfold v1
      apply State.put_kept
      with_reducible assumption
    clear_value v1
    split
    · apply State.putFlag_kept
      with_reducible assumption
    · apply State.put_kept
      apply State.put_kept
      with_reducible assumption

theorem State.closeWindow_kept {s0 x0 : State} {x1 : Nat} (h0 : Kept s0 x0) :
    Kept s0 (@State.closeWindow x0 x1) := by
  unfold State.closeWindow
  apply State.put_kept
  apply State.putFlag_kept
  apply State.put_kept
  with_reducible assumption

theorem State.countClass_kept {s0 x0 : State} {x1 : Nat} (h0 : Kept s0 x0) :
    Kept s0 (@State.countClass x0 x1) := by
  unfold State.countClass
  split
  · apply State.bump_kept
    with_reducible assumption
  · apply State.bump_kept
    with_reducible assumption
  · apply State.bump_kept
    with_reducible assumption
  · with_reducible assumption

theorem State.setClassBit_kept {s0 x0 : State} {x1 x2 : Nat} (h0 : Kept s0 x0) :
    Kept s0 (@State.setClassBit x0 x1 x2) := by
  unfold State.setClassBit
  split
  · apply State.putFlag_kept
    with_reducible assumption
  · apply State.putFlag_kept
    with_reducible assumption
  · apply State.putFlag_kept
    with_reducible assumption
  · with_reducible assumption

theorem State.wake_kept {s0 x0 : State} {x1 x2 : Nat} (h0 : Kept s0 x0) :
    Kept s0 (@State.wake x0 x1 x2) := by
  unfold State.wake
  split
  · apply State.put_kept
    with_reducible assumption
  · with_reducible assumption

theorem State.nmi_kept {s0 x0 : State} {x1 : Nat} (h0 : Kept s0 x0) :
    Kept s0 (@State.nmi x0 x1) := by
  unfold State.nmi
  split
  · with_reducible assumption
  · apply State.emit_kept
    with_reducible assumption

theorem State.refuseAt_kept {s0 x0 : State} {x1 : Nat} (h0 : Kept s0 x0) :
    Kept s0 (@State.refuseAt x0 x1) := by
  unfold State.refuseAt
  apply State.bump_kept
  apply State.putFlag_kept
  with_reducible assumption

theorem State.disarmUnit_kept {s0 x0 : State} {x1 : Nat} (h0 : Kept s0 x0) :
    Kept s0 (@State.disarmUnit x0 x1) := by
  unfold State.disarmUnit
  refine Kept.same (s := x0) ?_ rfl Sub.rfl' Sub.rfl' Sub.rfl' Sub.rfl' Sub.rfl'
  with_reducible assumption

theorem State.submitReset_kept {s0 x0 : State} {x1 : Agent} {x2 : Nat} {x3 x4 : Bool} (h0 : Kept s0 x0) :
    Kept s0 (@State.submitReset x0 x1 x2 x3 x4) := by
  unfold State.submitReset
  extract_lets +onlyGivenNames v1
  clear_value v1
  split
  · split
    · split
      · apply State.acceptReset_kept
        apply State.refuseAt_kept
        apply State.putFlag_kept
        apply State.setReq_kept
        apply State.disarmUnit_kept
        with_reducible assumption
      · apply State.refuseAt_kept
        with_reducible assumption
    · apply State.bump_kept
      with_reducible assumption
  · split
    · apply State.acceptReset_kept
      with_reducible assumption
    · apply State.refuseAt_kept
      apply State.setReq_kept
      with_reducible assumption

theorem State.shedHosts_kept {s0 x0 : State} (h0 : Kept s0 x0) :
    Kept s0 (@State.shedHosts x0) := by
  unfold State.shedHosts
  extract_lets +onlyGivenNames v1
  have h1 : Kept s0 v1 := by
    unfold v1
    apply State.putFlag_kept
    with_reducible assumption
  clear_value v1
  apply forEach_kept
  · with_reducible assumption
  · intro k2 k3 k4
    apply State.disablePoint_kept
    with_reducible assumption

theorem State.requestChipReset_kept {s0 x0 : State} {x1 : Bool} {x2 : Nat} (h0 : Kept s0 x0) :
    Kept s0 (@State.requestChipReset x0 x1 x2) := by
  unfold State.requestChipReset
  split
  · extract_lets +onlyGivenNames v1
    have h1 : Kept s0 v1 := by
      unfold v1
      apply State.put_kept
      apply State.put_kept
      with_reducible assumption
    clear_value v1
    extract_lets +onlyGivenNames v2
    have h2 : Kept s0 v2 := by
      unfold v2
      split
      · with_reducible assumption
      · apply State.putFlag_kept
        with_reducible assumption
    clear_value v2
    split
    · apply State.shedHosts_kept
      with_reducible assumption
    · with_reducible assumption
  · split
    · apply State.put_kept
      with_reducible assumption
    · with_reducible assumption

theorem State.react_kept {s0 x0 : State} {x1 x2 x3 : Nat} (h0 : Kept s0 x0) :
    Kept s0 (@State.react x0 x1 x2 x3) := by
  unfold State.react
  extract_lets +onlyGivenNames v1
  have h1 : Kept s0 v1 := by
    unfold v1
    split
    · apply State.sendMsix_kept
      with_reducible assumption
    · with_reducible assumption
  clear_value v1
  extract_lets +onlyGivenNames v2
  have h2 : Kept s0 v2 := by
    unfold v2
    split
    · apply State.wake_kept
      apply State.emit_kept
      with_reducible assumption
    · with_reducible assumption
  clear_value v2
  split
  · apply State.putFlag_kept
    with_reducible assumption
  · extract_lets +onlyGivenNames v3
    have h3 : Kept s0 v3 := by
      unfold v3
      split
      · apply State.nmi_kept
        with_reducible assumption
      · with_reducible assumption
    clear_value v3
    extract_lets +onlyGivenNames v4
    have h4 : Kept s0 v4 := by
      unfold v4
      split
      · apply State.submitReset_kept
        with_reducible assumption
      · with_reducible assumption
    clear_value v4
    split
    · apply State.requestChipReset_kept
      apply State.bump_kept
      apply State.putFlag_kept
      apply State.put_kept
      with_reducible assumption
    · with_reducible assumption

theorem State.severe_kept {s0 x0 : State} {x1 x2 : Nat} (h0 : Kept s0 x0) :
    Kept s0 (@State.severe x0 x1 x2) := by
  unfold State.severe
  extract_lets +onlyGivenNames v1
  clear_value v1
  extract_lets +onlyGivenNames v2
  clear_value v2
  extract_lets +onlyGivenNames v3
  clear_value v3
  extract_lets +onlyGivenNames v4
  clear_value v4
  extract_lets +onlyGivenNames v5
  have h5 : Kept s0 v5 := by
    unfold v5
    apply State.putFlag_kept
    apply State.putFlag_kept
    with_reducible assumption
  clear_value v5
  extract_lets +onlyGivenNames v6
  have h6 : Kept s0 v6 := by
    unfold v6
    apply State.putFlag_kept
    with_reducible assumption
  clear_value v6
  extract_lets +onlyGivenNames v7
  have h7 : Kept s0 v7 := by
    unfold v7
    apply State.putFlag_kept
    apply State.putFlag_kept
    apply State.put_kept
    with_reducible assumption
  clear_value v7
  extract_lets +onlyGivenNames v8
  have h8 : Kept s0 v8 := by
    unfold v8
    split
    · apply State.bump_kept
      with_reducible assumption
    · with_reducible assumption
  clear_value v8
  extract_lets +onlyGivenNames v9
  have h9 : Kept s0 v9 := by
    unfold v9
    split
    · apply State.emit_kept
      apply State.putFlag_kept
      with_reducible assumption
    · with_reducible assumption
  clear_value v9
  apply State.react_kept
  with_reducible assumption

theorem State.plynEvent_kept {s0 x0 : State} (h0 : Kept s0 x0) :
    Kept s0 (@State.plynEvent x0) := by
  unfold State.plynEvent
  split
  · apply State.asyncEvent_kept
    with_reducible assumption
  · with_reducible assumption

theorem State.event_kept {s0 x0 : State} {x1 x2 x3 : Nat} (h0 : Kept s0 x0) :
    Kept s0 (@State.event x0 x1 x2 x3) := by
  unfold State.event
  split
  · with_reducible assumption
  · extract_lets +onlyGivenNames v1
    clear_value v1
    extract_lets +onlyGivenNames v2
    clear_value v2
    extract_lets +onlyGivenNames v3
    have h3 : Kept s0 v3 := by
      unfold v3
      apply State.putFlag_kept
      with_reducible assumption
    clear_value v3
    extract_lets +onlyGivenNames v4
    have h4 : Kept s0 v4 := by
      unfold v4
      split
      · apply State.put_kept
        with_reducible assumption
      · with_reducible assumption
    clear_value v4
    extract_lets +onlyGivenNames v5
    have h5 : Kept s0 v5 := by
      unfold v5
      apply State.put_kept
      apply State.put_kept
      apply State.put_kept
      with_reducible assumption
    clear_value v5
    extract_lets +onlyGivenNames v6
    have h6 : Kept s0 v6 := by
      unfold v6
      apply State.countClass_kept
      apply State.bump_kept
      with_reducible assumption
    clear_value v6
    extract_lets +onlyGivenNames v7
    have h7 : Kept s0 v7 := by
      unfold v7
      apply State.bump_kept
      apply State.setClassBit_kept
      with_reducible assumption
    clear_value v7
    extract_lets +onlyGivenNames v8
    have h8 : Kept s0 v8 := by
      unfold v8
      split
      · apply State.put_kept
        apply State.put_kept
        with_reducible assumption
      · apply State.put_kept
        with_reducible assumption
    clear_value v8
    extract_lets +onlyGivenNames v9
    clear_value v9
    extract_lets +onlyGivenNames v10
    have h10 : Kept s0 v10 := by
      unfold v10
      split
      · apply State.severe_kept
        with_reducible assumption
      · with_reducible assumption
    clear_value v10
    split
    · apply State.plynEvent_kept
      with_reducible assumption
    · with_reducible assumption

theorem State.raise_kept {s0 x0 : State} {x1 x2 x3 : Nat} (h0 : Kept s0 x0) :
    Kept s0 (@State.raise x0 x1 x2 x3) := by
  unfold State.raise
  split
  · extract_lets +onlyGivenNames v1
    have h1 : Kept s0 v1 := by
      unfold v1
      apply State.put_kept
      with_reducible assumption
    clear_value v1
    split
    · with_reducible assumption
    · apply State.event_kept
      apply State.put_kept
      apply State.put_kept
      apply State.putFlag_kept
      with_reducible assumption
  · apply State.event_kept
    with_reducible assumption

theorem State.decodeFault_kept {s0 x0 : State} {x1 : Agent} (h0 : Kept s0 x0) :
    Kept s0 (@State.decodeFault x0 x1) := by
  unfold State.decodeFault
  apply State.raise_kept
  with_reducible assumption

theorem State.haltPair_kept {s0 x0 : State} {x1 : Nat} (h0 : Kept s0 x0) :
    Kept s0 (@State.haltPair x0 x1) := by
  unfold State.haltPair
  extract_lets +onlyGivenNames v1
  clear_value v1
  extract_lets +onlyGivenNames v2
  have h2 : Kept s0 v2 := by
    unfold v2
    apply State.putFlag_kept
    apply State.putFlag_kept
    with_reducible assumption
  clear_value v2
  split
  · apply State.raise_kept
    with_reducible assumption
  · apply State.raise_kept
    with_reducible assumption

theorem State.noteDemand_kept {s0 x0 x1 : State} (h0 : Kept s0 x0) (h1 : Kept s0 x1) :
    Kept s0 (@State.noteDemand x0 x1) := by
  unfold State.noteDemand
  split
  · with_reducible assumption
  · apply State.wake_kept
    with_reducible assumption

theorem State.refusePower_kept {s0 x0 : State} (h0 : Kept s0 x0) :
    Kept s0 (@State.refusePower x0) := by
  unfold State.refusePower
  extract_lets +onlyGivenNames v1
  clear_value v1
  apply forEach_kept
  · with_reducible assumption
  · intro k2 k3 k4
    apply State.refuseAt_kept
    apply State.putFlag_kept
    apply State.setReq_kept
    apply State.disarmUnit_kept
    with_reducible assumption

theorem State.submitPower_kept {s0 x0 : State} {x1 : Agent} {x2 x3 : Nat} {x4 : Bool} (h0 : Kept s0 x0) :
    Kept s0 (@State.submitPower x0 x1 x2 x3 x4) := by
  unfold State.submitPower
  split
  · apply State.bump_kept
    with_reducible assumption
  · split
    · apply State.refuseAt_kept
      apply State.setReq_kept
      with_reducible assumption
    · extract_lets +onlyGivenNames v1
      have h1 : Kept s0 v1 := by
        unfold v1
        apply State.put_kept
        apply State.putFlag_kept
        apply State.setReq_kept
        with_reducible assumption
      clear_value v1
      split
      · apply State.arm_kept
        with_reducible assumption
      · with_reducible assumption

theorem State.updateErrN_kept {s0 x0 : State} (h0 : Kept s0 x0) :
    Kept s0 (@State.updateErrN x0) := by
  unfold State.updateErrN
  extract_lets +onlyGivenNames v1
  clear_value v1
  split
  · with_reducible assumption
  · apply State.emit_kept
    apply State.putFlag_kept
    with_reducible assumption

end Sys2Proof.Machine
end

