-- ==== Sys2Proof/Laws/KeptReplies.lean ====
section
/-! SUPPORT. What the operations of Machine/Replies.lean keep (`Kept`): one lemma each. -/

set_option linter.unusedVariables false

namespace Sys2Proof.Machine

theorem State.namePin_kept {s0 x0 : State} {x1 : Cmd} {x2 : Result} (h0 : Kept s0 x0) :
    KeptP s0 (@State.namePin x0 x1 x2) := by
  unfold State.namePin
  split
  · extract_lets +onlyGivenNames v1
    clear_value v1
    apply KeptP.mk'
    refine Kept.same (s := x0) ?_ rfl Sub.rfl' Sub.rfl' Sub.rfl' Sub.rfl' Sub.rfl'
    with_reducible assumption
  · apply KeptP.mk'
    with_reducible assumption

theorem State.putOutstanding_kept {s0 x0 : State} {x1 x2 : Nat} (h0 : Kept s0 x0) :
    Kept s0 (@State.putOutstanding x0 x1 x2) := by
  unfold State.putOutstanding
  apply State.put_kept
  apply State.put_kept
  with_reducible assumption

theorem State.writeReply_kept {s0 x0 : State} {x1 : Cmd} {x2 : Result} (h0 : Kept s0 x0) :
    Kept s0 (@State.writeReply x0 x1 x2) := by
  unfold State.writeReply
  split
  extract_lets +onlyGivenNames v1
  clear_value v1
  extract_lets +onlyGivenNames v2
  clear_value v2
  extract_lets +onlyGivenNames v3
  clear_value v3
  extract_lets +onlyGivenNames v4
  clear_value v4
  extract_lets +onlyGivenNames v5
  clear_value v5
  extract_lets +onlyGivenNames v6
  have h6 : Kept s0 v6 := by
    unfold v6
    apply State.sendFor_kept
    refine KeptP.eq (by assumption) ?_
    apply State.namePin_kept
    with_reducible assumption
  clear_value v6
  extract_lets +onlyGivenNames v7
  have h7 : Kept s0 v7 := by
    unfold v7
    apply State.endCmd_kept
    apply State.putOutstanding_kept
    apply State.put_kept
    with_reducible assumption
  clear_value v7
  extract_lets +onlyGivenNames v8
  have h8 : Kept s0 v8 := by
    unfold v8
    split
    · apply State.sampleBoth_kept
      apply State.raise_kept
      apply State.bump_kept
      with_reducible assumption
    · with_reducible assumption
  clear_value v8
  extract_lets +onlyGivenNames v9
  have h9 : Kept s0 v9 := by
    unfold v9
    apply State.sampleLatency_kept
    with_reducible assumption
  clear_value v9
  extract_lets +onlyGivenNames v10
  have h10 : Kept s0 v10 := by
    unfold v10
    refine Kept.same (s := v9) ?_ rfl Sub.rfl' Sub.rfl' Sub.rfl' Sub.rfl' Sub.rfl'
    with_reducible assumption
  clear_value v10
  split
  · extract_lets +onlyGivenNames v11
    clear_value v11
    split
    · apply State.put_kept
      apply State.sendMsix_kept
      with_reducible assumption
    · apply State.put_kept
      with_reducible assumption
  · with_reducible assumption

theorem State.drainStrict_kept {s0 x0 : State} {x1 x2 : Nat} (h0 : Kept s0 x0) :
    Kept s0 (@State.drainStrict x0 x1 x2) := by
  induction x2 generalizing x0 with
  | zero => exact h0
  | succ n ih =>
    unfold State.drainStrict
    split
    · split
      · split
        · exact ih (State.writeReply_kept h0)
        · exact h0
      · exact h0
    · exact h0

theorem State.finish_kept {s0 x0 : State} {x1 : Cmd} {x2 : Result} (h0 : Kept s0 x0) :
    Kept s0 (@State.finish x0 x1 x2) := by
  unfold State.finish
  extract_lets +onlyGivenNames v1
  have h1 : Kept s0 v1 := by
    unfold v1
    split
    · apply State.bump_kept
      with_reducible assumption
    · with_reducible assumption
  clear_value v1
  extract_lets +onlyGivenNames v2
  clear_value v2
  extract_lets +onlyGivenNames v3
  clear_value v3
  extract_lets +onlyGivenNames v4
  clear_value v4
  extract_lets +onlyGivenNames v5
  clear_value v5
  split
  · apply State.endCmd_kept
    with_reducible assumption
  · split
    · apply State.drainFn_kept
      apply State.postCqe_kept
      with_reducible assumption
    · split
      · apply State.drainStrict_kept
        apply State.setCmd_kept
        with_reducible assumption
      · apply State.writeReply_kept
        with_reducible assumption

theorem State.endMuted_kept {s0 x0 : State} {x1 : Cmd} (h0 : Kept s0 x0) :
    Kept s0 (@State.endMuted x0 x1) := by
  unfold State.endMuted
  apply State.finish_kept
  with_reducible assumption

theorem State.postEvent_kept {s0 x0 : State} {x1 x2 x3 x4 x5 : Nat} (h0 : Kept s0 x0) :
    Kept s0 (@State.postEvent x0 x1 x2 x3 x4 x5) := by
  unfold State.postEvent
  split
  · with_reducible assumption
  · extract_lets +onlyGivenNames v1
    clear_value v1
    split
    · apply State.putFlag_kept
      apply State.putFlag_kept
      with_reducible assumption
    · extract_lets +onlyGivenNames v2
      clear_value v2
      extract_lets +onlyGivenNames v3
      have h3 : Kept s0 v3 := by
        unfold v3
        apply State.sendFn_kept
        with_reducible assumption
      clear_value v3
      extract_lets +onlyGivenNames v4
      have h4 : Kept s0 v4 := by
        unfold v4
        apply State.putFlag_kept
        apply State.put_kept
        with_reducible assumption
      clear_value v4
      split
      · apply State.sendMsix_kept
        with_reducible assumption
      · with_reducible assumption

theorem State.postHeld_kept {s0 x0 : State} (h0 : Kept s0 x0) :
    Kept s0 (@State.postHeld x0) := by
  unfold State.postHeld
  apply forEach_kept
  · with_reducible assumption
  · intro k1 k2 k3
    split
    · split
      · apply State.postCqe_kept
        with_reducible assumption
      · split
        · apply State.drainStrict_kept
          with_reducible assumption
        · apply State.writeReply_kept
          with_reducible assumption
    · with_reducible assumption

theorem State.queueError_kept {s0 x0 : State} {x1 x2 x3 : Nat} (h0 : Kept s0 x0) :
    Kept s0 (@State.queueError x0 x1 x2 x3) := by
  unfold State.queueError
  extract_lets +onlyGivenNames v1
  clear_value v1
  extract_lets +onlyGivenNames v2
  have h2 : Kept s0 v2 := by
    unfold v2
    apply State.put_kept
    apply State.put_kept
    with_reducible assumption
  clear_value v2
  extract_lets +onlyGivenNames v3
  have h3 : Kept s0 v3 := by
    unfold v3
    split
    · apply State.muteCmds_kept
      with_reducible assumption
    · split
      · apply State.finish_kept
        with_reducible assumption
      · with_reducible assumption
  clear_value v3
  extract_lets +onlyGivenNames v4
  have h4 : Kept s0 v4 := by
    unfold v4
    apply State.bump_kept
    apply State.postEvent_kept
    with_reducible assumption
  clear_value v4
  apply State.raise_kept
  with_reducible assumption

end Sys2Proof.Machine
end

