-- ==== Sys2Proof/Laws/KeptAccess.lean ====
section
/-! SUPPORT. What the operations of Machine/Access.lean keep (`Kept`): one lemma each. -/

set_option linter.unusedVariables false

namespace Sys2Proof.Machine

theorem State.gateAll_kept {s0 x0 : State} {x1 : List Nat} {x2 : Nat} (h0 : Kept s0 x0) :
    Kept s0 (@State.gateAll x0 x1 x2) := by
  unfold State.gateAll
  apply forEach_kept
  · with_reducible assumption
  · intro k1 k2 k3
    apply State.put_kept
    with_reducible assumption

theorem State.wakeUnit_kept {s0 x0 : State} {x1 : Nat} (h0 : Kept s0 x0) :
    Kept s0 (@State.wakeUnit x0 x1) := by
  unfold State.wakeUnit
  extract_lets +onlyGivenNames v1
  have h1 : Kept s0 v1 := by
    unfold v1
    apply forEach_kept
    · with_reducible assumption
    · intro k2 k3 k4
      split
      · apply State.put_kept
        with_reducible assumption
      · with_reducible assumption
  clear_value v1
  apply State.gateAll_kept
  with_reducible assumption

theorem State.reachUnit_kept {s0 x0 : State} {x1 : Nat} {x2 : Option Nat} (h0 : Kept s0 x0) :
    KeptO s0 (@State.reachUnit x0 x1 x2) := by
  unfold State.reachUnit
  extract_lets +onlyGivenNames v1
  clear_value v1
  split
  · apply KeptO.some
    with_reducible assumption
  · split
    · exact KeptO.none
    · split
      apply KeptO.some
      apply State.add_kept
      apply State.bump_kept
      apply State.wakeUnit_kept
      refine KeptP.eq (by assumption) ?_
      apply KeptP.elim
      · apply State.takeFree_kept
        with_reducible assumption
      · intro k2
        apply KeptP.mk'
        with_reducible assumption

theorem State.atUnit_kept {s0 x0 : State} {x1 : Nat} {x2 : State → State} (h0 : Kept s0 x0) (h1 : ∀ y0, Kept s0 y0 → Kept s0 (x2 y0)) :
    Kept s0 (@State.atUnit x0 x1 x2) := by
  unfold State.atUnit
  split
  · apply State.refuseAt_kept
    with_reducible assumption
  · apply h1
    refine KeptO.out (by assumption) ?_
    apply State.reachUnit_kept
    with_reducible assumption

theorem State.guardWrite_kept {s0 x0 : State} {x1 : Agent} {x2 : Writers} {x3 : State → State} (h0 : Kept s0 x0) (h1 : ∀ y0, Kept s0 y0 → Kept s0 (x3
    y0)) :
    Kept s0 (@State.guardWrite x0 x1 x2 x3) := by
  unfold State.guardWrite
  split
  · apply State.decodeFault_kept
    with_reducible assumption
  · split
    · apply h1
      with_reducible assumption
    · with_reducible assumption

theorem State.readAt_kept {s0 x0 : State} {x1 x2 : Nat} {x3 : State → Nat × State} (h0 : Kept s0 x0) (h1 : ∀ y0, Kept s0 y0 → KeptP s0 (x3 y0)) :
    KeptP s0 (@State.readAt x0 x1 x2 x3) := by
  unfold State.readAt
  split
  · apply KeptP.mk'
    apply State.refuseAt_kept
    with_reducible assumption
  · apply h1
    refine KeptO.out (by assumption) ?_
    apply State.reachUnit_kept
    with_reducible assumption

theorem State.unlessLocked_kept {s0 x0 : State} {x1 : Agent} {x2 : List Field} {x3 : State → State} {x4 : Nat} (h0 : Kept s0 x0) (h1 : ∀ y0, Kept s0
    y0 → Kept s0 (x3 y0)) :
    Kept s0 (@State.unlessLocked x0 x1 x2 x3 x4) := by
  unfold State.unlessLocked
  split
  · apply State.decodeFault_kept
    with_reducible assumption
  · apply h1
    with_reducible assumption

theorem State.writeRw_kept {s0 x0 : State} {x1 : Agent} {x2 : Reg} {x3 x4 x5 : Nat} (h0 : Kept s0 x0) :
    Kept s0 (@State.writeRw x0 x1 x2 x3 x4 x5) := by
  unfold State.writeRw
  extract_lets +onlyGivenNames v1
  clear_value v1
  extract_lets +onlyGivenNames v2
  clear_value v2
  extract_lets +onlyGivenNames v3
  have h3 : Kept s0 v3 := by
    unfold v3
    apply forEach_kept
    · with_reducible assumption
    · intro k4 k5 k6
      apply State.put_kept
      with_reducible assumption
  clear_value v3
  split
  · apply State.decodeFault_kept
    with_reducible assumption
  · with_reducible assumption

end Sys2Proof.Machine
end

