-- ==== Sys2Proof/Laws/KeptTick.lean ====
section
/-! SUPPORT. What the operations of Machine/Tick.lean keep (`Kept`): one lemma each. -/

set_option linter.unusedVariables false

namespace Sys2Proof.Machine

theorem State.correctPhase_kept {s0 x0 : State} {x1 : Int} (h0 : Kept s0 x0) :
    Kept s0 (@State.correctPhase x0 x1) := by
  unfold State.correctPhase
  extract_lets +onlyGivenNames v1
  clear_value v1
  extract_lets +onlyGivenNames v2
  clear_value v2
  split
  · split
    · with_reducible assumption
    · apply State.putFlag_kept
      apply State.put_kept
      with_reducible assumption
  · split
    · with_reducible assumption
    · split
      · apply State.put_kept
        apply State.put_kept
        with_reducible assumption
      · apply State.put_kept
        apply State.put_kept
        with_reducible assumption

theorem State.loseSource_kept {s0 x0 : State} (h0 : Kept s0 x0) :
    Kept s0 (@State.loseSource x0) := by
  unfold State.loseSource
  extract_lets +onlyGivenNames v1
  have h1 : Kept s0 v1 := by
    unfold v1
    apply State.put_kept
    apply State.putFlag_kept
    apply State.put_kept
    with_reducible assumption
  clear_value v1
  apply State.raise_kept
  with_reducible assumption

theorem State.setPlan_kept {s0 x0 : State} {x1 : DiePlan} (h0 : Kept s0 x0) :
    Kept s0 (@State.setPlan x0 x1) := by
  unfold State.setPlan
  refine Kept.same (s := x0) ?_ rfl Sub.rfl' Sub.rfl' Sub.rfl' Sub.rfl' Sub.rfl'
  with_reducible assumption

theorem State.takeFrame_kept {s0 x0 : State} {x1 : Int} {x2 : Nat} (h0 : Kept s0 x0) :
    Kept s0 (@State.takeFrame x0 x1 x2) := by
  unfold State.takeFrame
  apply State.correctPhase_kept
  apply State.put_kept
  apply State.putFlag_kept
  apply State.put_kept
  apply State.clearLevel_kept
  with_reducible assumption

theorem State.takeSnapshot_kept {s0 x0 : State} {x1 : Agent} (h0 : Kept s0 x0) :
    Kept s0 (@State.takeSnapshot x0 x1) := by
  unfold State.takeSnapshot
  apply State.guardWrite_kept
  · with_reducible assumption
  · intro k1 k2
    apply State.put_kept
    apply State.put_kept
    apply State.put_kept
    with_reducible assumption

theorem State.writeTkNext_kept {s0 x0 : State} {x1 : Agent} {x2 : Nat} {x3 : Bool} (h0 : Kept s0 x0) :
    Kept s0 (@State.writeTkNext x0 x1 x2 x3) := by
  unfold State.writeTkNext
  apply State.guardWrite_kept
  · with_reducible assumption
  · intro k1 k2
    apply State.unlessLocked_kept
    · with_reducible assumption
    · intro k3 k4
      split
      · split
        · apply State.put_kept
          with_reducible assumption
        · with_reducible assumption
      · extract_lets +onlyGivenNames v5
        have h5 : Kept s0 v5 := by
          unfold v5
          apply State.put_kept
          with_reducible assumption
        clear_value v5
        split
        · with_reducible assumption
        · split
          · apply State.put_kept
            with_reducible assumption
          · split
            · apply State.put_kept
              with_reducible assumption
            · apply State.arm_kept
              apply State.put_kept
              apply State.putFlag_kept
              with_reducible assumption

theorem State.writeTkSrc_kept {s0 x0 : State} {x1 : Agent} {x2 : Nat} (h0 : Kept s0 x0) :
    Kept s0 (@State.writeTkSrc x0 x1 x2) := by
  unfold State.writeTkSrc
  apply State.guardWrite_kept
  · with_reducible assumption
  · intro k1 k2
    split
    · apply State.unlessLocked_kept
      · with_reducible assumption
      · intro k3 k4
        with_reducible assumption
    · extract_lets +onlyGivenNames v5
      have h5 : Kept s0 v5 := by
        unfold v5
        apply State.writeRw_kept
        with_reducible assumption
      clear_value v5
      split
      · with_reducible assumption
      · apply State.clearLevel_kept
        apply State.putFlag_kept
        apply State.put_kept
        apply State.put_kept
        apply State.put_kept
        with_reducible assumption

theorem execPtmExchange_kept {s0 : State} {x0 x1 : Nat} {x2 : Bool} {x3 : Nat} {x4 : State} (h0 : Kept s0 x4) :
    KeptN s0 (@execPtmExchange x0 x1 x2 x3 x4) := by
  unfold execPtmExchange
  split
  · split
    · apply KeptN.next
      apply State.correctPhase_kept
      apply State.put_kept
      apply State.put_kept
      apply State.put_kept
      with_reducible assumption
    · apply KeptN.next
      apply State.put_kept
      apply State.put_kept
      with_reducible assumption
  · apply KeptN.next
    with_reducible assumption

theorem execTickInFrame_kept {s0 : State} {x0 : Int} {x1 : List Bool} {x2 : State} (h0 : Kept s0 x2) :
    KeptN s0 (@execTickInFrame x0 x1 x2) := by
  unfold execTickInFrame
  split
  · apply KeptN.next
    with_reducible assumption
  · split
    · extract_lets +onlyGivenNames v1
      clear_value v1
      split
      · extract_lets +onlyGivenNames v2
        have h2 : Kept s0 v2 := by
          unfold v2
          apply State.put_kept
          apply State.raise_kept
          apply State.putFlag_kept
          with_reducible assumption
        clear_value v2
        apply KeptN.next
        split
        · apply State.loseSource_kept
          with_reducible assumption
        · with_reducible assumption
      · apply KeptN.next
        apply State.takeFrame_kept
        with_reducible assumption
    · split
      · apply KeptN.next
        apply State.correctPhase_kept
        with_reducible assumption
      · apply KeptN.next
        apply State.bump_kept
        with_reducible assumption

theorem execTickOverrun_kept {s0 : State} {x0 : Nat} {x1 : State} (h0 : Kept s0 x1) :
    KeptN s0 (@execTickOverrun x0 x1) := by
  unfold execTickOverrun
  extract_lets +onlyGivenNames v1
  clear_value v1
  split
  · apply KeptN.next
    apply State.setPlan_kept
    apply State.put_kept
    with_reducible assumption
  · apply KeptN.next
    with_reducible assumption

theorem execTickSourceLost_kept {s0 x0 : State} (h0 : Kept s0 x0) :
    KeptN s0 (@execTickSourceLost x0) := by
  unfold execTickSourceLost
  apply KeptN.next
  split
  · apply State.loseSource_kept
    with_reducible assumption
  · with_reducible assumption

theorem execTkNextGo_kept {s0 : State} {x0 : Agent} {x1 : Nat} {x2 : State} (h0 : Kept s0 x2) :
    KeptN s0 (@execTkNextGo x0 x1 x2) := by
  unfold execTkNextGo
  apply KeptN.next
  apply State.atUnit_kept
  · with_reducible assumption
  · intro k1 k2
    apply State.writeTkNext_kept
    with_reducible assumption

theorem execTkSnapTake_kept {s0 : State} {x0 : Agent} {x1 : State} (h0 : Kept s0 x1) :
    KeptN s0 (@execTkSnapTake x0 x1) := by
  unfold execTkSnapTake
  apply KeptN.next
  apply State.atUnit_kept
  · with_reducible assumption
  · intro k1 k2
    apply State.takeSnapshot_kept
    with_reducible assumption

theorem execTkSrcWrite_kept {s0 : State} {x0 : Agent} {x1 : Nat} {x2 : State} (h0 : Kept s0 x2) :
    KeptN s0 (@execTkSrcWrite x0 x1 x2) := by
  unfold execTkSrcWrite
  apply KeptN.next
  apply State.atUnit_kept
  · with_reducible assumption
  · intro k1 k2
    apply State.writeTkSrc_kept
    with_reducible assumption

end Sys2Proof.Machine
end

