-- ==== Sys2Proof/Laws/KeptRom.lean ====
section
/-! SUPPORT. What the operations of Machine/Rom.lean keep (`Kept`): one lemma each. -/

set_option linter.unusedVariables false

namespace Sys2Proof.Machine

theorem State.descPut_kept {s0 x0 : State} {x1 : Nat} {x2 : List Byte} (h0 : Kept s0 x0) :
    Kept s0 (@State.descPut x0 x1 x2) := by
  induction x2 generalizing x0 x1 with
  | nil => exact h0
  | cons b l ih =>
    refine ih (Kept.stores h0 rfl rfl fun k => ?_)
    simp only [State.storesWf, Bool.and_eq_true] at k ⊢
    exact ⟨⟨k.1.1, Sparse.wf_set Sparse.below_order _ _ k.1.2⟩, k.2⟩

theorem State.countCall_kept {s0 x0 : State} {x1 : Call} {x2 : Bool} {x3 : Nat} (h0 : Kept s0 x0) :
    Kept s0 (@State.countCall x0 x1 x2 x3) := by
  unfold State.countCall
  extract_lets +onlyGivenNames v1
  have h1 : Kept s0 v1 := by
    unfold v1
    split
    · apply State.bump_kept
      with_reducible assumption
    · split
      · apply State.bump_kept
        with_reducible assumption
      · with_reducible assumption
  clear_value v1
  split
  · apply State.bump_kept
    with_reducible assumption
  · split
    · apply State.bump_kept
      with_reducible assumption
    · split
      · apply State.bump_kept
        with_reducible assumption
      · with_reducible assumption

theorem State.takeBack_kept {s0 x0 : State} {x1 : Nat} {x2 : PEntry} (h0 : Kept s0 x0) :
    Kept s0 (@State.takeBack x0 x1 x2) := by
  unfold State.takeBack
  extract_lets +onlyGivenNames v1
  clear_value v1
  apply State.setPlan_kept
  with_reducible assumption

theorem State.endCall_kept {s0 x0 : State} {x1 : Call} {x2 : Bool} {x3 x4 x5 : Nat} (h0 : Kept s0 x0) :
    Kept s0 (@State.endCall x0 x1 x2 x3 x4 x5) := by
  unfold State.endCall
  extract_lets +onlyGivenNames v1
  have h1 : Kept s0 v1 := by
    unfold v1
    split
    · apply State.descPut_kept
      with_reducible assumption
    · with_reducible assumption
  clear_value v1
  extract_lets +onlyGivenNames v2
  have h2 : Kept s0 v2 := by
    unfold v2
    split
    · refine Kept.same (s := v1) ?_ rfl Sub.rfl' Sub.rfl' Sub.rfl' Sub.rfl' Sub.rfl'
      with_reducible assumption
    · with_reducible assumption
  clear_value v2
  extract_lets +onlyGivenNames v3
  have h3 : Kept s0 v3 := by
    unfold v3
    split
    · refine Kept.same (s := v2) ?_ rfl Sub.rfl' Sub.rfl' Sub.rfl' Sub.rfl' Sub.rfl'
      with_reducible assumption
    · with_reducible assumption
  clear_value v3
  extract_lets +onlyGivenNames v4
  have h4 : Kept s0 v4 := by
    unfold v4
    split
    · apply State.countCall_kept
      with_reducible assumption
    · with_reducible assumption
  clear_value v4
  split
  · split
    · apply State.takeBack_kept
      with_reducible assumption
    · with_reducible assumption
  · with_reducible assumption

theorem State.failCall_kept {s0 x0 : State} {x1 : Call} {x2 : Bool} {x3 : Nat} (h0 : Kept s0 x0) :
    Kept s0 (@State.failCall x0 x1 x2 x3) := by
  unfold State.failCall
  split
  · split
    apply State.endCall_kept
    refine KeptP.eq (by assumption) ?_
    apply State.takeFree_kept
    with_reducible assumption
  · apply State.endCall_kept
    with_reducible assumption

theorem State.countBlockRead_kept {s0 x0 : State} {x1 x2 : Nat} (h0 : Kept s0 x0) :
    Kept s0 (@State.countBlockRead x0 x1 x2) := by
  unfold State.countBlockRead
  apply State.put_kept
  with_reducible assumption

theorem State.wipeBlock_kept {s0 x0 : State} {x1 x2 : Nat} (h0 : Kept s0 x0) :
    Kept s0 (@State.wipeBlock x0 x1 x2) := by
  unfold State.wipeBlock
  refine Kept.same (s := x0) ?_ rfl Sub.rfl' Sub.rfl' Sub.rfl' Sub.rfl' Sub.filter
  with_reducible assumption

theorem State.completeCall_kept {s0 x0 : State} {x1 : Call} {x2 x3 x4 : Nat} (h0 : Kept s0 x0) :
    Kept s0 (@State.completeCall x0 x1 x2 x3 x4) := by
  unfold State.completeCall
  apply State.endCall_kept
  with_reducible assumption

theorem State.runFeature_kept {s0 x0 : State} {x1 : Call} (h0 : Kept s0 x0) :
    Kept s0 (@State.runFeature x0 x1) := by
  unfold State.runFeature
  extract_lets +onlyGivenNames v1
  clear_value v1
  extract_lets +onlyGivenNames v2
  clear_value v2
  split
  · split
    apply State.completeCall_kept
    refine KeptP.eq (by assumption) ?_
    apply State.takeFree_kept
    with_reducible assumption
  · split
    · apply State.completeCall_kept
      apply State.put_kept
      with_reducible assumption
    · split
      · apply State.completeCall_kept
        with_reducible assumption
      · apply State.completeCall_kept
        with_reducible assumption

theorem State.runCall_kept {s0 x0 : State} {x1 : Call} (h0 : Kept s0 x0) :
    Kept s0 (@State.runCall x0 x1) := by
  unfold State.runCall
  extract_lets +onlyGivenNames v1
  clear_value v1
  extract_lets +onlyGivenNames v2
  extract_lets +onlyGivenNames v3
  split
  · unfold v2
    apply State.emit_kept
    refine Kept.same (s := (x0.putFlag Field.X_DIE_RD true x1.die).countBlockRead x1.die x1.block) ?_ rfl Sub.rfl' Sub.rfl' Sub.rfl' Sub.rfl' Sub.rfl'
    apply State.countBlockRead_kept
    apply State.putFlag_kept
    with_reducible assumption
  · unfold v2
    apply State.emit_kept
    refine Kept.same (s := (x0.putFlag Field.X_DIE_RD true x1.die).countBlockRead x1.die x1.block) ?_ rfl Sub.rfl' Sub.rfl' Sub.rfl' Sub.rfl' Sub.rfl'
    apply State.countBlockRead_kept
    apply State.putFlag_kept
    with_reducible assumption
  · unfold v3
    unfold v2
    apply State.emit_kept
    refine Kept.same (s := (((((x0.put Field.X_DIE_OP 1 x1.die).put Field.X_DIE_OPBLK x1.block x1.die).put Field.X_DIE_OPPAGE x1.page x1.die).put Field.X_DIE_OPMODE x1.mode x1.die).put Field.X_DIE_NSUSP 0 x1.die).putFlag Field.X_DIE_NOSUSP (Option.any (fun e => !e.suspOk) x1.entry) x1.die) ?_ rfl Sub.rfl' Sub.rfl' Sub.rfl' Sub.rfl' Sub.rfl'
    apply State.putFlag_kept
    apply State.put_kept
    apply State.put_kept
    apply State.put_kept
    apply State.put_kept
    apply State.put_kept
    with_reducible assumption
  · extract_lets +onlyGivenNames v4
    have h4 : Kept s0 v4 := by
      unfold v4
      apply State.put_kept
      apply State.put_kept
      with_reducible assumption
    clear_value v4
    unfold v3
    unfold v2
    apply State.emit_kept
    refine Kept.same (s := ((((((((v4.wipeBlock x1.die x1.block).put Field.X_BLK_READS 0 v1).bump Field.MS_CH_CNT_ERASE x1.ch).put Field.X_DIE_OP 2 x1.die).put Field.X_DIE_OPBLK x1.block x1.die).put Field.X_DIE_OPPAGE x1.page x1.die).put Field.X_DIE_OPMODE x1.mode x1.die).put Field.X_DIE_NSUSP 0 x1.die).putFlag Field.X_DIE_NOSUSP (Option.any (fun e => !e.suspOk) x1.entry) x1.die) ?_ rfl Sub.rfl' Sub.rfl' Sub.rfl' Sub.rfl' Sub.rfl'
    apply State.putFlag_kept
    apply State.put_kept
    apply State.put_kept
    apply State.put_kept
    apply State.put_kept
    apply State.put_kept
    apply State.bump_kept
    apply State.put_kept
    apply State.wipeBlock_kept
    with_reducible assumption
  · extract_lets +onlyGivenNames v5
    clear_value v5
    split
    · split
      apply State.completeCall_kept
      refine KeptP.eq (by assumption) ?_
      apply State.takeFree_kept
      with_reducible assumption
    · split
      · apply State.completeCall_kept
        with_reducible assumption
      · unfold v2
        apply State.emit_kept
        refine Kept.same (s := x0.putFlag Field.X_DIE_SUSPENDING true x1.die) ?_ rfl Sub.rfl' Sub.rfl' Sub.rfl' Sub.rfl' Sub.rfl'
        apply State.putFlag_kept
        with_reducible assumption
  · apply State.completeCall_kept
    apply State.emit_kept
    apply State.put_kept
    apply State.putFlag_kept
    with_reducible assumption
  · split
    · split
      apply State.completeCall_kept
      refine KeptP.eq (by assumption) ?_
      apply State.takeFree_kept
      with_reducible assumption
    · apply State.completeCall_kept
      with_reducible assumption
  · apply State.completeCall_kept
    with_reducible assumption
  · apply State.runFeature_kept
    with_reducible assumption
  · extract_lets +onlyGivenNames v6
    clear_value v6
    extract_lets +onlyGivenNames v7
    have h7 : Kept s0 v7 := by
      unfold v7
      apply State.put_kept
      with_reducible assumption
    clear_value v7
    extract_lets +onlyGivenNames v8
    have h8 : Kept s0 v8 := by
      unfold v8
      split
      · apply State.put_kept
        with_reducible assumption
      · apply State.put_kept
        with_reducible assumption
    clear_value v8
    apply State.completeCall_kept
    with_reducible assumption
  · with_reducible assumption

theorem State.takeCall_kept {s0 x0 : State} {x1 : Call} {x2 : Bool} (h0 : Kept s0 x0) :
    Kept s0 (@State.takeCall x0 x1 x2) := by
  unfold State.takeCall
  split
  · apply State.failCall_kept
    with_reducible assumption
  · apply State.runCall_kept
    with_reducible assumption

theorem State.issueSlot_kept {s0 x0 : State} {x1 x2 x3 : Nat} {x4 : Option PEntry} (h0 : Kept s0 x0) :
    Kept s0 (@State.issueSlot x0 x1 x2 x3 x4) := by
  unfold State.issueSlot
  split
  · apply State.putFlag_kept
    with_reducible assumption
  · extract_lets +onlyGivenNames v1
    clear_value v1
    apply State.takeCall_kept
    apply State.descPut_kept
    with_reducible assumption

theorem State.startEntry_kept {s0 x0 : State} {x1 : Nat} (h0 : Kept s0 x0) :
    Kept s0 (@State.startEntry x0 x1) := by
  unfold State.startEntry
  extract_lets +onlyGivenNames v1
  clear_value v1
  split
  · with_reducible assumption
  · split
    · with_reducible assumption
    · extract_lets +onlyGivenNames v2
      have h2 : Kept s0 v2 := by
        unfold v2
        apply State.setPlan_kept
        apply State.put_kept
        with_reducible assumption
      clear_value v2
      extract_lets +onlyGivenNames v3
      clear_value v3
      split
      · with_reducible assumption
      · split
        · apply State.raise_kept
          with_reducible assumption
        · split
          · apply State.takeCall_kept
            with_reducible assumption
          · split
            · apply State.raise_kept
              with_reducible assumption
            · extract_lets +onlyGivenNames v4
              clear_value v4
              split
              · apply State.putFlag_kept
                with_reducible assumption
              · split
                · apply State.failCall_kept
                  apply State.descPut_kept
                  with_reducible assumption
                · apply State.issueSlot_kept
                  with_reducible assumption

theorem State.writeMsCall_kept {s0 x0 : State} {x1 : Agent} {x2 x3 : Nat} (h0 : Kept s0 x0) :
    Kept s0 (@State.writeMsCall x0 x1 x2 x3) := by
  unfold State.writeMsCall
  apply State.guardWrite_kept
  · with_reducible assumption
  · intro k1 k2
    split
    · apply State.putFlag_kept
      with_reducible assumption
    · apply State.issueSlot_kept
      with_reducible assumption

theorem State.callRow_kept {s0 x0 : State} {x1 : Nat} {x2 : Agent} {x3 x4 : Nat} {x5 : Bool} (h0 : Kept s0 x0) :
    Kept s0 (@State.callRow x0 x1 x2 x3 x4 x5) := by
  unfold State.callRow
  split
  · with_reducible assumption
  · split
    · extract_lets +onlyGivenNames v1
      clear_value v1
      split
      · split
        · apply State.startEntry_kept
          with_reducible assumption
        · with_reducible assumption
      · with_reducible assumption
    · apply State.atUnit_kept
      · with_reducible assumption
      · intro k2 k3
        apply State.writeMsCall_kept
        with_reducible assumption

theorem State.clearDieOp_kept {s0 x0 : State} {x1 : Nat} (h0 : Kept s0 x0) :
    Kept s0 (@State.clearDieOp x0 x1) := by
  unfold State.clearDieOp
  apply State.put_kept
  apply State.put_kept
  apply State.putFlag_kept
  apply State.putFlag_kept
  apply State.put_kept
  with_reducible assumption

theorem State.endBrownout_kept {s0 x0 : State} (h0 : Kept s0 x0) :
    Kept s0 (@State.endBrownout x0) := by
  unfold State.endBrownout
  apply forEach_kept
  · apply State.putFlag_kept
    with_reducible assumption
  · intro k1 k2 k3
    apply State.putFlag_kept
    with_reducible assumption

theorem State.endSuspends_kept {s0 x0 : State} {x1 x2 : Nat} (h0 : Kept s0 x0) :
    Kept s0 (@State.endSuspends x0 x1 x2) := by
  unfold State.endSuspends
  apply forEach_kept
  · with_reducible assumption
  · intro k1 k2 k3
    apply State.completeCall_kept
    with_reducible assumption

theorem State.giveWork_kept {s0 x0 : State} {x1 : Nat} {x2 : PEntry} (h0 : Kept s0 x0) :
    Kept s0 (@State.giveWork x0 x1 x2) := by
  unfold State.giveWork
  split
  · apply State.takeBack_kept
    with_reducible assumption
  · extract_lets +onlyGivenNames v1
    clear_value v1
    apply State.setPlan_kept
    with_reducible assumption

theorem State.readCpl_kept {s0 x0 : State} {x1 : Agent} {x2 x3 : Nat} (h0 : Kept s0 x0) :
    KeptP s0 (@State.readCpl x0 x1 x2 x3) := by
  unfold State.readCpl
  extract_lets +onlyGivenNames v1
  clear_value v1
  split
  · apply KeptP.mk'
    with_reducible assumption
  · apply KeptP.mk'
    split
    · refine Kept.same (s := x0) ?_ rfl Sub.rfl' Sub.rfl' Sub.rfl' Sub.rfl' Sub.rfl'
      with_reducible assumption
    · with_reducible assumption

theorem State.suspendDie_kept {s0 x0 : State} {x1 : Nat} {x2 : Bool} (h0 : Kept s0 x0) :
    Kept s0 (@State.suspendDie x0 x1 x2) := by
  unfold State.suspendDie
  extract_lets +onlyGivenNames v1
  have h1 : Kept s0 v1 := by
    unfold v1
    apply State.put_kept
    apply State.putFlag_kept
    apply State.putFlag_kept
    with_reducible assumption
  clear_value v1
  extract_lets +onlyGivenNames v2
  have h2 : Kept s0 v2 := by
    unfold v2
    split
    · apply State.put_kept
      with_reducible assumption
    · with_reducible assumption
  clear_value v2
  apply State.bump_kept
  with_reducible assumption

theorem State.writeSlot_kept {s0 x0 : State} {x1 : Agent} {x2 x3 : Nat} {x4 : List Byte} (h0 : Kept s0 x0) :
    Kept s0 (@State.writeSlot x0 x1 x2 x3 x4) := by
  unfold State.writeSlot
  apply State.guardWrite_kept
  · with_reducible assumption
  · intro k1 k2
    split
    · with_reducible assumption
    · apply State.descPut_kept
      with_reducible assumption

theorem execEraseCall_kept {s0 : State} {x0 : Agent} {x1 x2 : Nat} {x3 : Bool} {x4 : State} (h0 : Kept s0 x4) :
    KeptN s0 (@execEraseCall x0 x1 x2 x3 x4) := by
  unfold execEraseCall
  apply KeptN.next
  apply State.callRow_kept
  with_reducible assumption

theorem execEraseCountCall_kept {s0 : State} {x0 : Agent} {x1 x2 : Nat} {x3 : Bool} {x4 : State} (h0 : Kept s0 x4) :
    KeptN s0 (@execEraseCountCall x0 x1 x2 x3 x4) := by
  unfold execEraseCountCall
  apply KeptN.next
  apply State.callRow_kept
  with_reducible assumption

theorem execFeatureCall_kept {s0 : State} {x0 : Agent} {x1 x2 : Nat} {x3 : Bool} {x4 : State} (h0 : Kept s0 x4) :
    KeptN s0 (@execFeatureCall x0 x1 x2 x3 x4) := by
  unfold execFeatureCall
  apply KeptN.next
  apply State.callRow_kept
  with_reducible assumption

theorem execMediaBrownoutAssert_kept {s0 : State} {x0 : Nat} {x1 : State} (h0 : Kept s0 x1) :
    KeptN s0 (@execMediaBrownoutAssert x0 x1) := by
  unfold execMediaBrownoutAssert
  split
  · apply KeptN.next
    with_reducible assumption
  · extract_lets +onlyGivenNames v1
    have h1 : Kept s0 v1 := by
      unfold v1
      apply State.putFlag_kept
      with_reducible assumption
    clear_value v1
    extract_lets +onlyGivenNames v2
    have h2 : Kept s0 v2 := by
      unfold v2
      apply forEach_kept
      · with_reducible assumption
      · intro k3 k4 k5
        apply State.putFlag_kept
        apply State.putFlag_kept
        with_reducible assumption
    clear_value v2
    extract_lets +onlyGivenNames v6
    have h6 : Kept s0 v6 := by
      unfold v6
      apply forEach_kept
      · with_reducible assumption
      · intro k7 k8 k9
        apply State.emit_kept
        apply State.endSuspends_kept
        apply State.suspendDie_kept
        with_reducible assumption
    clear_value v6
    apply KeptN.next
    apply State.raise_kept
    with_reducible assumption

theorem execMediaBrownoutDeassert_kept {s0 x0 : State} (h0 : Kept s0 x0) :
    KeptN s0 (@execMediaBrownoutDeassert x0) := by
  unfold execMediaBrownoutDeassert
  apply KeptN.next
  apply State.endBrownout_kept
  with_reducible assumption

theorem execMsCplRead_kept {s0 : State} {x0 : Agent} {x1 x2 : Nat} {x3 : State} (h0 : Kept s0 x3) :
    KeptN s0 (@execMsCplRead x0 x1 x2 x3) := by
  unfold execMsCplRead
  split
  · apply KeptN.next
    with_reducible assumption
  · extract_lets +onlyGivenNames v1
    have h1 : KeptP s0 v1 := by
      unfold v1
      apply State.readAt_kept
      · with_reducible assumption
      · intro k2 k3
        apply State.readCpl_kept
        with_reducible assumption
    clear_value v1
    apply KeptN.next
    apply State.emit_kept
    refine KeptP.out ?_
    with_reducible assumption

theorem execPlannedEntryStart_kept {s0 : State} {x0 : Nat} {x1 : State} (h0 : Kept s0 x1) :
    KeptN s0 (@execPlannedEntryStart x0 x1) := by
  unfold execPlannedEntryStart
  apply KeptN.next
  apply State.startEntry_kept
  with_reducible assumption

theorem execProgramCall_kept {s0 : State} {x0 : Agent} {x1 x2 : Nat} {x3 : Bool} {x4 : State} (h0 : Kept s0 x4) :
    KeptN s0 (@execProgramCall x0 x1 x2 x3 x4) := by
  unfold execProgramCall
  apply KeptN.next
  apply State.callRow_kept
  with_reducible assumption

theorem execReadCall_kept {s0 : State} {x0 : Agent} {x1 x2 : Nat} {x3 : Bool} {x4 : State} (h0 : Kept s0 x4) :
    KeptN s0 (@execReadCall x0 x1 x2 x3 x4) := by
  unfold execReadCall
  apply KeptN.next
  apply State.callRow_kept
  with_reducible assumption

theorem execReadMarginCall_kept {s0 : State} {x0 : Agent} {x1 x2 : Nat} {x3 : Bool} {x4 : State} (h0 : Kept s0 x4) :
    KeptN s0 (@execReadMarginCall x0 x1 x2 x3 x4) := by
  unfold execReadMarginCall
  apply KeptN.next
  apply State.callRow_kept
  with_reducible assumption

theorem execResumeCall_kept {s0 : State} {x0 : Agent} {x1 x2 : Nat} {x3 : Bool} {x4 : State} (h0 : Kept s0 x4) :
    KeptN s0 (@execResumeCall x0 x1 x2 x3 x4) := by
  unfold execResumeCall
  apply KeptN.next
  apply State.callRow_kept
  with_reducible assumption

theorem execRetireCall_kept {s0 : State} {x0 : Agent} {x1 x2 : Nat} {x3 : Bool} {x4 : State} (h0 : Kept s0 x4) :
    KeptN s0 (@execRetireCall x0 x1 x2 x3 x4) := by
  unfold execRetireCall
  apply KeptN.next
  apply State.callRow_kept
  with_reducible assumption

theorem execSealedGateViolation_kept {s0 : State} {x0 x1 : Nat} {x2 : State} (h0 : Kept s0 x2) :
    KeptN s0 (@execSealedGateViolation x0 x1 x2) := by
  unfold execSealedGateViolation
  split
  · apply KeptN.next
    with_reducible assumption
  · extract_lets +onlyGivenNames v1
    clear_value v1
    apply KeptN.next
    apply State.raise_kept
    apply State.putFlag_kept
    with_reducible assumption

theorem execSealedTimeout_kept {s0 : State} {x0 : Nat} {x1 : State} (h0 : Kept s0 x1) :
    KeptN s0 (@execSealedTimeout x0 x1) := by
  unfold execSealedTimeout
  split
  · apply KeptN.next
    with_reducible assumption
  · extract_lets +onlyGivenNames v1
    clear_value v1
    apply KeptN.next
    apply State.raise_kept
    apply State.putFlag_kept
    with_reducible assumption

theorem execStatusCall_kept {s0 : State} {x0 : Agent} {x1 x2 : Nat} {x3 : Bool} {x4 : State} (h0 : Kept s0 x4) :
    KeptN s0 (@execStatusCall x0 x1 x2 x3 x4) := by
  unfold execStatusCall
  apply KeptN.next
  apply State.callRow_kept
  with_reducible assumption

theorem execSuspendCall_kept {s0 : State} {x0 : Agent} {x1 x2 : Nat} {x3 : Bool} {x4 : State} (h0 : Kept s0 x4) :
    KeptN s0 (@execSuspendCall x0 x1 x2 x3 x4) := by
  unfold execSuspendCall
  apply KeptN.next
  apply State.callRow_kept
  with_reducible assumption

theorem execSuspendComplete_kept {s0 : State} {x0 : Nat} {x1 : State} (h0 : Kept s0 x1) :
    KeptN s0 (@execSuspendComplete x0 x1) := by
  unfold execSuspendComplete
  split
  · apply KeptN.next
    apply State.endSuspends_kept
    apply State.suspendDie_kept
    with_reducible assumption
  · apply KeptN.next
    with_reducible assumption

end Sys2Proof.Machine
end

