-- ==== Sys2Proof/Laws/KeptMap.lean ====
section
/-! SUPPORT. What the operations of Machine/Map.lean keep (`Kept`): one lemma each. -/

set_option linter.unusedVariables false

namespace Sys2Proof.Machine

theorem State.evictPage_kept {s0 x0 : State} (h0 : Kept s0 x0) :
    Kept s0 (@State.evictPage x0) := by
  unfold State.evictPage
  split
  · with_reducible assumption
  · extract_lets +onlyGivenNames v1
    clear_value v1
    split
    · with_reducible assumption
    · extract_lets +onlyGivenNames v2
      clear_value v2
      refine Kept.same (s := x0) ?_ rfl Sub.rfl' Sub.rfl' Sub.rfl' Sub.rfl' Sub.rfl'
      with_reducible assumption

theorem State.loadPage_kept {s0 x0 : State} {x1 x2 : Nat} (h0 : Kept s0 x0) :
    Kept s0 (@State.loadPage x0 x1 x2) := by
  unfold State.loadPage
  extract_lets +onlyGivenNames v1
  clear_value v1
  extract_lets +onlyGivenNames v2
  have h2 : Kept s0 v2 := by
    unfold v2
    apply State.put_kept
    with_reducible assumption
  clear_value v2
  split
  · refine Kept.same (s := v2) ?_ rfl Sub.rfl' Sub.rfl' Sub.rfl' Sub.rfl' Sub.rfl'
    with_reducible assumption
  · extract_lets +onlyGivenNames v3
    clear_value v3
    extract_lets +onlyGivenNames v4
    clear_value v4
    extract_lets +onlyGivenNames v5
    have h5 : Kept s0 v5 := by
      unfold v5
      apply State.evictPage_kept
      with_reducible assumption
    clear_value v5
    refine Kept.same (s := v5) ?_ rfl Sub.rfl' Sub.rfl' Sub.rfl' Sub.rfl' Sub.rfl'
    with_reducible assumption

theorem State.pagePut_kept {s0 x0 : State} {x1 x2 x3 : Nat} (h0 : Kept s0 x0) :
    Kept s0 (@State.pagePut x0 x1 x2 x3) := by
  unfold State.pagePut
  extract_lets +onlyGivenNames v1
  have h1 : Kept s0 v1 := by
    unfold v1
    apply State.loadPage_kept
    with_reducible assumption
  clear_value v1
  refine Kept.same (s := v1) ?_ rfl Sub.rfl' Sub.rfl' Sub.rfl' Sub.rfl' Sub.rfl'
  with_reducible assumption

theorem State.setLine_kept {s0 x0 : State} {x1 : Line} (h0 : Kept s0 x0) :
    Kept s0 (@State.setLine x0 x1) := by
  unfold State.setLine
  refine Kept.same (s := x0) ?_ rfl Sub.rfl' Sub.rfl' Sub.rfl' Sub.rfl' Sub.rfl'
  with_reducible assumption

theorem State.writeBackLine_kept {s0 x0 : State} {x1 : Line} (h0 : Kept s0 x0) :
    Kept s0 (@State.writeBackLine x0 x1) := by
  unfold State.writeBackLine
  split
  · with_reducible assumption
  · extract_lets +onlyGivenNames v1
    have h1 : Kept s0 v1 := by
      unfold v1
      apply forEach_kept
      · with_reducible assumption
      · intro k2 k3 k4
        apply State.pagePut_kept
        with_reducible assumption
    clear_value v1
    apply State.setLine_kept
    with_reducible assumption

theorem State.evictWay_kept {s0 x0 : State} {x1 x2 : Nat} (h0 : Kept s0 x0) :
    Kept s0 (@State.evictWay x0 x1 x2) := by
  unfold State.evictWay
  split
  · with_reducible assumption
  · extract_lets +onlyGivenNames v1
    have h1 : Kept s0 v1 := by
      unfold v1
      split
      · apply State.bump_kept
        apply State.writeBackLine_kept
        with_reducible assumption
      · with_reducible assumption
    clear_value v1
    refine Kept.same (s := v1) ?_ rfl Sub.rfl' Sub.rfl' Sub.rfl' Sub.rfl' Sub.rfl'
    with_reducible assumption

theorem State.allocLine_kept {s0 x0 : State} {x1 x2 x3 : Nat} (h0 : Kept s0 x0) :
    Kept s0 (@State.allocLine x0 x1 x2 x3) := by
  unfold State.allocLine
  extract_lets +onlyGivenNames v1
  clear_value v1
  split
  · apply State.put_kept
    with_reducible assumption
  · extract_lets +onlyGivenNames v2
    have h2 : Kept s0 v2 := by
      unfold v2
      apply State.evictWay_kept
      apply State.put_kept
      with_reducible assumption
    clear_value v2
    refine Kept.same (s := v2) ?_ rfl Sub.rfl' Sub.rfl' Sub.rfl' Sub.rfl' Sub.rfl'
    with_reducible assumption

theorem State.applySweep_kept {s0 x0 : State} {x1 : Sweep} (h0 : Kept s0 x0) :
    Kept s0 (@State.applySweep x0 x1) := by
  unfold State.applySweep
  extract_lets +onlyGivenNames v1
  have h1 : Kept s0 v1 := by
    unfold v1
    split
    · apply forEach_kept
      · with_reducible assumption
      · intro k2 k3 k4
        apply State.writeBackLine_kept
        with_reducible assumption
    · with_reducible assumption
  clear_value v1
  refine Kept.same (s := v1) ?_ rfl Sub.rfl' Sub.rfl' Sub.rfl' Sub.rfl' Sub.rfl'
  with_reducible assumption

theorem State.countMiss_kept {s0 x0 : State} {x1 x2 x3 : Nat} (h0 : Kept s0 x0) :
    Kept s0 (@State.countMiss x0 x1 x2 x3) := by
  unfold State.countMiss
  split
  · apply State.add_kept
    with_reducible assumption
  · apply State.loadPage_kept
    apply State.add_kept
    with_reducible assumption

theorem State.dropCodes_kept {s0 x0 : State} {x1 x2 x3 : Nat} (h0 : Kept s0 x0) :
    Kept s0 (@State.dropCodes x0 x1 x2 x3) := by
  unfold State.dropCodes
  apply forEach_kept
  · with_reducible assumption
  · intro k1 k2 k3
    extract_lets +onlyGivenNames v4
    clear_value v4
    refine Kept.same (s := k2) ?_ rfl Sub.rfl' Sub.rfl' Sub.rfl' Sub.rfl' Sub.rfl'
    with_reducible assumption

theorem State.endUnpins_kept {s0 x0 : State} (h0 : Kept s0 x0) :
    Kept s0 (@State.endUnpins x0) := by
  unfold State.endUnpins
  apply forEach_kept
  · with_reducible assumption
  · intro k1 k2 k3
    split
    · with_reducible assumption
    · apply State.finish_kept
      with_reducible assumption

theorem State.emptyNode_kept {s0 x0 : State} {x1 : Nat} (h0 : Kept s0 x0) :
    Kept s0 (@State.emptyNode x0 x1) := by
  unfold State.emptyNode
  apply State.endUnpins_kept
  refine Kept.same (s := x0) ?_ rfl Sub.rfl' Sub.rfl' Sub.rfl' Sub.rfl' Sub.rfl'
  with_reducible assumption

theorem State.updateJnl_kept {s0 x0 : State} (h0 : Kept s0 x0) :
    Kept s0 (@State.updateJnl x0) := by
  unfold State.updateJnl
  extract_lets +onlyGivenNames v1
  clear_value v1
  extract_lets +onlyGivenNames v2
  clear_value v2
  extract_lets +onlyGivenNames v3
  have h3 : Kept s0 v3 := by
    unfold v3
    apply State.putFlag_kept
    apply State.put_kept
    with_reducible assumption
  clear_value v3
  split
  · apply State.raise_kept
    with_reducible assumption
  · apply State.clearLevel_kept
    with_reducible assumption

theorem State.programJnl_kept {s0 x0 : State} (h0 : Kept s0 x0) :
    Kept s0 (@State.programJnl x0) := by
  unfold State.programJnl
  extract_lets +onlyGivenNames v1
  clear_value v1
  split
  · with_reducible assumption
  · extract_lets +onlyGivenNames v2
    have h2 : Kept s0 v2 := by
      unfold v2
      refine Kept.same (s := x0) ?_ rfl Sub.rfl' Sub.rfl' Sub.rfl' Sub.rfl' Sub.rfl'
      with_reducible assumption
    clear_value v2
    apply State.updateJnl_kept
    apply State.put_kept
    with_reducible assumption

theorem State.journal_kept {s0 x0 : State} {x1 x2 x3 x4 : Nat} (h0 : Kept s0 x0) :
    Kept s0 (@State.journal x0 x1 x2 x3 x4) := by
  unfold State.journal
  extract_lets +onlyGivenNames v1
  have h1 : Kept s0 v1 := by
    unfold v1
    split
    · apply State.programJnl_kept
      with_reducible assumption
    · with_reducible assumption
  clear_value v1
  extract_lets +onlyGivenNames v2
  clear_value v2
  extract_lets +onlyGivenNames v3
  have h3 : Kept s0 v3 := by
    unfold v3
    refine Kept.same (s := v1) ?_ rfl Sub.rfl' Sub.rfl' Sub.rfl' Sub.rfl' Sub.rfl'
    with_reducible assumption
  clear_value v3
  extract_lets +onlyGivenNames v4
  have h4 : Kept s0 v4 := by
    unfold v4
    apply State.put_kept
    apply State.put_kept
    with_reducible assumption
  clear_value v4
  apply State.updateJnl_kept
  apply State.put_kept
  with_reducible assumption

theorem State.serve_kept {s0 x0 : State} {x1 x2 : Nat} (h0 : Kept s0 x0) :
    Kept s0 (@State.serve x0 x1 x2) := by
  unfold State.serve
  extract_lets +onlyGivenNames v1
  clear_value v1
  split
  · with_reducible assumption
  · apply State.countMiss_kept
    refine Kept.same (s := x0) ?_ rfl Sub.rfl' Sub.rfl' Sub.rfl' Sub.rfl' Sub.rfl'
    with_reducible assumption

theorem State.landLine_kept {s0 x0 : State} {x1 : Line} (h0 : Kept s0 x0) :
    Kept s0 (@State.landLine x0 x1) := by
  unfold State.landLine
  extract_lets +onlyGivenNames v1
  have h1 : Kept s0 v1 := by
    unfold v1
    apply State.serve_kept
    with_reducible assumption
  clear_value v1
  extract_lets +onlyGivenNames v2
  have h2 : Kept s0 v2 := by
    unfold v2
    split
    · apply State.loadPage_kept
      with_reducible assumption
    · with_reducible assumption
  clear_value v2
  apply State.setLine_kept
  with_reducible assumption

theorem State.landFilling_kept {s0 x0 : State} {x1 x2 : Nat} (h0 : Kept s0 x0) :
    Kept s0 (@State.landFilling x0 x1 x2) := by
  unfold State.landFilling
  split
  · split
    · apply State.landLine_kept
      with_reducible assumption
    · with_reducible assumption
  · with_reducible assumption

theorem State.lockLine_kept {s0 x0 : State} {x1 x2 : Nat} (h0 : Kept s0 x0) :
    KeptO s0 (@State.lockLine x0 x1 x2) := by
  unfold State.lockLine
  split
  · split
    · apply KeptO.some
      apply State.setLine_kept
      with_reducible assumption
    · extract_lets +onlyGivenNames v1
      have h1 : Kept s0 v1 := by
        unfold v1
        apply State.writeBackLine_kept
        with_reducible assumption
      clear_value v1
      extract_lets +onlyGivenNames v2
      have h2 : Kept s0 v2 := by
        unfold v2
        refine Kept.same (s := v1) ?_ rfl Sub.rfl' Sub.rfl' Sub.rfl' Sub.rfl' Sub.rfl'
        with_reducible assumption
      clear_value v2
      split
      · exact KeptO.none
      · extract_lets +onlyGivenNames v3
        have h3 : Kept s0 v3 := by
          unfold v3
          apply State.evictWay_kept
          with_reducible assumption
        clear_value v3
        apply KeptO.some
        refine Kept.same (s := v3) ?_ rfl Sub.rfl' Sub.rfl' Sub.rfl' Sub.rfl' Sub.rfl'
        with_reducible assumption
  · split
    · exact KeptO.none
    · extract_lets +onlyGivenNames v4
      have h4 : Kept s0 v4 := by
        unfold v4
        apply State.evictWay_kept
        with_reducible assumption
      clear_value v4
      apply KeptO.some
      refine Kept.same (s := v4) ?_ rfl Sub.rfl' Sub.rfl' Sub.rfl' Sub.rfl' Sub.rfl'
      with_reducible assumption

theorem State.lockLines_kept {s0 x0 : State} {x1 : List (Nat × Nat)} (h0 : Kept s0 x0) :
    KeptO s0 (@State.lockLines x0 x1) := by
  induction x1 generalizing x0 with
  | nil => exact KeptO.some h0
  | cons x l ih =>
    unfold State.lockLines
    split
    · exact ih (KeptO.out (by assumption) (State.lockLine_kept h0))
    · exact KeptO.none

theorem State.mapPut_kept {s0 x0 : State} {x1 x2 x3 : Nat} (h0 : Kept s0 x0) :
    Kept s0 (@State.mapPut x0 x1 x2 x3) := by
  unfold State.mapPut
  extract_lets +onlyGivenNames v1
  clear_value v1
  extract_lets +onlyGivenNames v2
  have h2 : Kept s0 v2 := by
    unfold v2
    apply State.landFilling_kept
    apply State.journal_kept
    with_reducible assumption
  clear_value v2
  extract_lets +onlyGivenNames v3
  have h3 : Kept s0 v3 := by
    unfold v3
    split
    · split
      · extract_lets +onlyGivenNames v4
        have h4 : Kept s0 v4 := by
          unfold v4
          apply State.setLine_kept
          with_reducible assumption
        clear_value v4
        split
        · apply State.pagePut_kept
          with_reducible assumption
        · with_reducible assumption
      · apply State.pagePut_kept
        with_reducible assumption
    · apply State.pagePut_kept
      with_reducible assumption
  clear_value v3
  split
  · apply State.dropCodes_kept
    with_reducible assumption
  · with_reducible assumption

theorem State.setNode_kept {s0 x0 : State} {x1 : Node} (h0 : Kept s0 x0) :
    Kept s0 (@State.setNode x0 x1) := by
  unfold State.setNode
  refine Kept.same (s := x0) ?_ rfl Sub.rfl' Sub.rfl' Sub.rfl' Sub.rfl' Sub.rfl'
  with_reducible assumption

theorem State.startSweep_kept {s0 x0 : State} {x1 : Sweep} (h0 : Kept s0 x0) :
    Kept s0 (@State.startSweep x0 x1) := by
  unfold State.startSweep
  extract_lets +onlyGivenNames v1
  extract_lets +onlyGivenNames v2
  have h2 : Kept s0 v2 := by
    unfold v2
    refine Kept.same (s := x0) ?_ rfl Sub.rfl' Sub.rfl' Sub.rfl' Sub.rfl' Sub.rfl'
    with_reducible assumption
  clear_value v2
  split
  · with_reducible assumption
  · apply State.applySweep_kept
    with_reducible assumption

theorem State.submitInv_kept {s0 x0 : State} {x1 : Agent} {x2 : Nat} (h0 : Kept s0 x0) :
    Kept s0 (@State.submitInv x0 x1 x2) := by
  unfold State.submitInv
  apply State.guardWrite_kept
  · with_reducible assumption
  · intro k1 k2
    split
    · with_reducible assumption
    · extract_lets +onlyGivenNames v3
      have h3 : Kept s0 v3 := by
        unfold v3
        apply State.put_kept
        with_reducible assumption
      clear_value v3
      extract_lets +onlyGivenNames v4
      clear_value v4
      extract_lets +onlyGivenNames v5
      clear_value v5
      extract_lets +onlyGivenNames v6
      split
      · unfold v6
        apply State.put_kept
        apply State.put_kept
        with_reducible assumption
      · extract_lets +onlyGivenNames v7
        clear_value v7
        extract_lets +onlyGivenNames v8
        clear_value v8
        split
        · unfold v6
          apply State.put_kept
          apply State.put_kept
          with_reducible assumption
        · split
          · unfold v6
            apply State.put_kept
            apply State.put_kept
            with_reducible assumption
          · extract_lets +onlyGivenNames v9
            have h9 : Kept s0 v9 := by
              unfold v9
              apply State.putFlag_kept
              apply State.put_kept
              apply State.put_kept
              with_reducible assumption
            clear_value v9
            apply State.startSweep_kept
            with_reducible assumption

theorem State.waitOn_kept {s0 x0 : State} {x1 x2 x3 : Nat} (h0 : Kept s0 x0) :
    Kept s0 (@State.waitOn x0 x1 x2 x3) := by
  unfold State.waitOn
  extract_lets +onlyGivenNames v1
  have h1 : Kept s0 v1 := by
    unfold v1
    split
    · apply State.bump_kept
      with_reducible assumption
    · with_reducible assumption
  clear_value v1
  refine Kept.same (s := v1) ?_ rfl Sub.rfl' Sub.rfl' Sub.rfl' Sub.rfl' Sub.rfl'
  with_reducible assumption

theorem State.touchLine_kept {s0 x0 : State} {x1 x2 x3 : Nat} (h0 : Kept s0 x0) :
    Kept s0 (@State.touchLine x0 x1 x2 x3) := by
  unfold State.touchLine
  split
  · split
    · apply State.waitOn_kept
      with_reducible assumption
    · split
      · with_reducible assumption
      · apply State.bump_kept
        with_reducible assumption
  · split
    · apply State.countMiss_kept
      with_reducible assumption
    · apply State.waitOn_kept
      apply State.allocLine_kept
      with_reducible assumption

theorem State.touchRes_kept {s0 x0 : State} {x1 x2 : Nat} {x3 : List Nat} (h0 : Kept s0 x0) :
    Kept s0 (@State.touchRes x0 x1 x2 x3) := by
  unfold State.touchRes
  extract_lets +onlyGivenNames v1
  clear_value v1
  extract_lets +onlyGivenNames v2
  clear_value v2
  split
  · split
    · with_reducible assumption
    · split
      · apply State.bump_kept
        with_reducible assumption
      · apply State.setLine_kept
        with_reducible assumption
  · split
    · with_reducible assumption
    · extract_lets +onlyGivenNames v3
      clear_value v3
      split
      · apply State.put_kept
        with_reducible assumption
      · extract_lets +onlyGivenNames v4
        have h4 : Kept s0 v4 := by
          unfold v4
          apply State.evictWay_kept
          apply State.put_kept
          with_reducible assumption
        clear_value v4
        extract_lets +onlyGivenNames v5
        clear_value v5
        refine Kept.same (s := v4) ?_ rfl Sub.rfl' Sub.rfl' Sub.rfl' Sub.rfl' Sub.rfl'
        with_reducible assumption

theorem State.touchRange_kept {s0 x0 : State} {x1 x2 x3 x4 : Nat} (h0 : Kept s0 x0) :
    Kept s0 (@State.touchRange x0 x1 x2 x3 x4) := by
  unfold State.touchRange
  extract_lets +onlyGivenNames v1
  clear_value v1
  extract_lets +onlyGivenNames v2
  have h2 : Kept s0 v2 := by
    unfold v2
    apply forEach_kept
    · with_reducible assumption
    · intro k3 k4 k5
      apply State.touchLine_kept
      with_reducible assumption
  clear_value v2
  split
  · with_reducible assumption
  · apply forEach_kept
    · with_reducible assumption
    · intro k6 k7 k8
      apply State.touchRes_kept
      with_reducible assumption

theorem State.writeMcCtl_kept {s0 x0 : State} {x1 : Agent} {x2 : Bool} (h0 : Kept s0 x0) :
    Kept s0 (@State.writeMcCtl x0 x1 x2) := by
  unfold State.writeMcCtl
  apply State.guardWrite_kept
  · with_reducible assumption
  · intro k1 k2
    apply State.unlessLocked_kept
    · with_reducible assumption
    · intro k3 k4
      split
      · split
        · apply State.putFlag_kept
          apply State.putFlag_kept
          apply State.putFlag_kept
          with_reducible assumption
        · split
          · apply State.bump_kept
            with_reducible assumption
          · with_reducible assumption
      · split
        · with_reducible assumption
        · split
          · apply State.putFlag_kept
            with_reducible assumption
          · apply State.putFlag_kept
            apply State.putFlag_kept
            with_reducible assumption

theorem execAllocationGiveUp_kept {s0 : State} {x0 x1 : Nat} {x2 : State} (h0 : Kept s0 x2) :
    KeptN s0 (@execAllocationGiveUp x0 x1 x2) := by
  unfold execAllocationGiveUp
  split
  · apply KeptN.next
    with_reducible assumption
  · extract_lets +onlyGivenNames v1
    have h1 : Kept s0 v1 := by
      unfold v1
      apply State.allocLine_kept
      with_reducible assumption
    clear_value v1
    apply KeptN.next
    split
    · with_reducible assumption
    · apply State.serve_kept
      with_reducible assumption

theorem execDrainComplete_kept {s0 x0 : State} (h0 : Kept s0 x0) :
    KeptN s0 (@execDrainComplete x0) := by
  unfold execDrainComplete
  split
  · extract_lets +onlyGivenNames v1
    have h1 : Kept s0 v1 := by
      unfold v1
      apply forEach_kept
      · with_reducible assumption
      · intro k2 k3 k4
        apply State.writeBackLine_kept
        with_reducible assumption
    clear_value v1
    extract_lets +onlyGivenNames v5
    have h5 : Kept s0 v5 := by
      unfold v5
      apply forEach_kept
      · with_reducible assumption
      · intro k6 k7 k8
        apply State.serve_kept
        with_reducible assumption
    clear_value v5
    apply KeptN.next
    apply State.endUnpins_kept
    apply State.putFlag_kept
    apply State.putFlag_kept
    apply State.putFlag_kept
    refine Kept.same (s := v5) ?_ rfl Sub.rfl' Sub.rfl' Sub.rfl' Sub.rfl' Sub.rfl'
    with_reducible assumption
  · apply KeptN.next
    with_reducible assumption

theorem execLockedLineRefill_kept {s0 : State} {x0 x1 : Nat} {x2 : State} (h0 : Kept s0 x2) :
    KeptN s0 (@execLockedLineRefill x0 x1 x2) := by
  unfold execLockedLineRefill
  split
  · split
    · apply KeptN.next
      apply State.endUnpins_kept
      apply State.bump_kept
      apply State.landLine_kept
      with_reducible assumption
    · apply KeptN.next
      with_reducible assumption
  · apply KeptN.next
    with_reducible assumption

theorem execMapCacheDisable_kept {s0 : State} {x0 : Agent} {x1 : State} (h0 : Kept s0 x1) :
    KeptN s0 (@execMapCacheDisable x0 x1) := by
  unfold execMapCacheDisable
  apply KeptN.next
  apply State.atUnit_kept
  · with_reducible assumption
  · intro k1 k2
    apply State.writeMcCtl_kept
    with_reducible assumption

theorem execMapCacheEnable_kept {s0 : State} {x0 : Agent} {x1 : State} (h0 : Kept s0 x1) :
    KeptN s0 (@execMapCacheEnable x0 x1) := by
  unfold execMapCacheEnable
  apply KeptN.next
  apply State.atUnit_kept
  · with_reducible assumption
  · intro k1 k2
    apply State.writeMcCtl_kept
    with_reducible assumption

theorem execMapMissFill_kept {s0 : State} {x0 x1 : Nat} {x2 : State} (h0 : Kept s0 x2) :
    KeptN s0 (@execMapMissFill x0 x1 x2) := by
  unfold execMapMissFill
  split
  · split
    · apply KeptN.next
      with_reducible assumption
    · apply KeptN.next
      apply State.endUnpins_kept
      apply State.landLine_kept
      with_reducible assumption
  · apply KeptN.next
    with_reducible assumption

theorem execMcInv_kept {s0 : State} {x0 : Agent} {x1 : Nat} {x2 : State} (h0 : Kept s0 x2) :
    KeptN s0 (@execMcInv x0 x1 x2) := by
  unfold execMcInv
  apply KeptN.next
  apply State.atUnit_kept
  · with_reducible assumption
  · intro k1 k2
    apply State.submitInv_kept
    with_reducible assumption

theorem execResetInvalidationDone_kept {s0 x0 : State} (h0 : Kept s0 x0) :
    KeptN s0 (@execResetInvalidationDone x0) := by
  unfold execResetInvalidationDone
  split
  · apply KeptN.next
    apply State.putFlag_kept
    apply State.putFlag_kept
    with_reducible assumption
  · apply KeptN.next
    with_reducible assumption

end Sys2Proof.Machine
end

