-- ==== Sys2Proof/Laws/KeptMedia.lean ====
section
/-! SUPPORT. What the operations of Machine/Media.lean keep (`Kept`): one lemma each. -/

set_option linter.unusedVariables false

namespace Sys2Proof.Machine

theorem State.setBand_kept {s0 x0 : State} {x1 : Band} (h0 : Kept s0 x0) :
    Kept s0 (@State.setBand x0 x1) := by
  unfold State.setBand
  refine Kept.same (s := x0) ?_ rfl Sub.rfl' Sub.rfl' Sub.rfl' Sub.rfl' Sub.rfl'
  with_reducible assumption

theorem State.allocIn_kept {s0 x0 : State} {x1 : Band} {x2 x3 : Nat} (h0 : Kept s0 x0) :
    KeptP s0 (@State.allocIn x0 x1 x2 x3) := by
  unfold State.allocIn
  extract_lets +onlyGivenNames v1
  clear_value v1
  extract_lets +onlyGivenNames v2
  clear_value v2
  apply KeptP.mk'
  apply State.setBand_kept
  with_reducible assumption

theorem State.dirtyAdd_kept {s0 x0 : State} {x1 : Nat} (h0 : Kept s0 x0) :
    Kept s0 (@State.dirtyAdd x0 x1) := by
  unfold State.dirtyAdd
  apply State.put_kept
  with_reducible assumption

theorem State.repointPage_kept {s0 x0 : State} {x1 x2 : Nat} (h0 : Kept s0 x0) :
    Kept s0 (@State.repointPage x0 x1 x2) := by
  unfold State.repointPage
  split
  · with_reducible assumption
  · extract_lets +onlyGivenNames v1
    clear_value v1
    apply State.journal_kept
    refine Kept.same (s := x0) ?_ rfl Sub.rfl' Sub.rfl' Sub.rfl' Sub.rfl' Sub.rfl'
    with_reducible assumption

theorem State.rewrite_kept {s0 x0 : State} {x1 : Band} {x2 : WUnit} (h0 : Kept s0 x0) :
    Kept s0 (@State.rewrite x0 x1 x2) := by
  unfold State.rewrite
  extract_lets +onlyGivenNames v1
  clear_value v1
  extract_lets +onlyGivenNames v2
  clear_value v2
  split
  · with_reducible assumption
  · extract_lets +onlyGivenNames v3
    have h3 : KeptP s0 v3 := by
      unfold v3
      apply State.allocIn_kept
      with_reducible assumption
    clear_value v3
    extract_lets +onlyGivenNames v4
    have h4 : Kept s0 v4 := by
      unfold v4
      refine KeptP.out ?_
      with_reducible assumption
    clear_value v4
    extract_lets +onlyGivenNames v5
    clear_value v5
    extract_lets +onlyGivenNames v6
    have h6 : Kept s0 v6 := by
      unfold v6
      refine Kept.same (s := v4) ?_ rfl Sub.rfl' Sub.rfl' Sub.rfl' Sub.rfl' Sub.rfl'
      with_reducible assumption
    clear_value v6
    extract_lets +onlyGivenNames v7
    clear_value v7
    extract_lets +onlyGivenNames v8
    have h8 : Kept s0 v8 := by
      unfold v8
      apply State.dirtyAdd_kept
      with_reducible assumption
    clear_value v8
    extract_lets +onlyGivenNames v9
    clear_value v9
    extract_lets +onlyGivenNames v10
    have h10 : Kept s0 v10 := by
      unfold v10
      refine Kept.same (s := v8) ?_ rfl Sub.rfl' Sub.rfl' Sub.rfl' Sub.rfl' Sub.rfl'
      with_reducible assumption
    clear_value v10
    split
    · apply forEach_kept
      · with_reducible assumption
      · intro k11 k12 k13
        extract_lets +onlyGivenNames v14
        clear_value v14
        split
        · apply State.mapPut_kept
          with_reducible assumption
        · with_reducible assumption
    · split
      · apply State.repointPage_kept
        with_reducible assumption
      · with_reducible assumption

theorem State.updateGc_kept {s0 x0 : State} (h0 : Kept s0 x0) :
    Kept s0 (@State.updateGc x0) := by
  unfold State.updateGc
  extract_lets +onlyGivenNames v1
  clear_value v1
  extract_lets +onlyGivenNames v2
  have h2 : Kept s0 v2 := by
    unfold v2
    apply State.put_kept
    apply State.put_kept
    apply State.put_kept
    apply State.put_kept
    with_reducible assumption
  clear_value v2
  extract_lets +onlyGivenNames v3
  have h3 : Kept s0 v3 := by
    unfold v3
    apply State.put_kept
    with_reducible assumption
  clear_value v3
  split
  · apply State.raise_kept
    with_reducible assumption
  · apply State.clearLevel_kept
    with_reducible assumption

theorem State.dropComplete_kept {s0 x0 : State} (h0 : Kept s0 x0) :
    Kept s0 (@State.dropComplete x0) := by
  unfold State.dropComplete
  refine Kept.same (s := x0) ?_ rfl Sub.rfl' Sub.rfl' Sub.rfl' Sub.rfl' Sub.rfl'
  with_reducible assumption

theorem State.sealRows_kept {s0 x0 : State} {x1 : Band} (h0 : Kept s0 x0) :
    Kept s0 (@State.sealRows x0 x1) := by
  unfold State.sealRows
  extract_lets +onlyGivenNames v1
  clear_value v1
  extract_lets +onlyGivenNames v2
  have h2 : Kept s0 v2 := by
    unfold v2
    apply forEach_kept
    · with_reducible assumption
    · intro k3 k4 k5
      apply State.bump_kept
      apply State.journal_kept
      with_reducible assumption
  clear_value v2
  apply State.dropComplete_kept
  apply State.setBand_kept
  with_reducible assumption

theorem State.closeBand_kept {s0 x0 : State} {x1 : Band} (h0 : Kept s0 x0) :
    Kept s0 (@State.closeBand x0 x1) := by
  unfold State.closeBand
  split
  · with_reducible assumption
  · extract_lets +onlyGivenNames v1
    have h1 : Kept s0 v1 := by
      unfold v1
      apply State.sealRows_kept
      with_reducible assumption
    clear_value v1
    split
    · with_reducible assumption
    · extract_lets +onlyGivenNames v2
      have h2 : Kept s0 v2 := by
        unfold v2
        apply State.journal_kept
        with_reducible assumption
      clear_value v2
      extract_lets +onlyGivenNames v3
      have h3 : Kept s0 v3 := by
        unfold v3
        apply State.setBand_kept
        with_reducible assumption
      clear_value v3
      apply forEach_kept
      · with_reducible assumption
      · intro k4 k5 k6
        split
        · apply State.put_kept
          with_reducible assumption
        · with_reducible assumption

theorem State.abandonBand_kept {s0 x0 : State} {x1 : Band} {x2 : WUnit → Bool} (h0 : Kept s0 x0) :
    Kept s0 (@State.abandonBand x0 x1 x2) := by
  unfold State.abandonBand
  extract_lets +onlyGivenNames v1
  clear_value v1
  extract_lets +onlyGivenNames v2
  clear_value v2
  extract_lets +onlyGivenNames v3
  have h3 : Kept s0 v3 := by
    unfold v3
    apply forEach_kept
    · with_reducible assumption
    · intro k4 k5 k6
      apply State.rewrite_kept
      with_reducible assumption
  clear_value v3
  split
  · apply State.updateGc_kept
    apply State.closeBand_kept
    with_reducible assumption
  · with_reducible assumption

theorem State.ackProgrammed_kept {s0 x0 : State} {x1 : Nat} (h0 : Kept s0 x0) :
    Kept s0 (@State.ackProgrammed x0 x1) := by
  unfold State.ackProgrammed
  split
  · with_reducible assumption
  · split
    · with_reducible assumption
    · split
      · with_reducible assumption
      · split
        · split
          · with_reducible assumption
          · apply State.finish_kept
            with_reducible assumption
        · with_reducible assumption

theorem State.ackAll_kept {s0 x0 : State} (h0 : Kept s0 x0) :
    Kept s0 (@State.ackAll x0) := by
  unfold State.ackAll
  apply forEach_kept
  · with_reducible assumption
  · intro k1 k2 k3
    apply State.ackProgrammed_kept
    with_reducible assumption

theorem State.addBand_kept {s0 x0 : State} {x1 x2 x3 : Nat} {x4 : List (Option (Nat × Nat))} (h0 : Kept s0 x0) :
    Kept s0 (@State.addBand x0 x1 x2 x3 x4) := by
  unfold State.addBand
  extract_lets +onlyGivenNames v1
  extract_lets +onlyGivenNames v2
  clear_value v2
  extract_lets +onlyGivenNames v3
  clear_value v3
  extract_lets +onlyGivenNames v4
  clear_value v4
  extract_lets +onlyGivenNames v5
  have h5 : Kept s0 v5 := by
    unfold v5
    apply State.put_kept
    apply State.put_kept
    with_reducible assumption
  clear_value v5
  extract_lets +onlyGivenNames v6
  have h6 : Kept s0 v6 := by
    unfold v6
    apply State.journal_kept
    with_reducible assumption
  clear_value v6
  extract_lets +onlyGivenNames v7
  clear_value v7
  extract_lets +onlyGivenNames v8
  have h8 : Kept s0 v8 := by
    unfold v8
    apply forEach_kept
    · with_reducible assumption
    · intro k9 k10 k11
      apply State.journal_kept
      with_reducible assumption
  clear_value v8
  extract_lets +onlyGivenNames v12
  have h12 : Kept s0 v12 := by
    unfold v12
    apply forEach_kept
    · with_reducible assumption
    · intro k13 k14 k15
      apply State.put_kept
      with_reducible assumption
  clear_value v12
  extract_lets +onlyGivenNames v16
  have h16 : Kept s0 v16 := by
    unfold v16
    refine Kept.same (s := v12) ?_ rfl Sub.rfl' Sub.rfl' Sub.rfl' Sub.rfl' Sub.rfl'
    with_reducible assumption
  clear_value v16
  apply State.updateGc_kept
  split
  · apply State.bump_kept
    with_reducible assumption
  · with_reducible assumption

theorem State.keepReads_kept {s0 x0 : State} (h0 : Kept s0 x0) :
    Kept s0 (@State.keepReads x0) := by
  unfold State.keepReads
  extract_lets +onlyGivenNames v1
  clear_value v1
  apply forEach_kept
  · with_reducible assumption
  · intro k2 k3 k4
    apply State.put_kept
    with_reducible assumption

theorem State.checkpoint_kept {s0 x0 : State} (h0 : Kept s0 x0) :
    Kept s0 (@State.checkpoint x0) := by
  unfold State.checkpoint
  extract_lets +onlyGivenNames v1
  clear_value v1
  split
  · with_reducible assumption
  · extract_lets +onlyGivenNames v2
    have h2 : Kept s0 v2 := by
      unfold v2
      apply State.journal_kept
      with_reducible assumption
    clear_value v2
    extract_lets +onlyGivenNames v3
    have h3 : Kept s0 v3 := by
      unfold v3
      refine Kept.same (s := v2) ?_ rfl Sub.rfl' Sub.rfl' Sub.rfl' Sub.rfl' Sub.rfl'
      with_reducible assumption
    clear_value v3
    apply State.keepReads_kept
    apply State.updateJnl_kept
    apply State.put_kept
    apply State.put_kept
    refine Kept.same (s := v3) ?_ rfl Sub.rfl' Sub.rfl' Sub.rfl' Sub.rfl' Sub.rfl'
    with_reducible assumption

theorem State.closeStranded_kept {s0 x0 : State} (h0 : Kept s0 x0) :
    Kept s0 (@State.closeStranded x0) := by
  unfold State.closeStranded
  apply forEach_kept
  · with_reducible assumption
  · intro k1 k2 k3
    apply State.abandonBand_kept
    with_reducible assumption

theorem State.commitCopy_kept {s0 x0 : State} {x1 : Copy} {x2 : Bool} (h0 : Kept s0 x0) :
    Kept s0 (@State.commitCopy x0 x1 x2) := by
  unfold State.commitCopy
  split
  · with_reducible assumption
  · split
    · apply State.repointPage_kept
      with_reducible assumption
    · extract_lets +onlyGivenNames v1
      clear_value v1
      apply forEach_kept
      · with_reducible assumption
      · intro k2 k3 k4
        extract_lets +onlyGivenNames v5
        clear_value v5
        extract_lets +onlyGivenNames v6
        clear_value v6
        apply State.mapPut_kept
        with_reducible assumption

theorem State.copyUnit_kept {s0 x0 : State} {x1 : Nat} {x2 : FUnit} {x3 : Nat} {x4 : Bool} (h0 : Kept s0 x0) :
    KeptO s0 (@State.copyUnit x0 x1 x2 x3 x4) := by
  unfold State.copyUnit
  split
  · exact KeptO.none
  · split
    · exact KeptO.none
    · extract_lets +onlyGivenNames v1
      clear_value v1
      extract_lets +onlyGivenNames v2
      have h2 : KeptP s0 v2 := by
        unfold v2
        apply State.allocIn_kept
        with_reducible assumption
      clear_value v2
      extract_lets +onlyGivenNames v3
      have h3 : Kept s0 v3 := by
        unfold v3
        refine KeptP.out ?_
        with_reducible assumption
      clear_value v3
      extract_lets +onlyGivenNames v4
      clear_value v4
      extract_lets +onlyGivenNames v5
      have h5 : Kept s0 v5 := by
        unfold v5
        refine Kept.same (s := v3) ?_ rfl Sub.rfl' Sub.rfl' Sub.rfl' Sub.rfl' Sub.rfl'
        with_reducible assumption
      clear_value v5
      apply KeptO.some
      with_reducible assumption

theorem State.programFailed_kept {s0 x0 : State} {x1 x2 : Nat} (h0 : Kept s0 x0) :
    Kept s0 (@State.programFailed x0 x1 x2) := by
  unfold State.programFailed
  extract_lets +onlyGivenNames v1
  have h1 : Kept s0 v1 := by
    unfold v1
    apply State.put_kept
    with_reducible assumption
  clear_value v1
  split
  · with_reducible assumption
  · extract_lets +onlyGivenNames v2
    clear_value v2
    apply State.abandonBand_kept
    apply State.setBand_kept
    with_reducible assumption

theorem State.halfErase_kept {s0 x0 : State} {x1 : Nat} (h0 : Kept s0 x0) :
    Kept s0 (@State.halfErase x0 x1) := by
  unfold State.halfErase
  apply State.putFlag_kept
  apply State.put_kept
  apply State.put_kept
  with_reducible assumption

theorem State.cutDie_kept {s0 x0 : State} {x1 : Nat} (h0 : Kept s0 x0) :
    Kept s0 (@State.cutDie x0 x1) := by
  unfold State.cutDie
  extract_lets +onlyGivenNames v1
  clear_value v1
  extract_lets +onlyGivenNames v2
  clear_value v2
  extract_lets +onlyGivenNames v3
  have h3 : Kept s0 v3 := by
    unfold v3
    apply forEach_kept
    · with_reducible assumption
    · intro k4 k5 k6
      apply State.failCall_kept
      with_reducible assumption
  clear_value v3
  extract_lets +onlyGivenNames v7
  have h7 : Kept s0 v7 := by
    unfold v7
    apply State.putFlag_kept
    apply State.clearDieOp_kept
    with_reducible assumption
  clear_value v7
  split
  · apply State.programFailed_kept
    with_reducible assumption
  · split
    · apply State.halfErase_kept
      with_reducible assumption
    · with_reducible assumption

theorem State.dirtySub_kept {s0 x0 : State} {x1 : Nat} (h0 : Kept s0 x0) :
    Kept s0 (@State.dirtySub x0 x1) := by
  unfold State.dirtySub
  apply State.put_kept
  with_reducible assumption

theorem State.dropBand_kept {s0 x0 : State} {x1 : Nat} (h0 : Kept s0 x0) :
    Kept s0 (@State.dropBand x0 x1) := by
  unfold State.dropBand
  extract_lets +onlyGivenNames v1
  clear_value v1
  extract_lets +onlyGivenNames v2
  have h2 : Kept s0 v2 := by
    unfold v2
    refine Kept.same (s := x0) ?_ rfl Sub.rfl' Sub.rfl' Sub.rfl' Sub.rfl' Sub.rfl'
    with_reducible assumption
  clear_value v2
  apply State.ackAll_kept
  apply State.dirtySub_kept
  with_reducible assumption

theorem State.endDieOp_kept {s0 x0 : State} {x1 x2 x3 : Nat} (h0 : Kept s0 x0) :
    Kept s0 (@State.endDieOp x0 x1 x2 x3) := by
  unfold State.endDieOp
  extract_lets +onlyGivenNames v1
  clear_value v1
  extract_lets +onlyGivenNames v2
  have h2 : Kept s0 v2 := by
    unfold v2
    split
    · apply State.completeCall_kept
      with_reducible assumption
    · with_reducible assumption
  clear_value v2
  extract_lets +onlyGivenNames v3
  have h3 : Kept s0 v3 := by
    unfold v3
    split
    · apply State.endSuspends_kept
      with_reducible assumption
    · with_reducible assumption
  clear_value v3
  apply State.clearDieOp_kept
  with_reducible assumption

theorem State.flashPut_kept {s0 x0 : State} {x1 : Nat} {x2 : FUnit} (h0 : Kept s0 x0) :
    Kept s0 (@State.flashPut x0 x1 x2) := by
  unfold State.flashPut
  refine Kept.stores h0 rfl rfl fun k => ?_
  simp only [State.storesWf, Bool.and_eq_true] at k ⊢
  exact ⟨k.1, Sparse.wf_set Sparse.below_order _ _ k.2⟩

theorem State.gcLookups_kept {s0 x0 : State} {x1 : URec} {x2 : Nat} (h0 : Kept s0 x0) :
    Kept s0 (@State.gcLookups x0 x1 x2) := by
  unfold State.gcLookups
  split
  · with_reducible assumption
  · apply forEach_kept
    · with_reducible assumption
    · intro k1 k2 k3
      apply State.touchLine_kept
      with_reducible assumption

theorem State.journalRetire_kept {s0 x0 : State} {x1 x2 x3 : Nat} (h0 : Kept s0 x0) :
    Kept s0 (@State.journalRetire x0 x1 x2 x3) := by
  unfold State.journalRetire
  extract_lets +onlyGivenNames v1
  have h1 : Kept s0 v1 := by
    unfold v1
    refine Kept.same (s := x0) ?_ rfl Sub.rfl' Sub.rfl' Sub.rfl' Sub.rfl' Sub.rfl'
    with_reducible assumption
  clear_value v1
  apply State.bump_kept
  apply State.journal_kept
  apply State.put_kept
  with_reducible assumption

theorem State.loseReads_kept {s0 x0 : State} (h0 : Kept s0 x0) :
    Kept s0 (@State.loseReads x0) := by
  unfold State.loseReads
  extract_lets +onlyGivenNames v1
  clear_value v1
  apply forEach_kept
  · with_reducible assumption
  · intro k2 k3 k4
    apply State.put_kept
    with_reducible assumption

theorem State.openNewBand_kept {s0 x0 : State} {x1 x2 : Nat} {x3 : List (Option Nat)} {x4 : List Nat} (h0 : Kept s0 x0) :
    Kept s0 (@State.openNewBand x0 x1 x2 x3 x4) := by
  unfold State.openNewBand
  extract_lets +onlyGivenNames v1
  clear_value v1
  extract_lets +onlyGivenNames v2
  extract_lets +onlyGivenNames v3
  clear_value v3
  extract_lets +onlyGivenNames v4
  clear_value v4
  split
  · with_reducible assumption
  · extract_lets +onlyGivenNames v5
    clear_value v5
    split
    · apply forEach_kept
      · with_reducible assumption
      · intro k6 k7 k8
        apply State.journal_kept
        apply State.put_kept
        apply State.put_kept
        with_reducible assumption
    · apply State.addBand_kept
      with_reducible assumption

theorem State.parityProgress_kept {s0 x0 : State} {x1 : Band} (h0 : Kept s0 x0) :
    Kept s0 (@State.parityProgress x0 x1) := by
  unfold State.parityProgress
  split
  · with_reducible assumption
  · extract_lets +onlyGivenNames v1
    clear_value v1
    apply State.dropComplete_kept
    apply State.setBand_kept
    with_reducible assumption

theorem State.planOwn_kept {s0 x0 : State} {x1 : Nat} {x2 : PEntry} (h0 : Kept s0 x0) :
    Kept s0 (@State.planOwn x0 x1 x2) := by
  unfold State.planOwn
  apply State.giveWork_kept
  with_reducible assumption

theorem State.programWl_kept {s0 x0 : State} {x1 x2 x3 : Nat} (h0 : Kept s0 x0) :
    Kept s0 (@State.programWl x0 x1 x2 x3) := by
  unfold State.programWl
  extract_lets +onlyGivenNames v1
  clear_value v1
  extract_lets +onlyGivenNames v2
  clear_value v2
  extract_lets +onlyGivenNames v3
  clear_value v3
  extract_lets +onlyGivenNames v4
  have h4 : Kept s0 v4 := by
    unfold v4
    apply forEach_kept
    · with_reducible assumption
    · intro k5 k6 k7
      extract_lets +onlyGivenNames v8
      clear_value v8
      apply State.flashPut_kept
      with_reducible assumption
  clear_value v4
  extract_lets +onlyGivenNames v9
  have h9 : Kept s0 v9 := by
    unfold v9
    refine Kept.same (s := v4) ?_ rfl Sub.rfl' Sub.rfl' Sub.rfl' Sub.rfl' Sub.rfl'
    with_reducible assumption
  clear_value v9
  apply State.dirtySub_kept
  with_reducible assumption

theorem State.releaseMembers_kept {s0 x0 : State} {x1 : Band} (h0 : Kept s0 x0) :
    Kept s0 (@State.releaseMembers x0 x1) := by
  unfold State.releaseMembers
  apply forEach_kept
  · apply State.journal_kept
    with_reducible assumption
  · intro k1 k2 k3
    extract_lets +onlyGivenNames v4
    clear_value v4
    split
    · apply State.journalRetire_kept
      apply State.put_kept
      with_reducible assumption
    · apply State.putFlag_kept
      apply State.put_kept
      apply State.put_kept
      with_reducible assumption

theorem State.sampleOp_kept {s0 x0 : State} {x1 x2 x3 : Nat} (h0 : Kept s0 x0) :
    Kept s0 (@State.sampleOp x0 x1 x2 x3) := by
  unfold State.sampleOp
  apply State.sample_kept
  apply State.sample_kept
  with_reducible assumption

theorem State.storeHost_kept {s0 x0 : State} {x1 x2 x3 : Nat} {x4 : Bool} {x5 : List (List Byte)} {x6 x7 : Nat} {x8 : Option Nat} {x9 : Nat → List
    (Nat × Nat)} (h0 : Kept s0 x0) :
    KeptO s0 (@State.storeHost x0 x1 x2 x3 x4 x5 x6 x7 x8 x9) := by
  unfold State.storeHost
  split
  · exact KeptO.none
  · extract_lets +onlyGivenNames v1
    clear_value v1
    extract_lets +onlyGivenNames v2
    have h2 : KeptP s0 v2 := by
      unfold v2
      apply State.allocIn_kept
      with_reducible assumption
    clear_value v2
    extract_lets +onlyGivenNames v3
    have h3 : Kept s0 v3 := by
      unfold v3
      apply State.put_kept
      refine KeptP.out ?_
      with_reducible assumption
    clear_value v3
    extract_lets +onlyGivenNames v4
    clear_value v4
    extract_lets +onlyGivenNames v5
    have h5 : Kept s0 v5 := by
      unfold v5
      refine Kept.same (s := v3) ?_ rfl Sub.rfl' Sub.rfl' Sub.rfl' Sub.rfl' Sub.rfl'
      with_reducible assumption
    clear_value v5
    extract_lets +onlyGivenNames v6
    have h6 : Kept s0 v6 := by
      unfold v6
      apply State.putFlag_kept
      apply State.add_kept
      with_reducible assumption
    clear_value v6
    apply KeptO.some
    apply forEach_kept
    · with_reducible assumption
    · intro k7 k8 k9
      apply State.mapPut_kept
      with_reducible assumption

theorem State.updateSprog_kept {s0 x0 : State} (h0 : Kept s0 x0) :
    Kept s0 (@State.updateSprog x0) := by
  unfold State.updateSprog
  split
  · apply State.put_kept
    with_reducible assumption
  · with_reducible assumption

theorem State.writePage_kept {s0 x0 : State} {x1 : MapPage} (h0 : Kept s0 x0) :
    Kept s0 (@State.writePage x0 x1) := by
  unfold State.writePage
  split
  · with_reducible assumption
  · extract_lets +onlyGivenNames v1
    clear_value v1
    extract_lets +onlyGivenNames v2
    have h2 : KeptP s0 v2 := by
      unfold v2
      apply State.allocIn_kept
      with_reducible assumption
    clear_value v2
    extract_lets +onlyGivenNames v3
    have h3 : Kept s0 v3 := by
      unfold v3
      refine KeptP.out ?_
      with_reducible assumption
    clear_value v3
    extract_lets +onlyGivenNames v4
    clear_value v4
    extract_lets +onlyGivenNames v5
    have h5 : Kept s0 v5 := by
      unfold v5
      refine Kept.same (s := v3) ?_ rfl Sub.rfl' Sub.rfl' Sub.rfl' Sub.rfl' Sub.rfl'
      with_reducible assumption
    clear_value v5
    apply State.journal_kept
    with_reducible assumption

theorem execEraseCallComplete_kept {s0 : State} {x0 : Nat} {x1 : Bool} {x2 : Nat} {x3 : State} (h0 : Kept s0 x3) :
    KeptN s0 (@execEraseCallComplete x0 x1 x2 x3) := by
  unfold execEraseCallComplete
  split
  · apply KeptN.next
    with_reducible assumption
  · extract_lets +onlyGivenNames v1
    clear_value v1
    extract_lets +onlyGivenNames v2
    clear_value v2
    extract_lets +onlyGivenNames v3
    clear_value v3
    extract_lets +onlyGivenNames v4
    clear_value v4
    extract_lets +onlyGivenNames v5
    clear_value v5
    extract_lets +onlyGivenNames v6
    have h6 : Kept s0 v6 := by
      unfold v6
      apply State.sampleOp_kept
      with_reducible assumption
    clear_value v6
    split
    · extract_lets +onlyGivenNames v7
      have h7 : Kept s0 v7 := by
        unfold v7
        apply State.put_kept
        apply State.put_kept
        apply State.put_kept
        with_reducible assumption
      clear_value v7
      extract_lets +onlyGivenNames v8
      have h8 : Kept s0 v8 := by
        unfold v8
        apply State.putFlag_kept
        apply State.putFlag_kept
        with_reducible assumption
      clear_value v8
      extract_lets +onlyGivenNames v9
      have h9 : Kept s0 v9 := by
        unfold v9
        split
        · with_reducible assumption
        · apply State.journal_kept
          apply State.put_kept
          with_reducible assumption
      clear_value v9
      extract_lets +onlyGivenNames v10
      have h10 : Kept s0 v10 := by
        unfold v10
        refine Kept.same (s := v9) ?_ rfl Sub.rfl' Sub.rfl' Sub.rfl' Sub.rfl' Sub.rfl'
        with_reducible assumption
      clear_value v10
      apply KeptN.next
      apply State.updateSprog_kept
      apply State.endDieOp_kept
      with_reducible assumption
    · extract_lets +onlyGivenNames v11
      have h11 : Kept s0 v11 := by
        unfold v11
        apply State.putFlag_kept
        apply State.put_kept
        with_reducible assumption
      clear_value v11
      extract_lets +onlyGivenNames v12
      have h12 : Kept s0 v12 := by
        unfold v12
        apply State.endDieOp_kept
        apply State.journalRetire_kept
        with_reducible assumption
      clear_value v12
      apply KeptN.next
      apply State.raise_kept
      apply State.updateSprog_kept
      apply State.updateGc_kept
      with_reducible assumption

theorem execGcCommit_kept {s0 : State} {x0 : Nat} {x1 : State} (h0 : Kept s0 x1) :
    KeptN s0 (@execGcCommit x0 x1) := by
  unfold execGcCommit
  split
  · apply KeptN.next
    with_reducible assumption
  · split
    · apply KeptN.next
      with_reducible assumption
    · extract_lets +onlyGivenNames v1
      have h1 : Kept s0 v1 := by
        unfold v1
        apply State.commitCopy_kept
        with_reducible assumption
      clear_value v1
      apply KeptN.next
      refine Kept.same (s := v1) ?_ rfl Sub.rfl' Sub.rfl' Sub.rfl' Sub.rfl' Sub.rfl'
      with_reducible assumption

theorem execGcCopy_kept {s0 : State} {x0 : Nat} {x1 : State} (h0 : Kept s0 x1) :
    KeptN s0 (@execGcCopy x0 x1) := by
  unfold execGcCopy
  split
  · split
    · apply KeptN.next
      with_reducible assumption
    · split
      · apply KeptN.next
        apply State.add_kept
        apply State.setBand_kept
        refine KeptO.out (by assumption) ?_
        apply State.copyUnit_kept
        apply State.gcLookups_kept
        with_reducible assumption
      · apply KeptN.next
        with_reducible assumption
  · apply KeptN.next
    with_reducible assumption

theorem execJournalPageProgram_kept {s0 x0 : State} (h0 : Kept s0 x0) :
    KeptN s0 (@execJournalPageProgram x0) := by
  unfold execJournalPageProgram
  split
  · apply KeptN.next
    with_reducible assumption
  · extract_lets +onlyGivenNames v1
    have h1 : Kept s0 v1 := by
      unfold v1
      apply State.programJnl_kept
      with_reducible assumption
    clear_value v1
    apply KeptN.next
    apply State.ackAll_kept
    split
    · apply State.checkpoint_kept
      with_reducible assumption
    · with_reducible assumption

theorem execMapWriteBack_kept {s0 : State} {x0 x1 : Nat} {x2 : State} (h0 : Kept s0 x2) :
    KeptN s0 (@execMapWriteBack x0 x1 x2) := by
  unfold execMapWriteBack
  split
  · apply KeptN.next
    with_reducible assumption
  · extract_lets +onlyGivenNames v1
    have h1 : Kept s0 v1 := by
      unfold v1
      apply forEach_kept
      · with_reducible assumption
      · intro k2 k3 k4
        apply State.writeBackLine_kept
        with_reducible assumption
    clear_value v1
    split
    · apply KeptN.next
      with_reducible assumption
    · apply KeptN.next
      split
      · apply State.checkpoint_kept
        apply State.writePage_kept
        with_reducible assumption
      · with_reducible assumption

theorem execMediaOpTimeout_kept {s0 : State} {x0 : Nat} {x1 : State} (h0 : Kept s0 x1) :
    KeptN s0 (@execMediaOpTimeout x0 x1) := by
  unfold execMediaOpTimeout
  extract_lets +onlyGivenNames v1
  clear_value v1
  split
  · apply KeptN.next
    with_reducible assumption
  · extract_lets +onlyGivenNames v2
    clear_value v2
    split
    extract_lets +onlyGivenNames v3
    have h3 : Kept s0 v3 := by
      unfold v3
      apply State.endDieOp_kept
      refine KeptP.eq (by assumption) ?_
      apply State.takeFree_kept
      with_reducible assumption
    clear_value v3
    extract_lets +onlyGivenNames v4
    have h4 : Kept s0 v4 := by
      unfold v4
      split
      · apply State.programFailed_kept
        with_reducible assumption
      · apply State.halfErase_kept
        with_reducible assumption
    clear_value v4
    apply KeptN.next
    apply State.raise_kept
    with_reducible assumption

theorem execProgramCallComplete_kept {s0 : State} {x0 : Nat} {x1 : Bool} {x2 : Nat} {x3 : State} (h0 : Kept s0 x3) :
    KeptN s0 (@execProgramCallComplete x0 x1 x2 x3) := by
  unfold execProgramCallComplete
  split
  · apply KeptN.next
    with_reducible assumption
  · extract_lets +onlyGivenNames v1
    clear_value v1
    extract_lets +onlyGivenNames v2
    clear_value v2
    extract_lets +onlyGivenNames v3
    have h3 : Kept s0 v3 := by
      unfold v3
      apply State.sampleOp_kept
      with_reducible assumption
    clear_value v3
    split
    · extract_lets +onlyGivenNames v4
      have h4 : Kept s0 v4 := by
        unfold v4
        apply State.put_kept
        apply State.programWl_kept
        with_reducible assumption
      clear_value v4
      extract_lets +onlyGivenNames v5
      have h5 : Kept s0 v5 := by
        unfold v5
        split
        · apply State.parityProgress_kept
          with_reducible assumption
        · with_reducible assumption
      clear_value v5
      apply KeptN.next
      apply State.ackAll_kept
      apply State.endDieOp_kept
      with_reducible assumption
    · extract_lets +onlyGivenNames v6
      have h6 : Kept s0 v6 := by
        unfold v6
        apply State.endDieOp_kept
        with_reducible assumption
      clear_value v6
      extract_lets +onlyGivenNames v7
      have h7 : Kept s0 v7 := by
        unfold v7
        apply State.programFailed_kept
        with_reducible assumption
      clear_value v7
      apply KeptN.next
      apply State.raise_kept
      with_reducible assumption

theorem execRelease_kept {s0 : State} {x0 : Nat} {x1 : State} (h0 : Kept s0 x1) :
    KeptN s0 (@execRelease x0 x1) := by
  unfold execRelease
  split
  · apply KeptN.next
    with_reducible assumption
  · split
    · apply KeptN.next
      with_reducible assumption
    · extract_lets +onlyGivenNames v1
      have h1 : Kept s0 v1 := by
        unfold v1
        apply State.bump_kept
        apply State.releaseMembers_kept
        with_reducible assumption
      clear_value v1
      extract_lets +onlyGivenNames v2
      have h2 : Kept s0 v2 := by
        unfold v2
        split
        · apply State.bump_kept
          with_reducible assumption
        · with_reducible assumption
      clear_value v2
      extract_lets +onlyGivenNames v3
      have h3 : Kept s0 v3 := by
        unfold v3
        split
        · apply State.bump_kept
          with_reducible assumption
        · with_reducible assumption
      clear_value v3
      apply KeptN.next
      apply State.updateGc_kept
      apply State.dropBand_kept
      with_reducible assumption

theorem execReserveRefill_kept {s0 : State} {x0 x1 : Nat} {x2 : State} (h0 : Kept s0 x2) :
    KeptN s0 (@execReserveRefill x0 x1 x2) := by
  unfold execReserveRefill
  extract_lets +onlyGivenNames v1
  clear_value v1
  split
  · apply KeptN.next
    apply State.updateGc_kept
    apply State.put_kept
    with_reducible assumption
  · apply KeptN.next
    with_reducible assumption

theorem execStaticWearLevelling_kept {s0 : State} {x0 : Nat} {x1 : State} (h0 : Kept s0 x1) :
    KeptN s0 (@execStaticWearLevelling x0 x1) := by
  unfold execStaticWearLevelling
  extract_lets +onlyGivenNames v1
  clear_value v1
  extract_lets +onlyGivenNames v2
  have h2 : Kept s0 v2 := by
    unfold v2
    apply State.put_kept
    with_reducible assumption
  clear_value v2
  extract_lets +onlyGivenNames v3
  clear_value v3
  extract_lets +onlyGivenNames v4
  clear_value v4
  split
  · apply KeptN.next
    with_reducible assumption
  · split
    · apply KeptN.next
      apply State.put_kept
      apply State.put_kept
      apply State.setBand_kept
      with_reducible assumption
    · apply KeptN.next
      with_reducible assumption

end Sys2Proof.Machine
end

