-- ==== Sys2Proof/Laws/KeptStacks.lean ====
section
/-! SUPPORT. What the operations of Machine/Stacks.lean keep (`Kept`): one lemma each. -/

set_option linter.unusedVariables false

namespace Sys2Proof.Machine

theorem State.adoptLines_kept {s0 x0 : State} {x1 : Nat} (h0 : Kept s0 x0) :
    Kept s0 (@State.adoptLines x0 x1) := by
  unfold State.adoptLines
  refine Kept.same (s := x0) ?_ rfl Sub.rfl' Sub.rfl' Sub.rfl' Sub.rfl' Sub.rfl'
  with_reducible assumption

theorem State.addNode_kept {s0 x0 : State} {x1 : Node} (h0 : Kept s0 x0) :
    Kept s0 (@State.addNode x0 x1) := by
  unfold State.addNode
  extract_lets +onlyGivenNames v1
  clear_value v1
  extract_lets +onlyGivenNames v2
  have h2 : Kept s0 v2 := by
    unfold v2
    apply State.put_kept
    with_reducible assumption
  clear_value v2
  apply State.adoptLines_kept
  apply State.journal_kept
  refine Kept.same (s := v2) ?_ rfl Sub.rfl' Sub.rfl' Sub.rfl' Sub.rfl' Sub.rfl'
  with_reducible assumption

theorem State.beginDeletion_kept {s0 x0 : State} {x1 x2 x3 : Nat} (h0 : Kept s0 x0) :
    Kept s0 (@State.beginDeletion x0 x1 x2 x3) := by
  unfold State.beginDeletion
  split
  · with_reducible assumption
  · extract_lets +onlyGivenNames v1
    have h1 : Kept s0 v1 := by
      unfold v1
      apply State.setNode_kept
      apply State.journal_kept
      with_reducible assumption
    clear_value v1
    apply State.startSweep_kept
    with_reducible assumption

theorem State.countClose_kept {s0 x0 : State} {x1 : Nat} (h0 : Kept s0 x0) :
    Kept s0 (@State.countClose x0 x1) := by
  unfold State.countClose
  apply State.raise_kept
  apply State.bump_kept
  with_reducible assumption

theorem State.doomKeys_kept {s0 x0 : State} {x1 : Nat} (h0 : Kept s0 x0) :
    Kept s0 (@State.doomKeys x0 x1) := by
  unfold State.doomKeys
  refine Kept.same (s := x0) ?_ rfl Sub.rfl' Sub.rfl' Sub.rfl' Sub.rfl' Sub.rfl'
  with_reducible assumption

theorem State.dropDict_kept {s0 x0 : State} {x1 : Nat} (h0 : Kept s0 x0) :
    Kept s0 (@State.dropDict x0 x1) := by
  unfold State.dropDict
  split
  · apply State.journal_kept
    refine Kept.same (s := x0) ?_ rfl Sub.rfl' Sub.rfl' Sub.rfl' Sub.rfl' Sub.rfl'
    with_reducible assumption
  · with_reducible assumption

theorem State.dropLicence_kept {s0 x0 : State} {x1 : Nat} (h0 : Kept s0 x0) :
    Kept s0 (@State.dropLicence x0 x1) := by
  unfold State.dropLicence
  split
  · with_reducible assumption
  · extract_lets +onlyGivenNames v1
    have h1 : Kept s0 v1 := by
      unfold v1
      refine Kept.same (s := x0) ?_ rfl Sub.rfl' Sub.rfl' Sub.rfl' Sub.rfl' Sub.rfl'
      with_reducible assumption
    clear_value v1
    extract_lets +onlyGivenNames v2
    have h2 : Kept s0 v2 := by
      unfold v2
      apply State.journal_kept
      with_reducible assumption
    clear_value v2
    split
    · with_reducible assumption
    · apply State.countClose_kept
      with_reducible assumption

theorem State.journalChildren_kept {s0 x0 : State} {x1 : Nat} {x2 : List Nat} (h0 : Kept s0 x0) :
    Kept s0 (@State.journalChildren x0 x1 x2) := by
  unfold State.journalChildren
  extract_lets +onlyGivenNames v1
  clear_value v1
  apply forEach_kept
  · with_reducible assumption
  · intro k2 k3 k4
    extract_lets +onlyGivenNames v5
    clear_value v5
    apply State.journal_kept
    with_reducible assumption

theorem State.tsDone_kept {s0 x0 : State} {x1 x2 x3 : Nat} (h0 : Kept s0 x0) :
    Kept s0 (@State.tsDone x0 x1 x2 x3) := by
  unfold State.tsDone
  split
  · apply State.putFlag_kept
    apply State.put_kept
    with_reducible assumption
  · with_reducible assumption

theorem State.notifyChange_kept {s0 x0 : State} {x1 : Nat} (h0 : Kept s0 x0) :
    Kept s0 (@State.notifyChange x0 x1) := by
  unfold State.notifyChange
  extract_lets +onlyGivenNames v1
  clear_value v1
  apply forEach_kept
  · with_reducible assumption
  · intro k2 k3 k4
    extract_lets +onlyGivenNames v5
    clear_value v5
    split
    · with_reducible assumption
    · extract_lets +onlyGivenNames v6
      have h6 : Kept s0 v6 := by
        unfold v6
        apply forEach_kept
        · with_reducible assumption
        · intro k7 k8 k9
          apply State.putFlag_kept
          with_reducible assumption
      clear_value v6
      split
      · apply State.asyncEvent_kept
        with_reducible assumption
      · with_reducible assumption

theorem State.newEpoch_kept {s0 x0 : State} {x1 : Nat} (h0 : Kept s0 x0) :
    Kept s0 (@State.newEpoch x0 x1) := by
  unfold State.newEpoch
  extract_lets +onlyGivenNames v1
  clear_value v1
  extract_lets +onlyGivenNames v2
  have h2 : Kept s0 v2 := by
    unfold v2
    refine Kept.same (s := x0) ?_ rfl Sub.rfl' Sub.rfl' Sub.rfl' Sub.rfl' Sub.rfl'
    with_reducible assumption
  clear_value v2
  refine Kept.same (s := v2) ?_ rfl Sub.rfl' Sub.rfl' Sub.rfl' Sub.rfl' Sub.rfl'
  with_reducible assumption

theorem State.withChange_kept {s0 x0 : State} {x1 : Change} (h0 : Kept s0 x0) :
    Kept s0 (@State.withChange x0 x1) := by
  unfold State.withChange
  extract_lets +onlyGivenNames v1
  split
  · split
    · refine Kept.same (s := x0) ?_ rfl Sub.rfl' Sub.rfl' Sub.rfl' Sub.rfl' Sub.rfl'
      with_reducible assumption
    · with_reducible assumption
  · split
    · unfold v1
      refine Kept.same (s := x0) ?_ rfl Sub.rfl' Sub.rfl' Sub.rfl' Sub.rfl' Sub.rfl'
      with_reducible assumption
    · split
      · unfold v1
        refine Kept.same (s := x0) ?_ rfl Sub.rfl' Sub.rfl' Sub.rfl' Sub.rfl' Sub.rfl'
        with_reducible assumption
      · split
        · unfold v1
          refine Kept.same (s := x0) ?_ rfl Sub.rfl' Sub.rfl' Sub.rfl' Sub.rfl' Sub.rfl'
          with_reducible assumption
        · split
          · unfold v1
            refine Kept.same (s := x0) ?_ rfl Sub.rfl' Sub.rfl' Sub.rfl' Sub.rfl' Sub.rfl'
            with_reducible assumption
          · split
            · unfold v1
              refine Kept.same (s := x0) ?_ rfl Sub.rfl' Sub.rfl' Sub.rfl' Sub.rfl' Sub.rfl'
              with_reducible assumption
            · with_reducible assumption

theorem State.journalAttr_kept {s0 x0 : State} {x1 : Node} (h0 : Kept s0 x0) :
    Kept s0 (@State.journalAttr x0 x1) := by
  unfold State.journalAttr
  apply State.journal_kept
  with_reducible assumption

theorem State.effect_kept {s0 x0 : State} {x1 x2 : Nat} {x3 : Change} (h0 : Kept s0 x0) :
    Kept s0 (@State.effect x0 x1 x2 x3) := by
  unfold State.effect
  split
  · split
    · with_reducible assumption
    · extract_lets +onlyGivenNames v1
      have h1 : Kept s0 v1 := by
        unfold v1
        apply State.journalChildren_kept
        apply State.addNode_kept
        with_reducible assumption
      clear_value v1
      apply State.tsDone_kept
      apply State.put_kept
      with_reducible assumption
  · split
    · extract_lets +onlyGivenNames v2
      have h2 : Kept s0 v2 := by
        unfold v2
        apply State.notifyChange_kept
        apply State.newEpoch_kept
        apply State.withChange_kept
        apply State.journalChildren_kept
        with_reducible assumption
      clear_value v2
      refine Kept.same (s := v2) ?_ rfl Sub.rfl' Sub.rfl' Sub.rfl' Sub.rfl' Sub.rfl'
      with_reducible assumption
    · split
      · apply State.notifyChange_kept
        apply State.put_kept
        apply State.beginDeletion_kept
        with_reducible assumption
      · extract_lets +onlyGivenNames v3
        have h3 : Kept s0 v3 := by
          unfold v3
          apply State.withChange_kept
          with_reducible assumption
        clear_value v3
        extract_lets +onlyGivenNames v4
        have h4 : Kept s0 v4 := by
          unfold v4
          split
          · split
            · apply State.journal_kept
              with_reducible assumption
            · apply State.journalAttr_kept
              with_reducible assumption
          · with_reducible assumption
        clear_value v4
        extract_lets +onlyGivenNames v5
        have h5 : Kept s0 v5 := by
          unfold v5
          split
          · apply State.dropDict_kept
            with_reducible assumption
          · with_reducible assumption
        clear_value v5
        apply State.tsDone_kept
        apply State.notifyChange_kept
        with_reducible assumption

theorem State.newKey_kept {s0 x0 : State} {x1 x2 : Nat} (h0 : Kept s0 x0) :
    Kept s0 (@State.newKey x0 x1 x2) := by
  unfold State.newKey
  extract_lets +onlyGivenNames v1
  clear_value v1
  extract_lets +onlyGivenNames v2
  have h2 : Kept s0 v2 := by
    unfold v2
    apply State.doomKeys_kept
    apply State.put_kept
    with_reducible assumption
  clear_value v2
  extract_lets +onlyGivenNames v3
  have h3 : Kept s0 v3 := by
    unfold v3
    refine Kept.same (s := v2) ?_ rfl Sub.rfl' Sub.rfl' Sub.rfl' Sub.rfl' Sub.rfl'
    with_reducible assumption
  clear_value v3
  split
  · with_reducible assumption
  · apply forEach_kept
    · with_reducible assumption
    · intro k4 k5 k6
      split
      apply State.journal_kept
      refine KeptP.eq (by assumption) ?_
      apply State.takeFree_kept
      with_reducible assumption

theorem State.nextSweep_kept {s0 x0 : State} (h0 : Kept s0 x0) :
    Kept s0 (@State.nextSweep x0) := by
  unfold State.nextSweep
  split
  · with_reducible assumption
  · extract_lets +onlyGivenNames v1
    have h1 : Kept s0 v1 := by
      unfold v1
      refine Kept.same (s := x0) ?_ rfl Sub.rfl' Sub.rfl' Sub.rfl' Sub.rfl' Sub.rfl'
      with_reducible assumption
    clear_value v1
    apply State.applySweep_kept
    with_reducible assumption

theorem State.tsResult_kept {s0 x0 : State} {x1 x2 x3 x4 : Nat} (h0 : Kept s0 x0) :
    Kept s0 (@State.tsResult x0 x1 x2 x3 x4) := by
  unfold State.tsResult
  apply State.put_kept
  apply State.put_kept
  apply State.put_kept
  with_reducible assumption

theorem State.submitTs_kept {s0 x0 : State} {x1 : Agent} {x2 : Nat} {x3 : Bool} (h0 : Kept s0 x0) :
    Kept s0 (@State.submitTs x0 x1 x2 x3) := by
  unfold State.submitTs
  apply State.guardWrite_kept
  · with_reducible assumption
  · intro k1 k2
    extract_lets +onlyGivenNames v3
    clear_value v3
    split
    · apply State.bump_kept
      with_reducible assumption
    · extract_lets +onlyGivenNames v4
      have h4 : Kept s0 v4 := by
        unfold v4
        apply State.putFlag_kept
        apply State.put_kept
        with_reducible assumption
      clear_value v4
      extract_lets +onlyGivenNames v5
      clear_value v5
      extract_lets +onlyGivenNames v6
      clear_value v6
      extract_lets +onlyGivenNames v7
      clear_value v7
      extract_lets +onlyGivenNames v8
      clear_value v8
      extract_lets +onlyGivenNames v9
      clear_value v9
      extract_lets +onlyGivenNames v10
      clear_value v10
      extract_lets +onlyGivenNames v11
      have h11 : Kept s0 v11 := by
        unfold v11
        apply State.put_kept
        apply State.put_kept
        with_reducible assumption
      clear_value v11
      split
      · apply State.tsResult_kept
        with_reducible assumption
      · split
        · apply State.arm_kept
          apply State.tsResult_kept
          with_reducible assumption
        · apply State.effect_kept
          apply State.putFlag_kept
          apply State.tsResult_kept
          with_reducible assumption

theorem execClearWritable_kept {s0 : State} {x0 : Agent} {x1 : State} (h0 : Kept s0 x1) :
    KeptN s0 (@execClearWritable x0 x1) := by
  unfold execClearWritable
  apply KeptN.next
  apply State.atUnit_kept
  · with_reducible assumption
  · intro k1 k2
    apply State.submitTs_kept
    with_reducible assumption

theorem execCreateStack_kept {s0 : State} {x0 : Agent} {x1 : State} (h0 : Kept s0 x1) :
    KeptN s0 (@execCreateStack x0 x1) := by
  unfold execCreateStack
  apply KeptN.next
  apply State.atUnit_kept
  · with_reducible assumption
  · intro k1 k2
    apply State.submitTs_kept
    with_reducible assumption

theorem execDeleteStack_kept {s0 : State} {x0 : Agent} {x1 : Bool} {x2 : State} (h0 : Kept s0 x2) :
    KeptN s0 (@execDeleteStack x0 x1 x2) := by
  unfold execDeleteStack
  apply KeptN.next
  apply State.atUnit_kept
  · with_reducible assumption
  · intro k1 k2
    apply State.submitTs_kept
    with_reducible assumption

theorem execGrow_kept {s0 : State} {x0 : Agent} {x1 : State} (h0 : Kept s0 x1) :
    KeptN s0 (@execGrow x0 x1) := by
  unfold execGrow
  apply KeptN.next
  apply State.atUnit_kept
  · with_reducible assumption
  · intro k1 k2
    apply State.submitTs_kept
    with_reducible assumption

theorem execInvalidationSweepDone_kept {s0 : State} {x0 : Nat} {x1 : State} (h0 : Kept s0 x1) :
    KeptN s0 (@execInvalidationSweepDone x0 x1) := by
  unfold execInvalidationSweepDone
  split
  · apply KeptN.next
    with_reducible assumption
  · extract_lets +onlyGivenNames v1
    have h1 : Kept s0 v1 := by
      unfold v1
      apply State.bump_kept
      refine Kept.same (s := x1) ?_ rfl Sub.rfl' Sub.rfl' Sub.rfl' Sub.rfl' Sub.rfl'
      with_reducible assumption
    clear_value v1
    extract_lets +onlyGivenNames v2
    have h2 : Kept s0 v2 := by
      unfold v2
      split
      · apply State.putFlag_kept
        apply State.put_kept
        with_reducible assumption
      · split
        · apply State.tsDone_kept
          with_reducible assumption
        · with_reducible assumption
    clear_value v2
    apply KeptN.next
    split
    · with_reducible assumption
    · apply State.nextSweep_kept
      with_reducible assumption

theorem execNodeDeletionComplete_kept {s0 : State} {x0 : Nat} {x1 : State} (h0 : Kept s0 x1) :
    KeptN s0 (@execNodeDeletionComplete x0 x1) := by
  unfold execNodeDeletionComplete
  split
  · apply KeptN.next
    with_reducible assumption
  · split
    · apply KeptN.next
      with_reducible assumption
    · extract_lets +onlyGivenNames v1
      have h1 : Kept s0 v1 := by
        unfold v1
        apply State.journal_kept
        with_reducible assumption
      clear_value v1
      extract_lets +onlyGivenNames v2
      have h2 : Kept s0 v2 := by
        unfold v2
        split
        · with_reducible assumption
        · apply State.dropDict_kept
          apply State.dropLicence_kept
          apply State.emptyNode_kept
          with_reducible assumption
      clear_value v2
      extract_lets +onlyGivenNames v3
      have h3 : Kept s0 v3 := by
        unfold v3
        refine Kept.same (s := v2) ?_ rfl Sub.rfl' Sub.rfl' Sub.rfl' Sub.rfl' Sub.rfl'
        with_reducible assumption
      clear_value v3
      extract_lets +onlyGivenNames v4
      have h4 : Kept s0 v4 := by
        unfold v4
        apply State.put_kept
        with_reducible assumption
      clear_value v4
      extract_lets +onlyGivenNames v5
      have h5 : Kept s0 v5 := by
        unfold v5
        apply forEach_kept
        · with_reducible assumption
        · intro k6 k7 k8
          apply State.tsDone_kept
          with_reducible assumption
      clear_value v5
      split
      · apply KeptN.next
        apply State.finish_kept
        with_reducible assumption
      · apply KeptN.next
        with_reducible assumption

theorem execSetChildren_kept {s0 : State} {x0 : Agent} {x1 : Bool} {x2 : State} (h0 : Kept s0 x2) :
    KeptN s0 (@execSetChildren x0 x1 x2) := by
  unfold execSetChildren
  apply KeptN.next
  apply State.atUnit_kept
  · with_reducible assumption
  · intro k1 k2
    apply State.submitTs_kept
    with_reducible assumption

theorem execSetWritable_kept {s0 : State} {x0 : Agent} {x1 : State} (h0 : Kept s0 x1) :
    KeptN s0 (@execSetWritable x0 x1) := by
  unfold execSetWritable
  apply KeptN.next
  apply State.atUnit_kept
  · with_reducible assumption
  · intro k1 k2
    apply State.submitTs_kept
    with_reducible assumption

end Sys2Proof.Machine
end

