-- ==== Sys2Proof/Laws/KeptReads.lean ====
section
/-! SUPPORT. What the operations of Machine/Reads.lean keep (`Kept`): one lemma each. -/

set_option linter.unusedVariables false

namespace Sys2Proof.Machine

theorem State.addHedge_kept {s0 x0 : State} {x1 x2 x3 : Nat} {x4 : List Nat} {x5 : Bool} (h0 : Kept s0 x0) :
    Kept s0 (@State.addHedge x0 x1 x2 x3 x4 x5) := by
  unfold State.addHedge
  refine Kept.same (s := x0) ?_ rfl Sub.rfl' Sub.rfl' Sub.rfl' Sub.rfl' Sub.rfl'
  with_reducible assumption

theorem State.failPlace_kept {s0 x0 : State} {x1 : Nat} {x2 : Result} (h0 : Kept s0 x0) :
    Kept s0 (@State.failPlace x0 x1 x2) := by
  unfold State.failPlace
  apply forEach_kept
  · with_reducible assumption
  · intro k1 k2 k3
    apply State.finish_kept
    with_reducible assumption

theorem State.planLater_kept {s0 x0 : State} {x1 x2 x3 x4 : Nat} (h0 : Kept s0 x0) :
    Kept s0 (@State.planLater x0 x1 x2 x3 x4) := by
  unfold State.planLater
  apply State.giveWork_kept
  with_reducible assumption

theorem State.appendRead_kept {s0 x0 : State} {x1 x2 x3 : Nat} (h0 : Kept s0 x0) :
    Kept s0 (@State.appendRead x0 x1 x2 x3) := by
  unfold State.appendRead
  extract_lets +onlyGivenNames v1
  clear_value v1
  extract_lets +onlyGivenNames v2
  clear_value v2
  extract_lets +onlyGivenNames v3
  clear_value v3
  extract_lets +onlyGivenNames v4
  clear_value v4
  extract_lets +onlyGivenNames v5
  clear_value v5
  extract_lets +onlyGivenNames v6
  clear_value v6
  apply State.setPlan_kept
  with_reducible assumption

theorem State.planNext_kept {s0 x0 : State} {x1 x2 x3 : Nat} (h0 : Kept s0 x0) :
    Kept s0 (@State.planNext x0 x1 x2 x3) := by
  unfold State.planNext
  extract_lets +onlyGivenNames v1
  clear_value v1
  extract_lets +onlyGivenNames v2
  clear_value v2
  apply State.setPlan_kept
  with_reducible assumption

theorem State.reconstruct_kept {s0 x0 : State} {x1 x2 : Nat} (h0 : Kept s0 x0) :
    Kept s0 (@State.reconstruct x0 x1 x2) := by
  unfold State.reconstruct
  split
  · with_reducible assumption
  · split
    · apply State.failPlace_kept
      with_reducible assumption
    · extract_lets +onlyGivenNames v1
      clear_value v1
      split
      · apply State.failPlace_kept
        with_reducible assumption
      · extract_lets +onlyGivenNames v2
        clear_value v2
        extract_lets +onlyGivenNames v3
        clear_value v3
        extract_lets +onlyGivenNames v4
        clear_value v4
        extract_lets +onlyGivenNames v5
        have h5 : Kept s0 v5 := by
          unfold v5
          apply State.bump_kept
          apply State.addHedge_kept
          with_reducible assumption
        clear_value v5
        extract_lets +onlyGivenNames v6
        clear_value v6
        apply forEach_kept
        · with_reducible assumption
        · intro k7 k8 k9
          split
          · apply State.planLater_kept
            with_reducible assumption
          · split
            · apply State.appendRead_kept
              with_reducible assumption
            · apply State.planNext_kept
              with_reducible assumption

theorem State.startRead_kept {s0 x0 : State} {x1 x2 x3 x4 : Nat} (h0 : Kept s0 x0) :
    Kept s0 (@State.startRead x0 x1 x2 x3 x4) := by
  unfold State.startRead
  extract_lets +onlyGivenNames v1
  clear_value v1
  extract_lets +onlyGivenNames v2
  clear_value v2
  apply State.takeCall_kept
  with_reducible assumption

theorem State.planPage_kept {s0 x0 : State} {x1 : Cmd} {x2 : Nat} {x3 : List Nat} (h0 : Kept s0 x0) :
    Kept s0 (@State.planPage x0 x1 x2 x3) := by
  unfold State.planPage
  extract_lets +onlyGivenNames v1
  clear_value v1
  extract_lets +onlyGivenNames v2
  clear_value v2
  extract_lets +onlyGivenNames v3
  clear_value v3
  extract_lets +onlyGivenNames v4
  clear_value v4
  extract_lets +onlyGivenNames v5
  clear_value v5
  split
  · apply forEach_kept
    · with_reducible assumption
    · intro k6 k7 k8
      apply State.reconstruct_kept
      with_reducible assumption
  · split
    · apply State.planLater_kept
      with_reducible assumption
    · split
      · apply State.startRead_kept
        with_reducible assumption
      · split
        · apply State.put_kept
          apply State.appendRead_kept
          with_reducible assumption
        · apply forEach_kept
          · with_reducible assumption
          · intro k9 k10 k11
            apply State.reconstruct_kept
            with_reducible assumption

theorem State.finishRead_kept {s0 x0 : State} {x1 : Cmd} {x2 : List Byte} (h0 : Kept s0 x0) :
    Kept s0 (@State.finishRead x0 x1 x2) := by
  unfold State.finishRead
  extract_lets +onlyGivenNames v1
  clear_value v1
  split
  · apply State.finish_kept
    with_reducible assumption
  · apply State.finish_kept
    with_reducible assumption

theorem State.scatter_kept {s0 x0 : State} {x1 : Cmd} {x2 : Nat} {x3 : List Byte} {x4 : List (Nat × Nat)} (h0 : Kept s0 x0) :
    Kept s0 (@State.scatter x0 x1 x2 x3 x4) := by
  induction x4 generalizing x0 x2 x3 with
  | nil => exact h0
  | cons x l ih =>
    unfold State.scatter
    split
    · exact ih h0
    · refine ih ?_
      split
      · exact h0
      · exact State.sendDma_kept h0

theorem State.deliver_kept {s0 x0 : State} {x1 : Cmd} {x2 : Nat} {x3 : List Byte} (h0 : Kept s0 x0) :
    Kept s0 (@State.deliver x0 x1 x2 x3) := by
  unfold State.deliver
  split
  · with_reducible assumption
  · split
    · split
      · with_reducible assumption
      · apply State.sendPtr_kept
        with_reducible assumption
    · split
      · apply State.scatter_kept
        with_reducible assumption
      · apply State.sendDma_kept
        with_reducible assumption

theorem State.deliverAll_kept {s0 x0 : State} {x1 : Cmd} (h0 : Kept s0 x0) :
    Kept s0 (@State.deliverAll x0 x1) := by
  unfold State.deliverAll
  extract_lets +onlyGivenNames v1
  have h1 : Kept s0 v1 := by
    unfold v1
    apply State.deliver_kept
    with_reducible assumption
  clear_value v1
  split
  · with_reducible assumption
  · apply State.sendDma_kept
    with_reducible assumption

theorem State.failRead_kept {s0 x0 : State} {x1 : Cmd} {x2 : Result} (h0 : Kept s0 x0) :
    Kept s0 (@State.failRead x0 x1 x2) := by
  unfold State.failRead
  split
  · apply State.finish_kept
    with_reducible assumption
  · apply State.finish_kept
    apply State.deliverAll_kept
    with_reducible assumption

theorem State.queueJob_kept {s0 x0 : State} {x1 : Nat} {x2 : Cmd} {x3 : Nat} {x4 : JobKind} (h0 : Kept s0 x0) :
    Kept s0 (@State.queueJob x0 x1 x2 x3 x4) := by
  unfold State.queueJob
  extract_lets +onlyGivenNames v1
  clear_value v1
  extract_lets +onlyGivenNames v2
  have h2 : Kept s0 v2 := by
    unfold v2
    apply State.sample_kept
    with_reducible assumption
  clear_value v2
  extract_lets +onlyGivenNames v3
  clear_value v3
  apply State.put_kept
  refine Kept.same (s := v2) ?_ rfl Sub.rfl' Sub.rfl' Sub.rfl' Sub.rfl' Sub.rfl'
  with_reducible assumption

theorem State.nextFrame_kept {s0 x0 : State} {x1 : Cmd} (h0 : Kept s0 x0) :
    Kept s0 (@State.nextFrame x0 x1) := by
  unfold State.nextFrame
  extract_lets +onlyGivenNames v1
  clear_value v1
  extract_lets +onlyGivenNames v2
  clear_value v2
  split
  · apply State.finishRead_kept
    with_reducible assumption
  · apply State.failRead_kept
    apply State.bump_kept
    with_reducible assumption
  · split
    · apply State.failRead_kept
      with_reducible assumption
    · split
      · apply State.failRead_kept
        apply State.bump_kept
        with_reducible assumption
      · extract_lets +onlyGivenNames v3
        clear_value v3
        apply State.queueJob_kept
        with_reducible assumption

theorem State.tryFinish_kept {s0 x0 : State} {x1 : Nat} (h0 : Kept s0 x0) :
    Kept s0 (@State.tryFinish x0 x1) := by
  unfold State.tryFinish
  split
  · with_reducible assumption
  · split
    · with_reducible assumption
    · split
      · apply State.endMuted_kept
        with_reducible assumption
      · split
        · apply State.nextFrame_kept
          with_reducible assumption
        · split
          · apply State.finish_kept
            with_reducible assumption
          · apply State.finishRead_kept
            apply State.deliverAll_kept
            with_reducible assumption

theorem State.queueBlocks_kept {s0 x0 : State} {x1 : Nat} (h0 : Kept s0 x0) :
    Kept s0 (@State.queueBlocks x0 x1) := by
  unfold State.queueBlocks
  split
  · with_reducible assumption
  · extract_lets +onlyGivenNames v1
    clear_value v1
    apply forEach_kept
    · with_reducible assumption
    · intro k2 k3 k4
      split
      · apply State.queueJob_kept
        with_reducible assumption
      · with_reducible assumption

theorem State.admitRead_kept {s0 x0 : State} {x1 : Cmd} (h0 : Kept s0 x0) :
    Kept s0 (@State.admitRead x0 x1) := by
  unfold State.admitRead
  extract_lets +onlyGivenNames v1
  clear_value v1
  extract_lets +onlyGivenNames v2
  clear_value v2
  extract_lets +onlyGivenNames v3
  clear_value v3
  extract_lets +onlyGivenNames v4
  have h4 : Kept s0 v4 := by
    unfold v4
    apply State.touchRange_kept
    with_reducible assumption
  clear_value v4
  split
  · apply State.finish_kept
    with_reducible assumption
  · split
    · apply State.finish_kept
      with_reducible assumption
    · extract_lets +onlyGivenNames v5
      clear_value v5
      extract_lets +onlyGivenNames v6
      clear_value v6
      extract_lets +onlyGivenNames v7
      extract_lets +onlyGivenNames v8
      clear_value v8
      extract_lets +onlyGivenNames v9
      have h9 : Kept s0 v9 := by
        unfold v9
        split
        · apply State.put_kept
          with_reducible assumption
        · with_reducible assumption
      clear_value v9
      extract_lets +onlyGivenNames v10
      have h10 : Kept s0 v10 := by
        unfold v10
        split
        · apply State.raise_kept
          apply State.bump_kept
          with_reducible assumption
        · with_reducible assumption
      clear_value v10
      extract_lets +onlyGivenNames v11
      clear_value v11
      extract_lets +onlyGivenNames v12
      clear_value v12
      extract_lets +onlyGivenNames v13
      clear_value v13
      extract_lets +onlyGivenNames v14
      clear_value v14
      extract_lets +onlyGivenNames v15
      have h15 : Kept s0 v15 := by
        unfold v15
        apply State.setCmd_kept
        with_reducible assumption
      clear_value v15
      extract_lets +onlyGivenNames v16
      clear_value v16
      extract_lets +onlyGivenNames v17
      have h17 : Kept s0 v17 := by
        unfold v17
        apply forEach_kept
        · with_reducible assumption
        · intro k18 k19 k20
          apply State.planPage_kept
          with_reducible assumption
      clear_value v17
      apply State.tryFinish_kept
      apply State.queueBlocks_kept
      with_reducible assumption

theorem State.giveUnit_kept {s0 x0 : State} {x1 : Nat} (h0 : Kept s0 x0) :
    Kept s0 (@State.giveUnit x0 x1) := by
  unfold State.giveUnit
  extract_lets +onlyGivenNames v1
  clear_value v1
  extract_lets +onlyGivenNames v2
  have h2 : Kept s0 v2 := by
    unfold v2
    refine Kept.same (s := x0) ?_ rfl Sub.rfl' Sub.rfl' Sub.rfl' Sub.rfl' Sub.rfl'
    with_reducible assumption
  clear_value v2
  apply forEach_kept
  · with_reducible assumption
  · intro k3 k4 k5
    apply State.tryFinish_kept
    apply State.queueBlocks_kept
    with_reducible assumption

theorem State.jxRead_kept {s0 x0 : State} {x1 : Cmd} (h0 : Kept s0 x0) :
    Kept s0 (@State.jxRead x0 x1) := by
  unfold State.jxRead
  split
  · apply State.finish_kept
    with_reducible assumption
  · split
    · apply State.finish_kept
      with_reducible assumption
    · extract_lets +onlyGivenNames v1
      clear_value v1
      split
      · apply State.finish_kept
        with_reducible assumption
      · split
        · apply State.finish_kept
          apply State.bump_kept
          with_reducible assumption
        · apply State.admitRead_kept
          with_reducible assumption

theorem execGather_kept {s0 : State} {x0 : Nat} {x1 : State} (h0 : Kept s0 x1) :
    KeptN s0 (@execGather x0 x1) := by
  unfold execGather
  split
  · apply KeptN.next
    apply State.jxRead_kept
    with_reducible assumption
  · apply KeptN.next
    with_reducible assumption

theorem execRead_kept {s0 : State} {x0 : Nat} {x1 : State} (h0 : Kept s0 x1) :
    KeptN s0 (@execRead x0 x1) := by
  unfold execRead
  split
  · apply KeptN.next
    apply State.jxRead_kept
    with_reducible assumption
  · apply KeptN.next
    with_reducible assumption

theorem execReadUnpack_kept {s0 : State} {x0 : Nat} {x1 : State} (h0 : Kept s0 x1) :
    KeptN s0 (@execReadUnpack x0 x1) := by
  unfold execReadUnpack
  split
  · apply KeptN.next
    apply State.jxRead_kept
    with_reducible assumption
  · apply KeptN.next
    with_reducible assumption

end Sys2Proof.Machine
end

