-- ==== Sys2Proof/Laws/KeptIntegrity.lean ====
section
/-! SUPPORT. What the operations of Machine/Integrity.lean keep (`Kept`): one lemma each. -/

set_option linter.unusedVariables false

namespace Sys2Proof.Machine

theorem State.queueRefresh_kept {s0 x0 : State} {x1 : Nat} (h0 : Kept s0 x0) :
    Kept s0 (@State.queueRefresh x0 x1) := by
  unfold State.queueRefresh
  split
  · split
    · with_reducible assumption
    · apply State.setBand_kept
      with_reducible assumption
  · with_reducible assumption

theorem State.checkReads_kept {s0 x0 : State} {x1 x2 : Nat} (h0 : Kept s0 x0) :
    Kept s0 (@State.checkReads x0 x1 x2) := by
  unfold State.checkReads
  split
  · apply State.queueRefresh_kept
    with_reducible assumption
  · with_reducible assumption

theorem State.clearEccLog_kept {s0 x0 : State} {x1 : Agent} (h0 : Kept s0 x0) :
    Kept s0 (@State.clearEccLog x0 x1) := by
  unfold State.clearEccLog
  apply State.guardWrite_kept
  · with_reducible assumption
  · intro k1 k2
    refine Kept.same (s := k1) ?_ rfl Sub.rfl' Sub.rfl' Sub.rfl' Sub.rfl' Sub.rfl'
    with_reducible assumption

theorem State.dropEntries_kept {s0 x0 : State} {x1 : PEntry → Bool} (h0 : Kept s0 x0) :
    Kept s0 (@State.dropEntries x0 x1) := by
  unfold State.dropEntries
  extract_lets +onlyGivenNames v1
  clear_value v1
  refine Kept.same (s := x0) ?_ rfl Sub.rfl' Sub.rfl' Sub.rfl' Sub.rfl' Sub.rfl'
  with_reducible assumption

theorem State.closeRecovery_kept {s0 x0 : State} {x1 : Nat} (h0 : Kept s0 x0) :
    Kept s0 (@State.closeRecovery x0 x1) := by
  unfold State.closeRecovery
  extract_lets +onlyGivenNames v1
  clear_value v1
  extract_lets +onlyGivenNames v2
  have h2 : Kept s0 v2 := by
    unfold v2
    refine Kept.same (s := x0) ?_ rfl Sub.rfl' Sub.rfl' Sub.rfl' Sub.rfl' Sub.rfl'
    with_reducible assumption
  clear_value v2
  extract_lets +onlyGivenNames v3
  clear_value v3
  apply State.dropEntries_kept
  with_reducible assumption

theorem State.logEcc_kept {s0 x0 : State} {x1 x2 x3 : Nat} (h0 : Kept s0 x0) :
    Kept s0 (@State.logEcc x0 x1 x2 x3) := by
  unfold State.logEcc
  extract_lets +onlyGivenNames v1
  clear_value v1
  split
  · refine Kept.same (s := x0) ?_ rfl Sub.rfl' Sub.rfl' Sub.rfl' Sub.rfl' Sub.rfl'
    with_reducible assumption
  · split
    · refine Kept.same (s := x0) ?_ rfl Sub.rfl' Sub.rfl' Sub.rfl' Sub.rfl' Sub.rfl'
      with_reducible assumption
    · split
      · refine Kept.same (s := x0) ?_ rfl Sub.rfl' Sub.rfl' Sub.rfl' Sub.rfl' Sub.rfl'
        with_reducible assumption
      · extract_lets +onlyGivenNames v2
        clear_value v2
        refine Kept.same (s := x0) ?_ rfl Sub.rfl' Sub.rfl' Sub.rfl' Sub.rfl' Sub.rfl'
        with_reducible assumption

theorem State.correctedEcc_kept {s0 x0 : State} {x1 x2 x3 x4 : Nat} (h0 : Kept s0 x0) :
    Kept s0 (@State.correctedEcc x0 x1 x2 x3 x4) := by
  unfold State.correctedEcc
  extract_lets +onlyGivenNames v1
  have h1 : Kept s0 v1 := by
    unfold v1
    apply State.logEcc_kept
    apply State.bump_kept
    with_reducible assumption
  clear_value v1
  apply State.raise_kept
  with_reducible assumption

theorem State.dropUnwanted_kept {s0 x0 : State} {x1 : List Nat} (h0 : Kept s0 x0) :
    Kept s0 (@State.dropUnwanted x0 x1) := by
  unfold State.dropUnwanted
  apply forEach_kept
  · with_reducible assumption
  · intro k1 k2 k3
    split
    · with_reducible assumption
    · apply State.closeRecovery_kept
      with_reducible assumption

theorem State.endLap_kept {s0 x0 : State} (h0 : Kept s0 x0) :
    Kept s0 (@State.endLap x0) := by
  unfold State.endLap
  extract_lets +onlyGivenNames v1
  clear_value v1
  extract_lets +onlyGivenNames v2
  clear_value v2
  extract_lets +onlyGivenNames v3
  have h3 : Kept s0 v3 := by
    unfold v3
    apply State.put_kept
    with_reducible assumption
  clear_value v3
  apply State.put_kept
  apply State.put_kept
  apply State.put_kept
  apply State.put_kept
  with_reducible assumption

theorem State.endRecov_kept {s0 x0 : State} {x1 x2 : Nat} (h0 : Kept s0 x0) :
    Kept s0 (@State.endRecov x0 x1 x2) := by
  unfold State.endRecov
  refine Kept.same (s := x0) ?_ rfl Sub.rfl' Sub.rfl' Sub.rfl' Sub.rfl' Sub.rfl'
  with_reducible assumption

theorem State.setLadder_kept {s0 x0 : State} {x1 : Ladder} (h0 : Kept s0 x0) :
    Kept s0 (@State.setLadder x0 x1) := by
  unfold State.setLadder
  refine Kept.same (s := x0) ?_ rfl Sub.rfl' Sub.rfl' Sub.rfl' Sub.rfl' Sub.rfl'
  with_reducible assumption

theorem State.exhaust_kept {s0 x0 : State} {x1 : Ladder} (h0 : Kept s0 x0) :
    Kept s0 (@State.exhaust x0 x1) := by
  unfold State.exhaust
  extract_lets +onlyGivenNames v1
  have h1 : Kept s0 v1 := by
    unfold v1
    apply State.raise_kept
    with_reducible assumption
  clear_value v1
  extract_lets +onlyGivenNames v2
  have h2 : Kept s0 v2 := by
    unfold v2
    refine Kept.same (s := v1) ?_ rfl Sub.rfl' Sub.rfl' Sub.rfl' Sub.rfl' Sub.rfl'
    with_reducible assumption
  clear_value v2
  split
  · apply State.setLadder_kept
    with_reducible assumption
  · apply State.closeRecovery_kept
    with_reducible assumption

theorem State.hangCore_kept {s0 x0 : State} {x1 : Nat} (h0 : Kept s0 x0) :
    Kept s0 (@State.hangCore x0 x1) := by
  unfold State.hangCore
  extract_lets +onlyGivenNames v1
  clear_value v1
  extract_lets +onlyGivenNames v2
  have h2 : Kept s0 v2 := by
    unfold v2
    apply State.putFlag_kept
    with_reducible assumption
  clear_value v2
  split
  · apply State.raise_kept
    with_reducible assumption
  · split
    · apply State.raise_kept
      with_reducible assumption
    · split
      · apply State.haltPair_kept
        with_reducible assumption
      · split
        · apply State.haltPair_kept
          with_reducible assumption
        · with_reducible assumption

theorem State.idleEngine_kept {s0 x0 : State} {x1 : Nat} (h0 : Kept s0 x0) :
    Kept s0 (@State.idleEngine x0 x1) := by
  unfold State.idleEngine
  apply State.put_kept
  apply State.put_kept
  apply State.put_kept
  with_reducible assumption

theorem State.pushFront_kept {s0 x0 : State} {x1 : Nat} {x2 : List PEntry} (h0 : Kept s0 x0) :
    Kept s0 (@State.pushFront x0 x1 x2) := by
  unfold State.pushFront
  extract_lets +onlyGivenNames v1
  clear_value v1
  extract_lets +onlyGivenNames v2
  clear_value v2
  extract_lets +onlyGivenNames v3
  clear_value v3
  extract_lets +onlyGivenNames v4
  clear_value v4
  apply State.setPlan_kept
  with_reducible assumption

theorem State.issueGold_kept {s0 x0 : State} {x1 x2 : Nat} {x3 : List Nat} (h0 : Kept s0 x0) :
    Kept s0 (@State.issueGold x0 x1 x2 x3) := by
  unfold State.issueGold
  extract_lets +onlyGivenNames v1
  clear_value v1
  extract_lets +onlyGivenNames v2
  clear_value v2
  extract_lets +onlyGivenNames v3
  clear_value v3
  extract_lets +onlyGivenNames v4
  clear_value v4
  extract_lets +onlyGivenNames v5
  clear_value v5
  extract_lets +onlyGivenNames v6
  clear_value v6
  extract_lets +onlyGivenNames v7
  clear_value v7
  extract_lets +onlyGivenNames v8
  clear_value v8
  extract_lets +onlyGivenNames v9
  have h9 : Kept s0 v9 := by
    unfold v9
    apply forEach_kept
    · with_reducible assumption
    · intro k10 k11 k12
      split
      · apply State.pushFront_kept
        with_reducible assumption
      · apply State.startRead_kept
        with_reducible assumption
  clear_value v9
  extract_lets +onlyGivenNames v13
  have h13 : Kept s0 v13 := by
    unfold v13
    apply forEach_kept
    · with_reducible assumption
    · intro k14 k15 k16
      apply State.pushFront_kept
      with_reducible assumption
  clear_value v13
  apply forEach_kept
  · with_reducible assumption
  · intro k17 k18 k19
    apply State.pushFront_kept
    with_reducible assumption

theorem State.markLost_kept {s0 x0 : State} {x1 x2 : Nat} (h0 : Kept s0 x0) :
    Kept s0 (@State.markLost x0 x1 x2) := by
  unfold State.markLost
  apply State.raise_kept
  apply State.bump_kept
  apply State.mapPut_kept
  with_reducible assumption

theorem State.markRecov_kept {s0 x0 : State} {x1 x2 : Nat} (h0 : Kept s0 x0) :
    Kept s0 (@State.markRecov x0 x1 x2) := by
  unfold State.markRecov
  extract_lets +onlyGivenNames v1
  clear_value v1
  split
  · with_reducible assumption
  · split
    · apply State.mapPut_kept
      with_reducible assumption
    · split
      · apply State.raise_kept
        apply State.putFlag_kept
        apply State.markLost_kept
        with_reducible assumption
      · extract_lets +onlyGivenNames v2
        have h2 : Kept s0 v2 := by
          unfold v2
          apply State.mapPut_kept
          with_reducible assumption
        clear_value v2
        refine Kept.same (s := v2) ?_ rfl Sub.rfl' Sub.rfl' Sub.rfl' Sub.rfl' Sub.rfl'
        with_reducible assumption

theorem State.toBackground_kept {s0 x0 : State} {x1 : Cmd} (h0 : Kept s0 x0) :
    Kept s0 (@State.toBackground x0 x1) := by
  unfold State.toBackground
  extract_lets +onlyGivenNames v1
  clear_value v1
  apply forEach_kept
  · with_reducible assumption
  · intro k2 k3 k4
    apply forEach_kept
    · with_reducible assumption
    · intro k5 k6 k7
      apply State.markRecov_kept
      with_reducible assumption

theorem State.muteFail_kept {s0 x0 : State} {x1 : Nat} (h0 : Kept s0 x0) :
    Kept s0 (@State.muteFail x0 x1) := by
  unfold State.muteFail
  extract_lets +onlyGivenNames v1
  have h1 : Kept s0 v1 := by
    unfold v1
    apply forEach_kept
    · with_reducible assumption
    · intro k2 k3 k4
      apply State.endMuted_kept
      apply State.toBackground_kept
      with_reducible assumption
  clear_value v1
  with_reducible assumption

theorem State.ladderNext_kept {s0 x0 : State} {x1 : Ladder} (h0 : Kept s0 x0) :
    Kept s0 (@State.ladderNext x0 x1) := by
  unfold State.ladderNext
  extract_lets +onlyGivenNames v1
  have h1 : Kept s0 v1 := by
    unfold v1
    apply State.muteFail_kept
    with_reducible assumption
  clear_value v1
  extract_lets +onlyGivenNames v2
  clear_value v2
  split
  · apply State.exhaust_kept
    with_reducible assumption
  · apply State.setLadder_kept
    with_reducible assumption

theorem State.queueDeep_kept {s0 x0 : State} {x1 x2 x3 : Nat} {x4 : Bool} (h0 : Kept s0 x0) :
    Kept s0 (@State.queueDeep x0 x1 x2 x3 x4) := by
  unfold State.queueDeep
  extract_lets +onlyGivenNames v1
  clear_value v1
  extract_lets +onlyGivenNames v2
  clear_value v2
  extract_lets +onlyGivenNames v3
  have h3 : Kept s0 v3 := by
    unfold v3
    apply State.sample_kept
    with_reducible assumption
  clear_value v3
  refine Kept.same (s := v3) ?_ rfl Sub.rfl' Sub.rfl' Sub.rfl' Sub.rfl' Sub.rfl'
  with_reducible assumption

theorem State.recovVerified_kept {s0 x0 : State} {x1 : Nat} (h0 : Kept s0 x0) :
    Kept s0 (@State.recovVerified x0 x1) := by
  unfold State.recovVerified
  split
  · extract_lets +onlyGivenNames v1
    clear_value v1
    apply State.sample_kept
    refine Kept.same (s := x0) ?_ rfl Sub.rfl' Sub.rfl' Sub.rfl' Sub.rfl' Sub.rfl'
    with_reducible assumption
  · with_reducible assumption

theorem State.unitVerified_kept {s0 x0 : State} {x1 : Nat} (h0 : Kept s0 x0) :
    Kept s0 (@State.unitVerified x0 x1) := by
  unfold State.unitVerified
  extract_lets +onlyGivenNames v1
  have h1 : Kept s0 v1 := by
    unfold v1
    apply State.closeRecovery_kept
    apply State.recovVerified_kept
    with_reducible assumption
  clear_value v1
  extract_lets +onlyGivenNames v2
  have h2 : Kept s0 v2 := by
    unfold v2
    refine Kept.same (s := v1) ?_ rfl Sub.rfl' Sub.rfl' Sub.rfl' Sub.rfl' Sub.rfl'
    with_reducible assumption
  clear_value v2
  apply State.giveUnit_kept
  with_reducible assumption

theorem State.ladderWon_kept {s0 x0 : State} {x1 : Ladder} {x2 : Nat} {x3 : Bool} (h0 : Kept s0 x0) :
    Kept s0 (@State.ladderWon x0 x1 x2 x3) := by
  unfold State.ladderWon
  extract_lets +onlyGivenNames v1
  clear_value v1
  extract_lets +onlyGivenNames v2
  have h2 : Kept s0 v2 := by
    unfold v2
    split
    · apply State.put_kept
      with_reducible assumption
    · with_reducible assumption
  clear_value v2
  extract_lets +onlyGivenNames v3
  have h3 : Kept s0 v3 := by
    unfold v3
    split
    · apply State.bump_kept
      with_reducible assumption
    · with_reducible assumption
  clear_value v3
  apply State.unitVerified_kept
  apply State.queueRefresh_kept
  split
  · with_reducible assumption
  · apply State.sample_kept
    with_reducible assumption

theorem State.ladderRead_kept {s0 x0 : State} {x1 x2 : Nat} {x3 : UnitResult} (h0 : Kept s0 x0) :
    Kept s0 (@State.ladderRead x0 x1 x2 x3) := by
  unfold State.ladderRead
  split
  · with_reducible assumption
  · split
    · with_reducible assumption
    · extract_lets +onlyGivenNames v1
      clear_value v1
      split
      · split
        · apply State.queueDeep_kept
          with_reducible assumption
        · apply State.ladderWon_kept
          with_reducible assumption
      · extract_lets +onlyGivenNames v2
        have h2 : Kept s0 v2 := by
          unfold v2
          split
          · apply State.raise_kept
            apply State.bump_kept
            with_reducible assumption
          · with_reducible assumption
        clear_value v2
        apply State.queueDeep_kept
        with_reducible assumption

theorem State.launchHedge_kept {s0 x0 : State} {x1 x2 : Nat} (h0 : Kept s0 x0) :
    Kept s0 (@State.launchHedge x0 x1 x2) := by
  unfold State.launchHedge
  split
  · with_reducible assumption
  · split
    · with_reducible assumption
    · extract_lets +onlyGivenNames v1
      clear_value v1
      extract_lets +onlyGivenNames v2
      have h2 : Kept s0 v2 := by
        unfold v2
        apply State.addHedge_kept
        with_reducible assumption
      clear_value v2
      split
      · apply State.issueGold_kept
        with_reducible assumption
      · apply forEach_kept
        · with_reducible assumption
        · intro k3 k4 k5
          apply State.planLater_kept
          with_reducible assumption

theorem State.launchLadder_kept {s0 x0 : State} {x1 x2 x3 : Nat} {x4 : Bool} (h0 : Kept s0 x0) :
    Kept s0 (@State.launchLadder x0 x1 x2 x3 x4) := by
  unfold State.launchLadder
  split
  · with_reducible assumption
  · extract_lets +onlyGivenNames v1
    have h1 : Kept s0 v1 := by
      unfold v1
      refine Kept.same (s := x0) ?_ rfl Sub.rfl' Sub.rfl' Sub.rfl' Sub.rfl' Sub.rfl'
      with_reducible assumption
    clear_value v1
    apply State.queueDeep_kept
    with_reducible assumption

theorem State.loseBuffered_kept {s0 x0 : State} {x1 : Nat} (h0 : Kept s0 x0) :
    Kept s0 (@State.loseBuffered x0 x1) := by
  unfold State.loseBuffered
  split
  · with_reducible assumption
  · extract_lets +onlyGivenNames v1
    clear_value v1
    extract_lets +onlyGivenNames v2
    clear_value v2
    split
    · apply forEach_kept
      · with_reducible assumption
      · intro k3 k4 k5
        extract_lets +onlyGivenNames v6
        clear_value v6
        split
        · apply State.markLost_kept
          with_reducible assumption
        · with_reducible assumption
    · with_reducible assumption

theorem State.setRecov_kept {s0 x0 : State} {x1 : Recov} (h0 : Kept s0 x0) :
    Kept s0 (@State.setRecov x0 x1) := by
  unfold State.setRecov
  refine Kept.same (s := x0) ?_ rfl Sub.rfl' Sub.rfl' Sub.rfl' Sub.rfl' Sub.rfl'
  with_reducible assumption

theorem State.passFailed_kept {s0 x0 : State} {x1 : Recov} (h0 : Kept s0 x0) :
    Kept s0 (@State.passFailed x0 x1) := by
  unfold State.passFailed
  extract_lets +onlyGivenNames v1
  clear_value v1
  extract_lets +onlyGivenNames v2
  clear_value v2
  split
  · apply State.markLost_kept
    apply State.dropUnwanted_kept
    apply State.endRecov_kept
    with_reducible assumption
  · apply State.dropUnwanted_kept
    apply State.setRecov_kept
    with_reducible assumption

theorem State.rebuildInPass_kept {s0 x0 : State} {x1 : Nat} (h0 : Kept s0 x0) :
    Kept s0 (@State.rebuildInPass x0 x1) := by
  unfold State.rebuildInPass
  split
  · with_reducible assumption
  · split
    · with_reducible assumption
    · extract_lets +onlyGivenNames v1
      clear_value v1
      apply forEach_kept
      · apply State.addHedge_kept
        with_reducible assumption
      · intro k2 k3 k4
        apply State.planLater_kept
        with_reducible assumption

theorem State.passStage_kept {s0 x0 : State} {x1 : Recov} {x2 : Nat} (h0 : Kept s0 x0) :
    Kept s0 (@State.passStage x0 x1 x2) := by
  unfold State.passStage
  extract_lets +onlyGivenNames v1
  clear_value v1
  split
  · extract_lets +onlyGivenNames v2
    clear_value v2
    apply forEach_kept
    · apply State.setRecov_kept
      with_reducible assumption
    · intro k3 k4 k5
      apply State.planLater_kept
      with_reducible assumption
  · split
    · apply forEach_kept
      · apply State.setRecov_kept
        with_reducible assumption
      · intro k6 k7 k8
        apply State.rebuildInPass_kept
        with_reducible assumption
    · split
      · apply State.setRecov_kept
        with_reducible assumption
      · with_reducible assumption

theorem State.unitFailed_kept {s0 x0 : State} {x1 x2 : Nat} {x3 : UnitResult} (h0 : Kept s0 x0) :
    Kept s0 (@State.unitFailed x0 x1 x2 x3) := by
  unfold State.unitFailed
  split
  · with_reducible assumption
  · extract_lets +onlyGivenNames v1
    have h1 : Kept s0 v1 := by
      unfold v1
      apply State.raise_kept
      apply State.bump_kept
      with_reducible assumption
    clear_value v1
    extract_lets +onlyGivenNames v2
    have h2 : Kept s0 v2 := by
      unfold v2
      split
      · apply State.raise_kept
        apply State.bump_kept
        with_reducible assumption
      · with_reducible assumption
    clear_value v2
    extract_lets +onlyGivenNames v3
    clear_value v3
    extract_lets +onlyGivenNames v4
    have h4 : Kept s0 v4 := by
      unfold v4
      refine Kept.same (s := v2) ?_ rfl Sub.rfl' Sub.rfl' Sub.rfl' Sub.rfl' Sub.rfl'
      with_reducible assumption
    clear_value v4
    extract_lets +onlyGivenNames v5
    have h5 : Kept s0 v5 := by
      unfold v5
      apply State.muteFail_kept
      with_reducible assumption
    clear_value v5
    split
    · extract_lets +onlyGivenNames v6
      have h6 : Kept s0 v6 := by
        unfold v6
        apply State.launchLadder_kept
        with_reducible assumption
      clear_value v6
      split
      · apply State.launchHedge_kept
        with_reducible assumption
      · with_reducible assumption
    · split
      · with_reducible assumption
      · apply State.launchLadder_kept
        with_reducible assumption

theorem State.readDone_kept {s0 x0 : State} {x1 : Nat} {x2 : List UnitResult} {x3 : Nat} (h0 : Kept s0 x0) :
    Kept s0 (@State.readDone x0 x1 x2 x3) := by
  unfold State.readDone
  split
  · with_reducible assumption
  · split
    · with_reducible assumption
    · extract_lets +onlyGivenNames v1
      clear_value v1
      extract_lets +onlyGivenNames v2
      clear_value v2
      extract_lets +onlyGivenNames v3
      have h3 : Kept s0 v3 := by
        unfold v3
        apply State.completeCall_kept
        apply State.putFlag_kept
        with_reducible assumption
      clear_value v3
      extract_lets +onlyGivenNames v4
      have h4 : Kept s0 v4 := by
        unfold v4
        apply State.sampleExt_kept
        with_reducible assumption
      clear_value v4
      extract_lets +onlyGivenNames v5
      clear_value v5
      extract_lets +onlyGivenNames v6
      clear_value v6
      extract_lets +onlyGivenNames v7
      have h7 : Kept s0 v7 := by
        unfold v7
        refine Kept.same (s := v4) ?_ rfl Sub.rfl' Sub.rfl' Sub.rfl' Sub.rfl' Sub.rfl'
        with_reducible assumption
      clear_value v7
      extract_lets +onlyGivenNames v8
      have h8 : Kept s0 v8 := by
        unfold v8
        apply State.checkReads_kept
        with_reducible assumption
      clear_value v8
      extract_lets +onlyGivenNames v9
      clear_value v9
      apply forEach_kept
      · with_reducible assumption
      · intro k10 k11 k12
        extract_lets +onlyGivenNames v13
        clear_value v13
        split
        · split
          · apply State.unitVerified_kept
            with_reducible assumption
          · apply State.unitFailed_kept
            with_reducible assumption
        · apply State.ladderRead_kept
          with_reducible assumption

theorem State.rerunJob_kept {s0 x0 : State} {x1 : Nat} (h0 : Kept s0 x0) :
    Kept s0 (@State.rerunJob x0 x1) := by
  unfold State.rerunJob
  split
  · with_reducible assumption
  · extract_lets +onlyGivenNames v1
    have h1 : Kept s0 v1 := by
      unfold v1
      refine Kept.same (s := x0) ?_ rfl Sub.rfl' Sub.rfl' Sub.rfl' Sub.rfl' Sub.rfl'
      with_reducible assumption
    clear_value v1
    extract_lets +onlyGivenNames v2
    have h2 : Kept s0 v2 := by
      unfold v2
      apply State.idleEngine_kept
      apply State.put_kept
      with_reducible assumption
    clear_value v2
    apply State.raise_kept
    with_reducible assumption

theorem execBackgroundRecoveryPass_kept {s0 : State} {x0 x1 x2 : Nat} {x3 : Option Bool} {x4 : State} (h0 : Kept s0 x4) :
    KeptN s0 (@execBackgroundRecoveryPass x0 x1 x2 x3 x4) := by
  unfold execBackgroundRecoveryPass
  split
  · apply KeptN.next
    with_reducible assumption
  · extract_lets +onlyGivenNames v1
    clear_value v1
    split
    · apply KeptN.next
      split
      · apply State.passStage_kept
        with_reducible assumption
      · with_reducible assumption
    · extract_lets +onlyGivenNames v2
      clear_value v2
      apply KeptN.next
      split
      · apply State.passFailed_kept
        with_reducible assumption
      · with_reducible assumption
    · split
      · apply KeptN.next
        apply State.endRecov_kept
        with_reducible assumption
      · split
        · apply KeptN.next
          with_reducible assumption
        · split
          · apply KeptN.next
            with_reducible assumption
          · apply KeptN.next
            apply KeptO.getD
            · apply State.copyUnit_kept
              with_reducible assumption
            · with_reducible assumption

theorem execBandAgeRefresh_kept {s0 : State} {x0 : Nat} {x1 : State} (h0 : Kept s0 x1) :
    KeptN s0 (@execBandAgeRefresh x0 x1) := by
  unfold execBandAgeRefresh
  extract_lets +onlyGivenNames v1
  clear_value v1
  split
  · apply KeptN.next
    with_reducible assumption
  · apply KeptN.next
    split
    · apply State.setBand_kept
      with_reducible assumption
    · with_reducible assumption

theorem execCmdMaxExpiry_kept {s0 : State} {x0 : Nat} {x1 : State} (h0 : Kept s0 x1) :
    KeptN s0 (@execCmdMaxExpiry x0 x1) := by
  unfold execCmdMaxExpiry
  split
  · apply KeptN.next
    with_reducible assumption
  · split
    · apply KeptN.next
      with_reducible assumption
    · extract_lets +onlyGivenNames v1
      clear_value v1
      extract_lets +onlyGivenNames v2
      have h2 : Kept s0 v2 := by
        unfold v2
        apply State.toBackground_kept
        with_reducible assumption
      clear_value v2
      extract_lets +onlyGivenNames v3
      have h3 : Kept s0 v3 := by
        unfold v3
        apply State.raise_kept
        apply State.bump_kept
        with_reducible assumption
      clear_value v3
      extract_lets +onlyGivenNames v4
      have h4 : Kept s0 v4 := by
        unfold v4
        refine Kept.same (s := v3) ?_ rfl Sub.rfl' Sub.rfl' Sub.rfl' Sub.rfl' Sub.rfl'
        with_reducible assumption
      clear_value v4
      apply KeptN.next
      apply State.dropUnwanted_kept
      apply State.failRead_kept
      with_reducible assumption

theorem execCorrectedMemoryError_kept {s0 : State} {x0 x1 x2 x3 : Nat} {x4 : State} (h0 : Kept s0 x4) :
    KeptN s0 (@execCorrectedMemoryError x0 x1 x2 x3 x4) := by
  unfold execCorrectedMemoryError
  apply KeptN.next
  split
  · apply State.correctedEcc_kept
    with_reducible assumption
  · with_reducible assumption

theorem execDeepDecodeDone_kept {s0 : State} {x0 : Nat} {x1 : UnitResult} {x2 : State} (h0 : Kept s0 x2) :
    KeptN s0 (@execDeepDecodeDone x0 x1 x2) := by
  unfold execDeepDecodeDone
  split
  · apply KeptN.next
    with_reducible assumption
  · extract_lets +onlyGivenNames v1
    have h1 : Kept s0 v1 := by
      unfold v1
      refine Kept.same (s := x2) ?_ rfl Sub.rfl' Sub.rfl' Sub.rfl' Sub.rfl' Sub.rfl'
      with_reducible assumption
    clear_value v1
    split
    · apply KeptN.next
      with_reducible assumption
    · split
      · extract_lets +onlyGivenNames v2
        clear_value v2
        apply KeptN.next
        apply State.ladderWon_kept
        apply State.bump_kept
        with_reducible assumption
      · apply KeptN.next
        apply State.ladderNext_kept
        apply State.raise_kept
        apply State.bump_kept
        with_reducible assumption
      · apply KeptN.next
        apply State.ladderNext_kept
        with_reducible assumption

theorem execDeepDecodeStart_kept {s0 : State} {x0 : Nat} {x1 : State} (h0 : Kept s0 x1) :
    KeptN s0 (@execDeepDecodeStart x0 x1) := by
  unfold execDeepDecodeStart
  extract_lets +onlyGivenNames v1
  clear_value v1
  split
  · apply KeptN.next
    with_reducible assumption
  · split
    · apply KeptN.next
      with_reducible assumption
    · extract_lets +onlyGivenNames v2
      clear_value v2
      apply KeptN.next
      refine Kept.same (s := x1) ?_ rfl Sub.rfl' Sub.rfl' Sub.rfl' Sub.rfl' Sub.rfl'
      with_reducible assumption

theorem execEccLogClear_kept {s0 : State} {x0 : Agent} {x1 : State} (h0 : Kept s0 x1) :
    KeptN s0 (@execEccLogClear x0 x1) := by
  unfold execEccLogClear
  apply KeptN.next
  apply State.atUnit_kept
  · with_reducible assumption
  · intro k1 k2
    apply State.clearEccLog_kept
    with_reducible assumption

theorem execHedgeRebuild_kept {s0 : State} {x0 : Nat} {x1 : Bool} {x2 : State} (h0 : Kept s0 x2) :
    KeptN s0 (@execHedgeRebuild x0 x1 x2) := by
  unfold execHedgeRebuild
  split
  · apply KeptN.next
    with_reducible assumption
  · split
    · apply KeptN.next
      with_reducible assumption
    · split
      · apply KeptN.next
        refine Kept.same (s := x2) ?_ rfl Sub.rfl' Sub.rfl' Sub.rfl' Sub.rfl' Sub.rfl'
        with_reducible assumption
      · extract_lets +onlyGivenNames v1
        have h1 : Kept s0 v1 := by
          unfold v1
          split
          · with_reducible assumption
          · apply State.queueRefresh_kept
            apply State.sampleBoth_kept
            apply State.sample_kept
            apply State.bump_kept
            with_reducible assumption
        clear_value v1
        apply KeptN.next
        apply State.unitVerified_kept
        with_reducible assumption

theorem execHedgeRetry_kept {s0 : State} {x0 : Nat} {x1 : State} (h0 : Kept s0 x1) :
    KeptN s0 (@execHedgeRetry x0 x1) := by
  unfold execHedgeRetry
  split
  · apply KeptN.next
    with_reducible assumption
  · extract_lets +onlyGivenNames v1
    clear_value v1
    split
    · apply KeptN.next
      with_reducible assumption
    · extract_lets +onlyGivenNames v2
      clear_value v2
      extract_lets +onlyGivenNames v3
      have h3 : Kept s0 v3 := by
        unfold v3
        refine Kept.same (s := x1) ?_ rfl Sub.rfl' Sub.rfl' Sub.rfl' Sub.rfl' Sub.rfl'
        with_reducible assumption
      clear_value v3
      apply KeptN.next
      apply forEach_kept
      · with_reducible assumption
      · intro k4 k5 k6
        apply State.launchLadder_kept
        with_reducible assumption

theorem execLadderStep_kept {s0 : State} {x0 : Nat} {x1 : State} (h0 : Kept s0 x1) :
    KeptN s0 (@execLadderStep x0 x1) := by
  unfold execLadderStep
  split
  · apply KeptN.next
    with_reducible assumption
  · split
    · apply KeptN.next
      with_reducible assumption
    · split
      · apply KeptN.next
        apply State.exhaust_kept
        with_reducible assumption
      · extract_lets +onlyGivenNames v1
        clear_value v1
        extract_lets +onlyGivenNames v2
        clear_value v2
        extract_lets +onlyGivenNames v3
        clear_value v3
        extract_lets +onlyGivenNames v4
        have h4 : Kept s0 v4 := by
          unfold v4
          refine Kept.same (s := x1) ?_ rfl Sub.rfl' Sub.rfl' Sub.rfl' Sub.rfl' Sub.rfl'
          with_reducible assumption
        clear_value v4
        extract_lets +onlyGivenNames v5
        have h5 : Kept s0 v5 := by
          unfold v5
          apply State.bump_kept
          with_reducible assumption
        clear_value v5
        extract_lets +onlyGivenNames v6
        clear_value v6
        extract_lets +onlyGivenNames v7
        clear_value v7
        split
        · apply KeptN.next
          split
          · apply State.startRead_kept
            with_reducible assumption
          · split
            · apply State.appendRead_kept
              with_reducible assumption
            · apply State.planNext_kept
              with_reducible assumption
        · apply KeptN.next
          apply State.planLater_kept
          with_reducible assumption

theorem execPatrolRead_kept {s0 : State} {x0 : UnitResult} {x1 : State} (h0 : Kept s0 x1) :
    KeptN s0 (@execPatrolRead x0 x1) := by
  unfold execPatrolRead
  split
  · apply KeptN.next
    with_reducible assumption
  · split
    · apply KeptN.next
      split
      · apply State.endLap_kept
        with_reducible assumption
      · with_reducible assumption
    · extract_lets +onlyGivenNames v1
      clear_value v1
      extract_lets +onlyGivenNames v2
      clear_value v2
      extract_lets +onlyGivenNames v3
      clear_value v3
      extract_lets +onlyGivenNames v4
      clear_value v4
      extract_lets +onlyGivenNames v5
      clear_value v5
      extract_lets +onlyGivenNames v6
      clear_value v6
      extract_lets +onlyGivenNames v7
      clear_value v7
      extract_lets +onlyGivenNames v8
      have h8 : Kept s0 v8 := by
        unfold v8
        apply State.checkReads_kept
        apply State.countBlockRead_kept
        with_reducible assumption
      clear_value v8
      extract_lets +onlyGivenNames v9
      have h9 : Kept s0 v9 := by
        unfold v9
        split
        · split
          · apply State.queueRefresh_kept
            with_reducible assumption
          · with_reducible assumption
        · with_reducible assumption
        · apply State.unitFailed_kept
          apply State.queueRefresh_kept
          with_reducible assumption
      clear_value v9
      extract_lets +onlyGivenNames v10
      clear_value v10
      extract_lets +onlyGivenNames v11
      have h11 : Kept s0 v11 := by
        unfold v11
        split
        · apply State.put_kept
          apply State.put_kept
          with_reducible assumption
        · apply State.put_kept
          apply State.put_kept
          with_reducible assumption
      clear_value v11
      extract_lets +onlyGivenNames v12
      clear_value v12
      extract_lets +onlyGivenNames v13
      clear_value v13
      extract_lets +onlyGivenNames v14
      have h14 : Kept s0 v14 := by
        unfold v14
        apply State.put_kept
        with_reducible assumption
      clear_value v14
      apply KeptN.next
      split
      · apply State.endLap_kept
        with_reducible assumption
      · with_reducible assumption

theorem execReadMarginComplete_kept {s0 : State} {x0 : Nat} {x1 : List Nat} {x2 : State} (h0 : Kept s0 x2) :
    KeptN s0 (@execReadMarginComplete x0 x1 x2) := by
  unfold execReadMarginComplete
  split
  · apply KeptN.next
    with_reducible assumption
  · split
    · apply KeptN.next
      with_reducible assumption
    · extract_lets +onlyGivenNames v1
      clear_value v1
      extract_lets +onlyGivenNames v2
      clear_value v2
      extract_lets +onlyGivenNames v3
      clear_value v3
      extract_lets +onlyGivenNames v4
      clear_value v4
      extract_lets +onlyGivenNames v5
      have h5 : Kept s0 v5 := by
        unfold v5
        apply State.completeCall_kept
        apply State.putFlag_kept
        with_reducible assumption
      clear_value v5
      apply KeptN.next
      apply State.checkReads_kept
      with_reducible assumption

theorem execRecoveryCommit_kept {s0 : State} {x0 x1 : Nat} {x2 : State} (h0 : Kept s0 x2) :
    KeptN s0 (@execRecoveryCommit x0 x1 x2) := by
  unfold execRecoveryCommit
  extract_lets +onlyGivenNames v1
  clear_value v1
  split
  · apply KeptN.next
    with_reducible assumption
  · split
    · apply KeptN.next
      with_reducible assumption
    · extract_lets +onlyGivenNames v2
      clear_value v2
      extract_lets +onlyGivenNames v3
      have h3 : Kept s0 v3 := by
        unfold v3
        apply State.commitCopy_kept
        with_reducible assumption
      clear_value v3
      extract_lets +onlyGivenNames v4
      clear_value v4
      extract_lets +onlyGivenNames v5
      have h5 : Kept s0 v5 := by
        unfold v5
        refine Kept.same (s := v3) ?_ rfl Sub.rfl' Sub.rfl' Sub.rfl' Sub.rfl' Sub.rfl'
        with_reducible assumption
      clear_value v5
      apply KeptN.next
      apply State.add_kept
      with_reducible assumption

theorem execRefresh_kept {s0 : State} {x0 : Nat} {x1 : State} (h0 : Kept s0 x1) :
    KeptN s0 (@execRefresh x0 x1) := by
  unfold execRefresh
  split
  · apply KeptN.next
    with_reducible assumption
  · apply KeptN.next
    split
    · apply State.setBand_kept
      with_reducible assumption
    · with_reducible assumption

theorem execScrubRead_kept {s0 : State} {x0 x1 : Nat} {x2 : Option (Nat × Nat)} {x3 : Option Nat} {x4 : State} (h0 : Kept s0 x4) :
    KeptN s0 (@execScrubRead x0 x1 x2 x3 x4) := by
  unfold execScrubRead
  split
  · apply KeptN.next
    with_reducible assumption
  · extract_lets +onlyGivenNames v1
    have h1 : Kept s0 v1 := by
      unfold v1
      split
      · apply State.correctedEcc_kept
        with_reducible assumption
      · with_reducible assumption
    clear_value v1
    apply KeptN.next
    split
    · apply State.put_kept
      with_reducible assumption
    · with_reducible assumption

theorem execUncorrectableMemoryError_kept {s0 : State} {x0 x1 : Nat} {x2 : Held} {x3 : State} (h0 : Kept s0 x3) :
    KeptN s0 (@execUncorrectableMemoryError x0 x1 x2 x3) := by
  unfold execUncorrectableMemoryError
  split
  · apply KeptN.next
    with_reducible assumption
  · extract_lets +onlyGivenNames v1
    have h1 : Kept s0 v1 := by
      unfold v1
      apply State.put_kept
      with_reducible assumption
    clear_value v1
    extract_lets +onlyGivenNames v2
    clear_value v2
    extract_lets +onlyGivenNames v3
    clear_value v3
    extract_lets +onlyGivenNames v4
    have h4 : Kept s0 v4 := by
      unfold v4
      apply State.raise_kept
      with_reducible assumption
    clear_value v4
    split
    · extract_lets +onlyGivenNames v5
      have h5 : Kept s0 v5 := by
        unfold v5
        refine Kept.same (s := v4) ?_ rfl Sub.rfl' Sub.rfl' Sub.rfl' Sub.rfl' Sub.rfl'
        with_reducible assumption
      clear_value v5
      apply KeptN.next
      split
      · apply State.planLater_kept
        with_reducible assumption
      · with_reducible assumption
    · apply KeptN.next
      apply State.rerunJob_kept
      with_reducible assumption
    · split
      · split
        · apply KeptN.next
          split
          · apply State.setLine_kept
            with_reducible assumption
          · refine Kept.same (s := v4) ?_ rfl Sub.rfl' Sub.rfl' Sub.rfl' Sub.rfl' Sub.rfl'
            with_reducible assumption
        · apply KeptN.next
          with_reducible assumption
      · apply KeptN.next
        with_reducible assumption
    · split
      · apply KeptN.next
        split
        · with_reducible assumption
        · refine Kept.same (s := v4) ?_ rfl Sub.rfl' Sub.rfl' Sub.rfl' Sub.rfl' Sub.rfl'
          with_reducible assumption
      · apply KeptN.next
        with_reducible assumption
    · apply KeptN.next
      with_reducible assumption
    · apply KeptN.next
      apply State.loseBuffered_kept
      with_reducible assumption
    · apply KeptN.next
      apply State.hangCore_kept
      with_reducible assumption
    · apply KeptN.next
      apply State.reportAer_kept
      apply State.raise_kept
      apply State.disablePoint_kept
      with_reducible assumption

end Sys2Proof.Machine
end

