-- ==== Sys2Proof/Laws/KeptPcie.lean ====
section
/-! SUPPORT. What the operations of Machine/Pcie.lean keep (`Kept`): one lemma each. -/

set_option linter.unusedVariables false

namespace Sys2Proof.Machine

theorem State.applyLayout_kept {s0 x0 : State} {x1 : Nat} (h0 : Kept s0 x0) :
    Kept s0 (@State.applyLayout x0 x1) := by
  unfold State.applyLayout
  extract_lets +onlyGivenNames v1
  clear_value v1
  extract_lets +onlyGivenNames v2
  have h2 : Kept s0 v2 := by
    unfold v2
    apply State.put_kept
    apply State.put_kept
    with_reducible assumption
  clear_value v2
  apply forEach_kept
  · with_reducible assumption
  · intro k3 k4 k5
    extract_lets +onlyGivenNames v6
    have h6 : Kept s0 v6 := by
      unfold v6
      apply State.putFlag_kept
      with_reducible assumption
    clear_value v6
    split
    · with_reducible assumption
    · apply State.put_kept
      with_reducible assumption

theorem State.cacheXlat_kept {s0 x0 : State} {x1 x2 x3 : Nat} (h0 : Kept s0 x0) :
    Kept s0 (@State.cacheXlat x0 x1 x2 x3) := by
  unfold State.cacheXlat
  extract_lets +onlyGivenNames v1
  clear_value v1
  extract_lets +onlyGivenNames v2
  clear_value v2
  extract_lets +onlyGivenNames v3
  clear_value v3
  extract_lets +onlyGivenNames v4
  clear_value v4
  extract_lets +onlyGivenNames v5
  clear_value v5
  apply State.put_kept
  refine Kept.same (s := x0) ?_ rfl Sub.rfl' Sub.rfl' Sub.rfl' Sub.rfl' Sub.rfl'
  with_reducible assumption

theorem State.clearVfEnable_kept {s0 x0 : State} {x1 : Nat} (h0 : Kept s0 x0) :
    Kept s0 (@State.clearVfEnable x0 x1) := by
  unfold State.clearVfEnable
  apply State.putFlag_kept
  apply forEach_kept
  · with_reducible assumption
  · intro k1 k2 k3
    apply State.disablePoint_kept
    with_reducible assumption

theorem State.linkDown_kept {s0 x0 : State} {x1 x2 : Nat} (h0 : Kept s0 x0) :
    Kept s0 (@State.linkDown x0 x1 x2) := by
  unfold State.linkDown
  extract_lets +onlyGivenNames v1
  clear_value v1
  extract_lets +onlyGivenNames v2
  have h2 : Kept s0 v2 := by
    unfold v2
    apply State.put_kept
    apply State.put_kept
    apply State.put_kept
    apply State.putFlag_kept
    with_reducible assumption
  clear_value v2
  extract_lets +onlyGivenNames v3
  have h3 : Kept s0 v3 := by
    unfold v3
    apply State.bump_kept
    with_reducible assumption
  clear_value v3
  apply forEach_kept
  · with_reducible assumption
  · intro k4 k5 k6
    apply State.putFlag_kept
    apply State.disablePoint_kept
    with_reducible assumption

theorem State.linkToL0_kept {s0 x0 : State} {x1 : Nat} (h0 : Kept s0 x0) :
    Kept s0 (@State.linkToL0 x0 x1) := by
  unfold State.linkToL0
  split
  · apply State.emit_kept
    apply State.put_kept
    apply State.put_kept
    with_reducible assumption
  · with_reducible assumption

theorem State.undefinedBar_kept {s0 x0 : State} {x1 : Nat} (h0 : Kept s0 x0) :
    Kept s0 (@State.undefinedBar x0 x1) := by
  unfold State.undefinedBar
  apply State.bump_kept
  with_reducible assumption

theorem State.writeHeCfg_kept {s0 x0 : State} {x1 : Agent} {x2 x3 x4 : Nat} (h0 : Kept s0 x0) :
    Kept s0 (@State.writeHeCfg x0 x1 x2 x3 x4) := by
  unfold State.writeHeCfg
  apply State.guardWrite_kept
  · with_reducible assumption
  · intro k1 k2
    apply State.unlessLocked_kept
    · with_reducible assumption
    · intro k3 k4
      split
      · with_reducible assumption
      · apply State.put_kept
        apply State.put_kept
        with_reducible assumption

theorem State.writeVfalloc_kept {s0 x0 : State} {x1 : Agent} {x2 x3 x4 : Nat} (h0 : Kept s0 x0) :
    Kept s0 (@State.writeVfalloc x0 x1 x2 x3 x4) := by
  unfold State.writeVfalloc
  split
  · apply State.decodeFault_kept
    apply State.putFlag_kept
    with_reducible assumption
  · split
    · apply State.put_kept
      apply State.put_kept
      with_reducible assumption
    · apply State.putFlag_kept
      with_reducible assumption

theorem execAtsEnableClear_kept {s0 : State} {x0 : Nat} {x1 : State} (h0 : Kept s0 x1) :
    KeptN s0 (@execAtsEnableClear x0 x1) := by
  unfold execAtsEnableClear
  apply KeptN.next
  apply State.releaseHolds_kept
  apply State.dropAts_kept
  apply State.putFlag_kept
  with_reducible assumption

theorem execBusMasterEnableClear_kept {s0 : State} {x0 : Nat} {x1 : State} (h0 : Kept s0 x1) :
    KeptN s0 (@execBusMasterEnableClear x0 x1) := by
  unfold execBusMasterEnableClear
  split
  · extract_lets +onlyGivenNames v1
    have h1 : Kept s0 v1 := by
      unfold v1
      apply State.putFlag_kept
      with_reducible assumption
    clear_value v1
    apply KeptN.next
    apply forEach_kept
    · with_reducible assumption
    · intro k2 k3 k4
      apply State.queueError_kept
      with_reducible assumption
  · apply KeptN.next
    with_reducible assumption

theorem execBusMasterEnableSet_kept {s0 : State} {x0 : Nat} {x1 : State} (h0 : Kept s0 x1) :
    KeptN s0 (@execBusMasterEnableSet x0 x1) := by
  unfold execBusMasterEnableSet
  split
  · extract_lets +onlyGivenNames v1
    have h1 : Kept s0 v1 := by
      unfold v1
      apply State.putFlag_kept
      with_reducible assumption
    clear_value v1
    apply KeptN.next
    split
    · apply State.putFlag_kept
      with_reducible assumption
    · with_reducible assumption
  · apply KeptN.next
    with_reducible assumption

theorem execD3hotEntry_kept {s0 : State} {x0 : Nat} {x1 : State} (h0 : Kept s0 x1) :
    KeptN s0 (@execD3hotEntry x0 x1) := by
  unfold execD3hotEntry
  apply KeptN.next
  split
  · apply State.noteDemand_kept
    · apply State.putFlag_kept
      with_reducible assumption
    · with_reducible assumption
  · with_reducible assumption

theorem execD3hotToD0Reset_kept {s0 : State} {x0 : Nat} {x1 : State} (h0 : Kept s0 x1) :
    KeptN s0 (@execD3hotToD0Reset x0 x1) := by
  unfold execD3hotToD0Reset
  apply KeptN.next
  split
  · extract_lets +onlyGivenNames v1
    have h1 : Kept s0 v1 := by
      unfold v1
      apply State.disablePoint_kept
      apply State.putFlag_kept
      with_reducible assumption
    clear_value v1
    apply State.noteDemand_kept
    · split
      · apply State.clearVfEnable_kept
        with_reducible assumption
      · with_reducible assumption
    · with_reducible assumption
  · with_reducible assumption

theorem execDisableTimeout_kept {s0 : State} {x0 : Scope} {x1 : State} (h0 : Kept s0 x1) :
    KeptN s0 (@execDisableTimeout x0 x1) := by
  unfold execDisableTimeout
  split
  · extract_lets +onlyGivenNames v1
    clear_value v1
    apply KeptN.next
    apply State.raise_kept
    apply State.putFlag_kept
    with_reducible assumption
  · apply KeptN.next
    with_reducible assumption

theorem execFlr_kept {s0 : State} {x0 : Nat} {x1 : State} (h0 : Kept s0 x1) :
    KeptN s0 (@execFlr x0 x1) := by
  unfold execFlr
  split
  · extract_lets +onlyGivenNames v1
    have h1 : Kept s0 v1 := by
      unfold v1
      apply State.disablePoint_kept
      with_reducible assumption
    clear_value v1
    apply KeptN.next
    split
    · apply State.clearVfEnable_kept
      with_reducible assumption
    · with_reducible assumption
  · apply KeptN.next
    with_reducible assumption

theorem execHeCfgWrite_kept {s0 : State} {x0 : Agent} {x1 x2 x3 : Nat} {x4 : State} (h0 : Kept s0 x4) :
    KeptN s0 (@execHeCfgWrite x0 x1 x2 x3 x4) := by
  unfold execHeCfgWrite
  apply KeptN.next
  apply State.atUnit_kept
  · with_reducible assumption
  · intro k1 k2
    apply State.writeHeCfg_kept
    with_reducible assumption

theorem execInvalidateRequest_kept {s0 : State} {x0 x1 x2 x3 : Nat} {x4 : State} (h0 : Kept s0 x4) :
    KeptN s0 (@execInvalidateRequest x0 x1 x2 x3 x4) := by
  unfold execInvalidateRequest
  apply KeptN.next
  refine Kept.same (s := x4) ?_ rfl Sub.rfl' Sub.rfl' Sub.rfl' Sub.rfl' Sub.rfl'
  with_reducible assumption

theorem execInvalidationCompletion_kept {s0 : State} {x0 x1 : Nat} {x2 : State} (h0 : Kept s0 x2) :
    KeptN s0 (@execInvalidationCompletion x0 x1 x2) := by
  unfold execInvalidationCompletion
  split
  · apply KeptN.next
    split
    · apply State.bump_kept
      apply State.emit_kept
      refine Kept.same (s := x2) ?_ rfl Sub.rfl' Sub.rfl' Sub.rfl' Sub.rfl' Sub.rfl'
      with_reducible assumption
    · with_reducible assumption
  · apply KeptN.next
    with_reducible assumption

theorem execL0pNarrow_kept {s0 : State} {x0 x1 x2 : Nat} {x3 : State} (h0 : Kept s0 x3) :
    KeptN s0 (@execL0pNarrow x0 x1 x2 x3) := by
  unfold execL0pNarrow
  extract_lets +onlyGivenNames v1
  clear_value v1
  extract_lets +onlyGivenNames v2
  clear_value v2
  split
  · apply KeptN.next
    apply State.emit_kept
    apply State.put_kept
    apply State.put_kept
    with_reducible assumption
  · apply KeptN.next
    with_reducible assumption

theorem execL12Entry_kept {s0 : State} {x0 x1 : Nat} {x2 : State} (h0 : Kept s0 x2) :
    KeptN s0 (@execL12Entry x0 x1 x2) := by
  unfold execL12Entry
  extract_lets +onlyGivenNames v1
  clear_value v1
  split
  · apply KeptN.next
    apply State.emit_kept
    apply State.put_kept
    with_reducible assumption
  · apply KeptN.next
    with_reducible assumption

theorem execL1Entry_kept {s0 : State} {x0 x1 : Nat} {x2 : State} (h0 : Kept s0 x2) :
    KeptN s0 (@execL1Entry x0 x1 x2) := by
  unfold execL1Entry
  extract_lets +onlyGivenNames v1
  clear_value v1
  split
  · apply KeptN.next
    apply State.emit_kept
    apply State.put_kept
    with_reducible assumption
  · apply KeptN.next
    with_reducible assumption

theorem execL1Exit_kept {s0 : State} {x0 x1 : Nat} {x2 : State} (h0 : Kept s0 x2) :
    KeptN s0 (@execL1Exit x0 x1 x2) := by
  unfold execL1Exit
  apply KeptN.next
  apply State.linkToL0_kept
  with_reducible assumption

theorem execLinkDown_kept {s0 : State} {x0 x1 : Nat} {x2 : Bool} {x3 : State} (h0 : Kept s0 x3) :
    KeptN s0 (@execLinkDown x0 x1 x2 x3) := by
  unfold execLinkDown
  extract_lets +onlyGivenNames v1
  clear_value v1
  split
  · extract_lets +onlyGivenNames v2
    have h2 : Kept s0 v2 := by
      unfold v2
      apply State.linkDown_kept
      with_reducible assumption
    clear_value v2
    split
    · apply KeptN.next
      with_reducible assumption
    · apply KeptN.next
      apply State.reportAer_kept
      apply State.raise_kept
      apply State.put_kept
      with_reducible assumption
  · apply KeptN.next
    with_reducible assumption

theorem execLinkUp_kept {s0 : State} {x0 x1 x2 x3 : Nat} {x4 : Bool} {x5 : State} (h0 : Kept s0 x5) :
    KeptN s0 (@execLinkUp x0 x1 x2 x3 x4 x5) := by
  unfold execLinkUp
  extract_lets +onlyGivenNames v1
  clear_value v1
  split
  · extract_lets +onlyGivenNames v2
    have h2 : Kept s0 v2 := by
      unfold v2
      apply State.put_kept
      apply State.put_kept
      apply State.putFlag_kept
      with_reducible assumption
    clear_value v2
    extract_lets +onlyGivenNames v3
    have h3 : Kept s0 v3 := by
      unfold v3
      apply State.putFlag_kept
      apply State.put_kept
      apply State.put_kept
      with_reducible assumption
    clear_value v3
    apply KeptN.next
    apply forEach_kept
    · with_reducible assumption
    · intro k4 k5 k6
      apply State.putFlag_kept
      with_reducible assumption
  · apply KeptN.next
    with_reducible assumption

theorem execPerstAssert_kept {s0 : State} {x0 : Nat} {x1 : State} (h0 : Kept s0 x1) :
    KeptN s0 (@execPerstAssert x0 x1) := by
  unfold execPerstAssert
  split
  · apply KeptN.next
    with_reducible assumption
  · extract_lets +onlyGivenNames v1
    have h1 : Kept s0 v1 := by
      unfold v1
      apply State.putFlag_kept
      with_reducible assumption
    clear_value v1
    apply KeptN.next
    apply forEach_kept
    · with_reducible assumption
    · intro k2 k3 k4
      split
      · apply State.linkDown_kept
        with_reducible assumption
      · with_reducible assumption

theorem execPerstDeassert_kept {s0 : State} {x0 : Nat} {x1 : State} (h0 : Kept s0 x1) :
    KeptN s0 (@execPerstDeassert x0 x1) := by
  unfold execPerstDeassert
  split
  · apply KeptN.next
    apply State.applyLayout_kept
    apply State.putFlag_kept
    with_reducible assumption
  · apply KeptN.next
    with_reducible assumption

theorem execTranslationCompletion_kept {s0 : State} {x0 x1 x2 : Nat} {x3 : XlatResult} {x4 : State} (h0 : Kept s0 x4) :
    KeptN s0 (@execTranslationCompletion x0 x1 x2 x3 x4) := by
  unfold execTranslationCompletion
  extract_lets +onlyGivenNames v1
  clear_value v1
  extract_lets +onlyGivenNames v2
  split
  · extract_lets +onlyGivenNames v3
    have h3 : Kept s0 v3 := by
      unfold v3
      split
      · unfold v2
        apply forEach_kept
        · with_reducible assumption
        · intro k4 k5 k6
          apply State.queueError_kept
          with_reducible assumption
      · with_reducible assumption
    clear_value v3
    apply KeptN.next
    apply State.releaseHolds_kept
    split
    · apply State.cacheXlat_kept
      with_reducible assumption
    · with_reducible assumption
  · apply KeptN.next
    apply State.releaseHolds_kept
    unfold v2
    apply forEach_kept
    · with_reducible assumption
    · intro k7 k8 k9
      apply State.queueError_kept
      with_reducible assumption
  · apply KeptN.next
    apply State.releaseHolds_kept
    unfold v2
    apply forEach_kept
    · with_reducible assumption
    · intro k10 k11 k12
      apply State.queueError_kept
      with_reducible assumption

theorem execUndefinedBarRequest_kept {s0 : State} {x0 x1 x2 : Nat} {x3 : Bool} {x4 : State} (h0 : Kept s0 x4) :
    KeptN s0 (@execUndefinedBarRequest x0 x1 x2 x3 x4) := by
  unfold execUndefinedBarRequest
  split
  · apply KeptN.next
    split
    · with_reducible assumption
    · apply State.emit_kept
      with_reducible assumption
  · split
    · apply KeptN.next
      apply State.emit_kept
      with_reducible assumption
    · split
      · apply KeptN.next
        with_reducible assumption
      · extract_lets +onlyGivenNames v1
        have h1 : Kept s0 v1 := by
          unfold v1
          apply State.undefinedBar_kept
          with_reducible assumption
        clear_value v1
        apply KeptN.next
        split
        · with_reducible assumption
        · apply State.emit_kept
          apply State.reportAer_kept
          with_reducible assumption

theorem execVfDisable_kept {s0 : State} {x0 : Nat} {x1 : State} (h0 : Kept s0 x1) :
    KeptN s0 (@execVfDisable x0 x1) := by
  unfold execVfDisable
  apply KeptN.next
  split
  · apply State.clearVfEnable_kept
    with_reducible assumption
  · with_reducible assumption

theorem execVfEnableSet_kept {s0 : State} {x0 x1 : Nat} {x2 : State} (h0 : Kept s0 x2) :
    KeptN s0 (@execVfEnableSet x0 x1 x2) := by
  unfold execVfEnableSet
  split
  · apply KeptN.next
    apply State.putFlag_kept
    apply State.put_kept
    with_reducible assumption
  · apply KeptN.next
    with_reducible assumption

theorem execVfallocWrite_kept {s0 : State} {x0 : Agent} {x1 x2 x3 : Nat} {x4 : State} (h0 : Kept s0 x4) :
    KeptN s0 (@execVfallocWrite x0 x1 x2 x3 x4) := by
  unfold execVfallocWrite
  apply KeptN.next
  apply State.atUnit_kept
  · with_reducible assumption
  · intro k1 k2
    apply State.writeVfalloc_kept
    with_reducible assumption

end Sys2Proof.Machine
end

