-- ==== Sys2Proof/Laws/KeptWrites.lean ====
section
/-! SUPPORT. What the operations of Machine/Writes.lean keep (`Kept`): one lemma each. -/

set_option linter.unusedVariables false

namespace Sys2Proof.Machine

theorem State.ackWrite_kept {s0 x0 : State} {x1 : Nat} (h0 : Kept s0 x0) :
    Kept s0 (@State.ackWrite x0 x1) := by
  unfold State.ackWrite
  split
  · with_reducible assumption
  · split
    · with_reducible assumption
    · split
      · apply State.endMuted_kept
        with_reducible assumption
      · extract_lets +onlyGivenNames v1
        clear_value v1
        extract_lets +onlyGivenNames v2
        clear_value v2
        split
        · apply State.finish_kept
          with_reducible assumption
        · apply State.ackProgrammed_kept
          apply State.setCmd_kept
          with_reducible assumption

theorem State.deallocate_kept {s0 x0 : State} {x1 : Cmd} (h0 : Kept s0 x0) :
    Kept s0 (@State.deallocate x0 x1) := by
  unfold State.deallocate
  extract_lets +onlyGivenNames v1
  clear_value v1
  apply forEach_kept
  · with_reducible assumption
  · intro k2 k3 k4
    apply State.mapPut_kept
    with_reducible assumption

theorem State.allocGranule_kept {s0 x0 : State} {x1 x2 x3 : Nat} (h0 : Kept s0 x0) :
    Kept s0 (@State.allocGranule x0 x1 x2 x3) := by
  unfold State.allocGranule
  split
  · with_reducible assumption
  · extract_lets +onlyGivenNames v1
    clear_value v1
    extract_lets +onlyGivenNames v2
    clear_value v2
    split
    · apply State.setCmd_kept
      apply State.dirtyAdd_kept
      with_reducible assumption
    · extract_lets +onlyGivenNames v3
      have h3 : Kept s0 v3 := by
        unfold v3
        split
        · apply State.bump_kept
          with_reducible assumption
        · with_reducible assumption
      clear_value v3
      apply State.setCmd_kept
      apply State.dirtyAdd_kept
      with_reducible assumption

theorem State.allocTo_kept {s0 x0 : State} {x1 x2 : Nat} (h0 : Kept s0 x0) :
    Kept s0 (@State.allocTo x0 x1 x2) := by
  unfold State.allocTo
  split
  · with_reducible assumption
  · extract_lets +onlyGivenNames v1
    clear_value v1
    extract_lets +onlyGivenNames v2
    clear_value v2
    apply forEach_kept
    · with_reducible assumption
    · intro k3 k4 k5
      apply State.allocGranule_kept
      with_reducible assumption

theorem State.releaseAlloc_kept {s0 x0 : State} {x1 : Cmd} (h0 : Kept s0 x0) :
    Kept s0 (@State.releaseAlloc x0 x1) := by
  unfold State.releaseAlloc
  apply State.dirtySub_kept
  with_reducible assumption

theorem State.storeUnits_kept {s0 x0 : State} {x1 x2 : Nat} {x3 : List (List Byte)} (h0 : Kept s0 x0) :
    Kept s0 (@State.storeUnits x0 x1 x2 x3) := by
  unfold State.storeUnits
  split
  · with_reducible assumption
  · extract_lets +onlyGivenNames v1
    clear_value v1
    split
    · with_reducible assumption
    · apply State.setCmd_kept
      refine KeptO.out (by assumption) ?_
      apply State.storeHost_kept
      with_reducible assumption

theorem State.commitWhere_kept {s0 x0 : State} {x1 : Nat} {x2 : State → State} (h0 : Kept s0 x0) (h1 : ∀ y0, Kept s0 y0 → Kept s0 (x2 y0)) :
    Kept s0 (@State.commitWhere x0 x1 x2) := by
  unfold State.commitWhere
  split
  · with_reducible assumption
  · apply forEach_kept
    · with_reducible assumption
    · intro k1 k2 k3
      split
      · with_reducible assumption
      · split
        · split
          · apply State.finish_kept
            apply State.releaseAlloc_kept
            with_reducible assumption
          · apply State.storeUnits_kept
            with_reducible assumption
        · with_reducible assumption

theorem State.commitReceived_kept {s0 x0 : State} {x1 : Nat} (h0 : Kept s0 x0) :
    Kept s0 (@State.commitReceived x0 x1) := by
  unfold State.commitReceived
  apply State.commitWhere_kept
  · with_reducible assumption
  · intro k1 k2
    with_reducible assumption

theorem State.requestData_kept {s0 x0 : State} {x1 : Cmd} (h0 : Kept s0 x0) :
    Kept s0 (@State.requestData x0 x1) := by
  unfold State.requestData
  extract_lets +onlyGivenNames v1
  clear_value v1
  extract_lets +onlyGivenNames v2
  have h2 : Kept s0 v2 := by
    unfold v2
    apply State.sendFor_kept
    with_reducible assumption
  clear_value v2
  extract_lets +onlyGivenNames v3
  have h3 : Kept s0 v3 := by
    unfold v3
    refine Kept.same (s := v2) ?_ rfl Sub.rfl' Sub.rfl' Sub.rfl' Sub.rfl' Sub.rfl'
    with_reducible assumption
  clear_value v3
  split
  · with_reducible assumption
  · extract_lets +onlyGivenNames v4
    clear_value v4
    extract_lets +onlyGivenNames v5
    have h5 : Kept s0 v5 := by
      unfold v5
      apply State.sendFor_kept
      with_reducible assumption
    clear_value v5
    refine Kept.same (s := v5) ?_ rfl Sub.rfl' Sub.rfl' Sub.rfl' Sub.rfl' Sub.rfl'
    with_reducible assumption

theorem State.admitWrite_kept {s0 x0 : State} {x1 : Cmd} (h0 : Kept s0 x0) :
    Kept s0 (@State.admitWrite x0 x1) := by
  unfold State.admitWrite
  extract_lets +onlyGivenNames v1
  clear_value v1
  extract_lets +onlyGivenNames v2
  clear_value v2
  extract_lets +onlyGivenNames v3
  clear_value v3
  split
  · apply State.finish_kept
    apply State.deallocate_kept
    with_reducible assumption
  · split
    · apply State.setCmd_kept
      with_reducible assumption
    · extract_lets +onlyGivenNames v4
      clear_value v4
      extract_lets +onlyGivenNames v5
      clear_value v5
      extract_lets +onlyGivenNames v6
      have h6 : Kept s0 v6 := by
        unfold v6
        apply State.putFlag_kept
        apply State.put_kept
        with_reducible assumption
      clear_value v6
      extract_lets +onlyGivenNames v7
      clear_value v7
      extract_lets +onlyGivenNames v8
      have h8 : Kept s0 v8 := by
        unfold v8
        apply State.setCmd_kept
        with_reducible assumption
      clear_value v8
      split
      · extract_lets +onlyGivenNames v9
        clear_value v9
        extract_lets +onlyGivenNames v10
        have h10 : Kept s0 v10 := by
          unfold v10
          apply State.allocTo_kept
          apply State.deallocate_kept
          apply State.setCmd_kept
          with_reducible assumption
        clear_value v10
        apply State.ackWrite_kept
        apply State.commitReceived_kept
        with_reducible assumption
      · split
        · apply State.requestData_kept
          apply State.allocTo_kept
          with_reducible assumption
        · with_reducible assumption

theorem State.commitComplete_kept {s0 x0 : State} {x1 : Nat} (h0 : Kept s0 x0) :
    Kept s0 (@State.commitComplete x0 x1) := by
  unfold State.commitComplete
  apply State.commitWhere_kept
  · with_reducible assumption
  · intro k1 k2
    refine Kept.same (s := k1) ?_ rfl Sub.rfl' Sub.rfl' Sub.rfl' Sub.rfl' Sub.rfl'
    with_reducible assumption

theorem State.completeGrant_kept {s0 x0 : State} {x1 : Grant} (h0 : Kept s0 x0) :
    Kept s0 (@State.completeGrant x0 x1) := by
  unfold State.completeGrant
  split
  · with_reducible assumption
  · split
    · with_reducible assumption
    · extract_lets +onlyGivenNames v1
      have h1 : Kept s0 v1 := by
        unfold v1
        apply State.sample_kept
        with_reducible assumption
      clear_value v1
      extract_lets +onlyGivenNames v2
      have h2 : Kept s0 v2 := by
        unfold v2
        refine Kept.same (s := v1) ?_ rfl Sub.rfl' Sub.rfl' Sub.filter Sub.rfl' Sub.rfl'
        with_reducible assumption
      clear_value v2
      extract_lets +onlyGivenNames v3
      have h3 : Kept s0 v3 := by
        unfold v3
        apply State.setCmd_kept
        with_reducible assumption
      clear_value v3
      split
      · apply State.ackWrite_kept
        apply State.commitComplete_kept
        with_reducible assumption
      · with_reducible assumption

theorem State.dropGrants_kept {s0 x0 : State} {x1 : Nat} (h0 : Kept s0 x0) :
    Kept s0 (@State.dropGrants x0 x1) := by
  unfold State.dropGrants
  extract_lets +onlyGivenNames v1
  clear_value v1
  refine Kept.same (s := x0) ?_ rfl Sub.rfl' Sub.rfl' Sub.filter Sub.rfl' Sub.rfl'
  with_reducible assumption

theorem State.cutWrite_kept {s0 x0 : State} {x1 : Nat} {x2 : Result} (h0 : Kept s0 x0) :
    Kept s0 (@State.cutWrite x0 x1 x2) := by
  unfold State.cutWrite
  extract_lets +onlyGivenNames v1
  have h1 : Kept s0 v1 := by
    unfold v1
    split
    · apply State.commitReceived_kept
      with_reducible assumption
    · with_reducible assumption
  clear_value v1
  split
  · with_reducible assumption
  · split
    · extract_lets +onlyGivenNames v2
      have h2 : Kept s0 v2 := by
        unfold v2
        refine Kept.same (s := v1) ?_ rfl Sub.rfl' Sub.rfl' Sub.rfl' Sub.rfl' Sub.rfl'
        with_reducible assumption
      clear_value v2
      apply State.setCmd_kept
      with_reducible assumption
    · extract_lets +onlyGivenNames v3
      clear_value v3
      extract_lets +onlyGivenNames v4
      clear_value v4
      extract_lets +onlyGivenNames v5
      have h5 : Kept s0 v5 := by
        unfold v5
        split
        · apply State.releaseAlloc_kept
          with_reducible assumption
        · with_reducible assumption
      clear_value v5
      apply State.finish_kept
      apply State.dropGrants_kept
      with_reducible assumption

theorem State.jxWrite_kept {s0 x0 : State} {x1 : Cmd} (h0 : Kept s0 x0) :
    Kept s0 (@State.jxWrite x0 x1) := by
  unfold State.jxWrite
  extract_lets +onlyGivenNames v1
  clear_value v1
  split
  · apply State.finish_kept
    with_reducible assumption
  · split
    · apply State.finish_kept
      with_reducible assumption
    · extract_lets +onlyGivenNames v2
      clear_value v2
      split
      · apply State.finish_kept
        with_reducible assumption
      · split
        · apply State.finish_kept
          with_reducible assumption
        · extract_lets +onlyGivenNames v3
          clear_value v3
          split
          · apply State.finish_kept
            with_reducible assumption
          · apply State.admitWrite_kept
            with_reducible assumption

theorem State.readAnswered_kept {s0 x0 : State} {x1 x2 : Nat} (h0 : Kept s0 x0) :
    Kept s0 (@State.readAnswered x0 x1 x2) := by
  unfold State.readAnswered
  refine Kept.same (s := x0) ?_ rfl Sub.rfl' Sub.rfl' Sub.rfl' Sub.rfl' Sub.rfl'
  with_reducible assumption

theorem State.retryWrites_kept {s0 x0 : State} (h0 : Kept s0 x0) :
    Kept s0 (@State.retryWrites x0) := by
  unfold State.retryWrites
  apply forEach_kept
  · with_reducible assumption
  · intro k1 k2 k3
    split
    · with_reducible assumption
    · split
      · apply State.cutWrite_kept
        with_reducible assumption
      · split
        · apply State.cutWrite_kept
          with_reducible assumption
        · apply State.ackWrite_kept
          apply State.commitComplete_kept
          with_reducible assumption

theorem State.storeGranule_kept {s0 x0 : State} {x1 x2 : Nat} {x3 : List Byte} (h0 : Kept s0 x0) :
    Kept s0 (@State.storeGranule x0 x1 x2 x3) := by
  unfold State.storeGranule
  split
  · with_reducible assumption
  · apply State.storeUnits_kept
    with_reducible assumption

theorem execBandOpen_kept {s0 : State} {x0 x1 : Nat} {x2 : List (Option Nat)} {x3 : List Nat} {x4 : State} (h0 : Kept s0 x4) :
    KeptN s0 (@execBandOpen x0 x1 x2 x3 x4) := by
  unfold execBandOpen
  apply KeptN.next
  apply State.retryWrites_kept
  apply State.openNewBand_kept
  with_reducible assumption

theorem execCompletionTimeout_kept {s0 : State} {x0 : Nat} {x1 : State} (h0 : Kept s0 x1) :
    KeptN s0 (@execCompletionTimeout x0 x1) := by
  unfold execCompletionTimeout
  split
  · apply KeptN.next
    with_reducible assumption
  · split
    · apply KeptN.next
      with_reducible assumption
    · extract_lets +onlyGivenNames v1
      clear_value v1
      extract_lets +onlyGivenNames v2
      have h2 : Kept s0 v2 := by
        unfold v2
        apply State.reportAer_kept
        apply State.raise_kept
        apply State.bump_kept
        apply State.putFlag_kept
        with_reducible assumption
      clear_value v2
      extract_lets +onlyGivenNames v3
      have h3 : Kept s0 v3 := by
        unfold v3
        apply State.readAnswered_kept
        with_reducible assumption
      clear_value v3
      apply KeptN.next
      split
      · apply State.cutWrite_kept
        with_reducible assumption
      · apply State.finish_kept
        with_reducible assumption

theorem execDmaReadCompletion_kept {s0 : State} {x0 : Nat} {x1 : DmaStatus} {x2 : Nat} {x3 : List Byte} {x4 : State} (h0 : Kept s0 x4) :
    KeptN s0 (@execDmaReadCompletion x0 x1 x2 x3 x4) := by
  unfold execDmaReadCompletion
  split
  · apply KeptN.next
    with_reducible assumption
  · extract_lets +onlyGivenNames v1
    have h1 : Kept s0 v1 := by
      unfold v1
      apply State.readAnswered_kept
      with_reducible assumption
    clear_value v1
    split
    · apply KeptN.next
      with_reducible assumption
    · extract_lets +onlyGivenNames v2
      have h2 : Kept s0 v2 := by
        unfold v2
        split
        · with_reducible assumption
        · apply State.reportAer_kept
          with_reducible assumption
      clear_value v2
      split
      · apply KeptN.next
        with_reducible assumption
      · split
        · split
          · extract_lets +onlyGivenNames v3
            have h3 : Kept s0 v3 := by
              unfold v3
              apply State.setCmd_kept
              with_reducible assumption
            clear_value v3
            apply KeptN.next
            apply State.ackWrite_kept
            apply State.commitReceived_kept
            with_reducible assumption
          · apply KeptN.next
            with_reducible assumption
        · apply KeptN.next
          split
          · apply State.cutWrite_kept
            with_reducible assumption
          · apply State.finish_kept
            with_reducible assumption

theorem execGrantExpiry_kept {s0 : State} {x0 x1 : Nat} {x2 : State} (h0 : Kept s0 x2) :
    KeptN s0 (@execGrantExpiry x0 x1 x2) := by
  unfold execGrantExpiry
  split
  · apply KeptN.next
    with_reducible assumption
  · apply KeptN.next
    split
    · apply State.cutWrite_kept
      apply State.bump_kept
      with_reducible assumption
    · with_reducible assumption

theorem execGrantIssue_kept {s0 : State} {x0 x1 : Nat} {x2 : State} (h0 : Kept s0 x2) :
    KeptN s0 (@execGrantIssue x0 x1 x2) := by
  unfold execGrantIssue
  split
  · apply KeptN.next
    with_reducible assumption
  · extract_lets +onlyGivenNames v1
    clear_value v1
    extract_lets +onlyGivenNames v2
    clear_value v2
    extract_lets +onlyGivenNames v3
    clear_value v3
    extract_lets +onlyGivenNames v4
    clear_value v4
    extract_lets +onlyGivenNames v5
    clear_value v5
    extract_lets +onlyGivenNames v6
    clear_value v6
    split
    · apply KeptN.next
      with_reducible assumption
    · extract_lets +onlyGivenNames v7
      clear_value v7
      extract_lets +onlyGivenNames v8
      have h8 : Kept s0 v8 := by
        unfold v8
        refine Kept.same (s := x2) ?_ rfl Sub.rfl' Sub.rfl' Sub.rfl' Sub.rfl' Sub.rfl'
        with_reducible assumption
      clear_value v8
      extract_lets +onlyGivenNames v9
      have h9 : Kept s0 v9 := by
        unfold v9
        apply State.sendFor_kept
        with_reducible assumption
      clear_value v9
      extract_lets +onlyGivenNames v10
      have h10 : Kept s0 v10 := by
        unfold v10
        apply State.put_kept
        with_reducible assumption
      clear_value v10
      extract_lets +onlyGivenNames v11
      have h11 : Kept s0 v11 := by
        unfold v11
        apply State.setCmd_kept
        with_reducible assumption
      clear_value v11
      apply KeptN.next
      split
      · apply State.allocTo_kept
        with_reducible assumption
      · with_reducible assumption

theorem execPackOnly_kept {s0 : State} {x0 : Nat} {x1 : State} (h0 : Kept s0 x1) :
    KeptN s0 (@execPackOnly x0 x1) := by
  unfold execPackOnly
  split
  · apply KeptN.next
    with_reducible assumption
  · split
    · apply KeptN.next
      apply State.finish_kept
      with_reducible assumption
    · split
      · apply KeptN.next
        apply State.finish_kept
        with_reducible assumption
      · apply KeptN.next
        apply State.setCmd_kept
        with_reducible assumption

theorem execWrite_kept {s0 : State} {x0 : Nat} {x1 : State} (h0 : Kept s0 x1) :
    KeptN s0 (@execWrite x0 x1) := by
  unfold execWrite
  split
  · apply KeptN.next
    split
    · with_reducible assumption
    · apply State.jxWrite_kept
      with_reducible assumption
  · apply KeptN.next
    with_reducible assumption

theorem execWritePack_kept {s0 : State} {x0 : Nat} {x1 : State} (h0 : Kept s0 x1) :
    KeptN s0 (@execWritePack x0 x1) := by
  unfold execWritePack
  split
  · apply KeptN.next
    split
    · with_reducible assumption
    · apply State.jxWrite_kept
      with_reducible assumption
  · apply KeptN.next
    with_reducible assumption

end Sys2Proof.Machine
end

