-- ==== Sys2Proof/Laws/KeptEngines.lean ====
section
/-! SUPPORT. What the operations of Machine/Engines.lean keep (`Kept`): one lemma each. -/

set_option linter.unusedVariables false

namespace Sys2Proof.Machine

theorem State.dictSts_kept {s0 x0 : State} {x1 x2 x3 : Nat} (h0 : Kept s0 x0) :
    Kept s0 (@State.dictSts x0 x1 x2 x3) := by
  unfold State.dictSts
  apply State.putFlag_kept
  apply State.put_kept
  apply State.put_kept
  with_reducible assumption

theorem State.endJob_kept {s0 x0 : State} {x1 : Nat} {x2 : EngJob} {x3 : Nat} (h0 : Kept s0 x0) :
    Kept s0 (@State.endJob x0 x1 x2 x3) := by
  unfold State.endJob
  extract_lets +onlyGivenNames v1
  have h1 : Kept s0 v1 := by
    unfold v1
    refine Kept.same (s := x0) ?_ rfl Sub.rfl' Sub.rfl' Sub.rfl' Sub.rfl' Sub.rfl'
    with_reducible assumption
  clear_value v1
  apply State.idleEngine_kept
  apply State.put_kept
  with_reducible assumption

theorem State.rereadJob_kept {s0 x0 : State} {x1 : Nat} {x2 : EngJob} {x3 : Cmd} {x4 : List Nat} (h0 : Kept s0 x0) :
    Kept s0 (@State.rereadJob x0 x1 x2 x3 x4) := by
  unfold State.rereadJob
  extract_lets +onlyGivenNames v1
  have h1 : Kept s0 v1 := by
    unfold v1
    apply State.raise_kept
    apply State.bump_kept
    with_reducible assumption
  clear_value v1
  extract_lets +onlyGivenNames v2
  have h2 : Kept s0 v2 := by
    unfold v2
    apply State.idleEngine_kept
    apply State.put_kept
    with_reducible assumption
  clear_value v2
  extract_lets +onlyGivenNames v3
  clear_value v3
  extract_lets +onlyGivenNames v4
  have h4 : Kept s0 v4 := by
    unfold v4
    refine Kept.same (s := v2) ?_ rfl Sub.rfl' Sub.rfl' Sub.rfl' Sub.rfl' Sub.rfl'
    with_reducible assumption
  clear_value v4
  extract_lets +onlyGivenNames v5
  clear_value v5
  apply forEach_kept
  · apply State.setCmd_kept
    with_reducible assumption
  · intro k6 k7 k8
    apply State.planPage_kept
    with_reducible assumption

theorem State.runJob_kept {s0 x0 : State} {x1 : Nat} {x2 : EngJob} (h0 : Kept s0 x0) :
    Kept s0 (@State.runJob x0 x1 x2) := by
  unfold State.runJob
  extract_lets +onlyGivenNames v1
  have h1 : Kept s0 v1 := by
    unfold v1
    refine Kept.same (s := x0) ?_ rfl Sub.rfl' Sub.rfl' Sub.rfl' Sub.rfl' Sub.rfl'
    with_reducible assumption
  clear_value v1
  apply State.put_kept
  apply State.put_kept
  apply State.put_kept
  with_reducible assumption

theorem State.submitDict_kept {s0 x0 : State} {x1 : Agent} {x2 x3 x4 : Nat} (h0 : Kept s0 x0) :
    Kept s0 (@State.submitDict x0 x1 x2 x3 x4) := by
  unfold State.submitDict
  apply State.guardWrite_kept
  · with_reducible assumption
  · intro k1 k2
    extract_lets +onlyGivenNames v3
    clear_value v3
    split
    · apply State.bump_kept
      with_reducible assumption
    · extract_lets +onlyGivenNames v4
      have h4 : Kept s0 v4 := by
        unfold v4
        apply State.put_kept
        apply State.put_kept
        apply State.put_kept
        with_reducible assumption
      clear_value v4
      split
      · apply State.dictSts_kept
        with_reducible assumption
      · split
        · apply State.dictSts_kept
          with_reducible assumption
        · apply State.dictSts_kept
          apply State.dropDict_kept
          with_reducible assumption

theorem execCompressionJobDone_kept {s0 : State} {x0 : Nat} {x1 : List Byte} {x2 : State} (h0 : Kept s0 x2) :
    KeptN s0 (@execCompressionJobDone x0 x1 x2) := by
  unfold execCompressionJobDone
  split
  · apply KeptN.next
    with_reducible assumption
  · split
    · split
      · apply KeptN.next
        apply State.endJob_kept
        with_reducible assumption
      · extract_lets +onlyGivenNames v1
        split
        · extract_lets +onlyGivenNames v2
          clear_value v2
          extract_lets +onlyGivenNames v3
          have h3 : Kept s0 v3 := by
            unfold v3
            apply State.bump_kept
            with_reducible assumption
          clear_value v3
          extract_lets +onlyGivenNames v4
          clear_value v4
          split
          · apply KeptN.next
            apply State.cutWrite_kept
            apply State.endJob_kept
            apply State.bump_kept
            with_reducible assumption
          · split
            · apply KeptN.next
              apply State.cutWrite_kept
              apply State.endJob_kept
              apply State.bump_kept
              unfold v1
              apply State.raise_kept
              apply State.bump_kept
              with_reducible assumption
            · split
              · apply KeptN.next
                apply State.cutWrite_kept
                apply State.endJob_kept
                with_reducible assumption
              · extract_lets +onlyGivenNames v5
                clear_value v5
                extract_lets +onlyGivenNames v6
                have h6 : Kept s0 v6 := by
                  unfold v6
                  apply State.sendDma_kept
                  apply State.endJob_kept
                  with_reducible assumption
                clear_value v6
                apply KeptN.next
                apply State.finish_kept
                apply State.dropGrants_kept
                with_reducible assumption
        · split
          · apply KeptN.next
            apply State.endJob_kept
            with_reducible assumption
          · extract_lets +onlyGivenNames v7
            clear_value v7
            extract_lets +onlyGivenNames v8
            clear_value v8
            extract_lets +onlyGivenNames v9
            clear_value v9
            extract_lets +onlyGivenNames v10
            clear_value v10
            split
            · extract_lets +onlyGivenNames v11
              clear_value v11
              extract_lets +onlyGivenNames v12
              clear_value v12
              split
              · apply KeptN.next
                with_reducible assumption
              · extract_lets +onlyGivenNames v13
                have h13 : Kept s0 v13 := by
                  unfold v13
                  apply State.dirtySub_kept
                  apply State.setCmd_kept
                  refine KeptO.out (by assumption) ?_
                  apply State.storeHost_kept
                  with_reducible assumption
                clear_value v13
                apply KeptN.next
                apply State.ackWrite_kept
                apply State.endJob_kept
                apply State.bump_kept
                with_reducible assumption
            · split
              · apply KeptN.next
                with_reducible assumption
              · extract_lets +onlyGivenNames v14
                have h14 : Kept s0 v14 := by
                  unfold v14
                  apply State.bump_kept
                  with_reducible assumption
                clear_value v14
                extract_lets +onlyGivenNames v15
                have h15 : Kept s0 v15 := by
                  unfold v15
                  split
                  · unfold v1
                    apply State.raise_kept
                    apply State.bump_kept
                    with_reducible assumption
                  · apply State.bump_kept
                    with_reducible assumption
                clear_value v15
                extract_lets +onlyGivenNames v16
                have h16 : Kept s0 v16 := by
                  unfold v16
                  apply State.endJob_kept
                  with_reducible assumption
                clear_value v16
                extract_lets +onlyGivenNames v17
                have h17 : Kept s0 v17 := by
                  unfold v17
                  apply forEach_kept
                  · with_reducible assumption
                  · intro k18 k19 k20
                    apply State.storeGranule_kept
                    with_reducible assumption
                clear_value v17
                apply KeptN.next
                apply State.ackWrite_kept
                with_reducible assumption
    · apply KeptN.next
      apply State.endJob_kept
      with_reducible assumption

theorem execCompressionJobStart_kept {s0 : State} {x0 x1 : Nat} {x2 : State} (h0 : Kept s0 x2) :
    KeptN s0 (@execCompressionJobStart x0 x1 x2) := by
  unfold execCompressionJobStart
  split
  · apply KeptN.next
    with_reducible assumption
  · split
    · apply KeptN.next
      with_reducible assumption
    · extract_lets +onlyGivenNames v1
      split
      · apply KeptN.next
        apply State.runJob_kept
        with_reducible assumption
      · split
        · split
          · apply KeptN.next
            unfold v1
            extract_lets +onlyGivenNames v2
            clear_value v2
            extract_lets +onlyGivenNames v3
            clear_value v3
            apply State.runJob_kept
            apply State.put_kept
            refine Kept.same (s := x2) ?_ rfl Sub.rfl' Sub.rfl' Sub.rfl' Sub.rfl' Sub.rfl'
            with_reducible assumption
          · apply KeptN.next
            with_reducible assumption
        · extract_lets +onlyGivenNames v4
          clear_value v4
          split
          · apply KeptN.next
            with_reducible assumption
          · split
            · apply KeptN.next
              unfold v1
              extract_lets +onlyGivenNames v5
              clear_value v5
              extract_lets +onlyGivenNames v6
              clear_value v6
              apply State.runJob_kept
              apply State.put_kept
              refine Kept.same (s := x2) ?_ rfl Sub.rfl' Sub.rfl' Sub.rfl' Sub.rfl' Sub.rfl'
              with_reducible assumption
            · apply KeptN.next
              with_reducible assumption

theorem execDecompressionJobDone_kept {s0 : State} {x0 : Nat} {x1 : State} (h0 : Kept s0 x1) :
    KeptN s0 (@execDecompressionJobDone x0 x1) := by
  unfold execDecompressionJobDone
  split
  · apply KeptN.next
    with_reducible assumption
  · split
    · apply KeptN.next
      apply State.endJob_kept
      with_reducible assumption
    · split
      · apply KeptN.next
        apply State.endJob_kept
        with_reducible assumption
      · split
        · split
          · extract_lets +onlyGivenNames v1
            have h1 : Kept s0 v1 := by
              unfold v1
              apply State.endJob_kept
              apply State.add_kept
              apply State.bump_kept
              with_reducible assumption
            clear_value v1
            apply KeptN.next
            apply State.tryFinish_kept
            apply State.setCmd_kept
            with_reducible assumption
          · split
            · apply KeptN.next
              apply State.rereadJob_kept
              with_reducible assumption
            · extract_lets +onlyGivenNames v2
              have h2 : Kept s0 v2 := by
                unfold v2
                apply State.endJob_kept
                apply State.bump_kept
                with_reducible assumption
              clear_value v2
              apply KeptN.next
              apply State.failRead_kept
              with_reducible assumption
        · split
          · extract_lets +onlyGivenNames v3
            have h3 : Kept s0 v3 := by
              unfold v3
              apply State.endJob_kept
              apply State.add_kept
              apply State.bump_kept
              with_reducible assumption
            clear_value v3
            split
            · apply KeptN.next
              apply State.endMuted_kept
              with_reducible assumption
            · extract_lets +onlyGivenNames v4
              have h4 : Kept s0 v4 := by
                unfold v4
                apply State.deliver_kept
                with_reducible assumption
              clear_value v4
              extract_lets +onlyGivenNames v5
              clear_value v5
              extract_lets +onlyGivenNames v6
              clear_value v6
              apply KeptN.next
              apply State.nextFrame_kept
              apply State.setCmd_kept
              with_reducible assumption
          · apply KeptN.next
            apply State.failRead_kept
            apply State.endJob_kept
            apply State.bump_kept
            with_reducible assumption
          · split
            · apply KeptN.next
              apply State.rereadJob_kept
              with_reducible assumption
            · apply KeptN.next
              apply State.failRead_kept
              apply State.endJob_kept
              apply State.bump_kept
              with_reducible assumption
        · apply KeptN.next
          with_reducible assumption

theorem execDecompressionJobStart_kept {s0 : State} {x0 x1 : Nat} {x2 : State} (h0 : Kept s0 x2) :
    KeptN s0 (@execDecompressionJobStart x0 x1 x2) := by
  unfold execDecompressionJobStart
  split
  · apply KeptN.next
    with_reducible assumption
  · extract_lets +onlyGivenNames v1
    clear_value v1
    extract_lets +onlyGivenNames v2
    clear_value v2
    split
    · apply KeptN.next
      with_reducible assumption
    · split
      · apply KeptN.next
        apply State.runJob_kept
        with_reducible assumption
      · split
        · apply KeptN.next
          apply State.runJob_kept
          with_reducible assumption
        · apply KeptN.next
          split
          · apply State.bump_kept
            apply State.runJob_kept
            with_reducible assumption
          · with_reducible assumption

theorem execDictDrop_kept {s0 : State} {x0 : Agent} {x1 : Nat} {x2 : State} (h0 : Kept s0 x2) :
    KeptN s0 (@execDictDrop x0 x1 x2) := by
  unfold execDictDrop
  apply KeptN.next
  apply State.atUnit_kept
  · with_reducible assumption
  · intro k1 k2
    apply State.submitDict_kept
    with_reducible assumption

theorem execDictLoad_kept {s0 : State} {x0 : Agent} {x1 x2 : Nat} {x3 : State} (h0 : Kept s0 x3) :
    KeptN s0 (@execDictLoad x0 x1 x2 x3) := by
  unfold execDictLoad
  apply KeptN.next
  apply State.atUnit_kept
  · with_reducible assumption
  · intro k1 k2
    apply State.submitDict_kept
    with_reducible assumption

theorem execDictLoadDone_kept {s0 : State} {x0 : Agent} {x1 : Bool} {x2 : State} (h0 : Kept s0 x2) :
    KeptN s0 (@execDictLoadDone x0 x1 x2) := by
  unfold execDictLoadDone
  extract_lets +onlyGivenNames v1
  clear_value v1
  split
  · apply KeptN.next
    with_reducible assumption
  · extract_lets +onlyGivenNames v2
    clear_value v2
    extract_lets +onlyGivenNames v3
    clear_value v3
    extract_lets +onlyGivenNames v4
    clear_value v4
    split
    · apply KeptN.next
      apply State.dictSts_kept
      with_reducible assumption
    · extract_lets +onlyGivenNames v5
      clear_value v5
      split
      · apply KeptN.next
        apply State.dictSts_kept
        with_reducible assumption
      · split
        · apply KeptN.next
          apply State.dictSts_kept
          with_reducible assumption
        · extract_lets +onlyGivenNames v6
          have h6 : Kept s0 v6 := by
            unfold v6
            apply State.journal_kept
            with_reducible assumption
          clear_value v6
          extract_lets +onlyGivenNames v7
          clear_value v7
          extract_lets +onlyGivenNames v8
          have h8 : Kept s0 v8 := by
            unfold v8
            refine Kept.same (s := v6) ?_ rfl Sub.rfl' Sub.rfl' Sub.rfl' Sub.rfl' Sub.rfl'
            with_reducible assumption
          clear_value v8
          apply KeptN.next
          apply State.dictSts_kept
          with_reducible assumption

end Sys2Proof.Machine
end

