-- ==== Sys2Proof/Laws/KeptQueues.lean ====
section
/-! SUPPORT. What the operations of Machine/Queues.lean keep (`Kept`): one lemma each. -/

set_option linter.unusedVariables false

namespace Sys2Proof.Machine

theorem State.addCmd_kept {s0 x0 : State} {x1 : Cmd} (h0 : Kept s0 x0) :
    Kept s0 (@State.addCmd x0 x1) := by
  unfold State.addCmd
  extract_lets +onlyGivenNames v1
  clear_value v1
  extract_lets +onlyGivenNames v2
  clear_value v2
  apply State.put_kept
  refine Kept.same (s := x0) ?_ rfl Sub.rfl' Sub.rfl' Sub.rfl' Sub.rfl' Sub.rfl'
  with_reducible assumption

theorem State.clearQueue_kept {s0 x0 : State} {x1 : Nat} (h0 : Kept s0 x0) :
    Kept s0 (@State.clearQueue x0 x1) := by
  unfold State.clearQueue
  extract_lets +onlyGivenNames v1
  have h1 : Kept s0 v1 := by
    unfold v1
    refine Kept.same (s := x0) ?_ rfl Sub.rfl' Sub.filter Sub.rfl' Sub.rfl' Sub.rfl'
    with_reducible assumption
  clear_value v1
  extract_lets +onlyGivenNames v2
  clear_value v2
  apply forEach_kept
  · with_reducible assumption
  · intro k3 k4 k5
    apply State.put_kept
    with_reducible assumption

theorem State.disableQueue_kept {s0 x0 : State} {x1 : Agent} {x2 : Nat} (h0 : Kept s0 x0) :
    Kept s0 (@State.disableQueue x0 x1 x2) := by
  unfold State.disableQueue
  apply State.guardWrite_kept
  · with_reducible assumption
  · intro k1 k2
    extract_lets +onlyGivenNames v3
    clear_value v3
    split
    · apply State.disablePoint_kept
      with_reducible assumption
    · with_reducible assumption

theorem State.dropIdleReads_kept {s0 x0 : State} (h0 : Kept s0 x0) :
    Kept s0 (@State.dropIdleReads x0) := by
  unfold State.dropIdleReads
  extract_lets +onlyGivenNames v1
  clear_value v1
  refine Kept.same (s := x0) ?_ rfl Sub.rfl' Sub.rfl' Sub.rfl' Sub.rfl' Sub.rfl'
  with_reducible assumption

theorem State.enableQueue_kept {s0 x0 : State} {x1 : Agent} {x2 : Nat} (h0 : Kept s0 x0) :
    Kept s0 (@State.enableQueue x0 x1 x2) := by
  unfold State.enableQueue
  apply State.guardWrite_kept
  · with_reducible assumption
  · intro k1 k2
    split
    · with_reducible assumption
    · split
      · apply State.put_kept
        with_reducible assumption
      · apply State.put_kept
        apply State.put_kept
        apply State.clearQueue_kept
        with_reducible assumption

theorem State.releaseLoading_kept {s0 x0 : State} {x1 : Nat} (h0 : Kept s0 x0) :
    Kept s0 (@State.releaseLoading x0 x1) := by
  unfold State.releaseLoading
  apply forEach_kept
  · with_reducible assumption
  · intro k1 k2 k3
    apply State.releasePin_kept
    with_reducible assumption

theorem State.startPin_kept {s0 x0 : State} {x1 : Cmd} (h0 : Kept s0 x0) :
    Kept s0 (@State.startPin x0 x1) := by
  unfold State.startPin
  extract_lets +onlyGivenNames v1
  split
  · exact State.finish_kept h0
  split
  · exact State.finish_kept h0
  · rename_i t e
    have k : Kept s0 t := KeptO.out e (State.lockLines_kept h0)
    exact State.setCmd_kept (Kept.same k rfl Sub.rfl' Sub.rfl' Sub.rfl' Sub.rfl' Sub.rfl')

theorem State.takeSlot_kept {s0 x0 : State} {x1 : Nat} (h0 : Kept s0 x0) :
    Kept s0 (@State.takeSlot x0 x1) := by
  unfold State.takeSlot
  extract_lets +onlyGivenNames v1
  clear_value v1
  extract_lets +onlyGivenNames v2
  have h2 : Kept s0 v2 := by
    unfold v2
    refine Kept.same (s := x0) ?_ rfl Sub.rfl' Sub.filter Sub.rfl' Sub.rfl' Sub.rfl'
    with_reducible assumption
  clear_value v2
  extract_lets +onlyGivenNames v3
  clear_value v3
  extract_lets +onlyGivenNames v4
  have h4 : Kept s0 v4 := by
    unfold v4
    apply State.put_kept
    apply State.put_kept
    with_reducible assumption
  clear_value v4
  extract_lets +onlyGivenNames v5
  clear_value v5
  split
  · apply State.sendFn_kept
    apply State.put_kept
    with_reducible assumption
  · apply State.put_kept
    with_reducible assumption

theorem State.takeCont_kept {s0 x0 : State} {x1 : Nat} {x2 : Cmd} {x3 : List Byte} (h0 : Kept s0 x0) :
    Kept s0 (@State.takeCont x0 x1 x2 x3) := by
  unfold State.takeCont
  split
  · apply State.queueError_kept
    with_reducible assumption
  · extract_lets +onlyGivenNames v1
    clear_value v1
    extract_lets +onlyGivenNames v2
    clear_value v2
    extract_lets +onlyGivenNames v3
    have h3 : Kept s0 v3 := by
      unfold v3
      apply State.takeSlot_kept
      apply State.setCmd_kept
      with_reducible assumption
    clear_value v3
    split
    · apply State.endMuted_kept
      with_reducible assumption
    · with_reducible assumption

theorem State.takeIn_kept {s0 x0 : State} {x1 : Nat} (h0 : Kept s0 x0) :
    Kept s0 (@State.takeIn x0 x1) := by
  unfold State.takeIn
  extract_lets +onlyGivenNames v1
  clear_value v1
  extract_lets +onlyGivenNames v2
  clear_value v2
  extract_lets +onlyGivenNames v3
  clear_value v3
  extract_lets +onlyGivenNames v4
  have h4 : Kept s0 v4 := by
    unfold v4
    apply State.put_kept
    with_reducible assumption
  clear_value v4
  split
  · apply State.queueError_kept
    with_reducible assumption
  · split
    · apply State.takeCont_kept
      with_reducible assumption
    · split
      · apply State.bump_kept
        apply State.postEvent_kept
        apply State.put_kept
        apply State.takeSlot_kept
        with_reducible assumption
      · extract_lets +onlyGivenNames v5
        clear_value v5
        extract_lets +onlyGivenNames v6
        clear_value v6
        extract_lets +onlyGivenNames v7
        clear_value v7
        extract_lets +onlyGivenNames v8
        have h8 : Kept s0 v8 := by
          unfold v8
          apply State.wake_kept
          apply State.putFlag_kept
          apply State.takeSlot_kept
          apply State.addCmd_kept
          with_reducible assumption
        clear_value v8
        extract_lets +onlyGivenNames v9
        have h9 : Kept s0 v9 := by
          unfold v9
          apply State.putOutstanding_kept
          with_reducible assumption
        clear_value v9
        split
        · with_reducible assumption
        · apply State.finish_kept
          with_reducible assumption

theorem State.takeAll_kept {s0 x0 : State} {x1 x2 : Nat} (h0 : Kept s0 x0) :
    Kept s0 (@State.takeAll x0 x1 x2) := by
  induction x2 generalizing x0 with
  | zero => exact h0
  | succ n ih =>
    unfold State.takeAll
    split
    · exact ih (State.takeIn_kept h0)
    · exact h0

theorem State.tryFence_kept {s0 x0 : State} {x1 : Cmd} (h0 : Kept s0 x0) :
    Kept s0 (@State.tryFence x0 x1) := by
  unfold State.tryFence
  split
  · apply State.finish_kept
    with_reducible assumption
  · with_reducible assumption

theorem State.withdraw_kept {s0 x0 : State} {x1 : Cmd} {x2 : Result} (h0 : Kept s0 x0) :
    Kept s0 (@State.withdraw x0 x1 x2) := by
  unfold State.withdraw
  extract_lets +onlyGivenNames v1
  have h1 : Kept s0 v1 := by
    unfold v1
    refine Kept.same (s := x0) ?_ rfl Sub.rfl' Sub.rfl' Sub.rfl' Sub.rfl' Sub.rfl'
    with_reducible assumption
  clear_value v1
  extract_lets +onlyGivenNames v2
  have h2 : Kept s0 v2 := by
    unfold v2
    split
    · apply State.releaseAlloc_kept
      with_reducible assumption
    · with_reducible assumption
  clear_value v2
  extract_lets +onlyGivenNames v3
  have h3 : Kept s0 v3 := by
    unfold v3
    apply State.releaseLoading_kept
    with_reducible assumption
  clear_value v3
  apply State.dropIdleReads_kept
  apply State.finish_kept
  apply State.dropGrants_kept
  with_reducible assumption

theorem State.writeFevtCfg_kept {s0 x0 : State} {x1 : Agent} {x2 x3 : Nat} (h0 : Kept s0 x0) :
    Kept s0 (@State.writeFevtCfg x0 x1 x2 x3) := by
  unfold State.writeFevtCfg
  apply State.guardWrite_kept
  · with_reducible assumption
  · intro k1 k2
    split
    · with_reducible assumption
    · extract_lets +onlyGivenNames v3
      clear_value v3
      extract_lets +onlyGivenNames v4
      have h4 : Kept s0 v4 := by
        unfold v4
        split
        · with_reducible assumption
        · apply State.put_kept
          with_reducible assumption
      clear_value v4
      extract_lets +onlyGivenNames v5
      have h5 : Kept s0 v5 := by
        unfold v5
        apply State.put_kept
        apply State.putFlag_kept
        apply State.putFlag_kept
        with_reducible assumption
      clear_value v5
      split
      · apply State.put_kept
        apply State.put_kept
        with_reducible assumption
      · with_reducible assumption

theorem State.writeFgold_kept {s0 x0 : State} {x1 : Agent} {x2 x3 : Nat} (h0 : Kept s0 x0) :
    Kept s0 (@State.writeFgold x0 x1 x2 x3) := by
  unfold State.writeFgold
  apply State.guardWrite_kept
  · with_reducible assumption
  · intro k1 k2
    split
    · with_reducible assumption
    · extract_lets +onlyGivenNames v3
      clear_value v3
      extract_lets +onlyGivenNames v4
      clear_value v4
      split
      · apply State.putFlag_kept
        with_reducible assumption
      · apply State.put_kept
        apply State.put_kept
        apply State.put_kept
        with_reducible assumption

theorem execAbort_kept {s0 : State} {x0 : Nat} {x1 : State} (h0 : Kept s0 x1) :
    KeptN s0 (@execAbort x0 x1) := by
  unfold execAbort
  split
  · apply KeptN.next
    with_reducible assumption
  · split
    · apply KeptN.next
      apply State.finish_kept
      with_reducible assumption
    · split
      · apply KeptN.next
        apply State.finish_kept
        with_reducible assumption
      · split
        · apply KeptN.next
          apply State.finish_kept
          with_reducible assumption
        · split
          · apply KeptN.next
            apply State.finish_kept
            apply State.bump_kept
            apply State.withdraw_kept
            with_reducible assumption
          · apply KeptN.next
            apply State.finish_kept
            apply State.bump_kept
            with_reducible assumption

/-- Writing bytes into the data window keeps the canonical form. -/
theorem winPut_wf {g : List Grant} {fn k : Nat} {bs : List Byte} {l : List (Nat × Option Byte)}
    (h : Sparse.wf Sparse.below (fun _ => none) l = true) : Sparse.wf Sparse.below (fun _ => none) (winPut g fn k bs l) = true := by
  induction bs generalizing k l with
  | nil => exact h
  | cons b bs ih =>
    refine ih ?_
    split
    · exact Sparse.wf_set Sparse.below_order _ _ h
    · exact h

theorem execDataWindowWrite_kept {s0 : State} {x0 x1 : Nat} {x2 : List Byte} {x3 : Bool} {x4 : State} (h0 : Kept s0 x4) :
    KeptN s0 (@execDataWindowWrite x0 x1 x2 x3 x4) := by
  unfold execDataWindowWrite
  split
  · exact KeptN.next h0
  split
  · exact KeptN.next (State.reportAer_kept h0)
  have k : ∀ (u : State) q o l, Kept s0 u → Kept s0 ({ u with dataWin := winPut u.grants q o l u.dataWin } : State) := fun u q o l h0 =>
    Kept.stores h0 rfl rfl fun k => by
      simp only [State.storesWf, Bool.and_eq_true] at k ⊢
      exact ⟨⟨⟨k.1.1.1, winPut_wf k.1.1.2⟩, k.1.2⟩, k.2⟩
  exact KeptN.next (forEach_kept (k _ _ _ _ (State.takeAll_kept h0)) fun _ _ h => State.completeGrant_kept h)

theorem execEventHeadWrite_kept {s0 : State} {x0 x1 : Nat} {x2 : State} (h0 : Kept s0 x2) :
    KeptN s0 (@execEventHeadWrite x0 x1 x2) := by
  unfold execEventHeadWrite
  split
  · apply KeptN.next
    with_reducible assumption
  · extract_lets +onlyGivenNames v1
    clear_value v1
    split
    · apply KeptN.next
      apply State.putFlag_kept
      with_reducible assumption
    · apply KeptN.next
      apply State.put_kept
      with_reducible assumption

theorem execEventRingEnable_kept {s0 : State} {x0 : Agent} {x1 x2 : Nat} {x3 : State} (h0 : Kept s0 x3) :
    KeptN s0 (@execEventRingEnable x0 x1 x2 x3) := by
  unfold execEventRingEnable
  apply KeptN.next
  apply State.atUnit_kept
  · with_reducible assumption
  · intro k1 k2
    apply State.writeFevtCfg_kept
    with_reducible assumption

theorem execFence_kept {s0 : State} {x0 : Nat} {x1 : State} (h0 : Kept s0 x1) :
    KeptN s0 (@execFence x0 x1) := by
  unfold execFence
  split
  · apply KeptN.next
    with_reducible assumption
  · split
    · apply KeptN.next
      apply State.finish_kept
      with_reducible assumption
    · split
      · apply KeptN.next
        apply State.finish_kept
        with_reducible assumption
      · extract_lets +onlyGivenNames v1
        clear_value v1
        apply KeptN.next
        apply State.tryFence_kept
        apply State.setCmd_kept
        with_reducible assumption

theorem execFenceComplete_kept {s0 : State} {x0 : Nat} {x1 : State} (h0 : Kept s0 x1) :
    KeptN s0 (@execFenceComplete x0 x1) := by
  unfold execFenceComplete
  split
  · apply KeptN.next
    split
    · apply State.tryFence_kept
      with_reducible assumption
    · with_reducible assumption
  · apply KeptN.next
    with_reducible assumption

theorem execFlushBlock_kept {s0 : State} {x0 : Nat} {x1 : State} (h0 : Kept s0 x1) :
    KeptN s0 (@execFlushBlock x0 x1) := by
  unfold execFlushBlock
  split
  · apply KeptN.next
    with_reducible assumption
  · split
    · apply KeptN.next
      apply State.finish_kept
      with_reducible assumption
    · split
      · apply KeptN.next
        apply State.finish_kept
        with_reducible assumption
      · split
        · apply KeptN.next
          apply State.finish_kept
          with_reducible assumption
        · split
          · apply KeptN.next
            apply State.finish_kept
            with_reducible assumption
          · split
            · apply KeptN.next
              apply State.finish_kept
              with_reducible assumption
            · apply KeptN.next
              apply State.finish_kept
              apply State.setCmd_kept
              with_reducible assumption

theorem execJqFgoldWrite_kept {s0 : State} {x0 : Agent} {x1 x2 : Nat} {x3 : State} (h0 : Kept s0 x3) :
    KeptN s0 (@execJqFgoldWrite x0 x1 x2 x3) := by
  unfold execJqFgoldWrite
  apply KeptN.next
  apply State.atUnit_kept
  · with_reducible assumption
  · intro k1 k2
    apply State.writeFgold_kept
    with_reducible assumption

theorem execLateNotice_kept {s0 : State} {x0 : Nat} {x1 : State} (h0 : Kept s0 x1) :
    KeptN s0 (@execLateNotice x0 x1) := by
  unfold execLateNotice
  split
  · apply KeptN.next
    with_reducible assumption
  · split
    · apply KeptN.next
      apply State.postEvent_kept
      apply State.setCmd_kept
      with_reducible assumption
    · apply KeptN.next
      with_reducible assumption

theorem execPacketIntake_kept {s0 : State} {x0 : Nat} {x1 : State} (h0 : Kept s0 x1) :
    KeptN s0 (@execPacketIntake x0 x1) := by
  unfold execPacketIntake
  split
  · apply KeptN.next
    apply State.takeIn_kept
    with_reducible assumption
  · apply KeptN.next
    with_reducible assumption

theorem execPin_kept {s0 : State} {x0 : Nat} {x1 : State} (h0 : Kept s0 x1) :
    KeptN s0 (@execPin x0 x1) := by
  unfold execPin
  split
  · apply KeptN.next
    with_reducible assumption
  · split
    · apply KeptN.next
      apply State.finish_kept
      with_reducible assumption
    · split
      · apply KeptN.next
        apply State.finish_kept
        with_reducible assumption
      · split
        · apply KeptN.next
          apply State.finish_kept
          with_reducible assumption
        · extract_lets +onlyGivenNames v1
          clear_value v1
          split
          · extract_lets +onlyGivenNames v2
            clear_value v2
            split
            · apply KeptN.next
              apply State.arm_kept
              apply State.setCmd_kept
              with_reducible assumption
            · apply KeptN.next
              apply State.finish_kept
              with_reducible assumption
          · apply KeptN.next
            apply State.startPin_kept
            apply State.setCmd_kept
            with_reducible assumption

theorem execPinPreloadComplete_kept {s0 : State} {x0 : Nat} {x1 : State} (h0 : Kept s0 x1) :
    KeptN s0 (@execPinPreloadComplete x0 x1) := by
  unfold execPinPreloadComplete
  split
  · split
    · split
      · apply KeptN.next
        with_reducible assumption
      · split
        · apply KeptN.next
          apply State.endMuted_kept
          apply State.releasePin_kept
          with_reducible assumption
        · split
          · apply KeptN.next
            apply State.finish_kept
            apply State.releasePin_kept
            with_reducible assumption
          · apply KeptN.next
            apply State.finish_kept
            with_reducible assumption
    · apply KeptN.next
      with_reducible assumption
  · apply KeptN.next
    with_reducible assumption

/-- Writing bytes into packet slots keeps the canonical form. -/
theorem slotPut_wf {q k : Nat} {bs : List Byte} {l : List (Nat × Option Byte)} (h : Sparse.wf Sparse.below (fun _ => none) l = true) :
    Sparse.wf Sparse.below (fun _ => none) (slotPut q k bs l) = true := by
  induction bs generalizing k l with
  | nil => exact h
  | cons b bs ih => exact ih (Sparse.wf_set Sparse.below_order _ _ h)

theorem execPushWindowWrite_kept {s0 : State} {x0 x1 : Nat} {x2 : List Byte} {x3 : Bool} {x4 : State} (h0 : Kept s0 x4) :
    KeptN s0 (@execPushWindowWrite x0 x1 x2 x3 x4) := by
  unfold execPushWindowWrite
  split
  · exact KeptN.next h0
  split
  · exact KeptN.next (State.reportAer_kept h0)
  split
  · exact KeptN.next (State.undefinedBar_kept h0)
  split
  · exact KeptN.next (State.undefinedBar_kept h0)
  extract_lets touched
  split
  · exact KeptN.next (State.queueError_kept h0)
  have k : ∀ q o l, Kept s0 ({ x4 with slots := slotPut q o l x4.slots } : State) := fun q o l => Kept.stores h0 rfl rfl fun k => by
    simp only [State.storesWf, Bool.and_eq_true] at k ⊢
    exact ⟨⟨⟨slotPut_wf k.1.1.1, k.1.1.2⟩, k.1.2⟩, k.2⟩
  refine KeptN.next ?_
  split
  · exact State.wake_kept (k _ _ _)
  · exact k _ _ _

theorem execQueueDisable_kept {s0 : State} {x0 : Agent} {x1 : Nat} {x2 : State} (h0 : Kept s0 x2) :
    KeptN s0 (@execQueueDisable x0 x1 x2) := by
  unfold execQueueDisable
  apply KeptN.next
  apply State.atUnit_kept
  · with_reducible assumption
  · intro k1 k2
    apply State.noteDemand_kept
    · apply State.disableQueue_kept
      with_reducible assumption
    · with_reducible assumption

theorem execQueueEnable_kept {s0 : State} {x0 : Agent} {x1 : Nat} {x2 : State} (h0 : Kept s0 x2) :
    KeptN s0 (@execQueueEnable x0 x1 x2) := by
  unfold execQueueEnable
  apply KeptN.next
  apply State.atUnit_kept
  · with_reducible assumption
  · intro k1 k2
    apply State.noteDemand_kept
    · apply State.enableQueue_kept
      with_reducible assumption
    · with_reducible assumption

theorem execReplyHeadWrite_kept {s0 : State} {x0 x1 : Nat} {x2 : State} (h0 : Kept s0 x2) :
    KeptN s0 (@execReplyHeadWrite x0 x1 x2) := by
  unfold execReplyHeadWrite
  split
  · apply KeptN.next
    apply State.undefinedBar_kept
    with_reducible assumption
  · extract_lets +onlyGivenNames v1
    clear_value v1
    split
    · apply KeptN.next
      apply State.queueError_kept
      with_reducible assumption
    · apply KeptN.next
      apply State.put_kept
      refine Kept.same (s := x2) ?_ rfl Sub.rfl' Sub.rfl' Sub.rfl' Sub.rfl' Sub.rfl'
      with_reducible assumption

theorem execReserveChanged_kept {s0 : State} {x0 : Nat} {x1 : State} (h0 : Kept s0 x1) :
    KeptN s0 (@execReserveChanged x0 x1) := by
  unfold execReserveChanged
  split
  · apply KeptN.next
    apply State.postEvent_kept
    apply State.put_kept
    with_reducible assumption
  · apply KeptN.next
    with_reducible assumption

theorem execTime_kept {s0 : State} {x0 : Nat} {x1 : State} (h0 : Kept s0 x1) :
    KeptN s0 (@execTime x0 x1) := by
  unfold execTime
  split
  · apply KeptN.next
    with_reducible assumption
  · split
    · apply KeptN.next
      apply State.finish_kept
      with_reducible assumption
    · split
      · apply KeptN.next
        apply State.finish_kept
        with_reducible assumption
      · extract_lets +onlyGivenNames v1
        clear_value v1
        split
        · apply KeptN.next
          apply State.askXlat_kept
          with_reducible assumption
        · apply KeptN.next
          apply State.finish_kept
          apply State.sendDma_kept
          with_reducible assumption

theorem execUnpin_kept {s0 : State} {x0 : Nat} {x1 : State} (h0 : Kept s0 x1) :
    KeptN s0 (@execUnpin x0 x1) := by
  unfold execUnpin
  split
  · apply KeptN.next
    with_reducible assumption
  · split
    · apply KeptN.next
      apply State.finish_kept
      with_reducible assumption
    · split
      · apply KeptN.next
        apply State.finish_kept
        with_reducible assumption
      · split
        · extract_lets +onlyGivenNames v1
          clear_value v1
          apply KeptN.next
          apply State.endUnpins_kept
          apply State.setCmd_kept
          apply State.releasePin_kept
          with_reducible assumption
        · apply KeptN.next
          apply State.finish_kept
          with_reducible assumption

theorem execXrHeadWrite_kept {s0 : State} {x0 x1 : Nat} {x2 : State} (h0 : Kept s0 x2) :
    KeptN s0 (@execXrHeadWrite x0 x1 x2) := by
  unfold execXrHeadWrite
  split
  · apply KeptN.next
    apply State.undefinedBar_kept
    with_reducible assumption
  · extract_lets +onlyGivenNames v1
    clear_value v1
    split
    · apply KeptN.next
      apply State.queueError_kept
      with_reducible assumption
    · apply KeptN.next
      apply State.put_kept
      with_reducible assumption

end Sys2Proof.Machine
end

