-- ==== Sys2Proof/Laws/KeptNvme.lean ====
section
/-! SUPPORT. What the operations of Machine/Nvme.lean keep (`Kept`): one lemma each. -/

set_option linter.unusedVariables false

namespace Sys2Proof.Machine

theorem State.answerPm_kept {s0 x0 : State} (h0 : Kept s0 x0) :
    Kept s0 (@State.answerPm x0) := by
  unfold State.answerPm
  apply forEach_kept
  · with_reducible assumption
  · intro k1 k2 k3
    apply State.finish_kept
    with_reducible assumption

theorem State.consumePkg_kept {s0 x0 : State} {x1 : Cmd} (h0 : Kept s0 x0) :
    Kept s0 (@State.consumePkg x0 x1) := by
  unfold State.consumePkg
  split
  · refine Kept.same (s := x0) ?_ rfl Sub.rfl' Sub.rfl' Sub.rfl' Sub.rfl' Sub.rfl'
    with_reducible assumption
  · with_reducible assumption

theorem State.doorbellError_kept {s0 x0 : State} {x1 x2 : Nat} (h0 : Kept s0 x0) :
    Kept s0 (@State.doorbellError x0 x1 x2) := by
  unfold State.doorbellError
  apply State.asyncEvent_kept
  with_reducible assumption

theorem State.onAdmin_kept {s0 x0 : State} {x1 x2 : Nat} {x3 : Cmd → State} (h0 : Kept s0 x0) (h1 : ∀ y0, Kept s0 (x3 y0)) :
    Kept s0 (@State.onAdmin x0 x1 x2 x3) := by
  unfold State.onAdmin
  split
  · apply h1
  · with_reducible assumption

theorem State.onIo_kept {s0 x0 : State} {x1 x2 : Nat} {x3 : Cmd → State} (h0 : Kept s0 x0) (h1 : ∀ y0, Kept s0 (x3 y0)) :
    Kept s0 (@State.onIo x0 x1 x2 x3) := by
  unfold State.onIo
  split
  · apply h1
  · with_reducible assumption

theorem State.onSet_kept {s0 x0 : State} {x1 : Nat} {x2 : List Nat} {x3 : Cmd → State} (h0 : Kept s0 x0) (h1 : ∀ y0, Kept s0 (x3 y0)) :
    Kept s0 (@State.onSet x0 x1 x2 x3) := by
  unfold State.onSet
  apply State.onAdmin_kept
  · with_reducible assumption
  · intro k1
    split
    · apply h1
    · with_reducible assumption

theorem State.returnPs_kept {s0 x0 : State} {x1 : Nat} (h0 : Kept s0 x0) :
    Kept s0 (@State.returnPs x0 x1) := by
  unfold State.returnPs
  split
  · apply State.put_kept
    with_reducible assumption
  · with_reducible assumption

theorem State.sendData_kept {s0 x0 : State} {x1 : Cmd} {x2 : Nat} {x3 : List Byte} (h0 : Kept s0 x0) :
    Kept s0 (@State.sendData x0 x1 x2 x3) := by
  unfold State.sendData
  split
  · with_reducible assumption
  · apply State.sendPtr_kept
    with_reducible assumption

theorem execAsyncEventRequest_kept {s0 : State} {x0 : Nat} {x1 : State} (h0 : Kept s0 x1) :
    KeptN s0 (@execAsyncEventRequest x0 x1) := by
  unfold execAsyncEventRequest
  apply KeptN.next
  apply State.onAdmin_kept
  · with_reducible assumption
  · intro k1
    split
    · apply State.finish_kept
      refine Kept.same (s := x1) ?_ rfl Sub.rfl' Sub.rfl' Sub.rfl' Sub.rfl' Sub.rfl'
      with_reducible assumption
    · split
      · apply State.finish_kept
        with_reducible assumption
      · apply State.setCmd_kept
        with_reducible assumption

theorem execCcEnClear_kept {s0 : State} {x0 : Nat} {x1 : State} (h0 : Kept s0 x1) :
    KeptN s0 (@execCcEnClear x0 x1) := by
  unfold execCcEnClear
  split
  · apply KeptN.next
    with_reducible assumption
  · apply KeptN.next
    apply State.noteDemand_kept
    · apply State.disablePoint_kept
      apply State.put_kept
      with_reducible assumption
    · with_reducible assumption

theorem execCcEnSet_kept {s0 : State} {x0 x1 x2 x3 x4 : Nat} {x5 : State} (h0 : Kept s0 x5) :
    KeptN s0 (@execCcEnSet x0 x1 x2 x3 x4 x5) := by
  unfold execCcEnSet
  split
  · apply KeptN.next
    with_reducible assumption
  · extract_lets +onlyGivenNames v1
    have h1 : Kept s0 v1 := by
      unfold v1
      apply State.put_kept
      apply State.put_kept
      apply State.put_kept
      apply State.put_kept
      with_reducible assumption
    clear_value v1
    extract_lets +onlyGivenNames v2
    have h2 : Kept s0 v2 := by
      unfold v2
      refine Kept.same (s := v1) ?_ rfl Sub.rfl' Sub.rfl' Sub.rfl' Sub.rfl' Sub.rfl'
      with_reducible assumption
    clear_value v2
    extract_lets +onlyGivenNames v3
    have h3 : Kept s0 v3 := by
      unfold v3
      split
      · apply State.putFlag_kept
        with_reducible assumption
      · with_reducible assumption
    clear_value v3
    apply KeptN.next
    apply State.noteDemand_kept
    · with_reducible assumption
    · with_reducible assumption

theorem execCommandFetch_kept {s0 : State} {x0 x1 : Nat} {x2 : List Byte} {x3 : State} (h0 : Kept s0 x3) :
    KeptN s0 (@execCommandFetch x0 x1 x2 x3) := by
  unfold execCommandFetch
  split
  · apply KeptN.next
    with_reducible assumption
  · split
    · apply KeptN.next
      with_reducible assumption
    · extract_lets +onlyGivenNames v1
      clear_value v1
      extract_lets +onlyGivenNames v2
      clear_value v2
      extract_lets +onlyGivenNames v3
      have h3 : Kept s0 v3 := by
        unfold v3
        with_reducible assumption
      clear_value v3
      extract_lets +onlyGivenNames v4
      have h4 : Kept s0 v4 := by
        unfold v4
        apply State.addCmd_kept
        apply State.setSq_kept
        with_reducible assumption
      clear_value v4
      extract_lets +onlyGivenNames v5
      have h5 : Kept s0 v5 := by
        unfold v5
        split
        · apply State.putFlag_kept
          with_reducible assumption
        · with_reducible assumption
      clear_value v5
      extract_lets +onlyGivenNames v6
      have h6 : Kept s0 v6 := by
        unfold v6
        apply State.noteDemand_kept
        · apply State.returnPs_kept
          apply State.wake_kept
          with_reducible assumption
        · with_reducible assumption
      clear_value v6
      split
      · apply KeptN.next
        apply State.finish_kept
        apply State.consumePkg_kept
        with_reducible assumption
      · apply KeptN.next
        with_reducible assumption

theorem execCqHeadDoorbell_kept {s0 : State} {x0 x1 x2 : Nat} {x3 : State} (h0 : Kept s0 x3) :
    KeptN s0 (@execCqHeadDoorbell x0 x1 x2 x3) := by
  unfold execCqHeadDoorbell
  split
  · apply KeptN.next
    with_reducible assumption
  · split
    · apply KeptN.next
      apply State.doorbellError_kept
      with_reducible assumption
    · split
      · apply KeptN.next
        apply State.drainCq_kept
        apply State.setCq_kept
        with_reducible assumption
      · apply KeptN.next
        apply State.doorbellError_kept
        with_reducible assumption

theorem execCreateIoCq_kept {s0 : State} {x0 : Nat} {x1 : State} (h0 : Kept s0 x1) :
    KeptN s0 (@execCreateIoCq x0 x1) := by
  unfold execCreateIoCq
  apply KeptN.next
  apply State.onAdmin_kept
  · with_reducible assumption
  · intro k1
    extract_lets +onlyGivenNames v2
    clear_value v2
    split
    · apply State.finish_kept
      with_reducible assumption
    · extract_lets +onlyGivenNames v3
      clear_value v3
      split
      · apply State.finish_kept
        with_reducible assumption
      · extract_lets +onlyGivenNames v4
        clear_value v4
        apply State.finish_kept
        refine Kept.same (s := x1) ?_ rfl Sub.rfl' Sub.rfl' Sub.rfl' Sub.rfl' Sub.rfl'
        with_reducible assumption

theorem execCreateIoSq_kept {s0 : State} {x0 : Nat} {x1 : State} (h0 : Kept s0 x1) :
    KeptN s0 (@execCreateIoSq x0 x1) := by
  unfold execCreateIoSq
  apply KeptN.next
  apply State.onAdmin_kept
  · with_reducible assumption
  · intro k1
    extract_lets +onlyGivenNames v2
    clear_value v2
    split
    · apply State.finish_kept
      with_reducible assumption
    · extract_lets +onlyGivenNames v3
      clear_value v3
      split
      · apply State.finish_kept
        with_reducible assumption
      · split
        · apply State.finish_kept
          with_reducible assumption
        · extract_lets +onlyGivenNames v4
          clear_value v4
          extract_lets +onlyGivenNames v5
          clear_value v5
          apply State.finish_kept
          refine Kept.same (s := x1) ?_ rfl Sub.rfl' Sub.rfl' Sub.rfl' Sub.rfl' Sub.rfl'
          with_reducible assumption

theorem execDeleteIoCq_kept {s0 : State} {x0 : Nat} {x1 : State} (h0 : Kept s0 x1) :
    KeptN s0 (@execDeleteIoCq x0 x1) := by
  unfold execDeleteIoCq
  apply KeptN.next
  apply State.onAdmin_kept
  · with_reducible assumption
  · intro k1
    extract_lets +onlyGivenNames v2
    clear_value v2
    split
    · apply State.finish_kept
      with_reducible assumption
    · split
      · apply State.finish_kept
        with_reducible assumption
      · apply State.finish_kept
        refine Kept.same (s := x1) ?_ rfl Sub.rfl' Sub.rfl' Sub.rfl' Sub.rfl' Sub.rfl'
        with_reducible assumption

theorem execDeleteIoSq_kept {s0 : State} {x0 : Nat} {x1 : State} (h0 : Kept s0 x1) :
    KeptN s0 (@execDeleteIoSq x0 x1) := by
  unfold execDeleteIoSq
  apply KeptN.next
  apply State.onAdmin_kept
  · with_reducible assumption
  · intro k1
    extract_lets +onlyGivenNames v2
    clear_value v2
    split
    · apply State.finish_kept
      with_reducible assumption
    · split
      · apply State.finish_kept
        with_reducible assumption
      · apply State.disablePoint_kept
        apply State.setCmd_kept
        with_reducible assumption

theorem execGetFeatures_kept {s0 : State} {x0 : Nat} {x1 : State} (h0 : Kept s0 x1) :
    KeptN s0 (@execGetFeatures x0 x1) := by
  unfold execGetFeatures
  apply KeptN.next
  apply State.onAdmin_kept
  · with_reducible assumption
  · intro k1
    extract_lets +onlyGivenNames v2
    clear_value v2
    split
    · with_reducible assumption
    · split
      · apply State.finish_kept
        with_reducible assumption
      · apply State.finish_kept
        with_reducible assumption

theorem execGetFeaturesQueueAttributes_kept {s0 : State} {x0 : Nat} {x1 : State} (h0 : Kept s0 x1) :
    KeptN s0 (@execGetFeaturesQueueAttributes x0 x1) := by
  unfold execGetFeaturesQueueAttributes
  apply KeptN.next
  apply State.onAdmin_kept
  · with_reducible assumption
  · intro k1
    split
    · with_reducible assumption
    · split
      · apply State.finish_kept
        with_reducible assumption
      · apply State.finish_kept
        with_reducible assumption

theorem execGetFeaturesTimestamp_kept {s0 : State} {x0 : Nat} {x1 : State} (h0 : Kept s0 x1) :
    KeptN s0 (@execGetFeaturesTimestamp x0 x1) := by
  unfold execGetFeaturesTimestamp
  apply KeptN.next
  apply State.onAdmin_kept
  · with_reducible assumption
  · intro k1
    split
    · apply State.finish_kept
      apply State.sendData_kept
      with_reducible assumption
    · with_reducible assumption

theorem execNvmeAbort_kept {s0 : State} {x0 : Nat} {x1 : State} (h0 : Kept s0 x1) :
    KeptN s0 (@execNvmeAbort x0 x1) := by
  unfold execNvmeAbort
  apply KeptN.next
  apply State.onAdmin_kept
  · with_reducible assumption
  · intro k1
    split
    · apply State.finish_kept
      with_reducible assumption
    · split
      · apply State.finish_kept
        with_reducible assumption
      · split
        · apply State.finish_kept
          apply State.withdraw_kept
          with_reducible assumption
        · apply State.finish_kept
          with_reducible assumption

theorem execSetFeaturesArbitration_kept {s0 : State} {x0 : Nat} {x1 : State} (h0 : Kept s0 x1) :
    KeptN s0 (@execSetFeaturesArbitration x0 x1) := by
  unfold execSetFeaturesArbitration
  apply KeptN.next
  apply State.onSet_kept
  · with_reducible assumption
  · intro k1
    extract_lets +onlyGivenNames v2
    clear_value v2
    apply State.finish_kept
    apply State.put_kept
    with_reducible assumption

theorem execSetFeaturesAsyncEventConfig_kept {s0 : State} {x0 : Nat} {x1 : State} (h0 : Kept s0 x1) :
    KeptN s0 (@execSetFeaturesAsyncEventConfig x0 x1) := by
  unfold execSetFeaturesAsyncEventConfig
  apply KeptN.next
  apply State.onSet_kept
  · with_reducible assumption
  · intro k1
    apply State.finish_kept
    apply State.put_kept
    with_reducible assumption

theorem execSetFeaturesErrorRecovery_kept {s0 : State} {x0 : Nat} {x1 : State} (h0 : Kept s0 x1) :
    KeptN s0 (@execSetFeaturesErrorRecovery x0 x1) := by
  unfold execSetFeaturesErrorRecovery
  apply KeptN.next
  apply State.onSet_kept
  · with_reducible assumption
  · intro k1
    split
    · apply State.finish_kept
      with_reducible assumption
    · apply State.finish_kept
      apply State.put_kept
      with_reducible assumption

theorem execSetFeaturesInterruptConfig_kept {s0 : State} {x0 : Nat} {x1 : State} (h0 : Kept s0 x1) :
    KeptN s0 (@execSetFeaturesInterruptConfig x0 x1) := by
  unfold execSetFeaturesInterruptConfig
  apply KeptN.next
  apply State.onSet_kept
  · with_reducible assumption
  · intro k1
    extract_lets +onlyGivenNames v2
    clear_value v2
    split
    · apply State.finish_kept
      apply State.put_kept
      with_reducible assumption
    · split
      · apply State.finish_kept
        with_reducible assumption
      · apply State.finish_kept
        apply State.putFlag_kept
        with_reducible assumption

theorem execSetFeaturesNumberOfQueues_kept {s0 : State} {x0 : Nat} {x1 : State} (h0 : Kept s0 x1) :
    KeptN s0 (@execSetFeaturesNumberOfQueues x0 x1) := by
  unfold execSetFeaturesNumberOfQueues
  apply KeptN.next
  apply State.onSet_kept
  · with_reducible assumption
  · intro k1
    extract_lets +onlyGivenNames v2
    clear_value v2
    extract_lets +onlyGivenNames v3
    clear_value v3
    extract_lets +onlyGivenNames v4
    clear_value v4
    split
    · apply State.finish_kept
      with_reducible assumption
    · split
      · apply State.finish_kept
        with_reducible assumption
      · split
        · apply State.finish_kept
          with_reducible assumption
        · extract_lets +onlyGivenNames v5
          clear_value v5
          extract_lets +onlyGivenNames v6
          clear_value v6
          apply State.finish_kept
          apply State.put_kept
          apply State.put_kept
          apply State.put_kept
          with_reducible assumption

theorem execSetFeaturesPowerManagement_kept {s0 : State} {x0 : Nat} {x1 : State} (h0 : Kept s0 x1) :
    KeptN s0 (@execSetFeaturesPowerManagement x0 x1) := by
  unfold execSetFeaturesPowerManagement
  apply KeptN.next
  apply State.onSet_kept
  · with_reducible assumption
  · intro k1
    extract_lets +onlyGivenNames v2
    clear_value v2
    split
    · apply State.finish_kept
      with_reducible assumption
    · extract_lets +onlyGivenNames v3
      have h3 : Kept s0 v3 := by
        unfold v3
        apply State.put_kept
        with_reducible assumption
      clear_value v3
      extract_lets +onlyGivenNames v4
      have h4 : Kept s0 v4 := by
        unfold v4
        split
        · apply State.put_kept
          with_reducible assumption
        · with_reducible assumption
      clear_value v4
      extract_lets +onlyGivenNames v5
      have h5 : Kept s0 v5 := by
        unfold v5
        apply State.noteDemand_kept
        · with_reducible assumption
        · with_reducible assumption
      clear_value v5
      split
      · apply State.setCmd_kept
        with_reducible assumption
      · apply State.finish_kept
        with_reducible assumption

theorem execSetFeaturesQueueAttributes_kept {s0 : State} {x0 : Nat} {x1 : State} (h0 : Kept s0 x1) :
    KeptN s0 (@execSetFeaturesQueueAttributes x0 x1) := by
  unfold execSetFeaturesQueueAttributes
  apply KeptN.next
  apply State.onSet_kept
  · with_reducible assumption
  · intro k1
    extract_lets +onlyGivenNames v2
    clear_value v2
    extract_lets +onlyGivenNames v3
    clear_value v3
    split
    · apply State.finish_kept
      with_reducible assumption
    · split
      · apply State.finish_kept
        with_reducible assumption
      · apply State.finish_kept
        apply State.put_kept
        with_reducible assumption

theorem execSetFeaturesTemperatureThreshold_kept {s0 : State} {x0 : Nat} {x1 : State} (h0 : Kept s0 x1) :
    KeptN s0 (@execSetFeaturesTemperatureThreshold x0 x1) := by
  unfold execSetFeaturesTemperatureThreshold
  apply KeptN.next
  apply State.onSet_kept
  · with_reducible assumption
  · intro k1
    extract_lets +onlyGivenNames v2
    clear_value v2
    extract_lets +onlyGivenNames v3
    clear_value v3
    extract_lets +onlyGivenNames v4
    clear_value v4
    split
    · apply State.finish_kept
      with_reducible assumption
    · extract_lets +onlyGivenNames v5
      clear_value v5
      apply State.finish_kept
      apply forEach_kept
      · with_reducible assumption
      · intro k6 k7 k8
        apply State.put_kept
        with_reducible assumption

theorem execSetFeaturesTimestamp_kept {s0 : State} {x0 : Nat} {x1 : State} (h0 : Kept s0 x1) :
    KeptN s0 (@execSetFeaturesTimestamp x0 x1) := by
  unfold execSetFeaturesTimestamp
  apply KeptN.next
  apply State.onSet_kept
  · with_reducible assumption
  · intro k1
    apply State.finish_kept
    with_reducible assumption

theorem execShutdownComplete_kept {s0 : State} {x0 : Nat} {x1 : State} (h0 : Kept s0 x1) :
    KeptN s0 (@execShutdownComplete x0 x1) := by
  unfold execShutdownComplete
  apply KeptN.next
  split
  · apply State.put_kept
    with_reducible assumption
  · with_reducible assumption

theorem execShutdownNotification_kept {s0 : State} {x0 : Nat} {x1 : Bool} {x2 : State} (h0 : Kept s0 x2) :
    KeptN s0 (@execShutdownNotification x0 x1 x2) := by
  unfold execShutdownNotification
  split
  · apply KeptN.next
    with_reducible assumption
  · extract_lets +onlyGivenNames v1
    clear_value v1
    extract_lets +onlyGivenNames v2
    clear_value v2
    apply KeptN.next
    apply State.put_kept
    apply State.put_kept
    with_reducible assumption

theorem execSqTailDoorbell_kept {s0 : State} {x0 x1 x2 : Nat} {x3 : State} (h0 : Kept s0 x3) :
    KeptN s0 (@execSqTailDoorbell x0 x1 x2 x3) := by
  unfold execSqTailDoorbell
  split
  · apply KeptN.next
    with_reducible assumption
  · split
    · apply KeptN.next
      apply State.doorbellError_kept
      with_reducible assumption
    · split
      · apply KeptN.next
        apply State.doorbellError_kept
        with_reducible assumption
      · extract_lets +onlyGivenNames v1
        have h1 : Kept s0 v1 := by
          unfold v1
          apply State.setSq_kept
          with_reducible assumption
        clear_value v1
        apply KeptN.next
        split
        · with_reducible assumption
        · apply State.wake_kept
          with_reducible assumption

end Sys2Proof.Machine
end

