-- ==== Sys2Proof/Laws/KeptNvmeIo.lean ====
section
/-! SUPPORT. What the operations of Machine/NvmeIo.lean keep (`Kept`): one lemma each. -/

set_option linter.unusedVariables false

namespace Sys2Proof.Machine

theorem State.applyRight_kept {s0 x0 : State} {x1 : Nat} (h0 : Kept s0 x0) :
    Kept s0 (@State.applyRight x0 x1) := by
  unfold State.applyRight
  extract_lets +onlyGivenNames v1
  clear_value v1
  split
  · apply State.put_kept
    with_reducible assumption
  · extract_lets +onlyGivenNames v2
    clear_value v2
    split
    · refine Kept.same (s := x0) ?_ rfl Sub.rfl' Sub.rfl' Sub.rfl' Sub.rfl' Sub.rfl'
      with_reducible assumption
    · refine Kept.same (s := x0) ?_ rfl Sub.rfl' Sub.rfl' Sub.rfl' Sub.rfl' Sub.rfl'
      with_reducible assumption

theorem State.endLoadingPins_kept {s0 x0 : State} {x1 : Nat} (h0 : Kept s0 x0) :
    Kept s0 (@State.endLoadingPins x0 x1) := by
  unfold State.endLoadingPins
  apply forEach_kept
  · with_reducible assumption
  · intro k1 k2 k3
    extract_lets +onlyGivenNames v4
    have h4 : Kept s0 v4 := by
      unfold v4
      apply State.releasePin_kept
      with_reducible assumption
    clear_value v4
    split
    · apply State.finish_kept
      with_reducible assumption
    · with_reducible assumption

theorem State.eraseVolume_kept {s0 x0 : State} {x1 : Nat} (h0 : Kept s0 x0) :
    Kept s0 (@State.eraseVolume x0 x1) := by
  unfold State.eraseVolume
  extract_lets +onlyGivenNames v1
  have h1 : Kept s0 v1 := by
    unfold v1
    refine Kept.same (s := x0) ?_ rfl Sub.rfl' Sub.rfl' Sub.rfl' Sub.rfl' Sub.rfl'
    with_reducible assumption
  clear_value v1
  extract_lets +onlyGivenNames v2
  clear_value v2
  apply forEach_kept
  · with_reducible assumption
  · intro k3 k4 k5
    split
    · apply State.setBand_kept
      apply State.closeBand_kept
      with_reducible assumption
    · with_reducible assumption

theorem State.journalSanitize_kept {s0 x0 : State} (h0 : Kept s0 x0) :
    Kept s0 (@State.journalSanitize x0) := by
  unfold State.journalSanitize
  apply State.journal_kept
  with_reducible assumption

theorem State.nvmeRead_kept {s0 x0 : State} {x1 : Cmd} (h0 : Kept s0 x0) :
    Kept s0 (@State.nvmeRead x0 x1) := by
  unfold State.nvmeRead
  extract_lets +onlyGivenNames v1
  clear_value v1
  extract_lets +onlyGivenNames v2
  clear_value v2
  extract_lets +onlyGivenNames v3
  clear_value v3
  split
  · apply State.finish_kept
    with_reducible assumption
  · split
    · apply State.finish_kept
      with_reducible assumption
    · apply State.admitRead_kept
      with_reducible assumption

theorem State.nvmeWrite_kept {s0 x0 : State} {x1 : Cmd} (h0 : Kept s0 x0) :
    Kept s0 (@State.nvmeWrite x0 x1) := by
  unfold State.nvmeWrite
  extract_lets +onlyGivenNames v1
  clear_value v1
  split
  · apply State.finish_kept
    with_reducible assumption
  · extract_lets +onlyGivenNames v2
    clear_value v2
    split
    · apply State.finish_kept
      with_reducible assumption
    · apply State.admitWrite_kept
      with_reducible assumption

theorem State.onSanitize_kept {s0 x0 : State} {x1 x2 : Nat} {x3 : Cmd → State} (h0 : Kept s0 x0) (h1 : ∀ y0, Kept s0 (x3 y0)) :
    Kept s0 (@State.onSanitize x0 x1 x2 x3) := by
  unfold State.onSanitize
  apply State.onAdmin_kept
  · with_reducible assumption
  · intro k1
    split
    · apply h1
    · with_reducible assumption

theorem State.readmit_kept {s0 x0 : State} {x1 : Cmd} (h0 : Kept s0 x0) :
    Kept s0 (@State.readmit x0 x1) := by
  unfold State.readmit
  extract_lets +onlyGivenNames v1
  clear_value v1
  split
  · apply State.nvmeWrite_kept
    apply State.setCmd_kept
    with_reducible assumption
  · apply State.jxWrite_kept
    apply State.setCmd_kept
    with_reducible assumption

theorem State.rekey_kept {s0 x0 : State} {x1 : Nat} (h0 : Kept s0 x0) :
    Kept s0 (@State.rekey x0 x1) := by
  unfold State.rekey
  extract_lets +onlyGivenNames v1
  have h1 : Kept s0 v1 := by
    unfold v1
    apply State.newKey_kept
    apply State.dropLicence_kept
    with_reducible assumption
  clear_value v1
  split
  · split
    · apply State.journalAttr_kept
      with_reducible assumption
    · with_reducible assumption
  · with_reducible assumption

theorem State.releaseWithEvents_kept {s0 x0 : State} {x1 : Pin → Bool} (h0 : Kept s0 x0) :
    Kept s0 (@State.releaseWithEvents x0 x1) := by
  unfold State.releaseWithEvents
  apply forEach_kept
  · with_reducible assumption
  · intro k1 k2 k3
    extract_lets +onlyGivenNames v4
    have h4 : Kept s0 v4 := by
      unfold v4
      apply State.releasePin_kept
      with_reducible assumption
    clear_value v4
    split
    · with_reducible assumption
    · apply State.postEvent_kept
      with_reducible assumption

theorem State.startSanitize_kept {s0 x0 : State} {x1 : Cmd} {x2 : Bool} (h0 : Kept s0 x0) :
    Kept s0 (@State.startSanitize x0 x1 x2) := by
  unfold State.startSanitize
  extract_lets +onlyGivenNames v1
  have h1 : Kept s0 v1 := by
    unfold v1
    apply State.put_kept
    apply State.put_kept
    apply State.put_kept
    with_reducible assumption
  clear_value v1
  extract_lets +onlyGivenNames v2
  have h2 : Kept s0 v2 := by
    unfold v2
    apply State.put_kept
    apply State.putFlag_kept
    apply State.putFlag_kept
    with_reducible assumption
  clear_value v2
  extract_lets +onlyGivenNames v3
  have h3 : Kept s0 v3 := by
    unfold v3
    apply State.journalSanitize_kept
    apply State.putFlag_kept
    with_reducible assumption
  clear_value v3
  extract_lets +onlyGivenNames v4
  have h4 : Kept s0 v4 := by
    unfold v4
    apply State.releaseWithEvents_kept
    with_reducible assumption
  clear_value v4
  extract_lets +onlyGivenNames v5
  have h5 : Kept s0 v5 := by
    unfold v5
    apply forEach_kept
    · with_reducible assumption
    · intro k6 k7 k8
      apply State.withdraw_kept
      with_reducible assumption
  clear_value v5
  extract_lets +onlyGivenNames v9
  have h9 : Kept s0 v9 := by
    unfold v9
    apply forEach_kept
    · with_reducible assumption
    · intro k10 k11 k12
      apply State.emptyNode_kept
      apply State.rekey_kept
      apply State.dropDict_kept
      with_reducible assumption
  clear_value v9
  extract_lets +onlyGivenNames v13
  have h13 : Kept s0 v13 := by
    unfold v13
    refine Kept.same (s := v9) ?_ rfl Sub.rfl' Sub.rfl' Sub.rfl' Sub.rfl' Sub.rfl'
    with_reducible assumption
  clear_value v13
  extract_lets +onlyGivenNames v14
  have h14 : Kept s0 v14 := by
    unfold v14
    apply State.put_kept
    apply forEach_kept
    · with_reducible assumption
    · intro k15 k16 k17
      apply State.releaseMembers_kept
      with_reducible assumption
  clear_value v14
  extract_lets +onlyGivenNames v18
  have h18 : Kept s0 v18 := by
    unfold v18
    refine Kept.same (s := v14) ?_ rfl Sub.filter Sub.rfl' Sub.rfl' Sub.rfl' Sub.rfl'
    with_reducible assumption
  clear_value v18
  extract_lets +onlyGivenNames v19
  have h19 : Kept s0 v19 := by
    unfold v19
    split
    · with_reducible assumption
    · apply State.ackAll_kept
      apply State.updateGc_kept
      with_reducible assumption
  clear_value v19
  apply State.finish_kept
  with_reducible assumption

theorem State.sanitize_kept {s0 x0 : State} {x1 : Cmd} {x2 : Bool} (h0 : Kept s0 x0) :
    Kept s0 (@State.sanitize x0 x1 x2) := by
  unfold State.sanitize
  extract_lets +onlyGivenNames v1
  clear_value v1
  split
  · apply State.finish_kept
    with_reducible assumption
  · split
    · apply State.finish_kept
      with_reducible assumption
    · split
      · apply State.finish_kept
        with_reducible assumption
      · split
        · apply State.finish_kept
          with_reducible assumption
        · apply State.startSanitize_kept
          with_reducible assumption

theorem State.withBatches_kept {s0 x0 : State} (h0 : Kept s0 x0) :
    Kept s0 (@State.withBatches x0) := by
  unfold State.withBatches
  apply Kept.foldl
  · with_reducible assumption
  · intro k1 k2 k3
    apply State.applyRight_kept
    with_reducible assumption

theorem execFormatComplete_kept {s0 : State} {x0 : Nat} {x1 : State} (h0 : Kept s0 x1) :
    KeptN s0 (@execFormatComplete x0 x1) := by
  unfold execFormatComplete
  split
  · apply KeptN.next
    with_reducible assumption
  · split
    · apply KeptN.next
      with_reducible assumption
    · split
      · apply KeptN.next
        with_reducible assumption
      · extract_lets +onlyGivenNames v1
        have h1 : Kept s0 v1 := by
          unfold v1
          apply State.setNode_kept
          apply State.journal_kept
          with_reducible assumption
        clear_value v1
        extract_lets +onlyGivenNames v2
        have h2 : Kept s0 v2 := by
          unfold v2
          apply State.notifyChange_kept
          apply State.journalAttr_kept
          with_reducible assumption
        clear_value v2
        split
        · apply KeptN.next
          apply State.finish_kept
          with_reducible assumption
        · apply KeptN.next
          with_reducible assumption

theorem execFormatNvm_kept {s0 : State} {x0 : Nat} {x1 : State} (h0 : Kept s0 x1) :
    KeptN s0 (@execFormatNvm x0 x1) := by
  unfold execFormatNvm
  apply KeptN.next
  apply State.onAdmin_kept
  · with_reducible assumption
  · intro k1
    extract_lets +onlyGivenNames v2
    clear_value v2
    extract_lets +onlyGivenNames v3
    clear_value v3
    extract_lets +onlyGivenNames v4
    clear_value v4
    extract_lets +onlyGivenNames v5
    clear_value v5
    split
    · apply State.finish_kept
      with_reducible assumption
    · split
      · apply State.finish_kept
        with_reducible assumption
      · split
        · apply State.finish_kept
          with_reducible assumption
        · split
          · apply State.finish_kept
            with_reducible assumption
          · split
            · apply State.finish_kept
              with_reducible assumption
            · split
              · apply State.finish_kept
                with_reducible assumption
              · split
                · apply State.finish_kept
                  with_reducible assumption
                · split
                  · apply State.finish_kept
                    with_reducible assumption
                  · split
                    · apply State.finish_kept
                      with_reducible assumption
                    · extract_lets +onlyGivenNames v6
                      clear_value v6
                      extract_lets +onlyGivenNames v7
                      have h7 : Kept s0 v7 := by
                        unfold v7
                        apply State.journal_kept
                        apply State.setCmd_kept
                        with_reducible assumption
                      clear_value v7
                      extract_lets +onlyGivenNames v8
                      have h8 : Kept s0 v8 := by
                        unfold v8
                        apply State.endLoadingPins_kept
                        apply State.releaseWithEvents_kept
                        with_reducible assumption
                      clear_value v8
                      extract_lets +onlyGivenNames v9
                      have h9 : Kept s0 v9 := by
                        unfold v9
                        split
                        · apply State.rekey_kept
                          with_reducible assumption
                        · with_reducible assumption
                      clear_value v9
                      extract_lets +onlyGivenNames v10
                      have h10 : Kept s0 v10 := by
                        unfold v10
                        apply State.emptyNode_kept
                        apply State.dropDict_kept
                        with_reducible assumption
                      clear_value v10
                      extract_lets +onlyGivenNames v11
                      have h11 : Kept s0 v11 := by
                        unfold v11
                        split
                        · apply State.setNode_kept
                          with_reducible assumption
                        · with_reducible assumption
                      clear_value v11
                      extract_lets +onlyGivenNames v12
                      have h12 : Kept s0 v12 := by
                        unfold v12
                        apply State.startSweep_kept
                        with_reducible assumption
                      clear_value v12
                      split
                      · apply State.eraseVolume_kept
                        with_reducible assumption
                      · with_reducible assumption

theorem execHostWriteAdmission_kept {s0 x0 : State} (h0 : Kept s0 x0) :
    KeptN s0 (@execHostWriteAdmission x0) := by
  unfold execHostWriteAdmission
  split
  · apply KeptN.next
    apply State.readmit_kept
    with_reducible assumption
  · apply KeptN.next
    with_reducible assumption

theorem execNamespaceAttachment_kept {s0 : State} {x0 : Nat} {x1 : List Nat} {x2 : State} (h0 : Kept s0 x2) :
    KeptN s0 (@execNamespaceAttachment x0 x1 x2) := by
  unfold execNamespaceAttachment
  apply KeptN.next
  apply State.onAdmin_kept
  · with_reducible assumption
  · intro k1
    extract_lets +onlyGivenNames v2
    clear_value v2
    extract_lets +onlyGivenNames v3
    split
    · apply State.finish_kept
      with_reducible assumption
    · split
      · apply State.finish_kept
        with_reducible assumption
      · split
        · apply State.finish_kept
          with_reducible assumption
        · split
          · apply State.finish_kept
            with_reducible assumption
          · split
            · apply State.finish_kept
              with_reducible assumption
            · split
              · apply State.finish_kept
                with_reducible assumption
              · split
                · apply State.finish_kept
                  with_reducible assumption
                · split
                  · apply State.finish_kept
                    with_reducible assumption
                  · split
                    · apply State.finish_kept
                      with_reducible assumption
                    · extract_lets +onlyGivenNames v4
                      clear_value v4
                      extract_lets +onlyGivenNames v5
                      have h5 : Kept s0 v5 := by
                        unfold v5
                        apply State.setNode_kept
                        with_reducible assumption
                      clear_value v5
                      extract_lets +onlyGivenNames v6
                      have h6 : Kept s0 v6 := by
                        unfold v6
                        apply forEach_kept
                        · with_reducible assumption
                        · intro k7 k8 k9
                          extract_lets +onlyGivenNames v10
                          have h10 : Kept s0 v10 := by
                            unfold v10
                            apply State.journal_kept
                            with_reducible assumption
                          clear_value v10
                          extract_lets +onlyGivenNames v11
                          have h11 : Kept s0 v11 := by
                            unfold v11
                            apply State.putFlag_kept
                            with_reducible assumption
                          clear_value v11
                          split
                          · apply State.asyncEvent_kept
                            with_reducible assumption
                          · with_reducible assumption
                      clear_value v6
                      apply State.finish_kept
                      with_reducible assumption

theorem execNamespaceManagementCreate_kept {s0 : State} {x0 : Nat} {x1 : List Byte} {x2 : State} (h0 : Kept s0 x2) :
    KeptN s0 (@execNamespaceManagementCreate x0 x1 x2) := by
  unfold execNamespaceManagementCreate
  apply KeptN.next
  apply State.onAdmin_kept
  · with_reducible assumption
  · intro k1
    split
    · with_reducible assumption
    · split
      · apply State.finish_kept
        with_reducible assumption
      · extract_lets +onlyGivenNames v2
        clear_value v2
        extract_lets +onlyGivenNames v3
        clear_value v3
        extract_lets +onlyGivenNames v4
        clear_value v4
        extract_lets +onlyGivenNames v5
        clear_value v5
        extract_lets +onlyGivenNames v6
        clear_value v6
        extract_lets +onlyGivenNames v7
        clear_value v7
        extract_lets +onlyGivenNames v8
        clear_value v8
        split
        · apply State.finish_kept
          with_reducible assumption
        · split
          · apply State.finish_kept
            with_reducible assumption
          · split
            · apply State.finish_kept
              with_reducible assumption
            · split
              · apply State.finish_kept
                with_reducible assumption
              · split
                · apply State.finish_kept
                  with_reducible assumption
                · split
                  · apply State.finish_kept
                    with_reducible assumption
                  · extract_lets +onlyGivenNames v9
                    clear_value v9
                    extract_lets +onlyGivenNames v10
                    have h10 : Kept s0 v10 := by
                      unfold v10
                      apply State.newKey_kept
                      apply State.addNode_kept
                      with_reducible assumption
                    clear_value v10
                    extract_lets +onlyGivenNames v11
                    clear_value v11
                    extract_lets +onlyGivenNames v12
                    have h12 : Kept s0 v12 := by
                      unfold v12
                      apply State.journal_kept
                      apply State.applyRight_kept
                      with_reducible assumption
                    clear_value v12
                    extract_lets +onlyGivenNames v13
                    have h13 : Kept s0 v13 := by
                      unfold v13
                      split
                      · with_reducible assumption
                      · apply State.put_kept
                        with_reducible assumption
                    clear_value v13
                    apply State.finish_kept
                    with_reducible assumption

theorem execNamespaceManagementDelete_kept {s0 : State} {x0 : Nat} {x1 : State} (h0 : Kept s0 x1) :
    KeptN s0 (@execNamespaceManagementDelete x0 x1) := by
  unfold execNamespaceManagementDelete
  apply KeptN.next
  apply State.onAdmin_kept
  · with_reducible assumption
  · intro k1
    split
    · with_reducible assumption
    · extract_lets +onlyGivenNames v2
      clear_value v2
      split
      · apply State.finish_kept
        with_reducible assumption
      · split
        · apply State.finish_kept
          with_reducible assumption
        · split
          · apply State.finish_kept
            with_reducible assumption
          · split
            · apply State.finish_kept
              with_reducible assumption
            · split
              · apply State.finish_kept
                with_reducible assumption
              · apply State.notifyChange_kept
                apply State.beginDeletion_kept
                apply State.setCmd_kept
                with_reducible assumption

theorem execNvmeDatasetManagement_kept {s0 : State} {x0 : Nat} {x1 : List LbaRange} {x2 : State} (h0 : Kept s0 x2) :
    KeptN s0 (@execNvmeDatasetManagement x0 x1 x2) := by
  unfold execNvmeDatasetManagement
  apply KeptN.next
  apply State.onIo_kept
  · with_reducible assumption
  · intro k1
    extract_lets +onlyGivenNames v2
    clear_value v2
    split
    · apply State.finish_kept
      with_reducible assumption
    · split
      · apply State.finish_kept
        with_reducible assumption
      · split
        · apply State.finish_kept
          with_reducible assumption
        · split
          · apply State.finish_kept
            with_reducible assumption
          · split
            · apply State.finish_kept
              with_reducible assumption
            · apply State.finish_kept
              apply forEach_kept
              · with_reducible assumption
              · intro k3 k4 k5
                apply State.deallocate_kept
                with_reducible assumption

theorem execNvmeFlush_kept {s0 : State} {x0 : Nat} {x1 : State} (h0 : Kept s0 x1) :
    KeptN s0 (@execNvmeFlush x0 x1) := by
  unfold execNvmeFlush
  apply KeptN.next
  apply State.onIo_kept
  · with_reducible assumption
  · intro k1
    split
    · apply State.finish_kept
      with_reducible assumption
    · split
      · apply State.finish_kept
        with_reducible assumption
      · split
        · apply State.finish_kept
          with_reducible assumption
        · apply State.finish_kept
          with_reducible assumption

theorem execNvmeRead_kept {s0 : State} {x0 : Nat} {x1 : State} (h0 : Kept s0 x1) :
    KeptN s0 (@execNvmeRead x0 x1) := by
  unfold execNvmeRead
  apply KeptN.next
  apply State.onIo_kept
  · with_reducible assumption
  · intro k1
    apply State.nvmeRead_kept
    with_reducible assumption

theorem execNvmeVerify_kept {s0 : State} {x0 : Nat} {x1 : State} (h0 : Kept s0 x1) :
    KeptN s0 (@execNvmeVerify x0 x1) := by
  unfold execNvmeVerify
  apply KeptN.next
  apply State.onIo_kept
  · with_reducible assumption
  · intro k1
    apply State.nvmeRead_kept
    with_reducible assumption

theorem execNvmeWrite_kept {s0 : State} {x0 : Nat} {x1 : State} (h0 : Kept s0 x1) :
    KeptN s0 (@execNvmeWrite x0 x1) := by
  unfold execNvmeWrite
  apply KeptN.next
  apply State.onIo_kept
  · with_reducible assumption
  · intro k1
    apply State.nvmeWrite_kept
    with_reducible assumption

theorem execNvmeWriteZeroes_kept {s0 : State} {x0 : Nat} {x1 : State} (h0 : Kept s0 x1) :
    KeptN s0 (@execNvmeWriteZeroes x0 x1) := by
  unfold execNvmeWriteZeroes
  apply KeptN.next
  apply State.onIo_kept
  · with_reducible assumption
  · intro k1
    apply State.nvmeWrite_kept
    with_reducible assumption

theorem execSanitizeBlockErase_kept {s0 : State} {x0 : Nat} {x1 : State} (h0 : Kept s0 x1) :
    KeptN s0 (@execSanitizeBlockErase x0 x1) := by
  unfold execSanitizeBlockErase
  apply KeptN.next
  apply State.onSanitize_kept
  · with_reducible assumption
  · intro k1
    apply State.sanitize_kept
    with_reducible assumption

theorem execSanitizeComplete_kept {s0 : State} {x0 : Bool} {x1 : State} (h0 : Kept s0 x1) :
    KeptN s0 (@execSanitizeComplete x0 x1) := by
  unfold execSanitizeComplete
  split
  · apply KeptN.next
    with_reducible assumption
  · extract_lets +onlyGivenNames v1
    have h1 : Kept s0 v1 := by
      unfold v1
      split
      · apply State.putFlag_kept
        apply State.put_kept
        apply State.put_kept
        with_reducible assumption
      · apply State.putFlag_kept
        apply State.put_kept
        with_reducible assumption
    clear_value v1
    apply KeptN.next
    apply State.asyncEvent_kept
    apply State.journalSanitize_kept
    apply State.putFlag_kept
    with_reducible assumption

theorem execSanitizeCryptoErase_kept {s0 : State} {x0 : Nat} {x1 : State} (h0 : Kept s0 x1) :
    KeptN s0 (@execSanitizeCryptoErase x0 x1) := by
  unfold execSanitizeCryptoErase
  apply KeptN.next
  apply State.onSanitize_kept
  · with_reducible assumption
  · intro k1
    apply State.sanitize_kept
    with_reducible assumption

theorem execSanitizeExitFailureMode_kept {s0 : State} {x0 : Nat} {x1 : State} (h0 : Kept s0 x1) :
    KeptN s0 (@execSanitizeExitFailureMode x0 x1) := by
  unfold execSanitizeExitFailureMode
  apply KeptN.next
  apply State.onSanitize_kept
  · with_reducible assumption
  · intro k1
    split
    · apply State.finish_kept
      with_reducible assumption
    · split
      · apply State.finish_kept
        with_reducible assumption
      · apply State.finish_kept
        apply State.putFlag_kept
        with_reducible assumption

theorem execSanitizeOverwrite_kept {s0 : State} {x0 : Nat} {x1 : State} (h0 : Kept s0 x1) :
    KeptN s0 (@execSanitizeOverwrite x0 x1) := by
  unfold execSanitizeOverwrite
  apply KeptN.next
  apply State.onSanitize_kept
  · with_reducible assumption
  · intro k1
    apply State.finish_kept
    with_reducible assumption

end Sys2Proof.Machine
end

