-- ==== Sys2Proof/Laws/KeptDisable.lean ====
section
/-! SUPPORT. What the operations of Machine/Disable.lean keep (`Kept`): one lemma each. -/

set_option linter.unusedVariables false

namespace Sys2Proof.Machine

theorem State.dropMuted_kept {s0 x0 : State} {x1 : Scope} (h0 : Kept s0 x0) :
    Kept s0 (@State.dropMuted x0 x1) := by
  unfold State.dropMuted
  apply forEach_kept
  · with_reducible assumption
  · intro k1 k2 k3
    extract_lets +onlyGivenNames v4
    have h4 : Kept s0 v4 := by
      unfold v4
      split
      · apply State.releaseAlloc_kept
        with_reducible assumption
      · with_reducible assumption
    clear_value v4
    extract_lets +onlyGivenNames v5
    have h5 : Kept s0 v5 := by
      unfold v5
      apply State.releaseLoading_kept
      apply State.dropGrants_kept
      with_reducible assumption
    clear_value v5
    apply State.endCmd_kept
    refine Kept.same (s := v5) ?_ rfl Sub.rfl' Sub.rfl' Sub.rfl' Sub.rfl' Sub.rfl'
    with_reducible assumption

theorem State.resetFeatures_kept {s0 x0 : State} {x1 : Nat} (h0 : Kept s0 x0) :
    Kept s0 (@State.resetFeatures x0 x1) := by
  unfold State.resetFeatures
  refine Kept.same (s := x0) ?_ rfl Sub.filter Sub.rfl' Sub.rfl' Sub.rfl' Sub.rfl'
  with_reducible assumption

theorem State.endController_kept {s0 x0 : State} {x1 : Nat} (h0 : Kept s0 x0) :
    Kept s0 (@State.endController x0 x1) := by
  unfold State.endController
  extract_lets +onlyGivenNames v1
  have h1 : Kept s0 v1 := by
    unfold v1
    refine Kept.same (s := x0) ?_ rfl Sub.rfl' Sub.rfl' Sub.rfl' Sub.rfl' Sub.rfl'
    with_reducible assumption
  clear_value v1
  apply State.resetFeatures_kept
  apply State.put_kept
  apply State.putFlag_kept
  apply State.putFlag_kept
  with_reducible assumption

theorem State.settleWrites_kept {s0 x0 : State} {x1 : Scope} (h0 : Kept s0 x0) :
    Kept s0 (@State.settleWrites x0 x1) := by
  unfold State.settleWrites
  apply forEach_kept
  · with_reducible assumption
  · intro k1 k2 k3
    apply State.commitReceived_kept
    with_reducible assumption

theorem State.endQueueDisable_kept {s0 x0 : State} {x1 : Nat} (h0 : Kept s0 x0) :
    Kept s0 (@State.endQueueDisable x0 x1) := by
  unfold State.endQueueDisable
  extract_lets +onlyGivenNames v1
  have h1 : Kept s0 v1 := by
    unfold v1
    apply State.put_kept
    apply State.putFlag_kept
    apply State.put_kept
    with_reducible assumption
  clear_value v1
  extract_lets +onlyGivenNames v2
  have h2 : Kept s0 v2 := by
    unfold v2
    refine Kept.same (s := v1) ?_ rfl Sub.rfl' Sub.filter Sub.rfl' Sub.rfl' Sub.rfl'
    with_reducible assumption
  clear_value v2
  apply State.put_kept
  with_reducible assumption

theorem State.resetConfig_kept {s0 x0 : State} {x1 : Nat} (h0 : Kept s0 x0) :
    Kept s0 (@State.resetConfig x0 x1) := by
  unfold State.resetConfig
  refine Kept.same (s := x0) ?_ rfl Sub.filter Sub.rfl' Sub.rfl' Sub.rfl' Sub.rfl'
  with_reducible assumption

theorem State.endFunction_kept {s0 x0 : State} {x1 : Nat} (h0 : Kept s0 x0) :
    Kept s0 (@State.endFunction x0 x1) := by
  unfold State.endFunction
  extract_lets +onlyGivenNames v1
  clear_value v1
  extract_lets +onlyGivenNames v2
  have h2 : Kept s0 v2 := by
    unfold v2
    split
    · apply State.bump_kept
      with_reducible assumption
    · with_reducible assumption
  clear_value v2
  extract_lets +onlyGivenNames v3
  have h3 : Kept s0 v3 := by
    unfold v3
    apply forEach_kept
    · with_reducible assumption
    · intro k4 k5 k6
      apply State.endQueueDisable_kept
      with_reducible assumption
  clear_value v3
  extract_lets +onlyGivenNames v7
  have h7 : Kept s0 v7 := by
    unfold v7
    apply State.endController_kept
    with_reducible assumption
  clear_value v7
  extract_lets +onlyGivenNames v8
  have h8 : Kept s0 v8 := by
    unfold v8
    apply State.resetConfig_kept
    with_reducible assumption
  clear_value v8
  extract_lets +onlyGivenNames v9
  clear_value v9
  extract_lets +onlyGivenNames v10
  have h10 : Kept s0 v10 := by
    unfold v10
    apply forEach_kept
    · with_reducible assumption
    · intro k11 k12 k13
      apply State.put_kept
      with_reducible assumption
  clear_value v10
  extract_lets +onlyGivenNames v14
  have h14 : Kept s0 v14 := by
    unfold v14
    split
    · apply State.putFlag_kept
      apply forEach_kept
      · with_reducible assumption
      · intro k15 k16 k17
        apply State.putFlag_kept
        with_reducible assumption
    · with_reducible assumption
  clear_value v14
  extract_lets +onlyGivenNames v18
  have h18 : Kept s0 v18 := by
    unfold v18
    split
    · apply State.put_kept
      with_reducible assumption
    · with_reducible assumption
  clear_value v18
  extract_lets +onlyGivenNames v19
  have h19 : Kept s0 v19 := by
    unfold v19
    split
    · apply State.putFlag_kept
      with_reducible assumption
    · with_reducible assumption
  clear_value v19
  apply State.clearLevelAt_kept
  with_reducible assumption

theorem State.endDisable_kept {s0 x0 : State} {x1 : Scope} (h0 : Kept s0 x0) :
    Kept s0 (@State.endDisable x0 x1) := by
  unfold State.endDisable
  split
  · with_reducible assumption
  · extract_lets +onlyGivenNames v1
    have h1 : Kept s0 v1 := by
      unfold v1
      apply State.settleWrites_kept
      with_reducible assumption
    clear_value v1
    split
    · with_reducible assumption
    · extract_lets +onlyGivenNames v2
      have h2 : Kept s0 v2 := by
        unfold v2
        apply State.dropMuted_kept
        with_reducible assumption
      clear_value v2
      extract_lets +onlyGivenNames v3
      have h3 : Kept s0 v3 := by
        unfold v3
        split
        · apply State.endFunction_kept
          with_reducible assumption
        · apply State.endController_kept
          with_reducible assumption
        · extract_lets +onlyGivenNames v4
          have h4 : Kept s0 v4 := by
            unfold v4
            refine Kept.same (s := v2) ?_ rfl Sub.rfl' Sub.rfl' Sub.rfl' Sub.rfl' Sub.rfl'
            with_reducible assumption
          clear_value v4
          split
          · apply State.finish_kept
            with_reducible assumption
          · with_reducible assumption
        · apply State.postEvent_kept
          apply State.endQueueDisable_kept
          with_reducible assumption
      clear_value v3
      apply State.noteDemand_kept
      · with_reducible assumption
      · with_reducible assumption

theorem execDisableComplete_kept {s0 : State} {x0 : Scope} {x1 : State} (h0 : Kept s0 x1) :
    KeptN s0 (@execDisableComplete x0 x1) := by
  unfold execDisableComplete
  apply KeptN.next
  apply State.endDisable_kept
  with_reducible assumption

theorem execQueueDisabled_kept {s0 : State} {x0 : Nat} {x1 : State} (h0 : Kept s0 x1) :
    KeptN s0 (@execQueueDisabled x0 x1) := by
  unfold execQueueDisabled
  apply KeptN.next
  apply State.endDisable_kept
  with_reducible assumption

end Sys2Proof.Machine
end

