-- ==== Sys2Proof/Laws/KeptHoldup.lean ====
section
/-! SUPPORT. What the operations of Machine/Holdup.lean keep (`Kept`): one lemma each. -/

set_option linter.unusedVariables false

namespace Sys2Proof.Machine

theorem State.ungate_kept {s0 x0 : State} (h0 : Kept s0 x0) :
    Kept s0 (@State.ungate x0) := by
  unfold State.ungate
  refine Kept.same (s := x0) ?_ rfl Sub.filter Sub.rfl' Sub.rfl' Sub.rfl' Sub.rfl'
  with_reducible assumption

theorem State.logRefusal_kept {s0 x0 : State} {x1 x2 x3 : Nat} {x4 : Bool} (h0 : Kept s0 x0) :
    Kept s0 (@State.logRefusal x0 x1 x2 x3 x4) := by
  unfold State.logRefusal
  extract_lets +onlyGivenNames v1
  clear_value v1
  extract_lets +onlyGivenNames v2
  have h2 : Kept s0 v2 := by
    unfold v2
    split
    · apply State.putFlag_kept
      with_reducible assumption
    · with_reducible assumption
  clear_value v2
  extract_lets +onlyGivenNames v3
  have h3 : Kept s0 v3 := by
    unfold v3
    apply State.put_kept
    apply State.put_kept
    with_reducible assumption
  clear_value v3
  extract_lets +onlyGivenNames v4
  have h4 : Kept s0 v4 := by
    unfold v4
    apply State.putFlag_kept
    apply State.put_kept
    apply State.put_kept
    with_reducible assumption
  clear_value v4
  extract_lets +onlyGivenNames v5
  have h5 : Kept s0 v5 := by
    unfold v5
    apply State.put_kept
    apply State.put_kept
    with_reducible assumption
  clear_value v5
  extract_lets +onlyGivenNames v6
  have h6 : Kept s0 v6 := by
    unfold v6
    apply State.put_kept
    apply State.putFlag_kept
    with_reducible assumption
  clear_value v6
  apply State.bump_kept
  apply State.put_kept
  with_reducible assumption

theorem State.abandonEntry_kept {s0 x0 : State} {x1 : Nat} (h0 : Kept s0 x0) :
    Kept s0 (@State.abandonEntry x0 x1) := by
  unfold State.abandonEntry
  extract_lets +onlyGivenNames v1
  clear_value v1
  extract_lets +onlyGivenNames v2
  have h2 : Kept s0 v2 := by
    unfold v2
    apply State.ungate_kept
    apply State.logRefusal_kept
    with_reducible assumption
  clear_value v2
  apply State.answerPm_kept
  apply State.put_kept
  apply State.put_kept
  apply State.put_kept
  apply State.put_kept
  with_reducible assumption

theorem State.restRecovs_kept {s0 x0 : State} (h0 : Kept s0 x0) :
    Kept s0 (@State.restRecovs x0) := by
  unfold State.restRecovs
  refine Kept.same (s := x0) ?_ rfl Sub.rfl' Sub.rfl' Sub.rfl' Sub.rfl' Sub.rfl'
  with_reducible assumption

theorem State.settleMap_kept {s0 x0 : State} (h0 : Kept s0 x0) :
    Kept s0 (@State.settleMap x0) := by
  unfold State.settleMap
  extract_lets +onlyGivenNames v1
  have h1 : Kept s0 v1 := by
    unfold v1
    apply forEach_kept
    · with_reducible assumption
    · intro k2 k3 k4
      apply State.writeBackLine_kept
      with_reducible assumption
  clear_value v1
  refine Kept.same (s := v1) ?_ rfl Sub.rfl' Sub.rfl' Sub.rfl' Sub.rfl' Sub.rfl'
  with_reducible assumption

theorem State.clearDomains_kept {s0 x0 : State} {x1 : Bool} (h0 : Kept s0 x0) :
    Kept s0 (@State.clearDomains x0 x1) := by
  unfold State.clearDomains
  extract_lets +onlyGivenNames v1
  have h1 : Kept s0 v1 := by
    unfold v1
    apply State.restRecovs_kept
    apply State.settleMap_kept
    with_reducible assumption
  clear_value v1
  extract_lets +onlyGivenNames v2
  have h2 : Kept s0 v2 := by
    unfold v2
    refine Kept.same (s := v1) ?_ rfl Sub.filter Sub.nil Sub.nil Sub.nil Sub.rfl'
    with_reducible assumption
  clear_value v2
  extract_lets +onlyGivenNames v3
  clear_value v3
  apply forEach_kept
  · with_reducible assumption
  · intro k4 k5 k6
    apply State.put_kept
    with_reducible assumption

theorem State.losePower_kept {s0 x0 : State} {x1 x2 : Nat} (h0 : Kept s0 x0) :
    Kept s0 (@State.losePower x0 x1 x2) := by
  unfold State.losePower
  extract_lets +onlyGivenNames v1
  have h1 : Kept s0 v1 := by
    unfold v1
    split
    · apply State.emit_kept
      with_reducible assumption
    · with_reducible assumption
  clear_value v1
  extract_lets +onlyGivenNames v2
  have h2 : Kept s0 v2 := by
    unfold v2
    apply State.put_kept
    apply State.clearDomains_kept
    apply State.endBrownout_kept
    with_reducible assumption
  clear_value v2
  apply State.put_kept
  apply State.put_kept
  apply State.put_kept
  with_reducible assumption

theorem State.copyAux_kept {s0 x0 : State} (h0 : Kept s0 x0) :
    Kept s0 (@State.copyAux x0) := by
  unfold State.copyAux
  extract_lets +onlyGivenNames v1
  have h1 : Kept s0 v1 := by
    unfold v1
    apply State.put_kept
    apply State.put_kept
    apply State.put_kept
    with_reducible assumption
  clear_value v1
  extract_lets +onlyGivenNames v2
  have h2 : Kept s0 v2 := by
    unfold v2
    apply State.put_kept
    with_reducible assumption
  clear_value v2
  apply forEach_kept
  · with_reducible assumption
  · intro k3 k4 k5
    apply State.put_kept
    apply State.put_kept
    with_reducible assumption

theorem State.setMainEn_kept {s0 x0 : State} {x1 : Bool} (h0 : Kept s0 x0) :
    Kept s0 (@State.setMainEn x0 x1) := by
  unfold State.setMainEn
  split
  · with_reducible assumption
  · apply State.emit_kept
    apply State.putFlag_kept
    with_reducible assumption

theorem State.enterPatrol_kept {s0 x0 : State} {x1 : Nat} (h0 : Kept s0 x0) :
    Kept s0 (@State.enterPatrol x0 x1) := by
  unfold State.enterPatrol
  extract_lets +onlyGivenNames v1
  have h1 : Kept s0 v1 := by
    unfold v1
    apply State.losePower_kept
    apply State.copyAux_kept
    with_reducible assumption
  clear_value v1
  extract_lets +onlyGivenNames v2
  have h2 : Kept s0 v2 := by
    unfold v2
    apply State.put_kept
    apply State.put_kept
    with_reducible assumption
  clear_value v2
  extract_lets +onlyGivenNames v3
  have h3 : Kept s0 v3 := by
    unfold v3
    split
    · apply State.setMainEn_kept
      with_reducible assumption
    · with_reducible assumption
  clear_value v3
  apply State.putFlag_kept
  with_reducible assumption

theorem State.dropAux_kept {s0 x0 : State} (h0 : Kept s0 x0) :
    Kept s0 (@State.dropAux x0) := by
  exact Kept.same (State.setMainEn_kept h0) rfl Sub.filter Sub.rfl' Sub.rfl' Sub.rfl' Sub.rfl'

theorem State.afterHoldup_kept {s0 x0 : State} {x1 : Nat} (h0 : Kept s0 x0) :
    Kept s0 (@State.afterHoldup x0 x1) := by
  unfold State.afterHoldup
  split
  · apply State.enterPatrol_kept
    with_reducible assumption
  · split
    · extract_lets +onlyGivenNames v1
      have h1 : Kept s0 v1 := by
        unfold v1
        apply State.put_kept
        apply State.put_kept
        with_reducible assumption
      clear_value v1
      apply State.putFlag_kept
      apply State.putFlag_kept
      apply State.putFlag_kept
      apply State.put_kept
      apply State.put_kept
      with_reducible assumption
    · split
      · apply State.enterPatrol_kept
        with_reducible assumption
      · apply State.dropAux_kept
        apply State.losePower_kept
        with_reducible assumption

theorem State.openFlushBand_kept {s0 x0 : State} {x1 : Nat} (h0 : Kept s0 x0) :
    KeptO s0 (@State.openFlushBand x0 x1) := by
  unfold State.openFlushBand
  split
  · extract_lets +onlyGivenNames v1
    clear_value v1
    apply KeptO.some
    apply State.addBand_kept
    with_reducible assumption
  · apply KeptO.some
    apply State.addBand_kept
    with_reducible assumption
  · exact KeptO.none

theorem State.checkpointAll_kept {s0 x0 : State} (h0 : Kept s0 x0) :
    Kept s0 (@State.checkpointAll x0) := by
  unfold State.checkpointAll
  extract_lets +onlyGivenNames v1
  have h1 : Kept s0 v1 := by
    unfold v1
    apply State.settleMap_kept
    with_reducible assumption
  clear_value v1
  extract_lets +onlyGivenNames v2
  have h2 : Kept s0 v2 := by
    unfold v2
    apply forEach_kept
    · with_reducible assumption
    · intro k3 k4 k5
      extract_lets +onlyGivenNames v6
      have h6 : Kept s0 v6 := by
        unfold v6
        split
        · apply KeptO.getD
          · apply State.openFlushBand_kept
            with_reducible assumption
          · with_reducible assumption
        · with_reducible assumption
      clear_value v6
      apply State.writePage_kept
      with_reducible assumption
  clear_value v2
  apply State.checkpoint_kept
  with_reducible assumption

theorem State.dropAllCommands_kept {s0 x0 : State} (h0 : Kept s0 x0) :
    Kept s0 (@State.dropAllCommands x0) := by
  unfold State.dropAllCommands
  extract_lets +onlyGivenNames v1
  have h1 : Kept s0 v1 := by
    unfold v1
    apply State.put_kept
    with_reducible assumption
  clear_value v1
  extract_lets +onlyGivenNames v2
  have h2 : Kept s0 v2 := by
    unfold v2
    apply forEach_kept
    · with_reducible assumption
    · intro k3 k4 k5
      extract_lets +onlyGivenNames v6
      have h6 : Kept s0 v6 := by
        unfold v6
        split
        · apply State.setCmd_kept
          with_reducible assumption
        · with_reducible assumption
      clear_value v6
      extract_lets +onlyGivenNames v7
      have h7 : Kept s0 v7 := by
        unfold v7
        split
        · apply KeptO.getD
          · apply State.openFlushBand_kept
            with_reducible assumption
          · with_reducible assumption
        · with_reducible assumption
      clear_value v7
      extract_lets +onlyGivenNames v8
      have h8 : Kept s0 v8 := by
        unfold v8
        apply State.commitReceived_kept
        with_reducible assumption
      clear_value v8
      split
      · apply State.releaseAlloc_kept
        with_reducible assumption
      · with_reducible assumption
  clear_value v2
  refine Kept.same (s := v2) ?_ rfl Sub.rfl' Sub.rfl' Sub.nil Sub.rfl' Sub.rfl'
  with_reducible assumption

theorem State.endTest_kept {s0 x0 : State} (h0 : Kept s0 x0) :
    Kept s0 (@State.endTest x0) := by
  unfold State.endTest
  extract_lets +onlyGivenNames v1
  have h1 : Kept s0 v1 := by
    unfold v1
    apply State.putFlag_kept
    apply State.putFlag_kept
    apply State.bump_kept
    with_reducible assumption
  clear_value v1
  apply State.put_kept
  apply State.putFlag_kept
  apply State.putFlag_kept
  with_reducible assumption

theorem State.stopMedia_kept {s0 x0 : State} (h0 : Kept s0 x0) :
    Kept s0 (@State.stopMedia x0) := by
  unfold State.stopMedia
  extract_lets +onlyGivenNames v1
  have h1 : Kept s0 v1 := by
    unfold v1
    apply forEach_kept
    · with_reducible assumption
    · intro k2 k3 k4
      extract_lets +onlyGivenNames v5
      clear_value v5
      extract_lets +onlyGivenNames v6
      have h6 : Kept s0 v6 := by
        unfold v6
        split
        · apply State.putFlag_kept
          apply forEach_kept
          · with_reducible assumption
          · intro k7 k8 k9
            apply State.failCall_kept
            with_reducible assumption
        · with_reducible assumption
      clear_value v6
      split
      · apply State.emit_kept
        apply State.putFlag_kept
        with_reducible assumption
      · split
        · apply State.emit_kept
          apply State.endSuspends_kept
          apply State.suspendDie_kept
          with_reducible assumption
        · with_reducible assumption
  clear_value v1
  extract_lets +onlyGivenNames v10
  have h10 : Kept s0 v10 := by
    unfold v10
    apply State.restRecovs_kept
    with_reducible assumption
  clear_value v10
  refine Kept.same (s := v10) ?_ rfl Sub.rfl' Sub.rfl' Sub.rfl' Sub.rfl' Sub.rfl'
  with_reducible assumption

theorem State.enterHoldup_kept {s0 x0 : State} {x1 : Nat} (h0 : Kept s0 x0) :
    Kept s0 (@State.enterHoldup x0 x1) := by
  unfold State.enterHoldup
  split
  · with_reducible assumption
  · split
    · apply State.afterHoldup_kept
      apply State.loseReads_kept
      with_reducible assumption
    · extract_lets +onlyGivenNames v1
      have h1 : Kept s0 v1 := by
        unfold v1
        split
        · apply State.bump_kept
          with_reducible assumption
        · with_reducible assumption
      clear_value v1
      extract_lets +onlyGivenNames v2
      have h2 : Kept s0 v2 := by
        unfold v2
        apply State.refusePower_kept
        with_reducible assumption
      clear_value v2
      extract_lets +onlyGivenNames v3
      have h3 : Kept s0 v3 := by
        unfold v3
        split
        · apply State.abandonEntry_kept
          apply State.wake_kept
          with_reducible assumption
        · apply State.ungate_kept
          with_reducible assumption
      clear_value v3
      extract_lets +onlyGivenNames v4
      have h4 : Kept s0 v4 := by
        unfold v4
        apply State.put_kept
        apply State.put_kept
        apply State.put_kept
        with_reducible assumption
      clear_value v4
      extract_lets +onlyGivenNames v5
      have h5 : Kept s0 v5 := by
        unfold v5
        apply State.bump_kept
        apply State.put_kept
        with_reducible assumption
      clear_value v5
      extract_lets +onlyGivenNames v6
      extract_lets +onlyGivenNames v7
      have h7 : Kept s0 v7 := by
        unfold v7
        apply State.putFlag_kept
        with_reducible assumption
      clear_value v7
      extract_lets +onlyGivenNames v8
      have h8 : Kept s0 v8 := by
        unfold v8
        split
        · apply State.put_kept
          with_reducible assumption
        · apply State.put_kept
          with_reducible assumption
      clear_value v8
      extract_lets +onlyGivenNames v9
      have h9 : Kept s0 v9 := by
        unfold v9
        split
        · apply State.putFlag_kept
          with_reducible assumption
        · with_reducible assumption
      clear_value v9
      apply State.dropAllCommands_kept
      apply State.stopMedia_kept
      apply State.shedHosts_kept
      apply State.putFlag_kept
      apply State.putFlag_kept
      with_reducible assumption

theorem State.flushBand_kept {s0 x0 : State} {x1 : Nat} (h0 : Kept s0 x0) :
    KeptOP s0 (@State.flushBand x0 x1) := by
  unfold State.flushBand
  split
  · exact KeptOP.some (KeptP.mk' h0)
  · refine ⟨fun p e => ?_⟩
    obtain ⟨t, ht, e⟩ := Option.bind_eq_some_iff.1 e
    obtain ⟨b, _, e⟩ := Option.bind_eq_some_iff.1 e
    split at e
    · cases e
      exact KeptO.out ht (State.openFlushBand_kept h0)
    · cases e

theorem State.flushOne_kept {s0 x0 : State} {x1 : WUnit} (h0 : Kept s0 x0) :
    KeptO s0 (@State.flushOne x0 x1) := by
  unfold State.flushOne
  extract_lets +onlyGivenNames v1
  clear_value v1
  extract_lets +onlyGivenNames v2
  clear_value v2
  split
  · exact KeptO.none
  · extract_lets +onlyGivenNames v3
    have h3 : KeptP s0 v3 := by
      unfold v3
      apply State.allocIn_kept
      refine KeptOP.outM (by assumption) ?_
      apply State.flushBand_kept
      with_reducible assumption
    clear_value v3
    extract_lets +onlyGivenNames v4
    have h4 : Kept s0 v4 := by
      unfold v4
      refine KeptP.out ?_
      with_reducible assumption
    clear_value v4
    extract_lets +onlyGivenNames v5
    clear_value v5
    extract_lets +onlyGivenNames v6
    have h6 : Kept s0 v6 := by
      unfold v6
      apply forEach_kept
      · with_reducible assumption
      · intro k7 k8 k9
        apply State.flashPut_kept
        with_reducible assumption
    clear_value v6
    extract_lets +onlyGivenNames v10
    have h10 : Kept s0 v10 := by
      unfold v10
      refine Kept.same (s := v6) ?_ rfl Sub.rfl' Sub.rfl' Sub.rfl' Sub.rfl' Sub.rfl'
      with_reducible assumption
    clear_value v10
    extract_lets +onlyGivenNames v11
    clear_value v11
    extract_lets +onlyGivenNames v12
    have h12 : Kept s0 v12 := by
      unfold v12
      apply State.add_kept
      apply State.dirtySub_kept
      with_reducible assumption
    clear_value v12
    extract_lets +onlyGivenNames v13
    clear_value v13
    apply KeptO.some
    apply forEach_kept
    · with_reducible assumption
    · intro k14 k15 k16
      extract_lets +onlyGivenNames v17
      clear_value v17
      split
      · apply State.mapPut_kept
        with_reducible assumption
      · with_reducible assumption

theorem State.flushSome_kept {s0 x0 : State} {x1 : Nat} (h0 : Kept s0 x0) :
    Kept s0 (@State.flushSome x0 x1) := by
  induction x1 generalizing x0 with
  | zero => exact h0
  | succ n ih =>
    unfold State.flushSome
    split
    · exact h0
    · split
      · exact ih (KeptO.out (by assumption) (State.flushOne_kept h0))
      · exact h0

theorem State.programTables_kept {s0 x0 : State} (h0 : Kept s0 x0) :
    Kept s0 (@State.programTables x0) := by
  unfold State.programTables
  extract_lets +onlyGivenNames v1
  clear_value v1
  extract_lets +onlyGivenNames v2
  have h2 : Kept s0 v2 := by
    unfold v2
    apply forEach_kept
    · with_reducible assumption
    · intro k3 k4 k5
      apply State.flashPut_kept
      with_reducible assumption
  clear_value v2
  refine Kept.same (s := v2) ?_ rfl Sub.rfl' Sub.rfl' Sub.rfl' Sub.rfl' Sub.rfl'
  with_reducible assumption

theorem State.sealAndWrite_kept {s0 x0 : State} (h0 : Kept s0 x0) :
    Kept s0 (@State.sealAndWrite x0) := by
  unfold State.sealAndWrite
  extract_lets +onlyGivenNames v1
  clear_value v1
  extract_lets +onlyGivenNames v2
  have h2 : Kept s0 v2 := by
    unfold v2
    apply forEach_kept
    · apply State.programTables_kept
      with_reducible assumption
    · intro k3 k4 k5
      split
      · apply State.sealRows_kept
        with_reducible assumption
      · with_reducible assumption
  clear_value v2
  extract_lets +onlyGivenNames v6
  have h6 : Kept s0 v6 := by
    unfold v6
    apply State.keepReads_kept
    refine Kept.same (s := v2) ?_ rfl Sub.rfl' Sub.rfl' Sub.rfl' Sub.rfl' Sub.rfl'
    with_reducible assumption
  clear_value v6
  extract_lets +onlyGivenNames v7
  have h7 : Kept s0 v7 := by
    unfold v7
    split
    · apply State.put_kept
      with_reducible assumption
    · with_reducible assumption
  clear_value v7
  apply State.put_kept
  apply State.put_kept
  apply State.put_kept
  with_reducible assumption

theorem State.setWord_kept {s0 x0 : State} {x1 x2 x3 : Nat} (h0 : Kept s0 x0) :
    Kept s0 (@State.setWord x0 x1 x2 x3) := by
  unfold State.setWord
  split
  · apply State.setLine_kept
    with_reducible assumption
  · with_reducible assumption

theorem State.loseDirty_kept {s0 x0 : State} (h0 : Kept s0 x0) :
    Kept s0 (@State.loseDirty x0) := by
  unfold State.loseDirty
  extract_lets +onlyGivenNames v1
  clear_value v1
  extract_lets +onlyGivenNames v2
  clear_value v2
  extract_lets +onlyGivenNames v3
  have h3 : Kept s0 v3 := by
    unfold v3
    apply forEach_kept
    · with_reducible assumption
    · intro k4 k5 k6
      extract_lets +onlyGivenNames v7
      clear_value v7
      apply forEach_kept
      · with_reducible assumption
      · intro k8 k9 k10
        extract_lets +onlyGivenNames v11
        clear_value v11
        split
        · extract_lets +onlyGivenNames v12
          clear_value v12
          apply State.setWord_kept
          apply State.pagePut_kept
          with_reducible assumption
        · with_reducible assumption
  clear_value v3
  refine Kept.same (s := v3) ?_ rfl Sub.rfl' Sub.rfl' Sub.rfl' Sub.rfl' Sub.rfl'
  with_reducible assumption

theorem State.finishFlush_kept {s0 x0 : State} {x1 : Bool} (h0 : Kept s0 x0) :
    KeptP s0 (@State.finishFlush x0 x1) := by
  unfold State.finishFlush
  extract_lets +onlyGivenNames v1
  have h1 : Kept s0 v1 := by
    unfold v1
    split
    · with_reducible assumption
    · apply State.flushSome_kept
      with_reducible assumption
  clear_value v1
  extract_lets +onlyGivenNames v2
  clear_value v2
  apply KeptP.mk'
  apply State.put_kept
  apply State.sealAndWrite_kept
  apply State.loseDirty_kept
  with_reducible assumption

theorem State.updateAllow_kept {s0 x0 : State} (h0 : Kept s0 x0) :
    Kept s0 (@State.updateAllow x0) := by
  unfold State.updateAllow
  split
  · with_reducible assumption
  · extract_lets +onlyGivenNames v1
    clear_value v1
    extract_lets +onlyGivenNames v2
    clear_value v2
    extract_lets +onlyGivenNames v3
    clear_value v3
    extract_lets +onlyGivenNames v4
    clear_value v4
    extract_lets +onlyGivenNames v5
    have h5 : Kept s0 v5 := by
      unfold v5
      apply State.putFlag_kept
      apply State.putFlag_kept
      apply State.put_kept
      with_reducible assumption
    clear_value v5
    extract_lets +onlyGivenNames v6
    have h6 : Kept s0 v6 := by
      unfold v6
      apply State.putFlag_kept
      apply State.put_kept
      with_reducible assumption
    clear_value v6
    apply State.ackAll_kept
    with_reducible assumption

theorem State.huFail_kept {s0 x0 : State} {x1 : Nat} (h0 : Kept s0 x0) :
    Kept s0 (@State.huFail x0 x1) := by
  unfold State.huFail
  split
  · with_reducible assumption
  · extract_lets +onlyGivenNames v1
    have h1 : Kept s0 v1 := by
      unfold v1
      apply State.putFlag_kept
      apply State.put_kept
      apply State.put_kept
      with_reducible assumption
    clear_value v1
    apply State.updateAllow_kept
    apply State.raise_kept
    with_reducible assumption

theorem State.newTarget_kept {s0 x0 : State} (h0 : Kept s0 x0) :
    Kept s0 (@State.newTarget x0) := by
  unfold State.newTarget
  split
  · with_reducible assumption
  · extract_lets +onlyGivenNames v1
    clear_value v1
    extract_lets +onlyGivenNames v2
    have h2 : Kept s0 v2 := by
      unfold v2
      apply State.put_kept
      with_reducible assumption
    clear_value v2
    split
    · apply State.huFail_kept
      with_reducible assumption
    · apply State.putFlag_kept
      apply State.updateAllow_kept
      with_reducible assumption

theorem State.planExcess_kept {s0 x0 : State} (h0 : Kept s0 x0) :
    Kept s0 (@State.planExcess x0) := by
  unfold State.planExcess
  extract_lets +onlyGivenNames v1
  clear_value v1
  extract_lets +onlyGivenNames v2
  clear_value v2
  apply forEach_kept
  · with_reducible assumption
  · intro k3 k4 k5
    extract_lets +onlyGivenNames v6
    clear_value v6
    extract_lets +onlyGivenNames v7
    clear_value v7
    split
    · with_reducible assumption
    · apply State.planOwn_kept
      with_reducible assumption

theorem State.testDue_kept {s0 x0 : State} (h0 : Kept s0 x0) :
    Kept s0 (@State.testDue x0) := by
  unfold State.testDue
  split
  · apply State.putFlag_kept
    with_reducible assumption
  · with_reducible assumption

theorem State.requestTest_kept {s0 x0 : State} {x1 : Agent} (h0 : Kept s0 x0) :
    Kept s0 (@State.requestTest x0 x1) := by
  unfold State.requestTest
  apply State.guardWrite_kept
  · with_reducible assumption
  · intro k1 k2
    split
    · apply State.testDue_kept
      apply State.putFlag_kept
      with_reducible assumption
    · with_reducible assumption

theorem State.toCharging_kept {s0 x0 : State} (h0 : Kept s0 x0) :
    Kept s0 (@State.toCharging x0) := by
  unfold State.toCharging
  apply State.put_kept
  with_reducible assumption

theorem State.writeCeil_kept {s0 x0 : State} {x1 : Agent} {x2 : Nat} (h0 : Kept s0 x0) :
    Kept s0 (@State.writeCeil x0 x1 x2) := by
  unfold State.writeCeil
  apply State.guardWrite_kept
  · with_reducible assumption
  · intro k1 k2
    apply State.unlessLocked_kept
    · with_reducible assumption
    · intro k3 k4
      split
      · apply State.newTarget_kept
        apply State.put_kept
        with_reducible assumption
      · with_reducible assumption

theorem execBankOvervolt_kept {s0 : State} {x0 : Nat} {x1 : State} (h0 : Kept s0 x1) :
    KeptN s0 (@execBankOvervolt x0 x1) := by
  unfold execBankOvervolt
  split
  · apply KeptN.next
    apply State.huFail_kept
    apply State.put_kept
    with_reducible assumption
  · apply KeptN.next
    with_reducible assumption

theorem execCapacitanceTestEnd_kept {s0 : State} {x0 x1 : Nat} {x2 : State} (h0 : Kept s0 x2) :
    KeptN s0 (@execCapacitanceTestEnd x0 x1 x2) := by
  unfold execCapacitanceTestEnd
  split
  · apply KeptN.next
    with_reducible assumption
  · extract_lets +onlyGivenNames v1
    clear_value v1
    split
    · apply KeptN.next
      apply State.putFlag_kept
      with_reducible assumption
    · extract_lets +onlyGivenNames v2
      clear_value v2
      extract_lets +onlyGivenNames v3
      clear_value v3
      extract_lets +onlyGivenNames v4
      clear_value v4
      extract_lets +onlyGivenNames v5
      have h5 : Kept s0 v5 := by
        unfold v5
        apply State.endTest_kept
        with_reducible assumption
      clear_value v5
      split
      · apply KeptN.next
        apply State.huFail_kept
        with_reducible assumption
      · split
        · apply KeptN.next
          apply State.huFail_kept
          with_reducible assumption
        · split
          · apply KeptN.next
            apply State.huFail_kept
            with_reducible assumption
          · extract_lets +onlyGivenNames v6
            have h6 : Kept s0 v6 := by
              unfold v6
              apply State.put_kept
              apply State.put_kept
              apply State.put_kept
              with_reducible assumption
            clear_value v6
            extract_lets +onlyGivenNames v7
            have h7 : Kept s0 v7 := by
              unfold v7
              apply State.toCharging_kept
              apply State.put_kept
              apply State.putFlag_kept
              with_reducible assumption
            clear_value v7
            apply KeptN.next
            apply State.putFlag_kept
            apply State.updateAllow_kept
            with_reducible assumption

theorem execCapacitanceTestStart_kept {s0 x0 : State} (h0 : Kept s0 x0) :
    KeptN s0 (@execCapacitanceTestStart x0) := by
  unfold execCapacitanceTestStart
  split
  · apply KeptN.next
    with_reducible assumption
  · extract_lets +onlyGivenNames v1
    have h1 : Kept s0 v1 := by
      unfold v1
      apply State.updateAllow_kept
      apply State.putFlag_kept
      with_reducible assumption
    clear_value v1
    split
    · apply KeptN.next
      apply State.planExcess_kept
      with_reducible assumption
    · apply KeptN.next
      apply State.putFlag_kept
      apply State.put_kept
      with_reducible assumption

theorem execChargeTargetReached_kept {s0 : State} {x0 : Nat} {x1 : State} (h0 : Kept s0 x1) :
    KeptN s0 (@execChargeTargetReached x0 x1) := by
  unfold execChargeTargetReached
  extract_lets +onlyGivenNames v1
  have h1 : Kept s0 v1 := by
    unfold v1
    apply State.put_kept
    with_reducible assumption
  clear_value v1
  split
  · apply KeptN.next
    apply State.testDue_kept
    apply State.putFlag_kept
    with_reducible assumption
  · split
    · apply KeptN.next
      apply State.updateAllow_kept
      apply State.put_kept
      with_reducible assumption
    · apply KeptN.next
      with_reducible assumption

theorem execChargeTimeout_kept {s0 x0 : State} (h0 : Kept s0 x0) :
    KeptN s0 (@execChargeTimeout x0) := by
  unfold execChargeTimeout
  apply KeptN.next
  split
  · apply State.huFail_kept
    with_reducible assumption
  · with_reducible assumption

theorem execChargerTopUp_kept {s0 : State} {x0 : Nat} {x1 : State} (h0 : Kept s0 x1) :
    KeptN s0 (@execChargerTopUp x0 x1) := by
  unfold execChargerTopUp
  split
  · apply KeptN.next
    apply State.updateAllow_kept
    apply State.put_kept
    apply State.put_kept
    with_reducible assumption
  · apply KeptN.next
    with_reducible assumption

theorem execFlushEnd_kept {s0 : State} {x0 : Nat} {x1 : State} (h0 : Kept s0 x1) :
    KeptN s0 (@execFlushEnd x0 x1) := by
  unfold execFlushEnd
  split
  · apply KeptN.next
    with_reducible assumption
  · extract_lets +onlyGivenNames v1
    clear_value v1
    extract_lets +onlyGivenNames v2
    clear_value v2
    extract_lets +onlyGivenNames v3
    have h3 : KeptP s0 v3 := by
      unfold v3
      apply State.finishFlush_kept
      with_reducible assumption
    clear_value v3
    extract_lets +onlyGivenNames v4
    clear_value v4
    extract_lets +onlyGivenNames v5
    have h5 : Kept s0 v5 := by
      unfold v5
      split
      · apply State.sealAndWrite_kept
        apply State.checkpointAll_kept
        refine KeptP.out ?_
        with_reducible assumption
      · refine KeptP.out ?_
        with_reducible assumption
    clear_value v5
    extract_lets +onlyGivenNames v6
    have h6 : Kept s0 v6 := by
      unfold v6
      apply State.put_kept
      apply State.put_kept
      apply State.put_kept
      with_reducible assumption
    clear_value v6
    extract_lets +onlyGivenNames v7
    have h7 : Kept s0 v7 := by
      unfold v7
      split
      · apply State.putFlag_kept
        with_reducible assumption
      · with_reducible assumption
    clear_value v7
    apply KeptN.next
    apply State.afterHoldup_kept
    with_reducible assumption

theorem execFlushEnergyCheck_kept {s0 : State} {x0 x1 x2 : Nat} {x3 : State} (h0 : Kept s0 x3) :
    KeptN s0 (@execFlushEnergyCheck x0 x1 x2 x3) := by
  unfold execFlushEnergyCheck
  split
  · apply KeptN.next
    with_reducible assumption
  · extract_lets +onlyGivenNames v1
    have h1 : Kept s0 v1 := by
      unfold v1
      apply State.flushSome_kept
      with_reducible assumption
    clear_value v1
    extract_lets +onlyGivenNames v2
    clear_value v2
    apply KeptN.next
    split
    · apply State.putFlag_kept
      with_reducible assumption
    · with_reducible assumption

theorem execHuECeilWrite_kept {s0 : State} {x0 : Agent} {x1 : Nat} {x2 : State} (h0 : Kept s0 x2) :
    KeptN s0 (@execHuECeilWrite x0 x1 x2) := by
  unfold execHuECeilWrite
  apply KeptN.next
  apply State.atUnit_kept
  · with_reducible assumption
  · intro k1 k2
    apply State.writeCeil_kept
    with_reducible assumption

theorem execPfailN_kept {s0 x0 : State} (h0 : Kept s0 x0) :
    KeptN s0 (@execPfailN x0) := by
  unfold execPfailN
  apply KeptN.next
  apply State.enterHoldup_kept
  apply State.putFlag_kept
  with_reducible assumption

theorem execPfailNDeassert_kept {s0 x0 : State} (h0 : Kept s0 x0) :
    KeptN s0 (@execPfailNDeassert x0) := by
  unfold execPfailNDeassert
  apply KeptN.next
  apply State.putFlag_kept
  with_reducible assumption

theorem execPrechargeCeiling_kept {s0 : State} {x0 : Nat} {x1 : State} (h0 : Kept s0 x1) :
    KeptN s0 (@execPrechargeCeiling x0 x1) := by
  unfold execPrechargeCeiling
  split
  · extract_lets +onlyGivenNames v1
    have h1 : Kept s0 v1 := by
      unfold v1
      apply State.put_kept
      with_reducible assumption
    clear_value v1
    apply KeptN.next
    split
    · apply State.huFail_kept
      with_reducible assumption
    · apply State.testDue_kept
      apply State.putFlag_kept
      with_reducible assumption
  · apply KeptN.next
    with_reducible assumption

theorem execSupplyBrownout_kept {s0 : State} {x0 : Nat} {x1 : State} (h0 : Kept s0 x1) :
    KeptN s0 (@execSupplyBrownout x0 x1) := by
  unfold execSupplyBrownout
  apply KeptN.next
  apply State.enterHoldup_kept
  with_reducible assumption

theorem execTestIntervalDue_kept {s0 x0 : State} (h0 : Kept s0 x0) :
    KeptN s0 (@execTestIntervalDue x0) := by
  unfold execTestIntervalDue
  apply KeptN.next
  apply State.testDue_kept
  with_reducible assumption

theorem execTestNow_kept {s0 : State} {x0 : Agent} {x1 : State} (h0 : Kept s0 x1) :
    KeptN s0 (@execTestNow x0 x1) := by
  unfold execTestNow
  apply KeptN.next
  apply State.atUnit_kept
  · with_reducible assumption
  · intro k1 k2
    apply State.requestTest_kept
    with_reducible assumption

end Sys2Proof.Machine
end

