-- ==== Sys2Proof/Laws/KeptHousekeeping.lean ====
section
/-! SUPPORT. What the operations of Machine/Housekeeping.lean keep (`Kept`): one lemma each. -/

set_option linter.unusedVariables false

namespace Sys2Proof.Machine

theorem State.ageChannel_kept {s0 x0 : State} {x1 : Nat} (h0 : Kept s0 x0) :
    Kept s0 (@State.ageChannel x0 x1) := by
  unfold State.ageChannel
  apply State.put_kept
  with_reducible assumption

theorem State.avsWrite_kept {s0 x0 : State} {x1 : Nat} {x2 : Bool} (h0 : Kept s0 x0) :
    Kept s0 (@State.avsWrite x0 x1 x2) := by
  unfold State.avsWrite
  split
  · with_reducible assumption
  · apply State.putFlag_kept
    apply State.emit_kept
    apply State.bump_kept
    apply State.put_kept
    with_reducible assumption

theorem State.avsTarget_kept {s0 x0 : State} {x1 : Bool} (h0 : Kept s0 x0) :
    Kept s0 (@State.avsTarget x0 x1) := by
  unfold State.avsTarget
  split
  · with_reducible assumption
  · extract_lets +onlyGivenNames v1
    have h1 : Kept s0 v1 := by
      unfold v1
      apply State.put_kept
      with_reducible assumption
    clear_value v1
    split
    · apply State.put_kept
      with_reducible assumption
    · extract_lets +onlyGivenNames v2
      clear_value v2
      extract_lets +onlyGivenNames v3
      clear_value v3
      extract_lets +onlyGivenNames v4
      clear_value v4
      extract_lets +onlyGivenNames v5
      clear_value v5
      extract_lets +onlyGivenNames v6
      have h6 : Kept s0 v6 := by
        unfold v6
        apply State.put_kept
        with_reducible assumption
      clear_value v6
      split
      · apply State.avsWrite_kept
        with_reducible assumption
      · split
        · apply State.avsWrite_kept
          with_reducible assumption
        · with_reducible assumption

theorem State.avsStep_kept {s0 x0 : State} {x1 : Bool} (h0 : Kept s0 x0) :
    Kept s0 (@State.avsStep x0 x1) := by
  unfold State.avsStep
  extract_lets +onlyGivenNames v1
  clear_value v1
  extract_lets +onlyGivenNames v2
  have h2 : Kept s0 v2 := by
    unfold v2
    apply State.avsTarget_kept
    apply State.put_kept
    with_reducible assumption
  clear_value v2
  split
  · apply State.raise_kept
    apply State.putFlag_kept
    with_reducible assumption
  · apply State.clearLevel_kept
    with_reducible assumption

theorem State.calAdvance_kept {s0 x0 : State} {x1 : Nat} {x2 : Int} (h0 : Kept s0 x0) :
    Kept s0 (@State.calAdvance x0 x1 x2) := by
  unfold State.calAdvance
  split
  · apply State.put_kept
    with_reducible assumption
  · with_reducible assumption

theorem State.checkTrust_kept {s0 x0 : State} (h0 : Kept s0 x0) :
    Kept s0 (@State.checkTrust x0) := by
  unfold State.checkTrust
  split
  · apply State.putFlag_kept
    with_reducible assumption
  · with_reducible assumption

theorem State.disarm_kept {s0 x0 : State} {x1 : Nat} (h0 : Kept s0 x0) :
    Kept s0 (@State.disarm x0 x1) := by
  unfold State.disarm
  split
  · apply State.putFlag_kept
    with_reducible assumption
  · with_reducible assumption

theorem State.disarmPast_kept {s0 x0 : State} (h0 : Kept s0 x0) :
    Kept s0 (@State.disarmPast x0) := by
  unfold State.disarmPast
  apply State.disarm_kept
  apply State.disarm_kept
  with_reducible assumption

theorem State.failChannel_kept {s0 x0 : State} {x1 : Nat} (h0 : Kept s0 x0) :
    Kept s0 (@State.failChannel x0 x1) := by
  unfold State.failChannel
  apply State.raise_kept
  apply State.putFlag_kept
  apply State.ageChannel_kept
  with_reducible assumption

theorem State.junctionRules_kept {s0 x0 : State} (h0 : Kept s0 x0) :
    Kept s0 (@State.junctionRules x0) := by
  unfold State.junctionRules
  extract_lets +onlyGivenNames v1
  clear_value v1
  extract_lets +onlyGivenNames v2
  clear_value v2
  extract_lets +onlyGivenNames v3
  clear_value v3
  extract_lets +onlyGivenNames v4
  clear_value v4
  extract_lets +onlyGivenNames v5
  have h5 : Kept s0 v5 := by
    unfold v5
    apply State.put_kept
    with_reducible assumption
  clear_value v5
  extract_lets +onlyGivenNames v6
  have h6 : Kept s0 v6 := by
    unfold v6
    split
    · apply State.raise_kept
      apply State.putFlag_kept
      with_reducible assumption
    · with_reducible assumption
  clear_value v6
  extract_lets +onlyGivenNames v7
  have h7 : Kept s0 v7 := by
    unfold v7
    split
    · split
      · with_reducible assumption
      · apply State.wake_kept
        apply State.raise_kept
        apply State.bump_kept
        apply State.putFlag_kept
        with_reducible assumption
    · split
      · apply State.clearLevel_kept
        apply State.putFlag_kept
        with_reducible assumption
      · with_reducible assumption
  clear_value v7
  extract_lets +onlyGivenNames v8
  clear_value v8
  extract_lets +onlyGivenNames v9
  have h9 : Kept s0 v9 := by
    unfold v9
    split
    · apply State.wake_kept
      with_reducible assumption
    · with_reducible assumption
  clear_value v9
  extract_lets +onlyGivenNames v10
  have h10 : Kept s0 v10 := by
    unfold v10
    apply State.putFlag_kept
    with_reducible assumption
  clear_value v10
  extract_lets +onlyGivenNames v11
  clear_value v11
  extract_lets +onlyGivenNames v12
  clear_value v12
  extract_lets +onlyGivenNames v13
  clear_value v13
  extract_lets +onlyGivenNames v14
  have h14 : Kept s0 v14 := by
    unfold v14
    apply State.putFlag_kept
    apply State.put_kept
    with_reducible assumption
  clear_value v14
  split
  · apply State.bump_kept
    with_reducible assumption
  · with_reducible assumption

theorem State.latchBcd_kept {s0 x0 : State} (h0 : Kept s0 x0) :
    Kept s0 (@State.latchBcd x0) := by
  unfold State.latchBcd
  extract_lets +onlyGivenNames v1
  clear_value v1
  apply State.put_kept
  apply State.put_kept
  apply State.put_kept
  with_reducible assumption

theorem State.loadCalendar_kept {s0 x0 : State} {x1 : Nat} {x2 : Bool} (h0 : Kept s0 x0) :
    Kept s0 (@State.loadCalendar x0 x1 x2) := by
  unfold State.loadCalendar
  extract_lets +onlyGivenNames v1
  have h1 : Kept s0 v1 := by
    unfold v1
    apply State.put_kept
    apply State.put_kept
    with_reducible assumption
  clear_value v1
  extract_lets +onlyGivenNames v2
  have h2 : Kept s0 v2 := by
    unfold v2
    apply State.putFlag_kept
    apply State.putFlag_kept
    apply State.putFlag_kept
    with_reducible assumption
  clear_value v2
  extract_lets +onlyGivenNames v3
  have h3 : Kept s0 v3 := by
    unfold v3
    split
    · apply State.loseSource_kept
      with_reducible assumption
    · with_reducible assumption
  clear_value v3
  apply State.checkTrust_kept
  apply State.disarmPast_kept
  with_reducible assumption

theorem State.sampleChannel_kept {s0 x0 : State} {x1 : Nat} {x2 : Int} (h0 : Kept s0 x0) :
    Kept s0 (@State.sampleChannel x0 x1 x2) := by
  unfold State.sampleChannel
  extract_lets +onlyGivenNames v1
  clear_value v1
  extract_lets +onlyGivenNames v2
  clear_value v2
  extract_lets +onlyGivenNames v3
  clear_value v3
  extract_lets +onlyGivenNames v4
  have h4 : Kept s0 v4 := by
    unfold v4
    apply State.put_kept
    apply State.putFlag_kept
    apply State.put_kept
    with_reducible assumption
  clear_value v4
  extract_lets +onlyGivenNames v5
  have h5 : Kept s0 v5 := by
    unfold v5
    apply State.putFlag_kept
    apply State.putFlag_kept
    with_reducible assumption
  clear_value v5
  split
  · split
    · with_reducible assumption
    · apply State.raise_kept
      apply State.bump_kept
      with_reducible assumption
  · apply State.clearLevel_kept
    with_reducible assumption

theorem State.roundChannel_kept {s0 x0 : State} {x1 : Nat} {x2 : Option Int} (h0 : Kept s0 x0) :
    Kept s0 (@State.roundChannel x0 x1 x2) := by
  unfold State.roundChannel
  split
  · apply State.putFlag_kept
    apply State.ageChannel_kept
    with_reducible assumption
  · split
    · apply State.sampleChannel_kept
      with_reducible assumption
    · apply State.failChannel_kept
      with_reducible assumption

theorem State.roundSamples_kept {s0 x0 : State} (h0 : Kept s0 x0) :
    Kept s0 (@State.roundSamples x0) := by
  unfold State.roundSamples
  extract_lets +onlyGivenNames v1
  have h1 : Kept s0 v1 := by
    unfold v1
    apply forEach_kept
    · with_reducible assumption
    · intro k2 k3 k4
      split
      · apply State.sampleBoth_kept
        with_reducible assumption
      · apply State.sampleExt_kept
        with_reducible assumption
  clear_value v1
  extract_lets +onlyGivenNames v5
  clear_value v5
  extract_lets +onlyGivenNames v6
  clear_value v6
  extract_lets +onlyGivenNames v7
  clear_value v7
  extract_lets +onlyGivenNames v8
  clear_value v8
  extract_lets +onlyGivenNames v9
  have h9 : Kept s0 v9 := by
    unfold v9
    apply State.sample_kept
    apply State.sampleBoth_kept
    with_reducible assumption
  clear_value v9
  extract_lets +onlyGivenNames v10
  have h10 : Kept s0 v10 := by
    unfold v10
    apply State.sampleExt_kept
    with_reducible assumption
  clear_value v10
  extract_lets +onlyGivenNames v11
  have h11 : Kept s0 v11 := by
    unfold v11
    apply State.sampleBoth_kept
    with_reducible assumption
  clear_value v11
  extract_lets +onlyGivenNames v12
  have h12 : Kept s0 v12 := by
    unfold v12
    apply State.sampleBoth_kept
    with_reducible assumption
  clear_value v12
  apply State.sampleExt_kept
  with_reducible assumption

theorem State.roundStore_kept {s0 x0 : State} (h0 : Kept s0 x0) :
    Kept s0 (@State.roundStore x0) := by
  unfold State.roundStore
  split
  · with_reducible assumption
  · extract_lets +onlyGivenNames v1
    have h1 : Kept s0 v1 := by
      unfold v1
      split
      · apply State.put_kept
        with_reducible assumption
      · with_reducible assumption
    clear_value v1
    split
    · apply State.huFail_kept
      with_reducible assumption
    · extract_lets +onlyGivenNames v2
      clear_value v2
      extract_lets +onlyGivenNames v3
      have h3 : Kept s0 v3 := by
        unfold v3
        apply State.put_kept
        with_reducible assumption
      clear_value v3
      extract_lets +onlyGivenNames v4
      have h4 : Kept s0 v4 := by
        unfold v4
        split
        · apply State.put_kept
          with_reducible assumption
        · split
          · apply State.toCharging_kept
            with_reducible assumption
          · with_reducible assumption
      clear_value v4
      extract_lets +onlyGivenNames v5
      have h5 : Kept s0 v5 := by
        unfold v5
        split
        · apply State.testDue_kept
          with_reducible assumption
        · with_reducible assumption
      clear_value v5
      split
      · apply State.putFlag_kept
        with_reducible assumption
      · with_reducible assumption

theorem State.setCalendar_kept {s0 x0 : State} {x1 : Agent} (h0 : Kept s0 x0) :
    Kept s0 (@State.setCalendar x0 x1) := by
  unfold State.setCalendar
  apply State.guardWrite_kept
  · with_reducible assumption
  · intro k1 k2
    split
    · apply State.loadCalendar_kept
      with_reducible assumption
    · apply State.putFlag_kept
      with_reducible assumption

theorem State.smartEvents_kept {s0 x0 : State} (h0 : Kept s0 x0) :
    Kept s0 (@State.smartEvents x0) := by
  unfold State.smartEvents
  apply forEach_kept
  · with_reducible assumption
  · intro k1 k2 k3
    extract_lets +onlyGivenNames v4
    clear_value v4
    extract_lets +onlyGivenNames v5
    clear_value v5
    extract_lets +onlyGivenNames v6
    clear_value v6
    extract_lets +onlyGivenNames v7
    have h7 : Kept s0 v7 := by
      unfold v7
      apply State.put_kept
      with_reducible assumption
    clear_value v7
    extract_lets +onlyGivenNames v8
    have h8 : Kept s0 v8 := by
      unfold v8
      split
      · apply State.asyncEvent_kept
        with_reducible assumption
      · with_reducible assumption
    clear_value v8
    split
    · apply State.asyncEvent_kept
      with_reducible assumption
    · with_reducible assumption

theorem State.thermalShut_kept {s0 x0 : State} {x1 : Nat} (h0 : Kept s0 x0) :
    Kept s0 (@State.thermalShut x0 x1) := by
  unfold State.thermalShut
  apply State.enterHoldup_kept
  apply State.raise_kept
  apply State.putFlag_kept
  with_reducible assumption

theorem State.updateWindow_kept {s0 x0 : State} (h0 : Kept s0 x0) :
    Kept s0 (@State.updateWindow x0) := by
  unfold State.updateWindow
  apply forEach_kept
  · with_reducible assumption
  · intro k1 k2 k3
    split
    · with_reducible assumption
    · extract_lets +onlyGivenNames v4
      clear_value v4
      extract_lets +onlyGivenNames v5
      have h5 : Kept s0 v5 := by
        unfold v5
        apply State.putFlag_kept
        with_reducible assumption
      clear_value v5
      split
      · apply State.clearLevel_kept
        with_reducible assumption
      · apply State.raise_kept
        with_reducible assumption

theorem State.writeAlmCtl_kept {s0 x0 : State} {x1 : Agent} {x2 : Nat} (h0 : Kept s0 x0) :
    Kept s0 (@State.writeAlmCtl x0 x1 x2) := by
  unfold State.writeAlmCtl
  apply State.guardWrite_kept
  · with_reducible assumption
  · intro k1 k2
    apply State.disarmPast_kept
    apply State.writeRw_kept
    with_reducible assumption

theorem State.writeTjThr_kept {s0 x0 : State} {x1 : Agent} {x2 : Nat} (h0 : Kept s0 x0) :
    Kept s0 (@State.writeTjThr x0 x1 x2) := by
  unfold State.writeTjThr
  apply State.guardWrite_kept
  · with_reducible assumption
  · intro k1 k2
    extract_lets +onlyGivenNames v3
    clear_value v3
    extract_lets +onlyGivenNames v4
    clear_value v4
    extract_lets +onlyGivenNames v5
    clear_value v5
    extract_lets +onlyGivenNames v6
    clear_value v6
    split
    · apply State.writeRw_kept
      with_reducible assumption
    · apply State.unlessLocked_kept
      · with_reducible assumption
      · intro k7 k8
        with_reducible assumption

theorem State.writeWwin_kept {s0 x0 : State} {x1 : Agent} {x2 : Nat} (h0 : Kept s0 x0) :
    Kept s0 (@State.writeWwin x0 x1 x2) := by
  unfold State.writeWwin
  apply State.guardWrite_kept
  · with_reducible assumption
  · intro k1 k2
    extract_lets +onlyGivenNames v3
    clear_value v3
    extract_lets +onlyGivenNames v4
    clear_value v4
    split
    · apply State.updateAllow_kept
      apply State.writeRw_kept
      with_reducible assumption
    · apply State.unlessLocked_kept
      · with_reducible assumption
      · intro k5 k6
        with_reducible assumption

theorem execCalAlarm_kept {s0 : State} {x0 : Nat} {x1 : State} (h0 : Kept s0 x1) :
    KeptN s0 (@execCalAlarm x0 x1) := by
  unfold execCalAlarm
  split
  · apply KeptN.next
    with_reducible assumption
  · extract_lets +onlyGivenNames v1
    have h1 : Kept s0 v1 := by
      unfold v1
      apply State.putFlag_kept
      apply State.putFlag_kept
      with_reducible assumption
    clear_value v1
    split
    · apply KeptN.next
      apply State.raise_kept
      with_reducible assumption
    · split
      · apply KeptN.next
        apply State.setMainEn_kept
        with_reducible assumption
      · apply KeptN.next
        with_reducible assumption

theorem execCalAlarmArm_kept {s0 : State} {x0 : Agent} {x1 : Nat} {x2 : State} (h0 : Kept s0 x2) :
    KeptN s0 (@execCalAlarmArm x0 x1 x2) := by
  unfold execCalAlarmArm
  split
  · apply KeptN.next
    with_reducible assumption
  · apply KeptN.next
    apply State.atUnit_kept
    · with_reducible assumption
    · intro k1 k2
      apply State.guardWrite_kept
      · with_reducible assumption
      · intro k3 k4
        apply State.disarm_kept
        apply State.putFlag_kept
        with_reducible assumption

theorem execCalBcd0Read_kept {s0 : State} {x0 : Agent} {x1 : State} (h0 : Kept s0 x1) :
    KeptN s0 (@execCalBcd0Read x0 x1) := by
  unfold execCalBcd0Read
  extract_lets +onlyGivenNames v1
  have h1 : KeptP s0 v1 := by
    unfold v1
    apply State.readAt_kept
    · with_reducible assumption
    · intro k2 k3
      apply KeptP.mk'
      apply State.latchBcd_kept
      with_reducible assumption
  clear_value v1
  apply KeptN.next
  apply State.emit_kept
  refine KeptP.out ?_
  with_reducible assumption

theorem execCalOscStop_kept {s0 x0 : State} (h0 : Kept s0 x0) :
    KeptN s0 (@execCalOscStop x0) := by
  unfold execCalOscStop
  split
  · apply KeptN.next
    with_reducible assumption
  · extract_lets +onlyGivenNames v1
    have h1 : Kept s0 v1 := by
      unfold v1
      apply State.putFlag_kept
      apply State.putFlag_kept
      with_reducible assumption
    clear_value v1
    apply KeptN.next
    split
    · apply State.raise_kept
      apply State.checkTrust_kept
      with_reducible assumption
    · with_reducible assumption

theorem execCalSet_kept {s0 : State} {x0 : Agent} {x1 : State} (h0 : Kept s0 x1) :
    KeptN s0 (@execCalSet x0 x1) := by
  unfold execCalSet
  apply KeptN.next
  apply State.atUnit_kept
  · with_reducible assumption
  · intro k1 k2
    apply State.setCalendar_kept
    with_reducible assumption

theorem execCalTrimStep_kept {s0 x0 : State} (h0 : Kept s0 x0) :
    KeptN s0 (@execCalTrimStep x0) := by
  unfold execCalTrimStep
  split
  · apply KeptN.next
    with_reducible assumption
  · apply KeptN.next
    apply State.calAdvance_kept
    with_reducible assumption

theorem execHkTjThrWrite_kept {s0 : State} {x0 : Agent} {x1 : Nat} {x2 : State} (h0 : Kept s0 x2) :
    KeptN s0 (@execHkTjThrWrite x0 x1 x2) := by
  unfold execHkTjThrWrite
  apply KeptN.next
  apply State.atUnit_kept
  · with_reducible assumption
  · intro k1 k2
    apply State.writeTjThr_kept
    with_reducible assumption

theorem execHkWwinWrite_kept {s0 : State} {x0 : Agent} {x1 : Nat} {x2 : State} (h0 : Kept s0 x2) :
    KeptN s0 (@execHkWwinWrite x0 x1 x2) := by
  unfold execHkWwinWrite
  apply KeptN.next
  apply State.atUnit_kept
  · with_reducible assumption
  · intro k1 k2
    apply State.writeWwin_kept
    with_reducible assumption

theorem execHousekeepingRound_kept {s0 : State} {x0 : List (Option Int)} {x1 : Bool} {x2 : State} (h0 : Kept s0 x2) :
    KeptN s0 (@execHousekeepingRound x0 x1 x2) := by
  unfold execHousekeepingRound
  split
  · apply KeptN.next
    with_reducible assumption
  · extract_lets +onlyGivenNames v1
    extract_lets +onlyGivenNames v2
    have h2 : Kept s0 v2 := by
      unfold v2
      apply State.junctionRules_kept
      unfold v1
      apply forEach_kept
      · with_reducible assumption
      · intro k3 k4 k5
        apply State.roundChannel_kept
        with_reducible assumption
    clear_value v2
    extract_lets +onlyGivenNames v6
    have h6 : Kept s0 v6 := by
      unfold v6
      apply State.avsStep_kept
      unfold v1
      apply forEach_kept
      · with_reducible assumption
      · intro k7 k8 k9
        apply State.roundChannel_kept
        with_reducible assumption
    clear_value v6
    extract_lets +onlyGivenNames v10
    have h10 : Kept s0 v10 := by
      unfold v10
      apply State.roundStore_kept
      apply State.updateWindow_kept
      unfold v1
      apply forEach_kept
      · with_reducible assumption
      · intro k11 k12 k13
        apply State.roundChannel_kept
        with_reducible assumption
    clear_value v10
    extract_lets +onlyGivenNames v14
    have h14 : Kept s0 v14 := by
      unfold v14
      apply State.roundSamples_kept
      apply State.smartEvents_kept
      apply State.planExcess_kept
      apply State.updateAllow_kept
      with_reducible assumption
    clear_value v14
    extract_lets +onlyGivenNames v15
    have h15 : Kept s0 v15 := by
      unfold v15
      apply State.bump_kept
      with_reducible assumption
    clear_value v15
    extract_lets +onlyGivenNames v16
    clear_value v16
    apply KeptN.next
    split
    · apply State.thermalShut_kept
      with_reducible assumption
    · with_reducible assumption

theorem execThermalShutDown_kept {s0 : State} {x0 : Nat} {x1 : State} (h0 : Kept s0 x1) :
    KeptN s0 (@execThermalShutDown x0 x1) := by
  unfold execThermalShutDown
  apply KeptN.next
  split
  · apply State.thermalShut_kept
    with_reducible assumption
  · with_reducible assumption

end Sys2Proof.Machine
end

