-- ==== Sys2Proof/Laws/KeptRecorder.lean ====
section
/-! SUPPORT. What the operations of Machine/Recorder.lean keep (`Kept`): one lemma each. -/

set_option linter.unusedVariables false

namespace Sys2Proof.Machine

theorem State.acknowledge_kept {s0 x0 : State} {x1 : Agent} {x2 x3 : Nat} (h0 : Kept s0 x0) :
    Kept s0 (@State.acknowledge x0 x1 x2 x3) := by
  unfold State.acknowledge
  apply State.guardWrite_kept
  · with_reducible assumption
  · intro k1 k2
    apply State.updateErrN_kept
    apply forEach_kept
    · with_reducible assumption
    · intro k3 k4 k5
      apply State.putFlag_kept
      with_reducible assumption

theorem State.emptyRecorder_kept {s0 x0 : State} (h0 : Kept s0 x0) :
    Kept s0 (@State.emptyRecorder x0) := by
  unfold State.emptyRecorder
  extract_lets +onlyGivenNames v1
  have h1 : Kept s0 v1 := by
    unfold v1
    refine Kept.same (s := x0) ?_ rfl Sub.filter Sub.rfl' Sub.rfl' Sub.rfl' Sub.rfl'
    with_reducible assumption
  clear_value v1
  apply State.putFlag_kept
  apply State.putFlag_kept
  apply State.put_kept
  apply State.put_kept
  with_reducible assumption

theorem State.clearRecorder_kept {s0 x0 : State} (h0 : Kept s0 x0) :
    Kept s0 (@State.clearRecorder x0) := by
  unfold State.clearRecorder
  split
  · apply State.putFlag_kept
    apply State.putFlag_kept
    with_reducible assumption
  · apply State.emptyRecorder_kept
    with_reducible assumption

theorem State.clearSticky_kept {s0 x0 : State} {x1 : Agent} {x2 x3 : Nat} (h0 : Kept s0 x0) :
    Kept s0 (@State.clearSticky x0 x1 x2 x3) := by
  unfold State.clearSticky
  apply State.guardWrite_kept
  · with_reducible assumption
  · intro k1 k2
    apply forEach_kept
    · with_reducible assumption
    · intro k3 k4 k5
      split
      · with_reducible assumption
      · apply State.putFlag_kept
        with_reducible assumption

theorem State.emptyHist_kept {s0 x0 : State} {x1 : Nat} (h0 : Kept s0 x0) :
    Kept s0 (@State.emptyHist x0 x1) := by
  unfold State.emptyHist
  refine Kept.same (s := x0) ?_ rfl Sub.filter Sub.rfl' Sub.rfl' Sub.rfl' Sub.rfl'
  with_reducible assumption

theorem State.writeFreeze_kept {s0 x0 : State} {x1 : Agent} {x2 : Bool} (h0 : Kept s0 x0) :
    Kept s0 (@State.writeFreeze x0 x1 x2) := by
  unfold State.writeFreeze
  apply State.guardWrite_kept
  · with_reducible assumption
  · intro k1 k2
    apply State.putFlag_kept
    with_reducible assumption

theorem State.writeHist_kept {s0 x0 : State} {x1 : Agent} {x2 : Reg} {x3 : Nat} (h0 : Kept s0 x0) :
    Kept s0 (@State.writeHist x0 x1 x2 x3) := by
  unfold State.writeHist
  apply State.guardWrite_kept
  · with_reducible assumption
  · intro k1 k2
    extract_lets +onlyGivenNames v3
    clear_value v3
    split
    · with_reducible assumption
    · apply State.emptyHist_kept
      apply State.writeRw_kept
      with_reducible assumption

theorem State.writeSrcCfg_kept {s0 x0 : State} {x1 : Agent} {x2 : Nat} (h0 : Kept s0 x0) :
    Kept s0 (@State.writeSrcCfg x0 x1 x2) := by
  unfold State.writeSrcCfg
  apply State.guardWrite_kept
  · with_reducible assumption
  · intro k1 k2
    extract_lets +onlyGivenNames v3
    clear_value v3
    split
    · with_reducible assumption
    · split
      · apply State.unlessLocked_kept
        · with_reducible assumption
        · intro k4 k5
          with_reducible assumption
      · extract_lets +onlyGivenNames v6
        have h6 : Kept s0 v6 := by
          unfold v6
          apply State.writeRw_kept
          with_reducible assumption
        clear_value v6
        apply State.updateErrN_kept
        split
        · with_reducible assumption
        · apply State.closeWindow_kept
          with_reducible assumption

theorem State.writeSrcWin_kept {s0 x0 : State} {x1 : Agent} {x2 : Nat} (h0 : Kept s0 x0) :
    Kept s0 (@State.writeSrcWin x0 x1 x2) := by
  unfold State.writeSrcWin
  apply State.guardWrite_kept
  · with_reducible assumption
  · intro k1 k2
    extract_lets +onlyGivenNames v3
    clear_value v3
    extract_lets +onlyGivenNames v4
    clear_value v4
    split
    · with_reducible assumption
    · split
      · apply State.unlessLocked_kept
        · with_reducible assumption
        · intro k5 k6
          with_reducible assumption
      · extract_lets +onlyGivenNames v7
        have h7 : Kept s0 v7 := by
          unfold v7
          apply State.writeRw_kept
          with_reducible assumption
        clear_value v7
        split
        · with_reducible assumption
        · apply State.closeWindow_kept
          with_reducible assumption

theorem execErFreezeWrite_kept {s0 : State} {x0 : Agent} {x1 : Bool} {x2 : State} (h0 : Kept s0 x2) :
    KeptN s0 (@execErFreezeWrite x0 x1 x2) := by
  unfold execErFreezeWrite
  apply KeptN.next
  apply State.atUnit_kept
  · with_reducible assumption
  · intro k1 k2
    apply State.writeFreeze_kept
    with_reducible assumption

theorem execFaultWindowClose_kept {s0 : State} {x0 : Nat} {x1 : State} (h0 : Kept s0 x1) :
    KeptN s0 (@execFaultWindowClose x0 x1) := by
  unfold execFaultWindowClose
  split
  · apply KeptN.next
    with_reducible assumption
  · extract_lets +onlyGivenNames v1
    have h1 : Kept s0 v1 := by
      unfold v1
      apply State.closeWindow_kept
      with_reducible assumption
    clear_value v1
    apply KeptN.next
    split
    · apply State.event_kept
      with_reducible assumption
    · with_reducible assumption

theorem execFcSrcCfgWrite_kept {s0 : State} {x0 : Agent} {x1 : Bool} {x2 : Nat} {x3 : State} (h0 : Kept s0 x3) :
    KeptN s0 (@execFcSrcCfgWrite x0 x1 x2 x3) := by
  unfold execFcSrcCfgWrite
  apply KeptN.next
  apply State.atUnit_kept
  · with_reducible assumption
  · intro k1 k2
    split
    · apply State.writeSrcWin_kept
      with_reducible assumption
    · apply State.writeSrcCfg_kept
      with_reducible assumption

theorem execFcStickyClear_kept {s0 : State} {x0 : Agent} {x1 x2 : Nat} {x3 : State} (h0 : Kept s0 x3) :
    KeptN s0 (@execFcStickyClear x0 x1 x2 x3) := by
  unfold execFcStickyClear
  apply KeptN.next
  apply State.atUnit_kept
  · with_reducible assumption
  · intro k1 k2
    apply State.clearSticky_kept
    with_reducible assumption

theorem execFcUnackClear_kept {s0 : State} {x0 : Agent} {x1 x2 : Nat} {x3 : State} (h0 : Kept s0 x3) :
    KeptN s0 (@execFcUnackClear x0 x1 x2 x3) := by
  unfold execFcUnackClear
  apply KeptN.next
  apply State.atUnit_kept
  · with_reducible assumption
  · intro k1 k2
    apply State.acknowledge_kept
    with_reducible assumption

theorem execFreezeTimeout_kept {s0 : State} {x0 : Agent} {x1 : State} (h0 : Kept s0 x1) :
    KeptN s0 (@execFreezeTimeout x0 x1) := by
  unfold execFreezeTimeout
  apply KeptN.next
  split
  · apply State.putFlag_kept
    apply State.putFlag_kept
    with_reducible assumption
  · with_reducible assumption

theorem execHistogramConfigWrite_kept {s0 : State} {x0 : Agent} {x1 x2 : Nat} {x3 : State} (h0 : Kept s0 x3) :
    KeptN s0 (@execHistogramConfigWrite x0 x1 x2 x3) := by
  unfold execHistogramConfigWrite
  apply KeptN.next
  apply State.atUnit_kept
  · with_reducible assumption
  · intro k1 k2
    split
    · apply State.writeHist_kept
      with_reducible assumption
    · apply State.writeHist_kept
      with_reducible assumption
    · apply State.writeHist_kept
      with_reducible assumption
    · with_reducible assumption

theorem execRecorderClear_kept {s0 : State} {x0 : Agent} {x1 : State} (h0 : Kept s0 x1) :
    KeptN s0 (@execRecorderClear x0 x1) := by
  unfold execRecorderClear
  apply KeptN.next
  apply State.atUnit_kept
  · with_reducible assumption
  · intro k1 k2
    apply State.guardWrite_kept
    · with_reducible assumption
    · intro k3 k4
      apply State.clearRecorder_kept
      with_reducible assumption

theorem execRecorderClearPending_kept {s0 x0 : State} (h0 : Kept s0 x0) :
    KeptN s0 (@execRecorderClearPending x0) := by
  unfold execRecorderClearPending
  apply KeptN.next
  split
  · apply State.emptyRecorder_kept
    with_reducible assumption
  · with_reducible assumption

end Sys2Proof.Machine
end

