-- ==== Sys2Proof/Laws/KeptSecurity.lean ====
section
/-! SUPPORT. What the operations of Machine/Security.lean keep (`Kept`): one lemma each. -/

set_option linter.unusedVariables false

namespace Sys2Proof.Machine

theorem State.ageNonce_kept {s0 x0 : State} {x1 : Nat} (h0 : Kept s0 x0) :
    Kept s0 (@State.ageNonce x0 x1) := by
  unfold State.ageNonce
  split
  · with_reducible assumption
  · apply State.put_kept
    with_reducible assumption

theorem State.answerMbx_kept {s0 x0 : State} {x1 x2 : Nat} {x3 : optParam (List Nat) []} {x4 : optParam (List Byte) []} (h0 : Kept s0 x0) :
    Kept s0 (@State.answerMbx x0 x1 x2 x3 x4) := by
  unfold State.answerMbx
  extract_lets +onlyGivenNames v1
  have h1 : Kept s0 v1 := by
    unfold v1
    refine Kept.same (s := x0) ?_ rfl Sub.rfl' Sub.rfl' Sub.rfl' Sub.rfl' Sub.rfl'
    with_reducible assumption
  clear_value v1
  split
  · apply State.raise_kept
    with_reducible assumption
  · with_reducible assumption

theorem State.journalBatch_kept {s0 x0 : State} {x1 : List Nat} {x2 : Bool} {x3 : Nat} (h0 : Kept s0 x0) :
    Kept s0 (@State.journalBatch x0 x1 x2 x3) := by
  unfold State.journalBatch
  apply forEach_kept
  · with_reducible assumption
  · intro k1 k2 k3
    apply State.journal_kept
    with_reducible assumption

theorem State.pmResult_kept {s0 x0 : State} {x1 x2 x3 x4 : Nat} (h0 : Kept s0 x0) :
    Kept s0 (@State.pmResult x0 x1 x2 x3 x4) := by
  unfold State.pmResult
  apply State.put_kept
  apply State.put_kept
  apply State.put_kept
  with_reducible assumption

theorem State.revoke_kept {s0 x0 : State} {x1 : Cmd} (h0 : Kept s0 x0) :
    Kept s0 (@State.revoke x0 x1) := by
  unfold State.revoke
  extract_lets +onlyGivenNames v1
  have h1 : Kept s0 v1 := by
    unfold v1
    apply State.bump_kept
    with_reducible assumption
  clear_value v1
  extract_lets +onlyGivenNames v2
  have h2 : Kept s0 v2 := by
    unfold v2
    apply State.setCmd_kept
    with_reducible assumption
  clear_value v2
  split
  · apply State.setCmd_kept
    with_reducible assumption
  · split
    · with_reducible assumption
    · split
      · extract_lets +onlyGivenNames v3
        have h3 : Kept s0 v3 := by
          unfold v3
          refine Kept.same (s := v1) ?_ rfl Sub.rfl' Sub.rfl' Sub.rfl' Sub.rfl' Sub.rfl'
          with_reducible assumption
        clear_value v3
        apply State.cutWrite_kept
        apply State.setCmd_kept
        with_reducible assumption
      · split
        · with_reducible assumption
        · apply State.withdraw_kept
          with_reducible assumption

theorem State.fenceRevoke_kept {s0 x0 : State} {x1 : List Nat} (h0 : Kept s0 x0) :
    Kept s0 (@State.fenceRevoke x0 x1) := by
  unfold State.fenceRevoke
  apply forEach_kept
  · with_reducible assumption
  · intro k1 k2 k3
    split
    · apply State.revoke_kept
      with_reducible assumption
    · with_reducible assumption

theorem State.batchEffect_kept {s0 x0 : State} {x1 : Nat} {x2 : List Nat} {x3 : Bool} {x4 x5 : Nat} (h0 : Kept s0 x0) :
    Kept s0 (@State.batchEffect x0 x1 x2 x3 x4 x5) := by
  unfold State.batchEffect
  extract_lets +onlyGivenNames v1
  have h1 : Kept s0 v1 := by
    unfold v1
    with_reducible assumption
  clear_value v1
  extract_lets +onlyGivenNames v2
  have h2 : Kept s0 v2 := by
    unfold v2
    apply State.journalBatch_kept
    with_reducible assumption
  clear_value v2
  extract_lets +onlyGivenNames v3
  clear_value v3
  extract_lets +onlyGivenNames v4
  have h4 : Kept s0 v4 := by
    unfold v4
    apply Kept.foldl
    · with_reducible assumption
    · intro k5 k6 k7
      apply State.applyRight_kept
      with_reducible assumption
  clear_value v4
  extract_lets +onlyGivenNames v8
  have h8 : Kept s0 v8 := by
    unfold v8
    apply State.put_kept
    with_reducible assumption
  clear_value v8
  extract_lets +onlyGivenNames v9
  have h9 : Kept s0 v9 := by
    unfold v9
    split
    · apply State.pmResult_kept
      with_reducible assumption
    · with_reducible assumption
  clear_value v9
  split
  · with_reducible assumption
  · extract_lets +onlyGivenNames v10
    clear_value v10
    extract_lets +onlyGivenNames v11
    have h11 : Kept s0 v11 := by
      unfold v11
      apply State.fenceRevoke_kept
      with_reducible assumption
    clear_value v11
    extract_lets +onlyGivenNames v12
    have h12 : Kept s0 v12 := by
      unfold v12
      with_reducible assumption
    clear_value v12
    apply State.releaseWithEvents_kept
    with_reducible assumption

theorem State.claimOwner_kept {s0 x0 : State} {x1 : Bool} (h0 : Kept s0 x0) :
    Kept s0 (@State.claimOwner x0 x1) := by
  unfold State.claimOwner
  split
  · apply State.answerMbx_kept
    with_reducible assumption
  · split
    · apply State.answerMbx_kept
      with_reducible assumption
    · extract_lets +onlyGivenNames v1
      have h1 : Kept s0 v1 := by
        unfold v1
        refine Kept.same (s := x0) ?_ rfl Sub.rfl' Sub.rfl' Sub.rfl' Sub.rfl' Sub.rfl'
        with_reducible assumption
      clear_value v1
      split
      · apply State.answerMbx_kept
        with_reducible assumption
      · apply State.answerMbx_kept
        apply State.putFlag_kept
        with_reducible assumption

theorem State.endMbx_kept {s0 x0 : State} {x1 : MbxResp} (h0 : Kept s0 x0) :
    Kept s0 (@State.endMbx x0 x1) := by
  unfold State.endMbx
  extract_lets +onlyGivenNames v1
  clear_value v1
  extract_lets +onlyGivenNames v2
  have h2 : Kept s0 v2 := by
    unfold v2
    split
    · with_reducible assumption
    · split
      apply State.sendFn_kept
      refine KeptP.eq (by assumption) ?_
      split
      · apply KeptP.mk'
        with_reducible assumption
      · apply State.takeFree_kept
        with_reducible assumption
  clear_value v2
  extract_lets +onlyGivenNames v3
  have h3 : Kept s0 v3 := by
    unfold v3
    refine Kept.same (s := v2) ?_ rfl Sub.rfl' Sub.rfl' Sub.rfl' Sub.rfl' Sub.rfl'
    with_reducible assumption
  clear_value v3
  extract_lets +onlyGivenNames v4
  have h4 : Kept s0 v4 := by
    unfold v4
    apply State.putFlag_kept
    apply State.put_kept
    apply State.put_kept
    with_reducible assumption
  clear_value v4
  extract_lets +onlyGivenNames v5
  have h5 : Kept s0 v5 := by
    unfold v5
    apply State.putFlag_kept
    apply State.bump_kept
    with_reducible assumption
  clear_value v5
  split
  · apply State.sendMsix_kept
    with_reducible assumption
  · with_reducible assumption

theorem State.install_kept {s0 x0 : State} {x1 : Nat} {x2 : List Byte} (h0 : Kept s0 x0) :
    Kept s0 (@State.install x0 x1 x2) := by
  unfold State.install
  extract_lets +onlyGivenNames v1
  have h1 : Kept s0 v1 := by
    unfold v1
    apply State.dropLicence_kept
    with_reducible assumption
  clear_value v1
  extract_lets +onlyGivenNames v2
  clear_value v2
  extract_lets +onlyGivenNames v3
  have h3 : Kept s0 v3 := by
    unfold v3
    refine Kept.same (s := v1) ?_ rfl Sub.rfl' Sub.rfl' Sub.rfl' Sub.rfl' Sub.rfl'
    with_reducible assumption
  clear_value v3
  extract_lets +onlyGivenNames v4
  have h4 : Kept s0 v4 := by
    unfold v4
    apply State.journal_kept
    apply State.newKey_kept
    with_reducible assumption
  clear_value v4
  split
  · apply State.journalAttr_kept
    with_reducible assumption
  · with_reducible assumption

theorem State.licenceInstall_kept {s0 x0 : State} {x1 : List Byte} {x2 : Bool} (h0 : Kept s0 x0) :
    Kept s0 (@State.licenceInstall x0 x1 x2) := by
  unfold State.licenceInstall
  extract_lets +onlyGivenNames v1
  clear_value v1
  extract_lets +onlyGivenNames v2
  clear_value v2
  split
  · apply State.answerMbx_kept
    with_reducible assumption
  · apply State.answerMbx_kept
    apply State.install_kept
    with_reducible assumption

theorem State.licenceRemove_kept {s0 x0 : State} {x1 : List Byte} (h0 : Kept s0 x0) :
    Kept s0 (@State.licenceRemove x0 x1) := by
  unfold State.licenceRemove
  extract_lets +onlyGivenNames v1
  clear_value v1
  extract_lets +onlyGivenNames v2
  clear_value v2
  split
  · apply State.answerMbx_kept
    with_reducible assumption
  · split
    · apply State.answerMbx_kept
      with_reducible assumption
    · split
      · apply State.answerMbx_kept
        with_reducible assumption
      · apply State.answerMbx_kept
        apply State.arm_kept
        with_reducible assumption

theorem State.licenceStatus_kept {s0 x0 : State} {x1 : List Byte} (h0 : Kept s0 x0) :
    Kept s0 (@State.licenceStatus x0 x1) := by
  unfold State.licenceStatus
  extract_lets +onlyGivenNames v1
  clear_value v1
  split
  · apply State.answerMbx_kept
    with_reducible assumption
  · split
    · apply State.answerMbx_kept
      with_reducible assumption
    · split
      apply State.answerMbx_kept
      refine KeptP.eq (by assumption) ?_
      apply State.takeFree_kept
      with_reducible assumption

theorem State.setMono_kept {s0 x0 : State} {x1 : Nat} (h0 : Kept s0 x0) :
    Kept s0 (@State.setMono x0 x1) := by
  unfold State.setMono
  apply State.put_kept
  apply State.put_kept
  apply State.put_kept
  with_reducible assumption

theorem State.monoAdvance_kept {s0 x0 : State} {x1 : List Byte} {x2 : Bool} (h0 : Kept s0 x0) :
    Kept s0 (@State.monoAdvance x0 x1 x2) := by
  unfold State.monoAdvance
  extract_lets +onlyGivenNames v1
  clear_value v1
  split
  · apply State.answerMbx_kept
    with_reducible assumption
  · split
    · apply State.answerMbx_kept
      with_reducible assumption
    · extract_lets +onlyGivenNames v2
      have h2 : Kept s0 v2 := by
        unfold v2
        refine Kept.same (s := x0) ?_ rfl Sub.rfl' Sub.rfl' Sub.rfl' Sub.rfl' Sub.rfl'
        with_reducible assumption
      clear_value v2
      split
      · apply State.answerMbx_kept
        with_reducible assumption
      · apply State.answerMbx_kept
        apply State.setMono_kept
        with_reducible assumption

theorem State.newNonce_kept {s0 x0 : State} (h0 : Kept s0 x0) :
    Kept s0 (@State.newNonce x0) := by
  unfold State.newNonce
  split
  extract_lets +onlyGivenNames v1
  clear_value v1
  apply State.answerMbx_kept
  apply State.put_kept
  refine Kept.same (s := ‹State›) ?_ rfl Sub.rfl' Sub.rfl' Sub.rfl' Sub.rfl' Sub.rfl'
  refine KeptP.eq (by assumption) ?_
  apply State.takeFreeBytes_kept
  with_reducible assumption

theorem State.onMbx_kept {s0 x0 : State} {x1 : List Byte} {x2 : Nat} {x3 : Bool} {x4 : State} (h0 : Kept s0 x0) (h1 : Kept s0 x4) :
    Kept s0 (@State.onMbx x0 x1 x2 x3 x4) := by
  unfold State.onMbx
  split
  · with_reducible assumption
  · split
    · apply State.answerMbx_kept
      with_reducible assumption
    · with_reducible assumption

theorem State.setTimeFloor_kept {s0 x0 : State} {x1 : Nat} (h0 : Kept s0 x0) :
    Kept s0 (@State.setTimeFloor x0 x1) := by
  unfold State.setTimeFloor
  apply State.put_kept
  apply State.put_kept
  with_reducible assumption

theorem State.submitBatch_kept {s0 x0 : State} {x1 : Agent} {x2 : Bool} {x3 : Nat} (h0 : Kept s0 x0) :
    Kept s0 (@State.submitBatch x0 x1 x2 x3) := by
  unfold State.submitBatch
  extract_lets +onlyGivenNames v1
  clear_value v1
  split
  · apply State.decodeFault_kept
    with_reducible assumption
  · split
    · apply State.pmResult_kept
      with_reducible assumption
    · extract_lets +onlyGivenNames v2
      have h2 : Kept s0 v2 := by
        unfold v2
        apply State.put_kept
        apply State.putFlag_kept
        with_reducible assumption
      clear_value v2
      extract_lets +onlyGivenNames v3
      have h3 : Kept s0 v3 := by
        unfold v3
        apply State.put_kept
        with_reducible assumption
      clear_value v3
      extract_lets +onlyGivenNames v4
      clear_value v4
      split
      · apply State.pmResult_kept
        with_reducible assumption
      · apply State.arm_kept
        apply State.pmResult_kept
        with_reducible assumption

theorem State.timeAttest_kept {s0 x0 : State} {x1 : List Byte} {x2 : Bool} (h0 : Kept s0 x0) :
    Kept s0 (@State.timeAttest x0 x1 x2) := by
  unfold State.timeAttest
  extract_lets +onlyGivenNames v1
  clear_value v1
  split
  · apply State.answerMbx_kept
    with_reducible assumption
  · split
    · apply State.answerMbx_kept
      with_reducible assumption
    · extract_lets +onlyGivenNames v2
      have h2 : Kept s0 v2 := by
        unfold v2
        refine Kept.same (s := x0) ?_ rfl Sub.rfl' Sub.rfl' Sub.rfl' Sub.rfl' Sub.rfl'
        with_reducible assumption
      clear_value v2
      split
      · split
        apply State.answerMbx_kept
        refine KeptP.eq (by assumption) ?_
        apply State.takeFree_kept
        with_reducible assumption
      · extract_lets +onlyGivenNames v3
        have h3 : Kept s0 v3 := by
          unfold v3
          apply State.setTimeFloor_kept
          with_reducible assumption
        clear_value v3
        apply State.answerMbx_kept
        apply State.putFlag_kept
        apply State.loadCalendar_kept
        with_reducible assumption

theorem execClaimOwner_kept {s0 : State} {x0 : List Byte} {x1 x2 : Bool} {x3 : State} (h0 : Kept s0 x3) :
    KeptN s0 (@execClaimOwner x0 x1 x2 x3) := by
  unfold execClaimOwner
  apply KeptN.next
  apply State.onMbx_kept
  · with_reducible assumption
  · apply State.claimOwner_kept
    with_reducible assumption

theorem execCoreHang_kept {s0 : State} {x0 : Nat} {x1 : State} (h0 : Kept s0 x1) :
    KeptN s0 (@execCoreHang x0 x1) := by
  unfold execCoreHang
  split
  · apply KeptN.next
    with_reducible assumption
  · apply KeptN.next
    split
    · apply State.raise_kept
      with_reducible assumption
    · split
      · apply State.raise_kept
        with_reducible assumption
      · split
        · apply State.raise_kept
          with_reducible assumption
        · apply State.raise_kept
          with_reducible assumption

theorem execGetChallenge_kept {s0 : State} {x0 : List Byte} {x1 : State} (h0 : Kept s0 x1) :
    KeptN s0 (@execGetChallenge x0 x1) := by
  unfold execGetChallenge
  apply KeptN.next
  apply State.onMbx_kept
  · with_reducible assumption
  · apply State.newNonce_kept
    with_reducible assumption

theorem execGetInfo_kept {s0 : State} {x0 : List Byte} {x1 : State} (h0 : Kept s0 x1) :
    KeptN s0 (@execGetInfo x0 x1) := by
  unfold execGetInfo
  apply KeptN.next
  apply State.onMbx_kept
  · with_reducible assumption
  · apply State.answerMbx_kept
    with_reducible assumption

theorem execKeyDestruction_kept {s0 : State} {x0 x1 : Nat} {x2 : State} (h0 : Kept s0 x2) :
    KeptN s0 (@execKeyDestruction x0 x1 x2) := by
  unfold execKeyDestruction
  extract_lets +onlyGivenNames v1
  clear_value v1
  split
  · split
    · apply KeptN.next
      with_reducible assumption
    · apply KeptN.next
      apply State.put_kept
      refine Kept.same (s := x2) ?_ rfl Sub.rfl' Sub.rfl' Sub.rfl' Sub.rfl' Sub.rfl'
      with_reducible assumption
  · split
    · apply KeptN.next
      with_reducible assumption
    · apply KeptN.next
      refine Kept.same (s := x2) ?_ rfl Sub.rfl' Sub.rfl' Sub.rfl' Sub.rfl' Sub.rfl'
      with_reducible assumption

theorem execLicenceInstall_kept {s0 : State} {x0 : List Byte} {x1 : Bool} {x2 : State} (h0 : Kept s0 x2) :
    KeptN s0 (@execLicenceInstall x0 x1 x2) := by
  unfold execLicenceInstall
  apply KeptN.next
  apply State.onMbx_kept
  · with_reducible assumption
  · apply State.licenceInstall_kept
    with_reducible assumption

theorem execLicenceRemove_kept {s0 : State} {x0 : List Byte} {x1 : State} (h0 : Kept s0 x1) :
    KeptN s0 (@execLicenceRemove x0 x1) := by
  unfold execLicenceRemove
  apply KeptN.next
  apply State.onMbx_kept
  · with_reducible assumption
  · apply State.licenceRemove_kept
    with_reducible assumption

theorem execLicenceStatus_kept {s0 : State} {x0 : List Byte} {x1 : State} (h0 : Kept s0 x1) :
    KeptN s0 (@execLicenceStatus x0 x1) := by
  unfold execLicenceStatus
  apply KeptN.next
  apply State.onMbx_kept
  · with_reducible assumption
  · apply State.licenceStatus_kept
    with_reducible assumption

theorem execLockstepMismatch_kept {s0 : State} {x0 : Nat} {x1 : State} (h0 : Kept s0 x1) :
    KeptN s0 (@execLockstepMismatch x0 x1) := by
  unfold execLockstepMismatch
  split
  · apply KeptN.next
    with_reducible assumption
  · apply KeptN.next
    apply State.haltPair_kept
    with_reducible assumption

theorem execMailboxCommandDone_kept {s0 : State} {x0 : List Byte} {x1 : Bool} {x2 : State} (h0 : Kept s0 x2) :
    KeptN s0 (@execMailboxCommandDone x0 x1 x2) := by
  unfold execMailboxCommandDone
  split
  · apply KeptN.next
    with_reducible assumption
  · extract_lets +onlyGivenNames v1
    clear_value v1
    split
    · apply KeptN.next
      apply State.endMbx_kept
      with_reducible assumption
    · split
      · apply KeptN.next
        apply State.endMbx_kept
        with_reducible assumption
      · split
        · apply KeptN.next
          apply State.endMbx_kept
          with_reducible assumption
        · apply KeptN.next
          with_reducible assumption

theorem execMonoAdvance_kept {s0 : State} {x0 : List Byte} {x1 x2 : Bool} {x3 : State} (h0 : Kept s0 x3) :
    KeptN s0 (@execMonoAdvance x0 x1 x2 x3) := by
  unfold execMonoAdvance
  apply KeptN.next
  apply State.onMbx_kept
  · with_reducible assumption
  · apply State.monoAdvance_kept
    with_reducible assumption

theorem execProtectionBatchSubmit_kept {s0 : State} {x0 : Agent} {x1 : Bool} {x2 : Nat} {x3 : State} (h0 : Kept s0 x3) :
    KeptN s0 (@execProtectionBatchSubmit x0 x1 x2 x3) := by
  unfold execProtectionBatchSubmit
  apply KeptN.next
  apply State.atUnit_kept
  · with_reducible assumption
  · intro k1 k2
    apply State.submitBatch_kept
    with_reducible assumption

theorem execReleaseOwner_kept {s0 : State} {x0 : List Byte} {x1 : State} (h0 : Kept s0 x1) :
    KeptN s0 (@execReleaseOwner x0 x1) := by
  unfold execReleaseOwner
  apply KeptN.next
  apply State.onMbx_kept
  · with_reducible assumption
  · apply State.answerMbx_kept
    apply State.putFlag_kept
    with_reducible assumption

theorem execTimeAttest_kept {s0 : State} {x0 : List Byte} {x1 x2 : Bool} {x3 : State} (h0 : Kept s0 x3) :
    KeptN s0 (@execTimeAttest x0 x1 x2 x3) := by
  unfold execTimeAttest
  apply KeptN.next
  apply State.onMbx_kept
  · with_reducible assumption
  · apply State.timeAttest_kept
    with_reducible assumption

theorem execTimeFloorRaise_kept {s0 x0 : State} (h0 : Kept s0 x0) :
    KeptN s0 (@execTimeFloorRaise x0) := by
  unfold execTimeFloorRaise
  apply KeptN.next
  split
  · apply State.setTimeFloor_kept
    with_reducible assumption
  · with_reducible assumption

end Sys2Proof.Machine
end

