-- ==== Sys2Proof/Laws/KeptFirmware.lean ====
section
/-! SUPPORT. What the operations of Machine/Firmware.lean keep (`Kept`): one lemma each. -/

set_option linter.unusedVariables false

namespace Sys2Proof.Machine

theorem State.armFirmware_kept {s0 x0 : State} {x1 x2 : Nat} (h0 : Kept s0 x0) :
    Kept s0 (@State.armFirmware x0 x1 x2) := by
  unfold State.armFirmware
  apply State.arm_kept
  apply State.put_kept
  apply State.put_kept
  with_reducible assumption

theorem State.beginCommit_kept {s0 x0 : State} {x1 : Cmd} {x2 : Nat} (h0 : Kept s0 x0) :
    Kept s0 (@State.beginCommit x0 x1 x2) := by
  unfold State.beginCommit
  extract_lets +onlyGivenNames v1
  have h1 : Kept s0 v1 := by
    unfold v1
    apply State.put_kept
    apply State.put_kept
    apply State.put_kept
    with_reducible assumption
  clear_value v1
  apply State.setCmd_kept
  apply State.putFlag_kept
  apply State.put_kept
  with_reducible assumption

theorem State.fwAnswer_kept {s0 x0 : State} {x1 : Field} {x2 : Result} (h0 : Kept s0 x0) :
    Kept s0 (@State.fwAnswer x0 x1 x2) := by
  unfold State.fwAnswer
  extract_lets +onlyGivenNames v1
  clear_value v1
  extract_lets +onlyGivenNames v2
  have h2 : Kept s0 v2 := by
    unfold v2
    apply State.put_kept
    with_reducible assumption
  clear_value v2
  split
  · apply State.finish_kept
    with_reducible assumption
  · with_reducible assumption

theorem State.cancelFirmware_kept {s0 x0 : State} (h0 : Kept s0 x0) :
    Kept s0 (@State.cancelFirmware x0) := by
  unfold State.cancelFirmware
  apply State.fwAnswer_kept
  apply State.put_kept
  apply State.put_kept
  with_reducible assumption

theorem State.fwReport_kept {s0 x0 : State} {x1 x2 x3 x4 : Nat} (h0 : Kept s0 x0) :
    Kept s0 (@State.fwReport x0 x1 x2 x3 x4) := by
  unfold State.fwReport
  extract_lets +onlyGivenNames v1
  have h1 : Kept s0 v1 := by
    unfold v1
    apply State.put_kept
    apply State.put_kept
    apply State.put_kept
    apply State.put_kept
    with_reducible assumption
  clear_value v1
  split
  · with_reducible assumption
  · apply State.raise_kept
    with_reducible assumption

theorem State.endCommit_kept {s0 x0 : State} {x1 x2 : Nat} {x3 : Result} (h0 : Kept s0 x0) :
    Kept s0 (@State.endCommit x0 x1 x2 x3) := by
  unfold State.endCommit
  extract_lets +onlyGivenNames v1
  have h1 : Kept s0 v1 := by
    unfold v1
    apply State.putFlag_kept
    apply State.putFlag_kept
    with_reducible assumption
  clear_value v1
  apply State.fwAnswer_kept
  apply State.fwReport_kept
  refine Kept.same (s := v1) ?_ rfl Sub.rfl' Sub.rfl' Sub.rfl' Sub.rfl' Sub.rfl'
  with_reducible assumption

theorem State.setNextReset_kept {s0 x0 : State} {x1 : Nat} (h0 : Kept s0 x0) :
    Kept s0 (@State.setNextReset x0 x1) := by
  unfold State.setNextReset
  apply State.put_kept
  apply State.putFlag_kept
  apply State.put_kept
  with_reducible assumption

theorem State.committed_kept {s0 x0 : State} {x1 : FwSlot} (h0 : Kept s0 x0) :
    Kept s0 (@State.committed x0 x1) := by
  unfold State.committed
  extract_lets +onlyGivenNames v1
  clear_value v1
  extract_lets +onlyGivenNames v2
  clear_value v2
  split
  · apply State.endCommit_kept
    with_reducible assumption
  · split
    · apply State.endCommit_kept
      apply State.setNextReset_kept
      with_reducible assumption
    · split
      · apply State.endCommit_kept
        apply State.setNextReset_kept
        with_reducible assumption
      · split
        · extract_lets +onlyGivenNames v3
          clear_value v3
          apply State.armFirmware_kept
          apply State.put_kept
          apply State.endCommit_kept
          apply State.put_kept
          with_reducible assumption
        · split
          · apply State.endCommit_kept
            apply State.armFirmware_kept
            with_reducible assumption
          · apply State.endCommit_kept
            with_reducible assumption

theorem State.switchTables_kept {s0 x0 : State} {x1 : Nat} (h0 : Kept s0 x0) :
    Kept s0 (@State.switchTables x0 x1) := by
  unfold State.switchTables
  apply forEach_kept
  · with_reducible assumption
  · intro k1 k2 k3
    split
    · apply State.put_kept
      with_reducible assumption
    · with_reducible assumption

theorem State.fwBoundary_kept {s0 x0 : State} (h0 : Kept s0 x0) :
    Kept s0 (@State.fwBoundary x0) := by
  unfold State.fwBoundary
  split
  · with_reducible assumption
  · split
    · extract_lets +onlyGivenNames v1
      have h1 : Kept s0 v1 := by
        unfold v1
        apply State.switchTables_kept
        with_reducible assumption
      clear_value v1
      extract_lets +onlyGivenNames v2
      clear_value v2
      extract_lets +onlyGivenNames v3
      have h3 : Kept s0 v3 := by
        unfold v3
        apply State.putFlag_kept
        apply State.put_kept
        apply State.put_kept
        with_reducible assumption
      clear_value v3
      apply State.fwAnswer_kept
      apply State.fwReport_kept
      apply State.bump_kept
      with_reducible assumption
    · split
      · apply State.putFlag_kept
        apply State.put_kept
        apply State.put_kept
        apply State.put_kept
        with_reducible assumption
      · apply State.put_kept
        with_reducible assumption

theorem State.prepareRoll_kept {s0 x0 : State} (h0 : Kept s0 x0) :
    Kept s0 (@State.prepareRoll x0) := by
  unfold State.prepareRoll
  split
  · with_reducible assumption
  · split
    · apply State.putFlag_kept
      apply State.put_kept
      apply State.put_kept
      with_reducible assumption
    · apply State.putFlag_kept
      with_reducible assumption

theorem State.nextCluster_kept {s0 x0 : State} (h0 : Kept s0 x0) :
    Kept s0 (@State.nextCluster x0) := by
  unfold State.nextCluster
  extract_lets +onlyGivenNames v1
  clear_value v1
  extract_lets +onlyGivenNames v2
  have h2 : Kept s0 v2 := by
    unfold v2
    apply State.put_kept
    with_reducible assumption
  clear_value v2
  split
  · split
    · extract_lets +onlyGivenNames v3
      have h3 : Kept s0 v3 := by
        unfold v3
        apply State.put_kept
        with_reducible assumption
      clear_value v3
      extract_lets +onlyGivenNames v4
      have h4 : Kept s0 v4 := by
        unfold v4
        split
        · apply State.putFlag_kept
          with_reducible assumption
        · with_reducible assumption
      clear_value v4
      split
      · apply State.put_kept
        with_reducible assumption
      · with_reducible assumption
    · apply State.prepareRoll_kept
      apply State.put_kept
      with_reducible assumption
  · split
    · apply State.put_kept
      apply State.put_kept
      with_reducible assumption
    · apply State.prepareRoll_kept
      apply State.put_kept
      with_reducible assumption

theorem State.onCommit_kept {s0 x0 : State} {x1 x2 : Nat} {x3 : Cmd → State} (h0 : Kept s0 x0) (h1 : ∀ y0, Kept s0 (x3 y0)) :
    Kept s0 (@State.onCommit x0 x1 x2 x3) := by
  unfold State.onCommit
  apply State.onAdmin_kept
  · with_reducible assumption
  · intro k1
    split
    · with_reducible assumption
    · split
      · apply State.finish_kept
        apply State.consumePkg_kept
        with_reducible assumption
      · split
        · apply State.finish_kept
          apply State.consumePkg_kept
          with_reducible assumption
        · apply h1

theorem State.recordRunning_kept {s0 x0 : State} {x1 : FwSlot} (h0 : Kept s0 x0) :
    Kept s0 (@State.recordRunning x0 x1) := by
  unfold State.recordRunning
  extract_lets +onlyGivenNames v1
  have h1 : Kept s0 v1 := by
    unfold v1
    apply State.put_kept
    with_reducible assumption
  clear_value v1
  split
  · apply State.setMono_kept
    with_reducible assumption
  · with_reducible assumption

theorem State.revertActivation_kept {s0 x0 : State} {x1 : Nat} (h0 : Kept s0 x0) :
    Kept s0 (@State.revertActivation x0 x1) := by
  unfold State.revertActivation
  extract_lets +onlyGivenNames v1
  clear_value v1
  extract_lets +onlyGivenNames v2
  extract_lets +onlyGivenNames v3
  have h3 : Kept s0 v3 := by
    unfold v3
    apply State.fwReport_kept
    with_reducible assumption
  clear_value v3
  extract_lets +onlyGivenNames v4
  have h4 : Kept s0 v4 := by
    unfold v4
    apply State.putFlag_kept
    with_reducible assumption
  clear_value v4
  split
  · apply State.put_kept
    apply State.put_kept
    with_reducible assumption
  · extract_lets +onlyGivenNames v5
    have h5 : Kept s0 v5 := by
      unfold v5
      split
      · apply State.putFlag_kept
        with_reducible assumption
      · with_reducible assumption
    clear_value v5
    split
    · apply State.put_kept
      with_reducible assumption
    · with_reducible assumption

theorem State.setSysUnlock_kept {s0 x0 : State} {x1 : Bool} (h0 : Kept s0 x0) :
    Kept s0 (@State.setSysUnlock x0 x1) := by
  unfold State.setSysUnlock
  apply forEach_kept
  · with_reducible assumption
  · intro k1 k2 k3
    apply State.putFlag_kept
    with_reducible assumption

theorem State.startActivation_kept {s0 x0 : State} {x1 : Nat} (h0 : Kept s0 x0) :
    Kept s0 (@State.startActivation x0 x1) := by
  unfold State.startActivation
  split
  · with_reducible assumption
  · extract_lets +onlyGivenNames v1
    have h1 : Kept s0 v1 := by
      unfold v1
      apply State.switchTables_kept
      apply State.putFlag_kept
      apply State.put_kept
      with_reducible assumption
    clear_value v1
    extract_lets +onlyGivenNames v2
    have h2 : Kept s0 v2 := by
      unfold v2
      split
      · apply State.putFlag_kept
        with_reducible assumption
      · with_reducible assumption
    clear_value v2
    split
    · apply State.put_kept
      with_reducible assumption
    · with_reducible assumption

theorem execActivateExistingSlot_kept {s0 : State} {x0 : Nat} {x1 : State} (h0 : Kept s0 x1) :
    KeptN s0 (@execActivateExistingSlot x0 x1) := by
  unfold execActivateExistingSlot
  apply KeptN.next
  apply State.onCommit_kept
  · with_reducible assumption
  · intro k1
    extract_lets +onlyGivenNames v2
    clear_value v2
    extract_lets +onlyGivenNames v3
    split
    · unfold v3
      apply State.finish_kept
      apply State.fwReport_kept
      apply State.setNextReset_kept
      with_reducible assumption
    · split
      · unfold v3
        apply State.finish_kept
        apply State.fwReport_kept
        with_reducible assumption
      · split
        · unfold v3
          apply State.finish_kept
          apply State.fwReport_kept
          with_reducible assumption
        · split
          · unfold v3
            apply State.finish_kept
            apply State.fwReport_kept
            with_reducible assumption
          · split
            · unfold v3
              apply State.finish_kept
              apply State.fwReport_kept
              with_reducible assumption
            · unfold v3
              apply State.finish_kept
              apply State.fwReport_kept
              apply State.setNextReset_kept
              with_reducible assumption

theorem execActivationRecord_kept {s0 x0 : State} (h0 : Kept s0 x0) :
    KeptN s0 (@execActivationRecord x0) := by
  unfold execActivationRecord
  split
  · apply KeptN.next
    with_reducible assumption
  · split
    · apply KeptN.next
      with_reducible assumption
    · extract_lets +onlyGivenNames v1
      have h1 : Kept s0 v1 := by
        unfold v1
        apply State.put_kept
        apply State.recordRunning_kept
        with_reducible assumption
      clear_value v1
      extract_lets +onlyGivenNames v2
      have h2 : Kept s0 v2 := by
        unfold v2
        apply State.bump_kept
        apply State.put_kept
        apply State.put_kept
        with_reducible assumption
      clear_value v2
      apply KeptN.next
      apply State.fwAnswer_kept
      apply State.fwReport_kept
      with_reducible assumption

theorem execClusterCoreReady_kept {s0 : State} {x0 : Nat} {x1 : Bool} {x2 : State} (h0 : Kept s0 x2) :
    KeptN s0 (@execClusterCoreReady x0 x1 x2) := by
  unfold execClusterCoreReady
  extract_lets +onlyGivenNames v1
  clear_value v1
  split
  · apply KeptN.next
    with_reducible assumption
  · split
    · apply KeptN.next
      split
      · with_reducible assumption
      · apply State.revertActivation_kept
        with_reducible assumption
    · extract_lets +onlyGivenNames v2
      have h2 : Kept s0 v2 := by
        unfold v2
        apply State.put_kept
        with_reducible assumption
      clear_value v2
      apply KeptN.next
      split
      · apply State.put_kept
        apply State.put_kept
        with_reducible assumption
      · with_reducible assumption

theorem execClusterOutOfService_kept {s0 x0 : State} (h0 : Kept s0 x0) :
    KeptN s0 (@execClusterOutOfService x0) := by
  unfold execClusterOutOfService
  split
  · apply KeptN.next
    with_reducible assumption
  · extract_lets +onlyGivenNames v1
    have h1 : Kept s0 v1 := by
      unfold v1
      apply State.put_kept
      apply State.put_kept
      apply State.put_kept
      with_reducible assumption
    clear_value v1
    apply KeptN.next
    apply State.putFlag_kept
    with_reducible assumption

theorem execClusterReturn_kept {s0 x0 : State} (h0 : Kept s0 x0) :
    KeptN s0 (@execClusterReturn x0) := by
  unfold execClusterReturn
  extract_lets +onlyGivenNames v1
  clear_value v1
  split
  · apply KeptN.next
    with_reducible assumption
  · apply KeptN.next
    apply State.nextCluster_kept
    apply State.put_kept
    apply State.putFlag_kept
    with_reducible assumption

theorem execClusterRollPrepare_kept {s0 x0 : State} (h0 : Kept s0 x0) :
    KeptN s0 (@execClusterRollPrepare x0) := by
  unfold execClusterRollPrepare
  apply KeptN.next
  apply State.prepareRoll_kept
  with_reducible assumption

theorem execClusterWaitTimeout_kept {s0 x0 : State} (h0 : Kept s0 x0) :
    KeptN s0 (@execClusterWaitTimeout x0) := by
  unfold execClusterWaitTimeout
  apply KeptN.next
  split
  · apply State.fwReport_kept
    with_reducible assumption
  · with_reducible assumption

theorem execCommitActivateAtReset_kept {s0 : State} {x0 : Nat} {x1 : State} (h0 : Kept s0 x1) :
    KeptN s0 (@execCommitActivateAtReset x0 x1) := by
  unfold execCommitActivateAtReset
  apply KeptN.next
  apply State.onCommit_kept
  · with_reducible assumption
  · intro k1
    apply State.beginCommit_kept
    with_reducible assumption

theorem execCommitActivateAtTick_kept {s0 : State} {x0 : Nat} {x1 : State} (h0 : Kept s0 x1) :
    KeptN s0 (@execCommitActivateAtTick x0 x1) := by
  unfold execCommitActivateAtTick
  apply KeptN.next
  apply State.onCommit_kept
  · with_reducible assumption
  · intro k1
    apply State.beginCommit_kept
    with_reducible assumption

theorem execCommitActivateNow_kept {s0 : State} {x0 : Nat} {x1 : State} (h0 : Kept s0 x1) :
    KeptN s0 (@execCommitActivateNow x0 x1) := by
  unfold execCommitActivateNow
  apply KeptN.next
  apply State.onCommit_kept
  · with_reducible assumption
  · intro k1
    apply State.beginCommit_kept
    with_reducible assumption

theorem execCommitNoActivation_kept {s0 : State} {x0 : Nat} {x1 : State} (h0 : Kept s0 x1) :
    KeptN s0 (@execCommitNoActivation x0 x1) := by
  unfold execCommitNoActivation
  apply KeptN.next
  apply State.onCommit_kept
  · with_reducible assumption
  · intro k1
    apply State.beginCommit_kept
    with_reducible assumption

theorem execCommitVerifyDone_kept {s0 : State} {x0 x1 : Bool} {x2 : State} (h0 : Kept s0 x2) :
    KeptN s0 (@execCommitVerifyDone x0 x1 x2) := by
  unfold execCommitVerifyDone
  split
  · apply KeptN.next
    with_reducible assumption
  · split
    · extract_lets +onlyGivenNames v1
      have h1 : Kept s0 v1 := by
        unfold v1
        apply State.put_kept
        with_reducible assumption
      clear_value v1
      apply KeptN.next
      apply State.endCommit_kept
      refine Kept.same (s := v1) ?_ rfl Sub.rfl' Sub.rfl' Sub.rfl' Sub.rfl' Sub.rfl'
      with_reducible assumption
    · extract_lets +onlyGivenNames v2
      have h2 : Kept s0 v2 := by
        unfold v2
        refine Kept.same (s := x2) ?_ rfl Sub.rfl' Sub.rfl' Sub.rfl' Sub.rfl' Sub.rfl'
        with_reducible assumption
      clear_value v2
      apply KeptN.next
      apply State.setSysUnlock_kept
      apply State.putFlag_kept
      apply State.put_kept
      with_reducible assumption

theorem execFirmwareImageDownload_kept {s0 : State} {x0 : Nat} {x1 : List Byte} {x2 : State} (h0 : Kept s0 x2) :
    KeptN s0 (@execFirmwareImageDownload x0 x1 x2) := by
  unfold execFirmwareImageDownload
  apply KeptN.next
  apply State.onAdmin_kept
  · with_reducible assumption
  · intro k1
    extract_lets +onlyGivenNames v2
    clear_value v2
    extract_lets +onlyGivenNames v3
    clear_value v3
    split
    · apply State.finish_kept
      with_reducible assumption
    · split
      · apply State.finish_kept
        with_reducible assumption
      · apply State.finish_kept
        refine Kept.same (s := x2) ?_ rfl Sub.rfl' Sub.rfl' Sub.rfl' Sub.rfl' Sub.rfl'
        with_reducible assumption

theorem execFrontReloadDone_kept {s0 x0 : State} (h0 : Kept s0 x0) :
    KeptN s0 (@execFrontReloadDone x0) := by
  unfold execFrontReloadDone
  split
  · apply KeptN.next
    with_reducible assumption
  · apply KeptN.next
    apply State.postHeld_kept
    apply State.put_kept
    apply State.putFlag_kept
    with_reducible assumption

theorem execMapReloadHalf_kept {s0 x0 : State} (h0 : Kept s0 x0) :
    KeptN s0 (@execMapReloadHalf x0) := by
  unfold execMapReloadHalf
  extract_lets +onlyGivenNames v1
  clear_value v1
  split
  · apply KeptN.next
    with_reducible assumption
  · split
    · apply KeptN.next
      split
      · apply State.put_kept
        with_reducible assumption
      · apply State.put_kept
        apply State.put_kept
        with_reducible assumption
    · apply KeptN.next
      split
      · apply State.put_kept
        with_reducible assumption
      · apply State.put_kept
        apply State.put_kept
        with_reducible assumption

theorem execReloadFail_kept {s0 : State} {x0 : Nat} {x1 : State} (h0 : Kept s0 x1) :
    KeptN s0 (@execReloadFail x0 x1) := by
  unfold execReloadFail
  extract_lets +onlyGivenNames v1
  clear_value v1
  extract_lets +onlyGivenNames v2
  clear_value v2
  split
  · apply KeptN.next
    with_reducible assumption
  · split
    · apply KeptN.next
      apply State.revertActivation_kept
      with_reducible assumption
    · split
      · apply KeptN.next
        apply State.revertActivation_kept
        with_reducible assumption
      · split
        · apply KeptN.next
          apply State.revertActivation_kept
          with_reducible assumption
        · apply KeptN.next
          with_reducible assumption

theorem execSlotWriteDone_kept {s0 : State} {x0 : Bool} {x1 : State} (h0 : Kept s0 x1) :
    KeptN s0 (@execSlotWriteDone x0 x1) := by
  unfold execSlotWriteDone
  split
  · apply KeptN.next
    with_reducible assumption
  · extract_lets +onlyGivenNames v1
    have h1 : Kept s0 v1 := by
      unfold v1
      apply State.setSysUnlock_kept
      with_reducible assumption
    clear_value v1
    split
    · apply KeptN.next
      apply State.endCommit_kept
      with_reducible assumption
    · split
      · apply KeptN.next
        apply State.endCommit_kept
        with_reducible assumption
      · apply KeptN.next
        apply State.committed_kept
        apply State.bump_kept
        refine Kept.same (s := v1) ?_ rfl Sub.rfl' Sub.rfl' Sub.rfl' Sub.rfl' Sub.rfl'
        with_reducible assumption

end Sys2Proof.Machine
end

