-- ==== Sys2Proof/Laws/KeptModes.lean ====
section
/-! SUPPORT. What the operations of Machine/Modes.lean keep (`Kept`): one lemma each. -/

set_option linter.unusedVariables false

namespace Sys2Proof.Machine

theorem State.auxDefaults_kept {s0 x0 : State} (h0 : Kept s0 x0) :
    Kept s0 (@State.auxDefaults x0) := by
  unfold State.auxDefaults
  extract_lets +onlyGivenNames v1
  have h1 : Kept s0 v1 := by
    unfold v1
    apply State.put_kept
    apply State.put_kept
    apply State.put_kept
    with_reducible assumption
  clear_value v1
  extract_lets +onlyGivenNames v2
  have h2 : Kept s0 v2 := by
    unfold v2
    apply State.put_kept
    with_reducible assumption
  clear_value v2
  apply forEach_kept
  · with_reducible assumption
  · intro k3 k4 k5
    split
    · apply State.put_kept
      apply State.put_kept
      with_reducible assumption
    · split
      split
      apply State.put_kept
      apply State.put_kept
      refine KeptP.eq (by assumption) ?_
      apply State.takeFree_kept
      refine KeptP.eq (by assumption) ?_
      apply State.takeFree_kept
      with_reducible assumption

theorem State.completeEntry_kept {s0 x0 : State} {x1 : Nat} (h0 : Kept s0 x0) :
    Kept s0 (@State.completeEntry x0 x1) := by
  unfold State.completeEntry
  apply State.answerPm_kept
  apply State.bump_kept
  apply State.put_kept
  apply State.put_kept
  apply State.put_kept
  with_reducible assumption

theorem State.gateIdle_kept {s0 x0 : State} (h0 : Kept s0 x0) :
    Kept s0 (@State.gateIdle x0) := by
  unfold State.gateIdle
  apply forEach_kept
  · with_reducible assumption
  · intro k1 k2 k3
    split
    · with_reducible assumption
    · apply State.gateAll_kept
      with_reducible assumption

theorem State.leaveFor_kept {s0 x0 : State} {x1 : Nat} (h0 : Kept s0 x0) :
    Kept s0 (@State.leaveFor x0 x1) := by
  unfold State.leaveFor
  extract_lets +onlyGivenNames v1
  have h1 : Kept s0 v1 := by
    unfold v1
    apply State.put_kept
    apply State.put_kept
    apply State.put_kept
    apply State.ungate_kept
    with_reducible assumption
  clear_value v1
  apply State.putFlag_kept
  split
  · apply State.gateIdle_kept
    with_reducible assumption
  · with_reducible assumption

theorem State.finishExit_kept {s0 x0 : State} (h0 : Kept s0 x0) :
    Kept s0 (@State.finishExit x0) := by
  unfold State.finishExit
  split
  · extract_lets +onlyGivenNames v1
    clear_value v1
    extract_lets +onlyGivenNames v2
    have h2 : Kept s0 v2 := by
      unfold v2
      apply State.put_kept
      apply State.leaveFor_kept
      with_reducible assumption
    clear_value v2
    split
    · apply State.put_kept
      with_reducible assumption
    · with_reducible assumption
  · with_reducible assumption

theorem State.logPatrol_kept {s0 x0 : State} {x1 : Nat} {x2 : Int} {x3 : Bool} (h0 : Kept s0 x0) :
    Kept s0 (@State.logPatrol x0 x1 x2 x3) := by
  unfold State.logPatrol
  extract_lets +onlyGivenNames v1
  clear_value v1
  extract_lets +onlyGivenNames v2
  clear_value v2
  extract_lets +onlyGivenNames v3
  have h3 : Kept s0 v3 := by
    unfold v3
    apply State.put_kept
    apply State.put_kept
    with_reducible assumption
  clear_value v3
  apply State.put_kept
  with_reducible assumption

theorem State.passAp2_kept {s0 x0 : State} (h0 : Kept s0 x0) :
    Kept s0 (@State.passAp2 x0) := by
  unfold State.passAp2
  split
  · apply State.abandonEntry_kept
    with_reducible assumption
  · extract_lets +onlyGivenNames v1
    have h1 : Kept s0 v1 := by
      unfold v1
      apply State.gateIdle_kept
      apply State.put_kept
      apply State.put_kept
      with_reducible assumption
    clear_value v1
    split
    · apply State.completeEntry_kept
      with_reducible assumption
    · with_reducible assumption

theorem State.patrolSample_kept {s0 x0 : State} {x1 : Nat} {x2 : Int} (h0 : Kept s0 x0) :
    Kept s0 (@State.patrolSample x0 x1 x2) := by
  unfold State.patrolSample
  extract_lets +onlyGivenNames v1
  clear_value v1
  extract_lets +onlyGivenNames v2
  clear_value v2
  split
  · with_reducible assumption
  · extract_lets +onlyGivenNames v3
    have h3 : Kept s0 v3 := by
      unfold v3
      apply State.logPatrol_kept
      with_reducible assumption
    clear_value v3
    extract_lets +onlyGivenNames v4
    have h4 : Kept s0 v4 := by
      unfold v4
      apply State.put_kept
      with_reducible assumption
    clear_value v4
    extract_lets +onlyGivenNames v5
    have h5 : Kept s0 v5 := by
      unfold v5
      split
      · apply State.emit_kept
        apply State.putFlag_kept
        with_reducible assumption
      · with_reducible assumption
    clear_value v5
    split
    · apply State.setMainEn_kept
      with_reducible assumption
    · with_reducible assumption

theorem State.pmSts_kept {s0 x0 : State} {x1 x2 x3 : Nat} (h0 : Kept s0 x0) :
    Kept s0 (@State.pmSts x0 x1 x2 x3) := by
  unfold State.pmSts
  apply State.put_kept
  apply State.put_kept
  with_reducible assumption

theorem State.pmEffect_kept {s0 x0 : State} {x1 x2 x3 : Nat} (h0 : Kept s0 x0) :
    Kept s0 (@State.pmEffect x0 x1 x2 x3) := by
  unfold State.pmEffect
  split
  · extract_lets +onlyGivenNames v1
    have h1 : Kept s0 v1 := by
      unfold v1
      apply State.putFlag_kept
      with_reducible assumption
    clear_value v1
    apply State.pmSts_kept
    apply State.noteDemand_kept
    · apply State.put_kept
      with_reducible assumption
    · with_reducible assumption
  · split
    · apply State.pmSts_kept
      apply State.putFlag_kept
      with_reducible assumption
    · extract_lets +onlyGivenNames v2
      have h2 : Kept s0 v2 := by
        unfold v2
        apply State.refusePower_kept
        with_reducible assumption
      clear_value v2
      split
      · apply State.arm_kept
        apply State.pmSts_kept
        apply State.putFlag_kept
        with_reducible assumption
      · apply State.enterHoldup_kept
        apply State.pmSts_kept
        apply State.putFlag_kept
        with_reducible assumption

theorem State.publishBudgets_kept {s0 x0 : State} (h0 : Kept s0 x0) :
    Kept s0 (@State.publishBudgets x0) := by
  unfold State.publishBudgets
  extract_lets +onlyGivenNames v1
  extract_lets +onlyGivenNames v2
  clear_value v2
  extract_lets +onlyGivenNames v3
  clear_value v3
  extract_lets +onlyGivenNames v4
  clear_value v4
  extract_lets +onlyGivenNames v5
  clear_value v5
  extract_lets +onlyGivenNames v6
  have h6 : Kept s0 v6 := by
    unfold v6
    apply State.put_kept
    with_reducible assumption
  clear_value v6
  apply State.put_kept
  apply State.put_kept
  with_reducible assumption

theorem State.scaleTo_kept {s0 x0 : State} {x1 : Nat} (h0 : Kept s0 x0) :
    Kept s0 (@State.scaleTo x0 x1) := by
  unfold State.scaleTo
  extract_lets +onlyGivenNames v1
  have h1 : Kept s0 v1 := by
    unfold v1
    apply State.refusePower_kept
    with_reducible assumption
  clear_value v1
  split
  · with_reducible assumption
  · extract_lets +onlyGivenNames v2
    have h2 : Kept s0 v2 := by
      unfold v2
      apply State.put_kept
      with_reducible assumption
    clear_value v2
    split
    · apply State.put_kept
      with_reducible assumption
    · with_reducible assumption

theorem State.startExit_kept {s0 x0 : State} {x1 : Nat} (h0 : Kept s0 x0) :
    Kept s0 (@State.startExit x0 x1) := by
  unfold State.startExit
  apply State.put_kept
  apply State.put_kept
  apply State.put_kept
  apply State.ungate_kept
  with_reducible assumption

theorem State.submitPm_kept {s0 x0 : State} {x1 : Agent} {x2 x3 : Nat} {x4 : Bool} (h0 : Kept s0 x0) :
    Kept s0 (@State.submitPm x0 x1 x2 x3 x4) := by
  unfold State.submitPm
  apply State.guardWrite_kept
  · with_reducible assumption
  · intro k1 k2
    extract_lets +onlyGivenNames v3
    clear_value v3
    extract_lets +onlyGivenNames v4
    have h4 : Kept s0 v4 := by
      unfold v4
      apply State.putFlag_kept
      apply State.put_kept
      apply State.put_kept
      with_reducible assumption
    clear_value v4
    split
    · apply State.pmSts_kept
      with_reducible assumption
    · split
      · apply State.arm_kept
        apply State.pmSts_kept
        apply State.putFlag_kept
        with_reducible assumption
      · apply State.pmEffect_kept
        with_reducible assumption

theorem State.toOff_kept {s0 x0 : State} (h0 : Kept s0 x0) :
    Kept s0 (@State.toOff x0) := by
  unfold State.toOff
  extract_lets +onlyGivenNames v1
  have h1 : Kept s0 v1 := by
    unfold v1
    refine Kept.same (s := x0) ?_ rfl Sub.filter Sub.rfl' Sub.rfl' Sub.rfl' Sub.rfl'
    with_reducible assumption
  clear_value v1
  apply State.put_kept
  apply State.put_kept
  with_reducible assumption

theorem State.withdrawLead_kept {s0 x0 : State} (h0 : Kept s0 x0) :
    Kept s0 (@State.withdrawLead x0) := by
  unfold State.withdrawLead
  refine Kept.same (s := x0) ?_ rfl Sub.rfl' Sub.rfl' Sub.rfl' Sub.rfl' Sub.rfl'
  with_reducible assumption

theorem execDomainRegate_kept {s0 : State} {x0 : Nat} {x1 : State} (h0 : Kept s0 x1) :
    KeptN s0 (@execDomainRegate x0 x1) := by
  unfold execDomainRegate
  apply KeptN.next
  split
  · apply State.gateAll_kept
    with_reducible assumption
  · with_reducible assumption

theorem execDomainWake_kept {s0 : State} {x0 : Nat} {x1 : State} (h0 : Kept s0 x1) :
    KeptN s0 (@execDomainWake x0 x1) := by
  unfold execDomainWake
  apply KeptN.next
  split
  · apply State.gateAll_kept
    with_reducible assumption
  · with_reducible assumption

theorem execIdleTimerExpiry_kept {s0 x0 : State} (h0 : Kept s0 x0) :
    KeptN s0 (@execIdleTimerExpiry x0) := by
  unfold execIdleTimerExpiry
  apply KeptN.next
  split
  · with_reducible assumption
  · apply State.putFlag_kept
    with_reducible assumption

theorem execKeepToPatrol_kept {s0 x0 : State} (h0 : Kept s0 x0) :
    KeptN s0 (@execKeepToPatrol x0) := by
  unfold execKeepToPatrol
  split
  · apply KeptN.next
    with_reducible assumption
  · extract_lets +onlyGivenNames v1
    have h1 : Kept s0 v1 := by
      unfold v1
      apply State.auxDefaults_kept
      apply State.putFlag_kept
      with_reducible assumption
    clear_value v1
    extract_lets +onlyGivenNames v2
    have h2 : Kept s0 v2 := by
      unfold v2
      apply State.put_kept
      apply State.put_kept
      with_reducible assumption
    clear_value v2
    apply KeptN.next
    apply State.put_kept
    apply State.put_kept
    apply State.put_kept
    with_reducible assumption

theorem execMainEnAssert_kept {s0 x0 : State} (h0 : Kept s0 x0) :
    KeptN s0 (@execMainEnAssert x0) := by
  unfold execMainEnAssert
  apply KeptN.next
  split
  · apply State.setMainEn_kept
    with_reducible assumption
  · with_reducible assumption

theorem execMediaQuiet_kept {s0 x0 : State} (h0 : Kept s0 x0) :
    KeptN s0 (@execMediaQuiet x0) := by
  unfold execMediaQuiet
  split
  · apply KeptN.next
    with_reducible assumption
  · extract_lets +onlyGivenNames v1
    have h1 : Kept s0 v1 := by
      unfold v1
      split
      · apply State.passAp2_kept
        with_reducible assumption
      · with_reducible assumption
    clear_value v1
    split
    · apply KeptN.next
      with_reducible assumption
    · extract_lets +onlyGivenNames v2
      have h2 : Kept s0 v2 := by
        unfold v2
        split
        · apply State.gateIdle_kept
          with_reducible assumption
        · with_reducible assumption
      clear_value v2
      split
      · split
        · extract_lets +onlyGivenNames v3
          have h3 : Kept s0 v3 := by
            unfold v3
            apply State.abandonEntry_kept
            with_reducible assumption
          clear_value v3
          apply KeptN.next
          split
          · apply State.gateIdle_kept
            with_reducible assumption
          · with_reducible assumption
        · extract_lets +onlyGivenNames v4
          have h4 : Kept s0 v4 := by
            unfold v4
            apply State.gateAll_kept
            with_reducible assumption
          clear_value v4
          apply KeptN.next
          apply State.completeEntry_kept
          with_reducible assumption
      · apply KeptN.next
        with_reducible assumption

theorem execModeEntry_kept {s0 x0 : State} (h0 : Kept s0 x0) :
    KeptN s0 (@execModeEntry x0) := by
  unfold execModeEntry
  extract_lets +onlyGivenNames v1
  clear_value v1
  split
  · apply KeptN.next
    with_reducible assumption
  · extract_lets +onlyGivenNames v2
    clear_value v2
    extract_lets +onlyGivenNames v3
    have h3 : Kept s0 v3 := by
      unfold v3
      apply State.put_kept
      apply State.put_kept
      with_reducible assumption
    clear_value v3
    split
    · apply KeptN.next
      apply State.answerPm_kept
      apply State.put_kept
      apply State.logRefusal_kept
      with_reducible assumption
    · extract_lets +onlyGivenNames v4
      have h4 : Kept s0 v4 := by
        unfold v4
        apply State.put_kept
        apply State.put_kept
        apply State.put_kept
        apply State.refusePower_kept
        with_reducible assumption
      clear_value v4
      extract_lets +onlyGivenNames v5
      have h5 : Kept s0 v5 := by
        unfold v5
        apply State.withdrawLead_kept
        with_reducible assumption
      clear_value v5
      apply KeptN.next
      split
      · apply State.passAp2_kept
        with_reducible assumption
      · with_reducible assumption

theorem execModeExit_kept {s0 x0 : State} (h0 : Kept s0 x0) :
    KeptN s0 (@execModeExit x0) := by
  unfold execModeExit
  split
  · extract_lets +onlyGivenNames v1
    have h1 : Kept s0 v1 := by
      unfold v1
      apply State.refusePower_kept
      with_reducible assumption
    clear_value v1
    apply KeptN.next
    split
    · with_reducible assumption
    · split
      · apply State.startExit_kept
        with_reducible assumption
      · apply State.leaveFor_kept
        with_reducible assumption
  · apply KeptN.next
    with_reducible assumption

theorem execPatrolRound_kept {s0 : State} {x0 : List (Option Int)} {x1 : State} (h0 : Kept s0 x1) :
    KeptN s0 (@execPatrolRound x0 x1) := by
  unfold execPatrolRound
  split
  · apply KeptN.next
    with_reducible assumption
  · extract_lets +onlyGivenNames v1
    have h1 : Kept s0 v1 := by
      unfold v1
      apply forEach_kept
      · with_reducible assumption
      · intro k2 k3 k4
        split
        · apply State.patrolSample_kept
          with_reducible assumption
        · with_reducible assumption
    clear_value v1
    apply KeptN.next
    apply State.put_kept
    with_reducible assumption

theorem execReadCallComplete_kept {s0 : State} {x0 : Nat} {x1 : List UnitResult} {x2 : Nat} {x3 : State} (h0 : Kept s0 x3) :
    KeptN s0 (@execReadCallComplete x0 x1 x2 x3) := by
  unfold execReadCallComplete
  extract_lets +onlyGivenNames v1
  have h1 : Kept s0 v1 := by
    unfold v1
    apply State.readDone_kept
    with_reducible assumption
  clear_value v1
  apply KeptN.next
  split
  · apply State.passAp2_kept
    with_reducible assumption
  · with_reducible assumption

theorem execScaleChange_kept {s0 x0 : State} (h0 : Kept s0 x0) :
    KeptN s0 (@execScaleChange x0) := by
  unfold execScaleChange
  split
  · apply KeptN.next
    with_reducible assumption
  · extract_lets +onlyGivenNames v1
    clear_value v1
    extract_lets +onlyGivenNames v2
    clear_value v2
    extract_lets +onlyGivenNames v3
    have h3 : Kept s0 v3 := by
      unfold v3
      apply State.put_kept
      apply State.put_kept
      with_reducible assumption
    clear_value v3
    extract_lets +onlyGivenNames v4
    have h4 : Kept s0 v4 := by
      unfold v4
      split
      · apply State.scaleTo_kept
        with_reducible assumption
      · split
        · apply State.scaleTo_kept
          with_reducible assumption
        · with_reducible assumption
    clear_value v4
    apply KeptN.next
    apply State.publishBudgets_kept
    with_reducible assumption

theorem execSetFloor_kept {s0 : State} {x0 : Agent} {x1 : Nat} {x2 : Bool} {x3 : State} (h0 : Kept s0 x3) :
    KeptN s0 (@execSetFloor x0 x1 x2 x3) := by
  unfold execSetFloor
  apply KeptN.next
  apply State.atUnit_kept
  · with_reducible assumption
  · intro k1 k2
    apply State.submitPm_kept
    with_reducible assumption

theorem execShutdown_kept {s0 : State} {x0 : Agent} {x1 : Bool} {x2 : State} (h0 : Kept s0 x2) :
    KeptN s0 (@execShutdown x0 x1 x2) := by
  unfold execShutdown
  apply KeptN.next
  apply State.atUnit_kept
  · with_reducible assumption
  · intro k1 k2
    apply State.submitPm_kept
    with_reducible assumption

theorem execVauxFall_kept {s0 x0 : State} (h0 : Kept s0 x0) :
    KeptN s0 (@execVauxFall x0) := by
  unfold execVauxFall
  extract_lets +onlyGivenNames v1
  have h1 : Kept s0 v1 := by
    unfold v1
    apply State.putFlag_kept
    with_reducible assumption
  clear_value v1
  extract_lets +onlyGivenNames v2
  have h2 : Kept s0 v2 := by
    unfold v2
    split
    · apply State.put_kept
      apply State.put_kept
      apply State.dropAux_kept
      with_reducible assumption
    · with_reducible assumption
  clear_value v2
  apply KeptN.next
  split
  · apply State.toOff_kept
    with_reducible assumption
  · with_reducible assumption

theorem execVauxRise_kept {s0 : State} {x0 : Bool} {x1 : State} (h0 : Kept s0 x1) :
    KeptN s0 (@execVauxRise x0 x1) := by
  unfold execVauxRise
  extract_lets +onlyGivenNames v1
  have h1 : Kept s0 v1 := by
    unfold v1
    split
    · apply State.putFlag_kept
      with_reducible assumption
    · apply State.putFlag_kept
      with_reducible assumption
  clear_value v1
  split
  · apply KeptN.next
    with_reducible assumption
  · extract_lets +onlyGivenNames v2
    have h2 : Kept s0 v2 := by
      unfold v2
      apply State.putFlag_kept
      apply State.putFlag_kept
      with_reducible assumption
    clear_value v2
    apply KeptN.next
    apply State.put_kept
    apply State.put_kept
    with_reducible assumption

theorem execVbatFall_kept {s0 x0 : State} (h0 : Kept s0 x0) :
    KeptN s0 (@execVbatFall x0) := by
  unfold execVbatFall
  extract_lets +onlyGivenNames v1
  have h1 : Kept s0 v1 := by
    unfold v1
    apply State.putFlag_kept
    with_reducible assumption
  clear_value v1
  apply KeptN.next
  split
  · apply State.toOff_kept
    with_reducible assumption
  · with_reducible assumption

end Sys2Proof.Machine
end

