-- ==== Sys2Proof/Laws/KeptUnits.lean ====
section
/-! SUPPORT. What the operations of Machine/Units.lean keep (`Kept`): one lemma each. -/

set_option linter.unusedVariables false

namespace Sys2Proof.Machine

theorem State.admitDie_kept {s0 x0 : State} {x1 : Nat} {x2 : DiePage} (h0 : Kept s0 x0) :
    Kept s0 (@State.admitDie x0 x1 x2) := by
  unfold State.admitDie
  extract_lets +onlyGivenNames v1
  have h1 : Kept s0 v1 := by
    unfold v1
    apply State.put_kept
    apply State.putFlag_kept
    apply State.putFlag_kept
    with_reducible assumption
  clear_value v1
  extract_lets +onlyGivenNames v2
  have h2 : Kept s0 v2 := by
    unfold v2
    apply State.put_kept
    apply State.put_kept
    apply State.put_kept
    with_reducible assumption
  clear_value v2
  apply forEach_kept
  · with_reducible assumption
  · intro k3 k4 k5
    apply State.put_kept
    with_reducible assumption

theorem State.endTimeout_kept {s0 x0 : State} {x1 : Nat} (h0 : Kept s0 x0) :
    Kept s0 (@State.endTimeout x0 x1) := by
  unfold State.endTimeout
  apply State.clearLevelAt_kept
  apply State.putFlag_kept
  with_reducible assumption

theorem State.mergeReq_kept {s0 x0 : State} {x1 : Nat} (h0 : Kept s0 x0) :
    Kept s0 (@State.mergeReq x0 x1) := by
  unfold State.mergeReq
  apply State.endTimeout_kept
  apply State.putFlag_kept
  apply State.setReq_kept
  apply State.disarmUnit_kept
  with_reducible assumption

theorem State.endLeaving_kept {s0 x0 : State} {x1 : Nat} (h0 : Kept s0 x0) :
    Kept s0 (@State.endLeaving x0 x1) := by
  unfold State.endLeaving
  split
  · with_reducible assumption
  · split
    · apply State.mergeReq_kept
      with_reducible assumption
    · apply State.endTimeout_kept
      apply State.refuseAt_kept
      apply State.putFlag_kept
      apply State.setReq_kept
      apply State.disarmUnit_kept
      with_reducible assumption

theorem State.dropDie_kept {s0 x0 : State} {x1 : Nat} (h0 : Kept s0 x0) :
    Kept s0 (@State.dropDie x0 x1) := by
  unfold State.dropDie
  split
  · apply State.endLeaving_kept
    apply State.putFlag_kept
    apply State.putFlag_kept
    apply State.putFlag_kept
    with_reducible assumption
  · with_reducible assumption

theorem State.resetDie_kept {s0 x0 : State} {x1 : Nat} {x2 : Bool} (h0 : Kept s0 x0) :
    Kept s0 (@State.resetDie x0 x1 x2) := by
  unfold State.resetDie
  refine Kept.same (s := x0) ?_ rfl Sub.filter Sub.rfl' Sub.rfl' Sub.rfl' Sub.rfl'
  with_reducible assumption

theorem State.loadBlocks_kept {s0 x0 : State} {x1 : Nat} (h0 : Kept s0 x0) :
    Kept s0 (@State.loadBlocks x0 x1) := by
  unfold State.loadBlocks
  extract_lets +onlyGivenNames v1
  clear_value v1
  extract_lets +onlyGivenNames v2
  have h2 : Kept s0 v2 := by
    unfold v2
    apply forEach_kept
    · with_reducible assumption
    · intro k3 k4 k5
      apply State.halfErase_kept
      with_reducible assumption
  clear_value v2
  split
  · split
    · apply State.putFlag_kept
      with_reducible assumption
    · extract_lets +onlyGivenNames v6
      have h6 : Kept s0 v6 := by
        unfold v6
        apply State.put_kept
        apply State.put_kept
        apply State.putFlag_kept
        with_reducible assumption
      clear_value v6
      apply forEach_kept
      · with_reducible assumption
      · intro k7 k8 k9
        apply State.put_kept
        with_reducible assumption
  · with_reducible assumption

theorem State.trainChannel_kept {s0 x0 : State} {x1 : Nat} {x2 : List Nat} (h0 : Kept s0 x0) :
    Kept s0 (@State.trainChannel x0 x1 x2) := by
  unfold State.trainChannel
  extract_lets +onlyGivenNames v1
  clear_value v1
  split
  · apply State.putFlag_kept
    apply State.putFlag_kept
    apply State.put_kept
    with_reducible assumption
  · split
    · extract_lets +onlyGivenNames v2
      have h2 : Kept s0 v2 := by
        unfold v2
        apply State.putFlag_kept
        apply State.put_kept
        apply State.put_kept
        with_reducible assumption
      clear_value v2
      apply forEach_kept
      · with_reducible assumption
      · intro k3 k4 k5
        apply State.putFlag_kept
        with_reducible assumption
    · extract_lets +onlyGivenNames v6
      have h6 : Kept s0 v6 := by
        unfold v6
        apply State.putFlag_kept
        apply State.put_kept
        apply State.put_kept
        with_reducible assumption
      clear_value v6
      extract_lets +onlyGivenNames v7
      have h7 : Kept s0 v7 := by
        unfold v7
        apply forEach_kept
        · with_reducible assumption
        · intro k8 k9 k10
          apply State.putFlag_kept
          with_reducible assumption
      clear_value v7
      apply State.raise_kept
      with_reducible assumption

theorem State.bringUp_kept {s0 x0 : State} {x1 : Nat} {x2 : ChannelPages} (h0 : Kept s0 x0) :
    Kept s0 (@State.bringUp x0 x1 x2) := by
  unfold State.bringUp
  extract_lets +onlyGivenNames v1
  clear_value v1
  extract_lets +onlyGivenNames v2
  clear_value v2
  split
  extract_lets +onlyGivenNames v3
  have h3 : Kept s0 v3 := by
    unfold v3
    apply forEach_kept
    · with_reducible assumption
    · intro k4 k5 k6
      apply State.dropDie_kept
      with_reducible assumption
  clear_value v3
  extract_lets +onlyGivenNames v7
  have h7 : Kept s0 v7 := by
    unfold v7
    split
    · with_reducible assumption
    · apply State.put_kept
      apply State.put_kept
      apply State.put_kept
      with_reducible assumption
  clear_value v7
  extract_lets +onlyGivenNames v8
  have h8 : Kept s0 v8 := by
    unfold v8
    apply State.put_kept
    with_reducible assumption
  clear_value v8
  extract_lets +onlyGivenNames v9
  have h9 : Kept s0 v9 := by
    unfold v9
    apply forEach_kept
    · with_reducible assumption
    · intro k10 k11 k12
      apply State.resetDie_kept
      apply State.admitDie_kept
      with_reducible assumption
  clear_value v9
  extract_lets +onlyGivenNames v13
  have h13 : Kept s0 v13 := by
    unfold v13
    apply forEach_kept
    · with_reducible assumption
    · intro k14 k15 k16
      apply State.raise_kept
      with_reducible assumption
  clear_value v13
  apply State.loadBlocks_kept
  apply State.trainChannel_kept
  with_reducible assumption

theorem State.bringBack_kept {s0 x0 : State} {x1 : List (Nat × ChannelPages)} {x2 : Nat} (h0 : Kept s0 x0) :
    Kept s0 (@State.bringBack x0 x1 x2) := by
  unfold State.bringBack
  split
  · apply State.bringUp_kept
    with_reducible assumption
  · extract_lets +onlyGivenNames v1
    have h1 : Kept s0 v1 := by
      unfold v1
      apply forEach_kept
      · with_reducible assumption
      · intro k2 k3 k4
        apply State.resetDie_kept
        with_reducible assumption
    clear_value v1
    apply State.loadBlocks_kept
    apply State.trainChannel_kept
    with_reducible assumption

theorem State.clearChannel_kept {s0 x0 : State} {x1 : Nat} (h0 : Kept s0 x0) :
    Kept s0 (@State.clearChannel x0 x1) := by
  unfold State.clearChannel
  apply State.put_kept
  apply State.put_kept
  apply State.put_kept
  apply State.put_kept
  apply State.put_kept
  with_reducible assumption

theorem State.clearCluster_kept {s0 x0 : State} {x1 : Nat} (h0 : Kept s0 x0) :
    Kept s0 (@State.clearCluster x0 x1) := by
  unfold State.clearCluster
  extract_lets +onlyGivenNames v1
  clear_value v1
  extract_lets +onlyGivenNames v2
  have h2 : Kept s0 v2 := by
    unfold v2
    refine Kept.same (s := x0) ?_ rfl Sub.rfl' Sub.rfl' Sub.rfl' Sub.rfl' Sub.rfl'
    with_reducible assumption
  clear_value v2
  extract_lets +onlyGivenNames v3
  have h3 : Kept s0 v3 := by
    unfold v3
    apply State.put_kept
    apply State.put_kept
    with_reducible assumption
  clear_value v3
  apply forEach_kept
  · with_reducible assumption
  · intro k4 k5 k6
    apply State.clearChannel_kept
    with_reducible assumption

theorem State.clearFront_kept {s0 x0 : State} (h0 : Kept s0 x0) :
    Kept s0 (@State.clearFront x0) := by
  unfold State.clearFront
  extract_lets +onlyGivenNames v1
  have h1 : Kept s0 v1 := by
    unfold v1
    apply forEach_kept
    · with_reducible assumption
    · intro k2 k3 k4
      apply State.disablePoint_kept
      with_reducible assumption
  clear_value v1
  refine Kept.same (s := v1) ?_ rfl Sub.filter Sub.nil Sub.rfl' Sub.rfl' Sub.rfl'
  with_reducible assumption

theorem State.clearUnitFault_kept {s0 x0 : State} {x1 : Agent} {x2 x3 : Nat} (h0 : Kept s0 x0) :
    Kept s0 (@State.clearUnitFault x0 x1 x2 x3) := by
  unfold State.clearUnitFault
  apply State.guardWrite_kept
  · with_reducible assumption
  · intro k1 k2
    apply forEach_kept
    · with_reducible assumption
    · intro k3 k4 k5
      apply forEach_kept
      · with_reducible assumption
      · intro k6 k7 k8
        apply State.put_kept
        with_reducible assumption

theorem State.dropEngines_kept {s0 x0 : State} {x1 : Nat} (h0 : Kept s0 x0) :
    Kept s0 (@State.dropEngines x0 x1) := by
  unfold State.dropEngines
  extract_lets +onlyGivenNames v1
  have h1 : Kept s0 v1 := by
    unfold v1
    apply forEach_kept
    · with_reducible assumption
    · intro k2 k3 k4
      apply State.rerunJob_kept
      with_reducible assumption
  clear_value v1
  refine Kept.same (s := v1) ?_ rfl Sub.rfl' Sub.rfl' Sub.rfl' Sub.rfl' Sub.rfl'
  with_reducible assumption

theorem State.mergeBelow_kept {s0 x0 : State} {x1 : Nat} (h0 : Kept s0 x0) :
    Kept s0 (@State.mergeBelow x0 x1) := by
  unfold State.mergeBelow
  apply forEach_kept
  · with_reducible assumption
  · intro k1 k2 k3
    apply State.mergeReq_kept
    with_reducible assumption

theorem State.resetUnit_kept {s0 x0 : State} {x1 : Nat} (h0 : Kept s0 x0) :
    Kept s0 (@State.resetUnit x0 x1) := by
  unfold State.resetUnit
  split
  · apply State.dropEngines_kept
    with_reducible assumption
  · apply State.clearChannel_kept
    with_reducible assumption
  · apply State.clearCluster_kept
    apply State.dropEngines_kept
    with_reducible assumption
  · apply State.clearFront_kept
    with_reducible assumption
  · apply State.requestChipReset_kept
    with_reducible assumption
  · with_reducible assumption

theorem State.startCores_kept {s0 x0 : State} {x1 : List Nat} (h0 : Kept s0 x0) :
    Kept s0 (@State.startCores x0 x1) := by
  unfold State.startCores
  apply forEach_kept
  · with_reducible assumption
  · intro k1 k2 k3
    apply State.putFlag_kept
    with_reducible assumption

theorem State.submitChipReset_kept {s0 x0 : State} {x1 : Agent} {x2 x3 x4 : Bool} (h0 : Kept s0 x0) :
    Kept s0 (@State.submitChipReset x0 x1 x2 x3 x4) := by
  unfold State.submitChipReset
  apply State.guardWrite_kept
  · with_reducible assumption
  · intro k1 k2
    extract_lets +onlyGivenNames v3
    have h3 : Kept s0 v3 := by
      unfold v3
      split
      · apply State.decodeFault_kept
        with_reducible assumption
      · with_reducible assumption
    clear_value v3
    apply State.unlessLocked_kept
    · with_reducible assumption
    · intro k4 k5
      extract_lets +onlyGivenNames v6
      have h6 : Kept s0 v6 := by
        unfold v6
        split
        · apply State.decodeFault_kept
          with_reducible assumption
        · apply State.putFlag_kept
          with_reducible assumption
      clear_value v6
      split
      · split
        · apply State.arm_kept
          with_reducible assumption
        · with_reducible assumption
      · apply State.requestChipReset_kept
        with_reducible assumption

theorem State.writePower_kept {s0 x0 : State} {x1 : Agent} {x2 x3 : Nat} {x4 : Bool} (h0 : Kept s0 x0) :
    Kept s0 (@State.writePower x0 x1 x2 x3 x4) := by
  unfold State.writePower
  apply State.guardWrite_kept
  · with_reducible assumption
  · intro k1 k2
    extract_lets +onlyGivenNames v3
    have h3 : Kept s0 v3 := by
      unfold v3
      apply State.putFlag_kept
      apply State.put_kept
      with_reducible assumption
    clear_value v3
    apply State.submitPower_kept
    with_reducible assumption

theorem State.writeReset_kept {s0 x0 : State} {x1 : Agent} {x2 : Nat} {x3 x4 : Bool} (h0 : Kept s0 x0) :
    Kept s0 (@State.writeReset x0 x1 x2 x3 x4) := by
  unfold State.writeReset
  apply State.guardWrite_kept
  · with_reducible assumption
  · intro k1 k2
    extract_lets +onlyGivenNames v3
    have h3 : Kept s0 v3 := by
      unfold v3
      apply State.putFlag_kept
      apply State.putFlag_kept
      with_reducible assumption
    clear_value v3
    apply State.submitReset_kept
    with_reducible assumption

theorem execChipColdResetRequest_kept {s0 : State} {x0 : Agent} {x1 x2 : Bool} {x3 : State} (h0 : Kept s0 x3) :
    KeptN s0 (@execChipColdResetRequest x0 x1 x2 x3) := by
  unfold execChipColdResetRequest
  apply KeptN.next
  apply State.atUnit_kept
  · with_reducible assumption
  · intro k1 k2
    apply State.submitChipReset_kept
    with_reducible assumption

theorem execChipWarmResetRequest_kept {s0 : State} {x0 : Agent} {x1 : Bool} {x2 : State} (h0 : Kept s0 x2) :
    KeptN s0 (@execChipWarmResetRequest x0 x1 x2) := by
  unfold execChipWarmResetRequest
  apply KeptN.next
  apply State.atUnit_kept
  · with_reducible assumption
  · intro k1 k2
    apply State.submitChipReset_kept
    with_reducible assumption

theorem execPowerChangeComplete_kept {s0 : State} {x0 : Nat} {x1 : List (Nat × ChannelPages)} {x2 : State} (h0 : Kept s0 x2) :
    KeptN s0 (@execPowerChangeComplete x0 x1 x2) := by
  unfold execPowerChangeComplete
  split
  · apply KeptN.next
    with_reducible assumption
  · extract_lets +onlyGivenNames v1
    clear_value v1
    extract_lets +onlyGivenNames v2
    have h2 : Kept s0 v2 := by
      unfold v2
      apply State.putFlag_kept
      apply State.put_kept
      with_reducible assumption
    clear_value v2
    extract_lets +onlyGivenNames v3
    have h3 : Kept s0 v3 := by
      unfold v3
      apply forEach_kept
      · with_reducible assumption
      · intro k4 k5 k6
        apply State.resetDie_kept
        with_reducible assumption
    clear_value v3
    extract_lets +onlyGivenNames v7
    have h7 : Kept s0 v7 := by
      unfold v7
      split
      · apply forEach_kept
        · with_reducible assumption
        · intro k8 k9 k10
          apply State.trainChannel_kept
          with_reducible assumption
      · with_reducible assumption
    clear_value v7
    extract_lets +onlyGivenNames v11
    have h11 : Kept s0 v11 := by
      unfold v11
      apply State.bump_kept
      apply State.putFlag_kept
      apply State.setReq_kept
      with_reducible assumption
    clear_value v11
    apply KeptN.next
    apply State.updateGc_kept
    apply State.endTimeout_kept
    with_reducible assumption

theorem execPowerChangeStart_kept {s0 : State} {x0 : Nat} {x1 : State} (h0 : Kept s0 x1) :
    KeptN s0 (@execPowerChangeStart x0 x1) := by
  unfold execPowerChangeStart
  extract_lets +onlyGivenNames v1
  clear_value v1
  split
  · apply KeptN.next
    with_reducible assumption
  · extract_lets +onlyGivenNames v2
    have h2 : Kept s0 v2 := by
      unfold v2
      apply State.put_kept
      apply State.setReq_kept
      with_reducible assumption
    clear_value v2
    apply KeptN.next
    split
    · apply State.putFlag_kept
      with_reducible assumption
    · with_reducible assumption

theorem execRequestTimeout_kept {s0 : State} {x0 : Nat} {x1 : State} (h0 : Kept s0 x1) :
    KeptN s0 (@execRequestTimeout x0 x1) := by
  unfold execRequestTimeout
  split
  · apply KeptN.next
    apply State.raise_kept
    apply State.putFlag_kept
    apply State.putFlag_kept
    with_reducible assumption
  · apply KeptN.next
    with_reducible assumption

theorem execResetComplete_kept {s0 : State} {x0 : Nat} {x1 : List (Nat × ChannelPages)} {x2 : State} (h0 : Kept s0 x2) :
    KeptN s0 (@execResetComplete x0 x1 x2) := by
  unfold execResetComplete
  split
  · apply KeptN.next
    with_reducible assumption
  · extract_lets +onlyGivenNames v1
    have h1 : Kept s0 v1 := by
      unfold v1
      apply forEach_kept
      · with_reducible assumption
      · intro k2 k3 k4
        apply State.putFlag_kept
        apply State.putFlag_kept
        with_reducible assumption
    clear_value v1
    extract_lets +onlyGivenNames v5
    have h5 : Kept s0 v5 := by
      unfold v5
      apply forEach_kept
      · with_reducible assumption
      · intro k6 k7 k8
        apply State.resetDie_kept
        with_reducible assumption
    clear_value v5
    extract_lets +onlyGivenNames v9
    have h9 : Kept s0 v9 := by
      unfold v9
      apply forEach_kept
      · with_reducible assumption
      · intro k10 k11 k12
        apply State.bringBack_kept
        with_reducible assumption
    clear_value v9
    extract_lets +onlyGivenNames v13
    have h13 : Kept s0 v13 := by
      unfold v13
      apply forEach_kept
      · with_reducible assumption
      · intro k14 k15 k16
        apply State.putFlag_kept
        with_reducible assumption
    clear_value v13
    extract_lets +onlyGivenNames v17
    have h17 : Kept s0 v17 := by
      unfold v17
      apply State.mergeBelow_kept
      apply State.startCores_kept
      with_reducible assumption
    clear_value v17
    extract_lets +onlyGivenNames v18
    have h18 : Kept s0 v18 := by
      unfold v18
      apply forEach_kept
      · with_reducible assumption
      · intro k19 k20 k21
        apply State.bump_kept
        with_reducible assumption
    clear_value v18
    extract_lets +onlyGivenNames v22
    have h22 : Kept s0 v22 := by
      unfold v22
      apply State.endTimeout_kept
      apply State.putFlag_kept
      apply State.setReq_kept
      with_reducible assumption
    clear_value v22
    apply KeptN.next
    apply State.updateGc_kept
    with_reducible assumption

theorem execResetStart_kept {s0 : State} {x0 : Nat} {x1 : State} (h0 : Kept s0 x1) :
    KeptN s0 (@execResetStart x0 x1) := by
  unfold execResetStart
  extract_lets +onlyGivenNames v1
  clear_value v1
  split
  · apply KeptN.next
    with_reducible assumption
  · extract_lets +onlyGivenNames v2
    have h2 : Kept s0 v2 := by
      unfold v2
      apply State.markResetting_kept
      apply State.setReq_kept
      with_reducible assumption
    clear_value v2
    extract_lets +onlyGivenNames v3
    have h3 : Kept s0 v3 := by
      unfold v3
      apply forEach_kept
      · with_reducible assumption
      · intro k4 k5 k6
        extract_lets +onlyGivenNames v7
        have h7 : Kept s0 v7 := by
          unfold v7
          split
          · apply State.suspendDie_kept
            with_reducible assumption
          · with_reducible assumption
        clear_value v7
        apply State.cutDie_kept
        with_reducible assumption
    clear_value v3
    apply KeptN.next
    apply State.resetUnit_kept
    with_reducible assumption

theorem execUcbFaultClear_kept {s0 : State} {x0 : Agent} {x1 x2 : Nat} {x3 : State} (h0 : Kept s0 x3) :
    KeptN s0 (@execUcbFaultClear x0 x1 x2 x3) := by
  unfold execUcbFaultClear
  apply KeptN.next
  split
  · apply State.clearUnitFault_kept
    with_reducible assumption
  · apply State.decodeFault_kept
    with_reducible assumption

theorem execUnitPowerRequest_kept {s0 : State} {x0 : Agent} {x1 x2 : Nat} {x3 : Bool} {x4 : State} (h0 : Kept s0 x4) :
    KeptN s0 (@execUnitPowerRequest x0 x1 x2 x3 x4) := by
  unfold execUnitPowerRequest
  apply KeptN.next
  split
  · apply State.writePower_kept
    with_reducible assumption
  · apply State.decodeFault_kept
    with_reducible assumption

theorem execUnitResetRequest_kept {s0 : State} {x0 : Agent} {x1 : Nat} {x2 x3 : Bool} {x4 : State} (h0 : Kept s0 x4) :
    KeptN s0 (@execUnitResetRequest x0 x1 x2 x3 x4) := by
  unfold execUnitResetRequest
  apply KeptN.next
  split
  · apply State.writeReset_kept
    with_reducible assumption
  · apply State.decodeFault_kept
    with_reducible assumption

end Sys2Proof.Machine
end

