-- ==== Sys2Proof/Laws/KeptBoundary.lean ====
section
/-! SUPPORT. What the operations of Machine/Boundary.lean keep (`Kept`): one lemma each. -/

set_option linter.unusedVariables false

namespace Sys2Proof.Machine

theorem State.cancelAct_kept {s0 x0 : State} {x1 : Act} (h0 : Kept s0 x0) :
    Kept s0 (@State.cancelAct x0 x1) := by
  unfold State.cancelAct
  split
  · split
    · apply State.refuseAt_kept
      apply State.putFlag_kept
      apply State.setReq_kept
      with_reducible assumption
    · with_reducible assumption
  · apply State.putFlag_kept
    apply State.put_kept
    with_reducible assumption
  · split
    · apply State.pmResult_kept
      with_reducible assumption
    · with_reducible assumption
  · apply State.cancelFirmware_kept
    with_reducible assumption
  · apply State.putFlag_kept
    apply State.pmSts_kept
    with_reducible assumption
  · apply State.refuseAt_kept
    apply State.putFlag_kept
    apply State.setReq_kept
    with_reducible assumption
  · apply State.refuseAt_kept
    apply State.putFlag_kept
    apply State.setReq_kept
    with_reducible assumption
  · split
    · apply State.finish_kept
      with_reducible assumption
    · with_reducible assumption
  · split
    · apply State.putFlag_kept
      apply State.put_kept
      with_reducible assumption
    · with_reducible assumption
  · with_reducible assumption

theorem State.cancelWhere_kept {s0 x0 : State} {x1 : Armed → Bool} (h0 : Kept s0 x0) :
    Kept s0 (@State.cancelWhere x0 x1) := by
  unfold State.cancelWhere
  extract_lets +onlyGivenNames v1
  clear_value v1
  extract_lets +onlyGivenNames v2
  have h2 : Kept s0 v2 := by
    unfold v2
    refine Kept.same (s := x0) ?_ rfl Sub.rfl' Sub.rfl' Sub.rfl' Sub.rfl' Sub.rfl'
    with_reducible assumption
  clear_value v2
  apply forEach_kept
  · with_reducible assumption
  · intro k3 k4 k5
    apply State.cancelAct_kept
    with_reducible assumption

theorem State.countPlanned_kept {s0 x0 : State} (h0 : Kept s0 x0) :
    Kept s0 (@State.countPlanned x0) := by
  unfold State.countPlanned
  apply forEach_kept
  · with_reducible assumption
  · intro k1 k2 k3
    apply State.bump_kept
    with_reducible assumption

theorem State.countSuspended_kept {s0 x0 : State} (h0 : Kept s0 x0) :
    Kept s0 (@State.countSuspended x0) := by
  unfold State.countSuspended
  apply forEach_kept
  · with_reducible assumption
  · intro k1 k2 k3
    apply State.put_kept
    with_reducible assumption

theorem State.endTick_kept {s0 x0 : State} (h0 : Kept s0 x0) :
    Kept s0 (@State.endTick x0) := by
  unfold State.endTick
  apply State.putFlag_kept
  apply State.put_kept
  apply State.put_kept
  with_reducible assumption

theorem State.entryByRecon_kept {s0 x0 : State} {x1 : Nat} {x2 : PEntry} (h0 : Kept s0 x0) :
    Kept s0 (@State.entryByRecon x0 x1 x2) := by
  unfold State.entryByRecon
  split
  · extract_lets +onlyGivenNames v1
    clear_value v1
    extract_lets +onlyGivenNames v2
    clear_value v2
    apply forEach_kept
    · with_reducible assumption
    · intro k3 k4 k5
      apply State.reconstruct_kept
      with_reducible assumption
  · apply State.takeBack_kept
    with_reducible assumption

theorem State.evalLicences_kept {s0 x0 : State} (h0 : Kept s0 x0) :
    Kept s0 (@State.evalLicences x0) := by
  unfold State.evalLicences
  split
  · with_reducible assumption
  · apply forEach_kept
    · with_reducible assumption
    · intro k1 k2 k3
      extract_lets +onlyGivenNames v4
      clear_value v4
      split
      · with_reducible assumption
      · extract_lets +onlyGivenNames v5
        have h5 : Kept s0 v5 := by
          unfold v5
          refine Kept.same (s := k2) ?_ rfl Sub.rfl' Sub.rfl' Sub.rfl' Sub.rfl' Sub.rfl'
          with_reducible assumption
        clear_value v5
        split
        · with_reducible assumption
        · apply State.countClose_kept
          with_reducible assumption

theorem State.newQuota_kept {s0 x0 : State} (h0 : Kept s0 x0) :
    Kept s0 (@State.newQuota x0) := by
  unfold State.newQuota
  extract_lets +onlyGivenNames v1
  clear_value v1
  apply State.putFlag_kept
  apply State.put_kept
  with_reducible assumption

theorem State.safePlan_kept {s0 x0 : State} {x1 : DiePlan} (h0 : Kept s0 x0) :
    Kept s0 (@State.safePlan x0 x1) := by
  unfold State.safePlan
  extract_lets +onlyGivenNames v1
  clear_value v1
  extract_lets +onlyGivenNames v2
  clear_value v2
  extract_lets +onlyGivenNames v3
  clear_value v3
  extract_lets +onlyGivenNames v4
  clear_value v4
  extract_lets +onlyGivenNames v5
  clear_value v5
  extract_lets +onlyGivenNames v6
  clear_value v6
  extract_lets +onlyGivenNames v7
  clear_value v7
  extract_lets +onlyGivenNames v8
  clear_value v8
  extract_lets +onlyGivenNames v9
  clear_value v9
  extract_lets +onlyGivenNames v10
  clear_value v10
  extract_lets +onlyGivenNames v11
  clear_value v11
  extract_lets +onlyGivenNames v12
  have h12 : Kept s0 v12 := by
    unfold v12
    apply State.setPlan_kept
    with_reducible assumption
  clear_value v12
  extract_lets +onlyGivenNames v13
  have h13 : Kept s0 v13 := by
    unfold v13
    split
    · with_reducible assumption
    · apply forEach_kept
      · with_reducible assumption
      · intro k14 k15 k16
        apply State.entryByRecon_kept
        with_reducible assumption
  clear_value v13
  extract_lets +onlyGivenNames v17
  have h17 : Kept s0 v17 := by
    unfold v17
    apply State.putFlag_kept
    apply State.put_kept
    apply State.bump_kept
    with_reducible assumption
  clear_value v17
  apply State.raise_kept
  with_reducible assumption

theorem State.swapPlan_kept {s0 x0 : State} {x1 : DiePlan} (h0 : Kept s0 x0) :
    Kept s0 (@State.swapPlan x0 x1) := by
  unfold State.swapPlan
  extract_lets +onlyGivenNames v1
  clear_value v1
  split
  · apply State.safePlan_kept
    with_reducible assumption
  · apply State.setPlan_kept
    with_reducible assumption

theorem State.takeAct_kept {s0 x0 : State} {x1 : Act} (h0 : Kept s0 x0) :
    Kept s0 (@State.takeAct x0 x1) := by
  unfold State.takeAct
  split
  · apply State.requestChipReset_kept
    split
    · apply State.setReq_kept
      with_reducible assumption
    · with_reducible assumption
  · apply State.putFlag_kept
    apply State.put_kept
    apply State.put_kept
    with_reducible assumption
  · apply State.batchEffect_kept
    with_reducible assumption
  · apply State.dropLicence_kept
    with_reducible assumption
  · apply State.startActivation_kept
    with_reducible assumption
  · apply State.pmEffect_kept
    with_reducible assumption
  · split
    · apply State.markResetting_kept
      with_reducible assumption
    · with_reducible assumption
  · with_reducible assumption
  · split
    · apply State.startPin_kept
      with_reducible assumption
    · with_reducible assumption
  · apply State.effect_kept
    with_reducible assumption

theorem State.tickCalendar_kept {s0 x0 : State} {x1 : Nat} (h0 : Kept s0 x0) :
    Kept s0 (@State.tickCalendar x0 x1) := by
  unfold State.tickCalendar
  extract_lets +onlyGivenNames v1
  clear_value v1
  extract_lets +onlyGivenNames v2
  have h2 : Kept s0 v2 := by
    unfold v2
    apply State.checkTrust_kept
    apply State.calAdvance_kept
    apply State.put_kept
    with_reducible assumption
  clear_value v2
  split
  · apply State.correctPhase_kept
    with_reducible assumption
  · with_reducible assumption

theorem State.tickOut_kept {s0 x0 : State} (h0 : Kept s0 x0) :
    Kept s0 (@State.tickOut x0) := by
  unfold State.tickOut
  split
  · apply State.emit_kept
    with_reducible assumption
  · with_reducible assumption

theorem State.tickSamples_kept {s0 x0 : State} {x1 : Nat} (h0 : Kept s0 x0) :
    Kept s0 (@State.tickSamples x0 x1) := by
  unfold State.tickSamples
  extract_lets +onlyGivenNames v1
  clear_value v1
  extract_lets +onlyGivenNames v2
  have h2 : Kept s0 v2 := by
    unfold v2
    split
    · with_reducible assumption
    · apply State.sample_kept
      with_reducible assumption
  clear_value v2
  extract_lets +onlyGivenNames v3
  have h3 : Kept s0 v3 := by
    unfold v3
    apply State.sample_kept
    apply State.sample_kept
    apply State.sample_kept
    with_reducible assumption
  clear_value v3
  apply State.put_kept
  with_reducible assumption

theorem State.tickSource_kept {s0 x0 : State} (h0 : Kept s0 x0) :
    Kept s0 (@State.tickSource x0) := by
  unfold State.tickSource
  split
  · with_reducible assumption
  · split
    · apply State.putFlag_kept
      apply State.put_kept
      with_reducible assumption
    · apply State.put_kept
      apply State.put_kept
      with_reducible assumption

theorem State.updateGold_kept {s0 x0 : State} (h0 : Kept s0 x0) :
    Kept s0 (@State.updateGold x0) := by
  unfold State.updateGold
  extract_lets +onlyGivenNames v1
  clear_value v1
  extract_lets +onlyGivenNames v2
  clear_value v2
  extract_lets +onlyGivenNames v3
  clear_value v3
  extract_lets +onlyGivenNames v4
  have h4 : Kept s0 v4 := by
    unfold v4
    apply State.put_kept
    apply State.put_kept
    with_reducible assumption
  clear_value v4
  split
  · apply State.raise_kept
    apply State.putFlag_kept
    with_reducible assumption
  · apply State.clearLevel_kept
    apply State.putFlag_kept
    with_reducible assumption

theorem State.updateReserves_kept {s0 x0 : State} (h0 : Kept s0 x0) :
    Kept s0 (@State.updateReserves x0) := by
  unfold State.updateReserves
  extract_lets +onlyGivenNames v1
  have h1 : Kept s0 v1 := by
    unfold v1
    apply forEach_kept
    · with_reducible assumption
    · intro k2 k3 k4
      extract_lets +onlyGivenNames v5
      have h5 : Kept s0 v5 := by
        unfold v5
        split
        · apply State.postEvent_kept
          with_reducible assumption
        · with_reducible assumption
      clear_value v5
      extract_lets +onlyGivenNames v6
      have h6 : Kept s0 v6 := by
        unfold v6
        split
        · with_reducible assumption
        · apply State.put_kept
          with_reducible assumption
      clear_value v6
      extract_lets +onlyGivenNames v7
      have h7 : Kept s0 v7 := by
        unfold v7
        split
        · apply State.put_kept
          with_reducible assumption
        · with_reducible assumption
      clear_value v7
      split
      · with_reducible assumption
      · apply State.put_kept
        with_reducible assumption
  clear_value v1
  apply State.put_kept
  with_reducible assumption

theorem State.wakeDue_kept {s0 x0 : State} (h0 : Kept s0 x0) :
    Kept s0 (@State.wakeDue x0) := by
  unfold State.wakeDue
  split
  · apply State.wake_kept
    with_reducible assumption
  · with_reducible assumption

theorem State.writeCancel_kept {s0 x0 : State} {x1 : Agent} {x2 : Nat} (h0 : Kept s0 x0) :
    Kept s0 (@State.writeCancel x0 x1 x2) := by
  unfold State.writeCancel
  apply State.guardWrite_kept
  · with_reducible assumption
  · intro k1 k2
    apply State.unlessLocked_kept
    · with_reducible assumption
    · intro k3 k4
      split
      · apply State.put_kept
        apply State.put_kept
        with_reducible assumption
      · extract_lets +onlyGivenNames v5
        clear_value v5
        extract_lets +onlyGivenNames v6
        have h6 : Kept s0 v6 := by
          unfold v6
          apply State.cancelWhere_kept
          with_reducible assumption
        clear_value v6
        apply State.put_kept
        apply State.put_kept
        with_reducible assumption

theorem execAtTickActions_kept {s0 x0 : State} (h0 : Kept s0 x0) :
    KeptN s0 (@execAtTickActions x0) := by
  unfold execAtTickActions
  extract_lets +onlyGivenNames v1
  clear_value v1
  split
  · apply KeptN.next
    with_reducible assumption
  · extract_lets +onlyGivenNames v2
    have h2 : Kept s0 v2 := by
      unfold v2
      apply State.putFlag_kept
      with_reducible assumption
    clear_value v2
    extract_lets +onlyGivenNames v3
    have h3 : Kept s0 v3 := by
      unfold v3
      refine Kept.same (s := v2) ?_ rfl Sub.rfl' Sub.rfl' Sub.rfl' Sub.rfl' Sub.rfl'
      with_reducible assumption
    clear_value v3
    extract_lets +onlyGivenNames v4
    clear_value v4
    split
    · apply KeptN.next
      apply forEach_kept
      · with_reducible assumption
      · intro k5 k6 k7
        apply State.takeAct_kept
        with_reducible assumption
    · extract_lets +onlyGivenNames v8
      have h8 : Kept s0 v8 := by
        unfold v8
        apply forEach_kept
        · with_reducible assumption
        · intro k9 k10 k11
          apply State.takeAct_kept
          with_reducible assumption
      clear_value v8
      apply KeptN.next
      apply forEach_kept
      · with_reducible assumption
      · intro k12 k13 k14
        apply State.cancelAct_kept
        with_reducible assumption

theorem execPlanSeal_kept {s0 : State} {x0 : Nat} {x1 : List PEntry} {x2 : State} (h0 : Kept s0 x2) :
    KeptN s0 (@execPlanSeal x0 x1 x2) := by
  unfold execPlanSeal
  split
  · apply KeptN.next
    with_reducible assumption
  · extract_lets +onlyGivenNames v1
    clear_value v1
    extract_lets +onlyGivenNames v2
    clear_value v2
    split
    · split
      · apply KeptN.next
        apply State.setPlan_kept
        with_reducible assumption
      · extract_lets +onlyGivenNames v3
        clear_value v3
        extract_lets +onlyGivenNames v4
        clear_value v4
        extract_lets +onlyGivenNames v5
        have h5 : Kept s0 v5 := by
          unfold v5
          apply State.setPlan_kept
          with_reducible assumption
        clear_value v5
        apply KeptN.next
        apply forEach_kept
        · with_reducible assumption
        · intro k6 k7 k8
          apply State.entryByRecon_kept
          with_reducible assumption
    · extract_lets +onlyGivenNames v9
      clear_value v9
      split
      · apply KeptN.next
        with_reducible assumption
      · extract_lets +onlyGivenNames v10
        clear_value v10
        extract_lets +onlyGivenNames v11
        clear_value v11
        extract_lets +onlyGivenNames v12
        have h12 : Kept s0 v12 := by
          unfold v12
          apply State.setPlan_kept
          with_reducible assumption
        clear_value v12
        apply KeptN.next
        split
        · apply State.sampleBoth_kept
          with_reducible assumption
        · with_reducible assumption

theorem execTickBoundary_kept {s0 x0 : State} (h0 : Kept s0 x0) :
    KeptN s0 (@execTickBoundary x0) := by
  unfold execTickBoundary
  split
  · apply KeptN.next
    with_reducible assumption
  · extract_lets +onlyGivenNames v1
    clear_value v1
    extract_lets +onlyGivenNames v2
    have h2 : Kept s0 v2 := by
      unfold v2
      split
      · apply State.bump_kept
        with_reducible assumption
      · with_reducible assumption
    clear_value v2
    extract_lets +onlyGivenNames v3
    have h3 : Kept s0 v3 := by
      unfold v3
      split
      · apply State.bump_kept
        with_reducible assumption
      · with_reducible assumption
    clear_value v3
    extract_lets +onlyGivenNames v4
    clear_value v4
    extract_lets +onlyGivenNames v5
    have h5 : Kept s0 v5 := by
      unfold v5
      apply State.finishExit_kept
      apply State.closeStranded_kept
      with_reducible assumption
    clear_value v5
    extract_lets +onlyGivenNames v6
    have h6 : Kept s0 v6 := by
      unfold v6
      apply State.tickOut_kept
      apply State.tickSource_kept
      apply State.endTick_kept
      apply State.put_kept
      apply State.put_kept
      with_reducible assumption
    clear_value v6
    extract_lets +onlyGivenNames v7
    have h7 : Kept s0 v7 := by
      unfold v7
      apply forEach_kept
      · apply State.countSuspended_kept
        with_reducible assumption
      · intro k8 k9 k10
        apply State.swapPlan_kept
        with_reducible assumption
    clear_value v7
    extract_lets +onlyGivenNames v11
    have h11 : Kept s0 v11 := by
      unfold v11
      apply State.updateReserves_kept
      apply State.updateGold_kept
      apply State.publishBudgets_kept
      apply State.countPlanned_kept
      with_reducible assumption
    clear_value v11
    extract_lets +onlyGivenNames v12
    have h12 : Kept s0 v12 := by
      unfold v12
      apply State.wakeDue_kept
      apply State.fwBoundary_kept
      apply State.evalLicences_kept
      apply State.ageNonce_kept
      apply State.tickCalendar_kept
      apply State.newQuota_kept
      apply State.updateGc_kept
      with_reducible assumption
    clear_value v12
    apply KeptN.next
    apply State.tickSamples_kept
    with_reducible assumption

theorem execTickLockAcquired_kept {s0 x0 : State} (h0 : Kept s0 x0) :
    KeptN s0 (@execTickLockAcquired x0) := by
  unfold execTickLockAcquired
  extract_lets +onlyGivenNames v1
  clear_value v1
  split
  · apply KeptN.next
    with_reducible assumption
  · extract_lets +onlyGivenNames v2
    have h2 : Kept s0 v2 := by
      unfold v2
      apply State.clearLevel_kept
      apply State.put_kept
      apply State.put_kept
      with_reducible assumption
    clear_value v2
    extract_lets +onlyGivenNames v3
    clear_value v3
    extract_lets +onlyGivenNames v4
    clear_value v4
    split
    · apply KeptN.next
      with_reducible assumption
    · extract_lets +onlyGivenNames v5
      have h5 : Kept s0 v5 := by
        unfold v5
        apply State.put_kept
        apply State.putFlag_kept
        apply State.put_kept
        with_reducible assumption
      clear_value v5
      extract_lets +onlyGivenNames v6
      have h6 : Kept s0 v6 := by
        unfold v6
        apply State.cancelWhere_kept
        with_reducible assumption
      clear_value v6
      apply KeptN.next
      apply State.raise_kept
      with_reducible assumption

theorem execTkCancel_kept {s0 : State} {x0 : Agent} {x1 : Nat} {x2 : State} (h0 : Kept s0 x2) :
    KeptN s0 (@execTkCancel x0 x1 x2) := by
  unfold execTkCancel
  apply KeptN.next
  apply State.atUnit_kept
  · with_reducible assumption
  · intro k1 k2
    apply State.writeCancel_kept
    with_reducible assumption

end Sys2Proof.Machine
end

