-- ==== Sys2Proof/Laws/KeptStartup.lean ====
section
/-! SUPPORT. What the operations of Machine/Startup.lean keep (`Kept`): one lemma each. -/

set_option linter.unusedVariables false

namespace Sys2Proof.Machine

theorem State.afterReset_kept {s0 x0 : State} (h0 : Kept s0 x0) :
    Kept s0 (@State.afterReset x0) := by
  unfold State.afterReset
  extract_lets +onlyGivenNames v1
  extract_lets +onlyGivenNames v2
  clear_value v2
  extract_lets +onlyGivenNames v3
  have h3 : Kept s0 v3 := by
    unfold v3
    apply State.putFlag_kept
    apply State.clearDomains_kept
    with_reducible assumption
  clear_value v3
  apply State.put_kept
  apply State.put_kept
  apply State.put_kept
  with_reducible assumption

theorem State.bootPut_kept {s0 x0 : State} {x1 : Bool} {x2 : Field} {x3 x4 : Nat} (h0 : Kept s0 x0) :
    Kept s0 (@State.bootPut x0 x1 x2 x3 x4) := by
  unfold State.bootPut
  split
  · apply State.put_kept
    with_reducible assumption
  · with_reducible assumption

theorem State.applyRecord_kept {s0 x0 : State} {x1 : List Byte} {x2 : Bool} (h0 : Kept s0 x0) :
    Kept s0 (@State.applyRecord x0 x1 x2) := by
  unfold State.applyRecord
  extract_lets +onlyGivenNames v1
  clear_value v1
  extract_lets +onlyGivenNames v2
  have h2 : Kept s0 v2 := by
    unfold v2
    apply State.bootPut_kept
    with_reducible assumption
  clear_value v2
  extract_lets +onlyGivenNames v3
  have h3 : Kept s0 v3 := by
    unfold v3
    apply State.bootPut_kept
    apply State.bootPut_kept
    with_reducible assumption
  clear_value v3
  extract_lets +onlyGivenNames v4
  have h4 : Kept s0 v4 := by
    unfold v4
    apply State.put_kept
    with_reducible assumption
  clear_value v4
  extract_lets +onlyGivenNames v5
  have h5 : Kept s0 v5 := by
    unfold v5
    apply forEach_kept
    · with_reducible assumption
    · intro k6 k7 k8
      apply State.bootPut_kept
      with_reducible assumption
  clear_value v5
  extract_lets +onlyGivenNames v9
  have h9 : Kept s0 v9 := by
    unfold v9
    apply forEach_kept
    · with_reducible assumption
    · intro k10 k11 k12
      apply State.bootPut_kept
      with_reducible assumption
  clear_value v9
  extract_lets +onlyGivenNames v13
  have h13 : Kept s0 v13 := by
    unfold v13
    apply forEach_kept
    · with_reducible assumption
    · intro k14 k15 k16
      apply State.bootPut_kept
      apply State.bootPut_kept
      with_reducible assumption
  clear_value v13
  extract_lets +onlyGivenNames v17
  have h17 : Kept s0 v17 := by
    unfold v17
    apply forEach_kept
    · with_reducible assumption
    · intro k18 k19 k20
      apply State.bootPut_kept
      apply State.bootPut_kept
      with_reducible assumption
  clear_value v17
  extract_lets +onlyGivenNames v21
  have h21 : Kept s0 v21 := by
    unfold v21
    apply forEach_kept
    · with_reducible assumption
    · intro k22 k23 k24
      extract_lets +onlyGivenNames v25
      have h25 : Kept s0 v25 := by
        unfold v25
        apply State.put_kept
        with_reducible assumption
      clear_value v25
      split
      · with_reducible assumption
      · apply State.put_kept
        with_reducible assumption
  clear_value v21
  refine Kept.same (s := v21) ?_ rfl Sub.rfl' Sub.rfl' Sub.rfl' Sub.rfl' Sub.rfl'
  with_reducible assumption

theorem State.bootHalt_kept {s0 x0 : State} (h0 : Kept s0 x0) :
    Kept s0 (@State.bootHalt x0) := by
  unfold State.bootHalt
  extract_lets +onlyGivenNames v1
  have h1 : Kept s0 v1 := by
    unfold v1
    split
    · with_reducible assumption
    · apply State.emit_kept
      apply State.putFlag_kept
      with_reducible assumption
  clear_value v1
  apply State.putFlag_kept
  apply State.putFlag_kept
  with_reducible assumption

theorem State.bootKeep_kept {s0 x0 : State} (h0 : Kept s0 x0) :
    Kept s0 (@State.bootKeep x0) := by
  unfold State.bootKeep
  extract_lets +onlyGivenNames v1
  have h1 : Kept s0 v1 := by
    unfold v1
    apply State.put_kept
    with_reducible assumption
  clear_value v1
  extract_lets +onlyGivenNames v2
  have h2 : Kept s0 v2 := by
    unfold v2
    apply State.put_kept
    apply State.put_kept
    with_reducible assumption
  clear_value v2
  split
  · apply State.putFlag_kept
    with_reducible assumption
  · with_reducible assumption

theorem State.bootSlot_kept {s0 x0 : State} {x1 : Nat} (h0 : Kept s0 x0) :
    Kept s0 (@State.bootSlot x0 x1) := by
  unfold State.bootSlot
  extract_lets +onlyGivenNames v1
  have h1 : Kept s0 v1 := by
    unfold v1
    apply State.put_kept
    apply State.put_kept
    with_reducible assumption
  clear_value v1
  extract_lets +onlyGivenNames v2
  have h2 : Kept s0 v2 := by
    unfold v2
    apply forEach_kept
    · with_reducible assumption
    · intro k3 k4 k5
      apply State.put_kept
      apply State.put_kept
      with_reducible assumption
  clear_value v2
  extract_lets +onlyGivenNames v6
  have h6 : Kept s0 v6 := by
    unfold v6
    apply State.setNextReset_kept
    with_reducible assumption
  clear_value v6
  split
  · with_reducible assumption
  · split
    · apply State.fwReport_kept
      apply State.bump_kept
      apply State.setNextReset_kept
      apply State.recordRunning_kept
      with_reducible assumption
    · split
      · apply State.recordRunning_kept
        with_reducible assumption
      · with_reducible assumption

theorem State.halfErased_kept {s0 x0 : State} {x1 : List Nat} (h0 : Kept s0 x0) :
    Kept s0 (@State.halfErased x0 x1) := by
  unfold State.halfErased
  extract_lets +onlyGivenNames v1
  clear_value v1
  extract_lets +onlyGivenNames v2
  apply forEach_kept
  · apply forEach_kept
    · with_reducible assumption
    · intro k3 k4 k5
      unfold v2
      split
      · apply State.journalRetire_kept
        apply State.putFlag_kept
        with_reducible assumption
      · extract_lets +onlyGivenNames v6
        have h6 : Kept s0 v6 := by
          unfold v6
          apply State.putFlag_kept
          apply State.put_kept
          apply State.put_kept
          with_reducible assumption
        clear_value v6
        extract_lets +onlyGivenNames v7
        have h7 : Kept s0 v7 := by
          unfold v7
          apply State.journal_kept
          with_reducible assumption
        clear_value v7
        apply State.put_kept
        with_reducible assumption
  · intro k8 k9 k10
    unfold v2
    split
    · apply State.journalRetire_kept
      apply State.putFlag_kept
      with_reducible assumption
    · extract_lets +onlyGivenNames v11
      have h11 : Kept s0 v11 := by
        unfold v11
        apply State.putFlag_kept
        apply State.put_kept
        apply State.put_kept
        with_reducible assumption
      clear_value v11
      extract_lets +onlyGivenNames v12
      have h12 : Kept s0 v12 := by
        unfold v12
        apply State.journal_kept
        with_reducible assumption
      clear_value v12
      apply State.put_kept
      with_reducible assumption

theorem State.settleUnits_kept {s0 x0 : State} {x1 : URec} {x2 : Nat} (h0 : Kept s0 x0) :
    Kept s0 (@State.settleUnits x0 x1 x2) := by
  unfold State.settleUnits
  extract_lets +onlyGivenNames v1
  have h1 : Kept s0 v1 := by
    unfold v1
    apply State.put_kept
    with_reducible assumption
  clear_value v1
  split
  · with_reducible assumption
  · split
    · with_reducible assumption
    · extract_lets +onlyGivenNames v2
      split
      · with_reducible assumption
      · split
        · apply State.put_kept
          apply State.commitCopy_kept
          with_reducible assumption
        · apply State.put_kept
          with_reducible assumption

theorem State.recoverBand_kept {s0 x0 : State} {x1 : Nat} (h0 : Kept s0 x0) :
    Kept s0 (@State.recoverBand x0 x1) := by
  unfold State.recoverBand
  split
  · with_reducible assumption
  · extract_lets +onlyGivenNames v1
    clear_value v1
    extract_lets +onlyGivenNames v2
    have h2 : Kept s0 v2 := by
      unfold v2
      apply forEach_kept
      · with_reducible assumption
      · intro k3 k4 k5
        apply State.settleUnits_kept
        with_reducible assumption
    clear_value v2
    extract_lets +onlyGivenNames v6
    clear_value v6
    apply State.put_kept
    apply State.closeBand_kept
    with_reducible assumption

theorem State.recoverMedia_kept {s0 x0 : State} {x1 : List Nat} (h0 : Kept s0 x0) :
    Kept s0 (@State.recoverMedia x0 x1) := by
  unfold State.recoverMedia
  extract_lets +onlyGivenNames v1
  clear_value v1
  extract_lets +onlyGivenNames v2
  have h2 : Kept s0 v2 := by
    unfold v2
    apply State.halfErased_kept
    apply forEach_kept
    · with_reducible assumption
    · intro k3 k4 k5
      apply State.put_kept
      with_reducible assumption
  clear_value v2
  apply forEach_kept
  · with_reducible assumption
  · intro k6 k7 k8
    apply State.recoverBand_kept
    with_reducible assumption

theorem State.bootValues_kept {s0 x0 : State} {x1 : BootFinds} {x2 : Bool} (h0 : Kept s0 x0) :
    Kept s0 (@State.bootValues x0 x1 x2) := by
  unfold State.bootValues
  extract_lets +onlyGivenNames v1
  have h1 : Kept s0 v1 := by
    unfold v1
    apply State.put_kept
    apply State.bootPut_kept
    with_reducible assumption
  clear_value v1
  extract_lets +onlyGivenNames v2
  have h2 : Kept s0 v2 := by
    unfold v2
    apply State.put_kept
    with_reducible assumption
  clear_value v2
  extract_lets +onlyGivenNames v3
  have h3 : Kept s0 v3 := by
    unfold v3
    apply State.put_kept
    with_reducible assumption
  clear_value v3
  extract_lets +onlyGivenNames v4
  have h4 : Kept s0 v4 := by
    unfold v4
    apply State.put_kept
    apply State.put_kept
    with_reducible assumption
  clear_value v4
  extract_lets +onlyGivenNames v5
  have h5 : Kept s0 v5 := by
    unfold v5
    apply State.putFlag_kept
    apply State.putFlag_kept
    apply State.putFlag_kept
    with_reducible assumption
  clear_value v5
  extract_lets +onlyGivenNames v6
  have h6 : Kept s0 v6 := by
    unfold v6
    apply forEach_kept
    · with_reducible assumption
    · intro k7 k8 k9
      apply State.put_kept
      with_reducible assumption
  clear_value v6
  extract_lets +onlyGivenNames v10
  have h10 : Kept s0 v10 := by
    unfold v10
    apply State.bootPut_kept
    with_reducible assumption
  clear_value v10
  extract_lets +onlyGivenNames v11
  have h11 : Kept s0 v11 := by
    unfold v11
    apply forEach_kept
    · with_reducible assumption
    · intro k12 k13 k14
      apply State.put_kept
      apply State.put_kept
      with_reducible assumption
  clear_value v11
  extract_lets +onlyGivenNames v15
  have h15 : Kept s0 v15 := by
    unfold v15
    apply forEach_kept
    · with_reducible assumption
    · intro k16 k17 k18
      split
      split
      apply State.put_kept
      apply State.put_kept
      refine KeptP.eq (by assumption) ?_
      apply State.takeFree_kept
      refine KeptP.eq (by assumption) ?_
      apply State.takeFree_kept
      with_reducible assumption
  clear_value v15
  extract_lets +onlyGivenNames v19
  have h19 : Kept s0 v19 := by
    unfold v19
    split
    · with_reducible assumption
    · split
      extract_lets +onlyGivenNames v20
      have h20 : Kept s0 v20 := by
        unfold v20
        apply State.put_kept
        refine KeptP.eq (by assumption) ?_
        apply State.takeFree_kept
        with_reducible assumption
      clear_value v20
      apply State.put_kept
      with_reducible assumption
  clear_value v19
  apply State.put_kept
  with_reducible assumption

theorem State.bootRest_kept {s0 x0 : State} {x1 : BootFinds} {x2 : Nat} {x3 : Bool} (h0 : Kept s0 x0) :
    Kept s0 (@State.bootRest x0 x1 x2 x3) := by
  unfold State.bootRest
  extract_lets +onlyGivenNames v1
  clear_value v1
  extract_lets +onlyGivenNames v2
  clear_value v2
  extract_lets +onlyGivenNames v3
  have h3 : Kept s0 v3 := by
    unfold v3
    apply forEach_kept
    · with_reducible assumption
    · intro k4 k5 k6
      apply State.putFlag_kept
      with_reducible assumption
  clear_value v3
  extract_lets +onlyGivenNames v7
  have h7 : Kept s0 v7 := by
    unfold v7
    apply forEach_kept
    · with_reducible assumption
    · intro k8 k9 k10
      apply State.bringUp_kept
      with_reducible assumption
  clear_value v7
  extract_lets +onlyGivenNames v11
  have h11 : Kept s0 v11 := by
    unfold v11
    apply forEach_kept
    · with_reducible assumption
    · intro k12 k13 k14
      apply State.bump_kept
      apply State.putFlag_kept
      with_reducible assumption
  clear_value v11
  extract_lets +onlyGivenNames v15
  have h15 : Kept s0 v15 := by
    unfold v15
    apply State.bootSlot_kept
    with_reducible assumption
  clear_value v15
  extract_lets +onlyGivenNames v16
  have h16 : Kept s0 v16 := by
    unfold v16
    apply State.applyRecord_kept
    with_reducible assumption
  clear_value v16
  extract_lets +onlyGivenNames v17
  have h17 : Kept s0 v17 := by
    unfold v17
    apply State.recoverMedia_kept
    apply State.bootValues_kept
    with_reducible assumption
  clear_value v17
  extract_lets +onlyGivenNames v18
  have h18 : Kept s0 v18 := by
    unfold v18
    apply forEach_kept
    · with_reducible assumption
    · intro k19 k20 k21
      apply State.applyLayout_kept
      with_reducible assumption
  clear_value v18
  extract_lets +onlyGivenNames v22
  have h22 : Kept s0 v22 := by
    unfold v22
    apply State.evalLicences_kept
    apply State.put_kept
    with_reducible assumption
  clear_value v22
  extract_lets +onlyGivenNames v23
  have h23 : Kept s0 v23 := by
    unfold v23
    apply State.updateErrN_kept
    with_reducible assumption
  clear_value v23
  extract_lets +onlyGivenNames v24
  have h24 : Kept s0 v24 := by
    unfold v24
    split
    · apply State.putFlag_kept
      apply State.raise_kept
      with_reducible assumption
    · with_reducible assumption
  clear_value v24
  extract_lets +onlyGivenNames v25
  have h25 : Kept s0 v25 := by
    unfold v25
    apply State.put_kept
    apply State.put_kept
    with_reducible assumption
  clear_value v25
  extract_lets +onlyGivenNames v26
  have h26 : Kept s0 v26 := by
    unfold v26
    apply State.updateAllow_kept
    apply State.updateGc_kept
    apply State.publishBudgets_kept
    apply State.newQuota_kept
    with_reducible assumption
  clear_value v26
  extract_lets +onlyGivenNames v27
  have h27 : Kept s0 v27 := by
    unfold v27
    apply State.putFlag_kept
    with_reducible assumption
  clear_value v27
  apply State.putFlag_kept
  with_reducible assumption

theorem State.bootStatus_kept {s0 x0 : State} {x1 x2 x3 x4 x5 : Nat} (h0 : Kept s0 x0) :
    Kept s0 (@State.bootStatus x0 x1 x2 x3 x4 x5) := by
  unfold State.bootStatus
  extract_lets +onlyGivenNames v1
  have h1 : Kept s0 v1 := by
    unfold v1
    apply State.put_kept
    apply State.put_kept
    apply State.put_kept
    with_reducible assumption
  clear_value v1
  apply State.put_kept
  apply State.put_kept
  with_reducible assumption

theorem State.dropLinks_kept {s0 x0 : State} (h0 : Kept s0 x0) :
    Kept s0 (@State.dropLinks x0) := by
  unfold State.dropLinks
  apply forEach_kept
  · with_reducible assumption
  · intro k1 k2 k3
    split
    · apply State.linkDown_kept
      with_reducible assumption
    · with_reducible assumption

theorem State.resetFlush_kept {s0 x0 : State} (h0 : Kept s0 x0) :
    Kept s0 (@State.resetFlush x0) := by
  unfold State.resetFlush
  split
  · with_reducible assumption
  · refine KeptP.out ?_
    apply State.finishFlush_kept
    apply State.dropAllCommands_kept
    with_reducible assumption

theorem execChipReset_kept {s0 x0 : State} (h0 : Kept s0 x0) :
    KeptN s0 (@execChipReset x0) := by
  unfold execChipReset
  split
  · apply KeptN.next
    with_reducible assumption
  · extract_lets +onlyGivenNames v1
    clear_value v1
    extract_lets +onlyGivenNames v2
    have h2 : Kept s0 v2 := by
      unfold v2
      split
      · apply State.stopMedia_kept
        with_reducible assumption
      · with_reducible assumption
    clear_value v2
    split
    · apply KeptN.next
      with_reducible assumption
    · apply KeptN.next
      apply State.afterReset_kept
      apply State.dropLinks_kept
      apply State.resetFlush_kept
      with_reducible assumption

theorem execMainPgDeassert_kept {s0 x0 : State} (h0 : Kept s0 x0) :
    KeptN s0 (@execMainPgDeassert x0) := by
  unfold execMainPgDeassert
  apply KeptN.next
  apply State.putFlag_kept
  with_reducible assumption

theorem execMainPgQualified_kept {s0 : State} {x0 : List (Option Int)} {x1 : Nat} {x2 : State} (h0 : Kept s0 x2) :
    KeptN s0 (@execMainPgQualified x0 x1 x2) := by
  unfold execMainPgQualified
  extract_lets +onlyGivenNames v1
  have h1 : Kept s0 v1 := by
    unfold v1
    apply State.putFlag_kept
    with_reducible assumption
  clear_value v1
  split
  · apply KeptN.next
    with_reducible assumption
  · split
    · apply KeptN.next
      with_reducible assumption
    · extract_lets +onlyGivenNames v2
      have h2 : Kept s0 v2 := by
        unfold v2
        apply State.setMainEn_kept
        apply State.putFlag_kept
        with_reducible assumption
      clear_value v2
      split
      · extract_lets +onlyGivenNames v3
        have h3 : Kept s0 v3 := by
          unfold v3
          apply State.put_kept
          apply State.put_kept
          apply State.put_kept
          with_reducible assumption
        clear_value v3
        apply KeptN.next
        apply State.put_kept
        with_reducible assumption
      · apply KeptN.next
        apply State.setMainEn_kept
        apply forEach_kept
        · with_reducible assumption
        · intro k4 k5 k6
          apply State.logPatrol_kept
          with_reducible assumption

theorem execStartup_kept {s0 : State} {x0 : BootFinds} {x1 : State} (h0 : Kept s0 x1) :
    KeptN s0 (@execStartup x0 x1) := by
  unfold execStartup
  split
  · apply KeptN.next
    with_reducible assumption
  · extract_lets +onlyGivenNames v1
    have h1 : Kept s0 v1 := by
      unfold v1
      split
      · apply State.bump_kept
        apply State.put_kept
        apply State.put_kept
        with_reducible assumption
      · with_reducible assumption
    clear_value v1
    extract_lets +onlyGivenNames v2
    extract_lets +onlyGivenNames v3
    have h3 : Kept s0 v3 := by
      unfold v3
      split
      · apply State.put_kept
        refine Kept.same (s := v1) ?_ rfl Sub.rfl' Sub.rfl' Sub.rfl' Sub.rfl' Sub.rfl'
        with_reducible assumption
      · with_reducible assumption
    clear_value v3
    extract_lets +onlyGivenNames v4
    have h4 : Kept s0 v4 := by
      unfold v4
      apply State.bootKeep_kept
      with_reducible assumption
    clear_value v4
    extract_lets +onlyGivenNames v5
    clear_value v5
    split
    · extract_lets +onlyGivenNames v6
      clear_value v6
      apply KeptN.next
      apply State.bootStatus_kept
      apply State.bootRest_kept
      with_reducible assumption
    · apply KeptN.next
      split
      · apply State.bootStatus_kept
        with_reducible assumption
      · apply State.bootHalt_kept
        with_reducible assumption

end Sys2Proof.Machine
end

