-- ==== Sys2Proof/Laws/KeptLogs.lean ====
section
/-! SUPPORT. What the operations of Machine/Logs.lean keep (`Kept`): one lemma each. -/

set_option linter.unusedVariables false

namespace Sys2Proof.Machine

theorem State.answer_kept {s0 x0 : State} {x1 : Cmd} {x2 : Except Result (List Byte × State)} (h0 : Kept s0 x0) (h1 : KeptE s0 x2) :
    Kept s0 (@State.answer x0 x1 x2) := by
  unfold State.answer
  split
  · exact State.finish_kept h0
  · exact State.finish_kept (State.sendData_kept (h1.of _ rfl))

theorem State.identify_kept {s0 x0 : State} {x1 : Cmd} (h0 : Kept s0 x0) :
    KeptE s0 (@State.identify x0 x1) := by
  unfold State.identify
  split
  split
  · apply KeptE.error
  · apply KeptE.ok
    apply KeptP.mk'
    refine KeptP.eq (by assumption) ?_
    apply State.takeFreeBytes_kept
    with_reducible assumption

theorem State.logRead_kept {s0 x0 : State} {x1 : Cmd} {x2 : List Byte → State → Except Result (List Byte × State)} (h0 : Kept s0 x0) (h1 : ∀ y0 y1,
    Kept s0 y1 → KeptE s0 (x2 y0 y1)) :
    KeptE s0 (@State.logRead x0 x1 x2) := by
  unfold State.logRead
  split
  · apply KeptE.error
  · split
    split
    · apply KeptE.error
    · split
      · apply KeptE.error
      · apply KeptE.ok
        apply KeptP.mk'
        refine KeptE.outM (by assumption) ?_
        apply h1
        refine KeptP.eq (by assumption) ?_
        apply State.takeFreeBytes_kept
        with_reducible assumption

theorem State.miFree_kept {s0 x0 : State} (h0 : Kept s0 x0) :
    Kept s0 (@State.miFree x0) := by
  unfold State.miFree
  split
  apply State.emit_kept
  refine KeptP.eq (by assumption) ?_
  apply State.takeFreeBytes_kept
  with_reducible assumption

theorem State.onMi_kept {s0 x0 : State} {x1 : State → State} (h0 : Kept s0 x0) (h1 : ∀ y0, Kept s0 y0 → Kept s0 (x1 y0)) :
    Kept s0 (@State.onMi x0 x1) := by
  unfold State.onMi
  split
  · apply h1
    split
    · apply State.gateAll_kept
      with_reducible assumption
    · with_reducible assumption
  · with_reducible assumption

theorem State.readErase_kept {s0 x0 : State} {x1 : Cmd} (h0 : Kept s0 x0) :
    KeptE s0 (@State.readErase x0 x1) := by
  unfold State.readErase
  split
  · apply KeptE.error
  · apply State.logRead_kept
    · with_reducible assumption
    · intro k1 k2 k3
      split
      · apply KeptE.ok
        apply KeptP.mk'
        with_reducible assumption
      · split
        · apply KeptE.ok
          apply KeptP.mk'
          with_reducible assumption
        · apply KeptE.error

theorem State.readFaults_kept {s0 x0 : State} {x1 : Cmd} (h0 : Kept s0 x0) :
    KeptE s0 (@State.readFaults x0 x1) := by
  unfold State.readFaults
  split
  · apply KeptE.error
  · apply State.logRead_kept
    · with_reducible assumption
    · intro k1 k2 k3
      apply KeptE.ok
      apply KeptP.mk'
      with_reducible assumption

theorem State.readRecorder_kept {s0 x0 : State} {x1 : Cmd} (h0 : Kept s0 x0) :
    KeptE s0 (@State.readRecorder x0 x1) := by
  unfold State.readRecorder
  extract_lets +onlyGivenNames v1
  clear_value v1
  split
  · apply KeptE.error
  · split
    · apply KeptE.error
    · apply State.logRead_kept
      · with_reducible assumption
      · intro k2 k3 k4
        split
        · extract_lets +onlyGivenNames v5
          have h5 : Kept s0 v5 := by
            unfold v5
            refine Kept.same (s := k3) ?_ rfl Sub.rfl' Sub.rfl' Sub.rfl' Sub.rfl' Sub.rfl'
            with_reducible assumption
          clear_value v5
          apply KeptE.ok
          apply KeptP.mk'
          split
          · apply State.clearRecorder_kept
            with_reducible assumption
          · with_reducible assumption
        · apply KeptE.ok
          apply KeptP.mk'
          with_reducible assumption

theorem State.standardLog_kept {s0 x0 : State} {x1 : Cmd} {x2 : List Byte} (h0 : Kept s0 x0) :
    KeptOP s0 (@State.standardLog x0 x1 x2) := by
  unfold State.standardLog
  split
  · apply KeptOP.some
    apply KeptP.mk'
    with_reducible assumption
  · apply KeptOP.some
    apply KeptP.mk'
    with_reducible assumption
  · apply KeptOP.some
    apply KeptP.mk'
    with_reducible assumption
  · extract_lets +onlyGivenNames v1
    have h1 : Kept s0 v1 := by
      unfold v1
      refine Kept.same (s := x0) ?_ rfl Sub.filter Sub.rfl' Sub.rfl' Sub.rfl' Sub.rfl'
      with_reducible assumption
    clear_value v1
    apply KeptOP.some
    apply KeptP.mk'
    split
    · with_reducible assumption
    · with_reducible assumption
  · apply KeptOP.some
    apply KeptP.mk'
    with_reducible assumption
  · apply KeptOP.some
    apply KeptP.mk'
    with_reducible assumption
  · exact KeptOP.none

theorem State.readStandard_kept {s0 x0 : State} {x1 : Cmd} (h0 : Kept s0 x0) :
    KeptE s0 (@State.readStandard x0 x1) := by
  unfold State.readStandard
  split
  · exact KeptE.error
  split
  · exact KeptE.error
  refine State.logRead_kept h0 fun free t h => ?_
  have k : KeptOP s0 (t.standardLog x1 free) := State.standardLog_kept h
  cases e : t.standardLog x1 free with
  | none => exact KeptE.error
  | some p => exact KeptE.ok (KeptOP.outP e k)

theorem State.readLog_kept {s0 x0 : State} {x1 : Cmd} (h0 : Kept s0 x0) :
    KeptE s0 (@State.readLog x0 x1) := by
  unfold State.readLog
  split
  · apply KeptE.error
  · split
    · apply State.readErase_kept
      with_reducible assumption
    · apply State.readRecorder_kept
      with_reducible assumption
    · apply State.readFaults_kept
      with_reducible assumption
    · apply State.readStandard_kept
      with_reducible assumption

theorem execBasicManagementCommand_kept {s0 x0 : State} (h0 : Kept s0 x0) :
    KeptN s0 (@execBasicManagementCommand x0) := by
  unfold execBasicManagementCommand
  apply KeptN.next
  apply State.onMi_kept
  · with_reducible assumption
  · intro k1 k2
    split
    apply State.emit_kept
    refine KeptP.eq (by assumption) ?_
    apply State.takeFreeBytes_kept
    with_reducible assumption

theorem execGetLogEraseCounts_kept {s0 : State} {x0 : Nat} {x1 : State} (h0 : Kept s0 x1) :
    KeptN s0 (@execGetLogEraseCounts x0 x1) := by
  unfold execGetLogEraseCounts
  apply KeptN.next
  apply State.onAdmin_kept
  · with_reducible assumption
  · intro k1
    split
    · apply State.answer_kept
      · with_reducible assumption
      · apply State.readLog_kept
        with_reducible assumption
    · with_reducible assumption

theorem execGetLogFaultStatus_kept {s0 : State} {x0 : Nat} {x1 : State} (h0 : Kept s0 x1) :
    KeptN s0 (@execGetLogFaultStatus x0 x1) := by
  unfold execGetLogFaultStatus
  apply KeptN.next
  apply State.onAdmin_kept
  · with_reducible assumption
  · intro k1
    split
    · apply State.answer_kept
      · with_reducible assumption
      · apply State.readLog_kept
        with_reducible assumption
    · with_reducible assumption

theorem execGetLogPage_kept {s0 : State} {x0 : Nat} {x1 : State} (h0 : Kept s0 x1) :
    KeptN s0 (@execGetLogPage x0 x1) := by
  unfold execGetLogPage
  apply KeptN.next
  apply State.onAdmin_kept
  · with_reducible assumption
  · intro k1
    split
    · with_reducible assumption
    · apply State.answer_kept
      · with_reducible assumption
      · apply State.readLog_kept
        with_reducible assumption

theorem execGetLogRecorderExport_kept {s0 : State} {x0 : Nat} {x1 : State} (h0 : Kept s0 x1) :
    KeptN s0 (@execGetLogRecorderExport x0 x1) := by
  unfold execGetLogRecorderExport
  apply KeptN.next
  apply State.onAdmin_kept
  · with_reducible assumption
  · intro k1
    split
    · apply State.answer_kept
      · with_reducible assumption
      · apply State.readLog_kept
        with_reducible assumption
    · with_reducible assumption

theorem execIdentify_kept {s0 : State} {x0 : Nat} {x1 : State} (h0 : Kept s0 x1) :
    KeptN s0 (@execIdentify x0 x1) := by
  unfold execIdentify
  apply KeptN.next
  apply State.onAdmin_kept
  · with_reducible assumption
  · intro k1
    apply State.answer_kept
    · with_reducible assumption
    · apply State.identify_kept
      with_reducible assumption

theorem execMiConfigurationGet_kept {s0 : State} {x0 : Nat} {x1 : State} (h0 : Kept s0 x1) :
    KeptN s0 (@execMiConfigurationGet x0 x1) := by
  unfold execMiConfigurationGet
  apply KeptN.next
  apply State.onMi_kept
  · with_reducible assumption
  · intro k1 k2
    apply State.emit_kept
    with_reducible assumption

theorem execMiConfigurationSet_kept {s0 : State} {x0 x1 : Nat} {x2 : State} (h0 : Kept s0 x2) :
    KeptN s0 (@execMiConfigurationSet x0 x1 x2) := by
  unfold execMiConfigurationSet
  apply KeptN.next
  apply State.onMi_kept
  · with_reducible assumption
  · intro k1 k2
    split
    · apply State.emit_kept
      apply State.put_kept
      with_reducible assumption
    · split
      · apply State.emit_kept
        apply State.put_kept
        with_reducible assumption
      · apply State.emit_kept
        with_reducible assumption

theorem execMiControllerHealthPoll_kept {s0 x0 : State} (h0 : Kept s0 x0) :
    KeptN s0 (@execMiControllerHealthPoll x0) := by
  unfold execMiControllerHealthPoll
  apply KeptN.next
  apply State.onMi_kept
  · with_reducible assumption
  · intro k1 k2
    split
    apply State.emit_kept
    refine KeptP.eq (by assumption) ?_
    apply State.takeFreeBytes_kept
    with_reducible assumption

theorem execMiReadDataStructure_kept {s0 x0 : State} (h0 : Kept s0 x0) :
    KeptN s0 (@execMiReadDataStructure x0) := by
  unfold execMiReadDataStructure
  apply KeptN.next
  apply State.onMi_kept
  · with_reducible assumption
  · intro k1 k2
    apply State.miFree_kept
    with_reducible assumption

theorem execMiSubsystemHealthPoll_kept {s0 x0 : State} (h0 : Kept s0 x0) :
    KeptN s0 (@execMiSubsystemHealthPoll x0) := by
  unfold execMiSubsystemHealthPoll
  apply KeptN.next
  apply State.onMi_kept
  · with_reducible assumption
  · intro k1 k2
    split
    apply State.emit_kept
    refine KeptP.eq (by assumption) ?_
    apply State.takeFreeBytes_kept
    with_reducible assumption

theorem execMiTunneledAdmin_kept {s0 : State} {x0 : List Byte} {x1 : State} (h0 : Kept s0 x1) :
    KeptN s0 (@execMiTunneledAdmin x0 x1) := by
  unfold execMiTunneledAdmin
  apply KeptN.next
  apply State.onMi_kept
  · with_reducible assumption
  · intro k1 k2
    extract_lets +onlyGivenNames v3
    clear_value v3
    extract_lets +onlyGivenNames v4
    split
    · unfold v4
      split
      · apply State.emit_kept
        with_reducible assumption
      · apply State.emit_kept
        refine KeptE.outM (by assumption) ?_
        apply State.readLog_kept
        with_reducible assumption
    · unfold v4
      split
      · apply State.emit_kept
        with_reducible assumption
      · apply State.emit_kept
        refine KeptE.outM (by assumption) ?_
        apply State.identify_kept
        with_reducible assumption
    · split
      · unfold v4
        split
        · apply State.emit_kept
          with_reducible assumption
        · apply State.emit_kept
          refine KeptE.outM (by assumption) ?_
          apply KeptE.ok
          apply KeptP.mk'
          with_reducible assumption
      · split
        · unfold v4
          split
          · apply State.emit_kept
            with_reducible assumption
          · apply State.emit_kept
            refine KeptE.outM (by assumption) ?_
            apply KeptE.ok
            apply KeptP.mk'
            with_reducible assumption
        · unfold v4
          split
          · apply State.emit_kept
            with_reducible assumption
          · apply State.emit_kept
            refine KeptE.outM (by assumption) ?_
            apply KeptE.error
    · apply State.emit_kept
      with_reducible assumption

theorem execMiVpdRead_kept {s0 : State} {x0 : Nat} {x1 : State} (h0 : Kept s0 x1) :
    KeptN s0 (@execMiVpdRead x0 x1) := by
  unfold execMiVpdRead
  apply KeptN.next
  apply State.onMi_kept
  · with_reducible assumption
  · intro k1 k2
    split
    apply State.emit_kept
    refine KeptP.eq (by assumption) ?_
    apply State.takeFreeBytes_kept
    with_reducible assumption

theorem execMiVpdWrite_kept {s0 x0 : State} (h0 : Kept s0 x0) :
    KeptN s0 (@execMiVpdWrite x0) := by
  unfold execMiVpdWrite
  apply KeptN.next
  apply State.onMi_kept
  · with_reducible assumption
  · intro k1 k2
    split
    apply State.emit_kept
    refine KeptP.eq (by assumption) ?_
    apply State.takeFree_kept
    with_reducible assumption

end Sys2Proof.Machine
end

