-- ==== Sys2Proof/Laws/KeptRegisters.lean ====
section
/-! SUPPORT. What the operations of Machine/Registers.lean keep (`Kept`): one lemma each. -/

set_option linter.unusedVariables false

namespace Sys2Proof.Machine

theorem State.reach_kept {s0 x0 : State} {x1 : Target} {x2 : Option Nat} (h0 : Kept s0 x0) :
    KeptO s0 (@State.reach x0 x1 x2) := by
  unfold State.reach
  cases x1.unit with
  | none => exact KeptO.some h0
  | some w => exact State.reachUnit_kept h0

theorem State.turnAway_kept {s0 x0 : State} {x1 : Target} (h0 : Kept s0 x0) :
    Kept s0 (@State.turnAway x0 x1) := by
  unfold State.turnAway
  apply Kept.elim
  · with_reducible assumption
  · intro k1
    apply State.refuseAt_kept
    with_reducible assumption

theorem State.readReg_kept {s0 x0 : State} {x1 : Agent} {x2 : Loc} (h0 : Kept s0 x0) :
    KeptP s0 (@State.readReg x0 x1 x2) := by
  unfold State.readReg
  split
  · apply State.readCpl_kept
    with_reducible assumption
  · apply KeptP.mk'
    apply State.latchBcd_kept
    with_reducible assumption
  · split
    · apply KeptP.mk'
      with_reducible assumption
    · split
      · split
        apply KeptP.mk'
        refine KeptP.eq (by assumption) ?_
        apply State.takeFree_kept
        with_reducible assumption
      · apply KeptP.mk'
        with_reducible assumption
  · apply KeptP.mk'
    with_reducible assumption

theorem State.setLatch_kept {s0 x0 : State} {x1 : Agent} {x2 x3 : Nat} (h0 : Kept s0 x0) :
    Kept s0 (@State.setLatch x0 x1 x2 x3) := by
  unfold State.setLatch
  refine Kept.same (s := x0) ?_ rfl Sub.rfl' Sub.rfl' Sub.rfl' Sub.rfl' Sub.rfl'
  with_reducible assumption

theorem State.read32_kept {s0 x0 : State} {x1 : Agent} {x2 : Nat} {x3 : Target} (h0 : Kept s0 x0) :
    KeptP s0 (@State.read32 x0 x1 x2 x3) := by
  unfold State.read32
  split
  · apply KeptP.mk'
    apply State.decodeFault_kept
    with_reducible assumption
  · apply KeptP.mk'
    with_reducible assumption
  · apply KeptP.mk'
    with_reducible assumption
  · split
    · apply State.readReg_kept
      with_reducible assumption
    · split
      · split
        apply KeptP.mk'
        apply State.setLatch_kept
        refine KeptP.eq (by assumption) ?_
        apply State.readReg_kept
        with_reducible assumption
      · split
        · apply KeptP.mk'
          with_reducible assumption
        · split
          apply KeptP.mk'
          refine KeptP.eq (by assumption) ?_
          apply State.readReg_kept
          with_reducible assumption

theorem State.access32_kept {s0 x0 : State} {x1 : Agent} {x2 : Nat} {x3 : Option Nat} (h0 : Kept s0 x0) :
    KeptP s0 (@State.access32 x0 x1 x2 x3) := by
  unfold State.access32
  extract_lets +onlyGivenNames v1
  clear_value v1
  split
  · apply KeptP.mk'
    apply State.turnAway_kept
    with_reducible assumption
  · apply State.read32_kept
    refine KeptO.out (by assumption) ?_
    apply State.reach_kept
    with_reducible assumption

theorem State.answerRead_kept {s0 : State} {x0 : Agent} {x1 x2 : Nat} {x3 : Nat × State} (h0 : KeptP s0 x3) :
    Kept s0 (@State.answerRead x0 x1 x2 x3) := by
  unfold State.answerRead
  apply State.emit_kept
  refine KeptP.out ?_
  with_reducible assumption

theorem State.readAccess_kept {s0 x0 : State} {x1 : Agent} {x2 x3 : Nat} {x4 : Option Nat} (h0 : Kept s0 x0) :
    KeptP s0 (@State.readAccess x0 x1 x2 x3 x4) := by
  unfold State.readAccess
  split
  · apply KeptP.mk'
    with_reducible assumption
  · split
    · apply State.access32_kept
      with_reducible assumption
    · split
      · split
        · apply KeptP.mk'
          apply State.turnAway_kept
          with_reducible assumption
        · apply State.readReg_kept
          refine KeptO.out (by assumption) ?_
          apply State.reach_kept
          with_reducible assumption
      · split
        split
        apply KeptP.mk'
        refine KeptP.eq (by assumption) ?_
        apply State.access32_kept
        refine KeptP.eq (by assumption) ?_
        apply State.access32_kept
        with_reducible assumption

theorem State.writeUcb_kept {s0 x0 : State} {x1 : Agent} {x2 : Nat} {x3 : Reg} {x4 : Nat} (h0 : Kept s0 x0) :
    Kept s0 (@State.writeUcb x0 x1 x2 x3 x4) := by
  unfold State.writeUcb
  split
  · apply State.clearUnitFault_kept
    with_reducible assumption
  · split
    · apply State.writeReset_kept
      with_reducible assumption
    · apply State.guardWrite_kept
      · with_reducible assumption
      · intro k1 k2
        apply State.writeRw_kept
        with_reducible assumption
  · split
    · apply State.writePower_kept
      with_reducible assumption
    · apply State.guardWrite_kept
      · with_reducible assumption
      · intro k3 k4
        apply State.writeRw_kept
        with_reducible assumption
  · apply State.guardWrite_kept
    · with_reducible assumption
    · intro k5 k6
      apply State.writeRw_kept
      with_reducible assumption

theorem State.writeW1c_kept {s0 x0 : State} {x1 : Reg} {x2 x3 x4 : Nat} (h0 : Kept s0 x0) :
    Kept s0 (@State.writeW1c x0 x1 x2 x3 x4) := by
  unfold State.writeW1c
  apply forEach_kept
  · with_reducible assumption
  · intro k1 k2 k3
    extract_lets +onlyGivenNames v4
    clear_value v4
    split
    · with_reducible assumption
    · apply State.put_kept
      with_reducible assumption

theorem State.writeChp_kept {s0 x0 : State} {x1 : Agent} {x2 : Reg} {x3 : Nat} (h0 : Kept s0 x0) :
    Kept s0 (@State.writeChp x0 x1 x2 x3) := by
  unfold State.writeChp
  split
  · split
    · apply State.submitChipReset_kept
      with_reducible assumption
    · apply State.guardWrite_kept
      · with_reducible assumption
      · intro k1 k2
        apply State.writeRw_kept
        with_reducible assumption
  · extract_lets +onlyGivenNames v3
    have h3 : Kept s0 v3 := by
      unfold v3
      apply State.guardWrite_kept
      · with_reducible assumption
      · intro k4 k5
        apply State.writeRw_kept
        with_reducible assumption
    clear_value v3
    split
    · apply State.clearEccLog_kept
      with_reducible assumption
    · with_reducible assumption
  · apply State.decodeFault_kept
    with_reducible assumption
  · apply State.decodeFault_kept
    with_reducible assumption
  · apply State.decodeFault_kept
    with_reducible assumption
  · apply State.guardWrite_kept
    · with_reducible assumption
    · intro k6 k7
      apply State.writeW1c_kept
      apply State.writeRw_kept
      with_reducible assumption

theorem State.writeIf_kept {s0 x0 : State} {x1 : Agent} {x2 : Reg} {x3 x4 x5 : Nat} {x6 : (Field → Nat) → Bool} (h0 : Kept s0 x0) :
    Kept s0 (@State.writeIf x0 x1 x2 x3 x4 x5 x6) := by
  unfold State.writeIf
  split
  · apply State.writeRw_kept
    with_reducible assumption
  · split
    · apply State.decodeFault_kept
      with_reducible assumption
    · with_reducible assumption

theorem State.writeTk_kept {s0 x0 : State} {x1 : Agent} {x2 : Reg} {x3 : Nat} (h0 : Kept s0 x0) :
    Kept s0 (@State.writeTk x0 x1 x2 x3) := by
  unfold State.writeTk
  split
  · apply State.writeTkNext_kept
    with_reducible assumption
  · apply State.guardWrite_kept
    · with_reducible assumption
    · intro k1 k2
      split
      · apply State.unlessLocked_kept
        · with_reducible assumption
        · intro k3 k4
          with_reducible assumption
      · apply State.writeRw_kept
        with_reducible assumption
  · apply State.writeTkSrc_kept
    with_reducible assumption
  · split
    · apply State.takeSnapshot_kept
      with_reducible assumption
    · apply State.guardWrite_kept
      · with_reducible assumption
      · intro k5 k6
        with_reducible assumption
  · apply State.guardWrite_kept
    · with_reducible assumption
    · intro k7 k8
      apply State.writeIf_kept
      with_reducible assumption
  · apply State.guardWrite_kept
    · with_reducible assumption
    · intro k9 k10
      apply State.writeIf_kept
      with_reducible assumption
  · apply State.guardWrite_kept
    · with_reducible assumption
    · intro k11 k12
      apply State.writeIf_kept
      with_reducible assumption
  · apply State.guardWrite_kept
    · with_reducible assumption
    · intro k13 k14
      apply State.writeW1c_kept
      apply State.writeRw_kept
      with_reducible assumption

theorem State.writePm_kept {s0 x0 : State} {x1 : Agent} {x2 : Reg} {x3 x4 x5 x6 : Nat} (h0 : Kept s0 x0) :
    Kept s0 (@State.writePm x0 x1 x2 x3 x4 x5 x6) := by
  unfold State.writePm
  split
  · split
    · apply State.submitPm_kept
      with_reducible assumption
    · apply State.guardWrite_kept
      · with_reducible assumption
      · intro k1 k2
        apply State.writeRw_kept
        with_reducible assumption
  · apply State.noteDemand_kept
    · apply State.guardWrite_kept
      · with_reducible assumption
      · intro k3 k4
        apply State.writeIf_kept
        with_reducible assumption
    · with_reducible assumption
  · apply State.guardWrite_kept
    · with_reducible assumption
    · intro k5 k6
      apply State.writeIf_kept
      with_reducible assumption
  · apply State.guardWrite_kept
    · with_reducible assumption
    · intro k7 k8
      apply State.writeIf_kept
      with_reducible assumption
  · apply State.guardWrite_kept
    · with_reducible assumption
    · intro k9 k10
      apply State.writeIf_kept
      with_reducible assumption
  · apply State.guardWrite_kept
    · with_reducible assumption
    · intro k11 k12
      split
      · apply State.put_kept
        with_reducible assumption
      · with_reducible assumption
  · apply State.guardWrite_kept
    · with_reducible assumption
    · intro k13 k14
      apply State.writeRw_kept
      with_reducible assumption

theorem State.writeHk_kept {s0 x0 : State} {x1 : Agent} {x2 : Reg} {x3 x4 : Nat} (h0 : Kept s0 x0) :
    Kept s0 (@State.writeHk x0 x1 x2 x3 x4) := by
  unfold State.writeHk
  split
  · apply State.writeTjThr_kept
    with_reducible assumption
  · apply State.writeWwin_kept
    with_reducible assumption
  · apply State.guardWrite_kept
    · with_reducible assumption
    · intro k1 k2
      apply State.writeIf_kept
      with_reducible assumption
  · apply State.guardWrite_kept
    · with_reducible assumption
    · intro k3 k4
      apply State.writeIf_kept
      with_reducible assumption
  · apply State.guardWrite_kept
    · with_reducible assumption
    · intro k5 k6
      apply State.writeIf_kept
      with_reducible assumption
  · apply State.guardWrite_kept
    · with_reducible assumption
    · intro k7 k8
      apply State.writeIf_kept
      with_reducible assumption
  · apply State.guardWrite_kept
    · with_reducible assumption
    · intro k9 k10
      extract_lets +onlyGivenNames v11
      have h11 : Kept s0 v11 := by
        unfold v11
        apply State.writeRw_kept
        with_reducible assumption
      clear_value v11
      split
      · with_reducible assumption
      · apply State.putFlag_kept
        with_reducible assumption
  · apply State.guardWrite_kept
    · with_reducible assumption
    · intro k12 k13
      apply State.writeW1c_kept
      apply State.writeRw_kept
      with_reducible assumption

theorem State.writeCal_kept {s0 x0 : State} {x1 : Agent} {x2 : Reg} {x3 x4 : Nat} (h0 : Kept s0 x0) :
    Kept s0 (@State.writeCal x0 x1 x2 x3 x4) := by
  unfold State.writeCal
  split
  · split
    · apply State.setCalendar_kept
      with_reducible assumption
    · apply State.guardWrite_kept
      · with_reducible assumption
      · intro k1 k2
        with_reducible assumption
  · apply State.guardWrite_kept
    · with_reducible assumption
    · intro k3 k4
      split
      · with_reducible assumption
      · apply State.writeRw_kept
        with_reducible assumption
  · apply State.writeAlmCtl_kept
    with_reducible assumption
  · apply State.guardWrite_kept
    · with_reducible assumption
    · intro k5 k6
      apply State.writeW1c_kept
      apply State.writeRw_kept
      with_reducible assumption

theorem State.writeHu_kept {s0 x0 : State} {x1 : Agent} {x2 : Reg} {x3 : Nat} (h0 : Kept s0 x0) :
    Kept s0 (@State.writeHu x0 x1 x2 x3) := by
  unfold State.writeHu
  split
  · extract_lets +onlyGivenNames v1
    have h1 : Kept s0 v1 := by
      unfold v1
      apply State.guardWrite_kept
      · with_reducible assumption
      · intro k2 k3
        apply State.updateAllow_kept
        apply State.writeRw_kept
        with_reducible assumption
    clear_value v1
    split
    · apply State.requestTest_kept
      with_reducible assumption
    · with_reducible assumption
  · apply State.updateAllow_kept
    apply State.writeCeil_kept
    with_reducible assumption
  · apply State.guardWrite_kept
    · with_reducible assumption
    · intro k4 k5
      extract_lets +onlyGivenNames v6
      have h6 : Kept s0 v6 := by
        unfold v6
        apply State.writeIf_kept
        with_reducible assumption
      clear_value v6
      apply State.updateAllow_kept
      split
      · with_reducible assumption
      · apply State.newTarget_kept
        with_reducible assumption
  · apply State.guardWrite_kept
    · with_reducible assumption
    · intro k7 k8
      apply State.updateAllow_kept
      apply State.writeIf_kept
      with_reducible assumption
  · apply State.guardWrite_kept
    · with_reducible assumption
    · intro k9 k10
      apply State.updateAllow_kept
      apply State.writeIf_kept
      with_reducible assumption
  · apply State.guardWrite_kept
    · with_reducible assumption
    · intro k11 k12
      apply State.updateAllow_kept
      apply State.writeIf_kept
      with_reducible assumption
  · apply State.guardWrite_kept
    · with_reducible assumption
    · intro k13 k14
      apply State.updateAllow_kept
      apply State.writeIf_kept
      with_reducible assumption
  · apply State.guardWrite_kept
    · with_reducible assumption
    · intro k15 k16
      apply State.updateAllow_kept
      apply State.writeIf_kept
      with_reducible assumption
  · apply State.guardWrite_kept
    · with_reducible assumption
    · intro k17 k18
      apply State.writeRw_kept
      with_reducible assumption

theorem State.writeFc_kept {s0 x0 : State} {x1 : Agent} {x2 : Reg} {x3 x4 x5 x6 : Nat} (h0 : Kept s0 x0) :
    Kept s0 (@State.writeFc x0 x1 x2 x3 x4 x5 x6) := by
  unfold State.writeFc
  split
  · apply State.clearSticky_kept
    with_reducible assumption
  · apply State.acknowledge_kept
    with_reducible assumption
  · apply State.writeSrcCfg_kept
    with_reducible assumption
  · apply State.writeSrcWin_kept
    with_reducible assumption
  · apply State.guardWrite_kept
    · with_reducible assumption
    · intro k1 k2
      apply State.writeIf_kept
      with_reducible assumption
  · apply State.guardWrite_kept
    · with_reducible assumption
    · intro k3 k4
      apply State.writeIf_kept
      with_reducible assumption
  · apply State.guardWrite_kept
    · with_reducible assumption
    · intro k5 k6
      apply State.writeW1c_kept
      apply State.writeRw_kept
      with_reducible assumption

theorem State.writeEr_kept {s0 x0 : State} {x1 : Agent} {x2 : Reg} {x3 x4 x5 : Nat} (h0 : Kept s0 x0) :
    Kept s0 (@State.writeEr x0 x1 x2 x3 x4 x5) := by
  unfold State.writeEr
  split
  · apply State.guardWrite_kept
    · with_reducible assumption
    · intro k1 k2
      split
      · extract_lets +onlyGivenNames v3
        have h3 : Kept s0 v3 := by
          unfold v3
          apply State.writeRw_kept
          with_reducible assumption
        clear_value v3
        split
        · apply State.clearRecorder_kept
          with_reducible assumption
        · with_reducible assumption
      · with_reducible assumption
  · apply State.writeFreeze_kept
    with_reducible assumption
  · apply State.guardWrite_kept
    · with_reducible assumption
    · intro k4 k5
      apply State.writeIf_kept
      with_reducible assumption
  · apply State.writeHist_kept
    with_reducible assumption
  · apply State.writeHist_kept
    with_reducible assumption
  · apply State.writeHist_kept
    with_reducible assumption
  · apply State.decodeFault_kept
    with_reducible assumption
  · apply State.guardWrite_kept
    · with_reducible assumption
    · intro k6 k7
      apply State.writeW1c_kept
      apply State.writeRw_kept
      with_reducible assumption

theorem State.writeMbx_kept {s0 x0 : State} {x1 : Agent} {x2 : Nat} (h0 : Kept s0 x0) :
    Kept s0 (@State.writeMbx x0 x1 x2) := by
  unfold State.writeMbx
  apply State.guardWrite_kept
  · with_reducible assumption
  · intro k1 k2
    split
    · split
      · with_reducible assumption
      · extract_lets +onlyGivenNames v3
        have h3 : Kept s0 v3 := by
          unfold v3
          apply State.putFlag_kept
          apply State.writeRw_kept
          with_reducible assumption
        clear_value v3
        apply State.wake_kept
        apply State.sendFn_kept
        apply State.put_kept
        with_reducible assumption
    · apply State.writeRw_kept
      with_reducible assumption

theorem State.writeRanged_kept {s0 x0 : State} {x1 : Agent} {x2 : Reg} {x3 x4 x5 : Nat} {x6 : List (Field × Nat × Nat)} (h0 : Kept s0 x0) :
    Kept s0 (@State.writeRanged x0 x1 x2 x3 x4 x5 x6) := by
  unfold State.writeRanged
  extract_lets +onlyGivenNames v1
  have h1 : Kept s0 v1 := by
    unfold v1
    apply State.writeRw_kept
    with_reducible assumption
  clear_value v1
  apply forEach_kept
  · with_reducible assumption
  · intro k2 k3 k4
    split
    apply State.put_kept
    refine KeptP.eq (by assumption) ?_
    apply State.takeFree_kept
    with_reducible assumption

theorem State.writeSec_kept {s0 x0 : State} {x1 : Agent} {x2 : Reg} {x3 x4 x5 : Nat} (h0 : Kept s0 x0) :
    Kept s0 (@State.writeSec x0 x1 x2 x3 x4 x5) := by
  unfold State.writeSec
  split
  · apply State.writeMbx_kept
    with_reducible assumption
  · apply State.guardWrite_kept
    · with_reducible assumption
    · intro k1 k2
      apply State.writeRw_kept
      with_reducible assumption
  · apply State.guardWrite_kept
    · with_reducible assumption
    · intro k3 k4
      apply State.writeRw_kept
      with_reducible assumption
  · split
    · apply State.submitBatch_kept
      with_reducible assumption
    · apply State.guardWrite_kept
      · with_reducible assumption
      · intro k5 k6
        apply State.writeRw_kept
        with_reducible assumption
  · apply State.guardWrite_kept
    · with_reducible assumption
    · intro k7 k8
      apply State.put_kept
      apply State.writeRw_kept
      with_reducible assumption
  · apply State.guardWrite_kept
    · with_reducible assumption
    · intro k9 k10
      apply State.writeRw_kept
      with_reducible assumption
  · apply State.guardWrite_kept
    · with_reducible assumption
    · intro k11 k12
      apply State.writeRanged_kept
      with_reducible assumption
  · apply State.guardWrite_kept
    · with_reducible assumption
    · intro k13 k14
      apply State.writeRw_kept
      with_reducible assumption
  · apply State.guardWrite_kept
    · with_reducible assumption
    · intro k15 k16
      apply State.writeW1c_kept
      with_reducible assumption

theorem State.writeMc_kept {s0 x0 : State} {x1 : Agent} {x2 : Reg} {x3 x4 x5 : Nat} (h0 : Kept s0 x0) :
    Kept s0 (@State.writeMc x0 x1 x2 x3 x4 x5) := by
  unfold State.writeMc
  split
  · apply State.writeMcCtl_kept
    with_reducible assumption
  · split
    · apply State.submitInv_kept
      with_reducible assumption
    · apply State.guardWrite_kept
      · with_reducible assumption
      · intro k1 k2
        apply State.writeRw_kept
        with_reducible assumption
  · apply State.guardWrite_kept
    · with_reducible assumption
    · intro k3 k4
      apply State.unlessLocked_kept
      · with_reducible assumption
      · intro k5 k6
        split
        · apply State.writeRw_kept
          with_reducible assumption
        · apply State.bump_kept
          with_reducible assumption
  · apply State.guardWrite_kept
    · with_reducible assumption
    · intro k7 k8
      split
      · with_reducible assumption
      · apply State.writeRw_kept
        with_reducible assumption
  · apply State.guardWrite_kept
    · with_reducible assumption
    · intro k9 k10
      apply State.updateJnl_kept
      apply State.writeIf_kept
      with_reducible assumption
  · apply State.guardWrite_kept
    · with_reducible assumption
    · intro k11 k12
      apply State.updateGc_kept
      apply State.writeIf_kept
      with_reducible assumption
  · apply State.guardWrite_kept
    · with_reducible assumption
    · intro k13 k14
      apply State.writeIf_kept
      with_reducible assumption
  · apply State.guardWrite_kept
    · with_reducible assumption
    · intro k15 k16
      apply State.writeIf_kept
      with_reducible assumption
  · apply State.guardWrite_kept
    · with_reducible assumption
    · intro k17 k18
      apply State.writeIf_kept
      with_reducible assumption
  · apply State.guardWrite_kept
    · with_reducible assumption
    · intro k19 k20
      apply State.writeIf_kept
      with_reducible assumption
  · apply State.guardWrite_kept
    · with_reducible assumption
    · intro k21 k22
      apply State.writeIf_kept
      with_reducible assumption
  · apply State.guardWrite_kept
    · with_reducible assumption
    · intro k23 k24
      apply State.writeIf_kept
      with_reducible assumption
  · apply State.guardWrite_kept
    · with_reducible assumption
    · intro k25 k26
      apply State.writeW1c_kept
      apply State.writeRw_kept
      with_reducible assumption

theorem State.writeHe_kept {s0 x0 : State} {x1 : Agent} {x2 : Reg} {x3 x4 x5 : Nat} (h0 : Kept s0 x0) :
    Kept s0 (@State.writeHe x0 x1 x2 x3 x4 x5) := by
  unfold State.writeHe
  split
  · apply State.writeHeCfg_kept
    with_reducible assumption
  · apply State.writeVfalloc_kept
    with_reducible assumption
  · apply State.guardWrite_kept
    · with_reducible assumption
    · intro k1 k2
      split
      · with_reducible assumption
      · extract_lets +onlyGivenNames v3
        have h3 : Kept s0 v3 := by
          unfold v3
          apply State.postHeld_kept
          apply State.writeRw_kept
          with_reducible assumption
        clear_value v3
        refine Kept.same (s := v3) ?_ rfl Sub.rfl' Sub.rfl' Sub.rfl' Sub.rfl' Sub.rfl'
        with_reducible assumption
  · apply State.guardWrite_kept
    · with_reducible assumption
    · intro k4 k5
      split
      · with_reducible assumption
      · extract_lets +onlyGivenNames v6
        have h6 : Kept s0 v6 := by
          unfold v6
          apply State.postHeld_kept
          apply State.writeRw_kept
          with_reducible assumption
        clear_value v6
        refine Kept.same (s := v6) ?_ rfl Sub.rfl' Sub.rfl' Sub.rfl' Sub.rfl' Sub.rfl'
        with_reducible assumption
  · apply State.guardWrite_kept
    · with_reducible assumption
    · intro k7 k8
      apply State.writeIf_kept
      with_reducible assumption
  · apply State.guardWrite_kept
    · with_reducible assumption
    · intro k9 k10
      apply State.writeW1c_kept
      apply State.writeRw_kept
      with_reducible assumption

theorem State.writeJq_kept {s0 x0 : State} {x1 : Agent} {x2 : Reg} {x3 x4 x5 : Nat} (h0 : Kept s0 x0) :
    Kept s0 (@State.writeJq x0 x1 x2 x3 x4 x5) := by
  unfold State.writeJq
  split
  · apply State.guardWrite_kept
    · with_reducible assumption
    · intro k1 k2
      split
      · apply State.writeRw_kept
        with_reducible assumption
      · apply State.bump_kept
        with_reducible assumption
  · apply State.guardWrite_kept
    · with_reducible assumption
    · intro k3 k4
      split
      · apply State.writeRw_kept
        with_reducible assumption
      · apply State.bump_kept
        with_reducible assumption
  · apply State.guardWrite_kept
    · with_reducible assumption
    · intro k5 k6
      split
      · apply State.writeRw_kept
        with_reducible assumption
      · apply State.bump_kept
        with_reducible assumption
  · apply State.guardWrite_kept
    · with_reducible assumption
    · intro k7 k8
      split
      · apply State.writeRw_kept
        with_reducible assumption
      · apply State.bump_kept
        with_reducible assumption
  · apply State.guardWrite_kept
    · with_reducible assumption
    · intro k9 k10
      split
      · apply State.writeRw_kept
        with_reducible assumption
      · apply State.bump_kept
        with_reducible assumption
  · apply State.noteDemand_kept
    · split
      · apply State.disableQueue_kept
        with_reducible assumption
      · split
        · apply State.enableQueue_kept
          with_reducible assumption
        · apply State.guardWrite_kept
          · with_reducible assumption
          · intro k11 k12
            with_reducible assumption
    · with_reducible assumption
  · apply State.writeFgold_kept
    with_reducible assumption
  · apply State.writeFevtCfg_kept
    with_reducible assumption
  · apply State.guardWrite_kept
    · with_reducible assumption
    · intro k13 k14
      split
      · with_reducible assumption
      · apply State.writeRw_kept
        with_reducible assumption
  · apply State.guardWrite_kept
    · with_reducible assumption
    · intro k15 k16
      split
      · with_reducible assumption
      · apply State.writeW1c_kept
        with_reducible assumption
  · apply State.guardWrite_kept
    · with_reducible assumption
    · intro k17 k18
      apply State.writeRw_kept
      with_reducible assumption

theorem State.writeTs_kept {s0 x0 : State} {x1 : Agent} {x2 : Reg} {x3 x4 x5 : Nat} (h0 : Kept s0 x0) :
    Kept s0 (@State.writeTs x0 x1 x2 x3 x4 x5) := by
  unfold State.writeTs
  split
  · split
    · apply State.submitTs_kept
      with_reducible assumption
    · apply State.guardWrite_kept
      · with_reducible assumption
      · intro k1 k2
        apply State.writeRw_kept
        with_reducible assumption
  · apply State.guardWrite_kept
    · with_reducible assumption
    · intro k3 k4
      apply State.writeRw_kept
      with_reducible assumption

theorem State.writeMs_kept {s0 x0 : State} {x1 : Agent} {x2 : Nat} {x3 : Reg} {x4 x5 : Nat} (h0 : Kept s0 x0) :
    Kept s0 (@State.writeMs x0 x1 x2 x3 x4 x5) := by
  unfold State.writeMs
  split
  · apply State.writeMsCall_kept
    with_reducible assumption
  · apply State.guardWrite_kept
    · with_reducible assumption
    · intro k1 k2
      apply State.writeRw_kept
      with_reducible assumption
  · apply State.guardWrite_kept
    · with_reducible assumption
    · intro k3 k4
      apply State.writeIf_kept
      with_reducible assumption
  · apply State.guardWrite_kept
    · with_reducible assumption
    · intro k5 k6
      apply State.writeIf_kept
      with_reducible assumption
  · apply State.guardWrite_kept
    · with_reducible assumption
    · intro k7 k8
      apply State.writeW1c_kept
      apply State.writeRw_kept
      with_reducible assumption

theorem State.writeCx_kept {s0 x0 : State} {x1 : Agent} {x2 : Reg} {x3 x4 x5 : Nat} (h0 : Kept s0 x0) :
    Kept s0 (@State.writeCx x0 x1 x2 x3 x4 x5) := by
  unfold State.writeCx
  split
  · apply State.guardWrite_kept
    · with_reducible assumption
    · intro k1 k2
      apply State.writeRw_kept
      with_reducible assumption
  · split
    · apply State.submitDict_kept
      with_reducible assumption
    · apply State.guardWrite_kept
      · with_reducible assumption
      · intro k3 k4
        apply State.writeRw_kept
        with_reducible assumption
  · apply State.guardWrite_kept
    · with_reducible assumption
    · intro k5 k6
      apply State.writeRw_kept
      with_reducible assumption

theorem State.writeReg_kept {s0 x0 : State} {x1 : Agent} {x2 : Loc} {x3 : Nat} (h0 : Kept s0 x0) :
    Kept s0 (@State.writeReg x0 x1 x2 x3) := by
  unfold State.writeReg
  split
  split
  · apply State.writeUcb_kept
    with_reducible assumption
  · apply State.writeChp_kept
    with_reducible assumption
  · apply State.writeTk_kept
    with_reducible assumption
  · apply State.writePm_kept
    with_reducible assumption
  · apply State.writeHk_kept
    with_reducible assumption
  · apply State.writeCal_kept
    with_reducible assumption
  · apply State.writeHu_kept
    with_reducible assumption
  · apply State.writeFc_kept
    with_reducible assumption
  · apply State.writeEr_kept
    with_reducible assumption
  · apply State.decodeFault_kept
    with_reducible assumption
  · apply State.writeSec_kept
    with_reducible assumption
  · apply State.writeMc_kept
    with_reducible assumption
  · apply State.writeHe_kept
    with_reducible assumption
  · apply State.writeJq_kept
    with_reducible assumption
  · apply State.writeTs_kept
    with_reducible assumption
  · apply State.writeMs_kept
    with_reducible assumption
  · apply State.writeMs_kept
    with_reducible assumption
  · apply State.writeCx_kept
    with_reducible assumption

theorem State.writeHalf_kept {s0 x0 : State} {x1 : Agent} {x2 : Loc} {x3 : Nat} (h0 : Kept s0 x0) :
    Kept s0 (@State.writeHalf x0 x1 x2 x3) := by
  unfold State.writeHalf
  split
  · apply State.writeReg_kept
    with_reducible assumption
  · split
    extract_lets +onlyGivenNames v1
    clear_value v1
    extract_lets +onlyGivenNames v2
    clear_value v2
    split
    · split
      · apply State.writeCancel_kept
        with_reducible assumption
      · apply State.guardWrite_kept
        · with_reducible assumption
        · intro k3 k4
          apply State.unlessLocked_kept
          · with_reducible assumption
          · intro k5 k6
            apply State.put_kept
            with_reducible assumption
    · apply State.writeReg_kept
      with_reducible assumption

theorem State.setField_kept {s0 x0 : State} {x1 : Loc} {x2 x3 : Nat} (h0 : Kept s0 x0) :
    Kept s0 (@State.setField x0 x1 x2 x3) := by
  unfold State.setField
  extract_lets +onlyGivenNames v1
  clear_value v1
  split
  extract_lets +onlyGivenNames v2
  clear_value v2
  extract_lets +onlyGivenNames v3
  clear_value v3
  extract_lets +onlyGivenNames v4
  clear_value v4
  extract_lets +onlyGivenNames v5
  have h5 : Kept s0 v5 := by
    unfold v5
    refine Kept.same (s := x0) ?_ rfl Sub.rfl' Sub.rfl' Sub.rfl' Sub.rfl' Sub.rfl'
    with_reducible assumption
  clear_value v5
  extract_lets +onlyGivenNames v6
  have h6 : Kept s0 v6 := by
    unfold v6
    apply State.writeHalf_kept
    with_reducible assumption
  clear_value v6
  refine Kept.same (s := v6) ?_ rfl Sub.rfl' Sub.rfl' Sub.rfl' Sub.rfl' Sub.rfl'
  with_reducible assumption

theorem State.write32_kept {s0 x0 : State} {x1 : Agent} {x2 : Target} {x3 : Nat} (h0 : Kept s0 x0) :
    Kept s0 (@State.write32 x0 x1 x2 x3) := by
  unfold State.write32
  split
  · apply State.decodeFault_kept
    with_reducible assumption
  · apply State.guardWrite_kept
    · with_reducible assumption
    · intro k1 k2
      with_reducible assumption
  · apply State.writeSlot_kept
    with_reducible assumption
  · apply State.writeHalf_kept
    with_reducible assumption

theorem State.store32_kept {s0 x0 : State} {x1 : Agent} {x2 x3 : Nat} {x4 : Option Nat} (h0 : Kept s0 x0) :
    Kept s0 (@State.store32 x0 x1 x2 x3 x4) := by
  unfold State.store32
  extract_lets +onlyGivenNames v1
  clear_value v1
  split
  · apply State.turnAway_kept
    with_reducible assumption
  · apply State.write32_kept
    refine KeptO.out (by assumption) ?_
    apply State.reach_kept
    with_reducible assumption

theorem State.writeAccess_kept {s0 x0 : State} {x1 : Agent} {x2 x3 x4 : Nat} {x5 : Option Nat} (h0 : Kept s0 x0) :
    Kept s0 (@State.writeAccess x0 x1 x2 x3 x4 x5) := by
  unfold State.writeAccess
  split
  · with_reducible assumption
  · split
    · apply State.store32_kept
      with_reducible assumption
    · split
      · split
        · apply State.turnAway_kept
          with_reducible assumption
        · split
          · apply State.writeCancel_kept
            refine KeptO.out (by assumption) ?_
            apply State.reach_kept
            with_reducible assumption
          · apply State.writeReg_kept
            refine KeptO.out (by assumption) ?_
            apply State.reach_kept
            with_reducible assumption
      · apply State.store32_kept
        apply State.store32_kept
        with_reducible assumption

theorem execLowerHalfRead_kept {s0 : State} {x0 : Agent} {x1 : Nat} {x2 : State} (h0 : Kept s0 x2) :
    KeptN s0 (@execLowerHalfRead x0 x1 x2) := by
  unfold execLowerHalfRead
  apply KeptN.next
  apply State.answerRead_kept
  apply State.readAccess_kept
  with_reducible assumption

theorem execRegisterWrite_kept {s0 : State} {x0 : Agent} {x1 x2 x3 : Nat} {x4 : State} (h0 : Kept s0 x4) :
    KeptN s0 (@execRegisterWrite x0 x1 x2 x3 x4) := by
  unfold execRegisterWrite
  apply KeptN.next
  apply State.writeAccess_kept
  with_reducible assumption

theorem execSetField_kept {s0 : State} {x0 : List Byte} {x1 : State} (h0 : Kept s0 x1) :
    KeptN s0 (@execSetField x0 x1) := by
  unfold execSetField
  extract_lets +onlyGivenNames v1
  clear_value v1
  extract_lets +onlyGivenNames v2
  have h2 : Kept s0 v2 := by
    unfold v2
    split
    · split
      · apply State.answerMbx_kept
        apply State.setField_kept
        with_reducible assumption
      · apply State.answerMbx_kept
        with_reducible assumption
    · apply State.answerMbx_kept
      with_reducible assumption
  clear_value v2
  apply KeptN.next
  apply State.onMbx_kept
  · with_reducible assumption
  · with_reducible assumption

theorem execUndefinedRegisterRead_kept {s0 : State} {x0 : Agent} {x1 x2 : Nat} {x3 : State} (h0 : Kept s0 x3) :
    KeptN s0 (@execUndefinedRegisterRead x0 x1 x2 x3) := by
  unfold execUndefinedRegisterRead
  split
  · apply KeptN.next
    apply State.answerRead_kept
    apply State.readAccess_kept
    with_reducible assumption
  · apply KeptN.next
    with_reducible assumption

theorem execUpperHalfRead_kept {s0 : State} {x0 : Agent} {x1 : Nat} {x2 : State} (h0 : Kept s0 x2) :
    KeptN s0 (@execUpperHalfRead x0 x1 x2) := by
  unfold execUpperHalfRead
  split
  · split
    · apply KeptN.next
      apply State.answerRead_kept
      apply State.readAccess_kept
      with_reducible assumption
    · apply KeptN.next
      with_reducible assumption
  · apply KeptN.next
    with_reducible assumption

theorem execWakeOnAccess_kept {s0 : State} {x0 : Agent} {x1 x2 : Nat} {x3 : Option Nat} {x4 : Nat} {x5 : State} (h0 : Kept s0 x5) :
    KeptN s0 (@execWakeOnAccess x0 x1 x2 x3 x4 x5) := by
  unfold execWakeOnAccess
  split
  · apply KeptN.next
    apply State.writeAccess_kept
    with_reducible assumption
  · apply KeptN.next
    apply State.answerRead_kept
    apply State.readAccess_kept
    with_reducible assumption

end Sys2Proof.Machine
end

