-- ==== Sys2Proof/Laws/KeptIdle.lean ====
section
/-! SUPPORT. What the operations of Machine/Idle.lean keep (`Kept`): one lemma each. -/

set_option linter.unusedVariables false

namespace Sys2Proof.Machine

theorem idle_kept {s0 x0 : State} (h0 : Kept s0 x0) :
    Kept s0 (@idle x0) := by
  unfold idle
  apply State.put_kept
  with_reducible assumption

end Sys2Proof.Machine
end

