-- ==== Sys2Proof/Laws/KeptErase.lean ====
section
/-! SUPPORT. What the operations of Machine/Erase.lean keep (`Kept`): one lemma each. -/

set_option linter.unusedVariables false

namespace Sys2Proof.Machine

theorem execBlockErase_kept {s0 : State} {x0 x1 x2 : Nat} {x3 : State} (h0 : Kept s0 x3) :
    KeptN s0 (@execBlockErase x0 x1 x2 x3) := by
  unfold execBlockErase
  extract_lets +onlyGivenNames v1
  clear_value v1
  extract_lets +onlyGivenNames v2
  clear_value v2
  split
  · split
    · apply KeptN.next
      with_reducible assumption
    · extract_lets +onlyGivenNames v3
      have h3 : Kept s0 v3 := by
        unfold v3
        split
        · with_reducible assumption
        · apply State.putFlag_kept
          apply State.journal_kept
          with_reducible assumption
      clear_value v3
      split
      · apply KeptN.next
        apply State.planOwn_kept
        with_reducible assumption
      · apply KeptN.next
        with_reducible assumption
  · apply KeptN.next
    with_reducible assumption

end Sys2Proof.Machine
end

