-- ==== Sys2Proof/Laws/Width.lean ====
section
/-! SUPPORT. The width of every register field. -/

namespace Sys2Proof.Machine.Field

@[simp] theorem UCB_STATUS_DEGRADED_width : (info .UCB_STATUS_DEGRADED).width = 1 := rfl
@[simp] theorem UCB_STATUS_REQ_PENDING_width : (info .UCB_STATUS_REQ_PENDING).width = 1 := rfl
@[simp] theorem UCB_STATUS_POWER_width : (info .UCB_STATUS_POWER).width = 3 := rfl
@[simp] theorem UCB_STATUS_RESETTING_width : (info .UCB_STATUS_RESETTING).width = 1 := rfl
@[simp] theorem UCB_STATUS_FAULT_width : (info .UCB_STATUS_FAULT).width = 1 := rfl
@[simp] theorem UCB_STATUS_READY_width : (info .UCB_STATUS_READY).width = 1 := rfl
@[simp] theorem UCB_FAULT_REFUSED_width : (info .UCB_FAULT_REFUSED).width = 1 := rfl
@[simp] theorem UCB_FAULT_TIMEOUT_width : (info .UCB_FAULT_TIMEOUT).width = 1 := rfl
@[simp] theorem UCB_FAULT_THRESHOLD_width : (info .UCB_FAULT_THRESHOLD).width = 1 := rfl
@[simp] theorem UCB_FAULT_FATAL_width : (info .UCB_FAULT_FATAL).width = 1 := rfl
@[simp] theorem UCB_FAULT_CONTAINED_width : (info .UCB_FAULT_CONTAINED).width = 1 := rfl
@[simp] theorem UCB_FAULT_CORRECTED_width : (info .UCB_FAULT_CORRECTED).width = 1 := rfl
@[simp] theorem UCB_RESET_REQ_IMMEDIATE_width : (info .UCB_RESET_REQ_IMMEDIATE).width = 1 := rfl
@[simp] theorem UCB_RESET_REQ_USE_TICK_width : (info .UCB_RESET_REQ_USE_TICK).width = 1 := rfl
@[simp] theorem UCB_RESET_REQ_GO_width : (info .UCB_RESET_REQ_GO).width = 1 := rfl
@[simp] theorem UCB_POWER_REQ_USE_TICK_width : (info .UCB_POWER_REQ_USE_TICK).width = 1 := rfl
@[simp] theorem UCB_POWER_REQ_GO_width : (info .UCB_POWER_REQ_GO).width = 1 := rfl
@[simp] theorem UCB_POWER_REQ_TARGET_width : (info .UCB_POWER_REQ_TARGET).width = 3 := rfl
@[simp] theorem UCB_REQ_STS_REASON_width : (info .UCB_REQ_STS_REASON).width = 8 := rfl
@[simp] theorem UCB_REQ_STS_KIND_width : (info .UCB_REQ_STS_KIND).width = 4 := rfl
@[simp] theorem UCB_REQ_STS_STATE_width : (info .UCB_REQ_STS_STATE).width = 4 := rfl
@[simp] theorem UCB_CNT0_width : (info .UCB_CNT0).width = 64 := rfl
@[simp] theorem UCB_CNT1_width : (info .UCB_CNT1).width = 64 := rfl
@[simp] theorem UCB_CNT2_width : (info .UCB_CNT2).width = 64 := rfl
@[simp] theorem UCB_CNT3_width : (info .UCB_CNT3).width = 64 := rfl
@[simp] theorem UCB_CNT4_width : (info .UCB_CNT4).width = 64 := rfl
@[simp] theorem UCB_CNT5_width : (info .UCB_CNT5).width = 64 := rfl
@[simp] theorem UCB_CNT6_width : (info .UCB_CNT6).width = 64 := rfl
@[simp] theorem UCB_CNT7_width : (info .UCB_CNT7).width = 64 := rfl
@[simp] theorem CHP_ID_FAMILY_width : (info .CHP_ID_FAMILY).width = 8 := rfl
@[simp] theorem CHP_ID_MEMBER_width : (info .CHP_ID_MEMBER).width = 8 := rfl
@[simp] theorem CHP_STEP_MAJOR_width : (info .CHP_STEP_MAJOR).width = 4 := rfl
@[simp] theorem CHP_STEP_MINOR_width : (info .CHP_STEP_MINOR).width = 4 := rfl
@[simp] theorem CHP_UID_UID_width : (info .CHP_UID_UID).width = 32 := rfl
@[simp] theorem CHP_CAP0_CORES_width : (info .CHP_CAP0_CORES).width = 8 := rfl
@[simp] theorem CHP_CAP0_LINKS_PER_PORT_width : (info .CHP_CAP0_LINKS_PER_PORT).width = 4 := rfl
@[simp] theorem CHP_CAP0_PORTS_width : (info .CHP_CAP0_PORTS).width = 3 := rfl
@[simp] theorem CHP_CAP0_DIES_PER_CH_width : (info .CHP_CAP0_DIES_PER_CH).width = 5 := rfl
@[simp] theorem CHP_CAP0_CLUSTERS_width : (info .CHP_CAP0_CLUSTERS).width = 4 := rfl
@[simp] theorem CHP_CAP0_CHANNELS_width : (info .CHP_CAP0_CHANNELS).width = 8 := rfl
@[simp] theorem CHP_CAP1_PFS_width : (info .CHP_CAP1_PFS).width = 4 := rfl
@[simp] theorem CHP_CAP1_IOQ_PER_FN_width : (info .CHP_CAP1_IOQ_PER_FN).width = 12 := rfl
@[simp] theorem CHP_CAP1_VF_POOL_width : (info .CHP_CAP1_VF_POOL).width = 16 := rfl
@[simp] theorem CHP_CAP2_JQ_QUEUES_width : (info .CHP_CAP2_JQ_QUEUES).width = 16 := rfl
@[simp] theorem CHP_CAP2_NVME_QP_width : (info .CHP_CAP2_NVME_QP).width = 16 := rfl
@[simp] theorem CHP_CAP3_COMP_ENG_width : (info .CHP_CAP3_COMP_ENG).width = 4 := rfl
@[simp] theorem CHP_CAP3_DECOMP_ENG_width : (info .CHP_CAP3_DECOMP_ENG).width = 8 := rfl
@[simp] theorem CHP_CAP3_MODES_width : (info .CHP_CAP3_MODES).width = 4 := rfl
@[simp] theorem CHP_CAP3_FC_SOURCES_width : (info .CHP_CAP3_FC_SOURCES).width = 16 := rfl
@[simp] theorem CHP_CAP4_DRAM_CH_width : (info .CHP_CAP4_DRAM_CH).width = 8 := rfl
@[simp] theorem CHP_CAP4_DEEP_DEC_width : (info .CHP_CAP4_DEEP_DEC).width = 8 := rfl
@[simp] theorem CHP_CAP4_STAGING_width : (info .CHP_CAP4_STAGING).width = 8 := rfl
@[simp] theorem CHP_CAP4_MAP_CACHE_width : (info .CHP_CAP4_MAP_CACHE).width = 8 := rfl
@[simp] theorem CHP_CAP5_G64K_width : (info .CHP_CAP5_G64K).width = 1 := rfl
@[simp] theorem CHP_CAP5_G16K_width : (info .CHP_CAP5_G16K).width = 1 := rfl
@[simp] theorem CHP_CAP5_G4K_width : (info .CHP_CAP5_G4K).width = 1 := rfl
@[simp] theorem CHP_CAP5_OUTSTANDING_width : (info .CHP_CAP5_OUTSTANDING).width = 5 := rfl
@[simp] theorem CHP_CAP5_NODES_width : (info .CHP_CAP5_NODES).width = 16 := rfl
@[simp] theorem CHP_CAP6_MAX_RAW_width : (info .CHP_CAP6_MAX_RAW).width = 32 := rfl
@[simp] theorem CHP_CAP7_TICK_DEF_width : (info .CHP_CAP7_TICK_DEF).width = 10 := rfl
@[simp] theorem CHP_CAP7_TICK_MAX_width : (info .CHP_CAP7_TICK_MAX).width = 10 := rfl
@[simp] theorem CHP_CAP7_TICK_MIN_width : (info .CHP_CAP7_TICK_MIN).width = 10 := rfl
@[simp] theorem CHP_CTL_USE_TICK_width : (info .CHP_CTL_USE_TICK).width = 1 := rfl
@[simp] theorem CHP_CTL_COLD_RESET_width : (info .CHP_CTL_COLD_RESET).width = 1 := rfl
@[simp] theorem CHP_CTL_WARM_RESET_width : (info .CHP_CTL_WARM_RESET).width = 1 := rfl
@[simp] theorem TK_CTL_FASTPATH_width : (info .TK_CTL_FASTPATH).width = 1 := rfl
@[simp] theorem TK_CTL_OUT_EN_width : (info .TK_CTL_OUT_EN).width = 1 := rfl
@[simp] theorem TK_CTL_OUT_FRAME_width : (info .TK_CTL_OUT_FRAME).width = 1 := rfl
@[simp] theorem TK_PERIOD_PERIOD_width : (info .TK_PERIOD_PERIOD).width = 10 := rfl
@[simp] theorem TK_NEXT_GO_width : (info .TK_NEXT_GO).width = 1 := rfl
@[simp] theorem TK_NEXT_NEXT_PERIOD_width : (info .TK_NEXT_NEXT_PERIOD).width = 10 := rfl
@[simp] theorem TK_STS_NEXT_STATE_width : (info .TK_STS_NEXT_STATE).width = 4 := rfl
@[simp] theorem TK_STS_JUMPED_width : (info .TK_STS_JUMPED).width = 1 := rfl
@[simp] theorem TK_STS_MISMATCH_width : (info .TK_STS_MISMATCH).width = 1 := rfl
@[simp] theorem TK_STS_OVERRUN_width : (info .TK_STS_OVERRUN).width = 1 := rfl
@[simp] theorem TK_STS_SRC_LOST_width : (info .TK_STS_SRC_LOST).width = 1 := rfl
@[simp] theorem TK_STS_LOCK_width : (info .TK_STS_LOCK).width = 3 := rfl
@[simp] theorem TK_PHASE_PHASE_width : (info .TK_PHASE_PHASE).width = 20 := rfl
@[simp] theorem TK_SRC_PTM_LINK_width : (info .TK_SRC_PTM_LINK).width = 2 := rfl
@[simp] theorem TK_SRC_PTM_PORT_width : (info .TK_SRC_PTM_PORT).width = 1 := rfl
@[simp] theorem TK_SRC_ADOPT_width : (info .TK_SRC_ADOPT).width = 1 := rfl
@[simp] theorem TK_SRC_SOURCE_width : (info .TK_SRC_SOURCE).width = 3 := rfl
@[simp] theorem TK_CUTOFF_PERCENT_width : (info .TK_CUTOFF_PERCENT).width = 7 := rfl
@[simp] theorem TK_BUDGET0_GOLD_MAX_width : (info .TK_BUDGET0_GOLD_MAX).width = 8 := rfl
@[simp] theorem TK_BUDGET0_LEAD_MIN_width : (info .TK_BUDGET0_LEAD_MIN).width = 8 := rfl
@[simp] theorem TK_BUDGET0_SILVER_W_width : (info .TK_BUDGET0_SILVER_W).width = 8 := rfl
@[simp] theorem TK_BUDGET0_COPPER_W_width : (info .TK_BUDGET0_COPPER_W).width = 8 := rfl
@[simp] theorem TK_BUDGET1_PE_MAX_width : (info .TK_BUDGET1_PE_MAX).width = 16 := rfl
@[simp] theorem TK_BUDGET1_GOLD_SLOTS_width : (info .TK_BUDGET1_GOLD_SLOTS).width = 3 := rfl
@[simp] theorem TK_CANCEL_STS_CANCELLED_width : (info .TK_CANCEL_STS_CANCELLED).width = 16 := rfl
@[simp] theorem TK_CANCEL_STS_RESULT_width : (info .TK_CANCEL_STS_RESULT).width = 2 := rfl
@[simp] theorem TK_SNAP_TAKE_width : (info .TK_SNAP_TAKE).width = 1 := rfl
@[simp] theorem HE_CFG_MAX_SPEED_width : (info .HE_CFG_MAX_SPEED).width = 3 := rfl
@[simp] theorem HE_CFG_BIFUR_width : (info .HE_CFG_BIFUR).width = 2 := rfl
@[simp] theorem HE_LINK_STS_LPM_width : (info .HE_LINK_STS_LPM).width = 4 := rfl
@[simp] theorem HE_LINK_STS_L0P_WIDTH_width : (info .HE_LINK_STS_L0P_WIDTH).width = 5 := rfl
@[simp] theorem HE_LINK_STS_WIDTH_width : (info .HE_LINK_STS_WIDTH).width = 5 := rfl
@[simp] theorem HE_LINK_STS_SPEED_width : (info .HE_LINK_STS_SPEED).width = 3 := rfl
@[simp] theorem HE_LINK_STS_FLIT_width : (info .HE_LINK_STS_FLIT).width = 1 := rfl
@[simp] theorem HE_LINK_STS_EXISTS_width : (info .HE_LINK_STS_EXISTS).width = 1 := rfl
@[simp] theorem HE_LINK_STS_UP_width : (info .HE_LINK_STS_UP).width = 1 := rfl
@[simp] theorem HE_PWR_L12_IDLE_width : (info .HE_PWR_L12_IDLE).width = 16 := rfl
@[simp] theorem HE_PWR_L1_IDLE_width : (info .HE_PWR_L1_IDLE).width = 15 := rfl
@[simp] theorem HE_PWR_L0P_EN_width : (info .HE_PWR_L0P_EN).width = 1 := rfl
@[simp] theorem HE_VFALLOC_COUNT_width : (info .HE_VFALLOC_COUNT).width = 9 := rfl
@[simp] theorem HE_VFALLOC_FIRST_width : (info .HE_VFALLOC_FIRST).width = 8 := rfl
@[simp] theorem HE_FNATTR_ATS_QUOTA_width : (info .HE_FNATTR_ATS_QUOTA).width = 7 := rfl
@[simp] theorem HE_FNATTR_STRICT_width : (info .HE_FNATTR_STRICT).width = 1 := rfl
@[simp] theorem HE_FNATTR_GOLD_NO_LPM_width : (info .HE_FNATTR_GOLD_NO_LPM).width = 1 := rfl
@[simp] theorem HE_ATS_STS_PENDING_INV_width : (info .HE_ATS_STS_PENDING_INV).width = 13 := rfl
@[simp] theorem HE_ATS_STS_IN_USE_width : (info .HE_ATS_STS_IN_USE).width = 13 := rfl
@[simp] theorem HE_EVT_SURPRISE_DOWN_width : (info .HE_EVT_SURPRISE_DOWN).width = 4 := rfl
@[simp] theorem HE_EVT_CPL_TIMEOUT_width : (info .HE_EVT_CPL_TIMEOUT).width = 1 := rfl
@[simp] theorem HE_EVT_FLR_TIMEOUT_width : (info .HE_EVT_FLR_TIMEOUT).width = 1 := rfl
@[simp] theorem HE_EVT_ALLOC_ERR_width : (info .HE_EVT_ALLOC_ERR).width = 1 := rfl
@[simp] theorem HE_CNT_DISABLE_width : (info .HE_CNT_DISABLE).width = 64 := rfl
@[simp] theorem HE_CNT_LDN_width : (info .HE_CNT_LDN).width = 64 := rfl
@[simp] theorem HE_CNT_INV_width : (info .HE_CNT_INV).width = 64 := rfl
@[simp] theorem HE_CNT_CTO_width : (info .HE_CNT_CTO).width = 64 := rfl
@[simp] theorem HE_CNT_UR_width : (info .HE_CNT_UR).width = 64 := rfl
@[simp] theorem JQ_STS_OVERCOMMIT_width : (info .JQ_STS_OVERCOMMIT).width = 1 := rfl
@[simp] theorem JQ_STS_FROZEN_width : (info .JQ_STS_FROZEN).width = 1 := rfl
@[simp] theorem JQ_STS_SANITIZING_width : (info .JQ_STS_SANITIZING).width = 1 := rfl
@[simp] theorem JQ_GOLD_SUM_width : (info .JQ_GOLD_SUM).width = 16 := rfl
@[simp] theorem JQ_GOLD_CAP_width : (info .JQ_GOLD_CAP).width = 16 := rfl
@[simp] theorem JQ_QSEL_QUEUE_width : (info .JQ_QSEL_QUEUE).width = 10 := rfl
@[simp] theorem JQ_QCFG_FN_width : (info .JQ_QCFG_FN).width = 9 := rfl
@[simp] theorem JQ_QCFG_SLOT_width : (info .JQ_QCFG_SLOT).width = 6 := rfl
@[simp] theorem JQ_QCFG_ENTRIES_width : (info .JQ_QCFG_ENTRIES).width = 3 := rfl
@[simp] theorem JQ_QCFG_XR_LIFE_width : (info .JQ_QCFG_XR_LIFE).width = 4 := rfl
@[simp] theorem JQ_QCFG_XR_EN_width : (info .JQ_QCFG_XR_EN).width = 1 := rfl
@[simp] theorem JQ_QCFG_GOLD_OK_width : (info .JQ_QCFG_GOLD_OK).width = 1 := rfl
@[simp] theorem JQ_QCFG_STRICT_width : (info .JQ_QCFG_STRICT).width = 1 := rfl
@[simp] theorem JQ_QRING_RPL_LOG_width : (info .JQ_QRING_RPL_LOG).width = 4 := rfl
@[simp] theorem JQ_QRING_XR_LOG_width : (info .JQ_QRING_XR_LOG).width = 4 := rfl
@[simp] theorem JQ_QRING_HEAD_EVERY_width : (info .JQ_QRING_HEAD_EVERY).width = 8 := rfl
@[simp] theorem JQ_QRING_XR_MAX_width : (info .JQ_QRING_XR_MAX).width = 8 := rfl
@[simp] theorem JQ_QRING_MAX_OPEN_width : (info .JQ_QRING_MAX_OPEN).width = 8 := rfl
@[simp] theorem JQ_QCMD_DISABLE_width : (info .JQ_QCMD_DISABLE).width = 1 := rfl
@[simp] theorem JQ_QCMD_ENABLE_width : (info .JQ_QCMD_ENABLE).width = 1 := rfl
@[simp] theorem JQ_QSTS_OUTSTANDING_width : (info .JQ_QSTS_OUTSTANDING).width = 16 := rfl
@[simp] theorem JQ_QSTS_ERR_width : (info .JQ_QSTS_ERR).width = 4 := rfl
@[simp] theorem JQ_QSTS_STATE_width : (info .JQ_QSTS_STATE).width = 3 := rfl
@[simp] theorem JQ_QIRQ_EN_width : (info .JQ_QIRQ_EN).width = 1 := rfl
@[simp] theorem JQ_QIRQ_COALESCE_width : (info .JQ_QIRQ_COALESCE).width = 8 := rfl
@[simp] theorem JQ_QIRQ_VECTOR_width : (info .JQ_QIRQ_VECTOR).width = 11 := rfl
@[simp] theorem JQ_QSEQ_SEQ_width : (info .JQ_QSEQ_SEQ).width = 16 := rfl
@[simp] theorem JQ_FSEL_FN_width : (info .JQ_FSEL_FN).width = 9 := rfl
@[simp] theorem JQ_FGOLD_RES_SLOTS_width : (info .JQ_FGOLD_RES_SLOTS).width = 13 := rfl
@[simp] theorem JQ_FEVT_CFG_EVT_EN_width : (info .JQ_FEVT_CFG_EVT_EN).width = 1 := rfl
@[simp] theorem JQ_FEVT_CFG_IRQ_EN_width : (info .JQ_FEVT_CFG_IRQ_EN).width = 1 := rfl
@[simp] theorem JQ_FEVT_CFG_VECTOR_width : (info .JQ_FEVT_CFG_VECTOR).width = 11 := rfl
@[simp] theorem JQ_FEVT_CFG_EVT_LOG_width : (info .JQ_FEVT_CFG_EVT_LOG).width = 4 := rfl
@[simp] theorem JQ_FSTS_EVT_HEAD_ERR_width : (info .JQ_FSTS_EVT_HEAD_ERR).width = 1 := rfl
@[simp] theorem JQ_FSTS_RES_REFUSED_width : (info .JQ_FSTS_RES_REFUSED).width = 1 := rfl
@[simp] theorem JQ_FSTS_EVT_DROP_width : (info .JQ_FSTS_EVT_DROP).width = 1 := rfl
@[simp] theorem JQ_CNT_DOWNGRADE_width : (info .JQ_CNT_DOWNGRADE).width = 64 := rfl
@[simp] theorem JQ_CNT_LATE_width : (info .JQ_CNT_LATE).width = 64 := rfl
@[simp] theorem JQ_CNT_CAUGHT_width : (info .JQ_CNT_CAUGHT).width = 64 := rfl
@[simp] theorem JQ_CNT_MISSED_width : (info .JQ_CNT_MISSED).width = 64 := rfl
@[simp] theorem JQ_CNT_QERR_width : (info .JQ_CNT_QERR).width = 64 := rfl
@[simp] theorem JQ_CNT_XR_EXPIRED_width : (info .JQ_CNT_XR_EXPIRED).width = 64 := rfl
@[simp] theorem TS_CAP_PENDING_MAX_width : (info .TS_CAP_PENDING_MAX).width = 8 := rfl
@[simp] theorem TS_CAP_MAX_DEPTH_width : (info .TS_CAP_MAX_DEPTH).width = 8 := rfl
@[simp] theorem TS_CAP_MAX_LAYERS_width : (info .TS_CAP_MAX_LAYERS).width = 8 := rfl
@[simp] theorem TS_CAP_MAX_CHILDREN_width : (info .TS_CAP_MAX_CHILDREN).width = 8 := rfl
@[simp] theorem TS_STS_NODES_FREE_width : (info .TS_STS_NODES_FREE).width = 13 := rfl
@[simp] theorem TS_STS_ARMED_width : (info .TS_STS_ARMED).width = 7 := rfl
@[simp] theorem TS_NSEL_NODE_width : (info .TS_NSEL_NODE).width = 12 := rfl
@[simp] theorem TS_CMD_GO_width : (info .TS_CMD_GO).width = 1 := rfl
@[simp] theorem TS_CMD_USE_TICK_width : (info .TS_CMD_USE_TICK).width = 1 := rfl
@[simp] theorem TS_CMD_OP_width : (info .TS_CMD_OP).width = 4 := rfl
@[simp] theorem TS_ARG_COUNT_width : (info .TS_ARG_COUNT).width = 6 := rfl
@[simp] theorem TS_ARG_NODE_width : (info .TS_ARG_NODE).width = 12 := rfl
@[simp] theorem TS_RESULT_NODE_width : (info .TS_RESULT_NODE).width = 12 := rfl
@[simp] theorem TS_RESULT_REASON_width : (info .TS_RESULT_REASON).width = 8 := rfl
@[simp] theorem TS_RESULT_STATE_width : (info .TS_RESULT_STATE).width = 4 := rfl
@[simp] theorem TS_STAGE_NODE_width : (info .TS_STAGE_NODE).width = 12 := rfl
@[simp] theorem MC_CTL_ENABLE_width : (info .MC_CTL_ENABLE).width = 1 := rfl
@[simp] theorem MC_STS_DISABLE_REFUSED_width : (info .MC_STS_DISABLE_REFUSED).width = 1 := rfl
@[simp] theorem MC_STS_INIT_width : (info .MC_STS_INIT).width = 1 := rfl
@[simp] theorem MC_STS_DRAINING_width : (info .MC_STS_DRAINING).width = 1 := rfl
@[simp] theorem MC_STS_DRAINED_width : (info .MC_STS_DRAINED).width = 1 := rfl
@[simp] theorem MC_STS_ENABLED_width : (info .MC_STS_ENABLED).width = 1 := rfl
@[simp] theorem MC_GEOM_LOCK_MAX_width : (info .MC_GEOM_LOCK_MAX).width = 8 := rfl
@[simp] theorem MC_GEOM_WAYS_width : (info .MC_GEOM_WAYS).width = 8 := rfl
@[simp] theorem MC_GEOM_SETS_LOG2_width : (info .MC_GEOM_SETS_LOG2).width = 8 := rfl
@[simp] theorem MC_GEOM_PORTS_width : (info .MC_GEOM_PORTS).width = 8 := rfl
@[simp] theorem MC_LOCKMASK_MASK_width : (info .MC_LOCKMASK_MASK).width = 16 := rfl
@[simp] theorem MC_LFSR_STATE_width : (info .MC_LFSR_STATE).width = 16 := rfl
@[simp] theorem MC_DSTORE_SIZE_width : (info .MC_DSTORE_SIZE).width = 17 := rfl
@[simp] theorem MC_PIN_LINES_LINES_width : (info .MC_PIN_LINES_LINES).width = 19 := rfl
@[simp] theorem MC_PIN_COUNT_PINS_width : (info .MC_PIN_COUNT_PINS).width = 17 := rfl
@[simp] theorem MC_INV_CMD_GO_width : (info .MC_INV_CMD_GO).width = 1 := rfl
@[simp] theorem MC_INV_CMD_NODE_width : (info .MC_INV_CMD_NODE).width = 12 := rfl
@[simp] theorem MC_INV_STS_REASON_width : (info .MC_INV_STS_REASON).width = 8 := rfl
@[simp] theorem MC_INV_STS_STATE_width : (info .MC_INV_STS_STATE).width = 4 := rfl
@[simp] theorem MC_JNL_CFG_THROTTLE_width : (info .MC_JNL_CFG_THROTTLE).width = 8 := rfl
@[simp] theorem MC_JNL_CFG_LIMIT_width : (info .MC_JNL_CFG_LIMIT).width = 16 := rfl
@[simp] theorem MC_JNL_STS_THROTTLING_width : (info .MC_JNL_STS_THROTTLING).width = 1 := rfl
@[simp] theorem MC_JNL_STS_USED_width : (info .MC_JNL_STS_USED).width = 16 := rfl
@[simp] theorem MC_CNT_HIT_width : (info .MC_CNT_HIT).width = 64 := rfl
@[simp] theorem MC_CNT_MISS_DRAM_width : (info .MC_CNT_MISS_DRAM).width = 64 := rfl
@[simp] theorem MC_CNT_MISS_FLASH_width : (info .MC_CNT_MISS_FLASH).width = 64 := rfl
@[simp] theorem MC_CNT_STALL_width : (info .MC_CNT_STALL).width = 64 := rfl
@[simp] theorem MC_CNT_EVICT_DIRTY_width : (info .MC_CNT_EVICT_DIRTY).width = 64 := rfl
@[simp] theorem MC_CNT_INV_width : (info .MC_CNT_INV).width = 64 := rfl
@[simp] theorem MC_CNT_REFILL_width : (info .MC_CNT_REFILL).width = 64 := rfl
@[simp] theorem MS_STS_CALL_ERR_width : (info .MS_STS_CALL_ERR).width = 1 := rfl
@[simp] theorem MS_STS_GATE_VIOL_width : (info .MS_STS_GATE_VIOL).width = 1 := rfl
@[simp] theorem MS_STS_BO_SEEN_width : (info .MS_STS_BO_SEEN).width = 1 := rfl
@[simp] theorem MS_STS_BROWNOUT_width : (info .MS_STS_BROWNOUT).width = 1 := rfl
@[simp] theorem MS_ROMREV_REV_width : (info .MS_ROMREV_REV).width = 16 := rfl
@[simp] theorem MS_WIN_STS_OUT_width : (info .MS_WIN_STS_OUT).width = 12 := rfl
@[simp] theorem MS_MARGIN_PROG_LIMIT_width : (info .MS_MARGIN_PROG_LIMIT).width = 8 := rfl
@[simp] theorem MS_MARGIN_ERASED_LIMIT_width : (info .MS_MARGIN_ERASED_LIMIT).width = 8 := rfl
@[simp] theorem MS_SYSUNLOCK_UNLOCK_width : (info .MS_SYSUNLOCK_UNLOCK).width = 1 := rfl
@[simp] theorem MS_CALL_SLOT_width : (info .MS_CALL_SLOT).width = 11 := rfl
@[simp] theorem MS_CPL_VALID_width : (info .MS_CPL_VALID).width = 1 := rfl
@[simp] theorem MS_CPL_SLOT_width : (info .MS_CPL_SLOT).width = 11 := rfl
@[simp] theorem MS_CH_IF_TRAINED_width : (info .MS_CH_IF_TRAINED).width = 1 := rfl
@[simp] theorem MS_CH_IF_MODE_width : (info .MS_CH_IF_MODE).width = 1 := rfl
@[simp] theorem MS_CH_IF_FALLBACKS_width : (info .MS_CH_IF_FALLBACKS).width = 4 := rfl
@[simp] theorem MS_CH_IF_MAX_RATE_width : (info .MS_CH_IF_MAX_RATE).width = 4 := rfl
@[simp] theorem MS_CH_IF_RATE_width : (info .MS_CH_IF_RATE).width = 4 := rfl
@[simp] theorem MS_CH_GEO_PLANES_width : (info .MS_CH_GEO_PLANES).width = 4 := rfl
@[simp] theorem MS_CH_GEO_WLB_width : (info .MS_CH_GEO_WLB).width = 12 := rfl
@[simp] theorem MS_CH_GEO_BLOCKS_width : (info .MS_CH_GEO_BLOCKS).width = 16 := rfl
@[simp] theorem MS_CH_SENS_MASK_width : (info .MS_CH_SENS_MASK).width = 8 := rfl
@[simp] theorem MS_CH_SYS_PRESENT_width : (info .MS_CH_SYS_PRESENT).width = 1 := rfl
@[simp] theorem MS_CH_SYS_DIE_width : (info .MS_CH_SYS_DIE).width = 4 := rfl
@[simp] theorem MS_CH_SYS_BLOCKS_width : (info .MS_CH_SYS_BLOCKS).width = 16 := rfl
@[simp] theorem MS_CH_CNT_READ_width : (info .MS_CH_CNT_READ).width = 64 := rfl
@[simp] theorem MS_CH_CNT_PROGRAM_width : (info .MS_CH_CNT_PROGRAM).width = 64 := rfl
@[simp] theorem MS_CH_CNT_ERASE_width : (info .MS_CH_CNT_ERASE).width = 64 := rfl
@[simp] theorem MS_CH_CNT_SUSPEND_width : (info .MS_CH_CNT_SUSPEND).width = 64 := rfl
@[simp] theorem MS_CH_CNT_BO_width : (info .MS_CH_CNT_BO).width = 64 := rfl
@[simp] theorem MS_CH_CNT_WIN_width : (info .MS_CH_CNT_WIN).width = 64 := rfl
@[simp] theorem MS_CH_CNT_TIMEOUT_width : (info .MS_CH_CNT_TIMEOUT).width = 64 := rfl
@[simp] theorem MC_GC_MARK0_HIGH_width : (info .MC_GC_MARK0_HIGH).width = 10 := rfl
@[simp] theorem MC_GC_MARK0_LOW_width : (info .MC_GC_MARK0_LOW).width = 10 := rfl
@[simp] theorem MC_GC_MARK0_CRIT_width : (info .MC_GC_MARK0_CRIT).width = 10 := rfl
@[simp] theorem MC_GC_MARK1_HU_BANDS_width : (info .MC_GC_MARK1_HU_BANDS).width = 16 := rfl
@[simp] theorem MC_GC_QMAX_QMAX_width : (info .MC_GC_QMAX_QMAX).width = 32 := rfl
@[simp] theorem MC_GC_STS_K_width : (info .MC_GC_STS_K).width = 9 := rfl
@[simp] theorem MC_GC_STS_STATE_width : (info .MC_GC_STS_STATE).width = 3 := rfl
@[simp] theorem MC_GC_MODE_VERIFY_OFFSET_width : (info .MC_GC_MODE_VERIFY_OFFSET).width = 4 := rfl
@[simp] theorem MC_GC_MODE_RW_MODE_width : (info .MC_GC_MODE_RW_MODE).width = 2 := rfl
@[simp] theorem MC_GC_MODE_RO_MODE_width : (info .MC_GC_MODE_RO_MODE).width = 2 := rfl
@[simp] theorem MC_WL_CFG_SPREAD_width : (info .MC_WL_CFG_SPREAD).width = 16 := rfl
@[simp] theorem MC_WL_CFG_RATE_width : (info .MC_WL_CFG_RATE).width = 16 := rfl
@[simp] theorem MC_REC0_COPIES_KEPT_width : (info .MC_REC0_COPIES_KEPT).width = 16 := rfl
@[simp] theorem MC_REC0_SOURCES_KEPT_width : (info .MC_REC0_SOURCES_KEPT).width = 16 := rfl
@[simp] theorem MC_REC1_HALF_ERASED_width : (info .MC_REC1_HALF_ERASED).width = 16 := rfl
@[simp] theorem MC_REC1_ROWS_SEALED_width : (info .MC_REC1_ROWS_SEALED).width = 16 := rfl
@[simp] theorem MC_REC2_DISCARDED_width : (info .MC_REC2_DISCARDED).width = 32 := rfl
@[simp] theorem MC_CNT_HOST_UNITS_width : (info .MC_CNT_HOST_UNITS).width = 64 := rfl
@[simp] theorem MC_CNT_GC_UNITS_width : (info .MC_CNT_GC_UNITS).width = 64 := rfl
@[simp] theorem MC_CNT_GC_BANDS_width : (info .MC_CNT_GC_BANDS).width = 64 := rfl
@[simp] theorem MC_CNT_WL_BANDS_width : (info .MC_CNT_WL_BANDS).width = 64 := rfl
@[simp] theorem MC_CNT_RETIRED_width : (info .MC_CNT_RETIRED).width = 64 := rfl
@[simp] theorem MC_CNT_SEAL_SHORT_width : (info .MC_CNT_SEAL_SHORT).width = 64 := rfl
@[simp] theorem MC_CNT_RECON_width : (info .MC_CNT_RECON).width = 64 := rfl
@[simp] theorem MC_CNT_THROTTLE_TICKS_width : (info .MC_CNT_THROTTLE_TICKS).width = 64 := rfl
@[simp] theorem MC_CNT_DEGRADED_BANDS_width : (info .MC_CNT_DEGRADED_BANDS).width = 64 := rfl
@[simp] theorem MC_RI_CFG_RECOV_PASSES_width : (info .MC_RI_CFG_RECOV_PASSES).width = 4 := rfl
@[simp] theorem MC_RI_CFG_LADDER_MAX_width : (info .MC_RI_CFG_LADDER_MAX).width = 4 := rfl
@[simp] theorem MC_RI_CFG_CMD_MAX_width : (info .MC_RI_CFG_CMD_MAX).width = 10 := rfl
@[simp] theorem MC_RI_STS_TABLE_FULL_width : (info .MC_RI_STS_TABLE_FULL).width = 1 := rfl
@[simp] theorem MC_RI_STS_ACTIVE_width : (info .MC_RI_STS_ACTIVE).width = 13 := rfl
@[simp] theorem MC_RT_SEL_INDEX_width : (info .MC_RT_SEL_INDEX).width = 12 := rfl
@[simp] theorem MC_RT_ENT1_VALID_width : (info .MC_RT_ENT1_VALID).width = 1 := rfl
@[simp] theorem MC_RT_ENT1_PHASE_width : (info .MC_RT_ENT1_PHASE).width = 2 := rfl
@[simp] theorem MC_RT_ENT1_PASSES_width : (info .MC_RT_ENT1_PASSES).width = 4 := rfl
@[simp] theorem MC_PATROL_CFG_ENABLE_width : (info .MC_PATROL_CFG_ENABLE).width = 1 := rfl
@[simp] theorem MC_PATROL_CFG_REFRESH_BITS_width : (info .MC_PATROL_CFG_REFRESH_BITS).width = 8 := rfl
@[simp] theorem MC_PATROL_CFG_AGE_DAYS_width : (info .MC_PATROL_CFG_AGE_DAYS).width = 16 := rfl
@[simp] theorem MC_PATROL_RD_READS_MAX_width : (info .MC_PATROL_RD_READS_MAX).width = 16 := rfl
@[simp] theorem MC_PATROL_POS_PERMILLE_width : (info .MC_PATROL_POS_PERMILLE).width = 10 := rfl
@[simp] theorem MC_CNT_FAST_FAIL_width : (info .MC_CNT_FAST_FAIL).width = 64 := rfl
@[simp] theorem MC_CNT_MISCORRECT_width : (info .MC_CNT_MISCORRECT).width = 64 := rfl
@[simp] theorem MC_CNT_DEEP_OK_width : (info .MC_CNT_DEEP_OK).width = 64 := rfl
@[simp] theorem MC_CNT_LADDER_READS_width : (info .MC_CNT_LADDER_READS).width = 64 := rfl
@[simp] theorem MC_CNT_LADDER_WON_width : (info .MC_CNT_LADDER_WON).width = 64 := rfl
@[simp] theorem MC_CNT_HEDGE_WON_width : (info .MC_CNT_HEDGE_WON).width = 64 := rfl
@[simp] theorem MC_CNT_CMD_MAX_width : (info .MC_CNT_CMD_MAX).width = 64 := rfl
@[simp] theorem MC_CNT_RECOVERED_width : (info .MC_CNT_RECOVERED).width = 64 := rfl
@[simp] theorem MC_CNT_LOST_width : (info .MC_CNT_LOST).width = 64 := rfl
@[simp] theorem MC_CNT_REFRESH_width : (info .MC_CNT_REFRESH).width = 64 := rfl
@[simp] theorem CHP_ECC_CTL_LOG_CLEAR_width : (info .CHP_ECC_CTL_LOG_CLEAR).width = 1 := rfl
@[simp] theorem CHP_ECC_CTL_SCRUB_EN_width : (info .CHP_ECC_CTL_SCRUB_EN).width = 6 := rfl
@[simp] theorem CHP_ECC_STS_UE_width : (info .CHP_ECC_STS_UE).width = 6 := rfl
@[simp] theorem CHP_ECC_LSEL_ENTRY_width : (info .CHP_ECC_LSEL_ENTRY).width = 4 := rfl
@[simp] theorem CHP_ECC_LOGB_VALID_width : (info .CHP_ECC_LOGB_VALID).width = 1 := rfl
@[simp] theorem CHP_ECC_LOGB_MEM_width : (info .CHP_ECC_LOGB_MEM).width = 3 := rfl
@[simp] theorem CHP_ECC_LOGB_BIT_width : (info .CHP_ECC_LOGB_BIT).width = 10 := rfl
@[simp] theorem CHP_ECC_LOGB_COUNT_width : (info .CHP_ECC_LOGB_COUNT).width = 16 := rfl
@[simp] theorem CX_CAP_DEC_ENG_width : (info .CX_CAP_DEC_ENG).width = 8 := rfl
@[simp] theorem CX_CAP_COMP_ENG_width : (info .CX_CAP_COMP_ENG).width = 4 := rfl
@[simp] theorem CX_CAP_DICT_MAX_width : (info .CX_CAP_DICT_MAX).width = 12 := rfl
@[simp] theorem CX_CAP_FRAME_LOG2_width : (info .CX_CAP_FRAME_LOG2).width = 4 := rfl
@[simp] theorem CX_CAP_FORMATS_width : (info .CX_CAP_FORMATS).width = 4 := rfl
@[simp] theorem CX_CTL_STEAL_width : (info .CX_CTL_STEAL).width = 1 := rfl
@[simp] theorem CX_CTL_FMT_EN_width : (info .CX_CTL_FMT_EN).width = 4 := rfl
@[simp] theorem CX_STS_DICTS_width : (info .CX_STS_DICTS).width = 11 := rfl
@[simp] theorem CX_STS_DEC_BUSY_width : (info .CX_STS_DEC_BUSY).width = 8 := rfl
@[simp] theorem CX_STS_COMP_BUSY_width : (info .CX_STS_COMP_BUSY).width = 4 := rfl
@[simp] theorem CX_DICT_CMD_GO_width : (info .CX_DICT_CMD_GO).width = 1 := rfl
@[simp] theorem CX_DICT_CMD_OP_width : (info .CX_DICT_CMD_OP).width = 2 := rfl
@[simp] theorem CX_DICT_CMD_UNITS_width : (info .CX_DICT_CMD_UNITS).width = 6 := rfl
@[simp] theorem CX_DICT_CMD_NODE_width : (info .CX_DICT_CMD_NODE).width = 12 := rfl
@[simp] theorem CX_DICT_STS_REASON_width : (info .CX_DICT_STS_REASON).width = 8 := rfl
@[simp] theorem CX_DICT_STS_STATE_width : (info .CX_DICT_STS_STATE).width = 4 := rfl
@[simp] theorem CX_DICT_SEL_NODE_width : (info .CX_DICT_SEL_NODE).width = 12 := rfl
@[simp] theorem CX_DICT_INFO_HELD_width : (info .CX_DICT_INFO_HELD).width = 1 := rfl
@[simp] theorem CX_DICT_INFO_SIZE_width : (info .CX_DICT_INFO_SIZE).width = 18 := rfl
@[simp] theorem CX_DICT_ID_ID_width : (info .CX_DICT_ID_ID).width = 32 := rfl
@[simp] theorem CX_ENG_STS_LAST_width : (info .CX_ENG_STS_LAST).width = 4 := rfl
@[simp] theorem CX_ENG_STS_CLUSTER_width : (info .CX_ENG_STS_CLUSTER).width = 4 := rfl
@[simp] theorem CX_ENG_STS_CLASS_width : (info .CX_ENG_STS_CLASS).width = 2 := rfl
@[simp] theorem CX_ENG_STS_FORMAT_width : (info .CX_ENG_STS_FORMAT).width = 4 := rfl
@[simp] theorem CX_ENG_STS_STATE_width : (info .CX_ENG_STS_STATE).width = 4 := rfl
@[simp] theorem CX_CNT_DEC_BLOCKS_width : (info .CX_CNT_DEC_BLOCKS).width = 64 := rfl
@[simp] theorem CX_CNT_DEC_BYTES_width : (info .CX_CNT_DEC_BYTES).width = 64 := rfl
@[simp] theorem CX_CNT_CHECK_FAIL_width : (info .CX_CNT_CHECK_FAIL).width = 64 := rfl
@[simp] theorem CX_CNT_CHECK_MISMATCH_width : (info .CX_CNT_CHECK_MISMATCH).width = 64 := rfl
@[simp] theorem CX_CNT_DECODE_ERR_width : (info .CX_CNT_DECODE_ERR).width = 64 := rfl
@[simp] theorem CX_CNT_PACK_BLOCKS_width : (info .CX_CNT_PACK_BLOCKS).width = 64 := rfl
@[simp] theorem CX_CNT_NOSHRINK_width : (info .CX_CNT_NOSHRINK).width = 64 := rfl
@[simp] theorem CX_CNT_SELFCHECK_width : (info .CX_CNT_SELFCHECK).width = 64 := rfl
@[simp] theorem CX_CNT_STEAL_width : (info .CX_CNT_STEAL).width = 64 := rfl
@[simp] theorem SEC_STS_VBAT_LOST_width : (info .SEC_STS_VBAT_LOST).width = 1 := rfl
@[simp] theorem SEC_STS_TIME_TRUSTED_width : (info .SEC_STS_TIME_TRUSTED).width = 1 := rfl
@[simp] theorem SEC_STS_KEYED_width : (info .SEC_STS_KEYED).width = 1 := rfl
@[simp] theorem SEC_STS_OWNER_width : (info .SEC_STS_OWNER).width = 1 := rfl
@[simp] theorem SEC_MBX_CMD_GO_width : (info .SEC_MBX_CMD_GO).width = 1 := rfl
@[simp] theorem SEC_MBX_CMD_IRQ_EN_width : (info .SEC_MBX_CMD_IRQ_EN).width = 1 := rfl
@[simp] theorem SEC_MBX_CMD_VECTOR_width : (info .SEC_MBX_CMD_VECTOR).width = 11 := rfl
@[simp] theorem SEC_MBX_CMD_LEN_width : (info .SEC_MBX_CMD_LEN).width = 13 := rfl
@[simp] theorem SEC_MBX_STS_RESULT_width : (info .SEC_MBX_STS_RESULT).width = 8 := rfl
@[simp] theorem SEC_MBX_STS_STATE_width : (info .SEC_MBX_STS_STATE).width = 4 := rfl
@[simp] theorem SEC_PM_CMD_GO_width : (info .SEC_PM_CMD_GO).width = 1 := rfl
@[simp] theorem SEC_PM_CMD_FENCE_width : (info .SEC_PM_CMD_FENCE).width = 1 := rfl
@[simp] theorem SEC_PM_CMD_COUNT_width : (info .SEC_PM_CMD_COUNT).width = 7 := rfl
@[simp] theorem SEC_PM_RESULT_SKIPPED_width : (info .SEC_PM_RESULT_SKIPPED).width = 8 := rfl
@[simp] theorem SEC_PM_RESULT_REASON_width : (info .SEC_PM_RESULT_REASON).width = 8 := rfl
@[simp] theorem SEC_PM_RESULT_STATE_width : (info .SEC_PM_RESULT_STATE).width = 4 := rfl
@[simp] theorem SEC_PM_STS_ARMED_width : (info .SEC_PM_STS_ARMED).width = 5 := rfl
@[simp] theorem SEC_PM_STS_ENTRIES_width : (info .SEC_PM_STS_ENTRIES).width = 15 := rfl
@[simp] theorem SEC_PM_QSEL_FN_width : (info .SEC_PM_QSEL_FN).width = 9 := rfl
@[simp] theorem SEC_PM_QSEL_NODE_width : (info .SEC_PM_QSEL_NODE).width = 12 := rfl
@[simp] theorem SEC_PM_QRES_OWNER_width : (info .SEC_PM_QRES_OWNER).width = 1 := rfl
@[simp] theorem SEC_PM_QRES_SPECIFIC_width : (info .SEC_PM_QRES_SPECIFIC).width = 1 := rfl
@[simp] theorem SEC_PM_QRES_RIGHTS_width : (info .SEC_PM_QRES_RIGHTS).width = 4 := rfl
@[simp] theorem SEC_PM_STAGE_RIGHTS_width : (info .SEC_PM_STAGE_RIGHTS).width = 4 := rfl
@[simp] theorem SEC_PM_STAGE_ALL_NODES_width : (info .SEC_PM_STAGE_ALL_NODES).width = 1 := rfl
@[simp] theorem SEC_PM_STAGE_FN_width : (info .SEC_PM_STAGE_FN).width = 9 := rfl
@[simp] theorem SEC_PM_STAGE_NODE_width : (info .SEC_PM_STAGE_NODE).width = 12 := rfl
@[simp] theorem SEC_KEY_SEL_NODE_width : (info .SEC_KEY_SEL_NODE).width = 12 := rfl
@[simp] theorem SEC_KEY_STS_EXPIRING_width : (info .SEC_KEY_STS_EXPIRING).width = 1 := rfl
@[simp] theorem SEC_KEY_STS_LICENCE_width : (info .SEC_KEY_STS_LICENCE).width = 2 := rfl
@[simp] theorem SEC_KEY_STS_SOURCE_width : (info .SEC_KEY_STS_SOURCE).width = 1 := rfl
@[simp] theorem SEC_KEY_STS_LOADED_width : (info .SEC_KEY_STS_LOADED).width = 1 := rfl
@[simp] theorem SEC_CNT_DENIED_width : (info .SEC_CNT_DENIED).width = 64 := rfl
@[simp] theorem SEC_CNT_REVOKED_width : (info .SEC_CNT_REVOKED).width = 64 := rfl
@[simp] theorem SEC_CNT_MBX_width : (info .SEC_CNT_MBX).width = 64 := rfl
@[simp] theorem SEC_CNT_LIC_CLOSE_width : (info .SEC_CNT_LIC_CLOSE).width = 64 := rfl
@[simp] theorem PM_MODE_CAUSE_width : (info .PM_MODE_CAUSE).width = 4 := rfl
@[simp] theorem PM_MODE_MOVE_width : (info .PM_MODE_MOVE).width = 2 := rfl
@[simp] theorem PM_MODE_TARGET_width : (info .PM_MODE_TARGET).width = 3 := rfl
@[simp] theorem PM_MODE_MODE_width : (info .PM_MODE_MODE).width = 3 := rfl
@[simp] theorem PM_CTL_REGATE_US_width : (info .PM_CTL_REGATE_US).width = 8 := rfl
@[simp] theorem PM_CTL_IDLE_US_width : (info .PM_CTL_IDLE_US).width = 12 := rfl
@[simp] theorem PM_CTL_FLOOR_width : (info .PM_CTL_FLOOR).width = 3 := rfl
@[simp] theorem PM_CTL_IDLE_MODE_width : (info .PM_CTL_IDLE_MODE).width = 3 := rfl
@[simp] theorem PM_CMD_GO_width : (info .PM_CMD_GO).width = 1 := rfl
@[simp] theorem PM_CMD_USE_TICK_width : (info .PM_CMD_USE_TICK).width = 1 := rfl
@[simp] theorem PM_CMD_ARG_width : (info .PM_CMD_ARG).width = 3 := rfl
@[simp] theorem PM_CMD_OP_width : (info .PM_CMD_OP).width = 4 := rfl
@[simp] theorem PM_CMD_STS_REASON_width : (info .PM_CMD_STS_REASON).width = 8 := rfl
@[simp] theorem PM_CMD_STS_STATE_width : (info .PM_CMD_STS_STATE).width = 4 := rfl
@[simp] theorem PM_THR_CFG_STEP_width : (info .PM_THR_CFG_STEP).width = 8 := rfl
@[simp] theorem PM_THR_CFG_S_MIN_width : (info .PM_THR_CFG_S_MIN).width = 8 := rfl
@[simp] theorem PM_PCAP_BASE_width : (info .PM_PCAP_BASE).width = 8 := rfl
@[simp] theorem PM_PCAP_CAP_width : (info .PM_PCAP_CAP).width = 8 := rfl
@[simp] theorem PM_THR_STS_S_width : (info .PM_THR_STS_S).width = 9 := rfl
@[simp] theorem PM_THR_STS_S_T_width : (info .PM_THR_STS_S_T).width = 9 := rfl
@[simp] theorem PM_THR_STS_S_P_width : (info .PM_THR_STS_S_P).width = 9 := rfl
@[simp] theorem PM_PATROL_CFG_PERIOD_width : (info .PM_PATROL_CFG_PERIOD).width = 10 := rfl
@[simp] theorem PM_PATROL_CFG_ERR_EN_width : (info .PM_PATROL_CFG_ERR_EN).width = 1 := rfl
@[simp] theorem PM_PATROL_CFG_WAKE_EN_width : (info .PM_PATROL_CFG_WAKE_EN).width = 1 := rfl
@[simp] theorem PM_PATROL_STS_ROUNDS_width : (info .PM_PATROL_STS_ROUNDS).width = 16 := rfl
@[simp] theorem PM_PATROL_STS_VIOLATIONS_width : (info .PM_PATROL_STS_VIOLATIONS).width = 8 := rfl
@[simp] theorem PM_PATROL_STS_NEXT_width : (info .PM_PATROL_STS_NEXT).width = 3 := rfl
@[simp] theorem PM_LOG_STS_WRAPPED_width : (info .PM_LOG_STS_WRAPPED).width = 1 := rfl
@[simp] theorem PM_LOG_STS_NEXT_width : (info .PM_LOG_STS_NEXT).width = 4 := rfl
@[simp] theorem PM_CNT_REFUSED_width : (info .PM_CNT_REFUSED).width = 64 := rfl
@[simp] theorem PM_CNT_ABORTED_width : (info .PM_CNT_ABORTED).width = 64 := rfl
@[simp] theorem PM_CNT_ENTRIES_width : (info .PM_CNT_ENTRIES).width = 64 := rfl
@[simp] theorem PM_CNT_THROTTLE_TICKS_width : (info .PM_CNT_THROTTLE_TICKS).width = 64 := rfl
@[simp] theorem HU_CTL_PRESENT_width : (info .HU_CTL_PRESENT).width = 1 := rfl
@[simp] theorem HU_CTL_TSENS_width : (info .HU_CTL_TSENS).width = 3 := rfl
@[simp] theorem HU_CTL_TEST_NOW_width : (info .HU_CTL_TEST_NOW).width = 1 := rfl
@[simp] theorem HU_STS_ZERO_WINDOW_width : (info .HU_STS_ZERO_WINDOW).width = 1 := rfl
@[simp] theorem HU_STS_ZERO_ENERGY_width : (info .HU_STS_ZERO_ENERGY).width = 1 := rfl
@[simp] theorem HU_STS_FAULT_width : (info .HU_STS_FAULT).width = 4 := rfl
@[simp] theorem HU_STS_STATE_width : (info .HU_STS_STATE).width = 4 := rfl
@[simp] theorem HU_CHG_CFG_V_MAX_width : (info .HU_CHG_CFG_V_MAX).width = 9 := rfl
@[simp] theorem HU_CHG_CFG_I_IN_MAX_width : (info .HU_CHG_CFG_I_IN_MAX).width = 12 := rfl
@[simp] theorem HU_REL_CFG_ETA_width : (info .HU_REL_CFG_ETA).width = 8 := rfl
@[simp] theorem HU_REL_CFG_V_MIN_width : (info .HU_REL_CFG_V_MIN).width = 10 := rfl
@[simp] theorem HU_REL_CFG_I_BANK_MAX_width : (info .HU_REL_CFG_I_BANK_MAX).width = 10 := rfl
@[simp] theorem HU_E_CEIL_FUSE_MAX_width : (info .HU_E_CEIL_FUSE_MAX).width = 16 := rfl
@[simp] theorem HU_E_CEIL_CEIL_width : (info .HU_E_CEIL_CEIL).width = 16 := rfl
@[simp] theorem HU_WIN_CHG_LO_width : (info .HU_WIN_CHG_LO).width = 8 := rfl
@[simp] theorem HU_WIN_CHG_HI_width : (info .HU_WIN_CHG_HI).width = 8 := rfl
@[simp] theorem HU_WIN_MARGIN_width : (info .HU_WIN_MARGIN).width = 8 := rfl
@[simp] theorem HU_ALLOW_CFG_E_FIXED_width : (info .HU_ALLOW_CFG_E_FIXED).width = 14 := rfl
@[simp] theorem HU_ALLOW_CFG_E_BYTE_width : (info .HU_ALLOW_CFG_E_BYTE).width = 13 := rfl
@[simp] theorem HU_TEST_CFG_INTERVAL_width : (info .HU_TEST_CFG_INTERVAL).width = 8 := rfl
@[simp] theorem HU_TEST_CFG_DT_width : (info .HU_TEST_CFG_DT).width = 8 := rfl
@[simp] theorem HU_TEST_CFG_I_TEST_width : (info .HU_TEST_CFG_I_TEST).width = 12 := rfl
@[simp] theorem HU_FLUSH_CFG_DIES_width : (info .HU_FLUSH_CFG_DIES).width = 11 := rfl
@[simp] theorem HU_MEAS0_V_BANK_width : (info .HU_MEAS0_V_BANK).width = 16 := rfl
@[simp] theorem HU_MEAS0_T_BANK_width : (info .HU_MEAS0_T_BANK).width = 8 := rfl
@[simp] theorem HU_MEAS1_C_MEAS_width : (info .HU_MEAS1_C_MEAS).width = 20 := rfl
@[simp] theorem HU_MEAS1_ESR_width : (info .HU_MEAS1_ESR).width = 12 := rfl
@[simp] theorem HU_MEAS2_E_AVAIL_width : (info .HU_MEAS2_E_AVAIL).width = 16 := rfl
@[simp] theorem HU_MEAS2_V_TARGET_width : (info .HU_MEAS2_V_TARGET).width = 9 := rfl
@[simp] theorem HU_LAST_OUTCOME_width : (info .HU_LAST_OUTCOME).width = 4 := rfl
@[simp] theorem HU_LAST_TRIGGER_width : (info .HU_LAST_TRIGGER).width = 4 := rfl
@[simp] theorem HU_LAST_DURATION_width : (info .HU_LAST_DURATION).width = 24 := rfl
@[simp] theorem HU_CNT_HOLDUP_width : (info .HU_CNT_HOLDUP).width = 64 := rfl
@[simp] theorem HU_CNT_TESTS_width : (info .HU_CNT_TESTS).width = 64 := rfl
@[simp] theorem HU_CNT_FLUSH_BYTES_width : (info .HU_CNT_FLUSH_BYTES).width = 64 := rfl
@[simp] theorem HU_CNT_ACK_PROG_width : (info .HU_CNT_ACK_PROG).width = 64 := rfl
@[simp] theorem HK_CFG_PERIOD_width : (info .HK_CFG_PERIOD).width = 8 := rfl
@[simp] theorem HK_STS_HOT_width : (info .HK_STS_HOT).width = 4 := rfl
@[simp] theorem HK_STS_AVS_FAULT_width : (info .HK_STS_AVS_FAULT).width = 1 := rfl
@[simp] theorem HK_STS_SENSOR_FAULT_width : (info .HK_STS_SENSOR_FAULT).width = 1 := rfl
@[simp] theorem HK_STS_SHUT_SEEN_width : (info .HK_STS_SHUT_SEEN).width = 1 := rfl
@[simp] theorem HK_STS_THROTTLING_width : (info .HK_STS_THROTTLING).width = 1 := rfl
@[simp] theorem HK_STS_WARN_width : (info .HK_STS_WARN).width = 1 := rfl
@[simp] theorem HK_TJ_THR_HYST_width : (info .HK_TJ_THR_HYST).width = 4 := rfl
@[simp] theorem HK_TJ_THR_SHUT_width : (info .HK_TJ_THR_SHUT).width = 8 := rfl
@[simp] theorem HK_TJ_THR_THROT_width : (info .HK_TJ_THR_THROT).width = 8 := rfl
@[simp] theorem HK_TJ_THR_WARN_width : (info .HK_TJ_THR_WARN).width = 8 := rfl
@[simp] theorem HK_WWIN_FUSE_HI_width : (info .HK_WWIN_FUSE_HI).width = 8 := rfl
@[simp] theorem HK_WWIN_FUSE_LO_width : (info .HK_WWIN_FUSE_LO).width = 8 := rfl
@[simp] theorem HK_WWIN_HI_width : (info .HK_WWIN_HI).width = 8 := rfl
@[simp] theorem HK_WWIN_LO_width : (info .HK_WWIN_LO).width = 8 := rfl
@[simp] theorem HK_AVS_CFG0_F_TARGET_width : (info .HK_AVS_CFG0_F_TARGET).width = 16 := rfl
@[simp] theorem HK_AVS_CFG0_DEADBAND_width : (info .HK_AVS_CFG0_DEADBAND).width = 8 := rfl
@[simp] theorem HK_AVS_CFG0_EN_width : (info .HK_AVS_CFG0_EN).width = 1 := rfl
@[simp] theorem HK_AVS_CFG1_V_MAX_width : (info .HK_AVS_CFG1_V_MAX).width = 10 := rfl
@[simp] theorem HK_AVS_CFG1_V_MIN_width : (info .HK_AVS_CFG1_V_MIN).width = 10 := rfl
@[simp] theorem HK_AVS_STS_TARGET_width : (info .HK_AVS_STS_TARGET).width = 10 := rfl
@[simp] theorem HK_AVS_STS_F_SLOW_width : (info .HK_AVS_STS_F_SLOW).width = 16 := rfl
@[simp] theorem HK_RD_CFG_EN_width : (info .HK_RD_CFG_EN).width = 1 := rfl
@[simp] theorem HK_RD_CFG_NF_width : (info .HK_RD_CFG_NF).width = 6 := rfl
@[simp] theorem HK_VAL_BELOW_width : (info .HK_VAL_BELOW).width = 1 := rfl
@[simp] theorem HK_VAL_ABOVE_width : (info .HK_VAL_ABOVE).width = 1 := rfl
@[simp] theorem HK_VAL_VALID_width : (info .HK_VAL_VALID).width = 1 := rfl
@[simp] theorem HK_VAL_AGE_width : (info .HK_VAL_AGE).width = 8 := rfl
@[simp] theorem HK_VAL_VALUE_width : (info .HK_VAL_VALUE).width = 16 := rfl
@[simp] theorem HK_WIN_HI_width : (info .HK_WIN_HI).width = 16 := rfl
@[simp] theorem HK_WIN_LO_width : (info .HK_WIN_LO).width = 16 := rfl
@[simp] theorem HK_CNT_WARN_width : (info .HK_CNT_WARN).width = 64 := rfl
@[simp] theorem HK_CNT_THR_ROUNDS_width : (info .HK_CNT_THR_ROUNDS).width = 64 := rfl
@[simp] theorem HK_CNT_OOW_width : (info .HK_CNT_OOW).width = 64 := rfl
@[simp] theorem HK_CNT_AVS_STEPS_width : (info .HK_CNT_AVS_STEPS).width = 64 := rfl
@[simp] theorem CAL_STS_SET_REFUSED_width : (info .CAL_STS_SET_REFUSED).width = 1 := rfl
@[simp] theorem CAL_STS_ALARM1_width : (info .CAL_STS_ALARM1).width = 1 := rfl
@[simp] theorem CAL_STS_ALARM0_width : (info .CAL_STS_ALARM0).width = 1 := rfl
@[simp] theorem CAL_STS_VBAT_LOW_width : (info .CAL_STS_VBAT_LOW).width = 1 := rfl
@[simp] theorem CAL_STS_OSC_STOP_width : (info .CAL_STS_OSC_STOP).width = 1 := rfl
@[simp] theorem CAL_STS_VBAT_LOST_width : (info .CAL_STS_VBAT_LOST).width = 1 := rfl
@[simp] theorem CAL_STS_WARDEN_SET_width : (info .CAL_STS_WARDEN_SET).width = 1 := rfl
@[simp] theorem CAL_STS_VALID_width : (info .CAL_STS_VALID).width = 1 := rfl
@[simp] theorem CAL_CMD_SET_width : (info .CAL_CMD_SET).width = 1 := rfl
@[simp] theorem CAL_TRIM_TRIM_width : (info .CAL_TRIM_TRIM).width = 9 := rfl
@[simp] theorem CAL_BCD0_WEEKDAY_width : (info .CAL_BCD0_WEEKDAY).width = 3 := rfl
@[simp] theorem CAL_BCD0_HOUR_width : (info .CAL_BCD0_HOUR).width = 6 := rfl
@[simp] theorem CAL_BCD0_MINUTE_width : (info .CAL_BCD0_MINUTE).width = 7 := rfl
@[simp] theorem CAL_BCD0_SECOND_width : (info .CAL_BCD0_SECOND).width = 7 := rfl
@[simp] theorem CAL_BCD1_YEAR_width : (info .CAL_BCD1_YEAR).width = 16 := rfl
@[simp] theorem CAL_BCD1_MONTH_width : (info .CAL_BCD1_MONTH).width = 5 := rfl
@[simp] theorem CAL_BCD1_DAY_width : (info .CAL_BCD1_DAY).width = 6 := rfl
@[simp] theorem CAL_ALM_CTL_WAKE1_width : (info .CAL_ALM_CTL_WAKE1).width = 1 := rfl
@[simp] theorem CAL_ALM_CTL_WAKE0_width : (info .CAL_ALM_CTL_WAKE0).width = 1 := rfl
@[simp] theorem CAL_ALM_CTL_EN1_width : (info .CAL_ALM_CTL_EN1).width = 1 := rfl
@[simp] theorem CAL_ALM_CTL_EN0_width : (info .CAL_ALM_CTL_EN0).width = 1 := rfl
@[simp] theorem FC_CTL_IRQ_EN_width : (info .FC_CTL_IRQ_EN).width = 1 := rfl
@[simp] theorem FC_CTL_VECTOR_width : (info .FC_CTL_VECTOR).width = 11 := rfl
@[simp] theorem FC_CTL_ESC_MAX_width : (info .FC_CTL_ESC_MAX).width = 3 := rfl
@[simp] theorem FC_STS_CR_VALID_width : (info .FC_STS_CR_VALID).width = 1 := rfl
@[simp] theorem FC_STS_CR_SRC_width : (info .FC_STS_CR_SRC).width = 9 := rfl
@[simp] theorem FC_STS_ERR_N_width : (info .FC_STS_ERR_N).width = 1 := rfl
@[simp] theorem FC_COMPAT_STS_FATAL_width : (info .FC_COMPAT_STS_FATAL).width = 1 := rfl
@[simp] theorem FC_COMPAT_STS_UC_width : (info .FC_COMPAT_STS_UC).width = 1 := rfl
@[simp] theorem FC_COMPAT_STS_CE_width : (info .FC_COMPAT_STS_CE).width = 1 := rfl
@[simp] theorem FC_SEL_SOURCE_width : (info .FC_SEL_SOURCE).width = 9 := rfl
@[simp] theorem FC_SRC_CFG_OWNER_width : (info .FC_SRC_CFG_OWNER).width = 6 := rfl
@[simp] theorem FC_SRC_CFG_KIND_width : (info .FC_SRC_CFG_KIND).width = 1 := rfl
@[simp] theorem FC_SRC_CFG_CLASS_width : (info .FC_SRC_CFG_CLASS).width = 2 := rfl
@[simp] theorem FC_SRC_CFG_ERR_EN_width : (info .FC_SRC_CFG_ERR_EN).width = 1 := rfl
@[simp] theorem FC_SRC_CFG_REACT_width : (info .FC_SRC_CFG_REACT).width = 3 := rfl
@[simp] theorem FC_SRC_CFG_N_width : (info .FC_SRC_CFG_N).width = 8 := rfl
@[simp] theorem FC_SRC_WIN_W_width : (info .FC_SRC_WIN_W).width = 32 := rfl
@[simp] theorem FC_SRC_STATE_LAST_REACT_width : (info .FC_SRC_STATE_LAST_REACT).width = 3 := rfl
@[simp] theorem FC_SRC_STATE_ESCALATED_width : (info .FC_SRC_STATE_ESCALATED).width = 1 := rfl
@[simp] theorem FC_SRC_STATE_HELD_width : (info .FC_SRC_STATE_HELD).width = 1 := rfl
@[simp] theorem FC_SRC_STATE_UNACK_width : (info .FC_SRC_STATE_UNACK).width = 1 := rfl
@[simp] theorem FC_SRC_STATE_SEVERE_width : (info .FC_SRC_STATE_SEVERE).width = 1 := rfl
@[simp] theorem FC_SRC_STATE_STICKY_width : (info .FC_SRC_STATE_STICKY).width = 1 := rfl
@[simp] theorem FC_SRC_WCNT_WCNT_width : (info .FC_SRC_WCNT_WCNT).width = 32 := rfl
@[simp] theorem FC_SRC_DETAIL_UNIT_width : (info .FC_SRC_DETAIL_UNIT).width = 20 := rfl
@[simp] theorem FC_SRC_DETAIL_VALUE_width : (info .FC_SRC_DETAIL_VALUE).width = 12 := rfl
@[simp] theorem FC_CNT_CE_width : (info .FC_CNT_CE).width = 64 := rfl
@[simp] theorem FC_CNT_UC_width : (info .FC_CNT_UC).width = 64 := rfl
@[simp] theorem FC_CNT_FATAL_width : (info .FC_CNT_FATAL).width = 64 := rfl
@[simp] theorem FC_CNT_ESCALATED_width : (info .FC_CNT_ESCALATED).width = 64 := rfl
@[simp] theorem FC_CNT_CHIPRESET_width : (info .FC_CNT_CHIPRESET).width = 64 := rfl
@[simp] theorem ER_CTL_CLEAR_width : (info .ER_CTL_CLEAR).width = 1 := rfl
@[simp] theorem ER_CTL_FREEZE_MAX_width : (info .ER_CTL_FREEZE_MAX).width = 8 := rfl
@[simp] theorem ER_CTL_ENABLE_width : (info .ER_CTL_ENABLE).width = 1 := rfl
@[simp] theorem ER_STS_CLEAR_PENDING_width : (info .ER_STS_CLEAR_PENDING).width = 1 := rfl
@[simp] theorem ER_STS_FREEZE_TIMEOUT_width : (info .ER_STS_FREEZE_TIMEOUT).width = 1 := rfl
@[simp] theorem ER_STS_FROZEN_width : (info .ER_STS_FROZEN).width = 1 := rfl
@[simp] theorem ER_STS_ENABLED_width : (info .ER_STS_ENABLED).width = 1 := rfl
@[simp] theorem ER_FREEZE_FREEZE_width : (info .ER_FREEZE_FREEZE).width = 1 := rfl
@[simp] theorem ER_CURSOR_PAGE_width : (info .ER_CURSOR_PAGE).width = 3 := rfl
@[simp] theorem ER_HSEL_ID_width : (info .ER_HSEL_ID).width = 6 := rfl
@[simp] theorem ER_HCFG_EN_width : (info .ER_HCFG_EN).width = 1 := rfl
@[simp] theorem ER_HCFG_LOG2_width : (info .ER_HCFG_LOG2).width = 1 := rfl
@[simp] theorem ER_HCFG_UNIT_width : (info .ER_HCFG_UNIT).width = 7 := rfl
@[simp] theorem ER_HLOWER_LOWER_width : (info .ER_HLOWER_LOWER).width = 32 := rfl
@[simp] theorem ER_HWIDTH_WIDTH_width : (info .ER_HWIDTH_WIDTH).width = 32 := rfl
@[simp] theorem FW_CAP_PKG_MAX_width : (info .FW_CAP_PKG_MAX).width = 8 := rfl
@[simp] theorem FW_CAP_KEYS_width : (info .FW_CAP_KEYS).width = 8 := rfl
@[simp] theorem FW_CAP_SLOTS_width : (info .FW_CAP_SLOTS).width = 8 := rfl
@[simp] theorem FW_STS_WAITING_width : (info .FW_STS_WAITING).width = 1 := rfl
@[simp] theorem FW_STS_COMMIT_BUSY_width : (info .FW_STS_COMMIT_BUSY).width = 1 := rfl
@[simp] theorem FW_STS_PENDING_RESET_width : (info .FW_STS_PENDING_RESET).width = 1 := rfl
@[simp] theorem FW_STS_ROLL_CLUSTER_width : (info .FW_STS_ROLL_CLUSTER).width = 4 := rfl
@[simp] theorem FW_STS_ACT_STATE_width : (info .FW_STS_ACT_STATE).width = 4 := rfl
@[simp] theorem FW_ACTIVE_ARMED_width : (info .FW_ACTIVE_ARMED).width = 3 := rfl
@[simp] theorem FW_ACTIVE_NEXT_RESET_width : (info .FW_ACTIVE_NEXT_RESET).width = 3 := rfl
@[simp] theorem FW_ACTIVE_RUNNING_width : (info .FW_ACTIVE_RUNNING).width = 3 := rfl
@[simp] theorem FW_SLOT_VALID_width : (info .FW_SLOT_VALID).width = 1 := rfl
@[simp] theorem FW_SLOT_BOOTABLE_width : (info .FW_SLOT_BOOTABLE).width = 1 := rfl
@[simp] theorem FW_SLOT_RESET_PKG_width : (info .FW_SLOT_RESET_PKG).width = 1 := rfl
@[simp] theorem FW_SLOT_ADVANCE_width : (info .FW_SLOT_ADVANCE).width = 1 := rfl
@[simp] theorem FW_SLOT_CLUSTER_IF_width : (info .FW_SLOT_CLUSTER_IF).width = 16 := rfl
@[simp] theorem FW_LAST_COMPONENT_width : (info .FW_LAST_COMPONENT).width = 4 := rfl
@[simp] theorem FW_LAST_CLUSTER_width : (info .FW_LAST_CLUSTER).width = 4 := rfl
@[simp] theorem FW_LAST_SLOT_width : (info .FW_LAST_SLOT).width = 4 := rfl
@[simp] theorem FW_LAST_CODE_width : (info .FW_LAST_CODE).width = 8 := rfl
@[simp] theorem FW_CNT_COMMITS_width : (info .FW_CNT_COMMITS).width = 64 := rfl
@[simp] theorem FW_CNT_ACTIVATIONS_width : (info .FW_CNT_ACTIVATIONS).width = 64 := rfl
@[simp] theorem FW_CNT_REVERTS_width : (info .FW_CNT_REVERTS).width = 64 := rfl
@[simp] theorem CHP_BOOT_STS_FAILED_COPIES_width : (info .CHP_BOOT_STS_FAILED_COPIES).width = 3 := rfl
@[simp] theorem CHP_BOOT_STS_SOURCE_width : (info .CHP_BOOT_STS_SOURCE).width = 4 := rfl
@[simp] theorem CHP_BOOT_STS_SLOT_width : (info .CHP_BOOT_STS_SLOT).width = 4 := rfl
@[simp] theorem CHP_BOOT_STS_PHASE_width : (info .CHP_BOOT_STS_PHASE).width = 4 := rfl
@[simp] theorem CHP_BOOT_STS_RESULT_width : (info .CHP_BOOT_STS_RESULT).width = 4 := rfl
@[simp] theorem CHP_BOOT_TIME_REPLAY_MS_width : (info .CHP_BOOT_TIME_REPLAY_MS).width = 12 := rfl
@[simp] theorem CHP_BOOT_TIME_READY_MS_width : (info .CHP_BOOT_TIME_READY_MS).width = 20 := rfl
@[simp] theorem CHP_RST_CAUSE_LEVEL_width : (info .CHP_RST_CAUSE_LEVEL).width = 4 := rfl
@[simp] theorem CHP_RST_CAUSE_SOURCE_width : (info .CHP_RST_CAUSE_SOURCE).width = 8 := rfl
@[simp] theorem UCB_RESET_TICK_width : (info .UCB_RESET_TICK).width = 64 := rfl
@[simp] theorem UCB_POWER_TICK_width : (info .UCB_POWER_TICK).width = 64 := rfl
@[simp] theorem CHP_CTL_TICK_width : (info .CHP_CTL_TICK).width = 64 := rfl
@[simp] theorem CHP_ECC_LOGA_width : (info .CHP_ECC_LOGA).width = 64 := rfl
@[simp] theorem CHP_ECC_LOGT_width : (info .CHP_ECC_LOGT).width = 64 := rfl
@[simp] theorem CHP_ECC_CE_width : (info .CHP_ECC_CE).width = 64 := rfl
@[simp] theorem CHP_ECC_LAP_width : (info .CHP_ECC_LAP).width = 32 := rfl
@[simp] theorem TK_NEXT_TICK_width : (info .TK_NEXT_TICK).width = 64 := rfl
@[simp] theorem TK_COUNT_width : (info .TK_COUNT).width = 64 := rfl
@[simp] theorem TK_PTM_EPOCH_width : (info .TK_PTM_EPOCH).width = 64 := rfl
@[simp] theorem TK_BUDGET_EFF0_width : (info .TK_BUDGET_EFF0).width = 32 := rfl
@[simp] theorem TK_BUDGET_EFF1_width : (info .TK_BUDGET_EFF1).width = 32 := rfl
@[simp] theorem TK_OVR_CNT_width : (info .TK_OVR_CNT).width = 64 := rfl
@[simp] theorem TK_OVR_LAST_width : (info .TK_OVR_LAST).width = 64 := rfl
@[simp] theorem TK_JUMP_FROM_width : (info .TK_JUMP_FROM).width = 64 := rfl
@[simp] theorem TK_CANCEL_width : (info .TK_CANCEL).width = 64 := rfl
@[simp] theorem TK_SNAP_COUNT_width : (info .TK_SNAP_COUNT).width = 64 := rfl
@[simp] theorem TK_SNAP_PHASE_width : (info .TK_SNAP_PHASE).width = 32 := rfl
@[simp] theorem TK_SNAP_CAL_width : (info .TK_SNAP_CAL).width = 64 := rfl
@[simp] theorem JQ_QRPL_BASE_width : (info .JQ_QRPL_BASE).width = 64 := rfl
@[simp] theorem JQ_QXR_BASE_width : (info .JQ_QXR_BASE).width = 64 := rfl
@[simp] theorem JQ_QMIRROR_width : (info .JQ_QMIRROR).width = 64 := rfl
@[simp] theorem JQ_FEVT_BASE_width : (info .JQ_FEVT_BASE).width = 64 := rfl
@[simp] theorem TS_ARG_SIZE_width : (info .TS_ARG_SIZE).width = 64 := rfl
@[simp] theorem TS_TICK_width : (info .TS_TICK).width = 64 := rfl
@[simp] theorem MC_INV_FIRST_width : (info .MC_INV_FIRST).width = 64 := rfl
@[simp] theorem MC_INV_COUNT_width : (info .MC_INV_COUNT).width = 64 := rfl
@[simp] theorem MC_JNL_SEQ_width : (info .MC_JNL_SEQ).width = 64 := rfl
@[simp] theorem MC_JNL_CKPT_width : (info .MC_JNL_CKPT).width = 64 := rfl
@[simp] theorem MC_GC_FREE_width : (info .MC_GC_FREE).width = 64 := rfl
@[simp] theorem MC_GC_TOTAL_width : (info .MC_GC_TOTAL).width = 64 := rfl
@[simp] theorem MC_WSEQ_width : (info .MC_WSEQ).width = 64 := rfl
@[simp] theorem MC_WL_RANGE_width : (info .MC_WL_RANGE).width = 64 := rfl
@[simp] theorem MC_RT_ENT0_width : (info .MC_RT_ENT0).width = 64 := rfl
@[simp] theorem MC_PATROL_LAP_width : (info .MC_PATROL_LAP).width = 64 := rfl
@[simp] theorem CX_DICT_LBA_width : (info .CX_DICT_LBA).width = 64 := rfl
@[simp] theorem SEC_MBX_REQ_width : (info .SEC_MBX_REQ).width = 64 := rfl
@[simp] theorem SEC_MBX_RSP_width : (info .SEC_MBX_RSP).width = 64 := rfl
@[simp] theorem SEC_MONO_width : (info .SEC_MONO).width = 64 := rfl
@[simp] theorem SEC_TIME_FLOOR_width : (info .SEC_TIME_FLOOR).width = 64 := rfl
@[simp] theorem SEC_PM_TICK_width : (info .SEC_PM_TICK).width = 64 := rfl
@[simp] theorem PM_CMD_TICK_width : (info .PM_CMD_TICK).width = 64 := rfl
@[simp] theorem PM_PATROL_MASK_width : (info .PM_PATROL_MASK).width = 64 := rfl
@[simp] theorem PM_REFUSE_LOG_UNIT_width : (info .PM_REFUSE_LOG_UNIT).width = 20 := rfl
@[simp] theorem PM_REFUSE_LOG_TYPE_width : (info .PM_REFUSE_LOG_TYPE).width = 8 := rfl
@[simp] theorem PM_REFUSE_LOG_REASON_width : (info .PM_REFUSE_LOG_REASON).width = 8 := rfl
@[simp] theorem PM_REFUSE_LOG_AP_width : (info .PM_REFUSE_LOG_AP).width = 4 := rfl
@[simp] theorem PM_REFUSE_LOG_ABORTED_width : (info .PM_REFUSE_LOG_ABORTED).width = 1 := rfl
@[simp] theorem PM_REFUSE_LOG_TARGET_width : (info .PM_REFUSE_LOG_TARGET).width = 3 := rfl
@[simp] theorem PM_REFUSE_LOG_VALID_width : (info .PM_REFUSE_LOG_VALID).width = 1 := rfl
@[simp] theorem PM_REFUSE_LOG_FROM_width : (info .PM_REFUSE_LOG_FROM).width = 3 := rfl
@[simp] theorem PM_REFUSE_LOG_TICK_width : (info .PM_REFUSE_LOG_TICK).width = 64 := rfl
@[simp] theorem PM_KEEP_width : (info .PM_KEEP).width = 32 := rfl
@[simp] theorem HU_ALLOW_width : (info .HU_ALLOW).width = 64 := rfl
@[simp] theorem HU_DIRTY_width : (info .HU_DIRTY).width = 64 := rfl
@[simp] theorem HK_ROUND_width : (info .HK_ROUND).width = 64 := rfl
@[simp] theorem CAL_TIME_width : (info .CAL_TIME).width = 64 := rfl
@[simp] theorem CAL_SET_width : (info .CAL_SET).width = 64 := rfl
@[simp] theorem CAL_ALARM_width : (info .CAL_ALARM).width = 48 := rfl
@[simp] theorem FC_SRC_WSTART_width : (info .FC_SRC_WSTART).width = 64 := rfl
@[simp] theorem FC_SRC_FIRST_width : (info .FC_SRC_FIRST).width = 64 := rfl
@[simp] theorem FC_SRC_LAST_width : (info .FC_SRC_LAST).width = 64 := rfl
@[simp] theorem FC_SRC_TOTAL_width : (info .FC_SRC_TOTAL).width = 64 := rfl
@[simp] theorem ER_LOST_width : (info .ER_LOST).width = 64 := rfl
@[simp] theorem ER_CLEARED_width : (info .ER_CLEARED).width = 64 := rfl
@[simp] theorem FW_SLOT_SVN_width : (info .FW_SLOT_SVN).width = 64 := rfl
@[simp] theorem X_FREE_width : (info .X_FREE).width = 64 := rfl
@[simp] theorem X_ARMSEQ_width : (info .X_ARMSEQ).width = 64 := rfl
@[simp] theorem X_CMDSEQ_width : (info .X_CMDSEQ).width = 64 := rfl
@[simp] theorem X_DIE_POP_width : (info .X_DIE_POP).width = 1 := rfl
@[simp] theorem X_DIE_FORMER_width : (info .X_DIE_FORMER).width = 1 := rfl
@[simp] theorem X_DIE_CELLS_width : (info .X_DIE_CELLS).width = 3 := rfl
@[simp] theorem X_OWN_READY_width : (info .X_OWN_READY).width = 1 := rfl
@[simp] theorem X_PWR_TARGET_width : (info .X_PWR_TARGET).width = 3 := rfl
@[simp] theorem X_PWR_WAKING_width : (info .X_PWR_WAKING).width = 1 := rfl
@[simp] theorem X_REQ_IMMEDIATE_width : (info .X_REQ_IMMEDIATE).width = 1 := rfl
@[simp] theorem X_CORE_HALTED_width : (info .X_CORE_HALTED).width = 1 := rfl
@[simp] theorem X_CHIPRST_width : (info .X_CHIPRST).width = 2 := rfl
@[simp] theorem X_CHIPRST_SRC_width : (info .X_CHIPRST_SRC).width = 8 := rfl
@[simp] theorem X_TICK_FRAMES_width : (info .X_TICK_FRAMES).width = 8 := rfl
@[simp] theorem X_SRC_PRESENT_width : (info .X_SRC_PRESENT).width = 1 := rfl
@[simp] theorem X_SRC_UNIT_width : (info .X_SRC_UNIT).width = 20 := rfl
@[simp] theorem X_SRC_VALUE_width : (info .X_SRC_VALUE).width = 12 := rfl
@[simp] theorem X_WAKE_width : (info .X_WAKE).width = 16 := rfl
@[simp] theorem X_MISSES_width : (info .X_MISSES).width = 32 := rfl
@[simp] theorem X_GOLD_USED_width : (info .X_GOLD_USED).width = 16 := rfl
@[simp] theorem X_HIST_BIN_width : (info .X_HIST_BIN).width = 64 := rfl
@[simp] theorem X_EXT_MIN_width : (info .X_EXT_MIN).width = 64 := rfl
@[simp] theorem X_EXT_MINT_width : (info .X_EXT_MINT).width = 64 := rfl
@[simp] theorem X_EXT_MAX_width : (info .X_EXT_MAX).width = 64 := rfl
@[simp] theorem X_EXT_MAXT_width : (info .X_EXT_MAXT).width = 64 := rfl
@[simp] theorem X_CAL_TIME_NS_width : (info .X_CAL_TIME_NS).width = 64 := rfl
@[simp] theorem X_MODE_POWER_width : (info .X_MODE_POWER).width = 3 := rfl
@[simp] theorem X_FN_BME_width : (info .X_FN_BME).width = 1 := rfl
@[simp] theorem X_FN_D3_width : (info .X_FN_D3).width = 1 := rfl
@[simp] theorem X_FN_DISABLING_width : (info .X_FN_DISABLING).width = 1 := rfl
@[simp] theorem X_FN_DISKIND_width : (info .X_FN_DISKIND).width = 3 := rfl
@[simp] theorem X_FN_VFE_width : (info .X_FN_VFE).width = 1 := rfl
@[simp] theorem X_FN_NUMVFS_width : (info .X_FN_NUMVFS).width = 9 := rfl
@[simp] theorem X_FN_FROZEN_width : (info .X_FN_FROZEN).width = 1 := rfl
@[simp] theorem X_CC_width : (info .X_CC).width = 32 := rfl
@[simp] theorem X_CSTS_RDY_width : (info .X_CSTS_RDY).width = 1 := rfl
@[simp] theorem X_CSTS_CFS_width : (info .X_CSTS_CFS).width = 1 := rfl
@[simp] theorem X_CSTS_SHST_width : (info .X_CSTS_SHST).width = 2 := rfl
@[simp] theorem X_AQA_width : (info .X_AQA).width = 32 := rfl
@[simp] theorem X_ASQ_width : (info .X_ASQ).width = 64 := rfl
@[simp] theorem X_ACQ_width : (info .X_ACQ).width = 64 := rfl
@[simp] theorem X_CTRL_DISABLING_width : (info .X_CTRL_DISABLING).width = 1 := rfl
@[simp] theorem X_POOL_HELD_width : (info .X_POOL_HELD).width = 9 := rfl
@[simp] theorem X_NSQA_width : (info .X_NSQA).width = 8 := rfl
@[simp] theorem X_NCQA_width : (info .X_NCQA).width = 8 := rfl
@[simp] theorem X_JQ_S_width : (info .X_JQ_S).width = 64 := rfl
@[simp] theorem X_JQ_RPOST_width : (info .X_JQ_RPOST).width = 64 := rfl
@[simp] theorem X_JQ_RHEAD_width : (info .X_JQ_RHEAD).width = 64 := rfl
@[simp] theorem X_JQ_RESV_width : (info .X_JQ_RESV).width = 17 := rfl
@[simp] theorem X_JQ_XPOST_width : (info .X_JQ_XPOST).width = 64 := rfl
@[simp] theorem X_JQ_XHEAD_width : (info .X_JQ_XHEAD).width = 64 := rfl
@[simp] theorem X_JQ_IRQN_width : (info .X_JQ_IRQN).width = 16 := rfl
@[simp] theorem X_JQ_MCNT_width : (info .X_JQ_MCNT).width = 8 := rfl
@[simp] theorem X_EV_POST_width : (info .X_EV_POST).width = 64 := rfl
@[simp] theorem X_EV_HEAD_width : (info .X_EV_HEAD).width = 64 := rfl
@[simp] theorem X_EV_LOST_width : (info .X_EV_LOST).width = 1 := rfl
@[simp] theorem X_CL_OOS_width : (info .X_CL_OOS).width = 1 := rfl
@[simp] theorem X_READY_width : (info .X_READY).width = 1 := rfl
@[simp] theorem X_FEAT_AEC_width : (info .X_FEAT_AEC).width = 32 := rfl
@[simp] theorem X_PWR_PEND_width : (info .X_PWR_PEND).width = 3 := rfl
@[simp] theorem X_PWR_FROM_width : (info .X_PWR_FROM).width = 3 := rfl
@[simp] theorem X_PERST_width : (info .X_PERST).width = 1 := rfl
@[simp] theorem X_BIFUR_EFF_width : (info .X_BIFUR_EFF).width = 2 := rfl
@[simp] theorem X_SPEED_EFF_width : (info .X_SPEED_EFF).width = 3 := rfl
@[simp] theorem X_ATS_SEQ_width : (info .X_ATS_SEQ).width = 64 := rfl
@[simp] theorem X_TICK_SEEN_width : (info .X_TICK_SEEN).width = 1 := rfl
@[simp] theorem X_TICK_SRCCNT_width : (info .X_TICK_SRCCNT).width = 64 := rfl
@[simp] theorem X_DIE_OP_width : (info .X_DIE_OP).width = 2 := rfl
@[simp] theorem X_DIE_SUSP_width : (info .X_DIE_SUSP).width = 1 := rfl
@[simp] theorem X_DIE_RD_width : (info .X_DIE_RD).width = 1 := rfl
@[simp] theorem X_DIE_SUSPENDING_width : (info .X_DIE_SUSPENDING).width = 1 := rfl
@[simp] theorem X_DIE_NSUSP_width : (info .X_DIE_NSUSP).width = 8 := rfl
@[simp] theorem X_DIE_SUSPT_width : (info .X_DIE_SUSPT).width = 8 := rfl
@[simp] theorem X_DIE_OPBLK_width : (info .X_DIE_OPBLK).width = 16 := rfl
@[simp] theorem X_DIE_OPPAGE_width : (info .X_DIE_OPPAGE).width = 16 := rfl
@[simp] theorem X_DIE_OPMODE_width : (info .X_DIE_OPMODE).width = 2 := rfl
@[simp] theorem X_DIE_SLIMP_width : (info .X_DIE_SLIMP).width = 8 := rfl
@[simp] theorem X_DIE_SLIME_width : (info .X_DIE_SLIME).width = 8 := rfl
@[simp] theorem X_DIE_RETRY_width : (info .X_DIE_RETRY).width = 8 := rfl
@[simp] theorem X_DIE_FEAT_width : (info .X_DIE_FEAT).width = 16 := rfl
@[simp] theorem X_DIE_HINT_width : (info .X_DIE_HINT).width = 4 := rfl
@[simp] theorem X_CH_DENIED_width : (info .X_CH_DENIED).width = 1 := rfl
@[simp] theorem X_BLK_STATE_width : (info .X_BLK_STATE).width = 3 := rfl
@[simp] theorem X_BLK_CNT_width : (info .X_BLK_CNT).width = 32 := rfl
@[simp] theorem X_BLK_MODE_width : (info .X_BLK_MODE).width = 2 := rfl
@[simp] theorem X_BLK_WL_width : (info .X_BLK_WL).width = 16 := rfl
@[simp] theorem X_BLK_MM_width : (info .X_BLK_MM).width = 3 := rfl
@[simp] theorem X_BLK_FRESH_width : (info .X_BLK_FRESH).width = 1 := rfl
@[simp] theorem X_BLK_READS_width : (info .X_BLK_READS).width = 32 := rfl
@[simp] theorem X_BROWNOUT_width : (info .X_BROWNOUT).width = 1 := rfl
@[simp] theorem X_WSEQ_width : (info .X_WSEQ).width = 48 := rfl
@[simp] theorem X_BANDSEQ_width : (info .X_BANDSEQ).width = 32 := rfl
@[simp] theorem X_ROT_width : (info .X_ROT).width = 3 := rfl
@[simp] theorem X_NODE_GEN_width : (info .X_NODE_GEN).width = 20 := rfl
@[simp] theorem X_JNLSEQ_width : (info .X_JNLSEQ).width = 64 := rfl
@[simp] theorem X_QUOTA_width : (info .X_QUOTA).width = 64 := rfl
@[simp] theorem X_QUOTA_FRESH_width : (info .X_QUOTA_FRESH).width = 1 := rfl
@[simp] theorem X_PAGESEQ_width : (info .X_PAGESEQ).width = 64 := rfl
@[simp] theorem X_JNL_BYTES_width : (info .X_JNL_BYTES).width = 64 := rfl
@[simp] theorem X_NSCHG_width : (info .X_NSCHG).width = 1 := rfl
@[simp] theorem X_BLK_REL_width : (info .X_BLK_REL).width = 64 := rfl
@[simp] theorem X_BLK_RELR_width : (info .X_BLK_RELR).width = 1 := rfl
@[simp] theorem X_BLK_BEGUN_width : (info .X_BLK_BEGUN).width = 1 := rfl
@[simp] theorem X_WL_SEC_width : (info .X_WL_SEC).width = 16 := rfl
@[simp] theorem X_CAL_SEC_width : (info .X_CAL_SEC).width = 48 := rfl
@[simp] theorem X_HU_COVER_width : (info .X_HU_COVER).width = 1 := rfl
@[simp] theorem X_TS_SEQ_width : (info .X_TS_SEQ).width = 64 := rfl
@[simp] theorem X_TS_NEXT_width : (info .X_TS_NEXT).width = 64 := rfl
@[simp] theorem X_TS_DEL_width : (info .X_TS_DEL).width = 64 := rfl
@[simp] theorem X_GOLD_FN_width : (info .X_GOLD_FN).width = 16 := rfl
@[simp] theorem X_RES_EFF_width : (info .X_RES_EFF).width = 13 := rfl
@[simp] theorem X_RDEF_width : (info .X_RDEF).width = 4 := rfl
@[simp] theorem X_TLER_width : (info .X_TLER).width = 16 := rfl
@[simp] theorem X_JOBSEQ_width : (info .X_JOBSEQ).width = 64 := rfl
@[simp] theorem X_PAT_BAND_width : (info .X_PAT_BAND).width = 32 := rfl
@[simp] theorem X_PAT_POS_width : (info .X_PAT_POS).width = 32 := rfl
@[simp] theorem X_PAT_T0_width : (info .X_PAT_T0).width = 64 := rfl
@[simp] theorem X_MISS_LAST_width : (info .X_MISS_LAST).width = 64 := rfl
@[simp] theorem X_FE_PAUSE_width : (info .X_FE_PAUSE).width = 1 := rfl
@[simp] theorem X_RES_PEND_width : (info .X_RES_PEND).width = 2 := rfl
@[simp] theorem X_FEAT_ARB_width : (info .X_FEAT_ARB).width = 32 := rfl
@[simp] theorem X_FEAT_PS_width : (info .X_FEAT_PS).width = 5 := rfl
@[simp] theorem X_FEAT_LASTOP_width : (info .X_FEAT_LASTOP).width = 5 := rfl
@[simp] theorem X_FEAT_TT_width : (info .X_FEAT_TT).width = 16 := rfl
@[simp] theorem X_FEAT_IC_width : (info .X_FEAT_IC).width = 16 := rfl
@[simp] theorem X_FEAT_IVC_width : (info .X_FEAT_IVC).width = 1 := rfl
@[simp] theorem X_FEAT_QATTR_width : (info .X_FEAT_QATTR).width = 28 := rfl
@[simp] theorem X_NSFAM_width : (info .X_NSFAM).width = 2 := rfl
@[simp] theorem X_SAN_ST_width : (info .X_SAN_ST).width = 3 := rfl
@[simp] theorem X_SAN_DW10_width : (info .X_SAN_DW10).width = 32 := rfl
@[simp] theorem X_SAN_SPROG_width : (info .X_SAN_SPROG).width = 16 := rfl
@[simp] theorem X_SAN_GDE_width : (info .X_SAN_GDE).width = 1 := rfl
@[simp] theorem X_SAN_CRYPTO_width : (info .X_SAN_CRYPTO).width = 1 := rfl
@[simp] theorem X_IDLE_width : (info .X_IDLE).width = 1 := rfl
@[simp] theorem X_PM_FROM_width : (info .X_PM_FROM).width = 3 := rfl
@[simp] theorem X_MI_FREQ_width : (info .X_MI_FREQ).width = 2 := rfl
@[simp] theorem X_MI_MTU_width : (info .X_MI_MTU).width = 16 := rfl
@[simp] theorem X_KEYSEQ_width : (info .X_KEYSEQ).width = 64 := rfl
@[simp] theorem X_SAN_FM_width : (info .X_SAN_FM).width = 1 := rfl
@[simp] theorem X_SAN_FN_width : (info .X_SAN_FN).width = 9 := rfl
@[simp] theorem X_HU_FIRST_width : (info .X_HU_FIRST).width = 1 := rfl
@[simp] theorem X_HU_T_TEST_width : (info .X_HU_T_TEST).width = 8 := rfl
@[simp] theorem X_HU_DUE_width : (info .X_HU_DUE).width = 1 := rfl
@[simp] theorem X_HU_QTR_width : (info .X_HU_QTR).width = 1 := rfl
@[simp] theorem X_HU_TESTV_width : (info .X_HU_TESTV).width = 1 := rfl
@[simp] theorem X_HU_PREOK_width : (info .X_HU_PREOK).width = 1 := rfl
@[simp] theorem X_HU_DISCH_width : (info .X_HU_DISCH).width = 1 := rfl
@[simp] theorem X_HU_TRIG_width : (info .X_HU_TRIG).width = 3 := rfl
@[simp] theorem X_FLUSH_width : (info .X_FLUSH).width = 1 := rfl
@[simp] theorem X_FLUSH_SHORT_width : (info .X_FLUSH_SHORT).width = 1 := rfl
@[simp] theorem X_FLUSHED_width : (info .X_FLUSHED).width = 1 := rfl
@[simp] theorem X_SHORT_OWED_width : (info .X_SHORT_OWED).width = 1 := rfl
@[simp] theorem X_PFAIL_width : (info .X_PFAIL).width = 1 := rfl
@[simp] theorem X_MAIN_PG_width : (info .X_MAIN_PG).width = 1 := rfl
@[simp] theorem X_MAIN_EN_width : (info .X_MAIN_EN).width = 1 := rfl
@[simp] theorem X_VAUX_width : (info .X_VAUX).width = 1 := rfl
@[simp] theorem X_VBAT_width : (info .X_VBAT).width = 1 := rfl
@[simp] theorem X_THERM_LOCK_width : (info .X_THERM_LOCK).width = 1 := rfl
@[simp] theorem X_PAT_PERIOD_width : (info .X_PAT_PERIOD).width = 10 := rfl
@[simp] theorem X_PAT_ERR_width : (info .X_PAT_ERR).width = 1 := rfl
@[simp] theorem X_PAT_WAKE_width : (info .X_PAT_WAKE).width = 1 := rfl
@[simp] theorem X_PAT_MASK_width : (info .X_PAT_MASK).width = 48 := rfl
@[simp] theorem X_PAT_HI_width : (info .X_PAT_HI).width = 16 := rfl
@[simp] theorem X_PAT_LO_width : (info .X_PAT_LO).width = 16 := rfl
@[simp] theorem X_KEEP_CAUSE_width : (info .X_KEEP_CAUSE).width = 4 := rfl
@[simp] theorem X_KEEP_MONO_width : (info .X_KEEP_MONO).width = 64 := rfl
@[simp] theorem X_KEEP_FLOOR_width : (info .X_KEEP_FLOOR).width = 64 := rfl
@[simp] theorem X_KEEP_SEQ_width : (info .X_KEEP_SEQ).width = 64 := rfl
@[simp] theorem X_SYS_MONO_width : (info .X_SYS_MONO).width = 64 := rfl
@[simp] theorem X_PM_AP_width : (info .X_PM_AP).width = 2 := rfl
@[simp] theorem X_AVS_HIGH_width : (info .X_AVS_HIGH).width = 3 := rfl
@[simp] theorem X_AVS_OFF_width : (info .X_AVS_OFF).width = 2 := rfl
@[simp] theorem X_AVS_NAK_width : (info .X_AVS_NAK).width = 1 := rfl
@[simp] theorem X_TJ_HOT_width : (info .X_TJ_HOT).width = 1 := rfl
@[simp] theorem X_MBX_MUTE_width : (info .X_MBX_MUTE).width = 1 := rfl
@[simp] theorem X_PM_SEQ_width : (info .X_PM_SEQ).width = 64 := rfl
@[simp] theorem X_PM_STAGE_RES_width : (info .X_PM_STAGE_RES).width = 6 := rfl
@[simp] theorem X_FW_CMD_width : (info .X_FW_CMD).width = 64 := rfl
@[simp] theorem X_FW_WAIT_width : (info .X_FW_WAIT).width = 64 := rfl
@[simp] theorem X_FW_ACT_width : (info .X_FW_ACT).width = 3 := rfl
@[simp] theorem X_FW_TGT_width : (info .X_FW_TGT).width = 3 := rfl
@[simp] theorem X_FW_TICK_width : (info .X_FW_TICK).width = 64 := rfl
@[simp] theorem X_FW_WRITING_width : (info .X_FW_WRITING).width = 1 := rfl
@[simp] theorem X_FW_PHASE_width : (info .X_FW_PHASE).width = 2 := rfl
@[simp] theorem X_FW_AT_width : (info .X_FW_AT).width = 64 := rfl
@[simp] theorem X_FW_RDY_width : (info .X_FW_RDY).width = 6 := rfl
@[simp] theorem X_FW_MAPHALF_width : (info .X_FW_MAPHALF).width = 2 := rfl
@[simp] theorem X_FW_REV_width : (info .X_FW_REV).width = 1 := rfl
@[simp] theorem X_FW_COMP_width : (info .X_FW_COMP).width = 3 := rfl
@[simp] theorem X_FW_CLCOMP_width : (info .X_FW_CLCOMP).width = 3 := rfl
@[simp] theorem X_SYS_RUN_width : (info .X_SYS_RUN).width = 3 := rfl
@[simp] theorem X_SYS_NEXT_width : (info .X_SYS_NEXT).width = 3 := rfl
@[simp] theorem X_BOOT_HALT_width : (info .X_BOOT_HALT).width = 1 := rfl
@[simp] theorem X_KEEP_FAILED_width : (info .X_KEEP_FAILED).width = 1 := rfl
@[simp] theorem X_REQ_OVERDUE_width : (info .X_REQ_OVERDUE).width = 1 := rfl
@[simp] theorem X_SRC_AT_width : (info .X_SRC_AT).width = 13 := rfl
@[simp] theorem X_CUTOFF_EFF_width : (info .X_CUTOFF_EFF).width = 7 := rfl
@[simp] theorem X_TICK_EXT_width : (info .X_TICK_EXT).width = 20 := rfl
@[simp] theorem X_TICK_CUT_width : (info .X_TICK_CUT).width = 9 := rfl
@[simp] theorem X_TICK_ALIGNED_width : (info .X_TICK_ALIGNED).width = 1 := rfl
@[simp] theorem X_AT_BND_width : (info .X_AT_BND).width = 1 := rfl
@[simp] theorem X_DIE_NOSUSP_width : (info .X_DIE_NOSUSP).width = 1 := rfl
@[simp] theorem X_FN_RO_width : (info .X_FN_RO).width = 1 := rfl
@[simp] theorem X_FN_IDO_width : (info .X_FN_IDO).width = 1 := rfl
@[simp] theorem X_FN_ATS_width : (info .X_FN_ATS).width = 1 := rfl
@[simp] theorem X_FN_ASPM_width : (info .X_FN_ASPM).width = 2 := rfl
@[simp] theorem X_FN_L12_width : (info .X_FN_L12).width = 1 := rfl
@[simp] theorem X_FN_MPS_width : (info .X_FN_MPS).width = 3 := rfl
@[simp] theorem X_FN_MRRS_width : (info .X_FN_MRRS).width = 3 := rfl
@[simp] theorem X_FN_CTOD_width : (info .X_FN_CTOD).width = 1 := rfl
@[simp] theorem X_FN_BAR_width : (info .X_FN_BAR).width = 64 := rfl
@[simp] theorem X_AER_width : (info .X_AER).width = 8 := rfl
@[simp] theorem X_MSIX_EN_width : (info .X_MSIX_EN).width = 1 := rfl
@[simp] theorem X_MSIX_FMASK_width : (info .X_MSIX_FMASK).width = 1 := rfl
@[simp] theorem X_MSIX_MASKED_width : (info .X_MSIX_MASKED).width = 1 := rfl
@[simp] theorem X_MSIX_PEND_width : (info .X_MSIX_PEND).width = 1 := rfl
@[simp] theorem X_MI_ADDR_width : (info .X_MI_ADDR).width = 7 := rfl
@[simp] theorem X_SM_RD_width : (info .X_SM_RD).width = 64 := rfl
@[simp] theorem X_SM_WR_width : (info .X_SM_WR).width = 64 := rfl
@[simp] theorem X_SM_RDC_width : (info .X_SM_RDC).width = 64 := rfl
@[simp] theorem X_SM_WRC_width : (info .X_SM_WRC).width = 64 := rfl
@[simp] theorem X_SM_ME_width : (info .X_SM_ME).width = 64 := rfl
@[simp] theorem X_SM_ERR_width : (info .X_SM_ERR).width = 64 := rfl
@[simp] theorem X_SM_PC_width : (info .X_SM_PC).width = 64 := rfl
@[simp] theorem X_SM_US_width : (info .X_SM_US).width = 64 := rfl
@[simp] theorem X_SM_CW_width : (info .X_SM_CW).width = 8 := rfl
@[simp] theorem X_JQ_RR_width : (info .X_JQ_RR).width = 10 := rfl
@[simp] theorem X_BLK_RKEPT_width : (info .X_BLK_RKEPT).width = 32 := rfl
@[simp] theorem X_NONCE_AGE_width : (info .X_NONCE_AGE).width = 40 := rfl
@[simp] theorem X_FLUSH_BAND_width : (info .X_FLUSH_BAND).width = 32 := rfl
@[simp] theorem X_HU_NONE_width : (info .X_HU_NONE).width = 1 := rfl
@[simp] theorem X_HU_RAN_width : (info .X_HU_RAN).width = 1 := rfl

end Sys2Proof.Machine.Field
end

