-- ==== Sys2Proof/Tests/Slice0.lean ====
section
/-! SUPPORT. Tests of the model: the smoke test of WellFormed, worked examples of the spec as single steps, and for every obligation with
hypotheses a witness: concrete states and operands that meet all of them together, clause by clause. -/

set_option maxRecDepth 100000
set_option Elab.async false

namespace Sys2Proof.Tests

open Sys2Proof Sys2Proof.Machine

/-! ### Small states -/

/-- The state after reset with some fields stored: field, instance, value. -/
def wr (l : List (Field × Nat × Nat)) : State := l.foldl (fun s x => s.put x.1 x.2.2 x.2.1) State.reset

/-- In Run, with function 0 in place and further fields stored. -/
def run (l : List (Field × Nat × Nat)) : State :=
  wr ([(.PM_MODE_MODE, 0, 5), (.X_READY, 0, 1), (.HE_LINK_STS_EXISTS, 0, 1), (.X_FN_BME, 0, 1)] ++ l)

/-- A 64-byte packet or submission queue entry with some values at byte offsets. -/
def bytes64 (l : List (Nat × Nat)) : List Byte := natLe 64 (l.foldl (fun n x => n + x.2 * 2 ^ (8 * x.1)) 0)

/-- A Jexash command of function 0, queue 0, tag 1, just taken in under number 1, and an NVMe one of an admin or I/O queue. -/
def pkt (op : Nat) (l : List (Nat × Nat)) : Cmd := { newCmd 1 false 0 0 1 op 0 (bytes64 ((0, op) :: l)) with rights := 15 }
def sqe (q op : Nat) (l : List (Nat × Nat)) : Cmd := { newCmd 1 true 0 q 1 op 0 (bytes64 ((0, op) :: l)) with rights := 15 }

/-- A writable volume of 16 granules of 4 KiB, attached to function 0, and a stack on it. -/
def vol (id : Nat) : Node :=
  { id := id, isStack := false, deleting := false, size := 16, granule := 0, codec := 0, lbaf := 0, ext := false, pi := 0, writable := true, titleKey := false,
    children := [], epoch := 0, attached := [0], formatting := none }
def stk (id child : Nat) : Node := { vol id with isStack := true, children := [child] }

/-- Bytes written into the packet slots of queue 0, which is enabled. -/
def slots0 (l : List (Field × Nat × Nat)) (b : List Byte) : State :=
  { run ((.JQ_QSTS_STATE, 0, 1) :: l) with slots := slotPut 0 0 b [] }

/-- Volume 0 and stack 1 on it exist, and one command. -/
def withCmd (l : List (Field × Nat × Nat)) (c : Cmd) : State := { run l with nodes := [vol 0, stk 1 0], cmds := [c] }

/-- A package of one empty component of type 1, in pieces of 96 bytes. -/
def pkg0 : List (Nat × List Byte) :=
  (0, natLe 96 (0x50445242 + 2 ^ 32 + 2 * 2 ^ 56 + 80 * 2 ^ 64 + 96 * 2 ^ 72 + 2 ^ 96 + 1440 * 2 ^ 320 + 2 ^ 512 + 1440 * 2 ^ 544)) ::
    (List.range 14).map fun k => (96 * (k + 1), natLe 96 0)

/-- An image without components in a slot. -/
def img (slot flags : Nat) : FwSlot := ⟨slot, 0, [], flags, [], []⟩

/-- An open band of one member on each of the first 16 dies. -/
def band0 : Band := ⟨0, kindRw, 2, 0, (List.range 16).map fun d => some (d, 1), true, 0, 0, [], false, 0, 0, 0, false, false, false⟩

/-- Die 0 of channel 0 is idle, in every cell mode. -/
def die0 : List (Field × Nat × Nat) :=
  [(.X_DIE_POP, 0, 1), (.X_OWN_READY, uDie 0, 1), (.X_OWN_READY, uChannel 0, 1), (.UCB_STATUS_RESETTING, uDie 0, 0), (.MS_CH_GEO_WLB, 0, 8),
    (.MS_CH_GEO_PLANES, 0, 4), (.MS_CH_GEO_BLOCKS, 0, 64), (.X_DIE_CELLS, 0, 7), (.MS_CH_SENS_MASK, 0, 1), (.X_CH_DENIED, 0, 0), (.X_BROWNOUT, 0, 0), (.TK_CTL_FASTPATH, 0, 1)]

/-- With bytes of a descriptor slot of cluster 0, by offset. -/
def slotOf (slot : Nat) (l : List (Field × Nat × Nat)) (b : List (Nat × Nat)) : State :=
  (run (die0 ++ l)).descPut (32 * slot) ((bytes64 b).take 20)

/-- With one entry in the plan of die 0. -/
def planned (op : Nat) (s : State) : State := { s with plans := [⟨0, [⟨100, op, 1, false, 26, 1535⟩], [], false, false, [], []⟩] }

/-- Bytes of a Warden request, and a mailbox that is BUSY with one of some length. -/
def bytesN (n : Nat) (l : List (Nat × Nat)) : List Byte := natLe n (l.foldl (fun n x => n + x.2 * 2 ^ (8 * x.1)) 0)
def mbx (len : Nat) (l : List (Field × Nat × Nat)) : State :=
  run ([(.SEC_MBX_STS_STATE, 0, 1), (.UCB_STATUS_RESETTING, uWarden, 0), (.SEC_MBX_CMD_LEN, 0, len)] ++ l)

/-- A media call of a kind on die 0. -/
def callOn (k : Nat) : Call := ⟨0, 1535, k, true, false, 0, 0, 0, 5, 0, 3, 1, 0, 16, none, 8⟩

/-- The first die of the first two channels of every cluster, and a state in which each can take a member: its block 0 is erased for
data. The fields are listed in the order of the stored form. -/
def die16 (m : Nat) : Nat := 192 * (m / 2) + 16 * (m % 2)
def on16 (f : Field) (ix : Nat → Nat) (v : Nat) : List (RKey × Nat) := (List.range 16).map fun m => (⟨f, ix m, 0⟩, v)
def regs16 : List (RKey × Nat) :=
  on16 .UCB_STATUS_RESETTING (fun m => uDie (die16 m)) 0 ++ on16 .MS_CH_GEO_BLOCKS (fun m => dieChannel (die16 m)) 1
    ++ on16 .X_DIE_POP die16 1 ++ on16 .X_DIE_CELLS die16 7 ++ on16 .X_OWN_READY (fun m => uChannel (dieChannel (die16 m))) 1
    ++ on16 .X_OWN_READY (fun m => uDie (die16 m)) 1 ++ on16 .X_BLK_MODE (fun m => blkIx (die16 m) 0) 2
    ++ on16 .X_BLK_MM (fun m => blkIx (die16 m) 0) mmErased
def dies16 : State := { State.reset with regs := regs16 }

/-- A closed band with one granule, unit 5 of volume 0, at place 512, which a map page names. -/
def moved (l : List (Field × Nat × Nat)) (b : List Band) : State :=
  { run ([(.MS_CH_GEO_WLB, 0, 8), (.MS_CH_GEO_PLANES, 0, 4)] ++ l) with
    nodes := [vol 0], bands := { band0 with isOpen := false, victim := true } :: b, pages := [⟨0, 0, [(5, mkEntry false false 1 0 512)], true, 0, none⟩],
    flash := [(512, some ⟨⟨1, 1, true, 0, 1, 0, 5, 0, 0⟩, [1, 2, 3]⟩)] }

/-- A read that waits for place 512. -/
def waiting : Cmd := { pkt 1 [] with st := .planned, parts := [⟨0, 0, 5, .raw 512, false, [], 0⟩] }

/-- A Mumel block of one byte, 0x41, with a check value. -/
def mumel1 (crc : Nat) : List Byte := bytesN 177 [(0, 0x4D4D), (2, 1), (4, 1), (8, 161), (12, crc), (48, 16), (144, 16)]

/-- Decoder 0 runs a block job of command 1, on a block at place 512. -/
def decoding (crc : Nat) : State :=
  { withCmd [] { pkt 2 [(6, 1)] with st := .planned } with
    engJobs := [⟨1, 0, 1, 1, 1, .block [512], some 0, false, true, [], false⟩], flash := [(512, some ⟨⟨1, 2, true, 0, 1, 0, 0, 0, 0⟩, mumel1 crc⟩)] }

def nextOf (o : Host.Outcome State Fault Refusal) : State := match o with
  | .next t => t
  | _ => State.reset

def list16 : List (Option Nat) := (List.range 16).map fun m => some (die16 m)
def members16 : List (Option (Nat × Nat)) := (List.range 16).map fun m => some (die16 m, 0)

/-- A start-up that finds no channel and the recovery pin at a level; no copy of an image fails. -/
def boots (pin ok : Bool) : BootFinds := ⟨[], [], pin, ok, 1024, 1, 2, [], 0⟩

/-- An open band with one member, on die 0. -/
def lone (kind : Nat) : Band := { band0 with id := 1, kind := kind, members := some (0, 2) :: List.replicate 15 none }

/-- The band of `moved`, its one unit, and `moved` with a second, open band. -/
def bandV : Band := { band0 with isOpen := false, victim := true }
def unit5 : FUnit := ⟨⟨1, 1, true, 0, 1, 0, 5, 0, 0⟩, [1, 2, 3]⟩
def moved2 : State := moved die0 [lone kindRw]

/-- Die 0 programs or erases block 5. -/
def opState (op : Nat) : State := run (die0 ++ [(.X_DIE_OP, 0, op), (.X_DIE_OPBLK, 0, 5)])

/-- A Mumel block of `orig` equal bytes, 0x41: a literal and a match of the rest, whose length code has 12 extra bits. -/
def mumelRun (orig crc : Nat) : List Byte :=
  bytesN 178 [(0, 0x4D4D), (2, 1), (4, orig), (8, 162), (12, crc), (48, 16), (144, 16), (157, 16), (160, 1), (176, 4 + 8 * (orig - 4115))]

/-- A small dictionary numbered 1: two literals, one code in each table, offsets of 1. -/
def dict1 : List Byte :=
  bytesN 32 [(0, 0xEC30A437), (4, 1), (8, 0x1080), (10, 0x03F0), (12, 0x03F0), (14, 0x03F0), (16, 1), (20, 1), (24, 1)]

/-- The granule of `moved` under background recovery, its map entry RECOVERING, with further fields and bands. -/
def recovering (l : List (Field × Nat × Nat)) (b : List Band) (r : Recov) : State :=
  { moved (l ++ [(.MC_RI_CFG_RECOV_PASSES, 0, 3)]) b with
    pages := [⟨0, 0, [(5, mkEntry false true 1 0 512)], true, 0, none⟩], recovs := [r] }

/-! ### Deciding what no instance decides -/

theorem next_of {o : Host.Outcome State Fault Refusal} {t : State}
    (h : (match o with | .next x => decide (x = t) | _ => false) = true) : o = .next t := by
  cases o <;> simp_all

theorem ok_of {o : Except (Nat × Nat) FwSlot} {x : FwSlot}
    (h : (match o with | .ok y => decide (y = x) | .error _ => false) = true) : o = .ok x := by
  cases o <;> simp_all

theorem error_of {o : Except (Nat × Nat) FwSlot} {e : Nat × Nat}
    (h : (match o with | .error y => decide (y = e) | .ok _ => false) = true) : o = .error e := by
  cases o <;> simp_all

theorem some_of {o : Option Node} {p : Node → Prop} [DecidablePred p] (h : (o.all fun x => decide (p x)) = true) :
    ∀ x, o = some x → p x := by
  rintro x rfl; simpa using h

theorem free_pair (s : State) : (s.takeFree.1, s.takeFree.2) = s.takeFree := rfl

theorem members_of {l : List (Option (Nat × Nat))} {p : Nat × Nat → Prop} [DecidablePred p]
    (h : (l.all fun o => o.all fun m => decide (p m)) = true) : ∀ m, some m ∈ l → p m := by
  intro m hm; simpa using List.all_eq_true.mp h _ hm

theorem samples_of {c : List Nat} {q : Nat → Prop} {l : List (Option Int)} {p : Nat → Int → Prop} [∀ n v, Decidable (p n v)]
    (h : (c.all fun n => (l.getD n none).all fun v => decide (p n v)) = true) :
    ∀ n ∈ c, q n → ∀ v, l.getD n none = some v → p n v := by
  intro n hn _ v hv
  have := List.all_eq_true.mp h n hn
  rw [hv] at this; simpa using this

/-! ### WellFormed: an ill-formed term for each check, which the check refuses -/

theorem test_wf_agent : Agent.wf (.core 64) = false ∧ (Instr.eccLogClear (.core 64)).wf = false ∧ (Instr.eccLogClear (.core 63)).wf = true := by decide

theorem test_wf_scope : Scope.wf (.fn 264) = false ∧ Scope.wf (.controller 264) = false ∧ Scope.wf (.sq 264 0) = false ∧ Scope.wf (.sq 0 65536) = false
    ∧ Scope.wf (.queue 1024) = false ∧ (Instr.disableComplete (.queue 1024)).wf = false ∧ (Instr.disableTimeout (.fn 264)).wf = false
    ∧ (Instr.disableComplete (.sq 263 65535)).wf = true := by decide

theorem test_wf_accesses : (Instr.registerWrite .pf0 (2 ^ 25) 4 0).wf = false ∧ (Instr.registerWrite .pf0 0 3 0).wf = false
    ∧ (Instr.registerWrite .pf0 0 4 (2 ^ 32)).wf = false ∧ (Instr.registerWrite .pf0 0 8 (2 ^ 32)).wf = true ∧ (Instr.lowerHalfRead .pf0 (2 ^ 25)).wf = false
    ∧ (Instr.upperHalfRead .pf0 (2 ^ 25)).wf = false ∧ (Instr.wakeOnAccess .pf0 (2 ^ 25) 4 none 0).wf = false ∧ (Instr.undefinedRegisterRead .pf0 0 0).wf = false := by decide

theorem test_wf_units : (Instr.ucbFaultClear .pf0 2560 0).wf = false ∧ (Instr.ucbFaultClear .pf0 2559 (2 ^ 64)).wf = false
    ∧ (Instr.unitResetRequest .pf0 2560 false false).wf = false ∧ (Instr.unitPowerRequest .pf0 256 8 false).wf = false ∧ (Instr.resetStart 2560).wf = false
    ∧ (Instr.resetComplete 2560 []).wf = false ∧ (Instr.resetComplete 256 [(96, ⟨[], []⟩)]).wf = false ∧ (Instr.resetComplete 256 [(0, ⟨List.replicate 17 none, []⟩)]).wf = false
    ∧ (Instr.requestTimeout 2560).wf = false ∧ (Instr.powerChangeStart 2560).wf = false ∧ (Instr.powerChangeComplete 2560 []).wf = false
    ∧ (Instr.domainWake 2560).wf = false ∧ (Instr.domainRegate 2560).wf = false ∧ (Instr.resetStart (uDie 1535)).wf = true := by decide

theorem test_wf_ticks : (Instr.tickOverrun 1536).wf = false ∧ (Instr.planSeal 1536 []).wf = false ∧ (Instr.planSeal 0 [⟨1024, 0, 0, false, 0, 0⟩]).wf = false
    ∧ (Instr.planSeal 0 [⟨0, 16, 0, false, 0, 0⟩]).wf = false ∧ (Instr.planSeal 0 [⟨0, 0, 4, false, 0, 0⟩]).wf = false ∧ (Instr.planSeal 0 [⟨0, 0, 0, false, 1024, 0⟩]).wf = false
    ∧ (Instr.planSeal 0 [⟨0, 0, 0, false, 0, 2 ^ 96⟩]).wf = false ∧ (Instr.tickInFrame 0 (List.replicate 129 false)).wf = false ∧ (Instr.ptmExchange 2 0 true 0).wf = false
    ∧ (Instr.ptmExchange 0 4 true 0).wf = false ∧ (Instr.ptmExchange 0 0 true (2 ^ 64)).wf = false ∧ (Instr.tkSrcWrite .pf0 (2 ^ 64)).wf = false
    ∧ (Instr.tkNextGo .pf0 (2 ^ 32)).wf = false ∧ (Instr.tkCancel .pf0 (2 ^ 64)).wf = false ∧ (Instr.plannedEntryStart 1536).wf = false := by decide

theorem test_wf_links : (Instr.linkUp 2 0 1 4 true).wf = false ∧ (Instr.linkUp 0 4 1 4 true).wf = false ∧ (Instr.linkUp 0 0 8 4 true).wf = false
    ∧ (Instr.linkUp 0 0 1 3 true).wf = false ∧ (Instr.l0pNarrow 0 0 0).wf = false ∧ (Instr.perstAssert 2).wf = false ∧ (Instr.flr 264).wf = false
    ∧ (Instr.vfallocWrite .pf0 8 0 0).wf = false ∧ (Instr.vfallocWrite .pf0 0 256 0).wf = false ∧ (Instr.vfallocWrite .pf0 0 0 512).wf = false
    ∧ (Instr.heCfgWrite .pf0 0 8 0).wf = false ∧ (Instr.heCfgWrite .pf0 0 0 4).wf = false ∧ (Instr.invalidateRequest 0 0 0 256).wf = false
    ∧ (Instr.translationCompletion 0 (2 ^ 64) 0 .unsupported).wf = false ∧ (Instr.dmaReadCompletion 0 .ok (2 ^ 32) []).wf = false
    ∧ (Instr.undefinedBarRequest 0 6 0 true).wf = false ∧ (Instr.undefinedBarRequest 0 0 (2 ^ 26) true).wf = false ∧ (Instr.vfEnableSet 0 65536).wf = false := by decide

theorem test_wf_nvme : (Instr.sqTailDoorbell 0 65536 0).wf = false ∧ (Instr.cqHeadDoorbell 0 0 65536).wf = false ∧ (Instr.commandFetch 0 0 (List.replicate 63 0)).wf = false
    ∧ (Instr.ccEnSet 0 (2 ^ 32) 0 0 0).wf = false ∧ (Instr.ccEnSet 0 0 (2 ^ 32) 0 0).wf = false ∧ (Instr.ccEnSet 0 0 0 (2 ^ 64) 0).wf = false
    ∧ (Instr.ccEnSet 0 0 0 0 (2 ^ 64)).wf = false ∧ (Instr.formatComplete 4096).wf = false ∧ (Instr.nvmeDatasetManagement 0 [⟨2 ^ 64, 0⟩]).wf = false
    ∧ (Instr.nvmeDatasetManagement 0 [⟨0, 2 ^ 32⟩]).wf = false ∧ (Instr.nvmeDatasetManagement 0 (List.replicate 257 ⟨0, 0⟩)).wf = false
    ∧ (Instr.miConfigurationGet 256).wf = false ∧ (Instr.miConfigurationSet 0 (2 ^ 64)).wf = false ∧ (Instr.miTunneledAdmin []).wf = false := by decide

theorem test_wf_queues : (Instr.pushWindowWrite 264 0 [] false).wf = false ∧ (Instr.pushWindowWrite 0 (2 ^ 26) [] false).wf = false ∧ (Instr.packetIntake 1024).wf = false
    ∧ (Instr.grantIssue 0 (2 ^ 26)).wf = false ∧ (Instr.grantExpiry 0 256).wf = false ∧ (Instr.replyHeadWrite 1024 0).wf = false ∧ (Instr.eventHeadWrite 0 (2 ^ 64)).wf = false
    ∧ (Instr.jqFgoldWrite .pf0 0 65536).wf = false := by decide

theorem test_wf_map_and_media : (Instr.mapMissFill 4096 0).wf = false ∧ (Instr.mapMissFill 0 (2 ^ 48)).wf = false ∧ (Instr.mapWriteBack 0 (2 ^ 48)).wf = false
    ∧ (Instr.readCall .pf0 8 0 false).wf = false ∧ (Instr.readCall .pf0 0 1536 false).wf = false ∧ (Instr.msCplRead .pf0 0 6).wf = false
    ∧ (Instr.readCallComplete 0 (List.replicate 5 .blank) 0).wf = false ∧ (Instr.sealedGateViolation 0 96).wf = false ∧ (Instr.mediaBrownoutAssert 8).wf = false
    ∧ (Instr.bandOpen 0 0 (List.replicate 16 none) []).wf = false ∧ (Instr.bandOpen 5 0 (List.replicate 16 none) []).wf = false
    ∧ (Instr.bandOpen 1 8 (List.replicate 16 none) []).wf = false ∧ (Instr.bandOpen 1 0 [] []).wf = false ∧ (Instr.gcCopy (2 ^ 48)).wf = false
    ∧ (Instr.blockErase 0 65536 0).wf = false ∧ (Instr.blockErase 0 0 3).wf = false := by decide

theorem test_wf_integrity_and_engines : (Instr.deepDecodeStart 8).wf = false ∧ (Instr.backgroundRecoveryPass 0 0 4 none).wf = false
    ∧ (Instr.correctedMemoryError 6 0 0 0).wf = false ∧ (Instr.correctedMemoryError 0 0 1024 0).wf = false ∧ (Instr.correctedMemoryError 0 0 0 (2 ^ 32)).wf = false
    ∧ (Instr.uncorrectableMemoryError 0 (2 ^ 64) .journal).wf = false ∧ (Instr.decompressionJobStart 32 0).wf = false ∧ (Instr.compressionJobStart 31 0).wf = false
    ∧ (Instr.compressionJobDone 40 []).wf = false ∧ (Instr.compressionJobDone 39 []).wf = true := by decide

theorem test_wf_security_and_modes : (Instr.protectionBatchSubmit .pf0 false 65536).wf = false ∧ (Instr.keyDestruction 0 (2 ^ 20)).wf = false
    ∧ (Instr.lockstepMismatch 5).wf = false ∧ (Instr.coreHang 64).wf = false ∧ (Instr.setFloor .pf0 256 false).wf = false
    ∧ (Instr.patrolRound (List.replicate 49 none)).wf = false ∧ (Instr.supplyBrownout 8).wf = false ∧ (Instr.huECeilWrite .pf0 65536).wf = false
    ∧ (Instr.housekeepingRound (List.replicate 49 none) true).wf = false ∧ (Instr.thermalShutDown 48).wf = false ∧ (Instr.calAlarm 2).wf = false
    ∧ (Instr.calAlarmArm .pf0 2).wf = false := by decide

theorem test_wf_request_length : ∀ l : List Byte, 65536 < l.length → (Instr.getInfo l).wf = false := by
  intro l h; simp [Instr.wf]; omega

theorem test_wf_faults_and_startup : (Instr.faultWindowClose 320).wf = false ∧ (Instr.fcStickyClear .pf0 (2 ^ 48) 0).wf = false ∧ (Instr.fcUnackClear .pf0 0 (2 ^ 64)).wf = false
    ∧ (Instr.histogramConfigWrite .pf0 3 0).wf = false ∧ (Instr.clusterCoreReady 64 true).wf = false ∧ (Instr.mainPgQualified (List.replicate 49 none) 0).wf = false
    ∧ (Instr.startup ⟨[(96, ⟨[], []⟩)], [], false, false, 0, 0, 0, [], 0⟩).wf = false ∧ (Instr.startup ⟨[], [], false, false, 0, 0, 0, [], 5⟩).wf = false
    ∧ (Instr.startup ⟨[], [], false, false, 0, 0, 0, [⟨5, 0, [], 0, [], []⟩], 0⟩).wf = false ∧ (Instr.startup ⟨[], [], false, false, 0, 0, 0, [⟨0, 0, [], 0, [], []⟩], 0⟩).wf = false := by
  decide

/-! ### Worked examples of the spec -/

/-- Example "finding D5 of CH37 and resetting it" (01): the windows of the die, its channel and its cluster, and the serving core. -/
theorem test_windows_of_D5_of_CH37 : uDie (16 * 37 + 5) * 0x1000 = 0x00655000 ∧ unitParent 0x655 = some 0x145 ∧ unitParent 0x145 = some 0x10B
    ∧ unitInstance 0x655 = 5 ∧ servingCore 37 = 26 := by decide +kernel

/-- The same example, step 1: the write of UCB_RESET_REQ makes the request PENDING, KIND reset; GO is kept. -/
theorem test_reset_of_D5_is_pending :
    let t := nextOf (exec (.unitResetRequest .pf0 0x655 false false)
      (run [(.SEC_STS_OWNER, 0, 1), (.X_DIE_POP, 597, 1), (.X_OWN_READY, 0x655, 1), (.UCB_STATUS_RESETTING, 0x655, 0)]))
    t.get .UCB_REQ_STS_STATE 0x655 = 1 ∧ t.get .UCB_REQ_STS_KIND 0x655 = 1 ∧ t.flag .UCB_RESET_REQ_GO 0x655 = true := by decide +kernel

/-- Example "a period change on three devices" (02), step 3: armed on A, REFUSED_BUSY on C. -/
theorem test_period_change_is_armed_or_busy :
    (nextOf (exec (.tkNextGo .pf0 250) (run [(.SEC_STS_OWNER, 0, 1), (.TK_COUNT, 0, 7340112), (.TK_NEXT_TICK, 0, 7340192)]))).get .TK_STS_NEXT_STATE = 1
    ∧ (nextOf (exec (.tkNextGo .pf0 250) (run [(.SEC_STS_OWNER, 0, 1), (.TK_COUNT, 0, 7340112), (.TK_NEXT_TICK, 0, 7341000), (.TK_NEXT_GO, 0, 1)]))).get
      .TK_STS_NEXT_STATE = 5 := by decide +kernel

/-- The same example, step 4: the cancel takes one action and reads DONE, and NEXT_STATE reads CANCELLED. -/
theorem test_period_change_is_cancelled :
    let s := nextOf (exec (.tkNextGo .pf0 250) (run [(.SEC_STS_OWNER, 0, 1), (.TK_COUNT, 0, 7340112), (.TK_NEXT_TICK, 0, 7340192)]))
    let t := nextOf (exec (.tkCancel .pf0 7340192) s)
    t.get .TK_CANCEL_STS_RESULT = 1 ∧ t.get .TK_CANCEL_STS_CANCELLED = 1 ∧ t.flag .TK_NEXT_GO = false ∧ t.armed = [] := by decide +kernel

/-- The VFALLOC example (03): 0x0080_0040 and 0x0040_00C0 are accepted, and a range of PF6, whose link does not exist, is refused. -/
theorem test_vfalloc_example :
    let s := run [(.SEC_STS_OWNER, 0, 1), (.HE_LINK_STS_EXISTS, 4, 1), (.HE_LINK_STS_EXISTS, 5, 1), (.HE_VFALLOC_COUNT, 0, 0), (.HE_VFALLOC_COUNT, 1, 0),
      (.HE_VFALLOC_COUNT, 4, 0), (.HE_VFALLOC_COUNT, 5, 0), (.HE_VFALLOC_COUNT, 6, 0)]
    let a := nextOf (exec (.vfallocWrite .pf0 4 64 128) s)
    let b := nextOf (exec (.vfallocWrite .pf0 5 192 64) a)
    let c := nextOf (exec (.vfallocWrite .pf0 6 240 16) b)
    a.get .HE_VFALLOC_COUNT 4 = 128 ∧ a.get .HE_VFALLOC_FIRST 4 = 64 ∧ b.get .HE_VFALLOC_FIRST 5 = 192 ∧ b.flag .HE_EVT_ALLOC_ERR 1 = false
      ∧ c.get .HE_VFALLOC_COUNT 6 = 0 ∧ c.flag .HE_EVT_ALLOC_ERR 1 = true := by decide +kernel

/-- Example "installing a patch under running sessions" (06): the resolution order of the session stack, W, A, P1, B. -/
theorem test_resolution_order :
    let v (i : Nat) : Node := { vol i with writable := decide (i = 301) }
    let s : State := { State.reset with nodes := [v 100, v 201, v 202, v 301, { v 200 with isStack := true, children := [202, 201, 100] },
      { v 300 with isStack := true, children := [301, 200] }] }
    s.order 300 = [301, 202, 201, 100] ∧ s.depth 10 300 = 2 ∧ s.writeTarget 300 = some 301 ∧ s.writeTarget 200 = none := by decide +kernel

/-- Example "set index of one offset in two layers" (07). -/
theorem test_set_index : lineSet 100 0x800 = 0x0B20 ∧ lineSet 203 0x800 = 0x0E58 ∧ lineSet 100 0x8800 = 0x0B21 := by decide +kernel

/-- Example "locating one unit" (08): unit 0x00FA_046D of a die with a WLB of 256. -/
theorem test_unit_location :
    let s := wr [(.MS_CH_GEO_WLB, 20, 256), (.MS_CH_GEO_PLANES, 20, 4)]
    let p := (16 * 20 + 7) * 2 ^ 36 + 0x00FA046D
    placeDie p = 327 ∧ s.placeBlock p = 1000 ∧ s.placePage p = 283 ∧ placeUnit p = 4 * (16 * 256 * 1000 + 283) + 1 := by decide +kernel

/-- Example "the throttle under two factors" (09): the journal's factor and the quota it leaves. -/
theorem test_throttle_and_quota :
    let s := wr [(.MC_JNL_STS_THROTTLING, 0, 1), (.MC_JNL_STS_USED, 0, 240), (.MC_JNL_CFG_LIMIT, 0, 256), (.MC_JNL_CFG_THROTTLE, 0, 80),
      (.MC_GC_QMAX_QMAX, 0, 195312), (.TK_PERIOD_PERIOD, 0, 125)]
    s.jnlFactor = 80 ∧ s.quota = 7629 := by decide +kernel

/-- Example "a packed save and two reads of it" (11): a payload of 13,500 bytes saves six of ten units; 8 KiB that pack to two units save none. -/
theorem test_packing_saves :
    saves (bytesN 16 [(8, 13500)]) 40960 = true ∧ mumelSize (bytesN 16 [(8, 13500)]) = 13516 ∧ saves (bytesN 16 [(8, 8000)]) 8192 = false := by decide +kernel

/-- The published check value of CRC-32C, the code the spec names for its check values. -/
theorem test_crc32c : crc32c ([0x31, 0x32, 0x33, 0x34, 0x35, 0x36, 0x37, 0x38, 0x39].map fun x => (BitVec.ofNat 8 x)) = 0xE3069283 := by decide +kernel

/-- Example "a thermal excursion" (13): at S = 224, 160 and 192 the effective budgets of PE_MAX 768, SILVER_W 6 and COPPER_W 4. -/
theorem test_thermal_excursion :
    let t (sc : Nat) := nextOf (exec .scaleChange (run [(.PM_THR_STS_S_T, 0, sc), (.PM_THR_STS_S, 0, 256), (.TK_BUDGET1_PE_MAX, 0, 768),
      (.TK_BUDGET0_SILVER_W, 0, 6), (.TK_BUDGET0_COPPER_W, 0, 4)]))
    (t 224).get .PM_MODE_MODE = mThrottle ∧ (t 224).get .PM_THR_STS_S = 224
      ∧ (t 224).get .TK_BUDGET_EFF1 / 65536 % 1024 = 672 ∧ (t 160).get .TK_BUDGET_EFF1 / 65536 % 1024 = 480 ∧ (t 192).get .TK_BUDGET_EFF1 / 65536 % 1024 = 576 := by
  decide +kernel

/-- Example "sizing a bank and losing power" (14): V_TARGET 35.2 V, E_AVAIL 5,984 mJ and D_E 796,930,048 bytes. -/
theorem test_bank_sizing :
    let s := wr [(.HU_CTL_PRESENT, 0, 1), (.HU_E_CEIL_CEIL, 0, 8000), (.HU_CHG_CFG_V_MAX, 0, 380), (.HU_REL_CFG_V_MIN, 0, 100),
      (.HU_REL_CFG_I_BANK_MAX, 0, 400), (.HU_REL_CFG_ETA, 0, 88), (.HU_ALLOW_CFG_E_FIXED, 0, 2000), (.HU_ALLOW_CFG_E_BYTE, 0, 5000),
      (.HU_MEAS0_V_BANK, 0, 3520), (.HU_MEAS2_V_TARGET, 0, 352), (.HU_MEAS1_ESR, 0, 40), (.HU_MEAS1_C_MEAS, 0, 12500), (.HU_STS_STATE, 0, 4), (.X_HU_FIRST, 0, 1)]
    s.targetFor 12500 = 352 ∧ s.vFloor 40 = 10160000 ∧ s.energy 0 / 1000000000 = 5984 ∧ s.energyAllow 0 = 796930048 := by decide +kernel

/-- Example "one instant in every view" (15): 2031-06-15 14:30:05.5 as BCD, as the NVMe Timestamp and as the tick count on calendar lock. -/
def instant : State :=
  run [(.CAL_STS_VALID, 0, 1), (.CAL_TIME, 0, 0x3B2A1BED8000), (.TK_SRC_SOURCE, 0, 3), (.TK_STS_LOCK, 0, lockAcquiring), (.TK_SRC_ADOPT, 0, 1)]

theorem test_one_instant_in_every_view :
    instant.bcd0 = 0x00143005 ∧ instant.bcd1 = 0x20310615 ∧ instant.timestampData.take 6 = natLe 6 1939300205500 := by decide +kernel

theorem test_calendar_read_latches_the_date :
    let t := nextOf (exec (.calBcd0Read .pf0) instant)
    t.get .CAL_BCD1_YEAR = 0x2031 ∧ t.get .CAL_BCD1_MONTH = 0x06 ∧ t.get .CAL_BCD1_DAY = 0x15 := by decide +kernel

theorem test_calendar_lock_loads_the_count : (nextOf (exec .tickLockAcquired instant)).get .TK_COUNT = 7940923244000 := by decide +kernel

/-- Example "a die timeout, then a training failure" (16), step 2: the fourth timeout in the window makes source 225 SEVERE. -/
theorem test_fourth_timeout_is_severe :
    let t := (run [(.FC_SRC_WCNT_WCNT, 225, 3), (.FC_SRC_WSTART, 225, 5000000), (.TK_COUNT, 0, 5200000)]).raise 225 (uDie 643) 3
    t.get .FC_SRC_WCNT_WCNT 225 = 4 ∧ t.flag .FC_SRC_STATE_SEVERE 225 = true ∧ uDie 643 = 0x683 := by decide +kernel

/-- Example "where one Gold read lands" (16): the bins of 148 in LOG2 mode and of 70 in steps of 4. -/
theorem test_histogram_bins : histBin true 0 4 148 = 6 ∧ histBin false 0 4 70 = 17 := by decide +kernel

/-- Example "naming the balls of one channel" and the balls that R650 names (20). -/
theorem test_ball_names : ballName 14 23 = "P23" ∧ ballSignal 14 23 = "CH37_DQ3" ∧ ballSignal 18 23 = "CH37_CE_N" ∧ ballName 54 54 = "BU54"
    ∧ ballSignal 54 54 = "CH60_RE_DN" ∧ ballSignal 22 65 = "PERST1_N" := by decide +kernel

/-! ### Packed blocks of equal bytes -/

/-- A match one byte back repeats that byte. -/
theorem copyBack_run (x : Byte) (orig : Nat) : ∀ n m, 0 < m → n + m ≤ orig →
    copyBack 1 orig n (List.replicate m x) = some (List.replicate (n + m) x)
  | 0, m, _, _ => by simp [copyBack]
  | n + 1, m, h, k => by
    have e : (List.replicate m x).getD 0 0 = x := by cases m <;> simp_all [List.replicate]
    rw [copyBack, if_neg (by simp; omega), e, ← List.replicate_succ, copyBack_run x orig n (m + 1) (by omega) (by omega)]
    congr 2; omega

theorem mumelLoop_run {lit len off : List Nat} {orig fuel m : Nat} {x : Byte} {l l1 l2 l3 l4 : List Bool} (h : 5 + m = orig)
    (h1 : readLen len l = some (1, l1)) (h2 : readLits lit orig 1 [] l1 = some ([x], l2)) (h3 : readLen len l2 = some (m, l3))
    (h4 : readOff off l3 = some (1, l4)) : mumelLoop lit len off orig (fuel + 1) [] l = some (List.replicate orig x, l4) := by
  have c := copyBack_run x orig (4 + m) 1 (by omega) (by omega)
  rw [mumelLoop, h1]; simp only [h2, h3, h4]
  rw [if_neg (by simp; omega), if_neg (by simp), show [x] = List.replicate 1 x from rfl, c]
  simp only [List.length_replicate]
  rw [if_pos (by omega)]; simp; omega

theorem mumelDecode_of {b out : List Byte} {rest : List Bool}
    (h : fieldAt b 0 2 = 0x4D4D ∧ fieldAt b 2 1 = 1 ∧ fieldAt b 3 1 = 0 ∧ 1 ≤ fieldAt b 4 4 ∧ fieldAt b 4 4 ≤ 65536 ∧ 161 ≤ fieldAt b 8 4 ∧ fieldAt b 8 4 ≤ 65520
      ∧ 16 + fieldAt b 8 4 ≤ b.length ∧ tableOk (codeLens ((b.drop 16).take 128)) ∧ tableOk (codeLens ((b.drop 144).take 16))
      ∧ tableOk (codeLens ((b.drop 160).take 16)) ∧ (codeLens ((b.drop 144).take 16)).getD 31 0 = 0)
    (hl : mumelLoop (codeLens ((b.drop 16).take 128)) (codeLens ((b.drop 144).take 16)) (codeLens ((b.drop 160).take 16)) (fieldAt b 4 4) (fieldAt b 4 4 + 1) []
      (byteBits ((b.drop 176).take (fieldAt b 8 4 - 160))) = some (out, rest))
    (hr : rest.length < 8 ∧ rest.all (fun x => !x)) : mumelDecode b = some out.reverse := by
  unfold mumelDecode; simp only
  rw [if_pos h, hl]; simp only; rw [if_pos hr]

theorem selfCheck_of {b d : List Byte} (h : mumelDecode b = some d) (hc : crc32c d = fieldAt b 12 4) : selfCheck b d = true := by
  simp [selfCheck, mumelChecked, h, hc]

theorem mapM_const {α β : Type} {f : α → Option β} {x : β} : ∀ {l : List α}, (∀ i ∈ l, f i = some x) → l.mapM f = some (List.replicate l.length x)
  | [], _ => rfl
  | a :: l, h => by
    have t := mapM_const (f := f) (x := x) (l := l) fun i hi => h i (List.mem_cons_of_mem _ hi)
    simp [List.mapM_cons, h a List.mem_cons_self, t, List.replicate_succ]

/-- A command whose data are `n` equal bytes, all of which have come. -/
def filled (op n : Nat) : Cmd := { pkt op [(20, 4096)] with st := .admitted, target := 1, bytes := n, got := [(0, List.replicate n 0x41)] }

theorem cmdData_filled (s : State) (op n k m : Nat) (h : k + m ≤ n) : s.cmdData (filled op n) k m = some (List.replicate m 0x41) := by
  have e := mapM_const (f := fun i => s.cmdByte (filled op n) ((filled op n).dataPos (k + i))) (x := (0x41 : Byte)) (l := List.range m) (by
    intro i hi
    have hi := List.mem_range.mp hi
    have d : (filled op n).dataPos (k + i) = k + i := rfl
    have g : (filled op n).got = [(0, List.replicate n 0x41)] := rfl
    have b : byteAt (filled op n).got (k + i) = some 0x41 := by
      have : k + i < n := by omega
      simp [byteAt, g, this]
    simp only [State.cmdByte, d, b])
  rw [State.cmdData, e, List.length_range]

theorem newGranule_filled (s : State) (op n g : Nat) (h : (g + 1) * 4096 ≤ n) (hb : s.granBytes (filled op n) = 4096) :
    s.newGranule (filled op n) g = some (List.replicate 4096 0x41) := by
  have st : (filled op n).start = 0 := rfl
  have by_ : (filled op n).bytes = n := rfl
  have r : s.overlap (filled op n) g = (g * 4096, (g + 1) * 4096) := by simp only [State.overlap, hb, st, by_]; congr 1 <;> omega
  have w : (g + 1) * 4096 - g * 4096 = 4096 := by omega
  simp only [State.newGranule, r, hb, st, w]
  rw [cmdData_filled _ _ _ _ _ (by omega)]; simp

theorem blockInput_filled (s : State) (op : Nat) (hb : ({ s with grants := [] } : State).granBytes (filled op 8192) = 4096) :
    s.blockInput (filled op 8192) 0 2 = some (List.replicate 8192 0x41) := by
  have e := mapM_const (f := fun i => ({ s with grants := [] } : State).newGranule (filled op 8192) (0 + i)) (x := List.replicate 4096 (0x41 : Byte))
    (l := List.range 2) (by intro i hi; exact newGranule_filled _ _ _ _ (by have := List.mem_range.mp hi; omega) hb)
  simp only [State.blockInput]; rw [e]; simp

/-- The bit stream of a Mumel block. -/
def streamOf (b : List Byte) : List Bool := byteBits ((b.drop 176).take (fieldAt b 8 4 - 160))

theorem selfCheck_run (n : Nat) (b : List Byte) (hn : fieldAt b 4 4 = n) (h5 : 5 ≤ n)
    (h : fieldAt b 0 2 = 0x4D4D ∧ fieldAt b 2 1 = 1 ∧ fieldAt b 3 1 = 0 ∧ 1 ≤ fieldAt b 4 4 ∧ fieldAt b 4 4 ≤ 65536 ∧ 161 ≤ fieldAt b 8 4
      ∧ fieldAt b 8 4 ≤ 65520 ∧ 16 + fieldAt b 8 4 ≤ b.length ∧ tableOk (codeLens ((b.drop 16).take 128)) ∧ tableOk (codeLens ((b.drop 144).take 16))
      ∧ tableOk (codeLens ((b.drop 160).take 16)) ∧ (codeLens ((b.drop 144).take 16)).getD 31 0 = 0)
    (hl : readLen (codeLens ((b.drop 144).take 16)) (streamOf b) = some (1, (streamOf b).drop 1)
      ∧ readLits (codeLens ((b.drop 16).take 128)) n 1 [] ((streamOf b).drop 1) = some ([0x41], (streamOf b).drop 2)
      ∧ readLen (codeLens ((b.drop 144).take 16)) ((streamOf b).drop 2) = some (n - 5, (streamOf b).drop 15)
      ∧ readOff (codeLens ((b.drop 160).take 16)) ((streamOf b).drop 15) = some (1, []))
    (hc : crc32c (List.replicate n 0x41) = fieldAt b 12 4) : selfCheck b (List.replicate n 0x41) = true := by
  obtain ⟨h1, h2, h3, h4⟩ := hl
  have l := mumelLoop_run (fuel := n) (orig := n) (show 5 + (n - 5) = n by omega) h1 h2 h3 h4
  have d := mumelDecode_of h (by rw [hn]; exact l) (by simp)
  rw [List.reverse_replicate] at d
  exact selfCheck_of d hc

theorem selfCheck_4115 : selfCheck (mumelRun 4115 1628298553) (List.replicate 4115 0x41) = true :=
  selfCheck_run 4115 _ (by decide +kernel) (by decide) (by decide +kernel) (by decide +kernel) (by decide +kernel)

theorem selfCheck_8192 : selfCheck (mumelRun 8192 2151063910) (List.replicate 8192 0x41) = true :=
  selfCheck_run 8192 _ (by decide +kernel) (by decide) (by decide +kernel) (by decide +kernel) (by decide +kernel)

theorem some_getD {α : Type} {o : Option α} (d : α) (h : o.isSome = true) : o = some (o.getD d) := by cases o <;> simp_all

/-- Engine 32 packs the only command, `k` granules of it. -/
def packing (op n k : Nat) : State :=
  { withCmd die0 (filled op n) with engJobs := [⟨1, 0, 1, 1, 1, .pack 0 k, some 32, false, true, [], false⟩], bands := [lone kindRw, lone kindCache] }

theorem witness_EnginesDictionariesAndMemories_pack : ∃ (s : State) (t : State) (e : Nat) (j : EngJob) (c : Cmd) (g : Nat) (n : Nat) (b : List Byte) (i : List Byte) (size : Nat),
    t = ((s.bump .CX_CNT_PACK_BLOCKS).endJob e j 0).sendDma c c.dest (b.take (mumelSize b) ++ List.replicate (size - (b.take (mumelSize b)).length) 0)
    ∧ size = (mumelSize b + 15) / 16 * 16 ∧ s.cmdData c 0 c.bytes = some i ∧ selfCheck b i = true
    ∧ ((s.engJobs.find? fun j => j.engine = some e) = some j) ∧ j.kind = .pack g n ∧ s.cmd? j.cmd = some c ∧ c.mute = false ∧ c.st = .admitted
    ∧ c.op = 0x0C ∧ saves b c.bytes = true ∧ size ≤ c.outLen :=
  ⟨packing 0x0C 4115 0, _, 32, EngJob.mk 1 0 1 1 1 (.pack 0 0) (some 32) false true [] false, filled 0x0C 4115, 0, 0, mumelRun 4115 1628298553, _, _,
    rfl, rfl, cmdData_filled _ _ _ _ _ (by decide), selfCheck_4115, by decide +kernel⟩

theorem witness_EnginesDictionariesAndMemories_store : ∃ (s : State) (t : State) (e : Nat) (j : EngJob) (c : Cmd) (g : Nat) (n : Nat) (b : List Byte) (i : List Byte) (k : Nat),
    k = (mumelSize b + 4095) / 4096 ∧ s.blockInput c g n = some i ∧ selfCheck b i = true
    ∧ (s.storeHost (c.kind ((List.range n).map (g + ·))) c.vol g true (chunks k (b.take (mumelSize b) ++ List.replicate (k * 4096 - mumelSize b) 0)) c.fn (c.keyAt g)
      (c.waiter ((List.range n).map (g + ·))) (fun p => (List.range n).map fun i => (g + i, mkEntry true false k i p)) = some t)
    ∧ ((s.engJobs.find? fun j => j.engine = some e) = some j) ∧ j.kind = .pack g n ∧ s.cmd? j.cmd = some c ∧ c.mute = false ∧ c.st = .admitted ∧ c.op = 0x04
    ∧ saves b (n * s.granBytes c) = true :=
  ⟨packing 0x04 8192 2, _, 32, EngJob.mk 1 0 1 1 1 (.pack 0 2) (some 32) false true [] false, filled 0x04 8192, 0, 2, mumelRun 8192 2151063910, _, _,
    rfl, blockInput_filled _ _ (by decide +kernel), selfCheck_8192, some_getD State.reset (by decide +kernel), by decide +kernel⟩

/-! ### Witnesses for the obligations -/

theorem witness_StepTakesTheFrontCommand :
    (∃ (c : Instr) (q : List Instr) (s : State), (s.pending = c :: q)) :=
  ⟨.pfailN, [.mainPgDeassert], { State.reset with pending := [.pfailN, .mainPgDeassert] }, by decide +kernel⟩

theorem witness_EmptyQueueLetsOneReferenceCyclePass :
    (∃ (s : State) (f : Field), s.pending = [] ∧ f ≠ .TK_PHASE_PHASE) :=
  ⟨State.reset, Field.TK_COUNT, by decide +kernel⟩

theorem witness_CommandsLeaveTheQueue :
    (∃ (c : Instr) (s : State) (t : State), exec c s = .next t) :=
  ⟨.pfailNDeassert, State.reset, State.reset.putFlag .X_PFAIL false, next_of (by decide +kernel)⟩

theorem witness_EveryStepKeepsTheStateSound :
    (∃ (s : State) (t : State), step s = .next t ∧ s.sound = true) :=
  ⟨State.reset, idle State.reset, next_of (by decide +kernel), by decide +kernel⟩

theorem witness_WritesOfPlainRegistersReadBack :
    (∃ (s : State) (off : Nat) (l : Loc), off % 4 = 0 ∧ s.target off = .reg l ∧ (∀ w, (Target.reg l).unit = some w → s.unitPower w = 0) ∧ l.reg.desc.wide = false)
    ∧ (∃ (s : State) (off : Nat) (l : Loc), off % 8 = 0 ∧ s.target off = .reg l ∧ l.reg.desc.wide = true ∧ l.upper = false ∧ (∀ w, (Target.reg l).unit = some w → s.unitPower w = 0))
    ∧ (∃ (s : State) (off : Nat), off % 8 = 0 ∧ s.wideAt off = none)
    ∧ (∃ (s : State) (off : Nat) (cl : Nat) (o : Nat), off % 4 = 0 ∧ s.target off = .slot cl o ∧ s.unitPower (uCluster cl) = 0)
    ∧ (∃ (s : State) (off : Nat) (l : Loc), off % 4 = 0 ∧ s.target off = .reg l ∧ l.reg.desc.wide = true ∧ l.upper = false ∧ (∀ w, (Target.reg l).unit = some w → s.unitPower w = 0))
    ∧ (∃ (s : State) (off : Nat) (l : Loc), off % 4 = 0 ∧ s.target off = .reg l ∧ l.upper = true ∧ l.reg.desc.wide = true ∧ (∀ w, (Target.reg l).unit = some w → s.unitPower w = 0))
    ∧ (∃ (s : State) (ag : Agent) (v : Nat), s.unitPower uMap = 0 ∧ s.mayWrite ag .ownerFeMp = true ∧ v < 2 ^ 64) :=
  ⟨⟨State.reset, 0x10028, Loc.mk .tk 0 .TK_PHASE 0 false, by decide +kernel⟩,
  ⟨State.reset, 0x38010, Loc.mk .cal 0 .CAL_SET 0 false, by decide +kernel⟩,
  ⟨State.reset, 0x10028, by decide +kernel⟩,
  ⟨State.reset, 0x204000, 0, 0, by decide +kernel⟩,
  ⟨State.reset, 0x38010, Loc.mk .cal 0 .CAL_SET 0 false, by decide +kernel⟩,
  ⟨State.reset, 0x38014, Loc.mk .cal 0 .CAL_SET 0 true, by decide +kernel⟩,
  ⟨State.reset, Agent.core 56, 5, by decide +kernel⟩⟩

theorem witness_AccessesThatReachNoRegister :
    (∃ (off : Nat) (w : Nat), wellFormedAccess off w = false)
    ∧ (∃ (s : State) (off : Nat), off % 4 = 0 ∧ s.target off = .undefined)
    ∧ (∃ (s : State) (off : Nat) (l : Loc) (w : Nat), off % 4 = 0 ∧ s.target off = .reg l ∧ (Target.reg l).unit = some w ∧ s.unitPower w = 3)
    ∧ (∃ (s : State) (t : State) (off : Nat) (ns : Nat) (l : Loc) (w : Nat), t = (((s.wakeUnit w).bump .UCB_CNT4 w).add .UCB_CNT5 ns w) ∧ off % 4 = 0 ∧ s.target off = .reg l ∧ l.reg.desc.wide = false ∧ (Target.reg l).unit = some w ∧ s.unitPower w ≠ 0 ∧ s.unitPower w ≠ 3) :=
  ⟨⟨4, 8, by decide +kernel⟩,
  ⟨State.reset, 0xFFFFFC, by decide +kernel⟩,
  ⟨wr [(.PM_MODE_MODE, 0, 2)], 0x10028, Loc.mk .tk 0 .TK_PHASE 0 false, uChip, by decide +kernel⟩,
  ⟨wr [(.X_MODE_POWER, 0x100, 1)], _, 0x10028, 7, Loc.mk .tk 0 .TK_PHASE 0 false, uChip, rfl, by decide +kernel⟩⟩

theorem witness_FieldWritesObeyWidthAndOthersStay :
    (∃ (f : Field) (i : Nat) (a : Nat) (g : Field) (j : Nat) (b : Nat), (¬(g = f ∧ j = i ∧ b = a))) :=
  ⟨Field.FC_SRC_CFG_N, 319, 0, Field.FC_SRC_CFG_N, 318, 0, by decide +kernel⟩

theorem witness_CountersSaturate :
    (∃ (f : Field) (g : Field), f.info.width = 64 ∧ g ≠ f) :=
  ⟨Field.HK_ROUND, Field.HK_CNT_OOW, by decide +kernel⟩

theorem witness_TickSourcesAndTickCommands :
    (∃ (s : State) (e : Int) (n : Nat), s.get .TK_SRC_SOURCE = 1 ∧ -2000 ≤ e ∧ e ≤ 2000 ∧ n < 2 ^ 64 ∧ s.get .TK_PERIOD_PERIOD < 1024)
    ∧ (∃ (s : State) (e : Int) (f : List Bool), s.get .TK_SRC_SOURCE = 1 ∧ (e < -2000 ∨ 2000 < e) ∧ (s.get .TK_STS_LOCK ≠ 1 ∨ s.flag .X_TICK_ALIGNED = true ∨ frameOk f = false))
    ∧ (∃ (s : State) (e : Int) (n : Nat), s.get .TK_SRC_SOURCE = 1 ∧ 2000 < e ∧ (e < 1000 * (s.get .TK_PERIOD_PERIOD : Int)) ∧ s.get .TK_PERIOD_PERIOD < 1000 ∧ s.get .TK_STS_LOCK = 1 ∧ s.flag .X_TICK_ALIGNED = false ∧ n < 2 ^ 64)
    ∧ (∃ (s : State), s.get .TK_SRC_SOURCE = 2)
    ∧ (∃ (s : State) (c : Nat) (v : Nat), (Agent.core c).isMp = true ∧ s.unitPower uChip = 0 ∧ s.locks = [] ∧ 4 ≤ v % 8)
    ∧ (∃ (s : State) (c : Nat) (v : Nat), (Agent.core c).isMp = true ∧ s.unitPower uChip = 0 ∧ v % 8 < 4 ∧ v % 8 ≠ s.get .TK_SRC_SOURCE ∧ s.locks = [])
    ∧ (∃ (s : State) (c : Nat), (Agent.core c).isMp = true ∧ s.unitPower uChip = 0 ∧ s.locks = [] ∧ s.flag .TK_NEXT_GO = true)
    ∧ (∃ (s : State) (c : Nat) (p : Nat), (Agent.core c).isMp = true ∧ s.unitPower uChip = 0 ∧ s.locks = [] ∧ s.flag .TK_NEXT_GO = false ∧ p < 1024 ∧ s.get .CHP_CAP7_TICK_MIN ≤ p ∧ p ≤ s.get .CHP_CAP7_TICK_MAX ∧ s.tick + 2 ≤ s.get .TK_NEXT_TICK)
    ∧ (∃ (s : State) (d : Nat), s.flag .X_DIE_POP d = true ∧ s.planning = true ∧ (s.plan d).sealed = false ∧ (s.plan d).missed = false) :=
  ⟨⟨wr [(.TK_SRC_SOURCE, 0, 1), (.TK_PERIOD_PERIOD, 0, 125)], (-2000), 2 ^ 64 - 1, by decide +kernel⟩,
  ⟨wr [(.TK_SRC_SOURCE, 0, 1)], 2001, countFrame 0 0, by decide +kernel⟩,
  ⟨wr [(.TK_SRC_SOURCE, 0, 1), (.TK_PERIOD_PERIOD, 0, 125), (.TK_STS_LOCK, 0, 1)], 2001, 2 ^ 64 - 1, by decide +kernel⟩,
  ⟨wr [(.TK_SRC_SOURCE, 0, 2)], by decide +kernel⟩,
  ⟨State.reset, 56, 4, by decide +kernel⟩,
  ⟨State.reset, 61, 3, by decide +kernel⟩,
  ⟨wr [(.TK_NEXT_GO, 0, 1)], 56, by decide +kernel⟩,
  ⟨wr [(.TK_NEXT_TICK, 0, 2)], 56, 125, by decide +kernel⟩,
  ⟨wr [(.X_DIE_POP, 1535, 1)], 1535, by decide +kernel⟩⟩

theorem witness_UnitRequestsAreRecordedOrRefused :
    (∃ (s : State) (ag : Agent) (w : Nat) (ut : Bool) (r : Nat), (ag = .pf0 → s.isOwner ag = true) ∧ s.windowExists w = true ∧ s.reqBusy w = false ∧ s.resetReason ag w ut = some r)
    ∧ (∃ (s : State) (ag : Agent) (w : Nat) (ut : Bool), (ag = .pf0 → s.isOwner ag = true) ∧ s.windowExists w = true ∧ s.reqBusy w = false ∧ s.resetReason ag w ut = none)
    ∧ (∃ (s : State) (ag : Agent) (w : Nat) (p : Nat) (ut : Bool) (r : Nat), (ag = .pf0 → s.isOwner ag = true) ∧ s.windowExists w = true ∧ s.reqBusy w = false ∧ s.powerReason ag w (p % 8) ut = some r)
    ∧ (∃ (s : State) (ag : Agent) (w : Nat) (p : Nat) (ut : Bool), (ag = .pf0 → s.isOwner ag = true) ∧ s.windowExists w = true ∧ s.reqBusy w = false ∧ s.powerReason ag w (p % 8) ut = none)
    ∧ (∃ (s : State) (ag : Agent) (w : Nat), (ag = .pf0 → s.isOwner ag = true) ∧ s.windowExists w = true ∧ s.get .UCB_REQ_STS_STATE w = 1 ∧ s.get .UCB_REQ_STS_KIND w = 2 ∧ s.resetReason ag w false = none)
    ∧ (∃ (s : State) (w : Nat), s.windowExists w = false)
    ∧ (∃ (s : State) (w : Nat), s.windowExists w = true ∧ s.subtree w = [w] ∧ s.flag .UCB_FAULT_CORRECTED w = true ∧ s.causeHolds w 0 = false) :=
  ⟨⟨State.reset, Agent.core 0, 0x101, false, 1, by decide +kernel⟩,
  ⟨wr [(.X_DIE_POP, 0, 1)], Agent.core 56, 0x400, false, by decide +kernel⟩,
  ⟨State.reset, Agent.core 56, 0x101, 3, false, 2, by decide +kernel⟩,
  ⟨wr [(.X_DIE_POP, 1535, 1)], Agent.core 56, 0x9FF, 3, false, by decide +kernel⟩,
  ⟨wr [(.UCB_REQ_STS_STATE, 0x101, 1), (.UCB_REQ_STS_KIND, 0x101, 2)], Agent.core 56, 0x101, by decide +kernel⟩,
  ⟨State.reset, 0x400, by decide +kernel⟩,
  ⟨wr [(.X_DIE_POP, 0, 1), (.UCB_FAULT_CORRECTED, 0x400, 1)], 0x400, by decide +kernel⟩⟩

theorem witness_UnitResetsRunAndEnd :
    (∃ (s : State) (w : Nat), s.get .UCB_REQ_STS_KIND w = 1 ∧ s.get .UCB_REQ_STS_STATE w = 1 ∧ s.reqTick w = none ∧ s.covered w = false ∧ (s.flag .X_REQ_IMMEDIATE w = true ∨ s.mediaAtRest w = true) ∧ (unitType w = some .cluster → s.flag .X_CL_OOS (w - 0x108) = false))
    ∧ (∃ (s : State) (w : Nat), s.get .UCB_REQ_STS_KIND w = 1 ∧ s.get .UCB_REQ_STS_STATE w = 2 ∧ s.covered w = false ∧ w ≠ uChip)
    ∧ (∃ (s : State) (w : Nat), s.get .UCB_REQ_STS_STATE w ≠ 2) :=
  ⟨⟨wr [(.X_DIE_POP, 0, 1), (.UCB_REQ_STS_KIND, 0x400, 1), (.UCB_REQ_STS_STATE, 0x400, 1)], 0x400, by decide +kernel⟩,
  ⟨wr [(.X_DIE_POP, 0, 1), (.UCB_REQ_STS_KIND, 0x400, 1), (.UCB_REQ_STS_STATE, 0x400, 2)], 0x400, by decide +kernel⟩,
  ⟨State.reset, 0x400, by decide +kernel⟩⟩

theorem witness_PowerChangesRunAndEnd :
    (∃ (s : State) (w : Nat), s.get .UCB_REQ_STS_KIND w = 2 ∧ s.get .UCB_REQ_STS_STATE w = 1 ∧ s.reqTick w = none ∧ s.get .X_PWR_TARGET w < s.get .X_PWR_PEND w ∧ s.workBelow w = true)
    ∧ (∃ (s : State) (w : Nat), s.get .UCB_REQ_STS_KIND w = 2 ∧ s.get .UCB_REQ_STS_STATE w = 1 ∧ s.reqTick w = none ∧ (s.get .X_PWR_PEND w ≤ s.get .X_PWR_TARGET w ∨ s.workBelow w = false))
    ∧ (∃ (s : State) (w : Nat), s.get .UCB_REQ_STS_KIND w = 2 ∧ s.get .UCB_REQ_STS_STATE w = 2) :=
  ⟨⟨wr [(.X_DIE_POP, 0, 1), (.UCB_REQ_STS_KIND, 0x400, 2), (.UCB_REQ_STS_STATE, 0x400, 1), (.X_PWR_PEND, 0x400, 1), (.X_DIE_RD, 0, 1)], 0x400, by decide +kernel⟩,
  ⟨wr [(.X_DIE_POP, 0, 1), (.UCB_REQ_STS_KIND, 0x400, 2), (.UCB_REQ_STS_STATE, 0x400, 1), (.X_PWR_PEND, 0x400, 1)], 0x400, by decide +kernel⟩,
  ⟨wr [(.X_DIE_POP, 0, 1), (.UCB_REQ_STS_KIND, 0x400, 2), (.UCB_REQ_STS_STATE, 0x400, 2), (.X_PWR_PEND, 0x400, 1)], 0x400, by decide +kernel⟩⟩

theorem witness_ChipResetCommands :
    (∃ (s : State) (c : Nat), (Agent.core c).isMp = true ∧ s.unitPower uChip = 0 ∧ s.locks = [] ∧ s.tick + 2 ≤ s.get .CHP_CTL_TICK)
    ∧ (∃ (s : State), s.get .X_CHIPRST = 0)
    ∧ (∃ (s : State), s.get .X_CHIPRST ≠ 0 ∧ s.powered = true ∧ (s.mode = mHoldup → s.flag .X_FLUSH = false) ∧ (s.flag .X_READY = false ∨ s.flag .X_FLUSHED = true))
    ∧ (∃ (s : State), s.get .X_CHIPRST ≠ 0 ∧ s.powered = true ∧ (s.mode = mHoldup → s.flag .X_FLUSH = false) ∧ s.flag .X_READY = true ∧ s.flag .X_FLUSHED = false) :=
  ⟨⟨wr [(.CHP_CTL_TICK, 0, 2)], 56, by decide +kernel⟩,
  ⟨State.reset, by decide +kernel⟩,
  ⟨wr [(.X_CHIPRST, 0, 2), (.X_CHIPRST_SRC, 0, 5)], by decide +kernel⟩,
  ⟨wr [(.X_CHIPRST, 0, 2), (.X_CHIPRST_SRC, 0, 5), (.X_READY, 0, 1)], by decide +kernel⟩⟩

theorem witness_TickBoundaryAndPlans :
    (∃ (s : State), s.powered = false)
    ∧ (∃ (s : State) (t : State), (t = ({ s.putFlag .X_AT_BND false with armed := s.armed.filter fun x => !decide (x.tick ≤ s.tick) } : State)) ∧ s.powered = true ∧ s.mode ≠ mRetain ∧ s.flag .X_AT_BND = true ∧ (∃ x ∈ s.armed, x.tick ≤ s.tick) ∧ (∀ x ∈ s.armed, x.tick ≤ s.tick → x.act.order ≠ 1))
    ∧ (∃ (s : State) (t : State), (t = ({ s.putFlag .X_AT_BND false with armed := s.armed.filter fun x => !decide (x.tick ≤ s.tick) } : State)) ∧ s.powered = true ∧ s.mode ≠ mRetain ∧ s.flag .X_AT_BND = true ∧ (∃ x ∈ s.armed, x.tick ≤ s.tick) ∧ (∃ x ∈ s.armed, x.tick ≤ s.tick ∧ x.act.order = 1))
    ∧ (∃ (s : State) (k : Nat) (q : Nat) (us : Nat), s.powered = true ∧ s.mode ≠ mRetain ∧ s.flag .X_AT_BND = true ∧ s.armed = [⟨k, q, .period us⟩] ∧ k ≤ s.tick ∧ us < 1024)
    ∧ (∃ (s : State), s.sourceAcquired = true ∧ (s.get .TK_STS_LOCK = 3 ∨ s.get .TK_STS_LOCK = 1 ∧ s.flag .TK_SRC_ADOPT = false))
    ∧ (∃ (s : State), s.sourceAcquired = true ∧ s.get .TK_STS_LOCK = 1 ∧ s.flag .TK_SRC_ADOPT = true ∧ s.sourceCount ≠ s.tick)
    ∧ (∃ (s : State) (c : Nat) (k : Nat), (Agent.core c).isMp = true ∧ s.unitPower uChip = 0 ∧ s.locks = [] ∧ k < 2 ^ 64 ∧ s.armOk k = true ∧ ((s.armed.all fun x => x.tick ≠ k) = true))
    ∧ (∃ (s : State) (c : Nat) (k : Nat), (Agent.core c).isMp = true ∧ s.unitPower uChip = 0 ∧ s.locks = [] ∧ k < 2 ^ 64 ∧ s.armOk k = true ∧ (∃ x ∈ s.armed, x.tick = k))
    ∧ (∃ (s : State) (c : Nat) (k : Nat), (Agent.core c).isMp = true ∧ s.unitPower uChip = 0 ∧ s.locks = [] ∧ k < 2 ^ 64 ∧ s.armOk k = false)
    ∧ (∃ (s : State) (d : Nat) (l : List PEntry), s.flag .X_DIE_POP d = true ∧ s.planning = true ∧ s.planClosed d = false ∧ s.planOk d (sortPlan l) = true)
    ∧ (∃ (s : State) (d : Nat), s.flag .X_DIE_POP d = true ∧ s.planning = true ∧ s.planClosed d = true ∧ s.dieAvailable d = true)
    ∧ (∃ (s : State) (d : Nat) (l : List PEntry), s.planClosed d = false ∧ s.planOk d (sortPlan l) = false)
    ∧ (∃ (s : State) (d : Nat), (s.flag .X_DIE_POP d = false ∨ s.planning = false)) :=
  ⟨⟨wr [(.PM_MODE_MODE, 0, 2)], by decide +kernel⟩,
  ⟨{ wr [(.X_DIE_POP, 0, 1), (.X_AT_BND, 0, 1)] with armed := [⟨0, 0, .unitPower 0x400 1⟩] }, _, rfl, by decide +kernel⟩,
  ⟨{ wr [(.X_AT_BND, 0, 1)] with armed := [⟨0, 0, .chipReset false 2⟩, ⟨0, 1, .period 250⟩] }, _, rfl, by decide +kernel⟩,
  ⟨{ wr [(.X_AT_BND, 0, 1)] with armed := [⟨0, 3, .period 250⟩] }, 0, 3, 250, by decide +kernel⟩,
  ⟨wr [(.TK_STS_LOCK, 0, 3), (.TK_SRC_SOURCE, 0, 1), (.X_TICK_FRAMES, 0, 8)], by decide +kernel⟩,
  ⟨wr [(.TK_STS_LOCK, 0, 1), (.TK_SRC_SOURCE, 0, 1), (.X_TICK_FRAMES, 0, 8), (.TK_SRC_ADOPT, 0, 1), (.X_TICK_SRCCNT, 0, 500)], by decide +kernel⟩,
  ⟨State.reset, 56, 2, by decide +kernel⟩,
  ⟨{ State.reset with armed := [⟨5, 0, .period 250⟩] }, 56, 5, by decide +kernel⟩,
  ⟨State.reset, 56, 0, by decide +kernel⟩,
  ⟨run [(.X_DIE_POP, 0, 1), (.X_OWN_READY, uDie 0, 1), (.X_OWN_READY, uChannel 0, 1), (.UCB_STATUS_RESETTING, uDie 0, 0), (.ER_CTL_ENABLE, 0, 0), (.TK_PERIOD_PERIOD, 0, 125)], 0, [PEntry.mk 123 opRead 1 false 26 5], by decide +kernel⟩,
  ⟨run [(.X_DIE_POP, 0, 1), (.X_OWN_READY, uDie 0, 1), (.X_OWN_READY, uChannel 0, 1), (.UCB_STATUS_RESETTING, uDie 0, 0), (.UCB_REQ_STS_STATE, uDie 0, 1), (.UCB_REQ_STS_KIND, uDie 0, 2), (.X_PWR_PEND, uDie 0, 1)], 0, by decide +kernel⟩,
  ⟨run [(.X_DIE_POP, 0, 1), (.X_OWN_READY, uDie 0, 1), (.X_OWN_READY, uChannel 0, 1), (.UCB_STATUS_RESETTING, uDie 0, 0), (.TK_PERIOD_PERIOD, 0, 125)], 0, [PEntry.mk 125 opRead 1 false 25 5], by decide +kernel⟩,
  ⟨wr [(.PM_MODE_MODE, 0, 1)], 0, by decide +kernel⟩⟩

theorem witness_LinksTrainAndGoDown :
    (∃ (s : State) (p : Nat) (k : Nat) (sp : Nat) (w : Nat), p < 2 ∧ k < 4 ∧ s.flag .HE_LINK_STS_EXISTS (4 * p + k) = true ∧ s.flag .HE_LINK_STS_UP (4 * p + k) = false ∧ s.flag .X_PERST p = false ∧ sp ≤ s.get .X_SPEED_EFF p ∧ w ≤ layoutLanes (s.get .X_BIFUR_EFF p) ∧ sp < 8 ∧ w < 32)
    ∧ (∃ (s : State) (p : Nat) (k : Nat), p < 2 ∧ k < 4 ∧ s.flag .HE_LINK_STS_UP (4 * p + k) = true)
    ∧ (∃ (s : State) (p : Nat), p < 2 ∧ s.flag .X_PERST p = true)
    ∧ (∃ (s : State) (c : Nat) (p : Nat) (sp : Nat) (b : Nat), (Agent.core c).isMp = true ∧ s.unitPower uFront = 0 ∧ s.locks = [] ∧ p < 2 ∧ sp < 7 ∧ b < 3) :=
  ⟨⟨wr [(.HE_LINK_STS_EXISTS, 7, 1), (.X_SPEED_EFF, 1, 6), (.X_BIFUR_EFF, 1, 2)], 1, 3, 6, 4, by decide +kernel⟩,
  ⟨wr [(.HE_LINK_STS_EXISTS, 7, 1), (.HE_LINK_STS_UP, 7, 1)], 1, 3, by decide +kernel⟩,
  ⟨wr [(.X_PERST, 1, 1)], 1, by decide +kernel⟩,
  ⟨State.reset, 56, 1, 6, 2, by decide +kernel⟩⟩

theorem witness_FunctionsVfsAndDisables :
    (∃ (s : State) (f : Nat) (n : Nat), f < 8 ∧ s.fnExists f = true ∧ s.flag .X_FN_VFE f = false ∧ n ≤ s.get .HE_VFALLOC_COUNT f)
    ∧ (∃ (s : State) (f : Nat), f < 8 ∧ s.flag .X_FN_VFE f = true)
    ∧ (∃ (s : State) (ag : Agent) (first : Nat) (count : Nat), s.mayWrite ag .ownerFeMp = true ∧ s.unitPower uFront = 0 ∧ first < 256 ∧ count < 512)
    ∧ (∃ (s : State) (t : State) (f : Nat), t = s.disablePoint (.fn f) 1 ∧ s.fnExists f = true ∧ s.flag .X_FN_DISABLING f = false)
    ∧ (∃ (s : State) (t : State) (f : Nat), t = (s.putFlag .X_FN_D3 false f).disablePoint (.fn f) 3 ∧ s.fnExists f = true ∧ s.flag .X_FN_D3 f = true)
    ∧ (∃ (s : State) (f : Nat), s.fnExists f = true ∧ f ≠ 0 ∧ s.flag .X_FN_BME f = false)
    ∧ (∃ (s : State), s.fnExists 0 = true ∧ s.flag .X_FN_BME = false ∧ s.flag .X_FN_DISABLING = false ∧ s.flag .SEC_STS_KEYED = false)
    ∧ (∃ (s : State), s.fnExists 0 = true ∧ s.flag .X_FN_BME = false ∧ s.flag .X_FN_DISABLING = false ∧ s.flag .SEC_STS_KEYED = true)
    ∧ (∃ (s : State) (f : Nat), s.flag .X_FN_BME f = true)
    ∧ (∃ (s : State) (sc : Scope), s.disabling sc = true)
    ∧ (∃ (s : State) (sc : Scope), s.disabling sc = false) :=
  ⟨⟨wr [(.HE_LINK_STS_EXISTS, 7, 1), (.HE_VFALLOC_COUNT, 7, 256)], 7, 256, by decide +kernel⟩,
  ⟨wr [(.HE_LINK_STS_EXISTS, 7, 1), (.X_FN_VFE, 7, 1)], 7, by decide +kernel⟩,
  ⟨State.reset, Agent.core 56, 255, 511, by decide +kernel⟩,
  ⟨wr [(.HE_LINK_STS_EXISTS, 7, 1), (.X_FN_VFE, 7, 1), (.X_FN_NUMVFS, 7, 256), (.HE_VFALLOC_COUNT, 7, 256)], _, 263, rfl, by decide +kernel⟩,
  ⟨wr [(.HE_LINK_STS_EXISTS, 0, 1), (.X_FN_D3, 0, 1)], _, 0, rfl, by decide +kernel⟩,
  ⟨wr [(.HE_LINK_STS_EXISTS, 7, 1), (.X_FN_VFE, 7, 1), (.X_FN_NUMVFS, 7, 256), (.HE_VFALLOC_COUNT, 7, 256)], 263, by decide +kernel⟩,
  ⟨wr [(.HE_LINK_STS_EXISTS, 0, 1)], by decide +kernel⟩,
  ⟨wr [(.HE_LINK_STS_EXISTS, 0, 1), (.SEC_STS_KEYED, 0, 1)], by decide +kernel⟩,
  ⟨run [], 0, by decide +kernel⟩,
  ⟨wr [(.X_FN_DISABLING, 0, 1)], .fn 0, by decide +kernel⟩,
  ⟨State.reset, .queue 1023, by decide +kernel⟩⟩

theorem witness_AddressTranslationCaches :
    (∃ (s : State) (f : Nat), s.atsOn f = true)
    ∧ (∃ (s : State) (f : Nat), s.atsOn f = false)
    ∧ (∃ (s : State), s.holds = [])
    ∧ (∃ (s : State) (f : Nat) (tag : Nat) (v : Machine.Inv), ((s.invs.find? fun v => v.fn = f && v.tag = tag) = some v) ∧ s.invDone v = true)
    ∧ (∃ (s : State) (f : Nat) (tag : Nat) (v : Machine.Inv), ((s.invs.find? fun v => v.fn = f && v.tag = tag) = some v) ∧ s.invDone v = false)
    ∧ (∃ (s : State) (t : State) (f : Nat), t = (s.putFlag .X_FN_ATS false f).dropAts f)
    ∧ (∃ (s : State) (f : Nat), s.fnDark f = true)
    ∧ (∃ (s : State) (f : Nat) (off : Nat), s.fnDark f = false ∧ barDefined f 0 off = false)
    ∧ (∃ (s : State) (f : Nat) (b : Nat) (off : Nat), s.fnDark f = false ∧ barDefined f b off = false) :=
  ⟨⟨wr [(.HE_FNATTR_ATS_QUOTA, 263, 1)], 263, by decide +kernel⟩,
  ⟨wr [(.HE_FNATTR_ATS_QUOTA, 0, 0)], 0, by decide +kernel⟩,
  ⟨run [], by decide +kernel⟩,
  ⟨{ run [] with invs := [⟨0, 31, [1]⟩] }, (0 : Nat), 31, ⟨0, 31, [1]⟩, by decide +kernel⟩,
  ⟨{ run [] with invs := [⟨0, 31, [1]⟩], dmaReads := [⟨1, 0, none, 4, 4⟩] }, (0 : Nat), 31, ⟨0, 31, [1]⟩, by decide +kernel⟩,
  ⟨{ wr [(.HE_FNATTR_ATS_QUOTA, 263, 1)] with ats := [⟨0, 4096, 4096, 1⟩, ⟨263, 4096, 4096, 1⟩] }, _, 263, rfl⟩,
  ⟨run [], 263, by decide +kernel⟩,
  ⟨run [], 0, 0xFFFFFF, by decide +kernel⟩,
  ⟨run [], 0, 1, 0, by decide +kernel⟩⟩

theorem witness_LinkPowerRespectsGoldReserves :
    (∃ (s : State) (p : Nat) (k : Nat), p < 2 ∧ k < 4 ∧ s.flag .HE_LINK_STS_UP (4 * p + k) = true ∧ (s.get .HE_LINK_STS_LPM (4 * p + k) = 2 ∨ s.get .HE_LINK_STS_LPM (4 * p + k) = 3) ∧ s.flag .X_FN_L12 (4 * p + k) = true)
    ∧ (∃ (s : State) (p : Nat) (k : Nat) (w : Nat), p < 2 ∧ k < 4 ∧ s.flag .HE_LINK_STS_UP (4 * p + k) = true ∧ s.flag .HE_PWR_L0P_EN p = true ∧ s.get .HE_LINK_STS_LPM (4 * p + k) ≤ 1 ∧ (4 ≤ w ∨ w ≥ 2 ∧ s.get .HE_LINK_STS_WIDTH (4 * p + k) ≤ 4) ∧ w < s.get .HE_LINK_STS_L0P_WIDTH (4 * p + k) ∧ s.goldHoldsLink (4 * p + k) = false)
    ∧ (∃ (s : State) (p : Nat) (k : Nat), p < 2 ∧ k < 4 ∧ s.flag .HE_LINK_STS_UP (4 * p + k) = true ∧ s.get .HE_LINK_STS_LPM (4 * p + k) ≠ 0) :=
  ⟨⟨wr [(.HE_LINK_STS_UP, 7, 1), (.HE_LINK_STS_LPM, 7, 2)], 1, 3, by decide +kernel⟩,
  ⟨wr [(.HE_LINK_STS_UP, 7, 1), (.HE_PWR_L0P_EN, 1, 1), (.HE_LINK_STS_L0P_WIDTH, 7, 8)], 1, 3, 4, by decide +kernel⟩,
  ⟨wr [(.HE_LINK_STS_UP, 7, 1), (.HE_LINK_STS_LPM, 7, 1)], 1, 3, by decide +kernel⟩⟩

theorem witness_PacketsAreTakenIn :
    (∃ (s : State) (f : Nat) (off : Nat) (l : List Byte) (q : Nat) (o : Nat), s.fnDark f = false ∧ l ≠ [] ∧ off < 0x200000 ∧ s.windowQueue f off = some (q, o) ∧ o + l.length ≤ 64 * s.slotCount q ∧ (((List.range ((o + l.length + 63) / 64 - o / 64)).map (o / 64 + ·)).any (s.slotReady q)) = false)
    ∧ (∃ (s : State) (f : Nat), s.fnDark f = true)
    ∧ (∃ (s : State) (f : Nat) (off : Nat) (l : List Byte) (q : Nat) (o : Nat), s.fnDark f = false ∧ l ≠ [] ∧ off < 0x200000 ∧ s.windowQueue f off = some (q, o) ∧ o + l.length ≤ 64 * s.slotCount q ∧ (((List.range ((o + l.length + 63) / 64 - o / 64)).map (o / 64 + ·)).any (s.slotReady q)) = true)
    ∧ (∃ (s : State) (q : Nat), s.intakeHeld q = true)
    ∧ (∃ (s : State) (q : Nat), s.slotReady q (s.headSlot q) = false)
    ∧ (∃ (s : State) (q : Nat), s.intakeTurn q = false)
    ∧ (∃ (s : State) (q : Nat), s.intakeHeld q = false ∧ s.slotReady q (s.headSlot q) = true ∧ s.replyRoom q = true ∧ s.intakeTurn q = true ∧ fieldAt (s.slotBytes q (s.headSlot q)) 4 2 ≠ s.get .X_JQ_S q % 65536)
    ∧ (∃ (s : State) (q : Nat), s.intakeHeld q = false ∧ s.slotReady q (s.headSlot q) = true ∧ s.intakeTurn q = true ∧ fieldAt (s.slotBytes q (s.headSlot q)) 4 2 = s.get .X_JQ_S q % 65536 ∧ ((s.cmds.find? fun c => !c.nvme && c.q = q && decide (0 < c.contLeft)) = none) ∧ s.replyRoom q = true ∧ s.tagUsed q (fieldAt (s.slotBytes q (s.headSlot q)) 2 2) = false ∧ opcodeKnown (fieldAt (s.slotBytes q (s.headSlot q)) 0 1) = true)
    ∧ (∃ (s : State) (c : Nat) (q : Nat) (e : Nat), (Agent.core c).isMp = true ∧ s.unitPower uFront = 0 ∧ q < 1024 ∧ s.get .JQ_QSTS_STATE q = 0 ∧ s.enableFault q = some e)
    ∧ (∃ (s : State) (c : Nat) (q : Nat), (Agent.core c).isMp = true ∧ s.unitPower uFront = 0 ∧ q < 1024 ∧ s.get .JQ_QSTS_STATE q = 0 ∧ s.enableFault q = none)
    ∧ (∃ (s : State) (c : Nat) (q : Nat), (Agent.core c).isMp = true ∧ s.unitPower uFront = 0 ∧ q < 1024 ∧ s.get .JQ_QSTS_STATE q = 1) :=
  ⟨⟨slots0 [] [], 0, 0, bytes64 [(0, 1)], 0, 0, by decide +kernel⟩,
  ⟨State.reset, 263, by decide +kernel⟩,
  ⟨slots0 [] (bytes64 [(0, 1)]), 0, 63, bytes64 [], 0, 63, by decide +kernel⟩,
  ⟨State.reset, 1023, by decide +kernel⟩,
  ⟨slots0 [] [], 0, by decide +kernel⟩,
  ⟨run [], 0, by decide +kernel⟩,
  ⟨slots0 [] (bytes64 [(0, 1), (2, 65535), (4, 7)]), 0, by decide +kernel⟩,
  ⟨slots0 [] (bytes64 [(0, 1), (2, 65535), (28, 9)]), 0, by decide +kernel⟩,
  ⟨State.reset, 56, 1023, 8, by decide +kernel⟩,
  ⟨run [(.JQ_QRPL_BASE, 5, 4096), (.JQ_QMIRROR, 5, 8), (.JQ_QRING_HEAD_EVERY, 5, 1), (.JQ_QRING_XR_MAX, 5, 16), (.JQ_QRING_MAX_OPEN, 5, 64)], 61, 5, by decide +kernel⟩,
  ⟨slots0 [] [], 56, 0, by decide +kernel⟩⟩

theorem witness_ControlPacketsOfJexash :
    (∃ (s : State) (n : Nat) (c : Cmd), s.flag .JQ_STS_SANITIZING = true ∧ s.packet n 0x05 = some c)
    ∧ (∃ (s : State) (n : Nat) (c : Cmd), s.flag .JQ_STS_SANITIZING = true ∧ s.packet n 0x06 = some c)
    ∧ (∃ (s : State) (n : Nat) (c : Cmd), s.flag .JQ_STS_SANITIZING = true ∧ s.packet n 0x07 = some c)
    ∧ (∃ (s : State) (n : Nat) (c : Cmd), s.flag .JQ_STS_SANITIZING = true ∧ s.packet n 0x08 = some c)
    ∧ (∃ (s : State) (n : Nat) (c : Cmd), s.flag .JQ_STS_SANITIZING = true ∧ s.packet n 0x09 = some c)
    ∧ (∃ (s : State) (n : Nat) (c : Cmd), s.flag .JQ_STS_SANITIZING = true ∧ s.packet n 0x0A = some c)
    ∧ (∃ (s : State) (n : Nat) (c : Cmd) (t : Cmd), s.flag .JQ_STS_SANITIZING = false ∧ s.packet n 0x05 = some c ∧ c.plainOk true true false = true ∧ c.param < 65536 ∧ s.tagged c.q c.param = some t ∧ t.op = 0x04 ∧ t.pLba < c.pLba ∧ c.pLba < t.pLba + t.pLen ∧ t.aux.length < 16 ∧ c.aux = [])
    ∧ (∃ (s : State) (n : Nat) (c : Cmd), s.flag .JQ_STS_SANITIZING = false ∧ s.packet n 0x06 = some c ∧ c.packetOk = true ∧ c.codec = 0 ∧ c.pLen ≠ 0 ∧ c.outLen = 0 ∧ c.dest = 0 ∧ c.param = 0 ∧ s.rangeVerdict c c.pNode c.pLba c.pLen rightPin = none ∧ bit c.ctl 4 = false)
    ∧ (∃ (s : State) (n : Nat) (c : Cmd) (p : Pin), s.cmd? n = some c ∧ ((s.pins.find? fun p => p.cmd = n && p.id = 0) = some p) ∧ c.st = .planned ∧ c.res = none ∧ c.mute = false ∧ ((p.lines.all fun x => (s.line? x.1 x.2).any fun y => y.st = .clean || y.st = .dirty) = true) ∧ s.pinCount c.fn < 256)
    ∧ (∃ (s : State) (c : Cmd) (p : Pin), c.op = 0x06 ∧ ((s.pins.find? fun p => p.cmd = c.id && p.id = 0) = some p))
    ∧ (∃ (s : State) (n : Nat) (c : Cmd) (p : Pin), s.flag .JQ_STS_SANITIZING = false ∧ s.packet n 0x07 = some c ∧ c.plainOk false true false = true ∧ c.param < 32768 ∧ ((s.pins.find? fun p => p.fn = c.fn && p.id = c.param && p.id ≠ 0) = some p))
    ∧ (∃ (s : State) (n : Nat) (c : Cmd), s.flag .JQ_STS_SANITIZING = false ∧ s.packet n 0x08 = some c ∧ c.plainOk false true false = true ∧ c.param < 65536)
    ∧ (∃ (s : State) (n : Nat) (c : Cmd), s.flag .JQ_STS_SANITIZING = false ∧ s.packet n 0x09 = some c ∧ c.plainOk false true false = true ∧ c.param < 2)
    ∧ (∃ (s : State) (n : Nat) (c : Cmd), s.cmd? n = some c ∧ c.nvme = false ∧ c.op = 0x09 ∧ c.st = .admitted ∧ s.fenceDone c = true)
    ∧ (∃ (s : State) (n : Nat) (c : Cmd), s.flag .JQ_STS_SANITIZING = false ∧ s.packet n 0x0A = some c ∧ c.plainOk false false true = true ∧ c.dest % 8 = 0) :=
  ⟨⟨withCmd [(.JQ_STS_SANITIZING, 0, 1)] (pkt 5 []), 1, pkt 5 [], by decide +kernel⟩,
  ⟨withCmd [(.JQ_STS_SANITIZING, 0, 1)] (pkt 6 []), 1, pkt 6 [], by decide +kernel⟩,
  ⟨withCmd [(.JQ_STS_SANITIZING, 0, 1)] (pkt 7 []), 1, pkt 7 [], by decide +kernel⟩,
  ⟨withCmd [(.JQ_STS_SANITIZING, 0, 1)] (pkt 8 []), 1, pkt 8 [], by decide +kernel⟩,
  ⟨withCmd [(.JQ_STS_SANITIZING, 0, 1)] (pkt 9 []), 1, pkt 9 [], by decide +kernel⟩,
  ⟨withCmd [(.JQ_STS_SANITIZING, 0, 1)] (pkt 10 []), 1, pkt 10 [], by decide +kernel⟩,
  ⟨{ withCmd [] (pkt 5 [(8, 3), (44, 2)]) with cmds := [{ pkt 4 [(8, 0), (16, 16)] with id := 0, tag := 2, target := 1 }, pkt 5 [(8, 3), (44, 2)]] }, 1, pkt 5 [(8, 3), (44, 2)], { pkt 4 [(8, 0), (16, 16)] with id := 0, tag := 2, target := 1 }, by decide +kernel⟩,
  ⟨withCmd [] (pkt 6 [(1, 2), (16, 1)]), 1, pkt 6 [(1, 2), (16, 1)], by decide +kernel⟩,
  ⟨{ withCmd [] { pkt 6 [] with st := .planned } with pins := [⟨0, 0, 1, 0, [(0, 0)]⟩], lines := [⟨0, 0, 0, 0, .clean, 1, 0, [0, 0, 0, 0, 0, 0, 0, 0]⟩] }, 1, { pkt 6 [] with st := .planned }, Pin.mk 0 0 1 0 [(0, 0)], by decide +kernel⟩,
  ⟨{ withCmd [] (pkt 6 []) with pins := [⟨0, 0, 1, 0, [(0, 0)]⟩] }, pkt 6 [], Pin.mk 0 0 1 0 [(0, 0)], by decide +kernel⟩,
  ⟨{ withCmd [] (pkt 7 [(44, 32767)]) with pins := [⟨0, 32767, 9, 0, []⟩] }, 1, pkt 7 [(44, 32767)], Pin.mk 0 32767 9 0 [], by decide +kernel⟩,
  ⟨withCmd [] (pkt 8 [(44, 65535)]), 1, pkt 8 [(44, 65535)], by decide +kernel⟩,
  ⟨withCmd [] (pkt 9 [(44, 1)]), 1, pkt 9 [(44, 1)], by decide +kernel⟩,
  ⟨withCmd [] { pkt 9 [] with st := .admitted }, 1, { pkt 9 [] with st := .admitted }, by decide +kernel⟩,
  ⟨withCmd [] (pkt 10 [(32, 8)]), 1, pkt 10 [(32, 8)], by decide +kernel⟩⟩

theorem witness_HeadsEventsAndReserves :
    (∃ (s : State) (q : Nat) (v : Nat), s.get .JQ_QSTS_STATE q = 1 ∧ headDelta (s.get .X_JQ_RHEAD q) v ≤ s.get .X_JQ_RPOST q - s.get .X_JQ_RHEAD q)
    ∧ (∃ (s : State) (q : Nat) (v : Nat), s.get .JQ_QSTS_STATE q = 1 ∧ s.get .X_JQ_RPOST q - s.get .X_JQ_RHEAD q < headDelta (s.get .X_JQ_RHEAD q) v)
    ∧ (∃ (s : State) (q : Nat), s.get .JQ_QSTS_STATE q ≠ 1)
    ∧ (∃ (s : State) (q : Nat) (v : Nat), s.get .JQ_QSTS_STATE q = 1 ∧ headDelta (s.get .X_JQ_XHEAD q) v ≤ s.get .X_JQ_XPOST q - s.get .X_JQ_XHEAD q)
    ∧ (∃ (s : State) (f : Nat), s.fnDark f = false)
    ∧ (∃ (s : State) (n : Nat) (c : Cmd), s.cmd? n = some c ∧ c.nvme = false ∧ bit c.ctl 2 = true ∧ c.hasDeadline = true ∧ c.noticed = false ∧ c.mute = false ∧ c.deadline < s.tick)
    ∧ (∃ (s : State) (n : Nat) (c : Cmd), s.cmd? n = some c ∧ c.noticed = true)
    ∧ (∃ (s : State) (f : Nat), 2 ≤ s.get .X_RES_PEND f)
    ∧ (∃ (s : State) (f : Nat), s.get .X_RES_PEND f < 2)
    ∧ (∃ (s : State) (c : Nat) (f : Nat) (v : Nat), (Agent.core c).isMp = true ∧ s.unitPower uFront = 0 ∧ f < 264 ∧ v % 16 ≤ 8 ∧ s.flag .JQ_FEVT_CFG_EVT_EN f = false) :=
  ⟨⟨slots0 [(.X_JQ_RPOST, 0, 2)] [], 0, 2, by decide +kernel⟩,
  ⟨slots0 [(.X_JQ_RPOST, 0, 2)] [], 0, 3, by decide +kernel⟩,
  ⟨State.reset, 1023, by decide +kernel⟩,
  ⟨slots0 [(.X_JQ_XPOST, 0, 1)] [], 0, 1, by decide +kernel⟩,
  ⟨run [], 0, by decide +kernel⟩,
  ⟨withCmd [(.TK_COUNT, 0, 3)] { pkt 1 [(1, 4)] with gold := true, deadline := 2 }, 1, { pkt 1 [(1, 4)] with gold := true, deadline := 2 }, by decide +kernel⟩,
  ⟨withCmd [] { pkt 1 [(1, 4)] with noticed := true }, 1, { pkt 1 [(1, 4)] with noticed := true }, by decide +kernel⟩,
  ⟨run [(.X_RES_PEND, 0, 2)], 0, by decide +kernel⟩,
  ⟨run [], 263, by decide +kernel⟩,
  ⟨run [], 56, 263, 8, by decide +kernel⟩⟩

theorem witness_ControllersDoorbellsAndFetch :
    (∃ (s : State) (f : Nat) (cc : Nat) (aqa : Nat), s.fnDark f = false ∧ s.flag .X_CTRL_DISABLING f = false ∧ s.get .X_CC f % 2 = 0 ∧ cc % 2 = 1 ∧ ccOk cc aqa = true)
    ∧ (∃ (s : State) (f : Nat), s.fnDark f = false ∧ s.get .X_CC f % 2 = 1)
    ∧ (∃ (s : State) (f : Nat) (q : Nat), s.ctrlUp f = true ∧ s.sq? f q = none)
    ∧ (∃ (s : State) (f : Nat) (q : Nat) (cq : ComplQ), s.ctrlUp f = true ∧ s.cq? f q = some cq)
    ∧ (∃ (s : State) (f : Nat) (q : Nat) (sq : SubQ), s.sq? f q = some sq ∧ (sq.head = sq.tail ∨ sq.frozen = true ∨ s.flag .X_FN_D3 f = true ∨ s.pairHalted f = true))
    ∧ (∃ (s : State) (f : Nat) (q : Nat) (sq : SubQ) (b : List Byte), s.sq? f q = some sq ∧ s.ctrlUp f = true ∧ s.flag .X_FN_BME f = true ∧ s.flag .X_FN_D3 f = false ∧ s.powered = true ∧ s.mode ≠ mHoldup ∧ s.flag .JQ_STS_FROZEN = false ∧ sq.frozen = false ∧ sq.head ≠ sq.tail ∧ s.outstanding < 65536 ∧ s.flag .X_FE_PAUSE = false ∧ s.pairHalted f = false ∧ b.length = 64) :=
  ⟨⟨run [], 0, 0x00460001, 0x00010001, by decide +kernel⟩,
  ⟨run [(.X_CC, 0, 1)], 0, by decide +kernel⟩,
  ⟨run [(.X_CSTS_RDY, 0, 1)], 0, 5, by decide +kernel⟩,
  ⟨{ run [(.X_CSTS_RDY, 0, 1)] with cqs := [⟨0, 0, 4, 0, 0, 0, true, true, 0⟩] }, 0, 0, ComplQ.mk 0 0 4 0 0 0 true true 0, by decide +kernel⟩,
  ⟨{ run [(.X_CSTS_RDY, 0, 1)] with sqs := [⟨0, 0, 4, 0, 0, 1, 1, 0, 1, false, 0, false⟩] }, 0, 0, SubQ.mk 0 0 4 0 0 1 1 0 1 false 0 false, by decide +kernel⟩,
  ⟨{ run [(.X_CSTS_RDY, 0, 1)] with sqs := [⟨0, 0, 4, 0, 0, 3, 0, 0, 1, false, 0, false⟩] }, 0, 0, SubQ.mk 0 0 4 0 0 3 0 0 1 false 0 false, bytes64 [(0, 6)], by decide +kernel⟩⟩

theorem witness_IoQueuesAreCreatedAndDeleted :
    (∃ (s : State) (n : Nat) (c : Cmd) (r : Result), s.nvmeCmd n true 0x01 = some c ∧ c.queueFault (s.grantedSq c.fn) (s.sq? c.fn (c.dw 10 % 65536)).isSome = some r)
    ∧ (∃ (s : State) (n : Nat) (c : Cmd), s.nvmeCmd n true 0x01 = some c ∧ c.queueFault (s.grantedSq c.fn) (s.sq? c.fn (c.dw 10 % 65536)).isSome = none ∧ c.dw 11 / 65536 ≠ 0 ∧ c.dw 11 / 65536 ≤ s.grantedCq c.fn ∧ (s.cq? c.fn (c.dw 11 / 65536)).isSome = true)
    ∧ (∃ (s : State) (n : Nat) (c : Cmd), s.nvmeCmd n true 0x05 = some c ∧ c.queueFault (s.grantedCq c.fn) (s.cq? c.fn (c.dw 10 % 65536)).isSome = none)
    ∧ (∃ (s : State) (n : Nat) (c : Cmd) (q : SubQ), s.nvmeCmd n true 0x00 = some c ∧ s.sq? c.fn (c.dw 10 % 65536) = some q ∧ c.dw 10 % 65536 ≠ 0 ∧ q.frozen = false)
    ∧ (∃ (s : State) (n : Nat) (c : Cmd), s.nvmeCmd n true 0x00 = some c ∧ s.sq? c.fn (c.dw 10 % 65536) = none)
    ∧ (∃ (s : State) (n : Nat) (c : Cmd), s.nvmeCmd n true 0x04 = some c ∧ c.dw 10 % 65536 ≠ 0 ∧ (s.cq? c.fn (c.dw 10 % 65536)).isSome = true) :=
  ⟨⟨withCmd [] (sqe 0 1 []), 1, sqe 0 1 [], vInvalidQueue, by decide +kernel⟩,
  ⟨{ withCmd [(.X_POOL_HELD, 0, 2)] (sqe 0 1 [(40, 0x00010001), (44, 0x00010001)]) with cqs := [⟨0, 1, 4, 0, 0, 0, true, true, 0⟩] }, 1, sqe 0 1 [(40, 0x00010001), (44, 0x00010001)], by decide +kernel⟩,
  ⟨withCmd [(.X_POOL_HELD, 0, 2)] (sqe 0 5 [(40, 0x0FFF0001), (44, 1)]), 1, sqe 0 5 [(40, 0x0FFF0001), (44, 1)], by decide +kernel⟩,
  ⟨{ withCmd [] (sqe 0 0 [(40, 5)]) with sqs := [⟨0, 5, 4, 0, 0, 0, 0, 0, 1, false, 0, false⟩] }, 1, sqe 0 0 [(40, 5)], SubQ.mk 0 5 4 0 0 0 0 0 1 false 0 false, by decide +kernel⟩,
  ⟨withCmd [] (sqe 0 0 [(40, 5)]), 1, sqe 0 0 [(40, 5)], by decide +kernel⟩,
  ⟨{ withCmd [] (sqe 0 4 [(40, 1)]) with cqs := [⟨0, 1, 4, 0, 0, 0, true, true, 0⟩] }, 1, sqe 0 4 [(40, 1)], by decide +kernel⟩⟩

theorem witness_AbortEventsAndGetFeatures :
    (∃ (s : State) (n : Nat) (c : Cmd), s.nvmeCmd n true 0x08 = some c ∧ 8 ≤ s.abortsBefore c)
    ∧ (∃ (s : State) (n : Nat) (c : Cmd), s.nvmeCmd n true 0x08 = some c ∧ s.abortsBefore c < 8 ∧ ((s.cmds.find? fun t => t.nvme && t.fn = c.fn && t.q = c.dw 10 % 65536 && t.tag = c.dw 10 / 65536 && t.id ≠ c.id) = none))
    ∧ (∃ (s : State) (n : Nat) (c : Cmd) (t : Cmd), s.nvmeCmd n true 0x08 = some c ∧ s.abortsBefore c < 8 ∧ ((s.cmds.find? fun t => t.nvme && t.fn = c.fn && t.q = c.dw 10 % 65536 && t.tag = c.dw 10 / 65536 && t.id ≠ c.id) = some t))
    ∧ (∃ (s : State) (n : Nat) (c : Cmd) (e : Nat × Nat × Nat × Nat), s.nvmeCmd n true 0x0C = some c ∧ ((s.asyncWaiting.find? fun e => e.1 = c.fn) = some e))
    ∧ (∃ (s : State) (n : Nat) (c : Cmd), s.nvmeCmd n true 0x0C = some c ∧ ((s.asyncWaiting.find? fun e => e.1 = c.fn) = none))
    ∧ (∃ (s : State) (n : Nat) (c : Cmd) (v : Nat), s.nvmeCmd n true 0x0A = some c ∧ c.dw 10 % 256 ≠ 0x0E ∧ c.dw 10 % 256 ≠ 0xC1 ∧ s.featureValue c.fn (c.dw 10 % 256) (c.dw 11) = some v)
    ∧ (∃ (s : State) (n : Nat) (c : Cmd), s.nvmeCmd n true 0x0A = some c ∧ c.dw 10 % 256 ≠ 0x0E ∧ c.dw 10 % 256 ≠ 0xC1 ∧ s.featureValue c.fn (c.dw 10 % 256) (c.dw 11) = none)
    ∧ (∃ (s : State) (n : Nat) (c : Cmd), s.nvmeCmd n true 0x0A = some c ∧ c.dw 10 % 256 = 0x0E)
    ∧ (∃ (s : State) (n : Nat) (c : Cmd) (v : Nat), s.nvmeCmd n true 0x0A = some c ∧ c.dw 10 % 256 = 0xC1 ∧ s.featureValue c.fn 0xC1 (c.dw 11) = some v) :=
  ⟨⟨{ run [] with cmds := (List.range 9).map fun k => { sqe 0 8 [] with id := k } }, 8, { sqe 0 8 [] with id := 8 }, by decide +kernel⟩,
  ⟨withCmd [] (sqe 0 8 []), 1, sqe 0 8 [], by decide +kernel⟩,
  ⟨{ withCmd [] (sqe 0 8 []) with cmds := [sqe 0 8 [(40, 0x00020003)], { sqe 3 2 [] with id := 2, tag := 2, st := .admitted }] }, 1, sqe 0 8 [(40, 0x00020003)], { sqe 3 2 [] with id := 2, tag := 2, st := .admitted }, by decide +kernel⟩,
  ⟨{ withCmd [] (sqe 0 12 []) with asyncWaiting := [(0, 7, 0, 0xC2)] }, 1, sqe 0 12 [], (0, 7, 0, 0xC2), by decide +kernel⟩,
  ⟨withCmd [] (sqe 0 12 []), 1, sqe 0 12 [], by decide +kernel⟩,
  ⟨withCmd [(.X_FEAT_ARB, 0, 5)] (sqe 0 10 [(40, 1)]), 1, sqe 0 10 [(40, 1)], 5, by decide +kernel⟩,
  ⟨withCmd [] (sqe 0 10 [(40, 4), (44, 0x40000)]), 1, sqe 0 10 [(40, 4), (44, 0x40000)], by decide +kernel⟩,
  ⟨withCmd [] (sqe 0 10 [(40, 14)]), 1, sqe 0 10 [(40, 14)], by decide +kernel⟩,
  ⟨withCmd [(.X_FEAT_QATTR, 128, 0x10000)] (sqe 0 10 [(40, 0xC1), (44, 128)]), 1, sqe 0 10 [(40, 0xC1), (44, 128)], 0x10080, by decide +kernel⟩⟩

theorem witness_SetFeaturesStoreTheirValues :
    (∃ (s : State) (n : Nat) (c : Cmd), s.nvmeCmd n true 0x09 = some c ∧ c.dw 10 % 256 = 0x01)
    ∧ (∃ (s : State) (n : Nat) (c : Cmd), s.nvmeCmd n true 0x09 = some c ∧ c.dw 10 % 256 = 0x02 ∧ 4 < c.dw 11 % 32)
    ∧ (∃ (s : State) (n : Nat) (c : Cmd), s.nvmeCmd n true 0x09 = some c ∧ c.dw 10 % 256 = 0x02 ∧ c.dw 11 % 32 ≤ 2 ∧ (((s.put .X_FEAT_PS (c.dw 11 % 32) c.fn).put .X_FEAT_LASTOP (c.dw 11 % 32) c.fn).noteDemand s).anyBusy = true)
    ∧ (∃ (s : State) (n : Nat) (c : Cmd), s.nvmeCmd n true 0x09 = some c ∧ c.dw 10 % 256 = 0x04 ∧ c.dw 11 / 65536 % 16 ≤ 3 ∧ c.dw 11 / 2 ^ 20 % 4 ≤ 1)
    ∧ (∃ (s : State) (n : Nat) (c : Cmd), s.nvmeCmd n true 0x09 = some c ∧ c.dw 10 % 256 = 0x04 ∧ c.dw 11 / 65536 % 16 = 15 ∧ c.dw 11 / 2 ^ 20 % 4 ≤ 1)
    ∧ (∃ (s : State) (n : Nat) (c : Cmd), s.nvmeCmd n true 0x09 = some c ∧ c.dw 10 % 256 = 0x04 ∧ 3 < c.dw 11 / 65536 % 16 ∧ c.dw 11 / 65536 % 16 ≠ 15)
    ∧ (∃ (s : State) (n : Nat) (c : Cmd), s.nvmeCmd n true 0x09 = some c ∧ c.dw 10 % 256 = 0x04 ∧ 1 < c.dw 11 / 2 ^ 20 % 4)
    ∧ (∃ (s : State) (n : Nat) (c : Cmd), s.nvmeCmd n true 0x09 = some c ∧ c.dw 10 % 256 = 0x05)
    ∧ (∃ (s : State) (n : Nat) (c : Cmd), s.nvmeCmd n true 0x09 = some c ∧ c.dw 10 % 256 = 0x07 ∧ ((s.sqs.any fun q => q.fn = c.fn && q.qid ≠ 0) = true) ∧ c.dw 11 % 65536 ≠ 65535 ∧ c.dw 11 / 65536 ≠ 65535)
    ∧ (∃ (s : State) (n : Nat) (c : Cmd), s.nvmeCmd n true 0x09 = some c ∧ c.dw 10 % 256 = 0x08)
    ∧ (∃ (s : State) (n : Nat) (c : Cmd), s.nvmeCmd n true 0x09 = some c ∧ c.dw 10 % 256 = 0x09)
    ∧ (∃ (s : State) (n : Nat) (c : Cmd), s.nvmeCmd n true 0x09 = some c ∧ c.dw 10 % 256 = 0x0B)
    ∧ (∃ (s : State) (n : Nat) (c : Cmd), s.nvmeCmd n true 0x09 = some c ∧ c.dw 10 % 256 = 0x0E)
    ∧ (∃ (s : State) (n : Nat) (c : Cmd), s.nvmeCmd n true 0x09 = some c ∧ c.dw 10 % 256 = 0xC1 ∧ (c.dw 11 % 65536 = 0 ∨ 128 < c.dw 11 % 65536))
    ∧ (∃ (s : State) (n : Nat) (c : Cmd), s.nvmeCmd n true 0x09 = some c ∧ c.dw 10 % 256 = 0x07 ∧ c.dw 11 % 65536 ≠ 65535 ∧ c.dw 11 / 65536 ≠ 65535 ∧ ((s.sqs.any fun q => q.fn = c.fn && q.qid ≠ 0) = false) ∧ ((s.cqs.any fun q => q.fn = c.fn && q.qid ≠ 0) = false) ∧ s.poolFree c.fn ≠ 0)
    ∧ (∃ (s : State) (n : Nat) (c : Cmd), s.nvmeCmd n true 0x09 = some c ∧ c.dw 10 % 256 = 0xC1 ∧ c.dw 11 % 65536 ≠ 0 ∧ c.dw 11 % 65536 ≤ 128 ∧ c.dw 11 / 65536 % 4 ≠ 3 ∧ bit (c.dw 11) 19 = false ∧ c.dw 11 / 2 ^ 28 = 0) :=
  ⟨⟨withCmd [] (sqe 0 9 [(40, 1), (44, 0x01020307)]), 1, sqe 0 9 [(40, 1), (44, 0x01020307)], by decide +kernel⟩,
  ⟨withCmd [] (sqe 0 9 [(40, 2), (44, 5)]), 1, sqe 0 9 [(40, 2), (44, 5)], by decide +kernel⟩,
  ⟨{ withCmd [] (sqe 0 9 []) with cmds := [sqe 0 9 [(40, 2), (44, 2)], { pkt 1 [] with id := 2, st := .admitted }] }, 1, sqe 0 9 [(40, 2), (44, 2)], by decide +kernel⟩,
  ⟨withCmd [] (sqe 0 9 [(40, 4), (44, 0x130150)]), 1, sqe 0 9 [(40, 4), (44, 0x130150)], by decide +kernel⟩,
  ⟨withCmd [] (sqe 0 9 [(40, 4), (44, 0x1F0150)]), 1, sqe 0 9 [(40, 4), (44, 0x1F0150)], by decide +kernel⟩,
  ⟨withCmd [] (sqe 0 9 [(40, 4), (44, 0x040150)]), 1, sqe 0 9 [(40, 4), (44, 0x040150)], by decide +kernel⟩,
  ⟨withCmd [] (sqe 0 9 [(40, 4), (44, 0x200150)]), 1, sqe 0 9 [(40, 4), (44, 0x200150)], by decide +kernel⟩,
  ⟨withCmd [] (sqe 0 9 [(40, 5), (44, 100)]), 1, sqe 0 9 [(40, 5), (44, 100)], by decide +kernel⟩,
  ⟨{ withCmd [] (sqe 0 9 [(40, 7), (44, 0x00030003)]) with sqs := [⟨0, 5, 4, 0, 0, 0, 0, 0, 1, false, 0, false⟩] }, 1, sqe 0 9 [(40, 7), (44, 0x00030003)], by decide +kernel⟩,
  ⟨withCmd [] (sqe 0 9 [(40, 8), (44, 0x0102)]), 1, sqe 0 9 [(40, 8), (44, 0x0102)], by decide +kernel⟩,
  ⟨withCmd [] (sqe 0 9 [(40, 9), (44, 0x10005)]), 1, sqe 0 9 [(40, 9), (44, 0x10005)], by decide +kernel⟩,
  ⟨withCmd [] (sqe 0 9 [(40, 11), (44, 0x80000000)]), 1, sqe 0 9 [(40, 11), (44, 0x80000000)], by decide +kernel⟩,
  ⟨withCmd [] (sqe 0 9 [(40, 14)]), 1, sqe 0 9 [(40, 14)], by decide +kernel⟩,
  ⟨withCmd [] (sqe 0 9 [(40, 0xC1), (44, 129)]), 1, sqe 0 9 [(40, 0xC1), (44, 129)], by decide +kernel⟩,
  ⟨withCmd [] (sqe 0 9 [(40, 7), (44, 0xFFFEFFFE)]), 1, sqe 0 9 [(40, 7), (44, 0xFFFEFFFE)], by decide +kernel⟩,
  ⟨withCmd [] (sqe 0 9 [(40, 0xC1), (44, 0x0FF60080)]), 1, sqe 0 9 [(40, 0xC1), (44, 0x0FF60080)], by decide +kernel⟩⟩

theorem witness_NvmeIoCommands :
    (∃ (s : State) (n : Nat) (c : Cmd), s.nvmeCmd n false 0x02 = some c)
    ∧ (∃ (s : State) (n : Nat) (c : Cmd), s.nvmeCmd n false 0x0C = some c)
    ∧ (∃ (s : State) (n : Nat) (c : Cmd), s.nvmeCmd n false 0x01 = some c)
    ∧ (∃ (s : State) (n : Nat) (c : Cmd), s.nvmeCmd n false 0x08 = some c)
    ∧ (∃ (s : State) (c : Cmd) (r : Result), s.ioVerdict (s.onRange c c.slba c.nlb) (c.op = 0x01) rightWrite = some r)
    ∧ (∃ (s : State) (n : Nat) (c : Cmd) (r : Result), s.nvmeCmd n false 0x00 = some c ∧ s.sanVerdict = some r)
    ∧ (∃ (s : State) (n : Nat) (c : Cmd), s.nvmeCmd n false 0x00 = some c ∧ s.sanVerdict = none ∧ (c.dw 1 = 0xFFFFFFFF ∨ s.nsVerdict c.fn (c.dw 1) = none))
    ∧ (∃ (s : State) (n : Nat) (c : Cmd), s.nvmeCmd n false 0x09 = some c ∧ s.sanVerdict = none ∧ s.nsVerdict c.fn (c.dw 1) = none ∧ s.notReady (c.dw 1 - 1) = true)
    ∧ (∃ (s : State) (n : Nat) (c : Cmd), s.nvmeCmd n false 0x09 = some c ∧ s.sanVerdict = none ∧ s.nsVerdict c.fn (c.dw 1) = none ∧ s.notReady (c.dw 1 - 1) = false ∧ bit (c.dw 11) 2 = false)
    ∧ (∃ (s : State) (n : Nat) (c : Cmd) (r : Result), s.nvmeCmd n false 0x09 = some c ∧ s.sanVerdict = some r)
    ∧ (∃ (s : State) (n : Nat) (c : Cmd) (l : List LbaRange), s.nvmeCmd n false 0x09 = some c ∧ s.sanVerdict = none ∧ s.nsVerdict c.fn (c.dw 1) = none ∧ s.notReady (c.dw 1 - 1) = false ∧ bit (c.dw 11) 2 = true ∧ ((((l.take (c.dw 10 % 256 + 1)).filter fun r : LbaRange => r.len ≠ 0).map fun r => s.onRange c r.lba r.len).findSome? (fun d => s.rangeVerdict d d.node d.lba d.len rightWrite) = none)) :=
  ⟨⟨withCmd [] (sqe 1 2 [(4, 1)]), 1, sqe 1 2 [(4, 1)], by decide +kernel⟩,
  ⟨withCmd [] (sqe 1 12 [(4, 1)]), 1, sqe 1 12 [(4, 1)], by decide +kernel⟩,
  ⟨withCmd [] (sqe 1 1 [(4, 1)]), 1, sqe 1 1 [(4, 1)], by decide +kernel⟩,
  ⟨withCmd [] (sqe 1 8 [(4, 1)]), 1, sqe 1 8 [(4, 1)], by decide +kernel⟩,
  ⟨withCmd [] (sqe 1 1 [(4, 4097)]), sqe 1 1 [(4, 4097)], vInvalidNs, by decide +kernel⟩,
  ⟨withCmd [(.X_SAN_ST, 0, 2)] (sqe 1 0 [(4, 1)]), 1, sqe 1 0 [(4, 1)], vSanitizing, by decide +kernel⟩,
  ⟨withCmd [] (sqe 1 0 [(4, 0xFFFFFFFF)]), 1, sqe 1 0 [(4, 0xFFFFFFFF)], by decide +kernel⟩,
  ⟨{ run [] with nodes := [{ vol 0 with formatting := some 5 }], cmds := [sqe 1 9 [(4, 1)]] }, 1, sqe 1 9 [(4, 1)], by decide +kernel⟩,
  ⟨withCmd [] (sqe 1 9 [(4, 1)]), 1, sqe 1 9 [(4, 1)], by decide +kernel⟩,
  ⟨withCmd [(.X_SAN_FM, 0, 1)] (sqe 1 9 [(4, 1)]), 1, sqe 1 9 [(4, 1)], vSanitizeFailed, by decide +kernel⟩,
  ⟨withCmd [] (sqe 1 9 [(4, 1), (40, 0), (44, 4)]), 1, sqe 1 9 [(4, 1), (40, 0), (44, 4)], [LbaRange.mk 15 1], by decide +kernel⟩⟩

theorem witness_NamespacesAreCreatedDeletedAttached :
    (∃ (s : State) (n : Nat) (c : Cmd) (data : List Byte) (id : Nat) (f : Nat) (dps : Nat) (size : Nat), f = fieldAt data 26 1 % 16 + bits (fieldAt data 26 1) 6 5 * 16 ∧ dps = fieldAt data 29 1 ∧ size = (fieldAt data 0 8 * lbaBytes f + 4095) / 4096 ∧ s.nvmeCmd n true 0x0D = some c ∧ c.dw 10 % 16 = 0 ∧ s.sanVerdict = none ∧ c.fn = 0 ∧ fieldAt data 0 8 ≠ 0 ∧ fieldAt data 8 8 = fieldAt data 0 8 ∧ piOk (dps % 8) (bit dps 3) = true ∧ (dps % 8 = 0 ∨ lbaMeta f ≠ 0) ∧ fieldAt data 3072 1 ≤ 2 ∧ s.granuleOffered (fieldAt data 3072 1) = true ∧ fieldAt data 3073 1 ≤ 1 ∧ lbafOk f (fieldAt data 3072 1) (fieldAt data 3073 1) = true ∧ size ≤ 2 ^ 40 ∧ s.freeNode = some id)
    ∧ (∃ (s : State) (n : Nat) (c : Cmd) (data : List Byte), s.nvmeCmd n true 0x0D = some c ∧ c.dw 10 % 16 = 0 ∧ s.sanVerdict = none ∧ fieldAt data 0 8 ≠ 0 ∧ piOk (fieldAt data 29 1 % 8) (bit (fieldAt data 29 1) 3) = true ∧ fieldAt data 8 8 ≠ fieldAt data 0 8 ∧ fieldAt data 3072 1 ≤ 2 ∧ s.granuleOffered (fieldAt data 3072 1) = true ∧ fieldAt data 3073 1 ≤ 1)
    ∧ (∃ (s : State) (n : Nat) (c : Cmd), s.nvmeCmd n true 0x0D = some c ∧ c.dw 10 % 16 = 1 ∧ s.sanVerdict = none ∧ s.adminVerdict c = none ∧ ((s.inStack (c.dw 1 - 1) || s.armedAdds (c.dw 1 - 1)) = false → s.isVolume (c.dw 1 - 1) = true ∧ s.notReady (c.dw 1 - 1) = false))
    ∧ (∃ (s : State) (n : Nat) (c : Cmd) (v : Result), s.nvmeCmd n true 0x0D = some c ∧ c.dw 10 % 16 = 1 ∧ s.sanVerdict = none ∧ s.adminVerdict c = some v)
    ∧ (∃ (s : State) (n : Nat) (c : Cmd) (x : Node) (f : Nat), s.nvmeCmd n true 0x15 = some c ∧ s.sanVerdict = none ∧ s.adminVerdict c = none ∧ s.node? (c.dw 1 - 1) = some x ∧ x.formatting = none ∧ s.fnExists f = true ∧ c.dw 10 % 16 = 0 ∧ s.mixed (c.dw 1 - 1) = false ∧ x.attached.contains f = false)
    ∧ (∃ (s : State) (n : Nat) (c : Cmd) (x : Node) (f : Nat), s.nvmeCmd n true 0x15 = some c ∧ s.sanVerdict = none ∧ s.adminVerdict c = none ∧ s.node? (c.dw 1 - 1) = some x ∧ x.formatting = none ∧ s.fnExists f = true ∧ c.dw 10 % 16 = 1 ∧ x.attached.contains f = false)
    ∧ (∃ (s : State) (n : Nat) (c : Cmd) (x : Node) (f : Nat), s.nvmeCmd n true 0x15 = some c ∧ s.sanVerdict = none ∧ s.adminVerdict c = none ∧ s.node? (c.dw 1 - 1) = some x ∧ x.formatting = none ∧ s.fnExists f = true ∧ c.dw 10 % 16 = 1 ∧ x.attached.contains f = true)
    ∧ (∃ (s : State) (n : Nat) (c : Cmd) (x : Node), s.nvmeCmd n true 0x15 = some c ∧ s.sanVerdict = none ∧ s.adminVerdict c = none ∧ s.node? (c.dw 1 - 1) = some x ∧ c.dw 10 % 16 ≤ 1 ∧ x.formatting.isSome = true) :=
  ⟨⟨withCmd [(.CHP_CAP5_G64K, 0, 1)] (sqe 0 13 []), 1, sqe 0 13 [], natLe 8 (2 ^ 40) ++ natLe 8 (2 ^ 40) ++ natLe 3056 0 ++ [2] ++ natLe 1023 0, 2, _, _, _, rfl, rfl, rfl, by decide +kernel⟩,
  ⟨withCmd [] (sqe 0 13 []), 1, sqe 0 13 [], natLe 8 5 ++ natLe 8 4 ++ natLe 4080 0, by decide +kernel⟩,
  ⟨withCmd [] (sqe 0 13 [(4, 1), (40, 1)]), 1, sqe 0 13 [(4, 1), (40, 1)], by decide +kernel⟩,
  ⟨withCmd [] (sqe 0 13 [(4, 4097), (40, 1)]), 1, sqe 0 13 [(4, 4097), (40, 1)], vInvalidNs, by decide +kernel⟩,
  ⟨withCmd [(.HE_LINK_STS_EXISTS, 7, 1)] (sqe 0 21 [(4, 1), (40, 0)]), 1, sqe 0 21 [(4, 1), (40, 0)], vol 0, 7, by decide +kernel⟩,
  ⟨withCmd [(.HE_LINK_STS_EXISTS, 7, 1)] (sqe 0 21 [(4, 1), (40, 1)]), 1, sqe 0 21 [(4, 1), (40, 1)], vol 0, 7, by decide +kernel⟩,
  ⟨withCmd [] (sqe 0 21 [(4, 1), (40, 1)]), 1, sqe 0 21 [(4, 1), (40, 1)], vol 0, 0, by decide +kernel⟩,
  ⟨{ run [] with nodes := [{ vol 0 with formatting := some 5 }], cmds := [sqe 0 21 [(4, 1), (40, 1)]] }, 1, sqe 0 21 [(4, 1), (40, 1)], { vol 0 with formatting := some 5 }, by decide +kernel⟩⟩

theorem witness_FormatsRunAndEnd :
    (∃ (s : State) (n : Nat) (c : Cmd) (x : Node), s.nvmeCmd n true 0x80 = some c ∧ s.sanVerdict = none ∧ s.adminVerdict c = none ∧ s.node? (c.dw 1 - 1) = some x ∧ x.isStack = false ∧ (s.inStack (c.dw 1 - 1) || s.armedAdds (c.dw 1 - 1)) = false ∧ lbafOk (c.dw 10 % 16 + bits (c.dw 10) 13 12 * 16) x.granule x.codec = true ∧ bits (c.dw 10) 11 9 ≤ 2 ∧ piOk (bits (c.dw 10) 7 5) (bit (c.dw 10) 8) = true ∧ (bits (c.dw 10) 7 5 = 0 ∨ lbaMeta (c.dw 10 % 16 + bits (c.dw 10) 13 12 * 16) ≠ 0) ∧ x.formatting = none)
    ∧ (∃ (s : State) (n : Nat) (c : Cmd) (x : Node), s.nvmeCmd n true 0x80 = some c ∧ s.sanVerdict = none ∧ s.adminVerdict c = none ∧ s.node? (c.dw 1 - 1) = some x ∧ x.isStack = false ∧ (s.inStack (c.dw 1 - 1) || s.armedAdds (c.dw 1 - 1)) = false ∧ c.dw 10 % 16 = 0 ∧ bits (c.dw 10) 13 12 = 0 ∧ 2 < bits (c.dw 10) 11 9)
    ∧ (∃ (s : State) (n : Nat) (c : Cmd) (x : Node), s.nvmeCmd n true 0x80 = some c ∧ s.sanVerdict = none ∧ s.adminVerdict c = none ∧ s.node? (c.dw 1 - 1) = some x ∧ x.isStack = false ∧ (s.inStack (c.dw 1 - 1) || s.armedAdds (c.dw 1 - 1)) = true)
    ∧ (∃ (s : State) (node : Nat) (x : Node) (ses : Nat), s.node? node = some x ∧ x.formatting = some ses ∧ s.formatDone node ses = true)
    ∧ (∃ (s : State) (node : Nat) (x : Node), s.node? node = some x ∧ (x.formatting = none ∨ ∃ ses, x.formatting = some ses ∧ s.formatDone node ses = false)) :=
  ⟨⟨{ withCmd [] (sqe 0 128 [(4, 3)]) with nodes := [vol 2] }, 1, sqe 0 128 [(4, 3)], vol 2, by decide +kernel⟩,
  ⟨{ withCmd [] (sqe 0 128 [(4, 3), (40, 0x600)]) with nodes := [vol 2] }, 1, sqe 0 128 [(4, 3), (40, 0x600)], vol 2, by decide +kernel⟩,
  ⟨withCmd [] (sqe 0 128 [(4, 1)]), 1, sqe 0 128 [(4, 1)], vol 0, by decide +kernel⟩,
  ⟨{ run [] with nodes := [{ vol 0 with formatting := some 2 }] }, 0, ({ vol 0 with formatting := some 2 } : Node), 2, by decide +kernel⟩,
  ⟨{ run [] with nodes := [vol 0] }, 0, vol 0, by decide +kernel⟩⟩

theorem witness_SanitizeActions :
    (∃ (s : State) (n : Nat) (c : Cmd), s.nvmeCmd n true 0x84 = some c ∧ c.dw 10 % 8 = 2 ∧ s.sanitizing = false ∧ (∀ x ∈ s.nodes, bit (s.rightsOf c.fn x.id) rightAdmin = true) ∧ bit (c.dw 10) 9 = false ∧ s.flag .X_SAN_FM = false)
    ∧ (∃ (s : State) (n : Nat) (c : Cmd), s.nvmeCmd n true 0x84 = some c ∧ c.dw 10 % 8 = 4 ∧ s.sanitizing = false ∧ (∀ x ∈ s.nodes, bit (s.rightsOf c.fn x.id) rightAdmin = true) ∧ bit (c.dw 10) 9 = false ∧ s.flag .X_SAN_FM = false)
    ∧ (∃ (s : State) (n : Nat) (c : Cmd), s.nvmeCmd n true 0x84 = some c ∧ c.dw 10 % 8 = 2 ∧ s.sanitizing = true)
    ∧ (∃ (s : State) (n : Nat) (c : Cmd), s.nvmeCmd n true 0x84 = some c ∧ c.dw 10 % 8 = 4 ∧ s.sanitizing = true)
    ∧ (∃ (s : State) (n : Nat) (c : Cmd), s.nvmeCmd n true 0x84 = some c ∧ c.dw 10 % 8 = 4 ∧ s.sanitizing = false ∧ (∃ x ∈ s.nodes, x.deleting = false ∧ bit (s.rightsOf c.fn x.id) rightAdmin = false) ∧ c.fn ≠ 0)
    ∧ (∃ (s : State) (n : Nat) (c : Cmd), s.nvmeCmd n true 0x84 = some c ∧ c.dw 10 % 8 = 3)
    ∧ (∃ (s : State) (n : Nat) (c : Cmd), s.nvmeCmd n true 0x84 = some c ∧ c.dw 10 % 8 = 1 ∧ s.sanitizing = false)
    ∧ (∃ (s : State) (t : State) (c : Cmd) (crypto : Bool), s.startSanitize c crypto = t ∧ crypto = false)
    ∧ (∃ (s : State), s.sanitizing = true ∧ s.sanitizeWorkDone = true) :=
  ⟨⟨withCmd [(.X_RDEF, 0, 15)] (sqe 0 132 [(40, 2)]), 1, sqe 0 132 [(40, 2)], by decide +kernel⟩,
  ⟨withCmd [(.X_RDEF, 0, 15)] (sqe 0 132 [(40, 4)]), 1, sqe 0 132 [(40, 4)], by decide +kernel⟩,
  ⟨withCmd [(.X_SAN_ST, 0, 2)] (sqe 0 132 [(40, 2)]), 1, sqe 0 132 [(40, 2)], by decide +kernel⟩,
  ⟨withCmd [(.X_SAN_ST, 0, 2)] (sqe 0 132 [(40, 4)]), 1, sqe 0 132 [(40, 4)], by decide +kernel⟩,
  ⟨withCmd [(.X_RDEF, 1, 7)] { sqe 0 132 [(40, 4)] with fn := 1 }, 1, { sqe 0 132 [(40, 4)] with fn := 1 }, by decide +kernel⟩,
  ⟨withCmd [] (sqe 0 132 [(40, 3)]), 1, sqe 0 132 [(40, 3)], by decide +kernel⟩,
  ⟨withCmd [(.X_SAN_ST, 0, 3)] (sqe 0 132 [(40, 1)]), 1, sqe 0 132 [(40, 1)], by decide +kernel⟩,
  ⟨withCmd [] (sqe 0 132 [(40, 2)]), _, sqe 0 132 [(40, 2)], false, rfl, rfl⟩,
  ⟨run [(.X_SAN_ST, 0, 2), (.X_SAN_CRYPTO, 0, 1)], by decide +kernel⟩⟩

theorem witness_LogPagesAndIdentifyAnswer :
    (∃ (s : State) (n : Nat) (c : Cmd), s.nvmeCmd n true 0x02 = some c ∧ c.logOff % 4 = 0 ∧ c.logLen ≤ mdts ∧ s.sanVerdict = none ∧ c.lid = 0x03)
    ∧ (∃ (s : State) (n : Nat) (c : Cmd), s.nvmeCmd n true 0x02 = some c ∧ c.logOff % 4 = 0 ∧ c.logLen ≤ mdts ∧ s.sanVerdict = none ∧ c.lid = 0x81)
    ∧ (∃ (s : State) (n : Nat) (c : Cmd), s.nvmeCmd n true 0x02 = some c ∧ c.logOff % 4 = 0 ∧ c.logLen ≤ mdts ∧ s.sanVerdict = none ∧ c.lid = 0)
    ∧ (∃ (s : State) (n : Nat) (c : Cmd), s.nvmeCmd n true 0x02 = some c ∧ c.logOff % 4 = 0 ∧ c.logLen ≤ mdts ∧ s.sanVerdict = none ∧ c.lid = 0xC0 ∧ s.hasNsFam c.fn = false)
    ∧ (∃ (s : State) (n : Nat) (c : Cmd), s.nvmeCmd n true 0x02 = some c ∧ c.logOff % 4 = 0 ∧ c.logLen ≤ mdts ∧ s.sanVerdict = none ∧ c.lid = 0xC1 ∧ c.fn ≠ 0)
    ∧ (∃ (s : State) (n : Nat) (c : Cmd), s.nvmeCmd n true 0x02 = some c ∧ c.logOff % 4 = 0 ∧ c.logLen ≤ mdts ∧ s.sanVerdict = none ∧ c.lid = 0xC1 ∧ c.fn = 0 ∧ bit c.lsp 0 = false ∧ c.logOff = 0)
    ∧ (∃ (s : State) (n : Nat) (c : Cmd), s.nvmeCmd n true 0x02 = some c ∧ c.logOff % 4 = 0 ∧ c.logLen ≤ mdts ∧ s.sanVerdict = none ∧ c.lid = 0xC2 ∧ c.fn ≠ 0)
    ∧ (∃ (s : State) (n : Nat) (c : Cmd) (r : Result), s.nvmeCmd n true 0x02 = some c ∧ s.sanVerdict = some r ∧ c.lid ∉ [0x01, 0x02, 0x04, 0x81] ∧ (c.lid < 0xC0 ∨ 0xC2 < c.lid))
    ∧ (∃ (s : State) (n : Nat) (c : Cmd), s.nvmeCmd n true 0x06 = some c ∧ c.dw 10 % 256 = 0x02 ∧ c.dw 1 < 0xFFFFFFFE)
    ∧ (∃ (s : State) (n : Nat) (c : Cmd), s.nvmeCmd n true 0x06 = some c ∧ c.dw 10 % 256 = 0x01)
    ∧ (∃ (s : State) (n : Nat) (c : Cmd), s.nvmeCmd n true 0x06 = some c ∧ c.dw 10 % 256 = 0x20) :=
  ⟨⟨withCmd [] (sqe 0 2 [(40, 0x007F0003), (48, 512)]), 1, sqe 0 2 [(40, 0x007F0003), (48, 512)], by decide +kernel⟩,
  ⟨withCmd [] (sqe 0 2 [(40, 0x007F0081)]), 1, sqe 0 2 [(40, 0x007F0081)], by decide +kernel⟩,
  ⟨withCmd [] (sqe 0 2 [(40, 0x007F0000)]), 1, sqe 0 2 [(40, 0x007F0000)], by decide +kernel⟩,
  ⟨withCmd [] { sqe 0 2 [(40, 0x007F00C0)] with fn := 1 }, 1, { sqe 0 2 [(40, 0x007F00C0)] with fn := 1 }, by decide +kernel⟩,
  ⟨withCmd [] { sqe 0 2 [(40, 0x007F00C1)] with fn := 1 }, 1, { sqe 0 2 [(40, 0x007F00C1)] with fn := 1 }, by decide +kernel⟩,
  ⟨withCmd [] (sqe 0 2 [(40, 0x007F00C1)]), 1, sqe 0 2 [(40, 0x007F00C1)], by decide +kernel⟩,
  ⟨withCmd [] { sqe 0 2 [(40, 0x007F00C2)] with fn := 1 }, 1, { sqe 0 2 [(40, 0x007F00C2)] with fn := 1 }, by decide +kernel⟩,
  ⟨withCmd [(.X_SAN_ST, 0, 2)] (sqe 0 2 [(40, 0x007F0005)]), 1, sqe 0 2 [(40, 0x007F0005)], vSanitizing, by decide +kernel⟩,
  ⟨withCmd [] (sqe 0 6 [(4, 0xFFFFFFFD), (40, 2)]), 1, sqe 0 6 [(4, 0xFFFFFFFD), (40, 2)], by decide +kernel⟩,
  ⟨withCmd [] (sqe 0 6 [(40, 1)]), 1, sqe 0 6 [(40, 1)], by decide +kernel⟩,
  ⟨withCmd [] (sqe 0 6 [(40, 0x20)]), 1, sqe 0 6 [(40, 0x20)], by decide +kernel⟩⟩

theorem witness_ManagementEndpointAnswers :
    (∃ (s : State) (v : Nat), s.powered = true ∧ s.mode = mReady ∧ 1 ≤ v ∧ v ≤ 3)
    ∧ (∃ (s : State) (v : Nat), s.powered = true ∧ s.mode = mReady ∧ 64 ≤ v ∧ v < 65536)
    ∧ (∃ (s : State) (i : Nat) (v : Nat), s.powered = true ∧ s.mode = mReady ∧ (i ≠ 1 ∧ i ≠ 3 ∨ i = 1 ∧ (v = 0 ∨ 3 < v) ∨ i = 3 ∧ v < 64))
    ∧ (∃ (s : State) (b : List Byte) (c : Cmd) (v : Nat), s.powered = true ∧ s.mode = mReady ∧ c = newCmd 0 true 0 0 0 (fieldAt b 0 1) s.tick b ∧ c.op = 0x0A ∧ c.dw 10 % 256 ≠ 0x0E ∧ s.featureValue 0 (c.dw 10 % 256) (c.dw 11) = some v)
    ∧ (∃ (s : State) (b : List Byte) (c : Cmd), s.powered = true ∧ s.mode = mReady ∧ c = newCmd 0 true 0 0 0 (fieldAt b 0 1) s.tick b ∧ c.op ≠ 0x0A ∧ c.op ≠ 0x02 ∧ c.op ≠ 0x06)
    ∧ (∃ (s : State), (s.powered = false ∨ s.mode = mHoldup)) :=
  ⟨⟨State.reset, 3, by decide +kernel⟩,
  ⟨State.reset, 65535, by decide +kernel⟩,
  ⟨State.reset, 3, 63, by decide +kernel⟩,
  ⟨wr [(.X_FEAT_PS, 0, 2)], bytes64 [(0, 10), (40, 2)], newCmd 0 true 0 0 0 10 0 (bytes64 [(0, 10), (40, 2)]), 2, by decide +kernel⟩,
  ⟨State.reset, bytes64 [(0, 9)], newCmd 0 true 0 0 0 9 0 (bytes64 [(0, 9)]), by decide +kernel⟩,
  ⟨wr [(.PM_MODE_MODE, 0, 7)], by decide +kernel⟩⟩

theorem witness_FirmwareCommandsAreTaken :
    (∃ (s : State) (n : Nat) (c : Cmd) (b : List Byte), s.nvmeCmd n true 0x11 = some c ∧ s.sanVerdict = none ∧ c.dw 11 % 1024 = 0 ∧ (c.dw 10 + 1) % 1024 = 0 ∧ 4 * c.dw 11 + 4 * (c.dw 10 + 1) ≤ 67108864 ∧ b.length = 4 * (c.dw 10 + 1))
    ∧ (∃ (s : State) (n : Nat) (c : Cmd), s.nvmeCmd n true 0x11 = some c ∧ s.sanVerdict = none ∧ c.dw 11 % 1024 ≠ 0)
    ∧ (∃ (s : State) (n : Nat) (c : Cmd) (a : Nat), s.nvmeCmd n true 0x10 = some c ∧ s.sanVerdict = none ∧ s.flag .FW_STS_COMMIT_BUSY = false ∧ c.st = .taken ∧ c.dw 10 % 8 ≤ 4 ∧ a < 8)
    ∧ (∃ (s : State) (n : Nat) (c : Cmd), s.nvmeCmd n true 0x10 = some c ∧ s.sanVerdict = none ∧ s.flag .FW_STS_COMMIT_BUSY = false ∧ c.st = .taken ∧ c.dw 10 % 8 ≤ 4 ∧ bits (c.dw 10) 5 3 = 0)
    ∧ (∃ (s : State) (n : Nat) (c : Cmd), s.nvmeCmd n true 0x10 = some c ∧ s.sanVerdict = none ∧ s.flag .FW_STS_COMMIT_BUSY = false ∧ c.st = .taken ∧ c.dw 10 % 8 ≤ 4 ∧ bits (c.dw 10) 5 3 = 1)
    ∧ (∃ (s : State) (n : Nat) (c : Cmd), s.nvmeCmd n true 0x10 = some c ∧ s.sanVerdict = none ∧ s.flag .FW_STS_COMMIT_BUSY = false ∧ c.st = .taken ∧ c.dw 10 % 8 ≤ 4 ∧ bits (c.dw 10) 5 3 = 3)
    ∧ (∃ (s : State) (n : Nat) (c : Cmd), s.nvmeCmd n true 0x10 = some c ∧ s.sanVerdict = none ∧ s.flag .FW_STS_COMMIT_BUSY = false ∧ c.st = .taken ∧ c.dw 10 % 8 ≤ 4 ∧ bits (c.dw 10) 5 3 = 5)
    ∧ (∃ (s : State) (n : Nat) (c : Cmd) (k : Nat), s.nvmeCmd n true 0x10 = some c ∧ s.sanVerdict = none ∧ s.flag .FW_STS_COMMIT_BUSY = false ∧ c.st = .taken ∧ c.dw 10 % 8 ≤ 4 ∧ bits (c.dw 10) 5 3 = 2 ∧ s.targetSlot (c.dw 10 % 8) = k ∧ k = s.get .FW_ACTIVE_RUNNING)
    ∧ (∃ (s : State) (n : Nat) (c : Cmd) (k : Nat), s.nvmeCmd n true 0x10 = some c ∧ s.sanVerdict = none ∧ s.flag .FW_STS_COMMIT_BUSY = false ∧ c.st = .taken ∧ c.dw 10 % 8 ≤ 4 ∧ bits (c.dw 10) 5 3 = 2 ∧ s.targetSlot (c.dw 10 % 8) = k ∧ k ≠ s.get .FW_ACTIVE_RUNNING ∧ s.slot? k = none)
    ∧ (∃ (s : State) (n : Nat) (c : Cmd) (k : Nat), s.nvmeCmd n true 0x10 = some c ∧ s.sanVerdict = none ∧ s.flag .FW_STS_COMMIT_BUSY = false ∧ c.st = .taken ∧ c.dw 10 % 8 ≤ 4 ∧ bits (c.dw 10) 5 3 = 2 ∧ s.targetSlot (c.dw 10 % 8) = k ∧ k ≠ s.get .FW_ACTIVE_RUNNING ∧ s.bootable k = true ∧ k ≠ s.get .FW_ACTIVE_ARMED ∧ s.fwActive = false)
    ∧ (∃ (k : Nat), k < 8) :=
  ⟨⟨withCmd [] (sqe 0 0x11 [(40, 1023)]), 1, sqe 0 0x11 [(40, 1023)], List.replicate 4096 0, by decide +kernel⟩,
  ⟨withCmd [] (sqe 0 0x11 [(40, 1023), (44, 1)]), 1, sqe 0 0x11 [(40, 1023), (44, 1)], by decide +kernel⟩,
  ⟨withCmd [] (sqe 0 0x10 [(40, 4)]), 1, sqe 0 0x10 [(40, 4)], 7, by decide +kernel⟩,
  ⟨withCmd [] (sqe 0 0x10 [(40, 4)]), 1, sqe 0 0x10 [(40, 4)], by decide +kernel⟩,
  ⟨withCmd [] (sqe 0 0x10 [(40, 8)]), 1, sqe 0 0x10 [(40, 8)], by decide +kernel⟩,
  ⟨withCmd [] (sqe 0 0x10 [(40, 25)]), 1, sqe 0 0x10 [(40, 25)], by decide +kernel⟩,
  ⟨withCmd [] (sqe 0 0x10 [(40, 42)]), 1, sqe 0 0x10 [(40, 42)], by decide +kernel⟩,
  ⟨withCmd [(.FW_ACTIVE_RUNNING, 0, 1)] (sqe 0 0x10 [(40, 17)]), 1, sqe 0 0x10 [(40, 17)], 1, by decide +kernel⟩,
  ⟨withCmd [(.FW_ACTIVE_RUNNING, 0, 1)] (sqe 0 0x10 [(40, 20)]), 1, sqe 0 0x10 [(40, 20)], 4, by decide +kernel⟩,
  ⟨{ withCmd [(.FW_ACTIVE_RUNNING, 0, 1)] (sqe 0 0x10 [(40, 20)]) with fwSlots := [img 4 0] }, 1, sqe 0 0x10 [(40, 20)], 4, by decide +kernel⟩,
  ⟨7, by decide +kernel⟩⟩

theorem witness_CommitsAreVerifiedWrittenAndActivated :
    (∃ (s : State) (g : Bool) (d : Bool) (e : Nat) (k : Nat), s.verify g d = .error (e, k) ∧ s.flag .FW_STS_COMMIT_BUSY = true ∧ s.flag .X_FW_WRITING = false ∧ s.wardenUp = true)
    ∧ (∃ (s : State) (g : Bool) (d : Bool) (x : FwSlot), s.verify g d = .ok x ∧ s.flag .FW_STS_COMMIT_BUSY = true ∧ s.flag .X_FW_WRITING = false ∧ s.wardenUp = true)
    ∧ (∃ (s : State) (x : FwSlot), s.flag .X_FW_WRITING = true ∧ s.fwNew = some x ∧ s.get .X_FW_ACT = 0)
    ∧ (∃ (s : State) (x : FwSlot), s.flag .X_FW_WRITING = true ∧ s.fwNew = some x ∧ s.get .X_FW_ACT = 1)
    ∧ (∃ (s : State) (x : FwSlot), s.flag .X_FW_WRITING = true ∧ s.fwNew = some x ∧ (s.get .X_FW_ACT = 3 ∨ s.get .X_FW_ACT = 5) ∧ bit x.flags 1 = true)
    ∧ (∃ (s : State) (x : FwSlot), s.flag .X_FW_WRITING = true ∧ s.fwNew = some x ∧ s.get .X_FW_ACT = 3 ∧ bit x.flags 1 = false) :=
  ⟨⟨run [(.UCB_STATUS_RESETTING, uWarden, 0), (.FW_STS_COMMIT_BUSY, 0, 1)], true, true, 5, 0, error_of (by decide +kernel), by decide +kernel⟩,
  ⟨{ run [(.UCB_STATUS_RESETTING, uWarden, 0), (.FW_STS_COMMIT_BUSY, 0, 1)] with pkg := pkg0 }, true, true, FwSlot.mk 1 0 (natLe 8 0) 2 [1] [⟨1, 0, 0, []⟩], ok_of (by decide +kernel), by decide +kernel⟩,
  ⟨{ run [(.UCB_STATUS_RESETTING, uWarden, 0), (.FW_STS_COMMIT_BUSY, 0, 1), (.X_FW_WRITING, 0, 1)] with fwNew := some (img 2 0) }, img 2 0, by decide +kernel⟩,
  ⟨{ run [(.UCB_STATUS_RESETTING, uWarden, 0), (.FW_STS_COMMIT_BUSY, 0, 1), (.X_FW_WRITING, 0, 1), (.X_FW_ACT, 0, 1)] with fwNew := some (img 4 0) }, img 4 0, by decide +kernel⟩,
  ⟨{ run [(.UCB_STATUS_RESETTING, uWarden, 0), (.FW_STS_COMMIT_BUSY, 0, 1), (.X_FW_WRITING, 0, 1), (.X_FW_ACT, 0, 5)] with fwNew := some (img 4 2) }, img 4 2, by decide +kernel⟩,
  ⟨{ run [(.UCB_STATUS_RESETTING, uWarden, 0), (.FW_STS_COMMIT_BUSY, 0, 1), (.X_FW_WRITING, 0, 1), (.X_FW_ACT, 0, 3)] with fwNew := some (img 4 0) }, img 4 0, by decide +kernel⟩⟩

theorem witness_LiveActivationsRollTheClusters :
    (∃ (s : State), s.get .FW_STS_ACT_STATE = fwFrontMap ∧ s.flag .X_FE_PAUSE = true)
    ∧ (∃ (s : State), s.get .FW_STS_ACT_STATE = fwFrontMap ∧ s.flag .X_FW_REV = false ∧ s.get .X_FW_MAPHALF = 1)
    ∧ (∃ (s : State), s.get .FW_STS_ACT_STATE = fwFrontMap ∧ s.flag .X_FW_REV = false ∧ s.get .X_FW_MAPHALF = 2)
    ∧ (∃ (s : State) (c : Nat), s.get .FW_STS_ACT_STATE = fwClusters ∧ s.get .FW_STS_ROLL_CLUSTER = c ∧ s.get .X_FW_PHASE = 0)
    ∧ (∃ (s : State) (c : Nat) (d : Nat), s.get .FW_STS_ACT_STATE = fwClusters ∧ s.get .FW_STS_ROLL_CLUSTER = c ∧ s.get .X_FW_PHASE = 1 ∧ s.get .X_FW_AT < s.tick ∧ d ≠ c)
    ∧ (∃ (s : State) (c : Nat), s.get .FW_STS_ACT_STATE = fwClusters ∧ s.get .FW_STS_ROLL_CLUSTER = c ∧ s.get .X_FW_PHASE = 1 ∧ s.tick ≤ s.get .X_FW_AT)
    ∧ (∃ (s : State) (c : Nat) (k : Nat), s.get .FW_STS_ACT_STATE = fwClusters ∧ s.get .FW_STS_ROLL_CLUSTER = c ∧ k < 6 ∧ c < 8 ∧ s.get .X_FW_PHASE = 2 ∧ s.get .X_FW_RDY ||| 2 ^ k ≠ 63)
    ∧ (∃ (s : State) (c : Nat) (k : Nat), s.get .FW_STS_ACT_STATE = fwClusters ∧ s.get .FW_STS_ROLL_CLUSTER = c ∧ k < 6 ∧ c < 8 ∧ s.get .X_FW_PHASE = 2 ∧ s.get .X_FW_RDY ||| 2 ^ k = 63)
    ∧ (∃ (s : State) (c : Nat) (k : Nat), s.get .FW_STS_ACT_STATE = fwClusters ∧ s.get .FW_STS_ROLL_CLUSTER = c ∧ k < 6 ∧ c < 8 ∧ s.get .X_FW_PHASE = 2 ∧ s.flag .X_FW_REV = false)
    ∧ (∃ (s : State) (c : Nat), s.get .FW_STS_ACT_STATE = fwClusters ∧ s.get .FW_STS_ROLL_CLUSTER = c ∧ s.get .X_FW_PHASE = 3 ∧ s.get .X_FW_AT < s.tick)
    ∧ (∃ (s : State) (c : Nat), s.get .FW_STS_ACT_STATE = fwClusters ∧ s.get .FW_STS_ROLL_CLUSTER = c ∧ s.flag .X_FW_REV = false ∧ c = 7)
    ∧ (∃ (s : State) (c : Nat), s.get .FW_STS_ACT_STATE = fwClusters ∧ s.get .FW_STS_ROLL_CLUSTER = c ∧ s.flag .X_FW_REV = false ∧ c < 7)
    ∧ (∃ (s : State) (c : Nat), s.get .FW_STS_ACT_STATE = fwClusters ∧ s.get .FW_STS_ROLL_CLUSTER = c ∧ s.flag .FW_STS_WAITING = true)
    ∧ (∃ (s : State) (x : FwSlot), s.get .FW_STS_ACT_STATE = fwRecording ∧ s.wardenUp = true ∧ s.slot? (s.get .FW_ACTIVE_ARMED) = some x) :=
  ⟨⟨run [(.FW_STS_ACT_STATE, 0, 2), (.X_FE_PAUSE, 0, 1)], by decide +kernel⟩,
  ⟨run [(.FW_STS_ACT_STATE, 0, 2), (.X_FW_MAPHALF, 0, 1)], by decide +kernel⟩,
  ⟨run [(.FW_STS_ACT_STATE, 0, 2), (.X_FW_MAPHALF, 0, 2)], by decide +kernel⟩,
  ⟨run [(.FW_STS_ACT_STATE, 0, 3), (.FW_STS_ROLL_CLUSTER, 0, 7)], 7, by decide +kernel⟩,
  ⟨run [(.FW_STS_ACT_STATE, 0, 3), (.FW_STS_ROLL_CLUSTER, 0, 7), (.X_FW_PHASE, 0, 1), (.TK_COUNT, 0, 5)], 7, 0, by decide +kernel⟩,
  ⟨run [(.FW_STS_ACT_STATE, 0, 3), (.X_FW_PHASE, 0, 1)], 0, by decide +kernel⟩,
  ⟨run [(.FW_STS_ACT_STATE, 0, 3), (.FW_STS_ROLL_CLUSTER, 0, 7), (.X_FW_PHASE, 0, 2)], 7, 5, by decide +kernel⟩,
  ⟨run [(.FW_STS_ACT_STATE, 0, 3), (.FW_STS_ROLL_CLUSTER, 0, 7), (.X_FW_PHASE, 0, 2), (.X_FW_RDY, 0, 62)], 7, 0, by decide +kernel⟩,
  ⟨run [(.FW_STS_ACT_STATE, 0, 3), (.FW_STS_ROLL_CLUSTER, 0, 7), (.X_FW_PHASE, 0, 2)], 7, 5, by decide +kernel⟩,
  ⟨run [(.FW_STS_ACT_STATE, 0, 3), (.FW_STS_ROLL_CLUSTER, 0, 7), (.X_FW_PHASE, 0, 3), (.TK_COUNT, 0, 5)], 7, by decide +kernel⟩,
  ⟨run [(.FW_STS_ACT_STATE, 0, 3), (.FW_STS_ROLL_CLUSTER, 0, 7)], 7, by decide +kernel⟩,
  ⟨run [(.FW_STS_ACT_STATE, 0, 3), (.FW_STS_ROLL_CLUSTER, 0, 6)], 6, by decide +kernel⟩,
  ⟨run [(.FW_STS_ACT_STATE, 0, 3), (.FW_STS_WAITING, 0, 1)], 0, by decide +kernel⟩,
  ⟨{ run [(.UCB_STATUS_RESETTING, uWarden, 0), (.FW_STS_ACT_STATE, 0, 4), (.FW_ACTIVE_ARMED, 0, 3)] with fwSlots := [{ img 3 1 with svn := 5 }] }, { img 3 1 with svn := 5 }, by decide +kernel⟩⟩

theorem witness_ReadPacketsAreCheckedAndAdmitted :
    (∃ (s : State) (n : Nat) (c : Cmd), s.packet n 0x01 = some c ∧ s.flag .JQ_STS_SANITIZING = true)
    ∧ (∃ (s : State) (n : Nat) (c : Cmd), s.packet n 0x02 = some c ∧ s.flag .JQ_STS_SANITIZING = false ∧ c.readFieldsOk = false)
    ∧ (∃ (s : State) (n : Nat) (c : Cmd) (v : Result), s.packet n 0x0B = some c ∧ s.flag .JQ_STS_SANITIZING = false ∧ c.readFieldsOk = true ∧ s.rangeVerdict c c.pNode c.pLba c.pLen rightRead = some v)
    ∧ (∃ (s : State) (n : Nat) (c : Cmd) (d : Cmd), s.flag .JQ_STS_SANITIZING = false ∧ c.readFieldsOk = true ∧ s.rangeVerdict c c.pNode c.pLba c.pLen rightRead = none ∧ (d = { c with node := c.pNode, lba := c.pLba, len := c.pLen, skip := 0, bytes := 4096 * c.pLen, cls := c.ctl % 4, deadline := absTick c.tick c.pDeadline, aux := [0] }) ∧ s.packet n 0x01 = some c)
    ∧ (∃ (s : State) (n : Nat) (c : Cmd) (d : Cmd), s.flag .JQ_STS_SANITIZING = false ∧ c.readFieldsOk = true ∧ s.rangeVerdict c c.pNode c.pLba c.pLen rightRead = none ∧ (d = { c with node := c.pNode, lba := c.pLba, len := c.pLen, skip := 0, bytes := 4096 * c.pLen, cls := c.ctl % 4, deadline := absTick c.tick c.pDeadline, aux := [0] }) ∧ s.packet n 0x02 = some c ∧ bit (s.get .CX_CTL_FMT_EN) (c.codec - 1) = true)
    ∧ (∃ (s : State) (n : Nat) (c : Cmd) (d : Cmd), s.flag .JQ_STS_SANITIZING = false ∧ c.readFieldsOk = true ∧ s.rangeVerdict c c.pNode c.pLba c.pLen rightRead = none ∧ (d = { c with node := c.pNode, lba := c.pLba, len := c.pLen, skip := 0, bytes := 4096 * c.pLen, cls := c.ctl % 4, deadline := absTick c.tick c.pDeadline, aux := [0] }) ∧ s.packet n 0x02 = some c ∧ bit (s.get .CX_CTL_FMT_EN) (c.codec - 1) = false)
    ∧ (∃ (s : State) (n : Nat) (c : Cmd) (d : Cmd), s.flag .JQ_STS_SANITIZING = false ∧ c.readFieldsOk = true ∧ s.rangeVerdict c c.pNode c.pLba c.pLen rightRead = none ∧ (d = { c with node := c.pNode, lba := c.pLba, len := c.pLen, skip := 0, bytes := 4096 * c.pLen, cls := c.ctl % 4, deadline := absTick c.tick c.pDeadline, aux := [0] }) ∧ s.packet n 0x0B = some c ∧ c.codec = 0)
    ∧ (∃ (s : State) (c : Cmd) (t : State) (d : Cmd), t = (s.touchRange (2 * s.frontPair c.fn + 1) c.node c.lba 1).setCmd d ∧ (d = { c with parts := [⟨0, 0, c.lba, .zero, true, zeroUnit, 0⟩], gold := false, downgraded := false, st := .admitted }) ∧ c.nvme = false ∧ c.op = 0x01 ∧ c.cls = 1 ∧ c.len = 1 ∧ c.skip = 0 ∧ c.bytes = 4096 ∧ c.codec = 0 ∧ c.mute = false ∧ c.arrived = [] ∧ c.dicts = [] ∧ c.fmt = {} ∧ s.cmd? c.id = some c ∧ s.supply c.lba (s.order c.node) = none ∧ ((s.engJobs.any fun j => j.cmd = c.id) = false)) :=
  ⟨⟨withCmd [(.JQ_STS_SANITIZING, 0, 1)] (pkt 1 [(16, 1)]), 1, pkt 1 [(16, 1)], by decide +kernel⟩,
  ⟨withCmd [] (pkt 2 []), 1, pkt 2 [], by decide +kernel⟩,
  ⟨withCmd [] { pkt 11 [(1, 1), (7, 1), (16, 1), (24, 5)] with cont := natLe 16 (4096 * 2 ^ 64) }, 1, { pkt 11 [(1, 1), (7, 1), (16, 1), (24, 5)] with cont := natLe 16 (4096 * 2 ^ 64) }, vStale, by decide +kernel⟩,
  ⟨withCmd [] (pkt 1 [(1, 1), (16, 1)]), 1, pkt 1 [(1, 1), (16, 1)], { pkt 1 [(1, 1), (16, 1)] with node := 0, lba := 0, len := 1, skip := 0, bytes := 4096, cls := 1, deadline := absTick 0 0, aux := [0] }, by decide +kernel⟩,
  ⟨withCmd [(.CX_CTL_FMT_EN, 0, 1)] (pkt 2 [(1, 1), (6, 1), (16, 1), (20, 1)]), 1, pkt 2 [(1, 1), (6, 1), (16, 1), (20, 1)], { pkt 2 [(1, 1), (6, 1), (16, 1), (20, 1)] with node := 0, lba := 0, len := 1, skip := 0, bytes := 4096, cls := 1, deadline := absTick 0 0, aux := [0] }, by decide +kernel⟩,
  ⟨withCmd [(.CX_CTL_FMT_EN, 0, 2)] (pkt 2 [(1, 1), (6, 1), (16, 1), (20, 1)]), 1, pkt 2 [(1, 1), (6, 1), (16, 1), (20, 1)], { pkt 2 [(1, 1), (6, 1), (16, 1), (20, 1)] with node := 0, lba := 0, len := 1, skip := 0, bytes := 4096, cls := 1, deadline := absTick 0 0, aux := [0] }, by decide +kernel⟩,
  ⟨withCmd [] { pkt 11 [(1, 1), (7, 1), (16, 1)] with cont := natLe 16 (4096 * 2 ^ 64) }, 1, { pkt 11 [(1, 1), (7, 1), (16, 1)] with cont := natLe 16 (4096 * 2 ^ 64) }, { pkt 11 [(1, 1), (7, 1), (16, 1)] with cont := natLe 16 (4096 * 2 ^ 64), node := 0, lba := 0, len := 1, skip := 0, bytes := 4096, cls := 1, deadline := absTick 0 0, aux := [0] }, by decide +kernel⟩,
  ⟨withCmd [] { pkt 1 [] with cls := 1, len := 1, bytes := 4096 }, { pkt 1 [] with cls := 1, len := 1, bytes := 4096 }, _, _, rfl, rfl, by decide +kernel⟩⟩

theorem witness_WritePacketsAreCheckedAndAdmitted :
    (∃ (s : State) (n : Nat) (c : Cmd), s.packet n 0x03 = some c ∧ c.waits = false ∧ s.flag .JQ_STS_SANITIZING = true)
    ∧ (∃ (s : State) (n : Nat) (c : Cmd), s.packet n 0x04 = some c ∧ c.waits = false ∧ s.flag .JQ_STS_SANITIZING = false ∧ s.writeFieldsOk c = false)
    ∧ (∃ (s : State) (n : Nat) (c : Cmd) (x : Node), s.packet n 0x04 = some c ∧ c.waits = false ∧ c.op = 0x04 ∧ s.flag .JQ_STS_SANITIZING = false ∧ (if s.isVolume c.pNode then s.node? c.pNode else (s.writeTarget c.pNode).bind s.node?) = some x ∧ (x.codec ≠ 1 ∨ x.titleKey = true))
    ∧ (∃ (s : State) (n : Nat) (c : Cmd) (v : Result), s.packet n 0x03 = some c ∧ c.op = 0x03 ∧ c.waits = false ∧ s.flag .JQ_STS_SANITIZING = false ∧ s.writeFieldsOk c = true ∧ s.rangeVerdict c c.pNode c.pLba c.pLen rightWrite = some v)
    ∧ (∃ (s : State) (n : Nat) (c : Cmd) (d : Cmd), c.waits = false ∧ s.flag .JQ_STS_SANITIZING = false ∧ s.writeFieldsOk c = true ∧ s.rangeVerdict c c.pNode c.pLba c.pLen rightWrite = none ∧ (d = { c with node := c.pNode, lba := c.pLba, len := c.pLen, skip := 0, bytes := 4096 * c.pLen, cls := if c.ctl % 4 = 2 then 2 else 1, target := (s.writeTarget c.pNode).elim 0 (· + 1) }) ∧ s.partialVerdict d = none ∧ s.packet n 0x03 = some c ∧ c.op = 0x03)
    ∧ (∃ (s : State) (n : Nat) (c : Cmd) (d : Cmd), (∀ x, (s.writeTarget c.pNode).bind s.node? = some x → x.codec = 1 ∧ x.titleKey = false) ∧ c.waits = false ∧ s.flag .JQ_STS_SANITIZING = false ∧ s.writeFieldsOk c = true ∧ s.rangeVerdict c c.pNode c.pLba c.pLen rightWrite = none ∧ (d = { c with node := c.pNode, lba := c.pLba, len := c.pLen, skip := 0, bytes := 4096 * c.pLen, cls := if c.ctl % 4 = 2 then 2 else 1, target := (s.writeTarget c.pNode).elim 0 (· + 1) }) ∧ s.partialVerdict d = none ∧ s.packet n 0x04 = some c ∧ (∀ x, (if s.isVolume c.pNode then s.node? c.pNode else (s.writeTarget c.pNode).bind s.node?) = some x → x.codec = 1 ∧ x.titleKey = false))
    ∧ (∃ (s : State) (c : Cmd), c.nvme = false ∧ c.zeroes = false ∧ s.writeGranules c ≠ [] ∧ ((s.cmds.any fun x => x.waits && decide (x.id < c.id)) = false) ∧ s.quotaOk ((s.writeGranules c).length * s.granBytes c / 1024) = false)
    ∧ (∃ (s : State) (c : Cmd), c.nvme = false ∧ c.zeroes = false ∧ s.writeGranules c ≠ [] ∧ ((s.cmds.any fun x => x.waits && decide (x.id < c.id)) = false) ∧ s.quotaOk ((s.writeGranules c).length * s.granBytes c / 1024) = true ∧ s.bandsFor c (s.writeGranules c).length = true ∧ s.get .X_QUOTA < 2 ^ 63)
    ∧ (∃ (s : State) (c : Cmd) (d : Cmd), (d = { c with waits := false }) ∧ ((s.cmds.find? fun c => c.waits) = some c))
    ∧ (∃ (s : State), ((s.cmds.find? fun c => c.waits) = none))
    ∧ (∃ (s : State) (n : Nat) (c : Cmd), s.packet n 0x0C = some c ∧ s.flag .JQ_STS_SANITIZING = false) :=
  ⟨⟨withCmd [(.JQ_STS_SANITIZING, 0, 1)] (pkt 3 []), 1, pkt 3 [], by decide +kernel⟩,
  ⟨withCmd [] (pkt 4 []), 1, pkt 4 [], by decide +kernel⟩,
  ⟨withCmd [] (pkt 4 [(16, 1)]), 1, pkt 4 [(16, 1)], vol 0, by decide +kernel⟩,
  ⟨withCmd [(.JQ_QCFG_XR_EN, 0, 1)] (pkt 3 [(16, 1), (24, 5)]), 1, pkt 3 [(16, 1), (24, 5)], vStale, by decide +kernel⟩,
  ⟨withCmd [(.JQ_QCFG_XR_EN, 0, 1)] (pkt 3 [(16, 1)]), 1, pkt 3 [(16, 1)], { pkt 3 [(16, 1)] with node := 0, lba := 0, len := 1, skip := 0, bytes := 4096, cls := 1, target := 1 }, by decide +kernel⟩,
  ⟨{ withCmd [(.JQ_QCFG_XR_EN, 0, 1)] (pkt 4 [(6, 1), (16, 1)]) with nodes := [{ vol 0 with codec := 1 }] }, 1, pkt 4 [(6, 1), (16, 1)], { pkt 4 [(6, 1), (16, 1)] with node := 0, lba := 0, len := 1, skip := 0, bytes := 4096, cls := 1, target := 1 }, some_of (by decide +kernel), by decide +kernel⟩,
  ⟨withCmd [] { pkt 3 [] with target := 1, bytes := 4096 }, { pkt 3 [] with target := 1, bytes := 4096 }, by decide +kernel⟩,
  ⟨{ withCmd (die0 ++ [(.X_QUOTA, 0, 2 ^ 41)]) { pkt 3 [] with target := 1, bytes := 4096 } with bands := [lone kindRw, lone kindCache] }, { pkt 3 [] with target := 1, bytes := 4096 }, by decide +kernel⟩,
  ⟨withCmd [] { pkt 3 [] with waits := true }, { pkt 3 [] with waits := true }, _, rfl, by decide +kernel⟩,
  ⟨State.reset, by decide +kernel⟩,
  ⟨withCmd [(.JQ_QCFG_XR_EN, 0, 1)] (pkt 12 [(6, 1), (16, 16)]), 1, pkt 12 [(6, 1), (16, 16)], by decide +kernel⟩⟩

theorem witness_GrantsAndDmaBringWriteData :
    (∃ (s : State) (n : Nat) (c : Cmd) (len : Nat) (w : Nat), s.cmd? n = some c ∧ c.pushes = true ∧ c.st = .admitted ∧ c.mute = false ∧ len = min (s.get .JQ_QRING_XR_MAX c.q * 65536) (c.bytes - c.issued) ∧ len ≠ 0 ∧ ((s.grants.filter fun g => g.q = c.q && !g.closed).length < s.get .JQ_QRING_MAX_OPEN c.q) ∧ s.get .X_JQ_XPOST c.q - s.get .X_JQ_XHEAD c.q < s.xrEntries c.q ∧ w % 4096 = 0 ∧ 0x400000 ≤ w ∧ w + len ≤ 0x4000000 ∧ ((s.grants.any fun g => g.fn = c.fn && rangesMeet g.woff g.len w len) = false) ∧ s.get .JQ_QSTS_STATE c.q ≠ jqDisabling ∧ c.cut = none ∧ s.bufferUsed + len ≤ bufferMax ∧ (s.jqStrict c.q = true → s.laneTurn false c.fn c.q c.id = true))
    ∧ (∃ (s : State) (n : Nat) (c : Cmd) (w : Nat), s.cmd? n = some c ∧ (c.cut.isSome = true ∨ s.get .JQ_QRING_MAX_OPEN c.q ≤ (s.grants.filter fun g => g.q = c.q && !g.closed).length ∨ w < 0x400000 ∨ w % 4096 ≠ 0 ∨ c.bytes ≤ c.issued))
    ∧ (∃ (s : State) (f : Nat), s.fnDark f = true)
    ∧ (∃ (s : State) (f : Nat) (o : Nat), s.fnDark f = false ∧ 0x400000 ≤ o ∧ (∀ g ∈ s.grants, g.fn ≠ f) ∧ s.slots = [])
    ∧ (∃ (s : State) (t : State) (f : Nat) (o : Nat), t = s.takeAll f s.slots.length ∧ s.fnDark f = false ∧ 0x400000 ≤ o)
    ∧ (∃ (s : State) (n : Nat) (k : Nat) (g : Grant), ((s.grants.find? fun g => g.cmd = n && g.num = k && !g.closed) = some g))
    ∧ (∃ (s : State) (t : State) (n : Nat) (c : Cmd) (b : List Byte), t = s.readAnswered n b.length ∧ s.readHeld n = false ∧ t.cmd? n = some c ∧ c.nvme = true ∧ c.isWrite = true ∧ (c.st = .admitted ∨ c.st = .planned) ∧ c.mute = false ∧ c.cut = none)
    ∧ (∃ (s : State) (t : State) (n : Nat) (c : Cmd) (d : DmaStatus), t = s.readAnswered n (2 ^ 64) ∧ s.readHeld n = false ∧ t.cmd? n = some c ∧ c.nvme = true ∧ c.isWrite = true ∧ (c.st = .admitted ∨ c.st = .planned) ∧ d ≠ .ok)
    ∧ (∃ (s : State) (t : State) (n : Nat) (c : Cmd), t = ((((s.putFlag .HE_EVT_CPL_TIMEOUT true (s.fnPf c.fn / 4)).bump .HE_CNT_CTO (s.fnPf c.fn / 4)).raise 50 uFront c.fn).reportAer c.fn aerTimeout).readAnswered n (2 ^ 64) ∧ s.cmd? n = some c ∧ c.st ≠ .ended ∧ s.readHeld n = false ∧ s.flag .X_FN_CTOD c.fn = false) :=
  ⟨⟨withCmd [(.JQ_QRING_XR_MAX, 0, 1), (.JQ_QRING_MAX_OPEN, 0, 1)] { pkt 3 [] with st := .admitted, bytes := 4096 }, 1, { pkt 3 [] with st := .admitted, bytes := 4096 }, 4096, 0x400000, by decide +kernel⟩,
  ⟨withCmd [(.JQ_QRING_XR_MAX, 0, 1), (.JQ_QRING_MAX_OPEN, 0, 1)] { pkt 3 [] with st := .admitted, bytes := 4096 }, 1, { pkt 3 [] with st := .admitted, bytes := 4096 }, 0x3FF000, by decide +kernel⟩,
  ⟨State.reset, 263, by decide +kernel⟩,
  ⟨run [], 0, 0x400000, by decide +kernel⟩,
  ⟨run [], _, 0, 0x400000, rfl, by decide +kernel⟩,
  ⟨{ run [] with grants := [⟨1, 0, 0, 255, 0x400000, 4096, 0, 5, false, 0, 0⟩] }, 1, 255, Grant.mk 1 0 0 255 0x400000 4096 0 5 false 0 0, by decide +kernel⟩,
  ⟨withCmd [] { sqe 1 1 [] with st := .admitted }, _, 1, { sqe 1 1 [] with st := .admitted }, ([] : List Byte), rfl, by decide +kernel⟩,
  ⟨withCmd [] { sqe 1 1 [] with st := .admitted }, _, 1, { sqe 1 1 [] with st := .admitted }, DmaStatus.aborted, rfl, by decide +kernel⟩,
  ⟨withCmd [] (sqe 1 1 []), _, 1, sqe 1 1 [], rfl, by decide +kernel⟩⟩

theorem witness_DisablesEndWhenNothingHoldsThem :
    (∃ (s : State) (c : Scope), s.disabling c = false)
    ∧ (∃ (s : State) (q : Nat), s.disabling (.queue q) = false)
    ∧ (∃ (s : State) (t : State) (c : Scope), s.disabling c = true ∧ t = s.settleWrites c ∧ ((t.cmds.any fun x => c.covers x && t.holdsDisable x) = true))
    ∧ (∃ (s : State) (f : Nat) (g : Nat), s.disabling (.controller f) = true ∧ s.cmds = [] ∧ g ≠ f)
    ∧ (∃ (s : State) (q : Nat), s.disabling (.queue q) = true ∧ s.cmds = []) :=
  ⟨⟨State.reset, .controller 7, by decide +kernel⟩,
  ⟨State.reset, 1023, by decide +kernel⟩,
  ⟨withCmd [(.JQ_QSTS_STATE, 0, 2)] { pkt 1 [] with mute := true, st := .planned }, (withCmd [(.JQ_QSTS_STATE, 0, 2)] { pkt 1 [] with mute := true, st := .planned }).settleWrites (.queue 0), Scope.queue 0, by decide +kernel⟩,
  ⟨wr [(.X_CTRL_DISABLING, 263, 1)], 263, 0, by decide +kernel⟩,
  ⟨wr [(.JQ_QSTS_STATE, 1023, 2)], 1023, by decide +kernel⟩⟩

theorem witness_StackCommandsAreCheckedAndTakeEffect :
    (∃ (s : State) (t : State) (ag : Agent) (op : Nat) (ut : Bool) (c : Change) (x : Nat), t = ((((s.put .TS_CMD_OP op 0 ag.ix).putFlag .TS_CMD_USE_TICK ut 0 ag.ix).put .X_TS_NEXT (s.get .X_TS_NEXT + 1)).put .X_TS_SEQ (s.get .X_TS_NEXT + 1) 0 ag.ix) ∧ (c = ⟨op, s.get .TS_ARG_NODE 0 ag.ix, if op = tsCreate || op = tsSet then (List.range (min (s.get .TS_ARG_COUNT 0 ag.ix) 32)).map (fun i => s.get .TS_STAGE_NODE i ag.ix) else [], s.get .TS_ARG_SIZE 0 ag.ix⟩) ∧ s.mayWrite ag .ownerFeMp = true ∧ s.unitPower uMap = 0 ∧ s.get .TS_RESULT_STATE 0 ag.ix ≠ 1 ∧ t.tsReason c ut (s.get .TS_TICK 0 ag.ix) (if op = tsCreate || op = tsSet then s.get .TS_ARG_COUNT 0 ag.ix else 0) = some x)
    ∧ (∃ (s : State) (t : State) (ag : Agent) (op : Nat) (ut : Bool) (c : Change), t = ((((s.put .TS_CMD_OP op 0 ag.ix).putFlag .TS_CMD_USE_TICK ut 0 ag.ix).put .X_TS_NEXT (s.get .X_TS_NEXT + 1)).put .X_TS_SEQ (s.get .X_TS_NEXT + 1) 0 ag.ix) ∧ (c = ⟨op, s.get .TS_ARG_NODE 0 ag.ix, if op = tsCreate || op = tsSet then (List.range (min (s.get .TS_ARG_COUNT 0 ag.ix) 32)).map (fun i => s.get .TS_STAGE_NODE i ag.ix) else [], s.get .TS_ARG_SIZE 0 ag.ix⟩) ∧ s.mayWrite ag .ownerFeMp = true ∧ s.unitPower uMap = 0 ∧ s.get .TS_RESULT_STATE 0 ag.ix ≠ 1 ∧ t.tsReason c ut (s.get .TS_TICK 0 ag.ix) (if op = tsCreate || op = tsSet then s.get .TS_ARG_COUNT 0 ag.ix else 0) = none ∧ ut = true)
    ∧ (∃ (s : State) (t : State) (ag : Agent) (op : Nat) (ut : Bool) (c : Change), t = ((((s.put .TS_CMD_OP op 0 ag.ix).putFlag .TS_CMD_USE_TICK ut 0 ag.ix).put .X_TS_NEXT (s.get .X_TS_NEXT + 1)).put .X_TS_SEQ (s.get .X_TS_NEXT + 1) 0 ag.ix) ∧ (c = ⟨op, s.get .TS_ARG_NODE 0 ag.ix, if op = tsCreate || op = tsSet then (List.range (min (s.get .TS_ARG_COUNT 0 ag.ix) 32)).map (fun i => s.get .TS_STAGE_NODE i ag.ix) else [], s.get .TS_ARG_SIZE 0 ag.ix⟩) ∧ s.mayWrite ag .ownerFeMp = true ∧ s.unitPower uMap = 0 ∧ s.get .TS_RESULT_STATE 0 ag.ix ≠ 1 ∧ t.tsReason c ut (s.get .TS_TICK 0 ag.ix) (if op = tsCreate || op = tsSet then s.get .TS_ARG_COUNT 0 ag.ix else 0) = none ∧ ut = false)
    ∧ (∃ (s : State) (t : State) (ag : Agent) (op : Nat) (ut : Bool) (c : Change), t = ((((s.put .TS_CMD_OP op 0 ag.ix).putFlag .TS_CMD_USE_TICK ut 0 ag.ix).put .X_TS_NEXT (s.get .X_TS_NEXT + 1)).put .X_TS_SEQ (s.get .X_TS_NEXT + 1) 0 ag.ix) ∧ (c = ⟨op, s.get .TS_ARG_NODE 0 ag.ix, if op = tsCreate || op = tsSet then (List.range (min (s.get .TS_ARG_COUNT 0 ag.ix) 32)).map (fun i => s.get .TS_STAGE_NODE i ag.ix) else [], s.get .TS_ARG_SIZE 0 ag.ix⟩) ∧ s.mayWrite ag .ownerFeMp = true ∧ s.unitPower uMap = 0 ∧ s.get .TS_RESULT_STATE 0 ag.ix ≠ 1 ∧ op = tsCreate ∧ ut = false)
    ∧ (∃ (s : State) (t : State) (ag : Agent) (op : Nat) (ut : Bool) (c : Change), t = ((((s.put .TS_CMD_OP op 0 ag.ix).putFlag .TS_CMD_USE_TICK ut 0 ag.ix).put .X_TS_NEXT (s.get .X_TS_NEXT + 1)).put .X_TS_SEQ (s.get .X_TS_NEXT + 1) 0 ag.ix) ∧ (c = ⟨op, s.get .TS_ARG_NODE 0 ag.ix, if op = tsCreate || op = tsSet then (List.range (min (s.get .TS_ARG_COUNT 0 ag.ix) 32)).map (fun i => s.get .TS_STAGE_NODE i ag.ix) else [], s.get .TS_ARG_SIZE 0 ag.ix⟩) ∧ s.mayWrite ag .ownerFeMp = true ∧ s.unitPower uMap = 0 ∧ s.get .TS_RESULT_STATE 0 ag.ix ≠ 1 ∧ op = tsSet) :=
  ⟨⟨wr [(.TS_ARG_NODE, 0, 5)], _, Agent.core 0, tsDelete, false, _, 3, rfl, rfl, by decide +kernel⟩,
  ⟨{ wr [(.TS_ARG_NODE, 0, 1), (.TS_TICK, 0, 10)] with nodes := [vol 0, { stk 1 0 with attached := [] }] }, _, Agent.core 0, tsDelete, true, _, rfl, rfl, by decide +kernel⟩,
  ⟨{ wr [(.TS_ARG_NODE, 0, 1)] with nodes := [{ vol 0 with attached := [] }, { stk 1 0 with attached := [] }] }, _, Agent.core 0, tsDelete, false, _, rfl, rfl, by decide +kernel⟩,
  ⟨{ wr [(.TS_ARG_COUNT, 0, 1), (.TS_ARG_SIZE, 0, 16)] with nodes := [vol 0] }, _, Agent.core 0, tsCreate, false, _, rfl, rfl, by decide +kernel⟩,
  ⟨{ wr [(.TS_ARG_NODE, 0, 1), (.TS_ARG_COUNT, 0, 1)] with nodes := [vol 0, stk 1 0] }, _, Agent.core 0, tsSet, false, _, rfl, rfl, by decide +kernel⟩⟩

theorem witness_StackCommandsAreCheckedAndTakeEffect_2 :
    (∃ (s : State) (t : State) (ag : Agent) (op : Nat) (ut : Bool) (c : Change), t = ((((s.put .TS_CMD_OP op 0 ag.ix).putFlag .TS_CMD_USE_TICK ut 0 ag.ix).put .X_TS_NEXT (s.get .X_TS_NEXT + 1)).put .X_TS_SEQ (s.get .X_TS_NEXT + 1) 0 ag.ix) ∧ (c = ⟨op, s.get .TS_ARG_NODE 0 ag.ix, if op = tsCreate || op = tsSet then (List.range (min (s.get .TS_ARG_COUNT 0 ag.ix) 32)).map (fun i => s.get .TS_STAGE_NODE i ag.ix) else [], s.get .TS_ARG_SIZE 0 ag.ix⟩) ∧ s.mayWrite ag .ownerFeMp = true ∧ s.unitPower uMap = 0 ∧ s.get .TS_RESULT_STATE 0 ag.ix ≠ 1 ∧ op = tsDelete)
    ∧ (∃ (s : State) (t : State) (ag : Agent) (op : Nat) (ut : Bool) (c : Change), t = ((((s.put .TS_CMD_OP op 0 ag.ix).putFlag .TS_CMD_USE_TICK ut 0 ag.ix).put .X_TS_NEXT (s.get .X_TS_NEXT + 1)).put .X_TS_SEQ (s.get .X_TS_NEXT + 1) 0 ag.ix) ∧ (c = ⟨op, s.get .TS_ARG_NODE 0 ag.ix, if op = tsCreate || op = tsSet then (List.range (min (s.get .TS_ARG_COUNT 0 ag.ix) 32)).map (fun i => s.get .TS_STAGE_NODE i ag.ix) else [], s.get .TS_ARG_SIZE 0 ag.ix⟩) ∧ s.mayWrite ag .ownerFeMp = true ∧ s.unitPower uMap = 0 ∧ s.get .TS_RESULT_STATE 0 ag.ix ≠ 1 ∧ op = tsWritable ∧ ut = false)
    ∧ (∃ (s : State) (t : State) (ag : Agent) (op : Nat) (ut : Bool) (c : Change), t = ((((s.put .TS_CMD_OP op 0 ag.ix).putFlag .TS_CMD_USE_TICK ut 0 ag.ix).put .X_TS_NEXT (s.get .X_TS_NEXT + 1)).put .X_TS_SEQ (s.get .X_TS_NEXT + 1) 0 ag.ix) ∧ (c = ⟨op, s.get .TS_ARG_NODE 0 ag.ix, if op = tsCreate || op = tsSet then (List.range (min (s.get .TS_ARG_COUNT 0 ag.ix) 32)).map (fun i => s.get .TS_STAGE_NODE i ag.ix) else [], s.get .TS_ARG_SIZE 0 ag.ix⟩) ∧ s.mayWrite ag .ownerFeMp = true ∧ s.unitPower uMap = 0 ∧ s.get .TS_RESULT_STATE 0 ag.ix ≠ 1 ∧ op = tsSeal ∧ ut = false)
    ∧ (∃ (s : State) (t : State) (ag : Agent) (op : Nat) (ut : Bool) (c : Change), t = ((((s.put .TS_CMD_OP op 0 ag.ix).putFlag .TS_CMD_USE_TICK ut 0 ag.ix).put .X_TS_NEXT (s.get .X_TS_NEXT + 1)).put .X_TS_SEQ (s.get .X_TS_NEXT + 1) 0 ag.ix) ∧ (c = ⟨op, s.get .TS_ARG_NODE 0 ag.ix, if op = tsCreate || op = tsSet then (List.range (min (s.get .TS_ARG_COUNT 0 ag.ix) 32)).map (fun i => s.get .TS_STAGE_NODE i ag.ix) else [], s.get .TS_ARG_SIZE 0 ag.ix⟩) ∧ s.mayWrite ag .ownerFeMp = true ∧ s.unitPower uMap = 0 ∧ s.get .TS_RESULT_STATE 0 ag.ix ≠ 1 ∧ op = tsGrow ∧ ut = false)
    ∧ (∃ (s : State) (ag : Agent), s.mayWrite ag .ownerFeMp = true ∧ s.unitPower uMap = 0 ∧ s.get .TS_RESULT_STATE 0 ag.ix = 1) :=
  ⟨⟨{ wr [(.TS_ARG_NODE, 0, 1)] with nodes := [vol 0, stk 1 0] }, _, Agent.core 0, tsDelete, false, _, rfl, rfl, by decide +kernel⟩,
  ⟨{ wr [(.TS_ARG_NODE, 0, 0)] with nodes := [vol 0] }, _, Agent.core 0, tsWritable, false, _, rfl, rfl, by decide +kernel⟩,
  ⟨{ wr [(.TS_ARG_NODE, 0, 0)] with nodes := [vol 0] }, _, Agent.core 0, tsSeal, false, _, rfl, rfl, by decide +kernel⟩,
  ⟨{ wr [(.TS_ARG_NODE, 0, 0), (.TS_ARG_SIZE, 0, 17)] with nodes := [vol 0] }, _, Agent.core 0, tsGrow, false, _, rfl, rfl, by decide +kernel⟩,
  ⟨wr [(.TS_RESULT_STATE, 0, 1)], Agent.core 0, by decide +kernel⟩⟩

theorem witness_StackCommandsAreCheckedAndTakeEffect_3 :
    (∃ (s : State) (c : Change) (id : Nat), c.op = tsCreate ∧ s.freeNode = some id)
    ∧ (∃ (c : Change), c.op = tsGrow)
    ∧ (∃ (c : Change), c.op = tsWritable)
    ∧ (∃ (c : Change), c.op = tsSeal)
    ∧ (∃ (s : State) (c : Change), c.op = tsDelete ∧ s.node? c.node ≠ none) :=
  ⟨⟨{ run [] with nodes := [vol 0] }, Change.mk tsCreate 0 [0] 16, 1, by decide +kernel⟩,
  ⟨Change.mk tsGrow 0 [] 17, by decide +kernel⟩,
  ⟨Change.mk tsWritable 0 [] 0, by decide +kernel⟩,
  ⟨Change.mk tsSeal 0 [] 0, by decide +kernel⟩,
  ⟨{ run [] with nodes := [vol 0] }, Change.mk tsDelete 0 [] 17, by decide +kernel⟩⟩

theorem witness_StackCommandsAreCheckedAndTakeEffect_4 :
    (∃ (c : Change), c.op = tsSet) :=
  ⟨Change.mk tsSet 1 [0] 0, by decide +kernel⟩

theorem witness_NodesGoWhenTheirDeletionCompletes :
    (∃ (s : State) (n : Nat) (x : Node), s.node? n = some x ∧ (x.deleting = false ∨ s.heldBy n = true ∨ (s.sweeps.any fun w => w.node = n) = true))
    ∧ (∃ (s : State) (n : Nat) (x : Node), s.node? n = some x ∧ x.deleting = true ∧ s.heldBy n = false ∧ ((s.sweeps.any fun w => w.node = n) = false) ∧ x.isStack = true)
    ∧ (∃ (s : State) (u : State) (v : State) (t : State) (n : Nat) (x : Node), u = (((s.journal 0x14 n 1 0).emptyNode n).dropLicence n).dropDict n ∧ (v = ({ u with nodes := u.nodes.filter (fun x => x.id ≠ n), rights := u.rights.filter (fun r => r.node ≠ n), keys := u.keys.filter (fun k => k.node ≠ n) } : State)) ∧ (t = forEach (List.range 65) (v.put .SEC_PM_STS_ENTRIES v.rights.length) (fun a t => t.tsDone a (t.get .X_TS_DEL n) 3)) ∧ s.node? n = some x ∧ x.deleting = true ∧ s.heldBy n = false ∧ ((s.sweeps.any fun w => w.node = n) = false) ∧ x.isStack = false)
    ∧ (∃ (s : State) (n : Nat) (w : Sweep), ((s.sweeps.find? fun w => w.node = n && !w.waiting && !s.sweepHolds w) = some w) ∧ w.kind = 0)
    ∧ (∃ (s : State) (t : State) (n : Nat) (w : Sweep), (t = ({ s with sweeps := s.sweeps.erase w } : State).bump .MC_CNT_INV) ∧ ((s.sweeps.find? fun w => w.node = n && !w.waiting && !s.sweepHolds w) = some w) ∧ w.kind ≠ 0)
    ∧ (∃ (s : State) (n : Nat), (∀ w ∈ s.sweeps, w.node = n → w.waiting = false → s.sweepHolds w = true)) :=
  ⟨⟨{ run [] with nodes := [vol 4095] }, 4095, vol 4095, by decide +kernel⟩,
  ⟨{ run [] with nodes := [{ stk 1 0 with deleting := true }] }, 1, { stk 1 0 with deleting := true }, by decide +kernel⟩,
  ⟨{ run [] with nodes := [{ vol 1 with deleting := true }] }, _, _, _, 1, { vol 1 with deleting := true }, rfl, rfl, rfl, by decide +kernel⟩,
  ⟨{ run [] with nodes := [vol 1], sweeps := [⟨1, 0, 16, 0, 0, false, 1⟩] }, 1, Sweep.mk 1 0 16 0 0 false 1, by decide +kernel⟩,
  ⟨{ run [] with nodes := [vol 1], sweeps := [⟨1, 0, 16, 1, 0, false, 1⟩] }, _, 1, Sweep.mk 1 0 16 1 0 false 1, rfl, by decide +kernel⟩,
  ⟨{ run [] with nodes := [stk 1 0], sweeps := [⟨1, 0, 2 ^ 60, 3, 0, false, 1⟩], lines := [⟨1, 0, 0, 0, .stale, 1, 0, []⟩] }, 1, by decide +kernel⟩⟩

theorem witness_MapLinesFillAndInvalidate :
    (∃ (s : State) (n : Nat) (l : Nat) (x : Line), s.line? n l = some x ∧ x.st = .filling)
    ∧ (∃ (s : State) (n : Nat) (l : Nat) (x : Line), s.line? n l = some x ∧ x.st ≠ .filling)
    ∧ (∃ (s : State) (x : Line) (y : Line), s.isVolume x.node = false ∧ y ∈ (s.landLine x).lines ∧ y.node = x.node ∧ y.l = x.l ∧ s.line? x.node x.l = some x)
    ∧ (∃ (s : State) (t : State) (n : Nat) (l : Nat), t = s.allocLine 1008 n l ∧ s.line? n l = none ∧ s.waiters n l ≠ [])
    ∧ (∃ (s : State) (n : Nat) (l : Nat), (s.line? n l ≠ none ∨ s.waiters n l = []))
    ∧ (∃ (s : State) (n : Nat) (l : Nat) (p : MapPage), s.page? n (l / 256) = some p ∧ s.waiters n l ≠ [])
    ∧ (∃ (s : State) (n : Nat) (l : Nat), s.page? n (l / 256) = none ∧ s.waiters n l ≠ [])
    ∧ (∃ (s : State) (ag : Agent), s.mayWrite ag .ownerMp = true ∧ s.unitPower uMap = 0 ∧ s.get .MC_INV_STS_STATE 0 ag.ix = 1)
    ∧ (∃ (s : State) (ag : Agent) (n : Nat), n < 4096 ∧ s.mayWrite ag .ownerMp = true ∧ s.unitPower uMap = 0 ∧ s.get .MC_INV_STS_STATE 0 ag.ix ≠ 1 ∧ s.node? n = none)
    ∧ (∃ (s : State) (ag : Agent) (n : Nat) (x : Node), n < 4096 ∧ s.mayWrite ag .ownerMp = true ∧ s.unitPower uMap = 0 ∧ s.get .MC_INV_STS_STATE 0 ag.ix ≠ 1 ∧ s.node? n = some x ∧ x.deleting = false ∧ s.get .MC_INV_COUNT 0 ag.ix = 0)
    ∧ (∃ (s : State) (ag : Agent) (n : Nat) (x : Node), n < 4096 ∧ s.mayWrite ag .ownerMp = true ∧ s.unitPower uMap = 0 ∧ s.get .MC_INV_STS_STATE 0 ag.ix ≠ 1 ∧ s.node? n = some x ∧ x.deleting = false ∧ x.isStack = true ∧ s.get .MC_INV_COUNT 0 ag.ix ≠ 0 ∧ s.get .MC_INV_FIRST 0 ag.ix + s.get .MC_INV_COUNT 0 ag.ix ≤ x.size)
    ∧ (∃ (s : State) (w : Sweep) (x : Line), ((s.sweeps.filter fun x => !x.waiting && x.kind ≠ 3).length < 8) ∧ w.kind ≠ 0 ∧ x ∈ (s.startSweep w).lines ∧ w.hits x = true) :=
  ⟨⟨{ run [] with nodes := [vol 0], lines := [⟨0, 1, 0, 0, .filling, 0, 0, []⟩] }, 0, 1, Line.mk 0 1 0 0 .filling 0 0 [], by decide +kernel⟩,
  ⟨{ run [] with nodes := [vol 0], lines := [⟨0, 1, 0, 0, .stale, 1, 0, []⟩] }, 0, 1, Line.mk 0 1 0 0 .stale 1 0 [], by decide +kernel⟩,
  ⟨{ run [] with nodes := [vol 0, stk 1 0], lines := [⟨1, 0, 0, 0, .stale, 1, 0, []⟩] }, Line.mk 1 0 0 0 .stale 1 0 [], (({ run [] with nodes := [vol 0, stk 1 0], lines := [⟨1, 0, 0, 0, .stale, 1, 0, []⟩] }).landLine (Line.mk 1 0 0 0 .stale 1 0 [])).lines.headD (Line.mk 1 0 0 0 .stale 1 0 []), by decide +kernel⟩,
  ⟨{ run [] with nodes := [vol 0], pages := [⟨0, 0, [], false, 0, none⟩], lookups := [⟨0, 0, 255⟩] }, _, 0, 255, rfl, by decide +kernel⟩,
  ⟨run [], 4095, 0, by decide +kernel⟩,
  ⟨{ run [] with nodes := [vol 0], pages := [⟨0, 0, [], false, 0, none⟩], lookups := [⟨0, 0, 255⟩] }, 0, 255, MapPage.mk 0 0 [] false 0 none, by decide +kernel⟩,
  ⟨{ run [] with nodes := [vol 0], lookups := [⟨0, 0, 255⟩] }, 0, 255, by decide +kernel⟩,
  ⟨(run []).put .MC_INV_STS_STATE 1 0 56, Agent.core 56, by decide +kernel⟩,
  ⟨run [], Agent.core 56, 4095, by decide +kernel⟩,
  ⟨{ run [] with nodes := [vol 4095] }, Agent.core 56, 4095, vol 4095, by decide +kernel⟩,
  ⟨{ (run []).put .MC_INV_COUNT 16 0 56 with nodes := [stk 4095 0] }, Agent.core 56, 4095, stk 4095 0, by decide +kernel⟩,
  ⟨{ run [] with lines := [⟨0, 3, 0, 0, .clean, 1, 0, []⟩] }, Sweep.mk 0 0 4 1 0 false 1, Line.mk 0 3 0 0 .stale 1 0 [], by decide +kernel⟩⟩

theorem witness_MapCacheEnableDisableAndDrain :
    (∃ (s : State) (ag : Agent), s.mayWrite ag .ownerMp = true ∧ s.unitPower uMap = 0 ∧ s.lockedFor ag .MC_CTL_ENABLE = false ∧ s.flag .MC_CTL_ENABLE = true ∧ s.pins = [])
    ∧ (∃ (s : State) (ag : Agent), s.mayWrite ag .ownerMp = true ∧ s.unitPower uMap = 0 ∧ s.lockedFor ag .MC_CTL_ENABLE = false ∧ s.flag .MC_CTL_ENABLE = false)
    ∧ (∃ (s : State) (ag : Agent), s.mayWrite ag .ownerMp = true ∧ s.unitPower uMap = 0 ∧ s.lockedFor ag .MC_CTL_ENABLE = false ∧ s.flag .MC_STS_DRAINED = true)
    ∧ (∃ (s : State) (ag : Agent), s.mayWrite ag .ownerMp = true ∧ s.unitPower uMap = 0 ∧ s.lockedFor ag .MC_CTL_ENABLE = false ∧ s.flag .MC_STS_DRAINED = false ∧ s.flag .MC_STS_DRAINING = true)
    ∧ (∃ (s : State), s.flag .MC_STS_DRAINING = false)
    ∧ (∃ (s : State), s.flag .MC_STS_INIT = true)
    ∧ (∃ (s : State), s.flag .MC_STS_INIT = false) :=
  ⟨⟨run [(.MC_CTL_ENABLE, 0, 1)], Agent.core 56, by decide +kernel⟩,
  ⟨run [(.MC_CTL_ENABLE, 0, 0)], Agent.core 56, by decide +kernel⟩,
  ⟨run [(.MC_STS_DRAINED, 0, 1)], Agent.core 56, by decide +kernel⟩,
  ⟨run [(.MC_STS_DRAINED, 0, 0), (.MC_STS_DRAINING, 0, 1)], Agent.core 56, by decide +kernel⟩,
  ⟨run [], by decide +kernel⟩,
  ⟨run [(.MC_STS_INIT, 0, 1)], by decide +kernel⟩,
  ⟨run [(.MC_STS_INIT, 0, 0)], by decide +kernel⟩⟩

theorem witness_JournalPagesAndMapPagesAreWritten :
    (∃ (s : State), (∀ r ∈ s.jnl, r.prog = true))
    ∧ (∃ (s : State) (x : JRec), (((s.jnl.filter fun r => !r.prog).take 512).getLast? = some x))
    ∧ (∃ (s : State), ((s.mode ≠ mRun ∧ s.mode ≠ mThrottle) ∨ s.get .PM_MODE_MOVE = 1))
    ∧ (∃ (s : State) (t : State) (n : Nat) (p : Nat), (t = forEach (s.lines.filter fun x => x.node = n && x.l / 256 = p && s.isVolume n) s (fun x t => t.writeBackLine x)) ∧ (s.mode = mRun ∨ s.mode = mThrottle) ∧ s.get .PM_MODE_MOVE ≠ 1 ∧ t.page? n p = none)
    ∧ (∃ (s : State) (t : State) (n : Nat) (p : Nat) (x : MapPage), (t = forEach (s.lines.filter fun x => x.node = n && x.l / 256 = p && s.isVolume n) s (fun x t => t.writeBackLine x)) ∧ (s.mode = mRun ∨ s.mode = mThrottle) ∧ s.get .PM_MODE_MOVE ≠ 1 ∧ t.page? n p = some x ∧ x.dirty = false)
    ∧ (∃ (s : State) (t : State) (n : Nat) (p : Nat) (x : MapPage), (t = forEach (s.lines.filter fun x => x.node = n && x.l / 256 = p && s.isVolume n) s (fun x t => t.writeBackLine x)) ∧ (s.mode = mRun ∨ s.mode = mThrottle) ∧ s.get .PM_MODE_MOVE ≠ 1 ∧ t.page? n p = some x ∧ x.dirty = true)
    ∧ (∃ (s : State) (t : State) (n : Nat) (p : Nat), (t = forEach (s.lines.filter fun x => x.node = n && x.l / 256 = p && s.isVolume n) s (fun x t => t.writeBackLine x)) ∧ (s.mode = mRun ∨ s.mode = mThrottle) ∧ s.get .PM_MODE_MOVE ≠ 1 ∧ t.openBand kindMap 4 = none)
    ∧ (∃ (s : State) (t : State) (n : Nat) (p : Nat) (b : Band), (t = forEach (s.lines.filter fun x => x.node = n && x.l / 256 = p && s.isVolume n) s (fun x t => t.writeBackLine x)) ∧ (s.mode = mRun ∨ s.mode = mThrottle) ∧ s.get .PM_MODE_MOVE ≠ 1 ∧ t.openBand kindMap 4 = some b) :=
  ⟨⟨{ run [] with jnl := [⟨1, 0x10, 0, 0, 0, true⟩] }, by decide +kernel⟩,
  ⟨{ run [] with jnl := [⟨1, 0x10, 0, 0, 0, true⟩, ⟨2, 0x10, 0, 0, 0, false⟩] }, JRec.mk 2 0x10 0 0 0 false, by decide +kernel⟩,
  ⟨wr [(.PM_MODE_MODE, 0, 4)], by decide +kernel⟩,
  ⟨run [], _, 0, 0, rfl, by decide +kernel⟩,
  ⟨{ run [] with pages := [⟨0, 1, [], false, 0, none⟩] }, _, 0, 1, MapPage.mk 0 1 [] false 0 none, rfl, by decide +kernel⟩,
  ⟨{ run [] with pages := [⟨0, 1, [(0, 1)], true, 0, none⟩] }, _, 0, 1, MapPage.mk 0 1 [(0, 1)] true 0 none, rfl, by decide +kernel⟩,
  ⟨{ run [] with pages := [⟨0, 1, [(0, 1)], true, 0, none⟩] }, _, 0, 1, rfl, by decide +kernel⟩,
  ⟨{ run die0 with pages := [⟨0, 1, [(0, 1)], true, 0, none⟩], bands := [lone kindMap] }, _, 0, 1, lone kindMap, rfl, by decide +kernel⟩⟩

theorem witness_MediaCallsAreRefusedOrRun :
    (∃ (s : State) (t : State) (ag : Agent) (cl : Nat) (slot : Nat) (c : Call), t = s.descPut (cl * 65536 + 32 * slot + 20) (natLe 2 stPending) ∧ c = s.callAt cl slot ag.ix none ∧ cl < 8 ∧ slot < 1536 ∧ s.mayWrite ag (.md cl) = true ∧ s.unitPower (uCluster cl) = 0 ∧ s.slotPending cl slot = false ∧ c.call = callRead ∧ t.refusal c false = none)
    ∧ (∃ (s : State) (t : State) (ag : Agent) (cl : Nat) (slot : Nat) (c : Call), t = s.descPut (cl * 65536 + 32 * slot + 20) (natLe 2 stPending) ∧ c = s.callAt cl slot ag.ix none ∧ cl < 8 ∧ slot < 1536 ∧ s.mayWrite ag (.md cl) = true ∧ s.unitPower (uCluster cl) = 0 ∧ s.slotPending cl slot = false ∧ c.call = callStatus ∧ t.refusal c false = none ∧ t.get .X_DIE_OP c.die ≠ 0)
    ∧ (∃ (s : State) (t : State) (ag : Agent) (cl : Nat) (slot : Nat) (c : Call) (v : Nat) (w : State), t = s.descPut (cl * 65536 + 32 * slot + 20) (natLe 2 stPending) ∧ c = s.callAt cl slot ag.ix none ∧ (v, w) = t.takeFree ∧ cl < 8 ∧ slot < 1536 ∧ s.mayWrite ag (.md cl) = true ∧ s.unitPower (uCluster cl) = 0 ∧ s.slotPending cl slot = false ∧ c.call = callStatus ∧ t.refusal c false = none ∧ t.get .X_DIE_OP c.die = 0)
    ∧ (∃ (s : State) (t : State) (ag : Agent) (cl : Nat) (slot : Nat) (c : Call), t = s.descPut (cl * 65536 + 32 * slot + 20) (natLe 2 stPending) ∧ c = s.callAt cl slot ag.ix none ∧ cl < 8 ∧ slot < 1536 ∧ s.mayWrite ag (.md cl) = true ∧ s.unitPower (uCluster cl) = 0 ∧ s.slotPending cl slot = false ∧ c.call = callEraseCount ∧ t.refusal c false = none)
    ∧ (∃ (s : State) (t : State) (ag : Agent) (cl : Nat) (slot : Nat) (c : Call), t = s.descPut (cl * 65536 + 32 * slot + 20) (natLe 2 stPending) ∧ c = s.callAt cl slot ag.ix none ∧ cl < 8 ∧ slot < 1536 ∧ s.mayWrite ag (.md cl) = true ∧ s.unitPower (uCluster cl) = 0 ∧ s.slotPending cl slot = false ∧ c.call = callFeature ∧ t.refusal c false = none ∧ c.param % 256 = 2 ∧ bit c.param 8 = false)
    ∧ (∃ (s : State) (t : State) (ag : Agent) (cl : Nat) (slot : Nat) (c : Call), t = s.descPut (cl * 65536 + 32 * slot + 20) (natLe 2 stPending) ∧ c = s.callAt cl slot ag.ix none ∧ cl < 8 ∧ slot < 1536 ∧ s.mayWrite ag (.md cl) = true ∧ s.unitPower (uCluster cl) = 0 ∧ s.slotPending cl slot = false ∧ c.call = callFeature ∧ t.refusal c false = none ∧ c.param % 256 = 2 ∧ bit c.param 8 = true)
    ∧ (∃ (s : State) (t : State) (ag : Agent) (cl : Nat) (slot : Nat) (c : Call), t = s.descPut (cl * 65536 + 32 * slot + 20) (natLe 2 stPending) ∧ c = s.callAt cl slot ag.ix none ∧ cl < 8 ∧ slot < 1536 ∧ s.mayWrite ag (.md cl) = true ∧ s.unitPower (uCluster cl) = 0 ∧ s.slotPending cl slot = false ∧ c.call = callRetire ∧ t.refusal c false = none ∧ c.param ≠ 1)
    ∧ (∃ (s : State) (t : State) (ag : Agent) (cl : Nat) (slot : Nat) (c : Call), t = s.descPut (cl * 65536 + 32 * slot + 20) (natLe 2 stPending) ∧ c = s.callAt cl slot ag.ix none ∧ cl < 8 ∧ slot < 1536 ∧ s.mayWrite ag (.md cl) = true ∧ s.unitPower (uCluster cl) = 0 ∧ s.slotPending cl slot = false ∧ c.call = callRetire ∧ t.refusal c false = none ∧ c.param = 1)
    ∧ (∃ (s : State) (t : State) (ag : Agent) (cl : Nat) (slot : Nat) (c : Call) (r : Nat), t = s.descPut (cl * 65536 + 32 * slot + 20) (natLe 2 stPending) ∧ c = s.callAt cl slot ag.ix none ∧ cl < 8 ∧ slot < 1536 ∧ s.mayWrite ag (.md cl) = true ∧ s.unitPower (uCluster cl) = 0 ∧ s.slotPending cl slot = false ∧ t.refusal c false = some r ∧ c.call = callRead)
    ∧ (∃ (s : State) (t : State) (ag : Agent) (cl : Nat) (slot : Nat) (c : Call) (r : Nat), t = s.descPut (cl * 65536 + 32 * slot + 20) (natLe 2 stPending) ∧ c = s.callAt cl slot ag.ix none ∧ cl < 8 ∧ slot < 1536 ∧ s.mayWrite ag (.md cl) = true ∧ s.unitPower (uCluster cl) = 0 ∧ s.slotPending cl slot = false ∧ t.refusal c false = some r ∧ c.call = callMargin)
    ∧ (∃ (s : State) (t : State) (ag : Agent) (cl : Nat) (slot : Nat) (c : Call) (r : Nat), t = s.descPut (cl * 65536 + 32 * slot + 20) (natLe 2 stPending) ∧ c = s.callAt cl slot ag.ix none ∧ cl < 8 ∧ slot < 1536 ∧ s.mayWrite ag (.md cl) = true ∧ s.unitPower (uCluster cl) = 0 ∧ s.slotPending cl slot = false ∧ t.refusal c false = some r ∧ c.call = callProgram)
    ∧ (∃ (s : State) (t : State) (ag : Agent) (cl : Nat) (slot : Nat) (c : Call) (r : Nat), t = s.descPut (cl * 65536 + 32 * slot + 20) (natLe 2 stPending) ∧ c = s.callAt cl slot ag.ix none ∧ cl < 8 ∧ slot < 1536 ∧ s.mayWrite ag (.md cl) = true ∧ s.unitPower (uCluster cl) = 0 ∧ s.slotPending cl slot = false ∧ t.refusal c false = some r ∧ c.call = callErase)
    ∧ (∃ (s : State) (t : State) (ag : Agent) (cl : Nat) (slot : Nat) (c : Call) (r : Nat), t = s.descPut (cl * 65536 + 32 * slot + 20) (natLe 2 stPending) ∧ c = s.callAt cl slot ag.ix none ∧ cl < 8 ∧ slot < 1536 ∧ s.mayWrite ag (.md cl) = true ∧ s.unitPower (uCluster cl) = 0 ∧ s.slotPending cl slot = false ∧ t.refusal c false = some r ∧ c.call = callSuspend)
    ∧ (∃ (s : State) (t : State) (ag : Agent) (cl : Nat) (slot : Nat) (c : Call) (r : Nat), t = s.descPut (cl * 65536 + 32 * slot + 20) (natLe 2 stPending) ∧ c = s.callAt cl slot ag.ix none ∧ cl < 8 ∧ slot < 1536 ∧ s.mayWrite ag (.md cl) = true ∧ s.unitPower (uCluster cl) = 0 ∧ s.slotPending cl slot = false ∧ t.refusal c false = some r ∧ c.call = callResume)
    ∧ (∃ (s : State) (t : State) (ag : Agent) (cl : Nat) (slot : Nat) (c : Call), t = s.descPut (cl * 65536 + 32 * slot + 20) (natLe 2 stPending) ∧ c = s.callAt cl slot ag.ix none ∧ cl < 8 ∧ slot < 1536 ∧ s.mayWrite ag (.md cl) = true ∧ s.unitPower (uCluster cl) = 0 ∧ s.slotPending cl slot = false ∧ (c.call = callMargin ∨ c.call = callProgram ∨ c.call = callErase ∨ c.call = callSuspend ∨ c.call = callResume))
    ∧ (∃ (s : State) (ag : Agent) (cl : Nat) (slot : Nat), cl < 8 ∧ slot < 1536 ∧ s.mayWrite ag (.md cl) = true ∧ s.unitPower (uCluster cl) = 0 ∧ s.slotPending cl slot = true ∧ s.descNat cl slot 0 1 = callRead)
    ∧ (∃ (s : State) (ag : Agent) (cl : Nat) (slot : Nat), cl < 8 ∧ 1536 ≤ slot ∧ s.mayWrite ag (.md cl) = true ∧ s.unitPower (uCluster cl) = 0 ∧ s.descNat cl slot 0 1 = callRead) :=
  ⟨⟨slotOf 1535 [] [(0, 1), (11, 1)], _, Agent.core (servingCore 0), 0, 1535, _, rfl, rfl, by decide +kernel⟩,
  ⟨(slotOf 1535 [] [(0, 7)]).put .X_DIE_OP 1 0, _, Agent.core (servingCore 0), 0, 1535, _, rfl, rfl, by decide +kernel⟩,
  ⟨slotOf 1535 [] [(0, 7)], _, Agent.core (servingCore 0), 0, 1535, _, ((slotOf 1535 [] [(0, 7)]).descPut ((0) * 65536 + 32 * (1535) + 20) (natLe 2 stPending)).takeFree.1, ((slotOf 1535 [] [(0, 7)]).descPut ((0) * 65536 + 32 * (1535) + 20) (natLe 2 stPending)).takeFree.2, rfl, rfl, free_pair _, by decide +kernel⟩,
  ⟨slotOf 1535 [(.X_BLK_CNT, blkIx 0 63, 9)] [(0, 8), (4, 63)], _, Agent.core (servingCore 0), 0, 1535, _, rfl, rfl, by decide +kernel⟩,
  ⟨slotOf 1535 [] [(0, 9), (16, 2)], _, Agent.core (servingCore 0), 0, 1535, _, rfl, rfl, by decide +kernel⟩,
  ⟨slotOf 1535 [] [(0, 9), (16, 258), (18, 5)], _, Agent.core (servingCore 0), 0, 1535, _, rfl, rfl, by decide +kernel⟩,
  ⟨slotOf 1535 [(.X_BLK_STATE, blkIx 0 3, bsInService)] [(0, 10), (4, 3), (16, 2)], _, Agent.core (servingCore 0), 0, 1535, _, rfl, rfl, by decide +kernel⟩,
  ⟨slotOf 1535 [(.X_BLK_STATE, blkIx 0 3, bsInService)] [(0, 10), (4, 3), (16, 1)], _, Agent.core (servingCore 0), 0, 1535, _, rfl, rfl, by decide +kernel⟩,
  ⟨slotOf 1535 [] [(0, 1), (3, 1), (11, 1)], _, Agent.core (servingCore 0), 0, 1535, _, stDieAbsent, rfl, rfl, by decide +kernel⟩,
  ⟨slotOf 1535 [] [(0, 2), (11, 1), (16, 16)], _, Agent.core (servingCore 0), 0, 1535, _, stNotPlanned, rfl, rfl, by decide +kernel⟩,
  ⟨slotOf 1535 [] [(0, 3), (11, 4)], _, Agent.core (servingCore 0), 0, 1535, _, stNotPlanned, rfl, rfl, by decide +kernel⟩,
  ⟨slotOf 1535 [] [(0, 4)], _, Agent.core (servingCore 0), 0, 1535, _, stNotPlanned, rfl, rfl, by decide +kernel⟩,
  ⟨slotOf 1535 [] [(0, 5)], _, Agent.core (servingCore 0), 0, 1535, _, stNotPlanned, rfl, rfl, by decide +kernel⟩,
  ⟨slotOf 1535 [] [(0, 6), (4, 1)], _, Agent.core (servingCore 0), 0, 1535, _, stBadDesc, rfl, rfl, by decide +kernel⟩,
  ⟨slotOf 1535 [] [(0, 4), (3, 1)], _, Agent.core (servingCore 0), 0, 1535, _, rfl, rfl, by decide +kernel⟩,
  ⟨(slotOf 1535 [] [(0, 1)]).descPut (32 * 1535 + 20) (natLe 2 stPending), Agent.core (servingCore 0), 0, 1535, by decide +kernel⟩,
  ⟨slotOf 1536 [] [(0, 1)], Agent.core (servingCore 0), 0, 1536, by decide +kernel⟩⟩

theorem witness_PlannedCallsStart :
    (∃ (s : State) (t : State) (d : Nat) (e : PEntry) (rest : List PEntry) (c : Call) (k : Nat) (u : Nat) (i : Instr), (t = (s.put .TK_PHASE_PHASE (max (s.get .TK_PHASE_PHASE) (1000 * e.start))).setPlan { s.plan d with active := rest }) ∧ c = t.callAt (channelCluster (dieChannel d)) e.desc (servingCore (dieChannel d)) (some e) ∧ e.desc < 1536 ∧ s.powered = true ∧ ((s.plan d).active = e :: rest) ∧ s.entryDue d e = true ∧ c.die = d ∧ c.call = e.op ∧ t.slotPending c.cl e.desc = false ∧ c.cl < 8 ∧ t.descNat c.cl e.desc 2 1 = d / 16 ∧ t.descNat c.cl e.desc 3 1 % 16 = d % 16 ∧ (k = callMargin ∧ u = 1 ∧ i = .readMarginCall .pf0 c.cl e.desc true ∨ k = callProgram ∧ u = 2 ∧ i = .programCall .pf0 c.cl e.desc true ∨ k = callErase ∧ u = 3 ∧ i = .eraseCall .pf0 c.cl e.desc true ∨ k = callProgram ∧ u = 2 ∧ i = .plannedEntryStart d) ∧ e.op = k ∧ (t.descPut (c.cl * 65536 + 32 * e.desc + 20) (natLe 2 stPending)).refusal c false = none ∧ u = 1)
    ∧ (∃ (s : State) (t : State) (d : Nat) (e : PEntry) (rest : List PEntry) (c : Call) (k : Nat) (u : Nat) (i : Instr), (t = (s.put .TK_PHASE_PHASE (max (s.get .TK_PHASE_PHASE) (1000 * e.start))).setPlan { s.plan d with active := rest }) ∧ c = t.callAt (channelCluster (dieChannel d)) e.desc (servingCore (dieChannel d)) (some e) ∧ e.desc < 1536 ∧ s.powered = true ∧ ((s.plan d).active = e :: rest) ∧ s.entryDue d e = true ∧ c.die = d ∧ c.call = e.op ∧ t.slotPending c.cl e.desc = false ∧ c.cl < 8 ∧ t.descNat c.cl e.desc 2 1 = d / 16 ∧ t.descNat c.cl e.desc 3 1 % 16 = d % 16 ∧ (k = callMargin ∧ u = 1 ∧ i = .readMarginCall .pf0 c.cl e.desc true ∨ k = callProgram ∧ u = 2 ∧ i = .programCall .pf0 c.cl e.desc true ∨ k = callErase ∧ u = 3 ∧ i = .eraseCall .pf0 c.cl e.desc true ∨ k = callProgram ∧ u = 2 ∧ i = .plannedEntryStart d) ∧ e.op = k ∧ (t.descPut (c.cl * 65536 + 32 * e.desc + 20) (natLe 2 stPending)).refusal c false = none ∧ u = 2)
    ∧ (∃ (s : State) (t : State) (d : Nat) (e : PEntry) (rest : List PEntry) (c : Call) (k : Nat) (u : Nat) (i : Instr), (t = (s.put .TK_PHASE_PHASE (max (s.get .TK_PHASE_PHASE) (1000 * e.start))).setPlan { s.plan d with active := rest }) ∧ c = t.callAt (channelCluster (dieChannel d)) e.desc (servingCore (dieChannel d)) (some e) ∧ e.desc < 1536 ∧ s.powered = true ∧ ((s.plan d).active = e :: rest) ∧ s.entryDue d e = true ∧ c.die = d ∧ c.call = e.op ∧ t.slotPending c.cl e.desc = false ∧ c.cl < 8 ∧ t.descNat c.cl e.desc 2 1 = d / 16 ∧ t.descNat c.cl e.desc 3 1 % 16 = d % 16 ∧ (k = callMargin ∧ u = 1 ∧ i = .readMarginCall .pf0 c.cl e.desc true ∨ k = callProgram ∧ u = 2 ∧ i = .programCall .pf0 c.cl e.desc true ∨ k = callErase ∧ u = 3 ∧ i = .eraseCall .pf0 c.cl e.desc true ∨ k = callProgram ∧ u = 2 ∧ i = .plannedEntryStart d) ∧ e.op = k ∧ (t.descPut (c.cl * 65536 + 32 * e.desc + 20) (natLe 2 stPending)).refusal c false = none ∧ u = 3)
    ∧ (∃ (s : State) (t : State) (d : Nat) (e : PEntry) (rest : List PEntry) (c : Call) (k : Nat) (u : Nat) (i : Instr), (t = (s.put .TK_PHASE_PHASE (max (s.get .TK_PHASE_PHASE) (1000 * e.start))).setPlan { s.plan d with active := rest }) ∧ c = t.callAt (channelCluster (dieChannel d)) e.desc (servingCore (dieChannel d)) (some e) ∧ e.desc < 1536 ∧ s.powered = true ∧ ((s.plan d).active = e :: rest) ∧ s.entryDue d e = true ∧ c.die = d ∧ c.call = e.op ∧ t.slotPending c.cl e.desc = false ∧ c.cl < 8 ∧ t.descNat c.cl e.desc 2 1 = d / 16 ∧ t.descNat c.cl e.desc 3 1 % 16 = d % 16 ∧ (k = callMargin ∧ u = 1 ∧ i = .readMarginCall .pf0 c.cl e.desc true ∨ k = callProgram ∧ u = 2 ∧ i = .programCall .pf0 c.cl e.desc true ∨ k = callErase ∧ u = 3 ∧ i = .eraseCall .pf0 c.cl e.desc true ∨ k = callProgram ∧ u = 2 ∧ i = .plannedEntryStart d) ∧ e.op = k ∧ (t.descPut (c.cl * 65536 + 32 * e.desc + 20) (natLe 2 stPending)).refusal c false = none ∧ u ≠ 3)
    ∧ (∃ (s : State) (t : State) (d : Nat) (e : PEntry) (rest : List PEntry) (c : Call) (u : State), (t = (s.put .TK_PHASE_PHASE (max (s.get .TK_PHASE_PHASE) (1000 * e.start))).setPlan { s.plan d with active := rest }) ∧ c = t.callAt (channelCluster (dieChannel d)) e.desc (servingCore (dieChannel d)) (some e) ∧ u = t.descPut (c.cl * 65536 + 32 * e.desc + 20) (natLe 2 stPending) ∧ e.desc < 1536 ∧ s.powered = true ∧ ((s.plan d).active = e :: rest) ∧ s.entryDue d e = true ∧ c.die = d ∧ c.call = e.op ∧ t.slotPending c.cl e.desc = false ∧ c.cl < 8 ∧ t.descNat c.cl e.desc 2 1 = d / 16 ∧ t.descNat c.cl e.desc 3 1 % 16 = d % 16 ∧ u.refusal c false = none ∧ e.op = callSuspend ∧ (u.dieSt d = dsProgramming ∨ u.dieSt d = dsErasing))
    ∧ (∃ (s : State) (t : State) (d : Nat) (e : PEntry) (rest : List PEntry) (c : Call) (u : State), (t = (s.put .TK_PHASE_PHASE (max (s.get .TK_PHASE_PHASE) (1000 * e.start))).setPlan { s.plan d with active := rest }) ∧ c = t.callAt (channelCluster (dieChannel d)) e.desc (servingCore (dieChannel d)) (some e) ∧ u = t.descPut (c.cl * 65536 + 32 * e.desc + 20) (natLe 2 stPending) ∧ e.desc < 1536 ∧ s.powered = true ∧ ((s.plan d).active = e :: rest) ∧ s.entryDue d e = true ∧ c.die = d ∧ c.call = e.op ∧ t.slotPending c.cl e.desc = false ∧ c.cl < 8 ∧ t.descNat c.cl e.desc 2 1 = d / 16 ∧ t.descNat c.cl e.desc 3 1 % 16 = d % 16 ∧ u.refusal c false = none ∧ e.op = callResume)
    ∧ (∃ (s : State) (d : Nat), (s.plan d).active = [])
    ∧ (∃ (s : State) (d : Nat) (e : PEntry) (rest : List PEntry), s.powered = true ∧ ((s.plan d).active = e :: rest) ∧ s.entryDue d e = true ∧ (8 ≤ e.op ∨ e.op ≠ opNop ∧ 1536 ≤ e.desc ∧ e.desc < hwDesc)) :=
  ⟨⟨planned callMargin (slotOf 1535 [] [(0, 2), (11, 1), (16, 16)]), _, 0, PEntry.mk 100 callMargin 1 false 26 1535, ([] : List PEntry), _, callMargin, 1, Instr.readMarginCall .pf0 0 1535 true, rfl, rfl, by decide +kernel⟩,
  ⟨planned callProgram (slotOf 1535 [(.X_BLK_MODE, blkIx 0 5, 1), (.X_BLK_WL, blkIx 0 5, 3)] [(0, 3), (4, 5), (8, 48), (11, 4)]), _, 0, PEntry.mk 100 callProgram 1 false 26 1535, ([] : List PEntry), _, callProgram, 2, Instr.programCall .pf0 0 1535 true, rfl, rfl, by decide +kernel⟩,
  ⟨planned callErase (slotOf 1535 [(.X_BLK_CNT, blkIx 0 5, 7)] [(0, 4), (4, 5)]), _, 0, PEntry.mk 100 callErase 1 false 26 1535, ([] : List PEntry), _, callErase, 3, Instr.eraseCall .pf0 0 1535 true, rfl, rfl, by decide +kernel⟩,
  ⟨planned callProgram (slotOf 1535 [(.X_BLK_MODE, blkIx 0 5, 1), (.X_BLK_WL, blkIx 0 5, 3)] [(0, 3), (4, 5), (8, 48), (11, 4)]), _, 0, PEntry.mk 100 callProgram 1 false 26 1535, ([] : List PEntry), _, callProgram, 2, Instr.plannedEntryStart 0, rfl, rfl, by decide +kernel⟩,
  ⟨planned callSuspend (slotOf 1535 [(.X_DIE_OP, 0, 1), (.X_DIE_SLIMP, 0, 3)] [(0, 5)]), _, 0, PEntry.mk 100 callSuspend 1 false 26 1535, ([] : List PEntry), _, _, rfl, rfl, rfl, by decide +kernel⟩,
  ⟨planned callResume (slotOf 1535 [(.X_DIE_OP, 0, 2), (.X_DIE_SUSP, 0, 1)] [(0, 6)]), _, 0, PEntry.mk 100 callResume 1 false 26 1535, ([] : List PEntry), _, _, rfl, rfl, rfl, by decide +kernel⟩,
  ⟨run [], 1535, by decide +kernel⟩,
  ⟨planned 8 (run die0), 0, PEntry.mk 100 8 1 false 26 1535, ([] : List PEntry), by decide +kernel⟩⟩

theorem witness_MediaCallsComplete :
    (∃ (s : State) (d : Nat), s.dieCall d callRead = none ∧ s.get .X_DIE_OP d ≠ 1)
    ∧ (∃ (s : State) (d : Nat), s.dieCall d callRead = none ∧ s.get .X_DIE_OP d ≠ 2)
    ∧ (∃ (s : State) (d : Nat), s.dieCall d callRead = none ∧ s.get .X_DIE_OP d = 0)
    ∧ (∃ (s : State) (d : Nat), s.dieCall d callRead = none ∧ s.flag .X_DIE_SUSPENDING d = false)
    ∧ (∃ (s : State) (d : Nat), s.dieCall d callRead = none ∧ s.dieCall d callMargin = none)
    ∧ (∃ (s : State) (d : Nat) (c : Call), s.dieCall d callMargin = some c ∧ c.count = 1) :=
  ⟨⟨run [], 1535, by decide +kernel⟩,
  ⟨run [], 1535, by decide +kernel⟩,
  ⟨run [], 1535, by decide +kernel⟩,
  ⟨run [], 1535, by decide +kernel⟩,
  ⟨run [], 1535, by decide +kernel⟩,
  ⟨{ run die0 with calls := [callOn callMargin] }, 0, callOn callMargin, by decide +kernel⟩⟩

theorem witness_MediaCallsComplete_2 :
    (∃ (s : State) (d : Nat) (c : Call) (l : List Nat), s.dieCall d callMargin = some c ∧ l.length = c.count)
    ∧ (∃ (s : State) (d : Nat) (b : Nat) (w : Nat), s.get .X_DIE_OP d = 1 ∧ s.flag .X_DIE_SUSP d = false ∧ s.get .X_DIE_OPBLK d = b ∧ s.get .X_DIE_OPPAGE d / 16 = w)
    ∧ (∃ (s : State) (d : Nat) (b : Nat) (c : Call), s.get .X_DIE_OP d = 2 ∧ s.flag .X_DIE_SUSP d = false ∧ s.get .X_DIE_OPBLK d = b ∧ s.dieCall d callErase = some c ∧ c.sys = false)
    ∧ (∃ (s : State) (d : Nat), s.flag .X_DIE_SUSPENDING d = true ∧ s.get .X_DIE_OP d ≠ 0 ∧ s.get .X_DIE_NSUSP d < 255)
    ∧ (∃ (s : State) (t : State) (d : Nat) (b : Nat) (v : Nat), (v, t) = s.takeFree ∧ s.flag .X_DIE_SUSP d = false ∧ s.get .X_DIE_OPBLK d = b ∧ s.get .X_DIE_OP d = 1)
    ∧ (∃ (s : State) (t : State) (d : Nat) (b : Nat) (v : Nat), (v, t) = s.takeFree ∧ s.flag .X_DIE_SUSP d = false ∧ s.get .X_DIE_OPBLK d = b ∧ s.get .X_DIE_OP d = 2) :=
  ⟨⟨{ run die0 with calls := [callOn callMargin] }, 0, callOn callMargin, [(3 : Nat)], by decide +kernel⟩,
  ⟨run (die0 ++ [(.X_DIE_OP, 0, 1), (.X_DIE_OPBLK, 0, 5), (.X_DIE_OPPAGE, 0, 48)]), 0, 5, 3, by decide +kernel⟩,
  ⟨{ run (die0 ++ [(.X_DIE_OP, 0, 2), (.X_DIE_OPBLK, 0, 5), (.X_DIE_OPMODE, 0, 2)]) with calls := [callOn callErase] }, 0, 5, callOn callErase, by decide +kernel⟩,
  ⟨run (die0 ++ [(.X_DIE_OP, 0, 1), (.X_DIE_SUSPENDING, 0, 1), (.X_DIE_NSUSP, 0, 254)]), 0, by decide +kernel⟩,
  ⟨opState 1, (opState 1).takeFree.2, 0, 5, (opState 1).takeFree.1, free_pair (opState 1), by decide +kernel⟩,
  ⟨opState 2, (opState 2).takeFree.2, 0, 5, (opState 2).takeFree.1, free_pair (opState 2), by decide +kernel⟩⟩

theorem witness_CompletionsSealedCallsAndBrownout :
    (∃ (s : State) (cl : Nat) (k : Nat) (x : Nat × Nat), cl < 8 ∧ k < 6 ∧ s.unitPower (uCluster cl) = 0 ∧ ((s.cpl.find? fun x => x.1 = 8 + 6 * cl + k) = some x))
    ∧ (∃ (s : State) (cl : Nat) (k : Nat), cl < 8 ∧ k < 6 ∧ s.unitPower (uCluster cl) = 0 ∧ ((s.cpl.find? fun x => x.1 = 8 + 6 * cl + k) = none))
    ∧ (∃ (s : State) (cl : Nat) (k : Nat), cl < 8 ∧ k < 6 ∧ s.unitPower (uCluster cl) = 3)
    ∧ (∃ (ch : Nat), ch < 96)
    ∧ (∃ (core : Nat), 8 ≤ core ∧ core < 56)
    ∧ (∃ (core : Nat), (core < 8 ∨ 56 ≤ core))
    ∧ (∃ (s : State), s.flag .X_BROWNOUT = true)
    ∧ (∃ (s : State) (c : Nat), s.flag .X_BROWNOUT = false ∧ c < 8) :=
  ⟨⟨{ run [] with cpl := [(55, 1535)] }, 7, 5, (55, 1535), by decide +kernel⟩,
  ⟨{ run [] with cpl := [(54, 1535)] }, 7, 5, by decide +kernel⟩,
  ⟨{ run [(.X_PWR_TARGET, uCluster 7, 3)] with cpl := [(54, 1535)] }, 7, 5, by decide +kernel⟩,
  ⟨95, by decide +kernel⟩,
  ⟨55, by decide +kernel⟩,
  ⟨56, by decide +kernel⟩,
  ⟨run [(.X_BROWNOUT, 0, 1)], by decide +kernel⟩,
  ⟨State.reset, 7, by decide +kernel⟩⟩

theorem witness_BandsAreOpenedMovedAndReleased :
    (∃ (s : State) (k : Nat) (r : Nat) (l : List (Option Nat)), (k = 0 ∨ 4 < k ∨ s.membersOk r l (s.kindMode k) = false))
    ∧ (∃ (s : State) (k : Nat) (r : Nat) (l : List (Option Nat)) (b : List (Option (Nat × Nat))), 1 ≤ k ∧ k ≤ 4 ∧ s.refillDue = false ∧ ((s.bands.filter fun b => b.isOpen).length < 12) ∧ s.membersOk r l (s.kindMode k) = true ∧ r = s.get .X_ROT ∧ (b = l.map (fun d => d.bind fun d => (s.chooseBlock k d).map fun b => (d, b))) ∧ ((b.filterMap fun x => x).length = (l.filterMap fun x => x).length) ∧ (∀ m ∈ b.filterMap (fun x => x), s.get .X_BLK_MM (blkIx m.1 m.2) = mmErased ∧ s.get .X_BLK_MODE (blkIx m.1 m.2) = s.kindMode k + 1)) :=
  ⟨⟨run [], 5, 0, ([] : List (Option Nat)), by decide +kernel⟩,
  ⟨dies16, kindRw, 0, list16, members16, by decide +kernel⟩⟩

theorem witness_BandsAreOpenedMovedAndReleased_2 :
    (∃ (s : State) (p : Nat) (b : Band) (u : FUnit), s.bgWork = true ∧ s.bandOf p = some b ∧ s.unitAt p = some u ∧ s.moving b = true ∧ s.liveFirst u.rcd p = true ∧ (∀ c ∈ s.copies, c.src ≠ p) ∧ (u.rcd.kind = 3 ∨ ∀ g ∈ s.namers u.rcd p, eRecov (s.mapGet u.rcd.node g) = false) ∧ (s.gcLookups u.rcd p).copyUnit p u (s.copyKind u.rcd) false = none)
    ∧ (∃ (s : State) (t : State) (p : Nat) (b : Band) (u : FUnit), s.bgWork = true ∧ s.bandOf p = some b ∧ s.unitAt p = some u ∧ s.moving b = true ∧ s.liveFirst u.rcd p = true ∧ (∀ c ∈ s.copies, c.src ≠ p) ∧ (u.rcd.kind = 3 ∨ ∀ g ∈ s.namers u.rcd p, eRecov (s.mapGet u.rcd.node g) = false) ∧ (s.gcLookups u.rcd p).copyUnit p u (s.copyKind u.rcd) false = some t) :=
  ⟨⟨moved [] [], 512, bandV, unit5, by decide +kernel⟩,
  ⟨moved2, (((moved2).gcLookups unit5.rcd 512).copyUnit 512 unit5 ((moved2).copyKind unit5.rcd) false).getD (moved2), 512, bandV, unit5, by decide +kernel⟩⟩

theorem witness_BandsAreOpenedMovedAndReleased_3 :
    (∃ (s : State), s.bgWork = false)
    ∧ (∃ (s : State) (p : Nat) (c : Copy), ((s.copies.find? fun c => c.src = p && !c.recov) = some c)) :=
  ⟨⟨wr [(.PM_MODE_MODE, 0, 4)], by decide +kernel⟩,
  ⟨{ moved [] [] with copies := [⟨512, 1024, 1, false⟩] }, 512, Copy.mk 512 1024 1 false, by decide +kernel⟩⟩

theorem witness_BandsAreOpenedMovedAndReleased_4 :
    (∃ (s : State) (i : Nat) (b : Band), (∀ m, some m ∈ b.members → s.blkState m.1 m.2 ≠ bsClosed) ∧ ((s.bands.find? fun b => b.id = i) = some b) ∧ b.isOpen = false ∧ s.moving b = true ∧ s.validFirsts b = [] ∧ (∀ c ∈ s.copies, ∀ x, s.bandOf c.src = some x → x.id ≠ i) ∧ s.movesDurable b = true ∧ (∀ p ∈ s.oldPages, ∀ x, s.bandOf p = some x → x.id ≠ i) ∧ s.cmds = [])
    ∧ (∃ (s : State) (i : Nat) (b : Band) (m : Nat × Nat), (∀ m, some m ∈ b.members → s.blkState m.1 m.2 ≠ bsClosed) ∧ ((s.bands.find? fun b => b.id = i) = some b) ∧ b.isOpen = false ∧ s.moving b = true ∧ s.validFirsts b = [] ∧ (∀ c ∈ s.copies, ∀ x, s.bandOf c.src = some x → x.id ≠ i) ∧ s.movesDurable b = true ∧ (∀ p ∈ s.oldPages, ∀ x, s.bandOf p = some x → x.id ≠ i) ∧ some m ∈ b.members) :=
  ⟨⟨{ moved [] [] with flash := [] }, 0, bandV, members_of (by decide +kernel), by decide +kernel⟩,
  ⟨{ moved [] [] with flash := [] }, 0, bandV, ((0, 1) : Nat × Nat), members_of (by decide +kernel), by decide +kernel⟩⟩

theorem witness_BandsAreOpenedMovedAndReleased_5 :
    (∃ (s : State) (i : Nat) (b : Band), ((s.bands.find? fun b => b.id = i) = some b) ∧ (b.isOpen = true ∨ s.validFirsts b ≠ [] ∨ s.movesDurable b = false ∨ (s.oldPages.any fun p => (s.bandOf p).any fun x => x.id = i) = true))
    ∧ (∃ (s : State) (t : State) (d : Nat) (b : Nat) (m : Nat) (cls : Nat), t = (if s.flag .X_BLK_BEGUN (blkIx d b) then s else (s.journal 0x25 0 (baddr d b) (s.get .X_BLK_CNT (blkIx d b) * 2 ^ 32 + m)).putFlag .X_BLK_BEGUN true (blkIx d b)) ∧ s.flag .X_DIE_POP d = true ∧ b < s.blocksPerDie (dieChannel d) ∧ (s.get .X_BLK_MM (blkIx d b) = mmReleased ∨ s.get .X_BLK_MM (blkIx d b) = mmHalfErased) ∧ (s.blkState d b = bsInService ∨ s.blkState d b = bsHalfErased) ∧ s.dieHasMode d m = true ∧ s.eraseUnderway d b = false ∧ s.eraseAllowed d b = true ∧ (s.durable (fun r => r.type = 0x24) = true) ∧ s.eraseClass (channelCluster (dieChannel d)) m = some cls) :=
  ⟨⟨moved [] [], 0, bandV, by decide +kernel⟩,
  ⟨run (die0 ++ [(.X_BLK_STATE, blkIx 0 63, bsInService), (.X_HU_COVER, 0, 1), (.X_BLK_BEGUN, blkIx 0 63, 1)]), _, 0, 63, 1, 3, rfl, by decide +kernel⟩⟩

theorem witness_BandsAreOpenedMovedAndReleased_6 :
    (∃ (s : State) (d : Nat) (b : Nat) (m : Nat), (s.eraseUnderway d b = true ∨ s.get .X_BLK_MM (blkIx d b) ≠ mmReleased ∧ s.get .X_BLK_MM (blkIx d b) ≠ mmHalfErased ∨ s.eraseAllowed d b = false ∨ s.eraseClass (channelCluster (dieChannel d)) m = none))
    ∧ (∃ (s : State) (i : Nat), ((s.bands.find? fun b => b.id = i) = none)) :=
  ⟨⟨run (die0 ++ [(.X_BLK_STATE, blkIx 0 63, bsInService), (.X_HU_COVER, 0, 1)]), 0, 63, 2, by decide +kernel⟩,
  ⟨moved [] [], 1, by decide +kernel⟩⟩

theorem witness_BandsAreOpenedMovedAndReleased_7 :
    (∃ (s : State) (i : Nat) (b : Band) (m : Nat × Nat), ((s.bands.find? fun b => b.id = i) = some b) ∧ s.wearRange.1 + s.get .MC_WL_CFG_SPREAD ≤ s.wearRange.2 ∧ b.isOpen = false ∧ b.wear = false ∧ some m ∈ b.members ∧ s.get .X_BLK_CNT (blkIx m.1 m.2) = s.wearRange.1 ∧ s.get .X_CAL_SEC ≠ s.calRaw / 65536 ∧ 0 < s.get .MC_WL_CFG_RATE ∧ s.bgWork = true) :=
  ⟨{ moved [(.X_CAL_SEC, 0, 1), (.X_DIE_POP, 0, 1), (.MS_CH_GEO_BLOCKS, 0, 2), (.X_BLK_CNT, blkIx 0 0, 40000), (.MC_WL_CFG_SPREAD, 0, 30000), (.MC_WL_CFG_RATE, 0, 1)] [] with bands := [{ band0 with isOpen := false, members := [some (0, 1)] }] }, 0, ({ band0 with isOpen := false, members := [some (0, 1)] } : Band), ((0, 1) : Nat × Nat), by decide +kernel⟩

theorem witness_FailedUnitsAreRecovered :
    (∃ (s : State) (k : Nat) (j : DeepJob), ((s.deepJobs.filter fun j => j.cl = k) = [j]) ∧ j.running = false)
    ∧ (∃ (s : State) (k : Nat), (2 ≤ ((s.deepJobs.filter fun j => j.cl = k).filter fun j => j.running).length))
    ∧ (∃ (s : State) (t : State) (p : Nat) (j : DeepJob) (l : Ladder), (t = { s with deepJobs := s.deepJobs.erase j, staged := s.staged.filter fun x => x.place ≠ p || !x.raw }) ∧ ((s.deepJobs.find? fun j => j.place = p && j.running) = some j) ∧ s.ladder? p = some l)
    ∧ (∃ (s : State) (p : Nat) (l : Ladder), s.ladder? p = some l ∧ l.busy = false ∧ l.exhausted = false ∧ (s.ladderSteps l)[l.done - 1]? = none)
    ∧ (∃ (s : State) (p : Nat) (l : Ladder) (k : Nat) (b : Bool), s.ladder? p = some l ∧ l.busy = false ∧ l.exhausted = false ∧ (s.ladderSteps l)[l.done - 1]? = some (k, b) ∧ s.ladders = [l] ∧ s.ladderAt l = (k, b))
    ∧ (∃ (s : State) (p : Nat) (h : Hedge), ((s.hedges.find? fun h => h.place = p) = some h) ∧ (h.need ≤ (h.members.filter fun m => m.2 = .verified).length))
    ∧ (∃ (s : State) (p : Nat) (h : Hedge), ((s.hedges.find? fun h => h.place = p) = some h) ∧ ((h.members.filter fun m => m.2 = .verified).length < h.need))
    ∧ (∃ (s : State) (p : Nat) (h : Hedge), ((s.hedges.find? fun h => h.place = p) = some h) ∧ (h.failed = false ∨ h.retried = true))
    ∧ (∃ (s : State) (p : Nat) (h : Hedge), ((s.hedges.find? fun h => h.place = p) = some h) ∧ h.failed = true ∧ h.retried = false ∧ (((s.ladder? p).elim h.recon fun l => l.exhausted) = true))
    ∧ (∃ (s : State) (t : State) (n : Nat) (c : Cmd), t = ((s.toBackground c).bump .MC_CNT_CMD_MAX).raise 74 uMap c.node ∧ s.cmd? n = some c ∧ c.isRead = true ∧ c.st = .planned ∧ c.wants ≠ [])
    ∧ (∃ (s : State) (n : Nat) (g : Nat) (r : Recov), ((s.recovs.find? fun r => r.node = n && r.g = g) = some r) ∧ r.going = false)
    ∧ (∃ (s : State) (n : Nat) (g : Nat) (r : Recov), ((s.recovs.find? fun r => r.node = n && r.g = g) = some r) ∧ r.going = true ∧ r.phase = 1 ∧ s.recovLeft r ≠ [] ∧ (s.recovLeft r).all s.ladderOver = true)
    ∧ (∃ (s : State) (n : Nat) (g : Nat) (r : Recov), ((s.recovs.find? fun r => r.node = n && r.g = g) = some r) ∧ r.going = true ∧ s.recovLeft r ≠ [] ∧ (s.recovLeft r).all s.unitGivenUp = true)
    ∧ (∃ (s : State) (n : Nat) (g : Nat) (r : Recov), ((s.recovs.find? fun r => r.node = n && r.g = g) = some r) ∧ (r.going = false ∨ s.recovLeft r = []))
    ∧ (∃ (s : State) (n : Nat) (g : Nat) (r : Recov), ((s.recovs.find? fun r => r.node = n && r.g = g) = some r) ∧ (eState (s.mapGet n g) ≠ 1 ∨ eRecov (s.mapGet n g) = false))
    ∧ (∃ (s : State) (n : Nat) (g : Nat) (r : Recov) (t : State) (u : FUnit) (b : Band), ((s.recovs.find? fun r => r.node = n && r.g = g) = some r) ∧ eState (s.mapGet n g) = 1 ∧ eRecov (s.mapGet n g) = true ∧ eLost (s.mapGet n g) = false ∧ r.going = true ∧ s.recovLeft r = [] ∧ (∀ c ∈ s.copies, c.src ≠ ePlace (s.mapGet n g)) ∧ s.unitAt (ePlace (s.mapGet n g)) = some u ∧ s.bandOf (ePlace (s.mapGet n g)) = some b ∧ s.copyUnit (ePlace (s.mapGet n g)) u b.kind true = some t)
    ∧ (∃ (s : State) (t : State) (n : Nat) (g : Nat) (c : Copy), t = s.commitCopy c true ∧ ((s.copies.find? fun c => c.recov && c.src = ePlace (s.mapGet n g)) = some c) ∧ s.copyComplete c = true ∧ eState (s.mapGet n g) = 1)
    ∧ (∃ (s : State), (s.flag .MC_PATROL_CFG_ENABLE = false ∨ s.bgWork = false))
    ∧ (∃ (s : State), s.flag .MC_PATROL_CFG_ENABLE = true ∧ s.bgWork = true ∧ s.fullFrom (s.get .X_PAT_BAND) = none ∧ ((s.bands.any fun b => !b.isOpen) = true))
    ∧ (∃ (s : State) (t : State) (u : State) (w : State) (x : UnitResult) (b : Band) (pos : Nat) (m : Nat × Nat) (p : Nat) (n : Nat), t = (s.countBlockRead m.1 m.2).checkReads m.1 m.2 ∧ u = (match x with | .verified k => if t.get .MC_PATROL_CFG_REFRESH_BITS ≤ k then t.queueRefresh p else t | .blank => t | r => (t.queueRefresh p).unitFailed p 3 r) ∧ w = (if u.wlPages b * u.bandWlb b * n ≤ pos + 1 then (u.put .X_PAT_BAND (b.id + 1)).put .X_PAT_POS 0 else (u.put .X_PAT_BAND b.id).put .X_PAT_POS (pos + 1)) ∧ pos = (if b.id = s.get .X_PAT_BAND then s.get .X_PAT_POS else 0) ∧ (m = (b.members.filterMap fun x => x).getD (pos % n) (0, 0)) ∧ p = placeOf m.1 (s.unitAddr m.1 m.2 (s.pageIndex b (pos / n)) ((s.pageIndex b (pos / n) + s.get .MC_PATROL_LAP / 2 ^ 32) % 4)) ∧ (n = (b.members.filterMap fun x => x).length) ∧ s.flag .MC_PATROL_CFG_ENABLE = true ∧ s.bgWork = true ∧ s.fullFrom (s.get .X_PAT_BAND) = some b)
    ∧ (∃ (s : State) (i : Nat) (b : Band), ((s.bands.find? fun b => b.id = i) = some b) ∧ b.isOpen = false ∧ b.refresh = true ∧ s.bgWork = true)
    ∧ (∃ (s : State) (i : Nat) (b : Band), ((s.bands.find? fun b => b.id = i) = some b) ∧ b.isOpen = false ∧ (b.refresh = false ∨ s.bgWork = false))
    ∧ (∃ (s : State) (i : Nat) (b : Band), ((s.bands.find? fun b => b.id = i) = some b) ∧ b.isOpen = false ∧ b.refresh = false ∧ s.get .MC_PATROL_CFG_AGE_DAYS ≠ 0 ∧ s.flag .CAL_STS_VALID = true ∧ b.closedAt ≠ 0 ∧ b.closedAt + s.get .MC_PATROL_CFG_AGE_DAYS * 86400 ≤ s.calRaw / 65536) :=
  ⟨⟨{ run [] with deepJobs := [⟨7, 512, false, 1, 0, false⟩] }, 7, DeepJob.mk 7 512 false 1 0 false, by decide +kernel⟩,
  ⟨{ run [] with deepJobs := [⟨7, 512, false, 1, 0, true⟩, ⟨7, 513, false, 1, 0, true⟩] }, 7, by decide +kernel⟩,
  ⟨{ run [] with deepJobs := [⟨0, 512, false, 1, 0, true⟩], ladders := [⟨512, 1, 0, 0, true, false, false⟩] }, _, 512, DeepJob.mk 0 512 false 1 0 true, Ladder.mk 512 1 0 0 true false false, rfl, by decide +kernel⟩,
  ⟨{ run [] with ladders := [⟨512, 1, 0, 1, false, false, false⟩] }, 512, Ladder.mk 512 1 0 1 false false false, by decide +kernel⟩,
  ⟨{ run [(.X_DIE_RETRY, 0, 14), (.MC_RI_CFG_LADDER_MAX, 0, 14)] with ladders := [⟨512, 1, 0, 14, false, false, false⟩] }, 512, Ladder.mk 512 1 0 14 false false false, 14, true, by decide +kernel⟩,
  ⟨{ run [] with hedges := [⟨512, 0, 1, [(513, .verified)], 0, 0, false, false⟩] }, 512, Hedge.mk 512 0 1 [(513, .verified)] 0 0 false false, by decide +kernel⟩,
  ⟨{ run [] with hedges := [⟨512, 0, 2, [(513, .verified)], 0, 0, false, false⟩] }, 512, Hedge.mk 512 0 2 [(513, .verified)] 0 0 false false, by decide +kernel⟩,
  ⟨{ run [] with hedges := [⟨512, 0, 2, [(513, .verified), (514, .waiting)], 0, 0, false, false⟩] }, 512, Hedge.mk 512 0 2 [(513, .verified), (514, .waiting)] 0 0 false false, by decide +kernel⟩,
  ⟨{ run [] with hedges := [⟨512, 2, 1, [(513, .failed)], 0, 0, false, true⟩] }, 512, Hedge.mk 512 2 1 [(513, .failed)] 0 0 false true, by decide +kernel⟩,
  ⟨withCmd [] waiting, _, 1, waiting, rfl, by decide +kernel⟩,
  ⟨{ run [(.MC_RI_CFG_RECOV_PASSES, 0, 3)] with recovs := [⟨4095, 5, 3, 1, false, []⟩] }, 4095, 5, Recov.mk 4095 5 3 1 false [], by decide +kernel⟩,
  ⟨recovering [] [] ⟨0, 5, 1, 0, true, []⟩, 0, 5, Recov.mk 0 5 1 0 true [], by decide +kernel⟩,
  ⟨recovering [] [] ⟨0, 5, 1, 0, true, []⟩, 0, 5, Recov.mk 0 5 1 0 true [], by decide +kernel⟩,
  ⟨{ run [(.MC_RI_CFG_RECOV_PASSES, 0, 3)] with recovs := [⟨4095, 5, 3, 1, false, []⟩] }, 4095, 5, Recov.mk 4095 5 3 1 false [], by decide +kernel⟩,
  ⟨{ run [(.MC_RI_CFG_RECOV_PASSES, 0, 3)] with recovs := [⟨4095, 5, 3, 1, false, []⟩] }, 4095, 5, Recov.mk 4095 5 3 1 false [], by decide +kernel⟩,
  ⟨recovering die0 [lone kindRw] ⟨0, 5, 1, 0, true, [512]⟩, 0, 5, Recov.mk 0 5 1 0 true [512], ((recovering die0 [lone kindRw] ⟨0, 5, 1, 0, true, [512]⟩).copyUnit 512 unit5 bandV.kind true).getD (recovering die0 [lone kindRw] ⟨0, 5, 1, 0, true, [512]⟩), unit5, bandV, by decide +kernel⟩,
  ⟨{ moved [] [] with copies := [⟨512, 1024, 1, true⟩] }, _, 0, 5, Copy.mk 512 1024 1 true, rfl, by decide +kernel⟩,
  ⟨run [(.MC_PATROL_CFG_ENABLE, 0, 0)], by decide +kernel⟩,
  ⟨{ moved [(.MC_PATROL_CFG_ENABLE, 0, 1), (.X_PAT_BAND, 0, 1)] [] with flash := [] }, by decide +kernel⟩,
  ⟨{ moved [(.MC_PATROL_CFG_ENABLE, 0, 1)] [] with flash := [] }, _, _, _, UnitResult.blank, bandV, _, _, _, _, rfl, rfl, rfl, rfl, rfl, rfl, rfl, by decide +kernel⟩,
  ⟨{ run [] with bands := [{ band0 with isOpen := false, refresh := true }] }, 0, ({ band0 with isOpen := false, refresh := true } : Band), by decide +kernel⟩,
  ⟨{ run [] with bands := [{ band0 with isOpen := false }] }, 0, ({ band0 with isOpen := false } : Band), by decide +kernel⟩,
  ⟨{ run [(.MC_PATROL_CFG_AGE_DAYS, 0, 1), (.CAL_STS_VALID, 0, 1), (.CAL_TIME, 0, 86401 * 65536)] with bands := [{ band0 with isOpen := false, closedAt := 1 }] }, 0, ({ band0 with isOpen := false, closedAt := 1 } : Band), by decide +kernel⟩⟩

theorem witness_EnginesDictionariesAndMemories :
    (∃ (s : State) (e : Nat) (j : EngJob), e < 32 ∧ s.engineIdle e = true ∧ nextJob (s.decQueue (e / 4)) = some j)
    ∧ (∃ (s : State) (e : Nat) (k : Nat) (j : EngJob) (x : EngJob), e < 32 ∧ k < 8 ∧ k ≠ e / 4 ∧ s.engineIdle e = true ∧ nextJob (s.decQueue k) = some j ∧ nextJob ((s.decQueue k).filter EngJob.roams) = some x)
    ∧ (∃ (s : State) (e : Nat), s.engineIdle e = false)
    ∧ (∃ (s : State) (e : Nat) (j : EngJob) (c : Cmd) (l : List Nat) (d : List Byte), ((s.engJobs.find? fun j => j.engine = some e) = some j) ∧ s.cmd? j.cmd = some c ∧ c.st = .planned ∧ j.kind = .block l ∧ c.mute = false ∧ mumelChecked (l.flatMap s.unitBytes) = .ok d)
    ∧ (∃ (s : State) (e : Nat) (j : EngJob) (c : Cmd) (l : List Nat), ((s.engJobs.find? fun j => j.engine = some e) = some j) ∧ s.cmd? j.cmd = some c ∧ c.st = .planned ∧ j.kind = .block l ∧ c.mute = false ∧ mumelChecked (l.flatMap s.unitBytes) = .badCheck ∧ j.again = false)
    ∧ (∃ (s : State) (e : Nat) (n : Nat) (c : Cmd), 32 ≤ e ∧ e < 40 ∧ s.cmd? n = some c ∧ s.engineIdle e = true ∧ c.nvme = false ∧ c.op = 0x0C ∧ c.st = .admitted ∧ (s.cmdData c 0 c.bytes).isSome = true ∧ (∀ j ∈ s.engJobs, j.cmd ≠ n))
    ∧ (∃ (s : State) (e : Nat) (n : Nat) (c : Cmd) (b : Nat × Nat), 32 ≤ e ∧ e < 40 ∧ s.cmd? n = some c ∧ s.engineIdle e = true ∧ c.nvme = false ∧ c.op = 0x04 ∧ c.st = .admitted ∧ (∀ j ∈ s.engJobs, j.cmd ≠ n) ∧ (((s.packBlocks c).filter fun b => c.parts.any fun p => p.pos = b.1 && !p.done).head? = some b) ∧ (s.blockInput c b.1 b.2).isSome = true)
    ∧ (∃ (s : State) (e : Nat) (n : Nat) (c : Cmd) (j : EngJob), 32 ≤ e ∧ e < 40 ∧ s.cmd? n = some c ∧ s.engineIdle e = true ∧ c.nvme = false ∧ (c.op = 0x04 ∨ c.op = 0x0C) ∧ c.st = .admitted ∧ ((s.engJobs.find? fun j => j.cmd = n && j.engine.isNone) = some j))
    ∧ (∃ (s : State) (e : Nat) (j : EngJob) (c : Cmd) (g : Nat) (n : Nat) (b : List Byte), ((s.engJobs.find? fun j => j.engine = some e) = some j) ∧ j.kind = .pack g n ∧ s.cmd? j.cmd = some c ∧ c.mute = false ∧ c.st = .admitted ∧ c.op = 0x0C ∧ saves b c.bytes = false)
    ∧ (∃ (s : State) (ag : Agent) (n : Nat) (k : Nat), n < 4096 ∧ k < 64 ∧ s.mayWrite ag .ownerFeMp = true ∧ s.unitPower uChip = 0 ∧ s.get .CX_DICT_STS_STATE 0 ag.ix ≠ 1 ∧ s.node? n = none)
    ∧ (∃ (s : State) (ag : Agent) (n : Nat) (k : Nat) (x : Node), n < 4096 ∧ k < 64 ∧ s.mayWrite ag .ownerFeMp = true ∧ s.unitPower uChip = 0 ∧ s.get .CX_DICT_STS_STATE 0 ag.ix ≠ 1 ∧ s.node? n = some x ∧ x.deleting = false ∧ x.isStack = false ∧ x.writable = false ∧ 1 ≤ k ∧ k ≤ 32 ∧ s.get .CX_DICT_LBA 0 ag.ix + k ≤ x.size)
    ∧ (∃ (s : State) (ag : Agent) (n : Nat) (k : Nat) (x : Node), n < 4096 ∧ k < 64 ∧ s.mayWrite ag .ownerFeMp = true ∧ s.unitPower uChip = 0 ∧ s.get .CX_DICT_STS_STATE 0 ag.ix ≠ 1 ∧ s.node? n = some x ∧ x.deleting = false ∧ x.isStack = false ∧ x.writable = false ∧ ((s.dicts.any fun d => d.node = n) = true))
    ∧ (∃ (s : State) (ag : Agent) (k : Nat) (a : Nat) (u : Nat) (b : List Byte), (b = ((List.range u).flatMap fun i => match s.supply (a + i) [k] with | some (v, w) => s.readUnit v w (a + i) | none => zeroUnit)) ∧ s.get .CX_DICT_STS_STATE 0 ag.ix = 1 ∧ s.get .CX_DICT_CMD_NODE 0 ag.ix = k ∧ s.get .CX_DICT_LBA 0 ag.ix = a ∧ s.get .CX_DICT_CMD_UNITS 0 ag.ix = u ∧ s.dictReason 1 k a u = none ∧ dictOk true b = true ∧ s.dicts.length < s.get .CX_CAP_DICT_MAX)
    ∧ (∃ (s : State) (t : State) (m : Nat) (n : Nat) (l : Nat) (x : Line), t = (s.put .CHP_ECC_STS_UE (s.get .CHP_ECC_STS_UE ||| 2 ^ m)).raise (6 + m) (memUnit m 0) 0 ∧ m < 6 ∧ t.line? n l = some x ∧ x.st = .clean ∧ x.pins = 0)
    ∧ (∃ (s : State) (t : State) (m : Nat) (n : Nat) (p : Nat) (x : MapPage), t = (s.put .CHP_ECC_STS_UE (s.get .CHP_ECC_STS_UE ||| 2 ^ m)).raise (6 + m) (memUnit m 0) 0 ∧ m < 6 ∧ t.page? n p = some x ∧ x.dirty = false)
    ∧ (∃ (s : State) (t : State) (m : Nat) (n : Nat) (l : Nat) (x : Line), t = (s.put .CHP_ECC_STS_UE (s.get .CHP_ECC_STS_UE ||| 2 ^ m)).raise (6 + m) (memUnit m 0) 0 ∧ m < 6 ∧ t.line? n l = some x ∧ x.st = .clean ∧ 0 < x.pins)
    ∧ (∃ (s : State) (t : State) (m : Nat) (p : Nat), t = (s.put .CHP_ECC_STS_UE (s.get .CHP_ECC_STS_UE ||| 2 ^ m)).raise (6 + m) (memUnit m (placeCluster p)) 0 ∧ m < 6 ∧ t.wanted p = false)
    ∧ (∃ (s : State) (t : State) (m : Nat) (e : Nat), t = (s.put .CHP_ECC_STS_UE (s.get .CHP_ECC_STS_UE ||| 2 ^ m)).raise (6 + m) (memUnit m (if e < 32 then e / 4 else e - 32)) 0 ∧ m < 6)
    ∧ (∃ (s : State) (t : State) (m : Nat) (n : Nat), t = (s.put .CHP_ECC_STS_UE (s.get .CHP_ECC_STS_UE ||| 2 ^ m)).raise (6 + m) (memUnit m 0) (if m = 4 then n else 0) ∧ m < 6)
    ∧ (∃ (s : State) (m : Nat), (6 ≤ m ∨ bit (s.get .CHP_ECC_CTL_SCRUB_EN) m = false))
    ∧ (∃ (s : State) (m : Nat), m < 6 ∧ bit (s.get .CHP_ECC_CTL_SCRUB_EN) m = true)
    ∧ (∃ (s : State) (ag : Agent), s.mayWrite ag .ownerMpWd = true ∧ s.unitPower uChip = 0) :=
  ⟨⟨{ run [(.X_OWN_READY, uEngines 7, 1)] with engJobs := [⟨1, 7, 1, 1, 1, .block [512], none, false, true, [], false⟩] }, 31, EngJob.mk 1 7 1 1 1 (.block [512]) none false true [] false, by decide +kernel⟩,
  ⟨{ run [(.X_OWN_READY, uEngines 7, 1)] with engJobs := [⟨1, 0, 1, 1, 1, .block [512], none, false, true, [], true⟩] }, 31, 0, EngJob.mk 1 0 1 1 1 (.block [512]) none false true [] true, EngJob.mk 1 0 1 1 1 (.block [512]) none false true [] true, by decide +kernel⟩,
  ⟨State.reset, 31, by decide +kernel⟩,
  ⟨decoding 0xE16DCDEE, 0, EngJob.mk 1 0 1 1 1 (.block [512]) (some 0) false true [] false, { pkt 2 [(6, 1)] with st := .planned }, [512], [0x41], by decide +kernel⟩,
  ⟨decoding 0, 0, EngJob.mk 1 0 1 1 1 (.block [512]) (some 0) false true [] false, { pkt 2 [(6, 1)] with st := .planned }, [512], by decide +kernel⟩,
  ⟨withCmd [(.X_OWN_READY, uEngines 7, 1)] { pkt 12 [] with st := .admitted, bytes := 4, got := [(0, [1, 2, 3, 4])] }, 39, 1, { pkt 12 [] with st := .admitted, bytes := 4, got := [(0, [1, 2, 3, 4])] }, by decide +kernel⟩,
  ⟨withCmd [(.X_OWN_READY, uEngines 7, 1)] { pkt 4 [] with st := .admitted, target := 1, bytes := 512, parts := [⟨0, 0, 0, .zero, false, [], 0⟩], got := [(0, natLe 512 0)] }, 39, 1, { pkt 4 [] with st := .admitted, target := 1, bytes := 512, parts := [⟨0, 0, 0, .zero, false, [], 0⟩], got := [(0, natLe 512 0)] }, (0, 1), by decide +kernel⟩,
  ⟨{ withCmd [(.X_OWN_READY, uEngines 7, 1)] { pkt 12 [] with st := .admitted, bytes := 4 } with engJobs := [⟨1, 7, 1, 1, 1, .pack 0 0, none, false, true, [], false⟩] }, 39, 1, { pkt 12 [] with st := .admitted, bytes := 4 }, EngJob.mk 1 7 1 1 1 (.pack 0 0) none false true [] false, by decide +kernel⟩,
  ⟨{ withCmd [] { pkt 12 [] with st := .admitted, bytes := 4096 } with engJobs := [⟨1, 0, 1, 1, 1, .pack 0 0, some 32, false, true, [], false⟩] }, 32, EngJob.mk 1 0 1 1 1 (.pack 0 0) (some 32) false true [] false, { pkt 12 [] with st := .admitted, bytes := 4096 }, 0, 0, ([] : List Byte), by decide +kernel⟩,
  ⟨run [], Agent.core 0, 4095, 63, by decide +kernel⟩,
  ⟨{ run [] with nodes := [{ vol 4095 with writable := false, size := 32 }] }, Agent.core 0, 4095, 32, { vol 4095 with writable := false, size := 32 }, by decide +kernel⟩,
  ⟨{ run [] with nodes := [{ vol 4095 with writable := false, size := 32 }], dicts := [⟨4095, 0, 1, 1, []⟩] }, Agent.core 0, 4095, 32, { vol 4095 with writable := false, size := 32 }, by decide +kernel⟩,
  ⟨{ moved [(.CX_DICT_STS_STATE, 0, 1), (.CX_DICT_LBA, 0, 5), (.CX_DICT_CMD_UNITS, 0, 1)] [] with nodes := [{ vol 0 with writable := false }], flash := [(512, some ⟨⟨1, 1, true, 0, 1, 0, 5, 0, 0⟩, dict1⟩)] }, Agent.core 0, 0, 5, 1, _, rfl, by decide +kernel⟩,
  ⟨{ run [] with lines := [⟨0, 1, 0, 0, .clean, 0, 0, []⟩] }, _, 5, 0, 1, Line.mk 0 1 0 0 .clean 0 0 [], rfl, by decide +kernel⟩,
  ⟨{ run [] with pages := [⟨0, 0, [], false, 0, none⟩] }, _, 5, 0, 0, MapPage.mk 0 0 [] false 0 none, rfl, by decide +kernel⟩,
  ⟨{ run [] with lines := [⟨0, 1, 0, 0, .clean, 1, 0, []⟩] }, _, 5, 0, 1, Line.mk 0 1 0 0 .clean 1 0 [], rfl, by decide +kernel⟩,
  ⟨run [(.CHP_ECC_CTL_SCRUB_EN, 0, 32)], _, 5, 512, rfl, by decide +kernel⟩,
  ⟨run [(.CHP_ECC_CTL_SCRUB_EN, 0, 32)], _, 5, 39, rfl, by decide +kernel⟩,
  ⟨run [(.CHP_ECC_CTL_SCRUB_EN, 0, 32)], _, 4, 5, rfl, by decide +kernel⟩,
  ⟨run [], 6, by decide +kernel⟩,
  ⟨run [(.CHP_ECC_CTL_SCRUB_EN, 0, 32)], 5, by decide +kernel⟩,
  ⟨run [], Agent.core 56, by decide +kernel⟩⟩

theorem witness_MailboxCommandsAreAnswered :
    (∃ (s : State) (b : List Byte) (r : Nat), s.mbxDue b = true ∧ fieldAt b 0 1 = 1 ∧ s.mbxVerdict b 1 false = some r)
    ∧ (∃ (s : State) (b : List Byte) (r : Nat), s.mbxDue b = true ∧ fieldAt b 0 1 = 2 ∧ s.mbxVerdict b 2 false = some r)
    ∧ (∃ (s : State) (b : List Byte) (r : Nat), s.mbxDue b = true ∧ fieldAt b 0 1 = 4 ∧ s.mbxVerdict b 4 true = some r)
    ∧ (∃ (s : State) (b : List Byte) (r : Nat), s.mbxDue b = true ∧ fieldAt b 0 1 = 5 ∧ s.mbxVerdict b 5 true = some r)
    ∧ (∃ (s : State) (b : List Byte), s.mbxDue b = true ∧ fieldAt b 0 1 = 1 ∧ s.mbxVerdict b 1 false = none)
    ∧ (∃ (s : State) (b : List Byte), s.mbxDue b = true ∧ fieldAt b 0 1 = 2 ∧ s.mbxVerdict b 2 false = none)
    ∧ (∃ (s : State) (b : List Byte), s.mbxDue b = true ∧ fieldAt b 0 1 = 3 ∧ s.mbxVerdict b 3 false = none ∧ s.flag .SEC_STS_KEYED = true ∧ s.nonceFresh = true)
    ∧ (∃ (s : State) (b : List Byte), s.mbxDue b = true ∧ fieldAt b 0 1 = 3 ∧ s.mbxVerdict b 3 false = none ∧ s.flag .SEC_STS_KEYED = false)
    ∧ (∃ (s : State) (b : List Byte), s.mbxDue b = true ∧ fieldAt b 0 1 = 4 ∧ s.mbxVerdict b 4 true = none)
    ∧ (∃ (s : State) (b : List Byte), s.mbxDue b = true ∧ fieldAt b 0 1 = 5 ∧ s.mbxVerdict b 5 true = none)
    ∧ (∃ (s : State) (b : List Byte), s.mbxDue b = true ∧ fieldAt b 0 1 = 6 ∧ s.mbxVerdict b 6 true = none ∧ s.isVolume (fieldAt b 16 4) = true ∧ ((s.licences.any fun l => l.node = fieldAt b 16 4) = true))
    ∧ (∃ (s : State) (b : List Byte) (l : Licence), s.mbxDue b = true ∧ fieldAt b 0 1 = 7 ∧ s.mbxVerdict b 7 false = none ∧ s.isVolume (fieldAt b 16 4) = true ∧ ((s.licences.find? fun l => l.node = fieldAt b 16 4) = some l))
    ∧ (∃ (s : State) (b : List Byte), s.mbxDue b = true ∧ fieldAt b 0 1 = 8 ∧ s.mbxVerdict b 8 false = none ∧ s.nonceOk b = true ∧ s.get .SEC_TIME_FLOOR ≤ fieldAt b 16 8)
    ∧ (∃ (s : State) (b : List Byte), s.mbxDue b = true ∧ fieldAt b 0 1 = 9 ∧ s.mbxVerdict b 9 (s.flag .SEC_STS_KEYED) = none ∧ s.nonceOk b = true ∧ s.get .SEC_MONO < fieldAt b 16 8 ∧ fieldAt b 16 8 < 2 ^ 64 - 1)
    ∧ (∃ (s : State) (r : MbxResp), s.get .SEC_MBX_STS_STATE = 1 ∧ s.wardenUp = true ∧ s.fetchHeld = false ∧ s.holds = [] ∧ s.xlatMiss 0 (some (s.get .SEC_MBX_RSP)) 64 = false ∧ s.mbxResp = some r ∧ s.flag .X_MBX_MUTE = false ∧ s.flag .SEC_MBX_CMD_IRQ_EN = false ∧ r.result ≠ mbDma ∧ r.result < 256 ∧ r.fields = [])
    ∧ (∃ (s : State), s.get .SEC_MBX_STS_STATE ≠ 1) :=
  ⟨⟨mbx 16 [], bytesN 16 [(0, 1), (4, 1)], mbBadLen, by decide +kernel⟩,
  ⟨mbx 16 [], bytesN 16 [(0, 2), (1, 1)], mbBadCmd, by decide +kernel⟩,
  ⟨mbx 16 [(.SEC_STS_OWNER, 0, 0)], bytesN 16 [(0, 4)], mbNotOwner, by decide +kernel⟩,
  ⟨mbx 276 [(.SEC_STS_OWNER, 0, 0)], bytesN 276 [(0, 5), (4, 260)], mbNotOwner, by decide +kernel⟩,
  ⟨mbx 16 [], bytesN 16 [(0, 1)], by decide +kernel⟩,
  ⟨mbx 16 [], bytesN 16 [(0, 2)], by decide +kernel⟩,
  ⟨{ mbx 112 [(.SEC_STS_KEYED, 0, 1)] with nonce := [1] }, bytesN 112 [(0, 3), (4, 96)], by decide +kernel⟩,
  ⟨mbx 112 [(.SEC_STS_KEYED, 0, 0)], bytesN 112 [(0, 3), (4, 96)], by decide +kernel⟩,
  ⟨mbx 16 [(.SEC_STS_OWNER, 0, 1)], bytesN 16 [(0, 4)], by decide +kernel⟩,
  ⟨{ mbx 276 [(.SEC_STS_OWNER, 0, 1)] with nodes := [vol 0] }, bytesN 276 [(0, 5), (4, 260)], by decide +kernel⟩,
  ⟨{ mbx 28 [(.SEC_STS_OWNER, 0, 1)] with nodes := [vol 4095], licences := [⟨4095, 3, [], false⟩] }, bytesN 28 [(0, 6), (4, 12), (16, 4095), (20, 9)], by decide +kernel⟩,
  ⟨{ mbx 20 [] with nodes := [vol 4095], licences := [⟨4095, 3, [], false⟩] }, bytesN 20 [(0, 7), (4, 4), (16, 4095)], Licence.mk 4095 3 [] false, by decide +kernel⟩,
  ⟨{ mbx 176 [] with nonce := natLe 48 0 }, bytesN 176 [(0, 8), (4, 160), (16, 5)], by decide +kernel⟩,
  ⟨{ mbx 176 [(.SEC_STS_OWNER, 0, 1)] with nonce := natLe 48 0 }, bytesN 176 [(0, 9), (4, 160), (16, 2 ^ 64 - 2)], by decide +kernel⟩,
  ⟨{ mbx 16 [(.X_FN_ATS, 0, 0)] with mbxResp := some ⟨1, 255, [], [4]⟩ }, MbxResp.mk 1 255 [] [4], by decide +kernel⟩,
  ⟨run [], by decide +kernel⟩⟩

theorem witness_ProtectionKeysAndCoreMonitors :
    (∃ (s : State) (t : State) (ag : Agent) (fence : Bool) (n : Nat) (r : Nat), t = (((s.putFlag .SEC_PM_CMD_FENCE fence 0 ag.ix).put .SEC_PM_CMD_COUNT n 0 ag.ix).put .X_PM_SEQ (s.get .X_PM_SEQ 0 ag.ix + 1) 0 ag.ix) ∧ n < 128 ∧ s.unitPower uWarden = 0 ∧ s.mayWrite ag .ownerWd = true ∧ t.batchReason ag.ix n ((List.range n).map (t.staged32 ag.ix)) = some r)
    ∧ (∃ (s : State) (t : State) (ag : Agent) (fence : Bool) (n : Nat), t = (((s.putFlag .SEC_PM_CMD_FENCE fence 0 ag.ix).put .SEC_PM_CMD_COUNT n 0 ag.ix).put .X_PM_SEQ (s.get .X_PM_SEQ 0 ag.ix + 1) 0 ag.ix) ∧ n < 128 ∧ s.unitPower uWarden = 0 ∧ s.mayWrite ag .ownerWd = true ∧ t.batchReason ag.ix n ((List.range n).map (t.staged32 ag.ix)) = none)
    ∧ (∃ (s : State) (k : Nat), s.unitPower uWarden = 0 ∧ s.mayWrite (.core k) .ownerWd = false)
    ∧ (∃ (s : State) (n : Nat) (g : Nat), ((s.keys.any fun k => k.node = n && k.gen = g && k.doomed) = true) ∧ ((s.cmds.any fun c => c.parts.any fun p => p.key = g && !p.done) = false) ∧ s.get .X_SAN_ST ≠ 2)
    ∧ (∃ (s : State) (n : Nat) (g : Nat), ((s.keys.any fun k => k.node = n && k.gen = g && k.doomed) = true) ∧ s.cryptoSanitize = true) :=
  ⟨⟨run [(.UCB_STATUS_RESETTING, uWarden, 0)], _, Agent.core 62, true, 127, 2, rfl, by decide +kernel⟩,
  ⟨(run [(.UCB_STATUS_RESETTING, uWarden, 0)]).put .SEC_PM_TICK 9 0 62, _, Agent.core 62, true, 1, rfl, by decide +kernel⟩,
  ⟨run [], 0, by decide +kernel⟩,
  ⟨{ run [] with keys := [⟨4095, 5, 0, true⟩] }, 4095, 5, by decide +kernel⟩,
  ⟨{ run [(.X_SAN_ST, 0, 2), (.X_SAN_CRYPTO, 0, 1)] with keys := [⟨4095, 5, 0, true⟩] }, 4095, 5, by decide +kernel⟩⟩

theorem witness_ProtectionKeysAndCoreMonitors_2 :
    (∃ (s : State) (n : Nat) (g : Nat), ((s.keys.any fun k => k.node = n && k.gen = g && k.doomed) = false ∨ (s.cmds.any fun c => c.parts.any fun p => p.key = g && !p.done) = true))
    ∧ (∃ (s : State), s.wardenUp = true ∧ s.flag .CAL_STS_VALID = true ∧ s.get .SEC_TIME_FLOOR < s.calSec ∧ s.calSec < 2 ^ 48)
    ∧ (∃ (s : State), (s.wardenUp = false ∨ s.flag .CAL_STS_VALID = false ∨ s.calSec ≤ s.get .SEC_TIME_FLOOR))
    ∧ (∃ (s : State) (p : Nat), p < 4 ∧ s.powered = true)
    ∧ (∃ (p : Nat), 4 < p) :=
  ⟨⟨{ run [] with keys := [⟨4095, 5, 0, false⟩] }, 4095, 5, by decide +kernel⟩,
  ⟨run [(.UCB_STATUS_RESETTING, uWarden, 0), (.CAL_STS_VALID, 0, 1), (.CAL_TIME, 0, 65536 * 9), (.SEC_TIME_FLOOR, 0, 8)], by decide +kernel⟩,
  ⟨run [(.UCB_STATUS_RESETTING, uWarden, 0), (.CAL_STS_VALID, 0, 1), (.CAL_TIME, 0, 65536 * 8), (.SEC_TIME_FLOOR, 0, 8)], by decide +kernel⟩,
  ⟨run [], 3, by decide +kernel⟩,
  ⟨5, by decide +kernel⟩⟩

theorem witness_ProtectionKeysAndCoreMonitors_3 :
    (∃ (s : State) (k : Nat), s.powered = true ∧ k < 8)
    ∧ (∃ (s : State) (k : Nat), s.powered = true ∧ 8 ≤ k ∧ k < 56)
    ∧ (∃ (s : State) (k : Nat), s.powered = true ∧ 56 ≤ k ∧ k < 62)
    ∧ (∃ (s : State) (k : Nat), s.powered = true ∧ 62 ≤ k ∧ k < 64)
    ∧ (∃ (s : State) (k : Nat), (64 ≤ k ∨ s.powered = false)) :=
  ⟨⟨run [], 7, by decide +kernel⟩,
  ⟨run [], 55, by decide +kernel⟩,
  ⟨run [], 61, by decide +kernel⟩,
  ⟨run [], 63, by decide +kernel⟩,
  ⟨run [], 64, by decide +kernel⟩⟩

theorem witness_ModesFollowDemandSuppliesAndPatrol :
    (∃ (s : State) (w : Nat) (u : Nat), s.mode = mRetain ∧ s.get .PM_MODE_MOVE = 0 ∧ u ∈ s.domainOf w)
    ∧ (∃ (s : State) (w : Nat) (u : Nat), s.mode = mRetain ∧ s.get .PM_MODE_MOVE = 0 ∧ u ∉ s.domainOf w)
    ∧ (∃ (s : State), s.mode ≠ mRetain)
    ∧ (∃ (s : State), s.get .PM_MODE_MOVE ≠ 0)
    ∧ (∃ (s : State) (u : State) (x : Nat) (r : Nat), u = (s.put .X_PM_FROM s.mode).put .PM_MODE_TARGET s.demand ∧ s.get .PM_MODE_MOVE = 0 ∧ s.flag .X_IDLE = true ∧ s.quieter = true ∧ (s.mode = mRun ∨ s.mode = mThrottle) ∧ u.entryRefusal s.demand = some (x, r))
    ∧ (∃ (s : State) (u : State), u = (s.put .X_PM_FROM s.mode).put .PM_MODE_TARGET s.demand ∧ s.get .PM_MODE_MOVE = 0 ∧ s.flag .X_IDLE = true ∧ s.quieter = true ∧ (s.mode = mRun ∨ s.mode = mThrottle) ∧ u.entryRefusal s.demand = none)
    ∧ (∃ (s : State), (s.get .PM_MODE_MOVE ≠ 0 ∨ s.flag .X_IDLE = false ∨ s.quieter = false))
    ∧ (∃ (s : State), (∃ d ∈ s.dies, s.get .X_DIE_OP d ≠ 0))
    ∧ (∃ (s : State), (∀ d ∈ s.dies, s.get .X_DIE_OP d = 0) ∧ s.mode = mReady ∧ s.get .PM_MODE_MOVE = 1 ∧ s.get .PM_MODE_TARGET = mRetain ∧ s.get .X_WAKE = 0)
    ∧ (∃ (s : State), (∀ d ∈ s.dies, s.get .X_DIE_OP d = 0) ∧ s.mode = mReady ∧ s.get .PM_MODE_MOVE = 1 ∧ s.get .PM_MODE_TARGET = mRetain ∧ s.get .X_WAKE ≠ 0)
    ∧ (∃ (s : State), (s.mode = mReady ∨ s.mode = mRetain) ∧ s.get .PM_MODE_MOVE = 0 ∧ (s.get .X_WAKE ≠ 0 ∨ s.mode < s.demand) ∧ s.refusePower.powerRunning = true)
    ∧ (∃ (s : State), (s.mode = mReady ∨ s.mode = mRetain) ∧ s.get .PM_MODE_MOVE = 0 ∧ (s.get .X_WAKE ≠ 0 ∨ s.mode < s.demand) ∧ s.mode = mReady ∧ s.refusePower.powerRunning = false ∧ s.exitTarget ≠ mReady)
    ∧ (∃ (s : State), (s.mode = mReady ∨ s.mode = mRetain) ∧ s.get .PM_MODE_MOVE = 0 ∧ (s.get .X_WAKE ≠ 0 ∨ s.mode < s.demand) ∧ s.mode = mRetain ∧ s.refusePower.powerRunning = false)
    ∧ (∃ (s : State), s.mode = mRetain ∧ s.get .PM_MODE_MOVE = 2 ∧ s.get .PM_MODE_TARGET ≠ mReady)
    ∧ (∃ (s : State), ((s.mode ≠ mReady ∧ s.mode ≠ mRetain) ∨ s.get .PM_MODE_MOVE ≠ 0))
    ∧ (∃ (s : State), s.powered = false)
    ∧ (∃ (s : State) (m : Nat), m = min (s.get .PM_THR_STS_S_T) s.powerScale ∧ s.powered = true)
    ∧ (∃ (s : State) (c : Nat) (arg : Nat), s.unitPower uChip = 0 ∧ s.mayWrite (.core c) .ownerMpWd = true ∧ s.flag .PM_CMD_GO 0 c = false ∧ 3 ≤ arg ∧ arg ≤ 5)
    ∧ (∃ (s : State) (c : Nat) (arg : Nat), s.unitPower uChip = 0 ∧ s.mayWrite (.core c) .ownerMpWd = true ∧ s.flag .PM_CMD_GO 0 c = false ∧ arg < 3)
    ∧ (∃ (s : State) (c : Nat), s.unitPower uChip = 0 ∧ s.mayWrite (.core c) .ownerMpWd = true ∧ s.flag .PM_CMD_GO 0 c = false ∧ (s.mode = mReady ∨ s.mode = mRun ∨ s.mode = mThrottle) ∧ s.hostsActive = true)
    ∧ (∃ (s : State) (c : Nat), s.unitPower uChip = 0 ∧ s.mayWrite (.core c) .ownerMpWd = true ∧ s.flag .PM_CMD_GO 0 c = false ∧ (s.mode = mReady ∨ s.mode = mRun ∨ s.mode = mThrottle) ∧ s.hostsActive = false ∧ s.flag .X_READY = true ∧ s.refusePower.powerRunning = false)
    ∧ (∃ (s : State), s.mode = mOff)
    ∧ (∃ (s : State), s.mode ≠ mOff)
    ∧ (∃ (s : State), s.mode ≠ mKeep)
    ∧ (∃ (s : State), s.mode ≠ mPatrol ∧ (s.mode ≠ mKeep ∨ s.flag .X_VBAT = true))
    ∧ (∃ (s : State), s.mode = mKeep ∧ s.flag .X_VBAT = false)
    ∧ (∃ (s : State), s.mode = mKeep ∧ s.flag .X_VAUX = false)
    ∧ (∃ (s : State), (s.mode ≠ mKeep ∨ s.flag .X_VAUX = true))
    ∧ (∃ (s : State), s.mode = mPatrol ∧ s.flag .X_VAUX = true ∧ s.flag .X_MAIN_EN = false ∧ s.get .X_KEEP_CAUSE ≠ 3 ∧ s.get .X_KEEP_CAUSE ≠ 4)
    ∧ (∃ (s : State), (s.mode ≠ mPatrol ∨ s.flag .X_VAUX = false ∨ s.get .X_KEEP_CAUSE = 3 ∨ s.get .X_KEEP_CAUSE = 4))
    ∧ (∃ (s : State) (l : List (Option Int)), (∀ n ∈ patrolChannels, bit (s.get .X_PAT_MASK) n = true → ∀ v, l.getD n none = some v → ofField 16 (s.get .X_PAT_LO n) ≤ v ∧ v ≤ ofField 16 (s.get .X_PAT_HI n)) ∧ s.mode = mPatrol)
    ∧ (∃ (s : State) (n : Nat) (v : Int), (v < ofField 16 (s.get .X_PAT_LO n) ∨ ofField 16 (s.get .X_PAT_HI n) < v)) :=
  ⟨⟨wr [(.PM_MODE_MODE, 0, 3)], uCluster 7, uCluster 7, by decide +kernel⟩,
  ⟨wr [(.PM_MODE_MODE, 0, 3)], uCluster 7, uChip, by decide +kernel⟩,
  ⟨run [], by decide +kernel⟩,
  ⟨wr [(.PM_MODE_MODE, 0, 3), (.PM_MODE_MOVE, 0, 2)], by decide +kernel⟩,
  ⟨withCmd [(.PM_MODE_MOVE, 0, 0), (.X_IDLE, 0, 1), (.PM_CTL_IDLE_MODE, 0, 4), (.PM_CTL_FLOOR, 0, 3)] (pkt 1 []), _, uFront, 1, rfl, by decide +kernel⟩,
  ⟨run [(.PM_MODE_MOVE, 0, 0), (.X_IDLE, 0, 1), (.PM_CTL_IDLE_MODE, 0, 4), (.PM_CTL_FLOOR, 0, 3), (.MC_STS_INIT, 0, 0)], _, rfl, by decide +kernel⟩,
  ⟨run [(.PM_MODE_MOVE, 0, 1)], by decide +kernel⟩,
  ⟨run (die0 ++ [(.X_DIE_OP, 0, 1)]), by decide +kernel⟩,
  ⟨wr [(.PM_MODE_MODE, 0, 4), (.PM_MODE_MOVE, 0, 1), (.PM_MODE_TARGET, 0, 3), (.X_WAKE, 0, 0)], by decide +kernel⟩,
  ⟨wr [(.PM_MODE_MODE, 0, 4), (.PM_MODE_MOVE, 0, 1), (.PM_MODE_TARGET, 0, 3), (.X_WAKE, 0, 1)], by decide +kernel⟩,
  ⟨wr [(.PM_MODE_MODE, 0, 4), (.PM_MODE_MOVE, 0, 0), (.X_WAKE, 0, 1), (.UCB_REQ_STS_STATE, 0x400, 2), (.UCB_REQ_STS_KIND, 0x400, 2)], by decide +kernel⟩,
  ⟨wr [(.PM_MODE_MODE, 0, 4), (.PM_MODE_MOVE, 0, 0), (.X_WAKE, 0, 1)], by decide +kernel⟩,
  ⟨wr [(.PM_MODE_MODE, 0, 3), (.PM_MODE_MOVE, 0, 0), (.X_WAKE, 0, 1)], by decide +kernel⟩,
  ⟨wr [(.PM_MODE_MODE, 0, 3), (.PM_MODE_MOVE, 0, 2), (.PM_MODE_TARGET, 0, 5)], by decide +kernel⟩,
  ⟨run [], by decide +kernel⟩,
  ⟨wr [(.PM_MODE_MODE, 0, 2)], by decide +kernel⟩,
  ⟨run [], _, rfl, by decide +kernel⟩,
  ⟨run [], 56, 5, by decide +kernel⟩,
  ⟨run [], 56, 2, by decide +kernel⟩,
  ⟨run [(.JQ_QSTS_STATE, 0, 1)], 56, by decide +kernel⟩,
  ⟨run [], 56, by decide +kernel⟩,
  ⟨wr [(.PM_MODE_MODE, 0, 0)], by decide +kernel⟩,
  ⟨run [], by decide +kernel⟩,
  ⟨run [], by decide +kernel⟩,
  ⟨run [], by decide +kernel⟩,
  ⟨wr [(.PM_MODE_MODE, 0, 1), (.X_VBAT, 0, 0)], by decide +kernel⟩,
  ⟨wr [(.PM_MODE_MODE, 0, 1), (.X_VAUX, 0, 0)], by decide +kernel⟩,
  ⟨run [], by decide +kernel⟩,
  ⟨wr [(.PM_MODE_MODE, 0, 2), (.X_VAUX, 0, 1), (.X_MAIN_EN, 0, 0), (.X_KEEP_CAUSE, 0, 0)], by decide +kernel⟩,
  ⟨run [], by decide +kernel⟩,
  ⟨wr [(.PM_MODE_MODE, 0, 2), (.X_PAT_MASK, 0, 2 ^ 16), (.X_PAT_LO, 16, 0), (.X_PAT_HI, 16, 0)], List.replicate 17 (some 0), samples_of (by decide +kernel), by decide +kernel⟩,
  ⟨wr [(.X_PAT_LO, 16, 0), (.X_PAT_HI, 16, 5)], 16, (6 : Int), by decide +kernel⟩⟩

theorem witness_HoldUpChargesTestsFlushesAndRestarts :
    (∃ (s : State), s.powered = true ∧ s.mode ≠ mHoldup ∧ s.flag .X_READY = true)
    ∧ (∃ (s : State), (s.powered = false ∨ s.mode = mHoldup))
    ∧ (∃ (s : State), (s.mode ≠ mHoldup ∨ s.flag .X_FLUSH = false))
    ∧ (∃ (s : State), s.mode = mHoldup ∧ s.flag .X_FLUSH = true ∧ s.flag .X_FLUSH_SHORT = false ∧ s.noStore = false ∧ s.flag .X_BROWNOUT = false)
    ∧ (∃ (s : State), s.programming = true)
    ∧ (∃ (s : State) (u : State) (v : State) (b : Bool) (n : Nat), v = (((if s.get .X_HU_TRIG = 4 then u.checkpointAll.sealAndWrite else u).put .HU_LAST_OUTCOME (if s.noStore then 3 else if b then 2 else 1)).put .HU_LAST_TRIGGER (s.get .X_HU_TRIG)).put .HU_LAST_DURATION (min n 0xFFFFFE) ∧ s.mode = mHoldup ∧ s.flag .X_FLUSH = true ∧ s.programming = false ∧ s.finishFlush false = (b, u) ∧ (s.noStore = true ∨ b = false))
    ∧ (∃ (s : State) (u : State) (v : State) (b : Bool) (n : Nat), v = (((if s.get .X_HU_TRIG = 4 then u.checkpointAll.sealAndWrite else u).put .HU_LAST_OUTCOME (if s.noStore then 3 else if b then 2 else 1)).put .HU_LAST_TRIGGER (s.get .X_HU_TRIG)).put .HU_LAST_DURATION (min n 0xFFFFFE) ∧ s.mode = mHoldup ∧ s.flag .X_FLUSH = true ∧ s.programming = false ∧ s.finishFlush false = (b, u) ∧ s.noStore = false ∧ b = true)
    ∧ (∃ (s : State) (v : Nat), s.hu = huPrecharge ∧ s.flag .X_HU_PREOK = false ∧ v < 1200)
    ∧ (∃ (s : State) (v : Nat), s.hu = huPrecharge ∧ s.flag .X_HU_PREOK = false ∧ 1200 ≤ v ∧ s.flag .HU_CTL_PRESENT = true)
    ∧ (∃ (s : State), (s.hu ≠ huPrecharge ∨ s.flag .X_HU_PREOK = true))
    ∧ (∃ (s : State) (v : Nat), s.hu = huCharging ∧ 10 * s.get .HU_MEAS2_V_TARGET ≤ v)
    ∧ (∃ (s : State) (v : Nat), s.hu = huCharging ∧ v < 10 * s.get .HU_MEAS2_V_TARGET)
    ∧ (∃ (s : State), s.hu ≠ huCharging)
    ∧ (∃ (s : State) (v : Nat), s.hu = huReady ∧ v + 20 ≤ 10 * s.get .HU_MEAS2_V_TARGET)
    ∧ (∃ (s : State) (v : Nat), (s.hu ≠ huReady ∨ 10 * s.get .HU_MEAS2_V_TARGET < v + 20))
    ∧ (∃ (s : State) (v : Nat), s.hu ≠ huDisabled ∧ s.hu ≠ huFault ∧ 10 * s.get .HU_CHG_CFG_V_MAX + 100 < v)
    ∧ (∃ (s : State) (v : Nat), (s.hu = huDisabled ∨ v ≤ 10 * s.get .HU_CHG_CFG_V_MAX + 100))
    ∧ (∃ (s : State) (c : Nat), s.unitPower uHousekeeping = 0 ∧ s.flag .HU_CTL_PRESENT = true ∧ s.mayWrite (.core c) .ownerMpWd = true)
    ∧ (∃ (s : State), (s.flag .X_HU_DUE = false ∨ s.powered = false ∨ s.mode = mHoldup ∨ s.atTarget = false))
    ∧ (∃ (s : State) (u : State), u = (s.putFlag .X_HU_TESTV true).updateAllow ∧ s.flag .X_HU_DUE = true ∧ s.powered = true ∧ s.mode ≠ mHoldup ∧ s.atTarget = true ∧ u.get .HU_ALLOW < u.get .HU_DIRTY)
    ∧ (∃ (s : State) (u : State), u = (s.putFlag .X_HU_TESTV true).updateAllow ∧ s.flag .X_HU_DUE = true ∧ s.powered = true ∧ s.mode ≠ mHoldup ∧ s.atTarget = true ∧ u.get .HU_DIRTY ≤ u.get .HU_ALLOW)
    ∧ (∃ (s : State), s.hu ≠ huTesting)
    ∧ (∃ (s : State) (d : Nat) (i : Nat), i = s.get .HU_TEST_CFG_I_TEST / (if s.flag .X_HU_QTR then 4 else 1) ∧ s.hu = huTesting ∧ d < 10000 ∧ s.flag .X_HU_QTR = false)
    ∧ (∃ (s : State) (d : Nat) (i : Nat), i = s.get .HU_TEST_CFG_I_TEST / (if s.flag .X_HU_QTR then 4 else 1) ∧ s.hu = huTesting ∧ d < 10000 ∧ s.flag .X_HU_QTR = true)
    ∧ (∃ (s : State) (d : Nat) (i : Nat), i = s.get .HU_TEST_CFG_I_TEST / (if s.flag .X_HU_QTR then 4 else 1) ∧ s.hu = huTesting ∧ 1000000 < d)
    ∧ (∃ (s : State) (d : Nat) (m : Nat) (i : Nat), i = s.get .HU_TEST_CFG_I_TEST / (if s.flag .X_HU_QTR then 4 else 1) ∧ s.hu = huTesting ∧ 10000 ≤ d ∧ d ≤ 1000000 ∧ 120 ≤ s.targetFor (i * d / 2000) ∧ s.vFloor (min 4094 (m * 1000 / i)) < (s.targetFor (i * d / 2000) - 20) * 100000)
    ∧ (∃ (s : State) (c : Nat) (v : Nat), s.unitPower uHousekeeping = 0 ∧ s.mayWrite (.core c) .ownerMpWd = true ∧ s.lockedFor (.core c) .HU_E_CEIL_CEIL = false ∧ v < 65536 ∧ 1000 ≤ v ∧ v ≤ s.get .HU_E_CEIL_FUSE_MAX)
    ∧ (∃ (s : State) (c : Nat) (v : Nat), s.unitPower uHousekeeping = 0 ∧ s.mayWrite (.core c) .ownerMpWd = true ∧ s.lockedFor (.core c) .HU_E_CEIL_CEIL = false ∧ v < 65536 ∧ (v < 1000 ∨ s.get .HU_E_CEIL_FUSE_MAX < v))
    ∧ (∃ (s : State), s.mode ≠ mPatrol)
    ∧ (∃ (s : State) (l : List (Option Int)), s.mode = mPatrol ∧ s.flag .X_THERM_LOCK = false ∧ badRails l = [])
    ∧ (∃ (s : State) (l : List (Option Int)), s.mode = mPatrol ∧ s.flag .X_THERM_LOCK = false ∧ badRails l ≠ [])
    ∧ (∃ (s : State), (s.powered = false ∨ s.mode = mHoldup ∨ s.flag .X_READY = true ∨ s.get .X_CHIPRST ≠ 0 ∨ s.flag .X_BOOT_HALT = true))
    ∧ (∃ (s : State) (b : BootFinds) (k : Nat) (c : Nat), s.powered = true ∧ s.mode ≠ mHoldup ∧ s.flag .X_READY = false ∧ s.get .X_CHIPRST = 0 ∧ s.flag .X_BOOT_HALT = false ∧ s.get .CHP_RST_CAUSE_LEVEL ≠ 0 ∧ s.fwSlots ≠ [] ∧ b.recoveryN = false ∧ b.slotOf s.bootKeep.bootOrder = some (k, c))
    ∧ (∃ (s : State) (b : BootFinds), s.powered = true ∧ s.mode ≠ mHoldup ∧ s.flag .X_READY = false ∧ s.get .X_CHIPRST = 0 ∧ s.flag .X_BOOT_HALT = false ∧ s.get .CHP_RST_CAUSE_LEVEL ≠ 0 ∧ s.fwSlots ≠ [] ∧ b.recoveryN = true ∧ b.recoveryOk = true)
    ∧ (∃ (s : State) (b : BootFinds), s.powered = true ∧ s.mode ≠ mHoldup ∧ s.flag .X_READY = false ∧ s.get .X_CHIPRST = 0 ∧ s.flag .X_BOOT_HALT = false ∧ s.get .CHP_RST_CAUSE_LEVEL ≠ 0 ∧ s.fwSlots ≠ [] ∧ b.recoveryN = true ∧ b.recoveryOk = false) :=
  ⟨⟨run [], by decide +kernel⟩,
  ⟨wr [(.PM_MODE_MODE, 0, 7)], by decide +kernel⟩,
  ⟨run [], by decide +kernel⟩,
  ⟨wr [(.PM_MODE_MODE, 0, 7), (.X_FLUSH, 0, 1), (.X_FLUSH_SHORT, 0, 0), (.HU_STS_STATE, 0, huReady), (.X_BROWNOUT, 0, 0)], by decide +kernel⟩,
  ⟨wr (die0 ++ [(.PM_MODE_MODE, 0, 7), (.X_FLUSH, 0, 1), (.X_DIE_OP, 0, 1)]), by decide +kernel⟩,
  ⟨wr [(.PM_MODE_MODE, 0, 7), (.X_FLUSH, 0, 1), (.X_HU_TRIG, 0, 1), (.HU_STS_STATE, 0, huReady)], ((wr [(.PM_MODE_MODE, 0, 7), (.X_FLUSH, 0, 1), (.X_HU_TRIG, 0, 1), (.HU_STS_STATE, 0, huReady)]).finishFlush false).2, _, ((wr [(.PM_MODE_MODE, 0, 7), (.X_FLUSH, 0, 1), (.X_HU_TRIG, 0, 1), (.HU_STS_STATE, 0, huReady)]).finishFlush false).1, 7, rfl, by decide +kernel⟩,
  ⟨{ wr [(.PM_MODE_MODE, 0, 7), (.X_FLUSH, 0, 1), (.X_HU_TRIG, 0, 1), (.HU_STS_STATE, 0, huReady), (.X_FLUSH_SHORT, 0, 1)] with wbuf := [⟨512, unit5, some 0, false, none⟩] }, (({ wr [(.PM_MODE_MODE, 0, 7), (.X_FLUSH, 0, 1), (.X_HU_TRIG, 0, 1), (.HU_STS_STATE, 0, huReady), (.X_FLUSH_SHORT, 0, 1)] with wbuf := [⟨512, unit5, some 0, false, none⟩] }).finishFlush false).2, _, (({ wr [(.PM_MODE_MODE, 0, 7), (.X_FLUSH, 0, 1), (.X_HU_TRIG, 0, 1), (.HU_STS_STATE, 0, huReady), (.X_FLUSH_SHORT, 0, 1)] with wbuf := [⟨512, unit5, some 0, false, none⟩] }).finishFlush false).1, 7, rfl, by decide +kernel⟩,
  ⟨run [(.HU_STS_STATE, 0, huPrecharge), (.X_HU_PREOK, 0, 0)], 1199, by decide +kernel⟩,
  ⟨run [(.HU_STS_STATE, 0, huPrecharge), (.X_HU_PREOK, 0, 0), (.HU_CTL_PRESENT, 0, 1)], 1200, by decide +kernel⟩,
  ⟨run [(.HU_STS_STATE, 0, huPrecharge), (.X_HU_PREOK, 0, 1)], by decide +kernel⟩,
  ⟨run [(.HU_STS_STATE, 0, huCharging), (.HU_MEAS2_V_TARGET, 0, 120)], 1200, by decide +kernel⟩,
  ⟨run [(.HU_STS_STATE, 0, huCharging), (.HU_MEAS2_V_TARGET, 0, 120)], 1199, by decide +kernel⟩,
  ⟨run [(.HU_STS_STATE, 0, huReady)], by decide +kernel⟩,
  ⟨run [(.HU_STS_STATE, 0, huReady), (.HU_MEAS2_V_TARGET, 0, 120)], 1180, by decide +kernel⟩,
  ⟨run [(.HU_STS_STATE, 0, huReady), (.HU_MEAS2_V_TARGET, 0, 120)], 1181, by decide +kernel⟩,
  ⟨run [(.HU_STS_STATE, 0, huReady), (.HU_CHG_CFG_V_MAX, 0, 200)], 2101, by decide +kernel⟩,
  ⟨run [(.HU_STS_STATE, 0, huReady), (.HU_CHG_CFG_V_MAX, 0, 200)], 2100, by decide +kernel⟩,
  ⟨run [(.HU_CTL_PRESENT, 0, 1)], 56, by decide +kernel⟩,
  ⟨run [(.X_HU_DUE, 0, 0)], by decide +kernel⟩,
  ⟨run [(.X_HU_DUE, 0, 1), (.HU_STS_STATE, 0, huPrecharge), (.X_HU_PREOK, 0, 1), (.HU_DIRTY, 0, 4096)], _, rfl, by decide +kernel⟩,
  ⟨run [(.X_HU_DUE, 0, 1), (.HU_STS_STATE, 0, huPrecharge), (.X_HU_PREOK, 0, 1), (.HU_DIRTY, 0, 0)], _, rfl, by decide +kernel⟩,
  ⟨run [(.HU_STS_STATE, 0, huReady)], by decide +kernel⟩,
  ⟨run [(.HU_STS_STATE, 0, huTesting), (.HU_TEST_CFG_I_TEST, 0, 2000), (.X_HU_QTR, 0, 0)], 9999, _, rfl, by decide +kernel⟩,
  ⟨run [(.HU_STS_STATE, 0, huTesting), (.HU_TEST_CFG_I_TEST, 0, 2000), (.X_HU_QTR, 0, 1)], 9999, _, rfl, by decide +kernel⟩,
  ⟨run [(.HU_STS_STATE, 0, huTesting), (.HU_TEST_CFG_I_TEST, 0, 2000), (.X_HU_QTR, 0, 1)], 1000001, _, rfl, by decide +kernel⟩,
  ⟨run [(.HU_STS_STATE, 0, huTesting), (.HU_TEST_CFG_I_TEST, 0, 2000), (.X_HU_QTR, 0, 0), (.HU_CHG_CFG_V_MAX, 0, 250), (.HU_E_CEIL_CEIL, 0, 8000), (.HU_REL_CFG_V_MIN, 0, 100)], 10000, 0, _, rfl, by decide +kernel⟩,
  ⟨run [(.HU_E_CEIL_FUSE_MAX, 0, 8000)], 56, 8000, by decide +kernel⟩,
  ⟨run [(.HU_E_CEIL_FUSE_MAX, 0, 8000)], 56, 8001, by decide +kernel⟩,
  ⟨run [], by decide +kernel⟩,
  ⟨wr [(.PM_MODE_MODE, 0, 2), (.X_THERM_LOCK, 0, 0)], ([] : List (Option Int)), by decide +kernel⟩,
  ⟨wr [(.PM_MODE_MODE, 0, 2), (.X_THERM_LOCK, 0, 0)], List.replicate 25 (some 0), by decide +kernel⟩,
  ⟨run [], by decide +kernel⟩,
  ⟨{ wr [(.PM_MODE_MODE, 0, 4), (.X_READY, 0, 0), (.X_CHIPRST, 0, 0), (.X_BOOT_HALT, 0, 0), (.CHP_RST_CAUSE_LEVEL, 0, 2), (.X_SYS_RUN, 0, 1)] with fwSlots := [img 1 0] }, boots false true, 1, 0, by decide +kernel⟩,
  ⟨{ wr [(.PM_MODE_MODE, 0, 4), (.X_READY, 0, 0), (.X_CHIPRST, 0, 0), (.X_BOOT_HALT, 0, 0), (.CHP_RST_CAUSE_LEVEL, 0, 2), (.X_SYS_RUN, 0, 1)] with fwSlots := [img 1 0] }, boots true true, by decide +kernel⟩,
  ⟨{ wr [(.PM_MODE_MODE, 0, 4), (.X_READY, 0, 0), (.X_CHIPRST, 0, 0), (.X_BOOT_HALT, 0, 0), (.CHP_RST_CAUSE_LEVEL, 0, 2), (.X_SYS_RUN, 0, 1)] with fwSlots := [img 1 0] }, boots true false, by decide +kernel⟩⟩

theorem witness_RoundsThresholdsAndTheCalendar :
    (∃ (s : State) (l : List (Option Int)) (n : Nat) (v : Int), s.powered = true ∧ n < 48 ∧ (16 ≤ n → n < 24 → s.flag .HK_RD_CFG_EN (n - 16) = true) ∧ l.getD n none = some v)
    ∧ (∃ (s : State), s.powered = true ∧ s.mode ≠ mHoldup ∧ s.flag .X_READY = true)
    ∧ (∃ (s : State) (c : Nat) (v : Nat), s.unitPower uHousekeeping = 0 ∧ s.locks = [] ∧ s.mayWrite (.core c) .ownerMpWd = true ∧ 1 ≤ bits v 27 24 ∧ 130 ≤ bits v 23 16 ∧ bits v 23 16 ≤ 150 ∧ 100 ≤ bits v 15 8 ∧ bits v 15 8 ≤ 149 ∧ 85 ≤ bits v 7 0 ∧ bits v 7 0 < bits v 15 8 ∧ bits v 15 8 < bits v 23 16)
    ∧ (∃ (s : State) (c : Nat) (v : Nat), s.unitPower uHousekeeping = 0 ∧ s.locks = [] ∧ s.mayWrite (.core c) .ownerMpWd = true ∧ (bits v 15 8 ≤ bits v 7 0 ∨ bits v 23 16 ≤ bits v 15 8 ∨ bits v 23 16 < 130 ∨ 150 < bits v 23 16 ∨ bits v 27 24 = 0))
    ∧ (∃ (s : State) (c : Nat) (v : Nat), s.unitPower uHousekeeping = 0 ∧ s.locks = [] ∧ s.mayWrite (.core c) .ownerMpWd = true ∧ ofField 8 (s.get .HK_WWIN_FUSE_LO) ≤ ofField 8 (bits v 7 0) ∧ ofField 8 (bits v 15 8) ≤ ofField 8 (s.get .HK_WWIN_FUSE_HI) ∧ ofField 8 (bits v 7 0) + 10 ≤ ofField 8 (bits v 15 8))
    ∧ (∃ (s : State) (c : Nat) (v : Nat), s.unitPower uHousekeeping = 0 ∧ s.locks = [] ∧ s.mayWrite (.core c) .ownerMpWd = true ∧ ofField 8 (bits v 15 8) < ofField 8 (bits v 7 0) + 10)
    ∧ (∃ (s : State), s.mode = mOff)
    ∧ (∃ (s : State), s.flag .CAL_STS_VALID = false)
    ∧ (∃ (s : State), s.flag .CAL_STS_VALID = true ∧ s.powered = false ∧ s.mode ≠ mOff)
    ∧ (∃ (s : State), s.mode ≠ mOff ∧ s.powered = true)
    ∧ (∃ (s : State) (c : Nat), s.unitPower uHousekeeping = 0 ∧ s.mayWrite (.core c) .ownerMpWd = true ∧ ((Agent.core c).isWd = true ∨ s.flag .SEC_STS_TIME_TRUSTED = false))
    ∧ (∃ (s : State) (c : Nat), s.unitPower uHousekeeping = 0 ∧ s.mayWrite (.core c) .ownerMpWd = true ∧ (Agent.core c).isWd = false ∧ s.flag .SEC_STS_TIME_TRUSTED = true)
    ∧ (∃ (s : State) (k : Nat), (2 ≤ k ∨ s.mode = mOff ∨ s.flag .CAL_STS_VALID = false ∨ s.flag (almEn k) = false ∨ s.calSec < s.almSec k))
    ∧ (∃ (s : State) (k : Nat), k < 2 ∧ s.flag .CAL_STS_VALID = true ∧ s.flag (almEn k) = true ∧ s.almSec k ≤ s.calSec ∧ s.powered = true)
    ∧ (∃ (s : State) (k : Nat), k < 2 ∧ s.flag .CAL_STS_VALID = true ∧ s.flag (almEn k) = true ∧ s.almSec k ≤ s.calSec ∧ s.mode = mPatrol ∧ s.flag (almWake k) = true)
    ∧ (∃ (s : State) (k : Nat), k < 2 ∧ s.flag .CAL_STS_VALID = true ∧ s.flag (almEn k) = true ∧ s.almSec k ≤ s.calSec ∧ s.mode = mKeep)
    ∧ (∃ (s : State) (c : Nat) (k : Nat), s.unitPower uHousekeeping = 0 ∧ s.mayWrite (.core c) .ownerMpWd = true ∧ k < 2) :=
  ⟨⟨run [(.HK_RD_CFG_EN, 1, 1)], List.replicate 18 (some 3), 17, 3, by decide +kernel⟩,
  ⟨run [], by decide +kernel⟩,
  ⟨run [], 56, 2 ^ 24 + 150 * 65536 + 149 * 256 + 148, by decide +kernel⟩,
  ⟨run [], 56, 0, by decide +kernel⟩,
  ⟨run [(.HK_WWIN_FUSE_LO, 0, 0), (.HK_WWIN_FUSE_HI, 0, 100)], 56, 100 * 256 + 90, by decide +kernel⟩,
  ⟨run [], 56, 100 * 256 + 91, by decide +kernel⟩,
  ⟨wr [(.PM_MODE_MODE, 0, 0)], by decide +kernel⟩,
  ⟨run [(.CAL_STS_VALID, 0, 0)], by decide +kernel⟩,
  ⟨wr [(.PM_MODE_MODE, 0, 1), (.CAL_STS_VALID, 0, 1)], by decide +kernel⟩,
  ⟨run [], by decide +kernel⟩,
  ⟨run [], 56, by decide +kernel⟩,
  ⟨run [(.SEC_STS_TIME_TRUSTED, 0, 1)], 56, by decide +kernel⟩,
  ⟨run [], 2, by decide +kernel⟩,
  ⟨run [(.CAL_STS_VALID, 0, 1), (almEn 1, 0, 1)], 1, by decide +kernel⟩,
  ⟨wr [(.PM_MODE_MODE, 0, 2), (.CAL_STS_VALID, 0, 1), (almEn 1, 0, 1), (almWake 1, 0, 1)], 1, by decide +kernel⟩,
  ⟨wr [(.PM_MODE_MODE, 0, 1), (.CAL_STS_VALID, 0, 1), (almEn 1, 0, 1)], 1, by decide +kernel⟩,
  ⟨run [], 56, 1, by decide +kernel⟩⟩

theorem witness_FaultSourcesRecorderAndLockedFields :
    (∃ (s : State) (n : Nat), (s.get .FC_SRC_WCNT_WCNT n = 0 ∨ s.tick < s.get .FC_SRC_WSTART n + s.get .FC_SRC_WIN_W n))
    ∧ (∃ (s : State) (n : Nat), s.get .FC_SRC_WCNT_WCNT n ≠ 0 ∧ s.get .FC_SRC_WSTART n + s.get .FC_SRC_WIN_W n ≤ s.tick)
    ∧ (∃ (s : State) (c : Nat), s.unitPower uChip = 0 ∧ s.mayWrite (.core c) .ownerMpWd = true ∧ srcReserved (s.selSource (.core c)) = true)
    ∧ (∃ (s : State) (c : Nat) (v : Nat), s.unitPower uChip = 0 ∧ s.mayWrite (.core c) .ownerMpWd = true ∧ s.locks = [] ∧ (4 < bits v 10 8 ∨ bits v 7 0 = 0))
    ∧ (∃ (s : State) (c : Nat) (v : Nat), s.unitPower uChip = 0 ∧ s.mayWrite (.core c) .ownerMpWd = true ∧ srcReserved (s.selSource (.core c)) = false ∧ bits v 10 8 ≤ 4 ∧ bits v 7 0 ≠ 0 ∧ s.locks = [])
    ∧ (∃ (s : State) (c : Nat) (v : Nat), s.unitPower uChip = 0 ∧ s.mayWrite (.core c) .ownerMpWd = true ∧ s.locks = [] ∧ (v % 2 ^ 32 = 0 ∨ v % 2 ^ 32 = 0xFFFFFFFF))
    ∧ (∃ (s : State) (c : Nat) (v : Nat), s.unitPower uChip = 0 ∧ s.mayWrite (.core c) .ownerMpWd = true ∧ srcReserved (s.selSource (.core c)) = false ∧ v % 2 ^ 32 ≠ 0 ∧ v % 2 ^ 32 ≠ 0xFFFFFFFF ∧ s.locks = [])
    ∧ (∃ (s : State) (c : Nat), s.unitPower uChip = 0 ∧ s.mayWrite (.core c) .ownerWd = true ∧ s.frozen = true)
    ∧ (∃ (s : State) (c : Nat), s.unitPower uChip = 0 ∧ s.mayWrite (.core c) .ownerWd = true ∧ s.flag .ER_STS_CLEAR_PENDING = true ∧ s.frozen = false)
    ∧ (∃ (s : State), (s.flag .ER_STS_CLEAR_PENDING = false ∨ s.frozen = true))
    ∧ (∃ (s : State) (c : Nat) (r : Nat), s.unitPower uChip = 0 ∧ s.mayWrite (.core c) .ownerMpWd = true ∧ (50 ≤ s.get .ER_HSEL_ID 0 c ∨ 3 ≤ r))
    ∧ (∃ (s : State) (c : Nat), s.unitPower uChip = 0 ∧ s.mayWrite (.core c) .ownerMpWd = true ∧ s.get .ER_HSEL_ID 0 c < 50)
    ∧ (∃ (s : State) (q : List Byte), (s.mbxDue q = false ∨ fieldAt q 0 1 ≠ 0x0A))
    ∧ (∃ (s : State) (q : List Byte) (r : Nat), s.mbxDue q = true ∧ fieldAt q 0 1 = 0x0A ∧ s.mbxVerdict q 0x0A true = some r)
    ∧ (∃ (s : State) (q : List Byte), s.mbxDue q = true ∧ fieldAt q 0 1 = 0x0A ∧ s.mbxVerdict q 0x0A true = none ∧ (fieldAt q 16 4 % 4 ≠ 0 ∨ locate (fieldAt q 16 4) = none))
    ∧ (∃ (s : State) (q : List Byte) (l : Loc), s.mbxDue q = true ∧ fieldAt q 0 1 = 0x0A ∧ s.mbxVerdict q 0x0A true = none ∧ fieldAt q 16 4 % 4 = 0 ∧ locate (fieldAt q 16 4) = some l ∧ (l.reg.desc.fields.any (fun x => x.lk) = true)) :=
  ⟨⟨run [], 319, by decide +kernel⟩,
  ⟨run [(.FC_SRC_WCNT_WCNT, 6, 1), (.FC_SRC_WIN_W, 6, 5), (.TK_COUNT, 0, 5)], 6, by decide +kernel⟩,
  ⟨(run []).put .FC_SEL_SOURCE 319 0 56, 56, by decide +kernel⟩,
  ⟨run [], 56, 0x500, by decide +kernel⟩,
  ⟨run [], 56, 0x401, by decide +kernel⟩,
  ⟨run [], 56, 2 ^ 33 - 1, by decide +kernel⟩,
  ⟨run [], 56, 1, by decide +kernel⟩,
  ⟨run [(.ER_FREEZE_FREEZE, 0, 1)], 62, by decide +kernel⟩,
  ⟨run [(.ER_STS_CLEAR_PENDING, 0, 1)], 62, by decide +kernel⟩,
  ⟨run [(.ER_STS_CLEAR_PENDING, 0, 0)], by decide +kernel⟩,
  ⟨run [], 56, 3, by decide +kernel⟩,
  ⟨(run []).put .ER_HSEL_ID 49 0 56, 56, by decide +kernel⟩,
  ⟨run [], ([] : List Byte), by decide +kernel⟩,
  ⟨mbx 28 [(.SEC_STS_OWNER, 0, 0)], bytesN 28 [(0, 10), (4, 12)], mbNotOwner, by decide +kernel⟩,
  ⟨mbx 28 [(.SEC_STS_OWNER, 0, 1)], bytesN 28 [(0, 10), (4, 12), (16, 1)], by decide +kernel⟩,
  ⟨mbx 28 [(.SEC_STS_OWNER, 0, 1)], bytesN 28 [(0, 10), (4, 12), (16, 0x90000), (20, 1), (24, 1)], Loc.mk .mc 0 .MC_CTL 0 false, by decide +kernel⟩⟩

theorem witness_ADisableIsRefusedWhilePinsAreHeld :
    (∃ (s : State) (ag : Agent) (f : Field), s.mayWrite ag .ownerMp = true ∧ s.lockedFor ag .MC_CTL_ENABLE = false ∧ s.flag .MC_CTL_ENABLE = true ∧ s.mcView ag .MC_PIN_COUNT 0 0 ≠ 0 ∧ s.unitPower uMap ≠ 3 ∧ s.unitPower uMap = 0 ∧ f ≠ .MC_STS_DISABLE_REFUSED)
    ∧ (∃ (s : State) (ag : Agent) (t : State), exec (.mapCacheDisable ag) s = .next t ∧ s.mayWrite ag .ownerMp = true ∧ s.lockedFor ag .MC_CTL_ENABLE = false ∧ s.flag .MC_CTL_ENABLE = true ∧ t.flag .MC_CTL_ENABLE = false) :=
  ⟨⟨{ run [(.MC_CTL_ENABLE, 0, 1)] with pins := [⟨0, 1, 1, 0, []⟩] }, Agent.core 56, Field.TK_COUNT, by decide +kernel⟩,
  ⟨run [(.MC_CTL_ENABLE, 0, 1)], Agent.core 56, nextOf (execMapCacheDisable (.core 56) (run [(.MC_CTL_ENABLE, 0, 1)])), next_of (by decide +kernel), by decide +kernel⟩⟩

theorem witness_DeadlinesNameTheNearestTick :
    (∃ (now : Nat) (v : Nat) (t : Int), v < 2 ^ 32 ∧ t % 2 ^ 32 = v ∧ t - now < 2 ^ 31 ∧ now - t < 2 ^ 31)
    ∧ (∃ (now : Nat) (v : Nat), v < 2 ^ 32 ∧ (v + 2 ^ 31) % 2 ^ 32 ≠ now % 2 ^ 32)
    ∧ (∃ (s : State) (n : Nat) (c : Cmd), s.packet n 0x01 = some c ∧ s.flag .JQ_STS_SANITIZING = false ∧ c.readFieldsOk = true ∧ s.rangeVerdict c c.pNode c.pLba c.pLen rightRead = none ∧ c.unpacks = false)
    ∧ (∃ (s : State) (q : Nat), s.intakeHeld q = false ∧ s.intakeTurn q = true ∧ s.slotReady q (s.headSlot q) = true ∧ fieldAt (s.slotBytes q (s.headSlot q)) 4 2 = s.get .X_JQ_S q % 65536 ∧ ((s.cmds.find? fun c => !c.nvme && c.q = q && decide (0 < c.contLeft)) = none) ∧ s.replyRoom q = true ∧ s.tagUsed q (fieldAt (s.slotBytes q (s.headSlot q)) 2 2) = false ∧ opcodeKnown (fieldAt (s.slotBytes q (s.headSlot q)) 0 1) = true) :=
  ⟨⟨2 ^ 32 + 5, 4, 2 ^ 32 + 4, by decide +kernel⟩,
  ⟨0, 2 ^ 32 - 1, by decide +kernel⟩,
  ⟨withCmd [] (pkt 1 [(1, 4), (16, 1), (28, 9)]), 1, pkt 1 [(1, 4), (16, 1), (28, 9)], by decide +kernel⟩,
  ⟨slots0 [] (bytes64 [(0, 1), (2, 65535), (28, 9)]), 0, by decide +kernel⟩⟩

end Sys2Proof.Tests
end

/-! Every step keeps the state sound (00_scope.md, R7): the `Kept` lemmas of the meanings, gathered for `exec` and
`step`. What a field reads as after a write, and the state after reset. -/

namespace Sys2Proof.Machine

/-- Whatever command runs, a next state has the same queue and is sound if the state before was. -/
theorem exec_kept (c : Instr) (s : State) : KeptN s (exec c s) := by
  cases c with
  | registerWrite => exact execRegisterWrite_kept .refl
  | lowerHalfRead => exact execLowerHalfRead_kept .refl
  | upperHalfRead => exact execUpperHalfRead_kept .refl
  | ucbFaultClear => exact execUcbFaultClear_kept .refl
  | unitResetRequest => exact execUnitResetRequest_kept .refl
  | unitPowerRequest => exact execUnitPowerRequest_kept .refl
  | resetStart => exact execResetStart_kept .refl
  | resetComplete => exact execResetComplete_kept .refl
  | requestTimeout => exact execRequestTimeout_kept .refl
  | powerChangeStart => exact execPowerChangeStart_kept .refl
  | powerChangeComplete => exact execPowerChangeComplete_kept .refl
  | wakeOnAccess => exact execWakeOnAccess_kept .refl
  | chipWarmResetRequest => exact execChipWarmResetRequest_kept .refl
  | chipColdResetRequest => exact execChipColdResetRequest_kept .refl
  | chipReset => exact execChipReset_kept .refl
  | tickBoundary => exact execTickBoundary_kept .refl
  | tickOverrun => exact execTickOverrun_kept .refl
  | planSeal => exact execPlanSeal_kept .refl
  | atTickActions => exact execAtTickActions_kept .refl
  | tickInFrame => exact execTickInFrame_kept .refl
  | ptmExchange => exact execPtmExchange_kept .refl
  | tickLockAcquired => exact execTickLockAcquired_kept .refl
  | tickSourceLost => exact execTickSourceLost_kept .refl
  | tkSrcWrite => exact execTkSrcWrite_kept .refl
  | tkNextGo => exact execTkNextGo_kept .refl
  | tkCancel => exact execTkCancel_kept .refl
  | tkSnapTake => exact execTkSnapTake_kept .refl
  | plannedEntryStart => exact execPlannedEntryStart_kept .refl
  | linkUp => exact execLinkUp_kept .refl
  | linkDown => exact execLinkDown_kept .refl
  | perstAssert => exact execPerstAssert_kept .refl
  | perstDeassert => exact execPerstDeassert_kept .refl
  | flr => exact execFlr_kept .refl
  | vfDisable => exact execVfDisable_kept .refl
  | d3hotEntry => exact execD3hotEntry_kept .refl
  | d3hotToD0Reset => exact execD3hotToD0Reset_kept .refl
  | busMasterEnableSet => exact execBusMasterEnableSet_kept .refl
  | busMasterEnableClear => exact execBusMasterEnableClear_kept .refl
  | disableComplete => exact execDisableComplete_kept .refl
  | disableTimeout => exact execDisableTimeout_kept .refl
  | vfallocWrite => exact execVfallocWrite_kept .refl
  | heCfgWrite => exact execHeCfgWrite_kept .refl
  | invalidateRequest => exact execInvalidateRequest_kept .refl
  | invalidationCompletion => exact execInvalidationCompletion_kept .refl
  | translationCompletion => exact execTranslationCompletion_kept .refl
  | dmaReadCompletion => exact execDmaReadCompletion_kept .refl
  | completionTimeout => exact execCompletionTimeout_kept .refl
  | undefinedBarRequest => exact execUndefinedBarRequest_kept .refl
  | l1Entry => exact execL1Entry_kept .refl
  | l12Entry => exact execL12Entry_kept .refl
  | l0pNarrow => exact execL0pNarrow_kept .refl
  | l1Exit => exact execL1Exit_kept .refl
  | sqTailDoorbell => exact execSqTailDoorbell_kept .refl
  | cqHeadDoorbell => exact execCqHeadDoorbell_kept .refl
  | commandFetch => exact execCommandFetch_kept .refl
  | ccEnSet => exact execCcEnSet_kept .refl
  | ccEnClear => exact execCcEnClear_kept .refl
  | shutdownNotification => exact execShutdownNotification_kept .refl
  | shutdownComplete => exact execShutdownComplete_kept .refl
  | createIoSq => exact execCreateIoSq_kept .refl
  | createIoCq => exact execCreateIoCq_kept .refl
  | deleteIoSq => exact execDeleteIoSq_kept .refl
  | deleteIoCq => exact execDeleteIoCq_kept .refl
  | getLogPage => exact execGetLogPage_kept .refl
  | getLogEraseCounts => exact execGetLogEraseCounts_kept .refl
  | getLogRecorderExport => exact execGetLogRecorderExport_kept .refl
  | getLogFaultStatus => exact execGetLogFaultStatus_kept .refl
  | identify => exact execIdentify_kept .refl
  | nvmeAbort => exact execNvmeAbort_kept .refl
  | setFeaturesArbitration => exact execSetFeaturesArbitration_kept .refl
  | setFeaturesPowerManagement => exact execSetFeaturesPowerManagement_kept .refl
  | setFeaturesTemperatureThreshold => exact execSetFeaturesTemperatureThreshold_kept .refl
  | setFeaturesErrorRecovery => exact execSetFeaturesErrorRecovery_kept .refl
  | setFeaturesNumberOfQueues => exact execSetFeaturesNumberOfQueues_kept .refl
  | setFeaturesInterruptConfig => exact execSetFeaturesInterruptConfig_kept .refl
  | setFeaturesAsyncEventConfig => exact execSetFeaturesAsyncEventConfig_kept .refl
  | setFeaturesTimestamp => exact execSetFeaturesTimestamp_kept .refl
  | setFeaturesQueueAttributes => exact execSetFeaturesQueueAttributes_kept .refl
  | getFeatures => exact execGetFeatures_kept .refl
  | getFeaturesTimestamp => exact execGetFeaturesTimestamp_kept .refl
  | getFeaturesQueueAttributes => exact execGetFeaturesQueueAttributes_kept .refl
  | asyncEventRequest => exact execAsyncEventRequest_kept .refl
  | namespaceManagementCreate => exact execNamespaceManagementCreate_kept .refl
  | namespaceManagementDelete => exact execNamespaceManagementDelete_kept .refl
  | namespaceAttachment => exact execNamespaceAttachment_kept .refl
  | firmwareImageDownload => exact execFirmwareImageDownload_kept .refl
  | commitNoActivation => exact execCommitNoActivation_kept .refl
  | commitActivateAtReset => exact execCommitActivateAtReset_kept .refl
  | activateExistingSlot => exact execActivateExistingSlot_kept .refl
  | commitActivateNow => exact execCommitActivateNow_kept .refl
  | commitActivateAtTick => exact execCommitActivateAtTick_kept .refl
  | formatNvm => exact execFormatNvm_kept .refl
  | formatComplete => exact execFormatComplete_kept .refl
  | sanitizeBlockErase => exact execSanitizeBlockErase_kept .refl
  | sanitizeCryptoErase => exact execSanitizeCryptoErase_kept .refl
  | sanitizeOverwrite => exact execSanitizeOverwrite_kept .refl
  | sanitizeExitFailureMode => exact execSanitizeExitFailureMode_kept .refl
  | sanitizeComplete => exact execSanitizeComplete_kept .refl
  | nvmeRead => exact execNvmeRead_kept .refl
  | nvmeWrite => exact execNvmeWrite_kept .refl
  | nvmeFlush => exact execNvmeFlush_kept .refl
  | nvmeWriteZeroes => exact execNvmeWriteZeroes_kept .refl
  | nvmeDatasetManagement => exact execNvmeDatasetManagement_kept .refl
  | nvmeVerify => exact execNvmeVerify_kept .refl
  | miReadDataStructure => exact execMiReadDataStructure_kept .refl
  | miSubsystemHealthPoll => exact execMiSubsystemHealthPoll_kept .refl
  | miControllerHealthPoll => exact execMiControllerHealthPoll_kept .refl
  | miConfigurationGet => exact execMiConfigurationGet_kept .refl
  | miConfigurationSet => exact execMiConfigurationSet_kept .refl
  | miVpdRead => exact execMiVpdRead_kept .refl
  | miVpdWrite => exact execMiVpdWrite_kept .refl
  | miTunneledAdmin => exact execMiTunneledAdmin_kept .refl
  | basicManagementCommand => exact execBasicManagementCommand_kept .refl
  | pushWindowWrite => exact execPushWindowWrite_kept .refl
  | packetIntake => exact execPacketIntake_kept .refl
  | read => exact execRead_kept .refl
  | readUnpack => exact execReadUnpack_kept .refl
  | write => exact execWrite_kept .refl
  | writePack => exact execWritePack_kept .refl
  | flushBlock => exact execFlushBlock_kept .refl
  | pin => exact execPin_kept .refl
  | unpin => exact execUnpin_kept .refl
  | abort => exact execAbort_kept .refl
  | fence => exact execFence_kept .refl
  | time => exact execTime_kept .refl
  | gather => exact execGather_kept .refl
  | packOnly => exact execPackOnly_kept .refl
  | dataWindowWrite => exact execDataWindowWrite_kept .refl
  | grantIssue => exact execGrantIssue_kept .refl
  | grantExpiry => exact execGrantExpiry_kept .refl
  | replyHeadWrite => exact execReplyHeadWrite_kept .refl
  | xrHeadWrite => exact execXrHeadWrite_kept .refl
  | eventHeadWrite => exact execEventHeadWrite_kept .refl
  | lateNotice => exact execLateNotice_kept .refl
  | reserveChanged => exact execReserveChanged_kept .refl
  | fenceComplete => exact execFenceComplete_kept .refl
  | pinPreloadComplete => exact execPinPreloadComplete_kept .refl
  | queueEnable => exact execQueueEnable_kept .refl
  | queueDisable => exact execQueueDisable_kept .refl
  | queueDisabled => exact execQueueDisabled_kept .refl
  | jqFgoldWrite => exact execJqFgoldWrite_kept .refl
  | eventRingEnable => exact execEventRingEnable_kept .refl
  | createStack => exact execCreateStack_kept .refl
  | setChildren => exact execSetChildren_kept .refl
  | deleteStack => exact execDeleteStack_kept .refl
  | setWritable => exact execSetWritable_kept .refl
  | clearWritable => exact execClearWritable_kept .refl
  | grow => exact execGrow_kept .refl
  | nodeDeletionComplete => exact execNodeDeletionComplete_kept .refl
  | mapMissFill => exact execMapMissFill_kept .refl
  | allocationGiveUp => exact execAllocationGiveUp_kept .refl
  | mcInv => exact execMcInv_kept .refl
  | invalidationSweepDone => exact execInvalidationSweepDone_kept .refl
  | lockedLineRefill => exact execLockedLineRefill_kept .refl
  | mapCacheDisable => exact execMapCacheDisable_kept .refl
  | mapCacheEnable => exact execMapCacheEnable_kept .refl
  | drainComplete => exact execDrainComplete_kept .refl
  | resetInvalidationDone => exact execResetInvalidationDone_kept .refl
  | mapWriteBack => exact execMapWriteBack_kept .refl
  | journalPageProgram => exact execJournalPageProgram_kept .refl
  | readCall => exact execReadCall_kept .refl
  | readMarginCall => exact execReadMarginCall_kept .refl
  | programCall => exact execProgramCall_kept .refl
  | eraseCall => exact execEraseCall_kept .refl
  | suspendCall => exact execSuspendCall_kept .refl
  | resumeCall => exact execResumeCall_kept .refl
  | statusCall => exact execStatusCall_kept .refl
  | eraseCountCall => exact execEraseCountCall_kept .refl
  | featureCall => exact execFeatureCall_kept .refl
  | retireCall => exact execRetireCall_kept .refl
  | msCplRead => exact execMsCplRead_kept .refl
  | readCallComplete => exact execReadCallComplete_kept .refl
  | readMarginComplete => exact execReadMarginComplete_kept .refl
  | programCallComplete => exact execProgramCallComplete_kept .refl
  | eraseCallComplete => exact execEraseCallComplete_kept .refl
  | suspendComplete => exact execSuspendComplete_kept .refl
  | sealedGateViolation => exact execSealedGateViolation_kept .refl
  | sealedTimeout => exact execSealedTimeout_kept .refl
  | mediaOpTimeout => exact execMediaOpTimeout_kept .refl
  | mediaBrownoutAssert => exact execMediaBrownoutAssert_kept .refl
  | mediaBrownoutDeassert => exact execMediaBrownoutDeassert_kept .refl
  | bandOpen => exact execBandOpen_kept .refl
  | gcCopy => exact execGcCopy_kept .refl
  | gcCommit => exact execGcCommit_kept .refl
  | release => exact execRelease_kept .refl
  | blockErase => exact execBlockErase_kept .refl
  | hostWriteAdmission => exact execHostWriteAdmission_kept .refl
  | staticWearLevelling => exact execStaticWearLevelling_kept .refl
  | reserveRefill => exact execReserveRefill_kept .refl
  | ladderStep => exact execLadderStep_kept .refl
  | deepDecodeStart => exact execDeepDecodeStart_kept .refl
  | deepDecodeDone => exact execDeepDecodeDone_kept .refl
  | hedgeRebuild => exact execHedgeRebuild_kept .refl
  | hedgeRetry => exact execHedgeRetry_kept .refl
  | cmdMaxExpiry => exact execCmdMaxExpiry_kept .refl
  | backgroundRecoveryPass => exact execBackgroundRecoveryPass_kept .refl
  | recoveryCommit => exact execRecoveryCommit_kept .refl
  | patrolRead => exact execPatrolRead_kept .refl
  | refresh => exact execRefresh_kept .refl
  | correctedMemoryError => exact execCorrectedMemoryError_kept .refl
  | uncorrectableMemoryError => exact execUncorrectableMemoryError_kept (x1 := 0) .refl
  | scrubRead => exact execScrubRead_kept .refl
  | eccLogClear => exact execEccLogClear_kept .refl
  | decompressionJobStart => exact execDecompressionJobStart_kept .refl
  | decompressionJobDone => exact execDecompressionJobDone_kept .refl
  | compressionJobStart => exact execCompressionJobStart_kept .refl
  | compressionJobDone => exact execCompressionJobDone_kept .refl
  | dictLoad => exact execDictLoad_kept .refl
  | dictDrop => exact execDictDrop_kept .refl
  | dictLoadDone => exact execDictLoadDone_kept .refl
  | getInfo => exact execGetInfo_kept .refl
  | getChallenge => exact execGetChallenge_kept .refl
  | claimOwner => exact execClaimOwner_kept .refl
  | releaseOwner => exact execReleaseOwner_kept .refl
  | licenceInstall => exact execLicenceInstall_kept .refl
  | licenceRemove => exact execLicenceRemove_kept .refl
  | licenceStatus => exact execLicenceStatus_kept .refl
  | timeAttest => exact execTimeAttest_kept .refl
  | monoAdvance => exact execMonoAdvance_kept .refl
  | setField => exact execSetField_kept .refl
  | protectionBatchSubmit => exact execProtectionBatchSubmit_kept .refl
  | keyDestruction => exact execKeyDestruction_kept .refl
  | timeFloorRaise => exact execTimeFloorRaise_kept .refl
  | lockstepMismatch => exact execLockstepMismatch_kept .refl
  | coreHang => exact execCoreHang_kept .refl
  | idleTimerExpiry => exact execIdleTimerExpiry_kept .refl
  | modeEntry => exact execModeEntry_kept .refl
  | mediaQuiet => exact execMediaQuiet_kept .refl
  | modeExit => exact execModeExit_kept .refl
  | domainWake => exact execDomainWake_kept .refl
  | domainRegate => exact execDomainRegate_kept .refl
  | scaleChange => exact execScaleChange_kept .refl
  | setFloor => exact execSetFloor_kept .refl
  | shutdown => exact execShutdown_kept .refl
  | vauxRise => exact execVauxRise_kept .refl
  | keepToPatrol => exact execKeepToPatrol_kept .refl
  | vauxFall => exact execVauxFall_kept .refl
  | vbatFall => exact execVbatFall_kept .refl
  | mainEnAssert => exact execMainEnAssert_kept .refl
  | patrolRound => exact execPatrolRound_kept .refl
  | pfailN => exact execPfailN_kept .refl
  | supplyBrownout => exact execSupplyBrownout_kept (x0 := 0) .refl
  | flushEnergyCheck => exact execFlushEnergyCheck_kept .refl
  | flushEnd => exact execFlushEnd_kept .refl
  | prechargeCeiling => exact execPrechargeCeiling_kept .refl
  | chargerTopUp => exact execChargerTopUp_kept .refl
  | chargeTimeout => exact execChargeTimeout_kept .refl
  | bankOvervolt => exact execBankOvervolt_kept .refl
  | testNow => exact execTestNow_kept .refl
  | testIntervalDue => exact execTestIntervalDue_kept .refl
  | capacitanceTestStart => exact execCapacitanceTestStart_kept .refl
  | capacitanceTestEnd => exact execCapacitanceTestEnd_kept .refl
  | huECeilWrite => exact execHuECeilWrite_kept .refl
  | housekeepingRound => exact execHousekeepingRound_kept .refl
  | thermalShutDown => exact execThermalShutDown_kept .refl
  | hkTjThrWrite => exact execHkTjThrWrite_kept .refl
  | hkWwinWrite => exact execHkWwinWrite_kept .refl
  | calTrimStep => exact execCalTrimStep_kept .refl
  | calOscStop => exact execCalOscStop_kept .refl
  | calSet => exact execCalSet_kept .refl
  | calAlarm => exact execCalAlarm_kept .refl
  | calAlarmArm => exact execCalAlarmArm_kept .refl
  | calBcd0Read => exact execCalBcd0Read_kept .refl
  | faultWindowClose => exact execFaultWindowClose_kept .refl
  | fcStickyClear => exact execFcStickyClear_kept .refl
  | fcUnackClear => exact execFcUnackClear_kept .refl
  | fcSrcCfgWrite => exact execFcSrcCfgWrite_kept .refl
  | erFreezeWrite => exact execErFreezeWrite_kept .refl
  | freezeTimeout => exact execFreezeTimeout_kept .refl
  | recorderClear => exact execRecorderClear_kept .refl
  | recorderClearPending => exact execRecorderClearPending_kept .refl
  | histogramConfigWrite => exact execHistogramConfigWrite_kept .refl
  | commitVerifyDone sigOk deltaOk => exact execCommitVerifyDone_kept (x0 := sigOk) (x1 := deltaOk) (x2 := s) .refl
  | slotWriteDone => exact execSlotWriteDone_kept .refl
  | mapReloadHalf => exact execMapReloadHalf_kept .refl
  | clusterRollPrepare => exact execClusterRollPrepare_kept .refl
  | clusterOutOfService => exact execClusterOutOfService_kept .refl
  | clusterCoreReady => exact execClusterCoreReady_kept .refl
  | clusterReturn => exact execClusterReturn_kept .refl
  | clusterWaitTimeout => exact execClusterWaitTimeout_kept .refl
  | reloadFail => exact execReloadFail_kept .refl
  | activationRecord => exact execActivationRecord_kept .refl
  | mainPgQualified => exact execMainPgQualified_kept .refl
  | startup => exact execStartup_kept .refl
  | undefinedRegisterRead => exact execUndefinedRegisterRead_kept .refl
  | atsEnableClear => exact execAtsEnableClear_kept .refl
  | vfEnableSet => exact execVfEnableSet_kept .refl
  | chargeTargetReached => exact execChargeTargetReached_kept .refl
  | bandAgeRefresh => exact execBandAgeRefresh_kept .refl
  | mailboxCommandDone => exact execMailboxCommandDone_kept .refl
  | mainPgDeassert => exact execMainPgDeassert_kept .refl
  | pfailNDeassert => exact execPfailNDeassert_kept .refl
  | frontReloadDone => exact execFrontReloadDone_kept .refl

/-- Taking commands from the queue leaves a sound state sound. -/
theorem State.sound_pending (s : State) (q : List Instr) : ({ s with pending := q } : State).sound = s.sound := rfl

/-- A step from a sound state ends in a sound one, on an empty queue and with a command waiting. -/
theorem step_sound {s t : State} (hs : s.sound = true) (h : step s = .next t) : t.sound = true := by
  unfold step at h
  split at h
  next =>
    cases h
    exact (idle_kept .refl).sound hs
  next c rest _ => exact ((exec_kept c { s with pending := rest }).of t h).sound ((s.sound_pending rest).trans hs)

/-- Settles O6: each command's meaning keeps the state sound, and so does an idle cycle. -/
theorem everyStepKeepsTheStateSound : Obligations.EveryStepKeepsTheStateSound := by
  unfold Obligations.EveryStepKeepsTheStateSound
  exact fun s t hs h => step_sound hs h

/-- Settles O5: nothing is listed after reset, and an empty store is in canonical form. -/
theorem resetStateIsSound : Obligations.ResetStateIsSound := by
  unfold Obligations.ResetStateIsSound
  rfl

/-- Settles O9, by the laws of a read after a write. -/
theorem fieldWritesObeyWidthAndOthersStay : Obligations.FieldWritesObeyWidthAndOthersStay := by
  unfold Obligations.FieldWritesObeyWidthAndOthersStay
  exact fun s f v i a => ⟨s.get_put_self f v i a, fun g j b => s.get_put_ne f g v i j a b⟩

end Sys2Proof.Machine

/-! Accesses to control space (00_scope.md, R11, R12; 01, R33): what an access does at a register, a descriptor slot word or an
undefined offset, by what its unit lets through; and where TS_TICK stands. -/

namespace Sys2Proof.Machine

variable {s t : State} {ag : Agent} {off v w : Nat} {stall : Option Nat} {l : Loc}

/-! ### Width and alignment (R11) -/

theorem wellFormedAccess_four (h : off % 4 = 0) : wellFormedAccess off 4 = true := by simp [wellFormedAccess, h]

theorem wellFormedAccess_eight (h : off % 8 = 0) : wellFormedAccess off 8 = true := by simp [wellFormedAccess, h]

theorem State.readAccess_malformed (h : wellFormedAccess off w = false) : s.readAccess ag off w stall = (2 ^ (8 * w) - 1, s) := by
  simp [State.readAccess, h]

theorem State.writeAccess_malformed (h : wellFormedAccess off w = false) : s.writeAccess ag off w v stall = s := by
  simp [State.writeAccess, h]

theorem State.readAccess_four (h : off % 4 = 0) : s.readAccess ag off 4 stall = s.access32 ag off stall := by
  simp [State.readAccess, wellFormedAccess_four h]

theorem State.writeAccess_four (h : off % 4 = 0) : s.writeAccess ag off 4 v stall = s.store32 ag off (v % 2 ^ 32) stall := by
  simp [State.writeAccess, wellFormedAccess_four h]

/-- Eight bytes to a 64-bit register that its unit lets through. -/
theorem State.writeAccess_eight_wide (h : off % 8 = 0) (hw : s.wideAt off = some l) (hr : s.reach (.reg l) stall = some t) :
    s.writeAccess ag off 8 v stall
      = if l.reg = .TK_CANCEL then t.writeCancel ag (v % 2 ^ 64) else t.writeReg ag l (v % 2 ^ 64) := by
  simp [State.writeAccess, wellFormedAccess_eight h, hw, hr]

/-- Eight bytes where no 64-bit register stands are two writes of four, the lower first. -/
theorem State.writeAccess_eight_narrow (h : off % 8 = 0) (hw : s.wideAt off = none) :
    s.writeAccess ag off 8 v stall
      = (s.writeAccess ag off 4 v stall).writeAccess ag (off + 4) 4 (v / 2 ^ 32) stall := by
  rw [State.writeAccess_four (by omega), State.writeAccess_four (by omega)]
  simp [State.writeAccess, wellFormedAccess_eight h, hw]

theorem State.wideAt_of_target (ht : s.target off = .reg l) (hw : l.reg.desc.wide = true) (hu : l.upper = false) :
    s.wideAt off = some l := by
  simp [State.wideAt, ht, hw, hu]

/-! ### The unit an access meets (R33) -/

/-- An access takes place at once where no unit is concerned, or where the unit is ON. -/
theorem State.reach_on {x : Target} (h : ∀ w, x.unit = some w → s.unitPower w = 0) : s.reach x stall = some s := by
  unfold State.reach
  cases hx : x.unit with
  | none => rfl
  | some w => simp [State.reachUnit, h w hx]

/-- A unit that is gated or wakes lets the access through after a wake, and counts the stall. -/
theorem State.reach_waking {x : Target} {ns : Nat} (hx : x.unit = some w) (hon : s.unitPower w ≠ 0) (hoff : s.unitPower w ≠ 3) :
    s.reach x (some ns) = some (((s.wakeUnit w).bump .UCB_CNT4 w).add .UCB_CNT5 ns w) := by
  simp [State.reach, State.reachUnit, hx, hon, hoff]

/-- A unit that is OFF turns the access away. -/
theorem State.reach_off {x : Target} (hx : x.unit = some w) (hoff : s.unitPower w = 3) : s.reach x stall = none := by
  simp [State.reach, State.reachUnit, hx, hoff]

theorem State.turnAway_unit {x : Target} (hx : x.unit = some w) : s.turnAway x = s.refuseAt w := by
  simp [State.turnAway, hx]

theorem State.access32_of_reach {x : Target} (hx : s.target off = x) (h : s.reach x stall = some t) :
    s.access32 ag off stall = t.read32 ag off x := by
  simp [State.access32, hx, h]

theorem State.access32_turned {x : Target} (hx : s.target off = x) (h : s.reach x stall = none) :
    s.access32 ag off stall = (0xFFFFFFFF, s.turnAway x) := by
  simp [State.access32, hx, h]

theorem State.store32_of_reach {x : Target} (hx : s.target off = x) (h : s.reach x stall = some t) :
    s.store32 ag off v stall = t.write32 ag x v := by
  simp [State.store32, hx, h]

theorem State.store32_turned {x : Target} (hx : s.target off = x) (h : s.reach x stall = none) :
    s.store32 ag off v stall = s.turnAway x := by
  simp [State.store32, hx, h]

/-! ### What stands at the offset -/

theorem State.read32_narrow (hw : l.reg.desc.wide = false) : s.read32 ag off (.reg l) = s.readReg ag l := by
  simp [State.read32, hw]

/-- The lower half of a 64-bit register loads the agent's latch with the upper half (R12). -/
theorem State.read32_lower (hw : l.reg.desc.wide = true) (hu : l.upper = false) :
    s.read32 ag off (.reg l)
      = ((s.readReg ag l).1 % 2 ^ 32, (s.readReg ag l).2.setLatch ag off ((s.readReg ag l).1 / 2 ^ 32)) := by
  simp [State.read32, hw, hu]

/-- The agent's latch, where it holds the register that starts at an offset (R12). -/
def State.latchOf (s : State) (ag : Agent) (start : Nat) : Option (Nat × Nat × Nat) :=
  s.latches.find? fun x => x.1 = ag.ix && x.2.1 = start

theorem State.read32_upper_latched {x : Nat × Nat × Nat} (hw : l.reg.desc.wide = true) (hu : l.upper = true)
    (hl : s.latchOf ag (Loc.start off l) = some x) : s.read32 ag off (.reg l) = (x.2.2, s) := by
  unfold State.latchOf at hl
  simp [State.read32, hw, hu, hl]

theorem State.read32_upper_unlatched (hw : l.reg.desc.wide = true) (hu : l.upper = true)
    (hl : s.latchOf ag (Loc.start off l) = none) :
    s.read32 ag off (.reg l) = ((s.readReg ag l).1 / 2 ^ 32, (s.readReg ag l).2) := by
  unfold State.latchOf at hl
  simp [State.read32, hw, hu, hl]

theorem State.writeHalf_narrow (hw : l.reg.desc.wide = false) : s.writeHalf ag l v = s.writeReg ag l v := by
  simp [State.writeHalf, hw]

/-! ### The commands, where the unit lets them through -/

/-- REGISTER_WRITE of four bytes at a target without a unit, or whose unit is ON. -/
theorem exec_registerWrite_four_on {x : Target} (h : off % 4 = 0) (hx : s.target off = x)
    (hu : ∀ w, x.unit = some w → s.unitPower w = 0) :
    exec (.registerWrite ag off 4 v) s = .next (s.write32 ag x (v % 2 ^ 32)) := by
  rw [exec_registerWrite, execRegisterWrite, State.writeAccess_four h, State.store32_of_reach hx (State.reach_on hu)]

/-- A read of four bytes at such a target. -/
theorem State.readAccess_four_on {x : Target} (h : off % 4 = 0) (hx : s.target off = x)
    (hu : ∀ w, x.unit = some w → s.unitPower w = 0) : s.readAccess ag off 4 stall = s.read32 ag off x := by
  rw [State.readAccess_four h, State.access32_of_reach hx (State.reach_on hu)]

theorem exec_lowerHalfRead_on {x : Target} (h : off % 4 = 0) (hx : s.target off = x)
    (hu : ∀ w, x.unit = some w → s.unitPower w = 0) :
    exec (.lowerHalfRead ag off) s = .next (State.answerRead ag off 4 (s.read32 ag off x)) := by
  rw [exec_lowerHalfRead, execLowerHalfRead, State.readAccess_four_on h hx hu]

theorem exec_upperHalfRead_on (h : off % 4 = 0) (hx : s.target off = .reg l) (hup : l.upper = true)
    (hu : ∀ w, (Target.reg l).unit = some w → s.unitPower w = 0) :
    exec (.upperHalfRead ag off) s = .next (State.answerRead ag off 4 (s.read32 ag off (.reg l))) := by
  rw [exec_upperHalfRead, execUpperHalfRead, State.readAccess_four_on h hx hu]
  simp [hx, hup, h]

/-- REGISTER_WRITE of eight bytes at a 64-bit register without a unit, or whose unit is ON. -/
theorem exec_registerWrite_eight_on (h : off % 8 = 0) (hx : s.target off = .reg l) (hw : l.reg.desc.wide = true)
    (hlo : l.upper = false) (hu : ∀ w, (Target.reg l).unit = some w → s.unitPower w = 0) :
    exec (.registerWrite ag off 8 v) s
      = .next (if l.reg = .TK_CANCEL then s.writeCancel ag (v % 2 ^ 64) else s.writeReg ag l (v % 2 ^ 64)) := by
  rw [exec_registerWrite, execRegisterWrite,
    State.writeAccess_eight_wide h (State.wideAt_of_target hx hw hlo) (State.reach_on hu)]

theorem exec_wakeOnAccess_write {ns : Nat} :
    exec (.wakeOnAccess ag off w (some v) ns) s = .next (s.writeAccess ag off w v (some ns)) := rfl

theorem exec_wakeOnAccess_read {ns : Nat} :
    exec (.wakeOnAccess ag off w none ns) s = .next (State.answerRead ag off w (s.readAccess ag off w (some ns))) := rfl

/-! ### TS_TICK (06, R258) -/

/-- The place of a half of TS_TICK. -/
def tsTick (upper : Bool) : Loc := ⟨.ts, 0, .TS_TICK, 0, upper⟩

theorem State.target_tsTick_lower (s : State) : s.target 0xD0050 = .reg (tsTick false) := rfl
theorem State.target_tsTick_upper (s : State) : s.target 0xD0054 = .reg (tsTick true) := rfl

/-- TS_TICK meets the unit MAP. -/
theorem unit_tsTick_on {upper : Bool} (hon : s.unitPower uMap = 0) : ∀ w, (Target.reg (tsTick upper)).unit = some w → s.unitPower w = 0 :=
  fun w hw => by cases hw; exact hon

/-- PF0 without the Owner role is in no group but its own mailbox's and `any`. -/
theorem State.isOwner_of_mayWrite {g : Writers} (h : s.mayWrite .pf0 g = true) (hany : g ≠ .any) (hpf0 : g ≠ .pf0) :
    s.isOwner .pf0 = true := by
  cases g <;> simp_all [State.mayWrite, Agent.isMp, Agent.isWd, Agent.isFe, Agent.isMd, mdOf]

/-- An agent of a group writes; of the groups that PF0 is in without the Owner role, only `any` turns it away. -/
theorem State.guardWrite_of_mayWrite {g : Writers} {act : State → State} (h : s.mayWrite ag g = true) (hany : g ≠ .any) :
    s.guardWrite ag g act = act s := by
  have hno : ¬(ag = .pf0 && !s.isOwner ag && g ≠ .pf0) = true := by
    simp only [Bool.and_eq_true, decide_eq_true_eq, Bool.not_eq_true']
    rintro ⟨⟨rfl, hown⟩, hpf0⟩
    exact absurd (State.isOwner_of_mayWrite h hany hpf0) (by simp [hown])
  unfold State.guardWrite
  rw [if_neg hno, if_pos h]

/-- A write of the only field of TS_TICK, which no lock guards. -/
theorem State.writeReg_tsTick (h : s.mayWrite ag .ownerFeMp = true) :
    s.writeReg ag (tsTick false) v = s.put .TS_TICK (bits v 63 0) 0 ag.ix := calc
  s.writeReg ag (tsTick false) v = s.guardWrite ag .ownerFeMp fun s => s.writeRw ag .TS_TICK v 0 ag.ix := rfl
  _ = s.writeRw ag .TS_TICK v 0 ag.ix := State.guardWrite_of_mayWrite h (by decide)
  _ = s.put .TS_TICK (bits v 63 0) 0 ag.ix := rfl

theorem State.readReg_tsTick (upper : Bool) : s.readReg ag (tsTick upper) = (s.get .TS_TICK 0 ag.ix, s) := by
  have hread : s.readReg ag (tsTick upper) = (0 + s.get .TS_TICK 0 ag.ix * 2 ^ 0, s) := rfl
  simpa using hread

/-! ### The power state of a unit (R32) -/

/-- The fields that a unit's power state is read from. -/
def powerFields : List Field := [.PM_MODE_MODE, .X_PWR_WAKING, .X_PWR_TARGET, .X_MODE_POWER]

/-- States that agree in those fields give every unit the same power state. -/
theorem State.unitPower_congr (h : ∀ f ∈ powerFields, ∀ i, t.get f i = s.get f i) : t.unitPower w = s.unitPower w := by
  have hpow : t.powered = s.powered := by
    unfold State.powered State.mode
    rw [h .PM_MODE_MODE (by decide)]
  have hreq : t.requestPower w = s.requestPower w := by
    simp [State.requestPower, State.flag, h .X_PWR_WAKING (by decide), h .X_PWR_TARGET (by decide)]
  simp [State.unitPower, hpow, hreq, h .X_MODE_POWER (by decide)]

theorem State.unitPower_put {f : Field} {i a : Nat} (h : f ∉ powerFields) : (s.put f v i a).unitPower w = s.unitPower w :=
  State.unitPower_congr fun g hg j => State.get_put_field s f g v i j a 0 fun e => h (e ▸ hg)

theorem State.unitPower_of_regs (h : t.regs = s.regs) : t.unitPower w = s.unitPower w :=
  State.unitPower_congr fun f _ i => State.get_congr f i 0 h

/-! ### TS_TICK written and read -/

theorem exec_write_tsTick (hon : s.unitPower uMap = 0) (hag : s.mayWrite ag .ownerFeMp = true) (hv : v < 2 ^ 64) :
    exec (.registerWrite ag 0xD0050 8 v) s = .next (s.put .TS_TICK v 0 ag.ix) := by
  have hbits : bits (v % 2 ^ 64) 63 0 = v := by simp only [bits]; omega
  rw [exec_registerWrite_eight_on rfl s.target_tsTick_lower rfl rfl (unit_tsTick_on hon), if_neg (by decide),
    State.writeReg_tsTick hag, hbits]

theorem exec_lowerHalfRead_tsTick (hon : s.unitPower uMap = 0) (hv : s.get .TS_TICK 0 ag.ix = v) :
    exec (.lowerHalfRead ag 0xD0050) s
      = .next ((s.setLatch ag 0xD0050 (v / 2 ^ 32)).emit (.readData ag 0xD0050 4 (v % 2 ^ 32))) := by
  rw [exec_lowerHalfRead_on rfl s.target_tsTick_lower (unit_tsTick_on hon), State.read32_lower rfl rfl, State.readReg_tsTick, hv]
  rfl

/-- With the latch loaded from TS_TICK, the upper half is the latched one. -/
theorem exec_upperHalfRead_tsTick (hon : s.unitPower uMap = 0) (hl : s.latches.head? = some (ag.ix, 0xD0050, v)) :
    exec (.upperHalfRead ag 0xD0054) s = .next (s.emit (.readData ag 0xD0054 4 v)) := by
  obtain ⟨l, hl⟩ := List.head?_eq_some_iff.1 hl
  have hlatch : s.latchOf ag (Loc.start 0xD0054 (tsTick true)) = some (ag.ix, 0xD0050, v) := by
    unfold State.latchOf
    rw [hl]
    exact List.find?_cons_of_pos (by simp [Loc.start, tsTick])
  rw [exec_upperHalfRead_on rfl s.target_tsTick_upper rfl (unit_tsTick_on hon), State.read32_upper_latched rfl rfl hlatch]
  rfl

/-- A TS_TICK written in eight bytes holds the value for the agent, sends nothing and reads back in two halves. -/
theorem tsTick_reads_back (hon : s.unitPower uMap = 0) (hag : s.mayWrite ag .ownerFeMp = true) (hv : v < 2 ^ 64) :
    ∃ t u w : State, exec (.registerWrite ag 0xD0050 8 v) s = .next t ∧ t.get .TS_TICK 0 ag.ix = v ∧ t.out = s.out
      ∧ exec (.lowerHalfRead ag 0xD0050) t = .next u ∧ u.out = t.out ++ [.readData ag 0xD0050 4 (v % 2 ^ 32)]
      ∧ exec (.upperHalfRead ag 0xD0054) u = .next w ∧ w.out = u.out ++ [.readData ag 0xD0054 4 (v / 2 ^ 32)] := by
  have hget : (s.put .TS_TICK v 0 ag.ix).get .TS_TICK 0 ag.ix = v := by
    rw [State.get_put_self, Field.TS_TICK_width, Nat.mod_eq_of_lt hv]
  have hput : (s.put .TS_TICK v 0 ag.ix).unitPower uMap = 0 := by rw [State.unitPower_put (by decide), hon]
  exact ⟨_, _, _, exec_write_tsTick hon hag hv, hget, rfl, exec_lowerHalfRead_tsTick hput hget, rfl,
    exec_upperHalfRead_tsTick ((State.unitPower_of_regs rfl).trans hput) rfl, rfl⟩

/-! ### The settlements -/

/-- Settles O7: each access is led to its target by the laws above, and TS_TICK is `tsTick_reads_back`. -/
theorem writesOfPlainRegistersReadBack : Obligations.WritesOfPlainRegistersReadBack := by
  unfold Obligations.WritesOfPlainRegistersReadBack
  refine ⟨fun s ag off v l h hx hu => ?write4, fun s ag off v l h hx hw hlo hu => ?write8, fun s ag off v h hw => ?twoHalves,
    fun s ag off v cl o h hx hu => ?slot, fun s ag off l h hx hw hu => ?read4, fun s ag off l h hx hw hlo hu => ?lower,
    fun s ag off l h hx hup hw hu => ?upper, fun s ag v hon hag hv => tsTick_reads_back hon hag hv⟩
  case write4 => exact ⟨exec_registerWrite_four_on h hx hu, State.writeHalf_narrow⟩
  case write8 => exact exec_registerWrite_eight_on h hx hw hlo hu
  case twoHalves =>
    refine ⟨_, rfl, ?_⟩
    simp only [exec_registerWrite, execRegisterWrite, State.writeAccess_eight_narrow h hw]
  case slot =>
    have hon : ∀ w, (Target.slot cl o).unit = some w → s.unitPower w = 0 := fun w hw => by cases hw; exact hu
    exact ⟨exec_registerWrite_four_on h hx hon, exec_lowerHalfRead_on h hx hon⟩
  case read4 => rw [exec_lowerHalfRead_on h hx hu, State.read32_narrow hw]; rfl
  case lower =>
    refine ⟨_, exec_lowerHalfRead_on h hx hu, ?_⟩
    rw [State.read32_lower hw hlo]
    exact ⟨rfl, List.mem_cons_self, rfl⟩
  case upper =>
    rw [exec_upperHalfRead_on h hx hup hu]
    cases hl : s.latchOf ag (Loc.start off l) with
    | none =>
      rw [State.read32_upper_unlatched hw hup hl]
      unfold State.latchOf at hl
      rw [hl]
      rfl
    | some x =>
      rw [State.read32_upper_latched hw hup hl]
      unfold State.latchOf at hl
      rw [hl]
      rfl

/-- Settles O8: an invalid or undefined access meets no unit; a unit that is OFF turns an access away, and one that is gated or
wakes lets it through after a wake. -/
theorem accessesThatReachNoRegister : Obligations.AccessesThatReachNoRegister := by
  unfold Obligations.AccessesThatReachNoRegister
  refine ⟨fun s ag off w h => ?badRead, fun s ag off w v h => ?badWrite, fun s ag off h hx => ?undefRead,
    fun s ag off v h hx => ?undefWrite, fun s ag off v ns l w h hx hw hon hoff => ?wakeWrite,
    fun s ag off v ns l w h hx hw hoff => ?offWrite, fun s ag off ns l w h hx hw hoff => ?offRead,
    fun s t ag off ns l w h hx hn hw hon hoff ht => ?wakeRead⟩
  case badRead => simp [execUndefinedRegisterRead, h, State.readAccess_malformed h, State.answerRead]
  case badWrite => simp [execRegisterWrite, State.writeAccess_malformed h]
  case undefRead =>
    have hread : s.readAccess ag off 4 none = (0xFFFFFFFF, s.decodeFault ag) := State.readAccess_four_on h hx nofun
    simp [execUndefinedRegisterRead, hx, hread, State.answerRead]
  case undefWrite => exact exec_registerWrite_four_on h hx nofun
  case wakeWrite =>
    rw [exec_wakeOnAccess_write, State.writeAccess_four h, State.store32_of_reach hx (State.reach_waking hw hon hoff)]
    rfl
  case offWrite =>
    rw [exec_wakeOnAccess_write, State.writeAccess_four h, State.store32_turned hx (State.reach_off hw hoff), State.turnAway_unit hw]
    rfl
  case offRead =>
    rw [exec_wakeOnAccess_read, State.readAccess_four h, State.access32_turned hx (State.reach_off hw hoff), State.turnAway_unit hw]
    rfl
  case wakeRead =>
    subst ht
    rw [exec_wakeOnAccess_read, State.readAccess_four h, State.access32_of_reach hx (State.reach_waking hw hon hoff), State.read32_narrow hn]
    rfl

end Sys2Proof.Machine

/-! Counters, unit resets and chip resets (01_units_and_address_map.md, R22, R28, R30, R36, R46; 18, R624 to R627). -/

namespace Sys2Proof.Machine

/-- A counter of 64 bits holds the saturated sum. -/
theorem State.get_bump_self {s : State} {f : Field} {i : Nat} (h : f.info.width = 64) :
    (s.bump f i).get f i = min (s.get f i + 1) 0x7FFFFFFFFFFFFFFF := by
  have hlt : min (s.get f i + 1) 0x7FFFFFFFFFFFFFFF < 2 ^ 64 := by omega
  rw [State.bump, State.add, State.get_put_self, h, Nat.mod_eq_of_lt hlt]

/-- Counting leaves every field of another name alone. -/
@[simp] theorem State.get_bump_field {s : State} {f g : Field} {i j b : Nat} (h : g ≠ f) : (s.bump f i).get g j b = s.get g j b :=
  State.get_put_field s f g _ i j 0 b h

/-- Settles O10, by the laws of a read after a write: the saturated sum fits in 64 bits. -/
theorem countersSaturate : Obligations.CountersSaturate := by
  unfold Obligations.CountersSaturate
  exact fun s f i hw => ⟨State.get_bump_self hw, fun g j b hne => State.get_bump_field hne⟩

/-- Settles O13: each command is its meaning on the branch that the hypotheses choose. -/
theorem unitResetsRunAndEnd : Obligations.UnitResetsRunAndEnd := by
  unfold Obligations.UnitResetsRunAndEnd
  refine ⟨fun s w hkind hst htick hcov hrest hoos => ?start, fun s w chans hkind hst hcov hchip => ?complete,
    fun s w hst => ?overdue, fun s w hst => ?notRunning⟩
  case start =>
    have hgo : ¬(s.get .UCB_REQ_STS_KIND w ≠ 1 || s.get .UCB_REQ_STS_STATE w ≠ 1 || (s.reqTick w).isSome || s.covered w
        || (!s.flag .X_REQ_IMMEDIATE w && !s.mediaAtRest w)
        || (unitType w = some .cluster && s.flag .X_CL_OOS (w - 0x108))) = true := by
      simpa [hkind, hst, htick, hcov] using ⟨fun himm => hrest.resolve_left (by simp [himm]), hoos⟩
    exact if_neg hgo
  case complete =>
    have hgo : ¬(s.get .UCB_REQ_STS_KIND w ≠ 1 || s.get .UCB_REQ_STS_STATE w ≠ 2 || s.covered w || w = uChip) = true := by
      simp [hkind, hst, hcov, hchip]
    exact if_neg hgo
  case overdue => exact if_pos hst
  case notRunning => exact if_neg hst

/-! ### Chip resets asked for by a core (R46) -/

variable {s : State} {ag : Agent} {w : Nat} {act : State → State}

/-- A command that meets a unit which is ON has its effect. -/
theorem State.atUnit_on (h : s.unitPower w = 0) : s.atUnit w act = act s := by simp [State.atUnit, State.reachUnit, h]

theorem State.lockedFor_nil {f : Field} {i : Nat} (h : s.locks = []) : s.lockedFor ag f i = false := by
  simp [State.lockedFor, h]

theorem State.unlessLocked_nil {fs : List Field} {i : Nat} (h : s.locks = []) : s.unlessLocked ag fs act i = act s := by
  simp [State.unlessLocked, State.lockedFor_nil h]

/-- The MP cores are the source 3 of a chip reset. -/
theorem Agent.resetSource_of_isMp (h : ag.isMp = true) : ag.resetSource = 3 := by
  cases ag with
  | core n =>
    have hwd : (Agent.core n).isWd = false := by simp_all [Agent.isMp, Agent.isWd]
    simp [Agent.resetSource, hwd]
  | pf0 => simp [Agent.isMp] at h
  | collector => simp [Agent.isMp] at h

theorem State.mayWrite_ownerMpWd_of_isMp (h : ag.isMp = true) : s.mayWrite ag .ownerMpWd = true := by simp [State.mayWrite, h]

/-- An MP core writes CHP_CTL while nothing is locked: USE_TICK is stored and decides. -/
theorem State.submitChipReset_of_isMp {t : State} {cold warm useTick : Bool} (hag : ag.isMp = true) (hl : s.locks = [])
    (ht : t = s.putFlag .CHP_CTL_USE_TICK useTick) :
    s.submitChipReset ag cold warm useTick = if useTick then
        if t.armOk (t.get .CHP_CTL_TICK) then t.arm (t.get .CHP_CTL_TICK) (.chipReset cold 3) else t
      else t.requestChipReset cold 3 := by
  have hflag : t.flag .CHP_CTL_USE_TICK = useTick := ht ▸ State.flag_putFlag_self s _ 0 0 useTick rfl
  unfold State.submitChipReset
  rw [State.guardWrite_of_mayWrite (State.mayWrite_ownerMpWd_of_isMp hag) (by decide)]
  simp [State.lockedFor_nil hl, State.unlessLocked_nil hl, Agent.resetSource_of_isMp hag, ← ht, hflag]

/-- An MP core asks for a chip reset at a tick that passes R76: it is armed. -/
theorem State.submitChipReset_armed {cold warm : Bool} (hag : ag.isMp = true) (hl : s.locks = [])
    (htick : s.tick + 2 ≤ s.get .CHP_CTL_TICK) :
    s.submitChipReset ag cold warm true
      = (s.putFlag .CHP_CTL_USE_TICK true).arm (s.get .CHP_CTL_TICK) (.chipReset cold 3) := by
  have hget : (s.putFlag .CHP_CTL_USE_TICK true).get .CHP_CTL_TICK = s.get .CHP_CTL_TICK :=
    State.get_putFlag_field s _ _ 0 0 0 0 true (by decide)
  have hcount : (s.putFlag .CHP_CTL_USE_TICK true).tick = s.tick := State.get_putFlag_field s _ _ 0 0 0 0 true (by decide)
  rw [State.submitChipReset_of_isMp hag hl rfl, if_pos rfl, hget, if_pos (by simp [State.armOk, hcount, htick])]

/-- After a Hold-up's flush, or before start-up is through, a chip reset has no flush to make (R625). -/
theorem State.resetFlush_of_done (h : s.flag .X_READY = false ∨ s.flag .X_FLUSHED = true) : s.resetFlush = s := by
  rcases h with h | h <;> simp [State.resetFlush, h]

/-- A chip reset that is requested, outside a Hold-up flush, stops the media work first where a flush is due (R625). -/
theorem exec_chipReset_of_due (hreq : s.get .X_CHIPRST ≠ 0) (hpow : s.powered = true)
    (hflush : s.mode = mHoldup → s.flag .X_FLUSH = false) :
    exec .chipReset s = if s.flag .X_READY && !s.flag .X_FLUSHED then
        .next (if s.stopMedia.programming then s.stopMedia else s.stopMedia.resetFlush.dropLinks.afterReset)
      else .next s.resetFlush.dropLinks.afterReset := by
  have hgo : ¬(s.get .X_CHIPRST = 0 || !s.powered || (s.mode = mHoldup && s.flag .X_FLUSH)) = true := by simpa [hreq, hpow] using hflush
  rw [exec_chipReset, execChipReset, if_neg hgo]
  cases hdue : s.flag .X_READY && !s.flag .X_FLUSHED with
  | false => rfl
  | true => simp [apply_ite Host.Outcome.next]

/-- Settles O15: a request runs through `State.submitChipReset_of_isMp`; CHIP_RESET is its meaning, branch by branch. -/
theorem chipResetCommands : Obligations.ChipResetCommands := by
  unfold Obligations.ChipResetCommands
  refine ⟨fun s c hag hon hl => ?warm, fun s c w hag hon hl => ?cold, fun s c hag hon hl htick => ?armed,
    fun s hnone => ?none, fun s hreq hpow hflush => ⟨fun hdone => ?unflushed, fun hready hflushed => ?flushed⟩⟩
  case warm => simp [execChipWarmResetRequest, State.atUnit_on hon, State.submitChipReset_of_isMp hag hl rfl]
  case cold => simp [execChipColdResetRequest, State.atUnit_on hon, State.submitChipReset_of_isMp hag hl rfl]
  case armed =>
    simp [execChipWarmResetRequest, execChipColdResetRequest, State.atUnit_on hon, State.submitChipReset_armed hag hl htick]
  case none => simp [execChipReset, hnone]
  case unflushed =>
    have hskip : (s.flag .X_READY && !s.flag .X_FLUSHED) = false := by rcases hdone with h | h <;> simp [h]
    rw [exec_chipReset_of_due hreq hpow hflush, hskip, State.resetFlush_of_done hdone]
    rfl
  case flushed =>
    rw [exec_chipReset_of_due hreq hpow hflush, hready, hflushed]
    rfl

end Sys2Proof.Machine

/-! Protection batches, keys, the time floor and the monitors of the cores (12_content_protection.md, R467, R474, R480; 04, R153; 01, R39;
16, R566). -/

namespace Sys2Proof.Machine

variable {s t : State}

/-! ### Protection batches (R480) -/

/-- The batch is recorded as the agent's latest before its checks run. -/
theorem State.submitBatch_of_mayWrite {ag : Agent} {fence : Bool} {n : Nat} (h : s.mayWrite ag .ownerWd = true)
    (ht : t = ((s.putFlag .SEC_PM_CMD_FENCE fence 0 ag.ix).put .SEC_PM_CMD_COUNT n 0 ag.ix).put .X_PM_SEQ
      (s.get .X_PM_SEQ 0 ag.ix + 1) 0 ag.ix) :
    s.submitBatch ag fence n = match t.batchReason ag.ix n ((List.range n).map (t.staged32 ag.ix)) with
      | some r => t.pmResult ag.ix 4 r 0
      | none => (t.pmResult ag.ix 2 0 0).arm (s.get .SEC_PM_TICK 0 ag.ix)
          (.protection ag.ix ((List.range n).map (t.staged32 ag.ix)) fence (t.get .X_PM_SEQ 0 ag.ix)) := by
  have hpf0 : ¬(ag = .pf0 && !s.isOwner ag) = true := by
    simp only [Bool.and_eq_true, decide_eq_true_eq, Bool.not_eq_true', not_and, Bool.not_eq_false]
    rintro rfl
    exact State.isOwner_of_mayWrite h (by decide) (by decide)
  have hseq : ((s.putFlag .SEC_PM_CMD_FENCE fence 0 ag.ix).put .SEC_PM_CMD_COUNT n 0 ag.ix).get .X_PM_SEQ 0 ag.ix
      = s.get .X_PM_SEQ 0 ag.ix := by simp [State.get_putFlag_field]
  have htick : t.get .SEC_PM_TICK 0 ag.ix = s.get .SEC_PM_TICK 0 ag.ix := by simp [ht, State.get_putFlag_field]
  unfold State.submitBatch
  rw [if_neg hpf0, h]
  simp only [hseq, ← ht]
  cases hr : t.batchReason ag.ix n ((List.range n).map (t.staged32 ag.ix)) with
  | some r => rfl
  | none => simp [State.pmResult, htick]

/-- A core outside the group is refused with reason 1 (R480). -/
theorem State.submitBatch_refused {k : Nat} {fence : Bool} {n : Nat} (h : s.mayWrite (.core k) .ownerWd = false) :
    s.submitBatch (.core k) fence n = s.pmResult (Agent.core k).ix 4 1 0 := by
  simp [State.submitBatch, h]

theorem State.pmResult_state {a x r k : Nat} : (s.pmResult a x r k).get .SEC_PM_RESULT_STATE 0 a = x % 2 ^ 4 := by
  simp [State.pmResult]

/-! ### Keys (R153, R467) -/

/-- A key that is not doomed, or that an outstanding command uses, stays. -/
theorem exec_keyDestruction_stays {n g : Nat}
    (h : (s.keys.any fun k => k.node = n && k.gen = g && k.doomed) = false ∨ s.keyUsed g = true) :
    exec (.keyDestruction n g) s = .next s := by
  simp only [exec_keyDestruction, execKeyDestruction]
  by_cases hdue : (s.keys.any fun k => k.node = n && k.gen = g && k.doomed) = true
  · have hused : s.keyUsed g = true := h.resolve_left (by simp [hdue])
    obtain ⟨k, hk, hkey⟩ := List.any_eq_true.1 hdue
    have hany : (s.keys.any fun k => k.doomed && s.keyUsed k.gen) = true := by
      refine List.any_eq_true.2 ⟨k, hk, ?_⟩
      simp only [Bool.and_eq_true, decide_eq_true_eq] at hkey ⊢
      obtain ⟨⟨_, hgen⟩, hdoomed⟩ := hkey
      exact ⟨hdoomed, hgen ▸ hused⟩
    simp [hany, hused]
  · simp only [hdue, Bool.not_false, Bool.true_or, if_true, ite_self]

/-! ### The time floor (R474) -/

theorem State.setTimeFloor_fits {sec : Nat} (h : sec < 2 ^ 48) :
    (s.setTimeFloor sec).get .SEC_TIME_FLOOR = sec ∧ (s.setTimeFloor sec).get .X_KEEP_FLOOR = sec := by
  have hmod : sec % 2 ^ 48 % 2 ^ 64 = sec := by omega
  simpa [State.setTimeFloor] using hmod

/-! ### The settlement -/

/-- Settles O54: batches run through `State.submitBatch_of_mayWrite`, a kept key through `exec_keyDestruction_stays`; the time floor
and the monitors are their meanings, branch by branch. -/
theorem protectionKeysAndCoreMonitors : Obligations.ProtectionKeysAndCoreMonitors := by
  unfold Obligations.ProtectionKeysAndCoreMonitors
  refine ⟨fun s t ag fence n hn hon hag ht => ⟨?rights, fun r hr => ?refused, fun hr => ?armed⟩, fun s k fence n hon hag => ?denied,
    fun s a x r k => ⟨rfl, rfl, State.pmResult_state⟩, fun s n g hdue hfree hsan => ?destroyed, fun s n g hdue hsan => ?sanitized,
    fun s n g h => exec_keyDestruction_stays h, fun s hup hval hlt hfit => ?raised, fun s h => ?floorStays,
    fun s p hp hpow => ?pair, fun s hpow => ?wardenPair, fun s p hp => if_pos (Or.inl hp),
    fun s k hpow => ⟨fun h => ?fe, fun h h' => ?md, fun h h' => ?mp, fun h h' => ?wd⟩, fun s k h => ?noCore⟩
  case rights => rw [ht]; rfl
  case refused =>
    simp [execProtectionBatchSubmit, State.atUnit_on hon, Nat.mod_eq_of_lt hn, State.submitBatch_of_mayWrite hag ht, hr]
  case armed =>
    simp [execProtectionBatchSubmit, State.atUnit_on hon, Nat.mod_eq_of_lt hn, State.submitBatch_of_mayWrite hag ht, hr]
  case denied => simp [execProtectionBatchSubmit, State.atUnit_on hon, State.submitBatch_refused hag]
  case destroyed =>
    have hcrypto : s.cryptoSanitize = false := by simp [State.cryptoSanitize, hsan]
    have hunused : s.keyUsed g = false := hfree
    simp only [exec_keyDestruction, execKeyDestruction, hcrypto, hdue, hunused]
    rfl
  case sanitized =>
    simp only [exec_keyDestruction, execKeyDestruction, hsan, hdue, apply_ite Host.Outcome.next]
    rfl
  case raised =>
    obtain ⟨hfloor, hkeep⟩ := State.setTimeFloor_fits (s := s) hfit
    refine ⟨s.setTimeFloor s.calSec, by simp [execTimeFloorRaise, hup, hval, hlt], hfloor, hkeep, rfl, ?_⟩
    simp [State.setTimeFloor]
  case floorStays =>
    have hno : ¬(s.wardenUp && s.flag .CAL_STS_VALID && decide (s.get .SEC_TIME_FLOOR < s.calSec)) = true := by
      rcases h with h | h | h <;> simp [h]
    exact congrArg Host.Outcome.next (if_neg hno)
  case pair =>
    simp [execLockstepMismatch, hpow, State.haltPair, show ¬4 < p by omega, show p ≠ 4 by omega]
  case wardenPair => simp [execLockstepMismatch, hpow, State.haltPair]
  case fe => simp [execCoreHang, hpow, h, show ¬64 ≤ k by omega]
  case md => simp [execCoreHang, hpow, h', show ¬64 ≤ k by omega, show ¬k < 8 by omega]
  case mp => simp [execCoreHang, hpow, h', show ¬64 ≤ k by omega, show ¬k < 8 by omega, show ¬k < 56 by omega]
  case wd => simp [execCoreHang, hpow, show ¬64 ≤ k by omega, show ¬k < 8 by omega, show ¬k < 56 by omega, show ¬k < 62 by omega]
  case noCore => exact if_pos (by simpa using h)

end Sys2Proof.Machine

/-! The operating mode is shown by a few fields. What leaves them and the flash alone: the end of commands, the disable of hosts, the stop of the
media and the drop of all commands (13_modes_and_domains.md, R485, R496, R537). -/

namespace Sys2Proof.Machine
variable {s t : State}

/-- A key whose entries a filter keeps reads as before. -/
theorem Sparse.get_filter_kept {α β : Type} [DecidableEq α] {d : α → β} (l : List (α × β)) {p : α × β → Bool} {k : α}
    (h : ∀ v, p (k, v) = true) : Sparse.get d (l.filter p) k = Sparse.get d l k := by
  have hlook : (l.filter p).lookup k = l.lookup k := by
    induction l with
    | nil => rfl
    | cons x l ih =>
      obtain ⟨j, v⟩ := x
      by_cases hj : k = j
      · simp [← hj, h]
      · have hb : (k == j) = false := by simpa using hj
        by_cases hp : p (j, v) = true <;> simp [hp, List.lookup, hb, ih]
  simp only [Sparse.get, hlook]

/-- A key whose entries a filter takes away reads as unlisted. -/
theorem Sparse.get_filter_gone {α β : Type} [DecidableEq α] {d : α → β} (l : List (α × β)) {p : α × β → Bool} {k : α}
    (h : ∀ v, p (k, v) = false) : Sparse.get d (l.filter p) k = d k := by
  have hlook : (l.filter p).lookup k = none := by
    refine List.lookup_eq_none_iff.2 fun x hx => ?_
    obtain ⟨j, v⟩ := x
    have hp : p (j, v) = true := (List.mem_filter.1 hx).2
    simpa using fun e : k = j => by simp [← e, h] at hp
  simp only [Sparse.get, hlook]

/-- The fields that show the operating mode, the latest refusal of an entry, and why Hold-up was entered. -/
@[reducible, simp] def modeFields : List Field :=
  [.PM_MODE_MODE, .PM_MODE_MOVE, .PM_MODE_TARGET, .X_MODE_POWER, .PM_REFUSE_LOG_REASON, .PM_REFUSE_LOG_AP, .X_HU_TRIG]

/-- Those fields, as the stored registers give them. -/
def modeRegs (regs : List (RKey × Nat)) : List (Nat → Nat → Nat) := modeFields.map fun f i a => Sparse.get RKey.reset regs ⟨f, i, a⟩

/-- The operating mode as a state shows it, and what flash holds: ending commands, disabling hosts and stopping the media leave both
alone. -/
def State.modeView (s : State) : List (Nat → Nat → Nat) × List (Nat × Option FUnit) := (modeRegs s.regs, s.flash)

theorem State.get_of_modeView (h : t.modeView = s.modeView) {f : Field} (hf : f ∈ modeFields) (i a : Nat) :
    t.get f i a = s.get f i a := by
  have hall : modeRegs t.regs = modeRegs s.regs := congrArg Prod.fst h
  exact congrFun₂ (List.map_inj_left.1 hall f hf) i a

theorem State.flash_of_modeView (h : t.modeView = s.modeView) : t.flash = s.flash := congrArg Prod.snd h

/-! What a record update shows, in parts: of its registers, and its flash. -/

@[simp] theorem modeRegs_regs : modeRegs s.regs = s.modeView.1 := rfl
@[simp] theorem State.modeView_parts : (s.modeView.1, s.flash) = s.modeView := rfl
theorem State.flash_eq_modeView : s.flash = s.modeView.2 := rfl
@[simp] theorem State.mk_modeView
    {x0 r x2 x3 x4 x5 x6 x7 x8 x9 x10 x11 x12 x13 x14 x15 x16 x17 x18 x19 x20 x21 x22 x23 x24 x25 x26 x27 x28 x29 x30 x31 x32 x33
    fl x35 x36 x37 x38 x39 x40 x41 x42 x43 x44 x45 x46 x47 x48 x49 x50 x51 x52 x53 x54} :
    (State.mk x0 r x2 x3 x4 x5 x6 x7 x8 x9 x10 x11 x12 x13 x14 x15 x16 x17 x18 x19 x20 x21 x22 x23 x24 x25 x26 x27 x28 x29 x30 x31 x32 x33
      fl x35 x36 x37 x38 x39 x40 x41 x42 x43 x44 x45 x46 x47 x48 x49 x50 x51 x52 x53 x54).modeView
      = (modeRegs r, fl) := rfl

@[simp] theorem State.put_modeView {f : Field} {v i a : Nat} (h : f ∉ modeFields) : (s.put f v i a).modeView = s.modeView := by
  have hregs : modeRegs (s.put f v i a).regs = modeRegs s.regs :=
    List.map_congr_left fun g hg => funext₂ fun j b => State.get_put_field s f g v i j a b fun e => h (e ▸ hg)
  exact congrArg (·, s.flash) hregs
@[simp] theorem State.putFlag_modeView {f : Field} {b : Bool} {i a : Nat} (h : f ∉ modeFields) :
    (s.putFlag f b i a).modeView = s.modeView := State.put_modeView h
@[simp] theorem State.add_modeView {f : Field} {n i : Nat} (h : f ∉ modeFields) : (s.add f n i).modeView = s.modeView :=
  State.put_modeView h
@[simp] theorem State.bump_modeView {f : Field} {i : Nat} (h : f ∉ modeFields) : (s.bump f i).modeView = s.modeView :=
  State.put_modeView h
@[simp] theorem State.emit_modeView {o : Out} : (s.emit o).modeView = s.modeView := rfl
@[simp] theorem State.arm_modeView {k : Nat} {a : Act} : (s.arm k a).modeView = s.modeView := by
  unfold State.arm
  exact State.put_modeView (by simp)

theorem forEach_modeView {α : Type} {l : List α} {k : α → State → State} (h : ∀ c u, (k c u).modeView = u.modeView) :
    (forEach l s k).modeView = s.modeView := forEach_same State.modeView h

/-! The operations in the order of the model's files: each leaves the mode alone, since each write it makes is of another field. -/

@[simp] theorem State.sample_modeView {h v} : (s.sample h v).modeView = s.modeView := by
  simp [State.sample, apply_ite State.modeView]

@[simp] theorem State.sampleExt_modeView {x v} : (s.sampleExt x v).modeView = s.modeView := by
  simp [State.sampleExt, apply_ite State.modeView]

@[simp] theorem State.sampleBoth_modeView {h x v} : (s.sampleBoth h x v).modeView = s.modeView := by
  simp [State.sampleBoth, apply_ite State.modeView]

@[simp] theorem State.askXlat_modeView {fn addr len} : (s.askXlat fn addr len).modeView = s.modeView := by
  unfold State.askXlat
  split <;> simp [apply_ite State.modeView]

@[simp] theorem State.touchAts_modeView {fn addr len} : (s.touchAts fn addr len).modeView = s.modeView := by
  unfold State.touchAts
  split <;> simp [apply_ite State.modeView, State.flash_eq_modeView]

@[simp] theorem State.sendTlp_modeView {fn addr len strict data o} : (s.sendTlp fn addr len strict data o).modeView = s.modeView := by
  simp [State.sendTlp]

@[simp] theorem State.flushHolds_modeView {n} : (s.flushHolds n).modeView = s.modeView := by
  induction n generalizing s with
  | zero => rfl
  | succ n ih =>
    unfold State.flushHolds
    split
    · rw [ih]; simp
    · rfl

@[simp] theorem State.endCmd_modeView {id} : (s.endCmd id).modeView = s.modeView := by
  simp [State.endCmd, State.flash_eq_modeView]

@[simp] theorem State.send_modeView {h strict} : (s.send h strict).modeView = s.modeView := by
  simp [State.send, apply_ite State.modeView, State.flash_eq_modeView]

@[simp] theorem State.sendFor_modeView {c strict addr len data o} : (s.sendFor c strict addr len data o).modeView = s.modeView := by
  simp [State.sendFor]

@[simp] theorem State.sendMsix_modeView {fn vector} : (s.sendMsix fn vector).modeView = s.modeView := by
  unfold State.sendMsix
  split_ifs
  · rfl
  · simp
  · split <;> simp

@[simp] theorem State.setCmd_modeView {c} : (s.setCmd c).modeView = s.modeView := by
  simp [State.setCmd, State.flash_eq_modeView]

@[simp] theorem State.logError_modeView {c r} : (s.logError c r).modeView = s.modeView := by
  simp [State.logError, apply_ite State.modeView, State.flash_eq_modeView]

@[simp] theorem State.countHost_modeView {c r} : (s.countHost c r).modeView = s.modeView := by
  simp [State.countHost, apply_ite State.modeView]

@[simp] theorem State.sampleLatency_modeView {c} : (s.sampleLatency c).modeView = s.modeView := by
  simp [State.sampleLatency, apply_ite State.modeView]

@[simp] theorem State.setCq_modeView {q} : (s.setCq q).modeView = s.modeView := by
  simp [State.setCq, State.flash_eq_modeView]

@[simp] theorem State.postCqe_modeView {c r} : (s.postCqe c r).modeView = s.modeView := by
  unfold State.postCqe
  split
  · simp
  split
  · simp
  split
  · simp
  split
  · simp
  · simp [apply_ite State.modeView]

@[simp] theorem State.asyncEvent_modeView {fn type info lid} : (s.asyncEvent fn type info lid).modeView = s.modeView := by
  unfold State.asyncEvent
  split <;> simp [apply_ite State.modeView, State.flash_eq_modeView]

@[simp] theorem State.muteCmds_modeView {sc} : (s.muteCmds sc).modeView = s.modeView := by
  simp [State.muteCmds, State.flash_eq_modeView]

@[simp] theorem State.unpinLine_modeView {node l} : (s.unpinLine node l).modeView = s.modeView := by
  simp [State.unpinLine, State.flash_eq_modeView]

@[simp] theorem State.releasePin_modeView {p} : (s.releasePin p).modeView = s.modeView := by
  refine forEach_modeView fun c u => ?_
  simp

@[simp] theorem State.releaseFnPins_modeView {fn} : (s.releaseFnPins fn).modeView = s.modeView := by
  refine forEach_modeView fun c u => ?_
  simp

@[simp] theorem State.dropAts_modeView {fn} : (s.dropAts fn).modeView = s.modeView := by
  simp [State.dropAts, State.flash_eq_modeView]

@[simp] theorem State.startQueueDisable_modeView {q} : (s.startQueueDisable q).modeView = s.modeView := by
  simp [State.startQueueDisable]

@[simp] theorem State.setSq_modeView {q} : (s.setSq q).modeView = s.modeView := by
  simp [State.setSq, State.flash_eq_modeView]

@[simp] theorem State.disablePoint_modeView {sc kind} : (s.disablePoint sc kind).modeView = s.modeView := by
  have hqueues : ∀ (l : List Nat) (u : State), (forEach l u fun q v => v.startQueueDisable q).modeView = u.modeView :=
    fun l u => forEach_modeView fun q v => State.startQueueDisable_modeView
  cases sc with
  | fn f => simp [State.disablePoint, hqueues, apply_ite State.modeView]
  | controller f => simp [State.disablePoint]
  | queue q => simp [State.disablePoint]
  | sq f q =>
    simp only [State.disablePoint]
    split <;> simp

@[simp] theorem State.drainFn_modeView {fn} : (s.drainFn fn).modeView = s.modeView := by
  refine forEach_modeView fun c u => ?_
  split
  · split <;> simp
  · rfl

@[simp] theorem State.setReq_modeView {w st kind reason} : (s.setReq w st kind reason).modeView = s.modeView := by
  simp [State.setReq]

@[simp] theorem State.markResetting_modeView {w} : (s.markResetting w).modeView = s.modeView := by
  refine forEach_modeView fun c u => ?_
  simp

@[simp] theorem State.disarmUnit_modeView {w} : (s.disarmUnit w).modeView = s.modeView := by
  simp [State.disarmUnit, State.flash_eq_modeView]

@[simp] theorem State.acceptReset_modeView {w imm ut} : (s.acceptReset w imm ut).modeView = s.modeView := by
  simp [State.acceptReset, apply_ite State.modeView]

@[simp] theorem State.countClass_modeView {cls} : (s.countClass cls).modeView = s.modeView := by
  unfold State.countClass
  split <;> simp

@[simp] theorem State.setClassBit_modeView {cls unit} : (s.setClassBit cls unit).modeView = s.modeView := by
  unfold State.setClassBit
  split <;> simp

@[simp] theorem State.wake_modeView {unit reason} : (s.wake unit reason).modeView = s.modeView := by
  simp [State.wake, apply_ite State.modeView]

@[simp] theorem State.nmi_modeView {core} : (s.nmi core).modeView = s.modeView := by
  simp [State.nmi, apply_ite State.modeView]

@[simp] theorem State.refuseAt_modeView {w} : (s.refuseAt w).modeView = s.modeView := by
  simp [State.refuseAt]

@[simp] theorem State.submitReset_modeView {ag w imm ut} : (s.submitReset ag w imm ut).modeView = s.modeView := by
  unfold State.submitReset
  cases s.resetReason ag w ut <;> simp [apply_ite State.modeView]

@[simp] theorem State.shedHosts_modeView : s.shedHosts.modeView = s.modeView := by
  unfold State.shedHosts
  rw [forEach_modeView fun c u => State.disablePoint_modeView]
  simp

@[simp] theorem State.requestChipReset_modeView {cold source} : (s.requestChipReset cold source).modeView = s.modeView := by
  simp [State.requestChipReset, apply_ite State.modeView]

@[simp] theorem State.react_modeView {src unit r} : (s.react src unit r).modeView = s.modeView := by
  simp [State.react, apply_ite State.modeView]

@[simp] theorem State.severe_modeView {src unit} : (s.severe src unit).modeView = s.modeView := by
  simp [State.severe, apply_ite State.modeView]

@[simp] theorem State.plynEvent_modeView : s.plynEvent.modeView = s.modeView := by
  simp [State.plynEvent, apply_ite State.modeView]

@[simp] theorem State.event_modeView {src unit value} : (s.event src unit value).modeView = s.modeView := by
  simp [State.event, apply_ite State.modeView]

@[simp] theorem State.raise_modeView {src unit value} : (s.raise src unit value).modeView = s.modeView := by
  simp [State.raise, apply_ite State.modeView]

@[simp] theorem State.namePin_modeView {c r} : (s.namePin c r).2.modeView = s.modeView := by
  unfold State.namePin
  split <;> rfl

@[simp] theorem State.putOutstanding_modeView {q n} : (s.putOutstanding q n).modeView = s.modeView := by
  simp [State.putOutstanding]

@[simp] theorem State.writeReply_modeView {c r} : (s.writeReply c r).modeView = s.modeView := by
  simp [State.writeReply, apply_ite State.modeView, State.flash_eq_modeView]

@[simp] theorem State.drainStrict_modeView {q n} : (s.drainStrict q n).modeView = s.modeView := by
  induction n generalizing s with
  | zero => rfl
  | succ n ih =>
    unfold State.drainStrict
    split
    · split
      · split
        · rw [ih]; simp
        · rfl
      · rfl
    · rfl

@[simp] theorem State.finish_modeView {c r} : (s.finish c r).modeView = s.modeView := by
  simp [State.finish, apply_ite State.modeView]

@[simp] theorem State.answerPm_modeView : s.answerPm.modeView = s.modeView := forEach_modeView fun _ _ => State.finish_modeView

@[simp] theorem State.descPut_modeView {k l} : (s.descPut k l).modeView = s.modeView := by
  induction l generalizing s k with
  | nil => rfl
  | cons b l ih => unfold State.descPut; rw [ih]; simp

@[simp] theorem State.takeFree_modeView : s.takeFree.2.modeView = s.modeView := State.put_modeView (by simp)

@[simp] theorem State.setPlan_modeView {p} : (s.setPlan p).modeView = s.modeView := by
  simp [State.setPlan, State.flash_eq_modeView]

@[simp] theorem State.countCall_modeView {c ran status} : (s.countCall c ran status).modeView = s.modeView := by
  simp [State.countCall, apply_ite State.modeView]

@[simp] theorem State.takeBack_modeView {d e} : (s.takeBack d e).modeView = s.modeView := by
  simp [State.takeBack]

@[simp] theorem State.endCall_modeView {c ran status detail result} : (s.endCall c ran status detail result).modeView = s.modeView := by
  unfold State.endCall
  extract_lets u1 u2 u3 u4
  have h4 : u4.modeView = s.modeView := by
    simp [u4, u3, u2, u1, apply_ite State.modeView, State.flash_eq_modeView]
  split
  · simp [apply_ite State.modeView, h4]
  · exact h4

@[simp] theorem State.failCall_modeView {c ran status} : (s.failCall c ran status).modeView = s.modeView := by
  simp [State.failCall, apply_ite State.modeView]

@[simp] theorem State.completeCall_modeView {c status detail result} : (s.completeCall c status detail result).modeView = s.modeView := by
  simp [State.completeCall]

@[simp] theorem State.endSuspends_modeView {d detail} : (s.endSuspends d detail).modeView = s.modeView := by
  refine forEach_modeView fun c u => ?_
  simp

@[simp] theorem State.suspendDie_modeView {d counted} : (s.suspendDie d counted).modeView = s.modeView := by
  simp [State.suspendDie, apply_ite State.modeView]

@[simp] theorem State.evictPage_modeView : s.evictPage.modeView = s.modeView := by
  unfold State.evictPage
  split
  · rfl
  · dsimp only
    split <;> rfl

@[simp] theorem State.loadPage_modeView {node p} : (s.loadPage node p).modeView = s.modeView := by
  unfold State.loadPage
  dsimp only
  split <;> simp [State.flash_eq_modeView]

@[simp] theorem State.pagePut_modeView {node g w} : (s.pagePut node g w).modeView = s.modeView := by
  simp [State.pagePut, State.flash_eq_modeView]

@[simp] theorem State.setLine_modeView {x} : (s.setLine x).modeView = s.modeView := by
  simp [State.setLine, State.flash_eq_modeView]

@[simp] theorem State.countMiss_modeView {node p n} : (s.countMiss node p n).modeView = s.modeView := by
  unfold State.countMiss
  split <;> simp

@[simp] theorem State.dropCodes_modeView {vol u n} : (s.dropCodes vol u n).modeView = s.modeView := by
  refine forEach_modeView fun c u => ?_
  simp [State.flash_eq_modeView]

/-- Taking away entries of fields that do not show the mode. -/
theorem State.filter_modeView {p : RKey × Nat → Bool} (h : ∀ x : RKey × Nat, x.1.f ∈ modeFields → p x = true) :
    ({ s with regs := s.regs.filter p } : State).modeView = s.modeView := by
  have hregs : modeRegs (s.regs.filter p) = modeRegs s.regs :=
    List.map_congr_left fun g hg => funext₂ fun j b => Sparse.get_filter_kept _ fun v => h (⟨g, j, b⟩, v) hg
  exact congrArg (·, s.flash) hregs

@[simp] theorem State.clearLevel_modeView {src} : (s.clearLevel src).modeView = s.modeView := by
  unfold State.clearLevel
  rw [State.putFlag_modeView (by simp)]
  refine State.filter_modeView fun x hx => ?_
  have hne : x.1.f ≠ .X_SRC_AT := fun e => by simp [e] at hx
  simp [hne]

@[simp] theorem State.updateJnl_modeView : s.updateJnl.modeView = s.modeView := by
  simp [State.updateJnl, apply_ite State.modeView]

@[simp] theorem State.programJnl_modeView : s.programJnl.modeView = s.modeView := by
  unfold State.programJnl
  extract_lets
  split <;> simp

@[simp] theorem State.journal_modeView {type node a b} : (s.journal type node a b).modeView = s.modeView := by
  simp [State.journal, apply_ite State.modeView, State.flash_eq_modeView]

@[simp] theorem State.serve_modeView {node l} : (s.serve node l).modeView = s.modeView := by
  simp [State.serve, apply_ite State.modeView, State.flash_eq_modeView]

@[simp] theorem State.landLine_modeView {x} : (s.landLine x).modeView = s.modeView := by
  simp [State.landLine, apply_ite State.modeView]

@[simp] theorem State.landFilling_modeView {node l} : (s.landFilling node l).modeView = s.modeView := by
  unfold State.landFilling
  split
  · simp [apply_ite State.modeView]
  · rfl

@[simp] theorem State.mapPut_modeView {node g w} : (s.mapPut node g w).modeView = s.modeView := by
  unfold State.mapPut
  extract_lets old u1 u2
  have h2 : u2.modeView = s.modeView := by
    unfold u2
    split <;> simp [u1, apply_ite State.modeView]
  simp [apply_ite State.modeView, h2]

@[simp] theorem State.setBand_modeView {b} : (s.setBand b).modeView = s.modeView := by
  simp [State.setBand, State.flash_eq_modeView]

@[simp] theorem State.updateGc_modeView : s.updateGc.modeView = s.modeView := by
  simp [State.updateGc, apply_ite State.modeView]

@[simp] theorem State.dirtySub_modeView {n} : (s.dirtySub n).modeView = s.modeView := by
  simp [State.dirtySub]

@[simp] theorem State.releaseAlloc_modeView {c} : (s.releaseAlloc c).modeView = s.modeView := by
  simp [State.releaseAlloc]

@[simp] theorem State.restRecovs_modeView : s.restRecovs.modeView = s.modeView := by
  simp [State.restRecovs, State.flash_eq_modeView]

@[simp] theorem State.allocIn_modeView {b len wseq} : (s.allocIn b len wseq).2.modeView = s.modeView := by
  simp [State.allocIn]

@[simp] theorem State.addBand_modeView {kind mode rot blocks} : (s.addBand kind mode rot blocks).modeView = s.modeView := by
  unfold State.addBand
  extract_lets degraded id wseq b u1 u2 mw u3 u4 u5
  have h2 : u2.modeView = s.modeView := by simp [u2, u1]
  have h3 : u3.modeView = s.modeView := (forEach_modeView fun q u => State.journal_modeView).trans h2
  have h4 : u4.modeView = s.modeView := (forEach_modeView fun m u => State.put_modeView (by simp)).trans h3
  have h5 : u5.modeView = s.modeView := h4
  rw [State.updateGc_modeView]
  split
  · rw [State.bump_modeView (by simp), h5]
  · exact h5

theorem State.storeHost_modeView {kind node g packed units fn key waits entries}
    (h : s.storeHost kind node g packed units fn key waits entries = some t) : t.modeView = s.modeView := by
  unfold State.storeHost at h
  split at h
  · cases h
  · cases h
    rw [forEach_modeView fun e u => State.mapPut_modeView]
    simp [State.flash_eq_modeView]

@[simp] theorem State.storeUnits_modeView {id g units} : (s.storeUnits id g units).modeView = s.modeView := by
  unfold State.storeUnits
  split
  · rfl
  · dsimp only
    split
    · rfl
    next u hu => rw [State.setCmd_modeView, State.storeHost_modeView hu]

@[simp] theorem State.commitWhere_modeView {id sel} : (s.commitWhere id sel).modeView = s.modeView := by
  unfold State.commitWhere
  split
  · rfl
  · refine forEach_modeView fun p u => ?_
    split
    · rfl
    split
    · split <;> simp
    · rfl

@[simp] theorem State.commitReceived_modeView {id} : (s.commitReceived id).modeView = s.modeView := State.commitWhere_modeView

theorem State.openFlushBand_modeView {kind} (h : s.openFlushBand kind = some t) : t.modeView = s.modeView := by
  unfold State.openFlushBand at h
  split at h
  · rw [← Option.some.inj h, State.addBand_modeView]
  · rw [← Option.some.inj h, State.addBand_modeView]
  · cases h

@[simp] theorem State.getD_openFlushBand_modeView {kind} : ((s.openFlushBand kind).getD s).modeView = s.modeView := by
  cases h : s.openFlushBand kind with
  | none => rfl
  | some t => exact State.openFlushBand_modeView h

@[simp] theorem State.dropAllCommands_modeView : s.dropAllCommands.modeView = s.modeView := by
  unfold State.dropAllCommands
  extract_lets u v
  have hv : v.modeView = s.modeView := by
    unfold v
    rw [forEach_modeView fun id x => ?_]
    · simp [u]
    extract_lets x1 x2 x3
    have h1 : x1.modeView = x.modeView := by unfold x1; split <;> simp
    have h3 : x3.modeView = x.modeView := by simp [x3, x2, apply_ite State.modeView, h1]
    split
    · rw [State.releaseAlloc_modeView, h3]
    · exact h3
  exact hv

theorem State.stopMedia_modeView : s.stopMedia.modeView = s.modeView := by
  unfold State.stopMedia
  extract_lets v
  have hv : v.modeView = s.modeView := by
    refine forEach_modeView fun d u => ?_
    extract_lets op x
    have hx : x.modeView = u.modeView := by
      have hcalls : ∀ l : List Call, (forEach l u fun c y => y.failCall c true stDieAbsent).modeView = u.modeView :=
        fun l => forEach_modeView fun c y => State.failCall_modeView
      simp [x, apply_ite State.modeView, hcalls]
    simp [apply_ite State.modeView, hx]
  exact (State.restRecovs_modeView (s := v)).trans hv

end Sys2Proof.Machine

/-! Operations of the mode (13, R37, R490, R491): units that the mode gates, and pending power requests that it refuses. -/

namespace Sys2Proof.Machine

variable {s t : State}

/-! ### The mode after a write -/

@[simp] theorem State.mode_put_self {v : Nat} : (s.put .PM_MODE_MODE v).mode = v % 8 := State.get_put_self s _ v 0 0

@[simp] theorem State.mode_put_field {f : Field} {v i a : Nat} (h : f ≠ .PM_MODE_MODE) : (s.put f v i a).mode = s.mode :=
  State.get_put_field s f _ v i 0 a 0 h.symm

@[simp] theorem State.mode_putFlag_field {f : Field} {b : Bool} {i a : Nat} (h : f ≠ .PM_MODE_MODE) : (s.putFlag f b i a).mode = s.mode :=
  State.mode_put_field h
@[simp] theorem State.mode_bump_field {f : Field} {i : Nat} (h : f ≠ .PM_MODE_MODE) : (s.bump f i).mode = s.mode := State.mode_put_field h

theorem State.mode_of_modeView (h : t.modeView = s.modeView) : t.mode = s.mode := State.get_of_modeView h (by simp) 0 0

/-! ### Units gated by the mode (R490, R491) -/

theorem forEach_get {α : Type} {l : List α} {k : α → State → State} {f : Field} {i a : Nat}
    (h : ∀ c u, (k c u).get f i a = u.get f i a) : (forEach l s k).get f i a = s.get f i a :=
  forEach_same (fun u => u.get f i a) h

@[simp] theorem State.get_gateAll_field {l : List Nat} {p : Nat} {f : Field} {i a : Nat} (h : f ≠ .X_MODE_POWER) :
    (s.gateAll l p).get f i a = s.get f i a := forEach_get fun _ _ => State.get_put_field _ _ _ _ _ _ _ _ h

theorem State.get_gateAll_not_mem {l : List Nat} {p u : Nat} (h : u ∉ l) : (s.gateAll l p).get .X_MODE_POWER u = s.get .X_MODE_POWER u := by
  unfold State.gateAll
  induction l generalizing s with
  | nil => rfl
  | cons w l ih =>
    have hne : u ≠ w := fun e => h (e ▸ List.mem_cons_self)
    rw [forEach_cons, ih fun hm => h (List.mem_cons_of_mem _ hm), State.get_put_ne _ _ _ _ _ _ _ _ fun e => hne e.2.1]

theorem State.get_gateAll_mem {l : List Nat} {p u : Nat} (h : u ∈ l) : (s.gateAll l p).get .X_MODE_POWER u = p % 8 := by
  unfold State.gateAll
  induction l generalizing s with
  | nil => cases h
  | cons w l ih =>
    rw [forEach_cons]
    by_cases hm : u ∈ l
    · exact ih hm
    · have hw : u = w := (List.mem_cons.1 h).resolve_right hm
      subst hw
      exact (State.get_gateAll_not_mem hm).trans (State.get_put_self _ _ _ _ _)

@[simp] theorem State.gateAll_flash {l : List Nat} {p : Nat} : (s.gateAll l p).flash = s.flash := forEach_same State.flash fun _ _ => rfl
@[simp] theorem State.gateAll_cmds {l : List Nat} {p : Nat} : (s.gateAll l p).cmds = s.cmds := forEach_same State.cmds fun _ _ => rfl
@[simp] theorem State.gateAll_out {l : List Nat} {p : Nat} : (s.gateAll l p).out = s.out := forEach_same State.out fun _ _ => rfl

@[simp] theorem State.get_gateIdle_field {f : Field} {i a : Nat} (h : f ≠ .X_MODE_POWER) : s.gateIdle.get f i a = s.get f i a :=
  forEach_get fun c u => by split <;> simp [h]

@[simp] theorem State.gateIdle_flash : s.gateIdle.flash = s.flash := forEach_same State.flash fun c u => by split <;> simp
@[simp] theorem State.gateIdle_cmds : s.gateIdle.cmds = s.cmds := forEach_same State.cmds fun c u => by split <;> simp
@[simp] theorem State.gateIdle_out : s.gateIdle.out = s.out := forEach_same State.out fun c u => by split <;> simp

/-- A field whose entries a filter keeps reads as before. -/
theorem State.get_filter_kept {p : RKey × Nat → Bool} {f : Field} {i a : Nat} (h : ∀ v, p (⟨f, i, a⟩, v) = true) :
    ({ s with regs := s.regs.filter p } : State).get f i a = s.get f i a := Sparse.get_filter_kept s.regs h

/-- A field whose entries a filter takes away reads as after reset. -/
theorem State.get_filter_gone {p : RKey × Nat → Bool} {f : Field} {i a : Nat} (h : ∀ v, p (⟨f, i, a⟩, v) = false) :
    ({ s with regs := s.regs.filter p } : State).get f i a = f.resetAt i := Sparse.get_filter_gone s.regs h

@[simp] theorem State.get_ungate_power {u : Nat} : s.ungate.get .X_MODE_POWER u = 0 := State.get_filter_gone fun v => by simp

@[simp] theorem State.get_ungate_field {f : Field} {i a : Nat} (h : f ≠ .X_MODE_POWER) : s.ungate.get f i a = s.get f i a :=
  State.get_filter_kept fun v => by simpa using h

@[simp] theorem State.ungate_cmds : s.ungate.cmds = s.cmds := rfl
@[simp] theorem State.ungate_out : s.ungate.out = s.out := rfl

/-! ### Pending power requests refused (R37) -/

/-- The fields that the refusal of a power request writes. -/
@[reducible, simp] def refusalFields : List Field :=
  [.UCB_REQ_STS_STATE, .UCB_REQ_STS_KIND, .UCB_REQ_STS_REASON, .UCB_POWER_REQ_GO, .UCB_FAULT_REFUSED, .UCB_CNT2]

/-- The units whose power request is pending. -/
def State.pendingPower (s : State) : List Nat :=
  ((s.regs.filter fun x => x.1.f = .UCB_REQ_STS_STATE && x.2 = 1).map fun x => x.1.i).filter fun w => s.get .UCB_REQ_STS_KIND w = 2

/-- One power request ends REFUSED with reason MODE. -/
def State.refuseMode (s : State) (w : Nat) : State :=
  (((s.disarmUnit w).setReq w 4 2 3).putFlag .UCB_POWER_REQ_GO false w).refuseAt w

theorem State.refusePower_eq : s.refusePower = forEach s.pendingPower s fun w u => u.refuseMode w := rfl

@[simp] theorem State.get_disarmUnit {w : Nat} {f : Field} {i a : Nat} : (s.disarmUnit w).get f i a = s.get f i a := rfl

theorem State.get_refuseMode {w : Nat} {f : Field} {i a : Nat} (h : f ∉ refusalFields) : (s.refuseMode w).get f i a = s.get f i a := by
  simp only [refusalFields, List.mem_cons, List.not_mem_nil, or_false, not_or] at h
  obtain ⟨hst, hkind, hreason, hgo, hfault, hcnt⟩ := h
  simp [State.refuseMode, State.refuseAt, State.setReq, State.putFlag, hst, hkind, hreason, hgo, hfault, hcnt]

@[simp] theorem State.get_refusePower {f : Field} {i a : Nat} (h : f ∉ refusalFields) : s.refusePower.get f i a = s.get f i a :=
  forEach_get fun _ _ => State.get_refuseMode h

theorem State.refuseMode_cmds {w : Nat} : (s.refuseMode w).cmds = s.cmds := by
  simp [State.refuseMode, State.refuseAt, State.setReq, State.disarmUnit]
theorem State.refuseMode_out {w : Nat} : (s.refuseMode w).out = s.out := by
  simp [State.refuseMode, State.refuseAt, State.setReq, State.disarmUnit]
@[simp] theorem State.refusePower_cmds : s.refusePower.cmds = s.cmds := by
  rw [State.refusePower_eq, forEach_same State.cmds fun w u => State.refuseMode_cmds]
@[simp] theorem State.refusePower_out : s.refusePower.out = s.out := by
  rw [State.refusePower_eq, forEach_same State.out fun w u => State.refuseMode_out]
@[simp] theorem State.refusePower_mode : s.refusePower.mode = s.mode := State.get_refusePower (by simp)

/-! ### Whether a power request runs, as other fields are stored -/

section
variable {α β : Type} [DecidableEq α] [DecidableEq β] {lt : α → α → Bool} {d : α → β} {l : List (α × β)} {k : α} {v : β}

/-- An entry of another key is listed after a write as before. -/
theorem Sparse.mem_set_ne {x : α × β} (h : x.1 ≠ k) : x ∈ Sparse.set lt d l k v ↔ x ∈ l := by
  have hx : x ≠ (k, v) := fun e => h (congrArg Prod.fst e)
  unfold Sparse.set
  dsimp only
  split <;> simp [Sparse.mem_ins, hx, h]

/-- The entry of the key just written is the one written, unless it is what an unlisted key reads as. -/
theorem Sparse.mem_set_self {x : α × β} (h : x.1 = k) : x ∈ Sparse.set lt d l k v ↔ x = (k, v) ∧ v ≠ d k := by
  unfold Sparse.set
  dsimp only
  split <;> simp [Sparse.mem_ins, *]

/-- Entries that a write does not concern are listed in the same order. -/
theorem Sparse.filter_set {p : α × β → Bool} (h : ∀ w, p (k, w) = false) : (Sparse.set lt d l k v).filter p = l.filter p := by
  have hrest : (l.filter fun x => x.1 ≠ k).filter p = l.filter p := by
    rw [List.filter_filter]
    refine List.filter_congr fun x _ => ?_
    by_cases hx : x.1 = k
    · have hp : p x = false := by obtain ⟨j, w⟩ := x; exact (show j = k from hx) ▸ h w
      simp [hp]
    · simp [hx]
  have hins : ∀ m : List (α × β), (Sparse.ins lt k v m).filter p = m.filter p := by
    intro m
    induction m with
    | nil => simp [Sparse.ins, h]
    | cons x m ih =>
      unfold Sparse.ins
      split
      · rw [List.filter_cons_of_neg (by simp [h])]
      · simp only [List.filter_cons, ih]
  unfold Sparse.set
  dsimp only
  split
  · exact hrest
  · rw [hins, hrest]

end

/-- Two states list the same requests of units, and of the same kinds. -/
structure SameRequests (s t : State) : Prop where
  listed : ∀ x : RKey × Nat, x.1.f = .UCB_REQ_STS_STATE → (x ∈ t.regs ↔ x ∈ s.regs)
  kind : ∀ w, t.get .UCB_REQ_STS_KIND w = s.get .UCB_REQ_STS_KIND w

theorem SameRequests.refl : SameRequests s s := ⟨fun _ _ => Iff.rfl, fun _ => rfl⟩

/-- Storing any other field, whatever its value, keeps two states the same in this. -/
theorem SameRequests.put_field {f : Field} {v v' i a : Nat} (h : SameRequests s t) (hf : f ∉ [.UCB_REQ_STS_STATE, .UCB_REQ_STS_KIND]) :
    SameRequests (s.put f v i a) (t.put f v' i a) := by
  simp only [List.mem_cons, List.not_mem_nil, or_false, not_or] at hf
  obtain ⟨hst, hkind⟩ := hf
  refine ⟨fun x hx => ?_, fun w => ?_⟩
  · have hne : x.1 ≠ ⟨f, i, a⟩ := fun e => hst (by rw [← hx, e])
    exact (Sparse.mem_set_ne hne).trans ((h.listed x hx).trans (Sparse.mem_set_ne hne).symm)
  · rw [State.get_put_field _ _ _ _ _ _ _ _ (Ne.symm hkind), State.get_put_field _ _ _ _ _ _ _ _ (Ne.symm hkind), h.kind]

/-- So does storing the same value in both. -/
theorem SameRequests.put_both {f : Field} {v i a : Nat} (h : SameRequests s t) : SameRequests (s.put f v i a) (t.put f v i a) := by
  refine ⟨fun x hx => ?_, fun w => ?_⟩
  · by_cases hk : x.1 = ⟨f, i, a⟩
    · exact (Sparse.mem_set_self hk).trans (Sparse.mem_set_self hk).symm
    · exact (Sparse.mem_set_ne hk).trans ((h.listed x hx).trans (Sparse.mem_set_ne hk).symm)
  · by_cases hk : Field.UCB_REQ_STS_KIND = f ∧ w = i ∧ 0 = a
    · obtain ⟨rfl, rfl, rfl⟩ := hk
      simp
    · rw [State.get_put_ne _ _ _ _ _ _ _ _ hk, State.get_put_ne _ _ _ _ _ _ _ _ hk, h.kind]

theorem SameRequests.refuseMode {w : Nat} (h : SameRequests s t) : SameRequests (s.refuseMode w) (t.refuseMode w) := by
  have hd : SameRequests (s.disarmUnit w) (t.disarmUnit w) := ⟨h.listed, h.kind⟩
  exact ((hd.put_both.put_both.put_both).put_both.put_both).put_field (by simp)

theorem SameRequests.powerRunning (h : SameRequests s t) : t.powerRunning = s.powerRunning := by
  rw [Bool.eq_iff_iff]
  simp only [State.powerRunning, List.any_eq_true, Bool.and_eq_true, decide_eq_true_eq]
  refine exists_congr fun x => ?_
  rw [h.kind]
  exact ⟨fun ⟨hx, hreq⟩ => ⟨(h.listed x hreq.1.1).1 hx, hreq⟩, fun ⟨hx, hreq⟩ => ⟨(h.listed x hreq.1.1).2 hx, hreq⟩⟩

theorem SameRequests.forEach {l : List Nat} (h : SameRequests s t) :
    SameRequests (forEach l s fun w u => u.refuseMode w) (forEach l t fun w u => u.refuseMode w) := by
  induction l generalizing s t with
  | nil => exact h
  | cons w l ih =>
    rw [forEach_cons, forEach_cons]
    exact ih h.refuseMode

theorem State.pendingPower_put {f : Field} {v i a : Nat} (hf : f ∉ [.UCB_REQ_STS_STATE, .UCB_REQ_STS_KIND]) :
    (s.put f v i a).pendingPower = s.pendingPower := by
  simp only [List.mem_cons, List.not_mem_nil, or_false, not_or] at hf
  obtain ⟨hst, hkind⟩ := hf
  have hlist : (s.put f v i a).regs.filter (fun x => x.1.f = .UCB_REQ_STS_STATE && x.2 = 1)
      = s.regs.filter fun x => x.1.f = .UCB_REQ_STS_STATE && x.2 = 1 := Sparse.filter_set fun w => by simp [hst]
  simp only [State.pendingPower, hlist, State.get_put_field _ _ _ _ _ _ _ _ (Ne.symm hkind)]

/-- Storing another field leaves it alone whether a power request is RUNNING once the pending ones are refused. -/
@[simp] theorem State.powerRunning_refusePower_put {f : Field} {v i a : Nat} (hf : f ∉ [.UCB_REQ_STS_STATE, .UCB_REQ_STS_KIND]) :
    (s.put f v i a).refusePower.powerRunning = s.refusePower.powerRunning := by
  have hput : SameRequests s (s.put f v i a) := by
    simp only [List.mem_cons, List.not_mem_nil, or_false, not_or] at hf
    obtain ⟨hst, hkind⟩ := hf
    exact ⟨fun x hx => Sparse.mem_set_ne fun e => hst (by rw [← hx, e]), fun w => State.get_put_field _ _ _ _ _ _ _ _ (Ne.symm hkind)⟩
  rw [State.refusePower_eq, State.refusePower_eq, State.pendingPower_put hf]
  exact hput.forEach.powerRunning

end Sys2Proof.Machine

/-! Entering and leaving Ready and Retain, and Throttle (13, R488, R491 to R505). -/

namespace Sys2Proof.Machine

variable {s t : State}

theorem State.get_ite {c : Prop} [Decidable c] {f : Field} {i a : Nat} :
    (if c then s else t).get f i a = if c then s.get f i a else t.get f i a := apply_ite (fun u : State => u.get f i a) c s t

@[simp] theorem State.get_answerPm {f : Field} {i a : Nat} (h : f ∈ modeFields) : s.answerPm.get f i a = s.get f i a :=
  State.get_of_modeView State.answerPm_modeView h i a

@[simp] theorem State.answerPm_mode : s.answerPm.mode = s.mode := State.mode_of_modeView State.answerPm_modeView
@[simp] theorem State.answerPm_flash : s.answerPm.flash = s.flash := State.flash_of_modeView State.answerPm_modeView
@[simp] theorem State.gateAll_mode {l : List Nat} {p : Nat} : (s.gateAll l p).mode = s.mode := State.get_gateAll_field (by simp)
@[simp] theorem State.gateIdle_mode : s.gateIdle.mode = s.mode := State.get_gateIdle_field (by simp)
@[simp] theorem State.ungate_mode : s.ungate.mode = s.mode := State.get_ungate_field (by simp)

/-! ### Domains in Retain (R491) -/

theorem exec_domainWake_retain {w : Nat} (h : s.mode = mRetain) : exec (.domainWake w) s = .next (s.gateAll (s.domainOf w) 0) :=
  congrArg Host.Outcome.next (if_pos h)

theorem exec_domainRegate_retain {w : Nat} (h : s.mode = mRetain) (hmove : s.get .PM_MODE_MOVE = 0) :
    exec (.domainRegate w) s = .next (s.gateAll (s.domainOf w) 2) :=
  congrArg Host.Outcome.next (if_pos (by simp [h, hmove]))

/-! ### Entry into Ready and Retain (R493 to R496) -/

/-- What a refusal or an end of an entry leaves in the log (R496). -/
theorem State.logRefusal_reason {unit reason ap : Nat} {aborted : Bool} :
    (s.logRefusal unit reason ap aborted).get .PM_REFUSE_LOG_REASON (s.get .PM_LOG_STS_NEXT) = reason % 256 := by
  cases aborted <;> simp [State.logRefusal, State.putFlag, State.get_ite]

theorem State.logRefusal_ap {unit reason ap : Nat} {aborted : Bool} :
    (s.logRefusal unit reason ap aborted).get .PM_REFUSE_LOG_AP (s.get .PM_LOG_STS_NEXT) = ap % 16 := by
  cases aborted <;> simp [State.logRefusal, State.putFlag, State.get_ite]

/-- The fields that log an entry which was refused or abandoned. -/
@[reducible, simp] def logFields : List Field :=
  [.PM_REFUSE_LOG_UNIT, .PM_REFUSE_LOG_TYPE, .PM_REFUSE_LOG_REASON, .PM_REFUSE_LOG_AP, .PM_REFUSE_LOG_ABORTED, .PM_REFUSE_LOG_TARGET,
    .PM_REFUSE_LOG_FROM, .PM_REFUSE_LOG_VALID, .PM_REFUSE_LOG_TICK, .PM_LOG_STS_NEXT, .PM_LOG_STS_WRAPPED, .PM_CNT_ABORTED, .PM_CNT_REFUSED]

@[simp] theorem State.get_logRefusal {unit reason ap : Nat} {aborted : Bool} {f : Field} {i a : Nat} (h : f ∉ logFields) :
    (s.logRefusal unit reason ap aborted).get f i a = s.get f i a := by
  simp only [logFields, List.mem_cons, List.not_mem_nil, or_false, not_or] at h
  cases aborted <;> simp [State.logRefusal, State.putFlag, State.get_ite, h]

@[simp] theorem State.logRefusal_flash {unit reason ap : Nat} {aborted : Bool} : (s.logRefusal unit reason ap aborted).flash = s.flash := by
  simp [State.logRefusal, apply_ite State.flash]

@[simp] theorem State.logRefusal_mode {unit reason ap : Nat} {aborted : Bool} : (s.logRefusal unit reason ap aborted).mode = s.mode :=
  State.get_logRefusal (by simp)

section
variable {u : State} (hmove : s.get .PM_MODE_MOVE = 0) (hidle : s.flag .X_IDLE = true) (hquiet : s.quieter = true)
  (hmode : s.mode = mRun ∨ s.mode = mThrottle) (hu : u = (s.put .X_PM_FROM s.mode).put .PM_MODE_TARGET s.demand)
include hmove hidle hquiet hmode hu

omit hu in
theorem modeEntry_due : ¬(s.get .PM_MODE_MOVE ≠ 0 || !s.flag .X_IDLE || !s.quieter
    || !(s.mode = mReady || s.mode = mRun || s.mode = mThrottle) || (s.mode = mReady && s.get .X_WAKE ≠ 0)) = true := by
  have hready : s.mode ≠ mReady := by rcases hmode with hm | hm <;> simp [hm, mRun, mThrottle, mReady]
  simpa [hmove, hidle, hquiet, hready] using or_iff_not_imp_left.1 hmode

/-- An entry from Run or Throttle that a condition of R495 refuses. -/
theorem exec_modeEntry_refused {x r : Nat} (h : u.entryRefusal s.demand = some (x, r)) :
    exec .modeEntry s = .next (((u.logRefusal x r 1 false).put .PM_MODE_TARGET s.mode).answerPm) := by
  rw [exec_modeEntry, execModeEntry, if_neg (modeEntry_due hmove hidle hquiet hmode)]
  simp only [← hu, h]

/-- An entry from Run or Throttle that no condition refuses goes on to its AP2 check. -/
theorem exec_modeEntry_accepted {v : State} (h : u.entryRefusal s.demand = none)
    (hv : v = (((u.refusePower.put .PM_MODE_MOVE 1).put .X_WAKE 0).put .X_PM_AP 1).withdrawLead) :
    exec .modeEntry s = .next (if v.ap2Due then v.passAp2 else v) := by
  rw [exec_modeEntry, execModeEntry, if_neg (modeEntry_due hmove hidle hquiet hmode)]
  simp only [← hu, h, ← hv]

end

/-! ### The media come to rest (R493, R494) -/

section
variable (hquiet : ∀ d ∈ s.dies, s.get .X_DIE_OP d = 0) (hready : s.mode = mReady) (hmove : s.get .PM_MODE_MOVE = 1)
  (htarget : s.get .PM_MODE_TARGET = mRetain)
include hquiet hready hmove htarget

/-- In Ready on the way into Retain, AP3 completes the entry or abandons it for a wake event. -/
theorem exec_mediaQuiet_retain : exec .mediaQuiet s = .next (if s.get .X_WAKE ≠ 0 then
        if (s.gateIdle.abandonEntry 3).mode = mReady then (s.gateIdle.abandonEntry 3).gateIdle else s.gateIdle.abandonEntry 3
      else (s.gateIdle.gateAll ([uChip, uFront, uMap, uWarden] ++ (List.range 8).flatMap fun c => s.gateIdle.subtree (uCluster c)) 2).completeEntry
        mRetain) := by
  have hrest : ¬(s.dies.any fun d => s.get .X_DIE_OP d ≠ 0) = true := by simpa using hquiet
  have hap2 : s.ap2Due = false := by simp [State.ap2Due, hready, mReady, mRun]
  rw [exec_mediaQuiet, execMediaQuiet, if_neg hrest]
  simp [hap2, hready, hmove, htarget, apply_ite Host.Outcome.next]

end

theorem State.completeEntry_reached {m : Nat} : (s.completeEntry m).mode = m % 8 ∧ (s.completeEntry m).get .PM_MODE_MOVE = 0
    ∧ (∀ u, (s.completeEntry m).get .X_MODE_POWER u = s.get .X_MODE_POWER u) ∧ (s.completeEntry m).flash = s.flash := by
  simp [State.completeEntry]

/-! ### Leaving Ready and Retain (R37, R499 to R501) -/

theorem State.leaveFor_reached {m : Nat} : (s.leaveFor m).mode = m % 8 ∧ (s.leaveFor m).get .X_WAKE = 0 ∧ (s.leaveFor m).flag .X_IDLE = false
    ∧ (m ≠ mReady → ∀ u, (s.leaveFor m).get .X_MODE_POWER u = 0) ∧ (s.leaveFor m).cmds = s.cmds ∧ (s.leaveFor m).out = s.out := by
  by_cases h : m = mReady <;> simp [State.leaveFor, h, State.flag, State.putFlag]

theorem State.startExit_begun {m : Nat} : (s.startExit m).mode = s.mode ∧ (s.startExit m).get .PM_MODE_MOVE = 2
    ∧ (s.startExit m).get .PM_MODE_TARGET = m % 8 ∧ (s.startExit m).get .X_WAKE = 0 ∧ (∀ u, (s.startExit m).get .X_MODE_POWER u = 0)
    ∧ (s.startExit m).cmds = s.cmds ∧ (s.startExit m).out = s.out := by
  simp [State.startExit]

/-- A wake event or a higher demand in Ready or Retain: pending power requests are refused, and one that is RUNNING is waited for. -/
theorem exec_modeExit_due (hmode : s.mode = mReady ∨ s.mode = mRetain) (hmove : s.get .PM_MODE_MOVE = 0)
    (hwhy : s.get .X_WAKE ≠ 0 ∨ s.mode < s.demand) :
    exec .modeExit s = .next (if s.refusePower.powerRunning then s.refusePower
      else if s.mode = mRetain then s.refusePower.startExit s.exitTarget else s.refusePower.leaveFor s.exitTarget) := by
  have hgo : ((s.mode = mReady || s.mode = mRetain) && s.get .PM_MODE_MOVE = 0
      && (s.get .X_WAKE ≠ 0 || decide (s.mode < s.demand))) = true := by simp [hmode, hmove, hwhy]
  exact if_pos hgo

theorem State.finishExit_retain (hmode : s.mode = mRetain) (hmove : s.get .PM_MODE_MOVE = 2) :
    s.finishExit = (if s.get .PM_MODE_TARGET = mReady then
        ((s.leaveFor (s.get .PM_MODE_TARGET)).put .PM_MODE_MOVE 0).put .X_WAKE (s.get .X_WAKE)
      else (s.leaveFor (s.get .PM_MODE_TARGET)).put .PM_MODE_MOVE 0) := by
  have hgo : s.mode = mRetain ∧ s.get .PM_MODE_MOVE = 2 := ⟨hmode, hmove⟩
  exact if_pos (by simpa using hgo)

/-! ### Throttle (R503 to R505) -/

@[simp] theorem State.get_publishBudgets {f : Field} {i a : Nat} (h : f ∉ [.X_CUTOFF_EFF, .TK_BUDGET_EFF0, .TK_BUDGET_EFF1]) :
    s.publishBudgets.get f i a = s.get f i a := by
  simp only [List.mem_cons, List.not_mem_nil, or_false, not_or] at h
  simp [State.publishBudgets, h]

@[simp] theorem State.publishBudgets_mode : s.publishBudgets.mode = s.mode := State.get_publishBudgets (by simp)
@[simp] theorem State.publishBudgets_cmds : s.publishBudgets.cmds = s.cmds := by
  unfold State.publishBudgets
  extract_lets
  rw [State.put_cmds, State.put_cmds, State.put_cmds]
@[simp] theorem State.publishBudgets_out : s.publishBudgets.out = s.out := by
  unfold State.publishBudgets
  extract_lets
  rw [State.put_out, State.put_out, State.put_out]

/-- Run and Throttle change into each other once no power request runs. -/
theorem State.scaleTo_mode {m : Nat} : (s.scaleTo m).mode = if s.refusePower.powerRunning then s.mode else m % 8 := by
  by_cases hrun : s.refusePower.powerRunning = true <;> simp [State.scaleTo, hrun, apply_ite State.mode]

theorem State.get_scaleTo {m : Nat} {f : Field} {i a : Nat} (h : f ∉ refusalFields) (hf : f ≠ .PM_MODE_MODE) (hf' : f ≠ .PM_MODE_TARGET) :
    (s.scaleTo m).get f i a = s.get f i a := by
  simp [State.scaleTo, State.get_ite, State.get_refusePower h, hf, hf']

theorem State.scaleTo_cmds {m : Nat} : (s.scaleTo m).cmds = s.cmds := by simp [State.scaleTo, apply_ite State.cmds]
theorem State.scaleTo_out {m : Nat} : (s.scaleTo m).out = s.out := by simp [State.scaleTo, apply_ite State.out]

/-- Run and Throttle as the scale asks for them. -/
def State.followScale (s : State) (m : Nat) : State :=
  if s.mode = mRun && decide (m < 256) then s.scaleTo mThrottle else if s.mode = mThrottle && m = 256 then s.scaleTo mRun else s

theorem exec_scaleChange_powered {m : Nat} (hpow : s.powered = true) (hm : m = min (s.get .PM_THR_STS_S_T) s.powerScale) :
    exec .scaleChange s = .next ((((s.put .PM_THR_STS_S_P s.powerScale).put .PM_THR_STS_S m).followScale m).publishBudgets) := by
  have hgo : ¬(!s.powered) = true := by simp [hpow]
  subst hm
  exact if_neg hgo

theorem State.followScale_mode {m : Nat} : (s.followScale m).mode = if s.refusePower.powerRunning = true then s.mode
    else if s.mode = mRun ∧ m < 256 then mThrottle else if s.mode = mThrottle ∧ m = 256 then mRun else s.mode := by
  by_cases hdown : s.mode = mRun ∧ m < 256
  · simp [State.followScale, hdown, State.scaleTo_mode, mRun, mThrottle]
  by_cases hup : s.mode = mThrottle ∧ m = 256
  · simp [State.followScale, hup, State.scaleTo_mode, mRun, mThrottle]
  · simp [State.followScale, hdown, hup]

theorem State.followScale_same {m : Nat} : (s.followScale m).cmds = s.cmds ∧ (s.followScale m).out = s.out
    ∧ (s.followScale m).get .PM_THR_STS_S = s.get .PM_THR_STS_S ∧ (s.followScale m).get .PM_THR_STS_S_P = s.get .PM_THR_STS_S_P := by
  unfold State.followScale
  split_ifs <;> simp [State.scaleTo_cmds, State.scaleTo_out, State.get_scaleTo]

/-! ### PM_CMD (R489, R509) -/

@[simp] theorem State.any_put {f : Field} {v i a : Nat} {p : RKey × Nat → Bool} (h : ∀ w, p (⟨f, i, a⟩, w) = false) :
    (s.put f v i a).regs.any p = s.regs.any p := by
  have hf : (s.put f v i a).regs.filter p = s.regs.filter p := Sparse.filter_set h
  have hany : ∀ l : List (RKey × Nat), l.any p = (l.filter p).any p := fun l => by simp [List.any_filter]
  rw [hany, hf, ← hany]

end Sys2Proof.Machine

/-! PM_CMD, the entry into Hold-up, the supplies below Retain and a patrol sample (13, R488, R489, R507 to R513; 18, R611). -/

namespace Sys2Proof.Machine

variable {s t : State}

theorem State.powerState_put {f : Field} {v i a : Nat} (h : f ∉ [.X_CC, .X_FEAT_PS]) : (s.put f v i a).powerState = s.powerState := by
  simp only [List.mem_cons, List.not_mem_nil, or_false, not_or] at h
  obtain ⟨hcc, hps⟩ := h
  simp only [State.powerState, State.get_put_field _ _ _ _ _ _ _ _ (Ne.symm hcc), State.get_put_field _ _ _ _ _ _ _ _ (Ne.symm hps)]

/-- Storing another field leaves it alone whether hosts are active. -/
@[simp] theorem State.hostsActive_put {f : Field} {v i a : Nat} (h : f ∉ [.X_CC, .X_FEAT_PS, .JQ_QSTS_STATE]) :
    (s.put f v i a).hostsActive = s.hostsActive := by
  simp only [List.mem_cons, List.not_mem_nil, or_false, not_or] at h
  obtain ⟨hcc, hps, hq⟩ := h
  unfold State.hostsActive
  rw [State.powerState_put (by simp [hcc, hps]), State.any_put fun w => by simp [hq]]

/-- A command of PM_CMD written to an agent's registers, before its checks. -/
def State.pmWritten (s : State) (a op arg : Nat) : State :=
  ((s.put .PM_CMD_OP op 0 a).put .PM_CMD_ARG arg 0 a).putFlag .PM_CMD_USE_TICK false 0 a

section
variable {ag : Agent} {op arg : Nat} (hag : s.mayWrite ag .ownerMpWd = true)
include hag

theorem State.submitPm_refused {r : Nat} (h : (s.pmWritten ag.ix op arg).pmReason ag.ix op arg false = some r) :
    s.submitPm ag op arg false = (s.pmWritten ag.ix op arg).pmSts ag.ix 4 r := by
  unfold State.submitPm
  rw [State.guardWrite_of_mayWrite hag (by decide)]
  unfold State.pmWritten at h ⊢
  simp only [h]

theorem State.submitPm_taken (h : (s.pmWritten ag.ix op arg).pmReason ag.ix op arg false = none) :
    s.submitPm ag op arg false = (s.pmWritten ag.ix op arg).pmEffect ag.ix op arg := by
  unfold State.submitPm
  rw [State.guardWrite_of_mayWrite hag (by decide)]
  unfold State.pmWritten at h ⊢
  simp only [h]
  rfl

end

@[simp] theorem State.pmWritten_mode {a op arg : Nat} : (s.pmWritten a op arg).mode = s.mode := by simp [State.pmWritten]

theorem State.get_pmWritten {a op arg : Nat} {f : Field} {i b : Nat} (h : f ∉ [.PM_CMD_OP, .PM_CMD_ARG, .PM_CMD_USE_TICK]) :
    (s.pmWritten a op arg).get f i b = s.get f i b := by
  simp only [List.mem_cons, List.not_mem_nil, or_false, not_or] at h
  simp [State.pmWritten, State.putFlag, h]

theorem State.pmWritten_hostsActive {a op arg : Nat} : (s.pmWritten a op arg).hostsActive = s.hostsActive := by
  simp [State.pmWritten, State.putFlag]

theorem State.pmWritten_powerRunning {a op arg : Nat} : (s.pmWritten a op arg).refusePower.powerRunning = s.refusePower.powerRunning := by
  simp [State.pmWritten, State.putFlag]

/-- What PM_CMD_STS shows, and that nothing else changes. -/
theorem State.pmSts_shows {a st reason : Nat} : (s.pmSts a st reason).get .PM_CMD_STS_STATE 0 a = st % 16
    ∧ (s.pmSts a st reason).get .PM_CMD_STS_REASON 0 a = reason % 256 ∧ (s.pmSts a st reason).mode = s.mode := by
  simp [State.pmSts]

@[simp] theorem State.get_pmSts {a st reason : Nat} {f : Field} {i b : Nat} (h : f ≠ .PM_CMD_STS_STATE) (h' : f ≠ .PM_CMD_STS_REASON) :
    (s.pmSts a st reason).get f i b = s.get f i b := by
  simp [State.pmSts, h, h']

/-- The checks of a SET_FLOOR without a tick (R489). -/
theorem State.pmReason_setFloor {a arg : Nat} (hgo : s.flag .PM_CMD_GO 0 a = false) :
    s.pmReason a pmSetFloor arg false = if 3 ≤ arg ∧ arg ≤ 5 then none else some 2 := by
  by_cases harg : 3 ≤ arg ∧ arg ≤ 5 <;> simp [State.pmReason, pmSetFloor, pmShutdown, hgo, harg]

/-- The checks of a SHUTDOWN without a tick in Ready, Run or Throttle (R509). -/
theorem State.pmReason_shutdown {a : Nat} (hgo : s.flag .PM_CMD_GO 0 a = false) (hmode : s.mode = mReady ∨ s.mode = mRun ∨ s.mode = mThrottle) :
    s.pmReason a pmShutdown 0 false = if s.hostsActive then some 5 else none := by
  rcases hmode with hm | hm | hm <;> simp [State.pmReason, pmSetFloor, pmShutdown, hgo, hm]

/-- A SHUTDOWN that nothing holds back takes effect (R509). -/
theorem State.pmEffect_shutdown {a arg : Nat} (hhosts : s.hostsActive = false) (hrun : s.refusePower.powerRunning = false) :
    s.pmEffect a pmShutdown arg = ((s.refusePower.putFlag .PM_CMD_GO false 0 a).pmSts a 3 0).enterHoldup 4 := by
  unfold State.pmEffect
  rw [if_neg (by decide), if_neg (by simp [hhosts])]
  exact if_neg (by simp [hrun])

@[simp] theorem State.get_wake {unit reason : Nat} {f : Field} {i a : Nat} (h : f ≠ .X_WAKE) : (s.wake unit reason).get f i a = s.get f i a := by
  simp [State.wake, State.get_ite, h]

@[simp] theorem State.get_noteDemand {f : Field} {i a : Nat} (h : f ≠ .X_WAKE) : (s.noteDemand t).get f i a = s.get f i a := by
  simp [State.noteDemand, State.get_ite, h]

@[simp] theorem State.noteDemand_mode : (s.noteDemand t).mode = s.mode := State.get_noteDemand (by simp)

section
variable {c : Nat} (hon : s.unitPower uChip = 0) (hag : s.mayWrite (.core c) .ownerMpWd = true) (hgo : s.flag .PM_CMD_GO 0 c = false)
include hon hag hgo

omit hon hag in
theorem State.pmWritten_go {op arg : Nat} : (s.pmWritten c op arg).flag .PM_CMD_GO 0 c = false := by
  simpa [State.flag, State.get_pmWritten] using hgo

/-- SET_FLOOR 3 to 5 is taken. -/
theorem exec_setFloor_taken {arg : Nat} (h3 : 3 ≤ arg) (h5 : arg ≤ 5) : ∃ t : State, exec (.setFloor (.core c) arg false) s = .next t
    ∧ t.get .PM_CTL_FLOOR = arg ∧ t.get .PM_CMD_STS_STATE 0 c = 3 ∧ t.get .PM_CMD_STS_REASON 0 c = 0 ∧ t.mode = s.mode := by
  have h8 : arg % 8 = arg := by omega
  have hnone : (s.pmWritten c pmSetFloor arg).pmReason c pmSetFloor arg false = none := by
    rw [State.pmReason_setFloor (State.pmWritten_go hgo), if_pos ⟨h3, h5⟩]
  refine ⟨(s.pmWritten c pmSetFloor arg).pmEffect c pmSetFloor arg, ?_, ?_⟩
  · rw [exec_setFloor, execSetFloor, State.atUnit_on hon, h8, State.submitPm_taken hag hnone]
    rfl
  · rw [State.pmEffect, if_pos rfl]
    obtain ⟨hst, hreason, hm⟩ := State.pmSts_shows (a := c) (st := 3) (reason := 0)
      (s := (((s.pmWritten c pmSetFloor arg).putFlag .PM_CMD_GO false 0 c).put .PM_CTL_FLOOR arg).noteDemand
        ((s.pmWritten c pmSetFloor arg).putFlag .PM_CMD_GO false 0 c))
    refine ⟨by simp [h8], hst, hreason, ?_⟩
    rw [hm]
    simp

/-- SET_FLOOR with another value ends with reason 2. -/
theorem exec_setFloor_refused {arg : Nat} (h : arg < 3) : ∃ t : State, exec (.setFloor (.core c) arg false) s = .next t
    ∧ t.get .PM_CTL_FLOOR = s.get .PM_CTL_FLOOR ∧ t.get .PM_CMD_STS_STATE 0 c = 4 ∧ t.get .PM_CMD_STS_REASON 0 c = 2 ∧ t.mode = s.mode := by
  have h8 : arg % 8 = arg := by omega
  have hsome : (s.pmWritten c pmSetFloor arg).pmReason c pmSetFloor arg false = some 2 := by
    rw [State.pmReason_setFloor (State.pmWritten_go hgo), if_neg (by omega)]
  obtain ⟨hst, hreason, hm⟩ := State.pmSts_shows (s := s.pmWritten c pmSetFloor arg) (a := c) (st := 4) (reason := 2)
  refine ⟨(s.pmWritten c pmSetFloor arg).pmSts c 4 2, ?_, by simp [State.get_pmWritten], hst, hreason, hm.trans State.pmWritten_mode⟩
  rw [exec_setFloor, execSetFloor, State.atUnit_on hon, h8, State.submitPm_refused hag hsome]
  rfl

/-- SHUTDOWN while hosts are active ends with reason 5. -/
theorem exec_shutdown_refused (hmode : s.mode = mReady ∨ s.mode = mRun ∨ s.mode = mThrottle) (hhosts : s.hostsActive = true) :
    ∃ t : State, exec (.shutdown (.core c) false) s = .next t ∧ t.get .PM_CMD_STS_STATE 0 c = 4 ∧ t.get .PM_CMD_STS_REASON 0 c = 5
      ∧ t.mode = s.mode := by
  have hsome : (s.pmWritten c pmShutdown 0).pmReason c pmShutdown 0 false = some 5 := by
    rw [State.pmReason_shutdown (State.pmWritten_go hgo) (by simpa using hmode), State.pmWritten_hostsActive, if_pos hhosts]
  obtain ⟨hst, hreason, hm⟩ := State.pmSts_shows (s := s.pmWritten c pmShutdown 0) (a := c) (st := 4) (reason := 5)
  refine ⟨(s.pmWritten c pmShutdown 0).pmSts c 4 5, ?_, hst, hreason, hm.trans State.pmWritten_mode⟩
  rw [exec_shutdown, execShutdown, State.atUnit_on hon, State.submitPm_refused hag hsome]
  rfl

/-- SHUTDOWN once no host is active and no power request runs enters Hold-up (R509). -/
theorem exec_shutdown_taken (hmode : s.mode = mReady ∨ s.mode = mRun ∨ s.mode = mThrottle) (hhosts : s.hostsActive = false)
    (hrun : s.refusePower.powerRunning = false) : ∃ u : State, exec (.shutdown (.core c) false) s = .next (u.enterHoldup 4)
      ∧ u.mode = s.mode ∧ u.flag .X_READY = s.flag .X_READY := by
  have hactive : (s.pmWritten c pmShutdown 0).hostsActive = false := State.pmWritten_hostsActive.trans hhosts
  have hnone : (s.pmWritten c pmShutdown 0).pmReason c pmShutdown 0 false = none := by
    rw [State.pmReason_shutdown (State.pmWritten_go hgo) (by simpa using hmode), hactive]
    rfl
  have hidle : (s.pmWritten c pmShutdown 0).refusePower.powerRunning = false := State.pmWritten_powerRunning.trans hrun
  refine ⟨((s.pmWritten c pmShutdown 0).refusePower.putFlag .PM_CMD_GO false 0 c).pmSts c 3 0, ?_, ?_, ?_⟩
  · rw [exec_shutdown, execShutdown, State.atUnit_on hon, State.submitPm_taken hag hnone]
    exact congrArg Host.Outcome.next (State.pmEffect_shutdown hactive hidle)
  · simp [State.pmSts]
  · simp [State.pmSts, State.flag, State.putFlag, State.get_pmWritten]

end

/-! ### Hold-up is entered (R537) -/

/-- From a powered mode after first ready, Hold-up is entered for its trigger and no command is left. -/
theorem State.enterHoldup_entered {trig : Nat} (hpow : s.powered = true) (hmode : s.mode ≠ mHoldup) (hready : s.flag .X_READY = true) :
    (s.enterHoldup trig).mode = mHoldup ∧ (s.enterHoldup trig).get .X_HU_TRIG = trig % 8 ∧ (s.enterHoldup trig).cmds = [] := by
  have hgo : ¬(!s.powered || s.mode = mHoldup) = true := by simp [hpow, hmode]
  have hstart : ¬(!s.flag .X_READY) = true := by simp [hready]
  unfold State.enterHoldup
  rw [if_neg hgo, if_neg hstart]
  extract_lets u1 u2 u3 u4 u5 testing u6 u7 u8
  have h5 : u5.mode = mHoldup ∧ u5.get .X_HU_TRIG = trig % 8 := by simp [u5, u4, mHoldup]
  have h6 : u6.modeView = u5.modeView := by simp [u6]
  have h7 : u7.modeView = u5.modeView := by simp [u7, apply_ite State.modeView, h6]
  have h8 : u8.modeView = u5.modeView := by simp [u8, apply_ite State.modeView, h7]
  have hend : ((((u8.putFlag .X_FLUSH true).putFlag .X_FLUSH_SHORT false).shedHosts.stopMedia).dropAllCommands).modeView = u5.modeView := by
    simp [h8, State.stopMedia_modeView]
  exact ⟨(State.mode_of_modeView hend).trans h5.1, (State.get_of_modeView hend (by simp) 0 0).trans h5.2, rfl⟩

/-! ### Supplies below Retain (R485, R488, R511, R611) -/

/-- Every supply of the VBAT domain is gone: the mode is Off, and what no supply keeps reads as after reset. -/
theorem State.toOff_mode : s.toOff.mode = mOff := by
  simp [State.toOff, mOff]

theorem State.toOff_flash : s.toOff.flash = s.flash := by simp [State.toOff]

/-- The register domains that the supplies of the VBAT domain keep. -/
def Dom.needsVbat : Dom → Bool
  | .keep | .vbat | .boot => true
  | _ => false

theorem State.get_toOff {f : Field} {i a : Nat} (h : f.info.dom.needsVbat = false) (hm : f ≠ .PM_MODE_MODE) (ht : f ≠ .PM_MODE_TARGET) :
    s.toOff.get f i a = s.get f i a := by
  unfold State.toOff
  rw [State.get_put_field _ _ _ _ _ _ _ _ ht, State.get_put_field _ _ _ _ _ _ _ _ hm]
  refine State.get_filter_kept fun v => ?_
  revert h
  dsimp only
  cases f.info.dom <;> simp [Dom.needsVbat]

@[simp] theorem State.get_setMainEn {on : Bool} {f : Field} {i a : Nat} (h : f ≠ .X_MAIN_EN) : (s.setMainEn on).get f i a = s.get f i a := by
  simp [State.setMainEn, State.get_ite, State.putFlag, h]

/-- The copies of R511 in the AUX domain. -/
@[reducible, simp] def auxFields : List Field := [.X_PAT_PERIOD, .X_PAT_ERR, .X_PAT_WAKE, .X_PAT_MASK, .X_PAT_HI, .X_PAT_LO]

theorem State.get_dropAux {f : Field} {i a : Nat} (h : f ∉ auxFields) (hm : f ≠ .X_MAIN_EN) : s.dropAux.get f i a = s.get f i a := by
  refine (State.get_filter_kept (s := s.setMainEn false) fun v => ?_).trans (State.get_setMainEn hm)
  dsimp only
  split
  · simp at h
  · simp at h
  · simp at h
  · simp at h
  · simp at h
  · simp at h
  · rfl

theorem State.get_auxDefaults {f : Field} {i a : Nat} (h : f ∉ auxFields) (hf : f ≠ .X_FREE) : s.auxDefaults.get f i a = s.get f i a := by
  simp only [auxFields, List.mem_cons, List.not_mem_nil, or_false, not_or] at h
  obtain ⟨hper, herr, hwake, hmask, hhi, hlo⟩ := h
  unfold State.auxDefaults
  rw [forEach_get fun n u => ?_]
  · simp [hper, herr, hwake, hmask]
  · split <;> simp [State.takeFree, hhi, hlo, hf]

theorem State.auxDefaults_period : s.auxDefaults.get .X_PAT_PERIOD = 100 := by
  unfold State.auxDefaults
  rw [forEach_get fun n u => ?_]
  · simp
  · split <;> simp [State.takeFree]

/-! ### The patrol sequencer (R510, R512, R513) -/

/-- A sample inside its window changes nothing. -/
theorem State.patrolSample_inside {n : Nat} {v : Int} (h : ofField 16 (s.get .X_PAT_LO n) ≤ v ∧ v ≤ ofField 16 (s.get .X_PAT_HI n)) :
    s.patrolSample n v = s := if_pos (by simpa using h)

/-- A sample outside its window is a violation. -/
theorem State.patrolSample_outside {n : Nat} {v : Int} (h : v < ofField 16 (s.get .X_PAT_LO n) ∨ ofField 16 (s.get .X_PAT_HI n) < v) :
    (s.patrolSample n v).get .PM_PATROL_STS_VIOLATIONS = min (s.get .PM_PATROL_STS_VIOLATIONS + 1) 0xFE := by
  have hgo : ¬(decide (ofField 16 (s.get .X_PAT_LO n) ≤ v) && decide (v ≤ ofField 16 (s.get .X_PAT_HI n))) = true := by
    simp only [Bool.and_eq_true, decide_eq_true_eq]
    omega
  unfold State.patrolSample
  rw [if_neg hgo]
  simp [State.get_ite, State.putFlag, State.logPatrol]

/-- A sample leaves the mode and the count of rounds alone. -/
theorem State.get_patrolSample {n : Nat} {v : Int} {f : Field}
    (h : f ∉ [.PM_KEEP, .PM_PATROL_STS_NEXT, .PM_PATROL_STS_VIOLATIONS, .FC_STS_ERR_N, .X_MAIN_EN]) (i a : Nat) :
    (s.patrolSample n v).get f i a = s.get f i a := by
  simp only [List.mem_cons, List.not_mem_nil, or_false, not_or] at h
  simp [State.patrolSample, State.logPatrol, State.get_ite, State.putFlag, h]

end Sys2Proof.Machine

/-! A patrol round, and the clauses on the modes put together (13, R485 to R513). -/

namespace Sys2Proof.Machine

variable {s t : State}

/-! ### One round of the patrol sequencer (R510, R512) -/

/-- What a channel of a round does with its sample. -/
def State.patrolChannel (s : State) (samples : List (Option Int)) (n : Nat) : State :=
  match samples.getD n none with
  | some v => s.patrolSample n v
  | none => s

/-- The channels that a round converts. -/
def State.patrolOn (s : State) : List Nat := patrolChannels.filter fun n => bit (s.get .X_PAT_MASK) n

theorem exec_patrolRound_patrol {l : List (Option Int)} (h : s.mode = mPatrol) :
    exec (.patrolRound l) s = .next ((forEach s.patrolOn s fun n u => u.patrolChannel l n).put .PM_PATROL_STS_ROUNDS
      (min ((forEach s.patrolOn s fun n u => u.patrolChannel l n).get .PM_PATROL_STS_ROUNDS + 1) 0xFFFE)) := by
  have hgo : ¬s.mode ≠ mPatrol := by simp [h]
  exact if_neg hgo

theorem State.get_patrolChannel {l : List (Option Int)} {n : Nat} {f : Field}
    (h : f ∉ [.PM_KEEP, .PM_PATROL_STS_NEXT, .PM_PATROL_STS_VIOLATIONS, .FC_STS_ERR_N, .X_MAIN_EN]) (i a : Nat) :
    (s.patrolChannel l n).get f i a = s.get f i a := by
  unfold State.patrolChannel
  split
  · exact State.get_patrolSample h i a
  · rfl

/-- A round whose every sample is inside its window changes nothing but its count. -/
theorem State.patrol_inside {l : List (Option Int)} {ch : List Nat}
    (h : ∀ n ∈ ch, ∀ v, l.getD n none = some v → ofField 16 (s.get .X_PAT_LO n) ≤ v ∧ v ≤ ofField 16 (s.get .X_PAT_HI n)) :
    (forEach ch s fun n u => u.patrolChannel l n) = s := by
  induction ch with
  | nil => rfl
  | cons n ch ih =>
    have hn : s.patrolChannel l n = s := by
      unfold State.patrolChannel
      split
      next v hv => exact State.patrolSample_inside (h n List.mem_cons_self v hv)
      · rfl
    rw [forEach_cons, hn, ih fun m hm => h m (List.mem_cons_of_mem _ hm)]

/-! ### The clauses that have several parts -/

/-- DOMAIN_WAKE and DOMAIN_REGATE in Retain (R491): the units of the domain change their state, the others keep theirs. -/
theorem gateAll_domain {l : List Nat} {p : Nat} (hp : p < 8) (h : s.mode = mRetain) : (s.gateAll l p).mode = mRetain
    ∧ (∀ u ∈ l, (s.gateAll l p).get .X_MODE_POWER u = p) ∧ ∀ u, u ∉ l → (s.gateAll l p).get .X_MODE_POWER u = s.get .X_MODE_POWER u :=
  ⟨State.gateAll_mode.trans h, fun _ hu => (State.get_gateAll_mem hu).trans (Nat.mod_eq_of_lt hp), fun _ hu => State.get_gateAll_not_mem hu⟩

/-- MODE_ENTRY refused at AP1 (R495, R496): the mode stays, and the log names the reason. -/
theorem modeEntry_refusal {u : State} {x r : Nat} (hmode : s.mode = mRun ∨ s.mode = mThrottle) (hmove : s.get .PM_MODE_MOVE = 0)
    (hu : u = (s.put .X_PM_FROM s.mode).put .PM_MODE_TARGET s.demand) (ht : t = ((u.logRefusal x r 1 false).put .PM_MODE_TARGET s.mode).answerPm) :
    t.mode = s.mode ∧ t.get .PM_MODE_TARGET = s.mode ∧ t.get .PM_REFUSE_LOG_REASON (s.get .PM_LOG_STS_NEXT) = r % 256
      ∧ t.get .PM_REFUSE_LOG_AP (s.get .PM_LOG_STS_NEXT) = 1 ∧ t.get .PM_MODE_MOVE = 0 ∧ t.flash = s.flash := by
  have hnext : s.get .PM_LOG_STS_NEXT = u.get .PM_LOG_STS_NEXT := by simp [hu]
  have hm8 : s.mode % 8 = s.mode := by rcases hmode with h | h <;> rw [h] <;> rfl
  have hreason := u.logRefusal_reason (unit := x) (reason := r) (ap := 1) (aborted := false)
  have hap := u.logRefusal_ap (unit := x) (reason := r) (ap := 1) (aborted := false)
  have hstill : u.get .PM_MODE_MOVE = 0 ∧ u.flash = s.flash ∧ u.mode = s.mode := by simp [hu, hmove]
  rw [hnext, ht]
  simp [hreason, hap, hm8, hstill]

/-- An entry into Retain is complete at AP3 (R493, R494). -/
theorem mediaQuiet_completes (hquiet : ∀ d ∈ s.dies, s.get .X_DIE_OP d = 0) (hready : s.mode = mReady) (hmove : s.get .PM_MODE_MOVE = 1)
    (htarget : s.get .PM_MODE_TARGET = mRetain) (hwake : s.get .X_WAKE = 0) : ∃ t : State, exec .mediaQuiet s = .next t ∧ t.mode = mRetain
      ∧ t.get .PM_MODE_MOVE = 0 ∧ t.get .X_MODE_POWER uFront = 2 ∧ t.get .X_MODE_POWER uMap = 2 ∧ t.flash = s.flash := by
  have hexec := exec_mediaQuiet_retain hquiet hready hmove htarget
  rw [if_neg (by simp [hwake])] at hexec
  obtain ⟨hmode, hend, hpower, hflash⟩ := State.completeEntry_reached (m := mRetain)
    (s := s.gateIdle.gateAll ([uChip, uFront, uMap, uWarden] ++ (List.range 8).flatMap fun c => s.gateIdle.subtree (uCluster c)) 2)
  refine ⟨_, hexec, hmode, hend, ?_, ?_, by rw [hflash]; simp⟩
  · rw [hpower, State.get_gateAll_mem (by simp)]
  · rw [hpower, State.get_gateAll_mem (by simp)]

/-- SCALE_CHANGE with the rails up (R488, R504, R505). -/
theorem scaleChange_follows {m : Nat} (hpow : s.powered = true) (hm : m = min (s.get .PM_THR_STS_S_T) s.powerScale) :
    ∃ t : State, exec .scaleChange s = .next t ∧ t.get .PM_THR_STS_S_P = s.powerScale % 512 ∧ t.get .PM_THR_STS_S = m % 512
      ∧ t.mode = (if s.refusePower.powerRunning = true then s.mode else if s.mode = mRun ∧ m < 256 then mThrottle
        else if s.mode = mThrottle ∧ m = 256 then mRun else s.mode)
      ∧ t.cmds = s.cmds ∧ t.out = s.out := by
  obtain ⟨hcmds, hout, hs, hsp⟩ := State.followScale_same (m := m) (s := (s.put .PM_THR_STS_S_P s.powerScale).put .PM_THR_STS_S m)
  refine ⟨_, exec_scaleChange_powered hpow hm, ?_, ?_, ?_, ?_, ?_⟩
  · simp [hsp]
  · simp [hs]
  · simp [State.followScale_mode]
  · simp [hcmds]
  · simp [hout]

/-- What VAUX leaves of Patrol (R488): Keep, without the AUX domain. -/
def State.patrolToKeep (s : State) : State := ((s.putFlag .X_VAUX false).dropAux.put .PM_MODE_MODE mKeep).put .PM_MODE_TARGET mKeep

theorem State.patrolToKeep_shows : s.patrolToKeep.mode = mKeep ∧ s.patrolToKeep.flag .X_VBAT = s.flag .X_VBAT
    ∧ s.patrolToKeep.flag .X_VAUX = false := by
  simp [State.patrolToKeep, State.flag, State.putFlag, State.get_dropAux, mKeep]

theorem exec_vauxFall_patrol (h : s.mode = mPatrol) :
    exec .vauxFall s = .next (if s.flag .X_VBAT then s.patrolToKeep else s.patrolToKeep.toOff) := by
  obtain ⟨hmode, hvbat, _⟩ := s.patrolToKeep_shows
  have hexec : exec .vauxFall s
      = .next (if s.patrolToKeep.mode = mKeep && !s.patrolToKeep.flag .X_VBAT then s.patrolToKeep.toOff else s.patrolToKeep) := by
    have hp : (s.putFlag .X_VAUX false).mode = mPatrol := by simp [h]
    rw [exec_vauxFall, execVauxFall, if_pos hp]
    rfl
  rw [hexec, hmode, hvbat]
  cases s.flag .X_VBAT <;> rfl

/-- VAUX_FALL in Patrol (R488): VBAT keeps the Keep mode. -/
theorem vauxFall_leavesPatrol (h : s.mode = mPatrol) : ∃ t : State, exec .vauxFall s = .next t
    ∧ t.mode = (if s.flag .X_VBAT then mKeep else mOff) ∧ t.flag .X_VAUX = false := by
  obtain ⟨hmode, _, hvaux⟩ := s.patrolToKeep_shows
  refine ⟨_, exec_vauxFall_patrol h, ?_⟩
  cases s.flag .X_VBAT with
  | true => exact ⟨hmode, hvaux⟩
  | false =>
    refine ⟨State.toOff_mode, ?_⟩
    rw [State.flag] at hvaux ⊢
    rw [if_neg (by simp), State.get_toOff rfl (by simp) (by simp)]
    exact hvaux

/-- VAUX_FALL in Keep without VBAT, and VBAT_FALL in Keep without VAUX (R488): nothing is kept but the flash. -/
theorem vauxFall_leavesKeep (h : s.mode = mKeep) (hvbat : s.flag .X_VBAT = false) :
    ∃ t : State, exec .vauxFall s = .next t ∧ t.mode = mOff ∧ t.flash = s.flash := by
  have hp : ¬(s.putFlag .X_VAUX false).mode = mPatrol := by simp [h, mKeep, mPatrol]
  have hk : ((s.putFlag .X_VAUX false).mode = mKeep && !(s.putFlag .X_VAUX false).flag .X_VBAT) = true := by
    simp [h, State.flag_putFlag_field, hvbat]
  refine ⟨(s.putFlag .X_VAUX false).toOff, ?_, State.toOff_mode, by simp [State.toOff_flash]⟩
  rw [exec_vauxFall, execVauxFall, if_neg hp, if_pos hk]

theorem vbatFall_leavesKeep (h : s.mode = mKeep) (hvaux : s.flag .X_VAUX = false) :
    ∃ t : State, exec .vbatFall s = .next t ∧ t.mode = mOff ∧ t.flash = s.flash := by
  have hk : ((s.putFlag .X_VBAT false).mode = mKeep && !(s.putFlag .X_VBAT false).flag .X_VAUX) = true := by
    simp [h, State.flag_putFlag_field, hvaux]
  refine ⟨(s.putFlag .X_VBAT false).toOff, ?_, State.toOff_mode, by simp [State.toOff_flash]⟩
  rw [exec_vbatFall, execVbatFall, if_pos hk]

/-- KEEP_TO_PATROL (R488, R511). -/
theorem keepToPatrol_enters (h : s.mode = mKeep) : ∃ t : State, exec .keepToPatrol s = .next t ∧ t.mode = mPatrol ∧ t.flag .X_VAUX = true
      ∧ t.get .PM_MODE_CAUSE = s.get .X_KEEP_CAUSE % 16 ∧ t.get .PM_PATROL_STS_ROUNDS = 0 ∧ t.get .PM_PATROL_STS_VIOLATIONS = 0
      ∧ t.get .X_PAT_PERIOD = 100 := by
  have hgo : ¬s.mode ≠ mKeep := by simp [h]
  refine ⟨_, if_neg hgo, ?_⟩
  simp [State.flag, State.putFlag, State.get_auxDefaults, State.auxDefaults_period, mPatrol]

/-- VAUX_RISE from Off (R488, R557): Keep, with a calendar that has lost its time. -/
theorem vauxRise_leavesOff (h : s.mode = mOff) : ∃ t : State, exec (.vauxRise true) s = .next t ∧ t.mode = mKeep ∧ t.flag .X_VAUX = true
      ∧ t.flag .CAL_STS_VALID = false ∧ t.flag .CAL_STS_VBAT_LOST = true := by
  have hgo : ¬(s.putFlag .X_VAUX true).mode ≠ mOff := by simp [h]
  refine ⟨_, if_neg hgo, ?_⟩
  simp [State.flag, State.putFlag, mKeep]

/-- A patrol round (R510, R512). -/
theorem patrolRound_converts {l : List (Option Int)} (h : s.mode = mPatrol) : ∃ t : State, exec (.patrolRound l) s = .next t ∧ t.mode = mPatrol
      ∧ t.get .PM_PATROL_STS_ROUNDS = min (s.get .PM_PATROL_STS_ROUNDS + 1) 0xFFFE
      ∧ ((∀ n ∈ patrolChannels, bit (s.get .X_PAT_MASK) n = true → ∀ v, l.getD n none = some v →
          ofField 16 (s.get .X_PAT_LO n) ≤ v ∧ v ≤ ofField 16 (s.get .X_PAT_HI n)) →
        t.get .PM_PATROL_STS_VIOLATIONS = s.get .PM_PATROL_STS_VIOLATIONS ∧ t.out = s.out) := by
  have hrounds : (forEach s.patrolOn s fun n u => u.patrolChannel l n).get .PM_PATROL_STS_ROUNDS = s.get .PM_PATROL_STS_ROUNDS :=
    forEach_get fun n u => State.get_patrolChannel (by simp) 0 0
  have hmode : (forEach s.patrolOn s fun n u => u.patrolChannel l n).mode = s.mode :=
    forEach_same State.mode fun n u => State.get_patrolChannel (by simp) 0 0
  refine ⟨_, exec_patrolRound_patrol h, by simp [hmode, h], by simp [hrounds], fun hin => ?_⟩
  have hsame : (forEach s.patrolOn s fun n u => u.patrolChannel l n) = s :=
    State.patrol_inside fun n hn => hin n (List.mem_filter.1 hn).1 (List.mem_filter.1 hn).2
  rw [hsame]
  simp

/-! ### The settlement -/

/-- Settles O55, clause by clause from the laws above. -/
theorem modesFollowDemandSuppliesAndPatrol : Obligations.ModesFollowDemandSuppliesAndPatrol := by
  unfold Obligations.ModesFollowDemandSuppliesAndPatrol
  refine ⟨fun s => rfl, fun s w hret => ⟨⟨_, exec_domainWake_retain hret, gateAll_domain (by decide) hret⟩,
      fun hmove => ⟨_, exec_domainRegate_retain hret hmove, gateAll_domain (by decide) hret⟩⟩,
    fun s w h => ?noDomain, fun s w h => ?noRegate,
    fun s u hmove hidle hquiet hmode hu => ⟨fun x r hr => ?entryRefused, fun hr => ?entryTaken⟩, fun s h => ?noEntry,
    fun s h => ?mediaBusy, fun s hquiet hready hmove htarget => ⟨fun hwake => mediaQuiet_completes hquiet hready hmove htarget hwake,
      fun hwake => ?entryAbandoned⟩,
    fun s hmode hmove hwhy => ⟨fun hrun => ?exitWaits, fun hready hrun => ?exitReady, fun hret hrun => ?exitRetain⟩,
    fun s hmode hmove => ?exitEnds, fun s h => ?noExit, fun s h => if_pos (by simp [h]), fun s m hpow hm => scaleChange_follows hpow hm,
    fun s c arg hon hag hgo => ⟨exec_setFloor_taken hon hag hgo, exec_setFloor_refused hon hag hgo, exec_shutdown_refused hon hag hgo,
      fun hmode hhosts hready hrun => ?shutdown⟩,
    fun s h => vauxRise_leavesOff h, fun s h => ⟨if_pos (by simpa using h), if_pos (by simpa using h)⟩, fun s h => keepToPatrol_enters h,
    fun s h => if_pos h, fun s hp hk => ?vauxFall, fun s h hv => vauxFall_leavesKeep h hv, fun s h => vauxFall_leavesPatrol h,
    fun s h hv => vbatFall_leavesKeep h hv, fun s h => ?vbatFall, fun s hp hv hen h3 h4 => ?mainEn, fun s h => ?noMainEn,
    fun s l h => if_pos h, fun s l h => patrolRound_converts h, fun s n v h => State.patrolSample_outside h⟩
  case noDomain => simp [execDomainWake, execDomainRegate, h]
  case noRegate => simp [execDomainRegate, h]
  case entryRefused => exact ⟨_, exec_modeEntry_refused hmove hidle hquiet hmode hu hr, modeEntry_refusal hmode hmove hu rfl⟩
  case entryTaken => exact ⟨_, rfl, exec_modeEntry_accepted hmove hidle hquiet hmode hu hr rfl⟩
  case noEntry => exact if_pos (by rcases h with h | h | h <;> simp [h])
  case mediaBusy => exact if_pos (by simpa using h)
  case entryAbandoned =>
    have hexec := exec_mediaQuiet_retain hquiet hready hmove htarget
    rw [if_pos hwake] at hexec
    exact ⟨_, rfl, hexec⟩
  case exitWaits => rw [exec_modeExit_due hmode hmove hwhy, if_pos hrun]
  case exitReady =>
    have hret : ¬s.mode = mRetain := by simp [hready, mReady, mRetain]
    obtain ⟨hm, hwake, hidle, hpower, hcmds, hout⟩ := State.leaveFor_reached (s := s.refusePower) (m := s.exitTarget)
    refine ⟨_, (exec_modeExit_due hmode hmove hwhy).trans (by rw [if_neg (by simp [hrun]), if_neg hret]), hm, hwake, hidle, hpower, ?_, ?_⟩
    · rw [hcmds, State.refusePower_cmds]
    · rw [hout, State.refusePower_out]
  case exitRetain =>
    obtain ⟨hm, hbegun, htarget, hwake, hpower, hcmds, hout⟩ := State.startExit_begun (s := s.refusePower) (m := s.exitTarget)
    refine ⟨_, (exec_modeExit_due hmode hmove hwhy).trans (by rw [if_neg (by simp [hrun]), if_pos hret]), ?_, hbegun, htarget, hwake, hpower,
      ?_, ?_⟩
    · rw [hm, State.refusePower_mode, hret]
    · rw [hcmds, State.refusePower_cmds]
    · rw [hout, State.refusePower_out]
  case exitEnds =>
    obtain ⟨hm, hwake, -, -, hcmds, -⟩ := State.leaveFor_reached (s := s) (m := s.get .PM_MODE_TARGET)
    rw [State.finishExit_retain hmode hmove]
    by_cases hready : s.get .PM_MODE_TARGET = mReady
    · rw [if_pos hready]
      exact ⟨by simp [hm], by simp, fun h => absurd hready h, by simp [hcmds]⟩
    · rw [if_neg hready]
      exact ⟨by simp [hm], by simp, fun _ => by simp [hwake], by simp [hcmds]⟩
  case noExit => exact if_neg (by rcases h with ⟨h, h'⟩ | h <;> simp [*])
  case shutdown =>
    obtain ⟨u, hexec, hm, hr⟩ := exec_shutdown_taken hon hag hgo hmode hhosts hrun
    have hhold : u.mode ≠ mHoldup := by rw [hm]; rcases hmode with h | h | h <;> rw [h] <;> decide
    have hpow : u.powered = true := by
      rw [State.powered, hm]
      rcases hmode with h | h | h <;> rw [h] <;> rfl
    exact ⟨_, hexec, State.enterHoldup_entered hpow hhold (hr.trans hready)⟩
  case vauxFall =>
    have hk' : s.mode = mKeep → s.flag .X_VBAT = true := fun h => hk.resolve_left (by simp [h])
    simpa [execVauxFall, hp, State.flag_putFlag_field] using fun h h' => absurd (hk' h) (by simp [h'])
  case vbatFall =>
    have hk' : s.mode = mKeep → s.flag .X_VAUX = true := fun hm => h.resolve_left (by simp [hm])
    simpa [execVbatFall, State.flag_putFlag_field] using fun h h' => absurd (hk' h) (by simp [h'])
  case mainEn => simp [execMainEnAssert, hp, hv, h3, h4, State.setMainEn, hen]
  case noMainEn =>
    refine congrArg Host.Outcome.next (if_neg ?_)
    rcases h with h | h | h | h <;> simp [h]

end Sys2Proof.Machine

/-! Tick sources, the registers of the tick, and the overrun of a die (02_tick_and_time.md, R49 to R58, R72, R76, R85). -/

namespace Sys2Proof.Machine

variable {s t : State}

/-! ### The count frame (R56) -/

theorem lsbBits_length {n v : Nat} : (lsbBits n v).length = n := by
  induction n generalizing v with
  | zero => rfl
  | succ n ih => rw [lsbBits, List.length_cons, ih]

/-- The bits of a number spell it, in their width. -/
theorem bitsNat_lsbBits {n v : Nat} : bitsNat (lsbBits n v) = v % 2 ^ n := by
  induction n generalizing v with
  | zero => simp [lsbBits, bitsNat, Nat.mod_one]
  | succ n ih =>
    have hbit : (if bit v 0 = true then 1 else 0) = v % 2 := by
      rcases Nat.mod_two_eq_zero_or_one v with h | h <;> simp [bit, h]
    rw [lsbBits, bitsNat, ih, hbit, Nat.pow_succ', Nat.mod_mul]

theorem crc8Bit_lt {c : Nat} {b : Bool} : crc8Bit c b < 256 := by
  have hdouble : 2 * c % 256 < 2 ^ 8 := Nat.mod_lt _ (by decide)
  unfold crc8Bit
  dsimp only
  split
  · exact Nat.xor_lt_two_pow hdouble (by decide)
  · exact hdouble

theorem crc8_lt {l : List Bool} : crc8 l < 256 := by
  unfold crc8
  induction l using List.reverseRecOn with
  | nil => decide
  | append_singleton l b _ =>
    rw [List.foldl_append]
    exact crc8Bit_lt

/-- The bits of a frame that its CRC covers. -/
def frameBody (count period : Nat) : List Bool := lsbBits 64 count ++ lsbBits 10 period ++ lsbBits 6 0

theorem countFrame_eq {n p : Nat} : countFrame n p = frameBody n p ++ lsbBits 8 (crc8 (frameBody n p)) := rfl

theorem frameBody_length {n p : Nat} : (frameBody n p).length = 80 := by simp [frameBody, lsbBits_length]

theorem countFrame_split {n p : Nat} : countFrame n p
    = lsbBits 64 n ++ (lsbBits 10 p ++ (lsbBits 6 0 ++ lsbBits 8 (crc8 (frameBody n p)))) := by
  simp [countFrame_eq, frameBody]

theorem frameOk_countFrame {n p : Nat} : frameOk (countFrame n p) = true := by
  rw [frameOk, countFrame_eq, List.take_left' frameBody_length, List.drop_left' frameBody_length]
  simp [frameBody_length, lsbBits_length, bitsNat_lsbBits, crc8_lt]

theorem countFrame_count {n p : Nat} (h : n < 2 ^ 64) : bitsNat ((countFrame n p).take 64) = n := by
  rw [countFrame_split, List.take_left' lsbBits_length, bitsNat_lsbBits, Nat.mod_eq_of_lt h]

theorem countFrame_period {n p : Nat} (h : p < 2 ^ 10) : bitsNat (((countFrame n p).drop 64).take 10) = p := by
  rw [countFrame_split, List.drop_left' lsbBits_length, List.take_left' lsbBits_length, bitsNat_lsbBits, Nat.mod_eq_of_lt h]

/-! ### A level source that goes absent (R567) -/

@[simp] theorem State.get_clearLevel {src : Nat} {f : Field} {i a : Nat} (h : f ≠ .X_SRC_AT) (h' : f ≠ .X_SRC_PRESENT) :
    (s.clearLevel src).get f i a = s.get f i a := by
  unfold State.clearLevel
  rw [State.get_putFlag_field _ _ _ _ _ _ _ _ h']
  exact State.get_filter_kept fun v => by simp [h]

theorem State.flag_clearLevel_present {src : Nat} : (s.clearLevel src).flag .X_SRC_PRESENT src = false :=
  State.flag_putFlag_self _ _ _ _ _ rfl

@[simp] theorem State.clearLevel_out {src : Nat} : (s.clearLevel src).out = s.out := rfl
@[simp] theorem State.clearLevel_armed {src : Nat} : (s.clearLevel src).armed = s.armed := rfl

/-! ### The phase (R52, R53) -/

/-- A correction of the phase writes the length of the tick and whether it is aligned. -/
@[simp] theorem State.get_correctPhase {d : Int} {f : Field} {i a : Nat} (h : f ∉ [.X_TICK_EXT, .X_TICK_CUT, .X_TICK_ALIGNED]) :
    (s.correctPhase d).get f i a = s.get f i a := by
  simp only [List.mem_cons, List.not_mem_nil, or_false, not_or] at h
  obtain ⟨hext, hcut, haligned⟩ := h
  simp [State.correctPhase, State.get_ite, State.get_putFlag_field, hext, hcut, haligned]

@[simp] theorem State.correctPhase_out {d : Int} : (s.correctPhase d).out = s.out := by
  simp [State.correctPhase, apply_ite State.out]

/-- The first correction in ACQUIRING lengthens the tick to the source's boundary and aligns it. -/
theorem State.correctPhase_aligns {d : Int} (hlock : s.get .TK_STS_LOCK = 1) (hfree : s.flag .X_TICK_ALIGNED = false) (hd : 0 ≤ d)
    (hlt : d < 1000 * (s.get .TK_PERIOD_PERIOD : Int)) :
    s.correctPhase d = (s.put .X_TICK_EXT (min d.toNat 999999)).putFlag .X_TICK_ALIGNED true := by
  have hmod : d % (1000 * (s.get .TK_PERIOD_PERIOD : Int)) = d := Int.emod_eq_of_lt hd hlt
  simp [State.correctPhase, hlock, hfree, hmod, lockAcquiring]

/-- The source that is lost is the one selected. -/
theorem State.loseSource_eq : s.loseSource
    = (((s.put .TK_STS_LOCK 3).putFlag .TK_STS_SRC_LOST true).put .X_TICK_FRAMES 0).raise 1 uChip (s.get .TK_SRC_SOURCE) := by
  simp [State.loseSource, State.get_putFlag_field, lockHoldover]

/-! ### Frames of TICK_IN (R53, R57) -/

section
variable {e : Int} {f : List Bool} (hsrc : s.get .TK_SRC_SOURCE = 1)
include hsrc

/-- A correct frame of the period, its edge in the window, is taken. -/
theorem exec_tickInFrame_taken (hlo : -2000 ≤ e) (hhi : e ≤ 2000) (hok : frameOk f = true)
    (hperiod : bitsNat ((f.drop 64).take 10) = s.get .TK_PERIOD_PERIOD) :
    exec (.tickInFrame e f) s = .next (s.takeFrame e (bitsNat (f.take 64))) := by
  simp [execTickInFrame, hsrc, hlo, hhi, hok, hperiod]

/-- The first correct frame in ACQUIRING aligns the tick, wherever its edge stands. -/
theorem exec_tickInFrame_aligns (hout : 2000 < e) (hok : frameOk f = true) (hlock : s.get .TK_STS_LOCK = 1)
    (hfree : s.flag .X_TICK_ALIGNED = false) (hperiod : bitsNat ((f.drop 64).take 10) = s.get .TK_PERIOD_PERIOD) :
    exec (.tickInFrame e f) s = .next (s.correctPhase e) := by
  simp [execTickInFrame, hsrc, show ¬e ≤ 2000 by omega, hok, hlock, hfree, hperiod, lockAcquiring]

/-- Any other edge outside the window is counted as bad. -/
theorem exec_tickInFrame_bad (hout : e < -2000 ∨ 2000 < e)
    (hbad : s.get .TK_STS_LOCK ≠ 1 ∨ s.flag .X_TICK_ALIGNED = true ∨ frameOk f = false) :
    exec (.tickInFrame e f) s = .next (s.bump .UCB_CNT2 uHousekeeping) := by
  have hwindow : (decide (-2000 ≤ e) && decide (e ≤ 2000)) = false := by
    simp only [Bool.and_eq_false_iff, decide_eq_false_iff_not]
    omega
  have halign : (frameOk f && s.get .TK_STS_LOCK = lockAcquiring && !s.flag .X_TICK_ALIGNED) = false := by
    rcases hbad with h | h | h <;> simp [h, lockAcquiring]
  simp [execTickInFrame, hsrc, hwindow, halign]

end

/-- What a frame that is taken leaves. -/
theorem State.takeFrame_counts {e : Int} {n : Nat} (hn : n < 2 ^ 64) : (s.takeFrame e n).get .X_TICK_SRCCNT = n
    ∧ (s.takeFrame e n).get .X_TICK_FRAMES = min (s.get .X_TICK_FRAMES + 1) 255 ∧ (s.takeFrame e n).out = s.out := by
  simpa [State.takeFrame, State.get_putFlag_field] using hn

/-! ### Actions armed for a tick (R76) -/

@[simp] theorem State.get_arm {k : Nat} {x : Act} {f : Field} {i a : Nat} (h : f ≠ .X_ARMSEQ) : (s.arm k x).get f i a = s.get f i a :=
  State.get_put_field _ _ _ _ _ _ _ _ h

@[simp] theorem State.arm_armed {k : Nat} {x : Act} : (s.arm k x).armed = s.armed ++ [⟨k, s.get .X_ARMSEQ, x⟩] := rfl

/-! ### Writes of the tick's registers by an MP core (R76, R85) -/

/-- A write where no field is locked stores every RW field of the register. -/
theorem State.writeRw_unlocked {ag : Agent} {r : Reg} {v i a : Nat} (hl : s.locks = []) : s.writeRw ag r v i a
    = forEach (r.desc.fields.filter fun x => x.acc = .rw) s fun x u => u.put x.f (bits v x.hi x.lo) i a := by
  simp [State.writeRw, State.lockedFor_nil hl]

/-- An MP core is of the group that writes the registers of the tick. -/
theorem State.guardWrite_mp {ag : Agent} {act : State → State} (h : ag.isMp = true) : s.guardWrite ag .ownerMpWd act = act s :=
  State.guardWrite_of_mayWrite (State.mayWrite_ownerMpWd_of_isMp h) (by decide)

theorem State.writeRw_tkSrc_source {ag : Agent} {v : Nat} (hl : s.locks = []) :
    (s.writeRw ag .TK_SRC v).get .TK_SRC_SOURCE = v % 8 := by
  have hsource : (s.writeRw ag .TK_SRC v).get .TK_SRC_SOURCE = bits v 2 0 % 2 ^ 3 := by
    rw [State.writeRw_unlocked hl]
    exact State.get_put_self _ _ _ _ _
  rw [hsource, bits]
  omega

section
variable {c : Nat} (hag : (Agent.core c).isMp = true) (hon : s.unitPower uChip = 0)
include hag hon

theorem exec_tkSrcWrite_reserved {v : Nat} (hl : s.locks = []) (hv : 4 ≤ v % 8) : exec (.tkSrcWrite (.core c) v) s = .next s := by
  have hbits : 4 ≤ bits v 2 0 := by rw [bits]; omega
  rw [exec_tkSrcWrite, execTkSrcWrite, State.atUnit_on hon, State.writeTkSrc,
    State.guardWrite_mp hag, if_pos hbits, State.unlessLocked_nil hl]

/-- Another source than before restarts acquisition. -/
theorem exec_tkSrcWrite_restarts {v : Nat} (hl : s.locks = []) (hv : v % 8 < 4) (hne : v % 8 ≠ s.get .TK_SRC_SOURCE) :
    exec (.tkSrcWrite (.core c) v) s
      = .next ((((((s.writeRw (.core c) .TK_SRC v).put .TK_STS_LOCK (if v % 8 = 0 then 0 else 1)).put .X_TICK_FRAMES 0).put .X_MISSES 0).putFlag
        .X_TICK_ALIGNED false).clearLevel 1) := by
  have hbits : ¬4 ≤ bits v 2 0 := by rw [bits]; omega
  rw [exec_tkSrcWrite, execTkSrcWrite, State.atUnit_on hon, State.writeTkSrc,
    State.guardWrite_mp hag, if_neg hbits]
  simp [State.writeRw_tkSrc_source hl, hne, lockFree, lockAcquiring]


/-- A GO while a period change is armed is refused as busy. -/
theorem exec_tkNextGo_busy {p : Nat} (hl : s.locks = []) (hgo : s.flag .TK_NEXT_GO = true) :
    exec (.tkNextGo (.core c) p) s = .next (s.put .TK_STS_NEXT_STATE 5) := by
  rw [exec_tkNextGo, execTkNextGo, State.atUnit_on hon, State.writeTkNext,
    State.guardWrite_mp hag, State.unlessLocked_nil hl, if_pos hgo, if_pos rfl]

/-- A GO with an allowed period and a tick that passes R76 arms the change. -/
theorem exec_tkNextGo_armed {p : Nat} (hl : s.locks = []) (hgo : s.flag .TK_NEXT_GO = false) (hp : p < 1024)
    (hmin : s.get .CHP_CAP7_TICK_MIN ≤ p) (hmax : p ≤ s.get .CHP_CAP7_TICK_MAX) (htick : s.tick + 2 ≤ s.get .TK_NEXT_TICK) :
    exec (.tkNextGo (.core c) p) s
      = .next ((((s.put .TK_NEXT_NEXT_PERIOD p).putFlag .TK_NEXT_GO true).put .TK_STS_NEXT_STATE 1).arm (s.get .TK_NEXT_TICK) (.period p)) := by
  have hok : (s.put .TK_NEXT_NEXT_PERIOD p).armOk (s.get .TK_NEXT_TICK) = true := by
    have hcount : (s.put .TK_NEXT_NEXT_PERIOD p).tick = s.tick := State.get_put_field _ _ _ _ _ _ _ _ (by decide)
    simp [State.armOk, hcount, htick]
  rw [exec_tkNextGo, execTkNextGo, State.atUnit_on hon, State.writeTkNext,
    State.guardWrite_mp hag, State.unlessLocked_nil hl]
  simp [hgo, Nat.mod_eq_of_lt hp, show ¬p < s.get .CHP_CAP7_TICK_MIN by omega, show ¬s.get .CHP_CAP7_TICK_MAX < p by omega, hok]

theorem exec_tkSnapTake_mp : exec (.tkSnapTake (.core c)) s
    = .next (((s.put .TK_SNAP_COUNT s.tick).put .TK_SNAP_PHASE (s.get .TK_PHASE_PHASE)).put .TK_SNAP_CAL s.calStamp) := by
  rw [exec_tkSnapTake, execTkSnapTake, State.atUnit_on hon, State.takeSnapshot,
    State.guardWrite_mp hag]

end

/-! ### Plan tables -/

@[simp] theorem State.plan_die {d : Nat} : (s.plan d).die = d := by
  unfold State.plan
  cases h : s.plans.find? fun p => p.die = d with
  | none => rfl
  | some p => simpa using List.find?_some h

/-- A die's plan table is the one stored last. -/
theorem State.plan_setPlan {p : DiePlan} {d : Nat} (h : p.die = d) : (s.setPlan p).plan d = p := by
  simp [State.plan, State.setPlan, h]

/-! ### The settlement -/

/-- Settles O11: each command is its meaning on the branch that the hypotheses choose, by the laws above. -/
theorem tickSourcesAndTickCommands : Obligations.TickSourcesAndTickCommands := by
  unfold Obligations.TickSourcesAndTickCommands
  refine ⟨fun s e n hsrc hlo hhi hn hp => ⟨_, exec_tickInFrame_taken hsrc hlo hhi frameOk_countFrame (countFrame_period hp), ?taken⟩,
    fun s e f hsrc hout hbad => exec_tickInFrame_bad hsrc hout hbad,
    fun s e n hsrc hout hlt hp hlock hfree hn => ⟨_, exec_tickInFrame_aligns hsrc hout frameOk_countFrame hlock hfree
      (countFrame_period (by omega)), ?aligned⟩,
    fun s m hsrc => ?ptm, fun s m hsrc => ?ptmFailed, fun s => ?lost,
    fun s c v hag hon hl hv => exec_tkSrcWrite_reserved hag hon hl hv,
    fun s c v hag hon hv hne hl => exec_tkSrcWrite_restarts hag hon hl hv hne,
    fun s c p hag hon hl hgo => exec_tkNextGo_busy hag hon hl hgo,
    fun s c p hag hon hl hgo hp hmin hmax htick => ⟨_, exec_tkNextGo_armed hag hon hl hgo hp hmin hmax htick, ?armed⟩,
    fun s c hag hon => exec_tkSnapTake_mp hag hon, fun s d hpop hplan hsealed hmissed => ?overrun⟩
  case taken =>
    rw [countFrame_count hn]
    exact State.takeFrame_counts hn
  case aligned =>
    rw [State.correctPhase_aligns hlock hfree (by omega) hlt]
    refine ⟨State.flag_putFlag_self _ _ _ _ _ rfl, ?_, by simp [State.get_putFlag_field]⟩
    rw [State.get_putFlag_field _ _ _ _ _ _ _ _ (by decide), State.get_put_self, Field.X_TICK_EXT_width]
    omega
  case ptm => exact ⟨_, if_pos (by simp [hsrc]), by simp⟩
  case ptmFailed => simp [execPtmExchange, hsrc]
  case lost =>
    rw [exec_tickSourceLost, execTickSourceLost, State.loseSource_eq]
    rfl
  case armed =>
    simp [State.flag, State.putFlag, Nat.mod_eq_of_lt hp]
  case overrun =>
    have hdue : (s.flag .X_DIE_POP d && s.planning && !(s.plan d).sealed && !(s.plan d).missed) = true := by
      simp [hpop, hplan, hsealed, hmissed]
    exact ⟨_, if_pos hdue, congrArg DiePlan.missed (State.plan_setPlan (by exact State.plan_die)), rfl, rfl⟩

end Sys2Proof.Machine

/-! The tick boundary, what is due or cancelled at a tick, the lock, and the sealing of plans (02_tick_and_time.md, R47, R51, R54, R55, R60, R72,
R77, R78, R82). -/

namespace Sys2Proof.Machine

variable {s t : State}

/-! ### Actions at a tick (R77, R78) -/

/-- The armed actions that are due, of one step of R78. -/
def State.dueIn (s : State) (k : Nat) : List Armed := s.armed.filter fun x => decide (x.tick ≤ s.tick) && decide (x.act.order = k)

/-- The state in which due actions act: they are armed no more, and the boundary is used up. -/
def State.dueTaken (s : State) : State :=
  { s.putFlag .X_AT_BND false with armed := s.armed.filter fun x => !decide (x.tick ≤ s.tick) }

theorem State.filter_due {k : Nat} :
    (s.armed.filter fun x => decide (x.tick ≤ s.tick)).filter (fun x => decide (x.act.order = k)) = s.dueIn k := by
  rw [List.filter_filter]
  exact List.filter_congr fun x _ => Bool.and_comm _ _

theorem State.dueIn_isEmpty {k : Nat} : (s.dueIn k).isEmpty = true ↔ ∀ x ∈ s.armed, x.tick ≤ s.tick → x.act.order ≠ k := by
  simp [State.dueIn]

section
variable (hpow : s.powered = true) (hret : s.mode ≠ mRetain) (hbnd : s.flag .X_AT_BND = true) (hdue : ∃ x ∈ s.armed, x.tick ≤ s.tick)
include hpow hret hbnd hdue

/-- Due actions act in the order of R78, or a chip reset among them acts and the others are cancelled. -/
theorem exec_atTickActions_due : exec .atTickActions s = if (s.dueIn 1).isEmpty then
      .next (forEach ([2, 3, 4, 5, 6, 7, 8].flatMap s.dueIn) s.dueTaken fun x u => u.takeAct x.act)
    else .next (forEach ([2, 3, 4, 5, 6, 7, 8].flatMap s.dueIn) (forEach (s.dueIn 1) s.dueTaken fun x u => u.takeAct x.act)
      fun x u => u.cancelAct x.act) := by
  have hgo : ¬(!s.powered || s.mode = mRetain || !s.flag .X_AT_BND
      || (s.armed.filter fun x => decide (x.tick ≤ s.tick)).isEmpty) = true := by
    simpa [hpow, hret, hbnd] using hdue
  have htick : (s.putFlag .X_AT_BND false).tick = s.tick := State.get_putFlag_field _ _ _ _ _ _ _ _ (by decide)
  rw [exec_atTickActions, execAtTickActions, if_neg hgo]
  simp only [State.filter_due, htick]
  rfl

theorem exec_atTickActions_act (h : ∀ x ∈ s.armed, x.tick ≤ s.tick → x.act.order ≠ 1) : exec .atTickActions s
    = .next (forEach ([2, 3, 4, 5, 6, 7, 8].flatMap s.dueIn) s.dueTaken fun x u => u.takeAct x.act) := by
  rw [exec_atTickActions_due hpow hret hbnd hdue, if_pos (State.dueIn_isEmpty.2 h)]

theorem exec_atTickActions_reset (h : ∃ x ∈ s.armed, x.tick ≤ s.tick ∧ x.act.order = 1) : exec .atTickActions s
    = .next (forEach ([2, 3, 4, 5, 6, 7, 8].flatMap s.dueIn) (forEach (s.dueIn 1) s.dueTaken fun x u => u.takeAct x.act)
      fun x u => u.cancelAct x.act) := by
  obtain ⟨x, hx, htick, horder⟩ := h
  rw [exec_atTickActions_due hpow hret hbnd hdue, if_neg fun he => State.dueIn_isEmpty.1 he x hx htick horder]

end

/-- A period change alone is then in force (R78, step 2). -/
theorem exec_atTickActions_period {k q us : Nat} (hpow : s.powered = true) (hret : s.mode ≠ mRetain) (hbnd : s.flag .X_AT_BND = true)
    (ha : s.armed = [⟨k, q, .period us⟩]) (hk : k ≤ s.tick) :
    exec .atTickActions s
      = .next (((s.dueTaken.put .TK_PERIOD_PERIOD us).put .TK_STS_NEXT_STATE 2).putFlag .TK_NEXT_GO false) := by
  have hdue : ∃ x ∈ s.armed, x.tick ≤ s.tick := ⟨_, by rw [ha]; exact List.mem_singleton_self _, hk⟩
  have hlist : [2, 3, 4, 5, 6, 7, 8].flatMap s.dueIn = [⟨k, q, .period us⟩] := by
    simp [State.dueIn, ha, hk, Act.order]
  rw [exec_atTickActions_act hpow hret hbnd hdue (by simp [ha, Act.order]), hlist]
  rfl

/-! ### Lock (R51, R54, R55) -/

/-- The source is locked to. -/
def State.locked (s : State) : State := ((s.put .TK_STS_LOCK 2).put .X_MISSES 0).clearLevel 1

theorem State.locked_shows : s.locked.get .TK_STS_LOCK = 2 ∧ s.locked.get .X_MISSES = 0 ∧ s.locked.flag .X_SRC_PRESENT 1 = false
    ∧ s.locked.get .TK_COUNT = s.get .TK_COUNT ∧ s.locked.armed = s.armed := by
  simp [State.locked, State.flag_clearLevel_present]

/-- The count of the source is loaded, and the jump shown. -/
def State.jumped (s : State) : State :=
  ((s.locked.put .TK_COUNT s.sourceCount).putFlag .TK_STS_JUMPED true).put .TK_JUMP_FROM s.tick

theorem State.jumped_shows : s.jumped.get .TK_STS_LOCK = 2 ∧ s.jumped.get .TK_COUNT = s.sourceCount % 2 ^ 64
    ∧ s.jumped.flag .TK_STS_JUMPED = true ∧ s.jumped.get .TK_JUMP_FROM = s.tick % 2 ^ 64 ∧ s.jumped.armed = s.armed := by
  obtain ⟨hlock, -, -, -, harmed⟩ := s.locked_shows
  simp [State.jumped, State.flag, State.putFlag, hlock, harmed]

section
variable (hacq : s.sourceAcquired = true)
include hacq

theorem exec_tickLockAcquired_keeps (h : s.get .TK_STS_LOCK = 3 ∨ s.get .TK_STS_LOCK = 1 ∧ s.flag .TK_SRC_ADOPT = false) :
    exec .tickLockAcquired s = .next s.locked := by
  rcases h with h | ⟨h, hadopt⟩
  · simp [execTickLockAcquired, hacq, h, lockAcquiring, lockHoldover, lockLocked, State.locked]
  · simp [execTickLockAcquired, hacq, h, hadopt, lockAcquiring, lockHoldover, lockLocked, State.locked]

theorem exec_tickLockAcquired_jumps (h : s.get .TK_STS_LOCK = 1) (hadopt : s.flag .TK_SRC_ADOPT = true) (hne : s.sourceCount ≠ s.tick) :
    exec .tickLockAcquired s
      = .next ((s.jumped.cancelWhere fun x => decide (s.tick < x.tick) && decide (x.tick < s.sourceCount)).raise 2 uChip 0) := by
  simp [execTickLockAcquired, hacq, h, hadopt, hne, lockAcquiring, lockHoldover, lockLocked, State.locked, State.jumped]

end

/-! ### Cancelling (R82) -/

/-- Where no armed action is named, nothing is cancelled. -/
theorem State.cancelWhere_none {p : Armed → Bool} (h : ∀ x ∈ s.armed, p x = false) : s.cancelWhere p = s := by
  have hgone : s.armed.filter p = [] := List.filter_eq_nil_iff.2 fun x hx => by simp [h x hx]
  have hstay : (s.armed.filter fun x => !p x) = s.armed := List.filter_eq_self.2 fun x hx => by simp [h x hx]
  rw [State.cancelWhere, hgone, hstay]
  rfl

section
variable {c k : Nat} (hag : (Agent.core c).isMp = true) (hon : s.unitPower uChip = 0) (hl : s.locks = []) (hk : k < 2 ^ 64)
include hag hon hl hk

/-- TK_CANCEL written by an MP core while nothing is locked. -/
theorem exec_tkCancel_mp : exec (.tkCancel (.core c) k) s = .next (if s.armOk k then
      ((s.cancelWhere fun x => x.tick = k).put .TK_CANCEL_STS_RESULT (if (s.armed.filter fun x => x.tick = k).length = 0 then 0 else 1)).put
        .TK_CANCEL_STS_CANCELLED (min (s.armed.filter fun x => x.tick = k).length 0xFFFF)
    else (s.put .TK_CANCEL_STS_RESULT 2).put .TK_CANCEL_STS_CANCELLED 0) := by
  rw [exec_tkCancel, execTkCancel, State.atUnit_on hon, Nat.mod_eq_of_lt hk, State.writeCancel,
    State.guardWrite_mp hag, State.unlessLocked_nil hl]
  cases s.armOk k <;> rfl

/-- Nothing is armed for the tick. -/
theorem exec_tkCancel_none (hok : s.armOk k = true) (h : ∀ x ∈ s.armed, x.tick ≠ k) :
    exec (.tkCancel (.core c) k) s = .next ((s.put .TK_CANCEL_STS_RESULT 0).put .TK_CANCEL_STS_CANCELLED 0) := by
  have hgone : (s.armed.filter fun x => x.tick = k) = [] := List.filter_eq_nil_iff.2 fun x hx => by simp [h x hx]
  rw [exec_tkCancel_mp hag hon hl hk, if_pos hok, State.cancelWhere_none fun x hx => by simp [h x hx], hgone]
  rfl

/-- What is armed for the tick is cancelled and counted. -/
theorem exec_tkCancel_some (hok : s.armOk k = true) (h : ∃ x ∈ s.armed, x.tick = k) :
    exec (.tkCancel (.core c) k) s = .next (((s.cancelWhere fun x => x.tick = k).put .TK_CANCEL_STS_RESULT 1).put
      .TK_CANCEL_STS_CANCELLED (min (s.armed.filter fun x => x.tick = k).length 0xFFFF)) := by
  have hsome : ¬(s.armed.filter fun x => x.tick = k).length = 0 := by simpa using h
  rw [exec_tkCancel_mp hag hon hl hk, if_pos hok, if_neg hsome]

/-- A tick that does not pass the test of R76. -/
theorem exec_tkCancel_late (hok : s.armOk k = false) :
    exec (.tkCancel (.core c) k) s = .next ((s.put .TK_CANCEL_STS_RESULT 2).put .TK_CANCEL_STS_CANCELLED 0) := by
  rw [exec_tkCancel_mp hag hon hl hk, if_neg (by simp [hok])]

end

/-! ### Sealing a plan (R60, R72, R666) -/

/-- The recorder's samples leave what is not a register field alone. -/
theorem State.sampleBoth_same {β : Type} (p : State → β) (hput : ∀ (u : State) f v i, p (u.put f v i) = p u) {h x : Nat} {v : Int} :
    p (s.sampleBoth h x v) = p s := by
  have hbump : ∀ (u : State) f i, p (u.bump f i) = p u := fun u f i => hput u f _ i
  simp [State.sampleBoth, State.sampleExt, State.sample, apply_ite p, hput, hbump]

/-- A die's plan table as PLAN_SEAL writes it: the next plan, sealed where there is still time, and the work that still waits. -/
def State.sealedPlan (s : State) (d : Nat) (next back : List PEntry) : DiePlan :=
  { s.plan d with next := next, sealed := s.sealInTime (s.plan d), back := back }

theorem State.plan_setPlan_sealed {d : Nat} {next back : List PEntry} :
    (t.setPlan (s.sealedPlan d next back)).plan d = s.sealedPlan d next back := State.plan_setPlan State.plan_die

/-- The work of a die that a new plan leaves waiting. -/
def State.leftWaiting (s : State) (d : Nat) (l : List PEntry) : List PEntry :=
  takenFrom l (s.plan d).back ++ (s.plan d).next.filter fun e => !l.any fun x => x.op = e.op && x.desc = e.desc && x.cls = e.cls

/-- The time left before the boundary, in µs. -/
def State.slack (s : State) : Int := ((s.tickNs - s.get .TK_PHASE_PHASE) / 1000 : Nat)

section
variable {h x : Nat} {v : Int}

@[simp] theorem State.plan_sampleBoth {d : Nat} : (s.sampleBoth h x v).plan d = s.plan d :=
  State.sampleBoth_same (State.plan · d) fun _ _ _ _ => rfl
@[simp] theorem State.sampleBoth_calls : (s.sampleBoth h x v).calls = s.calls := State.sampleBoth_same State.calls fun _ _ _ _ => rfl
@[simp] theorem State.sampleBoth_flash : (s.sampleBoth h x v).flash = s.flash := State.sampleBoth_same State.flash fun _ _ _ _ => rfl
@[simp] theorem State.sampleBoth_cmds : (s.sampleBoth h x v).cmds = s.cmds := State.sampleBoth_same State.cmds fun _ _ _ _ => rfl

end

section
variable {d : Nat} {l : List PEntry} (hpop : s.flag .X_DIE_POP d = true) (hplan : s.planning = true)
include hpop hplan

/-- A plan that obeys the rules is written; the slack is sampled if it is sealed. -/
theorem exec_planSeal_open {u : State} (hopen : s.planClosed d = false) (hok : s.planOk d (sortPlan l) = true)
    (hu : u = s.setPlan (s.sealedPlan d (sortPlan l) (s.leftWaiting d (sortPlan l)))) :
    exec (.planSeal d l) s = .next (if s.sealInTime (s.plan d) then u.sampleBoth 10 52 s.slack else u) := by
  have hgo : ¬(!s.flag .X_DIE_POP d || !s.planning) = true := by simp [hpop, hplan]
  rw [exec_planSeal, execPlanSeal, if_neg hgo, hu]
  simp only [hopen, hok]
  rfl

/-- The plan of a die that is available but takes no new work. -/
theorem exec_planSeal_closed (hclosed : s.planClosed d = true) (hav : s.dieAvailable d = true) : exec (.planSeal d l) s
    = .next (s.setPlan (s.sealedPlan d (s.closedPlan d (s.plan d).next) (s.plan d).back)) := by
  have hgo : ¬(!s.flag .X_DIE_POP d || !s.planning) = true := by simp [hpop, hplan]
  rw [exec_planSeal, execPlanSeal, if_neg hgo]
  simp only [hclosed, hav]
  rfl

/-- What PLAN_SEAL leaves of a plan that obeys the rules. -/
theorem planSeal_writes (hopen : s.planClosed d = false) (hok : s.planOk d (sortPlan l) = true) : ∃ t : State, exec (.planSeal d l) s = .next t
    ∧ (t.plan d).next = sortPlan l ∧ (t.plan d).sealed = s.sealInTime (s.plan d) ∧ (t.plan d).active = (s.plan d).active
    ∧ t.calls = s.calls ∧ t.flash = s.flash ∧ t.cmds = s.cmds := by
  refine ⟨_, exec_planSeal_open hpop hplan hopen hok rfl, ?_⟩
  split
  case isTrue =>
    rw [State.plan_sampleBoth, State.plan_setPlan_sealed, State.sampleBoth_calls, State.sampleBoth_flash, State.sampleBoth_cmds]
    exact ⟨rfl, rfl, rfl, rfl, rfl, rfl⟩
  case isFalse =>
    rw [State.plan_setPlan_sealed]
    exact ⟨rfl, rfl, rfl, rfl, rfl, rfl⟩

end

/-! ### The settlement -/

/-- Settles O16: the boundary is its meaning, and the other commands run by the laws above. That a plan which breaks the rules changes nothing
(log entry 37) and that an exit from Retain ends at a boundary (log entry 77) are choices of the model. -/
theorem tickBoundaryAndPlans : Obligations.TickBoundaryAndPlans := by
  unfold Obligations.TickBoundaryAndPlans
  refine ⟨fun s hpow => if_pos (by simp [hpow]), fun s hpow => if_neg (by simp [hpow]),
    fun s t hpow hret hbnd hdue ht => ⟨fun h => ?act, fun h => ?reset⟩,
    fun s k q us hpow hret hbnd ha hk hus => ⟨_, exec_atTickActions_period hpow hret hbnd ha hk, ?period⟩,
    fun s hacq h => ⟨_, exec_tickLockAcquired_keeps hacq h, s.locked_shows⟩,
    fun s hacq hlock hadopt hne => ⟨_, exec_tickLockAcquired_jumps hacq hlock hadopt hne, s.jumped_shows⟩,
    fun s c k hag hon hl hk hok hnone => exec_tkCancel_none hag hon hl hk hok (by simpa using hnone),
    fun s c k hag hon hl hk hok hsome => ?cancelled,
    fun s c k hag hon hl hk hok => exec_tkCancel_late hag hon hl hk hok,
    fun s d l hpop hplan hopen hok => planSeal_writes hpop hplan hopen hok,
    fun s d l hpop hplan hclosed hav => ⟨_, exec_planSeal_closed hpop hplan hclosed hav, ?closed⟩,
    fun s d l hopen hbad => ?unruly, fun s d l h => if_pos (by simpa using h)⟩
  case act =>
    subst ht
    exact exec_atTickActions_act hpow hret hbnd hdue h
  case reset =>
    subst ht
    exact exec_atTickActions_reset hpow hret hbnd hdue h
  case period =>
    simp [State.flag, State.putFlag, State.dueTaken, ha, hk, Nat.mod_eq_of_lt hus]
  case cancelled =>
    rw [exec_tkCancel_some hag hon hl hk hok hsome]
    simp [State.cancelWhere]
  case closed =>
    rw [State.plan_setPlan_sealed]
    exact ⟨rfl, rfl, rfl, rfl, rfl⟩
  case unruly => simp [execPlanSeal, hopen, hbad]

end Sys2Proof.Machine

/-! Virtual functions and the disables of functions, and link power (03_pcie_endpoint.md, R91, R92, R109 to R113, R118; 05, R238; 12, R458). -/

namespace Sys2Proof.Machine

variable {s t : State} {f : Nat}

/-! ### VF Enable and the VF ranges (R91, R92, R113) -/

theorem exec_vfEnableSet_within {n : Nat} (hf : f < 8) (hex : s.fnExists f = true) (hoff : s.flag .X_FN_VFE f = false)
    (hn : n ≤ s.get .HE_VFALLOC_COUNT f) : exec (.vfEnableSet f n) s = .next ((s.put .X_FN_NUMVFS n f).putFlag .X_FN_VFE true f) :=
  if_pos (by simp [hf, hex, hoff, hn])

theorem exec_vfDisable_enabled (hf : f < 8) (hon : s.flag .X_FN_VFE f = true) : exec (.vfDisable f) s = .next (s.clearVfEnable f) :=
  congrArg _ (if_pos (by simp [hf, hon]))

/-- An agent that may write a VF range is not PF0 without the Owner role, so the range alone decides. -/
theorem State.writeVfalloc_of_mayWrite {ag : Agent} {pf first count : Nat} (hag : s.mayWrite ag .ownerFeMp = true) :
    s.writeVfalloc ag pf first count = if s.vfRangeOk pf first count then
        (s.put .HE_VFALLOC_FIRST first pf).put .HE_VFALLOC_COUNT count pf
      else s.putFlag .HE_EVT_ALLOC_ERR true (pf / 4) := by
  have hno : ¬(ag = .pf0 && !s.isOwner ag) = true := by
    simp only [Bool.and_eq_true, decide_eq_true_eq, Bool.not_eq_true']
    rintro ⟨rfl, hown⟩
    exact absurd (State.isOwner_of_mayWrite hag (by decide) (by decide)) (by simp [hown])
  rw [State.writeVfalloc, if_neg hno, hag, Bool.true_and]

theorem exec_vfallocWrite_on {ag : Agent} {pf first count : Nat} (hag : s.mayWrite ag .ownerFeMp = true) (hon : s.unitPower uFront = 0)
    (hfirst : first < 256) (hcount : count < 512) :
    exec (.vfallocWrite ag pf first count) s = .next (if s.vfRangeOk pf first count then
        (s.put .HE_VFALLOC_FIRST first pf).put .HE_VFALLOC_COUNT count pf
      else s.putFlag .HE_EVT_ALLOC_ERR true (pf / 4)) := by
  rw [exec_vfallocWrite, execVfallocWrite, State.atUnit_on hon, Nat.mod_eq_of_lt hfirst, Nat.mod_eq_of_lt hcount,
    State.writeVfalloc_of_mayWrite hag]

/-! ### FLR and D3hot (R112, R113) -/

section
variable (hex : s.fnExists f = true)
include hex

theorem exec_flr_exists (hdis : s.flag .X_FN_DISABLING f = false) (ht : t = s.disablePoint (.fn f) 1) :
    exec (.flr f) s = .next (if f < 8 && t.flag .X_FN_VFE f then t.clearVfEnable f else t) := by
  subst ht
  exact if_pos (by simp [hex, hdis])

theorem exec_d3hotEntry_exists : exec (.d3hotEntry f) s = .next ((s.putFlag .X_FN_D3 true f).noteDemand s) :=
  congrArg _ (if_pos hex)

/-- The way back from D3hot is a disable; that it clears VF Enable of a PF, as FLR does, is the model's choice (log entry 67). -/
theorem exec_d3hotToD0Reset_inD3 (hd3 : s.flag .X_FN_D3 f = true) (ht : t = (s.putFlag .X_FN_D3 false f).disablePoint (.fn f) 3) :
    exec (.d3hotToD0Reset f) s = .next ((if f < 8 && s.flag .X_FN_VFE f then t.clearVfEnable f else t).noteDemand s) := by
  subst ht
  exact congrArg _ (if_pos (by simp [hex, hd3]))

/-! ### Bus Master Enable (R238, R458) -/

/-- Bus Master Enable is set; the Owner role comes with it for PF0 in an OPEN device, unless PF0 is being disabled. -/
theorem exec_busMasterEnableSet_off (hoff : s.flag .X_FN_BME f = false) :
    exec (.busMasterEnableSet f) s = .next (if f = 0 ∧ s.flag .SEC_STS_KEYED = false ∧ s.flag .X_FN_DISABLING = false then
      (s.putFlag .X_FN_BME true f).putFlag .SEC_STS_OWNER true else s.putFlag .X_FN_BME true f) := by
  rw [exec_busMasterEnableSet, execBusMasterEnableSet, if_pos (by simp [hex, hoff])]
  simp [State.flag_putFlag_field, and_assoc]

theorem exec_busMasterEnableSet_other (hoff : s.flag .X_FN_BME f = false) (hf : f ≠ 0) :
    exec (.busMasterEnableSet f) s = .next (s.putFlag .X_FN_BME true f) := by
  rw [exec_busMasterEnableSet_off hex hoff, if_neg fun h => hf h.1]

end

theorem busMasterEnableSet_owner (hex : s.fnExists 0 = true) (hoff : s.flag .X_FN_BME = false) (hdis : s.flag .X_FN_DISABLING = false) :
    ∃ t : State, exec (.busMasterEnableSet 0) s = .next t ∧ t.flag .X_FN_BME = true
      ∧ (s.flag .SEC_STS_KEYED = false → t.flag .SEC_STS_OWNER = true)
      ∧ (s.flag .SEC_STS_KEYED = true → t.flag .SEC_STS_OWNER = s.flag .SEC_STS_OWNER) ∧ t.cmds = s.cmds := by
  have hset : (s.putFlag .X_FN_BME true).flag .X_FN_BME = true := State.flag_putFlag_self _ _ _ _ _ rfl
  refine ⟨_, exec_busMasterEnableSet_off hex hoff, ?_⟩
  by_cases hkey : s.flag .SEC_STS_KEYED = false
  · rw [if_pos ⟨rfl, hkey, hdis⟩, State.flag_putFlag_field _ _ _ _ _ _ _ _ (by decide)]
    exact ⟨hset, fun _ => State.flag_putFlag_self _ _ _ _ _ rfl, fun h => absurd hkey (by simp [h]), rfl⟩
  · rw [if_neg fun h => hkey h.2.1]
    exact ⟨hset, fun h => absurd h hkey, fun _ => State.flag_putFlag_field _ _ _ _ _ _ _ _ (by decide), rfl⟩

/-! ### The time-out of a disable (R118) -/

theorem exec_disableTimeout_disabling {sc : Scope} (h : s.disabling sc = true) : exec (.disableTimeout sc) s
    = .next ((s.putFlag .HE_EVT_FLR_TIMEOUT true (s.fnPf (sc.fnOf s) / 4)).raise 48 uFront (sc.fnOf s)) := if_pos h

theorem exec_disableTimeout_over {sc : Scope} (h : s.disabling sc = false) : exec (.disableTimeout sc) s = .next s :=
  if_neg (by simp [h])

/-! ### The settlement -/

/-- Settles O18: each command by its law above. That the end of D3hot clears VF Enable is a choice of the model (log entry 67). -/
theorem functionsVfsAndDisables : Obligations.FunctionsVfsAndDisables := by
  unfold Obligations.FunctionsVfsAndDisables
  exact ⟨fun s f n hf hex hoff hn => exec_vfEnableSet_within hf hex hoff hn,
    fun s f hf hon => exec_vfDisable_enabled hf hon,
    fun s ag pf first count hag hon hfirst hcount => exec_vfallocWrite_on hag hon hfirst hcount,
    fun s t f hex hdis ht => exec_flr_exists hex hdis ht,
    fun s f hex => exec_d3hotEntry_exists hex,
    fun s t f hex hd3 ht => exec_d3hotToD0Reset_inD3 hex hd3 ht,
    fun s f hex hf hoff => exec_busMasterEnableSet_other hex hoff hf,
    fun s hex hoff hdis => busMasterEnableSet_owner hex hoff hdis,
    fun s f hon => if_pos hon,
    fun s sc h => exec_disableTimeout_disabling h, fun s sc h => exec_disableTimeout_over h⟩

/-! ### Link power (R109, R110, R112) -/

theorem linkIx_of_lt {p k : Nat} (hp : p < 2) (hk : k < 4) : linkIx p k = 4 * p + k := if_pos ⟨hp, hk⟩

/-- The least width of L0p: two lanes on a link of at most four, four on a wider one (R109). -/
theorem l0pLeast_le {width w : Nat} (h : 4 ≤ w ∨ w ≥ 2 ∧ width ≤ 4) : (if width ≤ 4 then 2 else 4) ≤ w := by
  split <;> omega

section
variable {p k : Nat} (hp : p < 2) (hk : k < 4) (hup : s.flag .HE_LINK_STS_UP (4 * p + k) = true)
include hp hk hup

theorem exec_l1Entry_up (hlpm : s.get .HE_LINK_STS_LPM (4 * p + k) ≤ 1) :
    exec (.l1Entry p k) s = .next (if s.aspmL1 (4 * p + k) = false ∨ s.goldHoldsLink (4 * p + k) = true then s
      else (s.put .HE_LINK_STS_LPM 2 (4 * p + k)).emit (.linkPower (4 * p + k) 2)) := by
  rw [exec_l1Entry, execL1Entry, linkIx_of_lt hp hk]
  by_cases h : s.aspmL1 (4 * p + k) = false ∨ s.goldHoldsLink (4 * p + k) = true
  · rw [if_pos h]
    exact if_neg (by rcases h with h | h <;> simp [h])
  · rw [if_neg h]
    simp only [not_or, Bool.not_eq_false, Bool.not_eq_true] at h
    exact if_pos (by simp [hup, hlpm, h])

theorem exec_l12Entry_up (hlpm : s.get .HE_LINK_STS_LPM (4 * p + k) = 2 ∨ s.get .HE_LINK_STS_LPM (4 * p + k) = 3)
    (hen : s.flag .X_FN_L12 (4 * p + k) = true) :
    exec (.l12Entry p k) s = .next (if (s.linkFns (4 * p + k)).any s.holdsReserve then s
      else (s.put .HE_LINK_STS_LPM 4 (4 * p + k)).emit (.linkPower (4 * p + k) 4)) := by
  rw [exec_l12Entry, execL12Entry, linkIx_of_lt hp hk]
  cases h : (s.linkFns (4 * p + k)).any s.holdsReserve with
  | true => exact if_neg (by simp)
  | false => exact if_pos (by simp [hup, hlpm, hen])

theorem exec_l0pNarrow_up {w : Nat} (hen : s.flag .HE_PWR_L0P_EN p = true) (hlpm : s.get .HE_LINK_STS_LPM (4 * p + k) ≤ 1)
    (hleast : 4 ≤ w ∨ w ≥ 2 ∧ s.get .HE_LINK_STS_WIDTH (4 * p + k) ≤ 4) (hless : w < s.get .HE_LINK_STS_L0P_WIDTH (4 * p + k))
    (hgold : s.goldHoldsLink (4 * p + k) = false) :
    exec (.l0pNarrow p k w) s = .next (((s.put .HE_LINK_STS_L0P_WIDTH w (4 * p + k)).put .HE_LINK_STS_LPM 1 (4 * p + k)).emit
      (.linkPower (4 * p + k) 1)) := by
  rw [exec_l0pNarrow, execL0pNarrow, linkIx_of_lt hp hk]
  exact if_pos (by simp [hup, hen, hlpm, l0pLeast_le hleast, hless, hgold])

theorem exec_l1Exit_up (hlpm : s.get .HE_LINK_STS_LPM (4 * p + k) ≠ 0) :
    exec (.l1Exit p k) s = .next (((s.put .HE_LINK_STS_LPM 0 (4 * p + k)).put .HE_LINK_STS_L0P_WIDTH
      (s.get .HE_LINK_STS_WIDTH (4 * p + k)) (4 * p + k)).emit (.linkPower (4 * p + k) 0)) := by
  rw [exec_l1Exit, execL1Exit, linkIx_of_lt hp hk, State.linkToL0, if_pos (by simp [hup, hlpm])]

end

/-- Settles O20: each command of link power by its law above. -/
theorem linkPowerRespectsGoldReserves : Obligations.LinkPowerRespectsGoldReserves := by
  unfold Obligations.LinkPowerRespectsGoldReserves
  exact ⟨fun s p k hp hk hup hlpm => exec_l1Entry_up hp hk hup hlpm,
    fun s p k hp hk hup hlpm hen => exec_l12Entry_up hp hk hup hlpm hen,
    fun s p k w hp hk hup hen hlpm hleast hless hgold => exec_l0pNarrow_up hp hk hup hen hlpm hleast hless hgold,
    fun s p k hp hk hup hlpm => exec_l1Exit_up hp hk hup hlpm⟩

end Sys2Proof.Machine

/-! NVMe controllers: enabling, shutdown, doorbells and the fetch of commands (04_nvme_support.md, R126 to R128, R130, R159; 03, R103, R112). -/

namespace Sys2Proof.Machine

variable {s : State} {f q v : Nat}

/-! ### Enabling, disabling and shutdown (R126 to R128) -/

/-- A controller as CC.EN leaves it: its registers, the empty admin queue pair, and ready. -/
def State.controllerUp (s : State) (f cc aqa asq acq : Nat) : State :=
  let t := (((s.put .X_CC cc f).put .X_AQA aqa f).put .X_ASQ asq f).put .X_ACQ acq f
  ({ t with
      sqs := t.sqs ++ [⟨f, 0, bits aqa 11 0 + 1, 0, asq, 0, 0, 0, 1, f = 0, 0, false⟩]
      cqs := t.cqs ++ [⟨f, 0, bits aqa 27 16 + 1, acq, 0, 0, true, true, 0⟩] } : State).putFlag .X_CSTS_RDY true f

theorem State.get_controllerUp_cc {cc aqa asq acq : Nat} : (s.controllerUp f cc aqa asq acq).get .X_CC f = cc % 2 ^ 32 := calc
  _ = ((((s.put .X_CC cc f).put .X_AQA aqa f).put .X_ASQ asq f).put .X_ACQ acq f).get .X_CC f :=
    State.get_putFlag_field _ _ _ _ _ _ _ _ (by decide)
  _ = cc % 2 ^ 32 := by simp

theorem State.controllerUp_ready {cc aqa asq acq : Nat} : (s.controllerUp f cc aqa asq acq).flag .X_CSTS_RDY f = true :=
  State.flag_putFlag_self _ _ _ _ _ rfl

section
variable (hlit : s.fnDark f = false)
include hlit

theorem exec_ccEnSet_allowed {cc aqa asq acq : Nat} (hdis : s.flag .X_CTRL_DISABLING f = false) (hdown : s.get .X_CC f % 2 = 0)
    (hen : cc % 2 = 1) (hok : ccOk cc aqa = true) :
    exec (.ccEnSet f cc aqa asq acq) s = .next ((s.controllerUp f cc aqa asq acq).noteDemand s) := by
  rw [exec_ccEnSet, execCcEnSet, if_neg (by simp [hlit, hdis, hdown, hen])]
  simp only [hok]
  rfl

theorem exec_ccEnClear_enabled (hen : s.get .X_CC f % 2 = 1) : exec (.ccEnClear f) s
    = .next (((s.put .X_CC (s.get .X_CC f - 1) f).disablePoint (.controller f)).noteDemand s) :=
  if_neg (by simp [hlit, hen])

theorem shutdownNotification_shows {a : Bool} (hen : s.get .X_CC f % 2 = 1) : ∃ t : State, exec (.shutdownNotification f a) s = .next t
    ∧ t.get .X_CSTS_SHST f = 1 ∧ t.cmds = s.cmds ∧ t.flash = s.flash :=
  ⟨_, if_neg (by simp [hlit, hen]), State.get_put_self _ _ _ _ _, rfl, rfl⟩

end

theorem exec_shutdownComplete_eq : exec (.shutdownComplete f) s
    = .next (if s.get .X_CSTS_SHST f = 1 ∧ s.ctrlBusy f = false then s.put .X_CSTS_SHST 2 f else s) := by
  simp [execShutdownComplete]

/-! ### Doorbells (R103) -/

section
variable (hrun : s.ctrlUp f = true)
include hrun

theorem exec_sqTailDoorbell_none (hsq : s.sq? f q = none) : exec (.sqTailDoorbell f q v) s = .next (s.doorbellError f 0) := by
  rw [exec_sqTailDoorbell, execSqTailDoorbell, if_neg (by simp [hrun]), hsq]

/-- A tail that leaves the queue non-empty wakes the front end; the wake is the model's choice (log entry 68). -/
theorem exec_sqTailDoorbell_some {sq : SubQ} (hsq : s.sq? f q = some sq) : exec (.sqTailDoorbell f q v) s
    = .next (if sq.size ≤ v then s.doorbellError f 1 else if v = sq.head then s.setSq { sq with tail := v }
      else (s.setSq { sq with tail := v }).wake uFront wakeCmd) := by
  rw [exec_sqTailDoorbell, execSqTailDoorbell, if_neg (by simp [hrun]), hsq]
  exact (apply_ite Host.Outcome.next _ _ _).symm

theorem exec_cqHeadDoorbell_some {cq : ComplQ} (hcq : s.cq? f q = some cq) : exec (.cqHeadDoorbell f q v) s
    = .next (if cq.headOk v then (s.setCq { cq with head := v }).drainCq f q else s.doorbellError f 1) := by
  rw [exec_cqHeadDoorbell, execCqHeadDoorbell, if_neg (by simp [hrun]), hcq]
  exact (apply_ite Host.Outcome.next _ _ _).symm

end

/-! ### Fetch (R112, R130, R159) -/

/-- What stops a fetch from a queue, the entry aside. -/
def State.fetchBlocked (s : State) (f : Nat) (sq : SubQ) : Prop :=
  s.ctrlUp f = false ∨ s.flag .X_FN_BME f = false ∨ s.flag .X_FN_D3 f = true ∨ s.pairHalted f = true ∨ s.powered = false
    ∨ s.mode = mHoldup ∨ s.flag .JQ_STS_FROZEN = true ∨ sq.frozen = true ∨ sq.head = sq.tail ∨ 65536 ≤ s.outstanding
    ∨ s.flag .X_FE_PAUSE = true

/-- The command that an entry of a submission queue becomes. -/
def State.fetchedCmd (s : State) (sq : SubQ) (f q : Nat) (b : List Byte) : Cmd :=
  { newCmd (s.get .X_CMDSEQ) true f q (fieldAt b 2 2) (fieldAt b 0 1) s.tick b with cls := if sq.cls = 0 then 1 else sq.cls }

/-- The queue's head advances, and the command is outstanding. -/
def State.takeEntry (s : State) (sq : SubQ) (c : Cmd) : State :=
  (s.setSq { sq with head := (sq.head + 1) % sq.size }).addCmd c

/-- A fetched command wakes the block, and ends its controller's non-operational power state. -/
def State.noteFetch (t old : State) (f : Nat) (c : Cmd) : State :=
  (((if c.keepsBusy then t.putFlag .X_IDLE false else t).wake uFront wakeCmd).returnPs f).noteDemand old

/-- A command that its fetch refuses ends at once. -/
def State.judge (u : State) (c : Cmd) : State :=
  match u.fetchVerdict c with
  | some r => (u.consumePkg c).finish c r
  | none => u

section
variable {sq : SubQ} {b : List Byte} (hsq : s.sq? f q = some sq)
include hsq

theorem exec_commandFetch_blocked (h : s.fetchBlocked f sq) : exec (.commandFetch f q b) s = .next s := by
  rw [exec_commandFetch, execCommandFetch, hsq]
  exact if_pos (by simpa [State.fetchBlocked, or_assoc] using Or.inl h)

theorem exec_commandFetch_taken (h : ¬s.fetchBlocked f sq) (hb : b.length = 64) : exec (.commandFetch f q b) s
    = .next (((s.takeEntry sq (s.fetchedCmd sq f q b)).noteFetch s f (s.fetchedCmd sq f q b)).judge (s.fetchedCmd sq f q b)) := by
  rw [exec_commandFetch, execCommandFetch, hsq, State.judge]
  refine (if_neg (by simpa [State.fetchBlocked, or_assoc, hb] using h)).trans ?_
  change (match ((s.takeEntry sq (s.fetchedCmd sq f q b)).noteFetch s f (s.fetchedCmd sq f q b)).fetchVerdict (s.fetchedCmd sq f q b) with
    | some r => _
    | none => _) = _
  split <;> rfl

end

/-! ### The settlement -/

/-- Settles O24: each command by its law above. The wake by a doorbell (log entry 68) and the fields and codes taken from NVMe Base (log
entry 20) are choices of the model. -/
theorem controllersDoorbellsAndFetch : Obligations.ControllersDoorbellsAndFetch := by
  unfold Obligations.ControllersDoorbellsAndFetch
  refine ⟨fun s f cc aqa asq acq hlit hdis hdown hen hok => ⟨s.controllerUp f cc aqa asq acq,
      exec_ccEnSet_allowed hlit hdis hdown hen hok, State.controllerUp_ready, State.get_controllerUp_cc, rfl, rfl, rfl, rfl⟩,
    fun s f hlit hen => exec_ccEnClear_enabled hlit hen,
    fun s f a hlit hen => shutdownNotification_shows hlit hen,
    fun s f => exec_shutdownComplete_eq,
    fun s f q sq v hrun hsq => exec_sqTailDoorbell_some hrun hsq,
    fun s f q v hrun hsq => exec_sqTailDoorbell_none hrun hsq,
    fun s f q cq v hrun hcq => exec_cqHeadDoorbell_some hrun hcq,
    fun s f q sq b hsq h => exec_commandFetch_blocked hsq ?blocked,
    fun s f q sq b hsq hrun hbme hd3 hpow hmode hfrozen hsqf hne hroom hpause hhalt hb =>
      ⟨s.fetchedCmd sq f q b, s.takeEntry sq (s.fetchedCmd sq f q b), _, rfl, rfl, rfl, rfl, rfl, rfl, rfl, rfl, rfl,
        exec_commandFetch_taken hsq ?free hb⟩⟩
  case blocked => rcases h with h | h | h | h <;> simp [State.fetchBlocked, h]
  case free =>
    simp [State.fetchBlocked, hrun, hbme, hd3, hpow, hmode, hfrozen, hsqf, hne, hroom, hpause, hhalt]

end Sys2Proof.Machine

/-! NVMe admin commands that are answered at once: Abort, Asynchronous Event Request, Get Features and Set Features (04_nvme_support.md, R129,
R132, R135, R155 to R160, R165, R167, R170). -/

namespace Sys2Proof.Machine

variable {s : State} {n : Nat} {c : Cmd}

/-! ### Fetched admin commands -/

/-- A meaning runs on the admin command that was fetched. -/
theorem State.onAdmin_of_cmd {op : Nat} {f : Cmd → State} (h : s.nvmeCmd n true op = some c) : s.onAdmin n op f = f c := by
  rw [State.onAdmin, h]

/-- A meaning of Set Features runs on the one that was fetched, if the feature is one of its own. -/
theorem State.onSet_of_cmd {fids : List Nat} {f : Cmd → State} (h : s.nvmeCmd n true 0x09 = some c) (hf : c.dw 10 % 256 ∈ fids) :
    s.onSet n fids f = f c := by
  rw [State.onSet, State.onAdmin_of_cmd h, if_pos (List.contains_iff_mem.2 hf)]

/-! ### Abort and asynchronous events (R135, R155, R156) -/

/-- The command that an Abort names by its queue and identifier. -/
def State.abortTarget (s : State) (c : Cmd) : Option Cmd :=
  s.cmds.find? fun t => t.nvme && t.fn = c.fn && t.q = c.dw 10 % 65536 && t.tag = c.dw 10 / 65536 && t.id ≠ c.id

section
variable (hc : s.nvmeCmd n true 0x08 = some c)
include hc

theorem exec_nvmeAbort_limit (h : 8 ≤ s.abortsBefore c) : exec (.nvmeAbort n) s = .next (s.finish c vAbortLimit) := by
  rw [exec_nvmeAbort, execNvmeAbort, State.onAdmin_of_cmd hc, if_pos h]

theorem exec_nvmeAbort_noTarget (h : s.abortsBefore c < 8) (hnone : s.abortTarget c = none) :
    exec (.nvmeAbort n) s = .next (s.finish c { vSuccess with dw0 := 1 }) := by
  rw [State.abortTarget] at hnone
  rw [exec_nvmeAbort, execNvmeAbort, State.onAdmin_of_cmd hc, if_neg (Nat.not_le.2 h), hnone]

theorem exec_nvmeAbort_target {t : Cmd} (h : s.abortsBefore c < 8) (hsome : s.abortTarget c = some t) : exec (.nvmeAbort n) s
    = .next (if t.abortable then (s.withdraw t vAborted).finish c vSuccess else s.finish c { vSuccess with dw0 := 1 }) := by
  rw [State.abortTarget] at hsome
  rw [exec_nvmeAbort, execNvmeAbort, State.onAdmin_of_cmd hc, if_neg (Nat.not_le.2 h), hsome]

end

section
variable (hc : s.nvmeCmd n true 0x0C = some c)
include hc

theorem exec_asyncEventRequest_waiting {e : Nat × Nat × Nat × Nat} (h : (s.asyncWaiting.find? fun e => e.1 = c.fn) = some e) :
    exec (.asyncEventRequest n) s = .next (({ s with asyncWaiting := s.asyncWaiting.erase e } : State).finish c
      { vSuccess with dw0 := e.2.1 + 256 * e.2.2.1 + 65536 * e.2.2.2 }) := by
  rw [exec_asyncEventRequest, execAsyncEventRequest, State.onAdmin_of_cmd hc, h]

theorem exec_asyncEventRequest_held (h : (s.asyncWaiting.find? fun e => e.1 = c.fn) = none) : exec (.asyncEventRequest n) s
    = .next (if 16 ≤ (s.cmds.filter fun x => x.nvme && x.fn = c.fn && x.q = 0 && x.op = 0x0C && x.st = .admitted).length then
        s.finish c vAerLimit else s.setCmd { c with st := .admitted }) := by
  rw [exec_asyncEventRequest, execAsyncEventRequest, State.onAdmin_of_cmd hc, h]

end

/-! ### Get Features (R132, R165, R167) -/

section
variable (hc : s.nvmeCmd n true 0x0A = some c)
include hc

theorem exec_getFeatures_value {o : Option Nat} (hts : c.dw 10 % 256 ≠ 0x0E) (hqa : c.dw 10 % 256 ≠ 0xC1)
    (ho : s.featureValue c.fn (c.dw 10 % 256) (c.dw 11) = o) :
    exec (.getFeatures n) s = .next (s.finish c (o.elim vInvalidField fun v => { vSuccess with dw0 := v })) := by
  rw [exec_getFeatures, execGetFeatures, State.onAdmin_of_cmd hc, if_neg (by simp [hts, hqa]), ho]
  cases o <;> rfl

theorem exec_getFeaturesTimestamp_sends (hts : c.dw 10 % 256 = 0x0E) :
    exec (.getFeaturesTimestamp n) s = .next ((s.sendData c 0 s.timestampData).finish c vSuccess) := by
  rw [exec_getFeaturesTimestamp, execGetFeaturesTimestamp, State.onAdmin_of_cmd hc, if_pos hts]

theorem exec_getFeaturesQueueAttributes_value {v : Nat} (hqa : c.dw 10 % 256 = 0xC1)
    (hv : s.featureValue c.fn 0xC1 (c.dw 11) = some v) :
    exec (.getFeaturesQueueAttributes n) s = .next (s.finish c { vSuccess with dw0 := v }) := by
  rw [exec_getFeaturesQueueAttributes, execGetFeaturesQueueAttributes, State.onAdmin_of_cmd hc, if_neg (not_not.2 hqa), hv]

end

/-- Settles O26: each command by its law above. That an Abort reaches no admin command but a waiting Asynchronous Event Request, and the
count that Timestamp shows while the calendar is invalid (log entry 74), and the status codes of NVMe Base (log entry 20) are choices of the
model. -/
theorem abortEventsAndGetFeatures : Obligations.AbortEventsAndGetFeatures := by
  unfold Obligations.AbortEventsAndGetFeatures
  exact ⟨fun s n c hc h => exec_nvmeAbort_limit hc h,
    fun s n c hc h hnone => exec_nvmeAbort_noTarget hc h hnone,
    fun s n c t hc h hsome => exec_nvmeAbort_target hc h hsome,
    fun s n c e hc he => exec_asyncEventRequest_waiting hc he,
    fun s n c hc hnone => exec_asyncEventRequest_held hc hnone,
    fun s n c v hc hts hqa hv => exec_getFeatures_value hc hts hqa hv,
    fun s n c hc hts hqa hnone => exec_getFeatures_value hc hts hqa hnone,
    fun s n c hc hts => exec_getFeaturesTimestamp_sends hc hts,
    fun s c b => rfl,
    fun s n c v hc hqa hv => exec_getFeaturesQueueAttributes_value hc hqa hv⟩

/-! ### Set Features (R129, R132, R157 to R160, R165, R167, R170) -/

section
variable (hc : s.nvmeCmd n true 0x09 = some c)
include hc

theorem exec_setFeaturesArbitration_stores (hf : c.dw 10 % 256 = 0x01) : exec (.setFeaturesArbitration n) s
    = .next ((s.put .X_FEAT_ARB (c.dw 11 - c.dw 11 / 8 % 32 * 8) c.fn).finish c vSuccess) := by
  rw [exec_setFeaturesArbitration, execSetFeaturesArbitration, State.onSet_of_cmd hc (by simp [hf])]
  rfl

theorem exec_setFeaturesPowerManagement_tooHigh (hf : c.dw 10 % 256 = 0x02) (hps : 4 < c.dw 11 % 32) :
    exec (.setFeaturesPowerManagement n) s = .next (s.finish c vInvalidField) := by
  rw [exec_setFeaturesPowerManagement, execSetFeaturesPowerManagement, State.onSet_of_cmd hc (by simp [hf])]
  exact congrArg _ (if_pos hps)

/-- With a command outstanding no entry starts, and the command completes at once. -/
theorem exec_setFeaturesPowerManagement_busy {t : State} (hf : c.dw 10 % 256 = 0x02) (hps : c.dw 11 % 32 ≤ 2)
    (ht : t = ((s.put .X_FEAT_PS (c.dw 11 % 32) c.fn).put .X_FEAT_LASTOP (c.dw 11 % 32) c.fn).noteDemand s) (hbusy : t.anyBusy = true) :
    exec (.setFeaturesPowerManagement n) s = .next (t.finish c vSuccess) := by
  rw [exec_setFeaturesPowerManagement, execSetFeaturesPowerManagement, State.onSet_of_cmd hc (by simp [hf])]
  simp [show ¬4 < c.dw 11 % 32 by omega, hps, ← ht, hbusy]

/-- The sensors that a temperature threshold names, and the threshold set for each. -/
theorem exec_setFeaturesTemperatureThreshold_stores {l : List Nat} (hf : c.dw 10 % 256 = 0x04)
    (hsel : c.dw 11 / 65536 % 16 ≤ 3 ∧ l = [c.dw 11 / 65536 % 16] ∨ c.dw 11 / 65536 % 16 = 15 ∧ l = [0, 1, 2, 3])
    (hth : c.dw 11 / 2 ^ 20 % 4 ≤ 1) : exec (.setFeaturesTemperatureThreshold n) s
    = .next ((forEach l s fun k t => t.put .X_FEAT_TT (c.dw 11 % 65536) (c.fn * 8 + k * 2 + c.dw 11 / 2 ^ 20 % 4)).finish c vSuccess) := by
  rw [exec_setFeaturesTemperatureThreshold, execSetFeaturesTemperatureThreshold, State.onSet_of_cmd hc (by simp [hf])]
  have hl : (if c.dw 11 / 65536 % 16 = 15 then [0, 1, 2, 3] else [c.dw 11 / 65536 % 16]) = l := by
    rcases hsel with ⟨hsel, rfl⟩ | ⟨hsel, rfl⟩
    · exact if_neg (by omega)
    · exact if_pos hsel
  rw [← hl]
  refine congrArg _ (if_neg ?_)
  change ¬((3 < c.dw 11 / 65536 % 16 ∧ c.dw 11 / 65536 % 16 ≠ 15) ∨ 1 < c.dw 11 / 2 ^ 20 % 4)
  omega

theorem exec_setFeaturesTemperatureThreshold_refused (hf : c.dw 10 % 256 = 0x04)
    (h : (3 < c.dw 11 / 65536 % 16 ∧ c.dw 11 / 65536 % 16 ≠ 15) ∨ 1 < c.dw 11 / 2 ^ 20 % 4) :
    exec (.setFeaturesTemperatureThreshold n) s = .next (s.finish c vInvalidField) := by
  rw [exec_setFeaturesTemperatureThreshold, execSetFeaturesTemperatureThreshold, State.onSet_of_cmd hc (by simp [hf])]
  exact congrArg _ (if_pos h)

theorem exec_setFeaturesErrorRecovery_eq (hf : c.dw 10 % 256 = 0x05) : exec (.setFeaturesErrorRecovery n) s
    = .next (if bit (c.dw 11) 16 then s.finish c vInvalidField
      else (s.put .X_TLER (min (c.dw 11 % 65536) (s.get .MC_RI_CFG_CMD_MAX)) c.fn).finish c vSuccess) := by
  rw [exec_setFeaturesErrorRecovery, execSetFeaturesErrorRecovery, State.onSet_of_cmd hc (by simp [hf])]

theorem exec_setFeaturesInterruptConfig_coalescing (hf : c.dw 10 % 256 = 0x08) : exec (.setFeaturesInterruptConfig n) s
    = .next ((s.put .X_FEAT_IC (c.dw 11 % 65536) c.fn).finish c vSuccess) := by
  rw [exec_setFeaturesInterruptConfig, execSetFeaturesInterruptConfig, State.onSet_of_cmd hc (by simp [hf])]
  exact congrArg _ (if_pos hf)

theorem exec_setFeaturesInterruptConfig_vector (hf : c.dw 10 % 256 = 0x09) : exec (.setFeaturesInterruptConfig n) s
    = .next (if 2047 < c.dw 11 % 65536 then s.finish c vInvalidField
      else (s.putFlag .X_FEAT_IVC (bit (c.dw 11) 16) (c.fn * 2048 + c.dw 11 % 65536)).finish c vSuccess) := by
  rw [exec_setFeaturesInterruptConfig, execSetFeaturesInterruptConfig, State.onSet_of_cmd hc (by simp [hf])]
  exact congrArg _ (if_neg (by omega))

theorem exec_setFeaturesAsyncEventConfig_stores (hf : c.dw 10 % 256 = 0x0B) : exec (.setFeaturesAsyncEventConfig n) s
    = .next ((s.put .X_FEAT_AEC (if c.fn = 0 then c.dw 11 else c.dw 11 % 2 ^ 31) c.fn).finish c vSuccess) := by
  rw [exec_setFeaturesAsyncEventConfig, execSetFeaturesAsyncEventConfig, State.onSet_of_cmd hc (by simp [hf])]

theorem exec_setFeaturesTimestamp_refused (hf : c.dw 10 % 256 = 0x0E) :
    exec (.setFeaturesTimestamp n) s = .next (s.finish c vInvalidField) := by
  rw [exec_setFeaturesTimestamp, execSetFeaturesTimestamp, State.onSet_of_cmd hc (by simp [hf])]

section
variable (hf : c.dw 10 % 256 = 0xC1)
include hf

theorem exec_setFeaturesQueueAttributes_noQueue (h : c.dw 11 % 65536 = 0 ∨ 128 < c.dw 11 % 65536) :
    exec (.setFeaturesQueueAttributes n) s = .next (s.finish c vInvalidField) := by
  rw [exec_setFeaturesQueueAttributes, execSetFeaturesQueueAttributes, State.onSet_of_cmd hc (by simp [hf])]
  exact congrArg _ (if_pos (h.imp_right Or.inl))

theorem exec_setFeaturesQueueAttributes_named (hpos : c.dw 11 % 65536 ≠ 0) (hle : c.dw 11 % 65536 ≤ 128)
    (hcls : c.dw 11 / 65536 % 4 ≠ 3) (hbit : bit (c.dw 11) 19 = false) (hrsv : c.dw 11 / 2 ^ 28 = 0) :
    exec (.setFeaturesQueueAttributes n) s = .next (if (s.sq? c.fn (c.dw 11 % 65536)).isSome then s.finish c vSequence
      else (s.put .X_FEAT_QATTR (c.dw 11 - c.dw 11 % 65536) (c.fn * 256 + c.dw 11 % 65536)).finish c vSuccess) := by
  rw [exec_setFeaturesQueueAttributes, execSetFeaturesQueueAttributes, State.onSet_of_cmd hc (by simp [hf])]
  refine congrArg _ (if_neg ?_)
  rintro (h | h | h | h | h)
  · exact hpos h
  · omega
  · exact hcls h
  · exact Bool.false_ne_true (hbit.symm.trans h)
  · exact h hrsv

end

section
variable (hf : c.dw 10 % 256 = 0x07) (hsq : c.dw 11 % 65536 ≠ 65535) (hcq : c.dw 11 / 65536 ≠ 65535)
include hf hsq hcq

theorem exec_setFeaturesNumberOfQueues_late (h : (s.sqs.any fun q => q.fn = c.fn && q.qid ≠ 0) = true) :
    exec (.setFeaturesNumberOfQueues n) s = .next (s.finish c vSequence) := by
  rw [exec_setFeaturesNumberOfQueues, execSetFeaturesNumberOfQueues, State.onSet_of_cmd hc (by simp [hf])]
  refine congrArg _ ((if_neg ?_).trans (if_pos ?_))
  · exact not_or.2 ⟨hsq, hcq⟩
  · rw [h, Bool.true_or]

/-- The grant is at most what is asked, 128, and what is free. -/
theorem exec_setFeaturesNumberOfQueues_grants (hnosq : (s.sqs.any fun q => q.fn = c.fn && q.qid ≠ 0) = false)
    (hnocq : (s.cqs.any fun q => q.fn = c.fn && q.qid ≠ 0) = false) (hfree : s.poolFree c.fn ≠ 0) : ∃ a b,
    a + 1 = min (c.dw 11 % 65536 + 1) (min 128 (s.poolFree c.fn)) ∧ b + 1 = min (c.dw 11 / 65536 + 1) (min 128 (s.poolFree c.fn))
      ∧ exec (.setFeaturesNumberOfQueues n) s = .next ((((s.put .X_NSQA a c.fn).put .X_NCQA b c.fn).put .X_POOL_HELD (max a b + 1) c.fn).finish c
        { vSuccess with dw0 := a + 65536 * b }) := by
  refine ⟨min (c.dw 11 % 65536 + 1) (min 128 (s.poolFree c.fn)) - 1, min (c.dw 11 / 65536 + 1) (min 128 (s.poolFree c.fn)) - 1,
    by omega, by omega, ?_⟩
  rw [exec_setFeaturesNumberOfQueues, execSetFeaturesNumberOfQueues, State.onSet_of_cmd hc (by simp [hf])]
  refine congrArg _ ((if_neg ?_).trans ((if_neg ?_).trans (if_neg hfree)))
  · exact not_or.2 ⟨hsq, hcq⟩
  · rw [hnosq, hnocq]
    exact Bool.false_ne_true

end

end

/-- Settles O27: each command by its law above. That a queue identifier outside 1 to 128 is an Invalid Field (log entry 74), what Number
of Queues grants (log entry 21), and the fields and codes of NVMe Base (log entry 20) are choices of the model. -/
theorem setFeaturesStoreTheirValues : Obligations.SetFeaturesStoreTheirValues := by
  unfold Obligations.SetFeaturesStoreTheirValues
  exact ⟨fun s n c hc => ⟨fun hf => exec_setFeaturesArbitration_stores hc hf,
      fun hf hps => exec_setFeaturesPowerManagement_tooHigh hc hf hps,
      fun hf hps hbusy => exec_setFeaturesPowerManagement_busy hc hf hps rfl hbusy,
      fun hf hsel hth => exec_setFeaturesTemperatureThreshold_stores hc hf (.inl ⟨hsel, rfl⟩) hth,
      fun hf hsel hth => exec_setFeaturesTemperatureThreshold_stores hc hf (.inr ⟨hsel, rfl⟩) hth,
      fun hf hsel hall => exec_setFeaturesTemperatureThreshold_refused hc hf (.inl ⟨hsel, hall⟩),
      fun hf hth => exec_setFeaturesTemperatureThreshold_refused hc hf (.inr hth),
      fun hf => exec_setFeaturesErrorRecovery_eq hc hf,
      fun hf hany hsq hcq => exec_setFeaturesNumberOfQueues_late hc hf hsq hcq hany,
      fun hf => exec_setFeaturesInterruptConfig_coalescing hc hf,
      fun hf => exec_setFeaturesInterruptConfig_vector hc hf,
      fun hf => exec_setFeaturesAsyncEventConfig_stores hc hf,
      fun hf => exec_setFeaturesTimestamp_refused hc hf,
      fun hf h => exec_setFeaturesQueueAttributes_noQueue hc hf h⟩,
    fun s n c hc hf hsq hcq hnosq hnocq hfree => exec_setFeaturesNumberOfQueues_grants hc hf hsq hcq hnosq hnocq hfree,
    fun s n c hc hf hpos hle hcls hbit hrsv => exec_setFeaturesQueueAttributes_named hc hf hpos hle hcls hbit hrsv⟩

end Sys2Proof.Machine

/-! Namespaces and formats: Namespace Management, Namespace Attachment, Format NVM (04_nvme_support.md, R137, R140 to R142, R145 to R149). -/

namespace Sys2Proof.Machine

variable {s : State} {n : Nat} {c : Cmd}

/-! ### Namespace Management (R137, R140, R142, R145, R268) -/

/-- The LBA format that the data of a Create name. -/
def createLbaf (data : List Byte) : Nat := fieldAt data 26 1 % 16 + bits (fieldAt data 26 1) 6 5 * 16

/-- The size in 4 KiB units that they ask for; rounding it up is the model's choice (log entry 21). -/
def createSize (data : List Byte) : Nat := (fieldAt data 0 8 * lbaBytes (createLbaf data) + 4095) / 4096

/-- The volume that a Create makes: writable and attached to nothing. -/
def createdVolume (data : List Byte) (id : Nat) : Node :=
  ⟨id, false, false, createSize data, fieldAt data 3072 1, fieldAt data 3073 1, createLbaf data,
    bit (fieldAt data 26 1) 4 && lbaMeta (createLbaf data) ≠ 0, fieldAt data 29 1 % 8, true, false, [], 0, [], none⟩

/-- The data of a Create keep within what R140 and R145 allow of each field. -/
structure State.CreateFields (s : State) (data : List Byte) : Prop where
  size : fieldAt data 0 8 ≠ 0
  granule : fieldAt data 3072 1 ≤ 2
  offered : s.granuleOffered (fieldAt data 3072 1) = true
  codec : fieldAt data 3073 1 ≤ 1
  pi : piOk (fieldAt data 29 1 % 8) (bit (fieldAt data 29 1) 3) = true

theorem State.CreateFields.notInvalid {data : List Byte} (h : s.CreateFields data) :
    ¬(2 < fieldAt data 3072 1 ∨ 1 < fieldAt data 3073 1 ∨ (!s.granuleOffered (fieldAt data 3072 1)) = true ∨ fieldAt data 0 8 = 0
      ∨ (!piOk (fieldAt data 29 1 % 8) (bit (fieldAt data 29 1) 3)) = true) := by
  simp [h.size, h.granule, h.offered, h.codec, h.pi]

section
variable (hc : s.nvmeCmd n true 0x0D = some c) (hsan : s.sanVerdict = none)
include hc hsan

section
variable {data : List Byte} (hsel : c.dw 10 % 16 = 0) (hok : s.CreateFields data)
include hsel hok

theorem exec_namespaceManagementCreate_thin (hcap : fieldAt data 8 8 ≠ fieldAt data 0 8) :
    exec (.namespaceManagementCreate n data) s = .next (s.finish c vThinProvisioning) := by
  rw [exec_namespaceManagementCreate, execNamespaceManagementCreate, State.onAdmin_of_cmd hc, if_neg (not_not.2 hsel), hsan]
  exact congrArg _ ((if_neg hok.notInvalid).trans (if_pos hcap))

theorem exec_namespaceManagementCreate_pf0 {id : Nat} (hfn : c.fn = 0) (hcap : fieldAt data 8 8 = fieldAt data 0 8)
    (hlbaf : lbafOk (createLbaf data) (fieldAt data 3072 1) (fieldAt data 3073 1) = true)
    (hmeta : fieldAt data 29 1 % 8 = 0 ∨ lbaMeta (createLbaf data) ≠ 0) (hsize : createSize data ≤ 2 ^ 40) (hid : s.freeNode = some id) :
    exec (.namespaceManagementCreate n data) s
      = .next (((s.addNode (createdVolume data id)).newKey id 0).finish c { vSuccess with dw0 := id + 1 }) := by
  rw [exec_namespaceManagementCreate, execNamespaceManagementCreate, State.onAdmin_of_cmd hc, if_neg (not_not.2 hsel), hsan]
  refine congrArg _ ((if_neg hok.notInvalid).trans ((if_neg (not_not.2 hcap)).trans ((if_neg ?format).trans ((if_neg ?large).trans ?_))))
  case format =>
    rintro (h | ⟨hpi, hnone⟩)
    · exact Bool.false_ne_true ((congrArg Bool.not hlbaf).symm.trans h)
    · exact hmeta.elim hpi fun hsome => hsome hnone
  case large => exact Nat.not_lt.2 hsize
  simp only [hid, hfn, ne_eq, not_true_eq_false, false_and, if_false, if_true]
  rfl

end

theorem exec_namespaceManagementDelete_denied {v : Result} (hsel : c.dw 10 % 16 = 1) (hadm : s.adminVerdict c = some v) :
    exec (.namespaceManagementDelete n) s = .next (s.finish c v) := by
  rw [exec_namespaceManagementDelete, execNamespaceManagementDelete, State.onAdmin_of_cmd hc, if_neg (not_not.2 hsel), hsan, hadm]

theorem exec_namespaceManagementDelete_allowed (hsel : c.dw 10 % 16 = 1) (hadm : s.adminVerdict c = none)
    (hvol : (s.inStack (c.dw 1 - 1) || s.armedAdds (c.dw 1 - 1)) = false → s.isVolume (c.dw 1 - 1) = true ∧ s.notReady (c.dw 1 - 1) = false) :
    exec (.namespaceManagementDelete n) s = .next (if s.inStack (c.dw 1 - 1) || s.armedAdds (c.dw 1 - 1) then s.finish c vNodeInStack
      else ((s.setCmd { c with st := .admitted, node := c.dw 1 - 1 }).beginDeletion (c.dw 1 - 1) 65 0).notifyChange (c.dw 1 - 1)) := by
  rw [exec_namespaceManagementDelete, execNamespaceManagementDelete, State.onAdmin_of_cmd hc, if_neg (not_not.2 hsel), hsan, hadm]
  cases hstack : s.inStack (c.dw 1 - 1) || s.armedAdds (c.dw 1 - 1) with
  | true => exact congrArg _ (if_pos hstack)
  | false =>
    obtain ⟨hv, hr⟩ := hvol hstack
    simp [hstack, hv, hr]

end

/-! ### Namespace Attachment (R137, R141, R146, R256) -/

/-- A namespace that changed is listed for a controller, which is told where it asks to be. -/
def State.tellAttached (s : State) (id f : Nat) : State :=
  let u := s.putFlag .X_NSCHG true (f * 4096 + id)
  if bit (u.get .X_FEAT_AEC f) 8 then u.asyncEvent f 2 0 0x04 else u

section
variable {x : Node} (hc : s.nvmeCmd n true 0x15 = some c) (hsan : s.sanVerdict = none) (hadm : s.adminVerdict c = none)
  (hx : s.node? (c.dw 1 - 1) = some x)
include hc hsan hadm hx

theorem exec_namespaceAttachment_notReady {l : List Nat} (hsel : c.dw 10 % 16 ≤ 1) (hfmt : x.formatting.isSome = true) :
    exec (.namespaceAttachment n l) s = .next (s.finish c vNotReady) := by
  rw [exec_namespaceAttachment, execNamespaceAttachment, State.onAdmin_of_cmd hc]
  simp only [hsan, hadm, hx]
  exact congrArg _ ((if_neg (Nat.not_lt.2 hsel)).trans (if_pos hfmt))

section
variable {f : Nat} (hfmt : x.formatting = none) (hf : s.fnExists f = true)
include hfmt hf

theorem exec_namespaceAttachment_attach (hsel : c.dw 10 % 16 = 0) (hmix : s.mixed (c.dw 1 - 1) = false)
    (hnew : f ∉ x.attached) : exec (.namespaceAttachment n [f]) s
    = .next ((((s.setNode { x with attached := x.attached ++ [f] }).journal 0x1B (c.dw 1 - 1) (f + 512) 0).tellAttached (c.dw 1 - 1) f).finish c
        vSuccess) := by
  rw [exec_namespaceAttachment, execNamespaceAttachment, State.onAdmin_of_cmd hc]
  simp [hsan, hadm, hx, hsel, hfmt, hf, hmix, hnew, List.eraseDups_cons, State.tellAttached]

theorem exec_namespaceAttachment_detach (hsel : c.dw 10 % 16 = 1) (hold : f ∈ x.attached) :
    exec (.namespaceAttachment n [f]) s
      = .next ((((s.setNode { x with attached := x.attached.filter fun g => !([f].contains g) }).journal 0x1B (c.dw 1 - 1) f 0).tellAttached
          (c.dw 1 - 1) f).finish c vSuccess) := by
  rw [exec_namespaceAttachment, execNamespaceAttachment, State.onAdmin_of_cmd hc]
  simp [hsan, hadm, hx, hsel, hfmt, hf, hold, List.eraseDups_cons, State.tellAttached]

theorem exec_namespaceAttachment_notAttached (hsel : c.dw 10 % 16 = 1) (hnew : f ∉ x.attached) :
    exec (.namespaceAttachment n [f]) s = .next (s.finish c vNotAttached) := by
  rw [exec_namespaceAttachment, execNamespaceAttachment, State.onAdmin_of_cmd hc]
  simp [hsan, hadm, hx, hsel, hfmt, hf, hnew, List.eraseDups_cons]

end

end

/-- Settles O29: each command by its law above. That NCAP other than NSZE is Thin Provisioning Not Supported and that a size rounds up to
4 KiB (log entry 21), and the layouts and codes of NVMe Base (log entry 20), are choices of the model. -/
theorem namespacesAreCreatedDeletedAttached : Obligations.NamespacesAreCreatedDeletedAttached := by
  unfold Obligations.NamespacesAreCreatedDeletedAttached
  refine ⟨?create, fun s n c data hc hsel hsan hsize hpi hcap hgran hoffer hcodec =>
      exec_namespaceManagementCreate_thin hc hsan hsel ⟨hsize, hgran, hoffer, hcodec, hpi⟩ hcap,
    fun s n c hc hsel hsan hadm hvol => exec_namespaceManagementDelete_allowed hc hsan hsel hadm hvol,
    fun s n c v hc hsel hsan hadm => exec_namespaceManagementDelete_denied hc hsan hsel hadm,
    fun s n c x f hc hsan hadm hx hfmt hf hsel hmix hnew =>
      ⟨_, _, rfl, rfl, exec_namespaceAttachment_attach hc hsan hadm hx hfmt hf hsel hmix (by simpa using hnew)⟩,
    fun s n c x f hc hsan hadm hx hfmt hf hsel hnew =>
      exec_namespaceAttachment_notAttached hc hsan hadm hx hfmt hf hsel (by simpa using hnew),
    fun s n c x f hc hsan hadm hx hfmt hf hsel hold =>
      ⟨_, _, rfl, rfl, exec_namespaceAttachment_detach hc hsan hadm hx hfmt hf hsel (by simpa using hold)⟩,
    fun s n c x l hc hsan hadm hx hsel hfmt => exec_namespaceAttachment_notReady hc hsan hadm hx hsel hfmt⟩
  rintro s n c data id f dps size hc hsel hsan hfn hsize hcap rfl rfl hpi hmeta hgran hoffer hcodec hlbaf rfl hmax hid
  exact exec_namespaceManagementCreate_pf0 hc hsan hsel ⟨hsize, hgran, hoffer, hcodec, hpi⟩ hfn hcap hlbaf hmeta hmax hid

/-! ### Format NVM (R147 to R149) -/

/-- The LBA format that a Format NVM names. -/
def Cmd.formatLbaf (c : Cmd) : Nat := c.dw 10 % 16 + bits (c.dw 10) 13 12 * 16

/-- The Format has begun: it waits, its start is journalled, and the volume's pins are released. That pins still loading end as well is
the model's choice (log entry 23). -/
def State.formatBegun (s : State) (c : Cmd) : State :=
  let t := (s.setCmd { c with st := .admitted, node := c.dw 1 - 1 }).journal 0x15 (c.dw 1 - 1) (2 * bits (c.dw 10) 11 9 + 8 * c.formatLbaf) 0
  (t.releaseWithEvents fun p => p.node = c.dw 1 - 1 && p.id ≠ 0).endLoadingPins (c.dw 1 - 1)

/-- A licensed volume, or one whose data are to be erased by their key, has a new key. -/
def State.formatKeyed (s : State) (c : Cmd) : State :=
  if (s.licences.any fun l => l.node = c.dw 1 - 1) || bits (c.dw 10) 11 9 = 2 then (s.formatBegun c).rekey (c.dw 1 - 1) else s.formatBegun c

theorem State.formatKeyed_eq : s.formatKeyed c = if (s.licences.any fun l => l.node = c.dw 1 - 1) ∨ bits (c.dw 10) 11 9 = 2 then
    (s.formatBegun c).rekey (c.dw 1 - 1) else s.formatBegun c := by
  simp only [State.formatKeyed, Bool.or_eq_true, decide_eq_true_eq]

/-- A volume as the Format leaves it: of the new format, and being formatted. -/
def Node.inFormat (y : Node) (c : Cmd) : Node :=
  { y with
    lbaf := c.formatLbaf, ext := bit (c.dw 10) 4 && lbaMeta c.formatLbaf ≠ 0, pi := bits (c.dw 10) 7 5,
    formatting := some (bits (c.dw 10) 11 9) }

/-- The volume is empty and being formatted, and what the map holds of it goes. -/
def State.formatMarked (s : State) (c : Cmd) : State :=
  let v := ((s.formatKeyed c).dropDict (c.dw 1 - 1)).emptyNode (c.dw 1 - 1)
  (match v.node? (c.dw 1 - 1) with
    | some y => v.setNode (y.inFormat c)
    | none => v).startSweep ⟨c.dw 1 - 1, 0, 2 ^ 60, 2, 65, false, 0⟩

section
variable {x : Node} (hc : s.nvmeCmd n true 0x80 = some c) (hsan : s.sanVerdict = none) (hadm : s.adminVerdict c = none)
  (hx : s.node? (c.dw 1 - 1) = some x) (hvol : x.isStack = false)
include hc hsan hadm hx hvol

theorem exec_formatNvm_inStack (hstack : (s.inStack (c.dw 1 - 1) || s.armedAdds (c.dw 1 - 1)) = true) :
    exec (.formatNvm n) s = .next (s.finish c vNodeInStack) := by
  rw [exec_formatNvm, execFormatNvm, State.onAdmin_of_cmd hc]
  simp only [hsan, hadm, hx, hvol, hstack, Bool.false_eq_true, if_false, if_true]

section
variable (hout : (s.inStack (c.dw 1 - 1) || s.armedAdds (c.dw 1 - 1)) = false) (hlbaf : lbafOk c.formatLbaf x.granule x.codec = true)
include hout hlbaf

theorem exec_formatNvm_invalidSes (hses : 2 < bits (c.dw 10) 11 9) : exec (.formatNvm n) s = .next (s.finish c vInvalidField) := by
  rw [Cmd.formatLbaf] at hlbaf
  rw [exec_formatNvm, execFormatNvm, State.onAdmin_of_cmd hc]
  simp [hsan, hadm, hx, hvol, hout, hlbaf, hses]

theorem exec_formatNvm_begins (hses : bits (c.dw 10) 11 9 ≤ 2) (hpi : piOk (bits (c.dw 10) 7 5) (bit (c.dw 10) 8) = true)
    (hmeta : bits (c.dw 10) 7 5 = 0 ∨ lbaMeta c.formatLbaf ≠ 0) (hfmt : x.formatting = none) : exec (.formatNvm n) s
    = .next (if bits (c.dw 10) 11 9 = 1 then (s.formatMarked c).eraseVolume (c.dw 1 - 1) else s.formatMarked c) := by
  rw [Cmd.formatLbaf] at hlbaf hmeta
  rw [exec_formatNvm, execFormatNvm, State.onAdmin_of_cmd hc]
  simp only [hsan, hadm, hx]
  refine congrArg _ ((if_neg ?stack).trans ((if_neg ?inStack).trans ((if_neg ?format).trans ((if_neg ?field).trans ((if_neg ?metadata).trans
    ((if_neg ?ready).trans rfl))))))
  case stack => simp [hvol]
  case inStack => simp only [hout, Bool.false_eq_true, not_false_eq_true]
  case format => simp [hlbaf]
  case field => simp [Nat.not_lt.2 hses, hpi]
  case metadata => exact fun h => hmeta.elim h.1 fun hne => hne h.2
  case ready => simp [hfmt]

end

end

section
variable {x : Node} {node : Nat} (hx : s.node? node = some x)
include hx

theorem exec_formatComplete_done {t : State} {ses : Nat} (hfmt : x.formatting = some ses) (hdone : s.formatDone node ses = true)
    (ht : t = (((s.journal 0x15 node (1 + 2 * ses + 8 * x.lbaf) 0).setNode { x with formatting := none }).journalAttr x).notifyChange node) :
    exec (.formatComplete node) s
      = .next (match t.cmds.find? fun c => c.nvme && c.q = 0 && c.op = 0x80 && c.st = .admitted && c.node = node with
        | some c => t.finish c vSuccess
        | none => t) := by
  simp only [exec_formatComplete, execFormatComplete, hx, hfmt, hdone, Bool.not_true, Bool.false_eq_true, if_false, ← ht]
  generalize List.find? _ t.cmds = o
  cases o <;> rfl

theorem exec_formatComplete_stays (h : x.formatting = none ∨ ∃ ses, x.formatting = some ses ∧ s.formatDone node ses = false) :
    exec (.formatComplete node) s = .next s := by
  rcases h with hfmt | ⟨ses, hfmt, hdone⟩
  · simp [execFormatComplete, hx, hfmt]
  · simp [execFormatComplete, hx, hfmt, hdone]

end

/-- What holds of a state under whatever name it is given holds of the state itself. -/
theorem exists_eq_and_of_forall {α : Type} {a : α} {P : α → Prop} (h : ∀ t, t = a → P t) : ∃ t, t = a ∧ P t := ⟨a, rfl, h a rfl⟩

/-- Settles O30: the beginning and the end of a Format by their laws above. -/
theorem formatsRunAndEnd : Obligations.FormatsRunAndEnd := by
  unfold Obligations.FormatsRunAndEnd
  exact ⟨fun s n c x hc hsan hadm hx hvol hout hlbaf hses hpi hmeta hfmt => ⟨c.formatLbaf, bits (c.dw 10) 11 9, s.formatBegun c, s.formatKeyed c,
      _, s.formatMarked c, rfl, rfl, rfl, State.formatKeyed_eq, rfl, rfl, exec_formatNvm_begins hc hsan hadm hx hvol hout hlbaf hses hpi hmeta hfmt⟩,
    fun s n c x hc hsan hadm hx hvol hout hlow hhigh hses => exec_formatNvm_invalidSes hc hsan hadm hx hvol hout
      (by simp [Cmd.formatLbaf, lbafOk, hlow, hhigh]) hses,
    fun s n c x hc hsan hadm hx hvol hstack => exec_formatNvm_inStack hc hsan hadm hx hvol hstack,
    fun s node x ses hx hfmt hdone => exists_eq_and_of_forall fun t ht => exec_formatComplete_done hx hfmt hdone ht,
    fun s node x hx h => exec_formatComplete_stays hx h⟩

end Sys2Proof.Machine

/-! What the block tells of itself: log pages, Identify and the out-of-band management endpoint (04_nvme_support.md, R135, R171 to R177). -/

namespace Sys2Proof.Machine

variable {s : State} {n : Nat} {c : Cmd}

/-! ### Get Log Page (R171 to R174) -/

/-- A log read within its log and MDTS answers the part asked for; bytes past the end are free (log entry 42). -/
theorem State.logRead_inside {f : List Byte → State → Except Result (List Byte × State)} {l : List Byte} {u : State} (halign : c.logOff % 4 = 0)
    (hlen : c.logLen ≤ mdts) (hl : f s.takeFreeBytes.1 s.takeFreeBytes.2 = .ok (l, u)) (hoff : c.logOff ≤ l.length) :
    s.logRead c f = .ok (slice l s.takeFreeBytes.1 c.logOff c.logLen, u) := by
  rw [State.logRead, if_neg (by omega)]
  simp [hl, Nat.not_lt.2 hoff]

/-- A standard log that has content is one of those there are. -/
theorem State.lid_mem_of_standardLog {free : List Byte} {p : List Byte × State} (h : s.standardLog c free = some p) : c.lid ∈ standardLids := by
  unfold State.standardLog at h
  split at h
  case h_7 => contradiction
  all_goals simp_all [standardLids]

section
variable (hsan : s.sanVerdict = none)
include hsan

theorem State.readLog_erase (h : c.lid = 0xC0) : s.readLog c = s.readErase c := by simp [State.readLog, hsan, h]
theorem State.readLog_recorder (h : c.lid = 0xC1) : s.readLog c = s.readRecorder c := by simp [State.readLog, hsan, h]
theorem State.readLog_faults (h : c.lid = 0xC2) : s.readLog c = s.readFaults c := by simp [State.readLog, hsan, h]

theorem State.readLog_standard (h : c.lid < 0xC0) : s.readLog c = s.readStandard c := by
  rw [State.readLog, if_neg (by simp [hsan])]
  split
  case h_4 => rfl
  all_goals omega

end

section
variable (hc : s.nvmeCmd n true 0x02 = some c)
include hc

/-- During a Sanitize, and in failure mode, only the logs of NVMe Base's list are read (log entry 20). -/
theorem exec_getLogPage_sanitize {r : Result} (hsan : s.sanVerdict = some r) (hlid : c.lid ∉ [0x01, 0x02, 0x04, 0x81])
    (h : c.lid < 0xC0 ∨ 0xC2 < c.lid) : exec (.getLogPage n) s = .next (s.finish c r) := by
  have hread : s.readLog c = .error r := by
    rw [State.readLog, if_pos (by simpa [hsan, sanitizeLids] using hlid), hsan]
    rfl
  rw [exec_getLogPage, execGetLogPage, State.onAdmin_of_cmd hc, if_neg (by omega), hread]
  rfl

section
variable (hsan : s.sanVerdict = none)
include hsan

theorem exec_getLogPage_unknown (hlid : c.lid = 0) : exec (.getLogPage n) s = .next (s.finish c vInvalidLog) := by
  rw [exec_getLogPage, execGetLogPage, State.onAdmin_of_cmd hc, if_neg (by omega), State.readLog_standard hsan (by omega), State.readStandard,
    if_pos (by simp [hlid, standardLids])]
  rfl

theorem exec_getLogEraseCounts_noFamily (hlid : c.lid = 0xC0) (hfam : s.hasNsFam c.fn = false) :
    exec (.getLogEraseCounts n) s = .next (s.finish c vInvalidLog) := by
  rw [exec_getLogEraseCounts, execGetLogEraseCounts, State.onAdmin_of_cmd hc, if_pos hlid, State.readLog_erase hsan hlid, State.readErase,
    if_pos (by simp [hfam])]
  rfl

theorem exec_getLogRecorderExport_notPf0 (hlid : c.lid = 0xC1) (hfn : c.fn ≠ 0) :
    exec (.getLogRecorderExport n) s = .next (s.finish c vInvalidLog) := by
  have hread : s.readRecorder c = .error vInvalidLog := if_pos hfn
  rw [exec_getLogRecorderExport, execGetLogRecorderExport, State.onAdmin_of_cmd hc, if_pos hlid, State.readLog_recorder hsan hlid, hread]
  rfl

theorem exec_getLogFaultStatus_notPf0 (hlid : c.lid = 0xC2) (hfn : c.fn ≠ 0) :
    exec (.getLogFaultStatus n) s = .next (s.finish c vInvalidLog) := by
  rw [exec_getLogFaultStatus, execGetLogFaultStatus, State.onAdmin_of_cmd hc, if_pos hlid, State.readLog_faults hsan hlid, State.readFaults,
    if_pos hfn]
  rfl

section
variable (halign : c.logOff % 4 = 0) (hlen : c.logLen ≤ mdts)
include halign hlen

theorem exec_getLogPage_standard {l : List Byte} {u : State} (hl : s.takeFreeBytes.2.standardLog c s.takeFreeBytes.1 = some (l, u))
    (hscope : c.lid = 0x02 → c.dw 1 = 0 ∨ c.dw 1 = 0xFFFFFFFF) (hoff : c.logOff ≤ l.length) :
    exec (.getLogPage n) s = .next ((u.sendData c 0 (slice l s.takeFreeBytes.1 c.logOff c.logLen)).finish c vSuccess) := by
  have hlid := State.lid_mem_of_standardLog hl
  have hlt : c.lid < 0xC0 := by
    simp only [standardLids, List.mem_cons, List.not_mem_nil, or_false] at hlid
    omega
  rw [exec_getLogPage, execGetLogPage, State.onAdmin_of_cmd hc, if_neg (by omega), State.readLog_standard hsan hlt, State.readStandard,
    if_neg (by simpa using hlid), if_neg (fun h => (hscope h.1).elim h.2.1 h.2.2), State.logRead_inside halign hlen (by rw [hl]; rfl) hoff]
  rfl

theorem exec_getLogEraseCounts_summary (hlid : c.lid = 0xC0) (hfam : s.hasNsFam c.fn = true) (hlsi : c.lsi = 0xFFFF)
    (hoff : c.logOff ≤ s.takeFreeBytes.2.eraseSummary.length) : exec (.getLogEraseCounts n) s
    = .next ((s.takeFreeBytes.2.sendData c 0 (slice s.takeFreeBytes.2.eraseSummary s.takeFreeBytes.1 c.logOff c.logLen)).finish c vSuccess) := by
  rw [exec_getLogEraseCounts, execGetLogEraseCounts, State.onAdmin_of_cmd hc, if_pos hlid, State.readLog_erase hsan hlid, State.readErase,
    if_neg (by simp [hfam]), State.logRead_inside halign hlen (if_pos hlsi) hoff]
  rfl

theorem exec_getLogRecorderExport_snapshot (hlid : c.lid = 0xC1) (hfn : c.fn = 0) (hclear : bit c.lsp 0 = false) (hoff : c.logOff = 0) :
    exec (.getLogRecorderExport n) s = .next ((({ s.takeFreeBytes.2 with recSnap := s.takeFreeBytes.2.recImage } : State).sendData c 0
      (slice s.takeFreeBytes.2.recImage s.takeFreeBytes.1 0 c.logLen)).finish c vSuccess) := by
  rw [exec_getLogRecorderExport, execGetLogRecorderExport, State.onAdmin_of_cmd hc, if_pos hlid, State.readLog_recorder hsan hlid,
    State.readRecorder]
  simp only [hfn, hclear, hoff, ne_eq, not_true_eq_false, Bool.false_and, Bool.false_eq_true, if_false, if_true]
  rw [State.logRead_inside halign hlen rfl (by omega), hoff]
  rfl

theorem exec_getLogFaultStatus_pf0 (hlid : c.lid = 0xC2) (hfn : c.fn = 0) (hoff : c.logOff ≤ s.takeFreeBytes.2.faultLog.length) :
    exec (.getLogFaultStatus n) s
      = .next ((s.takeFreeBytes.2.sendData c 0 (slice s.takeFreeBytes.2.faultLog s.takeFreeBytes.1 c.logOff c.logLen)).finish c vSuccess) := by
  rw [exec_getLogFaultStatus, execGetLogFaultStatus, State.onAdmin_of_cmd hc, if_pos hlid, State.readLog_faults hsan hlid, State.readFaults,
    if_neg (not_not.2 hfn), State.logRead_inside halign hlen rfl hoff]
  rfl

end

end

end

theorem State.standardLog_firmware {free : List Byte} (h : c.lid = 0x03) : s.standardLog c free = some (s.firmwareLog, s) := by
  simp only [State.standardLog, h]

theorem State.standardLog_sanitize {free : List Byte} (h : c.lid = 0x81) : s.standardLog c free = some (s.sanitizeLog free, s) := by
  simp only [State.standardLog, h]

/-! ### Identify (R135) -/

theorem State.identifyData_namespaces {free : List Byte} (h : c.dw 10 % 256 = 0x02) (hid : c.dw 1 < 0xFFFFFFFE) :
    s.identifyData c free = .ok (nsList (s.nodeIds fun x => x.attached.contains c.fn) (c.dw 1)) := by
  simp only [State.identifyData, h, if_neg (Nat.not_le.2 hid)]

theorem State.identifyData_controller {free : List Byte} (h : c.dw 10 % 256 = 0x01) : s.identifyData c free = .ok (s.identifyCtrl c.fn free) := by
  simp only [State.identifyData, h]

theorem State.identifyData_unknown {free : List Byte} (h : c.dw 10 % 256 = 0x20) : s.identifyData c free = .error vInvalidField := by
  simp only [State.identifyData, h]

section
variable (hc : s.nvmeCmd n true 0x06 = some c)
include hc

theorem exec_identify_data {l : List Byte} (h : s.takeFreeBytes.2.identifyData c s.takeFreeBytes.1 = .ok l) :
    exec (.identify n) s = .next ((s.takeFreeBytes.2.sendData c 0 l).finish c vSuccess) := by
  rw [exec_identify, execIdentify, State.onAdmin_of_cmd hc, State.identify]
  simp only [h]
  rfl

theorem exec_identify_refused {r : Result} (h : s.takeFreeBytes.2.identifyData c s.takeFreeBytes.1 = .error r) :
    exec (.identify n) s = .next (s.finish c r) := by
  rw [exec_identify, execIdentify, State.onAdmin_of_cmd hc, State.identify]
  simp only [h]
  rfl

end

/-- Settles O32: each log and structure by its law above. The logs that a Sanitize leaves readable (log entry 20) and the free bytes past
the end of a log (log entry 42) are choices of the model. -/
theorem logPagesAndIdentifyAnswer : Obligations.LogPagesAndIdentifyAnswer := by
  unfold Obligations.LogPagesAndIdentifyAnswer
  exact ⟨fun s n c hc halign hlen hsan => ⟨s.takeFreeBytes.2, rfl,
      fun l u hl hscope hoff => exec_getLogPage_standard hc hsan halign hlen hl hscope hoff,
      fun hlid => State.standardLog_firmware hlid,
      fun hlid => State.standardLog_sanitize hlid,
      fun hlid => exec_getLogPage_unknown hc hsan hlid,
      fun hlid hfam => exec_getLogEraseCounts_noFamily hc hsan hlid hfam,
      fun hlid hfam hlsi hoff => exec_getLogEraseCounts_summary hc hsan halign hlen hlid hfam hlsi hoff,
      fun hlid hfn => exec_getLogRecorderExport_notPf0 hc hsan hlid hfn,
      fun hlid hfn hclear hoff => exec_getLogRecorderExport_snapshot hc hsan halign hlen hlid hfn hclear hoff,
      fun hlid hfn => exec_getLogFaultStatus_notPf0 hc hsan hlid hfn,
      fun hlid hfn hoff => exec_getLogFaultStatus_pf0 hc hsan halign hlen hlid hfn hoff⟩,
    fun s n c r hc hsan hlid h => exec_getLogPage_sanitize hc hsan hlid h,
    fun s n c hc => ⟨s.takeFreeBytes.2, rfl,
      fun hcns hid => exec_identify_data hc (State.identifyData_namespaces hcns hid),
      fun hcns => exec_identify_data hc (State.identifyData_controller hcns),
      fun l hl => exec_identify_data hc hl,
      fun hcns => exec_identify_refused hc (State.identifyData_unknown hcns)⟩⟩

/-! ### Structures laid over free bytes -/

@[simp] theorem layOver_length {free : List Byte} {k : Nat} {fields : List (Nat × List Byte)} : (layOver free k fields).length = k := by
  simp [layOver]

theorem layOver_getElem? {free : List Byte} {k i : Nat} {fields : List (Nat × List Byte)} (h : i < k) : (layOver free k fields)[i]?
    = some ((fields.findSome? fun f => if f.1 ≤ i then f.2[i - f.1]? else none).getD (free.getD i 0)) := by
  simp [layOver, h]

/-! ### The out-of-band endpoint (R175 to R177) -/

theorem State.onMi_ready {f : State → State} (hpow : s.powered = true) (hmode : s.mode = mReady) : s.onMi f = f s := by
  simp [State.onMi, hpow, hmode, mReady, mRetain, mHoldup]

theorem State.onMi_off {f : State → State} (h : s.powered = false ∨ s.mode = mHoldup) : s.onMi f = s :=
  if_neg (by rcases h with h | h <;> simp [h])

section
variable (hpow : s.powered = true) (hmode : s.mode = mReady)
include hpow hmode

theorem exec_miReadDataStructure_ready : exec .miReadDataStructure s = .next (s.takeFreeBytes.2.emit (.mi miOk s.takeFreeBytes.1)) := by
  rw [exec_miReadDataStructure, execMiReadDataStructure, State.onMi_ready hpow hmode]
  rfl

theorem exec_miSubsystemHealthPoll_ready : exec .miSubsystemHealthPoll s
    = .next (s.takeFreeBytes.2.emit (.mi miOk (layOver s.takeFreeBytes.1 8
      [s.takeFreeBytes.2.smartInverted s.takeFreeBytes.1 1, (2, [tempByte (s.takeFreeBytes.2.sensorK.getD 0 0)])]))) := by
  rw [exec_miSubsystemHealthPoll, execMiSubsystemHealthPoll, State.onMi_ready hpow hmode]

theorem exec_miControllerHealthPoll_ready : exec .miControllerHealthPoll s
    = .next (s.takeFreeBytes.2.emit (.mi miOk (((List.range 264).filter s.takeFreeBytes.2.fnExists).flatMap
      (s.takeFreeBytes.2.miController s.takeFreeBytes.1)))) := by
  rw [exec_miControllerHealthPoll, execMiControllerHealthPoll, State.onMi_ready hpow hmode]

theorem exec_miVpdRead_ready {len : Nat} :
    exec (.miVpdRead len) s = .next (s.takeFreeBytes.2.emit (.mi miOk (layOver s.takeFreeBytes.1 len []))) := by
  rw [exec_miVpdRead, execMiVpdRead, State.onMi_ready hpow hmode]

/-- The status of the refusal is open, but it is no success (log entry 22). -/
theorem exec_miVpdWrite_ready : exec .miVpdWrite s = .next (s.takeFree.2.emit (.mi (s.takeFree.1 % 255 + 1) [])) := by
  rw [exec_miVpdWrite, execMiVpdWrite, State.onMi_ready hpow hmode]

theorem exec_basicManagementCommand_ready : exec .basicManagementCommand s
    = .next (s.takeFreeBytes.2.emit (.mi miOk (layOver s.takeFreeBytes.1 32 [(0, [6]), s.takeFreeBytes.2.smartInverted s.takeFreeBytes.1 2,
      (3, [tempByte (s.takeFreeBytes.2.sensorK.getD 0 0)]), (8, [22, 0x1F, 0xC7])]))) := by
  rw [exec_basicManagementCommand, execBasicManagementCommand, State.onMi_ready hpow hmode]

theorem exec_miConfigurationGet_ready {i : Nat} : exec (.miConfigurationGet i) s = .next (s.emit (match i with
    | 1 => .mi miOk (natLe 3 (s.get .X_MI_FREQ))
    | 3 => .mi miOk (natLe 3 (s.get .X_MI_MTU))
    | _ => .mi miInvalidParameter [])) :=
  congrArg Host.Outcome.next (State.onMi_ready hpow hmode)

theorem exec_miConfigurationSet_frequency {v : Nat} (hlo : 1 ≤ v) (hhi : v ≤ 3) :
    exec (.miConfigurationSet 1 v) s = .next ((s.put .X_MI_FREQ v).emit (.mi miOk [])) := by
  rw [exec_miConfigurationSet, execMiConfigurationSet, State.onMi_ready hpow hmode, if_pos ⟨rfl, hlo, hhi⟩]

theorem exec_miConfigurationSet_unitSize {v : Nat} (hlo : 64 ≤ v) (hhi : v < 65536) :
    exec (.miConfigurationSet 3 v) s = .next ((s.put .X_MI_MTU v).emit (.mi miOk [])) := by
  rw [exec_miConfigurationSet, execMiConfigurationSet, State.onMi_ready hpow hmode, if_neg (by omega), if_pos ⟨rfl, hlo, hhi⟩]

theorem exec_miConfigurationSet_refused {i v : Nat} (h : i ≠ 1 ∧ i ≠ 3 ∨ i = 1 ∧ (v = 0 ∨ 3 < v) ∨ i = 3 ∧ v < 64) :
    exec (.miConfigurationSet i v) s = .next (s.emit (.mi miInvalidParameter [])) := by
  rw [exec_miConfigurationSet, execMiConfigurationSet, State.onMi_ready hpow hmode, if_neg (by omega), if_neg (by omega)]

theorem exec_miTunneledAdmin_feature {b : List Byte} {v : Nat} (hc : c = newCmd 0 true 0 0 0 (fieldAt b 0 1) s.tick b) (hop : c.op = 0x0A)
    (hts : c.dw 10 % 256 ≠ 0x0E) (hv : s.featureValue 0 (c.dw 10 % 256) (c.dw 11) = some v) :
    exec (.miTunneledAdmin b) s = .next (s.emit (.mi 0 (natLe 4 v))) := by
  rw [exec_miTunneledAdmin, execMiTunneledAdmin, State.onMi_ready hpow hmode]
  simp only [← hc, hop, hts, if_false, hv]

theorem exec_miTunneledAdmin_opcode {b : List Byte} (hc : c = newCmd 0 true 0 0 0 (fieldAt b 0 1) s.tick b) (hfeat : c.op ≠ 0x0A)
    (hlog : c.op ≠ 0x02) (hid : c.op ≠ 0x06) : exec (.miTunneledAdmin b) s = .next (s.emit (.mi miInvalidOpcode [])) := by
  rw [exec_miTunneledAdmin, execMiTunneledAdmin, State.onMi_ready hpow hmode]
  simp only [← hc]

end

/-- Settles O33: each command by its law above. The structures and identifiers, and the status of a refused VPD Write, are choices of the
model (log entry 22). -/
theorem managementEndpointAnswers : Obligations.ManagementEndpointAnswers := by
  unfold Obligations.ManagementEndpointAnswers
  refine ⟨fun s hpow hmode => ⟨s.takeFreeBytes.2, rfl, exec_miReadDataStructure_ready hpow hmode, exec_miSubsystemHealthPoll_ready hpow hmode,
      exec_miControllerHealthPoll_ready hpow hmode, fun len => ⟨_, layOver_length, exec_miVpdRead_ready hpow hmode⟩,
      ⟨_, by omega, by omega, exec_miVpdWrite_ready hpow hmode⟩,
      ⟨_, layOver_length, ?size, ?temperature, ?vendorLow, ?vendorHigh, exec_basicManagementCommand_ready hpow hmode⟩⟩,
    fun s hpow hmode => ⟨exec_miConfigurationGet_ready hpow hmode, exec_miConfigurationGet_ready hpow hmode,
      exec_miConfigurationGet_ready hpow hmode,
      fun v hlo hhi => ⟨_, exec_miConfigurationSet_frequency hpow hmode hlo hhi, ?freq, by simp, rfl, rfl⟩,
      fun v hlo hhi => ⟨_, exec_miConfigurationSet_unitSize hpow hmode hlo hhi, ?mtu, by simp, rfl, rfl⟩,
      fun i v h => exec_miConfigurationSet_refused hpow hmode h⟩,
    fun s b c v hpow hmode hc hop hts hv => exec_miTunneledAdmin_feature hpow hmode hc hop hts hv,
    fun s b c hpow hmode hc hfeat hlog hid => exec_miTunneledAdmin_opcode hpow hmode hc hfeat hlog hid,
    fun s i v b h => ⟨congrArg _ (State.onMi_off h), congrArg _ (State.onMi_off h), congrArg _ (State.onMi_off h),
      congrArg _ (State.onMi_off h)⟩⟩
  case freq => simpa using Nat.mod_eq_of_lt (show v < 2 ^ 2 by omega)
  case mtu => simpa using Nat.mod_eq_of_lt (show v < 2 ^ 16 by omega)
  all_goals
    rw [layOver_getElem? (by decide)]
    rfl

end Sys2Proof.Machine

/-! Firmware downloads and the receipt of commits (04_nvme_support.md, R163, R164; 17_firmware_update.md, R597 to R600). -/

namespace Sys2Proof.Machine

variable {s : State} {n : Nat} {c : Cmd}

/-! ### Firmware Image Download (R163, R598) -/

section
variable {b : List Byte} (hc : s.nvmeCmd n true 0x11 = some c) (hsan : s.sanVerdict = none)
include hc hsan

theorem exec_firmwareImageDownload_whole (hoff : c.dw 11 % 1024 = 0) (hlen : (c.dw 10 + 1) % 1024 = 0)
    (hend : 4 * c.dw 11 + 4 * (c.dw 10 + 1) ≤ 67108864) (hb : b.length = 4 * (c.dw 10 + 1)) : exec (.firmwareImageDownload n b) s
    = .next (({ s with pkg := s.pkg ++ [(4 * c.dw 11, b)] } : State).finish c vSuccess) := by
  rw [exec_firmwareImageDownload, execFirmwareImageDownload, State.onAdmin_of_cmd hc, hsan]
  exact congrArg _ (if_neg (by omega))

theorem exec_firmwareImageDownload_misaligned (hoff : c.dw 11 % 1024 ≠ 0) :
    exec (.firmwareImageDownload n b) s = .next (s.finish c vInvalidField) := by
  rw [exec_firmwareImageDownload, execFirmwareImageDownload, State.onAdmin_of_cmd hc, hsan]
  exact congrArg _ (if_pos (.inl (by omega)))

end

/-! ### Firmware Commit (R164, R597, R599) -/

/-- What the registers keep of a commit that begins. -/
def State.commitKept (s : State) (c : Cmd) (a : Nat) : State :=
  ((((s.put .X_FW_CMD (c.id + 1)).put .X_FW_ACT a).put .X_FW_TGT (c.dw 10 % 8)).put .X_FW_TICK (fieldAt c.raw 48 8)).putFlag .FW_STS_COMMIT_BUSY true

theorem State.beginCommit_eq {a : Nat} : s.beginCommit c a = (s.commitKept c a).setCmd { c with st := .admitted } := rfl

theorem State.get_beginCommit {a : Nat} {f : Field} : (s.beginCommit c a).get f = (s.commitKept c a).get f := rfl

/-- A commit at work shows its action, slot and tick. -/
theorem State.beginCommit_shows {a : Nat} (ha : a < 8) : (s.beginCommit c a).flag .FW_STS_COMMIT_BUSY = true
    ∧ (s.beginCommit c a).get .X_FW_ACT = a ∧ (s.beginCommit c a).get .X_FW_TGT = c.dw 10 % 8
    ∧ (s.beginCommit c a).get .X_FW_TICK = fieldAt c.raw 48 8 % 2 ^ 64 := by
  have hbusy : (s.commitKept c a).flag .FW_STS_COMMIT_BUSY = true := State.flag_putFlag_self _ _ _ _ _ rfl
  refine ⟨hbusy, ?_, ?_, ?_⟩
  · simpa [State.get_beginCommit, State.commitKept, State.putFlag] using ha
  · simp [State.get_beginCommit, State.commitKept, State.putFlag]
  · simp [State.get_beginCommit, State.commitKept, State.putFlag]

theorem State.get_beginCommit_field {a : Nat} {f : Field}
    (h : f ∉ [.X_FW_CMD, .X_FW_ACT, .X_FW_TGT, .X_FW_TICK, .FW_STS_COMMIT_BUSY]) : (s.beginCommit c a).get f = s.get f := by
  simp only [List.mem_cons, List.not_mem_nil, or_false, not_or] at h
  obtain ⟨hcmd, hact, htgt, htick, hbusy⟩ := h
  simp [State.get_beginCommit, State.commitKept, State.putFlag, hcmd, hact, htgt, htick, hbusy]

section
variable (hc : s.nvmeCmd n true 0x10 = some c) (hsan : s.sanVerdict = none) (hidle : s.flag .FW_STS_COMMIT_BUSY = false) (hst : c.st = .taken)
  (hslot : c.dw 10 % 8 ≤ 4)
include hc hsan hidle hst hslot

theorem State.onCommit_of_cmd {a : Nat} {f : Cmd → State} (ha : bits (c.dw 10) 5 3 = a) : s.onCommit n a f = f c := by
  rw [State.onCommit, State.onAdmin_of_cmd hc, if_neg (by simp [ha, hidle, hst]), hsan]
  exact if_neg (Nat.not_lt.2 hslot)

/-! #### Action 0b010, which names a slot that holds an image -/

section
variable {k : Nat} (ha : bits (c.dw 10) 5 3 = 2) (hk : s.targetSlot (c.dw 10 % 8) = k)
include ha hk

theorem exec_activateExistingSlot_running (hrun : k = s.get .FW_ACTIVE_RUNNING) :
    exec (.activateExistingSlot n) s = .next (((s.setNextReset 0).fwReport fwOk k 0 0).finish c vSuccess) := by
  rw [exec_activateExistingSlot, execActivateExistingSlot, State.onCommit_of_cmd hc hsan hidle hst hslot ha, hk]
  exact congrArg _ (if_pos hrun)

theorem exec_activateExistingSlot_empty (hrun : k ≠ s.get .FW_ACTIVE_RUNNING) (hnone : s.slot? k = none) :
    exec (.activateExistingSlot n) s = .next ((s.fwReport fwSlotActive k 0 0).finish c vInvalidSlot) := by
  rw [exec_activateExistingSlot, execActivateExistingSlot, State.onCommit_of_cmd hc hsan hidle hst hslot ha, hk]
  exact congrArg _ ((if_neg hrun).trans (if_pos (by rw [hnone]; rfl)))

theorem exec_activateExistingSlot_bootable (hrun : k ≠ s.get .FW_ACTIVE_RUNNING) (hboot : s.bootable k = true)
    (harmed : k ≠ s.get .FW_ACTIVE_ARMED) (hact : s.fwActive = false) :
    exec (.activateExistingSlot n) s = .next (((s.setNextReset k).fwReport fwOk k 0 0).finish c vSuccess) := by
  have hsome : ¬(s.slot? k).isNone = true := by
    rintro hnone
    rw [State.bootable, Option.isNone_iff_eq_none.1 hnone] at hboot
    exact Bool.false_ne_true hboot
  rw [exec_activateExistingSlot, execActivateExistingSlot, State.onCommit_of_cmd hc hsan hidle hst hslot ha, hk]
  exact congrArg _ ((if_neg hrun).trans ((if_neg hsome).trans ((if_neg (by simp [hboot])).trans ((if_neg harmed).trans (if_neg (by simp [hact]))))))

end

end

theorem State.setNextReset_shows {k : Nat} (hk : k < 8) : (s.setNextReset k).get .FW_ACTIVE_NEXT_RESET = k
    ∧ (s.setNextReset k).flag .FW_STS_PENDING_RESET = decide (k ≠ 0)
    ∧ (s.setNextReset k).get .FW_ACTIVE_RUNNING = s.get .FW_ACTIVE_RUNNING := by
  refine ⟨?_, ?_, by simp [State.setNextReset, State.putFlag]⟩
  · simpa [State.setNextReset, State.putFlag] using hk
  · rw [State.setNextReset, State.flag_put_field _ _ _ _ _ _ _ _ (by decide), State.flag_putFlag_self _ _ _ _ _ rfl]

/-- Settles O34: each command by its law above. What action 0b010 ends with (log entries 34 and 78), and that one commit is at work at a
time (log entry 34), are choices of the model. -/
theorem firmwareCommandsAreTaken : Obligations.FirmwareCommandsAreTaken := by
  unfold Obligations.FirmwareCommandsAreTaken
  refine ⟨fun s n c b hc hsan hoff hlen hend hb => exec_firmwareImageDownload_whole hc hsan hoff hlen hend hb,
    fun s n c b hc hsan hoff => exec_firmwareImageDownload_misaligned hc hsan hoff,
    fun s n c hc hsan hidle hst hslot => ⟨s.beginCommit c, fun a ha => ?shows,
      fun h => congrArg _ (State.onCommit_of_cmd hc hsan hidle hst hslot h), fun h => congrArg _ (State.onCommit_of_cmd hc hsan hidle hst hslot h),
      fun h => congrArg _ (State.onCommit_of_cmd hc hsan hidle hst hslot h), fun h => congrArg _ (State.onCommit_of_cmd hc hsan hidle hst hslot h)⟩,
    fun s n c k hc hsan hidle hst hslot ha hk => ⟨fun hrun => exec_activateExistingSlot_running hc hsan hidle hst hslot ha hk hrun,
      fun hrun hnone => exec_activateExistingSlot_empty hc hsan hidle hst hslot ha hk hrun hnone,
      fun hrun hboot harmed hact => exec_activateExistingSlot_bootable hc hsan hidle hst hslot ha hk hrun hboot harmed hact⟩,
    fun s k hk => State.setNextReset_shows hk⟩
  obtain ⟨hbusy, hact, htgt, htick⟩ := State.beginCommit_shows (s := s) (c := c) ha
  exact ⟨hbusy, hact, htgt, htick, rfl, rfl, rfl, rfl, State.get_beginCommit_field (by decide), State.get_beginCommit_field (by decide), rfl⟩

end Sys2Proof.Machine

/-! The end of deletions and of range invalidations (04_nvme_support.md, R142; 06, R269; 07, R295, R298). -/

namespace Sys2Proof.Machine

variable {s : State}

/-! ### What a raised fault leaves alone -/

/-- A state without the parts that the reactions to a fault and the end of commands reach: registers, traffic, commands and their queues, pins
and armed actions. -/
def State.faultFrame (s : State) : State :=
  { s with
    regs := [], out := [], cmds := [], sqs := [], cqs := [], asyncWaiting := [], ats := [], holds := [], errLog := [], grants := [],
    dataWin := [], armed := [], lines := [], pins := [], engJobs := [] }

@[simp] theorem State.put_faultFrame {f v i a} : (s.put f v i a).faultFrame = s.faultFrame := rfl
@[simp] theorem State.putFlag_faultFrame {f b i a} : (s.putFlag f b i a).faultFrame = s.faultFrame := rfl
@[simp] theorem State.add_faultFrame {f v i} : (s.add f v i).faultFrame = s.faultFrame := rfl
@[simp] theorem State.bump_faultFrame {f i} : (s.bump f i).faultFrame = s.faultFrame := rfl
@[simp] theorem State.emit_faultFrame {o} : (s.emit o).faultFrame = s.faultFrame := rfl
@[simp] theorem State.arm_faultFrame {k a} : (s.arm k a).faultFrame = s.faultFrame := rfl

theorem forEach_faultFrame {α : Type} {l : List α} {k : α → State → State} (h : ∀ c u, (k c u).faultFrame = u.faultFrame) :
    (forEach l s k).faultFrame = s.faultFrame := forEach_same State.faultFrame h

/-! Traffic and the end of commands, in the order of the model's files. -/

@[simp] theorem State.sample_faultFrame {h v} : (s.sample h v).faultFrame = s.faultFrame := by
  simp [State.sample, apply_ite State.faultFrame]

@[simp] theorem State.sampleBoth_faultFrame {h x v} : (s.sampleBoth h x v).faultFrame = s.faultFrame :=
  State.sampleBoth_same State.faultFrame fun _ _ _ _ => rfl

@[simp] theorem State.askXlat_faultFrame {fn addr len} : (s.askXlat fn addr len).faultFrame = s.faultFrame := by
  unfold State.askXlat
  split <;> simp [apply_ite State.faultFrame]

@[simp] theorem State.touchAts_faultFrame {fn addr len} : (s.touchAts fn addr len).faultFrame = s.faultFrame := by
  unfold State.touchAts
  split
  · split_ifs <;> rfl
  · rfl

@[simp] theorem State.sendTlp_faultFrame {fn addr len strict data o} : (s.sendTlp fn addr len strict data o).faultFrame = s.faultFrame := by
  simp [State.sendTlp]

@[simp] theorem State.flushHolds_faultFrame {n} : (s.flushHolds n).faultFrame = s.faultFrame := by
  induction n generalizing s with
  | zero => rfl
  | succ n ih =>
    unfold State.flushHolds
    split
    · exact ih.trans State.sendTlp_faultFrame
    · rfl

@[simp] theorem State.send_faultFrame {h strict} : (s.send h strict).faultFrame = s.faultFrame := by
  rw [State.send, apply_ite State.faultFrame]
  split_ifs
  · exact State.askXlat_faultFrame
  · simp

@[simp] theorem State.sendFor_faultFrame {c strict addr len data o} : (s.sendFor c strict addr len data o).faultFrame = s.faultFrame :=
  State.send_faultFrame

@[simp] theorem State.endCmd_faultFrame {id} : (s.endCmd id).faultFrame = s.faultFrame := State.flushHolds_faultFrame

@[simp] theorem State.sendMsix_faultFrame {fn vector} : (s.sendMsix fn vector).faultFrame = s.faultFrame := by
  unfold State.sendMsix
  split_ifs
  · rfl
  · rfl
  · split <;> rfl

@[simp] theorem State.setCmd_faultFrame {c} : (s.setCmd c).faultFrame = s.faultFrame := rfl
@[simp] theorem State.setSq_faultFrame {q} : (s.setSq q).faultFrame = s.faultFrame := rfl
@[simp] theorem State.setCq_faultFrame {q} : (s.setCq q).faultFrame = s.faultFrame := rfl

@[simp] theorem State.sampleLatency_faultFrame {c} : (s.sampleLatency c).faultFrame = s.faultFrame := by
  simp [State.sampleLatency, apply_ite State.faultFrame]

@[simp] theorem State.countHost_faultFrame {c r} : (s.countHost c r).faultFrame = s.faultFrame := by
  simp [State.countHost, apply_ite State.faultFrame]

@[simp] theorem State.logError_faultFrame {c r} : (s.logError c r).faultFrame = s.faultFrame := by
  unfold State.logError
  dsimp only
  split_ifs <;> rfl

@[simp] theorem State.postCqe_faultFrame {c r} : (s.postCqe c r).faultFrame = s.faultFrame := by
  unfold State.postCqe
  split
  · simp
  split
  · simp
  split
  · simp
  split
  · simp
  · simp [apply_ite State.faultFrame]

@[simp] theorem State.asyncEvent_faultFrame {fn type info lid} : (s.asyncEvent fn type info lid).faultFrame = s.faultFrame := by
  unfold State.asyncEvent
  split
  · simp
  · split_ifs <;> rfl

/-! The disable of functions. -/

@[simp] theorem State.releasePin_faultFrame {p} : (s.releasePin p).faultFrame = s.faultFrame :=
  forEach_faultFrame (s := { s with pins := s.pins.filter fun x => ¬(x.fn = p.fn ∧ x.id = p.id ∧ x.cmd = p.cmd) }) fun _ _ => rfl

@[simp] theorem State.releaseFnPins_faultFrame {fn} : (s.releaseFnPins fn).faultFrame = s.faultFrame :=
  forEach_faultFrame fun _ _ => State.releasePin_faultFrame

@[simp] theorem State.muteCmds_faultFrame {sc} : (s.muteCmds sc).faultFrame = s.faultFrame := rfl
@[simp] theorem State.dropAts_faultFrame {fn} : (s.dropAts fn).faultFrame = s.faultFrame := rfl

theorem State.startQueueDisable_all_faultFrame {l : List Nat} : (forEach l s fun q u => u.startQueueDisable q).faultFrame = s.faultFrame :=
  forEach_faultFrame fun _ _ => rfl

@[simp] theorem State.disablePoint_fn_faultFrame {f kind} : (s.disablePoint (.fn f) kind).faultFrame = s.faultFrame := by
  simp [State.disablePoint, State.startQueueDisable_all_faultFrame, apply_ite State.faultFrame]

/-! Requests of units and chip resets, and the reactions of the fault collector. -/

@[simp] theorem State.wake_faultFrame {unit reason} : (s.wake unit reason).faultFrame = s.faultFrame := by
  simp [State.wake, apply_ite State.faultFrame]

@[simp] theorem State.requestChipReset_faultFrame {cold source} : (s.requestChipReset cold source).faultFrame = s.faultFrame := by
  have hshed : ∀ u : State, u.shedHosts.faultFrame = u.faultFrame := fun u =>
    forEach_faultFrame (s := u.putFlag .JQ_STS_FROZEN true) fun _ _ => State.disablePoint_fn_faultFrame
  simp [State.requestChipReset, hshed, apply_ite State.faultFrame]

@[simp] theorem State.setReq_faultFrame {w st kind reason} : (s.setReq w st kind reason).faultFrame = s.faultFrame := rfl
@[simp] theorem State.disarmUnit_faultFrame {w} : (s.disarmUnit w).faultFrame = s.faultFrame := rfl
@[simp] theorem State.refuseAt_faultFrame {w} : (s.refuseAt w).faultFrame = s.faultFrame := rfl

@[simp] theorem State.markResetting_faultFrame {w} : (s.markResetting w).faultFrame = s.faultFrame := forEach_faultFrame fun _ _ => rfl

@[simp] theorem State.acceptReset_faultFrame {w imm ut} : (s.acceptReset w imm ut).faultFrame = s.faultFrame := by
  simp [State.acceptReset, apply_ite State.faultFrame]

@[simp] theorem State.submitReset_faultFrame {ag w imm ut} : (s.submitReset ag w imm ut).faultFrame = s.faultFrame := by
  unfold State.submitReset
  cases s.resetReason ag w ut <;> simp [apply_ite State.faultFrame]

@[simp] theorem State.nmi_faultFrame {core} : (s.nmi core).faultFrame = s.faultFrame := by
  simp [State.nmi, apply_ite State.faultFrame]

@[simp] theorem State.setClassBit_faultFrame {cls unit} : (s.setClassBit cls unit).faultFrame = s.faultFrame := by
  unfold State.setClassBit
  split <;> rfl

@[simp] theorem State.countClass_faultFrame {cls} : (s.countClass cls).faultFrame = s.faultFrame := by
  unfold State.countClass
  split <;> rfl

@[simp] theorem State.react_faultFrame {src unit r} : (s.react src unit r).faultFrame = s.faultFrame := by
  simp [State.react, apply_ite State.faultFrame]

@[simp] theorem State.severe_faultFrame {src unit} : (s.severe src unit).faultFrame = s.faultFrame := by
  simp [State.severe, apply_ite State.faultFrame]

@[simp] theorem State.plynEvent_faultFrame : s.plynEvent.faultFrame = s.faultFrame := by
  simp [State.plynEvent, apply_ite State.faultFrame]

@[simp] theorem State.event_faultFrame {src unit value} : (s.event src unit value).faultFrame = s.faultFrame := by
  simp [State.event, apply_ite State.faultFrame]

@[simp] theorem State.raise_faultFrame {src unit value} : (s.raise src unit value).faultFrame = s.faultFrame := by
  simp [State.raise, apply_ite State.faultFrame]

@[simp] theorem State.clearLevel_faultFrame {src} : (s.clearLevel src).faultFrame = s.faultFrame := rfl

/-! ### What a journalled record leaves alone (R305, R533) -/

@[simp] theorem State.updateJnl_faultFrame : s.updateJnl.faultFrame = s.faultFrame := by
  simp [State.updateJnl, apply_ite State.faultFrame]

/-- That, without the journal. -/
def State.journalFrame (s : State) : State := { s.faultFrame with jnl := [] }

theorem State.journalFrame_of_faultFrame {t : State} (h : t.faultFrame = s.faultFrame) : t.journalFrame = s.journalFrame :=
  congrArg (fun u : State => { u with jnl := [] }) h

theorem State.journalFrame_jnl {l : List JRec} : ({ s with jnl := l } : State).journalFrame = s.journalFrame := rfl

theorem State.updateJnl_journalFrame : s.updateJnl.journalFrame = s.journalFrame := State.journalFrame_of_faultFrame State.updateJnl_faultFrame

theorem State.put_journalFrame {f v i a} : (s.put f v i a).journalFrame = s.journalFrame := rfl

theorem State.programJnl_journalFrame : s.programJnl.journalFrame = s.journalFrame := by
  unfold State.programJnl
  dsimp only
  split
  · rfl
  · rw [State.updateJnl_journalFrame, State.put_journalFrame, State.journalFrame_jnl]

theorem State.journal_journalFrame {type node a b : Nat} : (s.journal type node a b).journalFrame = s.journalFrame := by
  unfold State.journal
  dsimp only
  rw [State.updateJnl_journalFrame, State.put_journalFrame, State.put_journalFrame, State.put_journalFrame, State.journalFrame_jnl]
  split_ifs
  · exact State.programJnl_journalFrame
  · rfl

/-! The parts that the end of a deletion speaks of. -/

theorem State.parts_of_journalFrame {t : State} (h : t.journalFrame = s.journalFrame) :
    t.nodes = s.nodes ∧ t.rights = s.rights ∧ t.keys = s.keys ∧ t.flash = s.flash :=
  ⟨(congrArg State.nodes h :), (congrArg State.rights h :), (congrArg State.keys h :), (congrArg State.flash h :)⟩

theorem State.jnl_of_faultFrame {t : State} (h : t.faultFrame = s.faultFrame) : t.jnl = s.jnl := (congrArg State.jnl h :)

/-! ### The end of a deletion (R142, R269) -/

/-- A node is gone, with its rights and keys, and the changes that deleted it show done. -/
def State.withoutNode (s : State) (n : Nat) : State :=
  let v : State := { s with
    nodes := s.nodes.filter (fun x => x.id ≠ n), rights := s.rights.filter (fun r => r.node ≠ n), keys := s.keys.filter (fun k => k.node ≠ n) }
  forEach (List.range 65) (v.put .SEC_PM_STS_ENTRIES v.rights.length) fun a t => t.tsDone a (t.get .X_TS_DEL n) 3

@[simp] theorem State.tsDone_faultFrame {a tag st : Nat} : (s.tsDone a tag st).faultFrame = s.faultFrame := by
  simp [State.tsDone, apply_ite State.faultFrame]

/-- Nothing else goes with it. -/
theorem State.withoutNode_parts {n : Nat} : (s.withoutNode n).nodes = s.nodes.filter (fun x => x.id ≠ n)
    ∧ (s.withoutNode n).rights = s.rights.filter (fun r => r.node ≠ n) ∧ (s.withoutNode n).keys = s.keys.filter (fun k => k.node ≠ n)
    ∧ (s.withoutNode n).flash = s.flash ∧ (s.withoutNode n).jnl = s.jnl := by
  have hframe : (s.withoutNode n).faultFrame = State.faultFrame { s with
      nodes := s.nodes.filter (fun x => x.id ≠ n), rights := s.rights.filter (fun r => r.node ≠ n),
      keys := s.keys.filter (fun k => k.node ≠ n) } := forEach_faultFrame fun _ _ => State.tsDone_faultFrame
  obtain ⟨hnodes, hrights, hkeys, hflash⟩ := State.parts_of_journalFrame (State.journalFrame_of_faultFrame hframe)
  exact ⟨hnodes, hrights, hkeys, hflash, (State.jnl_of_faultFrame hframe :)⟩

section
variable {n : Nat} {x : Node} (hx : s.node? n = some x)
include hx

theorem exec_nodeDeletionComplete_stays (h : x.deleting = false ∨ s.heldBy n = true ∨ (s.sweeps.any fun w => w.node = n) = true) :
    exec (.nodeDeletionComplete n) s = .next s := by
  rw [exec_nodeDeletionComplete, execNodeDeletionComplete, hx]
  exact if_pos (by simpa [or_assoc] using h)

/-- Once nothing holds it the node goes, a volume with its map, licence and dictionary, and a Delete that waits for it completes. -/
theorem exec_nodeDeletionComplete_goes {t : State} (hdel : x.deleting = true) (hheld : s.heldBy n = false)
    (hsweep : (s.sweeps.any fun w => w.node = n) = false)
    (ht : t = (if x.isStack then s.journal 0x14 n 1 0
      else (((s.journal 0x14 n 1 0).emptyNode n).dropLicence n).dropDict n).withoutNode n) :
    exec (.nodeDeletionComplete n) s
      = .next (match t.cmds.find? fun c => c.nvme && c.q = 0 && c.op = 0x0D && c.st = .admitted && c.node = n with
        | some c => t.finish c vSuccess
        | none => t) := by
  rw [exec_nodeDeletionComplete, execNodeDeletionComplete, hx]
  refine (if_neg (by simp [hdel, hheld, hsweep])).trans ?_
  rw [State.withoutNode] at ht
  simp only [← ht]
  generalize List.find? _ t.cmds = o
  cases o <;> rfl

end

/-! ### The end of an invalidation (R295, R298) -/

section
variable {n : Nat}

section
variable {w : Sweep} (hw : (s.sweeps.find? fun w => w.node = n && !w.waiting && !s.sweepHolds w) = some w)
include hw

theorem exec_invalidationSweepDone_mcInv {t : State} (hkind : w.kind = 0) (ht : t = ({ s with sweeps := s.sweeps.erase w } : State).bump .MC_CNT_INV) :
    exec (.invalidationSweepDone n) s
      = .next ((t.put .MC_INV_STS_STATE 2 0 w.agent).putFlag .MC_INV_CMD_GO false 0 w.agent).nextSweep := by
  rw [exec_invalidationSweepDone, execInvalidationSweepDone, hw]
  simp [hkind, ← ht]

theorem exec_invalidationSweepDone_change {t : State} (hkind : w.kind ≠ 0)
    (ht : t = ({ s with sweeps := s.sweeps.erase w } : State).bump .MC_CNT_INV) :
    exec (.invalidationSweepDone n) s = .next (if w.kind = 3 then t.tsDone w.agent w.tag 3 else t.nextSweep) := by
  rw [exec_invalidationSweepDone, execInvalidationSweepDone, hw]
  by_cases h3 : w.kind = 3
  · simp [h3, ← ht]
  · simp [hkind, h3, ← ht]

end

theorem exec_invalidationSweepDone_stays (h : ∀ w ∈ s.sweeps, w.node = n → w.waiting = false → s.sweepHolds w = true) :
    exec (.invalidationSweepDone n) s = .next s := by
  have hnone : (s.sweeps.find? fun w => w.node = n && !w.waiting && !s.sweepHolds w) = none := by simpa using h
  rw [exec_invalidationSweepDone, execInvalidationSweepDone, hnone]

end

/-- Settles O42: the end of a deletion and of an invalidation by their laws above. -/
theorem nodesGoWhenTheirDeletionCompletes : Obligations.NodesGoWhenTheirDeletionCompletes := by
  unfold Obligations.NodesGoWhenTheirDeletionCompletes
  refine ⟨fun s n x hx h => exec_nodeDeletionComplete_stays hx h, ?stack, ?volume,
    fun s n w hw hkind => exists_eq_and_of_forall fun t ht => exec_invalidationSweepDone_mcInv hw hkind ht,
    fun s t n w hw hkind ht => exec_invalidationSweepDone_change hw hkind ht, fun s n h => exec_invalidationSweepDone_stays h⟩
  case stack =>
    intro s n x hx hdel hheld hsweep hstack
    have hjournal : (s.journal 0x14 n 1 0).journalFrame = s.journalFrame := State.journal_journalFrame
    obtain ⟨hnodes, hrights, hkeys, hflash⟩ := State.parts_of_journalFrame hjournal
    obtain ⟨hnodes', hrights', hkeys', hflash', hjnl⟩ := (s.journal 0x14 n 1 0).withoutNode_parts (n := n)
    have hgoes : ∀ t, (s.journal 0x14 n 1 0).withoutNode n = t → _ := fun t ht =>
      exec_nodeDeletionComplete_goes hx hdel hheld hsweep (by rw [if_pos hstack, ht])
    rw [hnodes] at hnodes'
    rw [hrights] at hrights'
    rw [hkeys] at hkeys'
    rw [hflash] at hflash'
    generalize (s.journal 0x14 n 1 0).withoutNode n = t at *
    exact ⟨t, hnodes', hrights', hkeys', hjnl, hflash', hgoes t rfl⟩
  case volume =>
    intro s u v t n x hx hdel hheld hsweep hvol hu hv ht
    have ht' : t = u.withoutNode n := by
      rw [ht, hv]
      rfl
    exact exec_nodeDeletionComplete_goes hx hdel hheld hsweep (by rw [hvol, if_neg Bool.false_ne_true, ← hu, ht'])

end Sys2Proof.Machine

/-! Intake of Jexash packets (05_jexash_queues.md, R180 to R189, R194, R195, R235, R237): the tick a DEADLINE names, the push window, packets
taken in, and the enable and disable of queues. -/

namespace Sys2Proof.Machine

variable {s : State} {f q n : Nat}

/-! ### The tick that a DEADLINE names (R194) -/

/-- How many ticks from `now` the next one lies that ends in the 32 bits of `v`. -/
def ticksAhead (now v : Nat) : Nat := (v + 2 ^ 32 - now % 2 ^ 32) % 2 ^ 32

theorem absTick_ahead {now v : Nat} (h : ticksAhead now v < 2 ^ 31) : absTick now v = now + ticksAhead now v := if_pos h

theorem absTick_behind {now v : Nat} (h : 2 ^ 31 < ticksAhead now v) : absTick now v = now + ticksAhead now v - 2 ^ 32 :=
  (if_neg h.not_gt).trans (if_neg h.ne')

/-- A tick nearer than 2^31 that ends in the bits of `v` is the one taken. -/
theorem absTick_of_near {now v : Nat} {t : Int} (hv : v < 2 ^ 32) (ht : t % 2 ^ 32 = v) (hahead : t - now < 2 ^ 31)
    (hbehind : now - t < 2 ^ 31) : absTick now v = t := by
  rcases le_or_gt (now : Int) t with hle | hlt
  · have hd : (ticksAhead now v : Int) = t - now := by unfold ticksAhead; omega
    rw [absTick_ahead (by omega), hd]
    omega
  · have hd : (ticksAhead now v : Int) = t - now + 2 ^ 32 := by unfold ticksAhead; omega
    rw [absTick_behind (by omega), hd]
    omega

/-- Unless it lies exactly 2^31 away, the tick taken ends in the bits of `v` and is nearer than that. -/
theorem absTick_near {now v : Nat} (hv : v < 2 ^ 32) (hfar : (v + 2 ^ 31) % 2 ^ 32 ≠ now % 2 ^ 32) :
    absTick now v % 2 ^ 32 = v ∧ absTick now v - now < 2 ^ 31 ∧ now - absTick now v < 2 ^ 31 := by
  have hmod : (now + ticksAhead now v) % 2 ^ 32 = v := by unfold ticksAhead; omega
  have hlt : ticksAhead now v < 2 ^ 32 := Nat.mod_lt _ (by decide)
  have hne : ticksAhead now v ≠ 2 ^ 31 := by unfold ticksAhead; omega
  rcases hne.lt_or_gt with h | h
  · rw [absTick_ahead h]
    omega
  · rw [absTick_behind h]
    omega

/-- A READ as it is admitted (R196, R214). -/
def Cmd.readOf (c : Cmd) : Cmd :=
  { c with node := c.pNode, lba := c.pLba, len := c.pLen, skip := 0, bytes := 4096 * c.pLen, cls := c.ctl % 4,
           deadline := absTick c.tick c.pDeadline, aux := [0] }

theorem exec_read_admitted {c : Cmd} (hc : s.packet n 0x01 = some c) (hsan : s.flag .JQ_STS_SANITIZING = false)
    (hok : c.readFieldsOk = true) (hrange : s.rangeVerdict c c.pNode c.pLba c.pLen rightRead = none) (hraw : c.unpacks = false) :
    exec (.read n) s = .next (s.admitRead c.readOf) := by
  have hread : s.jxRead c = s.admitRead c.readOf := by
    rw [State.jxRead, if_neg (by simp [hsan]), if_neg (by simp [hok])]
    simp only [hrange]
    exact if_neg (by simp [hraw])
  rw [exec_read, execRead, hc]
  exact congrArg Host.Outcome.next hread

/-! ### What a wake and a request sent leave alone -/

@[simp] theorem State.wake_slots {unit reason : Nat} : (s.wake unit reason).slots = s.slots := by
  simp [State.wake, apply_ite State.slots]

@[simp] theorem State.wake_cmds {unit reason : Nat} : (s.wake unit reason).cmds = s.cmds := by
  simp [State.wake, apply_ite State.cmds]

@[simp] theorem State.wake_out {unit reason : Nat} : (s.wake unit reason).out = s.out := by
  simp [State.wake, apply_ite State.out]

/-- A request sent, or held back, reaches the outputs, the waiting requests and the use of cached translations only. -/
theorem State.send_same {β : Type} (p : State → β) (hemit : ∀ (u : State) o, p (u.emit o) = p u)
    (hholds : ∀ (u : State) l, p { u with holds := l } = p u)
    (hats : ∀ (u : State) l v, p (({ u with ats := l } : State).put .X_ATS_SEQ v) = p u) {h : Hold} {strict : Bool} :
    p (s.send h strict) = p s := by
  have hask {u : State} {fn addr len} : p (u.askXlat fn addr len) = p u := by
    unfold State.askXlat
    split
    · rw [apply_ite p, hemit, ite_self]
    · rfl
  have htouch {u : State} {fn addr len} : p (u.touchAts fn addr len) = p u := by
    unfold State.touchAts
    split
    · rw [apply_ite p, hats, ite_self]
    · rfl
  rw [State.send, apply_ite p, hholds, State.sendTlp, hemit, hemit, htouch, hask, ite_self]

@[simp] theorem State.sendFn_cmds {fn r len : Nat} {strict : Bool} {addr : Nat} {o : Out} :
    (s.sendFn fn r strict addr len o).cmds = s.cmds :=
  State.send_same State.cmds (fun _ _ => rfl) (fun _ _ => rfl) fun _ _ _ => rfl

@[simp] theorem State.get_sendFn {fn r len : Nat} {strict : Bool} {addr : Nat} {o : Out} {g : Field} {i a : Nat} (hg : g ≠ .X_ATS_SEQ) :
    (s.sendFn fn r strict addr len o).get g i a = s.get g i a :=
  State.send_same (fun u => u.get g i a) (fun _ _ => rfl) (fun _ _ => rfl) fun u l _ =>
    State.get_put_field { u with ats := l } _ _ _ _ _ _ _ hg

/-! ### The push window (R180, R181, R183) -/

/-- The packet slots that `n` bytes from an offset touch. -/
def touchedSlots (o n : Nat) : List Nat := (List.range ((o + n + 63) / 64 - o / 64)).map (o / 64 + ·)

theorem exec_pushWindowWrite_dark {off : Nat} {l : List Byte} {p : Bool} (h : s.fnDark f = true) :
    exec (.pushWindowWrite f off l p) s = .next s := if_pos (by simp [h])

section
variable {off o : Nat} {l : List Byte} (hlit : s.fnDark f = false) (hl : l ≠ [])
include hlit hl

theorem exec_pushWindowWrite_poisoned : exec (.pushWindowWrite f off l true) s = .next (s.reportAer f aerPoisoned) :=
  (if_neg (by simp [hlit, hl])).trans (if_pos rfl)

section
variable (hoff : off < 0x200000) (hq : s.windowQueue f off = some (q, o)) (hfit : o + l.length ≤ 64 * s.slotCount q)
include hoff hq hfit

/-- A write within the slots of an enabled queue is judged by the slots it touches. -/
theorem exec_pushWindowWrite_inside {t : State} (ht : t = { s with slots := slotPut q o l s.slots }) :
    exec (.pushWindowWrite f off l false) s = if (touchedSlots o l.length).any (s.slotReady q) then .next (s.queueError q 2 0)
      else .next (if (touchedSlots o l.length).any (t.slotReady q) then t.wake uFront wakeCmd else t) := by
  rw [exec_pushWindowWrite, execPushWindowWrite, if_neg (by simp [hlit, hl]), if_neg Bool.false_ne_true, if_pos hoff, hq, ht]
  exact if_neg hfit.not_gt

/-- Bytes for slots that are not ready are stored, and a slot that becomes ready is a wake event. -/
theorem pushWindowWrite_stores (hfree : (touchedSlots o l.length).any (s.slotReady q) = false) : ∃ t : State,
    exec (.pushWindowWrite f off l false) s = .next t ∧ t.slots = slotPut q o l s.slots ∧ t.cmds = s.cmds ∧ t.out = s.out := by
  refine ⟨_, (exec_pushWindowWrite_inside hlit hl hoff hq hfit rfl).trans (if_neg (by simp [hfree])), ?_⟩
  split
  case isTrue => exact ⟨State.wake_slots, State.wake_cmds, State.wake_out⟩
  case isFalse => exact ⟨rfl, rfl, rfl⟩

theorem exec_pushWindowWrite_overflow (hready : (touchedSlots o l.length).any (s.slotReady q) = true) :
    exec (.pushWindowWrite f off l false) s = .next (s.queueError q 2 0) :=
  (exec_pushWindowWrite_inside hlit hl hoff hq hfit rfl).trans (if_pos hready)

end
end

/-! ### Intake (R182, R184 to R189, R194, R195) -/

theorem exec_packetIntake_waits (h : s.intakeReady q = false ∨ s.intakeTurn q = false) : exec (.packetIntake q) s = .next s :=
  if_neg (by rcases h with h | h <;> simp [h])

theorem State.intakeReady_of_held (h : s.intakeHeld q = true) : s.intakeReady q = false := by simp [State.intakeReady, h]

theorem State.intakeReady_of_empty (h : s.slotReady q (s.headSlot q) = false) : s.intakeReady q = false := by
  simp [State.intakeReady, h]

/-- A command as it is listed: with the rights of its function on the node it names, and the phase in the tick. -/
def State.listed (s : State) (c : Cmd) : Cmd :=
  { c with
    rights := if c.fn = 0 && s.flag .SEC_STS_OWNER then 15 else s.rightsOf c.fn (if c.nvme then c.dw 1 - 1 else c.pNode)
    ph := s.get .TK_PHASE_PHASE }

theorem State.addCmd_cmds {c : Cmd} : (s.addCmd c).cmds = s.cmds ++ [s.listed c] := rfl

@[simp] theorem State.get_addCmd {c : Cmd} {g : Field} {i a : Nat} (h : g ≠ .X_CMDSEQ) : (s.addCmd c).get g i a = s.get g i a :=
  State.get_put_field _ _ _ _ _ _ _ _ h

@[simp] theorem State.takeSlot_cmds : (s.takeSlot q).cmds = s.cmds := by
  simp [State.takeSlot, apply_ite State.cmds]

/-- The sequence count of a queue goes on by one with each packet. -/
theorem State.get_takeSlot_seq : (s.takeSlot q).get .X_JQ_S q = (s.get .X_JQ_S q + 1) % 2 ^ 64 := by
  simp only [State.takeSlot]
  split <;> simp <;> rfl

@[simp] theorem State.putOutstanding_cmds : (s.putOutstanding q n).cmds = s.cmds := rfl

@[simp] theorem State.get_putOutstanding {g : Field} {i a : Nat} (h : g ≠ .X_JQ_RESV) (h' : g ≠ .JQ_QSTS_OUTSTANDING) :
    (s.putOutstanding q n).get g i a = s.get g i a := by
  simp [State.putOutstanding, h, h']

/-- The bytes in the head slot of a queue. -/
def State.headPacket (s : State) (q : Nat) : List Byte := s.slotBytes q (s.headSlot q)

/-- A queue has had its turn on its front core pair (R184). -/
def State.noteTurn (s : State) (q : Nat) : State :=
  s.put .X_JQ_RR q (2 * s.queuePair q + if s.flag .JQ_QCFG_GOLD_OK q then 1 else 0)

/-- The command that a packet of a queue becomes. -/
def State.packetCmd (s : State) (q : Nat) (p : List Byte) : Cmd :=
  let op := fieldAt p 0 1
  let c := newCmd (s.get .X_CMDSEQ) false (s.get .JQ_QCFG_FN q) q (fieldAt p 2 2) op s.tick p
  { c with contLeft := if op = 0x0B then fieldAt p 7 1 else 0, deadline := if c.asksGold then absTick c.tick c.pDeadline else 0,
           aux := if s.cutLate c then [1] else [] }

/-- A packet's command is listed, its slot is free, and a reply-ring entry is reserved for it. -/
def State.enterPacket (s : State) (q : Nat) (c : Cmd) : State :=
  let t := (((s.addCmd c).takeSlot q).putFlag .X_IDLE false).wake uFront wakeCmd
  t.putOutstanding q (t.get .X_JQ_RESV q + 1)

theorem State.enterPacket_cmds {c : Cmd} : (s.enterPacket q c).cmds = s.cmds ++ [s.listed c] := by
  simp [State.enterPacket, State.addCmd_cmds]

theorem State.get_enterPacket_seq {c : Cmd} : (s.enterPacket q c).get .X_JQ_S q = (s.get .X_JQ_S q + 1) % 2 ^ 64 := by
  simp [State.enterPacket, State.get_putFlag_field, State.get_takeSlot_seq]

section
variable (hheld : s.intakeHeld q = false) (hready : s.slotReady q (s.headSlot q) = true) (hroom : s.replyRoom q = true)
  (hturn : s.intakeTurn q = true)
include hheld hready hroom hturn

theorem exec_packetIntake_takes : exec (.packetIntake q) s = .next (s.takeIn q) :=
  if_pos (by simp [State.intakeReady, hheld, hready, hroom, hturn])

/-- A packet out of sequence is an error of its queue (R183). -/
theorem exec_packetIntake_sequence (hseq : fieldAt (s.headPacket q) 4 2 ≠ s.get .X_JQ_S q % 65536) :
    exec (.packetIntake q) s = .next ((s.noteTurn q).queueError q 1 (fieldAt (s.headPacket q) 2 2)) := by
  rw [exec_packetIntake_takes hheld hready hroom hturn, State.takeIn]
  exact congrArg _ (if_pos (by simpa [State.headPacket] using hseq))

section
variable (hseq : fieldAt (s.headPacket q) 4 2 = s.get .X_JQ_S q % 65536)
  (hcont : (s.cmds.find? fun c => !c.nvme && c.q = q && decide (0 < c.contLeft)) = none)
  (htag : s.tagUsed q (fieldAt (s.headPacket q) 2 2) = false) (hop : opcodeKnown (fieldAt (s.headPacket q) 0 1) = true)
include hseq hcont htag hop

theorem exec_packetIntake_command : exec (.packetIntake q) s
    = .next ((s.noteTurn q).enterPacket q ((s.noteTurn q).packetCmd q (s.headPacket q))) := by
  rw [exec_packetIntake_takes hheld hready hroom hturn]
  unfold State.takeIn
  refine congrArg _ ((if_neg (by simpa [State.headPacket] using hseq)).trans ?_)
  rw [State.put_cmds, hcont]
  exact (if_neg (Bool.eq_false_iff.1 htag)).trans (if_pos hop)

/-- A packet taken in is the newest command: of the queue's function, with the packet's fields, and taken in at the present tick. -/
theorem packetIntake_lists_command : ∃ (t : State) (c : Cmd), exec (.packetIntake q) s = .next t ∧ t.cmds = s.cmds ++ [c]
    ∧ t.get .X_JQ_S q = (s.get .X_JQ_S q + 1) % 2 ^ 64 ∧ c.nvme = false ∧ c.q = q ∧ c.fn = s.get .JQ_QCFG_FN q
    ∧ c.tag = fieldAt (s.headPacket q) 2 2 ∧ c.op = fieldAt (s.headPacket q) 0 1 ∧ c.raw = s.headPacket q ∧ c.st = .taken
    ∧ c.tick = s.get .TK_COUNT := by
  have hfn : (s.noteTurn q).get .JQ_QCFG_FN q = s.get .JQ_QCFG_FN q := State.get_put_field _ _ _ _ _ _ _ _ (by decide)
  have hcount : (s.noteTurn q).get .X_JQ_S q = s.get .X_JQ_S q := State.get_put_field _ _ _ _ _ _ _ _ (by decide)
  have htick : (s.noteTurn q).get .TK_COUNT = s.get .TK_COUNT := State.get_put_field _ _ _ _ _ _ _ _ (by decide)
  exact ⟨_, _, exec_packetIntake_command hheld hready hroom hturn hseq hcont htag hop, State.enterPacket_cmds,
    State.get_enterPacket_seq.trans (by rw [hcount]), rfl, rfl, hfn, rfl, rfl, rfl, rfl, htick⟩

end
end

/-- Settles O60: the tick is the near one by `absTick_of_near` and `absTick_near`, and intake notes the present tick. -/
theorem deadlinesNameTheNearestTick : Obligations.DeadlinesNameTheNearestTick := by
  unfold Obligations.DeadlinesNameTheNearestTick
  refine ⟨fun now v t hv ht hahead hbehind => absTick_of_near hv ht hahead hbehind, fun now v hv hfar => absTick_near hv hfar,
    fun s n c hc hsan hok hrange hraw => ⟨c.readOf, rfl, rfl, rfl, exec_read_admitted hc hsan hok hrange hraw⟩, ?intake⟩
  case intake =>
    intro s q hheld hturn hready hseq hcont hroom htag hop
    obtain ⟨t, c, hexec, hcmds, -, -, -, -, -, -, hraw, -, htick⟩ :=
      packetIntake_lists_command hheld hready hroom hturn hseq hcont htag hop
    exact ⟨t, c, hexec, hcmds, htick, by rw [Cmd.pDeadline, hraw, State.headPacket]⟩

/-! ### Enabling and disabling a queue (R235, R237) -/

theorem State.mayWrite_ownerFeMp_of_isMp {ag : Agent} (h : ag.isMp = true) : s.mayWrite ag .ownerFeMp = true := by
  simp [State.mayWrite, h]

section
variable {ag : Agent} (hag : ag.isMp = true) (hon : s.unitPower uFront = 0) (hq : q < 1024)
include hag hon hq

theorem exec_queueEnable_disabled (hst : s.get .JQ_QSTS_STATE q = 0) : exec (.queueEnable ag q) s
    = .next (((s.enableFault q).elim (((s.clearQueue q).put .JQ_QSTS_STATE 1 q).put .JQ_QSTS_ERR 0 q)
      fun e => s.put .JQ_QSTS_ERR e q).noteDemand s) := by
  rw [exec_queueEnable, execQueueEnable, State.atUnit_on hon, Nat.mod_eq_of_lt hq, State.enableQueue,
    State.guardWrite_of_mayWrite (State.mayWrite_ownerFeMp_of_isMp hag) (by decide), if_neg (by simp [hst, jqDisabled])]
  cases s.enableFault q <;> rfl

theorem exec_queueDisable_enabled (hst : s.get .JQ_QSTS_STATE q = 1) :
    exec (.queueDisable ag q) s = .next ((s.disablePoint (.queue q)).noteDemand s) := by
  rw [exec_queueDisable, execQueueDisable, State.atUnit_on hon, Nat.mod_eq_of_lt hq, State.disableQueue,
    State.guardWrite_of_mayWrite (State.mayWrite_ownerFeMp_of_isMp hag) (by decide)]
  exact congrArg (fun t : State => Host.Outcome.next (t.noteDemand s)) (if_pos (by simp [hst, jqEnabled]))

end

/-- Settles O21: each command by its law above. That packets are taken from ENABLED queues only (log entry 18) and that a slot
which becomes ready wakes the block (log entry 68) are choices of the model. -/
theorem packetsAreTakenIn : Obligations.PacketsAreTakenIn := by
  unfold Obligations.PacketsAreTakenIn
  refine ⟨fun s f off l q o hlit hl hoff hq hfit hfree => pushWindowWrite_stores hlit hl hoff hq hfit hfree,
    fun s f off l p h => exec_pushWindowWrite_dark h,
    fun s f off l hlit hl => exec_pushWindowWrite_poisoned hlit hl,
    fun s f off l q o hlit hl hoff hq hfit hready => exec_pushWindowWrite_overflow hlit hl hoff hq hfit hready,
    fun s q h => exec_packetIntake_waits (.inl (State.intakeReady_of_held h)),
    fun s q h => exec_packetIntake_waits (.inl (State.intakeReady_of_empty h)),
    fun s q h => exec_packetIntake_waits (.inr h),
    fun s q hheld hready hroom hturn hseq => exec_packetIntake_sequence hheld hready hroom hturn hseq, ?command,
    fun s c q e hag hon hq hst he => (exec_queueEnable_disabled hag hon hq hst).trans (by rw [he]; rfl),
    fun s c q hag hon hq hst he => (exec_queueEnable_disabled hag hon hq hst).trans (by rw [he]; rfl),
    fun s c q hag hon hq hst => exec_queueDisable_enabled hag hon hq hst⟩
  case command =>
    intro s q hheld hready hturn hseq hcont hroom htag hop
    obtain ⟨t, c, hexec, hcmds, hcount, hjx, hq, hfn, hctag, hcop, hraw, hst, -⟩ :=
      packetIntake_lists_command hheld hready hroom hturn hseq hcont htag hop
    exact ⟨t, c, hexec, hcmds, hjx, hq, hfn, hctag, hcop, hraw, hst, hcount⟩

end Sys2Proof.Machine

/-! The Jexash packets that move no data: FLUSH_BLOCK, PIN, UNPIN, ABORT, FENCE and TIME (05_jexash_queues.md, R203, R205 to R208, R228 to R232). -/

namespace Sys2Proof.Machine

variable {s : State} {n : Nat} {c : Cmd}

/-! ### While a Sanitize runs (R214, R239) -/

theorem exec_control_sanitizing (hsan : s.flag .JQ_STS_SANITIZING = true) :
    (s.packet n 0x05 = some c → exec (.flushBlock n) s = .next (s.finish c vSanitizing))
    ∧ (s.packet n 0x06 = some c → exec (.pin n) s = .next (s.finish c vSanitizing))
    ∧ (s.packet n 0x07 = some c → exec (.unpin n) s = .next (s.finish c vSanitizing))
    ∧ (s.packet n 0x08 = some c → exec (.abort n) s = .next (s.finish c vSanitizing))
    ∧ (s.packet n 0x09 = some c → exec (.fence n) s = .next (s.finish c vSanitizing))
    ∧ (s.packet n 0x0A = some c → exec (.time n) s = .next (s.finish c vSanitizing)) := by
  refine ⟨fun hc => ?flushBlock, fun hc => ?pin, fun hc => ?unpin, fun hc => ?abort, fun hc => ?fence, fun hc => ?time⟩
  case flushBlock => simp [execFlushBlock, hc, hsan]
  case pin => simp [execPin, hc, hsan]
  case unpin => simp [execUnpin, hc, hsan]
  case abort => simp [execAbort, hc, hsan]
  case fence => simp [execFence, hc, hsan]
  case time => simp [execTime, hc, hsan]

section
variable (hsan : s.flag .JQ_STS_SANITIZING = false)
include hsan

/-! ### FLUSH_BLOCK (R203) -/

/-- A cut inside the range of a WRITE_PACK, in time, is added to its cuts. -/
theorem exec_flushBlock_cuts {t : Cmd} (hc : s.packet n 0x05 = some c) (hok : c.plainOk true true false = true) (hparam : c.param < 65536)
    (ht : s.tagged c.q c.param = some t) (hop : t.op = 0x04) (hfirst : t.pLba < c.pLba) (hlast : c.pLba < t.pLba + t.pLen)
    (hcuts : t.aux.length < 16) (htime : c.aux = []) :
    exec (.flushBlock n) s = .next ((s.setCmd { t with aux := t.aux ++ [c.pLba] }).finish c vSuccess) := by
  rw [exec_flushBlock, execFlushBlock, hc]
  refine (if_neg (by simp [hsan])).trans ((if_neg (by simp [hok, hparam])).trans ?_)
  rw [ht]
  exact (if_neg (by simp [hop, hfirst, hlast, hcuts])).trans (if_neg (by simp [htime]))

/-! ### PIN and UNPIN (R205 to R207) -/

/-- A PIN as it is admitted. -/
def Cmd.pinOf (c : Cmd) : Cmd :=
  { c with node := c.pNode, lba := c.pLba, len := c.pLen, cls := if c.ctl % 4 = 2 then 2 else 1, st := .admitted }

theorem exec_pin_starts (hc : s.packet n 0x06 = some c) (hok : c.packetOk = true) (hcodec : c.codec = 0) (hlen : c.pLen ≠ 0)
    (hout : c.outLen = 0) (hdest : c.dest = 0) (hparam : c.param = 0) (hrange : s.rangeVerdict c c.pNode c.pLba c.pLen rightPin = none)
    (hnow : bit c.ctl 4 = false) : exec (.pin n) s = .next ((s.setCmd c.pinOf).startPin c.pinOf) := by
  rw [exec_pin, execPin, hc]
  refine (if_neg (by simp [hsan])).trans ((if_neg (by simp [hok, hcodec, hlen, hout, hdest, hparam])).trans ?_)
  rw [hrange]
  exact if_neg (by simpa [Cmd.ctl] using hnow)

/-- UNPIN of a pin that its function holds; its reply waits for the lines that a refill keeps locked. -/
theorem exec_unpin_releases {p : Pin} (hc : s.packet n 0x07 = some c) (hok : c.plainOk false true false = true) (hparam : c.param < 32768)
    (hp : (s.pins.find? fun p => p.fn = c.fn && p.id = c.param && p.id ≠ 0) = some p) : exec (.unpin n) s
      = .next (((s.releasePin p).setCmd { c with st := .admitted, aux := p.lines.map fun x => x.1 + 4096 * x.2 }).endUnpins) := by
  rw [exec_unpin, execUnpin, hc]
  refine (if_neg (by simp [hsan])).trans ((if_neg (by simp [hok, hparam])).trans ?_)
  rw [hp]

/-! ### ABORT (R228 to R230) -/

section
variable (hc : s.packet n 0x08 = some c) (hok : c.plainOk false true false = true) (hparam : c.param < 65536)
include hc hok hparam

theorem exec_abort_unknown (ht : s.tagged c.q c.param = none) : exec (.abort n) s = .next (s.finish c vUnknownTag) := by
  rw [exec_abort, execAbort, hc]
  refine (if_neg (by simp [hsan])).trans ((if_neg (by simp [hok, hparam])).trans ?_)
  rw [ht]

/-- An ABORT that catches its target ends it first; one that does not is MISSED. -/
theorem exec_abort_target {t : Cmd} (ht : s.tagged c.q c.param = some t) : exec (.abort n) s
    = .next (if t.res.isNone && s.catches t then ((s.withdraw t vAborted).bump .JQ_CNT_CAUGHT).finish c { vSuccess with caught := true }
      else (s.bump .JQ_CNT_MISSED).finish c { vSuccess with missed := true }) := by
  rw [exec_abort, execAbort, hc]
  refine (if_neg (by simp [hsan])).trans ((if_neg (by simp [hok, hparam])).trans ?_)
  rw [ht]
  exact (apply_ite Host.Outcome.next _ _ _).symm

end

/-! ### FENCE and TIME (R208, R232) -/

theorem exec_fence_admitted (hc : s.packet n 0x09 = some c) (hok : c.plainOk false true false = true) (hparam : c.param < 2) :
    exec (.fence n) s = .next ((s.setCmd { c with st := .admitted }).tryFence { c with st := .admitted }) := by
  rw [exec_fence, execFence, hc]
  exact (if_neg (by simp [hsan])).trans (if_neg (by simp [hok, hparam]))

/-- The 32 bytes of a TIME: tick, calendar, phase and period. -/
def State.timeData (s : State) : List Byte :=
  natLe 8 s.tick ++ natLe 8 s.calStamp ++ natLe 4 (s.get .TK_PHASE_PHASE) ++ natLe 4 (s.get .TK_PERIOD_PERIOD) ++ natLe 8 0

/-- On strict traffic a TIME waits for its translation, its turn and the requests held back. -/
theorem exec_time_sends (hc : s.packet n 0x0A = some c) (hok : c.plainOk false false true = true) (hdest : c.dest % 8 = 0) : exec (.time n) s
    = .next (if s.cmdStrict c ∧ (s.xlatMiss c.fn (some c.dest) 32 = true ∨ s.laneTurn false c.fn c.q c.id = false ∨ s.holds ≠ []) then
        s.askXlat c.fn (some c.dest) 32
      else (s.sendDma c c.dest s.timeData).finish c vSuccess) := by
  rw [exec_time, execTime, hc, apply_ite Host.Outcome.next]
  refine (if_neg (by simp [hsan])).trans ((if_neg (by simp [hok, hdest])).trans ?_)
  exact if_congr (by simp [or_assoc]) rfl rfl

end

theorem exec_fenceComplete_done (hc : s.cmd? n = some c) (hjx : c.nvme = false) (hop : c.op = 0x09) (hst : c.st = .admitted)
    (hdone : s.fenceDone c = true) : exec (.fenceComplete n) s = .next (s.finish c vSuccess) := by
  rw [exec_fenceComplete, execFenceComplete, hc]
  exact congrArg Host.Outcome.next ((if_pos (by simp [hjx, hop, hst])).trans (if_pos hdone))

/-! ### The end of a preload (R205, R290) -/

theorem exec_pinPreloadComplete_loaded {p : Pin} (hc : s.cmd? n = some c) (hp : (s.pins.find? fun p => p.cmd = n && p.id = 0) = some p)
    (hst : c.st = .planned) (hres : c.res = none) (hmute : c.mute = false) (hloaded : s.pinLoaded p = true) (hroom : s.pinCount c.fn < 256) :
    exec (.pinPreloadComplete n) s = .next (s.finish c vSuccess) := by
  rw [exec_pinPreloadComplete, execPinPreloadComplete, hc, hp]
  exact (if_pos hloaded).trans ((if_neg (by simp [hres, hst])).trans ((if_neg (by simp [hmute])).trans (if_neg hroom.not_ge)))

/-- The pins once what a command has loaded is the pin `i` (R205). -/
def State.idPins (s : State) (c : Cmd) (i : Nat) : State :=
  { s with pins := s.pins.map fun x => if x.cmd = c.id && x.id = 0 then { x with id := i } else x }

theorem State.idPins_zero : s.idPins c 0 = s := by
  have hid : ∀ x : Pin, (if x.cmd = c.id && x.id = 0 then { x with id := 0 } else x) = x := fun x => by
    split
    next h =>
      obtain ⟨-, hz⟩ : x.cmd = c.id ∧ x.id = 0 := by simpa using h
      rw [← hz]
    next => rfl
  simp only [State.idPins, hid, List.map_id']

/-- A pin that has an ID is none that its command still loads. -/
theorem State.idPins_settled {i : Nat} (hi : i ≠ 0) : (s.idPins c i).pins.any (fun p => p.cmd = c.id && p.id = 0) = false := by
  rw [List.any_eq_false]
  intro y hy
  obtain ⟨x, -, rfl⟩ := List.mem_map.1 hy
  split
  next => simp [hi]
  next h => exact h

theorem State.namePin_settled {r : Result} (h : s.pins.any (fun p => p.cmd = c.id && p.id = 0) = false) : s.namePin c r = (r, s) :=
  if_neg (by simp [h])

section
variable {r : Result} (hop : c.op = 0x06) (hr : r.jx = 0) (hloading : s.pins.any (fun p => p.cmd = c.id && p.id = 0) = true)
include hop hr hloading

theorem State.namePin_loading : s.namePin c r = ({ r with info := s.freePin c.fn }, s.idPins c (s.freePin c.fn)) :=
  if_pos (by simp [hop, hr, hloading])

/-- Naming a pin twice names it once; that holds too where no ID is free and the pin keeps 0. -/
theorem State.namePin_named : (s.idPins c (s.freePin c.fn)).namePin c { r with info := s.freePin c.fn } = s.namePin c r := by
  rw [State.namePin_loading hop hr hloading]
  rcases eq_or_ne (s.freePin c.fn) 0 with hz | hnz
  · rw [hz, State.idPins_zero, State.namePin_loading (r := { r with info := 0 }) hop hr hloading, hz, State.idPins_zero]
  · exact State.namePin_settled (State.idPins_settled hnz)

end

/-- A reply depends on the verdict and the state as the naming of a pin leaves them. -/
theorem State.writeReply_congr {t : State} {r r' : Result} (h : t.namePin c r' = s.namePin c r) : s.writeReply c r = t.writeReply c r' := by
  unfold State.writeReply
  rw [h]

/-! ### The settlement -/

/-- Settles O22: each command by its law above. That an ABORT misses a read that is not yet admitted and catches a PIN or a FENCE that still waits
(log entry 18) is a choice of the model. -/
theorem controlPacketsOfJexash : Obligations.ControlPacketsOfJexash := by
  unfold Obligations.ControlPacketsOfJexash
  refine ⟨fun s n c hsan => exec_control_sanitizing hsan,
    fun s n c t hsan hc hok hparam ht hop hfirst hlast hcuts htime =>
      exec_flushBlock_cuts hsan hc hok hparam ht hop hfirst hlast hcuts htime,
    fun s n c hsan hc hok hcodec hlen hout hdest hparam hrange hnow =>
      ⟨c.pinOf, exec_pin_starts hsan hc hok hcodec hlen hout hdest hparam hrange hnow, rfl, rfl, rfl, rfl, rfl⟩,
    fun s n c p hc hp hst hres hmute hloaded hroom => exec_pinPreloadComplete_loaded hc hp hst hres hmute hloaded hroom, ?named,
    fun s n c p hsan hc hok hparam hp => exec_unpin_releases hsan hc hok hparam hp, ?abort,
    fun s n c hsan hc hok hparam => exec_fence_admitted hsan hc hok hparam,
    fun s n c hc hjx hop hst hdone => exec_fenceComplete_done hc hjx hop hst hdone,
    fun s n c hsan hc hok hdest => exec_time_sends hsan hc hok hdest⟩
  case named =>
    intro s c p hop hp
    have hloads := List.find?_some hp
    have hloading : s.pins.any (fun p => p.cmd = c.id && p.id = 0) = true := List.any_eq_true.2 ⟨p, List.mem_of_find?_eq_some hp, hloads⟩
    exact ⟨s.idPins c (s.freePin c.fn), State.namePin_loading hop rfl hloading, List.length_map .., rfl, rfl,
      State.writeReply_congr (State.namePin_named hop rfl hloading)⟩
  case abort =>
    intro s n c hsan hc hok hparam
    cases ht : s.tagged c.q c.param with
    | none => exact exec_abort_unknown hsan hc hok hparam ht
    | some t => exact exec_abort_target hsan hc hok hparam ht

end Sys2Proof.Machine

/-! Title stacks (06_title_stacks.md, R258 to R263, R266): a GO to TS_CMD, its check, and what a change makes of the nodes. -/

namespace Sys2Proof.Machine

variable {s : State} {c : Change} {a tag : Nat}

/-! ### What journalling and reporting a change leave of the nodes (R263, R264, R267) -/

theorem State.nodes_of_faultFrame {t : State} (h : t.faultFrame = s.faultFrame) : t.nodes = s.nodes := (congrArg State.nodes h :)

theorem forEach_nodes {α : Type} {l : List α} {k : α → State → State} (h : ∀ x u, (k x u).nodes = u.nodes) :
    (forEach l s k).nodes = s.nodes := forEach_same State.nodes h

@[simp] theorem State.journal_nodes {type node x y : Nat} : (s.journal type node x y).nodes = s.nodes :=
  (State.parts_of_journalFrame State.journal_journalFrame).1

@[simp] theorem State.journalChildren_nodes {id : Nat} {l : List Nat} : (s.journalChildren id l).nodes = s.nodes :=
  forEach_nodes fun _ _ => State.journal_nodes

@[simp] theorem State.journalAttr_nodes {n : Node} : (s.journalAttr n).nodes = s.nodes := State.journal_nodes

@[simp] theorem State.dropDict_nodes {node : Nat} : (s.dropDict node).nodes = s.nodes := by
  unfold State.dropDict
  split_ifs
  · exact State.journal_nodes
  · rfl

@[simp] theorem State.tsDone_nodes {st : Nat} : (s.tsDone a tag st).nodes = s.nodes :=
  State.nodes_of_faultFrame State.tsDone_faultFrame

@[simp] theorem State.tsResult_nodes {st reason node : Nat} : (s.tsResult a st reason node).nodes = s.nodes := rfl

theorem State.notifyChange_faultFrame {id : Nat} : (s.notifyChange id).faultFrame = s.faultFrame := by
  refine forEach_faultFrame fun f u => ?_
  have hmarks : ∀ l : List Nat, (forEach l u fun n t => t.putFlag .X_NSCHG true (f * 4096 + n)).faultFrame = u.faultFrame :=
    fun l => forEach_faultFrame fun _ _ => rfl
  simp [apply_ite State.faultFrame, hmarks]

@[simp] theorem State.notifyChange_nodes {id : Nat} : (s.notifyChange id).nodes = s.nodes :=
  State.nodes_of_faultFrame State.notifyChange_faultFrame

/-- An invalidation that writes no line back reaches no node; every one that a change starts is of this kind. -/
theorem State.startSweep_nodes {w : Sweep} (h : w.kind ≠ 0) : (s.startSweep w).nodes = s.nodes := by
  simp [State.startSweep, State.applySweep, h, apply_ite State.nodes]

@[simp] theorem State.adoptLines_nodes {id : Nat} : (s.adoptLines id).nodes = s.nodes := rfl

@[simp] theorem State.addNode_nodes {n : Node} : (s.addNode n).nodes = s.nodes ++ [n] := by
  rw [State.addNode, State.adoptLines_nodes, State.journal_nodes]
  rfl

/-- A new epoch changes no part of a node but its epoch. -/
theorem State.newEpoch_map {α : Type} {id : Nat} {p : Node → α} (h : ∀ n e, p { n with epoch := e } = p n) :
    (s.newEpoch id).nodes.map p = s.nodes.map p := by
  simp only [State.newEpoch, List.map_map]
  refine List.map_congr_left fun n _ => ?_
  simp [apply_ite p, h]

/-! ### A change of one node takes effect (R261, R266, R268) -/

/-- What a change other than CREATE_STACK makes of the node it names. -/
def Change.apply (c : Change) (n : Node) : Node :=
  if c.op = tsSet then { n with children := c.children }
  else if c.op = tsDelete then { n with deleting := true, children := [] }
  else if c.op = tsWritable then { n with writable := true }
  else if c.op = tsSeal then { n with writable := false }
  else if c.op = tsGrow then { n with size := c.size }
  else n

/-- It reaches that node alone. -/
theorem State.withChange_nodes (h : c.op ≠ tsCreate) :
    (s.withChange c).nodes = s.nodes.map fun n => if n.id = c.node then c.apply n else n := by
  unfold State.withChange Change.apply
  rw [if_neg h]
  split_ifs <;> simp

/-- SET_WRITABLE, CLEAR_WRITABLE and GROW make of the nodes what the checks took them to make. -/
theorem State.effect_nodes_eq_withChange (hcreate : c.op ≠ tsCreate) (hset : c.op ≠ tsSet) (hdelete : c.op ≠ tsDelete) :
    (s.effect a tag c).nodes = (s.withChange c).nodes := by
  rw [State.effect, if_neg hcreate, if_neg hset, if_neg hdelete]
  simp only [State.tsDone_nodes, State.notifyChange_nodes, apply_ite State.nodes, State.dropDict_nodes, ite_self]
  split
  · simp [apply_ite State.nodes]
  · rfl

theorem State.effect_nodes_attribute (hcreate : c.op ≠ tsCreate) (hset : c.op ≠ tsSet) (hdelete : c.op ≠ tsDelete) :
    (s.effect a tag c).nodes = s.nodes.map fun n => if n.id = c.node then c.apply n else n :=
  (State.effect_nodes_eq_withChange hcreate hset hdelete).trans (State.withChange_nodes hcreate)

/-- A new stack stands last, under the lowest free ID. -/
theorem State.effect_nodes_create {id : Nat} (hop : c.op = tsCreate) (hfree : s.freeNode = some id) :
    (s.effect a tag c).nodes = s.nodes ++ [newStack id c.size c.children] := by
  simp [State.effect, hop, hfree]

theorem State.effect_children_set (hop : c.op = tsSet) : ((s.effect a tag c).nodes.map fun n => (n.id, n.children))
    = s.nodes.map fun n => (n.id, if n.id = c.node then c.children else n.children) := by
  have hcreate : c.op ≠ tsCreate := by simp [hop, tsSet, tsCreate]
  have heffect : (s.effect a tag c).nodes = (((s.journalChildren c.node c.children).withChange c).newEpoch c.node).nodes := by
    rw [State.effect, if_neg hcreate, if_pos hop]
    exact State.notifyChange_nodes
  rw [heffect, State.newEpoch_map fun _ _ => rfl, State.withChange_nodes hcreate, State.journalChildren_nodes, List.map_map]
  refine List.map_congr_left fun n _ => ?_
  by_cases hn : n.id = c.node <;> simp [hn, Change.apply, hop]

/-- A deletion marks the node it begins on, and no other. -/
theorem State.beginDeletion_marks {id : Nat} (h : s.node? id ≠ none) : ((s.beginDeletion id a tag).nodes.map fun n => (n.id, n.deleting))
    = s.nodes.map fun n => (n.id, if n.id = id then true else n.deleting) := by
  obtain ⟨x, hx⟩ := Option.ne_none_iff_exists'.1 h
  have hid : x.id = id := by simpa using List.find?_some hx
  rw [State.beginDeletion, hx]
  simp only [State.startSweep_nodes, ne_eq, one_ne_zero, not_false_eq_true, State.setNode, State.journal_nodes, List.map_map]
  refine List.map_congr_left fun n _ => ?_
  by_cases hn : n.id = id <;> simp [hn, hid]

theorem State.effect_deleting_delete (hop : c.op = tsDelete) (hnode : s.node? c.node ≠ none) :
    ((s.effect a tag c).nodes.map fun n => (n.id, n.deleting))
      = s.nodes.map fun n => (n.id, if n.id = c.node then true else n.deleting) := by
  have heffect : (s.effect a tag c).nodes = (s.beginDeletion c.node a tag).nodes := by
    simp [State.effect, hop, tsDelete, tsCreate, tsSet]
  rw [heffect, State.beginDeletion_marks hnode]

/-! ### A GO to TS_CMD (R258 to R261) -/

/-- The operation of a GO is recorded, and the change has the next tag. -/
def State.recordTs (s : State) (a op : Nat) (useTick : Bool) : State :=
  (((s.put .TS_CMD_OP op 0 a).putFlag .TS_CMD_USE_TICK useTick 0 a).put .X_TS_NEXT (s.get .X_TS_NEXT + 1)).put .X_TS_SEQ
    (s.get .X_TS_NEXT + 1) 0 a

/-- The number of children an operation checks: only CREATE_STACK and SET_CHILDREN have any. -/
def State.tsCount (s : State) (a op : Nat) : Nat := if op = tsCreate || op = tsSet then s.get .TS_ARG_COUNT 0 a else 0

/-- The change that an agent's arguments ask for. -/
def State.tsChange (s : State) (a op : Nat) : Change :=
  ⟨op, s.get .TS_ARG_NODE 0 a,
    if op = tsCreate || op = tsSet then (List.range (min (s.get .TS_ARG_COUNT 0 a) 32)).map (fun i => s.get .TS_STAGE_NODE i a) else [],
    s.get .TS_ARG_SIZE 0 a⟩

/-- The answer to a change: REFUSED for the reason of a failing check, else ARMED with a tick and BUSY without. -/
def State.answerTs (s : State) (c : Change) (a tick tag : Nat) (useTick : Bool) : Option Nat → State
  | some x => s.tsResult a 4 x c.node
  | none =>
    if useTick then (s.tsResult a 2 0 c.node).arm tick (.stack a c.op c.node c.children tag)
    else ((s.tsResult a 1 0 c.node).putFlag .TS_CMD_GO true 0 a).effect a tag c

section
variable {ag : Agent} {op : Nat} {useTick : Bool} (hag : s.mayWrite ag .ownerFeMp = true)
include hag

/-- A GO while BUSY is only counted. -/
theorem State.submitTs_busy (hbusy : s.get .TS_RESULT_STATE 0 ag.ix = 1) : s.submitTs ag op useTick = s.bump .UCB_CNT2 uMap := by
  rw [State.submitTs, State.guardWrite_of_mayWrite hag (by decide)]
  exact if_pos hbusy

/-- Any other is recorded, checked and answered. -/
theorem State.submitTs_answered (hidle : s.get .TS_RESULT_STATE 0 ag.ix ≠ 1) :
    s.submitTs ag op useTick = (s.recordTs ag.ix op useTick).answerTs (s.tsChange ag.ix op) ag.ix (s.get .TS_TICK 0 ag.ix)
      (s.get .X_TS_NEXT + 1) useTick
      ((s.recordTs ag.ix op useTick).tsReason (s.tsChange ag.ix op) useTick (s.get .TS_TICK 0 ag.ix) (s.tsCount ag.ix op)) := by
  rw [State.submitTs, State.guardWrite_of_mayWrite hag (by decide)]
  refine (if_neg hidle).trans ?_
  simp only [State.get_putFlag_field, State.get_put_field, ne_eq, reduceCtorEq, not_false_eq_true]
  simp only [State.recordTs, State.tsChange, State.tsCount]
  generalize State.tsReason _ _ _ _ _ = verdict
  cases verdict <;> rfl

end

/-- Settles O41: each command as the answer to its GO, each change by its law above. That R262's count of armed changes
holds for the check of R246 too (log entry 74) is a choice of the model. -/
theorem stackCommandsAreCheckedAndTakeEffect : Obligations.StackCommandsAreCheckedAndTakeEffect := by
  unfold Obligations.StackCommandsAreCheckedAndTakeEffect
  refine ⟨?answered, ?busy, fun s a tag c id hop hfree => State.effect_nodes_create hop hfree, ?grow, ?writable, ?sealed,
    fun s a tag c hop hnode => State.effect_deleting_delete hop hnode, fun s a tag c hop => State.effect_children_set hop⟩
  case answered =>
    intro s t ag op ut c hag hon hidle ht hc
    change t = s.recordTs ag.ix op ut at ht
    change c = s.tsChange ag.ix op at hc
    have hsubmit := State.submitTs_answered (op := op) (useTick := ut) hag hidle
    rw [← ht, ← hc] at hsubmit
    have hop : c.op = op := by rw [hc]; rfl
    have hnodes : t.nodes = s.nodes := by rw [ht]; rfl
    refine ⟨s.submitTs ag op ut, (t.tsResult ag.ix 1 0 c.node).putFlag .TS_CMD_GO true 0 ag.ix, ?refused, ?armed, ?effect,
      ?_, ?_, ?_, ?_, ?_, ?_⟩
    case refused =>
      intro x (hx : t.tsReason c ut _ (s.tsCount ag.ix op) = some x)
      rw [hsubmit, hx]
      exact ⟨rfl, hnodes⟩
    case armed =>
      intro (hx : t.tsReason c ut _ (s.tsCount ag.ix op) = none) hut
      rw [hsubmit, hx, hut, ← hop]
      exact ⟨rfl, hnodes⟩
    case effect =>
      intro (hx : t.tsReason c ut _ (s.tsCount ag.ix op) = none) hut
      rw [hsubmit, hx, hut]
      exact ⟨rfl, hnodes, rfl⟩
    · rintro rfl rfl
      rw [exec_createStack, execCreateStack, State.atUnit_on hon]
    · rintro rfl
      rw [exec_setChildren, execSetChildren, State.atUnit_on hon]
    · rintro rfl
      rw [exec_deleteStack, execDeleteStack, State.atUnit_on hon]
    · rintro rfl rfl
      rw [exec_setWritable, execSetWritable, State.atUnit_on hon]
    · rintro rfl rfl
      rw [exec_clearWritable, execClearWritable, State.atUnit_on hon]
    · rintro rfl rfl
      rw [exec_grow, execGrow, State.atUnit_on hon]
  case busy =>
    intro s ag hag hon hbusy
    rw [exec_grow, execGrow, exec_createStack, execCreateStack, State.atUnit_on hon, State.atUnit_on hon, State.submitTs_busy hag hbusy,
      State.submitTs_busy hag hbusy]
    exact ⟨rfl, rfl⟩
  case grow =>
    intro s a tag c hop
    rw [State.effect_nodes_attribute] <;> simp [Change.apply, hop, tsGrow, tsSet, tsDelete, tsCreate, tsWritable, tsSeal]
  case writable =>
    intro s a tag c hop
    rw [State.effect_nodes_attribute] <;> simp [Change.apply, hop, tsSet, tsDelete, tsCreate, tsWritable]
  case sealed =>
    intro s a tag c hop
    rw [State.effect_nodes_attribute] <;> simp [Change.apply, hop, tsSet, tsDelete, tsCreate, tsWritable, tsSeal]

end Sys2Proof.Machine

/-! The map cache's enable and disable, its drain and its reset invalidation (07_translation_and_map_cache.md, R301 to R304), and what an access
that wakes a unit changes (01, R33). -/

namespace Sys2Proof.Machine

variable {s u : State} {ag : Agent}

/-! ### What a write to a unit that sleeps changes before it takes place (R33, R491) -/

/-- The fields that waking a unit writes: the power states, the counters of the stall, and the free values its length comes from. -/
def wakeFields : List Field := [.X_PWR_TARGET, .X_MODE_POWER, .X_FREE, .UCB_CNT4, .UCB_CNT5]

section
variable {β : Type} (p : State → β) (hput : ∀ (u : State) f v i, f ∈ wakeFields → p (u.put f v i) = p u) {w : Nat}
include hput

/-- A wake leaves alone what no write of those fields changes. -/
theorem State.wakeUnit_same : p (s.wakeUnit w) = p s := by
  rw [State.wakeUnit, State.gateAll, forEach_same p fun _ _ => hput _ _ _ _ (by decide), forEach_same p fun _ _ => ?_]
  rw [apply_ite p, hput _ _ _ _ (by decide), ite_self]

/-- So does meeting the unit. -/
theorem State.reachUnit_same {ns : Option Nat} (h : s.reachUnit w ns = some u) : p u = p s := by
  have hstall (v : State) (n : Nat) : p (((v.wakeUnit w).bump .UCB_CNT4 w).add .UCB_CNT5 n w) = p v := by
    rw [State.add, hput _ _ _ _ (by decide), State.bump, State.add, hput _ _ _ _ (by decide), State.wakeUnit_same p hput]
  unfold State.reachUnit at h
  dsimp only at h
  split_ifs at h
  · cases h
    rfl
  · cases ns with
    | none =>
      cases h
      exact (hstall _ _).trans (hput _ _ _ _ (by decide))
    | some n =>
      cases h
      exact hstall s n

end

theorem State.reachUnit_keeps {w : Nat} {ns : Option Nat} (h : s.reachUnit w ns = some u) :
    (∀ f i a, f ∉ wakeFields → u.get f i a = s.get f i a) ∧ u.lines = s.lines ∧ u.pins = s.pins ∧ u.locks = s.locks :=
  ⟨fun f i a hf => State.reachUnit_same (fun v => v.get f i a)
      (fun v g x j hg => State.get_put_field v g f x j i 0 a fun e => hf (e ▸ hg)) h,
    State.reachUnit_same State.lines (fun _ _ _ _ _ => rfl) h, State.reachUnit_same State.pins (fun _ _ _ _ _ => rfl) h,
    State.reachUnit_same State.locks (fun _ _ _ _ _ => rfl) h⟩

/-- A unit that is not OFF lets a write through, in a state that a wake may have changed. -/
theorem State.atUnit_reached {w : Nat} (h : s.unitPower w ≠ 3) :
    ∃ u, s.reachUnit w none = some u ∧ (s.unitPower w = 0 → u = s) ∧ ∀ act, s.atUnit w act = act u := by
  obtain ⟨u, hu⟩ : ∃ u, s.reachUnit w none = some u := by
    by_cases hon : s.unitPower w = 0 <;> simp [State.reachUnit, hon, h]
  refine ⟨u, hu, fun hon => ?_, fun act => by rw [State.atUnit, hu]⟩
  rw [State.reachUnit, hon] at hu
  exact (Option.some.inj hu).symm

theorem State.atUnit_off {w : Nat} {act : State → State} (h : s.unitPower w = 3) : s.atUnit w act = s.refuseAt w := by
  simp [State.atUnit, State.reachUnit, h]

/-- A group of writers depends on the state by the Owner role alone. -/
theorem State.mayWrite_congr {g : Writers} (h : u.flag .SEC_STS_OWNER = s.flag .SEC_STS_OWNER) : u.mayWrite ag g = s.mayWrite ag g := by
  simp only [State.mayWrite, State.isOwner, h]

theorem State.unlessLocked_unlocked {f : Field} {act : State → State} {i : Nat} (h : s.lockedFor ag f i = false) :
    s.unlessLocked ag [f] act i = act s := by
  simp [State.unlessLocked, h]

/-! ### A write of MC_CTL.ENABLE (R302 to R304) -/

section
variable (hag : s.mayWrite ag .ownerMp = true) (hlock : s.lockedFor ag .MC_CTL_ENABLE = false)
include hag hlock

/-- A disable of a disabled cache does nothing. -/
theorem State.writeMcCtl_disabled (hen : s.flag .MC_CTL_ENABLE = false) : s.writeMcCtl ag false = s := by
  simp [State.writeMcCtl, State.guardWrite_of_mayWrite hag, State.unlessLocked_unlocked hlock, hen]

/-- One while a pin is held is refused (R302). -/
theorem State.writeMcCtl_pinned (hen : s.flag .MC_CTL_ENABLE = true) (hpins : s.pins ≠ []) :
    s.writeMcCtl ag false = s.putFlag .MC_STS_DISABLE_REFUSED true := by
  simp [State.writeMcCtl, State.guardWrite_of_mayWrite hag, State.unlessLocked_unlocked hlock, hen, hpins]

/-- One without pins starts the drain (R303). -/
theorem State.writeMcCtl_unpinned (hen : s.flag .MC_CTL_ENABLE = true) (hpins : s.pins = []) :
    s.writeMcCtl ag false = (s.putFlag .MC_CTL_ENABLE false).putFlag .MC_STS_DRAINING true := by
  simp [State.writeMcCtl, State.guardWrite_of_mayWrite hag, State.unlessLocked_unlocked hlock, hen, hpins]

/-- An enable of a drained cache (R304). -/
theorem State.writeMcCtl_drained (hdrained : s.flag .MC_STS_DRAINED = true) :
    s.writeMcCtl ag true = ((s.putFlag .MC_CTL_ENABLE true).putFlag .MC_STS_DRAINED false).putFlag .MC_STS_ENABLED true := by
  simp [State.writeMcCtl, State.guardWrite_of_mayWrite hag, State.unlessLocked_unlocked hlock, hdrained]

/-- One during the drain is counted (R304). -/
theorem State.writeMcCtl_draining (hdrained : s.flag .MC_STS_DRAINED = false) (hdraining : s.flag .MC_STS_DRAINING = true) :
    s.writeMcCtl ag true = s.bump .UCB_CNT2 uMap := by
  simp [State.writeMcCtl, State.guardWrite_of_mayWrite hag, State.unlessLocked_unlocked hlock, hdrained, hdraining]

end

/-! ### The end of a drain (R303) -/

theorem State.writeBackLine_modeView {x : Line} : (s.writeBackLine x).modeView = s.modeView := by
  rw [State.writeBackLine, apply_ite State.modeView]
  split_ifs
  · rfl
  · exact State.setLine_modeView.trans (forEach_modeView fun _ _ => State.pagePut_modeView)

/-- The cache with its DIRTY lines written back. -/
def State.writtenBack (s : State) : State := forEach s.lines s fun x t => t.writeBackLine x

/-- The cache drained: the lookups that waited are served, and no line is left. -/
def State.drained (s : State) : State :=
  { forEach s.writtenBack.lookups s.writtenBack fun w t => t.serve w.node w.l with lines := [] }

theorem State.drained_flash : s.drained.flash = s.flash := by
  have hback : s.writtenBack.modeView = s.modeView := forEach_modeView fun _ _ => State.writeBackLine_modeView
  exact State.flash_of_modeView ((forEach_modeView fun _ _ => State.serve_modeView).trans hback)

theorem exec_drainComplete_draining (h : s.flag .MC_STS_DRAINING = true) : exec .drainComplete s
    = .next (((s.drained.putFlag .MC_STS_DRAINING false).putFlag .MC_STS_DRAINED true).putFlag .MC_STS_ENABLED false).endUnpins := by
  rw [exec_drainComplete, execDrainComplete, if_pos h]
  rfl

/-! ### A disable while pins are held (R302) -/

/-- MC_PIN_COUNT counts pins that are held. -/
theorem State.pins_ne_nil_of_pinCount (h : s.mcView ag .MC_PIN_COUNT 0 0 ≠ 0) : s.pins ≠ [] := by
  intro hpins
  exact h (by simp [State.mcView, hpins])

section
variable (hag : s.mayWrite ag .ownerMp = true) (hlock : s.lockedFor ag .MC_CTL_ENABLE = false) (hen : s.flag .MC_CTL_ENABLE = true)
  (hpins : s.pins ≠ [])
include hag hlock hen hpins

/-- A disable that reaches the block only sets DISABLE_REFUSED there; a wake has changed none of what it looks at. -/
theorem exec_mapCacheDisable_pinned (hoff : s.unitPower uMap ≠ 3) :
    ∃ u, exec (.mapCacheDisable ag) s = .next (u.putFlag .MC_STS_DISABLE_REFUSED true) ∧ (s.unitPower uMap = 0 → u = s)
      ∧ (∀ f i a, f ∉ wakeFields → u.get f i a = s.get f i a) ∧ u.lines = s.lines ∧ u.pins = s.pins := by
  obtain ⟨u, hu, hon, hact⟩ := State.atUnit_reached hoff
  obtain ⟨hget, hlines, hpins', hlocks⟩ := State.reachUnit_keeps hu
  have hflag (f : Field) (hf : f ∉ wakeFields) : u.flag f = s.flag f := by rw [State.flag, hget _ _ _ hf, State.flag]
  have hrefused := State.writeMcCtl_pinned (s := u) (ag := ag) (by rw [State.mayWrite_congr (hflag _ (by decide)), hag])
    (by rw [State.lockedFor, hlocks, ← State.lockedFor, hlock]) (by rw [hflag _ (by decide), hen]) (by rw [hpins']; exact hpins)
  exact ⟨u, by rw [exec_mapCacheDisable, execMapCacheDisable, hact, hrefused], hon, hget, hlines, hpins'⟩

/-- Whatever the power state of the block, ENABLE stays 1. -/
theorem exec_mapCacheDisable_pinned_enable {t : State} (ht : exec (.mapCacheDisable ag) s = .next t) : t.flag .MC_CTL_ENABLE = true := by
  by_cases hoff : s.unitPower uMap = 3
  · rw [exec_mapCacheDisable, execMapCacheDisable, State.atUnit_off hoff] at ht
    cases ht
    simpa [State.refuseAt, State.flag, State.putFlag] using hen
  · obtain ⟨u, hexec, -, hget, -⟩ := exec_mapCacheDisable_pinned hag hlock hen hpins hoff
    rw [hexec] at ht
    cases ht
    rw [State.flag_putFlag_field (h := by decide), State.flag, hget _ _ _ (by decide), ← State.flag, hen]

end

/-! ### The settlements -/

/-- Settles O44: each command on the branch that the hypotheses choose, by the laws above. -/
theorem mapCacheEnableDisableAndDrain : Obligations.MapCacheEnableDisableAndDrain := by
  unfold Obligations.MapCacheEnableDisableAndDrain
  refine ⟨fun s ag hag hon hlock => ⟨fun hen hpins => ?disable, fun hen => ?disabled, fun hdrained => ?enable,
    fun hdrained hdraining => ?draining⟩, fun s h => ?drain, fun s h => ?drainIdle, fun s h => ?init, fun s h => ?initIdle⟩
  case disable =>
    refine ⟨_, congrArg Host.Outcome.next ((State.atUnit_on hon).trans (State.writeMcCtl_unpinned hag hlock hen hpins)), ?_, ?_, ?_, rfl⟩ <;>
      simp (disch := decide) [State.flag_putFlag_self, State.flag_putFlag_field]
  case disabled => exact congrArg Host.Outcome.next ((State.atUnit_on hon).trans (State.writeMcCtl_disabled hag hlock hen))
  case enable =>
    refine ⟨_, congrArg Host.Outcome.next ((State.atUnit_on hon).trans (State.writeMcCtl_drained hag hlock hdrained)), ?_, ?_, ?_, rfl⟩ <;>
      simp (disch := decide) [State.flag_putFlag_self, State.flag_putFlag_field]
  case draining => exact congrArg Host.Outcome.next ((State.atUnit_on hon).trans (State.writeMcCtl_draining hag hlock hdrained hdraining))
  case drain =>
    refine ⟨_, exec_drainComplete_draining h, rfl, ?_, ?_, ?_, State.drained_flash⟩ <;>
      simp (disch := decide) [State.flag_putFlag_self, State.flag_putFlag_field]
  case drainIdle => simp [execDrainComplete, h]
  case init =>
    refine ⟨_, if_pos h, ?_, ?_, rfl, rfl⟩ <;> simp (disch := decide) [State.flag_putFlag_self, State.flag_putFlag_field]
  case initIdle => simp [execResetInvalidationDone, h]

/-- Settles O59: a write that a pin stands against is refused, by the laws above. -/
theorem aDisableIsRefusedWhilePinsAreHeld : Obligations.ADisableIsRefusedWhilePinsAreHeld := by
  unfold Obligations.ADisableIsRefusedWhilePinsAreHeld
  intro s ag hag hlock hen
  refine ⟨fun hcount hoff => ?refused, fun t ht hclear => ?cleared⟩
  case refused =>
    have hpins := State.pins_ne_nil_of_pinCount hcount
    obtain ⟨u, hexec, hon, hget, hlines, hpins'⟩ := exec_mapCacheDisable_pinned hag hlock hen hpins hoff
    refine ⟨_, hexec, exec_mapCacheDisable_pinned_enable hag hlock hen hpins hexec, State.flag_putFlag_self _ _ _ _ _ rfl, ?_, hlines, hpins',
      fun h0 => ⟨fun f i a hf => ?_, by rw [hon h0]; rfl⟩⟩
    · rw [State.get_putFlag_field (h := by decide), hget _ _ _ (by decide)]
    · rw [State.get_putFlag_field (h := hf), hon h0]
  case cleared =>
    by_contra hcount
    simp [exec_mapCacheDisable_pinned_enable hag hlock hen (State.pins_ne_nil_of_pinCount hcount) ht] at hclear

end Sys2Proof.Machine

/-! What a raised fault leaves of the register fields (16_faults_and_recorder.md, R564 to R577), and the program of a page of the journal and of
the map (07_translation_and_map_cache.md, R305 to R308; 09, R387). -/

namespace Sys2Proof.Machine

variable {s t : State}

/-! ### The fields that a raised fault can write

An event writes its source's fields and its unit's; a reaction can end commands, signal vectors, reset units and shed every host. -/

/-- Every field that a raised fault writes, through its reactions and the Plyn fault event to PF0. -/
def faultFields : List Field :=
  [.X_SRC_AT, .X_SRC_PRESENT, .X_SRC_UNIT, .X_SRC_VALUE, .FC_SRC_STATE_STICKY, .FC_SRC_STATE_UNACK, .FC_SRC_STATE_SEVERE,
    .FC_SRC_STATE_ESCALATED, .FC_SRC_STATE_HELD, .FC_SRC_STATE_LAST_REACT, .FC_SRC_FIRST, .FC_SRC_LAST, .FC_SRC_TOTAL, .FC_SRC_DETAIL_UNIT,
    .FC_SRC_DETAIL_VALUE, .FC_SRC_WSTART, .FC_SRC_WCNT_WCNT, .FC_CNT_CE, .FC_CNT_UC, .FC_CNT_FATAL, .FC_CNT_ESCALATED, .FC_CNT_CHIPRESET,
    .FC_STS_ERR_N, .FC_STS_CR_SRC, .FC_STS_CR_VALID, .UCB_FAULT_CORRECTED, .UCB_FAULT_CONTAINED, .UCB_FAULT_FATAL, .UCB_FAULT_THRESHOLD,
    .UCB_FAULT_REFUSED, .UCB_CNT2, .UCB_CNT3, .UCB_REQ_STS_STATE, .UCB_REQ_STS_KIND, .UCB_REQ_STS_REASON, .UCB_RESET_REQ_GO,
    .UCB_POWER_REQ_GO, .UCB_STATUS_RESETTING, .X_OWN_READY, .X_REQ_IMMEDIATE, .X_ARMSEQ, .X_WAKE, .X_CHIPRST, .X_CHIPRST_SRC, .JQ_STS_FROZEN,
    .JQ_QSTS_STATE, .JQ_QCMD_DISABLE, .X_FN_DISABLING, .X_FN_DISKIND, .SEC_STS_OWNER, .X_MBX_MUTE, .HU_DIRTY, .X_MSIX_PEND, .X_ATS_SEQ,
    .ER_LOST, .X_HIST_BIN, .X_EXT_MIN, .X_EXT_MINT, .X_EXT_MAX, .X_EXT_MAXT, .X_SM_RD, .X_SM_RDC, .X_SM_WR, .X_SM_WRC, .X_SM_ME, .X_SM_ERR]

/-- The other fields of a state. -/
def State.calm (s : State) : Field → Nat → Nat → Nat := fun f i a => if f ∈ faultFields then 0 else s.get f i a

theorem State.get_of_calm (h : t.calm = s.calm) {f : Field} (hf : f ∉ faultFields) (i a : Nat) : t.get f i a = s.get f i a := by
  simpa [State.calm, hf] using congrFun (congrFun₂ h f i) a

@[simp] theorem State.put_calm {f : Field} {v i a : Nat} (h : f ∈ faultFields) : (s.put f v i a).calm = s.calm := by
  funext g j b
  by_cases hg : g ∈ faultFields
  · simp [State.calm, hg]
  · have hne : g ≠ f := fun e => hg (e ▸ h)
    simp [State.calm, hg, hne]
@[simp] theorem State.putFlag_calm {f : Field} {b : Bool} {i a : Nat} (h : f ∈ faultFields) : (s.putFlag f b i a).calm = s.calm :=
  State.put_calm h
@[simp] theorem State.add_calm {f : Field} {n i : Nat} (h : f ∈ faultFields) : (s.add f n i).calm = s.calm := State.put_calm h
@[simp] theorem State.bump_calm {f : Field} {i : Nat} (h : f ∈ faultFields) : (s.bump f i).calm = s.calm := State.put_calm h
@[simp] theorem State.emit_calm {o : Out} : (s.emit o).calm = s.calm := rfl
@[simp] theorem State.arm_calm {k : Nat} {a : Act} : (s.arm k a).calm = s.calm := State.put_calm (by decide)

theorem forEach_calm {α : Type} {l : List α} {k : α → State → State} (h : ∀ c u, (k c u).calm = u.calm) : (forEach l s k).calm = s.calm :=
  forEach_same State.calm h


/-! Traffic and the end of commands, in the order of the model's files. -/

@[simp] theorem State.sample_calm {h v} : (s.sample h v).calm = s.calm := by
  simp (disch := decide) [State.sample, apply_ite State.calm]

@[simp] theorem State.sampleBoth_calm {h x v} : (s.sampleBoth h x v).calm = s.calm := by
  simp (disch := decide) [State.sampleBoth, State.sampleExt, apply_ite State.calm]

@[simp] theorem State.send_calm {h strict} : (s.send h strict).calm = s.calm :=
  State.send_same State.calm (fun _ _ => rfl) (fun _ _ => rfl) fun u l v => State.put_calm (s := { u with ats := l }) (by decide)

@[simp] theorem State.sendTlp_calm {fn addr len strict data o} : (s.sendTlp fn addr len strict data o).calm = s.calm := by
  have htouch : (s.touchAts fn addr len).calm = s.calm := by
    unfold State.touchAts
    split
    · split_ifs
      · exact State.put_calm (by decide)
      · rfl
    · rfl
  exact htouch

@[simp] theorem State.flushHolds_calm {n} : (s.flushHolds n).calm = s.calm := by
  induction n generalizing s with
  | zero => rfl
  | succ n ih =>
    unfold State.flushHolds
    split
    · exact ih.trans State.sendTlp_calm
    · rfl

@[simp] theorem State.endCmd_calm {id} : (s.endCmd id).calm = s.calm := State.flushHolds_calm

@[simp] theorem State.sendMsix_calm {fn vector} : (s.sendMsix fn vector).calm = s.calm := by
  unfold State.sendMsix
  split_ifs
  · rfl
  · exact State.putFlag_calm (by decide)
  · split <;> rfl

@[simp] theorem State.sampleLatency_calm {c} : (s.sampleLatency c).calm = s.calm := by
  simp [State.sampleLatency, apply_ite State.calm]

@[simp] theorem State.countHost_calm {c r} : (s.countHost c r).calm = s.calm := by
  simp (disch := decide) [State.countHost, apply_ite State.calm]

@[simp] theorem State.logError_calm {c r} : (s.logError c r).calm = s.calm := by
  have hcount (b : Bool) : (if b then s.bump .X_SM_ME else s).calm = s.calm := by simp (disch := decide) [apply_ite State.calm]
  rw [State.logError, apply_ite State.calm]
  exact (congrArg (ite _ _) ((State.put_calm (by decide)).trans (hcount _))).trans (ite_self _)

/-- A completion entry is posted, or waits. -/
@[simp] theorem State.postCqe_calm {c r} : (s.postCqe c r).calm = s.calm := by
  unfold State.postCqe
  split
  · simp
  split
  · simp
  split
  · simp
  split
  · rfl
  · rw [State.endCmd_calm]
    change State.calm (ite _ _ _) = _
    simp [State.sendFor, apply_ite State.calm]

@[simp] theorem State.asyncEvent_calm {fn type info lid} : (s.asyncEvent fn type info lid).calm = s.calm := by
  unfold State.asyncEvent
  split
  · exact State.postCqe_calm
  · split_ifs <;> rfl

@[simp] theorem State.plynEvent_calm : s.plynEvent.calm = s.calm := by
  simp [State.plynEvent, apply_ite State.calm]

/-! The disable of functions, requests of units and chip resets. -/

theorem State.releaseFnPins_calm {fn} : (s.releaseFnPins fn).calm = s.calm :=
  forEach_calm fun _ _ => forEach_calm fun _ _ => rfl

@[simp] theorem State.disablePoint_fn_calm {f kind} : (s.disablePoint (.fn f) kind).calm = s.calm := by
  have hmute : (s.muteCmds (.fn f)).calm = s.calm := State.put_calm (by decide)
  have hqueues (l : List Nat) (u : State) : (forEach l u fun q v => v.startQueueDisable q).calm = u.calm :=
    forEach_calm fun _ _ => (State.putFlag_calm (by decide)).trans (State.put_calm (by decide))
  have hats (u : State) : (u.dropAts f).calm = u.calm := rfl
  simp (disch := decide) [State.disablePoint, hqueues, hmute, hats, State.releaseFnPins_calm, apply_ite State.calm]

@[simp] theorem State.requestChipReset_calm {cold source} : (s.requestChipReset cold source).calm = s.calm := by
  have hshed (u : State) : u.shedHosts.calm = u.calm :=
    (forEach_calm fun _ _ => State.disablePoint_fn_calm).trans (State.putFlag_calm (by decide))
  simp (disch := decide) [State.requestChipReset, hshed, apply_ite State.calm]

@[simp] theorem State.setReq_calm {w st kind reason} : (s.setReq w st kind reason).calm = s.calm := by
  simp (disch := decide) [State.setReq]

@[simp] theorem State.refuseAt_calm {w} : (s.refuseAt w).calm = s.calm := by
  simp (disch := decide) [State.refuseAt]

@[simp] theorem State.disarmUnit_calm {w} : (s.disarmUnit w).calm = s.calm := rfl

@[simp] theorem State.acceptReset_calm {w imm ut} : (s.acceptReset w imm ut).calm = s.calm := by
  have hmark (u : State) : (u.markResetting w).calm = u.calm :=
    forEach_calm fun _ _ => (State.putFlag_calm (by decide)).trans (State.putFlag_calm (by decide))
  simp (disch := decide) [State.acceptReset, hmark, apply_ite State.calm]

@[simp] theorem State.submitReset_calm {ag w imm ut} : (s.submitReset ag w imm ut).calm = s.calm := by
  unfold State.submitReset
  cases s.resetReason ag w ut <;> simp (disch := decide) [apply_ite State.calm]

/-! The fault collector. -/

@[simp] theorem State.wake_calm {unit reason} : (s.wake unit reason).calm = s.calm := by
  simp (disch := decide) [State.wake, apply_ite State.calm]

@[simp] theorem State.nmi_calm {core} : (s.nmi core).calm = s.calm := by
  simp [State.nmi, apply_ite State.calm]

@[simp] theorem State.setClassBit_calm {cls unit} : (s.setClassBit cls unit).calm = s.calm := by
  unfold State.setClassBit
  split <;> simp (disch := decide)

@[simp] theorem State.countClass_calm {cls} : (s.countClass cls).calm = s.calm := by
  unfold State.countClass
  split <;> simp (disch := decide)

@[simp] theorem State.react_calm {src unit r} : (s.react src unit r).calm = s.calm := by
  simp (disch := decide) [State.react, apply_ite State.calm]

@[simp] theorem State.severe_calm {src unit} : (s.severe src unit).calm = s.calm := by
  simp (disch := decide) [State.severe, apply_ite State.calm]

@[simp] theorem State.event_calm {src unit value} : (s.event src unit value).calm = s.calm := by
  simp (disch := decide) [State.event, apply_ite State.calm]

/-- A raised fault writes fields of `faultFields` only. -/
@[simp] theorem State.raise_calm {src unit value} : (s.raise src unit value).calm = s.calm := by
  simp (disch := decide) [State.raise, apply_ite State.calm]

@[simp] theorem State.clearLevel_calm {src} : (s.clearLevel src).calm = s.calm := by
  funext g j b
  by_cases hg : g ∈ faultFields
  · simp [State.calm, hg]
  · have hat : g ≠ .X_SRC_AT := fun e => hg (e ▸ by decide)
    have hpresent : g ≠ .X_SRC_PRESENT := fun e => hg (e ▸ by decide)
    simp [State.calm, hg, hat, hpresent]

/-! ### The bytes of the journal (R306, R308) -/

theorem State.get_updateJnl {f : Field} {i a : Nat} (h : f ∉ faultFields) (hused : f ≠ .MC_JNL_STS_USED) (hthr : f ≠ .MC_JNL_STS_THROTTLING) :
    s.updateJnl.get f i a = s.get f i a := by
  rw [State.updateJnl, State.get_ite, State.get_of_calm State.raise_calm h, State.get_of_calm State.clearLevel_calm h, ite_self,
    State.get_putFlag_field (h := hthr), State.get_put_field (h := hused)]

/-- The records of the next journal page (R308). -/
def State.nextPage (s : State) : List JRec := (s.jnl.filter fun r => !r.prog).take 512

section
variable {x : JRec} (hx : s.nextPage.getLast? = some x)
include hx

/-- The program of a journal page: its records are marked, and its padding is counted. -/
theorem State.programJnl_eq : s.programJnl
    = (({ s with jnl := s.jnl.map fun r => if r.seq ≤ x.seq then { r with prog := true } else r } : State).put .X_JNL_BYTES
        (s.get .X_JNL_BYTES + 32 * (512 - s.nextPage.length))).updateJnl := by
  rw [State.nextPage] at hx
  simp only [State.programJnl, hx]
  rfl

theorem State.programJnl_jnl : s.programJnl.jnl = s.jnl.map fun r => if r.seq ≤ x.seq then { r with prog := true } else r := by
  rw [State.programJnl_eq hx, State.jnl_of_faultFrame State.updateJnl_faultFrame]
  rfl

theorem State.programJnl_bytes : s.programJnl.get .X_JNL_BYTES = (s.get .X_JNL_BYTES + 32 * (512 - s.nextPage.length)) % 2 ^ 64 := by
  rw [State.programJnl_eq hx, State.get_updateJnl (by decide) (by decide) (by decide)]
  exact State.get_put_self _ _ _ _ _

/-- A page is programmed while the journal holds a record that is not. -/
theorem exec_journalPageProgram_pending : exec .journalPageProgram s
    = .next (if s.programJnl.bgWork then s.programJnl.checkpoint else s.programJnl).ackAll := by
  have hmem : x ∈ s.jnl ∧ (!x.prog) = true := List.mem_filter.1 (List.mem_of_mem_take (List.mem_of_getLast? hx))
  have hpending : ¬(s.jnl.all fun r => r.prog) = true := fun h => by simp [List.all_eq_true.1 h x hmem.1] at hmem
  exact if_neg hpending

end

/-! ### A page of the map (R307) -/

theorem State.pages_of_journalFrame (h : t.journalFrame = s.journalFrame) : t.pages = s.pages := (congrArg State.pages h :)

@[simp] theorem State.journal_pages {type node a b : Nat} : (s.journal type node a b).pages = s.pages :=
  State.pages_of_journalFrame State.journal_journalFrame

theorem State.writePage_no_room {x : MapPage} (h : s.openBand kindMap 4 = none) : s.writePage x = s := by
  rw [State.writePage, h]

/-- A page keeps its entries as it is programmed. -/
theorem State.writePage_entries {x : MapPage} {b : Band} (h : s.openBand kindMap 4 = some b) :
    ((s.writePage x).pages.map fun y => (y.node, y.page, y.words)) = s.pages.map fun y => (y.node, y.page, y.words) := by
  simp only [State.writePage, h, State.journal_pages, List.map_map]
  refine List.map_congr_left fun y _ => ?_
  by_cases hy : y.node = x.node ∧ y.page = x.page <;> simp [hy]

/-- The dirty lines of a page return to it (R307). -/
def State.returnLines (s : State) (n p : Nat) : State :=
  forEach (s.lines.filter fun x => x.node = n && x.l / 256 = p && s.isVolume n) s fun x t => t.writeBackLine x

theorem exec_mapWriteBack_held {n p : Nat} (h : s.bgWork = false) : exec (.mapWriteBack n p) s = .next s := by
  simp [execMapWriteBack, h]

section
variable {n p : Nat} (hwork : s.bgWork = true)
include hwork

theorem exec_mapWriteBack_absent (hx : (s.returnLines n p).page? n p = none) : exec (.mapWriteBack n p) s = .next (s.returnLines n p) := by
  rw [State.returnLines] at *
  simp [execMapWriteBack, hwork, hx]

theorem exec_mapWriteBack_page {x : MapPage} (hx : (s.returnLines n p).page? n p = some x) : exec (.mapWriteBack n p) s
    = .next (if x.dirty then ((s.returnLines n p).writePage x).checkpoint else s.returnLines n p) := by
  rw [State.returnLines] at *
  simp [execMapWriteBack, hwork, hx]

end

/-- Settles O45: journal pages and map pages by their laws above. That background work stops on the way out of Run and Throttle (log entry
67) is a choice of the model. -/
theorem journalPagesAndMapPagesAreWritten : Obligations.JournalPagesAndMapPagesAreWritten := by
  unfold Obligations.JournalPagesAndMapPagesAreWritten
  refine ⟨fun s h => if_pos (List.all_eq_true.2 h), fun s x hx => ?program, fun s n p h => ?held, fun s t n p hmode hmove ht => ?page⟩
  case program =>
    exact ⟨s.programJnl, State.programJnl_jnl hx, State.programJnl_bytes hx, State.flash_of_modeView State.programJnl_modeView,
      exec_journalPageProgram_pending hx⟩
  case held => exact exec_mapWriteBack_held (by rcases h with ⟨hrun, hthr⟩ | hmove <;> simp [State.bgWork, *])
  case page =>
    have hwork : s.bgWork = true := by simp [State.bgWork, hmode, hmove]
    change t = s.returnLines n p at ht
    subst ht
    refine ⟨fun hx => exec_mapWriteBack_absent hwork hx, fun x hx hclean => ?_, fun x hx hdirty => ?_,
      fun x h => State.writePage_no_room h, fun x b h => State.writePage_entries h⟩
    · rw [exec_mapWriteBack_page hwork hx, hclean]
      rfl
    · rw [exec_mapWriteBack_page hwork hx, hdirty]
      rfl

end Sys2Proof.Machine

/-! Calls written to MS_CALL (08_media_service_rom.md, R322 to R346), reads of MS_CPL, the sealed gate and the media brown-out (R319, R320, R348,
R349). -/

namespace Sys2Proof.Machine

variable {s : State} {c : Call} {ag : Agent} {cl slot kind : Nat}

/-! ### What bytes stored in a slot leave (R325) -/

/-- Bytes stored in the slot area leave whatever does not read that area. -/
theorem State.descPut_same {β : Type} (p : State → β) (h : ∀ (u : State) d, p { u with desc := d } = p u) {k : Nat} {l : List Byte} :
    p (s.descPut k l) = p s := by
  induction l generalizing s k with
  | nil => rfl
  | cons b l ih => exact ih.trans (h s _)

@[simp] theorem State.get_descPut {k : Nat} {l : List Byte} {f : Field} {i a : Nat} : (s.descPut k l).get f i a = s.get f i a :=
  State.descPut_same (fun u => u.get f i a) fun _ _ => rfl
@[simp] theorem State.descPut_calls {k : Nat} {l : List Byte} : (s.descPut k l).calls = s.calls := State.descPut_same State.calls fun _ _ => rfl
@[simp] theorem State.descPut_flash {k : Nat} {l : List Byte} : (s.descPut k l).flash = s.flash := State.descPut_same State.flash fun _ _ => rfl
@[simp] theorem State.descPut_out {k : Nat} {l : List Byte} : (s.descPut k l).out = s.out := State.descPut_same State.out fun _ _ => rfl

/-- The slot shows PENDING. -/
def State.markPending (s : State) (cl slot : Nat) : State := s.descPut (cl * 65536 + 32 * slot + 20) (natLe 2 stPending)

/-! ### What an accepted call does (R328, R330, R346) -/

/-- A READ holds its die and counts a read of its block. -/
def State.holdForRead (s : State) (c : Call) : State :=
  { (s.putFlag .X_DIE_RD true c.die).countBlockRead c.die c.block with calls := s.calls ++ [c] }

theorem State.runCall_read (h : c.call = callRead) : s.runCall c = (s.holdForRead c).emit (.dieOp c.die callRead) := by
  rw [State.runCall, h]
  rfl

theorem State.holdForRead_flag : (s.holdForRead c).flag .X_DIE_RD c.die = true := calc
  (s.holdForRead c).flag .X_DIE_RD c.die = (s.putFlag .X_DIE_RD true c.die).flag .X_DIE_RD c.die := State.flag_put_field _ _ _ _ _ _ _ _ nofun
  _ = true := State.flag_putFlag_self _ _ _ _ _ rfl

/-- The count of reads saturates within its 32 bits. -/
theorem State.holdForRead_reads : (s.holdForRead c).get .X_BLK_READS (blkIx c.die c.block)
    = min (s.get .X_BLK_READS (blkIx c.die c.block) + 1) 0xFFFFFFFF := by
  have hlt : min (s.get .X_BLK_READS (blkIx c.die c.block) + 1) 0xFFFFFFFF < 2 ^ 32 := by omega
  have hrd : (s.putFlag .X_DIE_RD true c.die).get .X_BLK_READS (blkIx c.die c.block) = s.get .X_BLK_READS (blkIx c.die c.block) :=
    State.get_putFlag_field _ _ _ _ _ _ _ _ nofun
  have hput : (s.holdForRead c).get .X_BLK_READS (blkIx c.die c.block)
      = min ((s.putFlag .X_DIE_RD true c.die).get .X_BLK_READS (blkIx c.die c.block) + 1) 0xFFFFFFFF % 2 ^ 32 := State.get_put_self _ _ _ _ _
  rw [hput, hrd, Nat.mod_eq_of_lt hlt]

theorem State.runCall_status_busy (h : c.call = callStatus) (hop : s.get .X_DIE_OP c.die ≠ 0) : s.runCall c
    = s.completeCall c stOk 0 (s.dieSt c.die + s.get .X_DIE_OPBLK c.die * 2 ^ 8 + s.get .X_DIE_NSUSP c.die * 2 ^ 40) := by
  rw [State.runCall, h]
  exact if_neg hop

theorem State.runCall_status_idle {v : Nat} {w : State} (hfree : (v, w) = s.takeFree) (h : c.call = callStatus) (hop : s.get .X_DIE_OP c.die = 0) :
    s.runCall c = w.completeCall c stOk 0 (w.dieSt c.die + v % 2 ^ 40 * 2 ^ 8) := by
  obtain ⟨rfl, rfl⟩ := Prod.mk.inj hfree
  rw [State.runCall, h]
  exact if_pos hop

theorem State.runCall_eraseCount (h : c.call = callEraseCount) : s.runCall c
    = s.completeCall c stOk 0 (s.get .X_BLK_CNT (blkIx c.die c.block) + s.get .X_BLK_STATE (blkIx c.die c.block) * 2 ^ 32) := by
  rw [State.runCall, h]
  rfl

theorem State.runCall_feature (h : c.call = callFeature) : s.runCall c = s.runFeature c := by
  rw [State.runCall, h]
  rfl

/-- Selector 2 is a feature of the die that FEATURE reads and sets. -/
theorem State.runFeature_get (hsel : c.param % 256 = 2) (hset : bit c.param 8 = false) :
    s.runFeature c = s.completeCall c stOk 0 (s.get .X_DIE_FEAT (c.die * 8 + 2)) := by simp [State.runFeature, hsel, hset]

theorem State.runFeature_set (hsel : c.param % 256 = 2) (hset : bit c.param 8 = true) : s.runFeature c
    = (s.put .X_DIE_FEAT (c.param / 65536) (c.die * 8 + 2)).completeCall c stOk 0 (c.param / 65536 % 65536) := by
  simp [State.runFeature, hsel, hset]

theorem State.runCall_retire_program (h : c.call = callRetire) (hp : c.param = 1) : s.runCall c
    = ((s.put .X_BLK_STATE bsRetiredProgram (blkIx c.die c.block)).put .X_BLK_MM 6 (blkIx c.die c.block)).completeCall c stOk 0
      (bsRetiredProgram * 2 ^ 32) := by
  rw [State.runCall, h]
  simp only [callRetire, if_pos hp]

theorem State.runCall_retire_halfErased (h : c.call = callRetire) (hp : c.param ≠ 1) : s.runCall c
    = ((s.put .X_BLK_STATE bsHalfErased (blkIx c.die c.block)).put .X_BLK_MM 4 (blkIx c.die c.block)).completeCall c stOk 0
      (bsHalfErased * 2 ^ 32) := by
  rw [State.runCall, h]
  simp only [callRetire, if_neg hp]

/-- The five calls that hold or interrupt the array have to be planned (R326); with a bad descriptor they are BAD_DESC (R332). -/
theorem State.refusal_of_unplanned (hentry : c.entry = none)
    (hcall : c.call = callMargin ∨ c.call = callProgram ∨ c.call = callErase ∨ c.call = callSuspend ∨ c.call = callResume) :
    s.refusal c false = some stNotPlanned ∨ s.refusal c false = some stBadDesc := by
  have hdirect : (c.entry.isNone && (c.call = callMargin || c.call = callProgram || c.call = callErase || c.call = callSuspend
      || c.call = callResume)) = true := by simpa [hentry, or_assoc] using hcall
  unfold State.refusal
  split
  · exact .inr rfl
  · exact .inl (if_pos hdirect)

/-! ### A call written to MS_CALL (R323 to R326) -/

section

variable (hcl : cl < 8) (hag : s.mayWrite ag (.md cl) = true) (hon : s.unitPower (uCluster cl) = 0)
include hcl hag hon

/-- A call that a core of the cluster writes, the cluster being ON, issues its slot if the cluster has that slot. -/
theorem State.callRow_written (hkind : s.descNat cl slot 0 1 = kind) : s.callRow kind ag cl slot false
    = if 1536 ≤ slot then s.putFlag .MS_STS_CALL_ERR true cl else s.issueSlot cl slot ag.ix none := by
  have hgo : ¬(s.descNat cl slot 0 1 ≠ kind || decide (8 ≤ cl)) = true := by simp [hkind, hcl]
  have hwrite : s.callRow kind ag cl slot false = s.atUnit (uCluster cl) fun s => s.writeMsCall ag cl slot := if_neg hgo
  rw [hwrite, State.atUnit_on hon]
  exact State.guardWrite_of_mayWrite hag nofun

theorem State.callRow_no_slot (hslot : 1536 ≤ slot) (hkind : s.descNat cl slot 0 1 = kind) :
    s.callRow kind ag cl slot false = s.putFlag .MS_STS_CALL_ERR true cl :=
  (State.callRow_written hcl hag hon hkind).trans (if_pos hslot)

variable (hslot : slot < 1536)
include hslot

theorem State.callRow_pending (hpend : s.slotPending cl slot = true) (hkind : s.descNat cl slot 0 1 = kind) :
    s.callRow kind ag cl slot false = s.putFlag .MS_STS_CALL_ERR true cl := by
  rw [State.callRow_written hcl hag hon hkind, if_neg (by omega)]
  exact if_pos hpend

variable (hfree : s.slotPending cl slot = false) (hc : c = s.callAt cl slot ag.ix none)
include hfree hc

/-- A slot that is not PENDING becomes so, and its call reaches the ROM. -/
theorem State.callRow_taken (hkind : c.call = kind) : s.callRow kind ag cl slot false = (s.markPending cl slot).takeCall c false := by
  subst hc
  rw [State.callRow_written hcl hag hon hkind, if_neg (by omega)]
  exact if_neg (by simp [hfree])

theorem State.callRow_runs (hkind : c.call = kind) (hok : (s.markPending cl slot).refusal c false = none) :
    s.callRow kind ag cl slot false = (s.markPending cl slot).runCall c := by
  rw [State.callRow_taken hcl hag hon hslot hfree hc hkind, State.takeCall, hok]

theorem State.callRow_refused {r : Nat} (hr : (s.markPending cl slot).refusal c false = some r) (hkind : c.call = kind) :
    s.callRow kind ag cl slot false = (s.markPending cl slot).failCall c false r := by
  rw [State.callRow_taken hcl hag hon hslot hfree hc hkind, State.takeCall, hr]

end

/-- Settles O46: a slot that is free, PENDING or outside the cluster by the laws above, and each call that runs by its own. That the values
R328 leaves open are free (log entry 65), and which core a completion is posted to (log entry 75), are choices of the model. -/
theorem mediaCallsAreRefusedOrRun : Obligations.MediaCallsAreRefusedOrRun := by
  unfold Obligations.MediaCallsAreRefusedOrRun
  refine ⟨fun s t ag cl slot c hcl hslot hag hon hfree hc ht => ?issued,
    fun s ag cl slot hcl hslot hag hon hpend hkind => congrArg _ (State.callRow_pending hcl hag hon hslot hpend hkind),
    fun s ag cl slot hcl hslot hag hon hkind => congrArg _ (State.callRow_no_slot hcl hag hon hslot hkind)⟩
  change t = s.markPending cl slot at ht
  have runs {kind u} (hkind : c.call = kind) (hok : t.refusal c false = none) (hrun : t.runCall c = u) :
      Host.Outcome.next (s.callRow kind ag cl slot false) = (.next u : Host.Outcome State Fault Refusal) := by
    subst ht
    rw [State.callRow_runs hcl hag hon hslot hfree hc hkind hok, hrun]
  have hget : ∀ f i, t.get f i = s.get f i := fun f i => by rw [ht, State.markPending, State.get_descPut]
  refine ⟨fun hk hok => ⟨_, runs hk hok (State.runCall_read hk), ?read⟩, fun hk hok hop => runs hk hok (State.runCall_status_busy hk hop),
    fun v w hvw hk hok hop => runs hk hok (State.runCall_status_idle hvw hk hop), fun hk hok => runs hk hok ?eraseCount,
    fun hk hok hsel hset => runs hk hok ?featureGet,
    fun hk hok hsel hset => runs hk hok ((State.runCall_feature hk).trans (State.runFeature_set hsel hset)),
    fun hk hok => runs hk hok (State.runCall_feature hk), fun hk hok hp => runs hk hok (State.runCall_retire_halfErased hk hp),
    fun hk hok hp => runs hk hok (State.runCall_retire_program hk hp), fun r hr => ?refused,
    fun hk => State.refusal_of_unplanned (by rw [hc]; rfl) hk⟩
  case read =>
    refine ⟨?_, State.holdForRead_flag, ?_, ?_, rfl, State.holdForRead_reads.trans (by rw [hget])⟩ <;> subst ht
    · exact congrArg (· ++ [c]) State.descPut_calls
    · exact State.descPut_flash
    · exact State.descPut_out
  case eraseCount => rw [State.runCall_eraseCount hk, hget, hget]
  case featureGet => rw [State.runCall_feature hk, State.runFeature_get hsel hset, hget]
  case refused =>
    subst ht
    have fails {kind} (hkind : c.call = kind) : Host.Outcome.next (s.callRow kind ag cl slot false)
        = (.next ((s.markPending cl slot).failCall c false r) : Host.Outcome State Fault Refusal) := by
      rw [State.callRow_refused hcl hag hon hslot hfree hc hr hkind]
    exact ⟨fails, fails, fails, fails, fails, fails⟩

/-! ### Reads of MS_CPL (R325) -/

variable {k : Nat}

theorem State.readAt_on {w width : Nat} {act : State → Nat × State} (h : s.unitPower w = 0) : s.readAt w width act = act s := by
  simp [State.readAt, State.reachUnit, h]

theorem State.readAt_off {w width : Nat} {act : State → Nat × State} (h : s.unitPower w = 3) :
    s.readAt w width act = (2 ^ (8 * width) - 1, s.refuseAt w) := by
  simp [State.readAt, State.reachUnit, h]

theorem State.readCpl_none (h : (s.cpl.find? fun x => x.1 = 8 + 6 * cl + k) = none) : s.readCpl ag cl k = (0, s) := by
  simp [State.readCpl, h]

/-- The oldest completion of a core, which the read of that core alone removes. -/
theorem State.readCpl_some {x : Nat × Nat} (h : (s.cpl.find? fun x => x.1 = 8 + 6 * cl + k) = some x) :
    s.readCpl ag cl k = (2 ^ 31 + x.2, if ag = .core (8 + 6 * cl + k) then { s with cpl := s.cpl.erase x } else s) := by
  simp [State.readCpl, h]

section

variable (hcl : cl < 8) (hk : k < 6)
include hcl hk

/-- A read of MS_CPLk answers what the register gives. -/
theorem exec_msCplRead_answer {r : Nat × State} (hr : (s.readAt (uCluster cl) 4 fun s => s.readCpl ag cl k) = r) :
    exec (.msCplRead ag cl k) s = .next (r.2.emit (.readData ag (0x200000 + 0x10000 * cl + 0x40 + 4 * k) 4 r.1)) := by
  subst hr
  exact if_neg (by omega)

theorem exec_msCplRead_on {r : Nat × State} (hon : s.unitPower (uCluster cl) = 0) (hr : s.readCpl ag cl k = r) :
    exec (.msCplRead ag cl k) s = .next (r.2.emit (.readData ag (0x200000 + 0x10000 * cl + 0x40 + 4 * k) 4 r.1)) :=
  exec_msCplRead_answer hcl hk ((State.readAt_on hon).trans hr)

end

/-! ### The media brown-out (R348, R349) -/

/-- What a step gives and every step keeps holds after a `forEach` over a list with that step. -/
theorem forEach_of_mem {α : Type} {p : State → Prop} {f : α → State → State} {c : α} (hgives : ∀ t, p (f c t))
    (hkeeps : ∀ x t, p t → p (f x t)) {l : List α} (hc : c ∈ l) : p (forEach l s f) := by
  have hkept (l : List α) (t : State) (h : p t) : p (forEach l t f) := by
    induction l generalizing t with
    | nil => exact h
    | cons x l ih => exact ih _ (hkeeps x t h)
  induction l generalizing s with
  | nil => cases hc
  | cons x l ih =>
    rcases List.mem_cons.1 hc with rfl | hmem
    · exact hkept l _ (hgives s)
    · exact ih hmem

/-- A flag that holds a value keeps it when that value is stored at any number of its field. -/
theorem State.flag_putFlag_keeps {f : Field} {b : Bool} {i j : Nat} (hw : f.info.width = 1) (h : s.flag f i = b) :
    (s.putFlag f b j).flag f i = b := by
  by_cases hij : i = j
  · subst hij
    exact State.flag_putFlag_self _ _ _ _ _ hw
  · rw [← h, State.flag, State.putFlag, State.get_put_ne _ _ _ _ _ _ _ _ fun e => hij e.2.1]
    rfl

/-- A brown-out shows in every cluster: the bit that ends with it and the one that stays. -/
def State.showBrownout (s : State) : State :=
  forEach (List.range 8) (s.putFlag .X_BROWNOUT true) fun c s => (s.putFlag .MS_STS_BROWNOUT true c).putFlag .MS_STS_BO_SEEN true c

theorem State.showBrownout_level : s.showBrownout.flag .X_BROWNOUT = true := calc
  s.showBrownout.flag .X_BROWNOUT = (s.putFlag .X_BROWNOUT true).flag .X_BROWNOUT := forEach_same (fun t => t.flag .X_BROWNOUT) fun _ _ => by
    simp [State.flag_putFlag_field]
  _ = true := State.flag_putFlag_self _ _ _ _ _ rfl

theorem State.showBrownout_present {i : Nat} (hi : i < 8) : s.showBrownout.flag .MS_STS_BROWNOUT i = true := by
  have hseen (t : State) (x : Nat) : ((t.putFlag .MS_STS_BROWNOUT true x).putFlag .MS_STS_BO_SEEN true x).flag .MS_STS_BROWNOUT i
      = (t.putFlag .MS_STS_BROWNOUT true x).flag .MS_STS_BROWNOUT i := State.flag_putFlag_field _ _ _ _ _ _ _ _ nofun
  exact forEach_of_mem (p := fun t => t.flag .MS_STS_BROWNOUT i = true) (fun t => (hseen t i).trans (State.flag_putFlag_self _ _ _ _ _ rfl))
    (fun x t h => (hseen t x).trans (State.flag_putFlag_keeps rfl h)) (List.mem_range.2 hi)

theorem State.showBrownout_seen {i : Nat} (hi : i < 8) : s.showBrownout.flag .MS_STS_BO_SEEN i = true :=
  forEach_of_mem (p := fun t => t.flag .MS_STS_BO_SEEN i = true) (fun _ => State.flag_putFlag_self _ _ _ _ _ rfl)
    (fun _ _ h => State.flag_putFlag_keeps rfl (by simp [State.flag_putFlag_field, h])) (List.mem_range.2 hi)

/-- Every running erase is suspended once the brown-out shows. -/
theorem exec_mediaBrownoutAssert_first {rail : Nat} {t : State} (ht : t = s.showBrownout) (h : s.flag .X_BROWNOUT = false) :
    exec (.mediaBrownoutAssert rail) s = .next ((forEach (t.dies.filter fun d => t.get .X_DIE_OP d = 2 && !t.flag .X_DIE_SUSP d) t fun d u =>
      ((u.suspendDie d false).endSuspends d 0).emit (.dieOp d callSuspend)).raise 19 uChip rail) := by
  subst ht
  exact if_neg (by simp [h])

theorem State.endBrownout_level : s.endBrownout.flag .X_BROWNOUT = false := calc
  s.endBrownout.flag .X_BROWNOUT = (s.putFlag .X_BROWNOUT false).flag .X_BROWNOUT :=
    forEach_same (fun t => t.flag .X_BROWNOUT) fun _ _ => State.flag_putFlag_field _ _ _ _ _ _ _ _ nofun
  _ = false := State.flag_putFlag_self _ _ _ _ _ rfl

theorem State.endBrownout_gone {i : Nat} (hi : i < 8) : s.endBrownout.flag .MS_STS_BROWNOUT i = false :=
  forEach_of_mem (p := fun t => t.flag .MS_STS_BROWNOUT i = false) (fun _ => State.flag_putFlag_self _ _ _ _ _ rfl)
    (fun _ _ h => State.flag_putFlag_keeps rfl h) (List.mem_range.2 hi)

theorem State.endBrownout_seen {i : Nat} : s.endBrownout.flag .MS_STS_BO_SEEN i = s.flag .MS_STS_BO_SEEN i := calc
  s.endBrownout.flag .MS_STS_BO_SEEN i = (s.putFlag .X_BROWNOUT false).flag .MS_STS_BO_SEEN i :=
    forEach_same (fun t => t.flag .MS_STS_BO_SEEN i) fun _ _ => State.flag_putFlag_field _ _ _ _ _ _ _ _ nofun
  _ = s.flag .MS_STS_BO_SEEN i := State.flag_putFlag_field _ _ _ _ _ _ _ _ nofun

/-- Settles O49: reads of MS_CPL and the brown-out by the laws above, the sealed commands on the branch that the hypotheses choose. -/
theorem completionsSealedCallsAndBrownout : Obligations.CompletionsSealedCallsAndBrownout := by
  unfold Obligations.CompletionsSealedCallsAndBrownout
  refine ⟨fun s cl k x hcl hk hon hx => ?oldest, fun s ag cl k hcl hk hon hx => exec_msCplRead_on hcl hk hon (State.readCpl_none hx),
    fun s ag cl k hcl hk hoff => exec_msCplRead_answer hcl hk (State.readAt_off hoff), fun s core ch hch => if_neg (by omega),
    fun s core hlo hhi => if_neg (by omega), fun s core hno => if_pos hno, fun s r h => if_pos h, fun s r h => ?assert, fun s => ?deassert⟩
  case oldest =>
    refine ⟨?own, ?other⟩
    case own => rw [exec_msCplRead_on hcl hk hon (State.readCpl_some hx), if_pos rfl]
    case other => rw [exec_msCplRead_on hcl hk hon (State.readCpl_some hx), if_neg nofun]
  case assert =>
    exact ⟨_, exec_mediaBrownoutAssert_first rfl h, State.showBrownout_level,
      fun c hc => ⟨State.showBrownout_present hc, State.showBrownout_seen hc⟩, forEach_same State.out fun _ _ => rfl,
      forEach_same State.calls fun _ _ => rfl⟩
  case deassert =>
    exact ⟨_, rfl, State.endBrownout_level, fun c hc => State.endBrownout_gone hc, fun c => State.endBrownout_seen,
      forEach_same State.out fun _ _ => rfl, forEach_same State.calls fun _ _ => rfl⟩

end Sys2Proof.Machine

/-! Bands: opened, moved by GC and released, their blocks erased, held for the hold-up flush or levelled (09_media_management.md, R355, R359,
R367, R368, R370, R374, R375, R378, R381). -/

namespace Sys2Proof.Machine

variable {s t : State} {b : Band}

/-! ### What the end of commands and the count of free blocks leave of the bands, in the order of the model's files -/

@[simp] theorem State.drainFn_faultFrame {fn} : (s.drainFn fn).faultFrame = s.faultFrame :=
  forEach_faultFrame fun c u => by
    split
    · simp [apply_ite State.faultFrame]
    · rfl

theorem State.bands_of_faultFrame (h : t.faultFrame = s.faultFrame) : t.bands = s.bands := (congrArg State.bands h :)

@[simp] theorem State.writeReply_bands {c r} : (s.writeReply c r).bands = s.bands := by
  have hpin : (s.namePin c r).2.bands = s.bands := by
    unfold State.namePin
    split <;> rfl
  simp [State.writeReply, apply_ite State.bands, hpin, State.putOutstanding, State.bands_of_faultFrame State.sendMsix_faultFrame,
    State.bands_of_faultFrame State.sampleLatency_faultFrame, State.bands_of_faultFrame State.sampleBoth_faultFrame,
    State.bands_of_faultFrame State.raise_faultFrame, State.bands_of_faultFrame State.endCmd_faultFrame,
    State.bands_of_faultFrame State.sendFor_faultFrame]

@[simp] theorem State.drainStrict_bands {q n} : (s.drainStrict q n).bands = s.bands := by
  induction n generalizing s with
  | zero => rfl
  | succ n ih =>
    unfold State.drainStrict
    split
    · split
      · simp [apply_ite State.bands, ih]
      · rfl
    · rfl

@[simp] theorem State.finish_bands {c r} : (s.finish c r).bands = s.bands := by
  simp [State.finish, apply_ite State.bands, State.bands_of_faultFrame State.endCmd_faultFrame,
    State.bands_of_faultFrame State.drainFn_faultFrame, State.bands_of_faultFrame State.postCqe_faultFrame,
    State.bands_of_faultFrame State.setCmd_faultFrame]

theorem State.ackProgrammed_bands {id} : (s.ackProgrammed id).bands = s.bands := by
  unfold State.ackProgrammed
  split_ifs
  · rfl
  · rfl
  · split
    · rfl
    · split <;> simp [apply_ite State.bands]

@[simp] theorem State.ackAll_bands : s.ackAll.bands = s.bands := forEach_same State.bands fun _ _ => State.ackProgrammed_bands

@[simp] theorem State.updateGc_faultFrame : s.updateGc.faultFrame = s.faultFrame := by
  unfold State.updateGc
  extract_lets st shown ranged
  have hshown : shown.faultFrame = s.faultFrame :=
    State.put_faultFrame.trans (State.put_faultFrame.trans (State.put_faultFrame.trans State.put_faultFrame))
  have hranged : ranged.faultFrame = s.faultFrame := State.put_faultFrame.trans hshown
  split
  · exact State.raise_faultFrame.trans hranged
  · exact State.clearLevel_faultFrame.trans hranged

/-! ### What a journalled record leaves of the bands and of the fields -/

theorem State.bands_of_journalFrame (h : t.journalFrame = s.journalFrame) : t.bands = s.bands := (congrArg State.bands h :)

@[simp] theorem State.journal_bands {type node x y : Nat} : (s.journal type node x y).bands = s.bands :=
  State.bands_of_journalFrame State.journal_journalFrame

theorem State.get_programJnl {f : Field} {i a : Nat} (h : f ∉ faultFields) (hbytes : f ≠ .X_JNL_BYTES) (hused : f ≠ .MC_JNL_STS_USED)
    (hthr : f ≠ .MC_JNL_STS_THROTTLING) : s.programJnl.get f i a = s.get f i a := by
  unfold State.programJnl
  dsimp only
  split
  · rfl
  · rw [State.get_updateJnl h hused hthr, State.get_put_field (h := hbytes)]
    rfl

/-- A record is journalled in fields of the journal and of the fault it may raise only. -/
theorem State.get_journal {type node x y i a : Nat} {f : Field} (h : f ∉ faultFields) (hbytes : f ≠ .X_JNL_BYTES)
    (hused : f ≠ .MC_JNL_STS_USED) (hthr : f ≠ .MC_JNL_STS_THROTTLING) (hseq : f ≠ .X_JNLSEQ) (hshown : f ≠ .MC_JNL_SEQ) :
    (s.journal type node x y).get f i a = s.get f i a := by
  unfold State.journal
  extract_lets u q v w
  have hu : u.get f i a = s.get f i a := by
    unfold u
    rw [State.get_ite, State.get_programJnl h hbytes hused hthr, ite_self]
  rw [State.get_updateJnl h hused hthr, State.get_put_field (h := hbytes), State.get_put_field (h := hshown),
    State.get_put_field (h := hseq), ← hu]
  rfl

/-! ### Opening a band (R355, R359) -/

theorem State.openNewBand_refused {k r : Nat} {l : List (Option Nat)} {f : List Nat}
    (h : k = 0 ∨ 4 < k ∨ s.membersOk r l (s.kindMode k) = false) : s.openNewBand k r l f = s := by
  refine if_pos ?_
  rcases h with h | h | h <;> simp [h]

section
variable {k r : Nat} {l : List (Option Nat)} {bl : List (Option (Nat × Nat))}

/-- A band of a known kind whose dies each have a block erased in its mode opens. -/
theorem State.openNewBand_opens (hk : 1 ≤ k) (hk4 : k ≤ 4) (hrefill : s.refillDue = false)
    (hopen : (s.bands.filter fun b => b.isOpen).length < 12) (hmem : s.membersOk r l (s.kindMode k) = true) (hrot : r = s.get .X_ROT)
    (hbl : bl = l.map fun d => d.bind fun d => (s.chooseBlock k d).map fun b => (d, b))
    (hlen : (bl.filterMap fun x => x).length = (l.filterMap fun x => x).length)
    (herased : ∀ m ∈ bl.filterMap (fun x => x), s.get .X_BLK_MM (blkIx m.1 m.2) = mmErased
      ∧ s.get .X_BLK_MODE (blkIx m.1 m.2) = s.kindMode k + 1) :
    s.openNewBand k r l [] = s.addBand k (s.kindMode k) r bl := by
  have hready : ((bl.filterMap fun x => x).all fun m =>
      s.get .X_BLK_MM (blkIx m.1 m.2) = mmErased && s.get .X_BLK_MODE (blkIx m.1 m.2) = s.kindMode k + 1) = true :=
    List.all_eq_true.2 fun m hm => by simp [herased m hm]
  unfold State.openNewBand
  extract_lets mode degraded blocks ready stale
  have hblocks : blocks = bl := hbl.symm
  have hok : ready = true := by rw [← hready, ← hblocks]
  have hfresh : stale = [] := List.filter_eq_nil_iff.2 fun m _ => by simp
  rw [if_neg, if_neg (by simp [hfresh]), hblocks]
  have hkind : ¬(k = 0 ∨ 4 < k) := by omega
  rw [hblocks, hok, hlen, hmem, hrefill]
  simpa [hrot] using ⟨by omega, hk4, hopen⟩

/-- One band is added to the table. -/
theorem State.addBand_bands_length {mode : Nat} : (s.addBand k mode r bl).bands.length = s.bands.length + 1 := by
  unfold State.addBand
  extract_lets degraded id wseq b counted opened mw named taken listed
  have hopened : opened.bands = s.bands := State.journal_bands.trans rfl
  have hnamed : named.bands = opened.bands := forEach_same State.bands fun q u => State.journal_bands
  have htaken : taken.bands = named.bands := forEach_same State.bands fun m u => rfl
  have hlisted : listed.bands = s.bands ++ [b] := congrArg (· ++ [b]) ((htaken.trans hnamed).trans hopened)
  rw [State.bands_of_faultFrame State.updateGc_faultFrame, apply_ite State.bands, State.bump_bands, ite_self, hlisted, List.length_append,
    List.length_singleton]

end

/-! ### GC: copies and commits (R370, R374, R375) -/

section
variable {p : Nat}

/-- A valid unit of a moved band that is neither copied yet nor under recovery is copied where the open band of its kind has room. -/
theorem exec_gcCopy_valid {u : FUnit} (hwork : s.bgWork = true) (hband : s.bandOf p = some b) (hunit : s.unitAt p = some u)
    (hmoving : s.moving b = true) (hlive : s.liveFirst u.rcd p = true) (hnew : ∀ c ∈ s.copies, c.src ≠ p)
    (hrecov : u.rcd.kind = 3 ∨ ∀ g ∈ s.namers u.rcd p, eRecov (s.mapGet u.rcd.node g) = false) :
    exec (.gcCopy p) s = .next (((s.gcLookups u.rcd p).copyUnit p u (s.copyKind u.rcd) false).elim s fun t =>
      (t.setBand { b with victim := true }).add .MC_CNT_GC_UNITS u.rcd.units) := by
  have hcopied : (s.copies.any fun c => c.src = p) = false := by simpa using hnew
  have hheld : (u.rcd.kind ≠ 3 && (s.namers u.rcd p).any fun g => eRecov (s.mapGet u.rcd.node g)) = false := by
    rcases hrecov with h | h
    · simp [h]
    · simpa using fun _ => h
  rw [exec_gcCopy, execGcCopy, hband, hunit]
  simp only [hwork, hmoving, hlive, hcopied, hheld]
  cases (s.gcLookups u.rcd p).copyUnit p u (s.copyKind u.rcd) false <;> rfl

theorem exec_gcCopy_held (h : s.bgWork = false) : exec (.gcCopy p) s = .next s := by
  rw [exec_gcCopy, execGcCopy]
  split
  · exact if_pos (by simp [h])
  · rfl

theorem exec_gcCommit_copy {c : Copy} (hc : (s.copies.find? fun c => c.src = p && !c.recov) = some c) : exec (.gcCommit p) s
    = .next (if s.copyComplete c then ({ s.commitCopy c false with copies := (s.commitCopy c false).copies.erase c } : State) else s) := by
  rw [exec_gcCommit, execGcCommit, hc]
  cases hcomplete : s.copyComplete c <;> simp [hcomplete]

end

/-! ### RELEASE (R374, R378) -/

/-- A block of a band that is given back becomes RELEASED, with the number of the latest command and whether a recovery is at work. -/
def State.releaseBlock (s : State) (ix : Nat) : State :=
  ((s.put .X_BLK_MM mmReleased ix).put .X_BLK_REL (s.get .X_CMDSEQ) ix).putFlag .X_BLK_RELR (!s.recovs.isEmpty) ix

theorem State.blkState_releaseBlock {d n ix : Nat} : (s.releaseBlock ix).blkState d n = s.blkState d n := by
  simp [State.releaseBlock, State.blkState, State.get_putFlag_field]

theorem State.releaseBlock_released {ix : Nat} : (s.releaseBlock ix).get .X_BLK_MM ix = mmReleased := by
  have hfits : mmReleased < 2 ^ 3 := by decide
  simpa [State.releaseBlock, State.get_putFlag_field] using hfits

theorem State.releaseBlock_keeps {ix j : Nat} (h : s.get .X_BLK_MM ix = mmReleased) : (s.releaseBlock j).get .X_BLK_MM ix = mmReleased := by
  by_cases hij : ix = j
  · subst hij
    exact State.releaseBlock_released
  · simp [State.releaseBlock, State.get_putFlag_field, State.get_put_ne, hij, h]

/-- Two loops agree whose steps agree in the states that the second one goes through. -/
theorem forEach_congr_of_keeps {α : Type} {p : State → Prop} {l : List α} {f g : α → State → State}
    (hstep : ∀ c ∈ l, ∀ u, p u → f c u = g c u) (hkeeps : ∀ c u, p u → p (g c u)) (h : p s) : forEach l s f = forEach l s g := by
  induction l generalizing s with
  | nil => rfl
  | cons c l ih =>
    rw [forEach_cons, forEach_cons, hstep c List.mem_cons_self s h]
    exact ih (fun x hx => hstep x (List.mem_cons_of_mem c hx)) (hkeeps c s h)

/-- The journal entry of a band's RELEASE, and its blocks, none of them CLOSED, RELEASED. -/
def State.releaseBlocks (s : State) (b : Band) : State :=
  forEach (b.members.filterMap fun x => x) (s.journal 0x24 0 b.id 0) fun m u => u.releaseBlock (blkIx m.1 m.2)

theorem State.releaseMembers_eq (h : ∀ m, some m ∈ b.members → s.blkState m.1 m.2 ≠ bsClosed) : s.releaseMembers b = s.releaseBlocks b := by
  have hjournal (d n : Nat) : (s.journal 0x24 0 b.id 0).blkState d n = s.blkState d n :=
    State.get_journal (by decide) (by decide) (by decide) (by decide) (by decide) (by decide)
  refine forEach_congr_of_keeps (p := fun u => ∀ d n, u.blkState d n = s.blkState d n) (fun m hm u hu => ?_)
    (fun m u hu d n => State.blkState_releaseBlock.trans (hu d n)) hjournal
  have hmem : some m ∈ b.members := by simpa using hm
  exact if_neg (hu m.1 m.2 ▸ h m hmem)

theorem State.releaseBlocks_faultFrame : (s.releaseBlocks b).faultFrame = (s.journal 0x24 0 b.id 0).faultFrame :=
  forEach_faultFrame fun _ _ => rfl

theorem State.releaseBlocks_released {m : Nat × Nat} (hm : some m ∈ b.members) :
    (s.releaseBlocks b).get .X_BLK_MM (blkIx m.1 m.2) = mmReleased :=
  forEach_of_mem (p := fun u => u.get .X_BLK_MM (blkIx m.1 m.2) = mmReleased) (fun _ => State.releaseBlock_released)
    (fun _ _ => State.releaseBlock_keeps) (by simpa using hm)

/-- The released band is counted, as one of GC, of wear levelling and of a refresh. -/
def State.countRelease (s : State) (b : Band) : State :=
  let s := s.bump .MC_CNT_GC_BANDS
  let s := if b.wear then s.bump .MC_CNT_WL_BANDS else s
  if b.refresh then s.bump .MC_CNT_REFRESH else s

theorem State.countRelease_faultFrame : (s.countRelease b).faultFrame = s.faultFrame := by
  simp [State.countRelease, apply_ite State.faultFrame]

theorem State.get_countRelease {i : Nat} : (s.countRelease b).get .X_BLK_MM i = s.get .X_BLK_MM i := by
  simp [State.countRelease, State.get_ite]

theorem State.dropBand_bands {i : Nat} : (s.dropBand i).bands = s.bands.filter fun x => x.id ≠ i := by
  unfold State.dropBand
  exact State.ackAll_bands

section
variable {i : Nat} (hb : (s.bands.find? fun b => b.id = i) = some b)
include hb

/-- A moved band in which nothing is valid or owed any more is given back. -/
theorem exec_release_moved (hfull : b.isOpen = false) (hmoving : s.moving b = true) (hempty : s.validFirsts b = [])
    (hcopies : ∀ c ∈ s.copies, ∀ x, s.bandOf c.src = some x → x.id ≠ i)
    (hclosed : ∀ m, some m ∈ b.members → s.blkState m.1 m.2 ≠ bsClosed) (hdurable : s.movesDurable b = true)
    (hpages : ∀ p ∈ s.oldPages, ∀ x, s.bandOf p = some x → x.id ≠ i) :
    exec (.release i) s = .next (((s.releaseBlocks b).countRelease b).dropBand i).updateGc := by
  have hcopies' : (s.copies.any fun c => (s.bandOf c.src).any fun x => x.id = i) = false := by simpa [Option.any_eq_false] using hcopies
  have hpages' : (s.oldPages.any fun p => (s.bandOf p).any fun x => x.id = i) = false := by simpa [Option.any_eq_false] using hpages
  rw [exec_release, execRelease, hb, ← State.releaseMembers_eq hclosed]
  exact if_neg (by simp [hfull, hmoving, hempty, hcopies', hdurable, hpages'])

theorem exec_release_stays (h : b.isOpen = true ∨ s.validFirsts b ≠ [] ∨ s.movesDurable b = false
    ∨ (s.oldPages.any fun p => (s.bandOf p).any fun x => x.id = i) = true) : exec (.release i) s = .next s := by
  rw [exec_release, execRelease, hb]
  refine if_pos ?_
  rcases h with h | h | h | h <;> simp [h]

end

/-! ### BLOCK_ERASE (R368, R378) and the reserve of the hold-up flush (R367) -/

section
variable {d n m : Nat}

/-- ERASE_BEGIN of a block is journalled, once. -/
def State.beginErase (s : State) (d n m : Nat) : State :=
  if s.flag .X_BLK_BEGUN (blkIx d n) then s
  else (s.journal 0x25 0 (baddr d n) (s.get .X_BLK_CNT (blkIx d n) * 2 ^ 32 + m)).putFlag .X_BLK_BEGUN true (blkIx d n)

theorem exec_blockErase_due {cls : Nat} (hpop : s.flag .X_DIE_POP d = true) (hn : n < s.blocksPerDie (dieChannel d))
    (hfree : s.get .X_BLK_MM (blkIx d n) = mmReleased ∨ s.get .X_BLK_MM (blkIx d n) = mmHalfErased)
    (hserves : s.blkState d n = bsInService ∨ s.blkState d n = bsHalfErased) (hmode : s.dieHasMode d m = true)
    (hidle : s.eraseUnderway d n = false) (hallowed : s.eraseAllowed d n = true) (hdurable : s.durable (fun r => r.type = 0x24) = true)
    (hcls : s.eraseClass (channelCluster (dieChannel d)) m = some cls) (ht : t = s.beginErase d n m) :
    exec (.blockErase d n m) s = .next (if t.durable (fun r => r.type = 0x25 && r.a = baddr d n)
      then t.planOwn d ⟨0, opErase, cls, true, t.get .TK_PERIOD_PERIOD, hwBlock n 0 m⟩ else t) := by
  rw [exec_blockErase, execBlockErase]
  refine (if_pos ?_).trans ?_
  case refine_1 => simp [hpop, hn, hfree, hserves, hmode, hidle, hallowed, hdurable]
  case refine_2 =>
    rw [State.beginErase] at ht
    simp only [hcls, ← ht]
    exact (apply_ite Host.Outcome.next _ _ _).symm

theorem exec_blockErase_stays (h : s.eraseUnderway d n = true
    ∨ s.get .X_BLK_MM (blkIx d n) ≠ mmReleased ∧ s.get .X_BLK_MM (blkIx d n) ≠ mmHalfErased ∨ s.eraseAllowed d n = false
    ∨ s.eraseClass (channelCluster (dieChannel d)) m = none) : exec (.blockErase d n m) s = .next s := by
  rw [exec_blockErase, execBlockErase]
  rcases h with h | ⟨hrel, hhalf⟩ | h | h
  · exact if_neg (by simp [h])
  · exact if_neg (by simp [hrel, hhalf])
  · exact if_neg (by simp [h])
  · rw [h]
    exact ite_self _

theorem exec_reserveRefill_eq : exec (.reserveRefill d n) s
    = .next (if s.get .X_BLK_MM (blkIx d n) = mmErased ∧ s.get .X_BLK_MODE (blkIx d n) = 1 ∧ s.reserveFull = false
      then (s.put .X_BLK_MM mmReserved (blkIx d n)).updateGc else s) := by
  rw [exec_reserveRefill, execReserveRefill, apply_ite Host.Outcome.next]
  simp [and_assoc]

end

/-! ### Static wear levelling (R381) -/

/-- MC_WL_RANGE shows the spread of the erase counts. -/
def State.showWear (s : State) : State := s.put .MC_WL_RANGE (s.wearRange.2 * 2 ^ 32 + s.wearRange.1)

theorem State.showWear_bands : s.showWear.bands = s.bands := State.put_bands ..

theorem State.showWear_flash : s.showWear.flash = s.flash := State.put_flash ..

theorem State.setBand_bands : (s.setBand b).bands = s.bands.map fun x => if x.id = b.id then b else x := rfl

theorem State.setBand_flash : (s.setBand b).flash = s.flash := rfl

section
variable {i : Nat}

theorem exec_staticWearLevelling_missing (hb : (s.bands.find? fun b => b.id = i) = none) :
    exec (.staticWearLevelling i) s = .next s.showWear := by
  rw [exec_staticWearLevelling, execStaticWearLevelling]
  simp only [State.put_bands, hb]
  rfl

/-- The FULL band that holds the lowest count is the first one chosen in its second. -/
theorem exec_staticWearLevelling_first {m : Nat × Nat} (hb : (s.bands.find? fun b => b.id = i) = some b)
    (hspread : s.wearRange.1 + s.get .MC_WL_CFG_SPREAD ≤ s.wearRange.2) (hfull : b.isOpen = false) (hnew : b.wear = false)
    (hm : some m ∈ b.members) (hlow : s.get .X_BLK_CNT (blkIx m.1 m.2) = s.wearRange.1) (hsec : s.get .X_CAL_SEC ≠ s.calRaw / 65536)
    (hrate : 0 < s.get .MC_WL_CFG_RATE) (hwork : s.bgWork = true) : exec (.staticWearLevelling i) s
      = .next (((s.showWear.setBand { b with wear := true }).put .X_CAL_SEC (s.calRaw / 65536)).put .X_WL_SEC 1) := by
  have hget (f : Field) (hf : f ≠ .MC_WL_RANGE) (j : Nat) : s.showWear.get f j = s.get f j := State.get_put_field (h := hf) ..
  have hcal : s.showWear.calRaw = s.calRaw := hget _ (by decide) 0
  have hbusy : s.showWear.bgWork = true := by
    rw [← hwork, State.bgWork, State.bgWork, State.mode, State.mode, hget _ (by decide), hget _ (by decide)]
  have hshow : s.put .MC_WL_RANGE (s.wearRange.2 * 2 ^ 32 + s.wearRange.1) = s.showWear := rfl
  have hfind : (s.showWear.bands.find? fun b => b.id = i) = some b := by rw [State.showWear_bands, hb]
  rw [exec_staticWearLevelling, execStaticWearLevelling]
  simp only [hshow, hfind, hcal, hget .X_CAL_SEC (by decide), if_neg hsec]
  refine if_pos ?_
  simpa [hbusy, hget, hspread, hrate, hfull, hnew] using ⟨some m, hm, by simpa using hlow⟩

end

/-! ### The settlement -/

/-- Settles O50: each command by its laws above. That background work stops on the way out of Run and Throttle (log entry 67), that a RELEASE
waits until every record that names it is durable (66), and the class of an ERASE and the CHECKPOINT that superseded map pages wait for (76)
are choices of the model. -/
theorem bandsAreOpenedMovedAndReleased : Obligations.BandsAreOpenedMovedAndReleased := by
  unfold Obligations.BandsAreOpenedMovedAndReleased
  refine ⟨fun s k r l f h => ?refused, ?opens, ?copy, fun s p h => exec_gcCopy_held h, fun s p c hc => exec_gcCommit_copy hc, ?release,
    fun s i b hb h => exec_release_stays hb h, fun s t d n m cls hpop hn hfree hserves hmode hidle hallowed hdurable hcls ht =>
      exec_blockErase_due hpop hn hfree hserves hmode hidle hallowed hdurable hcls ht, fun s d n m h => exec_blockErase_stays h,
    fun s d n => exec_reserveRefill_eq, fun s i hb => exec_staticWearLevelling_missing hb, ?wear⟩
  case refused => rw [exec_bandOpen, execBandOpen, State.openNewBand_refused h]
  case opens =>
    intro s k r l bl hk hk4 hrefill hopen hmem hrot hbl hlen herased
    rw [exec_bandOpen, execBandOpen, State.openNewBand_opens hk hk4 hrefill hopen hmem hrot hbl hlen herased]
    exact ⟨rfl, State.addBand_bands_length⟩
  case copy =>
    intro s t p b u hwork hband hunit hmoving hlive hnew hrecov
    have hcopy := exec_gcCopy_valid hwork hband hunit hmoving hlive hnew hrecov
    exact ⟨fun h => by rw [hcopy, h, Option.elim_none], fun h => by rw [hcopy, h, Option.elim_some]⟩
  case release =>
    intro s i b hb hfull hmoving hempty hcopies hclosed hdurable hpages
    have hi : b.id = i := by simpa using List.find?_some hb
    have hframe : ((s.releaseBlocks b).countRelease b).faultFrame = (s.journal 0x24 0 i 0).faultFrame :=
      hi ▸ State.countRelease_faultFrame.trans State.releaseBlocks_faultFrame
    have hjournal : ((s.releaseBlocks b).countRelease b).journalFrame = s.journalFrame :=
      (State.journalFrame_of_faultFrame hframe).trans State.journal_journalFrame
    have hbands : ((s.releaseBlocks b).countRelease b).bands = s.bands := State.bands_of_journalFrame hjournal
    exact ⟨_, exec_release_moved hb hfull hmoving hempty hcopies hclosed hdurable hpages,
      fun _ => State.dropBand_bands.trans (by rw [hbands]), hbands, State.jnl_of_faultFrame hframe, (congrArg State.flash hjournal :),
      (congrArg State.copies hjournal :), fun m hm => State.get_countRelease.trans (State.releaseBlocks_released hm)⟩
  case wear =>
    intro s i b m hb hspread hfull hnew hm hlow hsec hrate hwork
    refine ⟨_, exec_staticWearLevelling_first hb hspread hfull hnew hm hlow hsec hrate hwork, ?_, State.get_put_self .., ?_⟩
    · rw [State.put_bands, State.put_bands, State.setBand_bands, State.setBand_bands, State.showWear_bands]
    · rw [State.put_flash, State.put_flash, State.setBand_flash, State.showWear_flash]

end Sys2Proof.Machine

/-! The recovery of units that failed, and the patrol: deep decoders, ladders, hedges, CMD_MAX, background recovery and refresh
(10_read_integrity.md, R395, R396, R399, R403, R405, R406, R409 to R412, R416 to R418). -/

namespace Sys2Proof.Machine

variable {s t : State} {p : Nat}

/-! ### Deep decoders (R395, R396) -/

section
variable {k : Nat} {j : DeepJob}

/-- The only job of a cluster, where it waits, runs: it is the best one, and no decoder of the cluster is taken. -/
theorem exec_deepDecodeStart_only (hmine : (s.deepJobs.filter fun j => j.cl = k) = [j]) (hwaits : j.running = false) :
    exec (.deepDecodeStart k) s
      = .next { s with deepJobs := s.deepJobs.map fun x => if x = j then { x with running := true } else x } := by
  have hwaiting : ([j].filter fun j => !j.running) = [j] := by simp [hwaits]
  have hrunning : ([j].filter fun j => j.running) = [] := by simp [hwaits]
  rw [exec_deepDecodeStart, execDeepDecodeStart, hmine]
  simp only [hwaiting, hrunning]
  exact if_neg (by simp)

/-- With both decoders of the cluster at work no job is taken. -/
theorem exec_deepDecodeStart_full (hfull : 2 ≤ ((s.deepJobs.filter fun j => j.cl = k).filter fun j => j.running).length) :
    exec (.deepDecodeStart k) s = .next s := by
  rw [exec_deepDecodeStart, execDeepDecodeStart]
  dsimp only
  split
  · rfl
  · exact if_pos hfull

/-- What the end of a job takes away: the job, and the raw data it decoded. -/
def State.endDeepJob (s : State) (j : DeepJob) (p : Nat) : State :=
  { s with deepJobs := s.deepJobs.erase j, staged := s.staged.filter fun x => x.place ≠ p || !x.raw }

theorem State.ladder?_endDeepJob {q : Nat} : (s.endDeepJob j p).ladder? q = s.ladder? q := rfl

section
variable {l : Ladder} (hj : (s.deepJobs.find? fun j => j.place = p && j.running) = some j) (hl : s.ladder? p = some l)
include hj hl

theorem exec_deepDecodeDone_verified {n : Nat} : exec (.deepDecodeDone p (.verified n)) s
    = .next (((s.endDeepJob j p).bump .MC_CNT_DEEP_OK).ladderWon l ((s.endDeepJob j p).ladderAt l).1
      (!((s.endDeepJob j p).ladderAt l).2)) := by
  have hl' : (s.endDeepJob j p).ladder? p = some l := State.ladder?_endDeepJob.trans hl
  rw [State.endDeepJob] at hl' ⊢
  rw [exec_deepDecodeDone, execDeepDecodeDone, hj]
  simp only [hl']

theorem exec_deepDecodeDone_failed : exec (.deepDecodeDone p .failed) s = .next ((s.endDeepJob j p).ladderNext l) := by
  have hl' : (s.endDeepJob j p).ladder? p = some l := State.ladder?_endDeepJob.trans hl
  rw [State.endDeepJob] at hl' ⊢
  rw [exec_deepDecodeDone, execDeepDecodeDone, hj]
  simp only [hl']

end

end

/-! ### Ladders (R396 to R399) -/

section
variable {l : Ladder} {k : Nat}

theorem State.ladder?_place (hl : s.ladder? p = some l) : l.place = p := by simpa using List.find?_some hl

/-- The read of a ladder's step is issued: Gold work at once, in the next plan or in the one after, other work by the planner. -/
def State.issueStep (s : State) (l : Ladder) (p n step : Nat) : State :=
  if l.cls = 0 then
    (if s.fastOk (placeDie p) then s.startRead p n step 0 else if s.goldMay (placeDie p) (s.placeBlock p) then s.appendRead p n step
      else s.planNext p n step)
  else s.planLater p n step l.cls

/-- The ladders of the page of a unit that wait for the same step as the unit's own. -/
def State.ladderMates (s : State) (l : Ladder) (p step : Nat) : List Ladder :=
  s.ladders.filter fun x => x.place / 4 = p / 4 && !x.busy && !x.exhausted && x.done = l.done
    && (s.ladderSteps x)[x.done - 1]? = some (step, (s.ladderAt l).2)

/-- The first unit of its page that a unit and its mates take in. -/
def firstUnit (mates : List Ladder) (p : Nat) : Nat := mates.foldl (fun m x => min m (x.place % 4)) (p % 4)

/-- The last of them. -/
def lastUnit (mates : List Ladder) (p : Nat) : Nat := mates.foldl (fun m x => max m (x.place % 4)) (p % 4)

/-- The step of the mates is at work, and its one read is counted. -/
def State.beginStep (s : State) (mates : List Ladder) : State :=
  ({ s with ladders := s.ladders.map fun x => if mates.contains x then { x with busy := true } else x } : State).bump .MC_CNT_LADDER_READS

theorem State.beginStep_alone (halone : s.ladders = [l]) : (s.beginStep [l]).ladders = [{ l with busy := true }] := by
  simp [State.beginStep, halone]

section
variable (hl : s.ladder? p = some l) (hidle : l.busy = false) (hgoes : l.exhausted = false)
include hl hidle hgoes

theorem exec_ladderStep_exhausted (hend : (s.ladderSteps l)[l.done - 1]? = none) : exec (.ladderStep p) s = .next (s.exhaust l) := by
  rw [exec_ladderStep, execLadderStep, hl]
  simp [hidle, hgoes, hend]

section
variable {b : Bool} (hstep : (s.ladderSteps l)[l.done - 1]? = some (k, b))
include hstep

/-- One read of the page serves each ladder that waits for the step. -/
theorem exec_ladderStep_read {mates : List Ladder} (hmates : s.ladderMates l p k = mates) : exec (.ladderStep p) s
    = .next ((s.beginStep mates).issueStep l (4 * (p / 4) + firstUnit mates p) (lastUnit mates p + 1 - firstUnit mates p) k) := by
  subst hmates
  rw [exec_ladderStep, execLadderStep, hl]
  simp only [hidle, hgoes, hstep]
  exact (apply_ite Host.Outcome.next _ _ _).symm

/-- A ladder beside which no other runs reads its own unit alone. -/
theorem exec_ladderStep_alone (halone : s.ladders = [l]) (hat : s.ladderAt l = (k, b)) :
    exec (.ladderStep p) s = .next ((s.beginStep [l]).issueStep l p 1 k) := by
  have hp : l.place = p := State.ladder?_place hl
  have hmates : s.ladderMates l p k = [l] := by simp [State.ladderMates, halone, hp, hidle, hgoes, hstep, hat]
  have hfirst : firstUnit [l] p = p % 4 := by simp [firstUnit, hp]
  have hlast : lastUnit [l] p = p % 4 := by simp [lastUnit, hp]
  rw [exec_ladderStep_read hl hidle hgoes hstep hmates, hfirst, hlast, Nat.div_add_mod, Nat.add_sub_cancel_left]

end

end

end

/-! ### Hedges (R403, R405) -/

section
variable {h : Hedge} (hh : (s.hedges.find? fun h => h.place = p) = some h)
include hh

theorem exec_hedgeRebuild_early (hfew : (h.members.filter fun m => m.2 = .verified).length < h.need) (ok : Bool) :
    exec (.hedgeRebuild p ok) s = .next s := by
  rw [exec_hedgeRebuild, execHedgeRebuild, hh]
  exact if_pos hfew

theorem exec_hedgeRebuild_verified (henough : h.need ≤ (h.members.filter fun m => m.2 = .verified).length) :
    exec (.hedgeRebuild p true) s = .next ((if h.recon then s else (((s.bump .MC_CNT_HEDGE_WON).sample 8 15).sampleBoth 9 53
      (s.elapsedUs h.tick h.ph)).queueRefresh p).unitVerified p) := by
  rw [exec_hedgeRebuild, execHedgeRebuild, hh]
  exact (if_neg (Nat.not_lt.2 henough)).trans (if_neg (by decide))

theorem exec_hedgeRebuild_failed (henough : h.need ≤ (h.members.filter fun m => m.2 = .verified).length) :
    exec (.hedgeRebuild p false) s = .next { s with hedges := s.hedges.map fun x =>
      if x.place = p then { x with members := x.members.map fun m => (m.1, .failed) } else x } := by
  rw [exec_hedgeRebuild, execHedgeRebuild, hh]
  exact (if_neg (Nat.not_lt.2 henough)).trans (if_pos rfl)

theorem exec_hedgeRetry_stays (hno : h.failed = false ∨ h.retried = true) : exec (.hedgeRetry p) s = .next s := by
  rw [exec_hedgeRetry, execHedgeRetry, hh]
  refine if_pos ?_
  rcases hno with hno | hno <;> simp [hno]

/-- The one more attempt of a hedge: its members that failed are waited for again. -/
def State.beginRetry (s : State) (p : Nat) : State :=
  { s with hedges := s.hedges.map fun x => if x.place = p then
      { x with retried := true, members := x.members.map fun m => if m.2 = .failed then (m.1, .waiting) else m } else x }

/-- A failed hedge whose unit's own ladder is over runs the ladders of its failed members. -/
theorem exec_hedgeRetry_runs (hfailed : h.failed = true) (honce : h.retried = false)
    (hover : ((s.ladder? p).elim h.recon fun l => l.exhausted) = true) : exec (.hedgeRetry p) s
      = .next (forEach ((h.members.filter fun m => m.2 = .failed).map Prod.fst) (s.beginRetry p) fun m u =>
        u.launchLadder m h.cls (u.get .X_CMDSEQ) (u.recovWants p)) := by
  rw [exec_hedgeRetry, execHedgeRetry, hh]
  refine if_neg ?_
  cases hl : s.ladder? p with
  | none => simpa [hl, hfailed, honce] using hover
  | some l => simpa [hl, hfailed, honce] using hover

end

/-! ### CMD_MAX (R406, R407) -/

/-- A read at CMD_MAX passes its unverified units to background recovery, is counted and raises source 74. -/
def State.reportCmdMax (s : State) (c : Cmd) : State := ((s.toBackground c).bump .MC_CNT_CMD_MAX).raise 74 uMap c.node

theorem exec_cmdMaxExpiry_read {n : Nat} {c : Cmd} (hc : s.cmd? n = some c) (hread : c.isRead = true) (hplanned : c.st = .planned)
    (hwants : c.wants ≠ []) : exec (.cmdMaxExpiry n) s
      = .next ((({ s.reportCmdMax c with
          engJobs := (s.reportCmdMax c).engJobs.filter fun j => j.cmd ≠ n || j.engine.isSome } : State).failRead c
        vMediaError).dropUnwanted c.wants) := by
  rw [exec_cmdMaxExpiry, execCmdMaxExpiry, hc]
  exact if_neg (by simp [hread, hplanned, hwants])

/-! ### Background recovery (R409 to R412) -/

section
variable {r : Recov}

theorem State.passStage_read (hrests : r.going = false) : s.passStage r 1
    = forEach ((s.recovUnits r).filter fun p => s.dieAvailable (placeDie p)) (s.setRecov { r with phase := 1, going := true, got := [] })
      fun p t => t.planLater p 1 0 2 := by
  unfold State.passStage
  exact if_pos (by simp [hrests])

theorem State.passStage_rebuild (hgoing : r.going = true) (hphase : r.phase = 1) (hleft : s.recovLeft r ≠ [])
    (hover : (s.recovLeft r).all s.ladderOver = true) :
    s.passStage r 2 = forEach (s.recovLeft r) (s.setRecov { r with phase := 2 }) fun p t => t.rebuildInPass p := by
  unfold State.passStage
  exact (if_neg (by simp)).trans (if_pos (by simp [hgoing, hphase, hleft, hover]))

variable {n g k : Nat}

section
variable (hr : (s.recovs.find? fun r => r.node = n && r.g = g) = some r)
include hr

theorem exec_backgroundRecoveryPass_stage :
    exec (.backgroundRecoveryPass n g k none) s = .next (if s.bgWork then s.passStage r k else s) := by
  rw [exec_backgroundRecoveryPass, execBackgroundRecoveryPass, hr]

/-- A pass at work with each unit that is left given up has failed. -/
theorem exec_backgroundRecoveryPass_failed (hgoing : r.going = true) (hleft : s.recovLeft r ≠ [])
    (hgiven : (s.recovLeft r).all s.unitGivenUp = true) :
    exec (.backgroundRecoveryPass n g k (some false)) s = .next (s.passFailed r) := by
  rw [exec_backgroundRecoveryPass, execBackgroundRecoveryPass, hr]
  exact congrArg Host.Outcome.next (if_pos (by simp [hgoing, hleft, hgiven]))

theorem exec_backgroundRecoveryPass_not_failed (hno : r.going = false ∨ s.recovLeft r = []) :
    exec (.backgroundRecoveryPass n g k (some false)) s = .next s := by
  rw [exec_backgroundRecoveryPass, execBackgroundRecoveryPass, hr]
  refine congrArg Host.Outcome.next (if_neg ?_)
  rcases hno with hno | hno <;> simp [hno]

/-- The result of a pass is discarded where the entry no longer waits for it. -/
theorem exec_backgroundRecoveryPass_discarded (hgone : eState (s.mapGet n g) ≠ 1 ∨ eRecov (s.mapGet n g) = false) :
    exec (.backgroundRecoveryPass n g k (some true)) s = .next (s.endRecov n g) := by
  rw [exec_backgroundRecoveryPass, execBackgroundRecoveryPass, hr]
  refine if_pos ?_
  rcases hgone with hgone | hgone <;> simp [hgone]

/-- A granule with all its units verified, and not yet copied, is written anew into an open band of its kind. -/
theorem exec_backgroundRecoveryPass_rewritten {u : FUnit} {b : Band} (hstored : eState (s.mapGet n g) = 1)
    (hrecov : eRecov (s.mapGet n g) = true) (hkept : eLost (s.mapGet n g) = false) (hgoing : r.going = true) (hall : s.recovLeft r = [])
    (hnew : ∀ c ∈ s.copies, c.src ≠ ePlace (s.mapGet n g)) (hunit : s.unitAt (ePlace (s.mapGet n g)) = some u)
    (hband : s.bandOf (ePlace (s.mapGet n g)) = some b) (hcopy : s.copyUnit (ePlace (s.mapGet n g)) u b.kind true = some t) :
    exec (.backgroundRecoveryPass n g k (some true)) s = .next t := by
  have huncopied : (s.copies.any fun c => c.src = ePlace (s.mapGet n g) && c.recov) = false := by
    simpa using fun c hc hsrc => absurd hsrc (hnew c hc)
  rw [exec_backgroundRecoveryPass, execBackgroundRecoveryPass, hr]
  refine (if_neg (by simp [hstored, hrecov, hkept])).trans ((if_neg (by simp [hgoing, hall, huncopied])).trans ?_)
  simp only [hunit, hband, Option.elim_some, hcopy, Option.getD_some]

end

/-- A parity-complete copy is committed: the entries of its block's granules are freed and counted. -/
theorem exec_recoveryCommit_complete {c : Copy} (hc : (s.copies.find? fun c => c.recov && c.src = ePlace (s.mapGet n g)) = some c)
    (hcomplete : s.copyComplete c = true) (hstored : eState (s.mapGet n g) = 1) (ht : t = s.commitCopy c true) :
    exec (.recoveryCommit n g) s = .next (({ t with
        copies := t.copies.erase c
        recovs := t.recovs.filter fun r => !(r.node = n && (s.blockGranules n g).contains r.g) } : State).add .MC_CNT_RECOVERED
      (t.recovs.filter fun r => r.node = n && (s.blockGranules n g).contains r.g).length) := by
  subst ht
  rw [exec_recoveryCommit, execRecoveryCommit, hc]
  exact if_neg (by simp [hcomplete, hstored])

end

/-! ### Patrol (R416, R417) -/

theorem exec_patrolRead_rests {r : UnitResult} (hno : s.flag .MC_PATROL_CFG_ENABLE = false ∨ s.bgWork = false) :
    exec (.patrolRead r) s = .next s := by
  rw [exec_patrolRead, execPatrolRead]
  refine if_pos ?_
  rcases hno with hno | hno <;> simp [hno]

section
variable {r : UnitResult} (henabled : s.flag .MC_PATROL_CFG_ENABLE = true) (hwork : s.bgWork = true)
include henabled hwork

theorem exec_patrolRead_past_last (hpast : s.fullFrom (s.get .X_PAT_BAND) = none) (hfull : (s.bands.any fun b => !b.isOpen) = true) :
    exec (.patrolRead r) s = .next s.endLap := by
  rw [exec_patrolRead, execPatrolRead, hpast]
  exact (if_neg (by simp [henabled, hwork])).trans (congrArg Host.Outcome.next (if_pos hfull))

/-- What the result of a patrol read asks for: a refresh from REFRESH_BITS corrected bits on, and recovery too where the unit failed. -/
def State.patrolResult (s : State) (p : Nat) (r : UnitResult) : State :=
  match r with
  | .verified k => if s.get .MC_PATROL_CFG_REFRESH_BITS ≤ k then s.queueRefresh p else s
  | .blank => s
  | r => (s.queueRefresh p).unitFailed p 3 r

/-- The patrol moves on from a position in a band of `n` members: to the next page, or past the band. -/
def State.patrolMove (s : State) (b : Band) (n pos : Nat) : State :=
  if s.wlPages b * s.bandWlb b * n ≤ pos + 1 then (s.put .X_PAT_BAND (b.id + 1)).put .X_PAT_POS 0
  else (s.put .X_PAT_BAND b.id).put .X_PAT_POS (pos + 1)

/-- Past the last FULL band the lap ends. -/
def State.endLapIfPast (s : State) : State := if (s.fullFrom (s.get .X_PAT_BAND)).isNone then s.endLap else s

/-- The patrol reads the page at its position: the read is counted, its result acted on, and the patrol moves on. -/
theorem exec_patrolRead_page {b : Band} {pos n : Nat} {m : Nat × Nat} (hb : s.fullFrom (s.get .X_PAT_BAND) = some b)
    (hn : n = (b.members.filterMap fun x => x).length) (hpos : pos = if b.id = s.get .X_PAT_BAND then s.get .X_PAT_POS else 0)
    (hm : m = (b.members.filterMap fun x => x).getD (pos % n) (0, 0))
    (hp : p = placeOf m.1 (s.unitAddr m.1 m.2 (s.pageIndex b (pos / n)) ((s.pageIndex b (pos / n) + s.get .MC_PATROL_LAP / 2 ^ 32) % 4)))
    (ht : t = (s.countBlockRead m.1 m.2).checkReads m.1 m.2) :
    ∃ k, exec (.patrolRead r) s
      = .next (((t.patrolResult p r).patrolMove b n pos).put .MC_PATROL_POS_PERMILLE k).endLapIfPast := by
  subst ht hp hm hpos hn
  rw [exec_patrolRead, execPatrolRead, hb]
  exact ⟨_, (if_neg (by simp [henabled, hwork])).trans rfl⟩

end

theorem State.endLap_restarts :
    s.endLap.get .X_PAT_BAND = 0 ∧ s.endLap.get .X_PAT_POS = 0 ∧ s.endLap.get .MC_PATROL_POS_PERMILLE = 0 := by
  simp [State.endLap]

/-! ### Refresh (R417, R418) -/

section
variable {i : Nat} {b : Band} (hb : (s.bands.find? fun b => b.id = i) = some b)
include hb

theorem exec_refresh_begins (hfull : b.isOpen = false) (hdue : b.refresh = true) (hwork : s.bgWork = true) :
    exec (.refresh i) s = .next (s.setBand { b with victim := true }) := by
  rw [exec_refresh, execRefresh, hb]
  exact congrArg Host.Outcome.next (if_pos (by simp [hfull, hdue, hwork]))

theorem exec_refresh_stays (hno : b.refresh = false ∨ s.bgWork = false) : exec (.refresh i) s = .next s := by
  rw [exec_refresh, execRefresh, hb]
  refine congrArg Host.Outcome.next (if_neg ?_)
  rcases hno with hno | hno <;> simp [hno]

theorem exec_bandAgeRefresh_due (hfull : b.isOpen = false) (hnew : b.refresh = false) (hdays : s.get .MC_PATROL_CFG_AGE_DAYS ≠ 0)
    (hvalid : s.flag .CAL_STS_VALID = true) (hclosed : b.closedAt ≠ 0)
    (hage : b.closedAt + s.get .MC_PATROL_CFG_AGE_DAYS * 86400 ≤ s.calRaw / 65536) :
    exec (.bandAgeRefresh i) s = .next (s.setBand { b with refresh := true }) := by
  rw [exec_bandAgeRefresh, execBandAgeRefresh, hb]
  exact congrArg Host.Outcome.next (if_pos (by simp [hfull, hnew, hdays, hvalid, hclosed, hage]))

end

/-! ### The settlement -/

/-- Settles O51: each command by its laws above. That a patrol read is one event with its result, that a band closed under an invalid
calendar never reaches AGE (log entry 25), that no queue limit bounds which deep decode starts, and that background work stops on the way
out of Run and Throttle (67) are choices of the model. -/
theorem failedUnitsAreRecovered : Obligations.FailedUnitsAreRecovered := by
  unfold Obligations.FailedUnitsAreRecovered
  refine ⟨fun s k j => exec_deepDecodeStart_only, fun s k => exec_deepDecodeStart_full, ?deepDone, fun s p l => exec_ladderStep_exhausted,
    ?ladderRead, fun s p h hh henough => ⟨exec_hedgeRebuild_verified hh henough, exec_hedgeRebuild_failed hh henough⟩,
    fun s p h => exec_hedgeRebuild_early, fun s p h => exec_hedgeRetry_stays, ?retry, ?cmdMax, ?recovery,
    fun s t n g c => exec_recoveryCommit_complete, fun s r => exec_patrolRead_rests, fun s r => exec_patrolRead_past_last, ?page,
    fun s => State.endLap_restarts, ?refresh⟩
  case deepDone =>
    intro s t p j l n hj ht hl
    subst ht
    exact ⟨exec_deepDecodeDone_verified hj hl, exec_deepDecodeDone_failed hj hl⟩
  case ladderRead =>
    intro s p l k b hl hidle hgoes hstep halone hat
    exact ⟨s.beginStep [l], exec_ladderStep_alone hl hidle hgoes hstep halone hat, State.beginStep_alone halone, rfl,
      State.get_congr _ _ _ rfl⟩
  case retry =>
    intro s p h hh hfailed honce hover
    exact ⟨s.beginRetry p, rfl, rfl, exec_hedgeRetry_runs hh hfailed honce hover⟩
  case cmdMax =>
    intro s t n c hc hread hplanned hwants ht
    subst ht
    exact exec_cmdMaxExpiry_read hc hread hplanned hwants
  case recovery =>
    exact fun s n g r hr => ⟨fun k => exec_backgroundRecoveryPass_stage hr, State.passStage_read, State.passStage_rebuild,
      fun k => exec_backgroundRecoveryPass_failed hr, fun k => exec_backgroundRecoveryPass_not_failed hr,
      fun k => exec_backgroundRecoveryPass_discarded hr, fun t k u b => exec_backgroundRecoveryPass_rewritten hr⟩
  case page =>
    intro s t u w r b pos m p n henabled hwork hb hn hpos hm hp ht hu hw
    obtain ⟨k, hexec⟩ := exec_patrolRead_page henabled hwork hb hn hpos hm hp ht
    subst hu hw
    exact ⟨k, _, rfl, hexec⟩
  case refresh =>
    exact fun s i b hb hfull => ⟨exec_refresh_begins hb hfull, exec_refresh_stays hb, exec_bandAgeRefresh_due hb hfull⟩

end Sys2Proof.Machine

/-! Steps of the block (00_scope.md, 95_what_each_step_holds.md): the front command is run on the rest of the queue, on an empty queue one
reference cycle passes, no command touches the queue, and every command answers a next state. -/

namespace Sys2Proof.Machine

/-! ### The queue -/

/-- Settles O1: `step` reads the queue's front and hands `exec` the state with the rest. -/
theorem stepTakesTheFrontCommand : Obligations.StepTakesTheFrontCommand := by
  unfold Obligations.StepTakesTheFrontCommand
  intro c q s h
  rw [step, h]

/-- TK_PHASE holds what an idle cycle stores: the bound 999,999 fits its 20 bits. -/
theorem idle_phase (s : State) :
    (idle s).get .TK_PHASE_PHASE = min (s.get .TK_PHASE_PHASE + 10) (min s.tickNs 999999) := by
  rw [idle, State.get_put_self]
  refine Nat.mod_eq_of_lt ?_
  rw [Field.TK_PHASE_PHASE_width]
  omega

/-- Settles O2: an idle cycle is one store of TK_PHASE, within its width. That time passes in reference cycles is log entry 2. -/
theorem emptyQueueLetsOneReferenceCyclePass : Obligations.EmptyQueueLetsOneReferenceCyclePass := by
  unfold Obligations.EmptyQueueLetsOneReferenceCyclePass
  intro s h
  refine ⟨idle s, by rw [step, h], idle_phase s, rfl, rfl, rfl, h, fun f i a hf => ?_⟩
  exact State.get_put_field _ _ _ _ _ _ _ _ hf

/-- Settles O3: the queue is a part of what every command keeps. -/
theorem commandsLeaveTheQueue : Obligations.CommandsLeaveTheQueue := by
  unfold Obligations.CommandsLeaveTheQueue
  exact fun c s t h => ((exec_kept c s).of t h).queue

/-! ### Every command answers -/

/-- The outcome is a next state. -/
def Answers (o : Host.Outcome State Fault Refusal) : Prop := ∃ t, o = .next t

theorem Answers.next {t : State} : Answers (.next t) := ⟨t, rfl⟩

theorem Answers.ite {p : Prop} [Decidable p] {a b : Host.Outcome State Fault Refusal} (ha : Answers a) (hb : Answers b) :
    Answers (if p then a else b) := by
  split
  · exact ha
  · exact hb

theorem execUpperHalfRead_answers {ag off s} : Answers (execUpperHalfRead ag off s) := by
  unfold execUpperHalfRead
  split
  · exact .ite .next .next
  · exact .next

theorem execWakeOnAccess_answers {ag off width write stallNs s} : Answers (execWakeOnAccess ag off width write stallNs s) := by
  unfold execWakeOnAccess
  split <;> exact .next

theorem execInvalidationCompletion_answers {fn tag s} : Answers (execInvalidationCompletion fn tag s) := by
  unfold execInvalidationCompletion
  split <;> exact .next

theorem execTranslationCompletion_answers {fn addr size result s} : Answers (execTranslationCompletion fn addr size result s) := by
  unfold execTranslationCompletion
  extract_lets bad fault
  split <;> exact .next

theorem execDmaReadCompletion_answers {cmd status offset data s} : Answers (execDmaReadCompletion cmd status offset data s) := by
  unfold execDmaReadCompletion
  refine .ite .next ?_
  extract_lets s
  split
  · exact .next
  · extract_lets s
    refine .ite .next ?_
    split
    · exact .ite .next .next
    · exact .next

theorem execCompletionTimeout_answers {cmd s} : Answers (execCompletionTimeout cmd s) := by
  unfold execCompletionTimeout
  split
  · exact .next
  · exact .ite .next .next

theorem execSqTailDoorbell_answers {fn sqid tail s} : Answers (execSqTailDoorbell fn sqid tail s) := by
  unfold execSqTailDoorbell
  refine .ite .next ?_
  split
  · exact .next
  · exact .ite .next .next

theorem execCqHeadDoorbell_answers {fn cqid head s} : Answers (execCqHeadDoorbell fn cqid head s) := by
  unfold execCqHeadDoorbell
  refine .ite .next ?_
  split
  · exact .next
  · exact .ite .next .next

theorem execCommandFetch_answers {fn sqid sqe s} : Answers (execCommandFetch fn sqid sqe s) := by
  unfold execCommandFetch
  split
  · exact .next
  · refine .ite .next ?_
    extract_lets c c old s s s
    split <;> exact .next

theorem execFormatComplete_answers {node s} : Answers (execFormatComplete node s) := by
  unfold execFormatComplete
  split
  · exact .next
  · split
    · exact .next
    · refine .ite .next ?_
      extract_lets s s
      split <;> exact .next

theorem execPushWindowWrite_answers {fn off data poisoned s} : Answers (execPushWindowWrite fn off data poisoned s) := by
  unfold execPushWindowWrite
  refine .ite .next (.ite .next ?_)
  split
  · exact .next
  · exact .ite .next (.ite .next .next)

theorem execRead_answers {cmd s} : Answers (execRead cmd s) := by
  unfold execRead
  split <;> exact .next

theorem execReadUnpack_answers {cmd s} : Answers (execReadUnpack cmd s) := by
  unfold execReadUnpack
  split <;> exact .next

theorem execWrite_answers {cmd s} : Answers (execWrite cmd s) := by
  unfold execWrite
  split <;> exact .next

theorem execWritePack_answers {cmd s} : Answers (execWritePack cmd s) := by
  unfold execWritePack
  split <;> exact .next

theorem execFlushBlock_answers {cmd s} : Answers (execFlushBlock cmd s) := by
  unfold execFlushBlock
  split
  · exact .next
  · refine .ite .next (.ite .next ?_)
    split
    · exact .next
    · exact .ite .next (.ite .next .next)

theorem execPin_answers {cmd s} : Answers (execPin cmd s) := by
  unfold execPin
  split
  · exact .next
  · refine .ite .next (.ite .next ?_)
    split
    · exact .next
    · exact .ite (.ite .next .next) .next

theorem execUnpin_answers {cmd s} : Answers (execUnpin cmd s) := by
  unfold execUnpin
  split
  · exact .next
  · refine .ite .next (.ite .next ?_)
    split <;> exact .next

theorem execAbort_answers {cmd s} : Answers (execAbort cmd s) := by
  unfold execAbort
  split
  · exact .next
  · refine .ite .next (.ite .next ?_)
    split
    · exact .next
    · exact .ite .next .next

theorem execFence_answers {cmd s} : Answers (execFence cmd s) := by
  unfold execFence
  split
  · exact .next
  · exact .ite .next (.ite .next .next)

theorem execTime_answers {cmd s} : Answers (execTime cmd s) := by
  unfold execTime
  split
  · exact .next
  · exact .ite .next (.ite .next (.ite .next .next))

theorem execGather_answers {cmd s} : Answers (execGather cmd s) := by
  unfold execGather
  split <;> exact .next

theorem execPackOnly_answers {cmd s} : Answers (execPackOnly cmd s) := by
  unfold execPackOnly
  split
  · exact .next
  · exact .ite .next (.ite .next .next)

theorem execGrantIssue_answers {cmd woff s} : Answers (execGrantIssue cmd woff s) := by
  unfold execGrantIssue
  split
  · exact .next
  · exact .ite .next .next

theorem execGrantExpiry_answers {cmd grant s} : Answers (execGrantExpiry cmd grant s) := by
  unfold execGrantExpiry
  split <;> exact .next

theorem execLateNotice_answers {cmd s} : Answers (execLateNotice cmd s) := by
  unfold execLateNotice
  split
  · exact .next
  · exact .ite .next .next

theorem execFenceComplete_answers {cmd s} : Answers (execFenceComplete cmd s) := by
  unfold execFenceComplete
  split <;> exact .next

theorem execPinPreloadComplete_answers {cmd s} : Answers (execPinPreloadComplete cmd s) := by
  unfold execPinPreloadComplete
  split
  · exact .ite (.ite .next (.ite .next (.ite .next .next))) .next
  · exact .next

theorem execNodeDeletionComplete_answers {node s} : Answers (execNodeDeletionComplete node s) := by
  unfold execNodeDeletionComplete
  split
  · exact .next
  · refine .ite .next ?_
    extract_lets s s s s s
    split <;> exact .next

theorem execMapMissFill_answers {node l s} : Answers (execMapMissFill node l s) := by
  unfold execMapMissFill
  split
  · exact .ite .next .next
  · exact .next

theorem execInvalidationSweepDone_answers {node s} : Answers (execInvalidationSweepDone node s) := by
  unfold execInvalidationSweepDone
  split <;> exact .next

theorem execLockedLineRefill_answers {node l s} : Answers (execLockedLineRefill node l s) := by
  unfold execLockedLineRefill
  split
  · exact .ite .next .next
  · exact .next

theorem execMapWriteBack_answers {node page s} : Answers (execMapWriteBack node page s) := by
  unfold execMapWriteBack
  refine .ite .next ?_
  extract_lets s
  split <;> exact .next

theorem execReadMarginComplete_answers {die counts s} : Answers (execReadMarginComplete die counts s) := by
  unfold execReadMarginComplete
  split
  · exact .next
  · exact .ite .next .next

theorem execGcCopy_answers {place s} : Answers (execGcCopy place s) := by
  unfold execGcCopy
  split
  · refine .ite .next ?_
    split <;> exact .next
  · exact .next

theorem execGcCommit_answers {place s} : Answers (execGcCommit place s) := by
  unfold execGcCommit
  split
  · exact .next
  · exact .ite .next .next

theorem execRelease_answers {band s} : Answers (execRelease band s) := by
  unfold execRelease
  split
  · exact .next
  · exact .ite .next .next

theorem execBlockErase_answers {die block mode s} : Answers (execBlockErase die block mode s) := by
  unfold execBlockErase
  extract_lets ix m
  refine .ite ?_ ?_
  · split
    · exact .next
    · exact .ite .next .next
  · exact .next

theorem execHostWriteAdmission_answers {s} : Answers (execHostWriteAdmission s) := by
  unfold execHostWriteAdmission
  split <;> exact .next

theorem execStaticWearLevelling_answers {band s} : Answers (execStaticWearLevelling band s) := by
  unfold execStaticWearLevelling
  extract_lets r s sec used
  split
  · exact .next
  · exact .ite .next .next

theorem execLadderStep_answers {place s} : Answers (execLadderStep place s) := by
  unfold execLadderStep
  split
  · exact .next
  · refine .ite .next ?_
    split
    · exact .next
    · exact .ite .next .next

theorem execDeepDecodeStart_answers {cl s} : Answers (execDeepDecodeStart cl s) := by
  unfold execDeepDecodeStart
  extract_lets mine
  split
  · exact .next
  · exact .ite .next .next

theorem execDeepDecodeDone_answers {place unit s} : Answers (execDeepDecodeDone place unit s) := by
  unfold execDeepDecodeDone
  split
  · exact .next
  · extract_lets s
    split
    · exact .next
    · split <;> exact .next

theorem execHedgeRebuild_answers {place ok s} : Answers (execHedgeRebuild place ok s) := by
  unfold execHedgeRebuild
  split
  · exact .next
  · exact .ite .next (.ite .next .next)

theorem execHedgeRetry_answers {place s} : Answers (execHedgeRetry place s) := by
  unfold execHedgeRetry
  split
  · exact .next
  · exact .ite .next .next

theorem execCmdMaxExpiry_answers {cmd s} : Answers (execCmdMaxExpiry cmd s) := by
  unfold execCmdMaxExpiry
  split
  · exact .next
  · exact .ite .next .next

theorem execBackgroundRecoveryPass_answers {node g stage ended s} : Answers (execBackgroundRecoveryPass node g stage ended s) := by
  unfold execBackgroundRecoveryPass
  split
  · exact .next
  · extract_lets w
    split
    · exact .next
    · exact .next
    · refine .ite .next (.ite .next ?_)
      split <;> exact .next

theorem execRecoveryCommit_answers {node g s} : Answers (execRecoveryCommit node g s) := by
  unfold execRecoveryCommit
  extract_lets w
  split
  · exact .next
  · exact .ite .next .next

theorem execPatrolRead_answers {unit s} : Answers (execPatrolRead unit s) := by
  unfold execPatrolRead
  refine .ite .next ?_
  split <;> exact .next

theorem execRefresh_answers {band s} : Answers (execRefresh band s) := by
  unfold execRefresh
  split <;> exact .next

theorem execUncorrectableMemoryError_answers {mem addr held s} : Answers (execUncorrectableMemoryError mem addr held s) := by
  unfold execUncorrectableMemoryError
  refine .ite .next ?_
  extract_lets s cl core s
  split
  · exact .next
  · exact .next
  · split
    · exact .ite .next .next
    · exact .next
  · split <;> exact .next
  · exact .next
  · exact .next
  · exact .next
  · exact .next

theorem execDecompressionJobStart_answers {engine cl s} : Answers (execDecompressionJobStart engine cl s) := by
  unfold execDecompressionJobStart
  refine .ite .next ?_
  extract_lets full free
  clear_value full free
  split
  · exact .next
  · refine .ite .next ?_
    split <;> exact .next

theorem execDecompressionJobDone_answers {engine s} : Answers (execDecompressionJobDone engine s) := by
  unfold execDecompressionJobDone
  split
  · exact .next
  · split
    · exact .next
    · refine .ite .next ?_
      split
      · split
        · exact .next
        · exact .ite .next .next
      · split
        · exact .ite .next .next
        · exact .next
        · exact .ite .next .next
      · exact .next

theorem execCompressionJobStart_answers {engine cmd s} : Answers (execCompressionJobStart engine cmd s) := by
  unfold execCompressionJobStart
  split
  · exact .next
  · refine .ite .next ?_
    extract_lets job
    split
    · exact .next
    · refine .ite (.ite .next .next) ?_
      split
      · exact .next
      · exact .ite .next .next

theorem execCompressionJobDone_answers {engine block s} : Answers (execCompressionJobDone engine block s) := by
  unfold execCompressionJobDone
  split
  · exact .next
  · split
    · refine .ite .next ?_
      extract_lets bad
      refine .ite (.ite .next (.ite .next (.ite .next .next))) ?_
      split
      · exact .next
      · extract_lets orig ok
        refine .ite ?_ ?_
        · extract_lets
          split <;> exact .next
        · exact .ite .next .next
    · exact .next

theorem execDictLoadDone_answers {ag valid s} : Answers (execDictLoadDone ag valid s) := by
  unfold execDictLoadDone
  extract_lets a
  refine .ite .next ?_
  split
  · exact .next
  · exact .ite .next (.ite .next .next)

theorem execModeEntry_answers {s} : Answers (execModeEntry s) := by
  unfold execModeEntry
  extract_lets from'
  refine .ite .next ?_
  split <;> exact .next

theorem execCommitVerifyDone_answers {sigOk deltaOk s} : Answers (execCommitVerifyDone sigOk deltaOk s) := by
  unfold execCommitVerifyDone
  refine .ite .next ?_
  split <;> exact .next

theorem execSlotWriteDone_answers {ok s} : Answers (execSlotWriteDone ok s) := by
  unfold execSlotWriteDone
  refine .ite .next ?_
  extract_lets s
  split
  · exact .next
  · exact .ite .next .next

theorem execActivationRecord_answers {s} : Answers (execActivationRecord s) := by
  unfold execActivationRecord
  refine .ite .next ?_
  split <;> exact .next

theorem execMainPgQualified_answers {samples offMs s} : Answers (execMainPgQualified samples offMs s) := by
  unfold execMainPgQualified
  extract_lets t
  refine .ite .next (.ite .next ?_)
  split <;> exact .next

theorem execStartup_answers {b s} : Answers (execStartup b s) := by
  unfold execStartup
  refine .ite .next ?_
  extract_lets s cold s s order
  generalize (if b.recoveryN then none else b.slotOf order) = found
  cases found <;> exact .next

theorem execBandAgeRefresh_answers {band s} : Answers (execBandAgeRefresh band s) := by
  unfold execBandAgeRefresh
  extract_lets days
  split <;> exact .next

theorem execMailboxCommandDone_answers {req dmaOk s} : Answers (execMailboxCommandDone req dmaOk s) := by
  unfold execMailboxCommandDone
  refine .ite .next ?_
  extract_lets op
  split
  · exact .next
  · exact .ite .next (.ite .next .next)

/-- Every command is answered: each meaning ends, behind its checks, in a next state. -/
theorem exec_answers (c : Instr) (s : State) : Answers (exec c s) := by
  cases c with
  | upperHalfRead => exact execUpperHalfRead_answers
  | resetStart => exact .ite .next .next
  | resetComplete => exact .ite .next .next
  | requestTimeout => exact .ite .next .next
  | powerChangeStart => exact .ite .next .next
  | powerChangeComplete => exact .ite .next .next
  | wakeOnAccess => exact execWakeOnAccess_answers
  | chipReset => exact .ite .next (.ite .next .next)
  | tickBoundary => exact .ite .next .next
  | tickOverrun => exact .ite .next .next
  | planSeal => exact .ite .next (.ite (.ite .next .next) (.ite .next .next))
  | atTickActions => exact .ite .next (.ite .next .next)
  | tickInFrame => exact .ite .next (.ite (.ite .next .next) (.ite .next .next))
  | ptmExchange => exact .ite (.ite .next .next) .next
  | tickLockAcquired => exact .ite .next (.ite .next .next)
  | linkUp => exact .ite .next .next
  | linkDown => exact .ite (.ite .next .next) .next
  | perstAssert => exact .ite .next .next
  | perstDeassert => exact .ite .next .next
  | flr => exact .ite .next .next
  | busMasterEnableSet => exact .ite .next .next
  | busMasterEnableClear => exact .ite .next .next
  | disableTimeout => exact .ite .next .next
  | invalidationCompletion => exact execInvalidationCompletion_answers
  | translationCompletion => exact execTranslationCompletion_answers
  | dmaReadCompletion => exact execDmaReadCompletion_answers
  | completionTimeout => exact execCompletionTimeout_answers
  | undefinedBarRequest => exact .ite .next (.ite .next (.ite .next .next))
  | l1Entry => exact .ite .next .next
  | l12Entry => exact .ite .next .next
  | l0pNarrow => exact .ite .next .next
  | sqTailDoorbell => exact execSqTailDoorbell_answers
  | cqHeadDoorbell => exact execCqHeadDoorbell_answers
  | commandFetch => exact execCommandFetch_answers
  | ccEnSet => exact .ite .next .next
  | ccEnClear => exact .ite .next .next
  | shutdownNotification => exact .ite .next .next
  | formatComplete => exact execFormatComplete_answers
  | sanitizeComplete => exact .ite .next .next
  | pushWindowWrite => exact execPushWindowWrite_answers
  | packetIntake => exact .ite .next .next
  | read => exact execRead_answers
  | readUnpack => exact execReadUnpack_answers
  | write => exact execWrite_answers
  | writePack => exact execWritePack_answers
  | flushBlock => exact execFlushBlock_answers
  | pin => exact execPin_answers
  | unpin => exact execUnpin_answers
  | abort => exact execAbort_answers
  | fence => exact execFence_answers
  | time => exact execTime_answers
  | gather => exact execGather_answers
  | packOnly => exact execPackOnly_answers
  | dataWindowWrite => exact .ite .next (.ite .next .next)
  | grantIssue => exact execGrantIssue_answers
  | grantExpiry => exact execGrantExpiry_answers
  | replyHeadWrite => exact .ite .next (.ite .next .next)
  | xrHeadWrite => exact .ite .next (.ite .next .next)
  | eventHeadWrite => exact .ite .next (.ite .next .next)
  | lateNotice => exact execLateNotice_answers
  | reserveChanged => exact .ite .next .next
  | fenceComplete => exact execFenceComplete_answers
  | pinPreloadComplete => exact execPinPreloadComplete_answers
  | nodeDeletionComplete => exact execNodeDeletionComplete_answers
  | mapMissFill => exact execMapMissFill_answers
  | allocationGiveUp => exact .ite .next .next
  | invalidationSweepDone => exact execInvalidationSweepDone_answers
  | lockedLineRefill => exact execLockedLineRefill_answers
  | drainComplete => exact .ite .next .next
  | resetInvalidationDone => exact .ite .next .next
  | mapWriteBack => exact execMapWriteBack_answers
  | journalPageProgram => exact .ite .next .next
  | msCplRead => exact .ite .next .next
  | readMarginComplete => exact execReadMarginComplete_answers
  | programCallComplete => exact .ite .next (.ite .next .next)
  | eraseCallComplete => exact .ite .next (.ite .next .next)
  | suspendComplete => exact .ite .next .next
  | sealedGateViolation => exact .ite .next .next
  | sealedTimeout => exact .ite .next .next
  | mediaOpTimeout => exact .ite .next .next
  | mediaBrownoutAssert => exact .ite .next .next
  | gcCopy => exact execGcCopy_answers
  | gcCommit => exact execGcCommit_answers
  | release => exact execRelease_answers
  | blockErase => exact execBlockErase_answers
  | hostWriteAdmission => exact execHostWriteAdmission_answers
  | staticWearLevelling => exact execStaticWearLevelling_answers
  | reserveRefill => exact .ite .next .next
  | ladderStep => exact execLadderStep_answers
  | deepDecodeStart => exact execDeepDecodeStart_answers
  | deepDecodeDone => exact execDeepDecodeDone_answers
  | hedgeRebuild => exact execHedgeRebuild_answers
  | hedgeRetry => exact execHedgeRetry_answers
  | cmdMaxExpiry => exact execCmdMaxExpiry_answers
  | backgroundRecoveryPass => exact execBackgroundRecoveryPass_answers
  | recoveryCommit => exact execRecoveryCommit_answers
  | patrolRead => exact execPatrolRead_answers
  | refresh => exact execRefresh_answers
  | uncorrectableMemoryError mem addr held => exact execUncorrectableMemoryError_answers (addr := addr)
  | scrubRead => exact .ite .next .next
  | decompressionJobStart => exact execDecompressionJobStart_answers
  | decompressionJobDone => exact execDecompressionJobDone_answers
  | compressionJobStart => exact execCompressionJobStart_answers
  | compressionJobDone => exact execCompressionJobDone_answers
  | dictLoadDone => exact execDictLoadDone_answers
  | keyDestruction => exact .ite (.ite .next .next) (.ite .next .next)
  | lockstepMismatch => exact .ite .next .next
  | coreHang => exact .ite .next .next
  | modeEntry => exact execModeEntry_answers
  | mediaQuiet => exact .ite .next (.ite .next (.ite (.ite .next .next) .next))
  | modeExit => exact .ite .next .next
  | scaleChange => exact .ite .next .next
  | vauxRise => exact .ite .next .next
  | keepToPatrol => exact .ite .next .next
  | patrolRound => exact .ite .next .next
  | flushEnergyCheck => exact .ite .next .next
  | flushEnd => exact .ite .next .next
  | prechargeCeiling => exact .ite .next .next
  | chargerTopUp => exact .ite .next .next
  | bankOvervolt => exact .ite .next .next
  | capacitanceTestStart => exact .ite .next (.ite .next .next)
  | capacitanceTestEnd => exact .ite .next (.ite .next (.ite .next (.ite .next (.ite .next .next))))
  | housekeepingRound => exact .ite .next .next
  | calTrimStep => exact .ite .next .next
  | calOscStop => exact .ite .next .next
  | calAlarm => exact .ite .next (.ite .next (.ite .next .next))
  | calAlarmArm => exact .ite .next .next
  | faultWindowClose => exact .ite .next .next
  | commitVerifyDone sigOk deltaOk => exact execCommitVerifyDone_answers (sigOk := sigOk) (deltaOk := deltaOk) (s := s)
  | slotWriteDone => exact execSlotWriteDone_answers
  | mapReloadHalf => exact .ite .next (.ite .next .next)
  | clusterOutOfService => exact .ite .next .next
  | clusterCoreReady => exact .ite .next (.ite .next .next)
  | clusterReturn => exact .ite .next .next
  | reloadFail => exact .ite .next (.ite .next (.ite .next (.ite .next .next)))
  | activationRecord => exact execActivationRecord_answers
  | mainPgQualified => exact execMainPgQualified_answers
  | startup => exact execStartup_answers
  | undefinedRegisterRead => exact .ite .next .next
  | vfEnableSet => exact .ite .next .next
  | chargeTargetReached => exact .ite .next (.ite .next .next)
  | bandAgeRefresh => exact execBandAgeRefresh_answers
  | mailboxCommandDone => exact execMailboxCommandDone_answers
  | frontReloadDone => exact .ite .next .next
  | _ => exact .next

/-- Settles O4: no meaning has another outcome than a next state. -/
theorem everyCommandHasAnEffect : Obligations.EveryCommandHasAnEffect := by
  unfold Obligations.EveryCommandHasAnEffect
  exact exec_answers

end Sys2Proof.Machine

/-! The end of a commit's verification and of its slot write (17_firmware_update.md, R595 to R597, R599 to R601, R609). -/

namespace Sys2Proof.Machine

variable {s : State} {d : Bool} {x : FwSlot}

/-! ### The lock of the system area (R347) -/

theorem State.flag_setSysUnlock {on : Bool} {c : Nat} : (s.setSysUnlock on).flag .MS_SYSUNLOCK_UNLOCK c
    = if c = 0 ∨ c = 2 ∨ c = 5 then on else s.flag .MS_SYSUNLOCK_UNLOCK c := by
  have hone {u : State} {k : Nat} : (u.putFlag .MS_SYSUNLOCK_UNLOCK on k).flag .MS_SYSUNLOCK_UNLOCK c
      = if c = k then on else u.flag .MS_SYSUNLOCK_UNLOCK c := by
    split
    next hk => rw [hk, State.flag_putFlag_self _ _ _ _ _ rfl]
    next hk => rw [State.flag, State.putFlag, State.get_put_ne _ _ _ _ _ _ _ _ fun e => hk e.2.1, State.flag]
  have hall : s.setSysUnlock on
      = ((s.putFlag .MS_SYSUNLOCK_UNLOCK on 0).putFlag .MS_SYSUNLOCK_UNLOCK on 2).putFlag .MS_SYSUNLOCK_UNLOCK on 5 := rfl
  rw [hall, hone, hone, hone]
  grind

@[simp] theorem State.get_setSysUnlock_field {on : Bool} {f : Field} {i a : Nat} (h : f ≠ .MS_SYSUNLOCK_UNLOCK) :
    (s.setSysUnlock on).get f i a = s.get f i a := forEach_get fun _ _ => State.get_putFlag_field _ _ _ _ _ _ _ _ h

@[simp] theorem State.setSysUnlock_out {on : Bool} : (s.setSysUnlock on).out = s.out := rfl
@[simp] theorem State.setSysUnlock_cmds {on : Bool} : (s.setSysUnlock on).cmds = s.cmds := rfl
@[simp] theorem State.setSysUnlock_armed {on : Bool} : (s.setSysUnlock on).armed = s.armed := rfl

/-! ### Verification (R595, R596) -/

/-- A package whose signature does not verify passes in no state. -/
theorem State.verifyRest_unsigned {p : List Byte} : State.verify.verifyRest s false d p ≠ .ok x := by
  unfold State.verify.verifyRest
  extract_lets
  by_cases hheader : headerOk p = true
  · by_cases hconfig : configOk p = true
    · simp [hheader, hconfig]
    · simp [hheader, hconfig]
  · simp [hheader]

theorem State.verify_unsigned : s.verify false d ≠ .ok x := by
  unfold State.verify
  split
  · exact nofun
  · split
    · exact nofun
    · split
      · exact nofun
      · exact State.verifyRest_unsigned

section
variable {g : Bool} (hbusy : s.flag .FW_STS_COMMIT_BUSY = true) (hnew : s.flag .X_FW_WRITING = false) (hwarden : s.wardenUp = true)
include hbusy hnew hwarden

theorem exec_commitVerifyDone_fails {e k : Nat} (h : s.verify g d = .error (e, k)) : exec (.commitVerifyDone g d) s
    = .next (({ s.put .X_FW_TGT (s.targetSlot (s.get .X_FW_TGT)) with pkg := [] } : State).endCommit e k (fwVerdict e)) := by
  rw [exec_commitVerifyDone, execCommitVerifyDone, if_neg (by simp [hbusy, hnew, hwarden]), h]

/-- An image accepted: its slot is empty, and it is kept to be written. -/
def State.accepted (s : State) (x : FwSlot) : State :=
  { s with pkg := [], fwNew := some x, fwSlots := s.fwSlots.filter fun y => y.slot ≠ x.slot }

/-- The write of an accepted image begins, with the system area unlocked. -/
def State.writing (s : State) (x : FwSlot) : State :=
  (((s.accepted x).put .X_FW_TGT x.slot).putFlag .X_FW_WRITING true).setSysUnlock true

theorem exec_commitVerifyDone_passes (h : s.verify g d = .ok x) : exec (.commitVerifyDone g d) s = .next (s.writing x) := by
  rw [exec_commitVerifyDone, execCommitVerifyDone, if_neg (by simp [hbusy, hnew, hwarden]), h]
  rfl

end

theorem State.writing_registers : (s.writing x).flag .X_FW_WRITING = true
    ∧ (s.writing x).flag .FW_STS_COMMIT_BUSY = s.flag .FW_STS_COMMIT_BUSY
    ∧ ∀ c, (s.writing x).flag .MS_SYSUNLOCK_UNLOCK c = (decide (c = 0 ∨ c = 2 ∨ c = 5) || s.flag .MS_SYSUNLOCK_UNLOCK c) := by
  have hregs : (s.accepted x).regs = s.regs := rfl
  refine ⟨?_, ?_, fun c => ?_⟩
  · simp [State.writing, State.flag, State.putFlag]
  · simp [State.writing, State.flag, State.putFlag, State.get_congr _ _ _ hregs]
  · rw [State.writing, State.flag_setSysUnlock, State.flag_putFlag_field _ _ _ _ _ _ _ _ (by decide),
      State.flag_put_field _ _ _ _ _ _ _ _ (by decide), State.flag, State.get_congr _ _ _ hregs, State.flag]
    split <;> simp [*]

/-! ### The slot write (R597) -/

theorem exec_slotWriteDone_idle {ok : Bool} (h : s.flag .X_FW_WRITING = false) : exec (.slotWriteDone ok) s = .next s := by
  rw [exec_slotWriteDone, execSlotWriteDone, if_pos (by simp [h])]

theorem exec_slotWriteDone_failed (h : s.flag .X_FW_WRITING = true) :
    exec (.slotWriteDone false) s = .next ((s.setSysUnlock false).endCommit fwWriteFail 0 vInternal) := by
  rw [exec_slotWriteDone, execSlotWriteDone, if_neg (by simp [h])]
  dsimp only
  cases (s.setSysUnlock false).fwNew <;> rfl

/-- The image is stored and counted, and the system area locked again. -/
def State.imageStored (s : State) (x : FwSlot) : State :=
  ({ s.setSysUnlock false with fwSlots := s.fwSlots ++ [x] } : State).bump .FW_CNT_COMMITS

theorem exec_slotWriteDone_stored (h : s.flag .X_FW_WRITING = true) (hx : s.fwNew = some x) :
    exec (.slotWriteDone true) s = .next ((s.imageStored x).committed x) := by
  have hnew : (s.setSysUnlock false).fwNew = some x := hx
  rw [exec_slotWriteDone, execSlotWriteDone, if_neg (by simp [h])]
  dsimp only
  rw [hnew]
  rfl

theorem State.get_imageStored {f : Field} {i a : Nat} (h : f ≠ .MS_SYSUNLOCK_UNLOCK) (h' : f ≠ .FW_CNT_COMMITS) :
    (s.imageStored x).get f i a = s.get f i a := by
  have hregs : ({ s.setSysUnlock false with fwSlots := s.fwSlots ++ [x] } : State).regs = (s.setSysUnlock false).regs := rfl
  rw [State.imageStored, State.get_bump_field h', State.get_congr _ _ _ hregs, State.get_setSysUnlock_field h]

theorem State.imageStored_locks {c : Nat} (h : c = 0 ∨ c = 2 ∨ c = 5) : (s.imageStored x).flag .MS_SYSUNLOCK_UNLOCK c = false := by
  have hregs : ({ s.setSysUnlock false with fwSlots := s.fwSlots ++ [x] } : State).regs = (s.setSysUnlock false).regs := rfl
  have hflag : (s.setSysUnlock false).flag .MS_SYSUNLOCK_UNLOCK c = false := by rw [State.flag_setSysUnlock, if_pos h]
  rw [State.flag, State.imageStored, State.get_bump_field (by decide), State.get_congr _ _ _ hregs]
  exact hflag

/-! ### What the action does with the stored image (R599 to R601) -/

theorem State.committed_none (h : s.get .X_FW_ACT = 0) : s.committed x = s.endCommit fwOk 0 vSuccess := if_pos h

theorem State.committed_atReset (h : s.get .X_FW_ACT = 1) : s.committed x = (s.setNextReset x.slot).endCommit fwOk 0 vSuccess :=
  (if_neg (by omega)).trans (if_pos h)

section
variable (hact : s.get .X_FW_ACT = 3 ∨ s.get .X_FW_ACT = 5)
include hact

theorem State.committed_needsReset (hreset : bit x.flags 1 = true) :
    s.committed x = (s.setNextReset x.slot).endCommit fwOk 0 vNeedsReset :=
  (if_neg (by omega)).trans ((if_neg (by omega)).trans (if_pos (by simp [hreset])))

end

/-- The end of a commit that answers nothing yet: its command completes with its activation. -/
def State.heldCommit (s : State) : State := ((s.put .X_FW_CMD 0).endCommit fwOk 0 vSuccess).put .X_FW_WAIT (s.get .X_FW_CMD)

theorem State.committed_now (hact : s.get .X_FW_ACT = 3) (hlive : bit x.flags 1 = false) :
    s.committed x = s.heldCommit.armFirmware x.slot (s.tick + 2) :=
  (if_neg (by omega)).trans ((if_neg (by omega)).trans ((if_neg (by simp [hlive])).trans (if_pos hact)))

section
variable (hact : s.get .X_FW_ACT = 5) (hlive : bit x.flags 1 = false)
include hact hlive

theorem State.committed_atTick (hok : s.armOk (s.get .X_FW_TICK) = true) :
    s.committed x = (s.armFirmware x.slot (s.get .X_FW_TICK)).endCommit fwOk 0 vSuccess :=
  (if_neg (by omega)).trans ((if_neg (by omega)).trans ((if_neg (by simp [hlive])).trans ((if_neg (by omega)).trans (if_pos hok))))

theorem State.committed_late (hok : s.armOk (s.get .X_FW_TICK) = false) : s.committed x = s.endCommit fwTickPast 0 vTickPast :=
  (if_neg (by omega)).trans ((if_neg (by omega)).trans ((if_neg (by simp [hlive])).trans ((if_neg (by omega)).trans (if_neg (by simp [hok])))))

end

/-- The registers of a commit that ended. -/
def State.commitOver (s : State) : State := (s.putFlag .FW_STS_COMMIT_BUSY false).putFlag .X_FW_WRITING false

/-- The registers that tell of a commit that ended OK. -/
def State.okTold (s : State) (k : Nat) : State :=
  (((s.commitOver.put .FW_LAST_CODE fwOk).put .FW_LAST_SLOT (s.commitOver.get .X_FW_TGT)).put .FW_LAST_COMPONENT k).put .FW_LAST_CLUSTER 0

/-- A commit that ended OK is noted, and holds its image no longer. -/
def State.okNoted (s : State) (k : Nat) : State := { s.okTold k with fwNew := none }

theorem State.get_okNoted_told {k : Nat} {f : Field} {i a : Nat} : (s.okNoted k).get f i a = (s.okTold k).get f i a := rfl

@[simp] theorem State.okNoted_out {k : Nat} : (s.okNoted k).out = s.out := rfl
@[simp] theorem State.okNoted_cmds {k : Nat} : (s.okNoted k).cmds = s.cmds := rfl
@[simp] theorem State.okNoted_armed {k : Nat} : (s.okNoted k).armed = s.armed := rfl

theorem State.get_okNoted {k : Nat} {f : Field} {i a : Nat}
    (h : f ∉ [.FW_STS_COMMIT_BUSY, .X_FW_WRITING, .FW_LAST_CODE, .FW_LAST_SLOT, .FW_LAST_COMPONENT, .FW_LAST_CLUSTER]) :
    (s.okNoted k).get f i a = s.get f i a := by
  simp only [List.mem_cons, List.not_mem_nil, or_false, not_or] at h
  obtain ⟨hbusy, hwriting, hcode, hslot, hcomp, hcluster⟩ := h
  simp [State.get_okNoted_told, State.okTold, State.commitOver, State.putFlag, hbusy, hwriting, hcode, hslot, hcomp, hcluster]

theorem State.okNoted_shows {k : Nat} : (s.okNoted k).get .FW_STS_COMMIT_BUSY = 0 ∧ (s.okNoted k).get .FW_LAST_CODE = fwOk := by
  refine ⟨?_, ?_⟩
  · simp [State.get_okNoted_told, State.okTold, State.commitOver, State.putFlag]
  · simp [State.get_okNoted_told, State.okTold, fwOk]

/-- Without a command to answer, a commit that ends OK is noted and nothing else. -/
theorem State.endCommit_unanswered {k : Nat} {r : Result} (h : s.get .X_FW_CMD = 0) :
    s.endCommit fwOk k r = (s.okNoted k).put .X_FW_CMD 0 := by
  have hcmd : (s.okNoted k).get .X_FW_CMD = 0 := (State.get_okNoted (by decide)).trans h
  have hend : s.endCommit fwOk k r = (s.okNoted k).fwAnswer .X_FW_CMD r := rfl
  rw [hend, State.fwAnswer, hcmd]
  rfl

theorem State.heldCommit_eq : s.heldCommit
    = (((s.put .X_FW_CMD 0).okNoted 0).put .X_FW_CMD 0).put .X_FW_WAIT (s.get .X_FW_CMD) := by
  rw [State.heldCommit, State.endCommit_unanswered (State.get_put_self _ _ _ _ _)]

@[simp] theorem State.heldCommit_out : s.heldCommit.out = s.out := by simp [State.heldCommit_eq]
@[simp] theorem State.heldCommit_cmds : s.heldCommit.cmds = s.cmds := by simp [State.heldCommit_eq]
@[simp] theorem State.heldCommit_armed : s.heldCommit.armed = s.armed := by simp [State.heldCommit_eq]

/-- An activation armed for the second tick to come answers when it ends. -/
theorem State.committed_now_shows (hact : s.get .X_FW_ACT = 3) (hlive : bit x.flags 1 = false) :
    (s.committed x).out = s.out ∧ (s.committed x).cmds = s.cmds ∧ (s.committed x).get .FW_STS_ACT_STATE = 1
      ∧ (s.committed x).get .FW_ACTIVE_ARMED = x.slot % 8 ∧ (s.committed x).flag .FW_STS_COMMIT_BUSY = false
      ∧ (s.committed x).get .FW_LAST_CODE = fwOk ∧ ∃ q, (s.committed x).armed = s.armed ++ [⟨s.tick + 2, q, .firmware x.slot⟩] := by
  obtain ⟨hbusy, hcode⟩ := (s.put .X_FW_CMD 0).okNoted_shows (k := 0)
  rw [State.committed_now hact hlive, State.armFirmware]
  refine ⟨by simp, by simp, by simp, by simp, ?_, ?_, s.heldCommit.get .X_ARMSEQ, by simp⟩
  · simpa [State.flag, State.heldCommit_eq] using hbusy
  · simpa [State.heldCommit_eq] using hcode

/-! ### The settlement -/

/-- Settles O35: each command by its laws above. That MS_SYSUNLOCK is set on clusters 0, 2 and 5 during a slot write is the model's choice
(log entry 34). -/
theorem commitsAreVerifiedWrittenAndActivated : Obligations.CommitsAreVerifiedWrittenAndActivated := by
  unfold Obligations.CommitsAreVerifiedWrittenAndActivated
  refine ⟨fun s g d e k hbusy hnew hwarden h => exec_commitVerifyDone_fails hbusy hnew hwarden h, ?passes,
    fun s g d => State.verify_unsigned, fun s ok => exec_slotWriteDone_idle, fun s => exec_slotWriteDone_failed, ?stored⟩
  case passes =>
    intro s g d x hbusy hnew hwarden h
    obtain ⟨hwriting, hstill, hlocks⟩ := s.writing_registers (x := x)
    exact ⟨s.writing x, exec_commitVerifyDone_passes hbusy hnew hwarden h, rfl, rfl, rfl, hwriting, hstill.trans hbusy, rfl, rfl, hlocks⟩
  case stored =>
    intro s x hwriting hx
    have hact : (s.imageStored x).get .X_FW_ACT = s.get .X_FW_ACT := State.get_imageStored (by decide) (by decide)
    have htick : (s.imageStored x).get .X_FW_TICK = s.get .X_FW_TICK := State.get_imageStored (by decide) (by decide)
    have hnow : (s.imageStored x).tick = s.tick := State.get_imageStored (by decide) (by decide)
    have hexec := exec_slotWriteDone_stored hwriting hx
    refine ⟨s.imageStored x, rfl, State.imageStored_locks (by simp), State.imageStored_locks (by simp), State.imageStored_locks (by simp),
      fun h => ?_, fun h => ?_, fun h hreset => ?_, fun h hlive => ?_, fun h hlive hok => ?_, fun h hlive hok => ?_⟩
    · rw [hexec, State.committed_none (hact.trans h)]
    · rw [hexec, State.committed_atReset (hact.trans h)]
    · rw [hexec, State.committed_needsReset (hact ▸ h) hreset]
    · obtain ⟨hout, hcmds, hstate, harmed, hdone, hcode, q, hq⟩ := State.committed_now_shows (x := x) (hact.trans h) hlive
      exact ⟨_, hexec, hout, hcmds, hstate, harmed, hdone, hcode, q, hnow ▸ hq⟩
    · rw [hexec, State.committed_atTick (hact.trans h) hlive (htick ▸ hok), htick]
    · rw [hexec, State.committed_late (hact.trans h) hlive (htick ▸ hok)]

end Sys2Proof.Machine

/-! A time loaded into the calendar (15_housekeeping_and_calendar.md, R558, R559, R561; 12, R474): what it shows, and what it leaves. -/

namespace Sys2Proof.Machine

variable {s : State} {f : Field} {i a : Nat}

@[simp] theorem State.get_checkTrust (h : f ≠ .SEC_STS_TIME_TRUSTED) : s.checkTrust.get f i a = s.get f i a := by
  simp [State.checkTrust, State.get_ite, State.get_putFlag_field, h]

@[simp] theorem State.get_disarm {k : Nat} (h : f ≠ almEn k) : (s.disarm k).get f i a = s.get f i a := by
  simp [State.disarm, State.get_ite, State.get_putFlag_field, h]

@[simp] theorem State.get_disarmPast (h0 : f ≠ .CAL_ALM_CTL_EN0) (h1 : f ≠ .CAL_ALM_CTL_EN1) : s.disarmPast.get f i a = s.get f i a :=
  (State.get_disarm h1).trans (State.get_disarm h0)

@[simp] theorem State.get_loseSource (hfault : f ∉ faultFields) (h : f ∉ [.TK_STS_LOCK, .TK_STS_SRC_LOST, .X_TICK_FRAMES]) :
    s.loseSource.get f i a = s.get f i a := by
  simp only [List.mem_cons, List.not_mem_nil, or_false, not_or] at h
  obtain ⟨hlock, hlost, hframes⟩ := h
  rw [State.loseSource_eq, State.get_of_calm State.raise_calm hfault]
  simp [State.get_putFlag_field, hlock, hlost, hframes]

/-- The calendar holds a time, before the alarms and the trust are looked at again. -/
def State.calLoaded (s : State) (time : Nat) (warden : Bool) : State :=
  ((((s.put .CAL_TIME (time / 2 * 2)).put .X_CAL_TIME_NS 0).putFlag .CAL_STS_VALID true).putFlag .CAL_STS_OSC_STOP false).putFlag
    .CAL_STS_WARDEN_SET warden

/-- The tick block, where it is locked to the calendar, loses its source. -/
def State.calUnlocked (s : State) : State := if s.get .TK_SRC_SOURCE = 3 && s.get .TK_STS_LOCK = lockLocked then s.loseSource else s

theorem State.loadCalendar_eq {time : Nat} {w : Bool} : s.loadCalendar time w = (s.calLoaded time w).calUnlocked.disarmPast.checkTrust := rfl

/-- The fields that a time loaded into the calendar reaches, those of its fault apart. -/
@[reducible, simp] def calendarFields : List Field :=
  [.CAL_TIME, .X_CAL_TIME_NS, .CAL_STS_VALID, .CAL_STS_OSC_STOP, .CAL_STS_WARDEN_SET, .TK_STS_LOCK, .TK_STS_SRC_LOST, .X_TICK_FRAMES,
    .CAL_ALM_CTL_EN0, .CAL_ALM_CTL_EN1, .SEC_STS_TIME_TRUSTED]

/-- Behind the load itself only the tick block, the alarms and the trust follow. -/
theorem State.get_loadCalendar_loaded {time : Nat} {w : Bool} (hfault : f ∉ faultFields)
    (h : f ∉ [.TK_STS_LOCK, .TK_STS_SRC_LOST, .X_TICK_FRAMES, .CAL_ALM_CTL_EN0, .CAL_ALM_CTL_EN1, .SEC_STS_TIME_TRUSTED]) :
    (s.loadCalendar time w).get f i a = (s.calLoaded time w).get f i a := by
  simp only [List.mem_cons, List.not_mem_nil, or_false, not_or] at h
  obtain ⟨hlock, hlost, hframes, hen0, hen1, htrust⟩ := h
  simp [State.loadCalendar_eq, State.calUnlocked, State.get_ite, hfault, hlock, hlost, hframes, hen0, hen1, htrust]

theorem State.get_loadCalendar {time : Nat} {w : Bool} (hfault : f ∉ faultFields) (h : f ∉ calendarFields) :
    (s.loadCalendar time w).get f i a = s.get f i a := by
  simp only [calendarFields, List.mem_cons, List.not_mem_nil, or_false, not_or] at h
  obtain ⟨htime, hns, hvalid, hosc, hset, hlock, hlost, hframes, hen0, hen1, htrust⟩ := h
  rw [State.get_loadCalendar_loaded hfault (by simp [hlock, hlost, hframes, hen0, hen1, htrust])]
  simp [State.calLoaded, State.get_putFlag_field, htime, hns, hvalid, hosc, hset]

theorem State.loadCalendar_shows {time : Nat} {w : Bool} : (s.loadCalendar time w).get .CAL_TIME = time / 2 * 2 % 2 ^ 64
    ∧ (s.loadCalendar time w).flag .CAL_STS_VALID = true ∧ (s.loadCalendar time w).flag .CAL_STS_OSC_STOP = false
    ∧ (s.loadCalendar time w).flag .CAL_STS_WARDEN_SET = w := by
  refine ⟨?_, ?_, ?_, ?_⟩
  · rw [State.get_loadCalendar_loaded (by decide) (by decide)]
    simp [State.calLoaded, State.get_putFlag_field]
  · rw [State.flag, State.get_loadCalendar_loaded (by decide) (by decide)]
    simp [State.calLoaded, State.putFlag]
  · rw [State.flag, State.get_loadCalendar_loaded (by decide) (by decide)]
    simp [State.calLoaded, State.putFlag]
  · rw [State.flag, State.get_loadCalendar_loaded (by decide) (by decide)]
    exact State.flag_putFlag_self _ _ _ _ _ rfl

@[simp] theorem State.disarm_faultFrame {k : Nat} : (s.disarm k).faultFrame = s.faultFrame := by simp [State.disarm, apply_ite State.faultFrame]
@[simp] theorem State.checkTrust_faultFrame : s.checkTrust.faultFrame = s.faultFrame := by simp [State.checkTrust, apply_ite State.faultFrame]
@[simp] theorem State.loseSource_faultFrame : s.loseSource.faultFrame = s.faultFrame := by simp [State.loseSource_eq]

theorem State.loadCalendar_faultFrame {time : Nat} {w : Bool} : (s.loadCalendar time w).faultFrame = s.faultFrame := by
  simp [State.loadCalendar_eq, State.disarmPast, State.calUnlocked, State.calLoaded, apply_ite State.faultFrame]

theorem State.nonce_of_faultFrame {t : State} (h : t.faultFrame = s.faultFrame) : t.nonce = s.nonce := (congrArg State.nonce h :)

end Sys2Proof.Machine

/-! The Warden's mailbox (12_content_protection.md, R456 to R463, R469, R470, R473, R475): first checks, the meaning of each opcode, and the
end with its response. -/

namespace Sys2Proof.Machine

variable {s : State} {b : List Byte} {r : Nat} {op : Nat}

/-! ### The response settled (R461) -/

/-- A response other than SIGNATURE is kept, and nothing else happens. -/
theorem State.answerMbx_settled {l : List Nat} {d : List Byte} (h : r ≠ mbSignature) :
    s.answerMbx op r l d = { s with mbxResp := some ⟨op, r, l, d⟩ } := if_neg h

/-! ### A request that is due (R456, R463) -/

section
variable {owner : Bool} {act : State} (hdue : s.mbxDue b = true) (hop : fieldAt b 0 1 = op)
include hdue hop

theorem State.onMbx_refused (h : s.mbxVerdict b op owner = some r) : s.onMbx b op owner act = s.answerMbx op r := by
  rw [State.onMbx, if_neg (by simp [hdue, hop]), h]

theorem State.onMbx_passed (h : s.mbxVerdict b op owner = none) : s.onMbx b op owner act = act := by
  rw [State.onMbx, if_neg (by simp [hdue, hop]), h]

end

theorem State.onMbx_idle {owner : Bool} {act : State} (h : s.get .SEC_MBX_STS_STATE ≠ 1) : s.onMbx b op owner act = s :=
  if_pos (by simp [State.mbxDue, h])

/-! ### GET_CHALLENGE and the Owner role (R458, R459, R462) -/

/-- A nonce of 48 bytes. -/
def State.nextNonce (s : State) : List Byte := (List.range 48).map fun k => s.takeFreeBytes.1.getD k 0

/-- The register fields as a new nonce leaves them. -/
def State.nonceRegs (s : State) : State :=
  s.takeFreeBytes.2.put .X_NONCE_AGE (nonceZero - s.takeFreeBytes.2.get .TK_PHASE_PHASE)

theorem State.newNonce_eq : s.newNonce = { s.nonceRegs with nonce := s.nextNonce, mbxResp := some ⟨2, mbOk, [], s.nextNonce⟩ } := rfl

theorem State.newNonce_shows : s.newNonce.nonce.length = 48 ∧ s.newNonce.mbxResp = some ⟨2, mbOk, [], s.newNonce.nonce⟩
    ∧ s.newNonce.out = s.out ∧ s.newNonce.flag .SEC_STS_OWNER = s.flag .SEC_STS_OWNER := by
  have hregs : s.newNonce.regs = s.nonceRegs.regs := rfl
  refine ⟨?_, rfl, rfl, ?_⟩
  · simp [State.newNonce_eq, State.nextNonce]
  · simp [State.flag, State.get_congr _ _ _ hregs, State.nonceRegs, State.takeFreeBytes]

/-- PF0 holds the Owner role, and the nonce is used. -/
def State.owned (s : State) : State := { s.putFlag .SEC_STS_OWNER true with nonce := [], mbxResp := some ⟨3, mbOk, [], []⟩ }

theorem State.claimOwner_good (hkeyed : s.flag .SEC_STS_KEYED = true) (hfresh : s.nonceFresh = true) : s.claimOwner true = s.owned := by
  rw [State.claimOwner, if_neg (by simp [hkeyed]), if_neg (by simp [hfresh])]
  rfl

theorem State.owned_owner : s.owned.flag .SEC_STS_OWNER = true := s.flag_putFlag_self .SEC_STS_OWNER 0 0 true rfl

/-- PF0 has given the Owner role back. -/
def State.disowned (s : State) : State := { s.putFlag .SEC_STS_OWNER false with mbxResp := some ⟨4, mbOk, [], []⟩ }

theorem State.disowned_owner : s.disowned.flag .SEC_STS_OWNER = false := s.flag_putFlag_self .SEC_STS_OWNER 0 0 false rfl

/-! ### Licences (R462, R469, R470) -/

theorem State.licenceInstall_eq {g : Bool} : s.licenceInstall b g = (match s.installVerdict (fieldAt b 16 4) (b.drop 20) g with
    | none => (s.install (fieldAt b 16 4) (b.drop 20)).answerMbx 5 mbOk
    | some v => s.answerMbx 5 v) := by
  unfold State.licenceInstall
  dsimp only
  cases s.installVerdict (fieldAt b 16 4) (b.drop 20) g <;> dsimp only

theorem State.licenceRemove_licensed (hnode : s.isVolume (fieldAt b 16 4) = true)
    (hlic : (s.licences.any fun l => l.node = fieldAt b 16 4) = true) : s.licenceRemove b
      = if s.armOk (fieldAt b 20 8) then (s.arm (fieldAt b 20 8) (.licenceRemove (fieldAt b 16 4))).answerMbx 6 mbOk
        else s.answerMbx 6 mbTickPast := by
  rw [State.licenceRemove, if_neg (by simp [hnode]), if_neg (by simp [hlic])]
  cases s.armOk (fieldAt b 20 8) <;> rfl

theorem State.licenceStatus_licensed {l : Licence} (hnode : s.isVolume (fieldAt b 16 4) = true)
    (hlic : (s.licences.find? fun l => l.node = fieldAt b 16 4) = some l) : s.licenceStatus b
      = s.answerMbx 7 mbOk [l.index, if l.closed then 1 else 0] (l.blob.take 56 ++ l.blob.drop 128) := by
  rw [State.licenceStatus, if_neg (by simp [hnode]), hlic]

/-! ### TIME_ATTEST (R475) -/

/-- The floor of the time is attested, and its nonce used. -/
def State.attestFloor (s : State) (sec : Nat) : State := ({ s with nonce := [] } : State).setTimeFloor sec

/-- The time is attested: the calendar is loaded and trusted. -/
def State.attested (s : State) (sec : Nat) : State :=
  ((s.attestFloor sec).loadCalendar (sec * 65536) true).putFlag .SEC_STS_TIME_TRUSTED true

/-- The request that attested it is answered. -/
def State.attestAnswered (s : State) (sec : Nat) : State := { s.attested sec with mbxResp := some ⟨8, mbOk, [], []⟩ }

theorem State.attestAnswered_shows {sec : Nat} : (s.attestAnswered sec).flag .SEC_STS_TIME_TRUSTED = true
    ∧ (s.attestAnswered sec).get .SEC_TIME_FLOOR = sec % 2 ^ 48 ∧ (s.attestAnswered sec).nonce = []
    ∧ (s.attestAnswered sec).mbxResp = some ⟨8, mbOk, [], []⟩ := by
  have hregs : (s.attestAnswered sec).regs = (s.attested sec).regs := by simp only [State.attestAnswered]
  have hnonce : (s.attestAnswered sec).nonce = (s.attested sec).nonce := by simp only [State.attestAnswered]
  refine ⟨?_, ?_, ?_, rfl⟩
  · rw [State.flag, State.get_congr _ _ _ hregs]
    exact State.flag_putFlag_self _ _ _ _ _ rfl
  · rw [State.get_congr _ _ _ hregs, State.attested, State.get_putFlag_field _ _ _ _ _ _ _ _ (by decide),
      State.get_loadCalendar (by decide) (by decide)]
    have hwidth : sec % 2 ^ 48 < 2 ^ 64 := by omega
    simpa [State.attestFloor, State.setTimeFloor] using hwidth
  · rw [hnonce, State.attested, State.putFlag_nonce, State.nonce_of_faultFrame State.loadCalendar_faultFrame]
    simp [State.attestFloor, State.setTimeFloor]

theorem State.timeAttest_unknown (hkey : authorityKnown (fieldAt b 72 1) = false) {g : Bool} : s.timeAttest b g = s.answerMbx 8 mbSignature := by
  rw [State.timeAttest, if_pos (by simp [hkey])]

theorem State.timeAttest_good (hkey : authorityKnown (fieldAt b 72 1) = true) (hnonce : s.nonceOk b = true)
    (hfloor : s.get .SEC_TIME_FLOOR ≤ fieldAt b 16 8) : s.timeAttest b true = s.attestAnswered (fieldAt b 16 8) := by
  have hlow : ¬ fieldAt b 16 8 < ({ s with nonce := [] } : State).get .SEC_TIME_FLOOR := Nat.not_lt.2 hfloor
  rw [State.timeAttest, if_neg (by simp [hkey]), if_neg (by simp [hnonce])]
  exact (if_neg hlow).trans (State.answerMbx_settled (by decide))

/-! ### MONO_ADVANCE (R473) -/

theorem State.monoAdvance_unsigned : s.monoAdvance b false = s.answerMbx 9 mbSignature := by
  rw [State.monoAdvance, if_pos (by simp)]

theorem State.monoAdvance_unknown (hkey : authorityKnown (fieldAt b 72 1) = false) {g : Bool} : s.monoAdvance b g = s.answerMbx 9 mbSignature := by
  rw [State.monoAdvance, if_pos (by simp [hkey])]

/-- The counter is advanced, and its nonce used. -/
def State.advanced (s : State) (v : Nat) : State := { s.setMono v with nonce := [], mbxResp := some ⟨9, mbOk, [], []⟩ }

theorem State.monoAdvance_good (hkey : authorityKnown (fieldAt b 72 1) = true) (hnonce : s.nonceOk b = true)
    (hlow : s.get .SEC_MONO < fieldAt b 16 8) (hhigh : fieldAt b 16 8 < 2 ^ 64 - 1) :
    s.monoAdvance b true = s.advanced (fieldAt b 16 8) := by
  have hrange : ¬(fieldAt b 16 8 ≤ ({ s with nonce := [] } : State).get .SEC_MONO ∨ fieldAt b 16 8 = 0xFFFFFFFFFFFFFFFF) := by
    rintro (hle | hmax)
    · exact absurd hlow (Nat.not_lt.2 hle)
    · omega
  rw [State.monoAdvance, if_neg (by simp [hkey]), if_neg (by simp [hnonce])]
  exact if_neg hrange

theorem State.advanced_mono {v : Nat} (h : v < 2 ^ 64) : (s.advanced v).get .SEC_MONO = v := by
  have hregs : (s.advanced v).regs = (s.setMono v).regs := rfl
  rw [State.get_congr _ _ _ hregs]
  simpa [State.setMono] using h

/-! ### The end of a command (R461, R462) -/

/-- The length of a response's payload, free where its layout is (log entry 31). -/
def State.replyLen (s : State) (r : MbxResp) : Nat × State := if r.fields.isEmpty then (r.data.length, s) else s.takeFree

/-- The header of a response. -/
def State.replyHeader (s : State) (r : MbxResp) : List Byte := mbxHeader r.op r.result ((s.replyLen r).1 % 4081)

/-- The response goes out. -/
def State.replied (s : State) (r : MbxResp) : State :=
  (s.replyLen r).2.sendFn 0 laneMailbox true ((s.replyLen r).2.get .SEC_MBX_RSP) 64
    (.mbxReply ((s.replyLen r).2.get .SEC_MBX_RSP) (s.replyHeader r) r.fields r.data)

/-- The registers of a mailbox that is done. -/
def State.mbxOver (s : State) (r : Nat) : State :=
  ((((s.put .SEC_MBX_STS_STATE 2).put .SEC_MBX_STS_RESULT r).putFlag .SEC_MBX_CMD_GO false).bump .SEC_CNT_MBX).putFlag .X_MBX_MUTE false

theorem State.replyLen_cases {r : MbxResp} : (s.replyLen r).2 = s ∨ (s.replyLen r).2 = s.put .X_FREE (s.get .X_FREE + 1) := by
  unfold State.replyLen
  split
  · exact .inl rfl
  · exact .inr rfl

theorem State.get_replyLen {r : MbxResp} {f : Field} (h : f ≠ .X_FREE) {i a : Nat} : (s.replyLen r).2.get f i a = s.get f i a := by
  rcases State.replyLen_cases (s := s) (r := r) with e | e <;> rw [e]
  exact State.get_put_field _ _ _ _ _ _ _ _ h

theorem State.get_mbxOver {f : Field} {i a : Nat}
    (h : f ∉ [.SEC_MBX_STS_STATE, .SEC_MBX_STS_RESULT, .SEC_MBX_CMD_GO, .SEC_CNT_MBX, .X_MBX_MUTE]) : (s.mbxOver r).get f i a = s.get f i a := by
  simp only [List.mem_cons, List.not_mem_nil, or_false, not_or] at h
  obtain ⟨hst, hres, hgo, hcnt, hmute⟩ := h
  simp [State.mbxOver, State.putFlag, hst, hres, hgo, hcnt, hmute]

theorem State.mbxOver_shows (h : r < 256) : (s.mbxOver r).get .SEC_MBX_STS_STATE = 2 ∧ (s.mbxOver r).get .SEC_MBX_STS_RESULT = r
    ∧ (s.mbxOver r).flag .SEC_MBX_CMD_GO = false := by
  refine ⟨?_, ?_, ?_⟩
  · simp [State.mbxOver, State.putFlag]
  · simpa [State.mbxOver, State.putFlag] using h
  · simp [State.mbxOver, State.flag, State.putFlag]

theorem State.get_replied {r : MbxResp} {f : Field} {i a : Nat} (h : f ≠ .X_FREE) (h' : f ≠ .X_ATS_SEQ) :
    (s.replied r).get f i a = s.get f i a := (State.get_sendFn h').trans (State.get_replyLen h)

/-- The response goes out, unless PF0 was disabled meanwhile or a transfer of the request failed. -/
def State.mbxAnswered (s : State) (r : MbxResp) : State := if s.flag .X_MBX_MUTE || r.result = mbDma then s else s.replied r

/-- The mailbox is free again. -/
def State.mbxFreed (s : State) (r : MbxResp) : State := { (s.mbxAnswered r).mbxOver r.result with mbxResp := none }

theorem State.endMbx_eq {r : MbxResp} : s.endMbx r = if (s.mbxFreed r).flag .SEC_MBX_CMD_IRQ_EN && !s.flag .X_MBX_MUTE then
    (s.mbxFreed r).sendMsix 0 ((s.mbxFreed r).get .SEC_MBX_CMD_VECTOR) else s.mbxFreed r := rfl

theorem State.get_mbxFreed {r : MbxResp} {f : Field} {i a : Nat} : (s.mbxFreed r).get f i a = ((s.mbxAnswered r).mbxOver r.result).get f i a := rfl

/-- Without a vector asked for, the end is the response sent, and the mailbox done. -/
theorem State.endMbx_quiet {r : MbxResp} (hmute : s.flag .X_MBX_MUTE = false) (hirq : s.flag .SEC_MBX_CMD_IRQ_EN = false)
    (hdma : r.result ≠ mbDma) : s.mbxAnswered r = s.replied r ∧ s.endMbx r = s.mbxFreed r := by
  have hsent : s.mbxAnswered r = s.replied r := if_neg (by simp [hmute, hdma])
  have hoff : (s.mbxFreed r).flag .SEC_MBX_CMD_IRQ_EN = false := by
    rw [State.flag, State.get_mbxFreed, State.get_mbxOver (by decide), hsent, State.get_replied (by decide) (by decide)]
    exact hirq
  exact ⟨hsent, State.endMbx_eq.trans (if_neg (by simp [hoff]))⟩

/-- A strict request with nothing before it goes out. -/
theorem State.sendFn_strict {q k len : Nat} {o : Out} (hholds : s.holds = []) (hmiss : s.xlatMiss 0 (some k) len = false) :
    (s.sendFn 0 q true k len o).out = s.out ++ [.tlp 0 (some k) true false false (s.xlatHit 0 (some k) len), o] := by
  have htouch : (s.touchAts 0 (some k) len).out = s.out := by
    rw [State.touchAts, apply_ite State.out]
    exact ite_self _
  have hask : s.askXlat 0 (some k) len = s := by
    rw [State.askXlat, if_neg (by simp [hmiss])]
  rw [State.sendFn, State.send, hask, hmiss, if_neg (by simp [State.holdTurn, hholds]), State.sendTlp]
  simp [htouch]

theorem State.xlatHit_put {g : Field} {v k len fn : Nat} (h : g ∉ [.X_FN_ATS, .HE_FNATTR_ATS_QUOTA]) :
    (s.put g v).xlatHit fn (some k) len = s.xlatHit fn (some k) len := by
  simp only [List.mem_cons, List.not_mem_nil, or_false, not_or] at h
  obtain ⟨hats, hquota⟩ := h
  simp [State.xlatHit, State.atsOn, State.flag, Ne.symm hats, Ne.symm hquota]

theorem State.xlatMiss_put {g : Field} {v k len fn : Nat} (h : g ∉ [.X_FN_ATS, .HE_FNATTR_ATS_QUOTA]) :
    (s.put g v).xlatMiss fn (some k) len = s.xlatMiss fn (some k) len := by
  have hhit := State.xlatHit_put (s := s) (v := v) (k := k) (len := len) (fn := fn) h
  simp only [List.mem_cons, List.not_mem_nil, or_false, not_or] at h
  obtain ⟨hats, hquota⟩ := h
  simp [State.xlatMiss, hhit, State.atsOn, State.flag, Ne.symm hats, Ne.symm hquota]

theorem State.replied_out {r : MbxResp} (hholds : s.holds = []) (hmiss : s.xlatMiss 0 (some (s.get .SEC_MBX_RSP)) 64 = false) :
    (s.replied r).out = s.out ++ [.tlp 0 (some (s.get .SEC_MBX_RSP)) true false false (s.xlatHit 0 (some (s.get .SEC_MBX_RSP)) 64),
      .mbxReply (s.get .SEC_MBX_RSP) (s.replyHeader r) r.fields r.data] := by
  rw [State.replied, State.get_replyLen (by decide)]
  rcases State.replyLen_cases (s := s) (r := r) with e | e <;> rw [e]
  · exact State.sendFn_strict hholds hmiss
  · refine (State.sendFn_strict (s := s.put .X_FREE _) hholds ?_).trans ?_
    · rw [State.xlatMiss_put (by decide), hmiss]
    · rw [State.xlatHit_put (by decide), State.put_out]

/-! ### The commands -/

theorem exec_mailboxCommandDone_idle {ok : Bool} (h : s.get .SEC_MBX_STS_STATE ≠ 1) : exec (.mailboxCommandDone b ok) s = .next s := by
  rw [exec_mailboxCommandDone, execMailboxCommandDone, if_pos (.inl h)]

theorem exec_mailboxCommandDone_answered {r : MbxResp} (hst : s.get .SEC_MBX_STS_STATE = 1) (hwarden : s.wardenUp = true)
    (hfetch : s.fetchHeld = false) (hr : s.mbxResp = some r) : exec (.mailboxCommandDone b true) s = .next (s.endMbx r) := by
  rw [exec_mailboxCommandDone, execMailboxCommandDone, if_neg (by simp [hst, hwarden, hfetch]), hr]
  rfl

/-- The end of a command whose response can go out at once. -/
theorem exec_mailboxCommandDone_shows {r : MbxResp} (hst : s.get .SEC_MBX_STS_STATE = 1) (hwarden : s.wardenUp = true)
    (hfetch : s.fetchHeld = false) (hholds : s.holds = []) (hmiss : s.xlatMiss 0 (some (s.get .SEC_MBX_RSP)) 64 = false)
    (hr : s.mbxResp = some r) (hmute : s.flag .X_MBX_MUTE = false) (hirq : s.flag .SEC_MBX_CMD_IRQ_EN = false) (hdma : r.result ≠ mbDma)
    (hres : r.result < 256) : exec (.mailboxCommandDone b true) s = .next (s.mbxFreed r) ∧ (s.mbxFreed r).get .SEC_MBX_STS_STATE = 2
      ∧ (s.mbxFreed r).get .SEC_MBX_STS_RESULT = r.result ∧ (s.mbxFreed r).flag .SEC_MBX_CMD_GO = false
      ∧ (s.mbxFreed r).out = s.out ++ [.tlp 0 (some (s.get .SEC_MBX_RSP)) true false false (s.xlatHit 0 (some (s.get .SEC_MBX_RSP)) 64),
        .mbxReply (s.get .SEC_MBX_RSP) (s.replyHeader r) r.fields r.data]
      ∧ (s.mbxFreed r).flag .SEC_STS_OWNER = s.flag .SEC_STS_OWNER := by
  obtain ⟨hsent, hend⟩ := State.endMbx_quiet hmute hirq hdma
  obtain ⟨hdone, hresult, hgo⟩ := (s.mbxAnswered r).mbxOver_shows hres
  refine ⟨(exec_mailboxCommandDone_answered hst hwarden hfetch hr).trans (congrArg _ hend), hdone, hresult, hgo, ?_, ?_⟩
  · have hout : (s.mbxFreed r).out = (s.mbxAnswered r).out := rfl
    rw [hout, hsent, State.replied_out hholds hmiss]
  · rw [State.flag, State.get_mbxFreed, State.get_mbxOver (by decide), hsent, State.get_replied (by decide) (by decide), State.flag]

/-! ### The settlement -/

/-- Settles O53: each command by its laws above. That CLAIM_OWNER fails under OPEN, the layouts of GET_INFO and LICENCE_STATUS (log entry 31) and
the number of authority keys (log entry 16) are choices of the model. -/
theorem mailboxCommandsAreAnswered : Obligations.MailboxCommandsAreAnswered := by
  unfold Obligations.MailboxCommandsAreAnswered
  refine ⟨fun s b r hdue => ⟨fun hop h => congrArg _ (State.onMbx_refused hdue hop h), fun hop h => congrArg _ (State.onMbx_refused hdue hop h),
      fun hop h => congrArg _ (State.onMbx_refused hdue hop h), fun hop h g => congrArg _ (State.onMbx_refused hdue hop h)⟩,
    fun s b hdue => ⟨?info, ?challenge, ?claim, ?unkeyed, ?release, ?install, ?remove, ?status, ?attest, ?advance, ?unsigned⟩, ?done,
    fun s b ok h => ⟨exec_mailboxCommandDone_idle h, congrArg _ (State.onMbx_idle h)⟩⟩
  case info => exact fun hop h => congrArg _ (State.onMbx_passed hdue hop h)
  case challenge =>
    intro hop h
    obtain ⟨hlen, hresp, hout, howner⟩ := s.newNonce_shows
    exact ⟨s.newNonce, congrArg _ (State.onMbx_passed hdue hop h), hlen, hresp, hout, howner⟩
  case claim =>
    intro hop h hkeyed hfresh
    exact ⟨s.owned, congrArg _ ((State.onMbx_passed hdue hop h).trans (State.claimOwner_good hkeyed hfresh)), State.owned_owner, rfl, rfl, rfl,
      rfl⟩
  case unkeyed =>
    intro hop h hopen g k
    exact congrArg _ ((State.onMbx_passed hdue hop h).trans (if_pos (by simp [hopen])))
  case release =>
    intro hop h
    exact ⟨s.disowned, congrArg _ (State.onMbx_passed hdue hop h), State.disowned_owner, rfl, rfl, rfl⟩
  case install =>
    intro g hop h
    exact congrArg _ ((State.onMbx_passed hdue hop h).trans State.licenceInstall_eq)
  case remove =>
    intro hop h hnode hlic
    exact congrArg _ ((State.onMbx_passed hdue hop h).trans (State.licenceRemove_licensed hnode hlic))
  case status =>
    intro l hop h hnode hlic
    exact congrArg _ ((State.onMbx_passed hdue hop h).trans (State.licenceStatus_licensed hnode hlic))
  case attest =>
    intro hop h hnonce hfloor
    have hexec : exec (.timeAttest b true true) s = .next (s.timeAttest b true) := congrArg _ (State.onMbx_passed hdue hop h)
    cases hkey : authorityKnown (fieldAt b 72 1)
    · exact ⟨_, hexec, (if_pos rfl).mpr (State.timeAttest_unknown hkey)⟩
    · obtain ⟨htrust, hsec, hused, hresp⟩ := s.attestAnswered_shows (sec := fieldAt b 16 8)
      rw [State.timeAttest_good hkey hnonce hfloor] at hexec
      exact ⟨_, hexec, (if_neg nofun).mpr ⟨htrust, hsec, hused, hresp⟩⟩
  case advance =>
    intro hop h hnonce hlow hhigh
    have hexec : exec (.monoAdvance b true true) s = .next (s.monoAdvance b true) := congrArg _ (State.onMbx_passed hdue hop h)
    cases hkey : authorityKnown (fieldAt b 72 1)
    · exact ⟨_, hexec, (if_pos rfl).mpr (State.monoAdvance_unknown hkey)⟩
    · rw [State.monoAdvance_good hkey hnonce hlow hhigh] at hexec
      exact ⟨_, hexec, (if_neg nofun).mpr ⟨State.advanced_mono (by omega), rfl, rfl, rfl⟩⟩
  case unsigned =>
    intro hop h g
    refine ⟨congrArg _ ((State.onMbx_passed hdue hop h).trans ?_), congrArg _ ((State.onMbx_passed hdue hop h).trans ?_)⟩
    · rw [Bool.false_and, State.monoAdvance_unsigned]
    · rw [Bool.and_false, State.monoAdvance_unsigned]
  case done =>
    intro s b r hst hwarden hfetch hholds hmiss hr hmute hirq hdma hres
    obtain ⟨hexec, hdone, hresult, hgo, hout, howner⟩ :=
      exec_mailboxCommandDone_shows (b := b) hst hwarden hfetch hholds hmiss hr hmute hirq hdma hres
    refine ⟨s.mbxFreed r, s.replyHeader r, hexec, hdone, hresult, hgo, rfl, fun hfields => ?_, hout, howner⟩
    simp [State.replyHeader, State.replyLen, hfields]

end Sys2Proof.Machine

/-! What the hold-up store and the housekeeping rounds rely on across the end of commands, media stop and the journal (14_holdup_energy.md;
15, R544): each of those operations writes other fields. -/

namespace Sys2Proof.Machine

variable {s t : State}

/-- The fields of the store and of the rounds that only their own operations write. -/
def heldFields : List Field :=
  [.X_PFAIL, .X_FLUSH, .HU_CNT_HOLDUP, .HK_STS_SHUT_SEEN, .HU_STS_STATE, .HU_STS_FAULT, .HU_CNT_TESTS, .HU_MEAS0_V_BANK,
    .HU_MEAS1_C_MEAS, .HU_MEAS1_ESR, .HU_MEAS2_V_TARGET, .HU_E_CEIL_CEIL, .HK_ROUND, .HK_VAL_VALUE, .HK_VAL_VALID, .HK_VAL_AGE, .HK_RD_CFG_EN]

/-- Those fields, as stored registers give them. -/
def heldRegs (regs : List (RKey × Nat)) : List (Nat → Nat → Nat) := heldFields.map fun f i a => Sparse.get RKey.reset regs ⟨f, i, a⟩

/-- Those fields, as a state shows them. -/
def State.storeView (s : State) : List (Nat → Nat → Nat) := heldRegs s.regs

theorem State.storeView_iff : t.storeView = s.storeView ↔ ∀ f ∈ heldFields, ∀ i a, t.get f i a = s.get f i a := by
  rw [State.storeView, State.storeView, heldRegs, heldRegs, List.map_inj_left]
  exact forall₂_congr fun f _ => ⟨congrFun₂, funext₂⟩

theorem State.get_of_storeView (h : t.storeView = s.storeView) {f : Field} (hf : f ∈ heldFields) (i a : Nat) : t.get f i a = s.get f i a :=
  State.storeView_iff.1 h f hf i a

/-- What leaves every field but those of a fault alone leaves these alone. -/
theorem State.storeView_of_calm (h : t.calm = s.calm) : t.storeView = s.storeView :=
  State.storeView_iff.2 fun f hf => State.get_of_calm h ((by decide : ∀ f ∈ heldFields, f ∉ faultFields) f hf)

@[simp] theorem heldRegs_regs : heldRegs s.regs = s.storeView := rfl
@[simp] theorem State.mk_storeView
    {x0 r x2 x3 x4 x5 x6 x7 x8 x9 x10 x11 x12 x13 x14 x15 x16 x17 x18 x19 x20 x21 x22 x23 x24 x25 x26 x27 x28 x29 x30 x31 x32 x33
    x34 x35 x36 x37 x38 x39 x40 x41 x42 x43 x44 x45 x46 x47 x48 x49 x50 x51 x52 x53 x54} :
    (State.mk x0 r x2 x3 x4 x5 x6 x7 x8 x9 x10 x11 x12 x13 x14 x15 x16 x17 x18 x19 x20 x21 x22 x23 x24 x25 x26 x27 x28 x29 x30 x31 x32 x33
      x34 x35 x36 x37 x38 x39 x40 x41 x42 x43 x44 x45 x46 x47 x48 x49 x50 x51 x52 x53 x54).storeView = heldRegs r := rfl

@[simp] theorem State.put_storeView {f : Field} {v i a : Nat} (h : f ∉ heldFields) : (s.put f v i a).storeView = s.storeView :=
  State.storeView_iff.2 fun g hg j b => State.get_put_field s f g v i j a b fun e => h (e ▸ hg)
@[simp] theorem State.putFlag_storeView {f : Field} {b : Bool} {i a : Nat} (h : f ∉ heldFields) : (s.putFlag f b i a).storeView = s.storeView :=
  State.put_storeView h
@[simp] theorem State.add_storeView {f : Field} {n i : Nat} (h : f ∉ heldFields) : (s.add f n i).storeView = s.storeView := State.put_storeView h
@[simp] theorem State.bump_storeView {f : Field} {i : Nat} (h : f ∉ heldFields) : (s.bump f i).storeView = s.storeView := State.put_storeView h
@[simp] theorem State.emit_storeView {o : Out} : (s.emit o).storeView = s.storeView := rfl

theorem forEach_storeView {α : Type} {l : List α} {k : α → State → State} (h : ∀ c u, (k c u).storeView = u.storeView) :
    (forEach l s k).storeView = s.storeView := forEach_same State.storeView h

/-! Operations that write no more than a fault can. -/

@[simp] theorem State.sample_storeView {h v} : (s.sample h v).storeView = s.storeView := State.storeView_of_calm State.sample_calm
@[simp] theorem State.disablePoint_fn_storeView {f kind} : (s.disablePoint (.fn f) kind).storeView = s.storeView :=
  State.storeView_of_calm State.disablePoint_fn_calm
@[simp] theorem State.sampleLatency_storeView {c} : (s.sampleLatency c).storeView = s.storeView := State.storeView_of_calm State.sampleLatency_calm
@[simp] theorem State.sampleBoth_storeView {h x v} : (s.sampleBoth h x v).storeView = s.storeView := State.storeView_of_calm State.sampleBoth_calm
@[simp] theorem State.send_storeView {h strict} : (s.send h strict).storeView = s.storeView := State.storeView_of_calm State.send_calm
@[simp] theorem State.endCmd_storeView {id} : (s.endCmd id).storeView = s.storeView := State.storeView_of_calm State.endCmd_calm
@[simp] theorem State.sendMsix_storeView {fn vector} : (s.sendMsix fn vector).storeView = s.storeView := State.storeView_of_calm State.sendMsix_calm
@[simp] theorem State.postCqe_storeView {c r} : (s.postCqe c r).storeView = s.storeView := State.storeView_of_calm State.postCqe_calm
@[simp] theorem State.asyncEvent_storeView {fn type info lid} : (s.asyncEvent fn type info lid).storeView = s.storeView :=
  State.storeView_of_calm State.asyncEvent_calm
@[simp] theorem State.wake_storeView {unit reason} : (s.wake unit reason).storeView = s.storeView := State.storeView_of_calm State.wake_calm
@[simp] theorem State.raise_storeView {src unit value} : (s.raise src unit value).storeView = s.storeView := State.storeView_of_calm State.raise_calm
@[simp] theorem State.clearLevel_storeView {src} : (s.clearLevel src).storeView = s.storeView := State.storeView_of_calm State.clearLevel_calm
@[simp] theorem State.sampleExt_storeView {x v} : (s.sampleExt x v).storeView = s.storeView := by
  simp (disch := decide) [State.sampleExt, apply_ite State.storeView]
@[simp] theorem State.sendFor_storeView {c strict addr len data o} : (s.sendFor c strict addr len data o).storeView = s.storeView := by
  simp [State.sendFor]

/-! The end of commands: replies, completion entries and what a drained function held back. -/

@[simp] theorem State.setCmd_storeView {c} : (s.setCmd c).storeView = s.storeView := by
  simp [State.setCmd]

@[simp] theorem State.drainFn_storeView {fn} : (s.drainFn fn).storeView = s.storeView := by
  refine forEach_storeView fun c u => ?_
  split
  · split <;> simp
  · rfl

@[simp] theorem State.shedHosts_storeView : s.shedHosts.storeView = s.storeView :=
  (forEach_storeView fun _ _ => State.disablePoint_fn_storeView).trans (State.putFlag_storeView (by decide))

@[simp] theorem State.refusePower_storeView : s.refusePower.storeView = s.storeView := by
  refine forEach_storeView fun w u => ?_
  simp (disch := decide) [State.disarmUnit, State.setReq, State.refuseAt]

@[simp] theorem State.namePin_storeView {c r} : (s.namePin c r).2.storeView = s.storeView := by
  unfold State.namePin
  split <;> rfl

@[simp] theorem State.putOutstanding_storeView {q n} : (s.putOutstanding q n).storeView = s.storeView := by
  simp (disch := decide) [State.putOutstanding]

@[simp] theorem State.writeReply_storeView {c r} : (s.writeReply c r).storeView = s.storeView := by
  simp (disch := decide) [State.writeReply, apply_ite State.storeView]

@[simp] theorem State.drainStrict_storeView {q n} : (s.drainStrict q n).storeView = s.storeView := by
  induction n generalizing s with
  | zero => rfl
  | succ n ih =>
    unfold State.drainStrict
    split
    · split
      · split
        · rw [ih]; simp (disch := decide)
        · rfl
      · rfl
    · rfl

@[simp] theorem State.finish_storeView {c r} : (s.finish c r).storeView = s.storeView := by
  simp (disch := decide) [State.finish, apply_ite State.storeView]

@[simp] theorem State.answerPm_storeView : s.answerPm.storeView = s.storeView := forEach_storeView fun _ _ => State.finish_storeView

/-! The end of media calls, and suspends. -/

@[simp] theorem State.descPut_storeView {k l} : (s.descPut k l).storeView = s.storeView := by
  induction l generalizing s k with
  | nil => rfl
  | cons b l ih => unfold State.descPut; rw [ih]; simp (disch := decide)

@[simp] theorem State.takeFree_storeView : s.takeFree.2.storeView = s.storeView := State.put_storeView (by decide)

@[simp] theorem State.setPlan_storeView {p} : (s.setPlan p).storeView = s.storeView := by
  simp (disch := decide) [State.setPlan]

@[simp] theorem State.countCall_storeView {c ran status} : (s.countCall c ran status).storeView = s.storeView := by
  simp (disch := decide) [State.countCall, apply_ite State.storeView]

@[simp] theorem State.takeBack_storeView {d e} : (s.takeBack d e).storeView = s.storeView := by
  simp (disch := decide) [State.takeBack]

@[simp] theorem State.endCall_storeView {c ran status detail result} : (s.endCall c ran status detail result).storeView = s.storeView := by
  unfold State.endCall
  extract_lets u1 u2 u3 u4
  have h4 : u4.storeView = s.storeView := by
    simp (disch := decide) [u4, u3, u2, u1, apply_ite State.storeView]
  split
  · simp (disch := decide) [apply_ite State.storeView, h4]
  · exact h4

@[simp] theorem State.failCall_storeView {c ran status} : (s.failCall c ran status).storeView = s.storeView := by
  simp (disch := decide) [State.failCall, apply_ite State.storeView]

@[simp] theorem State.completeCall_storeView {c status detail result} : (s.completeCall c status detail result).storeView = s.storeView := by
  simp (disch := decide) [State.completeCall]

@[simp] theorem State.endSuspends_storeView {d detail} : (s.endSuspends d detail).storeView = s.storeView := by
  refine forEach_storeView fun c u => ?_
  simp (disch := decide)

@[simp] theorem State.suspendDie_storeView {d counted} : (s.suspendDie d counted).storeView = s.storeView := by
  simp (disch := decide) [State.suspendDie, apply_ite State.storeView]

/-! Pages and lines of the map, the journal, and an entry of the map that changes. -/

@[simp] theorem State.evictPage_storeView : s.evictPage.storeView = s.storeView := by
  unfold State.evictPage
  split
  · rfl
  · dsimp only
    split <;> rfl

@[simp] theorem State.loadPage_storeView {node p} : (s.loadPage node p).storeView = s.storeView := by
  unfold State.loadPage
  dsimp only
  split <;> simp (disch := decide)

@[simp] theorem State.pagePut_storeView {node g w} : (s.pagePut node g w).storeView = s.storeView := by
  simp (disch := decide) [State.pagePut]

@[simp] theorem State.setLine_storeView {x} : (s.setLine x).storeView = s.storeView := by
  simp (disch := decide) [State.setLine]

@[simp] theorem State.countMiss_storeView {node p n} : (s.countMiss node p n).storeView = s.storeView := by
  unfold State.countMiss
  split <;> simp (disch := decide)

@[simp] theorem State.dropCodes_storeView {vol u n} : (s.dropCodes vol u n).storeView = s.storeView := by
  refine forEach_storeView fun c u => ?_
  simp (disch := decide)

@[simp] theorem State.updateJnl_storeView : s.updateJnl.storeView = s.storeView := by
  simp (disch := decide) [State.updateJnl, apply_ite State.storeView]

@[simp] theorem State.programJnl_storeView : s.programJnl.storeView = s.storeView := by
  unfold State.programJnl
  extract_lets
  split <;> simp (disch := decide)

@[simp] theorem State.journal_storeView {type node a b} : (s.journal type node a b).storeView = s.storeView := by
  simp (disch := decide) [State.journal, apply_ite State.storeView]

@[simp] theorem State.serve_storeView {node l} : (s.serve node l).storeView = s.storeView := by
  simp (disch := decide) [State.serve, apply_ite State.storeView]

@[simp] theorem State.landLine_storeView {x} : (s.landLine x).storeView = s.storeView := by
  simp (disch := decide) [State.landLine, apply_ite State.storeView]

@[simp] theorem State.landFilling_storeView {node l} : (s.landFilling node l).storeView = s.storeView := by
  unfold State.landFilling
  split
  · simp (disch := decide) [apply_ite State.storeView]
  · rfl

@[simp] theorem State.mapPut_storeView {node g w} : (s.mapPut node g w).storeView = s.storeView := by
  unfold State.mapPut
  extract_lets old u1 u2
  have h2 : u2.storeView = s.storeView := by
    unfold u2
    split <;> simp (disch := decide) [u1, apply_ite State.storeView]
  simp (disch := decide) [apply_ite State.storeView, h2]

/-! Bands, and granules put into the write buffer. -/

@[simp] theorem State.setBand_storeView {b} : (s.setBand b).storeView = s.storeView := by
  simp (disch := decide) [State.setBand]

@[simp] theorem State.updateGc_storeView : s.updateGc.storeView = s.storeView := by
  simp (disch := decide) [State.updateGc, apply_ite State.storeView]

@[simp] theorem State.dirtySub_storeView {n} : (s.dirtySub n).storeView = s.storeView := by
  simp (disch := decide) [State.dirtySub]

@[simp] theorem State.releaseAlloc_storeView {c} : (s.releaseAlloc c).storeView = s.storeView := by
  simp (disch := decide) [State.releaseAlloc]

@[simp] theorem State.restRecovs_storeView : s.restRecovs.storeView = s.storeView := by
  simp (disch := decide) [State.restRecovs]

@[simp] theorem State.allocIn_storeView {b len wseq} : (s.allocIn b len wseq).2.storeView = s.storeView := by
  simp (disch := decide) [State.allocIn]

@[simp] theorem State.addBand_storeView {kind mode rot blocks} : (s.addBand kind mode rot blocks).storeView = s.storeView := by
  unfold State.addBand
  extract_lets degraded id wseq b u1 u2 mw u3 u4 u5
  have h2 : u2.storeView = s.storeView := by simp (disch := decide) [u2, u1]
  have h3 : u3.storeView = s.storeView := (forEach_storeView fun q u => State.journal_storeView).trans h2
  have h4 : u4.storeView = s.storeView := (forEach_storeView fun m u => State.put_storeView (by decide)).trans h3
  have h5 : u5.storeView = s.storeView := h4
  rw [State.updateGc_storeView]
  split
  · rw [State.bump_storeView (by decide), h5]
  · exact h5

theorem State.storeHost_storeView {kind node g packed units fn key waits entries}
    (h : s.storeHost kind node g packed units fn key waits entries = some t) : t.storeView = s.storeView := by
  unfold State.storeHost at h
  split at h
  · cases h
  · cases h
    rw [forEach_storeView fun e u => State.mapPut_storeView]
    simp (disch := decide)

@[simp] theorem State.storeUnits_storeView {id g units} : (s.storeUnits id g units).storeView = s.storeView := by
  unfold State.storeUnits
  split
  · rfl
  · dsimp only
    split
    · rfl
    next u hu => rw [State.setCmd_storeView, State.storeHost_storeView hu]

@[simp] theorem State.commitWhere_storeView {id sel} : (s.commitWhere id sel).storeView = s.storeView := by
  unfold State.commitWhere
  split
  · rfl
  · refine forEach_storeView fun p u => ?_
    split
    · rfl
    split
    · split <;> simp (disch := decide)
    · rfl

@[simp] theorem State.commitReceived_storeView {id} : (s.commitReceived id).storeView = s.storeView := State.commitWhere_storeView

theorem State.openFlushBand_storeView {kind} (h : s.openFlushBand kind = some t) : t.storeView = s.storeView := by
  unfold State.openFlushBand at h
  split at h
  · rw [← Option.some.inj h, State.addBand_storeView]
  · rw [← Option.some.inj h, State.addBand_storeView]
  · cases h

@[simp] theorem State.getD_openFlushBand_storeView {kind} : ((s.openFlushBand kind).getD s).storeView = s.storeView := by
  cases h : s.openFlushBand kind with
  | none => rfl
  | some t => exact State.openFlushBand_storeView h

/-! The end of every command and of the media work as Hold-up is entered; writes that wait, and the allowance. -/

@[simp] theorem State.dropAllCommands_storeView : s.dropAllCommands.storeView = s.storeView := by
  unfold State.dropAllCommands
  extract_lets u v
  have hv : v.storeView = s.storeView := by
    unfold v
    rw [forEach_storeView fun id x => ?_]
    · simp (disch := decide) [u]
    extract_lets x1 x2 x3
    have h1 : x1.storeView = x.storeView := by unfold x1; split <;> simp (disch := decide)
    have h3 : x3.storeView = x.storeView := by simp (disch := decide) [x3, x2, apply_ite State.storeView, h1]
    split
    · rw [State.releaseAlloc_storeView, h3]
    · exact h3
  exact hv

theorem State.stopMedia_storeView : s.stopMedia.storeView = s.storeView := by
  unfold State.stopMedia
  extract_lets v
  have hv : v.storeView = s.storeView := by
    refine forEach_storeView fun d u => ?_
    extract_lets op x
    have hx : x.storeView = u.storeView := by
      have hcalls : ∀ l : List Call, (forEach l u fun c y => y.failCall c true stDieAbsent).storeView = u.storeView :=
        fun l => forEach_storeView fun c y => State.failCall_storeView
      simp (disch := decide) [x, apply_ite State.storeView, hcalls]
    simp (disch := decide) [apply_ite State.storeView, hx]
  exact (State.restRecovs_storeView (s := v)).trans hv

@[simp] theorem State.ackProgrammed_storeView {id} : (s.ackProgrammed id).storeView = s.storeView := by
  unfold State.ackProgrammed
  split_ifs
  · rfl
  · rfl
  split
  · rfl
  split
  · simp [apply_ite State.storeView]
  · rfl

@[simp] theorem State.ackAll_storeView : s.ackAll.storeView = s.storeView := forEach_storeView fun _ _ => State.ackProgrammed_storeView

@[simp] theorem State.giveWork_storeView {d e} : (s.giveWork d e).storeView = s.storeView := by
  simp [State.giveWork, apply_ite State.storeView]

@[simp] theorem State.planExcess_storeView : s.planExcess.storeView = s.storeView := by
  refine forEach_storeView fun w u => ?_
  simp [State.planOwn, apply_ite State.storeView]

@[simp] theorem State.updateAllow_storeView : s.updateAllow.storeView = s.storeView := by
  simp (disch := decide) [State.updateAllow, apply_ite State.storeView]

end Sys2Proof.Machine

/-! Hold-up is entered, and what the store's own operations leave (14_holdup_energy.md, R517 to R524, R535 to R538; 13, R507). -/

namespace Sys2Proof.Machine

variable {s t : State}

/-! ### The entry of Hold-up -/

/-- Taking away entries of other fields. -/
theorem State.filter_storeView {p : RKey × Nat → Bool} (h : ∀ x : RKey × Nat, x.1.f ∈ heldFields → p x = true) :
    ({ s with regs := s.regs.filter p } : State).storeView = s.storeView :=
  State.storeView_iff.2 fun g hg j b => Sparse.get_filter_kept _ fun v => h (⟨g, j, b⟩, v) hg

@[simp] theorem State.ungate_storeView : s.ungate.storeView = s.storeView :=
  State.filter_storeView fun x hx => by
    have hne : x.1.f ≠ .X_MODE_POWER := fun e => absurd (e ▸ hx) (by decide)
    simp [hne]

@[simp] theorem State.logRefusal_storeView {unit reason ap aborted} : (s.logRefusal unit reason ap aborted).storeView = s.storeView := by
  cases aborted <;> simp (disch := decide) [State.logRefusal, apply_ite State.storeView]

@[simp] theorem State.abandonEntry_storeView {ap} : (s.abandonEntry ap).storeView = s.storeView := by
  simp (disch := decide) [State.abandonEntry]

/-- From a powered mode after first ready, Hold-up is counted and its flush begins; PFAIL_N and the log of thermal shut-down stay. -/
theorem State.enterHoldup_counted {trig : Nat} (hpow : s.powered = true) (hmode : s.mode ≠ mHoldup) (hready : s.flag .X_READY = true) :
    (s.enterHoldup trig).flag .X_FLUSH = true ∧ (s.enterHoldup trig).get .HU_CNT_HOLDUP = min (s.get .HU_CNT_HOLDUP + 1) 0x7FFFFFFFFFFFFFFF
      ∧ (s.enterHoldup trig).flag .X_PFAIL = s.flag .X_PFAIL ∧ (s.enterHoldup trig).flag .HK_STS_SHUT_SEEN = s.flag .HK_STS_SHUT_SEEN
      ∧ (s.enterHoldup trig).grants = [] := by
  have hgo : ¬(!s.powered || s.mode = mHoldup) = true := by simp [hpow, hmode]
  have hstart : ¬(!s.flag .X_READY) = true := by simp [hready]
  unfold State.enterHoldup
  rw [if_neg hgo, if_neg hstart]
  extract_lets u1 u2 u3 u4 u5 testing u6 u7 u8
  have h4 : u4.storeView = s.storeView := by
    have h1 : u1.storeView = s.storeView := by simp (disch := decide) [u1, apply_ite State.storeView]
    simp (disch := decide) [u4, u3, u2, apply_ite State.storeView, h1]
  have hkept {f : Field} (hf : f ∈ heldFields) : u4.get f 0 0 = s.get f 0 0 := State.get_of_storeView h4 hf 0 0
  let v := (u8.putFlag .X_FLUSH true).putFlag .X_FLUSH_SHORT false
  have hend : (v.shedHosts.stopMedia.dropAllCommands).storeView = v.storeView := by simp [State.stopMedia_storeView]
  have hv {f : Field} (h : f ∉ [.X_FLUSH, .X_FLUSH_SHORT, .HU_CTL_TEST_NOW, .HU_STS_STATE, .X_HU_NONE]) (i a : Nat) :
      v.get f i a = u5.get f i a := by
    simp only [List.mem_cons, List.not_mem_nil, or_false, not_or] at h
    obtain ⟨h1, h2, h3, h4, h5⟩ := h
    simp [v, u8, u7, u6, State.get_ite, State.get_putFlag_field, h1, h2, h3, h4, h5]
  refine ⟨?_, ?_, ?_, ?_, rfl⟩
  · rw [State.flag, State.get_of_storeView hend (by decide)]
    simp [v, State.putFlag]
  · rw [State.get_of_storeView hend (by decide), hv (by decide)]
    rw [State.get_bump_self rfl, State.get_put_field _ _ _ _ _ _ _ _ (by decide), hkept (by decide)]
  · rw [State.flag, State.get_of_storeView hend (by decide), hv (by decide)]
    simp [u5, hkept (f := .X_PFAIL) (by decide), State.flag]
  · rw [State.flag, State.get_of_storeView hend (by decide), hv (by decide)]
    simp [u5, hkept (f := .HK_STS_SHUT_SEEN) (by decide), State.flag]

end Sys2Proof.Machine

/-! PFAIL_N, the flush, charging and the capacitance test (14_holdup_energy.md, R517 to R524, R535 to R540). -/

namespace Sys2Proof.Machine

variable {s t : State} {f : Field} {i a code : Nat}

/-! ### The store's own operations -/

theorem State.get_updateAllow (hf : f ∈ heldFields) : s.updateAllow.get f i a = s.get f i a :=
  State.get_of_storeView State.updateAllow_storeView hf i a

theorem State.hu_updateAllow : s.updateAllow.hu = s.hu := State.get_updateAllow (by decide)

/-- Of the fields that only the store writes, a failure writes its state and its code. -/
theorem State.huFail_storeView (h : s.hu ≠ huFault) :
    (s.huFail code).storeView = ((s.put .HU_STS_STATE huFault).put .HU_STS_FAULT code).storeView := by
  simp (disch := decide) [State.huFail, h]

theorem State.get_huFail (hf : f ∈ heldFields) (hstate : f ≠ .HU_STS_STATE) (hfault : f ≠ .HU_STS_FAULT) :
    (s.huFail code).get f i a = s.get f i a := by
  by_cases h : s.hu = huFault
  · simp [State.huFail, h]
  · rw [State.get_of_storeView (State.huFail_storeView h) hf, State.get_put_field _ _ _ _ _ _ _ _ hfault,
      State.get_put_field _ _ _ _ _ _ _ _ hstate]

theorem State.huFail_fails (h : s.hu ≠ huFault) : (s.huFail code).hu = huFault ∧ (s.huFail code).get .HU_STS_FAULT = code % 16 := by
  constructor
  · rw [State.hu, State.get_of_storeView (State.huFail_storeView h) (by decide), State.get_put_field _ _ _ _ _ _ _ _ (by decide)]
    exact State.get_put_self _ _ _ _ _
  · rw [State.get_of_storeView (State.huFail_storeView h) (by decide)]
    exact State.get_put_self _ _ _ _ _

theorem State.get_newTarget_ceil : s.newTarget.get .HU_E_CEIL_CEIL = s.get .HU_E_CEIL_CEIL := by
  simp only [State.newTarget, State.get_ite]
  rw [State.get_huFail (by decide) (by decide) (by decide), State.get_putFlag_field (h := by decide), State.get_updateAllow (by decide)]
  simp

/-! ### PFAIL_N, a brown-out and the flush (R507, R508, R535 to R540) -/

theorem exec_pfailN_powered (hpow : s.powered = true) (hmode : s.mode ≠ mHoldup) (hready : s.flag .X_READY = true) :
    ∃ t : State, exec .pfailN s = .next t ∧ t.mode = mHoldup ∧ t.get .X_HU_TRIG = 1 ∧ t.flag .X_PFAIL = true ∧ t.flag .X_FLUSH = true
      ∧ t.get .HU_CNT_HOLDUP = min (s.get .HU_CNT_HOLDUP + 1) 0x7FFFFFFFFFFFFFFF ∧ t.cmds = [] ∧ t.grants = [] := by
  have hpow' : (s.putFlag .X_PFAIL true).powered = true := by simpa [State.powered] using hpow
  have hmode' : (s.putFlag .X_PFAIL true).mode ≠ mHoldup := by simpa using hmode
  have hready' : (s.putFlag .X_PFAIL true).flag .X_READY = true := by simpa [State.flag, State.putFlag] using hready
  obtain ⟨hm, htrig, hcmds⟩ := State.enterHoldup_entered (trig := 1) hpow' hmode' hready'
  obtain ⟨hflush, hcnt, hpfail, -, hgrants⟩ := State.enterHoldup_counted (trig := 1) hpow' hmode' hready'
  refine ⟨_, rfl, hm, htrig, hpfail.trans (State.flag_putFlag_self _ _ _ _ _ rfl), hflush, ?_, hcmds, hgrants⟩
  rw [hcnt, State.get_putFlag_field (h := by decide)]

theorem State.enterHoldup_still {trig : Nat} (h : s.powered = false ∨ s.mode = mHoldup) : s.enterHoldup trig = s := by
  rcases h with h | h <;> simp [State.enterHoldup, h]

theorem exec_pfailN_still (h : s.powered = false ∨ s.mode = mHoldup) : exec .pfailN s = .next (s.putFlag .X_PFAIL true) := by
  have h' : (s.putFlag .X_PFAIL true).powered = false ∨ (s.putFlag .X_PFAIL true).mode = mHoldup := by simpa [State.powered] using h
  rw [exec_pfailN, execPfailN, State.enterHoldup_still h']

theorem exec_flush_still {n x e : Nat} (h : s.mode ≠ mHoldup ∨ s.flag .X_FLUSH = false) :
    exec (.flushEnergyCheck n x e) s = .next s ∧ exec (.flushEnd n) s = .next s := by
  rcases h with h | h <;> simp [execFlushEnergyCheck, execFlushEnd, h]

/-- What a flush notes once its energy check passed or the flush ran short. -/
theorem exec_flushEnd_noted {u v : State} {b : Bool} {n : Nat} (hmode : s.mode = mHoldup) (hflush : s.flag .X_FLUSH = true)
    (hprog : s.programming = false) (hfin : s.finishFlush false = (b, u))
    (hv : v = (((if s.get .X_HU_TRIG = 4 then u.checkpointAll.sealAndWrite else u).put .HU_LAST_OUTCOME
      (if s.noStore then 3 else if b then 2 else 1)).put .HU_LAST_TRIGGER (s.get .X_HU_TRIG)).put .HU_LAST_DURATION (min n 0xFFFFFE)) :
    (s.noStore = true ∨ b = false → exec (.flushEnd n) s = .next (v.afterHoldup (s.get .X_HU_TRIG)))
      ∧ (s.noStore = false → b = true → exec (.flushEnd n) s = .next ((v.putFlag .X_SHORT_OWED true).afterHoldup (s.get .X_HU_TRIG))) := by
  have hgo : ¬(s.mode ≠ mHoldup || !s.flag .X_FLUSH || s.programming) = true := by simp [hmode, hflush, hprog]
  have hexec : exec (.flushEnd n) s
      = .next ((if b && !s.noStore then v.putFlag .X_SHORT_OWED true else v).afterHoldup (s.get .X_HU_TRIG)) := by
    have hout : (if s.noStore then 3 else if b && !s.noStore then 2 else 1 : Nat) = if s.noStore then 3 else if b then 2 else 1 := by
      cases s.noStore <;> simp
    subst hv
    rw [exec_flushEnd, execFlushEnd, if_neg hgo, hfin]
    simp only [hout]
  refine ⟨fun h => ?_, fun hstore hb => ?_⟩
  · rcases h with h | h <;> simp [hexec, h]
  · simp [hexec, hstore, hb]

/-! ### Charging and the test (R517 to R524) -/

theorem exec_prechargeCeiling_at {v : Nat} (hpre : s.hu = huPrecharge) (hok : s.flag .X_HU_PREOK = false) :
    (v < 1200 → ∃ t : State, exec (.prechargeCeiling v) s = .next t ∧ t.hu = huFault ∧ t.get .HU_STS_FAULT = 1)
      ∧ (1200 ≤ v → s.flag .HU_CTL_PRESENT = true → exec (.prechargeCeiling v) s = exec (.chargeTargetReached v) s
        ∧ ∃ t : State, exec (.prechargeCeiling v) s = .next t ∧ t.hu = huPrecharge ∧ t.flag .X_HU_PREOK = true
          ∧ t.flag .X_HU_DUE = true) := by
  refine ⟨fun hv => ?low, fun hv hpresent => ?reached⟩
  case low =>
    have hne : (s.put .HU_MEAS0_V_BANK v).hu ≠ huFault := by
      have hhu : (s.put .HU_MEAS0_V_BANK v).hu = huPrecharge := by simpa [State.hu] using hpre
      simp [hhu, huPrecharge, huFault]
    obtain ⟨hhu, hcode⟩ := State.huFail_fails (code := 1) hne
    exact ⟨_, by simp [execPrechargeCeiling, hpre, hok, hv], hhu, hcode⟩
  case reached =>
    have hexec : exec (.prechargeCeiling v) s
        = .next (((s.put .HU_MEAS0_V_BANK v).putFlag .X_HU_PREOK true).putFlag .X_HU_DUE true) := by
      simp [execPrechargeCeiling, hpre, hok, State.testDue, State.flag_putFlag_field, State.flag_put_field, hpresent, Nat.not_lt.2 hv]
    refine ⟨?_, _, hexec, ?_, ?_, State.flag_putFlag_self _ _ _ _ _ rfl⟩
    · simp [hexec, execChargeTargetReached, hpre, hok, hv, State.testDue, State.flag_putFlag_field, State.flag_put_field, hpresent]
    · simpa [State.hu, State.get_putFlag_field] using hpre
    · simp [State.flag, State.putFlag]

theorem exec_charging {v : Nat} (hchg : s.hu = huCharging) :
    (10 * s.get .HU_MEAS2_V_TARGET ≤ v → ∃ t : State, exec (.chargeTargetReached v) s = .next t ∧ t.hu = huReady
        ∧ t.get .HU_MEAS0_V_BANK = v % 65536)
      ∧ (v < 10 * s.get .HU_MEAS2_V_TARGET → exec (.chargeTargetReached v) s = .next s)
      ∧ ∃ t : State, exec .chargeTimeout s = .next t ∧ t.hu = huFault ∧ t.get .HU_STS_FAULT = 4 := by
  refine ⟨fun hv => ?_, fun hv => ?_, ?_⟩
  · refine ⟨((s.put .HU_MEAS0_V_BANK v).put .HU_STS_STATE huReady).updateAllow, ?_, ?_, ?_⟩
    · simp [execChargeTargetReached, hchg, huCharging, huPrecharge, hv]
    · rw [State.hu_updateAllow]
      exact State.get_put_self _ _ _ _ _
    · rw [State.get_updateAllow (by decide), State.get_put_field _ _ _ _ _ _ _ _ (by decide)]
      exact State.get_put_self _ _ _ _ _
  · simp [execChargeTargetReached, hchg, huCharging, huPrecharge, Nat.not_le.2 hv]
  · obtain ⟨hhu, hcode⟩ := State.huFail_fails (s := s) (code := 4) (by simp [hchg, huCharging, huFault])
    exact ⟨_, by simp [execChargeTimeout, hchg], hhu, hcode⟩

theorem exec_chargerTopUp_low {v : Nat} (hready : s.hu = huReady) (hv : v + 20 ≤ 10 * s.get .HU_MEAS2_V_TARGET) :
    ∃ t : State, exec (.chargerTopUp v) s = .next t ∧ t.hu = (if s.chargeOk 0 then huCharging else huPaused) := by
  refine ⟨((s.put .HU_MEAS0_V_BANK v).put .HU_STS_STATE (if s.chargeOk 0 then huCharging else huPaused)).updateAllow, ?_, ?_⟩
  · simp [execChargerTopUp, hready, hv]
  · rw [State.hu_updateAllow, State.hu, State.get_put_self]
    cases s.chargeOk 0 <;> rfl

theorem exec_bankOvervolt_over {v : Nat} (hdis : s.hu ≠ huDisabled) (hne : s.hu ≠ huFault) (hv : 10 * s.get .HU_CHG_CFG_V_MAX + 100 < v) :
    ∃ t : State, exec (.bankOvervolt v) s = .next t ∧ t.hu = huFault ∧ t.get .HU_STS_FAULT = 5 := by
  obtain ⟨hhu, hcode⟩ := State.huFail_fails (s := s.put .HU_MEAS0_V_BANK v) (code := 5) (by simpa [State.hu] using hne)
  exact ⟨_, by simp [execBankOvervolt, hdis, hv], hhu, hcode⟩

theorem exec_testNow_wanted {c : Nat} (hon : s.unitPower uHousekeeping = 0) (hpresent : s.flag .HU_CTL_PRESENT = true)
    (hag : s.mayWrite (.core c) .ownerMpWd = true) :
    exec (.testNow (.core c)) s = .next ((s.putFlag .HU_CTL_TEST_NOW true).putFlag .X_HU_DUE true)
      ∧ exec .testIntervalDue s = .next (s.putFlag .X_HU_DUE true) := by
  constructor
  · rw [exec_testNow, execTestNow, State.atUnit_on hon, State.requestTest, State.guardWrite_of_mayWrite hag (by decide)]
    simp [State.testDue, State.flag_putFlag_field, hpresent]
  · simp [execTestIntervalDue, State.testDue, hpresent]

theorem exec_capacitanceTestStart_due {u : State} (hdue : s.flag .X_HU_DUE = true) (hpow : s.powered = true) (hmode : s.mode ≠ mHoldup)
    (hat : s.atTarget = true) (hu : u = (s.putFlag .X_HU_TESTV true).updateAllow) :
    (u.get .HU_ALLOW < u.get .HU_DIRTY → exec .capacitanceTestStart s = .next u.planExcess)
      ∧ (u.get .HU_DIRTY ≤ u.get .HU_ALLOW → ∃ t : State, exec .capacitanceTestStart s = .next t ∧ t.hu = huTesting
        ∧ t.get .HU_ALLOW = u.get .HU_ALLOW) := by
  have hexec : exec .capacitanceTestStart s = .next (if u.get .HU_ALLOW < u.get .HU_DIRTY then u.planExcess
      else (u.put .HU_STS_STATE huTesting).putFlag .X_HU_QTR false) := by
    subst hu
    simp [execCapacitanceTestStart, hdue, hpow, hmode, hat, apply_ite Host.Outcome.next]
  refine ⟨fun h => by rw [hexec, if_pos h], fun h => ⟨_, by rw [hexec, if_neg (Nat.not_lt.2 h)], ?_, ?_⟩⟩
  · rw [State.hu, State.get_putFlag_field (h := by decide)]
    exact State.get_put_self _ _ _ _ _
  · simp [State.get_putFlag_field]

/-- The test's end itself leaves the state, the ceiling and the temperatures of the store. -/
theorem State.get_endTest (h : f ∉ [.HU_CNT_TESTS, .X_HU_DUE, .HU_CTL_TEST_NOW, .X_HU_TESTV, .X_HU_RAN, .X_HU_T_TEST]) :
    s.endTest.get f i a = s.get f i a := by
  simp only [List.mem_cons, List.not_mem_nil, or_false, not_or] at h
  obtain ⟨h1, h2, h3, h4, h5, h6⟩ := h
  simp [State.endTest, State.get_putFlag_field, h1, h2, h3, h4, h5, h6]

theorem State.endTest_tests : s.endTest.get .HU_CNT_TESTS = min (s.get .HU_CNT_TESTS + 1) 0x7FFFFFFFFFFFFFFF := by
  rw [← State.get_bump_self (i := 0) rfl]
  simp [State.endTest, State.get_putFlag_field]

/-- What a test measured, before the store charges again. -/
def State.testMeasured (s : State) (c esr t : Nat) : State :=
  ((((s.endTest.put .HU_MEAS1_C_MEAS (min c 0xFFFFF)).put .HU_MEAS1_ESR esr).put .HU_MEAS2_V_TARGET t).putFlag .X_HU_FIRST true).put
    .HU_STS_FAULT 0

theorem State.get_testMeasured {c esr t : Nat} (h : f ∉ [.HU_CNT_TESTS, .X_HU_DUE, .HU_CTL_TEST_NOW, .X_HU_TESTV, .X_HU_RAN, .X_HU_T_TEST])
    (h' : f ∉ [.HU_MEAS1_C_MEAS, .HU_MEAS1_ESR, .HU_MEAS2_V_TARGET, .X_HU_FIRST, .HU_STS_FAULT]) :
    (s.testMeasured c esr t).get f i a = s.get f i a := by
  simp only [List.mem_cons, List.not_mem_nil, or_false, not_or] at h'
  obtain ⟨h1, h2, h3, h4, h5⟩ := h'
  simp [State.testMeasured, State.get_putFlag_field, State.get_endTest h, h1, h2, h3, h4, h5]

theorem State.testMeasured_chargeOk {c esr t : Nat} {m : Int} : (s.testMeasured c esr t).chargeOk m = s.chargeOk m := by
  have hbank : (s.testMeasured c esr t).bankTemp = s.bankTemp := by
    simp (disch := decide) [State.bankTemp, State.diode, State.flag, State.get_testMeasured]
  simp (disch := decide) only [State.chargeOk, hbank, State.get_testMeasured]

section
variable {d m k : Nat} (htest : s.hu = huTesting) (hk : k = s.get .HU_TEST_CFG_I_TEST / (if s.flag .X_HU_QTR then 4 else 1))
include htest

theorem State.hu_endTest_testing : s.endTest.hu ≠ huFault := by
  have hhu : s.endTest.hu = huTesting := (State.get_endTest (by decide)).trans htest
  simp [hhu, huTesting, huFault]

theorem exec_capacitanceTestEnd_short (hd : d < 10000) :
    (s.flag .X_HU_QTR = false → exec (.capacitanceTestEnd d m) s = .next (s.putFlag .X_HU_QTR true))
      ∧ (s.flag .X_HU_QTR = true → ∃ t : State, exec (.capacitanceTestEnd d m) s = .next t ∧ t.hu = huFault ∧ t.get .HU_STS_FAULT = 2) := by
  refine ⟨fun hq => by simp [execCapacitanceTestEnd, htest, hd, hq], fun hq => ?_⟩
  obtain ⟨hhu, hcode⟩ := State.huFail_fails (code := 2) (State.hu_endTest_testing htest)
  exact ⟨_, by simp [execCapacitanceTestEnd, htest, hd, hq], hhu, hcode⟩

theorem exec_capacitanceTestEnd_long (hd : 1000000 < d) : ∃ t : State, exec (.capacitanceTestEnd d m) s = .next t ∧ t.hu = huFault
    ∧ t.get .HU_STS_FAULT = 1 ∧ t.get .HU_CNT_TESTS = min (s.get .HU_CNT_TESTS + 1) 0x7FFFFFFFFFFFFFFF := by
  have hlong : ¬d < 10000 := by omega
  obtain ⟨hhu, hcode⟩ := State.huFail_fails (code := 1) (State.hu_endTest_testing htest)
  refine ⟨s.endTest.huFail 1, by simp [execCapacitanceTestEnd, htest, hd, hlong], hhu, hcode, ?_⟩
  rw [State.get_huFail (by decide) (by decide) (by decide), State.endTest_tests]

include hk

theorem exec_capacitanceTestEnd_measured (h10 : 10000 ≤ d) (h1000 : d ≤ 1000000) (htarget : 120 ≤ s.targetFor (k * d / 2000))
    (hfloor : s.vFloor (min 4094 (m * 1000 / k)) < (s.targetFor (k * d / 2000) - 20) * 100000) :
    ∃ t : State, exec (.capacitanceTestEnd d m) s = .next t ∧ t.get .HU_MEAS1_C_MEAS = min (k * d / 2000) 0xFFFFF
      ∧ t.get .HU_MEAS1_ESR = min 4094 (m * 1000 / k) ∧ t.get .HU_MEAS2_V_TARGET = s.targetFor (k * d / 2000) % 512 ∧ t.get .HU_STS_FAULT = 0
      ∧ t.hu = (if s.chargeOk 0 then huCharging else huPaused) := by
  generalize hc : k * d / 2000 = c at *
  generalize hesr : min 4094 (m * 1000 / k) = esr at *
  generalize ht : s.targetFor c = vt at *
  have hvfloor : s.endTest.vFloor esr = s.vFloor esr := by
    simp (disch := decide) only [State.vFloor, State.get_endTest]
  let w := s.testMeasured c esr vt
  have hfirst : w.flag .X_HU_FIRST = true := by simp [w, State.testMeasured, State.flag, State.putFlag]
  have hcharging : w.toCharging = w.put .HU_STS_STATE (if s.chargeOk 0 then huCharging else huPaused) := by
    rw [State.toCharging, State.testMeasured_chargeOk, hfirst]
    cases s.chargeOk 0 <;> rfl
  obtain ⟨b, hexec⟩ : ∃ b, exec (.capacitanceTestEnd d m) s = .next (w.toCharging.updateAllow.putFlag .X_HU_DISCH b) := by
    refine ⟨decide (10 * vt < w.toCharging.get .HU_MEAS0_V_BANK), ?_⟩
    rw [exec_capacitanceTestEnd, execCapacitanceTestEnd, if_neg (by simp [htest])]
    simp only [← hk, hc, hesr, ht]
    rw [if_neg (by simp; omega), if_neg (by omega), if_neg (by simp; omega), if_neg (by rw [hvfloor]; omega)]
    rfl
  have hget {f : Field} (hf : f ∈ heldFields) (hdisch : f ≠ .X_HU_DISCH) (hs : f ≠ .HU_STS_STATE) :
      (w.toCharging.updateAllow.putFlag .X_HU_DISCH b).get f 0 0 = w.get f 0 0 := by
    rw [State.get_putFlag_field (h := hdisch), State.get_updateAllow hf, hcharging, State.get_put_field _ _ _ _ _ _ _ _ hs]
  refine ⟨_, hexec, ?_, ?_, ?_, ?_, ?_⟩
  · rw [hget (by decide) (by decide) (by decide)]
    simp [w, State.testMeasured, State.get_putFlag_field]
  · rw [hget (by decide) (by decide) (by decide)]
    simp [w, State.testMeasured, State.get_putFlag_field]
    omega
  · rw [hget (by decide) (by decide) (by decide)]
    simp [w, State.testMeasured, State.get_putFlag_field]
  · rw [hget (by decide) (by decide) (by decide)]
    simp [w, State.testMeasured]
  · rw [State.hu, State.get_putFlag_field (h := by decide), State.get_updateAllow (by decide), hcharging, State.get_put_self]
    cases s.chargeOk 0 <;> rfl

end

end Sys2Proof.Machine

/-! The ceiling of the store, MAIN_PG and start-up (14, R517, R521; 18_startup_and_reset.md, R611 to R619), and O56. -/

namespace Sys2Proof.Machine

variable {s t : State}

/-! ### The ceiling, and start-up (R508, R517, R611, R613 to R619) -/

theorem exec_huECeilWrite_unlocked {c v : Nat} (hon : s.unitPower uHousekeeping = 0) (hag : s.mayWrite (.core c) .ownerMpWd = true)
    (hlock : s.lockedFor (.core c) .HU_E_CEIL_CEIL = false) (hv : v < 65536) :
    (1000 ≤ v → v ≤ s.get .HU_E_CEIL_FUSE_MAX → ∃ t : State, exec (.huECeilWrite (.core c) v) s = .next t ∧ t.get .HU_E_CEIL_CEIL = v)
      ∧ (v < 1000 ∨ s.get .HU_E_CEIL_FUSE_MAX < v → exec (.huECeilWrite (.core c) v) s = .next s) := by
  have hexec : exec (.huECeilWrite (.core c) v) s
      = .next (if 1000 ≤ v ∧ v ≤ s.get .HU_E_CEIL_FUSE_MAX then (s.put .HU_E_CEIL_CEIL v).newTarget else s) := by
    rw [exec_huECeilWrite, execHuECeilWrite, State.atUnit_on hon, State.writeCeil, State.guardWrite_of_mayWrite hag (by decide),
      State.unlessLocked_unlocked hlock, Nat.mod_eq_of_lt hv]
    simp
  refine ⟨fun hlow hhigh => ⟨_, by rw [hexec, if_pos ⟨hlow, hhigh⟩], ?_⟩, fun h => by rw [hexec, if_neg (by omega)]⟩
  rw [State.get_newTarget_ceil, State.get_put_self]
  exact Nat.mod_eq_of_lt hv

@[simp] theorem State.setMainEn_en {on : Bool} : (s.setMainEn on).flag .X_MAIN_EN = on := by
  by_cases h : s.flag .X_MAIN_EN = on
  · rw [State.setMainEn, if_pos h, h]
  · rw [State.setMainEn, if_neg h]
    exact State.flag_putFlag_self _ _ _ _ _ rfl

theorem State.get_logPatrol {f : Field} {i a n : Nat} {v : Int} {b : Bool} (h1 : f ≠ .PM_KEEP) (h2 : f ≠ .PM_PATROL_STS_NEXT) :
    (s.logPatrol n v b).get f i a = s.get f i a := by
  simp [State.logPatrol, h1, h2]

section
variable {l : List (Option Int)} {ms : Nat} (hmode : s.mode = mPatrol) (hlock : s.flag .X_THERM_LOCK = false)
include hmode hlock

theorem exec_mainPgQualified_good (hl : badRails l = []) : ∃ t : State, exec (.mainPgQualified l ms) s = .next t ∧ t.mode = mReady
    ∧ t.get .CHP_RST_CAUSE_LEVEL = 2 ∧ t.get .CHP_RST_CAUSE_SOURCE = (if s.get .X_KEEP_CAUSE = 3 then 8 else 1)
    ∧ t.flag .X_MAIN_EN = true ∧ t.flag .X_MAIN_PG = true := by
  have hexec : ∃ t, exec (.mainPgQualified l ms) s = .next t ∧ t = ((((((s.putFlag .X_MAIN_PG true).putFlag .X_THERM_LOCK false).setMainEn
      true).put .PM_MODE_MODE mReady).put .PM_MODE_TARGET mReady).put .CHP_RST_CAUSE_LEVEL 2).put .CHP_RST_CAUSE_SOURCE
        (if s.get .X_KEEP_CAUSE = 3 then 8 else 1) := ⟨_, by simp [execMainPgQualified, hmode, hlock, hl], rfl⟩
  obtain ⟨t, hexec, rfl⟩ := hexec
  refine ⟨_, hexec, ?_, ?_, ?_, ?_, ?_⟩
  · simp [mReady]
  · simp
  · rw [State.get_put_self]
    split_ifs <;> rfl
  · simp [State.flag_put_field]
  · simp [State.flag, State.putFlag]

theorem exec_mainPgQualified_bad (hl : badRails l ≠ []) : ∃ t : State, exec (.mainPgQualified l ms) s = .next t ∧ t.mode = mPatrol
    ∧ t.flag .X_MAIN_EN = false := by
  obtain ⟨x, l', hx⟩ := List.exists_cons_of_ne_nil hl
  refine ⟨(forEach (badRails l) (((s.putFlag .X_MAIN_PG true).putFlag .X_THERM_LOCK false).setMainEn true) fun x t =>
    t.logPatrol x.1 x.2 (decide ((hkWindow x.1).1 < x.2))).setMainEn false, by simp [execMainPgQualified, hmode, hlock, hx], ?_,
    State.setMainEn_en⟩
  rw [State.mode, State.get_setMainEn (by decide)]
  rw [forEach_get fun _ _ => State.get_logPatrol (by decide) (by decide)]
  simpa [State.mode, State.get_putFlag_field] using hmode

end

/-- The ROM's status after a start from a slot. -/
theorem State.bootStatus_shows {failed source slot phase result : Nat} :
    (s.bootStatus failed source slot phase result).flag .X_READY = s.flag .X_READY
      ∧ (s.bootStatus failed source slot phase result).get .CHP_BOOT_STS_PHASE = phase % 16
      ∧ (s.bootStatus failed source slot phase result).get .CHP_BOOT_STS_SLOT = slot % 16
      ∧ (s.bootStatus failed source slot phase result).get .CHP_BOOT_STS_SOURCE = source % 16
      ∧ (s.bootStatus failed source slot phase result).get .CHP_BOOT_STS_RESULT = result % 16 := by
  simp [State.bootStatus, State.flag_put_field]

theorem State.bootRest_ready {b : BootFinds} {slot : Nat} {cold : Bool} : (s.bootRest b slot cold).flag .X_READY = true :=
  State.flag_putFlag_self _ _ _ _ _ rfl

section
variable {b : BootFinds} (hpow : s.powered = true) (hmode : s.mode ≠ mHoldup) (hready : s.flag .X_READY = false)
  (hchip : s.get .X_CHIPRST = 0) (hhalt : s.flag .X_BOOT_HALT = false) (hlevel : s.get .CHP_RST_CAUSE_LEVEL ≠ 0) (hslots : s.fwSlots ≠ [])
include hpow hmode hready hchip hhalt hlevel hslots

theorem exec_startup_slot {k c : Nat} (hrec : b.recoveryN = false) (hslot : b.slotOf s.bootKeep.bootOrder = some (k, c)) :
    ∃ t : State, exec (.startup b) s = .next t ∧ t.flag .X_READY = true ∧ t.get .CHP_BOOT_STS_PHASE = 9 ∧ t.get .CHP_BOOT_STS_SLOT = k % 16
      ∧ t.get .CHP_BOOT_STS_SOURCE = (c + 1) % 16
      ∧ t.get .CHP_BOOT_STS_RESULT = (if s.bootKeep.bootOrder.head? = some k then 0 else 1) := by
  obtain ⟨cold, hexec⟩ : ∃ cold, exec (.startup b) s = .next ((s.bootKeep.bootRest b k cold).bootStatus (2 ^ c - 1) (c + 1) k 9
      (if s.bootKeep.bootOrder.head? = some k then 0 else 1)) :=
    ⟨decide (s.get .CHP_RST_CAUSE_LEVEL = 2), by simp [execStartup, hpow, hmode, hready, hchip, hhalt, hlevel, hslots, hrec, hslot]⟩
  obtain ⟨hrdy, hphase, hk, hsource, hresult⟩ := State.bootStatus_shows (s := s.bootKeep.bootRest b k cold) (failed := 2 ^ c - 1)
    (source := c + 1) (slot := k) (phase := 9) (result := if s.bootKeep.bootOrder.head? = some k then 0 else 1)
  refine ⟨_, hexec, hrdy.trans State.bootRest_ready, hphase, hk, hsource, hresult.trans ?_⟩
  split_ifs <;> rfl

theorem exec_startup_recovery (hrec : b.recoveryN = true) :
    (b.recoveryOk = true → exec (.startup b) s = .next (s.bootKeep.bootStatus 0 4 0 3 2))
      ∧ (b.recoveryOk = false → exec (.startup b) s = .next s.bootKeep.bootHalt) := by
  constructor <;> intro hok <;> simp [execStartup, hpow, hmode, hready, hchip, hhalt, hlevel, hslots, hrec, hok]

end

/-- Settles O56: the store's states and codes are read after the end of the commands and of the media work, which leave them alone
(`State.storeView`). That CHARGE_TIMEOUT acts in CHARGING only and a test waits for the allowance at V_BANK - 2.0 V (log entry 28), that a
recovery boot leaves start-up at PHASE 3 (40) and that MAIN_PG falling outside start-up is only noted (41) are choices of the model. -/
theorem holdUpChargesTestsFlushesAndRestarts : Obligations.HoldUpChargesTestsFlushesAndRestarts := by
  unfold Obligations.HoldUpChargesTestsFlushesAndRestarts
  refine ⟨?entered, ?still, ?levels, ?flushStill, ?energyCheck, ?programming, ?flushEnd, ?precharge, ?prechargeStill, ?charging,
    ?timeoutStill, ?topUp, ?topUpStill, ?overvolt, ?overvoltStill, ?testNow, ?testStill, ?testStart, ?testEndStill, ?testEnd, ?ceil,
    ?mainPg, ?mainPgGood, ?mainPgBad, ?startupStill, ?startup⟩
  case entered =>
    intro s r hpow hmode hready
    obtain ⟨hm, htrig, hcmds⟩ := State.enterHoldup_entered (trig := 2) hpow hmode hready
    obtain ⟨hflush, -⟩ := State.enterHoldup_counted (trig := 2) hpow hmode hready
    exact ⟨exec_pfailN_powered hpow hmode hready, _, rfl, hm, htrig, hflush, hcmds⟩
  case still =>
    intro s r h
    exact ⟨exec_pfailN_still h, by rw [exec_supplyBrownout, execSupplyBrownout, State.enterHoldup_still h]⟩
  case levels => exact fun s => ⟨rfl, rfl⟩
  case flushStill => exact fun s n x e => exec_flush_still
  case energyCheck =>
    intro s n x e hmode hflush hshort hstore hbrown
    simp [execFlushEnergyCheck, hmode, hflush, hshort, hstore, hbrown]
  case programming =>
    intro s n h
    simp [execFlushEnd, h]
  case flushEnd => exact fun s u v b n => exec_flushEnd_noted
  case precharge => exact fun s v => exec_prechargeCeiling_at
  case prechargeStill =>
    intro s v h
    rcases h with h | h <;> simp [execPrechargeCeiling, h]
  case charging => exact fun s v => exec_charging
  case timeoutStill =>
    intro s h
    simp [execChargeTimeout, h]
  case topUp => exact fun s v => exec_chargerTopUp_low
  case topUpStill =>
    intro s v h
    rcases h with h | h <;> simp [execChargerTopUp, h]
  case overvolt => exact fun s v => exec_bankOvervolt_over
  case overvoltStill =>
    intro s v h
    rcases h with h | h <;> simp [execBankOvervolt, h]
  case testNow => exact fun s c => exec_testNow_wanted
  case testStill =>
    intro s h
    rcases h with h | h | h | h <;> simp [execCapacitanceTestStart, h]
  case testStart => exact fun s u => exec_capacitanceTestStart_due
  case testEndStill =>
    intro s d m h
    simp [execCapacitanceTestEnd, h]
  case testEnd =>
    intro s d m i htest hi
    exact ⟨fun hd => (exec_capacitanceTestEnd_short htest hd).1, fun hd => (exec_capacitanceTestEnd_short htest hd).2,
      exec_capacitanceTestEnd_long htest, exec_capacitanceTestEnd_measured htest hi⟩
  case ceil => exact fun s c v => exec_huECeilWrite_unlocked
  case mainPg =>
    intro s l ms h
    simp [execMainPgQualified, h]
  case mainPgGood => exact fun s l ms => exec_mainPgQualified_good
  case mainPgBad => exact fun s l ms => exec_mainPgQualified_bad
  case startupStill =>
    intro s b h
    rcases h with h | h | h | h | h <;> simp [execStartup, h]
  case startup =>
    intro s b hpow hmode hready hchip hhalt hlevel hslots
    exact ⟨fun k c => exec_startup_slot hpow hmode hready hchip hhalt hlevel hslots,
      fun hrec => (exec_startup_recovery hpow hmode hready hchip hhalt hlevel hslots hrec).1,
      fun hrec => (exec_startup_recovery hpow hmode hready hchip hhalt hlevel hslots hrec).2⟩

end Sys2Proof.Machine

/-! A housekeeping round (15_housekeeping_and_calendar.md, R543 to R553): what each of its parts leaves of the rounds and of the channels. -/

namespace Sys2Proof.Machine

variable {s t u : State}

/-! ### One channel (R545, R546) -/

/-- A remote-diode input that is not fitted. -/
def State.unfitted (s : State) (n : Nat) : Bool := 16 ≤ n && decide (n < 24) && !s.flag .HK_RD_CFG_EN (n - 16)

/-- What a round stores of a channel, its window and its fault apart. -/
def State.channelPut (s : State) (n : Nat) (v : Option Int) : State :=
  if s.unfitted n then (s.ageChannel n).putFlag .HK_VAL_VALID false n
  else match v with
    | some v => ((s.put .HK_VAL_VALUE (toField 16 v) n).putFlag .HK_VAL_VALID true n).put .HK_VAL_AGE 0 n
    | none => s.ageChannel n

theorem State.sampleChannel_storeView {n : Nat} {v : Int} : (s.sampleChannel n v).storeView
    = (((s.put .HK_VAL_VALUE (toField 16 v) n).putFlag .HK_VAL_VALID true n).put .HK_VAL_AGE 0 n).storeView := by
  simp (disch := decide) [State.sampleChannel, apply_ite State.storeView]

theorem State.roundChannel_storeView {n : Nat} {v : Option Int} : (s.roundChannel n v).storeView = (s.channelPut n v).storeView := by
  unfold State.roundChannel State.channelPut State.unfitted
  split_ifs
  · rfl
  · cases v with
    | none => simp (disch := decide) [State.failChannel]
    | some v => exact State.sampleChannel_storeView

/-- What a round shows of its channels, and its counter. -/
def roundFields : List Field := [.HK_ROUND, .HK_VAL_VALUE, .HK_VAL_VALID, .HK_VAL_AGE, .HK_RD_CFG_EN]

theorem mem_heldFields_of_round {f : Field} (hf : f ∈ roundFields) : f ∈ heldFields := (by decide : ∀ f ∈ roundFields, f ∈ heldFields) f hf

theorem State.get_roundChannel {f : Field} {i a n : Nat} {v : Option Int} (hf : f ∈ heldFields)
    (h : f ∉ [.HK_VAL_VALUE, .HK_VAL_VALID, .HK_VAL_AGE] ∨ i ≠ n) : (s.roundChannel n v).get f i a = s.get f i a := by
  have hput (x : State) {g : Field} (hg : g ∈ [Field.HK_VAL_VALUE, .HK_VAL_VALID, .HK_VAL_AGE]) (w : Nat) :
      (x.put g w n).get f i a = x.get f i a :=
    State.get_put_ne _ _ _ _ _ _ _ _ fun e => h.elim (fun hne => hne (e.1 ▸ hg)) fun hne => hne e.2.1
  rw [State.get_of_storeView State.roundChannel_storeView hf]
  unfold State.channelPut
  split
  · rw [State.putFlag, hput _ (by decide), State.ageChannel, hput _ (by decide)]
  split
  · rw [hput _ (by decide), State.putFlag, hput _ (by decide), hput _ (by decide)]
  · rw [State.ageChannel, hput _ (by decide)]

/-- A channel that is converted, if it is fitted, shows the value, VALID and AGE 0. -/
def State.converted (s : State) (n : Nat) (v : Int) : Prop :=
  s.unfitted n = false → s.get .HK_VAL_VALUE n = toField 16 v % 65536 ∧ s.flag .HK_VAL_VALID n = true ∧ s.get .HK_VAL_AGE n = 0

theorem State.unfitted_congr {n : Nat} (h : ∀ i, t.get .HK_RD_CFG_EN i = s.get .HK_RD_CFG_EN i) : t.unfitted n = s.unfitted n := by
  simp only [State.unfitted, State.flag, h]

theorem State.unfitted_roundChannel {n m : Nat} {v : Option Int} : (s.roundChannel m v).unfitted n = s.unfitted n :=
  State.unfitted_congr fun _ => State.get_roundChannel (by decide) (.inl (by decide))

theorem State.converted_congr {n : Nat} {v : Int} (h : ∀ f ∈ roundFields, ∀ i, t.get f i = s.get f i) (hs : s.converted n v) :
    t.converted n v := by
  intro hfit
  rw [State.unfitted_congr (h _ (by decide))] at hfit
  simpa only [State.flag, h _ (by decide : Field.HK_VAL_VALUE ∈ roundFields), h _ (by decide : Field.HK_VAL_VALID ∈ roundFields),
    h _ (by decide : Field.HK_VAL_AGE ∈ roundFields)] using hs hfit

theorem State.roundChannel_converted {n : Nat} {v : Int} : (s.roundChannel n (some v)).converted n v := by
  intro hfit
  rw [State.unfitted_roundChannel] at hfit
  have hview : (s.roundChannel n (some v)).storeView
      = (((s.put .HK_VAL_VALUE (toField 16 v) n).putFlag .HK_VAL_VALID true n).put .HK_VAL_AGE 0 n).storeView := by
    rw [State.roundChannel_storeView, State.channelPut, hfit]
    rfl
  rw [State.flag, State.get_of_storeView hview (by decide), State.get_of_storeView hview (by decide), State.get_of_storeView hview (by decide)]
  simp [State.putFlag]

/-! ### The channels of a part of the round (R544) -/

/-- Channels are converted in order. -/
def State.convert (s : State) (samples : List (Option Int)) (l : List Nat) : State :=
  forEach l s fun n s => s.roundChannel n (samples.getD n none)

theorem State.get_convert {samples : List (Option Int)} {l : List Nat} {f : Field} {i a : Nat} (hf : f ∈ heldFields)
    (h : f ∉ [.HK_VAL_VALUE, .HK_VAL_VALID, .HK_VAL_AGE]) : (s.convert samples l).get f i a = s.get f i a :=
  forEach_get fun _ _ => State.get_roundChannel hf (.inl h)

theorem State.roundChannel_keeps {samples : List (Option Int)} {n m : Nat} {v : Int} (hv : samples.getD n none = some v)
    (h : s.converted n v) : (s.roundChannel m (samples.getD m none)).converted n v := by
  by_cases hm : n = m
  · subst hm
    rw [hv]
    exact State.roundChannel_converted
  · intro hfit
    rw [State.unfitted_roundChannel] at hfit
    rw [State.flag, State.get_roundChannel (by decide) (.inr hm), State.get_roundChannel (by decide) (.inr hm),
      State.get_roundChannel (by decide) (.inr hm)]
    exact h hfit

theorem State.convert_converted {samples : List (Option Int)} {l : List Nat} {n : Nat} {v : Int} (hn : n ∈ l)
    (hv : samples.getD n none = some v) : (s.convert samples l).converted n v :=
  forEach_of_mem (p := fun t => t.converted n v) (fun t => by rw [hv]; exact State.roundChannel_converted)
    (fun _ _ => State.roundChannel_keeps hv) hn

theorem State.convert_keeps {samples : List (Option Int)} {l : List Nat} {n : Nat} {v : Int} (hv : samples.getD n none = some v)
    (h : s.converted n v) : (s.convert samples l).converted n v := by
  induction l generalizing s with
  | nil => exact h
  | cons m l ih => exact ih (State.roundChannel_keeps hv h)

/-! ### The rules of a round (R516, R520, R547, R551 to R553, R351) -/

@[simp] theorem State.junctionRules_storeView : s.junctionRules.storeView = s.storeView := by
  unfold State.junctionRules
  extract_lets few j deg hyst u1 u2 u3 hot u4 u5 t step t' u6
  have h2 : u2.storeView = s.storeView := by simp (disch := decide) [u2, u1, apply_ite State.storeView]
  have h3 : u3.storeView = s.storeView := by simp (disch := decide) [u3, apply_ite State.storeView, h2]
  have h5 : u5.storeView = s.storeView := by simp (disch := decide) [u5, u4, apply_ite State.storeView, h3]
  simp (disch := decide) [u6, apply_ite State.storeView, h5]

@[simp] theorem State.avsWrite_storeView {mv : Nat} {ack : Bool} : (s.avsWrite mv ack).storeView = s.storeView := by
  simp (disch := decide) [State.avsWrite, apply_ite State.storeView]

@[simp] theorem State.avsTarget_storeView {ack : Bool} : (s.avsTarget ack).storeView = s.storeView := by
  unfold State.avsTarget
  split
  · rfl
  · simp (disch := decide) [apply_ite State.storeView]

@[simp] theorem State.avsStep_storeView {ack : Bool} : (s.avsStep ack).storeView = s.storeView := by
  simp (disch := decide) [State.avsStep, apply_ite State.storeView]

@[simp] theorem State.updateWindow_storeView : s.updateWindow.storeView = s.storeView := by
  refine forEach_storeView fun ch x => ?_
  simp (disch := decide) [apply_ite State.storeView]

@[simp] theorem State.smartEvents_storeView : s.smartEvents.storeView = s.storeView := by
  refine forEach_storeView fun f x => ?_
  simp (disch := decide) [apply_ite State.storeView]

@[simp] theorem State.roundSamples_storeView : s.roundSamples.storeView = s.storeView := by
  unfold State.roundSamples
  extract_lets x e dirty allow share y z v w
  have hx : x.storeView = s.storeView := forEach_storeView fun n y => by simp [apply_ite State.storeView]
  have hy : y.storeView = s.storeView := (State.sample_storeView.trans State.sampleBoth_storeView).trans hx
  have hz : z.storeView = s.storeView := State.sampleExt_storeView.trans hy
  have hw : w.storeView = s.storeView := (State.sampleBoth_storeView.trans State.sampleBoth_storeView).trans hz
  exact State.sampleExt_storeView.trans hw

/-- Of the round's fields, the store's own step writes none. -/
theorem State.get_roundStore {f : Field} {i a : Nat} (hf : f ∈ roundFields) : s.roundStore.get f i a = s.get f i a := by
  have hheld := mem_heldFields_of_round hf
  have hne {g : Field} (hg : g ∉ roundFields) : f ≠ g := fun e => hg (e ▸ hf)
  have hbank : f ≠ .HU_MEAS0_V_BANK := hne (by decide)
  have htemp : f ≠ .HU_MEAS0_T_BANK := hne (by decide)
  have hstate : f ≠ .HU_STS_STATE := hne (by decide)
  have hdue : f ≠ .X_HU_DUE := hne (by decide)
  have hdisch : f ≠ .X_HU_DISCH := hne (by decide)
  unfold State.roundStore
  split
  · rfl
  extract_lets x
  have hx : x.get f i a = s.get f i a := by simp [x, State.get_ite, hbank]
  split
  · rw [State.get_huFail hheld hstate (hne (by decide)), hx]
  · simp [State.get_ite, State.get_putFlag_field, State.toCharging, State.testDue, hx, htemp, hstate, hdue, hdisch]

end Sys2Proof.Machine

/-! The round as a whole, thresholds and windows, thermal shut-down, and the calendar (15_housekeeping_and_calendar.md, R544 to R562; 12,
R474; 13, R508). -/

namespace Sys2Proof.Machine

variable {s t : State}

/-! ### The round (R544) -/

/-- A round up to its last conversion, in its three parts. -/
def State.roundConverted (s : State) (l : List (Option Int)) (ack : Bool) : State :=
  (((s.convert l (List.range 16)).junctionRules.convert l ((List.range 28).map (16 + ·))).avsStep ack).convert l [44, 45, 46, 47]

/-- A round up to its count. -/
def State.roundCounted (s : State) (l : List (Option Int)) (ack : Bool) : State :=
  (((s.roundConverted l ack).updateWindow.roundStore.updateAllow.planExcess).smartEvents.roundSamples).bump .HK_ROUND

/-- What follows the conversions leaves the channels alone. -/
theorem State.get_roundTail {f : Field} {i a : Nat} (hf : f ∈ roundFields) :
    (s.updateWindow.roundStore.updateAllow.planExcess.smartEvents.roundSamples).get f i a = s.get f i a := by
  have hheld := mem_heldFields_of_round hf
  have hafter : (s.updateWindow.roundStore.updateAllow.planExcess.smartEvents.roundSamples).storeView = s.updateWindow.roundStore.storeView := by
    simp
  rw [State.get_of_storeView hafter hheld, State.get_roundStore hf, State.get_of_storeView State.updateWindow_storeView hheld]

theorem State.get_roundConverted {l : List (Option Int)} {ack : Bool} {f : Field} {i a : Nat} (hf : f ∈ heldFields)
    (h : f ∉ [.HK_VAL_VALUE, .HK_VAL_VALID, .HK_VAL_AGE]) : (s.roundConverted l ack).get f i a = s.get f i a := by
  rw [State.roundConverted, State.get_convert hf h, State.get_of_storeView State.avsStep_storeView hf, State.get_convert hf h,
    State.get_of_storeView State.junctionRules_storeView hf, State.get_convert hf h]

theorem State.converted_of_storeView {n : Nat} {v : Int} (h : t.storeView = s.storeView) (hs : s.converted n v) : t.converted n v :=
  State.converted_congr (fun _ hf i => State.get_of_storeView h (mem_heldFields_of_round hf) i 0) hs

theorem State.roundConverted_converted {l : List (Option Int)} {ack : Bool} {n : Nat} {v : Int} (hn : n < 48) (hv : l.getD n none = some v) :
    (s.roundConverted l ack).converted n v := by
  unfold State.roundConverted
  rcases (by omega : n < 16 ∨ 16 ≤ n ∧ n < 44 ∨ 44 ≤ n) with hlow | ⟨hmid, hmid'⟩ | hhigh
  · have hfirst := State.convert_converted (s := s) (List.mem_range.2 hlow) hv
    have hsecond := State.convert_keeps (l := (List.range 28).map (16 + ·)) hv
      (State.converted_of_storeView State.junctionRules_storeView hfirst)
    exact State.convert_keeps hv (State.converted_of_storeView State.avsStep_storeView hsecond)
  · have hmem : n ∈ (List.range 28).map (16 + ·) := List.mem_map.2 ⟨n - 16, List.mem_range.2 (by omega), by omega⟩
    exact State.convert_keeps hv (State.converted_of_storeView State.avsStep_storeView (State.convert_converted hmem hv))
  · have hmem : n ∈ [44, 45, 46, 47] := by simp; omega
    exact State.convert_converted hmem hv

theorem exec_housekeepingRound_powered {l : List (Option Int)} {ack : Bool} (h : s.powered = true) : exec (.housekeepingRound l ack) s
    = .next (if ((16 * (s.roundCounted l ack).get .HK_TJ_THR_SHUT : Nat) : Int) ≤ (s.roundCounted l ack).junction.1
      then (s.roundCounted l ack).thermalShut (s.roundCounted l ack).junction.2 else s.roundCounted l ack) := by
  rw [exec_housekeepingRound, execHousekeepingRound, if_neg (by simp [h])]
  rfl

theorem State.roundCounted_round {l : List (Option Int)} {ack : Bool} :
    (s.roundCounted l ack).get .HK_ROUND = min (s.get .HK_ROUND + 1) 0x7FFFFFFFFFFFFFFF := by
  rw [State.roundCounted, State.get_bump_self rfl, State.get_roundTail (by decide), State.get_roundConverted (by decide) (by decide)]

theorem State.roundCounted_converted {l : List (Option Int)} {ack : Bool} {n : Nat} {v : Int} (hn : n < 48)
    (hfit : 16 ≤ n → n < 24 → s.flag .HK_RD_CFG_EN (n - 16) = true) (hv : l.getD n none = some v) :
    (s.roundCounted l ack).get .HK_VAL_VALUE n = toField 16 v % 65536 ∧ (s.roundCounted l ack).flag .HK_VAL_VALID n = true
      ∧ (s.roundCounted l ack).get .HK_VAL_AGE n = 0 := by
  have hfitted : s.unfitted n = false := by
    by_contra hno
    simp only [State.unfitted, Bool.not_eq_false, Bool.and_eq_true, decide_eq_true_eq, Bool.not_eq_true'] at hno
    obtain ⟨⟨h16, h24⟩, hen⟩ := hno
    simp [hfit h16 h24] at hen
  have hconv : (s.roundConverted l ack).unfitted n = s.unfitted n :=
    State.unfitted_congr fun _ => State.get_roundConverted (by decide) (by decide)
  have hget {f : Field} (hf : f ∈ roundFields) (hne : f ≠ .HK_ROUND) :
      (s.roundCounted l ack).get f n = (s.roundConverted l ack).get f n :=
    (State.get_bump_field hne).trans (State.get_roundTail hf)
  rw [State.flag, hget (by decide) (by decide), hget (by decide) (by decide), hget (by decide) (by decide)]
  exact State.roundConverted_converted hn hv (hconv.trans hfitted)

/-! ### Thermal shut-down (R508, R548) -/

theorem exec_thermalShutDown_powered {n : Nat} (hpow : s.powered = true) (hmode : s.mode ≠ mHoldup) (hready : s.flag .X_READY = true) :
    ∃ t : State, exec (.thermalShutDown n) s = .next t ∧ t.mode = mHoldup ∧ t.get .X_HU_TRIG = 3 ∧ t.flag .HK_STS_SHUT_SEEN = true
      ∧ t.cmds = [] := by
  let u := (s.putFlag .HK_STS_SHUT_SEEN true).raise 121 uHousekeeping (n % 16)
  have hm : u.mode = s.mode := (State.mode_of_modeView State.raise_modeView).trans (State.mode_putFlag_field (by decide))
  have hget {f : Field} (hf : f ∉ faultFields) : u.flag f = (s.putFlag .HK_STS_SHUT_SEEN true).flag f := by
    rw [State.flag, State.flag, State.get_of_calm State.raise_calm hf]
  have hrdy : u.flag .X_READY = true := by rw [hget (by decide), State.flag_putFlag_field (h := by decide), hready]
  have hseen : u.flag .HK_STS_SHUT_SEEN = true := by rw [hget (by decide)]; exact State.flag_putFlag_self _ _ _ _ _ rfl
  have hup : u.powered = true := by rw [State.powered, hm]; exact hpow
  obtain ⟨hmode', htrig, hcmds⟩ := State.enterHoldup_entered (trig := 3) hup (by rwa [hm]) hrdy
  obtain ⟨-, -, -, hshut, -⟩ := State.enterHoldup_counted (trig := 3) hup (by rwa [hm]) hrdy
  refine ⟨u.enterHoldup 3, ?_, hmode', htrig, hshut.trans hseen, hcmds⟩
  rw [exec_thermalShutDown, execThermalShutDown, if_pos hpow]
  rfl

/-! ### Thresholds and the write window (R549, R550, R562) -/

section
variable {c v : Nat} (hon : s.unitPower uHousekeeping = 0) (hag : s.mayWrite (.core c) .ownerMpWd = true)
  (hl : s.locks = [])
include hon hag

theorem exec_hkTjThrWrite_inRange (hhyst : 1 ≤ bits v 27 24) (hlow : 130 ≤ bits v 23 16) (hhigh : bits v 23 16 ≤ 150)
    (htlow : 100 ≤ bits v 15 8) (hthigh : bits v 15 8 ≤ 149) (hwlow : 85 ≤ bits v 7 0) (hwt : bits v 7 0 < bits v 15 8)
    (hts : bits v 15 8 < bits v 23 16) : exec (.hkTjThrWrite (.core c) v) s = .next (s.writeRw (.core c) .HK_TJ_THR v) := by
  have hwhigh : bits v 7 0 ≤ 148 := by omega
  rw [exec_hkTjThrWrite, execHkTjThrWrite, State.atUnit_on hon, State.writeTjThr, State.guardWrite_of_mayWrite hag (by decide)]
  simp [hhyst, hlow, hhigh, htlow, hthigh, hwlow, hwhigh, hwt, hts]

theorem exec_hkWwinWrite_inRange (hlo : ofField 8 (s.get .HK_WWIN_FUSE_LO) ≤ ofField 8 (bits v 7 0))
    (hhi : ofField 8 (bits v 15 8) ≤ ofField 8 (s.get .HK_WWIN_FUSE_HI)) (hwide : ofField 8 (bits v 7 0) + 10 ≤ ofField 8 (bits v 15 8)) :
    exec (.hkWwinWrite (.core c) v) s = .next (s.writeRw (.core c) .HK_WWIN v).updateAllow := by
  rw [exec_hkWwinWrite, execHkWwinWrite, State.atUnit_on hon, State.writeWwin, State.guardWrite_of_mayWrite hag (by decide)]
  simp [hlo, hhi, hwide]

include hl

theorem exec_hkTjThrWrite_outOfRange (h : bits v 15 8 ≤ bits v 7 0 ∨ bits v 23 16 ≤ bits v 15 8 ∨ bits v 23 16 < 130 ∨ 150 < bits v 23 16
    ∨ bits v 27 24 = 0) : exec (.hkTjThrWrite (.core c) v) s = .next s := by
  rw [exec_hkTjThrWrite, execHkTjThrWrite, State.atUnit_on hon, State.writeTjThr, State.guardWrite_of_mayWrite hag (by decide),
    State.unlessLocked_nil hl, if_neg (by simp; omega)]

theorem exec_hkWwinWrite_narrow (h : ofField 8 (bits v 15 8) < ofField 8 (bits v 7 0) + 10) : exec (.hkWwinWrite (.core c) v) s = .next s := by
  have hwide : ¬ofField 8 (bits v 7 0) + 10 ≤ ofField 8 (bits v 15 8) := not_le.2 h
  rw [exec_hkWwinWrite, execHkWwinWrite, State.atUnit_on hon, State.writeWwin, State.guardWrite_of_mayWrite hag (by decide),
    State.unlessLocked_nil hl, if_neg (by simp [hwide])]

end

/-! ### The calendar (R474, R554 to R561) -/

theorem exec_calTrimStep_valid (hvalid : s.flag .CAL_STS_VALID = true) (hmode : s.mode ≠ mOff) :
    exec .calTrimStep s = .next (s.put .CAL_TIME
      ((s.get .CAL_TIME : Int) + 2 * (((if s.powered then 0 else 1048576 : Nat) : Int) + s.trim)).toNat) := by
  simp [execCalTrimStep, hmode, State.calAdvance, hvalid, State.calRaw]

theorem State.mode_ne_off_of_powered (h : s.powered = true) : s.mode ≠ mOff := fun e => by simp [State.powered, e, mOff] at h

theorem exec_calOscStop_stopped (hmode : s.mode ≠ mOff) : ∃ t : State, exec .calOscStop s = .next t ∧ t.flag .CAL_STS_VALID = false
    ∧ t.flag .CAL_STS_OSC_STOP = true ∧ (s.powered = true → t.flag .SEC_STS_TIME_TRUSTED = false) := by
  let u := (s.putFlag .CAL_STS_VALID false).putFlag .CAL_STS_OSC_STOP true
  have hvalid : u.flag .CAL_STS_VALID = false := by simp [u, State.flag, State.putFlag]
  have hosc : u.flag .CAL_STS_OSC_STOP = true := State.flag_putFlag_self _ _ _ _ _ rfl
  have htrust : u.checkTrust.flag .SEC_STS_TIME_TRUSTED = false := by
    rw [State.checkTrust, if_pos (by simp [hvalid])]
    exact State.flag_putFlag_self _ _ _ _ _ rfl
  have hexec : exec .calOscStop s = .next (if u.powered then u.checkTrust.raise 125 uHousekeeping 0 else u) := by
    rw [exec_calOscStop, execCalOscStop, if_neg hmode]
  have hpow : u.powered = s.powered := by simp [u, State.powered]
  by_cases hup : s.powered = true
  · have hflag {f : Field} (hf : f ∉ faultFields) : (u.checkTrust.raise 125 uHousekeeping 0).flag f = u.checkTrust.flag f := by
      rw [State.flag, State.flag, State.get_of_calm State.raise_calm hf]
    refine ⟨_, by rw [hexec, hpow, if_pos hup], ?_, ?_, fun _ => ?_⟩
    · rw [hflag (by decide), State.flag, State.get_checkTrust (by decide)]
      exact hvalid
    · rw [hflag (by decide), State.flag, State.get_checkTrust (by decide)]
      exact hosc
    · rw [hflag (by decide), htrust]
  · exact ⟨u, by rw [hexec, hpow, if_neg hup], hvalid, hosc, fun h => absurd h hup⟩

section
variable {c : Nat} (hon : s.unitPower uHousekeeping = 0) (hag : s.mayWrite (.core c) .ownerMpWd = true)
include hon hag

theorem exec_calSet_on : exec (.calSet (.core c)) s
    = .next (if (Agent.core c).isWd || !s.flag .SEC_STS_TIME_TRUSTED then s.loadCalendar (s.get .CAL_SET) (Agent.core c).isWd
      else s.putFlag .CAL_STS_SET_REFUSED true) := by
  rw [exec_calSet, execCalSet, State.atUnit_on hon, State.setCalendar, State.guardWrite_of_mayWrite hag (by decide)]

theorem exec_calAlarmArm_on {k : Nat} (hk : k < 2) : ∃ t : State, exec (.calAlarmArm (.core c) k) s = .next t
    ∧ t.flag (almEn k) = decide (s.calSec < s.almSec k) ∧ t.out = s.out ∧ t.cmds = s.cmds := by
  have hwidth : (almEn k).info.width = 1 := by rw [almEn]; split_ifs <;> rfl
  have htime : .CAL_TIME ≠ almEn k ∧ .CAL_ALARM ≠ almEn k := by rw [almEn]; split_ifs <;> decide
  have hsec : (s.putFlag (almEn k) true).calSec = s.calSec := by
    rw [State.calSec, State.calRaw, State.get_putFlag_field (h := htime.1)]
    rfl
  have halm : (s.putFlag (almEn k) true).almSec k = s.almSec k := by
    rw [State.almSec, State.get_putFlag_field (h := htime.2)]
    rfl
  have hen : (s.putFlag (almEn k) true).flag (almEn k) = true := State.flag_putFlag_self _ _ _ _ _ hwidth
  refine ⟨(s.putFlag (almEn k) true).disarm k, ?_, ?_⟩
  · rw [exec_calAlarmArm, execCalAlarmArm, if_neg (by omega), State.atUnit_on hon, State.guardWrite_of_mayWrite hag (by decide)]
  rw [State.disarm, hen, hsec, halm]
  by_cases hpast : s.almSec k ≤ s.calSec
  · rw [if_pos (by simp [hpast]), decide_eq_false (by omega)]
    exact ⟨State.flag_putFlag_self _ _ _ _ _ hwidth, rfl, rfl⟩
  · rw [if_neg (by simp [hpast]), decide_eq_true (by omega)]
    exact ⟨hen, rfl, rfl⟩

end

theorem exec_calAlarm_due {k : Nat} (hk : k < 2) (hvalid : s.flag .CAL_STS_VALID = true) (hen : s.flag (almEn k) = true)
    (hsec : s.almSec k ≤ s.calSec) (hmode : s.mode ≠ mOff) : exec (.calAlarm k) s
      = .next (if s.powered then ((s.putFlag (almSts k) true).putFlag (almEn k) false).raise 124 uHousekeeping k
        else if s.mode = mPatrol && s.flag (almWake k) then ((s.putFlag (almSts k) true).putFlag (almEn k) false).setMainEn true
        else (s.putFlag (almSts k) true).putFlag (almEn k) false) := by
  have hne : .PM_MODE_MODE ≠ almSts k ∧ .PM_MODE_MODE ≠ almEn k := by
    rw [almSts, almEn]
    split_ifs <;> decide
  have hwake : almWake k ≠ almSts k ∧ almWake k ≠ almEn k := by
    rw [almSts, almEn, almWake]
    split_ifs <;> decide
  have hm : ((s.putFlag (almSts k) true).putFlag (almEn k) false).mode = s.mode := by
    rw [State.mode_putFlag_field hne.2.symm, State.mode_putFlag_field hne.1.symm]
  have hw : ((s.putFlag (almSts k) true).putFlag (almEn k) false).flag (almWake k) = s.flag (almWake k) := by
    rw [State.flag_putFlag_field (h := hwake.2), State.flag_putFlag_field (h := hwake.1)]
  have hpow : ((s.putFlag (almSts k) true).putFlag (almEn k) false).powered = s.powered := by rw [State.powered, State.powered, hm]
  have hgo : ¬(2 ≤ k ∨ s.mode = mOff ∨ (!s.flag .CAL_STS_VALID) = true ∨ (!s.flag (almEn k)) = true ∨ s.calSec < s.almSec k) := by
    simp [hvalid, hen, hmode]
    omega
  rw [exec_calAlarm, execCalAlarm, if_neg hgo]
  rw [apply_ite Host.Outcome.next, apply_ite Host.Outcome.next]
  dsimp only
  rw [hpow, hm, hw]

theorem exec_calBcd0Read_on {ag : Agent} (hon : s.unitPower uHousekeeping = 0) : ∃ t : State, exec (.calBcd0Read ag) s = .next t
    ∧ t.out = s.out ++ [.readData ag 0x38020 4 s.bcd0] ∧ t.get .CAL_BCD1_YEAR = s.bcd1 / 65536 % 65536
    ∧ t.get .CAL_BCD1_MONTH = s.bcd1 / 256 % 32 ∧ t.get .CAL_BCD1_DAY = s.bcd1 % 64 := by
  refine ⟨s.latchBcd.emit (.readData ag 0x38020 4 s.bcd0), ?_, rfl, ?_⟩
  · rw [exec_calBcd0Read, execCalBcd0Read, State.readAt_on hon]
  · change s.latchBcd.get _ = _ ∧ s.latchBcd.get _ = _ ∧ s.latchBcd.get _ = _
    simp [State.latchBcd]

/-- Settles O57: a round is followed through its parts, which leave the converted channels alone (`State.roundConverted_converted`), thermal
shut-down through the entry of Hold-up, and the calendar by its own laws. That fewer than 12 junction sensors make Tj the throttle threshold
and that CAL_TRIM_STEP carries the 2^20 cycles only while no tick runs are choices of the model (log entry 29). -/
theorem roundsThresholdsAndTheCalendar : Obligations.RoundsThresholdsAndTheCalendar := by
  unfold Obligations.RoundsThresholdsAndTheCalendar
  refine ⟨?unpowered, ?round, ?shutUnpowered, fun s n => exec_thermalShutDown_powered, ?writes, ?off, ?invalid, ?trimPowered, ?trimUnpowered,
    fun s => exec_calOscStop_stopped, ?set, ?alarmStays, ?alarm, fun s c k hon hag => exec_calAlarmArm_on hon hag,
    fun s ag => exec_calBcd0Read_on⟩
  case unpowered =>
    intro s l a h
    simp [execHousekeepingRound, h]
  case round =>
    intro s l a h
    exact ⟨s.roundCounted l a, State.roundCounted_round, fun n v => State.roundCounted_converted, exec_housekeepingRound_powered h⟩
  case shutUnpowered =>
    intro s n h
    simp [execThermalShutDown, h]
  case writes =>
    intro s c v hon hl hag
    exact ⟨exec_hkTjThrWrite_inRange hon hag, exec_hkTjThrWrite_outOfRange hon hag hl, exec_hkWwinWrite_inRange hon hag,
      exec_hkWwinWrite_narrow hon hag hl⟩
  case off =>
    intro s h
    simp [execCalTrimStep, execCalOscStop, h]
  case invalid =>
    intro s h
    simp [execCalTrimStep, State.calAdvance, h]
  case trimPowered =>
    intro s hvalid hpow
    simpa [hpow] using exec_calTrimStep_valid hvalid (State.mode_ne_off_of_powered hpow)
  case trimUnpowered =>
    intro s hvalid hpow hmode
    simpa [hpow] using exec_calTrimStep_valid hvalid hmode
  case set =>
    intro s c hon hag
    refine ⟨fun h => ?_, fun hwd htrust => by rw [exec_calSet_on hon hag, if_neg (by simp [hwd, htrust])]⟩
    exact ⟨_, by rw [exec_calSet_on hon hag, if_pos (by simpa using h)], State.loadCalendar_shows⟩
  case alarmStays =>
    intro s k h
    exact if_pos (by simpa using h)
  case alarm =>
    intro s k hk hvalid hen hsec
    refine ⟨fun hpow => ?_, fun hmode hwake => ?_, fun hmode => ?_⟩
    · rw [exec_calAlarm_due hk hvalid hen hsec (State.mode_ne_off_of_powered hpow), if_pos hpow]
    · have hpow : s.powered = false := by simp [State.powered, hmode, mPatrol]
      rw [exec_calAlarm_due hk hvalid hen hsec (by simp [hmode, mPatrol, mOff])]
      simp [hpow, hmode, hwake]
    · have hpow : s.powered = false := by simp [State.powered, hmode, mKeep]
      rw [exec_calAlarm_due hk hvalid hen hsec (by simp [hmode, mKeep, mOff])]
      simp [hpow, hmode, mKeep, mPatrol]

end Sys2Proof.Machine
